-- ==== Sys2Proof/Word.lean ====
section
/-! DEFINITION. The word types of the module: bytes, 16-bit halfwords of the Transom port, 32-bit words of tiles and registers, 64-bit counts. -/

namespace Sys2Proof

/-- A byte of a packet, a tile or a store (R8 conventions: little-endian order for multi-byte fields). -/
abbrev Byte := BitVec 8

/-- A halfword of the Transom port. -/
abbrev Half := BitVec 16

/-- A 32-bit word of a tile or of a register. -/
abbrev Word := BitVec 32

end Sys2Proof
end

