-- ==== Sys2Proof/Machine/Parts/Frames.lean ====
section
/-! DEFINITION. The data that events bring into the module: the operands of the commands of the table that carry more than numbers. -/

namespace Sys2Proof.Machine

/-- A snapshot frame as received (R43 to R45): the 24-bit sample words and the status bytes; `crcOk` is the result of its CRC-32C check.
`pairs` holds the pair channels of the wires in pair mode, µV (R106). -/
structure Snapshot where
  crcOk : Bool
  seq : Nat
  count : Nat
  cells : List Nat
  pri : Nat
  sec : Nat
  strV : Nat
  t2b : List Nat
  therm : List Nat
  iso : Nat
  status : List Nat
  pairs : List (Nat × Int)
  deriving DecidableEq, Repr

/-- The readings of one open-wire test (R103 to R105, R565), µV; `dI` is the change of string current between the two apertures, mA. -/
structure OwtReading where
  testNow : Int
  otherNow : Option Int
  otherRng : Bool
  pair : Option Int
  dI : Int
  /-- Sum of the other cells of the segment, top-to-bottom reading. -/
  othersSum : Int
  t2b : Int
  /-- Sum of all fitted cells with the pair channel standing for the pair, divider reading. -/
  stringSum : Int
  divider : Int
  /-- Top-to-bottom sum of SGn-1 and SGn, and the same sum in the preceding aperture (R565). -/
  boundarySum : Int
  boundaryPrev : Int
  deriving DecidableEq, Repr

/-- An uplink frame of a GDU as received (R210): STAT, the current in 0.1 A, MUXID and MUX value. -/
structure Uplink where
  crcOk : Bool
  stat : Nat
  i : Int
  muxId : Nat
  mux : Nat
  deriving DecidableEq, Repr

/-- What a GDU reports of itself in IDENT (R211): 0.1 A, 0.1 V, 0.1 µH, ns. -/
structure GduIdent where
  vendor : Nat
  model : Nat
  serial : Nat
  iRated : Nat
  vMax : Nat
  lNom : Nat
  uLat : Nat
  firmware : Nat
  deriving DecidableEq, Repr

end Sys2Proof.Machine
end

