-- ==== Sys2Proof/Machine/Parts/Ixras.lean ====
section
/-! DEFINITION. Ixras sessions, caches and replies (R325 to R351). -/

namespace Sys2Proof.Machine

/-- The statuses of R17. -/
inductive Status where
  | ok | busy | denied | badOpcode | badParam | badState | notOwner | tileCheck | aborted | fault | timeout | segmented
  deriving DecidableEq, Repr

/-- Where a host command comes from: a session and the SEQ of its request (R327), or a policy engine and the index of its service-ring entry (R438). -/
inductive Src where
  | session (ix seq : Nat)
  | engine (p idx : Nat)
  deriving DecidableEq, Repr

/-- A request held in the cache of a session, with its reply once it completes (R335). -/
structure CacheEntry where
  seq : Nat
  opcode : Nat
  params : List Byte
  /-- Time-base count of acceptance (R336). -/
  accepted : Nat
  /-- The MTU at acceptance (R337). -/
  mtu : Nat
  /-- The request has not completed. -/
  running : Bool
  /-- Its command has begun to act. -/
  started : Bool
  status : Nat
  data : List Byte
  deriving DecidableEq, Repr

/-- A session (R331, R332, R350). -/
structure Session where
  isOpen : Bool
  stag : Nat
  ip : Nat
  port : Nat
  mtu : Nat
  /-- Seconds. -/
  timeout : Nat
  /-- Time-base count of the latest request that passed check 5. -/
  lastHeard : Nat
  lastSeq : Nat
  /-- Accepted requests, newest first, at most 8. -/
  cache : List CacheEntry
  deriving DecidableEq, Repr

/-- A reply handed to the network: the datagrams of it follow from R337. -/
structure Reply where
  ip : Nat
  port : Nat
  session : Nat
  stag : Nat
  seq : Nat
  opcode : Nat
  status : Nat
  pend : Bool
  mtu : Nat
  data : List Byte
  /-- Segments to send; a resend names some of them (R339). -/
  mask : Nat
  deriving DecidableEq, Repr

/-- The command service (R325 to R351). -/
structure IxPart where
  sessions : List Session
  owner : Option Nat
  dropped : Nat
  resent : Nat
  /-- Replies handed to the network, newest last. -/
  tx : List Reply
  /-- Datagrams held during an activation pause (R342): source address, port and payload. -/
  held : List (Nat × Nat × List Byte)
  deriving DecidableEq, Repr

/-- A closed session. -/
def Session.closed : Session :=
  { isOpen := false, stag := 0, ip := 0, port := 0, mtu := 1500, timeout := 10, lastHeard := 0, lastSeq := 0, cache := [] }

end Sys2Proof.Machine
end

