-- ==== Sys2Proof/Machine/Parts/Net.lean ====
section
/-! DEFINITION. Plant networks and time: Ethernet ports and PRP, PTP, the CAN FD controllers and the partner table (R375 to R407). -/

namespace Sys2Proof.Machine

/-- An SFP cage and its LAN (R375, R378, R402). -/
structure Cage where
  present : Bool
  /-- SFPF: fault or unsupported module. -/
  fault : Bool
  /-- The module cannot be used: the cage carries no traffic. -/
  unusable : Bool
  link : Bool
  up : Bool
  /-- Count of the latest frame with a valid RCT. -/
  lastRct : Option Nat
  deriving DecidableEq, Repr

/-- The IPv4 configuration (R376, R379, R401). -/
structure IpSet where
  addr : Nat
  mask : Nat
  gw : Nat
  vlan : Nat
  pcp : Nat
  mode : Nat
  deriving DecidableEq, Repr

/-- A duplicate-discard entry: source address, sequence number, the LANs heard, the count of its first frame (R377). -/
structure DupEntry where
  mac : Nat
  seq : Nat
  onA : Bool
  onB : Bool
  count : Nat
  deriving DecidableEq, Repr

/-- The PTP configuration (R383 to R386, R401). -/
structure PtpSet where
  en : Bool
  profile : Nat
  role : Nat
  domain : Nat
  prio1 : Nat
  prio2 : Nat
  slaveOnly : Bool
  logSync : Int
  lockThr : Nat
  stepThr : Nat
  deriving DecidableEq, Repr

/-- The data set of an announce message: grandmaster, the fields the best master clock algorithm compares, the sender (R383). -/
structure Announce where
  gm : Nat
  prio1 : Nat
  clockClass : Nat
  accuracy : Nat
  variance : Nat
  prio2 : Nat
  steps : Nat
  sender : Nat
  utc : Int
  deriving DecidableEq, Repr

/-- Port states of R385, R403. -/
inductive PtpState where
  | disabled | listening | uncalibrated | slave | master | passive | faulty
  deriving DecidableEq, Repr

/-- A PTP port: its state, the best announce held with the count of its arrival, the sync in hand and the path delay (R384, R385). Times are PTP times in ns. -/
structure PtpPort where
  st : PtpState
  ann : Option Announce
  annAt : Nat
  syncAt : Nat
  /-- A two-step sync that waits for its follow-up: its sender, sequence, receive time. -/
  sync : Option (Nat × Nat × Int)
  /-- The latest sync: origin with corrections, receive time. -/
  t1 : Int
  t2 : Int
  syncSeen : Bool
  /-- The delay request sent: its sequence and, once known, its transmit time (t3). -/
  reqSeq : Nat
  reqOut : Option Nat
  reqTx : Option Int
  /-- A two-step peer-delay response that waits: receive time of the response and the request's receive time at the peer. -/
  pResp : Option (Int × Int)
  mpd : Int
  offset : Option Int
  /-- Sequence numbers of the messages it sends. -/
  seqAnn : Nat
  seqSync : Nat
  /-- A Sync sent whose timestamp is awaited for its follow-up. -/
  syncOut : Option Nat
  deriving DecidableEq, Repr

/-- A transmit-timestamp entry (R389). -/
structure TxStamp where
  id : Nat
  port : Nat
  ovfb : Bool
  sec : Nat
  ns : Nat
  deriving DecidableEq, Repr

/-- A transmit-timestamp queue of 8 entries, oldest first (R389). -/
structure TsQueue where
  entries : List TxStamp
  ovf : Bool
  lost : Nat
  /-- A timestamp has been lost since the latest entry was written. -/
  gap : Bool
  deriving DecidableEq, Repr

/-- The module's PTP clock and servo (R381 to R388, R403). -/
structure PtpPart where
  set : PtpSet
  /-- PTP time less the count times 10 ns, in ns; the time is valid (R381, R382). -/
  offset : Int
  valid : Bool
  ports : List PtpPort
  /-- Cage of the slave port, if a port is selected. -/
  slave : Option Nat
  locked : Bool
  hold : Bool
  holdAt : Nat
  gm : Bool
  inRun : Nat
  outRun : Nat
  stepRun : Nat
  /-- The next measurement is the first in UNCALIBRATED. -/
  first : Bool
  lastOffset : Option Int
  /-- FADJ in 0.001 ppm, and the count of its latest change. -/
  fadj : Int
  fadjAt : Nat
  gmId : Nat
  gmClass : Nat
  utc : Int
  steps : Nat
  lastStep : Int
  queues : List TsQueue
  deriving DecidableEq, Repr

/-- What N0 hands to a SERDES or to a CAN transceiver's bus besides Ixras replies (R376, R377, R379, R383). -/
inductive NetOut where
  | arpReply (cage ip : Nat)
  | echoReply (cage ip : Nat)
  | supervision (lan seq : Nat)
  | ptp (cage kind seq : Nat)
  /-- A datagram of a frame port: engine, address, port, payload, and the ID of a timestamp request (R439). -/
  | udp (engine ip port : Nat) (data : List Byte) (stamp : Option Nat)
  deriving DecidableEq, Repr

/-- A CAN frame: IDW, CTLW and 64 data bytes (R392). -/
structure CanFrame where
  idw : Nat
  ctlw : Nat
  data : List Byte
  deriving DecidableEq, Repr

/-- A receive entry: the frame and the count at its start (R392). -/
structure CanEntry where
  frame : CanFrame
  ts : Nat
  deriving DecidableEq, Repr

/-- A transmit buffer: 0 empty, 1 pending, 2 sent, 3 aborted; an abort that waits for the end of the attempt (R391, R393). -/
structure CanBuf where
  frame : CanFrame
  st : Nat
  abortReq : Bool
  deriving DecidableEq, Repr

/-- The configuration of a controller (R401). -/
structure CanSet where
  en : Bool
  fd : Bool
  txpri : Bool
  term : Bool
  mon : Bool
  wakeEn : Bool
  nbt : Nat
  dbt : Nat
  node : Nat
  hbPeriod : Nat
  base : Nat
  rqOwn : Nat
  rqLen : Nat
  noMatch : Bool
  deriving DecidableEq, Repr

/-- A CAN controller (R390 to R400, R404). -/
structure CanCtl where
  set : CanSet
  on : Bool
  /-- 0 error-active, 1 error-passive, 2 bus-off. -/
  est : Nat
  tec : Nat
  rec_ : Nat
  lec : Nat
  tbs : List CanBuf
  /-- The buffer whose attempt is on the bus. -/
  txNow : Option Nat
  /-- Filter elements and FLTLEN. -/
  filters : List (Nat × Nat)
  fltLen : Nat
  /-- Partner frames that N0 has not taken (R391). -/
  rq0 : List CanFrame
  /-- RQ1: the entries stored, by index (R395). -/
  rq1 : List (Nat × CanEntry)
  rqPut : Nat
  rqGet : Nat
  rqFull : Bool
  /-- Lost since enable, and since BOOT. -/
  rxLost : Nat
  rxLostAll : Nat
  ackRun : Nat
  alone : Bool
  hbOnly : Bool
  txOk : Nat
  rxOk : Nat
  busOffs : Nat
  alones : Nat
  busOffAt : Option Nat
  hbSeq : Nat
  hbAt : Nat
  annAt : Nat
  /-- An announce falls due at this count (R399). -/
  annDue : Option Nat
  /-- A disabling waits for the end of the frame in progress; its requester (R393, R401). -/
  disabling : Option Src
  deriving DecidableEq, Repr

/-- A partner entry (R399, R405): STATE 0 empty, 1 heard, 2 present, 3 lost. -/
structure Partner where
  st : Nat
  node : Nat
  kind : Nat
  model : Nat
  serial : Nat
  seenA : Bool
  seenB : Bool
  hbPer : Nat
  hbAt : Nat
  lostAt : Nat
  deriving DecidableEq, Repr

/-- The networks. -/
structure NetPart where
  ip : IpSet
  /-- An accepted address change and the count at which it takes effect. -/
  ipNext : Option (IpSet × Nat)
  cages : List Cage
  allLost : Bool
  dups : List DupEntry
  nodes : List (Nat × Nat)
  dupDisc : Nat
  uniqA : Nat
  uniqB : Nat
  wrongLan : Nat
  rxDrop : Nat
  supSeq : Nat
  /-- Counts of the latest echo replies, newest first, at most 64 (R379). -/
  echoes : List Nat
  out : List NetOut
  ptp : PtpPart
  cans : List CanCtl
  partners : List Partner
  deriving DecidableEq, Repr

/-! ### Operands of the network events -/

/-- What an Ethernet frame carries, for N0. -/
inductive EthKind where
  /-- An ARP request for an address, from another. -/
  | arp (target sender : Nat)
  | echo (dst src : Nat)
  /-- UDP to port 17423: addresses, port, payload, and whether it is an IPv4 fragment. -/
  | ixras (dst src port : Nat) (fragment : Bool)
  | ptp
  | igmp
  /-- A PRP supervision frame. -/
  | supervision
  | other
  deriving DecidableEq, Repr

/-- A received Ethernet frame: source address, VLAN identifier if tagged, RCT as sequence number and the LAN it names, length in bytes. -/
structure EthFrame where
  mac : Nat
  vlan : Option Nat
  rct : Option (Nat × Nat)
  len : Nat
  kind : EthKind
  deriving DecidableEq, Repr

/-- A PTP message (R383). `sender` is its source port identity; times and corrections are in ns. -/
inductive PtpMsg where
  | announce (a : Announce)
  | sync (sender seq : Nat) (twoStep : Bool) (origin corr : Int)
  | followUp (sender seq : Nat) (origin corr : Int)
  | delayReq (sender seq : Nat)
  | delayResp (seq : Nat) (recv corr : Int)
  | pdelayReq (sender seq : Nat)
  | pdelayResp (seq : Nat) (twoStep : Bool) (recv corr : Int)
  | pdelayRespFollowUp (seq : Nat) (origin corr : Int)
  | other
  deriving DecidableEq, Repr

/-- How a transmit attempt ended (R393, R396, R397): sent, without acknowledgement, or with another error of code LEC, acknowledged before it or not. -/
inductive CanResult where
  | ok | noAck | err (lec : Fin 7) (acked : Bool)
  deriving DecidableEq, Repr

end Sys2Proof.Machine
end

