-- ==== Sys2Proof/Machine/Parts/Operands.lean ====
section
/-! DEFINITION. Small operand types of the events. -/

namespace Sys2Proof.Machine

/-- The engines of the Control die, in the bit order of R364. -/
inductive Engine where
  | lead | reserve | sa | sb | f0 | f1 | f2 | f3 | c0 | c1 | s0 | s1 | n0 | p0 | p1
  deriving DecidableEq, Repr

/-- The parts of the fail-operational inventory (R60) and those of R459, with the index of each where the row names several. -/
inductive Part where
  | leashLane (n : Fin 2)
  | rung (n : Fin 17)
  | segmentDie (n : Fin 16)
  | primaryCurrent
  | secondaryCurrent
  | divider
  | engine (e : Engine)
  | feed (n : Fin 2)
  | flashSlot (n : Fin 2)
  | sfp (n : Fin 2)
  | can (n : Fin 2)
  | sds
  | feedDiode (n : Fin 2)
  | holdupStore
  | coreRegulator (n : Fin 2)
  | latRegulator (n : Fin 2)
  | hingeRegister (n : Nat)
  | kennel
  | takeoverMonitor
  deriving DecidableEq, Repr

/-- What a debug access names (R474): the port itself, an engine, an open-for-reading store with an address in it, or a part that is never reached. -/
inductive DbgPart where
  | tap
  | engine (e : Engine)
  | image (addr : Nat)
  | flash (addr : Nat)
  | keepStore (addr : Nat)
  | kennel (addr : Nat)
  | registers (addr : Nat)
  | never
  deriving DecidableEq, Repr

/-- A debug operation (R473): IDCODE, halt, resume, step, core registers and memory; a register number 32 is the program counter. -/
inductive DbgOp where
  | idcode
  | halt
  | resume
  | step
  | readReg (n : Nat)
  | writeReg (n v : Nat)
  | readMem (addr : Nat)
  | writeMem (addr v : Nat)
  deriving DecidableEq, Repr

/-- How the write of a Floor record in the Latch NVM went (R312): in full, failed at step 1 or 3, or cut by a loss of power before step 2 or between steps 2 and 4. -/
inductive FloorOutcome where
  | written | failed | cutBefore | cutAfter
  deriving DecidableEq, Repr

end Sys2Proof.Machine
end

