-- ==== Sys2Proof/Syntax.lean ====
section
/-! DEFINITION. The commands and events of the module: one constructor for each row of spec/opcode_table.json, with the operands the event brings.
Host commands carry their requester, a session request or a policy-engine ring entry. -/

namespace Sys2Proof

/-- The steps of the table (R-numbers are those of the rows). -/
inductive Instr where
  /-- POWER_START (R19). A supply rises above its start threshold and the module leaves Off for BOOT; the boot ROM starts on Lead and selects the slot to boot. -/
  | powerStart
  /-- LEAD_RELEASE (R469). The boot ROM finishes checking and copying the Lead image and releases Lead at its entry. -/
  | leadRelease
  /-- ENGINE_LOAD_DONE (R469). Lead finishes checking and loading every other engine image of the slot and loads Reserve. -/
  | engineLoadDone
  /-- APERTURE (R38). At a scheduled time-base count, every sample-and-hold of every segment and of the hub holds. -/
  | aperture (count : Nat)
  /-- SHUTTER_CLOSE (R79). 2 µs before an aperture, the switches under Closed timing and the segment bridges are commanded open. -/
  | shutterClose (count : Nat)
  /-- SHUTTER_OPEN (R79). At 1 µs after an aperture, the switches may close and every pending change of shuttle or bleed current is applied. -/
  | shutterOpen (count : Nat)
  /-- CONVERSION_COMPLETE (R63). 4.0 µs after the aperture, a segment's conversions end and the segment sends its segment frame on the ring. -/
  | conversionComplete (seg : Fin 16)
  /-- SEGMENT_FRAME (R28). A segment frame arrives at a rung end and is forwarded towards the hub or stored there. -/
  | segmentFrame (seg : Fin 16) (rung : Nat)
  /-- SNAPSHOT_FRAME_START (R57). At its fixed offset after the aperture, the hub starts sending the snapshot frame upstream. -/
  | snapshotFrameStart
  /-- SNAPSHOT_FRAME (R58). A snapshot frame is received and checked; its values go to the windows, mirrors and filters, or it is recorded as missing. -/
  | snapshotFrame (frame : Machine.Snapshot)
  /-- SYNC_SET_DOWNSTREAM (R36). Every 10 µs the Control Half sends a downstream sync set on every lane in service. -/
  | syncSetDownstream
  /-- SYNC_SET_UPSTREAM (R37). Every 10 µs the hub sends an upstream sync set, answering every 100,000th downstream set as an echo. -/
  | syncSetUpstream
  /-- SYNC_SET_RECEIVED (R37). A sync set arrives; the hub aligns its count to it, or the Control Half takes the lane as alive and evaluates the delay echo. -/
  | syncSetReceived (atHub : Bool) (lane : Fin 2) (echo : Bool) (count : Nat) (roundTrip : Nat)
  /-- TRIP_REPEAT (R39). A trip is sent again every 1 µs on every lane in service for as long as its cause is present. -/
  | tripRepeat (down : Bool)
  /-- LEASH_TRIP (R40). Two consecutive TRIP characters and a source byte arrive, and the receiver asserts the Latch input or relays the trip to the segments. -/
  | leashTrip (down : Bool) (source : Nat)
  /-- LANE_VIOLATION_LIMIT (R48). An end counts 16 code violations on a lane within 10 µs and declares the lane down. -/
  | laneViolationLimit (lane : Fin 2)
  /-- LANE_SYNC_TIMEOUT (R48). No valid sync set has arrived on a lane for 30 µs and the lane is declared down. -/
  | laneSyncTimeout (lane : Fin 2)
  /-- LDOWN_SET (R48). An LDOWN set arrives; the other end goes single-lane at its next frame start and cancels any striped frame with ABORT. -/
  | ldownSet (lane : Fin 2) (crcOk : Bool)
  /-- FRAME_ABORT (R34). An ABORT character arrives and the receiver discards the frame in progress. -/
  | frameAbort
  /-- LANE_TRAINED (R49). A lane has trained cleanly for 10 ms and returns to service at a frame start; the bring-up of R113 is repeated. -/
  | laneTrained (lane : Fin 2)
  /-- LANE_HOLD_EXPIRY (R49). The 10 min hold-down of a flapping lane ends and training is tried again. -/
  | laneHoldExpiry (lane : Fin 2)
  /-- LEASH_FRAME_TIMEOUT (R47). A downstream frame has no reply within 50 µs; it is sent again, and a fourth failure raises LEASH_CMD_FAIL. -/
  | leashFrameTimeout (tag : Nat)
  /-- HUB_COMMAND_FRAME (R46). The hub receives a downstream command frame, executes a new tag once and replies to every copy. -/
  | hubCommandFrame (tag : Nat)
  /-- REPLY_FRAME (R46). The Control Half receives an upstream reply frame that answers a command of the same tag. -/
  | replyFrame (tag : Nat)
  /-- EVENT_FRAME (R46). The Control Half receives an upstream hub or segment event frame. -/
  | eventFrame (payload : List Byte)
  /-- SCHEDULE_FRAME (R38). The hub and the segments receive an aperture and shutter schedule frame and apply it from its start count. -/
  | scheduleFrame (rate : Nat) (start : Nat) (modes : List (Nat × Bool × Nat)) (owt : Option Nat)
  /-- TARGETS_FRAME (R133). Balancing targets reach the segments and are staged by cell index for the next +1 µs events. -/
  | targetsFrame
  /-- RING_DELAY_MEASURE (R30). Every 1 s the hub measures by echo the one-way delay to each segment in both ring directions. -/
  | ringDelayMeasure (down : List Nat) (up : List Nat)
  /-- RUNG_DOWN (R109). A rung end counts 16 violations in 10 µs or loses character lock for 5 µs, and frames beyond the break go the other way. -/
  | rungDown (rung : Fin 17) (lostFrame : Option (Fin 16))
  /-- RUNG_UP (R109). A rung has exchanged clean characters for 10 ms, returns, and its delay measurement reruns. -/
  | rungUp (rung : Fin 17)
  /-- SEGMENT_ISOLATED (R110). A segment cut off from both neighbours for 50 ms stops balancing and samples at 1 Hz on its own oscillator. -/
  | segmentIsolated (seg : Fin 16)
  /-- LEASH_SILENT (R111). The Stack Half has had no valid sync set or frame for 50 ms and enters Sleep or Brodda operation. -/
  | leashSilent
  /-- BRODDA_TIMEOUT (R111). In Brodda compatibility mode, the Brodda timeout expires from silence and balancing stops. -/
  | broddaTimeout
  /-- LEASH_LOST (R112). Both lanes are down and no snapshot has been stored for 1 ms, which stops the converter. -/
  | leashLost
  /-- LEASH_LOSS_SSI (R112). No lane has returned 50 ms after LEASH_LOST, so the Latch executes SSI. -/
  | leashLossSsi
  /-- PART_FAULT (R60). A part of the fail-operational inventory fails and its backup takes over without a command. -/
  | partFault (part : Machine.Part)
  /-- ENGINE_RESTART_DONE (R60). Lead completes the restart from flash of N0, a policy engine or another restarted engine. -/
  | engineRestartDone (engine : Machine.Engine)
  /-- RATE_CHANGE_EFFECT (R64). A new snapshot rate takes effect at its start count and the averaging windows restart. -/
  | rateChangeEffect
  /-- REF_CHECK_DUE (R70). A reference check falls due, 60 s after the last or on a die temperature move of more than 5 K. -/
  | refCheckDue
  /-- REF_CHECK_DONE (R70). A reference check completes within 8 apertures; the corrections are taken, or REF_DISAGREE or REF_FAIL is raised. -/
  | refCheckDone (seg : Fin 16) (dev : Int) (worst : Nat) (corr : List (Int × Int))
  /-- SENSE_CHANNEL_FAULT (R92). A cell channel has carried CHF for 100 ms. -/
  | senseChannelFault (cell : Fin 512)
  /-- CURRENT_BOTH_LOST (R92). Both current channels have carried CHF or RNG for 10 ms, which stops the converter. -/
  | currentBothLost
  /-- WIRE_LEARN (R83). 16 snapshots after a current step of 0.5 A or more, wire resistances are learned and checked against the stepping cell. -/
  | wireLearn (cell : Fin 512)
  /-- COMPARATOR_CROSSING (R95). A cell voltage crosses an OV or UV threshold and the comparator output asserts. -/
  | comparatorCrossing (cell : Fin 512) (ov : Bool) (pair : Bool)
  /-- COMPARATOR_DEGLITCHED (R95). After the deglitch time the output is confirmed and the segment sends a rung trip in both ring directions. -/
  | comparatorDeglitched (cell : Fin 512) (ov : Bool) (pair : Bool)
  /-- RUNG_TRIP (R42). A rung trip arrives at a segment or the hub, and is forwarded or sent as a leash trip. -/
  | rungTrip (seg : Fin 16) (atHub : Bool) (lost : Bool)
  /-- EXTERNAL_BARK (R100). An assertion of the bark line that this module does not drive outlasts the receiver deglitch. -/
  | externalBark (earlier : Bool)
  /-- OWT_CYCLE_START (R102). Every 100 ms an open-wire test cycle starts at the aperture count that Lead sent. -/
  | owtCycleStart
  /-- OWT_SLOT_BEGIN (R103). 14 µs before a test aperture, every shuttle, bleed switch and bridge of the segment opens and OWTP is set. -/
  | owtSlotBegin (seg : Fin 16) (wire : Nat)
  /-- OWT_TEST_CURRENT_ON (R103). The 100 µA test current is switched on, the comparators are blanked and the pair comparator is engaged. -/
  | owtTestCurrentOn (seg : Fin 16)
  /-- OWT_TEST_CURRENT_OFF (R103). 1 µs after the test aperture, the test current goes off. -/
  | owtTestCurrentOff (seg : Fin 16)
  /-- OWT_CLASSIFY (R104). Conversions complete and the die classifies the wire; the checks of R105 or R565 are evaluated. -/
  | owtClassify (seg : Fin 16) (rd : Machine.OwtReading)
  /-- OWT_RESTORE_ON (R103). For an open pattern, the restore drive turns on 5 µs after the test aperture. -/
  | owtRestoreOn (seg : Fin 16)
  /-- OWT_RESTORE_OFF (R103). The restore drive turns off 20 µs after the test aperture. -/
  | owtRestoreOff (seg : Fin 16)
  /-- OWT_BLANK_END (R103). Blanking ends, and comparator outputs still held under R565 are passed on. -/
  | owtBlankEnd (seg : Fin 16)
  /-- PLACEMENT_DECISION (R132). Every 100 ms the placement engine forms surpluses, roles and currents and queues the targets frames. -/
  | placementDecision
  /-- DIE_TEMPERATURE_CHANGE (R134). A segment die's temperature crosses a derating level; the element currents are scaled or stopped and the flags change. -/
  | dieTemperatureChange (seg : Fin 16) (temp : Int)
  /-- SHUTTLE_FAULT (R135). A shuttle's average current departs from its command for 8 periods, and the shuttle goes out of service. -/
  | shuttleFault (seg : Fin 16) (shuttle : Fin 4)
  /-- BRIDGE_FAULT (R135). A bridge fails its current check for 8 periods and goes out of service. -/
  | bridgeFault (bridge : Fin 15)
  /-- BLEED_STUCK (R135). A bleed switch commanded off has carried more than 20 mA for 100 ms. -/
  | bleedStuck (cell : Fin 512) (drain : Int)
  /-- BAL_MANUAL_EXPIRY (R138). A manual target's time ends and BAL_MANUAL_END is written. -/
  | balManualExpiry (seg : Fin 16)
  /-- BAL_DISABLE_DONE (R137). Every segment reports its placement elements open, EN reads 0 and BAL_ENABLE 0 completes. -/
  | balDisableDone
  /-- FILTER_STEP (R152). Every 10 ms every filter steps on its block of snapshots, and the reported SOC and the string figures are written. -/
  | filterStep
  /-- REST_OBSERVATION (R163). A cell's rest reaches 30 s; the rest observation is taken, and the cell may anchor and update its capacity. -/
  | restObservation (cell : Fin 512)
  /-- FULL_CHARGE_EVENT (R165). 60 s of low charge current at or above V_FULL gives a capacity reference point. -/
  | fullChargeEvent (cell : Fin 512)
  /-- FILTER_VALID_LOST (R156). After 100 consecutive predicted-only or skipped steps, the cell clears VALID. -/
  | filterValidLost (cell : Fin 512)
  /-- FLT_INNOV (R179). A cell's update has been rejected in 100 consecutive steps. -/
  | fltInnov (cell : Fin 512)
  /-- TEMP_SOURCE_TIMEOUT (R154). A filter has had no temperature source for 60 s and clears VALID. -/
  | tempSourceTimeout (cell : Fin 512)
  /-- SAVE_INTERVAL (R173). 15 min of operating time have passed since the last save, and a learned-value save starts. -/
  | saveInterval
  /-- CHARGE_END_DETECTED (R173). After a charge, the string current stays below CAP_MIN / 100 h for 30 s, and a save starts. -/
  | chargeEndDetected
  /-- SAVE_DONE (R534). A learned-value save completes, or fails its read-back and leaves the previous copy. -/
  | saveDone (ok : Bool)
  /-- WAKE_CURRENT (R170). In HIBERNATE, 100 consecutive wake-monitor samples show a current above 2 A, and the module wakes to PARK. -/
  | wakeCurrent
  /-- IMP_JOB_BEGIN (R181). A queued impedance job begins its first band at the first aperture 100 µs after it is due. -/
  | impJobBegin
  /-- EXCITATION_CHIP (R180). At a chip boundary the sequence register advances and the excitation term changes. -/
  | excitationChip
  /-- IMPEDANCE_PERIOD_END (R186). A sequence period ends; it is judged valid or discarded, and its bins are computed. -/
  | impedancePeriodEnd
  /-- IMPEDANCE_BAND_END (R189). A band reaches NPER valid periods or its period limit, and the next band begins. -/
  | impedanceBandEnd
  /-- BAND_RESULTS_WRITTEN (R189). A band's map entries, temperatures, offsets and health words are written, and the job completes after the last band. -/
  | bandResultsWritten
  /-- IDENT_HANDOVER (R199). A band's identification points are handed to C0 and C1. -/
  | identHandover
  /-- RETUNE_LATCH (R223). Accepted coefficients are latched at a phase's first period start at least 1 ms after the check. -/
  | retuneLatch (phase : Fin 8)
  /-- IMP_PERIODIC_DUE (R190). A periodic impedance job falls due; it is queued or skipped with IMP_SKIP. -/
  | impPeriodicDue
  /-- IMP_DISABLE_DONE (R191). After IMP_ENABLE 0, the band is cut short, the jobs complete ABORTED and STATE reads 4. -/
  | impDisableDone
  /-- ROLLCALL (R212). Every 100 ms the serving engine sends ROLLCALL on a configured phase; missed answers are counted. -/
  | rollcall (phase : Fin 8)
  /-- DOWNLINK_FRAME (R209). Every 1 µs a downlink frame is sent on the DN fibre of every configured phase. -/
  | downlinkFrame (phase : Fin 8)
  /-- UPLINK_FRAME (R210). An uplink frame arrives from a GDU; the current, link voltage and status are taken and the link check runs. -/
  | uplinkFrame (phase : Fin 8) (frame : Machine.Uplink)
  /-- IDENT (R214). An IDENT message answers a roll-call; a SEARCH phase goes to IDENT and CONFIG is sent. -/
  | ident (phase : Fin 8) (seq : Nat) (gdu : Machine.GduIdent)
  /-- CONFIG_ACK (R214). A CONFIG_ACK message arrives; the phase proceeds towards READY or goes OUT. -/
  | configAck (phase : Fin 8) (thr : Nat) (result : Nat)
  /-- PHASE_READY (R214). A phase's IDENT checks hold with RDY lit for 10 ms, and the phase goes to READY with its coefficients designed. -/
  | phaseReady (phase : Fin 8)
  /-- UPLINK_TIMEOUT (R214). No valid uplink frame for 10 µs darkens the phase in hardware and sends it to SEARCH. -/
  | uplinkTimeout (phase : Fin 8)
  /-- RDY_LOSS (R214). RDY goes dark; the phase goes dark to IDENT, or OUT at the third loss in 60 s. -/
  | rdyLoss (phase : Fin 8)
  /-- OC_INPUT (R225). OC lights on a phase and its gates go dark in hardware, or every phase in soft start. -/
  | ocInput (phase : Fin 8) (lit : Bool)
  /-- PHASE_HICCUP_END (R214). 20 ms after a phase enters HICCUP, with OC dark and RDY lit, it goes to JOINING or READY. -/
  | phaseHiccupEnd (phase : Fin 8)
  /-- JOIN_COMPLETE (R215). A joining phase completes its 100 ms weight ramp and becomes ACTIVE. -/
  | joinComplete (phase : Fin 8)
  /-- REFERENCE_PERIOD_START (R217). A reference carrier period starts, SYNC_OUT pulses and the trims are re-centred. -/
  | referencePeriodStart
  /-- PHASE_PERIOD_START (R219). A phase's period starts; it sets its duty and the soft-start sequencer advances. -/
  | phasePeriodStart (phase : Fin 8)
  /-- COMPENSATOR_STEP (R221). At a phase's period end the compensator, trim and I²t integration run. -/
  | compensatorStep (phase : Fin 8)
  /-- SYNC_IN_EDGE (R217). A rising edge on SYNC_IN gives the reference for LOCKSRC 2. -/
  | syncInEdge (count : Nat)
  /-- CARRIER_LOCKED (R218). After 16 periods within 50 ns the carrier sets LOCKED and raises CNV_LOCK. -/
  | carrierLocked
  /-- CARRIER_LOCK_LOST (R218). 4 SYNC_IN edges are missing or PTP is lost; the carrier holds over and raises CNV_LOCK_LOST. -/
  | carrierLockLost
  /-- CNV_ISUM_XCHK (R229). The phase sum has differed from the string current for 10 ms. -/
  | cnvIsumXchk
  /-- PRECHECK_TIMEOUT (R231). The soft-start checks have not all held by 10 ms after PRECHECK, so CNV_PRECHECK_FAIL is raised. -/
  | precheckTimeout
  /-- SETTLE_COMPLETE (R231). The link has stayed within 1 % of V_TGT for 20 ms, and the converter hands over to the loop in REGULATE. -/
  | settleComplete
  /-- SS_HICCUP_END (R233). 20 ms after a soft-start OC, the soft start re-enters PREBIAS. -/
  | ssHiccupEnd
  /-- SOFTSTART_TIMEOUT (R231). SS_TIMEOUT has passed since PRECHECK entry, so the converter goes to MUZZLED. -/
  | softstartTimeout
  /-- SOFTSTOP_END (R235). The soft stop ends at a period start with low current, or 20 ms after the reference reaches 0; the gates go dark and the module enters PARK. -/
  | softstopEnd
  /-- LOOP_CYCLE (R251). Every 100 µs the loop engine latches its inputs, ramps the set-point and computes u. -/
  | loopCycle (ain : Int)
  /-- AIN_OPEN_TEST (R264). Every 10 ms the open-detect current is driven into the analogue input for 100 µs and the move is judged. -/
  | ainOpenTest (before : Int) (after : Int)
  /-- PULSE_PERIOD (R253). A period of the pulse input completes and delivers a normalised set-point. -/
  | pulsePeriod (period : Nat) (high : Nat)
  /-- PULSE_TIMEOUT (R258). The pulse input has had no rising edge for 20 ms and is lost. -/
  | pulseTimeout
  /-- SETPOINT_TIMEOUT (R258). No LOOP_SETPOINT has been accepted for SP_TIMEOUT, so the packet source is lost. -/
  | setpointTimeout
  /-- SCHED_HOLD_EXPIRY (R258). PTP has been unlocked for SCHED_HOLD, so the schedule source is lost. -/
  | schedHoldExpiry
  /-- SOURCE_RETURN (R258). A lost source's condition has been absent for SP_RETURN, and the source returns. -/
  | sourceReturn (source : Fin 4)
  /-- THERMAL_CYCLE (R266). Every 100 ms the thermal loop forms the cooling demand and maps it to the fans, pumps and louvres. -/
  | thermalCycle (tach0 : Nat) (tach1 : Nat)
  /-- THM_TEMP_LOST (R265). T_CTRL has held no value for 10 s, and FS_DEMAND is applied. -/
  | thmTempLost
  /-- OVERRIDE_EXPIRY (R267). A thermal override's time ends and the output returns to its map. -/
  | overrideExpiry (output : Fin 6)
  /-- FP_STALL (R269). A fan or pump has run at 20 % duty or more below TACH_MIN for 5 s. -/
  | fpStall (output : Fin 2)
  /-- LOUVRE_CYCLE (R270). Every 1 ms a louvre's position loop computes its drive with friction compensation. -/
  | louvreCycle (louvre : Fin 4) (fb : Int) (iMot : Int)
  /-- LV_STALL (R273). A louvre at 50 % drive or more has moved less than 0.5 % in 2 s, and its drive goes off. -/
  | lvStall (louvre : Fin 4)
  /-- LV_RETRY (R273). 30 s after a stall, the louvre drive is retried. -/
  | lvRetry (louvre : Fin 4)
  /-- LV_OVERCURRENT (R273). A louvre drive exceeds its current limit and is turned off in hardware. -/
  | lvOvercurrent (louvre : Fin 4)
  /-- LV_FB_LOST (R273). A louvre's feedback has been out of range for 100 ms, and its drive goes off. -/
  | lvFbLost (louvre : Fin 4)
  /-- LV_FB_RESTORED (R273). A louvre's feedback has been valid for 1 s, and its drive resumes. -/
  | lvFbRestored (louvre : Fin 4)
  /-- LV_LEARN_STEP (R272). Every 20 ms of a friction learn, the drive rises by 0.5 % and breakaway is detected. -/
  | lvLearnStep (louvre : Fin 4)
  /-- LV_LEARN_FAIL (R272). A friction learn has not found every point within 10 min, and the old table stands. -/
  | lvLearnFail (louvre : Fin 4)
  /-- LAT_POWER_UP (R287). The LAT supply rises and the Latch enters SELFTEST. -/
  | latPowerUp
  /-- SELFTEST_DONE (R287). The Latch's self-check ends; it enters STARTUP, or LOCKOUT on a failure or with no valid Floor copy. -/
  | selftestDone (pass : Bool)
  /-- LATCH_SELFCHECK (R287). Every 100 ms the Latch runs its self-check, and a failure takes it to LOCKOUT. -/
  | latchSelfcheck (pass : Bool)
  /-- LEAD_READY_REQUEST (R287). At the end of BOOT, Lead requests ready and the Latch goes to ARMED or ACTED. -/
  | leadReadyRequest
  /-- LAT_SUPPLY_FALL (R288). The LAT supply falls below its threshold and a pending action is recorded where required. -/
  | latSupplyFall
  /-- TP_FRAME (R291). Every 10 ms a TP frame begins. -/
  | tpFrame
  /-- TP_PULSE (R291). A TP output's off-pulse starts and the channels it sources are masked. -/
  | tpPulse (tp : Fin 4)
  /-- SI_MASK_END (R291). A channel's 350 µs mask ends, and a channel still low has its demand recognised. -/
  | siMaskEnd (input : Fin 8) (chan : Fin 2)
  /-- PULSE_CHECK (R291). A channel's reading in the pulse window is judged, and a second failure makes a demand with SI_CROSS_SHORT. -/
  | pulseCheck (input : Fin 8) (chan : Fin 2) (low : Bool)
  /-- SI_CHANNEL_CHANGE (R293). A safety-input channel changes level and its filter starts or stops counting. -/
  | siChannelChange (input : Fin 8) (chan : Fin 2) (high : Bool) (count : Nat)
  /-- SI_DEMAND (R293). A channel has stayed low beyond its filter and the input makes a demand for its function. -/
  | siDemand (input : Fin 8) (chan : Fin 2)
  /-- SI_DISCREPANCY (R294). One channel has risen and the other has not followed within DISC, so the input enters discrepancy fault. -/
  | siDiscrepancy (input : Fin 8)
  /-- TP_FAULT (R291). A TP output's current limit has acted for 10 ms, or its readback is wrong; the inputs it sources make demands. -/
  | tpFault (tp : Fin 4)
  /-- TP_FAULT_CLEAR (R291). A failed TP output's readback has been correct for 1 s, and TPFLT clears. -/
  | tpFaultClear (tp : Fin 4)
  /-- CONTACTOR_WELD (R296). An output is off and its mirror has read open for 100 ms; the Latch executes SSI. -/
  | contactorWeld (out : Fin 3)
  /-- CONTACTOR_FAIL_TO_CLOSE (R296). An output is on and its mirror has read closed for 100 ms, raising CONTACTOR_FAULT. -/
  | contactorFailToClose (out : Fin 3)
  /-- CLOSE_SEQ_SO3_ON (R297). 100 ms into a close, the SFB2 mirror is judged and SO3 goes on. -/
  | closeSeqSo3On
  /-- CLOSE_SEQ_PEAK_CHECK (R297). By 300 ms, the precharge current must have peaked at 2 × PRE_I, or the sequence fails with code 3. -/
  | closeSeqPeakCheck
  /-- CLOSE_SEQ_SO1_ON (R297). The current has stayed at or below PRE_I for 100 ms after its peak, so SO1 goes on. -/
  | closeSeqSo1On
  /-- CLOSE_SEQ_PRECHARGE_TIMEOUT (R297). PRE_TMAX passes without the current condition, and the sequence fails with code 4. -/
  | closeSeqPrechargeTimeout
  /-- CLOSE_SEQ_SO3_OFF (R297). 100 ms after SO1 on, the SFB1 mirror is judged and SO3 goes off. -/
  | closeSeqSo3Off
  /-- CLOSE_SEQ_DONE (R297). 300 ms after SO1 on, the SFB3 mirror is judged, PRE_DONE is set and the close completes. -/
  | closeSeqDone
  /-- OPEN_SEQ_SO2_OFF (R297). 100 ms after SO1 off, SO2 goes off and the open sequence ends. -/
  | openSeqSo2Off
  /-- SO_TEST_HIGH (R298). Every 1 s the Latch opens the high-side switch of each output that is on, for its test. -/
  | soTestHigh (count : Nat)
  /-- SO_TEST_LOW (R298). 500 ms later, SA and SB open the low-side switch of each output that is on, for its test. -/
  | soTestLow
  /-- SO_READBACK_FALL (R298). An output's readback falls below 3.0 V during a test, which passes, and the switch closes again. -/
  | soReadbackFall (out : Fin 4)
  /-- SO_TEST_FAIL (R298). The readback has not fallen 400 µs into a test; the other channel opens its switches and the Latch enters LOCKOUT. -/
  | soTestFail (out : Fin 4)
  /-- SO_MIDPOINT_CHECK (R298). Every 500 ms the midpoint of each off output is read and judged against the switches commanded open. -/
  | soMidpointCheck (hsClosed : Nat) (lsClosed : Nat)
  /-- ENGINE_CHECK_BLOCK (R301). At the end of each 2 ms block, SA and SB evaluate the engine-path checks and act on any that trips. -/
  | engineCheckBlock (seen : Nat)
  /-- STRING_CURRENT_ESCALATION (R301). 50 ms after SPS on string current, the condition still holds and SSI follows. -/
  | stringCurrentEscalation
  /-- FLOOR_CRC_CHECK (R301). Every 1 s the active Floor copy's CRC is checked, and a failure demands SSI. -/
  | floorCrcCheck (ok : Bool)
  /-- LATCH_CHALLENGE (R303). Every 1 ms the Latch challenges SA and SB, and two missed answers give SSI with SAFETY_ENGINE_LOST. -/
  | latchChallenge (answered : Bool)
  /-- LOCKSTEP_MISMATCH (R303). The SA/SB lockstep comparator mismatches; every low-side switch opens, SSI follows and SA and SB restart. -/
  | lockstepMismatch
  /-- LOCKSTEP_RESTORED (R303). The restarted pair has passed 1 s of self-test in agreement, and lockstep counts as re-established. -/
  | lockstepRestored
  /-- LATCH_DISAGREE (R303). SA and SB have disagreed with the Latch for 2 ms; they open every low-side switch and the Latch enters LOCKOUT. -/
  | latchDisagree
  /-- ISO_ALTERNATION (R304). Every 5 s the isolation reference is switched to the other rail, and R_ISO is computed after each pair. -/
  | isoAlternation (vPos : Int) (vNeg : Int) (r : Nat)
  /-- SRST_FALL (R307). A valid press of SRST ends at its falling edge and acts under RST_MODE. -/
  | srstFall (count : Nat)
  /-- SRST_STUCK (R307). SRST has been high for longer than 5 s, so the press is ignored. -/
  | srstStuck
  /-- BARK_RELEASE_TEST (R306). 1 ms after the Latch releases the bark line during a reset, a line still low fails condition 4. -/
  | barkReleaseTest
  /-- SAFE_TEST_TIMEOUT (R287). 30 min in TEST pass, so the test ends and the Latch moves to RECOVERY. -/
  | safeTestTimeout (compPass : Nat)
  /-- AUTH_WINDOW_EXPIRY (R315). An authorisation window's 60 s ends. -/
  | authWindowExpiry (session : Fin 4)
  /-- AUTH_LOCKOUT_END (R316). An authorisation lockout's time ends. -/
  | authLockoutEnd
  /-- IXRAS_DATAGRAM (R329). A UDP datagram arrives on port 17423 and is checked in order; it is discarded, refused, answered from the cache or accepted. -/
  | ixrasDatagram (ip : Nat) (port : Nat) (payload : List Byte)
  /-- PEND_PACKET (R336). An accepted request is still running 50 ms after acceptance and then every 1,000 ms, so a PEND packet is sent. -/
  | pendPacket (session : Fin 4) (seq : Nat)
  /-- SESSION_TIMEOUT (R332). No valid request has arrived for a session's TIMEOUT, so the session closes. -/
  | sessionTimeout (session : Fin 4)
  /-- SYS_SESSION_OPEN (R331). Opens a session at the lowest free index with a new STAG. -/
  | sysSessionOpen (ip : Nat) (port : Nat) (seq : Nat) (timeout : Nat) (mtu : Nat)
  /-- SYS_SESSION_CLOSE (R332). Closes the requesting session. -/
  | sysSessionClose (src : Machine.Src)
  /-- SYS_PING (R343). Returns the image epoch, the module state and the owner, and keeps the session alive. -/
  | sysPing (src : Machine.Src)
  /-- SYS_TAKE_OWNER (R333). Takes control ownership when no session holds it. -/
  | sysTakeOwner (src : Machine.Src)
  /-- SYS_RELEASE_OWNER (R333). Releases ownership, or transfers it to another open session. -/
  | sysReleaseOwner (src : Machine.Src) (target : Nat)
  /-- SYS_SET_MTU (R343). Sets the session's reply MTU for later requests. -/
  | sysSetMtu (src : Machine.Src) (mtu : Nat)
  /-- SYS_RESEND (R339). Resends the selected segments of a cached reply. -/
  | sysResend (src : Machine.Src) (seq : Nat) (mask : Nat)
  /-- SYS_RUN (R344). The Run command: the module enters RUN and the converter starts from PRECHECK. -/
  | sysRun (src : Machine.Src)
  /-- SYS_PARK (R344). The Park command: the converter soft-stops and the module enters PARK. -/
  | sysPark (src : Machine.Src)
  /-- SYS_HIBERNATE (R344). The Hibernate command: the module enters HIBERNATE from PARK. -/
  | sysHibernate (src : Machine.Src)
  /-- SYS_FAULT_CLEAR (R344). The fault-clear command: the module goes from FAULT to PARK once every cause has cleared. -/
  | sysFaultClear (src : Machine.Src)
  /-- SYS_WAKE (R344). The Ethernet wake: the module leaves HIBERNATE for PARK. -/
  | sysWake (src : Machine.Src)
  /-- IMG_READ (R365). Reads a run of tiles coherently from the front bank. -/
  | imgRead (src : Machine.Src) (first : Nat) (count : Nat) (reserved : Nat) (bad : List Nat)
  /-- IMG_READ_LIST (R365). Reads a list of tiles coherently from the front bank. -/
  | imgReadList (src : Machine.Src) (tiles : List Nat) (reserved : Nat) (bad : List Nat)
  /-- SENSE_SET_RATE (R64). Sets the snapshot rate and returns the start count at which it takes effect. -/
  | senseSetRate (src : Machine.Src) (code : Nat)
  /-- SENSE_SET_WINDOW (R74). Configures the mode and length of an averaging window. -/
  | senseSetWindow (src : Machine.Src) (window : Nat) (mode : Nat) (nReq : Nat)
  /-- SENSE_SET_SHUTTER (R86). Sets the shutter mode of the named segments from a scheduled aperture. -/
  | senseSetShutter (src : Machine.Src) (mask : Nat) (mode : Nat)
  /-- SENSE_REF_CHECK (R70). Runs a reference check in the named segments. -/
  | senseRefCheck (src : Machine.Src) (mask : Nat)
  /-- SENSE_RELEARN (R85). Marks every wire of the named segments as unlearned. -/
  | senseRelearn (src : Machine.Src) (mask : Nat)
  /-- SENSE_SET_TH_MAP (R67). Assigns a thermistor to a cell. -/
  | senseSetThMap (src : Machine.Src) (cell : Nat) (therm : Nat)
  /-- SENSE_SET_TH_CURVE (R67). Sets the thermistor curve of the named segments. -/
  | senseSetThCurve (src : Machine.Src) (mask : Nat) (curve : Nat)
  /-- SENSE_SET_SHUNT (R66). Sets the shunt resistance RSH. -/
  | senseSetShunt (src : Machine.Src) (rsh : Nat)
  /-- SENSE_GET_CONFIG (R87). Returns the sensing configuration tile words. -/
  | senseGetConfig (src : Machine.Src)
  /-- INTEG_SET_LEASH_MODE (R111). Stores the leash-loss mode and Brodda timeout and sends them to the hub. -/
  | integSetLeashMode (src : Machine.Src) (mode : Nat) (ms : Nat)
  /-- INTEG_TEST_WIRE (R115). Tests a wire at its next test aperture and returns the result. -/
  | integTestWire (src : Machine.Src) (wire : Nat)
  /-- INTEG_CLEAR_OPEN (R108). Tests an open wire three times and clears its report if every test is intact. -/
  | integClearOpen (src : Machine.Src) (wire : Nat)
  /-- INTEG_SET_BARK_PULLUP (R115). Enables or disables the internal bark-line pull-up. -/
  | integSetBarkPullup (src : Machine.Src) (on : Nat)
  /-- BAL_ENABLE (R137). Enables or disables the placement engine. -/
  | balEnable (src : Machine.Src) (en : Nat)
  /-- BAL_SET_GOAL (R140). Sets the balancing GOAL and MODE. -/
  | balSetGoal (src : Machine.Src) (goal : Nat) (mode : Nat)
  /-- BAL_SET_THRESH (R140). Sets the start and stop thresholds of the elements and bridges. -/
  | balSetThresh (src : Machine.Src) (start : Nat) (stop : Nat) (brStart : Nat) (brStop : Nat)
  /-- BAL_SET_LIMITS (R140). Sets the currents, margins, temperatures, bleed count and power limit. -/
  | balSetLimits (src : Machine.Src) (iSet : Nat) (iBr : Nat) (vMargin : Nat) (tFeedMin : Int) (tMax : Int) (maxBleed : Nat) (pwrMax : Nat)
  /-- BAL_MANUAL (R138). Sets or ends one manual balancing target on a cell. -/
  | balManual (src : Machine.Src) (cell : Nat) (element : Nat) (current : Int) (time : Nat)
  /-- BAL_CLEAR_FAULT (R135). Returns the out-of-service elements of the named segments to service. -/
  | balClearFault (src : Machine.Src) (mask : Nat)
  /-- BAL_GET_CONFIG (R140). Returns the balancing configuration tile words. -/
  | balGetConfig (src : Machine.Src)
  /-- FLT_SET_CONFIG (R175). Sets the filter configuration. -/
  | fltSetConfig (src : Machine.Src) (rateRpt : Nat) (anchDz : Nat) (capDzMin : Nat) (capGain : Nat) (sigmaValid : Nat) (tSrc : Nat)
  /-- FLT_SLOT_WRITE (R175). Stages bytes of a chemistry slot. -/
  | fltSlotWrite (src : Machine.Src) (slot : Nat) (offset : Nat) (bytes : List Byte)
  /-- FLT_SLOT_COMMIT (R149). Checks and commits a staged chemistry slot. -/
  | fltSlotCommit (src : Machine.Src) (slot : Nat)
  /-- FLT_SLOT_READ (R175). Reads committed bytes of a chemistry slot. -/
  | fltSlotRead (src : Machine.Src) (slot : Nat) (offset : Nat) (length : Nat)
  /-- FLT_SET_SLOT (R175). Assigns a slot to segments and reinitialises their cells. -/
  | fltSetSlot (src : Machine.Src) (mask : Nat) (slot : Nat)
  /-- FLT_SET_CAP (R175). Sets a cell's capacity and RELEARN. -/
  | fltSetCap (src : Machine.Src) (cell : Nat) (cap : Nat)
  /-- FLT_RESET_CELL (R175). Reinitialises a cell's filter and learned values. -/
  | fltResetCell (src : Machine.Src) (cell : Nat)
  /-- FLT_SAVE_NOW (R173). Starts a learned-value save. -/
  | fltSaveNow (src : Machine.Src)
  /-- FLT_GET_CONFIG (R175). Returns the filter configuration tile words. -/
  | fltGetConfig (src : Machine.Src)
  /-- IMP_SET_FREQS (R184). Sets the eight frequency requests and returns their codes. -/
  | impSetFreqs (src : Machine.Src) (reqs : List Nat)
  /-- IMP_SET_EXCITATION (R202). Sets the excitation amplitude, NPER and NSET. -/
  | impSetExcitation (src : Machine.Src) (amp : Nat) (nPer : Nat) (nSet : Nat)
  /-- IMP_START (R190). Queues an impedance job. -/
  | impStart (src : Machine.Src)
  /-- IMP_ENABLE (R191). Enables or disables impedance jobs. -/
  | impEnable (src : Machine.Src) (en : Nat)
  /-- IMP_SET_SCHEDULE (R190). Sets the interval of periodic jobs. -/
  | impSetSchedule (src : Machine.Src) (interval : Nat)
  /-- IMP_ZT_WRITE (R193). Checks and stores a phase-to-temperature record. -/
  | impZtWrite (src : Machine.Src) (slot : Nat) (rec : List Byte)
  /-- IMP_SET_BASELINE (R197). Captures the impedance baseline of the named segments. -/
  | impSetBaseline (src : Machine.Src) (mask : Nat)
  /-- IMP_SET_HEALTH (R198). Sets HSLOT and the health thresholds. -/
  | impSetHealth (src : Machine.Src) (hslot : Nat) (growWarn : Nat) (outWarn : Nat)
  /-- IMP_GET_BASELINE (R202). Returns a cell's baseline. -/
  | impGetBaseline (src : Machine.Src) (cell : Nat)
  /-- IMP_GET_CONFIG (R202). Returns the impedance configuration tile words. -/
  | impGetConfig (src : Machine.Src)
  /-- CNV_SET_CARRIER (R240). Sets the carrier period, lock source and pack placement. -/
  | cnvSetCarrier (src : Machine.Src) (tc : Nat) (lockSrc : Nat) (packIdx : Nat) (packSize : Nat) (syncDly : Nat)
  /-- CNV_SET_PHASES (R240). Sets PHMASK and N_MIN. -/
  | cnvSetPhases (src : Machine.Src) (mask : Nat) (nMin : Nat)
  /-- CNV_SET_MODULATION (R240). Sets dead time, duty limits, trim limit and sharing gain. -/
  | cnvSetModulation (src : Machine.Src) (deadTime : Nat) (dMin : Nat) (dMax : Nat) (trimMax : Nat) (shareGain : Nat)
  /-- CNV_SET_LIMITS (R240). Sets the current limits, I_FAST and I²t limit. -/
  | cnvSetLimits (src : Machine.Src) (chg : Nat) (dis : Nat) (cont : Nat) (fast : Nat) (i2t : Nat)
  /-- CNV_SET_SOFTSTART (R240). Sets the soft-start target, slews, limit, timeout and gains. -/
  | cnvSetSoftstart (src : Machine.Src) (vTarget : Int) (slewV : Nat) (ilimSs : Nat) (ssTimeout : Nat) (kpv : Nat) (kiv : Nat) (slewStop : Nat)
  /-- CNV_SET_VTARGET (R234). Changes the soft-start link target and slew mid-ramp. -/
  | cnvSetVtarget (src : Machine.Src) (target : Int) (slew : Nat)
  /-- CNV_SET_TUNING (R240). Sets RETUNE_EN and FC_SET. -/
  | cnvSetTuning (src : Machine.Src) (en : Nat) (fc : Nat)
  /-- CNV_SET_COEFFS (R240). Sets manual compensator coefficients for the named phases. -/
  | cnvSetCoeffs (src : Machine.Src) (mask : Nat) (coef : List Int)
  /-- CNV_PHASE_CTRL (R214). Takes a phase out or readmits it. -/
  | cnvPhaseCtrl (src : Machine.Src) (phase : Nat) (action : Nat)
  /-- CNV_GET_CONFIG (R240). Returns the converter configuration tile words. -/
  | cnvGetConfig (src : Machine.Src)
  /-- LOOP_SET_MODE (R249). Sets LMODE and FF_EN. -/
  | loopSetMode (src : Machine.Src) (lmode : Nat) (ffEn : Nat)
  /-- LOOP_SET_SOURCE (R260). Selects the set-point source, fallback and loss action. -/
  | loopSetSource (src : Machine.Src) (source : Nat) (fbSrc : Nat) (lossAct : Nat)
  /-- LOOP_SETPOINT (R254). Delivers a packet set-point value. -/
  | loopSetpoint (src : Machine.Src) (value : Int)
  /-- LOOP_SET_SCALE (R275). Sets the full scales and ramps. -/
  | loopSetScale (src : Machine.Src) (pmax : Nat) (imax : Nat) (vdcMid : Int) (vdcSpan : Int) (spRamp : Nat) (manRamp : Nat)
  /-- LOOP_SET_GAINS (R275). Sets a mode's KP and KI. -/
  | loopSetGains (src : Machine.Src) (mode : Nat) (kp : Nat) (ki : Nat)
  /-- LOOP_SET_TIMING (R275). Sets the source timeouts, schedule hold and dead band. -/
  | loopSetTiming (src : Machine.Src) (spTimeout : Nat) (spReturn : Nat) (schedHold : Nat) (ainDb : Nat)
  /-- LOOP_MANUAL (R262). Switches between manual and automatic operation and sets MAN_IREF. -/
  | loopManual (src : Machine.Src) (am : Nat) (iref : Int)
  /-- LOOP_SCHED_WRITE (R255). Stages schedule entries. -/
  | loopSchedWrite (src : Machine.Src) (first : Nat) (count : Nat) (entries : List Byte)
  /-- LOOP_SCHED_COMMIT (R255). Checks the staged schedule and makes it the table in force. -/
  | loopSchedCommit (src : Machine.Src) (count : Nat)
  /-- THM_SET_CONFIG (R265). Sets the thermal loop configuration. -/
  | thmSetConfig (src : Machine.Src) (tSel : Nat) (thIdx : Nat) (tSet : Int) (kpT : Nat) (kiT : Nat) (fsDemand : Nat) (hibDemand : Nat)
  /-- THM_SET_MAP (R267). Sets the demand map of one output. -/
  | thmSetMap (src : Machine.Src) (output : Nat) (dStart : Nat) (dFull : Nat) (outOff : Nat) (outMin : Nat) (outMax : Nat) (fire : Nat)
  /-- THM_OVERRIDE (R267). Sets or clears a timed override of one output. -/
  | thmOverride (src : Machine.Src) (output : Nat) (set : Nat) (value : Nat) (time : Nat)
  /-- FP_SET_CONFIG (R269). Configures a fan or pump output. -/
  | fpSetConfig (src : Machine.Src) (output : Nat) (inv : Nat) (ppr : Nat) (tachMin : Nat)
  /-- LV_SET_CONFIG (R270). Configures a louvre's feedback and position loop. -/
  | lvSetConfig (src : Machine.Src) (louvre : Nat) (fbLo : Int) (fbHi : Int) (kp : Nat) (ki : Nat) (db : Nat) (umax : Nat)
  /-- LV_FRICTION_WRITE (R271). Replaces a louvre's friction table. -/
  | lvFrictionWrite (src : Machine.Src) (louvre : Nat) (table : List Nat)
  /-- LV_LEARN (R272). Learns the friction tables of the named louvres. -/
  | lvLearn (src : Machine.Src) (mask : Nat)
  /-- LOOP_GET_CONFIG (R275). Returns the loop and thermal configuration tile words. -/
  | loopGetConfig (src : Machine.Src)
  /-- SAFE_RESET (R306). Requests a safety reset, judged against the conditions of R306. -/
  | safeReset (src : Machine.Src)
  /-- SAFE_CONTACTORS (R297). Starts the contactor close or open sequence. -/
  | safeContactors (src : Machine.Src) (act : Nat)
  /-- SAFE_SET_PRECHARGE (R297). Sets PRE_I and PRE_TMAX. -/
  | safeSetPrecharge (src : Machine.Src) (preI : Nat) (preTmax : Nat)
  /-- SAFE_GET_NONCE (R315). Returns SALT, ITER and a fresh nonce. -/
  | safeGetNonce (src : Machine.Src)
  /-- SAFE_AUTH (R315). Checks an HMAC and opens an authorisation window or counts a failure. -/
  | safeAuth (src : Machine.Src) (mac : List Byte)
  /-- SAFE_SET_PASSWORD (R314). Sets the configuration password. -/
  | safeSetPassword (src : Machine.Src) (chars : List Byte)
  /-- SAFE_FLOOR_WRITE (R312). Checks and commits a new Floor record. -/
  | safeFloorWrite (src : Machine.Src) (record : List Byte) (how : Machine.FloorOutcome)
  /-- SAFE_FLOOR_READ (R320). Returns the Floor record in force. -/
  | safeFloorRead (src : Machine.Src)
  /-- SAFE_LOG_READ (R320). Returns change-log entries. -/
  | safeLogRead (src : Machine.Src) (first : Nat) (count : Nat)
  /-- SAFE_TEST (R309). Begins or ends the proof test. -/
  | safeTest (src : Machine.Src) (act : Nat) (opt : Nat) (compPass : Nat)
  /-- EPOCH_BOUNDARY (R355). Every 1 ms the image banks swap, unless a Transom hold defers the swap. -/
  | epochBoundary
  /-- BACK_COPY_DONE (R357). The copy of the changed tiles into the new back bank completes, and waiting writers proceed. -/
  | backCopyDone
  /-- DEFERRED_SWAP (R358). After a hold is released and no batch is open, the deferred swap takes place with HELD set. -/
  | deferredSwap
  /-- TILE_WRITE (R353). A writer passes 15 data words and the image hardware stores the tile with its check. -/
  | tileWrite (tile : Fin 16384) (ws : List Word)
  /-- TILE_REFRESH (R356). A writer rewrites each of its tiles at least once every 100 ms. -/
  | tileRefresh (tile : Fin 16384)
  /-- TRANSOM_READ (R368). A read cycle on the Transom port returns one halfword of the front or held bank. -/
  | transomRead (tile : Fin 16384) (half : Fin 32)
  /-- TLATCH_RISE (R369). TLATCH rises; the front bank is held and TLACK rises. -/
  | tlatchRise
  /-- TLATCH_FALL (R369). TLATCH falls; the hold is released and TLACK falls. -/
  | tlatchFall
  /-- IMG_HOLD_LONG (R358). A hold has lasted longer than 100 ms. -/
  | imgHoldLong
  /-- TILE_READ_INTERNAL (R372). An engine reads a tile with a hardware check and reads once more on a failure. -/
  | tileReadInternal (engine : Fin 15) (tile : Fin 16384) (fails : Fin 3)
  /-- IMG_TILE_STUCK (R372). A tile still fails 200 ms after its first failure. -/
  | imgTileStuck (tile : Fin 16384)
  /-- SFP_POLL (R375). Every 1 s the SFP identity and diagnostics are read and SFP_FAULT is judged. -/
  | sfpPoll (cage : Fin 2) (present : Bool) (supported : Bool) (txFault : Bool) (alarm : Bool) (los : Bool)
  /-- ETH_FRAME (R379). An Ethernet frame is received; PRP duplicates are discarded and the frame is dispatched or dropped. -/
  | ethFrame (cage : Fin 2) (f : Machine.EthFrame) (count : Nat)
  /-- PRP_SUPERVISION (R377). Every 2 s PRP supervision frames are sent on both LANs. -/
  | prpSupervision
  /-- PRP_ENTRY_EXPIRY (R377). A duplicate-discard entry ages out after 400 ms, or a node-table entry after 60 s. -/
  | prpEntryExpiry (node : Bool)
  /-- LAN_LINK_LOST (R378). A cage has had no Clause 37 link for 10 ms, so its LAN leaves service. -/
  | lanLinkLost (cage : Fin 2) (count : Nat)
  /-- LAN_RCT_TIMEOUT (R378). No frame with a valid RCT has arrived on one LAN for 6 s while the other has one, so the LAN leaves service. -/
  | lanRctTimeout (cage : Fin 2)
  /-- LAN_RETURN (R378). A LAN has had link with valid frames for 2 s and returns to service. -/
  | lanReturn (cage : Fin 2) (count : Nat)
  /-- IP_CHANGE_EFFECT (R379). 100 ms after the reply, an accepted address change takes effect. -/
  | ipChangeEffect
  /-- PTP_MESSAGE (R383). A PTP message is received; the best master clock algorithm and the servo measurement act on it. -/
  | ptpMessage (port : Fin 2) (domain : Nat) (ether : Bool) (msg : Machine.PtpMsg) (rxNs : Nat)
  /-- PTP_TX_TIMER (R383). At the profile's interval the module sends its delay requests, peer-delay or master messages. -/
  | ptpTxTimer (port : Fin 2) (what : Fin 3) (count : Nat)
  /-- PTP_SYNC_TIMEOUT (R385). No sync or follow-up for 3 intervals, or an announce receipt timeout, sets HOLD. -/
  | ptpSyncTimeout (announce : Bool)
  /-- PTP_HOLD_UNLOCK (R385). 5 s after HOLD sets, LOCKED clears. -/
  | ptpHoldUnlock
  /-- TX_TIMESTAMP (R389). A frame with a timestamp request leaves the SERDES and writes a queue entry, or is lost on a full queue. -/
  | txTimestamp (cage : Fin 2) (id : Nat) (own : Fin 5) (ns : Nat)
  /-- TXTS_READ (R389). Reading the last word of a transmit-timestamp entry removes it from the queue. -/
  | txtsRead (cage : Fin 2)
  /-- CAN_FRAME_RX (R394). A CAN frame is received; it goes to RQ0 as a partner frame, or is filtered into RQ1 or rejected. -/
  | canFrameRx (ctl : Fin 2) (f : Machine.CanFrame) (ts : Nat)
  /-- CAN_TX_ATTEMPT_END (R393). A transmit attempt ends sent or in error; the buffer, the error counts and ACKRUN update. -/
  | canTxAttemptEnd (ctl : Fin 2) (r : Machine.CanResult) (count : Nat)
  /-- CAN_ALONE (R397). ACKRUN reaches 64; pending buffers abort and the controller sends only heartbeats. -/
  | canAlone (ctl : Fin 2)
  /-- CAN_BUSOFF_RECOVERY (R396). 100 ms after bus-off, the controller starts the standard recovery. -/
  | canBusoffRecovery (ctl : Fin 2)
  /-- HBONLY_HEARTBEAT (R397). Once per second while HBONLY is set, a single-shot heartbeat is sent. -/
  | hbonlyHeartbeat (ctl : Fin 2)
  /-- PARTNER_HEARTBEAT (R399). Every HB_PERIOD a partner heartbeat is sent. -/
  | partnerHeartbeat (ctl : Fin 2)
  /-- PARTNER_ANNOUNCE (R399). An announce is sent every 10 s, on enabling, or within 100 ms of a new node. -/
  | partnerAnnounce (ctl : Fin 2)
  /-- PARTNER_LOST (R399). No heartbeat from a partner for 3 periods plus 100 ms. -/
  | partnerLost (entry : Fin 40)
  /-- PARTNER_ENTRY_FREE (R399). 60 s after a partner is lost, its entry is freed. -/
  | partnerEntryFree (entry : Fin 40)
  /-- CAN_SEND (R393). Writing a SEND bit makes a transmit buffer pending, or aborts it while HBONLY or MON holds. -/
  | canSend (ctl : Fin 2) (buf : Fin 3)
  /-- CAN_ABORT (R393). Writing an ABORT bit aborts a transmit buffer at once or at the end of its attempt. -/
  | canAbort (ctl : Fin 2) (buf : Fin 3)
  /-- CAN_RQGET_WRITE (R395). Writing RQGET acknowledges RQ1 entries and clears RQFULL. -/
  | canRqgetWrite (ctl : Fin 2) (value : Nat)
  /-- NET_SET_IP (R401). Sets the IPv4 address, mask, gateway, VLAN and NETMODE. -/
  | netSetIp (src : Machine.Src) (x : Machine.IpSet)
  /-- NET_SET_PTP (R401). Sets the PTP configuration and restarts PTP in LISTENING. -/
  | netSetPtp (src : Machine.Src) (x : Machine.PtpSet)
  /-- NET_SET_TIME (R386). Sets the PTP time as a step. -/
  | netSetTime (src : Machine.Src) (sec : Nat) (ns : Nat) (utc : Int)
  /-- CAN_SET_CONFIG (R401). Configures or enables or disables a CAN controller. -/
  | canSetConfig (src : Machine.Src) (ctl : Fin 2) (x : Machine.CanSet)
  /-- CAN_FILTER_WRITE (R401). Writes filter elements and FLTLEN. -/
  | canFilterWrite (src : Machine.Src) (ctl : Fin 2) (first : Nat) (fltLen : Nat) (elems : List (Nat × Nat))
  /-- NET_GET_PARTNERS (R401). Returns partner-table entries. -/
  | netGetPartners (src : Machine.Src) (first : Nat) (count : Nat)
  /-- NET_GET_CONFIG (R401). Returns the network configuration tile words. -/
  | netGetConfig (src : Machine.Src)
  /-- POLICY_ENGINE_START (R409). Lead loads a policy engine's RAM and regions and releases it at ENTRY. -/
  | policyEngineStart (engine : Fin 2)
  /-- POLICY_INSTRUCTION (R412). A policy engine executes one RV32IMAC instruction, with every access translated and checked by its RTU. -/
  | policyInstruction (engine : Fin 2) (cycles : Nat) (bad : Bool)
  /-- WFI (R436). A WFI sleeps the engine, or the sleep guard refuses it and signals moderated completions. -/
  | wfi (engine : Fin 2)
  /-- MTIMER_INTERRUPT (R412). MTIME reaches MTIMECMP and MTIP sets. -/
  | mtimerInterrupt (engine : Fin 2)
  /-- INTERRUPT_WAKE (R436). A source delivered to a sleeping engine wakes it. -/
  | interruptWake (engine : Fin 2)
  /-- WDOG_WRITE (R411). A write to WDOG restarts the engine's watchdog. -/
  | wdogWrite (engine : Fin 2)
  /-- POL_WATCHDOG_EXPIRY (R411). WDPER passes without a WDOG write, so Lead restarts the engine, or holds it after three restarts. -/
  | polWatchdogExpiry (engine : Fin 2)
  /-- MTIME_LO_READ (R414). Reading MTIME_LO latches MTIME_HI. -/
  | mtimeLoRead (engine : Fin 2)
  /-- PTP_S_LO_READ (R414). Reading PTP_S_LO latches PTP_S_HI and PTP_NS. -/
  | ptpSLoRead (engine : Fin 2)
  /-- REGION_WRITE (R416). A write to an unlocked region register changes the translation for later accesses and bursts. -/
  | regionWrite (engine : Fin 2) (region : Fin 64) (hi : Bool) (value : Word)
  /-- RTU_ACTIVE_CLEAR (R417). Writing 1 to ACTIVE ends the handling of an RTU fault. -/
  | rtuActiveClear (engine : Fin 2)
  /-- TILE_STAGE_STORE (R420). A store to the image write window stages a word, commits the tile on word 14, or is refused with cause 4. -/
  | tileStageStore (engine : Fin 2) (va : Word) (value : Word)
  /-- BOPEN_WRITE (R421). Writing BOPEN requests a batch of the given length. -/
  | bopenWrite (engine : Fin 2) (len : Nat)
  /-- BATCH_GRANT (R421). The image hardware grants a waiting batch and raises the engine's batch source. -/
  | batchGrant (engine : Fin 2)
  /-- BCLOSE_WRITE (R421). Writing BCLOSE ends the batch. -/
  | bcloseWrite (engine : Fin 2)
  /-- BATCH_OVERRUN (R421). A batch's length elapses from its grant, and BSTAT reads 3. -/
  | batchOverrun (engine : Fin 2)
  /-- DMA_ENABLE (R425). Setting EN resets a channel's ring pointers and makes it IDLE. -/
  | dmaEnable (ch : Fin 16)
  /-- DMA_DISABLE (R430). Clearing EN drains the channel to its burst boundary and completes its descriptors ABORTED. -/
  | dmaDisable (ch : Fin 16)
  /-- DMA_DISABLE_DONE (R430). The last ABORTED completion is written and the channel reports DISABLED. -/
  | dmaDisableDone (ch : Fin 16)
  /-- DMA_RPUT_WRITE (R425). Writing RPUT posts descriptors to a channel's ring. -/
  | dmaRputWrite (ch : Fin 16) (value : Nat)
  /-- DMA_RESUME (R426). RESUME continues a HALTED channel with its next descriptor. -/
  | dmaResume (ch : Fin 16)
  /-- DMA_BURST (R423). A DMA burst of at most 64 bytes moves atomically, or is refused and halts the channel. -/
  | dmaBurst (bad : Bool)
  /-- CQGET_WRITE (R429). Writing CQGET frees completion-queue entries and resumes a stalled producer. -/
  | cqgetWrite (queue : Fin 20) (value : Nat)
  /-- CQ_MODERATION_TIMEOUT (R428). The oldest unsignalled completion has waited MTIME, so the queue's source is raised. -/
  | cqModerationTimeout (queue : Fin 20)
  /-- IRQ_COMPLETE (R434). Writing COMPLETE clears a delivered source's pending bit. -/
  | irqComplete (engine : Fin 2) (source : Fin 128)
  /-- SWISET_WRITE (R432). Writing SWISET raises edges on software interrupt sources. -/
  | swisetWrite (mask : BitVec 8)
  /-- TPER_WRITE (R432). Writing a timer period restarts or stops that timer. -/
  | tperWrite (timer : Fin 8) (period : Word)
  /-- TIMER_EXPIRY (R433). An interrupt-controller timer expires and raises its source. -/
  | timerExpiry (timer : Fin 8)
  /-- ROUTE_WRITE (R431). Writing ROUTE moves undelivered pending sources to the new target engine. -/
  | routeWrite (source : Fin 128) (toP1 : Bool)
  /-- RDIR_CLEAR (R435). Writing 1 to RDIR clears a source's redirect flag. -/
  | rdirClear (source : Fin 128)
  /-- SERVICE_ENTRY (R438). Lead takes the next service-ring entry, checks it and accepts or rejects it. -/
  | serviceEntry (engine : Fin 2)
  /-- FRAME_PORT_SEND (R439). Writing SEND sends a UDP datagram from the frame port, or is refused. -/
  | framePortSend (engine : Fin 2)
  /-- REGISTER_WRITE (R8). A write to a register field that has no behaviour of its own sets the field. -/
  | registerWrite (engine : Fin 2) (addr : Word) (value : Word)
  /-- FEED_ABSENT (R442). A feed has been below 15.0 V for 1 ms and is declared absent. -/
  | feedAbsent (feed : Fin 2)
  /-- FEED_PRESENT (R442). A feed has been above 17.5 V for 100 ms and is declared present. -/
  | feedPresent (feed : Fin 2)
  /-- FEED_LOW (R442). A present feed has been below 18.0 V for 100 ms. -/
  | feedLow (feed : Fin 2)
  /-- SDS_START (R445). The hub starts the string-derived supply within 200 ms with the string at 100 V or more, or stops it below. -/
  | sdsStart (high : Bool) (ok : Bool)
  /-- POWER_FAIL_WARNING (R448). The combined rail falls below the warning threshold; PFWARN sets and flash programming waits. -/
  | powerFailWarning
  /-- POWER_RESTORED (R448). The rail rises back above 17.0 V and PFWARN clears. -/
  | powerRestored
  /-- POWER_LOST (R448). The rail has not recovered 20 ms after the warning; the converter stops, time is secured and a save begins. -/
  | powerLost
  /-- CTL_SHUTDOWN (R448). The rail falls below 12.0 V; CTL and KEN go off and every fibre transmitter goes dark. -/
  | ctlShutdown (torn : Bool)
  /-- STACK_OFF (R449). The leash has been silent with a negligible SDS load for 10 s, so the Stack Half enters Off. -/
  | stackOff
  /-- HOLDUP_TEST (R447). At BOOT and every 24 h, the hold-up store is measured by a 10 ms discharge. -/
  | holdupTest (present : Nat) (full : Nat)
  /-- KENNEL_CHECKPOINT (R451). Every 10 ms Lead writes and reads back a Kennel checkpoint. -/
  | kennelCheckpoint (ok : Bool)
  /-- LEAD_WATCHDOG (R453). Lead misses its watchdog write in 5 consecutive control cycles, and a takeover starts. -/
  | leadWatchdog
  /-- LEAD_SELFTEST_FAIL (R453). Lead's self-test reports a failure, and a takeover starts. -/
  | leadSelftestFail
  /-- LEAD_DOUBLE_FAULT (R453). A second refusal on Lead's access path during handling starts a takeover. -/
  | leadDoubleFault
  /-- HINGE_HOLD_END (R455). A Hinge hold ends: the loop presets and the waiting admissions, decisions and requests are taken. -/
  | hingeHoldEnd
  /-- HINGE_HOLD_LIMIT (R456). A hold has lasted 200 ms; i_ref ramps to 0, Lead is restarted and SUPERVISOR_LOST stops the converter. -/
  | hingeHoldLimit
  /-- TAKEOVER_MONITOR_TEST (R453). Every 1 s Lead tests the takeover monitor through a simulated expiry. -/
  | takeoverMonitorTest (ok : Bool)
  /-- LEAD_HANDBACK (R457). Lead's self-test has run clean for 60 s, and control is handed back under a short hold. -/
  | leadHandback
  /-- RESERVE_STANDBY_TEST (R458). At BOOT and every 24 h, Reserve is self-tested with a trial checkpoint restore. -/
  | reserveStandbyTest (ok : Bool)
  /-- DEBUG_ACCESS (R473). A debug-port operation is performed or refused according to the debug state. -/
  | debugAccess (part : Machine.DbgPart) (op : Machine.DbgOp)
  /-- DEBUG_OPEN_EXPIRY (R476). An open debug state's MINUTES elapse, and it ends as if commanded to Locked. -/
  | debugOpenExpiry
  /-- DEBUG_CLOSE_DONE (R475). Every restart of the exit sequence completes, and TOUCHED and CLOSING clear. -/
  | debugCloseDone
  /-- SEC_GET_DEBUG (R481). Returns the debug state words. -/
  | secGetDebug (src : Machine.Src)
  /-- SEC_DEBUG_CHALLENGE (R476). Returns a nonce for opening a debug state. -/
  | secDebugChallenge (src : Machine.Src) (state : Nat)
  /-- SEC_DEBUG_SET (R476). Opens or closes a debug state against a signed grant. -/
  | secDebugSet (src : Machine.Src) (state : Nat) (minutes : Nat) (signer : Nat) (key : List Byte) (sig : List Byte)
  /-- SEC_KEY_ENROLL (R472). Enrols an operator key into a slot. -/
  | secKeyEnroll (src : Machine.Src) (slot : Nat) (key : List Byte) (signer : Nat) (sig : List Byte)
  /-- SEC_KEY_REVOKE (R472). Revokes an operator key. -/
  | secKeyRevoke (src : Machine.Src) (slot : Nat) (signer : Nat) (sig : List Byte)
  /-- SEC_KEY_LIST (R481). Returns the key store contents. -/
  | secKeyList (src : Machine.Src)
  /-- UPD_BEGIN (R491). Starts an update by erasing the inactive slot. -/
  | updBegin (src : Machine.Src) (length : Nat) (bcrc : Nat)
  /-- UPD_ERASE_DONE (R491). The erase ends and the update moves to RECEIVING or FAILED. -/
  | updEraseDone (ok : Bool)
  /-- UPD_BLOCK (R492). Writes one block of the bundle. -/
  | updBlock (src : Machine.Src) (off : Nat) (data : List Byte) (ok : Bool)
  /-- UPD_VERIFY (R493). Checks the received bundle. -/
  | updVerify (src : Machine.Src)
  /-- UPD_ACTIVATE (R497). Prepares and activates the verified bundle live, or arms it for BOOT. -/
  | updActivate (src : Machine.Src)
  /-- ACTIVATION_PAUSE (R499). After preparation, command service pauses and the engines restart from the new slot under a Hinge hold. -/
  | activationPause
  /-- UPD_CONFIRM (R502). Confirms the running bundle. -/
  | updConfirm (src : Machine.Src)
  /-- UPD_ABORT (R503). Abandons the update, or reverts the trial. -/
  | updAbort (src : Machine.Src)
  /-- UPD_GET_STATUS (R490). Returns the update status tile words. -/
  | updGetStatus (src : Machine.Src)
  /-- UPD_CONFIRM_TIMEOUT (R503). The 10-minute confirmation deadline passes, and the record names PREV. -/
  | updConfirmTimeout
  /-- SETTINGS_WRITE (R506). Within 5 s of a settings change, a new settings copy is written. -/
  | settingsWrite (ok : Bool)
  /-- KEEP_WRITE (R523). Lead writes and reads back the next queued Keep record. -/
  | keepWrite (fails : Fin 3)
  /-- TIME_WORD_WRITE (R525). Every 1,000 ms a time word is written alternately. -/
  | timeWordWrite
  /-- LOG_READ_FAST (R529). Returns Fast records. -/
  | logReadFast (src : Machine.Src) (first : Nat) (count : Nat) (sev : Nat) (reserved : Nat)
  /-- LOG_READ_KEEP (R529). Returns Keep records of an area. -/
  | logReadKeep (src : Machine.Src) (first : Nat) (count : Nat) (sev : Nat) (area : Nat) (reserved : Nat)
  /-- LOG_GET_POINTERS (R531). Returns the log pointer and time tile words. -/
  | logGetPointers (src : Machine.Src)
  /-- LOG_WRITE_NOTE (R531). Raises LOG_NOTE with a text. -/
  | logWriteNote (src : Machine.Src) (sev : Nat) (text : List Byte)
  /-- UPD_VERIFY_DONE (R493). The bundle evaluation started by UPD_VERIFY ends, up to 2 s later, and USTATE goes from VERIFYING to VERIFIED or FAILED. -/
  | updVerifyDone
  /-- CONFIG_ACK_TIMEOUT (R239). A phase has not acknowledged a CONFIG sent after I_FAST changed in RUN within 10 ms, and it goes to IDENT. -/
  | configAckTimeout (phase : Fin 8)
  /-- WAKE_ROLLCALL_GRACE_END (R212). 300 ms after the fibre bank is switched on at wake, each phase that has not answered a roll-call goes to SEARCH, and the 10 µs uplink rule acts again. -/
  | wakeRollcallGraceEnd
  /-- CAN_BUSOFF_RECOVERED (R396). A controller completes the standard bus-off recovery and returns to error-active, which changes EST. -/
  | canBusoffRecovered (ctl : Fin 2)
  /-- SFB_MIRROR_CHANGE (R296). A mirror-contact feedback input SFB1 to SFB3 changes level; the weld and failure-to-close counts start or stop, and a weld cause clears when the mirror closes. -/
  | sfbMirrorChange (out : Fin 3) (closed : Bool) (count : Nat)
  /-- COMPARATOR_RELEASE (R96). A tripped cell comparator returns across its threshold and hysteresis, so its trip stops and the comparator cause clears. -/
  | comparatorRelease (cell : Fin 512) (ov : Bool) (pair : Bool)
  /-- BARK_LINE_RELEASED (R306). The bark line rises above the receiver high threshold, which meets condition 4 during a reset or ends an external assertion. -/
  | barkLineReleased
  /-- SRST_RISE (R307). The SRST input rises and a press begins, which starts its timing towards a valid press or SRST_STUCK. -/
  | srstRise (count : Nat)
  /-- HUB_STRING_START (R445). The hub's string input rises through 150 V from below 50 V as the string power sense connector is mated, and the hub starts itself from the string. -/
  | hubStringStart
  deriving DecidableEq, Repr

end Sys2Proof
end

