-- ==== Sys2Proof/Machine/Bytes.lean ====
section
/-! DEFINITION. Byte order, bit-field packing, checks (CRC-32C, CRC-8) and list helpers that every family uses. -/

namespace Sys2Proof.Machine

/-- The `n` bytes of `v`, least significant first: the byte order of every multi-byte field (scope, Numbers). -/
def leBytes : Nat → Nat → List Byte
  | 0, _ => []
  | n + 1, v => BitVec.ofNat 8 v :: leBytes n (v / 256)

/-- The number that little-endian bytes spell. -/
def leNat : List Byte → Nat
  | [] => 0
  | b :: bs => b.toNat + 256 * leNat bs

/-- `n` bytes of `bs` from offset `o`, as a little-endian number; bytes beyond the end count as 0. -/
def leField (bs : List Byte) (o n : Nat) : Nat := leNat ((bs.drop o).take n)

/-- The two's-complement reading of an `n`-bit number. -/
def toSigned (n v : Nat) : Int := if v % 2 ^ n < 2 ^ (n - 1) then (v % 2 ^ n : Nat) else ((v % 2 ^ n : Nat) : Int) - 2 ^ n

/-- `n` bytes from offset `o` read as two's complement. -/
def leSigned (bs : List Byte) (o n : Nat) : Int := toSigned (8 * n) (leField bs o n)

/-- The two's-complement encoding of `v` in `n` bits. -/
def ofSigned (n : Nat) (v : Int) : Nat := (v % (2 : Int) ^ n).toNat

/-- A 32-bit word from a number, keeping the low 32 bits. -/
def w32 (v : Nat) : Word := BitVec.ofNat 32 v

/-- A 32-bit word from a signed value, two's complement. -/
def ws32 (v : Int) : Word := BitVec.ofInt 32 v

/-- The low `hi-lo+1` bits of `v`, placed at bit `lo`: one field of a word. -/
def fieldAt (hi lo v : Nat) : Nat := (v % 2 ^ (hi + 1 - lo)) * 2 ^ lo

/-- A word from its fields (hi, lo, value). -/
def packWord (fs : List (Nat × Nat × Nat)) : Word := w32 (fs.foldl (fun a f => a + fieldAt f.1 f.2.1 f.2.2) 0)

/-- Bits hi:lo of a number. -/
def bitsOf (hi lo v : Nat) : Nat := v / 2 ^ lo % 2 ^ (hi + 1 - lo)

/-- Bit `i` of a number. -/
def bitOf (i v : Nat) : Bool := v.testBit i

/-- A flag as a bit. -/
def b2n (b : Bool) : Nat := if b then 1 else 0

/-- A list of flags as a number, item 0 the least significant bit. -/
def maskOf : List Bool → Nat
  | [] => 0
  | b :: bs => b2n b + 2 * maskOf bs

/-- The set bits of a mask below `n`, as a list of flags. -/
def flagsOf (n m : Nat) : List Bool := (List.range n).map fun i => m.testBit i

/-- The indexes below `n` whose bit is set in the mask. -/
def membersOf (n m : Nat) : List Nat := (List.range n).filter fun i => m.testBit i

/-- An s32 measurement word: `none` is the code 0x8000_0000, and a value beyond the range saturates (R13). -/
def s32Word : Option Int → Word
  | none => 0x80000000#32
  | some v => ws32 (max (-2147483647) (min 2147483647 v))

/-- An s16 measurement: `none` is 0x8000, and a value beyond the range saturates (R13). -/
def s16Nat : Option Int → Nat
  | none => 0x8000
  | some v => ofSigned 16 (max (-32767) (min 32767 v))

/-- An s16 value without the no-value code. -/
def s16Of (v : Int) : Nat := ofSigned 16 (max (-32768) (min 32767 v))

/-- One step of the bit-serial CRC of a reflected polynomial. -/
def crcBit (poly : Nat) (c : Nat) : Nat := if c % 2 = 1 then (c / 2).xor poly else c / 2

/-- One byte of a reflected CRC. -/
def crcByte (poly : Nat) (c : Nat) (b : Byte) : Nat :=
  let x := c.xor b.toNat
  crcBit poly (crcBit poly (crcBit poly (crcBit poly (crcBit poly (crcBit poly (crcBit poly (crcBit poly x)))))))

/-- CRC-32C, the reflected Castagnoli polynomial with initial value and final inversion of all ones (R352). -/
def crc32c (bs : List Byte) : Nat := (bs.foldl (crcByte 0x82F63B78) 0xFFFFFFFF).xor 0xFFFFFFFF

/-- The bytes of a list of words, each word little-endian. -/
def wordsBytes (ws : List Word) : List Byte := ws.flatMap fun w => leBytes 4 w.toNat

/-- The `n`-th item of a list, replaced by `f` of it. -/
def modAt {α : Type} (l : List α) (n : Nat) (f : α → α) : List α := l.modify n f

/-- Every item `i` of a list replaced by `f i` of it. -/
def mapIdx' {α β : Type} (f : Nat → α → β) (l : List α) : List β := l.mapIdx f

/-- The smallest number of a list, if any. -/
def minOf? : List Nat → Option Nat
  | [] => none
  | x :: xs => some (xs.foldl min x)

/-- Division of integers rounded to nearest, halves away from zero. -/
def divNear (a : Int) (b : Int) : Int :=
  if b = 0 then 0
  else if b < 0 then (if 0 ≤ -a then (-a + (-b) / 2) / (-b) else -((a + (-b) / 2) / (-b)))
  else if 0 ≤ a then (a + b / 2) / b else -((-a + b / 2) / b)

/-- `v` kept between `lo` and `hi`. -/
def clampI (lo hi v : Int) : Int := max lo (min hi v)

/-- A count that saturates at `m`. -/
def satAdd (m n k : Nat) : Nat := min m (n + k)

/-- A list of (key, value) pairs with strictly rising keys: the value at a key, if listed. -/
def lookupKey {α : Type} (l : List (Nat × α)) (k : Nat) : Option α := (l.find? fun p => p.1 == k).map (·.2)

/-- Put a value at a key, keeping the keys strictly rising. -/
def insertKey {α : Type} (k : Nat) (v : α) : List (Nat × α) → List (Nat × α)
  | [] => [(k, v)]
  | (j, w) :: l => if k < j then (k, v) :: (j, w) :: l else if k = j then (k, v) :: l else (j, w) :: insertKey k v l

/-- Remove a key. -/
def eraseKey {α : Type} (k : Nat) (l : List (Nat × α)) : List (Nat × α) := l.filter fun p => p.1 != k

end Sys2Proof.Machine
end

