-- ==== Sys2Proof/Machine/Numeric.lean ====
section
/-! DEFINITION. Fixed-point arithmetic: the spec writes its filters, loops and spectra over real numbers and fixes no number format; this model holds such
values as whole multiples of 2^-96 (log entry 6, DESIGN CHOICE). -/

namespace Sys2Proof.Machine

/-- A fixed-point value: a whole number of 2^-96. -/
abbrev Fx := Int

/-- One, in fixed point. -/
def fxOne : Fx := 79228162514264337593543950336

/-- A whole number in fixed point. -/
def fxI (n : Int) : Fx := n * fxOne

/-- A ratio in fixed point, 0 for a zero divisor. -/
def fxQ (a b : Int) : Fx := if b = 0 then 0 else a * fxOne / b

/-- Product. -/
def fxMul (a b : Fx) : Fx := a * b / fxOne

/-- Quotient, 0 for a zero divisor. -/
def fxDiv (a b : Fx) : Fx := if b = 0 then 0 else a * fxOne / b

/-- The whole number nearest to a fixed-point value, halves rounded up. -/
def fxRound (a : Fx) : Int := (a + fxOne / 2) / fxOne

/-- Square root, 0 for a negative value. -/
def fxSqrt (a : Fx) : Fx := if a ≤ 0 then 0 else (Nat.sqrt (a.toNat * 79228162514264337593543950336) : Nat)

/-- The Taylor sum of e^x to the term of degree `n`, by Horner's rule from the highest term: 1 + x/k (1 + x/(k+1) …). -/
def expHorner (x : Fx) : Nat → Nat → Fx
  | 0, _ => fxOne
  | n + 1, k => fxOne + fxMul x (expHorner x n (k + 1)) / (k : Int)

/-- Repeated squaring, `n` times. -/
def sqTimes : Nat → Fx → Fx
  | 0, y => y
  | n + 1, y => sqTimes n (fxMul y y)

/-- e^x for x ≤ 0 or moderate x: the argument is divided by 2^8, summed to degree 16 and squared back. -/
def fxExp (x : Fx) : Fx := if x < fxI (-60) then 0 else sqTimes 8 (expHorner (x / 256) 20 1)

/-- The odd series of 2·artanh y: 2 (y + y³/3 + …), `n` terms. -/
def artanhSum (y y2 : Fx) : Nat → Nat → Fx
  | 0, _ => 0
  | n + 1, k => y / (k : Int) + artanhSum (fxMul y y2) y2 n (k + 2)

/-- ln 2 in fixed point. -/
def fxLn2 : Fx := 54916777467707473351141471128

/-- Halve or double a positive value into [3/4, 3/2), counting the powers of two; `n` steps at most. -/
def lnReduce : Nat → Fx → Int → Fx × Int
  | 0, x, e => (x, e)
  | n + 1, x, e => if 2 * x ≥ 3 * fxOne then lnReduce n (x / 2) (e + 1) else if 4 * x < 3 * fxOne then lnReduce n (2 * x) (e - 1) else (x, e)

/-- Natural logarithm of a positive value, 0 for others. -/
def fxLn (x : Fx) : Fx :=
  if x ≤ 0 then 0
  else
    let (m, e) := lnReduce 128 x 0
    let y := fxDiv (m - fxOne) (m + fxOne)
    2 * artanhSum y (fxMul y y) 36 1 + e * fxLn2

/-- π in fixed point. -/
def fxPi : Fx := 248902613312231085230521944622

/-- The alternating series x - x³/(k(k+1)) …: sine from k = 2, with the first term given. -/
def sinSum (t x2 : Fx) : Nat → Nat → Fx
  | 0, _ => t
  | n + 1, k => t + sinSum (-(fxMul t x2) / ((k * (k + 1) : Nat) : Int)) x2 n (k + 2)

/-- Sine of an angle in turns of 2^-96. -/
def sinTurn (t : Fx) : Fx :=
  let u := t % fxOne
  let v := if 4 * u ≥ 3 * fxOne then u - fxOne else if 4 * u ≥ fxOne then fxOne / 2 - u else u
  let x := fxMul (2 * fxPi) v
  sinSum x (fxMul x x) 20 2

/-- Cosine of an angle in turns. -/
def cosTurn (t : Fx) : Fx := sinTurn (t + fxOne / 4)

/-- The series of arctangent for small y. -/
def atanSum (y y2 : Fx) : Nat → Nat → Fx
  | 0, _ => 0
  | n + 1, k => y / (k : Int) - atanSum (fxMul y y2) y2 n (k + 2)

/-- Arctangent of y, |y| ≤ 1, with one halving of the angle. -/
def atanUnit (y : Fx) : Fx :=
  let h := fxDiv y (fxOne + fxSqrt (fxOne + fxMul y y))
  2 * atanSum h (fxMul h h) 44 1

/-- The angle of (x, y) in radians, 0 at the origin. -/
def fxAtan2 (y x : Fx) : Fx :=
  if x = 0 ∧ y = 0 then 0
  else if |y| ≤ |x| then
    let a := atanUnit (fxDiv y x)
    if 0 < x then a else if 0 ≤ y then a + fxPi else a - fxPi
  else
    let a := atanUnit (fxDiv x y)
    if 0 < y then fxPi / 2 - a else -(fxPi / 2) - a

end Sys2Proof.Machine
end

