-- ==== Sys2Proof/Config.lean ====
section
/-! DEFINITION. What one unit fixes and the spec leaves open: opaque constants, of which nothing can be proved but that they are the same each time they are asked. -/

namespace Sys2Proof.Config

/-- A fresh draw of the module's random source, or a value that the spec leaves open at one moment: applied to the count of draws made (log entry 3). -/
opaque freeValue : Nat → BitVec 64

/-- The hub's fixed turnaround of R37, ns: the spec names it and gives no figure (log entry 4). -/
opaque hubTurnaround : Nat

/-- The resistance of the bleed resistor of a cell as measured at manufacture, mΩ (R122: 18.0 Ω ± 2 %; log entry 4). -/
opaque bleedMilliohm : Nat → Nat

/-- The leg efficiency calibrated at manufacture, parts per million, by segment, cell-side current in mA and cell voltage in µV (R124; log entry 4). -/
opaque legEta : Nat → Int → Int → Nat

/-- The module's Ethernet address, which R377 gives it and no rule states (log entry 4). -/
opaque macAddress : Nat

/-- The module's PTP clock identity (log entry 4). -/
opaque clockIdentity : Nat

/-- The covariance of a filter's states at initialisation, but for the variance of z: entry of rows `a` ≤ `b` in the fixed point of the filters (R155; log entry 9). -/
opaque initialCovariance : Nat → Nat → Int

/-- The temperature, 0.01 °C, of a cell that has never had a temperature source (R154; log entry 10). -/
opaque firstTemperature : Int

/-- Voltage (0) and current (1) at initialisation where the W1 result holds no value, in the fixed point of the filters (R172; log entry 10). -/
opaque unreadAtInit : Nat → Int

/-- The code by which records name a part of the inventory: row of R60's table, index in the row (R513; log entry 21). -/
opaque partCode : Nat → Nat → Nat

/-- The cause code of the change from BOOT to PARK, which no event names (R19, R514; log entry 29). -/
opaque bootParkCause : Nat

/-- Bytes of local RAM of the vendor engines by TARGET, which R466 compares BODYLEN with and no rule states (log entry 46). -/
opaque engineRam : Nat → Nat

/-- Whether an illegal-instruction trap of a policy engine puts the instruction word into mtval (R412; log entry 49). -/
opaque illegalInMtval : Bool

/-- Whether a misaligned load or store inside local RAM is carried out by the policy engines (R412; log entry 49). -/
opaque misalignedRam : Bool

/-- Whether EBREAK of a policy engine puts its address into mtval (R412; log entry 49). -/
opaque ebreakInMtval : Bool

end Sys2Proof.Config
end

