-- ==== Sys2Proof/Machine/Parts/Events.lean ====
section
/-! DEFINITION. The event names of the spec's event tables (R512) and of the module records (R513), and the five severities (R515). -/

namespace Sys2Proof.Machine

/-- The severities of a record, 0 Trace to 4 Safety (R515). -/
inductive Severity where
  | trace | info | warning | fault | safety
  deriving DecidableEq, Repr

/-- Every event of the event tables, in the order of the tables; each is followed by its rule. -/
inductive Event where
  -- R53
  | leashLaneDown
  | leashLaneUp
  | leashLaneFlap
  | leashCmdFail
  | leashSnapMissed
  | leashDelayStep
  -- R92
  | senseRange
  | senseChannelFault
  | currentChLost
  | currentBothLost
  | currentXchk
  | stringVXchk
  | refDisagree
  | refFail
  | wireOverLimit
  | wireLearnInconsist
  | windowLockLost
  | thOpen
  | thShort
  | senseRateChanged
  -- R118
  | compOv
  | compUv
  | barkExt
  | senseSuspect
  | senseOpen
  | senseOpenCleared
  | senseOpenMulti
  | senseOpenEnd
  | wireResistive
  | cellPairAnomaly
  | senseSumMismatch
  | ringRungDown
  | ringRungUp
  | ringSplit
  | leashLost
  | leashRestored
  -- R145
  | balEnabled
  | balDisabled
  | shuttleFault
  | bridgeFault
  | bleedStuck
  | balDerate
  | balOvertemp
  | balPowerLimit
  | balManualEnd
  -- R179
  | fltAnchor
  | fltCapUpdate
  | fltCapReject
  | fltInvalid
  | fltInnov
  | fltRsClamp
  | fltTclamp
  | fltSlotMissing
  | fltSlotCommit
  | fltSeqTakeover
  | fltAllSeqLost
  | fltWake
  | fltSave
  | fltSaveFail
  -- R205
  | impJobStart
  | impJobEnd
  | impSkip
  | impClip
  | impToffLearn
  | impGrowth
  | impOutlier
  | impEngineSingle
  -- R247
  | cnvPhaseJoin
  | cnvPhaseLeave
  | cnvPhaseOut
  | cnvGduChanged
  | cnvPhasesLow
  | cnvFastLimit
  | cnvPhaseHiccup
  | cnvSsHiccup
  | softstartShort
  | softstartTimeout
  | cnvPrecheckFail
  | cnvSsDone
  | cnvLinkOv
  | cnvIsumXchk
  | cnvI2tLimit
  | cnvRetune
  | cnvRetuneReject
  | cnvLock
  | cnvLockLost
  -- R282
  | loopSrcLost
  | loopSrcBack
  | loopFallback
  | loopPreset
  | loopFfLost
  | loopSchedCommit
  | loopSchedMode
  | thmTempLost
  | thmFire
  | fpStall
  | lvStall
  | lvOvercurrent
  | lvFbLost
  | lvLearnDone
  | lvLearnFail
  -- R324
  | safeSsi
  | safeSps
  | siDemand
  | sdmDoorOpen
  | siDiscrepancy
  | siCrossShort
  | tpFault
  | soTestFail
  | contactorWeld
  | contactorFault
  | lockstepLost
  | safetyEngineLost
  | latchDisagree
  | latchLockout
  | isoWarn
  | safeResetDone
  | safeResetDenied
  | srstStuck
  | floorWrite
  | floorWriteFail
  | authFail
  | safeTestBegin
  | safeTestEnd
  -- R374
  | imgTileCheck
  | imgTileStuck
  | imgHoldLong
  -- R407
  | sfpFault
  | prpLanLost
  | prpLanBack
  | netAllLost
  | ptpLock
  | ptpUnlock
  | ptpHoldover
  | ptpGmChange
  | timeStep
  | txtsOverflow
  | canErrPassive
  | canBusOff
  | canAlone
  | canAckSeen
  | canRqFull
  | partnerJoin
  | partnerLost
  | partnerFull
  | canNodeClash
  -- R441
  | polStart
  | polImageBad
  | polRestart
  | polHeld
  | polDoubleFault
  | polDmaFault
  | polIrqRedirect
  | polBatchOverrun
  -- R464
  | feedLost
  | feedBack
  | feedLow
  | sdsFault
  | powerDip
  | powerRestored
  | powerLost
  | holdupLow
  | regFault
  | hingeFault
  | leadTakeover
  | leadReturn
  | leadHeld
  | reserveFault
  | kennelFault
  | takeoverMonFault
  | supervisorLost
  -- R484
  | bootAltSlot
  | bootImageBad
  | keyEnrolled
  | keyRevoked
  | svnRaised
  | debugOpen
  | debugFullOpen
  | debugClosed
  | debugDenied
  -- R511
  | updStarted
  | updBlockFail
  | updVerified
  | updVerifyFail
  | updActivated
  | updAbandoned
  | updConfirmed
  | updConfirmTimeout
  | updAborted
  | updFellBack
  | setMigrated
  | setDefaults
  | setWriteFail
  -- R539
  | logNote
  | logTorn
  | logReserveHigh
  | logSafetyFull
  | logWriteFail
  | learnCopyBad
  | learnNone
  | optimeResumed
  -- R513, the module records without an event table of their own
  | stateChange
  | backupTakeover
  | sessionOpen
  | sessionClose
  | ownerChange
  deriving DecidableEq, Repr

end Sys2Proof.Machine
end

