-- ==== Sys2Proof/Machine/EventTable.lean ====
section
/-! DEFINITION. The code (R512, R513), the severity and the converter-stop mark of every event, row for row from the spec's event tables. -/

namespace Sys2Proof.Machine

/-- The u16 event code: the base of the table plus the position of the event in it (R512, R513). -/
def Event.code : Event → Nat
  | .leashLaneDown => 0x0121
  | .leashLaneUp => 0x0122
  | .leashLaneFlap => 0x0123
  | .leashCmdFail => 0x0124
  | .leashSnapMissed => 0x0125
  | .leashDelayStep => 0x0126
  | .senseRange => 0x0301
  | .senseChannelFault => 0x0302
  | .currentChLost => 0x0303
  | .currentBothLost => 0x0304
  | .currentXchk => 0x0305
  | .stringVXchk => 0x0306
  | .refDisagree => 0x0307
  | .refFail => 0x0308
  | .wireOverLimit => 0x0309
  | .wireLearnInconsist => 0x030A
  | .windowLockLost => 0x030B
  | .thOpen => 0x030C
  | .thShort => 0x030D
  | .senseRateChanged => 0x030E
  | .compOv => 0x0341
  | .compUv => 0x0342
  | .barkExt => 0x0343
  | .senseSuspect => 0x0344
  | .senseOpen => 0x0345
  | .senseOpenCleared => 0x0346
  | .senseOpenMulti => 0x0347
  | .senseOpenEnd => 0x0348
  | .wireResistive => 0x0349
  | .cellPairAnomaly => 0x034A
  | .senseSumMismatch => 0x034B
  | .ringRungDown => 0x034C
  | .ringRungUp => 0x034D
  | .ringSplit => 0x034E
  | .leashLost => 0x034F
  | .leashRestored => 0x0350
  | .balEnabled => 0x0401
  | .balDisabled => 0x0402
  | .shuttleFault => 0x0403
  | .bridgeFault => 0x0404
  | .bleedStuck => 0x0405
  | .balDerate => 0x0406
  | .balOvertemp => 0x0407
  | .balPowerLimit => 0x0408
  | .balManualEnd => 0x0409
  | .fltAnchor => 0x0501
  | .fltCapUpdate => 0x0502
  | .fltCapReject => 0x0503
  | .fltInvalid => 0x0504
  | .fltInnov => 0x0505
  | .fltRsClamp => 0x0506
  | .fltTclamp => 0x0507
  | .fltSlotMissing => 0x0508
  | .fltSlotCommit => 0x0509
  | .fltSeqTakeover => 0x050A
  | .fltAllSeqLost => 0x050B
  | .fltWake => 0x050C
  | .fltSave => 0x050D
  | .fltSaveFail => 0x050E
  | .impJobStart => 0x0601
  | .impJobEnd => 0x0602
  | .impSkip => 0x0603
  | .impClip => 0x0604
  | .impToffLearn => 0x0605
  | .impGrowth => 0x0606
  | .impOutlier => 0x0607
  | .impEngineSingle => 0x0608
  | .cnvPhaseJoin => 0x0701
  | .cnvPhaseLeave => 0x0702
  | .cnvPhaseOut => 0x0703
  | .cnvGduChanged => 0x0704
  | .cnvPhasesLow => 0x0705
  | .cnvFastLimit => 0x0706
  | .cnvPhaseHiccup => 0x0707
  | .cnvSsHiccup => 0x0708
  | .softstartShort => 0x0709
  | .softstartTimeout => 0x070A
  | .cnvPrecheckFail => 0x070B
  | .cnvSsDone => 0x070C
  | .cnvLinkOv => 0x070D
  | .cnvIsumXchk => 0x070E
  | .cnvI2tLimit => 0x070F
  | .cnvRetune => 0x0710
  | .cnvRetuneReject => 0x0711
  | .cnvLock => 0x0712
  | .cnvLockLost => 0x0713
  | .loopSrcLost => 0x0801
  | .loopSrcBack => 0x0802
  | .loopFallback => 0x0803
  | .loopPreset => 0x0804
  | .loopFfLost => 0x0805
  | .loopSchedCommit => 0x0806
  | .loopSchedMode => 0x0807
  | .thmTempLost => 0x0808
  | .thmFire => 0x0809
  | .fpStall => 0x080A
  | .lvStall => 0x080B
  | .lvOvercurrent => 0x080C
  | .lvFbLost => 0x080D
  | .lvLearnDone => 0x080E
  | .lvLearnFail => 0x080F
  | .safeSsi => 0x0901
  | .safeSps => 0x0902
  | .siDemand => 0x0903
  | .sdmDoorOpen => 0x0904
  | .siDiscrepancy => 0x0905
  | .siCrossShort => 0x0906
  | .tpFault => 0x0907
  | .soTestFail => 0x0908
  | .contactorWeld => 0x0909
  | .contactorFault => 0x090A
  | .lockstepLost => 0x090B
  | .safetyEngineLost => 0x090C
  | .latchDisagree => 0x090D
  | .latchLockout => 0x090E
  | .isoWarn => 0x090F
  | .safeResetDone => 0x0910
  | .safeResetDenied => 0x0911
  | .srstStuck => 0x0912
  | .floorWrite => 0x0913
  | .floorWriteFail => 0x0914
  | .authFail => 0x0915
  | .safeTestBegin => 0x0916
  | .safeTestEnd => 0x0917
  | .imgTileCheck => 0x0201
  | .imgTileStuck => 0x0202
  | .imgHoldLong => 0x0203
  | .sfpFault => 0x0A01
  | .prpLanLost => 0x0A02
  | .prpLanBack => 0x0A03
  | .netAllLost => 0x0A04
  | .ptpLock => 0x0A05
  | .ptpUnlock => 0x0A06
  | .ptpHoldover => 0x0A07
  | .ptpGmChange => 0x0A08
  | .timeStep => 0x0A09
  | .txtsOverflow => 0x0A0A
  | .canErrPassive => 0x0A0B
  | .canBusOff => 0x0A0C
  | .canAlone => 0x0A0D
  | .canAckSeen => 0x0A0E
  | .canRqFull => 0x0A0F
  | .partnerJoin => 0x0A10
  | .partnerLost => 0x0A11
  | .partnerFull => 0x0A12
  | .canNodeClash => 0x0A13
  | .polStart => 0x0E01
  | .polImageBad => 0x0E02
  | .polRestart => 0x0E03
  | .polHeld => 0x0E04
  | .polDoubleFault => 0x0E05
  | .polDmaFault => 0x0E06
  | .polIrqRedirect => 0x0E07
  | .polBatchOverrun => 0x0E08
  | .feedLost => 0x0F01
  | .feedBack => 0x0F02
  | .feedLow => 0x0F03
  | .sdsFault => 0x0F04
  | .powerDip => 0x0F05
  | .powerRestored => 0x0F06
  | .powerLost => 0x0F07
  | .holdupLow => 0x0F08
  | .regFault => 0x0F09
  | .hingeFault => 0x0F0A
  | .leadTakeover => 0x0F0B
  | .leadReturn => 0x0F0C
  | .leadHeld => 0x0F0D
  | .reserveFault => 0x0F0E
  | .kennelFault => 0x0F0F
  | .takeoverMonFault => 0x0F10
  | .supervisorLost => 0x0F11
  | .bootAltSlot => 0x0D01
  | .bootImageBad => 0x0D02
  | .keyEnrolled => 0x0D03
  | .keyRevoked => 0x0D04
  | .svnRaised => 0x0D05
  | .debugOpen => 0x0D06
  | .debugFullOpen => 0x0D07
  | .debugClosed => 0x0D08
  | .debugDenied => 0x0D09
  | .updStarted => 0x0B01
  | .updBlockFail => 0x0B02
  | .updVerified => 0x0B03
  | .updVerifyFail => 0x0B04
  | .updActivated => 0x0B05
  | .updAbandoned => 0x0B06
  | .updConfirmed => 0x0B07
  | .updConfirmTimeout => 0x0B08
  | .updAborted => 0x0B09
  | .updFellBack => 0x0B0A
  | .setMigrated => 0x0B0B
  | .setDefaults => 0x0B0C
  | .setWriteFail => 0x0B0D
  | .logNote => 0x0C01
  | .logTorn => 0x0C02
  | .logReserveHigh => 0x0C03
  | .logSafetyFull => 0x0C04
  | .logWriteFail => 0x0C05
  | .learnCopyBad => 0x0C06
  | .learnNone => 0x0C07
  | .optimeResumed => 0x0C08
  | .stateChange => 0x0101
  | .backupTakeover => 0x0102
  | .sessionOpen => 0x0103
  | .sessionClose => 0x0104
  | .ownerChange => 0x0105

/-- The cause code of a change that a command causes (R513); never a record. -/
def commandCause : Nat := 0x0106

/-- The severity that the event table gives. LOG_NOTE has the severity its command asks for (R531), so its raiser overrides this one;
a STATE_CHANGE into SAFE is a Safety record (R513), which its raiser overrides too. -/
def Event.severity : Event → Severity
  | .leashLaneDown => .warning
  | .leashLaneUp => .info
  | .leashLaneFlap => .warning
  | .leashCmdFail => .fault
  | .leashSnapMissed => .trace
  | .leashDelayStep => .warning
  | .senseRange => .warning
  | .senseChannelFault => .fault
  | .currentChLost => .warning
  | .currentBothLost => .fault
  | .currentXchk => .warning
  | .stringVXchk => .warning
  | .refDisagree => .warning
  | .refFail => .fault
  | .wireOverLimit => .warning
  | .wireLearnInconsist => .warning
  | .windowLockLost => .info
  | .thOpen => .warning
  | .thShort => .warning
  | .senseRateChanged => .info
  | .compOv => .safety
  | .compUv => .safety
  | .barkExt => .safety
  | .senseSuspect => .info
  | .senseOpen => .warning
  | .senseOpenCleared => .info
  | .senseOpenMulti => .fault
  | .senseOpenEnd => .fault
  | .wireResistive => .warning
  | .cellPairAnomaly => .fault
  | .senseSumMismatch => .fault
  | .ringRungDown => .warning
  | .ringRungUp => .info
  | .ringSplit => .safety
  | .leashLost => .fault
  | .leashRestored => .info
  | .balEnabled => .info
  | .balDisabled => .info
  | .shuttleFault => .warning
  | .bridgeFault => .warning
  | .bleedStuck => .warning
  | .balDerate => .info
  | .balOvertemp => .warning
  | .balPowerLimit => .trace
  | .balManualEnd => .info
  | .fltAnchor => .info
  | .fltCapUpdate => .info
  | .fltCapReject => .trace
  | .fltInvalid => .warning
  | .fltInnov => .warning
  | .fltRsClamp => .warning
  | .fltTclamp => .info
  | .fltSlotMissing => .warning
  | .fltSlotCommit => .info
  | .fltSeqTakeover => .warning
  | .fltAllSeqLost => .fault
  | .fltWake => .info
  | .fltSave => .trace
  | .fltSaveFail => .warning
  | .impJobStart => .trace
  | .impJobEnd => .info
  | .impSkip => .trace
  | .impClip => .trace
  | .impToffLearn => .info
  | .impGrowth => .warning
  | .impOutlier => .warning
  | .impEngineSingle => .warning
  | .cnvPhaseJoin => .info
  | .cnvPhaseLeave => .warning
  | .cnvPhaseOut => .warning
  | .cnvGduChanged => .info
  | .cnvPhasesLow => .fault
  | .cnvFastLimit => .trace
  | .cnvPhaseHiccup => .warning
  | .cnvSsHiccup => .warning
  | .softstartShort => .fault
  | .softstartTimeout => .fault
  | .cnvPrecheckFail => .fault
  | .cnvSsDone => .info
  | .cnvLinkOv => .fault
  | .cnvIsumXchk => .warning
  | .cnvI2tLimit => .warning
  | .cnvRetune => .info
  | .cnvRetuneReject => .warning
  | .cnvLock => .info
  | .cnvLockLost => .warning
  | .loopSrcLost => .warning
  | .loopSrcBack => .info
  | .loopFallback => .warning
  | .loopPreset => .trace
  | .loopFfLost => .warning
  | .loopSchedCommit => .info
  | .loopSchedMode => .warning
  | .thmTempLost => .warning
  | .thmFire => .warning
  | .fpStall => .warning
  | .lvStall => .warning
  | .lvOvercurrent => .warning
  | .lvFbLost => .warning
  | .lvLearnDone => .info
  | .lvLearnFail => .warning
  | .safeSsi => .safety
  | .safeSps => .safety
  | .siDemand => .info
  | .sdmDoorOpen => .info
  | .siDiscrepancy => .fault
  | .siCrossShort => .fault
  | .tpFault => .fault
  | .soTestFail => .safety
  | .contactorWeld => .safety
  | .contactorFault => .fault
  | .lockstepLost => .safety
  | .safetyEngineLost => .safety
  | .latchDisagree => .safety
  | .latchLockout => .safety
  | .isoWarn => .warning
  | .safeResetDone => .info
  | .safeResetDenied => .warning
  | .srstStuck => .warning
  | .floorWrite => .info
  | .floorWriteFail => .fault
  | .authFail => .warning
  | .safeTestBegin => .info
  | .safeTestEnd => .info
  | .imgTileCheck => .warning
  | .imgTileStuck => .fault
  | .imgHoldLong => .warning
  | .sfpFault => .warning
  | .prpLanLost => .warning
  | .prpLanBack => .info
  | .netAllLost => .warning
  | .ptpLock => .info
  | .ptpUnlock => .warning
  | .ptpHoldover => .warning
  | .ptpGmChange => .info
  | .timeStep => .info
  | .txtsOverflow => .warning
  | .canErrPassive => .warning
  | .canBusOff => .warning
  | .canAlone => .warning
  | .canAckSeen => .info
  | .canRqFull => .warning
  | .partnerJoin => .info
  | .partnerLost => .warning
  | .partnerFull => .warning
  | .canNodeClash => .warning
  | .polStart => .info
  | .polImageBad => .warning
  | .polRestart => .warning
  | .polHeld => .fault
  | .polDoubleFault => .warning
  | .polDmaFault => .info
  | .polIrqRedirect => .trace
  | .polBatchOverrun => .trace
  | .feedLost => .warning
  | .feedBack => .info
  | .feedLow => .warning
  | .sdsFault => .warning
  | .powerDip => .warning
  | .powerRestored => .info
  | .powerLost => .fault
  | .holdupLow => .warning
  | .regFault => .warning
  | .hingeFault => .warning
  | .leadTakeover => .warning
  | .leadReturn => .info
  | .leadHeld => .warning
  | .reserveFault => .warning
  | .kennelFault => .warning
  | .takeoverMonFault => .warning
  | .supervisorLost => .fault
  | .bootAltSlot => .warning
  | .bootImageBad => .fault
  | .keyEnrolled => .info
  | .keyRevoked => .info
  | .svnRaised => .info
  | .debugOpen => .warning
  | .debugFullOpen => .fault
  | .debugClosed => .info
  | .debugDenied => .warning
  | .updStarted => .info
  | .updBlockFail => .warning
  | .updVerified => .info
  | .updVerifyFail => .warning
  | .updActivated => .info
  | .updAbandoned => .warning
  | .updConfirmed => .info
  | .updConfirmTimeout => .warning
  | .updAborted => .info
  | .updFellBack => .warning
  | .setMigrated => .info
  | .setDefaults => .warning
  | .setWriteFail => .warning
  | .logNote => .info
  | .logTorn => .warning
  | .logReserveHigh => .warning
  | .logSafetyFull => .fault
  | .logWriteFail => .warning
  | .learnCopyBad => .warning
  | .learnNone => .warning
  | .optimeResumed => .info
  | .stateChange => .info
  | .backupTakeover => .warning
  | .sessionOpen => .info
  | .sessionClose => .info
  | .ownerChange => .info

/-- True of the events whose table says that they stop the converter: the module goes to FAULT (R19, R53). -/
def Event.stopsConverter : Event → Bool
  | .currentBothLost => true
  | .senseOpenMulti => true
  | .senseOpenEnd => true
  | .cellPairAnomaly => true
  | .leashLost => true
  | .fltAllSeqLost => true
  | .cnvPhasesLow => true
  | .softstartShort => true
  | .softstartTimeout => true
  | .cnvPrecheckFail => true
  | .cnvLinkOv => true
  | .contactorFault => true
  | .powerLost => true
  | .supervisorLost => true
  | .bootImageBad => true
  | .debugFullOpen => true
  | _ => false

/-- The number of a severity in a record, 0 Trace to 4 Safety (R515). -/
def Severity.rank : Severity → Nat
  | .trace => 0
  | .info => 1
  | .warning => 2
  | .fault => 3
  | .safety => 4

end Sys2Proof.Machine
end

