-- ==== Sys2Proof/Machine/Parts/Balance.lean ====
section
/-! DEFINITION. Shuttle balancing: policy, placement, elements and counters (R119 to R145). -/

namespace Sys2Proof.Machine

/-- The policy settings of R126. -/
structure BalPolicy where
  goal : Nat
  mode : Nat
  start : Nat
  stop : Nat
  brStart : Nat
  brStop : Nat
  iSet : Nat
  iBr : Nat
  vMargin : Nat
  tFeedMin : Int
  tMax : Int
  maxBleed : Nat
  pwrMax : Nat
  deriving DecidableEq, Repr

/-- What a shuttle is doing (R142). -/
inductive ShuttleState where
  | idle | running | learning | manual | outOfService
  deriving DecidableEq, Repr

/-- One shuttle: its cell (global number), current in force and target current in mA, positive for a draw (R119, R142). -/
structure Shuttle where
  state : ShuttleState
  cell : Nat
  cur : Int
  runsThrough : Bool
  deriving DecidableEq, Repr

/-- A target of the placement or of BAL_MANUAL: segment-local shuttle index, or a bleed (R132, R138). -/
structure Target where
  cell : Nat
  bleed : Bool
  shuttle : Nat
  cur : Int
  manual : Bool
  deriving DecidableEq, Repr

/-- A manual target in force (R138). -/
structure Manual where
  seg : Nat
  target : Target
  endAt : Nat
  charge : Int
  deriving DecidableEq, Repr

/-- A cell's placement figures (R128 to R132, R144). -/
structure CellBal where
  exclReason : Nat
  dev : Option Int
  donor : Bool
  receiver : Bool
  limV : Bool
  limT : Bool
  bleed : Bool
  stuck : Bool
  /-- Drain of a stuck bleed switch, mA (R135). -/
  drain : Int
  deriving DecidableEq, Repr

/-- One segment's elements and counters (R119, R134, R142, R143). Charge in mA·ms, energy in µJ. -/
structure SegBal where
  shuttles : List Shuttle
  /-- Bridge towards the next segment: current on the sending rail, mA, positive upward; running; out of service. -/
  bridge : Int
  bridgeOn : Bool
  bridgeUp : Bool
  bridgeFault : Bool
  /-- Derate factor, fraction of 65,536, and the over-temperature stop (R134). -/
  kt : Nat
  derating : Bool
  overTemp : Bool
  railI : Int
  qDraw : Nat
  qFeed : Nat
  qBleed : Nat
  qBrUp : Nat
  qBrDn : Nat
  eLoss : Nat
  steps : Nat
  deriving DecidableEq, Repr

/-- The balancing engine (R119 to R145). -/
structure BalPart where
  en : Bool
  policy : BalPolicy
  cells : List CellBal
  segs : List SegBal
  /-- Targets received by the segments and not yet applied, with bridge currents, and the next stagger residue (R133). -/
  staged : List Target
  stagedBridges : List (Nat × Int)
  stagedActive : Bool
  staggerNext : Nat
  /-- Targets that wait for the stagger in progress (R139). -/
  queued : Option (List Target × List (Nat × Int))
  /-- Targets computed and sent but not yet at the segments (R133). -/
  sent : Option (List Target × List (Nat × Int))
  manuals : List Manual
  /-- A running BAL_ENABLE 0 (R137) and a running BAL_CLEAR_FAULT with its mask. -/
  disabling : Option Src
  clearing : Option (Src × Nat × Nat)
  /-- Every element opens at the next +1 µs event (R136). -/
  openNext : Bool
  pEst : Nat
  decisions : Nat
  kFactor : Nat
  socT : Nat
  pwrLim : Bool
  /-- Count of the latest counter update (R143). -/
  lastCount : Nat
  deriving DecidableEq, Repr

end Sys2Proof.Machine
end

