-- ==== Sys2Proof/Machine/Parts/Sense.lean ====
section
/-! DEFINITION. Simultaneous sensing, wires, comparators, open-wire test and bark line (R62 to R118, R565). -/

namespace Sys2Proof.Machine

/-- A running block average: the sum of the valid snapshots and how many they are (R73). -/
structure Acc where
  sum : Int
  n : Nat
  deriving DecidableEq, Repr

/-- Latest value, window results and running sums of one channel (R73). Sums are in the channel's own fine unit. -/
structure Chan where
  last : Option Int
  w0 : Option Int
  w1 : Option Int
  a0 : Acc
  a1 : Acc
  part0 : Bool
  part1 : Bool
  deriving DecidableEq, Repr

/-- An averaging window (R73, R74). -/
structure Window where
  locked : Bool
  nReq : Nat
  n : Nat
  m : Nat
  /-- Carrier-locked with a valid N. -/
  lock : Bool
  /-- Apertures of the run so far, and the count before which the window does not run (R76). -/
  pos : Nat
  startAt : Nat
  deriving DecidableEq, Repr

/-- One cell's measurement (R44, R66, R91). Fine unit: 1/2,048 µV, in which every CODE is a whole number. -/
structure CellSense where
  chan : Chan
  /-- The assigned thermistor (R67). -/
  thIdx : Nat
  excl : Bool
  learnp : Bool
  fbClosed : Bool
  corr : Bool
  cmp : Bool
  uvc : Bool
  ovc : Bool
  chf : Bool
  rng : Bool
  seq : Nat
  /-- Count since which the channel carries CHF, and whether the fault has been raised (R92). -/
  chfAt : Option Nat
  chfRaised : Bool
  /-- The latest 16 raw readings, newest first; `none` where a snapshot is not valid (R83). -/
  hist : List (Option Int)
  /-- The 16 raw readings before the latest step (R83). -/
  before : List (Option Int)
  /-- Readings excluded until this count has passed (R85, R86). -/
  exclUntil : Nat
  /-- The reference-check correction: offset in fine units and gain in parts per 10^9 (R66, R70). -/
  corrOff : Int
  corrGain : Int
  /-- The cell's comparators are in pair mode and its reading is half the pair channel (R106, R117). -/
  pair : Bool
  degr : Bool
  /-- The switch of the cell runs through the aperture until this count: a learning step (R85). -/
  stepUntil : Nat
  /-- Balancing current of the cell at its latest step, change in mA, and the count of the step (R83). -/
  stepDelta : Int
  stepAt : Nat
  deriving DecidableEq, Repr

/-- One sense wire (R83 to R85). -/
structure Wire where
  /-- Learned resistance, µΩ. -/
  r : Nat
  learned : Bool
  overLim : Bool
  /-- SENSE_OPEN reported; suspect or resistive (R105, R116). -/
  opened : Bool
  susp : Bool
  /-- Consecutive test cycles with a confirmed open pattern (R105, R565). -/
  patterns : Nat
  deriving DecidableEq, Repr

/-- One thermistor input (R67). -/
structure Therm where
  temp : Option Int
  isOpen : Bool
  isShort : Bool
  deriving DecidableEq, Repr

/-- An open-wire test slot in one segment (R103). -/
structure OwtSlot where
  wire : Nat
  /-- 1 switches open, 2 test current on, 3 test current off, 4 classified, 5 restore drive on, 6 restore drive off. -/
  phase : Nat
  /-- The comparators of the two cells are blanked, and the outputs held back under R565. -/
  blanked : Bool
  held : List (Nat × Bool)
  /-- The result of R104: 0 intact, 1 resistive, 2 open pattern, 3 disturbed. -/
  result : Option Nat
  deriving DecidableEq, Repr

/-- One segment (R70, R77, R86, R90, R102 to R110, R116). -/
structure SegSense where
  present : Bool
  compensated : Bool
  pendingMode : Option (Bool × Nat)
  curve : Nat
  refDis : Bool
  refOk : Bool
  refDev : Int
  refAt : Option Nat
  refBusy : Bool
  refFail : Bool
  /-- Die temperature, 0.01 °C, and the one at the latest reference check (R70). -/
  dieT : Option Int
  refT : Option Int
  twarn : Bool
  /-- Top-to-bottom channel in µV; fine unit µV. -/
  t2b : Chan
  sumW0 : Option Int
  t2bOff : Int
  t2bGain : Int
  learns : Nat
  /-- Comparator outputs after deglitching, live and latched, as masks of local cells (R96, R116). -/
  ovLive : Nat
  uvLive : Nat
  ovLat : Nat
  uvLat : Nat
  /-- Comparator outputs before deglitching: local cell, OV, count of the crossing (R95). -/
  crossing : List (Nat × Bool × Nat)
  /-- Deglitched outputs still tripped: local cell, or 32 + i for the pair comparator of local wire i, OV, and already named
  by COMP_OV or COMP_UV (R95, R96, R106). -/
  tripped : List (Nat × Bool × Bool)
  /-- Every switch is open: an open-wire slot, a trip, the shutter (R103, R86, R77). -/
  slotOpen : Bool
  shutterOpen : Bool
  tripOpen : Bool
  owt : Option OwtSlot
  owtCycles : Nat
  /-- Pairs in pair mode: wire and the pair channel in µV (R106, R116). -/
  pairs : List (Nat × Option Int)
  /-- Consecutive test apertures with a failed sum (R105). -/
  sumFails : Nat
  deriving DecidableEq, Repr

/-- A SENSE_REF_CHECK that waits: requester, segments named, segments done, passed, disagreeing, failed (R70, R87). -/
structure RefJob where
  src : Src
  named : Nat
  done : Nat
  passed : Nat
  dis : Nat
  failed : Bool
  deriving DecidableEq, Repr

/-- The aperture schedule (R38, R64). -/
structure Schedule where
  rate : Nat
  start : Nat
  deriving DecidableEq, Repr

/-- Sensing and sense integrity (R62 to R118). -/
structure SensePart where
  cells : List CellSense
  wires : List Wire
  segs : List SegSense
  therms : List Therm
  /-- String voltage (µV), selected current, primary, secondary (mA), power (W) and sum of segments (µV). -/
  strV : Chan
  cur : Chan
  pri : Chan
  sec : Chan
  pwr : Chan
  /-- Rate code in force, configured rate, and a change that waits for its start count (R62, R64). -/
  rate : Nat
  rateCfg : Nat
  pendingRate : Option Schedule
  win0 : Window
  win1 : Window
  /-- Shunt resistance, nΩ (R66). -/
  rsh : Nat
  isel2 : Bool
  vsel2 : Bool
  iPriOk : Bool
  iSecOk : Bool
  vDivOk : Bool
  xchkI : Nat
  xchkV : Nat
  xchkIOn : Bool
  xchkVOn : Bool
  /-- Count since which both current channels are lost (R92). -/
  bothLostAt : Option Nat
  bothLost : Bool
  held : Bool
  apCount : Nat
  seq : Nat
  /-- At the latest aperture: current of each wire in mA and the cells whose switches ran through it (R80, R81). -/
  apWire : List Int
  apRun : List Bool
  /-- A snapshot has been accepted since BOOT (R70). -/
  firstSnap : Bool
  refDueAt : Nat
  refJob : Option RefJob
  /-- Isolation monitor sample (R43). -/
  isoCode : Nat
  /-- Count at which the current open-wire cycle started, and the count Lead has sent for the next (R102). -/
  owtCycle : Option Nat
  owtNext : Option Nat
  /-- Running INTEG_TEST_WIRE: its requester and wire (R115). -/
  testWire : Option (Src × Nat)
  /-- Running INTEG_CLEAR_OPEN: its requester, wire, tests still to do and whether all so far were intact (R108). -/
  clearOpen : Option (Src × Nat × Nat × Bool)
  deriving DecidableEq, Repr

/-- The bark line (R97 to R101, R306). -/
structure BarkPart where
  /-- Sensed level, high when released. -/
  line : Bool
  drive : Bool
  extLat : Bool
  pullUp : Bool
  stuck : Bool
  falls : Nat
  /-- Count at which the present external assertion began. -/
  lowAt : Option Nat
  deriving DecidableEq, Repr

end Sys2Proof.Machine
end

