-- ==== Sys2Proof/Machine/Parts/Conv.lean ====
section
/-! DEFINITION. The string converter: phases, fibre streams, carrier, soft start, settings (R206 to R247). -/

namespace Sys2Proof.Machine

/-- Phase states (R213). -/
inductive PhState where
  | unconfigured | search | ident | ready | joining | active | hiccup | out
  deriving DecidableEq, Repr

/-- Converter states (R230). -/
inductive CState where
  | muzzled | idle | precheck | prebias | ramp | settle | regulate | softstop | hiccup | latched
  deriving DecidableEq, Repr

/-- Coefficients that wait for their latch: the count from which they may be latched, l in nH, r in µΩ, fc in mHz, margins in 0.01° and 0.01 dB (R223). -/
structure Staged where
  due : Nat
  coef : List Int
  l : Nat
  r : Nat
  fc : Nat
  pm : Int
  gm : Int
  deriving DecidableEq, Repr

/-- The compensator of a phase (R221 to R223, R245). Coefficients are s32 with 24 fraction bits; e in mA, u in mV, fixed point. -/
structure Comp where
  coef : List Int
  e : List Int
  u : List Int
  staged : Option Staged
  lEst : Nat
  rEst : Nat
  fc : Nat
  gm : Int
  pm : Int
  retunes : Nat
  rej : Nat
  src : Nat
  jobId : Nat
  resid : Nat
  deriving DecidableEq, Repr

/-- One phase (R206 to R227, R244). -/
structure Phase where
  st : PhState
  outr : Nat
  unexp : Bool
  rdy : Bool
  rdyAt : Nat
  rdyLosses : List Nat
  oc : Bool
  /-- GH and GL are dark for the rest of the period (R225); OC has been seen in this period. -/
  ocDark : Bool
  ocThis : Bool
  ocRun : Nat
  ocTrips : Nat
  ocNoted : Option Nat
  hiccups : Nat
  hiccupAt : List Nat
  /-- STAT bits of the latest uplink frame (R210). -/
  otw : Bool
  uvlo : Bool
  desat : Bool
  armed : Bool
  gduReady : Bool
  upAt : Nat
  upSeen : Bool
  /-- Latest current sample, mA, the sum of the period's samples and the latest period mean. -/
  i : Int
  iSum : Acc
  iMean : Int
  vLink : Option Int
  overV : Nat
  tHs : Option Int
  gateMv : Nat
  thrSeen : Nat
  gdu : Option GduIdent
  /-- Roll-call: the sequence number, an answer awaited, consecutive misses and answers. -/
  rcSeq : Nat
  rcOpen : Bool
  rcAt : Nat
  rcMiss : Nat
  rcGood : Nat
  /-- OC threshold sent, 0.1 A, its acknowledgement, and the count of a CONFIG sent in RUN (R239). -/
  thrSent : Nat
  ack : Option Bool
  cfgAt : Option Nat
  joinAt : Option Nat
  duty : Int
  trim : Int
  /-- Weight and period offset. -/
  weight : Int
  offset : Nat
  periodAt : Option Nat
  q : Int
  comp : Comp
  activeAll : Bool
  /-- Identification points by slot: real and imaginary part, µΩ (R246). -/
  ident : List (Option (Int × Int))
  identJob : Nat
  identV : Int
  deriving DecidableEq, Repr

/-- Carrier and modulation settings (R242) and limit and soft-start settings (R243). -/
structure CnvSet where
  tc : Nat
  lockSrc : Nat
  packIdx : Nat
  packSize : Nat
  syncDly : Nat
  phMask : Nat
  nMin : Nat
  deadTime : Nat
  dMin : Nat
  dMax : Nat
  trimMax : Nat
  shareGain : Nat
  fcSet : Nat
  tuneEn : Bool
  ilimChg : Nat
  ilimDis : Nat
  iPhCont : Nat
  iFast : Nat
  i2tMax : Nat
  vTarget : Int
  slewV : Nat
  ilimSs : Nat
  ssTimeout : Nat
  kpv : Nat
  kiv : Nat
  slewStop : Nat
  deriving DecidableEq, Repr

/-- The converter. -/
structure CnvPart where
  st : CState
  set : CnvSet
  phases : List Phase
  /-- Carrier (R217, R218): the reference is locked, has been seen, aligned periods, missing edges, error in ns, the predicted SYNC_IN reference. -/
  locked : Bool
  refSeen : Bool
  alignRun : Nat
  syncMiss : Nat
  lockErr : Int
  syncRef : Option Nat
  lastRef : Nat
  nextRef : Nat
  periods : Nat
  /-- Reference after limits, and before them, mA. -/
  iRef : Int
  iSum : Int
  clamped : Bool
  foldback : Bool
  /-- Soft start: entry to PRECHECK, the link and the voltage-loop state in fixed-point mV, target and slew in force, hiccups. -/
  preAt : Nat
  ssElapsed : Nat
  vRef : Option Int
  vTgt : Option Int
  slew : Nat
  vInt : Int
  preRuns : Nat
  vCmd : Option (Int × Nat)
  vCmdDue : Bool
  ssHics : List Nat
  ssCount : Nat
  hicAt : Nat
  settleAt : Option Nat
  sslatch : Bool
  stopZeroAt : Option Nat
  /-- A running SYS_PARK that waits for the soft stop, and the cause code and opcode of the park that the stop leads to. -/
  parkSrc : Option Src
  parkCause : Nat × List Nat
  xchkAt : Option Nat
  xchkNoted : Bool
  fibreOn : Bool
  graceEnd : Option Nat
  dnCount : Nat
  linkOv : Bool
  /-- Bumpless preset for the loop engine pending (R232 step 5). -/
  handOver : Option Int
  /-- Tracking ratios of the latest identification and its job (R246). -/
  track : List (Option (Int × Int))
  trackJob : Nat
  deriving DecidableEq, Repr

end Sys2Proof.Machine
end

