-- ==== Sys2Proof/Machine/Parts/Filter.lean ====
section
/-! DEFINITION. Cell state filters, chemistry slots, string figures and the learned-value store (R146 to R179, R532 to R535). -/

namespace Sys2Proof.Machine

/-- A committed chemistry slot as its fields (R148). -/
structure Slot where
  name : List Byte
  capNom : Nat
  rs0 : Nat
  etaChg : Nat
  gamma : Nat
  zEmpty : Nat
  zFull : Nat
  vFull : Nat
  tGrid : List Int
  ocv : List Nat
  mHys : List Nat
  /-- RC entries: RPA, TAUA, RPB, TAUB. -/
  rc : List (Nat × Nat × Nat × Nat)
  crc : Nat
  /-- The committed bytes, for FLT_SLOT_READ. -/
  bytes : List Byte
  deriving DecidableEq, Repr

/-- A capacity reference point (R165). Charge in mA·ms as the running count holds it, z in fixed point, operating time in ms. -/
structure RefPoint where
  q : Int
  z : Int
  time : Nat
  deriving DecidableEq, Repr

/-- One cell's filter (R146 to R167). Voltages in volts, resistance in ohms, all in fixed point. -/
structure CellFlt where
  initialised : Bool
  valid : Bool
  z : Int
  vA : Int
  vB : Int
  h : Int
  rs : Int
  /-- Covariance, 5 rows of 5. -/
  p : List (List Int)
  /-- Reported SOC and SOH as fractions (R161, R162). -/
  r : Int
  soh : Int
  /-- Capacity, mAh. -/
  cap : Nat
  capNew : Bool
  relearn : Bool
  walk : Bool
  innov : Bool
  innovRun : Nat
  pred : Bool
  predRun : Nat
  cleared156 : Bool
  tSub : Bool
  tClamp : Bool
  rsClamp : Bool
  degr : Bool
  /-- Sum of the published readings used in the block, µV fine unit 1/2,048, and how many (R153). -/
  sumV : Int
  nV : Nat
  /-- Sum of the selected current over the block, µA, and snapshots counted (R153). -/
  sumI : Int
  nI : Nat
  /-- Last temperature used, 0.01 °C, and the count at which a source was last available (R154). -/
  temp : Option Int
  tempAt : Nat
  /-- Rest: count at which it began, observation taken, voltage inputs of the last second (R163). -/
  restAt : Option Nat
  restSeen : Bool
  restV : List Int
  /-- Full-charge condition since this count (R165). -/
  fullAt : Option Nat
  fullSeen : Bool
  /-- Running coulomb count, mA·ms times charge efficiency (R165). -/
  q : Int
  lastRef : Option RefPoint
  /-- A step was skipped since the latest reference point (R166). -/
  skipped : Bool
  /-- The step of this filter missed its turn: the next block is this many periods longer (R156, R158). -/
  missed : Nat
  deriving DecidableEq, Repr

/-- A cell entry of the learned-value store (R533). -/
structure LearnEntry where
  cap : Nat
  rs : Nat
  h : Int
  tOff : Int
  tBase : Int
  capV : Bool
  offL : Bool
  baseV : Bool
  slotChg : Bool
  slot : Nat
  bTime : Nat
  base : List (Int × Int)
  deriving DecidableEq, Repr

/-- A copy of the learned-value store (R532). -/
structure LearnCopy where
  valid : Bool
  gen : Nat
  optime : Nat
  cause : Nat
  pcyc : Nat
  cells : List LearnEntry
  deriving DecidableEq, Repr

/-- The filter configuration (R175, R178). -/
structure FltConfig where
  rateRpt : Nat
  anchDz : Nat
  capDzMin : Nat
  capGain : Nat
  sigmaValid : Nat
  tSrc : Nat
  deriving DecidableEq, Repr

/-- A save in progress: the copy it writes and its cause, and requesters waiting (R173, R534). -/
structure Saving where
  toB : Bool
  cause : Nat
  started : Nat
  copy : LearnCopy
  deriving DecidableEq, Repr

/-- Filters, string figures and learned values (R146 to R179, R532 to R535). -/
structure FltPart where
  cells : List CellFlt
  slots : List (Option Slot)
  /-- Slot being staged, its bytes and which of them are written (R175). -/
  staging : Option (Nat × List (Option Byte))
  slotMap : List Nat
  config : FltConfig
  /-- Filters stopped for HIBERNATE (R169). -/
  frozen : Bool
  lastStep : Nat
  steps : Nat
  /-- Which third or half of the filters steps next when fewer sequencers run (R158). -/
  turn : Nat
  strSoc : Int
  strSoh : Nat
  aAvail : Nat
  eToFull : Nat
  socMin : Nat
  socMax : Nat
  idxMin : Nat
  idxMax : Nat
  ocvSum : Option Int
  rsSum : Nat
  nValid : Nat
  nDegr : Nat
  /-- The initialisation of R172 has been done. -/
  learned : Bool
  qHib : Int
  /-- Wake adjustments wait for the first step: elapsed time since entry, its count (R171). -/
  hibAt : Option Nat
  wakePending : Bool
  /-- Rest snapshots of HIBERNATE, newest first (R171). -/
  hibRest : List (List Int)
  hibRestRun : Nat
  wakeRun : Nat
  /-- Charge and rest conditions of the string for R173. -/
  chgAt : Option Nat
  chgLong : Bool
  lowAt : Option Nat
  strRestAt : Option Nat
  saving : Option Saving
  saveAgain : Option Nat
  /-- FLT_SAVE_NOW requests that wait, and whether they wait for the further save. -/
  saveSrcs : List (Src × Bool)
  saves : Nat
  lastCause : Nat
  lastSave : Nat
  /-- Length of the latest save, µs. -/
  saveLen : Nat
  copyA : LearnCopy
  copyB : LearnCopy
  deriving DecidableEq, Repr

end Sys2Proof.Machine
end

