-- ==== Sys2Proof/Machine/Parts/Image.lean ====
section
/-! DEFINITION. The state image: two banks, epochs, holds, checks (R352 to R374). -/

namespace Sys2Proof.Machine

/-- The 15 data words of a tile; word 15 is the CRC-32C of them and is computed when the tile is read (R352, R353). -/
abbrev TileData := List Word

/-- A tile that internal readers have seen fail its check (R372). -/
structure TileFault where
  tile : Nat
  /-- Count of the first failure of the present run of failures. -/
  firstFail : Option Nat
  lastEvent : Nat
  stuck : Bool
  deriving DecidableEq, Repr

/-- The image (R352 to R374). -/
structure ImgPart where
  /-- Banks 0 and 1: the tiles that do not hold zeros, by strictly rising index (R353). -/
  bank0 : List (Nat × TileData)
  bank1 : List (Nat × TileData)
  /-- The front bank is bank 1 (R355). -/
  front1 : Bool
  /-- Epoch number of the front bank (R355). -/
  epoch : Nat
  /-- Tiles written in this epoch whose value the back bank does not yet hold: the writers publish them before the swap (R356). -/
  dirty : List Nat
  /-- Tiles of the back bank written in this epoch (R357). -/
  written : List Nat
  /-- Tiles of the back bank still to be copied from the front bank (R357). -/
  copying : List Nat
  /-- The Transom hold: time-base count at which it began (R358, R369). -/
  hold : Option Nat
  /-- TLATCH level and TLACK level (R366). -/
  tlatch : Bool
  tlack : Bool
  holdLong : Bool
  /-- Boundary of a deferred swap that waits (R358). -/
  deferred : Option Nat
  swaps : Nat
  defers : Nat
  defMax : Nat
  chkFail : Nat
  lfTile : Nat
  lfBank : Nat
  stuck : Nat
  faults : List TileFault
  /-- The halfword that the Transom port drives; none while it is unpowered or not read (R366, R370). -/
  td : Option Half
  /-- The value an engine last took of a tile: engine, tile, count, words (R372). -/
  taken : List (Nat × Nat × Nat × TileData)
  deriving DecidableEq, Repr

end Sys2Proof.Machine
end

