-- ==== Sys2Proof/Machine/Parts/Imp.lean ====
section
/-! DEFINITION. In-service impedance: excitation, jobs, spectral sums, the map, temperatures and health (R180 to R205). -/

namespace Sys2Proof.Machine

/-- A complex sum or value in fixed point. -/
structure Cpx where
  re : Int
  im : Int
  deriving DecidableEq, Repr

/-- The sums of one sampled series over one sequence period: Σy, Σt·y and, per slot of the band, Σy·cos and Σy·sin (R188). -/
structure Series where
  s0 : Int
  s1 : Int
  lines : List Cpx
  /-- The latest value and whether the snapshot after it is missing (R187). -/
  prev : Option Int
  gap : Bool
  deriving DecidableEq, Repr

/-- One cell's spectral work: this period's series, whether the period is discarded for it, and per slot the sums of V and I over its valid periods with
their number (R187, R188). -/
structure ImpAcc where
  ser : Series
  bad : Bool
  sumV : List Cpx
  sumI : List Cpx
  valid : List Nat
  deriving DecidableEq, Repr

/-- One cell's map entry, temperature and health (R192 to R198, R204). Impedance in fixed-point µΩ. -/
structure ImpCell where
  z : List (Option Cpx)
  job : Nat
  low : Nat
  upd : Nat
  tOff : Int
  offL : Bool
  tInt : Option Int
  phi : Option Int
  ztClamp : Bool
  fitAt : Option Nat
  grow : Nat
  odev : Option Int
  growHigh : Bool
  outHigh : Bool
  /-- Baseline: entries in 2 µΩ units, filter temperature, operating time of capture. -/
  base : List (Int × Int)
  baseV : Bool
  tBase : Int
  bTime : Nat
  /-- Thermistor steadiness: the reading that the last 30 min are compared with, and its count (R195). -/
  anchor : Option Int
  anchorAt : Nat
  /-- Temperature that the cell's filter used at the end of the latest band of HSLOT (R197). -/
  hTemp : Option Int
  /-- Entries of the latest job that completed with OK, empty when it did not update all eight, with the temperature (R197). -/
  okZ : List (Option Cpx)
  okT : Option Int
  deriving DecidableEq, Repr

/-- A phase-to-temperature record (R193). -/
structure ZtRec where
  fcode : Nat
  /-- Phase in 0.001°, temperature in 0.01 °C. -/
  points : List (Int × Int)
  bytes : List Byte
  deriving DecidableEq, Repr

/-- What a job uses; changes act from the next job (R201). -/
structure ImpSet where
  reqs : List Nat
  amp : Nat
  nPer : Nat
  nSet : Nat
  deriving DecidableEq, Repr

/-- STATE of R203. -/
inductive ImpState where
  | idle | settling | measuring | stopping | disabled
  deriving DecidableEq, Repr

/-- Band results that wait to be written (R189): its p, the end of its last period, and whether it is the job's last. -/
structure BandDone where
  p : Nat
  endAt : Nat
  last : Bool
  job : Nat
  /-- The identification points are to be handed over; a slot of 20 Hz or more comes in no later band of the job (R199, R223). -/
  handOver : Bool
  retune : Bool
  written : Bool
  /-- Snapshots and valid periods behind the sums. -/
  samples : Nat
  nValid : Nat
  cells : List ImpAcc
  sumI : List Cpx
  sumX : List Cpx
  sumPh : List (List Cpx × List Cpx)
  linkV : Acc
  deriving DecidableEq, Repr

/-- In-service impedance. -/
structure ImpPart where
  set : ImpSet
  interval : Nat
  hslot : Nat
  growWarn : Nat
  outWarn : Nat
  zts : List (Option ZtRec)
  /-- The records that the running job uses (R201). -/
  jobZts : List (Option ZtRec)
  state : ImpState
  en : Bool
  /-- Job numbering, the running job with its requester-independent settings, waiting jobs, and when the running job is due. -/
  nextJob : Nat
  job : Option Nat
  jobSet : ImpSet
  waiting : List Nat
  dueAt : Nat
  begun : Bool
  jobAt : Nat
  lastStart : Option Nat
  nextDue : Option Nat
  lastJob : Nat
  lastStat : Nat
  lastDone : Nat
  lastOk : Nat
  lastOkAt : Option Nat
  skipped : Nat
  clip : Bool
  discards : Nat
  done : Nat
  /-- Bands still to run, the band in progress, its periods, register, chip index, excitation. -/
  bands : List Nat
  band : Nat
  nPeriod : Nat
  nValid : Nat
  /-- Valid periods of slots 0 to 3 and of slots 4 to 7 when one engine alternates (R186). -/
  nLow : Nat
  nHigh : Nat
  lfsr : Nat
  chip : Nat
  chipAt : Nat
  x : Int
  /-- Count at the start of the period, samples taken in it, and converter-level reasons to discard it (R187). -/
  perAt : Nat
  sample : Nat
  badPeriod : Bool
  missRun : Nat
  refMin : Option Int
  refMax : Option Int
  acc : List ImpAcc
  accI : Series
  accX : Series
  accPh : List (Series × Series)
  /-- Sums over the valid periods of the band for the identification: ΣI, Σx per slot, and ΣI_x, ΣD_x per phase and slot. -/
  sumI : List Cpx
  sumX : List Cpx
  sumPh : List (List Cpx × List Cpx)
  /-- Sum of the link voltage over the band, mV (R199). -/
  linkV : Acc
  bandDone : Option BandDone
  /-- A lone engine measures slots 4 to 7 in this period (R186). -/
  turnHigh : Bool
  /-- Latest apertures with the excitation, the reference and each phase's current and duty command at them (R199). -/
  latched : List (Nat × Int × Int × List (Int × Int))
  /-- Currents of each segment's elements and its bridges at the latest snapshot, and the current channel then in use (R187). -/
  segSig : List (List Int)
  selSeen : Bool
  disabling : Option Src
  cells : List ImpCell
  baseTime : Nat
  iLine : List Nat
  /-- Count since which the reference before x has stayed within CAP_MIN / 100 h (R195). -/
  quietAt : Option Nat
  deriving DecidableEq, Repr

end Sys2Proof.Machine
end

