-- ==== Sys2Proof/Machine/Parts/Latch.lean ====
section
/-! DEFINITION. The safety Latch, SA and SB: safety inputs and outputs, Floor record copies, password, change log, isolation monitor (R283 to R324, R565, R566). -/

namespace Sys2Proof.Machine

/-- The Latch states (R286). -/
inductive LState where
  | selftest | startup | armed | acted | recovery | test | lockout
  deriving DecidableEq, Repr

/-- The function in force (R321). -/
inductive SafeFn where
  | none | ssi | sps
  deriving DecidableEq, Repr

/-- Input states (R322). -/
inductive InState where
  | disabled | released | demand | returning | discrepancy | pulseFault
  deriving DecidableEq, Repr

/-- One channel of a safety input (R291 to R294). -/
structure SafeChan where
  /-- The level that the Latch reads. -/
  high : Bool
  /-- Count at which the filter began, while the channel is low. -/
  lowAt : Option Nat
  /-- Count at which the present mask ends. -/
  maskEnd : Option Nat
  /-- The channel was high at the start of the present pulse, so its check applies. -/
  checked : Bool
  /-- PA or PB: the last pulse check passed. -/
  passed : Bool
  /-- Consecutive failed and passed pulse checks. -/
  fails : Nat
  passes : Nat
  /-- Count of the latest rise. -/
  roseAt : Option Nat
  deriving DecidableEq, Repr

/-- A safety input. -/
structure SafeInput where
  a : SafeChan
  b : SafeChan
  st : InState
  /-- Both channels have risen within DISC since they were last low together. -/
  paired : Bool
  demands : Nat
  /-- In TEST: count of the first channel's fall, the fall passed, and the verdict (R309). -/
  fellAt : Option Nat
  fallOk : Bool
  verdict : Option Bool
  deriving DecidableEq, Repr

/-- A TP output (R291). -/
structure TestPulse where
  on : Bool
  fault : Bool
  deriving DecidableEq, Repr

/-- A safety output (R284, R296, R298, R322). -/
structure SafeOut where
  cmd : Bool
  hs : Bool
  ls : Bool
  rb : Bool
  /-- Mirror contact closed (SO1 to SO3). -/
  mirror : Bool
  weld : Bool
  /-- Count since which the mirror has contradicted the output (R296). -/
  wrongAt : Option Nat
  tfail : Bool
  /-- The switch held open for its test, true for the high side, and the count at which the test began. -/
  inTest : Option (Bool × Nat)
  tests : Nat
  deriving DecidableEq, Repr

/-- The contactor sequences (R297): SEQ of R322. -/
inductive SeqState where
  | idle | so2Closing | precharging | so1Closing | so3Opening | opening
  deriving DecidableEq, Repr

/-- A change-log entry (R317); `prev` is the SHA-256 of the entry before. -/
structure ChangeEntry where
  seq : Nat
  optime : Nat
  pcyc : Nat
  src : Nat
  kind : Nat
  gen : Nat
  rcrc : Nat
  detail : Nat
  prev : List Byte
  deriving DecidableEq, Repr

/-- A proof test in progress (R309). -/
structure ProofTest where
  begun : Nat
  comparators : Bool
  passIn : Nat
  failIn : Nat
  compPass : Nat
  session : Nat
  deriving DecidableEq, Repr

/-- The running sums of a 2 ms block of SA and SB (R301). -/
structure EngineBlock where
  cells : List Acc
  cur : Acc
  volt : Acc
  deriving DecidableEq, Repr

/-- The Latch and the safety engines. -/
structure LatchPart where
  /-- The LAT supply stands (R55, R286). -/
  powered : Bool
  state : LState
  fn : SafeFn
  cause : Nat
  causeIx : Nat
  /-- The Latch muzzle is asserted (R236). -/
  muzzle : Bool
  /-- Causes present: code of R323 and index. -/
  causes : List (Nat × Nat)
  acts : Nat
  actTime : Nat
  /-- Time-base count of the latest execution (R299). -/
  actAt : Option Nat
  deny : Nat
  /-- The pending action of R288: SSI, and the first cause. -/
  pendingAct : Option (Bool × Nat)
  /-- The two copies of the Floor record, and whether each is valid (R310). -/
  copyA : List Byte
  copyB : List Byte
  okA : Bool
  okB : Bool
  inputs : List SafeInput
  tps : List TestPulse
  frames : Nat
  outs : List SafeOut
  /-- Output tests suspended until the next accepted reset (R299), and the count of the latest high-side test (R298). -/
  testsOff : Bool
  testAt : Nat
  seq : SeqState
  seqAt : Nat
  seqSrc : Option Src
  seqFail : Nat
  preDone : Bool
  preI : Nat
  preTmax : Nat
  peak : Nat
  peaked : Bool
  so3At : Nat
  /-- Count since which the precharge current has been at or below PRE_I. -/
  lowSince : Option Nat
  so1At : Nat
  srst : Bool
  srstAt : Nat
  srstIgnored : Bool
  /-- Count of the latest valid press, for RST_MODE 2. -/
  srstPress : Option Nat
  /-- A reset that waits for the bark release test: its requester and the count of the release (R306). -/
  resetting : Option (Option Src × Nat)
  /-- Isolation monitor (R304): the rail of the present alternation, the first reading of the pair. -/
  isoPos : Bool
  isoFirst : Option (Int × Int)
  rIso : Option Nat
  vPos : Option Int
  vNeg : Option Int
  isoLow : Nat
  isoWarned : Bool
  lockstep : Bool
  /-- Count of the completion of the latest restart of SA and SB, while its second of self-test runs. -/
  restartAt : Option Nat
  answering : Bool
  missRun : Nat
  goodRun : Nat
  missed : Nat
  /-- Checks of R301 tripped, in table order. -/
  chk : List Bool
  blk : EngineBlock
  hotAt : Option Nat
  overI : Nat
  spsAt : Option Nat
  /-- Inputs that SA and SB have seen in demand and the Latch has not executed, since this count. -/
  unexecAt : Option Nat
  /-- Password record (R313). -/
  pwSet : Bool
  fails : Nat
  iter : Nat
  salt : List Byte
  key : List Byte
  lockUntil : Nat
  /-- Count at which a running lockout ends. -/
  lockEnd : Option Nat
  /-- Nonces: session, bytes, count of issue (R315). -/
  nonces : List (Nat × List Byte × Nat)
  /-- Authorisation windows: session, count of opening. -/
  windows : List (Nat × Nat)
  /-- Change log, newest first, at most 256, and HEAD (R317, R318). -/
  changes : List ChangeEntry
  changeSeq : Nat
  head : List Byte
  proof : Option ProofTest
  /-- A Floor commit has passed step 2 without its change-log entry: the source and the kind-1 detail (R312). -/
  commitOpen : Option Nat
  deriving DecidableEq, Repr

end Sys2Proof.Machine
end

