-- ==== Sys2Proof/Machine/Parts/Leash.lean ====
section
/-! DEFINITION. The leash and the rung ring (R26 to R54, R109 to R113). -/

namespace Sys2Proof.Machine

/-- A leash lane (R48, R49, R52). -/
structure Lane where
  /-- In service. -/
  up : Bool
  /-- Held down since this count (R49). -/
  hold : Option Nat
  /-- Counts of the latest declarations, newest first (R49: 4 within 60 s). -/
  downs : List Nat
  /-- Count of the latest valid sync set received (R37, R48). -/
  lastSync : Nat
  deriving DecidableEq, Repr

/-- What a downstream frame carries (R37, R46, R111, R133); the spec does not lay out its payload. -/
inductive DownKind where
  | delayResult (ns : Nat)
  | leashMode (mode ms : Nat)
  | schedule
  | targets
  deriving DecidableEq, Repr

/-- A downstream frame that waits for its reply (R46, R47). -/
structure DownFrame where
  tag : Nat
  kind : DownKind
  /-- Copies sent so far. -/
  sent : Nat
  /-- The command whose failure it would be (R53). -/
  carries : Option Src
  deriving DecidableEq, Repr

/-- Operation of the Stack Half while the leash is silent (R111). -/
inductive StackMode where
  | normal | sleep | brodda
  deriving DecidableEq, Repr

/-- The snapshot frame that the hub is sending (R43, R51, R59). -/
structure FrameInFlight where
  seq : Nat
  striped : Bool
  deriving DecidableEq, Repr

/-- The leash (R33 to R54, R111 to R113). -/
structure LeashPart where
  lanes : List Lane
  /-- Measured one-way delay, ns, and whether one has been measured (R37, R52). -/
  delay : Nat
  delayKnown : Bool
  missed : Nat
  flaps : Nat
  /-- Count at which LEASH_LOST was raised, while the loss lasts (R112). -/
  lostAt : Option Nat
  /-- Count of the latest stored snapshot (R112). -/
  lastStored : Nat
  /-- Downstream sync sets sent (R37: every 100,000th is echoed) and the count the hub still has to echo. -/
  syncsSent : Nat
  syncsHeard : Nat
  echoDue : Option Nat
  /-- The hub's count is aligned to the Control Half count (R37). -/
  aligned : Bool
  /-- Sources of the trips present upstream (R39, R41) and the downstream trip 0x80. -/
  tripsUp : List Nat
  tripDown : Bool
  /-- Tag of the next downstream frame, frames awaiting a reply, and the latest tag the hub executed (R46, R47). -/
  nextTag : Nat
  waiting : List DownFrame
  hubTag : Option Nat
  /-- The one-way delay that the hub holds (R37). -/
  hubDelay : Nat
  inFlight : Option FrameInFlight
  /-- Sequence of the next snapshot frame, u16 (R43). -/
  snapSeq : Nat
  /-- Payload of the latest event frame received (R46: its content is not laid out). -/
  lastEvent : List Byte
  /-- The stored leash-loss mode and Brodda timeout in ms, and those the hub holds (R111). -/
  lossMode : Nat
  broddaMs : Nat
  hubMode : Nat
  hubBrodda : Nat
  /-- Stack Half operation while silent, since when, and whether balancing has stopped (R111). -/
  stack : StackMode
  silentAt : Option Nat
  broddaStopped : Bool
  deriving DecidableEq, Repr

/-- One segment's place in the ring (R26 to R30, R109, R110). -/
structure RingSeg where
  /-- One-way delays from the hub, ns, downward and upward round the ring (R30). -/
  delayDown : Nat
  delayUp : Nat
  /-- Its frame of this aperture did not reach the hub (R45). -/
  stale : Bool
  /-- Count since which both neighbours are cut off, and the isolation of R110. -/
  cutAt : Option Nat
  isolated : Bool
  /-- Conversions of this aperture complete; the rung its frame last crossed; its frame stored at the hub (R28, R63). -/
  converted : Bool
  framePos : Option Nat
  arrived : Bool
  deriving DecidableEq, Repr

/-- The ring: rung 0 joins the hub and SG0, rung n joins SG(n-1) and SGn, the last one joins the top fitted segment and the hub (R26). -/
structure RingPart where
  rungs : List Bool
  segs : List RingSeg
  /-- RING_SPLIT stands (R110). -/
  split : Bool
  /-- Segments whose rung trip is on the ring (R95, R96). -/
  trips : List Nat
  deriving DecidableEq, Repr

end Sys2Proof.Machine
end

