-- ==== Sys2Proof/Machine/Parts/Log.lean ====
section
/-! DEFINITION. The event recorder and the time words: Fast log, Keep log, queue, operating time (R515 to R526, R537, R538). -/

namespace Sys2Proof.Machine

/-- A Fast record (R515); MARK is the complement of SEQ in every record the log holds (R522). -/
structure FastRec where
  seq : Nat
  optime : Nat
  code : Nat
  sev : Severity
  kept : Bool
  safOvf : Bool
  src : Nat
  arg0 : Nat
  data : List Nat
  deriving DecidableEq, Repr

/-- A Keep record (R516); `crcOk` is false of a slot whose write was cut (R524). -/
structure KeepRec where
  seq : Nat
  optime : Nat
  code : Nat
  pcyc : Nat
  ptp : Option (Nat × Nat)
  sev : Severity
  resv : Bool
  src : Nat
  arg0 : Nat
  data : List Nat
  crcOk : Bool
  deriving DecidableEq, Repr

/-- A time word (R525). -/
structure TimeWord where
  optime : Nat
  pcyc : Nat
  secured : Bool
  valid : Bool
  deriving DecidableEq, Repr

/-- The recorder (R512 to R538). -/
structure LogPart where
  /-- Held Fast records, lowest SEQ first; at most 65,536 (R518). -/
  fast : List FastRec
  /-- HEAD of the Fast log: the SEQ its next record carries (R528). -/
  fHead : Nat
  fDisc : Nat
  /-- Held records of the Keep general area, lowest SEQ first; at most 15,360 (R518). -/
  keepGen : List KeepRec
  /-- Records of the Safety reserve; at most 1,024, never overwritten (R520). -/
  keepRes : List KeepRec
  /-- HEAD of the Keep log: the SEQ its next record carries (R528). -/
  kHead : Nat
  kDisc : Nat
  /-- Records waiting to be written, in sequence order; at most 256 (R523). -/
  queue : List KeepRec
  qLost : Nat
  torn : Nat
  resHigh : Bool
  safeFull : Bool
  safOvfN : Nat
  /-- Time words 0 and 1, and which is written next (R525). -/
  word0 : TimeWord
  word1 : TimeWord
  nextWord : Nat
  /-- Operating time at entry to this BOOT, ms; the running count adds the time base to it (R525, R526). -/
  opBoot : Nat
  pcyc : Nat
  /-- The previous power-down was secured (R538). -/
  secured : Bool
  deriving DecidableEq, Repr

end Sys2Proof.Machine
end

