-- ==== Sys2Proof/Machine/Parts/Loop.lean ====
section
/-! DEFINITION. The loop engine, its set-point sources, the thermal loop, fans, pumps and louvres (R248 to R281). -/

namespace Sys2Proof.Machine

/-- Settings of the loop engine (R277); gains are KP and KI of modes 0, 1 and 2. -/
structure LoopSet where
  lmode : Nat
  ffEn : Bool
  src : Nat
  fbSrc : Nat
  lossAct : Nat
  pmax : Nat
  imax : Nat
  vdcMid : Int
  vdcSpan : Int
  gains : List Nat
  spRamp : Nat
  manRamp : Nat
  schedHold : Nat
  spTimeout : Nat
  ainDb : Nat
  spReturn : Nat
  deriving DecidableEq, Repr

/-- A PTP schedule entry (R255); `flags` is the whole FLAGS byte. -/
structure SchedEntry where
  sec : Nat
  ns : Nat
  value : Int
  mode : Nat
  flags : Nat
  deriving DecidableEq, Repr

/-- A set-point source: lost, and the count since which its condition has been absent (R258). -/
structure Source where
  lost : Bool
  okAt : Option Nat
  deriving DecidableEq, Repr

/-- The loop engine (R248 to R262, R276). Values in the unit of the mode or in mA are fixed point. -/
structure LoopPart where
  set : LoopSet
  /-- Mode, source and operation in force; the accepted changes that the next cycle takes. -/
  lmode : Nat
  src : Nat
  am : Bool
  modeDue : Bool
  srcDue : Bool
  amDue : Option Bool
  onFb : Bool
  manIref : Int
  manRef : Int
  /-- Packet source: latest accepted value, and the count from which SP_TIMEOUT runs. -/
  packet : Option Int
  packetAt : Nat
  sources : List Source
  /-- Latest source value, ramped set-point, feedback, terms and output. -/
  spSrc : Option Int
  spR : Option Int
  fb : Option Int
  ff : Int
  p : Int
  ig : Int
  u : Int
  limHi : Bool
  limLo : Bool
  ffLost : Bool
  held : Bool
  /-- Feedback sums since the previous cycle start: W and mA, with the number of snapshots. -/
  sumP : Int
  sumI : Int
  sumN : Nat
  /-- Occasion of a preset that the next cycle makes, and its u0 (R261). -/
  preset : Option (Nat × Int)
  /-- Analogue input: latest sample in µV, the sample that the source uses, and the count until which samples are not used (R264). -/
  ain : Option Int
  ainUse : Int
  ainMask : Nat
  ainOpen : Bool
  /-- Pulse input: latest edge, frequency in Hz, duty as a fraction of 65,536, duty in fixed point, bad periods in a row. -/
  pulseAt : Nat
  pulseFreq : Nat
  pulseDuty : Int
  pulseBad : Nat
  /-- Schedule: the table in force, the staged entries, a committed table that waits, and what the latest cycle found. -/
  sched : List SchedEntry
  staged : List (Option SchedEntry)
  commit : Option (List SchedEntry)
  schedIx : Option Nat
  schedWait : Bool
  schedEnd : Bool
  schedVal : Option Int
  schedSkip : Option Nat
  /-- Count since which PTP has been out of lock. -/
  unlockAt : Option Nat
  cycles : Nat
  losses : Nat
  presets : Nat
  deriving DecidableEq, Repr

/-- The demand map of an output and its override (R267): the value and the count of its end. -/
structure OutMap where
  dStart : Nat
  dFull : Nat
  outOff : Nat
  outMin : Nat
  outMax : Nat
  fire : Nat
  override : Option (Nat × Nat)
  deriving DecidableEq, Repr

/-- A fan or pump output (R269, R279). -/
structure FanPump where
  map : OutMap
  inv : Bool
  ppr : Nat
  tachMin : Nat
  duty : Nat
  rpm : Nat
  /-- Count since which the speed has been below TACH_MIN at 20 % duty or more, and the condition raised. -/
  slowAt : Option Nat
  stall : Bool
  deriving DecidableEq, Repr

/-- A friction learn (R272): the point being measured, the direction, moving to the point, the drive in 0.01 %, the positions of the last 100 ms newest
first, and the breakaways found. -/
structure Learn where
  begun : Nat
  point : Nat
  up : Bool
  placing : Bool
  drive : Nat
  recent : List Int
  ups : List (Nat × Nat)
  downs : List (Nat × Nat)
  deriving DecidableEq, Repr

/-- A louvre's drive (R273, R280). -/
inductive LvState where
  | off | inBand | moving | learning | stalled | fbLost | retry
  deriving DecidableEq, Repr

/-- A louvre (R270 to R273, R280). Positions are fractions in fixed point; the drive and integrator are in 0.01 % in fixed point. -/
structure Louvre where
  map : OutMap
  fbLo : Int
  fbHi : Int
  kp : Nat
  ki : Nat
  db : Nat
  umax : Nat
  friction : List Nat
  frSet : Bool
  st : LvState
  pos : Int
  tgt : Int
  fbV : Option Int
  u : Int
  ig : Int
  iMot : Int
  /-- Stall watch: count and position at which it began; stalls within 10 min; count at which the drive went off. -/
  watch : Option (Nat × Int)
  stalls : List Nat
  offAt : Nat
  /-- Count since which the feedback has been out of range, and in range. -/
  badAt : Option Nat
  goodAt : Option Nat
  learn : Option Learn
  deriving DecidableEq, Repr

/-- The thermal loop (R265 to R268, R278). Demand and integrator are fractions in fixed point. -/
structure ThmPart where
  tSel : Nat
  thIdx : Nat
  tSet : Int
  kpT : Nat
  kiT : Nat
  fsDemand : Nat
  hibDemand : Nat
  tCtrl : Option Int
  /-- Count since which T_CTRL has held no value. -/
  noneAt : Option Nat
  tLost : Bool
  ig : Int
  d : Int
  fire : Bool
  cycles : Nat
  fps : List FanPump
  lvs : List Louvre
  /-- A running LV_LEARN: its requester, the louvres named, and those that failed. -/
  learnSrc : Option (Src × Nat × Nat)
  deriving DecidableEq, Repr

end Sys2Proof.Machine
end

