-- ==== Sys2Proof/Machine/Parts/Update.lean ====
section
/-! DEFINITION. Flash, firmware update, the slot-select record and the settings areas (R485 to R511). -/

namespace Sys2Proof.Machine

/-- Bytes by address, strictly rising, none equal to what an unlisted address reads as. -/
abbrev Mem := List Host.Cell

/-- A copy of the slot-select record: whether its CRC holds, and its fields (R494). -/
structure SlotRec where
  valid : Bool
  gen : Nat
  active : Nat
  trial : Bool
  prev : Nat
  tries : Nat
  abver : Nat
  pbver : Nat
  actTime : Nat
  deriving DecidableEq, Repr

/-- Stored settings of a fan or pump output (R267, R269). -/
structure FanPumpSet where
  map : OutMap
  inv : Bool
  ppr : Nat
  tachMin : Nat
  deriving DecidableEq, Repr

/-- Stored settings of a louvre (R270 to R272). -/
structure LouvreSet where
  map : OutMap
  fbLo : Int
  fbHi : Int
  kp : Nat
  ki : Nat
  db : Nat
  umax : Nat
  friction : List Nat
  frSet : Bool
  deriving DecidableEq, Repr

/-- Stored settings of In-Service Impedance (R202). -/
structure ImpKept where
  set : ImpSet
  interval : Nat
  hslot : Nat
  growWarn : Nat
  outWarn : Nat
  zts : List (Option ZtRec)
  en : Bool
  deriving DecidableEq, Repr

/-- The stored settings of every chapter: the body of a settings copy, whose layout is not published (R505). -/
structure Settings where
  rateCfg : Nat
  win0 : Bool × Nat
  win1 : Bool × Nat
  shutter : List Bool
  thMap : List Nat
  curves : List Nat
  rsh : Nat
  lossMode : Nat
  broddaMs : Nat
  pullUp : Bool
  balEn : Bool
  balance : BalPolicy
  slots : List (Option Slot)
  slotMap : List Nat
  filter : FltConfig
  cnv : CnvSet
  /-- Compensator coefficients by phase (R223). -/
  coefs : List (List Int)
  imp : ImpKept
  loop : LoopSet
  tSel : Nat
  thIdx : Nat
  tSet : Int
  kpT : Nat
  kiT : Nat
  fsDemand : Nat
  hibDemand : Nat
  fanPumps : List FanPumpSet
  louvres : List LouvreSet
  preI : Nat
  preTmax : Nat
  ip : IpSet
  ptp : PtpSet
  cans : List CanSet
  canFilters : List (List (Nat × Nat) × Nat)
  deriving DecidableEq, Repr

/-- A settings copy (R505). -/
structure SetCopy where
  valid : Bool
  schema : Nat
  gen : Nat
  wbver : Nat
  origin : Nat
  dflt : Bool
  body : Settings
  deriving DecidableEq, Repr

/-- Flash, update and settings. -/
structure UpdPart where
  /-- The 32 MiB flash: what the bundle regions hold; erased bytes read 0xFF and are not listed (R485). -/
  flash : Mem
  /-- The slot-select record copies in the record sectors of slots A and B (R494). -/
  recA : SlotRec
  recB : SlotRec
  /-- Settings copies 0 and 1 of slots A and B (R485, R505). -/
  setA0 : Option SetCopy
  setA1 : Option SetCopy
  setB0 : Option SetCopy
  setB1 : Option SetCopy
  /-- Update state (R489), LENGTH and BCRC of the update in progress, blocks written by rising number. -/
  ustate : Nat
  length : Nat
  bcrc : Nat
  written : List Nat
  /-- The update command that runs, and a block whose programming waits for PFWARN to clear (R486, R492). -/
  src : Option Src
  waiting : Option (Src × Nat × List Byte)
  errTgt : Nat
  lastErr : Nat
  newBver : Nat
  nSchema : Nat
  nSchemaMin : Nat
  nSaif : Nat
  /-- SHA-384 of the verified images by TARGET (R493). -/
  hashes : List (Nat × List Byte)
  /-- SAIF of the SA and SB image running; that image differs from the one of the active slot (R500). -/
  saifRun : Nat
  saPend : Bool
  /-- BVER, SCHEMA and SCHEMA_MIN of the running bundle (R487, R488). -/
  bver : Nat
  schema : Nat
  schemaMin : Nat
  /-- The settings in force: schema, ORIGIN, DFLT, GEN of the copy (R507, R510). -/
  setSchema : Nat
  setOrigin : Nat
  dflt : Bool
  setGen : Nat
  /-- Count at which the next settings write falls due, and count of the latest (R506). -/
  setDue : Option Nat
  setAt : Option Nat
  /-- Count of the confirmation deadline (R503). -/
  confEnd : Option Nat
  /-- Start of the activation pause in force, the slot it leaves, and the length of the latest, µs (R499). -/
  pauseAt : Option Nat
  lastPause : Nat
  /-- The start fell back (R496). -/
  fellBack : Bool
  /-- The activation in progress goes back to the previous slot (R503). -/
  reverting : Bool
  deriving DecidableEq, Repr

end Sys2Proof.Machine
end

