-- ==== Sys2Proof/Machine/Parts/Policy.lean ====
section
/-! DEFINITION. Policy engines, their RTUs, DMA channels, completion queues, rings, frame ports and the interrupt controller (R408 to R441). -/

namespace Sys2Proof.Machine

/-- A completion entry without its PHASE bit (R427). -/
structure CqEntry where
  kind : Nat
  index : Nat
  status : Nat
  hi : Nat
  tag : Nat
  count : Nat
  addr : Nat
  deriving DecidableEq, Repr

/-- A completion queue (R425, R428, R429): its registers, the count since which its oldest unsignalled completion waits, the completions that wait for
space, and the pass parity of the next entry. -/
structure Cq where
  base : Nat
  size : Nat
  put : Nat
  get : Nat
  mtime : Nat
  mcount : Nat
  full : Bool
  mpend : Nat
  oldest : Option Nat
  waiting : List CqEntry
  deriving DecidableEq, Repr

/-- The descriptor in progress of a channel: ring index, its words, and the bytes its bursts have moved (R424). -/
structure DmaDesc where
  index : Nat
  src : Nat
  dst : Nat
  len : Nat
  tag : Nat
  tile : Bool
  dstFix : Bool
  srcFix : Bool
  moved : Nat
  deriving DecidableEq, Repr

/-- A tile staging buffer: the tile and the words stored since the previous commit (R420). -/
structure Stage where
  tile : Option Nat
  words : List (Option Word)
  deriving DecidableEq, Repr

/-- STATE of a DMA channel (R425). -/
inductive DmaState where
  | disabled | idle | running | halted | stopping
  deriving DecidableEq, Repr

/-- A DMA channel (R423 to R426). -/
structure DmaChan where
  owner : Option Nat
  st : DmaState
  prio : Nat
  rbase : Nat
  rsize : Nat
  rput : Nat
  rget : Nat
  faddr : Nat
  fcause : Nat
  facc : Nat
  fregion : Nat
  cq : Cq
  cur : Option DmaDesc
  stage : Stage
  deriving DecidableEq, Repr

/-- A command of a service ring that runs: entry index, TAG, RPLY, opcode, request data, the count of its acceptance, and whether it has begun to act
(R437, R438). -/
structure RingCmd where
  index : Nat
  tag : Nat
  rply : Nat
  opcode : Nat
  params : List Byte
  accepted : Nat
  started : Bool
  deriving DecidableEq, Repr

/-- A service ring: STATE 0 DISABLED, 1 IDLE, 2 RUNNING (R437); disabling waits for the running commands. -/
structure Ring where
  en : Bool
  stopping : Bool
  rbase : Nat
  rsize : Nat
  rput : Nat
  rget : Nat
  cq : Cq
  running : List RingCmd
  deriving DecidableEq, Repr

/-- A frame port (R439). -/
structure FramePort where
  refused : Nat
  busy : Bool
  daddr : Nat
  dport : Nat
  flen : Nat
  tsreq : Bool
  fid : Nat
  fbuf : Mem
  cq : Cq
  /-- Counts of the datagrams sent within the last second, newest first. -/
  sends : List Nat
  deriving DecidableEq, Repr

/-- A region register pair: virtual base, size, lock, enable; physical base and rights (R417). -/
structure Region where
  vbase : Nat
  size : Nat
  lock : Bool
  en : Bool
  pbase : Nat
  x : Bool
  w : Bool
  r : Bool
  deriving DecidableEq, Repr

/-- The control and status registers of the engines that hold a value (R412). -/
structure Csrs where
  mie : Bool
  mpie : Bool
  meie : Bool
  mtie : Bool
  mtvec : Word
  mscratch : Word
  mepc : Word
  mcause : Word
  mtval : Word
  mcycle : Nat
  minstret : Nat
  mcounterinhibit : Nat
  deriving DecidableEq, Repr

/-- A policy engine (R408 to R422). -/
structure PolEngine where
  /-- An accepted image is loaded; the engine is released; held until the next BOOT (R409 to R411). -/
  loaded : Bool
  up : Bool
  held : Bool
  load : Nat
  entry : Nat
  grant : Nat
  dmaMask : Nat
  wdper : Nat
  starts : Nat
  /-- Counts of the restarts of the last 10 min, newest first; a restart that Lead has to make, and its cause (R411). -/
  restarts : List Nat
  restartDue : Option Nat
  ram : Mem
  /-- x1 to x31 and the program counter. -/
  regs : List Word
  pc : Word
  csr : Csrs
  /-- The LR reservation: the physical word address. -/
  resv : Option Nat
  asleep : Bool
  mtimecmp : Nat
  /-- Latched MTIME_HI, PTP_S_HI with PTPV, and PTP_NS (R414). -/
  mtimeHi : Nat
  ptpHi : Nat
  ptpNs : Nat
  wdAt : Nat
  sleepRef : Nat
  regions : List Region
  /-- The RTU fault record (R417). -/
  active : Bool
  fcause : Nat
  facc : Nat
  fregion : Nat
  fvaddr : Nat
  fpaddr : Nat
  faults : Nat
  stage : Stage
  /-- Batch: length in µs, BSTAT, count of the grant (R421). -/
  bLen : Nat
  bstat : Nat
  bAt : Nat
  tpart : Nat
  twrites : Nat
  ring : Ring
  port : FramePort
  deriving DecidableEq, Repr

/-- A timer of the interrupt controller: period in µs, count at which it started (R432). -/
structure PolTimer where
  per : Nat
  start : Nat
  deriving DecidableEq, Repr

/-- The policy environment. -/
structure PolPart where
  engines : List PolEngine
  chans : List DmaChan
  /-- The channel served by the latest burst, for the round-robin order (R423). -/
  lastChan : Nat
  /-- Interrupt sources as masks: pending, enabled, routed to P1, RDIR, and redirected in the present interval of its engine's absence (R431 to R435). -/
  pend : Nat
  en : Nat
  route : Nat
  rdir : Nat
  redirected : Nat
  timers : List PolTimer
  deriving DecidableEq, Repr

end Sys2Proof.Machine
end

