-- ==== Sys2Proof/Machine/Parts/Sys.lean ====
section
/-! DEFINITION. The module-level state: variant and identity, module state, time base, fault causes, engine service (R3, R18, R31, R61, R361 to R364). -/

namespace Sys2Proof.Machine

/-- The ordering codes (R3). -/
inductive Variant where
  | s512as | s512at | s384as
  deriving DecidableEq, Repr

/-- The module states (R18), and Off, the power state that has no module state. -/
inductive MState where
  | off | boot | park | run | hibernate | fault | safe
  deriving DecidableEq, Repr

/-- The power states that the domains of R55 follow. -/
inductive PState where
  | off | park | run | hibernate
  deriving DecidableEq, Repr

/-- Module-level state. -/
structure SysPart where
  /-- Ordering code of the unit (R3). -/
  variant : Variant
  /-- Serial number, 12 ASCII characters as three words (R362). -/
  serial : List Word
  /-- Hub and Control die revisions (R362). -/
  hubRev : Nat
  ctlRev : Nat
  /-- Module state and the previous one (R18, R363). -/
  mstate : MState
  prev : MState
  /-- Operating time of entry to the state, low 32 bits (R363). -/
  entryTime : Nat
  /-- Event code of the cause of the latest change (R363). -/
  cause : Nat
  /-- State changes since BOOT (R363). -/
  changes : Nat
  /-- Time-base count in 10 ns ticks since the rail rose (R36, R381). -/
  now : Nat
  /-- Low 32 bits aside, the offset that PTP discipline has applied is not part of the count. Causes of FAULT still present: event and index (R19, R344). -/
  faultCauses : List (Event × Nat)
  /-- A Fault event fell in the control cycle of this count (R21). -/
  faultAt : Option Nat
  /-- Engines in service, in the bit order of R364: Lead, Reserve, SA, SB, F0 to F3, C0, C1, S0, S1, N0, P0, P1. -/
  engSvc : List Bool
  /-- Backups taken since BOOT (R61, R364). -/
  takeovers : Nat
  /-- Model field, not the spec's: how many free values have been drawn; the free values are Config functions applied to it. -/
  drawn : Nat
  deriving DecidableEq, Repr

end Sys2Proof.Machine
end

