-- ==== Sys2Proof/Machine/Parts/Power.lean ====
section
/-! DEFINITION. Power feeds, the Hinge, Lead, Reserve and the Kennel (R442 to R464). -/

namespace Sys2Proof.Machine

/-- A 24 V feed: present, and below the FEED_LOW threshold (R442, R462). -/
structure Feed where
  ok : Bool
  low : Bool
  deriving DecidableEq, Repr

/-- A journal record of the Kennel: the command, and whether its effect has been applied (R452). -/
structure JournalRec where
  src : Src
  opcode : Nat
  applied : Bool
  deriving DecidableEq, Repr

/-- Supplies and standby. -/
structure PwrPart where
  feeds : List Feed
  /-- The string-derived supply runs and can deliver (R445, R462). -/
  sdsOk : Bool
  /-- Balancing is capped under R446. -/
  sdsCap : Bool
  /-- The string lies at 100 V or more, as the hub sees it. -/
  strHigh : Bool
  /-- Measured words 1 to 7 of tile 0x0009: feeds and rail in µV, feed currents in mA, SDS output and draw in W (R462). -/
  meas : List Word
  /-- Count of the power-fail warning while PFWARN stands; POWER_LOST has been raised in it; it waits for the end of a hold (R448, R461). -/
  pfAt : Option Nat
  lost : Bool
  lossDue : Bool
  /-- Predicted hold-up in µs, at the present draw and at 85 W (R447). -/
  holdup : Nat
  holdup85 : Nat
  dips : Nat
  losts : Nat
  /-- The Stack Half is powered (R445, R449). -/
  hubOn : Bool
  /-- The Hinge: count at which the hold in force began, its cause or the latest one's, and whether a hold reached its limit (R455, R456). -/
  hold : Option Nat
  hcause : Nat
  hlimit : Bool
  holdLen : Nat
  holdMax : Nat
  /-- A change of module state that falls due in a hold and is taken at its end: state, cause code, opcode (R461). -/
  stateDue : Option (MState × Nat × List Nat)
  leadHeld : Bool
  tmonOk : Bool
  kenOk : Bool
  resOk : Bool
  leadOk : Bool
  /-- Reserve is in control (R454). -/
  resCtl : Bool
  tcause : Nat
  /-- Checkpoints: SEQ and count of the latest, and the two slots' SEQ where the slot is valid (R451). -/
  ckSeq : Nat
  ckAt : Option Nat
  slot0 : Option Nat
  slot1 : Option Nat
  /-- The command journal, newest first, at most 240 records (R451, R452). -/
  journal : List JournalRec
  leadFails : Nat
  handbacks : Nat
  /-- Count since which the self-test of the Lead being returned has run clean; counts of its failures (R457). -/
  cleanAt : Option Nat
  selfFails : List Nat
  resTest : Nat
  /-- A save that a takeover cut is started again at the end of the hold (R536). -/
  saveDue : Option Nat
  deriving DecidableEq, Repr

end Sys2Proof.Machine
end

