-- ==== Sys2Proof/Machine/Parts/Secure.lean ====
section
/-! DEFINITION. Secure boot, key store and debug port (R465 to R484). -/

namespace Sys2Proof.Machine

/-- A copy of the key store: its CRC holds, its generation, the four keys, the policy minimum SVNs (R471). -/
structure KeyStore where
  valid : Bool
  gen : Nat
  keys : List (Option (List Byte))
  minP0 : Nat
  minP1 : Nat
  deriving DecidableEq, Repr

/-- What the debug port answers: nothing, a refusal by the debug state, GATED, an error of an RTU, done, a value (R473, R474, R479). -/
inductive DbgAnswer where
  | nothing | refused | gated | error | done
  | value (v : Nat)
  deriving DecidableEq, Repr

/-- Boot, keys and debug. -/
structure SecPart where
  /-- OTP: SHA-384 of the vendor image key and of the vendor debug key, blown SVN fuses (R467). -/
  vkh : List Byte
  dkh : List Byte
  vmin : Nat
  ksA : KeyStore
  ksB : KeyStore
  /-- The slot that the boot ROM selected and the one booted (R469, R470). -/
  selSlot : Nat
  slot : Nat
  alt : Bool
  bootErr : Nat
  errTgt : Nat
  p0Img : Bool
  p1Img : Bool
  vsvn : Nat
  bootAt : Nat
  romTime : Nat
  loadTime : Nat
  /-- Lead has been released from reset, and at which count; every engine is loaded; the boot ROM found no Lead image (R469, R470). -/
  released : Bool
  releasedAt : Nat
  loaded : Bool
  dead : Bool
  /-- The SA and SB image was accepted (R470). -/
  saImg : Bool
  /-- SHA-384 of the images that run, by TARGET (R493, R500). -/
  runHash : List (Nat × List Byte)
  /-- Debug state, exit sequence, engines touched and engines halted, in the bit order of ENGSVC less 8 (R474, R475, R482). -/
  dstate : Nat
  closing : Bool
  touched : List Bool
  halted : List Bool
  /-- Count at which the open state ends; open states entered; denials; end of the latest (R476, R482). -/
  openEnd : Option Nat
  opens : Nat
  denies : Nat
  lastCause : Nat
  /-- Outstanding nonce: session, target state, bytes, count of issue (R476). -/
  nonce : Option (Nat × Nat × List Byte × Nat)
  /-- A Full-Open that waits for PARK: its requester and MINUTES (R477). -/
  fullDue : Option (Src × Nat)
  /-- The cause of DEBUG_FULL_OPEN persists (R477). -/
  fullCause : Bool
  /-- The answer to the latest access through the port (R473). -/
  answer : DbgAnswer
  deriving DecidableEq, Repr

end Sys2Proof.Machine
end

