-- ==== Sys2Proof/Machine/Fresh.lean ====
section
/-! DEFINITION. What every part holds when it comes to life: the Reset columns of the chapters, and the values when new of what is kept (R9). Values that no
rule gives are named in log entry 43. -/

namespace Sys2Proof.Machine

/-! ### Pieces -/

/-- What an absent cell, wire or segment reads as: nothing fitted. -/
def Chan.empty : Chan := { last := none, w0 := none, w1 := none, a0 := { sum := 0, n := 0 }, a1 := { sum := 0, n := 0 }, part0 := false, part1 := false }

/-- A cell's measurement after reset (R91), with its reset thermistor (R67). -/
def CellSense.reset (c : Nat) : CellSense :=
  { chan := Chan.empty, thIdx := c / 4, excl := false, learnp := false, fbClosed := false, corr := false, cmp := false, uvc := false, ovc := false, chf := false,
    rng := false, seq := 0, chfAt := none, chfRaised := false, hist := [], before := [], exclUntil := 0, corrOff := 0, corrGain := 0, pair := false,
    degr := false, stepUntil := 0, stepDelta := 0, stepAt := 0 }

/-- A wire after reset: unlearned, intact (R85, R90). -/
def Wire.reset : Wire := { r := 0, learned := false, overLim := false, opened := false, susp := false, patterns := 0 }

/-- A segment's sensing state after reset (R90, R116). -/
def SegSense.reset : SegSense :=
  { present := false, compensated := false, pendingMode := none, curve := 0, refDis := false, refOk := false, refDev := 0, refAt := none, refBusy := false,
    refFail := false, dieT := none, refT := none, twarn := false, t2b := Chan.empty, sumW0 := none, t2bOff := 0, t2bGain := 0, learns := 0, ovLive := 0,
    uvLive := 0, ovLat := 0, uvLat := 0, crossing := [], tripped := [], slotOpen := false, shutterOpen := false, tripOpen := false, owt := none, owtCycles := 0,
    pairs := [], sumFails := 0 }

/-- An idle shuttle. -/
def Shuttle.reset : Shuttle := { state := .idle, cell := 0, cur := 0, runsThrough := false }

/-- A cell's placement state after reset (R144). -/
def CellBal.reset : CellBal :=
  { exclReason := 0, dev := none, donor := false, receiver := false, limV := false, limT := false, bleed := false, stuck := false, drain := 0 }

/-- A segment's elements after reset (R142, R143). -/
def SegBal.reset : SegBal :=
  { shuttles := List.replicate 4 Shuttle.reset, bridge := 0, bridgeOn := false, bridgeUp := false, bridgeFault := false, kt := 65535, derating := false,
    overTemp := false, railI := 0, qDraw := 0, qFeed := 0, qBleed := 0, qBrUp := 0, qBrDn := 0, eLoss := 0, steps := 0 }

/-- A thermistor input without a value (R90). -/
def Therm.reset : Therm := { temp := none, isOpen := false, isShort := false }

/-- A filter before its initialisation (R146, R176). -/
def CellFlt.reset : CellFlt :=
  { initialised := false, valid := false, z := 0, vA := 0, vB := 0, h := 0, rs := 0, p := [], r := 0, soh := 0, cap := 0, capNew := false, relearn := false,
    walk := false, innov := false, innovRun := 0, pred := false, predRun := 0, cleared156 := false, tSub := false, tClamp := false, rsClamp := false,
    degr := false, sumV := 0, nV := 0, sumI := 0, nI := 0, temp := none, tempAt := 0, restAt := none, restSeen := false, restV := [], fullAt := none, fullSeen := false, q := 0,
    lastRef := none, skipped := false, missed := 0 }

/-- An unused place of the impedance map (R192). -/
def ImpCell.reset : ImpCell :=
  { z := List.replicate 8 none, job := 0, low := 0, upd := 0, tOff := 0, offL := false, tInt := none, phi := none, ztClamp := false, fitAt := none, grow := 0,
    odev := none, growHigh := false, outHigh := false, base := [], baseV := false, tBase := 0, bTime := 0, anchor := none, anchorAt := 0, hTemp := none,
    okZ := [], okT := none }

/-- An entry of zeros: a cell that is not fitted (R533). -/
def LearnEntry.zero : LearnEntry :=
  { cap := 0, rs := 0, h := 0, tOff := 0, tBase := 0, capV := false, offL := false, baseV := false, slotChg := false, slot := 0, bTime := 0,
    base := List.replicate 8 (0, 0) }

/-- A channel and an input at the rise of the LAT supply. -/
def SafeChan.reset : SafeChan :=
  { high := false, lowAt := some 0, maskEnd := none, checked := false, passed := false, fails := 0, passes := 0, roseAt := none }

def SafeInput.reset : SafeInput :=
  { a := .reset, b := .reset, st := .disabled, paired := false, demands := 0, fellAt := none, fallOk := false, verdict := none }

def SafeOut.reset : SafeOut :=
  { cmd := false, hs := false, ls := false, rb := false, mirror := true, weld := false, wrongAt := none, tfail := false, inTest := none, tests := 0 }

def EngineBlock.empty : EngineBlock := { cells := List.replicate 512 { sum := 0, n := 0 }, cur := { sum := 0, n := 0 }, volt := { sum := 0, n := 0 } }

/-- A compensator after reset (R245). -/
def Comp.reset : Comp :=
  { coef := List.replicate 7 0, e := [0, 0, 0], u := [0, 0, 0], staged := none, lEst := 0, rEst := 0, fc := 0, gm := 0, pm := 0, retunes := 0, rej := 0, src := 0,
    jobId := 0, resid := 0 }

/-- A phase after reset (R244, R246); `search` of a configured phase follows from PHMASK at BOOT. -/
def Phase.reset : Phase :=
  { st := .unconfigured, outr := 0, unexp := false, rdy := false, rdyAt := 0, rdyLosses := [], oc := false, ocDark := false, ocThis := false, ocRun := 0,
    ocTrips := 0, ocNoted := none, hiccups := 0, hiccupAt := [], otw := false, uvlo := false, desat := false, armed := false, gduReady := false, upAt := 0,
    upSeen := false, i := 0, iSum := { sum := 0, n := 0 }, iMean := 0, vLink := none, overV := 0, tHs := none, gateMv := 0, thrSeen := 0, gdu := none,
    rcSeq := 0, rcOpen := false, rcAt := 0, rcMiss := 0, rcGood := 0, thrSent := 0, ack := none, cfgAt := none, joinAt := none, duty := 0, trim := 0,
    weight := 0, offset := 0, periodAt := none, q := 0, comp := Comp.reset, activeAll := false, ident := List.replicate 8 none, identJob := 0, identV := 0 }

/-- An absent place in the ring. -/
def RingSeg.reset : RingSeg :=
  { delayDown := 0, delayUp := 0, stale := false, cutAt := none, isolated := false, converted := false, framePos := none, arrived := false }

/-- A controller that is not there: disabled. -/
def CanBuf.empty : CanBuf := { frame := { idw := 0, ctlw := 0, data := List.replicate 64 0#8 }, st := 0, abortReq := false }

def CanSet.reset : CanSet :=
  { en := false, fd := true, txpri := false, term := false, mon := false, wakeEn := true, nbt := 0x3EFC7C00, dbt := 0x9E480F01, node := 1, hbPeriod := 1000,
    base := 0x1E500000, rqOwn := 0, rqLen := 64, noMatch := false }

def CanCtl.reset : CanCtl :=
  { set := .reset, on := false, est := 0, tec := 0, rec_ := 0, lec := 0, tbs := List.replicate 3 .empty, txNow := none, filters := List.replicate 256 (0, 0), fltLen := 0,
    rq0 := [], rq1 := [], rqPut := 0, rqGet := 0, rqFull := false, rxLost := 0, rxLostAll := 0, ackRun := 0, alone := false, hbOnly := false, txOk := 0, rxOk := 0,
    busOffs := 0, alones := 0, busOffAt := none, hbSeq := 0, hbAt := 0, annAt := 0, annDue := none, disabling := none }

def Partner.empty : Partner :=
  { st := 0, node := 0, kind := 0, model := 0, serial := 0, seenA := false, seenB := false, hbPer := 0, hbAt := 0, lostAt := 0 }

/-- A PTP port in LISTENING, or DISABLED. -/
def PtpPort.fresh (st : PtpState) : PtpPort :=
  { st := st, ann := none, annAt := 0, syncAt := 0, sync := none, t1 := 0, t2 := 0, syncSeen := false, reqSeq := 0, reqOut := none, reqTx := none, pResp := none, mpd := 0,
    offset := none, seqAnn := 0, seqSync := 0, syncOut := none }

def Cpx.zero : Cpx := { re := 0, im := 0 }

def Series.empty (n : Nat) : Series := { s0 := 0, s1 := 0, lines := List.replicate n Cpx.zero, prev := none, gap := false }

/-- One INPUTS entry when new: FUNC, SRC, DOOR_ACT; filter 300 µs, DISC 50 ms (R289, R311). -/
def floorInput (func src act : Nat) : List Byte := leBytes 1 func ++ leBytes 1 src ++ leBytes 1 15 ++ leBytes 1 0 ++ leBytes 2 50 ++ leBytes 1 act ++ leBytes 1 0

/-- The bytes of the record when new, without its CRC (R289, R310). -/
def floorBody : List Byte :=
  leBytes 2 1 ++ leBytes 2 256 ++ leBytes 4 0 ++ leBytes 4 4200000 ++ leBytes 4 2800000 ++ leBytes 4 2400000000 ++ leBytes 4 1250000 ++ leBytes 4 400000
    ++ leBytes 4 20000 ++ leBytes 4 2000000 ++ leBytes 2 500 ++ leBytes 1 10 ++ leBytes 1 45 ++ leBytes 1 6 ++ leBytes 3 0
    ++ leBytes 4 0xFF000000 ++ leBytes 4 0xFD000000 ++ leBytes 4 0xFF000000 ++ (List.replicate 4 (leBytes 4 0xF8000000)).flatten
    ++ leBytes 4 0x03000000 ++ leBytes 4 0x03000000 ++ leBytes 4 0x01000000 ++ (List.replicate 4 (leBytes 4 0x08000000)).flatten
    ++ leBytes 4 1400000 ++ leBytes 4 1800000000 ++ leBytes 2 6000 ++ leBytes 1 0 ++ leBytes 1 0 ++ leBytes 4 100000 ++ leBytes 4 500000
    ++ floorInput 1 0x21 0 ++ floorInput 3 0x43 1 ++ floorInput 3 0x21 1 ++ floorInput 3 0x43 1 ++ floorInput 3 0x21 1 ++ floorInput 1 0 0 ++ floorInput 1 0 0
    ++ floorInput 1 0x43 0 ++ leBytes 1 7 ++ List.replicate 67 0#8

/-- The record when new, with its CRC. -/
def floorNew : List Byte := floorBody ++ leBytes 4 (crc32c floorBody)

/-! ### Parts -/

/-- Power-up values of the module-level state (R18, R363); the engines are in reset. -/
def SysPart.fresh : SysPart :=
  { variant := .s512as, serial := [0, 0, 0], hubRev := 0, ctlRev := 0, mstate := .off, prev := .off, entryTime := 0, cause := 0, changes := 0, now := 0,
    faultCauses := [], faultAt := none, engSvc := List.replicate 15 false, takeovers := 0, drawn := 0 }

/-- A time word that has never been written. -/
def TimeWord.none_ : TimeWord := { optime := 0, pcyc := 0, secured := false, valid := false }

/-- An empty recorder (R517, R526). -/
def LogPart.fresh : LogPart :=
  { fast := [], fHead := 1, fDisc := 0, keepGen := [], keepRes := [], kHead := 1, kDisc := 0, queue := [], qLost := 0, torn := 0, resHigh := false,
    safeFull := false, safOvfN := 0, word0 := .none_, word1 := .none_, nextWord := 0, opBoot := 0, pcyc := 0, secured := false }

/-- No session (R331, R333). -/
def IxPart.fresh : IxPart :=
  { sessions := List.replicate 4 Session.closed, owner := none, dropped := 0, resent := 0, tx := [], held := [] }

/-- Both banks of zeros (R353, R355). -/
def ImgPart.fresh : ImgPart :=
  { bank0 := [], bank1 := [], front1 := false, epoch := 0, dirty := [], written := [], copying := [], hold := none, tlatch := false, tlack := false, holdLong := false,
    deferred := none, swaps := 0, defers := 0, defMax := 0, chkFail := 0, lfTile := 0, lfBank := 0, stuck := 0, faults := [], td := none, taken := [] }

/-- A leash without lanes (R52, R111). -/
def LeashPart.fresh : LeashPart :=
  { lanes := List.replicate 2 { up := false, hold := none, downs := [], lastSync := 0 }, delay := 0, delayKnown := false, missed := 0, flaps := 0, lostAt := none,
    lastStored := 0, syncsSent := 0, syncsHeard := 0, echoDue := none, aligned := false, tripsUp := [], tripDown := false, nextTag := 0, waiting := [],
    hubTag := none, hubDelay := 0, inFlight := none, snapSeq := 0, lastEvent := [], lossMode := 0, broddaMs := 2000, hubMode := 0, hubBrodda := 2000,
    stack := .normal, silentAt := none, broddaStopped := false }

/-- An intact ring (R26). -/
def RingPart.fresh : RingPart := { rungs := List.replicate 17 true, segs := List.replicate 16 RingSeg.reset, split := false, trips := [] }

/-- Sensing at its reset settings, nothing measured (R62 to R91). -/
def SensePart.fresh : SensePart :=
  { cells := (List.range 512).map CellSense.reset, wires := List.replicate 513 Wire.reset, segs := List.replicate 16 SegSense.reset,
    therms := List.replicate 128 Therm.reset, strV := .empty, cur := .empty, pri := .empty, sec := .empty, pwr := .empty, rate := 0, rateCfg := 0,
    pendingRate := none
    win0 := { locked := true, nReq := 40, n := 48, m := 15, lock := true, pos := 0, startAt := 0 }
    win1 := { locked := false, nReq := 4000, n := 4000, m := 0, lock := false, pos := 0, startAt := 0 }
    rsh := 50000, isel2 := false, vsel2 := false, iPriOk := false, iSecOk := false, vDivOk := false, xchkI := 0, xchkV := 0, xchkIOn := false, xchkVOn := false,
    bothLostAt := none, bothLost := false, held := false, apCount := 0, seq := 0, apWire := List.replicate 513 0, apRun := List.replicate 512 false,
    firstSnap := false, refDueAt := 0, refJob := none, isoCode := 0, owtCycle := none, owtNext := none, testWire := none, clearOpen := none }

/-- The bark line undriven (R101). -/
def BarkPart.fresh : BarkPart := { line := true, drive := false, extLat := false, pullUp := false, stuck := false, falls := 0, lowAt := none }

/-- The policy of R126 at its reset values. -/
def BalPolicy.reset : BalPolicy :=
  { goal := 0, mode := 0, start := 1000, stop := 300, brStart := 20000, brStop := 5000, iSet := 2000, iBr := 2000, vMargin := 100000, tFeedMin := 0, tMax := 5500,
    maxBleed := 8, pwrMax := 60 }

/-- Balancing disabled, every element open (R126, R141 to R144). -/
def BalPart.fresh : BalPart :=
  { en := false, policy := .reset, cells := List.replicate 512 CellBal.reset, segs := List.replicate 16 SegBal.reset, staged := [], stagedBridges := [],
    stagedActive := false, staggerNext := 0, queued := none, sent := none, manuals := [], disabling := none, clearing := none, openNext := false, pEst := 0,
    decisions := 0, kFactor := 65535, socT := 0, pwrLim := false, lastCount := 0 }

/-- A learned-value copy that has never been written. -/
def LearnCopy.none_ : LearnCopy := { valid := false, gen := 0, optime := 0, cause := 0, pcyc := 0, cells := [] }

/-- The filter configuration of R178 at its reset values. -/
def FltConfig.reset : FltConfig := { rateRpt := 50, anchDz := 200, capDzMin := 3000, capGain := 25, sigmaValid := 300, tSrc := 0 }

/-- Filters before their initialisation, no slot committed (R176 to R178). -/
def FltPart.fresh : FltPart :=
  { cells := List.replicate 512 CellFlt.reset, slots := List.replicate 4 none, staging := none, slotMap := List.replicate 16 0, config := .reset, frozen := false,
    lastStep := 0, steps := 0, turn := 0, strSoc := 0, strSoh := 0, aAvail := 0, eToFull := 0, socMin := 0, socMax := 0, idxMin := 0, idxMax := 0, ocvSum := none,
    rsSum := 0, nValid := 0, nDegr := 0, learned := false, qHib := 0, hibAt := none, wakePending := false, hibRest := [], hibRestRun := 0, wakeRun := 0,
    chgAt := none, chgLong := false, lowAt := none, strRestAt := none, saving := none, saveAgain := none, saveSrcs := [], saves := 0, lastCause := 0,
    lastSave := 0, saveLen := 0, copyA := .none_, copyB := .none_ }

/-- The Latch without its supply; both Floor copies hold the values when new, no password is set, the change log is empty (R286, R310, R313, R317). -/
def LatchPart.fresh : LatchPart :=
  { powered := false, state := .selftest, fn := .none, cause := 0, causeIx := 0, muzzle := true, causes := [], acts := 0, actTime := 0, actAt := none, deny := 0,
    pendingAct := none, copyA := floorNew, copyB := floorNew, okA := true, okB := true, inputs := List.replicate 8 SafeInput.reset,
    tps := List.replicate 4 { on := false, fault := false }, frames := 0, outs := List.replicate 4 SafeOut.reset, testsOff := false, testAt := 0, seq := .idle,
    seqAt := 0, seqSrc := none, seqFail := 0, preDone := false, preI := 500, preTmax := 5000, peak := 0, peaked := false, so3At := 0, lowSince := none, so1At := 0,
    srst := false, srstAt := 0, srstIgnored := false, srstPress := none, resetting := none, isoPos := true, isoFirst := none, rIso := none, vPos := none,
    vNeg := none, isoLow := 0, isoWarned := false, lockstep := true, restartAt := none, answering := true, missRun := 0, goodRun := 0, missed := 0,
    chk := List.replicate 8 false, blk := .empty, hotAt := none, overI := 0, spsAt := none, unexecAt := none, pwSet := false, fails := 0, iter := 0, salt := [],
    key := [], lockUntil := 0, lockEnd := none, nonces := [], windows := [], changes := [], changeSeq := 0, head := List.replicate 32 0#8, proof := none,
    commitOpen := none }

/-- Converter settings at their reset values (R242, R243). -/
def CnvSet.reset : CnvSet :=
  { tc := 8000, lockSrc := 0, packIdx := 0, packSize := 1, syncDly := 0, phMask := 0xFF, nMin := 1, deadTime := 1000, dMin := 0x051EB852, dMax := 0xFAE147AE,
    trimMax := 0x028F5C29, shareGain := 20, fcSet := 625000, tuneEn := true, ilimChg := 1250000, ilimDis := 1250000, iPhCont := 156250, iFast := 400000,
    i2tMax := 1000000, vTarget := 0, slewV := 100000, ilimSs := 50000, ssTimeout := 60000, kpv := 2000, kiv := 20000, slewStop := 25000 }

/-- The converter MUZZLED (R230, R241 to R246). -/
def CnvPart.fresh : CnvPart :=
  { st := .muzzled, set := .reset, phases := List.replicate 8 Phase.reset, locked := false, refSeen := false, alignRun := 0, syncMiss := 0, lockErr := 0,
    syncRef := none, lastRef := 0, nextRef := 0, periods := 0, iRef := 0, iSum := 0, clamped := false, foldback := false, preAt := 0, ssElapsed := 0, vRef := none,
    vTgt := none, slew := 0, vInt := 0, preRuns := 0, vCmd := none, vCmdDue := false, ssHics := [], ssCount := 0, hicAt := 0, settleAt := none, sslatch := false,
    stopZeroAt := none, parkSrc := none, parkCause := (0, []), xchkAt := none, xchkNoted := false, fibreOn := false, graceEnd := none, dnCount := 0,
    linkOv := false, handOver := none, track := [], trackJob := 0 }

/-- The reset requests of the eight slots, mHz (R184). -/
def ImpSet.reset : ImpSet := { reqs := [100, 1000, 10000, 40000, 160000, 500000, 2000000, 10000000], amp := 10000, nPer := 4, nSet := 1 }

/-- In-Service Impedance idle, the map empty (R192, R203). -/
def ImpPart.fresh : ImpPart :=
  { set := .reset, interval := 0, hslot := 5, growWarn := 24576, outWarn := 2000, zts := List.replicate 4 none, jobZts := List.replicate 4 none, state := .idle,
    en := true, nextJob := 1, job := none, jobSet := .reset, waiting := [], dueAt := 0, begun := false, jobAt := 0, lastStart := none, nextDue := none,
    lastJob := 0, lastStat := 0, lastDone := 0, lastOk := 0, lastOkAt := none, skipped := 0, clip := false, discards := 0, done := 0, bands := [], band := 0,
    nPeriod := 0, nValid := 0, nLow := 0, nHigh := 0, lfsr := 0, chip := 0, chipAt := 0, x := 0, perAt := 0, sample := 0, badPeriod := false, missRun := 0,
    refMin := none, refMax := none, acc := [], accI := .empty 0, accX := .empty 0, accPh := [], sumI := [], sumX := [], sumPh := [],
    linkV := { sum := 0, n := 0 }, bandDone := none, turnHigh := false, latched := [], segSig := [], selSeen := false, disabling := none,
    cells := List.replicate 512 ImpCell.reset, baseTime := 0, iLine := List.replicate 8 0, quietAt := none }

/-- Loop settings at their reset values (R277). -/
def LoopSet.reset : LoopSet :=
  { lmode := 0, ffEn := true, src := 0, fbSrc := 1, lossAct := 1, pmax := 2000000, imax := 1250000, vdcMid := 1800000, vdcSpan := 200000,
    gains := [100, 2000, 6554, 655360, 2000, 20000], spRamp := 32768, manRamp := 100000, schedHold := 10, spTimeout := 0, ainDb := 0, spReturn := 1000 }

/-- The loop engine at rest (R276). -/
def LoopPart.fresh : LoopPart :=
  { set := .reset, lmode := 0, src := 0, am := false, modeDue := false, srcDue := false, amDue := none, onFb := false, manIref := 0, manRef := 0, packet := none,
    packetAt := 0, sources := List.replicate 4 { lost := false, okAt := none }, spSrc := none, spR := none, fb := none, ff := 0, p := 0, ig := 0, u := 0,
    limHi := false, limLo := false, ffLost := false, held := false, sumP := 0, sumI := 0, sumN := 0, preset := none, ain := none, ainUse := 0, ainMask := 0,
    ainOpen := false, pulseAt := 0, pulseFreq := 0, pulseDuty := 0, pulseBad := 0, sched := [], staged := List.replicate 256 none, commit := none, schedIx := none,
    schedWait := false, schedEnd := false, schedVal := none, schedSkip := none, unlockAt := none, cycles := 0, losses := 0, presets := 0 }

/-- A fan or pump output (R279). -/
def FanPump.reset : FanPump :=
  { map := { dStart := 3277, dFull := 65535, outOff := 0, outMin := 13107, outMax := 65535, fire := 0, override := none }, inv := false, ppr := 2, tachMin := 0,
    duty := 0, rpm := 0, slowAt := none, stall := false }

/-- A louvre (R280, R281). -/
def Louvre.reset : Louvre :=
  { map := { dStart := 0, dFull := 65535, outOff := 0, outMin := 0, outMax := 65535, fire := 0, override := none }, fbLo := 0, fbHi := 10000000, kp := 200, ki := 50,
    db := 50, umax := 10000, friction := List.replicate 32 0, frSet := false, st := .off, pos := 0, tgt := 0, fbV := none, u := 0, ig := 0, iMot := 0, watch := none,
    stalls := [], offAt := 0, badAt := none, goodAt := none, learn := none }

/-- The thermal loop (R278). -/
def ThmPart.fresh : ThmPart :=
  { tSel := 0, thIdx := 0, tSet := 3000, kpT := 6554, kiT := 328, fsDemand := 65535, hibDemand := 0, tCtrl := none, noneAt := none, tLost := false, ig := 0, d := 0,
    fire := false, cycles := 0, fps := List.replicate 2 FanPump.reset, lvs := List.replicate 4 Louvre.reset, learnSrc := none }

/-- Network settings at their reset values (R402, R403). -/
def IpSet.reset : IpSet := { addr := 0xC0A86464, mask := 0xFFFFFF00, gw := 0, vlan := 0, pcp := 0, mode := 0 }
def PtpSet.reset : PtpSet :=
  { en := true, profile := 0, role := 0, domain := 0, prio1 := 128, prio2 := 128, slaveOnly := true, logSync := 0, lockThr := 1000, stepThr := 1000000 }

/-- The PTP clock, no port running (R382, R403). -/
def PtpPart.fresh : PtpPart :=
  { set := .reset, offset := 0, valid := false, ports := List.replicate 2 (PtpPort.fresh .disabled), slave := none, locked := false, hold := false, holdAt := 0,
    gm := false, inRun := 0, outRun := 0, stepRun := 0, first := true, lastOffset := none, fadj := 0, fadjAt := 0, gmId := 0, gmClass := 0, utc := 0, steps := 0,
    lastStep := 0, queues := List.replicate 2 { entries := [], ovf := false, lost := 0, gap := false } }

/-- The networks, N0 in reset (R402 to R405). -/
def NetPart.fresh : NetPart :=
  { ip := .reset, ipNext := none, cages := List.replicate 2 { present := false, fault := false, unusable := false, link := false, up := false, lastRct := none },
    allLost := false, dups := [], nodes := [], dupDisc := 0, uniqA := 0, uniqB := 0, wrongLan := 0, rxDrop := 0, supSeq := 0, echoes := [], out := [],
    ptp := .fresh, cans := List.replicate 2 CanCtl.reset, partners := List.replicate 40 Partner.empty }

/-- The supplies absent, nothing measured, no checkpoint, no hold (R462, R463). -/
def PwrPart.fresh : PwrPart :=
  { feeds := List.replicate 2 { ok := false, low := false }, sdsOk := false, sdsCap := false, strHigh := false
    meas := [0x80000000#32, 0x80000000#32, 0x80000000#32, 0, 0, 0, 0], pfAt := none, lost := false, lossDue := false, holdup := 0, holdup85 := 0, dips := 0,
    losts := 0, hubOn := false, hold := none, hcause := 0, hlimit := false, holdLen := 0, holdMax := 0, stateDue := none, leadHeld := false, tmonOk := false,
    kenOk := false, resOk := false, leadOk := false, resCtl := false, tcause := 0, ckSeq := 0, ckAt := none, slot0 := none, slot1 := none, journal := [],
    leadFails := 0, handbacks := 0, cleanAt := none, selfFails := [], resTest := 0, saveDue := none }

/-- The key store when new: every slot empty, KSGEN 0 (R471). -/
def KeyStore.fresh : KeyStore := { valid := true, gen := 0, keys := List.replicate 4 none, minP0 := 0, minP1 := 0 }

/-- Locked, no image booted (R482). -/
def SecPart.fresh : SecPart :=
  { vkh := List.replicate 48 0#8, dkh := List.replicate 48 0#8, vmin := 0, ksA := .fresh, ksB := .fresh, selSlot := 0, slot := 0, alt := false, bootErr := 0,
    errTgt := 0, p0Img := false, p1Img := false, vsvn := 0, bootAt := 0, romTime := 0, loadTime := 0, released := false, releasedAt := 0, loaded := false,
    dead := false, saImg := false, runHash := [], dstate := 0, closing := false, touched := List.replicate 15 false, halted := List.replicate 15 false,
    openEnd := none, opens := 0, denies := 0, lastCause := 0, nonce := none, fullDue := none, fullCause := false, answer := .nothing }

/-- A slot-select record that no valid copy gives: slot A, confirmed (R495). -/
def SlotRec.none_ : SlotRec := { valid := false, gen := 0, active := 0, trial := false, prev := 0, tries := 0, abver := 0, pbver := 0, actTime := 0 }

/-- The flash erased, no update (R485, R510). -/
def UpdPart.fresh : UpdPart :=
  { flash := [], recA := .none_, recB := .none_, setA0 := none, setA1 := none, setB0 := none, setB1 := none, ustate := 0, length := 0, bcrc := 0, written := [],
    src := none, waiting := none, errTgt := 0, lastErr := 0, newBver := 0, nSchema := 0, nSchemaMin := 0, nSaif := 0, hashes := [], saifRun := 0, saPend := false,
    bver := 0, schema := 0, schemaMin := 0, setSchema := 0, setOrigin := 0, dflt := false, setGen := 0, setDue := none, setAt := none, confEnd := none,
    pauseAt := none, lastPause := 0, fellBack := false, reverting := false }

/-- Completion queue registers at their reset values (R425). -/
def Cq.reset : Cq := { base := 0, size := 4, put := 0, get := 0, mtime := 0, mcount := 1, full := false, mpend := 0, oldest := none, waiting := [] }
def Stage.empty : Stage := { tile := none, words := List.replicate 15 none }
def DmaChan.reset : DmaChan :=
  { owner := none, st := .disabled, prio := 0, rbase := 0, rsize := 4, rput := 0, rget := 0, faddr := 0, fcause := 0, facc := 0, fregion := 0, cq := .reset,
    cur := none, stage := .empty }
def Ring.reset : Ring := { en := false, stopping := false, rbase := 0, rsize := 4, rput := 0, rget := 0, cq := .reset, running := [] }
def FramePort.reset : FramePort :=
  { refused := 0, busy := false, daddr := 0, dport := 0, flen := 0, tsreq := false, fid := 0, fbuf := [], cq := .reset, sends := [] }
def Region.off : Region := { vbase := 0, size := 0, lock := false, en := false, pbase := 0, x := false, w := false, r := false }
def Csrs.reset : Csrs :=
  { mie := false, mpie := false, meie := false, mtie := false, mtvec := 0, mscratch := 0, mepc := 0, mcause := 0, mtval := 0, mcycle := 0, minstret := 0,
    mcounterinhibit := 0 }

/-- A policy engine in reset (R409, R414, R417, R422). -/
def PolEngine.reset : PolEngine :=
  { loaded := false, up := false, held := false, load := 0, entry := 0, grant := 0, dmaMask := 0, wdper := 0, starts := 0, restarts := [], restartDue := none, ram := [],
    regs := List.replicate 31 0, pc := 0, csr := .reset, resv := none, asleep := false, mtimecmp := 0xFFFFFFFFFFFFFFFF, mtimeHi := 0, ptpHi := 0, ptpNs := 0,
    wdAt := 0, sleepRef := 0, regions := List.replicate 64 .off, active := false, fcause := 0, facc := 0, fregion := 0, fvaddr := 0, fpaddr := 0, faults := 0,
    stage := .empty, bLen := 0, bstat := 0, bAt := 0, tpart := 0, twrites := 0, ring := .reset, port := .reset }

/-- ROUTE at BOOT: what belongs to P1, and what it names, goes to P1, everything else to P0; no DMA channel is owned yet (R433). -/
def routeReset : Nat := 2 ^ 33 + 2 ^ 35 + 2 ^ 44

/-- The policy environment, both engines in reset (R410, R432). -/
def PolPart.fresh : PolPart :=
  { engines := List.replicate 2 PolEngine.reset, chans := List.replicate 16 DmaChan.reset, lastChan := 15, pend := 0, en := 0, route := routeReset, rdir := 0,
    redirected := 0, timers := List.replicate 8 { per := 0, start := 0 } }

end Sys2Proof.Machine
end

