-- ==== Sys2Proof/Machine/State.lean ====
section
/-! DEFINITION. The state of the module: the block's registers, stores and queues part by part, and the queue of waiting commands; and the state after reset. -/

namespace Sys2Proof.Machine

/-- Everything the spec gives the module, part by part. -/
structure Block where
  sys : SysPart
  log : LogPart
  ix : IxPart
  img : ImgPart
  leash : LeashPart
  ring : RingPart
  sense : SensePart
  bark : BarkPart
  bal : BalPart
  flt : FltPart
  latch : LatchPart
  cnv : CnvPart
  imp : ImpPart
  loop : LoopPart
  thm : ThmPart
  net : NetPart
  pwr : PwrPart
  sec : SecPart
  upd : UpdPart
  pol : PolPart
  deriving DecidableEq, Repr

/-- The machine: the block and the commands that wait, first in, first out. -/
structure State where
  block : Block
  pending : List Instr
  deriving DecidableEq, Repr

/-- Why a step can stop with a fault. No command of this block does: the type is empty. -/
inductive Fault where
  deriving DecidableEq, Repr

/-- Why a step can be refused. -/
inductive Refusal where
  /-- A command without a meaning yet; safe, the machine stops. -/
  | notModelled (mnemonic : String)
  deriving DecidableEq, Repr

/-- A new module before its first supply: every part at its power-up values (log entries 43 and 44). -/
def Block.new : Block :=
  { sys := .fresh, log := .fresh, ix := .fresh, img := .fresh, leash := .fresh, ring := .fresh, sense := .fresh, bark := .fresh, bal := .fresh, flt := .fresh,
    latch := .fresh, cnv := .fresh, imp := .fresh, loop := .fresh, thm := .fresh, net := .fresh, pwr := .fresh, sec := .fresh, upd := .fresh, pol := .fresh }

/-- The machine right after reset: a new module, unpowered, and no command waiting. -/
def State.reset : State := { block := .new, pending := [] }

end Sys2Proof.Machine
end

