-- ==== Sys2Proof/Machine/Update.lean ====
section
/-! DEFINITION. One updater per part of the block. -/

namespace Sys2Proof.Machine

/-- Change the part `sys` only. -/
def Block.onSys (f : SysPart → SysPart) (b : Block) : Block := { b with sys := f b.sys }

/-- Change the part `log` only. -/
def Block.onLog (f : LogPart → LogPart) (b : Block) : Block := { b with log := f b.log }

/-- Change the part `ix` only. -/
def Block.onIx (f : IxPart → IxPart) (b : Block) : Block := { b with ix := f b.ix }

/-- Change the part `img` only. -/
def Block.onImg (f : ImgPart → ImgPart) (b : Block) : Block := { b with img := f b.img }

/-- Change the part `leash` only. -/
def Block.onLeash (f : LeashPart → LeashPart) (b : Block) : Block := { b with leash := f b.leash }

/-- Change the part `ring` only. -/
def Block.onRing (f : RingPart → RingPart) (b : Block) : Block := { b with ring := f b.ring }

/-- Change the part `sense` only. -/
def Block.onSense (f : SensePart → SensePart) (b : Block) : Block := { b with sense := f b.sense }

/-- Change the part `bark` only. -/
def Block.onBark (f : BarkPart → BarkPart) (b : Block) : Block := { b with bark := f b.bark }

/-- Change the part `bal` only. -/
def Block.onBal (f : BalPart → BalPart) (b : Block) : Block := { b with bal := f b.bal }

/-- Change the part `flt` only. -/
def Block.onFlt (f : FltPart → FltPart) (b : Block) : Block := { b with flt := f b.flt }

/-- Change the part `latch` only. -/
def Block.onLatch (f : LatchPart → LatchPart) (b : Block) : Block := { b with latch := f b.latch }

/-- Change the part `cnv` only. -/
def Block.onCnv (f : CnvPart → CnvPart) (b : Block) : Block := { b with cnv := f b.cnv }

/-- Change the part `imp` only. -/
def Block.onImp (f : ImpPart → ImpPart) (b : Block) : Block := { b with imp := f b.imp }

/-- Change the part `loop` only. -/
def Block.onLoop (f : LoopPart → LoopPart) (b : Block) : Block := { b with loop := f b.loop }

/-- Change the part `thm` only. -/
def Block.onThm (f : ThmPart → ThmPart) (b : Block) : Block := { b with thm := f b.thm }

/-- Change the part `net` only. -/
def Block.onNet (f : NetPart → NetPart) (b : Block) : Block := { b with net := f b.net }

/-- Change the part `pwr` only. -/
def Block.onPwr (f : PwrPart → PwrPart) (b : Block) : Block := { b with pwr := f b.pwr }

/-- Change the part `sec` only. -/
def Block.onSec (f : SecPart → SecPart) (b : Block) : Block := { b with sec := f b.sec }

/-- Change the part `upd` only. -/
def Block.onUpd (f : UpdPart → UpdPart) (b : Block) : Block := { b with upd := f b.upd }

/-- Change the part `pol` only. -/
def Block.onPol (f : PolPart → PolPart) (b : Block) : Block := { b with pol := f b.pol }

end Sys2Proof.Machine
end

