-- ==== Sys2Proof/Machine/Ops.lean ====
section
/-! DEFINITION. The operations that every family shares: time, counters, the event recorder, the image's dirty tiles, settings, free values. -/

namespace Sys2Proof.Machine

/-! ### Time -/

/-- The time-base count moves up to `t`, never back: an event that is due at a count happens at that count or later. -/
def Block.at (t : Nat) (b : Block) : Block := b.onSys fun y => { y with now := max y.now t }

/-- Ticks of 10 ns in a microsecond, a millisecond, a second (R36). -/
def usT : Nat := 100
def msT : Nat := 100000
def secT : Nat := 100000000

/-- The first multiple of `p` above the present count: when a periodic event next falls due. -/
def Block.nextMultiple (p : Nat) (b : Block) : Nat := (b.sys.now / p + 1) * p

/-- The first multiple of `p` at or after `t`. -/
def multipleFrom (p t : Nat) : Nat := (t + p - 1) / p * p

/-- Operating time in ms: the count at BOOT plus the milliseconds of this power-up (R525). -/
def Block.optime (b : Block) : Nat := b.log.opBoot + b.sys.now / msT

/-- The 100 µs control cycle of the present count (R21). -/
def Block.cycle (b : Block) : Nat := b.sys.now / 10000

/-- A free value of this moment, and the block with the draw counted (log entry 3). -/
def Block.draw (b : Block) : BitVec 64 := Config.freeValue b.sys.drawn

/-- The draw has been made. -/
def Block.drew (b : Block) : Block := b.onSys fun y => { y with drawn := y.drawn + 1 }

/-- A Hinge hold is in force (R455). -/
def Block.hinge (b : Block) : Bool := b.pwr.hold.isSome

/-- The power-fail warning stands (R448). -/
def Block.pfWarn (b : Block) : Bool := b.pwr.pfAt.isSome

/-- A feed's measured voltage, µV. -/
def Block.feedUv (b : Block) (n : Nat) : Option Int :=
  let w := (b.pwr.meas.getD n 0x80000000#32).toNat
  if w = 0x80000000 then none else some (toSigned 32 w)

/-- Feed `n` is present, and not below the SDS output of 17.0 V (R443, R446). -/
def Block.feedHolds (b : Block) (n : Nat) : Bool := match b.pwr.feeds[n]? with
  | some f => f.ok && (match b.feedUv n with
    | some v => decide (17000000 ≤ v)
    | none => true)
  | none => false

/-- SDSON: the SDS alone holds the combined rail (R446, R462). -/
def Block.sdsOn (b : Block) : Bool := b.pwr.sdsOk && !b.feedHolds 0 && !b.feedHolds 1

/-! ### Variant -/

/-- Fitted segments: SG0 to SG15, or to SG11 on the MX-S384-AS (R3). -/
def Block.nSeg (b : Block) : Nat := if b.sys.variant = .s384as then 12 else 16

/-- Fitted cells (R3). -/
def Block.nCell (b : Block) : Nat := 32 * b.nSeg

/-- Fitted thermistor inputs (R3). -/
def Block.nTherm (b : Block) : Nat := 8 * b.nSeg

/-- A segment mask names fitted segments only (R4). -/
def Block.maskFitted (m : Nat) (b : Block) : Bool := m < 2 ^ b.nSeg

/-- The mask of the fitted segments. -/
def Block.fittedMask (b : Block) : Nat := 2 ^ b.nSeg - 1

/-- The state code of R18; Off has none and reads 0. -/
def MState.code : MState → Nat
  | .off => 0
  | .boot => 0
  | .park => 1
  | .run => 2
  | .hibernate => 3
  | .fault => 4
  | .safe => 5

/-- The status codes of R17. -/
def Status.code : Status → Nat
  | .ok => 0
  | .busy => 1
  | .denied => 2
  | .badOpcode => 3
  | .badParam => 4
  | .badState => 5
  | .notOwner => 6
  | .tileCheck => 7
  | .aborted => 8
  | .fault => 9
  | .timeout => 10
  | .segmented => 11

/-! ### Image and settings -/

/-- Insert a tile index into a rising list without repeats. -/
def insertIdx (t : Nat) : List Nat → List Nat
  | [] => [t]
  | x :: l => if t < x then t :: x :: l else if t = x then x :: l else x :: insertIdx t l

/-- The writers of these tiles have new values for the back bank (R353, R356). -/
def Block.touch (ts : List Nat) (b : Block) : Block := b.onImg fun g => { g with dirty := ts.foldl (fun d t => insertIdx t d) g.dirty }

/-! ### The event recorder (R512 to R527) -/

/-- The oldest held Fast record whose severity is at or below `s` leaves; `none` when there is none (R519). -/
def evictFast (s : Severity) : List FastRec → Option (List FastRec)
  | [] => none
  | r :: l => if r.sev.rank ≤ s.rank then some l else (evictFast s l).map (r :: ·)

/-- The same rule for the Keep general area (R519). -/
def evictKeep (s : Severity) : List KeepRec → Option (List KeepRec)
  | [] => none
  | r :: l => if r.sev.rank ≤ s.rank then some l else (evictKeep s l).map (r :: ·)

/-- Capacity of the Fast log, of the Keep general area, of the Safety reserve and of the queue (R518, R523). -/
def fastSlots : Nat := 65536
def keepSlots : Nat := 15360
def reserveSlots : Nat := 1024
def queueSlots : Nat := 256

/-- A Fast record goes to a free slot, or to the slot of the oldest of equal or lower severity, or is discarded (R519). -/
def putFast (r : FastRec) (g : LogPart) : LogPart :=
  let g1 := { g with fHead := g.fHead + 1 }
  if g.fast.length < fastSlots then { g1 with fast := g.fast ++ [r] }
  else match evictFast r.sev g.fast with
    | some l => { g1 with fast := l ++ [r] }
    | none => { g1 with fDisc := satAdd 0xFFFFFFFF g.fDisc 1 }

/-- The newest queued record of lower severity than `s` leaves (R523). -/
def dropLower (s : Severity) (q : List KeepRec) : Option (List KeepRec) :=
  match q.reverse.findIdx? fun r => r.sev.rank < s.rank with
  | none => none
  | some i => some (q.reverse.eraseIdx i).reverse

/-- A Keep record joins the queue; a full queue loses its newest record of lower severity, or the arriving one (R523). -/
def putKeep (r : KeepRec) (g : LogPart) : LogPart :=
  let g1 := { g with kHead := g.kHead + 1 }
  if g.queue.length < queueSlots then { g1 with queue := g.queue ++ [r] }
  else match dropLower r.sev g.queue with
    | some q => { g1 with queue := q ++ [r], qLost := satAdd 0xFFFF g.qLost 1 }
    | none => { g1 with qLost := satAdd 0xFFFF g.qLost 1 }

/-- PTP time in ns: the count times 10 ns plus the offset, seconds below 2^48 (R380, R381). -/
def Block.ptpNs (b : Block) : Int := ((b.sys.now : Int) * 10 + b.net.ptp.offset) % 281474976710656000000000

/-- PTP seconds and nanoseconds (R380). -/
def Block.ptpTime (b : Block) : Nat × Nat := ((b.ptpNs / 1000000000).toNat, (b.ptpNs % 1000000000).toNat)

/-- The PTP time that a record carries while it is valid (R516, R527). -/
def Block.ptpStamp (b : Block) : Option (Nat × Nat) := if b.net.ptp.valid then some b.ptpTime else none

/-- PTP is in lock: LOCKED or GM (R385). -/
def Block.ptpLock (b : Block) : Bool := b.net.ptp.locked || b.net.ptp.gm

/-- PTP time in 10 ns units while PTP is in lock (R217, R385). -/
def Block.ptpTicks (b : Block) : Option Nat := if b.ptpLock then some (b.ptpNs / 10).toNat else none

/-- Reserve slots used, those of queued Safety records included. -/
def LogPart.reserveTaken (g : LogPart) : Nat := g.keepRes.length + (g.queue.filter fun r => r.resv).length

/-- One event's Fast record and, by severity and `keep`, its Keep record (R517); the pointer tile and the window tiles follow (R530, R537). -/
def putRecord (sev : Severity) (keep saf : Bool) (code src arg0 : Nat) (data : List Nat) (b : Block) : Block :=
  let t := b.optime
  let p := b.ptpStamp
  (b.touch ([0x18, 0x800 + b.log.fHead % 1024] ++ (if keep then [0xC00 + b.log.kHead % 1024] else []))).onLog fun g =>
    let g1 := putFast { seq := g.fHead, optime := t, code := code, sev := sev, kept := keep, safOvf := saf, src := src, arg0 := arg0, data := data.take 3 } g
    if keep then
      putKeep { seq := g1.kHead, optime := t, code := code, pcyc := g.pcyc, ptp := p, sev := sev, resv := sev == .safety, src := src, arg0 := arg0, data := data.take 6, crcOk := true } g1
    else g1

/-- Record an event under R517; a Safety record that finds the reserve full goes to the Fast log alone, and the first such writes LOG_SAFETY_FULL (R521). -/
def recordEvent (sev : Severity) (code src arg0 : Nat) (data : List Nat) (b : Block) : Block :=
  match sev with
  | .trace => putRecord sev false false code src arg0 data b
  | .safety =>
    if b.log.reserveTaken < reserveSlots then putRecord sev true false code src arg0 data b
    else
      let b1 := putRecord sev false true code src arg0 data b
      let b2 := b1.onLog fun g => { g with safOvfN := g.safOvfN + 1, safeFull := true }
      if b.log.safeFull then b2 else putRecord .fault true false Event.logSafetyFull.code 0 0xFFFF [] b2
  | _ => putRecord sev true false code src arg0 data b

/-- SRC of an event (R515): the Latch for the safety table, the stack hub for the leash and integrity tables, N0 for networks and sessions, F0, S0, C0 for
their tables, Lead for the rest (log entry 8). -/
def Event.source (e : Event) : Nat :=
  let c := e.code
  if 0x0900 < c ∧ c < 0x0A00 then 0x10
  else if 0x0120 ≤ c ∧ c < 0x0130 then 0x11
  else if 0x0300 ≤ c ∧ c < 0x0400 then 0x11
  else if 0x0500 ≤ c ∧ c < 0x0600 then 4
  else if 0x0600 ≤ c ∧ c < 0x0700 then 10
  else if 0x0700 ≤ c ∧ c < 0x0900 then 8
  else if 0x0A00 ≤ c ∧ c < 0x0B00 then 12
  else if 0x0103 ≤ c ∧ c ≤ 0x0105 then 12
  else 0

/-- Record an event with the severity of its table. -/
def note (e : Event) (arg0 : Nat) (data : List Nat) (b : Block) : Block :=
  recordEvent e.severity e.code e.source arg0 data b

/-- ARG0 of an event that names no index (R514). -/
def noArg : Nat := 0xFFFF

/-- A signed DATA word. -/
def dw (v : Int) : Nat := ofSigned 32 v

end Sys2Proof.Machine
end

