-- ==== Sys2Proof/Machine/Cells.lean ====
section
/-! DEFINITION. Cells, wires, segments and balancing elements: how they are read and changed, what they are after reset, and the opening of elements (R78, R80, R121, R124, R136). -/

namespace Sys2Proof.Machine

/-! ### Cells and elements -/

/-- Segment of a cell (R15). -/
def segOf (c : Nat) : Nat := c / 32

def Block.cell (b : Block) (c : Nat) : CellSense := b.sense.cells.getD c (CellSense.reset c)
def Block.wire (b : Block) (j : Nat) : Wire := b.sense.wires.getD j Wire.reset
def Block.seg (b : Block) (n : Nat) : SegSense := b.sense.segs.getD n SegSense.reset
def Block.therm (b : Block) (t : Nat) : Therm := b.sense.therms.getD t Therm.reset
def Block.cellBal (b : Block) (c : Nat) : CellBal := b.bal.cells.getD c CellBal.reset
def Block.segBal (b : Block) (n : Nat) : SegBal := b.bal.segs.getD n SegBal.reset
def Block.cellFlt (b : Block) (c : Nat) : CellFlt := b.flt.cells.getD c CellFlt.reset

def onCell (c : Nat) (f : CellSense → CellSense) (b : Block) : Block := b.onSense fun s => { s with cells := modAt s.cells c f }
def onWire (j : Nat) (f : Wire → Wire) (b : Block) : Block := b.onSense fun s => { s with wires := modAt s.wires j f }
def onSeg (n : Nat) (f : SegSense → SegSense) (b : Block) : Block := b.onSense fun s => { s with segs := modAt s.segs n f }
def onCellBal (c : Nat) (f : CellBal → CellBal) (b : Block) : Block := b.onBal fun s => { s with cells := modAt s.cells c f }
def onSegBal (n : Nat) (f : SegBal → SegBal) (b : Block) : Block := b.onBal fun s => { s with segs := modAt s.segs n f }
def onCellFlt (c : Nat) (f : CellFlt → CellFlt) (b : Block) : Block := b.onFlt fun s => { s with cells := modAt s.cells c f }

/-- Latest reading of a cell, µV (R91 word 0). -/
def Block.cellUv (b : Block) (c : Nat) : Option Int := (b.cell c).chan.last.map fun v => divNear v 2048

/-- W0 result of a cell, µV. -/
def Block.cellW0 (b : Block) (c : Nat) : Option Int := (b.cell c).chan.w0.map fun v => divNear v 2048

/-- Temperature of the assigned thermistor, 0.01 °C (R67). -/
def Block.cellTemp (b : Block) (c : Nat) : Option Int := (b.therm (b.cell c).thIdx).temp

/-- The four conditions of R78, and intact wires under the Resistive row of R105. -/
def Block.compensatedCell (b : Block) (c : Nat) : Bool :=
  let good (j : Nat) : Bool := (b.wire j).learned && !(b.wire j).overLim
  let n := segOf c
  (b.seg n).compensated && good c && good (c + 1) && good (32 * n) && good (32 * n + 32) && !(b.wire c).opened && !(b.wire (c + 1)).opened
    && !(b.wire c).susp && !(b.wire (c + 1)).susp

/-- The cell's own switches run through the present aperture: Compensated timing, or a learning step (R78, R85). -/
def Block.runsThrough (b : Block) (c : Nat) : Bool := b.compensatedCell c || b.sys.now < (b.cell c).stepUntil

/-- The shuttle of segment `n` that serves cell `c`. -/
def Block.shuttleOf (b : Block) (c : Nat) : Option (Nat × Shuttle) :=
  (((b.segBal (segOf c)).shuttles.mapIdx fun i h => (i, h)).find? fun p => p.2.cell == c && (p.2.state == .running || p.2.state == .learning || p.2.state == .manual))

/-- Current of a bleed switch that is on: v / R_BL in mA (R124). -/
def Block.bleedCur (b : Block) (c : Nat) : Int := (b.cellUv c).getD 0 / (max 1 (Config.bleedMilliohm c) : Nat)

/-- Cell-side balancing current in force, mA, positive for a draw (R144); the drain of a stuck bleed counts in it (R135). -/
def Block.balCur (b : Block) (c : Nat) : Int :=
  (match b.shuttleOf c with
    | some p => p.2.cur
    | none => if (b.cellBal c).bleed then b.bleedCur c else 0) + (b.cellBal c).drain

/-- Rail current of a shuttle, mA: g of R124. -/
def Block.railCur (b : Block) (n c : Nat) (cur : Int) : Int :=
  let v := (b.cellUv c).getD 0
  let vs := (b.seg n).t2b.last.getD 0
  let eta : Int := (Config.legEta n cur v : Nat)
  if vs = 0 then 0
  else if 0 ≤ cur then divNear (cur * v * eta) (1000000 * vs) else if eta = 0 then 0 else divNear (cur * v * 1000000) (eta * vs)

/-- What the elements add to the wires at an aperture: wire and mA, for the elements that run through it (R124). -/
def Block.wireTerms (b : Block) : List (Nat × Int) :=
  (List.range b.nCell).flatMap fun c =>
    if !b.runsThrough c then [] else
      let n := segOf c
      match b.shuttleOf c with
      | some p =>
        let g := b.railCur n c p.2.cur
        [(c + 1, p.2.cur), (c, -p.2.cur), (32 * n + 32, -g), (32 * n, g)]
      | none => if (b.cellBal c).bleed then [(c + 1, b.bleedCur c), (c, -(b.bleedCur c))] else []

/-- The net current of every wire at an aperture, mA (R80, R124). -/
def Block.wireCurrents (b : Block) : List Int :=
  let ts := b.wireTerms
  (List.range 513).map fun j => (ts.filter fun t => t.1 == j).foldl (fun a t => a + t.2) 0

/-- Net rail current of a segment from its shuttles, mA (R142). -/
def Block.railOf (b : Block) (n : Nat) : Int :=
  ((b.segBal n).shuttles.filter fun h => h.state == .running || h.state == .learning || h.state == .manual).foldl (fun a h => a + b.railCur n h.cell h.cur) 0

/-- Duty factor in per mille (R125): Closed timing by rate, Compensated 99.5 %; balancing is stopped at 1 Hz. -/
def dutyOf (rate : Nat) (comp : Bool) : Int :=
  if rate ≥ 4 then 0 else if comp then 995 else [876, 936, 966, 993].getD rate 0

/-! ### Opening and applying -/

/-- A shuttle out of service stays so; every other one opens. -/
def Shuttle.open_ (h : Shuttle) : Shuttle := if h.state = .outOfService then { h with cur := 0, runsThrough := false } else Shuttle.reset

/-- Every shuttle, bleed switch and bridge of the segments chosen opens; their manual targets stay or go with the caller. -/
def openElements (p : Nat → Bool) (b : Block) : Block := b.onBal fun s =>
  { s with
    cells := s.cells.mapIdx fun c x => if p (segOf c) then { x with bleed := false } else x
    segs := s.segs.mapIdx fun n g =>
      let g1 := if p n then { g with shuttles := g.shuttles.map Shuttle.open_, railI := 0 } else g
      if p n || p (n + 1) then { g1 with bridge := 0, bridgeOn := false } else g1 }

/-- Tiles of balancing (R141 to R143). -/
def balTiles : List Nat := 0x42 :: (List.range 16).flatMap fun n => [0x80 + 8 * n + 6, 0x80 + 8 * n + 7]

/-- A manual target ends: its element opens and BAL_MANUAL_END gives the charge moved (R138). -/
def endManual (n : Nat) (b : Block) : Block :=
  match b.bal.manuals.find? fun m => m.seg == n with
  | none => b
  | some m =>
    let b1 := b.onBal fun s => { s with manuals := s.manuals.filter fun x => x.seg != n }
    let b2 := if m.target.bleed then onCellBal m.target.cell (fun x => { x with bleed := false }) b1
      else onSegBal n (fun g => { g with shuttles := modAt g.shuttles m.target.shuttle Shuttle.open_ }) b1
    (note .balManualEnd m.target.cell [dw m.charge] b2).touch (0x42 :: [0x80 + 8 * n + 6, 0x100 + m.target.cell])

/-- All manual targets end. -/
def endManuals (b : Block) : Block := (b.bal.manuals.map (·.seg)).foldl (fun b n => endManual n b) b

/-- Balancing stops on entry to BOOT, HIBERNATE, FAULT or SAFE: every element opens at the next +1 µs event and targets are discarded (R136). -/
def balStop (b : Block) : Block :=
  (b.onBal fun s => { s with openNext := true, staged := [], stagedBridges := [], stagedActive := false, queued := none, sent := none })

/-- The trip symbol 0x80 opens every element of every segment at once; targets are discarded (R86, R121, R136, R139). -/
def balTrip (b : Block) : Block :=
  let b1 := endManuals (balStop b)
  let b2 := openElements (fun _ => true) b1
  let had := (List.range 16).filter fun n => (b.segBal n).shuttles.any (fun h => h.cur != 0) || ((List.range 32).any fun i => (b.cellBal (32 * n + i)).bleed)
  (b2.onSense fun s => { s with
    segs := s.segs.map fun g => { g with tripOpen := true }
    cells := s.cells.mapIdx fun c x => if had.contains (segOf c) && (s.segs.getD (segOf c) SegSense.reset).compensated then { x with exclUntil := max x.exclUntil (b.sys.now + 1000) } else x }).touch balTiles

end Sys2Proof.Machine
end

