-- ==== Sys2Proof/Machine/Floor.lean ====
section
/-! DEFINITION. The Floor record in force and its fields (R224, R310, R311). -/

namespace Sys2Proof.Machine

/-- GEN of a record. -/
def floorGen (r : List Byte) : Nat := leField r 4 4

/-- Copy A is in force when it is valid and copy B is not, or is older (R310). -/
def LatchPart.aInForce (l : LatchPart) : Bool := l.okA && (!l.okB || decide (floorGen l.copyB ≤ floorGen l.copyA))

/-- The record in force: the valid copy with the higher GEN, or the values when new (R287, R310). -/
def LatchPart.floor (l : LatchPart) : List Byte := if l.aInForce then l.copyA else if l.okB then l.copyB else floorNew

/-- A valid copy exists. -/
def LatchPart.floorOk (l : LatchPart) : Bool := l.okA || l.okB

/-- The record in force. -/
def Block.floor (b : Block) : List Byte := b.latch.floor

/-- OV and UV thresholds in force, µV (R93). -/
def Block.ovTh (b : Block) : Int := leField b.floor 8 4
def Block.uvTh (b : Block) : Int := leField b.floor 12 4

/-- VLINK_MAX in mV, I_FLOOR and I_FAST_MAX in mA, L_MIN and L_MAX in nH, DT_MIN in ns, NFC_MIN, PM_MIN, GM_MIN (R224). -/
def Block.vlinkMax (b : Block) : Int := leField b.floor 16 4 / 1000
def Block.iFloor (b : Block) : Nat := leField b.floor 20 4
def Block.iFastMax (b : Block) : Nat := leField b.floor 24 4
def Block.lMin (b : Block) : Nat := leField b.floor 28 4
def Block.lMax (b : Block) : Nat := leField b.floor 32 4
def Block.dtMin (b : Block) : Nat := leField b.floor 36 2
def Block.nfcMin (b : Block) : Nat := leField b.floor 38 1
def Block.pmMin (b : Block) : Nat := leField b.floor 39 1
def Block.gmMin (b : Block) : Nat := leField b.floor 40 1

/-- Bounds of coefficient `i` of a1, a2, a3, b0 to b3. -/
def floorCoefLo (r : List Byte) (i : Nat) : Int := leSigned r (44 + 4 * i) 4
def floorCoefHi (r : List Byte) (i : Nat) : Int := leSigned r (72 + 4 * i) 4

/-- I_STR_MAX in mA, V_STR_MAX in µV, T_CELL_MAX in 0.01 °C (R310). -/
def Block.iStrMax (b : Block) : Int := leField b.floor 100 4
def Block.vStrMax (b : Block) : Int := leField b.floor 104 4
def Block.tCellMax (b : Block) : Int := leSigned b.floor 108 2

/-- ISO_EN, RST_MODE, ISO_MIN and ISO_WARN in Ω (R304, R307, R310). -/
def Block.isoEn (b : Block) : Bool := leField b.floor 110 1 == 1
def Block.rstMode (b : Block) : Nat := leField b.floor 111 1
def Block.isoMin (b : Block) : Nat := leField b.floor 112 4
def Block.isoWarnAt (b : Block) : Nat := leField b.floor 116 4

/-- Fields of the INPUTS entry of input `i`, 0 for SI1 (R311): FUNC, source of channel a and b, filter in ticks, DISC in ticks, DOOR_ACT. -/
def Block.siFunc (b : Block) (i : Nat) : Nat := leField b.floor (120 + 8 * i) 1
def Block.siSrcA (b : Block) (i : Nat) : Nat := leField b.floor (121 + 8 * i) 1 % 16
def Block.siSrcB (b : Block) (i : Nat) : Nat := leField b.floor (121 + 8 * i) 1 / 16
def Block.siFilt (b : Block) (i : Nat) : Nat := leField b.floor (122 + 8 * i) 1 * 2000
def Block.siDisc (b : Block) (i : Nat) : Nat := leField b.floor (124 + 8 * i) 2 * msT
def Block.siAct (b : Block) (i : Nat) : Nat := leField b.floor (126 + 8 * i) 1

/-- SFBn is checked (R310), n from 0. -/
def Block.sfbEn (b : Block) (n : Nat) : Bool := bitOf n (leField b.floor 184 1)

end Sys2Proof.Machine
end

