-- ==== Sys2Proof/Machine/Mem.lean ====
section
/-! DEFINITION. Byte memories in one canonical form: the local RAMs of the policy engines (unlisted bytes read 0) and the flash (unlisted bytes read 0xFF). -/

namespace Sys2Proof.Machine

/-- The byte at an address; `d` is what an unlisted address reads as. -/
def memGet (d : Byte) : Mem → Nat → Byte
  | [], _ => d
  | (k, v) :: t, a => if a < k then d else if a = k then v else memGet d t a

/-- Store a byte; a byte equal to `d` is not listed. -/
def memPut (d : Byte) (a : Nat) (v : Byte) : Mem → Mem
  | [] => if v = d then [] else [(a, v)]
  | (k, w) :: t =>
    if a < k then (if v = d then (k, w) :: t else (a, v) :: (k, w) :: t)
    else if a = k then (if v = d then t else (a, v) :: t)
    else (k, w) :: memPut d a v t

/-- `n` bytes from an address. -/
def memRead (d : Byte) (m : Mem) (a n : Nat) : List Byte := (List.range n).map fun i => memGet d m (a + i)

/-- Store bytes from an address upward. -/
def memWrite (d : Byte) : Nat → List Byte → Mem → Mem
  | _, [], m => m
  | a, v :: vs, m => memWrite d (a + 1) vs (memPut d a v m)

/-- The bytes from `lo` up to `hi` read as an unlisted address again. -/
def memErase (lo hi : Nat) (m : Mem) : Mem := m.filter fun c => decide (c.1 < lo) || decide (hi ≤ c.1)

/-- Addresses strictly rising from `lo`, no byte equal to `d`. -/
def memWf (d : Byte) : Nat → Mem → Bool
  | _, [] => true
  | lo, (k, v) :: t => decide (lo ≤ k) && decide (v ≠ d) && memWf d (k + 1) t

/-- The canonical form of a RAM and of the flash. -/
def Mem.ramWf (m : Mem) : Bool := memWf 0#8 0 m
def Mem.flashWf (m : Mem) : Bool := memWf 0xFF#8 0 m

end Sys2Proof.Machine
end

