-- ==== Sys2Proof/Machine/PolicyMem.lean ====
section
/-! DEFINITION. What the other families need of the policy environment: translation, local RAM, completion queues, interrupt sources, the grant check
(R408 to R438). -/

namespace Sys2Proof.Machine

/-! ### Engines and regions (R415, R417) -/

/-- An engine that is not there. -/
def Block.pe (b : Block) (p : Nat) : PolEngine := b.pol.engines.getD p PolEngine.reset

def onPe (p : Nat) (f : PolEngine → PolEngine) (b : Block) : Block := b.onPol fun x => { x with engines := modAt x.engines p f }

/-- A DMA channel. -/
def Block.ch (b : Block) (c : Nat) : DmaChan := b.pol.chans.getD c DmaChan.reset
def onCh (c : Nat) (f : DmaChan → DmaChan) (b : Block) : Block := b.onPol fun x => { x with chans := modAt x.chans c f }

/-- VBASE and PBASE with the bits below SIZE taken as 0. -/
def Region.vlow (r : Region) : Nat := r.vbase / 2 ^ r.size * 2 ^ r.size
def Region.plow (r : Region) : Nat := r.pbase / 2 ^ r.size * 2 ^ r.size

/-- An enabled region of a size that R417 allows covers the address. -/
def Region.covers (r : Region) (a : Nat) : Bool :=
  r.en && decide (12 ≤ r.size) && decide (r.vlow ≤ a) && decide (a < r.vlow + 2 ^ r.size)

/-- The permission an access needs: 0 load, 1 store, 2 fetch, 3 AMO. -/
def Region.allows (r : Region) (acc : Nat) : Bool :=
  match acc with
  | 0 => r.r
  | 1 => r.w
  | 2 => r.x
  | _ => r.r && r.w

/-- The outcome of a translation: the cause of R418, 0 for none, the region and the physical address. -/
structure Xlat where
  cause : Nat
  region : Nat
  phys : Nat
  deriving DecidableEq, Repr

/-- Translate an access of `len` bytes (R415). -/
def translate (rs : List Region) (acc va len : Nat) : Xlat :=
  match rs.findIdx? fun r => r.covers va with
  | none => { cause := 1, region := 0, phys := 0 }
  | some i => match rs[i]? with
    | none => { cause := 1, region := 0, phys := 0 }
    | some r =>
      let pa := (r.plow + (va - r.vlow)) % 4294967296
      { cause := if r.allows acc && decide (va + len ≤ r.vlow + 2 ^ r.size) then 0 else 2, region := i, phys := pa }

/-! ### Local RAM (R413) -/

/-- 512 KiB. -/
def ramSize : Nat := 524288

/-- The whole access lies in one local RAM. -/
def inRam (pa len : Nat) : Bool := decide (pa / ramSize < 2) && decide (pa / ramSize = (pa + len - 1) / ramSize)

/-- Bytes of a local RAM by physical address. -/
def Block.ramRead (b : Block) (pa n : Nat) : List Byte := memRead 0#8 (b.pe (pa / ramSize)).ram (pa % ramSize) n
/-- A write to a local RAM ends every LR reservation of a word that it touches (log entry 58). -/
def breakResv (pa n : Nat) (b : Block) : Block := b.onPol fun x => { x with
  engines := x.engines.map fun e => { e with resv := e.resv.filter fun a => decide (a + 4 ≤ pa) || decide (pa + n ≤ a) } }

def ramWrite (pa : Nat) (bs : List Byte) (b : Block) : Block :=
  onPe (pa / ramSize) (fun e => { e with ram := memWrite 0#8 (pa % ramSize) bs e.ram }) (breakResv pa bs.length b)

/-- Read or write local RAM at a virtual address of engine `p`; refused by the RTU, or outside the RAMs, gives none. -/
def Block.vread (b : Block) (p va n : Nat) : Option (List Byte) :=
  let x := translate (b.pe p).regions 0 va n
  if n = 0 then some [] else if x.cause = 0 ∧ inRam x.phys n = true then some (b.ramRead x.phys n) else none
def Block.vwritable (b : Block) (p va n : Nat) : Bool :=
  let x := translate (b.pe p).regions 1 va n
  decide (n = 0) || (decide (x.cause = 0) && inRam x.phys n)
def vwrite (p va : Nat) (bs : List Byte) (b : Block) : Block :=
  if bs = [] ∨ b.vwritable p va bs.length = false then b else ramWrite (translate (b.pe p).regions 1 va bs.length).phys bs b

/-! ### Interrupt sources (R431 to R436) -/

/-- A policy engine is in service, neither in reset nor clock-gated in HIBERNATE (R435). -/
def Block.peLive (b : Block) (p : Nat) : Bool := (b.pe p).up && decide (b.sys.mstate ≠ .hibernate) && decide (b.sys.mstate ≠ .off)

def setBit (m i : Nat) : Nat := if m.testBit i then m else m + 2 ^ i
def clearBit (m i : Nat) : Nat := if m.testBit i then m - 2 ^ i else m

/-- The engine that a source is routed to. -/
def Block.routeOf (b : Block) (s : Nat) : Nat := if b.pol.route.testBit s then 1 else 0

/-- The source is pending, enabled and delivered to the engine (R431). -/
def Block.delivered_ (b : Block) (p s : Nat) : Bool := b.pol.pend.testBit s && b.pol.en.testBit s && decide (b.routeOf s = p) && b.peLive p

/-- A pending, enabled source whose engine is down goes to Lead: RDIR, and POL_IRQ_REDIRECT once in the interval (R435). -/
def redirectOne (s : Nat) (b : Block) : Block :=
  if b.pol.pend.testBit s && b.pol.en.testBit s && !b.peLive (b.routeOf s) then
    if b.pol.redirected.testBit s then b
    else note .polIrqRedirect noArg [s, b.routeOf s] (b.onPol fun x => { x with rdir := setBit x.rdir s, redirected := setBit x.redirected s })
  else b

/-- The interval in which engine `p` was down ends (R435). -/
def clearRedirected (p : Nat) (b : Block) : Block := b.onPol fun x => { x with
  redirected := (List.range 64).foldl (fun m s => if x.route.testBit s = decide (p = 1) then clearBit m s else m) x.redirected }

/-- Every source below 64 judged under R435. -/
def redirectAll (b : Block) : Block := (List.range 64).foldl (fun b s => redirectOne s b) b

/-- An edge of a source, or the high level of a level source (R431, R434). -/
def raiseIrq (s : Nat) (b : Block) : Block := redirectOne s (b.onPol fun x => { x with pend := setBit x.pend s })

/-- RQ1 of a CAN controller is not empty: the level of sources 36 and 39 (R395, R433). -/
def Block.rqLevel (b : Block) (k : Nat) : Bool := match b.net.cans[k]? with
  | some c => c.rqPut != c.rqGet
  | none => false

/-- The level of a level source. -/
def Block.irqLevel (b : Block) (s : Nat) : Bool := if s = 36 then b.rqLevel 0 else if s = 39 then b.rqLevel 1 else false

/-- TB0 or TB1 has completed sent or aborted (R433). -/
def tbEdge (o n : Block) (k : Nat) : Bool := match o.net.cans[k]?, n.net.cans[k]? with
  | some x, some y => (List.range 2).any fun i => match x.tbs[i]?, y.tbs[i]? with
    | some u, some v => decide (u.st = 1) && decide (2 ≤ v.st)
    | _, _ => false
  | _, _ => false

/-- EST changes, or ALONE sets or clears (R404, R433). -/
def estEdge (o n : Block) (k : Nat) : Bool := match o.net.cans[k]?, n.net.cans[k]? with
  | some x, some y => x.est != y.est || x.alone != y.alone
  | _, _ => false

/-- The sources that hardware and vendor engines raise between two states of the block (R433): 36 to 47. -/
def irqEdges (o n : Block) : List Nat :=
  ((List.range 2).flatMap fun k => (if n.rqLevel k && !o.rqLevel k then [36 + 3 * k] else []) ++ (if tbEdge o n k then [37 + 3 * k] else [])
    ++ (if estEdge o n k then [38 + 3 * k] else []))
  ++ (if o.img.swaps ≠ n.img.swaps then [42] else [])
  ++ ((List.range 2).filter fun p => decide ((n.pe p).bstat = 2 ∧ (o.pe p).bstat ≠ 2)).map (43 + ·)
  ++ (if o.flt.steps ≠ n.flt.steps then [45] else []) ++ (if o.bal.decisions ≠ n.bal.decisions then [46] else [])
  ++ (if o.sys.mstate ≠ n.sys.mstate ∨ o.latch.state ≠ n.latch.state then [47] else [])

/-- The interrupt controller samples its sources, and presents pending, enabled sources of an engine that is down to Lead (R431, R433, R435). -/
def irqWatch (o n : Block) : Block :=
  let b := (irqEdges o n).foldl (fun b s => raiseIrq s b) n
  if b.pol.pend.land b.pol.en = 0 then b else redirectAll b

/-! ### Completion queues (R427 to R429) -/

/-- Where a completion queue lies. -/
inductive CqLoc where
  | chan (c : Nat)
  | ring (p : Nat)
  | port (p : Nat)
  deriving DecidableEq, Repr

/-- The queue's interrupt source (R433). -/
def CqLoc.irq : CqLoc → Nat
  | .chan c => c
  | .ring p => 32 + p
  | .port p => 34 + p

/-- The engine whose RTU carries its writes. -/
def Block.cqEngine (b : Block) : CqLoc → Nat
  | .chan c => (b.ch c).owner.getD 0
  | .ring p => p
  | .port p => p

def Block.cq (b : Block) : CqLoc → Cq
  | .chan c => (b.ch c).cq
  | .ring p => (b.pe p).ring.cq
  | .port p => (b.pe p).port.cq

def onCq (l : CqLoc) (f : Cq → Cq) (b : Block) : Block :=
  match l with
  | .chan c => onCh c (fun x => { x with cq := f x.cq }) b
  | .ring p => onPe p (fun e => { e with ring := { e.ring with cq := f e.ring.cq } }) b
  | .port p => onPe p (fun e => { e with port := { e.port with cq := f e.port.cq } }) b

/-- Unread completions. -/
def Cq.count (q : Cq) : Nat := (q.put + 8192 - q.get) % 8192

/-- The 16 bytes of an entry written at `put` (R427). -/
def CqEntry.bytes (e : CqEntry) (q : Cq) : List Byte :=
  let phase := if (q.put / max 1 q.size) % 2 = 0 then 1 else 0
  leBytes 4 (packWord [(31, 31, phase), (30, 28, e.kind), (27, 16, e.index), (15, 0, e.status)]).toNat ++ leBytes 2 e.tag ++ leBytes 2 e.hi
    ++ leBytes 4 e.count ++ leBytes 4 e.addr

/-- The queue's source is raised and MPEND starts again (R428). -/
def signalCq (l : CqLoc) (b : Block) : Block := raiseIrq l.irq (onCq l (fun q => { q with mpend := 0, oldest := none }) b)

/-- Write an entry for which there is room; it signals at MCOUNT, or when the engine of its source sleeps (R428). -/
def putCq (l : CqLoc) (e : CqEntry) (b : Block) : Block :=
  let q := b.cq l
  let b1 := vwrite (b.cqEngine l) (q.base + 16 * (q.put % max 1 q.size)) (e.bytes q) b
  let b2 := onCq l (fun q => { q with put := (q.put + 1) % 8192, mpend := q.mpend + 1, oldest := some (q.oldest.getD b.sys.now) }) b1
  if max 1 q.mcount ≤ q.mpend + 1 ∨ (b.pe (b.routeOf l.irq)).asleep = true then signalCq l b2 else b2

/-- A completion: written, or kept until CQGET makes room (R429). -/
def pushCq (l : CqLoc) (e : CqEntry) (b : Block) : Block :=
  let q := b.cq l
  if q.waiting ≠ [] ∨ q.size ≤ q.count then onCq l (fun q => { q with full := true, waiting := q.waiting ++ [e] }) b else putCq l e b

/-- Waiting completions are written while there is room (R429). -/
def flushCq (l : CqLoc) : Nat → Block → Block
  | 0, b => b
  | n + 1, b =>
    let q := b.cq l
    match q.waiting with
    | [] => if q.count < q.size then onCq l (fun q => { q with full := false }) b else b
    | e :: t => if q.size ≤ q.count then b else flushCq l n (putCq l e (onCq l (fun q => { q with waiting := t }) b))

/-! ### Service ring (R437, R438) -/

/-- The entry `k` of a ring: LENGTH, OPCODE, REQ, RPLY, RCAP, TAG; none when its words cannot be read (R437). -/
structure RingEntry where
  length : Nat
  opcode : Nat
  req : Nat
  rply : Nat
  rcap : Nat
  tag : Nat
  deriving DecidableEq, Repr

def Block.ringEntry (b : Block) (p k : Nat) : Option RingEntry :=
  let r := (b.pe p).ring
  (b.vread p (r.rbase + 16 * (k % max 1 r.rsize)) 16).map fun d =>
    { length := leField d 2 2, opcode := leField d 0 2, req := leField d 4 4, rply := leField d 8 4, rcap := leField d 14 2, tag := leField d 12 2 }

/-- The groups that R438 denies whatever GRANT holds, and the opcodes of them that it allows. -/
def alwaysAllowed : List Nat := [0x0103, 0x0111, 0x0908, 0x0909, 0x0B07, 0x0D01, 0x0D06]

/-- The grant check of R438. -/
def Block.granted (b : Block) (p opcode : Nat) : Bool :=
  let g := opcode / 256
  decide (g < 16) && (b.pe p).grant.testBit g && (alwaysAllowed.contains opcode || !(g == 1 || g == 9 || g == 11 || g == 13))

/-- TAG of a ring entry, 0 when its words cannot be read. -/
def Block.ringTag (b : Block) (p k : Nat) : Nat := match b.ringEntry p k with
  | some e => e.tag
  | none => 0

/-- A ring that is being disabled, once its accepted commands have completed: every queued entry completes ABORTED, in order; it reports disabled when the last of
these completions is written (R430). -/
def drainRing (p : Nat) (b : Block) : Block :=
  let r := (b.pe p).ring
  if r.stopping = false ∨ r.running ≠ [] then b
  else
    let n := (r.rput + 8192 - r.rget) % 8192
    let b1 := (List.range n).foldl (fun b i => pushCq (.ring p)
      { kind := 1, index := (r.rget + i) % max 1 r.rsize, status := 8, hi := 0, tag := b.ringTag p (r.rget + i), count := 0, addr := 0 } b) b
    onPe p (fun e => { e with ring := { e.ring with rget := r.rput, en := !(e.ring.cq.waiting == []), stopping := !(e.ring.cq.waiting == []) } }) b1

/-- A command of a ring ends: its reply goes to RPLY, unsegmented, and its completion to the queue (R438). -/
def finishRing (p k st : Nat) (data : List Byte) (b : Block) : Block :=
  match (b.pe p).ring.running.find? fun c => c.index == k with
  | none => b
  | some c =>
    let bad := !b.vwritable p c.rply data.length
    let b1 := if bad then b else vwrite p c.rply data b
    let b2 := onPe p (fun e => { e with ring := { e.ring with running := e.ring.running.filter fun x => x.index != k } }) b1
    let b3 := pushCq (.ring p) { kind := 1, index := k % max 1 (b.pe p).ring.rsize, status := (if bad then 9 else st), hi := 0, tag := c.tag, count := (if bad then 0 else data.length), addr := (if bad then c.rply else 0) } b2
    drainRing p b3

/-- An entry is rejected: a completion with its status, nothing to RPLY (R438). -/
def rejectRing (p k st addr : Nat) (b : Block) : Block :=
  pushCq (.ring p) { kind := 1, index := k % max 1 (b.pe p).ring.rsize, status := st, hi := 0, tag := b.ringTag p k, count := 0, addr := addr } b

/-- RGET passes the entry `k` if it is the next. -/
def passRing (p k : Nat) (b : Block) : Block := onPe p (fun e => { e with ring :=
  (if e.ring.rget % max 1 e.ring.rsize = k % max 1 e.ring.rsize then { e.ring with rget := (e.ring.rget + 1) % 8192 } else e.ring) }) b

end Sys2Proof.Machine
end

