-- ==== Sys2Proof/Machine/Service.lean ====
section
/-! DEFINITION. The command service: replies, completion, the checks 10 to 13 of R329 that a command itself makes, and the effect wrapper of every meaning. -/

namespace Sys2Proof.Machine

open Host

/-- One segment of a reply: data bytes i·S up to S of them, S = MTU - 48 (R337). -/
def Reply.segCount (r : Reply) : Nat := max 1 ((r.data.length + (r.mtu - 48) - 1) / (r.mtu - 48))

/-- The 16 header bytes of segment `i` of a reply (R327, R337). -/
def Reply.header (r : Reply) (i len : Nat) : List Byte :=
  let n := r.segCount
  let st := if i + 1 < n then Status.segmented.code else r.status
  leBytes 1 1 ++ leBytes 1 (if r.pend then 3 else 1) ++ leBytes 1 r.session ++ leBytes 1 i ++ leBytes 1 n ++ leBytes 1 0 ++ leBytes 2 r.seq
    ++ leBytes 2 r.opcode ++ leBytes 2 st ++ leBytes 2 len ++ leBytes 2 r.stag

/-- The UDP payloads of a reply: the segments its mask names, in ascending order (R325, R337, R339). -/
def Reply.datagrams (r : Reply) : List (List Byte) :=
  (membersOf r.segCount r.mask).map fun i =>
    let d := (r.data.drop (i * (r.mtu - 48))).take (r.mtu - 48)
    let body := r.header i d.length ++ d
    body ++ leBytes 4 (crc32c body)

/-- A closed session stands for an index that names none. -/
def Block.session (b : Block) (i : Nat) : Session := b.ix.sessions.getD i Session.closed

/-- Hand a reply to the network while N0 is in service and outside an activation pause. -/
def sendReply (r : Reply) (b : Block) : Block := b.onIx fun x => { x with tx := x.tx ++ [r] }

/-- The reply of session `i` to the request `seq`. -/
def sessionReply (i seq opcode status mtu : Nat) (data : List Byte) (b : Block) : Reply :=
  let n := b.session i
  { ip := n.ip, port := n.port, session := i, stag := n.stag, seq := seq, opcode := opcode, status := status, pend := false, mtu := mtu, data := data,
    mask := 0xFFFF }

/-- The cache entry of a request, if the session holds one (R335). -/
def Block.entry? (b : Block) (i seq : Nat) : Option CacheEntry := (b.session i).cache.find? fun e => e.seq == seq

/-- Change the cache entry of a request. -/
def onEntry (i seq : Nat) (f : CacheEntry → CacheEntry) (b : Block) : Block :=
  b.onIx fun x => { x with sessions := modAt x.sessions i fun n => { n with cache := n.cache.map fun e => if e.seq = seq then f e else e } }

/-- A journal record of an accepted command, before its effect (R452). -/
def journalStart (src : Src) (opcode : Nat) (b : Block) : Block :=
  b.onPwr fun p => { p with journal := ({ src := src, opcode := opcode, applied := false } :: p.journal).take 240 }

/-- The record is marked applied, with the reply stored, before the reply leaves (R452). -/
def journalMark (src : Src) (b : Block) : Block :=
  b.onPwr fun p => { p with journal := p.journal.map fun r => if r.src = src then { r with applied := true } else r }

/-- Complete a command: exactly one status (R17), the reply data of its table, the cache holding both (R335); a closed session's reply is not sent (R332);
a policy engine's reply goes to its buffer and its completion to its queue (R438). -/
def complete (src : Src) (st : Status) (data : List Byte) (b0 : Block) : Block :=
  let b := journalMark src b0
  match src with
  | .session i seq =>
    match b.entry? i seq with
    | some e =>
      let b1 := onEntry i seq (fun e => { e with running := false, status := st.code, data := data }) b
      (sendReply (sessionReply i seq e.opcode st.code e.mtu data b) b1).touch [5]
    | none => b
  | .engine p k => finishRing p k st.code data b

/-- Refuse a request at a check of R329: a reply without data and no effect; its entry, if the datagram made one, leaves the cache. -/
def refuse (src : Src) (opcode : Nat) (st : Status) (b : Block) : Block :=
  match src with
  | .session i seq =>
    let b1 := b.onIx fun x => { x with sessions := modAt x.sessions i fun n => { n with cache := n.cache.filter fun e => e.seq != seq } }
    (sendReply (sessionReply i seq opcode st.code (b.session i).mtu [] b) b1).touch [5]
  | .engine p k => rejectRing p k st.code 0 (passRing p k b)

/-- What a host command is, evaluated in the present state: its opcode, whether it needs ownership (R334, R347, R348), the state condition of check 12, the
refusal of check 13 if any, and its effect once accepted. -/
structure HostRule where
  opcode : Nat
  owner : Bool
  stateOk : Bool
  param : Option Status
  act : Block → Block

/-- Opcodes of running requests, module-wide: accepted and not completed (R329 check 11, R438). -/
def Block.runningOpcodes (b : Block) : List Nat :=
  (b.ix.sessions.flatMap fun n => (n.cache.filter fun e => e.running).map (·.opcode)) ++ b.pol.engines.flatMap fun e => e.ring.running.map (·.opcode)

/-- The requester holds control ownership; a policy engine acts for its operator under the rules of its service ring (R333, R438). -/
def Block.owns (b : Block) : Src → Bool
  | .session i _ => b.ix.owner == some i
  | .engine _ _ => true

/-- The grant check that replaces check 10 for a policy engine (R438). -/
def Block.srcGranted (b : Block) : Src → Nat → Bool
  | .session _ _, _ => true
  | .engine p _, op => b.granted p op

/-- Checks 10 to 13 of R329, in their order; `none` passes. -/
def checkRule (src : Src) (r : HostRule) (b : Block) : Option Status :=
  if !b.srcGranted src r.opcode then some .denied
  else if r.owner && !b.owns src then some .notOwner
  else if r.owner && b.runningOpcodes.contains r.opcode then some .busy
  else if !r.stateOk then some .badState
  else r.param

/-- Hold an accepted request in the cache of its session, newest first, at most 8 (R335), or among the running entries of its ring, RGET past it (R438). -/
def acceptRequest (src : Src) (opcode : Nat) (params : List Byte) (started : Bool) (b : Block) : Block :=
  match src with
  | .session i seq =>
    let e : CacheEntry := { seq := seq, opcode := opcode, params := params, accepted := b.sys.now, mtu := (b.session i).mtu, running := true, started := started, status := 0, data := [] }
    (b.onIx fun x => { x with sessions := modAt x.sessions i fun n => { n with cache := (e :: n.cache).take 8, lastSeq := seq, lastHeard := b.sys.now } }).touch [5]
  | .engine p k =>
    let tr : Nat × Nat := match b.ringEntry p k with
      | some e => (e.tag, e.rply)
      | none => (0, 0)
    let c : RingCmd := { index := k, tag := tr.1, rply := tr.2, opcode := opcode, params := params, accepted := b.sys.now, started := started }
    passRing p k (onPe p (fun e => { e with ring := { e.ring with running := e.ring.running ++ [c] } }) b)

/-- The request has already been accepted by IXRAS_DATAGRAM or SERVICE_ENTRY, or during a hold, and its command has not begun. -/
def Block.acceptedEarlier (b : Block) : Src → Nat → Bool
  | .session i seq, op => match b.entry? i seq with
    | some e => e.opcode == op && e.running && !e.started
    | none => false
  | .engine p k, op => (b.pe p).ring.running.any fun c => c.index == k && c.opcode == op && !c.started

/-- The command begins to act. -/
def beginRequest (src : Src) (b : Block) : Block :=
  match src with
  | .session i seq => onEntry i seq (fun e => { e with started := true }) b
  | .engine p k => onPe p (fun e => { e with ring := { e.ring with running := e.ring.running.map fun c => if c.index = k then { c with started := true } else c } }) b

/-- The source can send commands: an open session (R329 check 5), or a policy engine whose ring takes entries (R437). -/
def Block.srcOpen (b : Block) : Src → Bool
  | .session i _ => (b.session i).isOpen
  | .engine p _ => decide (p < 2) && (b.pe p).ring.en

/-- Effects of accepted requests wait: a Hinge hold, or the pause of an activation (R342, R455). -/
def Block.paused (b : Block) : Bool := b.hinge || b.upd.pauseAt.isSome

/-- A PEND packet for a running request (R336). -/
def sendPend (i seq : Nat) (b : Block) : Block :=
  match b.entry? i seq with
  | some e => sendReply { sessionReply i seq e.opcode 0 e.mtu [] b with pend := true } b
  | none => b

/-- A duplicate of a request that the cache holds: the cached reply again, a PEND packet, or BAD_PARAM for another opcode (R329 check 6, R335). -/
def duplicate (i seq opcode : Nat) (e : CacheEntry) (b : Block) : Block :=
  if e.opcode ≠ opcode then (sendReply (sessionReply i seq opcode Status.badParam.code e.mtu [] b) b).touch [5]
  else if e.running then sendPend i seq b
  else (sendReply (sessionReply i seq e.opcode e.status e.mtu e.data b) (b.onIx fun x => { x with resent := satAdd 65535 x.resent 1 })).touch [5]

/-- A request that passes every check is accepted; it acts, at the end of a hold if one is in force (R329, R330, R342). -/
def takeRequest (src : Src) (r : HostRule) (params : List Byte) (b : Block) : Block :=
  let b1 := acceptRequest src r.opcode params (!b.paused) b
  if b.paused then b1 else r.act (journalStart src r.opcode b1)

/-- The session has 8 requests running (R329 check 7). -/
def Block.sessionFull (b : Block) : Src → Bool
  | .session i _ => decide (8 ≤ ((b.session i).cache.filter fun e => e.running).length)
  | .engine _ _ => false

/-- Judge a request at checks 7 and 10 to 13, and accept it or refuse it. -/
def judgeRequest (src : Src) (r : HostRule) (params : List Byte) (b : Block) : Block :=
  if b.sessionFull src then refuse src r.opcode .busy b
  else match checkRule src r b with
    | some st => refuse src r.opcode st b
    | none => takeRequest src r params b

/-- Run a host command: a request already accepted acts; a duplicate is answered from the cache; another is judged first. -/
def runHost (src : Src) (r : HostRule) (b : Block) : Block :=
  if !b.srcOpen src then refuse src r.opcode .badParam b
  else if b.acceptedEarlier src r.opcode then (if b.paused then b else r.act (journalStart src r.opcode (beginRequest src b)))
  else match src with
    | .session i seq => match b.entry? i seq with
      | some e => duplicate i seq r.opcode e b
      | none => judgeRequest src r [] b
    | .engine _ _ => judgeRequest src r [] b

/-- A host command: its rule read in the present state, then run. -/
def host (src : Src) (rule : Block → HostRule) (b : Block) : Block := runHost src (rule b) b

/-- A parameter check as check 13 gives it. -/
def need (ok : Bool) : Option Status := if ok then none else some .badParam

/-- The first refusal of two. -/
def andThen : Option Status → Option Status → Option Status
  | some s, _ => some s
  | none, t => t

/-- A settings write falls due within 5 s (R506). -/
def settingsDue (b : Block) : Block := b.onUpd fun u => { u with setDue := some (u.setDue.getD (b.sys.now + 5 * secT)) }

/-- A command has changed the stored settings: the next copy has ORIGIN 0 (R505, R506). -/
def settingChanged (b : Block) : Block := settingsDue (b.onUpd fun u => { u with setOrigin := 0 })

end Sys2Proof.Machine
end

