-- ==== Sys2Proof/Machine/Save.lean ====
section
/-! DEFINITION. Starting a learned-value save (R173, R532 to R534). -/

namespace Sys2Proof.Machine

def Block.impCell (b : Block) (c : Nat) : ImpCell := b.imp.cells.getD c ImpCell.reset

/-- A filter resistance in whole µΩ. -/
def CellFlt.rsMicro (x : CellFlt) : Nat := (fxRound (x.rs * 1000000)).toNat

/-- The entry that a save writes for cell `c` (R533). -/
def Block.learnEntry (b : Block) (c : Nat) : LearnEntry :=
  if b.nCell ≤ c then LearnEntry.zero
  else
    let x := b.cellFlt c
    let m := b.impCell c
    { cap := x.cap, rs := x.rsMicro, h := clampI (-32767) 32767 (fxRound (x.h * 32767)), tOff := m.tOff, tBase := m.tBase, capV := !x.capNew, offL := m.offL,
      baseV := m.baseV, slotChg := true, slot := b.flt.slotMap.getD (segOf c) 0, bTime := m.bTime,
      base := if m.baseV then m.base else List.replicate 8 (0, 0) }

/-- Copy A is the one in force (R532). -/
def FltPart.aInForce (f : FltPart) : Bool := f.copyA.valid && (!f.copyB.valid || decide (f.copyB.gen ≤ f.copyA.gen))

/-- The copy in force, if one is valid. -/
def FltPart.inForce (f : FltPart) : Option LearnCopy := if f.aInForce then some f.copyA else if f.copyB.valid then some f.copyB else none

/-- Start a save of `cause`: the values of the latest completed step go into the copy not in force with the next GEN; a cause during a save asks for one
further save (R173, R534). -/
def startSave (cause : Nat) (b : Block) : Block :=
  match b.flt.saving with
  | some _ => b.onFlt fun f => { f with saveAgain := some (f.saveAgain.getD cause) }
  | none =>
    let g : Nat := match b.flt.inForce with
      | some c => c.gen + 1
      | none => 1
    let copy : LearnCopy := { valid := true, gen := g % 4294967296, optime := b.optime, cause := cause, pcyc := b.log.pcyc, cells := (List.range 512).map b.learnEntry }
    let toB := b.flt.aInForce
    b.onFlt fun f =>
      let cut (c : LearnCopy) : LearnCopy := { c with valid := false }
      { f with
        saving := some { toB := toB, cause := cause, started := b.sys.now, copy := copy }
        copyA := if toB then f.copyA else cut f.copyA
        copyB := if toB then cut f.copyB else f.copyB }

end Sys2Proof.Machine
end

