-- ==== Sys2Proof/Machine/Control.lean ====
section
/-! DEFINITION. What the module does as a whole when something acts on it: module states, events that stop the converter, the muzzle, the Latch's functions
and its causes (R18 to R22, R99, R231, R236, R283 to R288, R319, R566). -/

namespace Sys2Proof.Machine

/-! ### Rates -/

/-- Aperture period in ticks by rate code (R62). -/
def rateTicks (code : Nat) : Nat := [2500, 5000, 10000, 100000, 100000000].getD code 2500

/-- Schedule a rate: its start count is the first whole multiple of the new period at least 1 ms from now (R64). -/
def scheduleRate (code : Nat) (b : Block) : Block :=
  b.onSense fun s => { s with pendingRate := some { rate := code, start := multipleFrom (rateTicks code) (b.sys.now + msT) } }

/-! ### Converter -/

/-- Phase state codes (R213) and converter state codes (R230). -/
def PhState.code : PhState → Nat
  | .unconfigured => 0
  | .search => 1
  | .ident => 2
  | .ready => 3
  | .joining => 4
  | .active => 5
  | .hiccup => 6
  | .out => 7

def CState.code : CState → Nat
  | .muzzled => 0
  | .idle => 1
  | .precheck => 2
  | .prebias => 3
  | .ramp => 4
  | .settle => 5
  | .regulate => 6
  | .softstop => 7
  | .hiccup => 8
  | .latched => 9

/-- A phase is modulated in JOINING and ACTIVE (R213, R215). -/
def PhState.modulating : PhState → Bool
  | .joining => true
  | .active => true
  | _ => false

/-- The converter states in which phases modulate (R230). -/
def CState.modulates : CState → Bool
  | .prebias => true
  | .ramp => true
  | .settle => true
  | .regulate => true
  | .softstop => true
  | _ => false

/-- Tiles of the converter (R241 to R246). -/
def cnvTiles : List Nat := [0x300, 0x301, 0x302] ++ (List.range 8).map (0x308 + ·) ++ (List.range 8).map (0x310 + ·)

/-- Change one phase. -/
def onPhase (k : Nat) (f : Phase → Phase) (b : Block) : Block := b.onCnv fun c => { c with phases := modAt c.phases k f }

/-- A phase moves to a state; leaving modulation raises CNV_PHASE_LEAVE with the code of the state entered (R214, R247). -/
def setPhase (k : Nat) (st : PhState) (b : Block) : Block :=
  match b.cnv.phases[k]? with
  | none => b
  | some p =>
    let b1 := onPhase k (fun x => { x with st := st, activeAll := x.activeAll && decide (st = .active), joinAt := if st = .joining then some b.sys.now else none }) b
    let b2 := if p.st.modulating && !st.modulating then note .cnvPhaseLeave k [st.code] b1 else b1
    b2.touch cnvTiles

/-- The converter leaves RUN: JOINING and ACTIVE phases go to READY (R214). -/
def phasesOff (b : Block) : Block :=
  ((List.range 8).filter fun k => match b.cnv.phases[k]? with
    | some p => p.st.modulating
    | none => false).foldl (fun b k => setPhase k .ready b) b

/-- The converter stops in `st`: gates dark, the reference at 0, no hand-over (R231, R236). -/
def cnvDark (st : CState) (b : Block) : Block :=
  (phasesOff (b.onCnv fun c => { c with st := st, iRef := 0, clamped := false, settleAt := none, stopZeroAt := none, handOver := none, vCmdDue := false })).touch cnvTiles

/-- MUZZLED from any state but LATCHED (R231). -/
def cnvMuzzle (b : Block) : Block := if b.cnv.st = .latched then b else cnvDark .muzzled b

/-! ### Impedance jobs -/

/-- Tiles of the impedance map and its status (R192, R203, R204). -/
def impTiles : List Nat := [0x45, 0x46, 0x47] ++ (List.range 512).map (0x600 + ·) ++ (List.range 512).map (0x100 + ·)

/-- The running job ends with a status; the excitation stops at once (R183, R205). -/
def endJob (st : Status) (b : Block) : Block :=
  match b.imp.job with
  | none => b
  | some j =>
    let i := b.imp
    let b1 := b.onImp fun i => { i with
      job := none, lastJob := j, lastStat := st.code, lastDone := i.done, x := 0, lfsr := 0, bands := [], bandDone := none, begun := false, band := 0, nPeriod := 0, nValid := 0
      state := if i.en then .idle else i.state
      dueAt := b.sys.now
      lastOk := if st = .ok then j else i.lastOk
      lastOkAt := if st = .ok then some b.sys.now else i.lastOkAt }
    (note .impJobEnd noArg [st.code, i.done, i.discards] b1).touch impTiles

/-- A chip whose sum with the reference was limited: CLIP, and the period is discarded; the first of a job raises IMP_CLIP (R182, R187, R205). -/
def markClip (b : Block) : Block :=
  if b.imp.job.isNone ∨ b.imp.x = 0 then b
  else
    let b1 := b.onImp fun i => { i with clip := true, badPeriod := true }
    if b.imp.clip then b1 else (note .impClip noArg [] b1).touch impTiles

/-- What identification samples with the cells at an aperture: the excitation, the reference and each phase's current and duty command (R199). -/
def impLatch (count : Nat) (b : Block) : Block :=
  if b.imp.job.isNone then b
  else b.onImp fun i => { i with latched := ((count, i.x, b.cnv.iRef, b.cnv.phases.map fun p => (p.i, p.duty)) :: i.latched).take 8 }

/-- The running job can no longer run under R183. -/
def impStop (b : Block) : Block := if b.imp.job.isSome && b.imp.begun then endJob .fault b else b

/-! ### Module states -/

/-- The wake of HIBERNATE: configured rate commanded, fibre bank on with its 300 ms, filters to resume (R171, R212). -/
def hibernateExit (b : Block) : Block :=
  let b1 := scheduleRate b.sense.rateCfg b
  let b2 := b1.onCnv fun c => { c with
    fibreOn := true
    graceEnd := some (b.sys.now + 300 * msT)
    phases := c.phases.map fun p => { p with rcGood := 0, rcOpen := false, rcMiss := 0 } }
  (List.range 2).foldl (fun b p => if (b.pe p).up then clearRedirected p b else b) (b2.onFlt fun f => { f with wakePending := true, wakeRun := 0 })

/-- What leaving RUN ends: the impedance job, and a soft stop that did not end in PARK (R183, R239). -/
def leaveRun (m : MState) (b : Block) : Block :=
  let b1 := impStop b
  match b1.cnv.parkSrc with
  | some src => if m = .park then b1 else complete src .fault [] (b1.onCnv fun c => { c with parkSrc := none })
  | none => b1

/-- MUZZLED or LATCHED goes to IDLE when the module is in PARK and the Latch muzzle is released (R231); the fault clear drops SSLATCH. -/
def cnvToIdle (b : Block) : Block :=
  if (b.cnv.st = .muzzled ∨ b.cnv.st = .latched) ∧ b.latch.muzzle = false then
    (b.onCnv fun c => { c with st := .idle, sslatch := false, linkOv := false }).touch cnvTiles
  else b

/-- The converter enters PRECHECK as the module enters RUN (R231). -/
def cnvPrecheck (b : Block) : Block :=
  if b.cnv.st = .idle then
    (b.onCnv fun c => { c with st := .precheck, preAt := b.sys.now, ssElapsed := 0, ssHics := [], ssCount := 0, vCmd := none, vCmdDue := false }).touch cnvTiles
  else b

/-- What a module state does on entry (R18, R136, R173, R212, R231). -/
def onEntry_ (m : MState) (b : Block) : Block :=
  match m with
  | .off => cnvMuzzle (balStop b)
  | .boot => cnvMuzzle (balStop b)
  | .park => cnvToIdle b
  | .run => cnvPrecheck b
  | .hibernate =>
    let b1 := startSave 6 (cnvMuzzle (balStop b))
    let b2 := b1.onCnv fun c => { c with fibreOn := false, graceEnd := none }
    let b3 := b2.onFlt fun f => { f with frozen := true, qHib := 0, hibAt := some b.sys.now, hibRest := [], hibRestRun := 0, wakeRun := 0 }
    scheduleRate 4 b3
  | .fault => startSave 5 (cnvMuzzle (balStop b))
  | .safe => startSave 5 (cnvMuzzle (balStop b))

/-- Which of two due states wins: SAFE, then FAULT, then any other (R21). -/
def MState.weight : MState → Nat
  | .safe => 2
  | .fault => 1
  | _ => 0

/-- A change that falls due in a Hinge hold waits for its end; the strongest one waits (R21, R461). -/
def deferState (m : MState) (cause : Nat) (op : List Nat) (b : Block) : Block := b.onPwr fun p => { p with
  stateDue := match p.stateDue with
    | some x => if x.1.weight < m.weight then some (m, cause, op) else some x
    | none => some (m, cause, op) }

/-- The module changes state at once: STATE_CHANGE with old state, new state and cause code, and the opcode of a command that caused it; Safety severity on entry to
SAFE (R19, R22, R513, R514). -/
def changeNow (m : MState) (cause : Nat) (op : List Nat) (b : Block) : Block :=
  if b.sys.mstate = m then b
  else
    let old := b.sys.mstate
    let t := b.optime
    let b1 := b.onSys fun y => { y with mstate := m, prev := old, entryTime := t % 4294967296, cause := cause, changes := y.changes + 1 }
    let sev := if m = .safe then Severity.safety else Severity.info
    let b2 := recordEvent sev Event.stateChange.code 0 noArg ([old.code, m.code, cause] ++ op) b1
    let b2 := if old = .boot then b2.onLoop fun l => { l with packetAt := b.sys.now } else b2
    let b3 := if old = .run then leaveRun m b2 else if old = .park then endManuals b2 else b2
    let b4 := if old = .hibernate then hibernateExit b3 else b3
    (onEntry_ m b4).touch [4, 0x18]

/-- The module changes state, at the end of the hold if one is in force (R455, R461). -/
def changeState (m : MState) (cause : Nat) (op : List Nat) (b : Block) : Block := if b.hinge then deferState m cause op b else changeNow m cause op b

/-- A state change caused by an event. -/
def enterState (m : MState) (cause : Nat) (b : Block) : Block := changeState m cause [] b

/-- A state change caused by a command: cause COMMAND, 0x0106, with the opcode (R513). -/
def enterByCommand (m : MState) (opcode : Nat) (b : Block) : Block := changeState m 0x0106 [opcode] b

/-- An event. One that stops the converter takes BOOT, PARK, RUN and HIBERNATE to FAULT and is a cause to be cleared there (R19, R21, R344). -/
def raise (e : Event) (arg0 : Nat) (data : List Nat) (b : Block) : Block :=
  let b1 := note e arg0 data b
  if e.stopsConverter = false then b1 else
  let b2 := b1.onSys fun y => { y with
    faultCauses := if y.faultCauses.contains (e, arg0) then y.faultCauses else y.faultCauses ++ [(e, arg0)]
    faultAt := some b.cycle }
  if b2.sys.mstate = .boot ∨ b2.sys.mstate = .park ∨ b2.sys.mstate = .run ∨ b2.sys.mstate = .hibernate then enterState .fault e.code b2 else b2

/-! ### The Latch -/

/-- Latch state codes (R286) and function codes (R321). -/
def LState.code : LState → Nat
  | .selftest => 0
  | .startup => 1
  | .armed => 2
  | .acted => 3
  | .recovery => 4
  | .test => 5
  | .lockout => 6

def SafeFn.code : SafeFn → Nat
  | .none => 0
  | .ssi => 1
  | .sps => 2

/-- Tiles of the safety mirror (R321, R322) and those that carry MZL and the bark line. -/
def latchTiles : List Nat := [0x500, 0x501, 0x502, 0x503, 0x504, 0x300, 8]

/-- An output opens both its switches and is no longer commanded on; a readback under test is still to fall (R296, R298). -/
def SafeOut.off (o : SafeOut) : SafeOut :=
  { o with cmd := false, hs := false, ls := false, rb := o.inTest.isSome && o.rb, wrongAt := if o.cmd then none else o.wrongAt }

/-- An output closes both its switches. -/
def SafeOut.turnOn (o : SafeOut) : SafeOut := { o with cmd := true, hs := true, ls := true, rb := true, wrongAt := if o.cmd then o.wrongAt else none }

/-- A close sequence is running. -/
def SeqState.closing : SeqState → Bool
  | .idle => false
  | .opening => false
  | _ => true

/-- The running sequence judges the mirror of output `i` by its own steps (R296). -/
def LatchPart.judgedBySeq (l : LatchPart) (i : Nat) : Bool := l.seq.closing || (decide (l.seq = .opening) && decide (i < 2))

/-- The mirror of output `i` contradicts it: open while it is off, closed while it is on (R296). -/
def Block.mirrorWrong (b : Block) (i : Nat) (o : SafeOut) : Bool :=
  decide (i < 3) && b.sfbEn i && !b.latch.judgedBySeq i && (if o.cmd then o.mirror else !o.mirror)

/-- The 100 ms counts of R296 start and stop with the outputs, the mirrors and the sequences. -/
def retime (b : Block) : Block := b.onLatch fun l => { l with
  outs := l.outs.mapIdx fun i o => { o with wrongAt := if b.mirrorWrong i o then some (o.wrongAt.getD b.sys.now) else none } }

/-- Output `n`, 0 for SO1 to 3 for SO4, changes. -/
def onOut (n : Nat) (f : SafeOut → SafeOut) (b : Block) : Block := retime (b.onLatch fun l => { l with outs := modAt l.outs n f })

/-- SO1 to SO3 go off; PRE_DONE clears (R297). -/
def contactorsOff (b : Block) : Block :=
  retime (b.onLatch fun l => { l with outs := l.outs.mapIdx fun i o => if i < 3 then o.off else o, preDone := false })

/-- The close sequence fails with a code: SO1 to SO3 off, CONTACTOR_FAULT, the command completes with FAULT and the code (R297). -/
def failClose (code : Nat) (b : Block) : Block :=
  let src := b.latch.seqSrc
  let b1 := (contactorsOff b).onLatch fun l => { l with seq := .idle, seqFail := code, seqSrc := none }
  let b2 := raise .contactorFault noArg [code] b1
  (match src with
    | some s => complete s .fault (leBytes 1 code) (retime b2)
    | none => retime b2).touch latchTiles

/-- A demand ends a running close sequence with code 7; SSI completes a running open sequence, whose outputs it has switched off (R297, R319). -/
def abortSeq (ssi : Bool) (b : Block) : Block :=
  if b.latch.seq.closing then failClose 7 b
  else if b.latch.seq = .opening ∧ ssi then
    let src := b.latch.seqSrc
    let b1 := b.onLatch fun l => { l with seq := .idle, seqSrc := none }
    match src with
    | some s => complete s .ok (leBytes 1 0) (retime b1)
    | none => retime b1
  else b

/-- The Latch drives or releases the bark line; while this module drives it the line reads low (R99, R101), and an external bark present until then is no
cause any more: its level can no longer be told from this drive. -/
def driveBark (on : Bool) (b : Block) : Block :=
  let b1 := (b.onBark fun k => { k with drive := on, line := if on then false else k.line }).touch [8, 0x500]
  if on then b1.onLatch fun l => { l with causes := l.causes.filter fun c => c != (4, 0) } else b1

/-- The condition of R306 that a new cause takes away from a reset that waits for the bark release test (R319; log entry 33). -/
def resetConditionOf (cause : Nat) : Nat :=
  match cause with
  | 1 => 2
  | 2 => 2
  | 3 => 3
  | 4 => 4
  | 5 => 5
  | 7 => 5
  | 8 => 5
  | 9 => 5
  | 10 => 2
  | 11 => 2
  | 13 => 6
  | _ => 1

/-- A safety reset is denied: the condition is the reply, DENY and the record's reason (R306, R307). -/
def denyReset (src : Option Src) (cond : Nat) (b : Block) : Block :=
  let b1 := note .safeResetDenied noArg [cond] (b.onLatch fun l => { l with deny := cond, resetting := none })
  (match src with
    | some s => complete s .denied (leBytes 1 cond) b1
    | none => b1).touch [0x500]

/-- A new cause while a reset waits for the bark release test denies it (R21, R319). -/
def spoilReset (cause : Nat) (b : Block) : Block :=
  match b.latch.resetting with
  | some r => denyReset r.1 (resetConditionOf cause) b
  | none => b

/-- Execute SSI or SPS (R283, R319, R321): outputs, muzzle, trip 0x80, bark line, record, module to SAFE. -/
def execFn (ssi : Bool) (cause ix : Nat) (next : LState) (b0 : Block) : Block :=
  let b := spoilReset cause b0
  let t := b.optime
  let b1 := b.onLatch fun l => { l with
    state := next
    fn := if ssi then .ssi else if l.fn = .ssi then .ssi else .sps
    cause := if l.fn = .none then cause else l.cause
    causeIx := if l.fn = .none then ix else l.causeIx
    acts := l.acts + 1
    actTime := t % 4294967296
    muzzle := true
    actAt := some b.sys.now
    testsOff := l.testsOff || l.outs.any fun o => match o.inTest with
      | some x => x.2 == b.sys.now
      | none => false
    outs := l.outs.map fun o => match o.inTest with
      | some x => if x.2 = b.sys.now then { o with inTest := none, hs := o.cmd, ls := o.cmd } else o
      | none => o }
  let b2 := onOut 3 SafeOut.off b1
  let b3 := if ssi then contactorsOff b2 else b2
  let b4 := b3.onLeash fun h => { h with tripDown := true }
  let b5 := if ssi && next != .test then driveBark true b4 else b4
  let e : Event := if ssi then .safeSsi else .safeSps
  let b6 := enterState .safe e.code (note e ix [cause, ix] b5)
  (cnvMuzzle (abortSeq ssi b6)).touch latchTiles

/-- Put a cause among those present. -/
def addCause (cause ix : Nat) (b : Block) : Block :=
  b.onLatch fun l => { l with causes := if l.causes.contains (cause, ix) then l.causes else l.causes ++ [(cause, ix)] }

/-- The causes that the Latch acts on at once in STARTUP (R566), with leash loss (R112). -/
def actsInStartup (cause : Nat) : Bool := cause == 3 || cause == 4 || cause == 5 || cause == 6 || cause == 7 || cause == 13

/-- A cause of R323 calls for SSI or SPS (R287, R319, R566). -/
def demand (ssi : Bool) (cause ix : Nat) (b : Block) : Block :=
  match b.latch.state with
  | .selftest => addCause cause ix b
  | .startup => if actsInStartup cause then execFn ssi cause ix .acted (addCause cause ix b) else b
  | .armed => execFn ssi cause ix .acted (addCause cause ix b)
  | .acted => if ssi && b.latch.fn != .ssi then execFn ssi cause ix .acted (addCause cause ix b) else (addCause cause ix b).touch latchTiles
  | .recovery =>
    if b.latch.causes.contains (cause, ix) then b else execFn ssi cause ix .acted (addCause cause ix b)
  | .test => if ssi && b.latch.fn != .ssi then
      let b1 := execFn ssi cause ix .test (addCause cause ix b)
      driveBark true b1
    else (addCause cause ix b).touch latchTiles
  | .lockout => b

def demandSSI (cause ix : Nat) (b : Block) : Block := demand true cause ix b
def demandSPS (cause ix : Nat) (b : Block) : Block := demand false cause ix b

/-- ACTED goes to RECOVERY when every cause has cleared (R287). -/
def settleLatch (b : Block) : Block :=
  if b.latch.state = .acted ∧ b.latch.causes = [] then (b.onLatch fun l => { l with state := .recovery }).touch [0x500] else b

/-- A cause has cleared. -/
def clearCause (cause ix : Nat) (b : Block) : Block :=
  settleLatch (b.onLatch fun l => { l with causes := l.causes.filter fun c => c != (cause, ix) })

/-- LOCKOUT: every output off, muzzle asserted, module to SAFE, no function executed (R286, R287, R288). -/
def lockout (cause : Nat) (b : Block) : Block :=
  if b.latch.state = .lockout then b
  else
    let b1 := (spoilReset cause b).onLatch fun l => { l with
      state := .lockout
      muzzle := true
      cause := if l.fn = .none then cause else l.cause
      causeIx := if l.fn = .none then 0 else l.causeIx
      outs := l.outs.map SafeOut.off
      preDone := false }
    let b1 := retime b1
    let b2 := enterState .safe Event.latchLockout.code (note .latchLockout noArg [cause] b1)
    (cnvMuzzle (abortSeq true b2)).touch latchTiles

/-! ### Takeovers, holds, effects -/

/-- How a record names a part of the inventory, by its row in R60's table, from 1, and its index in the row: no rule gives the code (R513; log entry 21). -/
def partCode (row ix : Nat) : Nat := Config.partCode row ix % 65536

/-- A backup takes over: a Warning record names the failed part and its backup, and TAKEOVERS counts (R61, R364, R513). -/
def takeover (part backup : Nat) (b : Block) : Block :=
  (note .backupTakeover part [backup] (b.onSys fun y => { y with takeovers := y.takeovers + 1 })).touch [8]

/-- Every engine is loaded and verified (R18, R19). -/
def Block.enginesLoaded (b : Block) : Bool := b.sec.loaded

/-- The loop engine regulates the DC-link voltage (R183). -/
def Block.linkLoop (b : Block) : Bool := decide (b.loop.lmode = 2)

/-- The loop engine's output, mA (R232). -/
def Block.loopOut (b : Block) : Int := fxRound b.loop.u

/-- The fire-release demand: an enabled SI8 that is not released (R289). -/
def Block.fireDemand (b : Block) : Bool := match b.latch.inputs[7]? with
  | some i => !(decide (i.st = .disabled) || decide (i.st = .released))
  | none => false

/-- The Latch states in which a function has been executed and not reset, and LOCKOUT (R286). -/
def LState.acting : LState → Bool
  | .acted => true
  | .recovery => true
  | .test => true
  | .lockout => true
  | _ => false

/-- The Latch's muzzle stands in every state but ARMED (R286). -/
def lockMuzzle (b : Block) : Block :=
  if b.latch.state ≠ .armed ∧ b.latch.muzzle = false then (b.onLatch fun l => { l with muzzle := true }).touch latchTiles else b

/-- While the Latch muzzle stands the converter is MUZZLED, or LATCHED (R231, R236). -/
def lockGates (b : Block) : Block := if b.latch.muzzle = true ∧ b.cnv.st ≠ .muzzled ∧ b.cnv.st ≠ .latched then cnvDark .muzzled b else b

/-- A module whose Latch has acted is in SAFE, at the end of the hold if one is in force (R19, R286, R461). -/
def lockState (b : Block) : Block :=
  if b.latch.state.acting = true ∧ b.hinge = false ∧ b.sys.mstate ≠ .safe ∧ b.sys.mstate ≠ .off then
    enterState .safe (if b.latch.fn = .sps then Event.safeSps.code else Event.safeSsi.code) b
  else b

/-- What the hardware between the Latch, the converter and Lead holds whatever happens. -/
def interlock (b : Block) : Block := lockGates (lockState (lockMuzzle b))

/-! ### Full-Open debugging (R477, R478) -/

/-- SAOK: SA and SB in lockstep and answering (R303, R321). -/
def LatchPart.saOk (l : LatchPart) : Bool := l.lockstep && l.answering

/-- An open debug state ends with a cause: access closes at once, CLOSING sets, and the exit sequence runs (R475). -/
def closeDebug (cause : Nat) (b : Block) : Block :=
  (b.onSec fun s => { s with dstate := 0, closing := true, openEnd := none, lastCause := cause, fullDue := none }).touch [0x16]

/-- Full-Open is entered: DEBUG_FULL_OPEN stops the converter, its cause persists, the command completes (R477). -/
def enterFullOpen (src : Src) (minutes : Nat) (b : Block) : Block :=
  let b1 := b.onSec fun s => { s with dstate := 2, openEnd := some (b.sys.now + minutes * 60 * secT), opens := s.opens + 1, fullCause := true, fullDue := none }
  (complete src .ok [] (raise .debugFullOpen noArg [] b1)).touch [0x16]

/-- A Full-Open that waited for the end of RUN is entered, or refused when SA and SB are not in lockstep (R477, R478, R483). -/
def resolveFullOpen (b : Block) : Block := match b.sec.fullDue with
  | some (src, m) =>
    if b.sys.mstate = .run ∨ b.hinge = true then b
    else if b.latch.saOk = true ∧ b.sys.mstate ≠ .off then enterFullOpen src m b
    else complete src .badState [] (b.onSec fun s => { s with fullDue := none })
  | none => b

/-- What the debug port's hardware does of itself: a waiting Full-Open, and the end of Full-Open when the safety engines fail (R477, R478). -/
def debugWatch (b : Block) : Block :=
  let b1 := resolveFullOpen b
  if b1.sec.dstate = 2 ∧ b1.latch.saOk = false then closeDebug 3 b1 else b1

/-- Every command ends in a next state: its effect on the block, with the debug port's conditions and the interlock kept and the interrupt sources sampled; the
queue is the step's. -/
def effect (f : Block → Block) (s : State) : Host.Outcome State Fault Refusal :=
  .next { s with block := irqWatch s.block (interlock (debugWatch (f s.block))) }

end Sys2Proof.Machine
end

