-- ==== Sys2Proof/Machine/Balancing.lean ====
section
/-! DEFINITION. Shuttle balancing (R119 to R145). -/

namespace Sys2Proof.Machine

/-- The charge and energy counters take the time since they were last brought up to date, at the average currents of R125 (R143): mA·ms, µJ. -/
def accrue (b : Block) : Block :=
  let dt : Nat := (b.sys.now - b.bal.lastCount) / 100000
  let duty (c : Nat) : Int := dutyOf b.sense.rate (b.compensatedCell c)
  let b1 := b.onBal fun s => { s with
    lastCount := b.bal.lastCount + dt * 100000
    manuals := s.manuals.map fun m => { m with charge := m.charge + (if m.target.bleed then b.bleedCur m.target.cell else m.target.cur) * dt / 1000 }
    segs := s.segs.mapIdx fun n g =>
      let run := g.shuttles.filter fun h => h.cur != 0
      let q (f : Shuttle → Int) : Nat := (run.foldl (fun a h => a + f h * duty h.cell * dt / 1000) 0).toNat
      let bl := (List.range 32).foldl (fun a i => a + if (b.cellBal (32 * n + i)).bleed then b.bleedCur (32 * n + i) * duty (32 * n + i) * dt / 1000 else 0) 0
      let br := g.bridge * dutyOf b.sense.rate false * dt / 1000
      let loss := run.foldl (fun a h => a + |h.cur| * (b.cellUv h.cell).getD 0 * 41 / 1000000 * dt / 1000) 0
        + |g.bridge| * (b.seg n).t2b.last.getD 0 * 435 / 10000000 * dt / 1000
        + (List.range 32).foldl (fun a i => a + if (b.cellBal (32 * n + i)).bleed then b.bleedCur (32 * n + i) * (b.cellUv (32 * n + i)).getD 0 / 1000 * dt / 1000 else 0) 0
      { g with
        qDraw := g.qDraw + q fun h => max h.cur 0
        qFeed := g.qFeed + q fun h => max (-h.cur) 0
        qBleed := g.qBleed + bl.toNat
        qBrUp := g.qBrUp + (max br 0).toNat
        qBrDn := g.qBrDn + (max (-br) 0).toNat
        eLoss := g.eLoss + loss.toNat } }
  b1

/-- The wires of the cell are not all learned, and its segment is Compensated: a first start is a learning step (R85). -/
def Block.needsLearning (b : Block) (c : Nat) : Bool :=
  (b.seg (segOf c)).compensated && !((b.wire c).learned && (b.wire (c + 1)).learned)

/-- Record a step of a cell's balancing current for wire learning, and start a learning step where R85 asks for one. -/
def stepCell (c : Nat) (delta : Int) (learn shuttle : Bool) (b : Block) : Block :=
  let endAt := b.sys.now + 16 * [2500, 5000, 10000, 100000, 100000000].getD b.sense.rate 2500
  let b1 := b.onSense fun s => { s with
    cells := s.cells.mapIdx fun k x => if k + 2 ≥ c ∧ k ≤ c + 2 then { x with before := x.hist.take 16, hist := [] } else x }
  let b2 := onCell c (fun x => { x with stepDelta := delta, stepAt := b.sys.now }) b1
  if learn then
    let n := segOf c
    b2.onSense fun s => { s with
      cells := s.cells.mapIdx fun k x =>
        let x1 := if k = c then { x with stepUntil := endAt } else x
        if (k + 1 = c ∨ k = c ∨ k = c + 1) ∨ (shuttle ∧ (k = 32 * n ∨ k = 32 * n + 31)) then { x1 with exclUntil := max x1.exclUntil endAt, learnp := true } else x1 }
  else b2

/-- Apply the target of one cell at a +1 µs event: the element it names, or none. -/
def applyCell (c : Nat) (t : Option Target) (b : Block) : Block :=
  let n := segOf c
  let old := b.balCur c
  match b.bal.manuals.any fun m => m.target.cell == c with
  | true => b
  | false =>
    let same : Bool := match t, b.shuttleOf c with
      | some x, some p => !x.bleed && x.shuttle == p.1 && x.cur == p.2.cur
      | some x, none => x.bleed && (b.cellBal c).bleed
      | none, some _ => false
      | none, none => !(b.cellBal c).bleed
    if same then b
    else
      let b0 := match b.shuttleOf c with
        | some p => onSegBal n (fun g => { g with shuttles := modAt g.shuttles p.1 Shuttle.open_ }) b
        | none => b
      let b1 := onCellBal c (fun x => { x with bleed := false }) b0
      let learn := t.isSome && b.needsLearning c && old == 0
      let okV := match b.cellUv c with
        | some v => decide (2000000 ≤ v ∧ v ≤ 4800000)
        | none => false
      let b2 := match t with
        | some x =>
          if x.bleed then onCellBal c (fun y => { y with bleed := true }) b1
          else if okV then onSegBal n (fun g => { g with shuttles := modAt g.shuttles x.shuttle fun h =>
            if h.state = .outOfService then h else { state := if learn then .learning else .running, cell := c, cur := x.cur, runsThrough := learn || b.compensatedCell c } }) b1
          else b1
        | none => b1
      let b3 := onSegBal n (fun g => { g with steps := satAdd 0xFFFFFFFF g.steps 1 }) b2
      let b4 := stepCell c (b3.balCur c - old) learn (match t with | some x => !x.bleed | none => false) b3
      b4.touch [0x80 + 8 * n + 6, 0x80 + 8 * n + 7, 0x100 + c]

/-- Apply the bridge currents that can be applied: a bridge due to start in an open-wire slot of either segment waits (R121, R139). -/
def applyBridges (b : Block) : Block :=
  let wait (p : Nat × Int) : Bool := p.2 != 0 && ((b.seg p.1).slotOpen || (b.seg (p.1 + 1)).slotOpen)
  let rail (n : Nat) : Bool := match (b.seg n).t2b.last with
    | some v => decide (50000000 ≤ v ∧ v ≤ 160000000)
    | none => false
  let b1 := (b.bal.stagedBridges.filter fun p => !wait p).foldl (fun b p =>
    onSegBal p.1 (fun g =>
      let i : Int := if g.bridgeFault || !(rail p.1 && rail (p.1 + 1)) then 0 else p.2
      { g with bridge := i, bridgeOn := i != 0, bridgeUp := decide ((0 : Int) < p.2), steps := if g.bridge = i then g.steps else satAdd 0xFFFFFFFF g.steps 1 }) b) b
  b1.onBal fun s => { s with stagedBridges := s.stagedBridges.filter wait }

/-- Start applying a set of targets: bridges and residue 0 at the next +1 µs event (R133). -/
def stageTargets (t : List Target × List (Nat × Int)) (b : Block) : Block := b.onBal fun s =>
  { s with staged := t.1, stagedBridges := t.2, stagedActive := true, staggerNext := 0 }

/-- The +1 µs event of balancing (R79, R133, R136): open everything, or apply the changes of this residue of the stagger. -/
def balShutterOpen (b : Block) : Block :=
  if b.bal.openNext then
    let b1 := openElements (fun _ => true) (endManuals b)
    (b1.onBal fun s => { s with openNext := false, staged := [], stagedActive := false, stagedBridges := [], queued := none }).touch balTiles
  else if !b.bal.stagedActive then applyBridges b
  else
    let r := b.bal.staggerNext
    let b0 := accrue b
    let b1 := applyBridges b0
    let b2 := ((List.range b.nCell).filter fun c => c % 3 == r).foldl (fun b c => applyCell c (b.bal.staged.find? fun t => t.cell == c) b) b1
    if r < 2 then b2.onBal fun s => { s with staggerNext := r + 1 }
    else
      let b3 := b2.onBal fun s => { s with stagedActive := false, staggerNext := 0, queued := none }
      match b.bal.queued with
      | some t => stageTargets t b3
      | none => b3

/-- Targets reach the segments (R133); they wait while earlier ones are still being staggered (R139). -/
def doTargetsFrame (b : Block) : Block :=
  match b.bal.sent with
  | none => b
  | some t =>
    let b1 := b.onBal fun s => { s with sent := none }
    if b.bal.stagedActive then b1.onBal fun s => { s with queued := some t } else stageTargets t b1

/-! ### The placement engine -/

/-- Why a cell is not eligible, in the order of R128; 0 eligible (R144). -/
def Block.exclusion (b : Block) (c : Nat) : Nat :=
  let n := segOf c
  if b.nCell ≤ c then 1
  else if !(b.seg n).present || ((b.ring.segs.getD n { delayDown := 0, delayUp := 0, stale := false, cutAt := none, isolated := false, converted := false, framePos := none, arrived := false }).isolated) then 6
  else if !(b.cellFlt c).valid then 2
  else if (b.wire c).opened || (b.wire (c + 1)).opened || (b.cell c).pair then 3
  else if (b.cell c).chf then 4
  else if (match b.cellTemp c with | some t => decide (b.bal.policy.tMax < t) | none => true) then 5
  else if (b.cell c).ovc || (b.cell c).uvc then 7
  else 0

/-- A cell's surplus figures while a decision is formed: cell, SOC (fixed point), capacity mAh, surplus in fixed-point mAh. -/
structure Surplus where
  cell : Nat
  z : Int
  cap : Int
  s : Int
  d : Int
  deriving DecidableEq, Repr

/-- Sum over a list of surpluses. -/
def sumBy (f : Surplus → Int) (l : List Surplus) : Int := l.foldl (fun a x => a + f x) 0

/-- Surpluses and deviations of the eligible cells under GOAL (R129), and SOC_T. -/
def Block.surpluses (b : Block) : List Surplus × Int :=
  let el := ((List.range b.nCell).filter fun c => b.exclusion c == 0).map fun c =>
    ({ cell := c, z := (b.cellFlt c).z, cap := (b.cellFlt c).cap, s := 0, d := 0 } : Surplus)
  let n : Int := el.length
  let capSum := sumBy (·.cap) el
  let socT := if capSum = 0 then 0 else sumBy (fun x => x.z * x.cap) el / capSum
  let eBar := if n = 0 then 0 else sumBy (fun x => (fxOne - x.z) * x.cap) el / n
  let aBar := if n = 0 then 0 else sumBy (fun x => x.z * x.cap) el / n
  let l1 := el.map fun x => { x with s :=
    match b.bal.policy.goal with
    | 0 => (x.z - socT) * x.cap
    | 1 => eBar - (fxOne - x.z) * x.cap
    | _ => x.z * x.cap - aBar }
  let segSum (k : Nat) : Int := sumBy (·.s) (l1.filter fun x => segOf x.cell == k)
  let segN (k : Nat) : Int := (l1.filter fun x => segOf x.cell == k).length
  let sums := (List.range 16).map fun k => if segN k = 0 then 0 else segSum k / segN k
  (l1.map fun x => { x with d := x.s - sums.getD (segOf x.cell) 0 }, socT)

/-- No draw or bleed: the W0 voltage at or below UV + V_MARGIN (R130). -/
def Block.noDraw (b : Block) (c : Nat) : Bool := match b.cellW0 c with
  | some v => decide (v ≤ b.uvTh + b.bal.policy.vMargin)
  | none => true

/-- No feed for voltage (R130). -/
def Block.noFeedV (b : Block) (c : Nat) : Bool := match b.cellW0 c with
  | some v => decide (b.ovTh - b.bal.policy.vMargin ≤ v)
  | none => true

/-- No feed for temperature (R130). -/
def Block.noFeedT (b : Block) (c : Nat) : Bool := match b.cellTemp c with
  | some t => decide (t < b.bal.policy.tFeedMin)
  | none => true

/-- A shuttle can run on this cell: its latest reading lies from 2.0 V to 4.8 V (R120). -/
def Block.shuttleVolts (b : Block) (c : Nat) : Bool := match b.cellUv c with
  | some v => decide (2000000 ≤ v ∧ v ≤ 4800000)
  | none => false

/-- A candidate element with its estimated dissipation in nW per the rows of R131. -/
structure Cand where
  target : Target
  d : Int
  power : Int
  deriving DecidableEq, Repr

/-- Give free shuttles to the cells of the list in its order (R132). -/
def giveShuttles (cur : Int) : List (Nat × Bool) → List Nat → List Target
  | [], _ => []
  | _ :: _, [] => []
  | (c, draw) :: cs, h :: hs => { cell := c, bleed := false, shuttle := h, cur := if draw then cur else -cur, manual := false } :: giveShuttles cur cs hs

/-- Sorted by |d| descending, the lower cell first on ties (R132). -/
def insertByDev (x : Surplus) : List Surplus → List Surplus
  | [] => [x]
  | y :: l => if |y.d| < |x.d| then x :: y :: l else y :: insertByDev x l

/-- Cells of a segment in order of |d|. -/
def sortByDev (l : List Surplus) : List Surplus := l.foldl (fun a x => insertByDev x a) []

/-- Drop the bleed of smallest d while the bleeds alone exceed the limit (R131 step 1). -/
def dropBleeds (limit : Int) : Nat → List Cand → List Cand
  | 0, l => l
  | k + 1, l =>
    if l.foldl (fun a x => a + x.power) 0 ≤ limit then l
    else match l.foldl (fun (m : Option Cand) x => match m with
        | none => some x
        | some y => if x.d < y.d then some x else some y) none with
      | none => l
      | some m => dropBleeds limit k (l.erase m)

/-- The new roles of a cell (R132): donor, receiver. -/
def newRoles (pol : BalPolicy) (d : Int) (x : CellBal) : Bool × Bool :=
  let s := fxI pol.start
  let t := fxI pol.stop
  (decide (s ≤ d) || (decide (t < d) && x.donor), decide (d ≤ -s) || (decide (d < -t) && x.receiver))

/-- The targets of one segment before the dissipation rule (R130, R132). -/
def Block.segTargets (b : Block) (n : Nat) (l : List Surplus) : List Cand :=
  let pol := b.bal.policy
  let g := b.segBal n
  let mine := l.filter fun x => segOf x.cell == n
  let man := b.bal.manuals.filter fun m => m.seg == n
  let manCell (c : Nat) : Bool := man.any fun m => m.target.cell == c
  let inSvc := (List.range 4).filter fun i => (g.shuttles.getD i Shuttle.reset).state != .outOfService && !(man.any fun m => !m.target.bleed && m.target.shuttle == i)
  let cur : Int := ((pol.iSet * g.kt / 65535 / 50 * 50 : Nat) : Int)
  let want := (sortByDev mine).filterMap fun x =>
    let r := newRoles pol x.d (b.cellBal x.cell)
    if manCell x.cell || !b.shuttleVolts x.cell then none
    else if r.1 && !b.noDraw x.cell then some (x.cell, true)
    else if r.2 && !b.noFeedV x.cell && !b.noFeedT x.cell then some (x.cell, false)
    else none
  let keep := want.filterMap fun p => match b.shuttleOf p.1 with
    | some q => if decide (0 < q.2.cur) == p.2 && inSvc.contains q.1 then some ({ cell := p.1, bleed := false, shuttle := q.1, cur := if p.2 then cur else -cur, manual := false } : Target) else none
    | none => none
  let rest := want.filter fun p => !(keep.any fun t => t.cell == p.1)
  let free := inSvc.filter fun i => !(keep.any fun t => t.shuttle == i)
  let useSh := pol.mode ≤ 1 && !g.overTemp && cur ≥ 100
  let sh := if useSh then keep ++ giveShuttles cur rest free else []
  let bleedOk := !g.overTemp && (match (b.seg n).dieT with | some t => decide (t ≤ 10000) | none => true)
  let noShuttle := g.shuttles.all fun h => h.state == .outOfService
  let donors := ((sortByDev mine).filter fun x => (newRoles pol x.d (b.cellBal x.cell)).1 && !b.noDraw x.cell && !manCell x.cell && decide (0 < x.d))
  let bl := if bleedOk && (pol.mode == 2 || (pol.mode == 0 && noShuttle)) then (donors.take pol.maxBleed).map fun x =>
    ({ cell := x.cell, bleed := true, shuttle := 0, cur := 0, manual := false } : Target) else []
  let dOf (c : Nat) : Int := ((mine.find? fun x => x.cell == c).map (·.d)).getD 0
  (sh.map fun t => { target := t, d := dOf t.cell, power := |t.cur| * (b.cellUv t.cell).getD 0 * 41 / 1000 }) ++
  (bl.map fun t => { target := t, d := dOf t.cell, power := (b.cellUv t.cell).getD 0 * b.bleedCur t.cell })

/-- Boundary flows F[0] to F[14] in fixed-point mAh (R129). -/
def boundaryFlows (l : List Surplus) : List Int :=
  (List.range 15).map fun n => sumBy (·.s) (l.filter fun x => segOf x.cell ≤ n)

/-- The bridge currents before the dissipation rule (R129, R130, R132). -/
def Block.bridgeTargets (b : Block) (l : List Surplus) : List (Nat × Int × Int) :=
  let pol := b.bal.policy
  let fl := boundaryFlows l
  let elig (n : Nat) : List Surplus := l.filter fun x => segOf x.cell == n
  (List.range (b.nSeg - 1)).map fun n =>
    let f := fl.getD n 0
    let g := b.segBal n
    let go := if g.bridgeOn then decide (fxI pol.brStop < |f|) && (decide (0 < f) == g.bridgeUp) else decide (fxI pol.brStart ≤ |f|)
    let up := decide (0 < f)
    let from_ := if up then n else n + 1
    let to_ := if up then n + 1 else n
    let sendOk := !(elig from_).any fun x => b.noDraw x.cell
    let recvOk := !(elig to_).any fun x => b.noFeedV x.cell || b.noFeedT x.cell
    let live := !(elig n).isEmpty && !(elig (n + 1)).isEmpty
    let hot := g.overTemp || (b.segBal (n + 1)).overTemp
    let kt := min g.kt (b.segBal (n + 1)).kt
    let cur : Int := ((pol.iBr * kt / 65535 / 50 * 50 : Nat) : Int)
    let i := if go && sendOk && recvOk && live && !g.bridgeFault && !hot then (if up then cur else -cur) else 0
    (n, i, |i| * (b.seg from_).t2b.last.getD 0 * 435 / 10000)

/-- Round a scaled current down to its 50 mA step; below 100 mA the element does not run (R131). -/
def scaleCur (num den : Int) (i : Int) : Int :=
  let m := if den = 0 then 0 else |i| * num / den / 50 * 50
  if m < 100 then 0 else if 0 ≤ i then m else -m

/-- At most `n` bridges run, the lowest ones first (R446; log entry 45). -/
def capBridges : Nat → List (Nat × Int × Int) → List (Nat × Int × Int)
  | _, [] => []
  | n, (k, i, p) :: t => if i = 0 then (k, i, p) :: capBridges n t else match n with
    | 0 => (k, 0, 0) :: capBridges 0 t
    | m + 1 => (k, i, p) :: capBridges m t

/-- One decision (R132): roles, targets and the dissipation rule; the targets go out in a targets frame (R133). -/
def decide_ (b : Block) : Block :=
  let pol := b.bal.policy
  let (l, socT) := b.surpluses
  let cands := (List.range b.nSeg).flatMap fun n => b.segTargets n l
  let brs := if b.sdsOn then capBridges 4 (b.bridgeTargets l) else b.bridgeTargets l
  let limit : Int := (pol.pwrMax : Int) * 1000000000
  let bleeds := cands.filter fun x => x.target.bleed
  let sh := (cands.filter fun x => !x.target.bleed).take (if b.sdsOn then 16 else cands.length)
  let total (cs : List Cand) : Int := cs.foldl (fun a x => a + x.power) 0
  let brTotal := brs.foldl (fun a x => a + x.2.2) 0
  let exceeds := decide (limit < total bleeds + total sh + brTotal)
  let bleeds1 := if exceeds then dropBleeds limit bleeds.length bleeds else bleeds
  let num := limit - total bleeds1
  let den := total sh + brTotal
  let sc (i : Int) : Int := if exceeds && decide (num < den) then scaleCur num den i else i
  let tg := (sh.map fun x => { x.target with cur := sc x.target.cur }).filter (fun t => t.cur != 0) ++ bleeds1.map (·.target)
  let br := brs.map fun x => (x.1, sc x.2.1)
  let k : Nat := if exceeds && decide (num < den ∧ den ≠ 0) then min 65535 ((num * 65536 + den / 2) / den).toNat else 65535
  let est := if exceeds && decide (num < den) then (if den = 0 then total bleeds1 else total bleeds1 + den * k / 65536) else total bleeds1 + den
  let b1 := b.onBal fun s => { s with
    cells := s.cells.mapIdx fun c x =>
      let ex := b.exclusion c
      match l.find? fun y => y.cell == c with
      | some y =>
        let r := newRoles pol y.d x
        { x with exclReason := ex, dev := some (y.d / fxOne), donor := r.1, receiver := r.2
                 limV := (r.1 && b.noDraw c) || (r.2 && b.noFeedV c), limT := r.2 && b.noFeedT c }
      | none => { x with exclReason := ex, dev := none, donor := false, receiver := false, limV := false, limT := false }
    sent := some (tg, br)
    decisions := (s.decisions + 1) % 4294967296
    pEst := (est / 1000000000).toNat
    kFactor := k
    socT := if pol.goal = 0 then (clampI 0 65535 (fxRound (socT * 65536))).toNat else s.socT
    pwrLim := exceeds && decide (num < den) }
  let b1 := if b1.pwr.sdsCap = b.sdsOn then b1 else (b1.onPwr fun p => { p with sdsCap := b.sdsOn }).touch [9]
  let b2 := if exceeds && decide (num < den) && !b.bal.pwrLim then note .balPowerLimit noArg [] b1 else b1
  b2.touch (balTiles ++ (List.range 512).map (0x100 + ·))

/-- A BAL_CLEAR_FAULT whose second has passed completes with the segments whose elements are all in service (R140). -/
def balClearDue (b : Block) : Block :=
  match b.bal.clearing with
  | some (src, _, t) =>
    if t + secT ≤ b.sys.now then
      let ok (n : Nat) : Bool := ((b.segBal n).shuttles.all fun h => h.state != .outOfService) && !(b.segBal n).bridgeFault && !((List.range 32).any fun i => (b.cellBal (32 * n + i)).stuck)
      complete src .ok (leBytes 2 (maskOf ((List.range b.nSeg).map ok))) (b.onBal fun s => { s with clearing := none })
    else b
  | none => b

/-- PLACEMENT_DECISION (R132, R133, R136). -/
def doPlacementDecision (b : Block) : Block :=
  let b1 := balClearDue (accrue (b.at (b.nextMultiple 10000000)))
  if b1.bal.en && b1.bal.disabling.isNone && (b1.sys.mstate = .park || b1.sys.mstate = .run) && !b1.hinge then decide_ b1 else b1

def execPlacementDecision (s : State) := effect doPlacementDecision s

def execTargetsFrame (s : State) := effect doTargetsFrame s

/-! ### Derating and faults -/

/-- DIE_TEMPERATURE_CHANGE (R134): the derate factor, the stops and the flags of one die. -/
def doDieTemperatureChange (n : Nat) (t : Int) (b : Block) : Block :=
  let g := b.segBal n
  let kt : Nat := if t < 8500 then 65535 else if 10500 ≤ t then 0 else ((10500 - t) * 65536 / 2000).toNat
  let ot := decide (10500 ≤ t) || (g.overTemp && decide (9500 ≤ t))
  let der := decide (8500 ≤ t)
  let tw := decide (9500 ≤ t) || ((b.seg n).twarn && decide (9000 ≤ t))
  let b1 := onSeg n (fun x => { x with dieT := some t, twarn := tw }) (onSegBal n (fun x => { x with kt := min kt 65535, overTemp := ot, derating := der }) b)
  let scale (i : Int) : Int := let m := |i| * kt / 65536 / 50 * 50; if m < 100 then 0 else if 0 ≤ i then m else -m
  let b2 := if ot then openElements (fun k => k == n) (endManual n b1)
    else if der then onSegBal n (fun x => { x with
      shuttles := x.shuttles.map fun h => if h.cur = 0 then h else (let i := if kt < 65535 then min |h.cur| |scale b.bal.policy.iSet| else |h.cur|; if i < 100 then h.open_ else { h with cur := if 0 ≤ h.cur then i else -i })
      bridge := if x.bridge = 0 then 0 else (let i := min |x.bridge| |scale b.bal.policy.iBr|; if i < 100 then 0 else if 0 ≤ x.bridge then i else -i) }) b1
    else b1
  let b3 := if decide (10000 < t) then b2.onBal (fun s => { s with cells := s.cells.mapIdx fun c x => if segOf c = n then { x with bleed := false } else x }) else b2
  let b4 := if der && !g.derating then note .balDerate n [] b3 else b3
  let b5 := if ot && !g.overTemp then note .balOvertemp n [] b4 else b4
  b5.touch [0x42, 0x80 + 8 * n, 0x80 + 8 * n + 6]

def execDieTemperatureChange (seg : Fin 16) (temp : Int) (s : State) := effect (doDieTemperatureChange seg temp) s

/-- A check that fails again within the second of BAL_CLEAR_FAULT completes it with FAULT (R140). -/
def failClearing (n : Nat) (b : Block) : Block :=
  match b.bal.clearing with
  | some (src, m, t) => if m.testBit n && decide (b.sys.now ≤ t + secT) then complete src .fault (leBytes 2 0) (b.onBal fun s => { s with clearing := none }) else b
  | none => b

/-- SHUTTLE_FAULT (R135, R139): out of service; a learning step is abandoned. -/
def doShuttleFault (n i : Nat) (b : Block) : Block :=
  let h := (b.segBal n).shuttles.getD i Shuttle.reset
  let b0 := if b.bal.manuals.any fun m => m.seg == n && !m.target.bleed && m.target.shuttle == i then endManual n b else b
  let b1 := onSegBal n (fun g => { g with shuttles := modAt g.shuttles i fun _ => { state := .outOfService, cell := 0, cur := 0, runsThrough := false } }) b0
  let b2 := if h.state = .learning then onCell h.cell (fun x => { x with stepUntil := 0, learnp := false }) b1 else b1
  (failClearing n (note .shuttleFault n [i] b2)).touch [0x80 + 8 * n + 6]

def execShuttleFault (seg : Fin 16) (shuttle : Fin 4) (s : State) := effect (doShuttleFault seg shuttle) s

/-- BRIDGE_FAULT (R135). -/
def doBridgeFault (n : Nat) (b : Block) : Block :=
  let b1 := onSegBal n (fun g => { g with bridge := 0, bridgeOn := false, bridgeFault := true }) b
  (failClearing n (note .bridgeFault n [] b1)).touch [0x80 + 8 * n + 6]

def execBridgeFault (bridge : Fin 15) (s : State) := effect (doBridgeFault bridge) s

/-- BLEED_STUCK (R135): reported; the cell keeps its eligibility and its drain counts. -/
def doBleedStuck (c : Nat) (drain : Int) (b : Block) : Block :=
  let b1 := onCellBal c (fun x => { x with stuck := true, drain := drain }) b
  (failClearing (segOf c) (note .bleedStuck c [] b1)).touch [0x80 + 8 * segOf c + 6, 0x100 + c]

def execBleedStuck (cell : Fin 512) (drain : Int) (s : State) := effect (doBleedStuck cell drain) s

/-- BAL_MANUAL_EXPIRY (R138). -/
def doBalManualExpiry (n : Nat) (b : Block) : Block :=
  match b.bal.manuals.find? fun m => m.seg == n with
  | some m => endManual n (accrue (b.at m.endAt))
  | none => b

def execBalManualExpiry (seg : Fin 16) (s : State) := effect (doBalManualExpiry seg) s

/-- Placement elements open, hysteresis discarded; manual targets stay (R137). -/
def openPlacement (b : Block) : Block := b.onBal fun s =>
  { s with
    cells := s.cells.mapIdx fun c x => { x with donor := false, receiver := false, bleed := s.manuals.any fun m => m.target.bleed && m.target.cell == c }
    segs := s.segs.map fun g => { g with bridge := 0, bridgeOn := false, shuttles := g.shuttles.map fun h => if h.state = .manual then h else h.open_ }
    staged := []
    stagedBridges := []
    stagedActive := false
    queued := none
    sent := none }

/-- BAL_DISABLE_DONE (R137). -/
def doBalDisableDone (b : Block) : Block :=
  match b.bal.disabling with
  | none => b
  | some src =>
    let b1 := (openPlacement b).onBal fun s => { s with en := false, disabling := none }
    (complete src .ok [] (note .balDisabled noArg [] b1)).touch balTiles

def execBalDisableDone (s : State) := effect doBalDisableDone s

/-! ### Commands (R140) -/

/-- The words of a tile of the front bank; a tile that holds nothing reads zeros (R353, R365). -/
def Block.frontTile (b : Block) (t : Nat) : TileData :=
  (lookupKey (if b.img.front1 then b.img.bank1 else b.img.bank0) t).getD (List.replicate 15 0#32)

/-- TILE_CHECK while an internal read of one of these tiles has failed its check and none has passed since (R17, R372). -/
def Block.tilesStatus (b : Block) (ts : List Nat) : Status :=
  if ts.any fun t => b.img.faults.any fun f => f.tile == t && f.firstFail.isSome then .tileCheck else .ok

/-- The reply of a command that returns the words `n` from the start of a tile (R87, R140 and the other GET commands). -/
def replyTile (src : Src) (t n : Nat) (b : Block) : Block := complete src (b.tilesStatus [t]) (wordsBytes ((b.frontTile t).take n)) b

def ruleBalEnable (src : Src) (en : Nat) (_b : Block) : HostRule :=
  { opcode := 0x0401, owner := true, stateOk := true, param := need (en ≤ 1)
    act := fun b =>
      if en = 1 then
        let b1 := if b.bal.en then b else note .balEnabled noArg [] b
        (complete src .ok [] (settingChanged (b1.onBal fun s => { s with en := true }))).touch [0x42]
      else if b.bal.en then settingChanged (b.onBal fun s => { s with disabling := some src, sent := some ([], (List.range 15).map fun n => (n, 0)) })
      else complete src .ok [] b }

def execBalEnable (src : Src) (en : Nat) (s : State) := effect (host src (ruleBalEnable src en)) s

def ruleBalSetGoal (src : Src) (goal mode : Nat) (_b : Block) : HostRule :=
  { opcode := 0x0402, owner := true, stateOk := true, param := need (goal ≤ 2 && mode ≤ 2)
    act := fun b => (complete src .ok [] (settingChanged (b.onBal fun s => { s with policy := { s.policy with goal := goal, mode := mode } }))).touch [0x42] }

def execBalSetGoal (src : Src) (goal mode : Nat) (s : State) := effect (host src (ruleBalSetGoal src goal mode)) s

def ruleBalSetThresh (src : Src) (start stop brStart brStop : Nat) (_b : Block) : HostRule :=
  { opcode := 0x0403, owner := true, stateOk := true
    param := need (decide (10 ≤ start ∧ start ≤ 1000000 ∧ stop < start ∧ 100 ≤ brStart ∧ brStart ≤ 10000000 ∧ brStop < brStart))
    act := fun b => (complete src .ok [] (settingChanged (b.onBal fun s => { s with
      policy := { s.policy with start := start, stop := stop, brStart := brStart, brStop := brStop } }))).touch [0x42] }

def execBalSetThresh (src : Src) (start stop brStart brStop : Nat) (s : State) := effect (host src (ruleBalSetThresh src start stop brStart brStop)) s

def ruleBalSetLimits (src : Src) (iSet iBr vMargin : Nat) (tFeedMin tMax : Int) (maxBleed pwrMax : Nat) (_b : Block) : HostRule :=
  { opcode := 0x0404, owner := true, stateOk := true
    param := need (decide (100 ≤ iSet ∧ iSet ≤ 2000 ∧ iSet % 50 = 0 ∧ 100 ≤ iBr ∧ iBr ≤ 2000 ∧ iBr % 50 = 0 ∧ 20000 ≤ vMargin ∧ vMargin ≤ 500000 ∧ vMargin % 1000 = 0
      ∧ -2000 ≤ tFeedMin ∧ tFeedMin ≤ 2500 ∧ 3000 ≤ tMax ∧ tMax ≤ 7000 ∧ maxBleed ≤ 32 ∧ 5 ≤ pwrMax ∧ pwrMax ≤ 150))
    act := fun b => (complete src .ok [] (settingChanged (b.onBal fun s => { s with
      policy := { s.policy with iSet := iSet, iBr := iBr, vMargin := vMargin, tFeedMin := tFeedMin, tMax := tMax, maxBleed := maxBleed, pwrMax := pwrMax } }))).touch [0x42] }

def execBalSetLimits (src : Src) (iSet iBr vMargin : Nat) (tFeedMin tMax : Int) (maxBleed pwrMax : Nat) (s : State) :=
  effect (host src (ruleBalSetLimits src iSet iBr vMargin tFeedMin tMax maxBleed pwrMax)) s

/-- A free shuttle of a segment for a manual target: the lowest idle one in service, else the lowest running one in service. -/
def Block.manualShuttle (b : Block) (n : Nat) : Option Nat :=
  let g := b.segBal n
  match (List.range 4).find? fun i => (g.shuttles.getD i Shuttle.reset).state == .idle with
  | some i => some i
  | none => (List.range 4).find? fun i => (g.shuttles.getD i Shuttle.reset).state == .running

/-- BAL_MANUAL (R138, R140). -/
def ruleBalManual (src : Src) (cell element : Nat) (current : Int) (time : Nat) (b : Block) : HostRule :=
  let n := segOf cell
  let have_ := b.bal.manuals.find? fun m => m.seg == n
  let curOk := decide (current = 0 ∨ (100 ≤ |current| ∧ |current| ≤ 2000 ∧ current % 50 = 0)) && (element == 0 || decide (0 ≤ current))
  let ending := decide (current = 0)
  { opcode := 0x0405, owner := true, stateOk := decide (b.sys.mstate = .park)
    param := andThen (need (decide (cell < b.nCell) && decide (element ≤ 1) && curOk && decide (1 ≤ time ∧ time ≤ 3600)))
      (if ending then none else andThen (need (b.exclusion cell == 0))
        (if have_.isSome || (element == 0 && (b.manualShuttle n).isNone) then some .busy else none))
    act := fun b =>
      if ending then
        match have_ with
        | some m => if m.target.cell = cell then complete src .ok (leBytes 1 m.target.shuttle) (endManual n (accrue b)) else complete src .ok (leBytes 1 0) b
        | none => complete src .ok (leBytes 1 0) b
      else
        let i := (b.manualShuttle n).getD 0
        let lim := (element == 0 && (if 0 < current then b.noDraw cell else b.noFeedV cell || b.noFeedT cell)) || (element == 1 && b.noDraw cell) || (b.segBal n).overTemp
          || (element == 0 && !b.shuttleVolts cell)
        let cur := if lim then 0 else current
        let t : Target := { cell := cell, bleed := element == 1, shuttle := i, cur := cur, manual := true }
        let b1 := b.onBal fun s => { s with manuals := s.manuals ++ [{ seg := n, target := t, endAt := b.sys.now + time * secT, charge := 0 }] }
        let b2 := if element = 1 then onCellBal cell (fun x => { x with bleed := !lim }) b1
          else onSegBal n (fun g => { g with shuttles := modAt g.shuttles i fun _ => { state := .manual, cell := cell, cur := cur, runsThrough := b.compensatedCell cell } }) b1
        (complete src .ok (leBytes 1 i) b2).touch [0x42, 0x80 + 8 * n + 6, 0x100 + cell] }

def execBalManual (src : Src) (cell element : Nat) (current : Int) (time : Nat) (s : State) := effect (host src (ruleBalManual src cell element current time)) s

/-- BAL_CLEAR_FAULT (R135, R140): the elements return; the command completes a second later, or with FAULT when a check fails again. -/
def ruleBalClearFault (src : Src) (mask : Nat) (b : Block) : HostRule :=
  { opcode := 0x0406, owner := true, stateOk := true, param := need (b.maskFitted mask)
    act := fun b => (b.onBal fun s => { s with
      clearing := some (src, mask, b.sys.now)
      cells := s.cells.mapIdx fun c x => if mask.testBit (segOf c) then { x with stuck := false, drain := 0 } else x
      segs := s.segs.mapIdx fun n g => if mask.testBit n then
        { g with bridgeFault := false, shuttles := g.shuttles.map fun h => if h.state = .outOfService then Shuttle.reset else h } else g }).touch balTiles }

def execBalClearFault (src : Src) (mask : Nat) (s : State) := effect (host src (ruleBalClearFault src mask)) s

def ruleBalGetConfig (src : Src) (_b : Block) : HostRule :=
  { opcode := 0x0407, owner := false, stateOk := true, param := none, act := replyTile src 0x42 9 }

def execBalGetConfig (src : Src) (s : State) := effect (host src (ruleBalGetConfig src)) s

end Sys2Proof.Machine
end

