-- ==== Sys2Proof/Machine/Sensing.lean ====
section
/-! DEFINITION. Simultaneous sensing: apertures, scaling, windows, shutter, wire learning, reference checks (R38, R62 to R92). -/

namespace Sys2Proof.Machine

/-! ### Rates and windows -/

/-- Effective length of a window (R74): N, M and lock; a free-running window has N = N_REQ. -/
def windowLength (locked : Bool) (nReq ta tc : Nat) : Nat × Nat × Bool :=
  if !locked then (nReq, 0, false)
  else
    let q := tc / Nat.gcd ta tc
    let n := (nReq + q - 1) / q * q
    if tc = 0 ∨ 4096 < n then (nReq, 0, false) else (n, n * ta / tc, true)

/-- Restart a window with its effective length for this aperture and carrier period; running sums are discarded (R76). -/
def Window.restart (ta tc startAt : Nat) (w : Window) : Window :=
  let r := windowLength w.locked w.nReq ta tc
  { w with n := r.1, m := r.2.1, lock := r.2.2, pos := 0, startAt := startAt }

/-- Empty the running sum of one window. -/
def Chan.clear0 (c : Chan) : Chan := { c with a0 := { sum := 0, n := 0 } }
def Chan.clear1 (c : Chan) : Chan := { c with a1 := { sum := 0, n := 0 } }

/-- Apply a change to every channel of the windows. -/
def mapChans (f : Chan → Chan) (s : SensePart) : SensePart :=
  { s with
    cells := s.cells.map fun c => { c with chan := f c.chan }
    segs := s.segs.map fun g => { g with t2b := f g.t2b }
    strV := f s.strV
    cur := f s.cur
    pri := f s.pri
    sec := f s.sec
    pwr := f s.pwr }

/-- Tiles of the string measurement, the configuration, the segment and the cell records (R88 to R91). -/
def senseTiles : List Nat := [0x40, 0x41] ++ ((List.range 16).flatMap fun n => (List.range 5).map fun t => 0x80 + 8 * n + t) ++ (List.range 512).map (0x100 + ·)

/-- The mean of a run, `none` below half of it; and whether the run is partial (R76). -/
def runResult (a : Acc) (n : Nat) : Option Int × Bool := (if 2 * a.n < n then none else some (divNear a.sum a.n), decide (a.n < n))

/-- Where a window stands when a snapshot's aperture falls: it runs, and this is its last aperture. -/
structure WinPhase where
  run : Bool
  last : Bool
  n : Nat
  deriving DecidableEq, Repr

/-- The phase of a window for the aperture at `count`. -/
def Window.phase (w : Window) (count : Nat) (held : Bool) : WinPhase :=
  { run := !held && decide (w.startAt ≤ count), last := decide (w.n ≤ w.pos + 1), n := w.n }

/-- A channel takes one aperture's value into both windows; `none` is no valid snapshot (R73, R76). -/
def Chan.take (p0 p1 : WinPhase) (v : Option Int) (c : Chan) : Chan :=
  let add (a : Acc) : Acc := match v with
    | some x => { sum := a.sum + x, n := a.n + 1 }
    | none => a
  let c1 := if !p0.run then c else
    let a := add c.a0
    if p0.last then { c with a0 := { sum := 0, n := 0 }, w0 := (runResult a p0.n).1, part0 := (runResult a p0.n).2 } else { c with a0 := a }
  if !p1.run then c1 else
    let a := add c1.a1
    if p1.last then { c1 with a1 := { sum := 0, n := 0 }, w1 := (runResult a p1.n).1, part1 := (runResult a p1.n).2 } else { c1 with a1 := a }

/-- A window moves on by one aperture. -/
def Window.step (p : WinPhase) (w : Window) : Window := if !p.run then w else if p.last then { w with pos := 0 } else { w with pos := w.pos + 1 }

/-! ### Scaling (R66) -/

/-- A cell code in 1/2,048 µV: CODE × 6,000,000 / 262,144 − 500,000 µV. -/
def cellFine (code : Nat) : Int := (code : Int) * 46875 - 1024000000

/-- A top-to-bottom code in µV. -/
def t2bUv (code : Nat) : Int := ((code : Int) - 16384) * 750

/-- A string-voltage code in µV. -/
def strUv (code : Nat) : Int := (code : Int) * 8000

/-- A primary-current code in µA. -/
def priUa (rsh code : Nat) : Int := divNear (((code : Int) - 131072) * 200000000000000) (131072 * (rsh : Int))

/-- A secondary-current code in µA. -/
def secUa (code : Nat) : Int := divNear (((code : Int) - 131072) * 2000000000) 131072

/-- The code, the range flag, the channel fault, and the open-wire, compensation, OV and UV flags of a sample word (R44). -/
def codeOf (w : Nat) : Nat := bitsOf 17 0 w
def rngOf (w : Nat) : Bool := bitOf 18 w
def chfOf (w : Nat) : Bool := bitOf 19 w
def owtOf (w : Nat) : Bool := bitOf 20 w
def cmpOf (w : Nat) : Bool := bitOf 21 w
def ovcOf (w : Nat) : Bool := bitOf 22 w
def uvcOf (w : Nat) : Bool := bitOf 23 w

/-- A value under the reference-check correction (R66, R70): offset and gain in parts per 10^9. -/
def refCorrect (off gain v : Int) : Int := v + divNear (v * gain) 1000000000 + off

/-- B25/85 of the thermistor curves (R67). -/
def curveB (curve : Nat) : Int := if curve = 0 then 3435 else 3950

/-- Temperature in 0.01 °C of a thermistor code: the divider ratio gives the resistance, the curve the temperature (R67). -/
def thermTemp (curve code : Nat) : Int :=
  let x := fxQ (code : Int) (262144 - (code : Int))
  let inv := fxQ 100 29815 + fxLn x / curveB curve
  fxRound (fxDiv fxOne inv * 100) - 27315

/-- Take one thermistor sample: open above ratio 0.995, shorted below 0.005; either raises its event when it appears (R67, R92). -/
def takeTherm (t w : Nat) (b : Block) : Block :=
  let code := codeOf w
  let op := decide (995 * 262144 < 1000 * code)
  let sh := decide (1000 * code < 5 * 262144)
  let old := b.therm t
  let new : Therm := if chfOf w then { old with temp := none } else
    { temp := if op || sh then none else some (thermTemp (b.seg (t / 8)).curve code), isOpen := op, isShort := sh }
  let b1 := b.onSense fun s => { s with therms := modAt s.therms t fun _ => new }
  let b2 := if new.isOpen && !old.isOpen then note .thOpen t [] b1 else b1
  if new.isShort && !old.isShort then note .thShort t [] b2 else b2

/-! ### Storing a snapshot -/

/-- A cell's corrected reading in fine units from its raw reading: R81 with learned resistances, an unlearned wire taken with r = 0. -/
def Block.shutterCorrect (b : Block) (c : Nat) (v : Int) : Int :=
  let r (j : Nat) : Int := if (b.wire j).learned then ((b.wire j).r : Int) else 0
  let w (j : Nat) : Int := b.sense.apWire.getD j 0
  v + divNear ((w (c + 1) * r (c + 1) - w c * r c) * 2048) 1000

/-- Take one cell's sample (R44, R66, R81, R85, R86, R106). -/
def takeCell (p0 p1 : WinPhase) (f : Snapshot) (b : Block) (c : Nat) (x : CellSense) : CellSense :=
  let w := f.cells.getD c 0
  let raw := refCorrect x.corrOff x.corrGain (cellFine (codeOf w))
  let carries := b.sense.apWire.getD c 0 != 0 || b.sense.apWire.getD (c + 1) 0 != 0
  let pairOf := f.pairs.find? fun p => p.1 == c || p.1 == c + 1
  let excl := owtOf w || decide (f.count ≤ x.exclUntil)
  let learnp := decide (f.count ≤ x.exclUntil) && x.learnp
  let v : Option Int := if x.pair then pairOf.map fun p => p.2 * 1024 else if chfOf w then none else
    some (if carries && !owtOf w then b.shutterCorrect c raw else raw)
  let use : Option Int := if excl then none else v
  let x1 := { x with
    chan := { (x.chan.take p0 p1 use) with last := v }
    excl := excl
    learnp := learnp
    corr := carries && !owtOf w && !x.pair
    cmp := cmpOf w
    uvc := uvcOf w
    ovc := ovcOf w
    chf := chfOf w
    rng := rngOf w
    seq := f.seq
    fbClosed := (b.seg (segOf c)).compensated && !b.compensatedCell c
    hist := ((if chfOf w || owtOf w then none else some raw) :: x.hist).take 16 }
  if chfOf w then { x1 with chfAt := match x.chfAt with | some t => some t | none => some f.count } else { x1 with chfAt := none, chfRaised := false }

/-- A channel of the hub: no value under CHF; the window takes what `v` gives. -/
def takeChan (p0 p1 : WinPhase) (v : Option Int) (c : Chan) : Chan := { (c.take p0 p1 v) with last := v }

/-- Raise SENSE_RANGE for the cells whose sample begins to carry RNG (R92). -/
def noteRanges (f : Snapshot) (old : List CellSense) (b : Block) : Block :=
  ((List.range b.nCell).filter fun c => rngOf (f.cells.getD c 0) && !(old.getD c (CellSense.reset c)).rng).foldl (fun b c => note .senseRange c [] b) b

/-- The current cross-check of R71 at a W0 result. -/
def currentCross (b : Block) : Block :=
  match b.sense.pri.w0, b.sense.sec.w0 with
  | some p, some q =>
    if 1900000000 < |p| then b
    else
      let bad := decide (|p| + 300000000 < 100 * |p - q|)
      let n := if bad then b.sense.xchkI + 1 else 0
      let b1 := b.onSense fun s => { s with xchkI := n, xchkIOn := bad && decide (3 ≤ n) }
      if n = 3 then note .currentXchk noArg [] b1 else b1
  | _, _ => b

/-- The sum of the top-to-bottom W0 results of the fitted segments, µV (R88 word 10). -/
def Block.vSumW0 (b : Block) : Option Int :=
  let l := (List.range b.nSeg).map fun n => (b.seg n).t2b.w0
  if l.all Option.isSome then some (l.foldl (fun a x => a + x.getD 0) 0) else none

/-- The string-voltage cross-check of R72 at a W0 result: the divider's own W0 against the sum of the segments. -/
def voltageCross (b : Block) : Block :=
  match b.sense.strV.w0, b.vSumW0 with
  | some v, some u =>
    if b.sense.vsel2 then b
    else
      let bad := decide (2 * |v| + 2000000000 < 1000 * |v - u|)
      let n := if bad then b.sense.xchkV + 1 else 0
      let b1 := b.onSense fun s => { s with xchkV := n, xchkVOn := bad && decide (3 ≤ n) }
      if n = 3 then note .stringVXchk noArg [] b1 else b1
  | _, _ => b

/-- The segment sums of the cells' W0 results (R90 word 4). -/
def segSums (b : Block) : Block := b.onSense fun s => { s with
  segs := s.segs.mapIdx fun n g =>
    let l := (List.range 32).map fun i => (b.cellW0 (32 * n + i))
    { g with sumW0 := if l.all Option.isSome then some (l.foldl (fun a x => a + x.getD 0) 0) else none } }

/-- What a window's end brings besides the means: segment sums and the cross-checks (R71, R72, R73). -/
def w0Ended (b : Block) : Block := voltageCross (currentCross (segSums b))

/-- The selected string voltage of a snapshot, µV, and whether the sum of segments stands in for the divider (R72). -/
def Block.pickVoltage (b : Block) (f : Snapshot) : Option Int × Bool :=
  let bad := chfOf f.strV || rngOf f.strV
  if !bad then (some (strUv (codeOf f.strV)), false)
  else
    let l := (List.range b.nSeg).map fun n => f.t2b.getD n 0
    if l.any chfOf then (none, true) else (some ((l.map fun w => t2bUv (codeOf w)).foldl (· + ·) 0), true)

/-- Store a checked snapshot (R58, R65 to R67, R71 to R73, R81, R88 to R91). -/
def storeSnapshot (f : Snapshot) (b : Block) : Block :=
  let held := b.sense.held
  let p0 := b.sense.win0.phase f.count held
  let p1 := b.sense.win1.phase f.count held
  let priBad := chfOf f.pri || rngOf f.pri
  let secBad := chfOf f.sec || rngOf f.sec
  let pri : Option Int := if chfOf f.pri then none else some (priUa b.sense.rsh (codeOf f.pri))
  let sec : Option Int := if chfOf f.sec then none else some (secUa (codeOf f.sec))
  let cur : Option Int := if !priBad then pri else if !secBad then sec else none
  let sv := b.pickVoltage f
  let pwr : Option Int := match sv.1, cur with
    | some v, some i => some (divNear (v * i) 1000000000)
    | _, _ => none
  let oldCells := b.sense.cells
  let b1 := b.onSense fun s => { s with
    cells := s.cells.mapIdx fun c x => if c < b.nCell then takeCell p0 p1 f b c x else x
    segs := s.segs.mapIdx fun n g => if n < b.nSeg then
        let w := f.t2b.getD n 0
        let st := f.status.getD n 0
        let v : Option Int := if chfOf w then none else some (refCorrect g.t2bOff g.t2bGain (t2bUv (codeOf w)))
        let ov := maskOf ((List.range 32).map fun i => ovcOf (f.cells.getD (32 * n + i) 0))
        let uv := maskOf ((List.range 32).map fun i => uvcOf (f.cells.getD (32 * n + i) 0))
        { g with
          t2b := takeChan p0 p1 v g.t2b
          present := bitOf 0 st
          twarn := bitOf 6 st
          ovLive := ov
          uvLive := uv
          ovLat := g.ovLat.lor ov
          uvLat := g.uvLat.lor uv
          tripOpen := false
          pairs := g.pairs.map fun p => (p.1, (f.pairs.find? fun q => q.1 == p.1).map (·.2)) }
      else g
    strV := takeChan p0 p1 sv.1 s.strV
    cur := takeChan p0 p1 cur s.cur
    pri := takeChan p0 p1 pri s.pri
    sec := takeChan p0 p1 sec s.sec
    pwr := takeChan p0 p1 pwr s.pwr
    win0 := s.win0.step p0
    win1 := s.win1.step p1
    isel2 := priBad
    vsel2 := sv.2
    iPriOk := !priBad
    iSecOk := !secBad
    vDivOk := !(chfOf f.strV || rngOf f.strV)
    bothLostAt := if priBad && secBad then (match s.bothLostAt with | some t => some t | none => some f.count) else none
    bothLost := s.bothLost && priBad && secBad
    apCount := f.count % 4294967296
    seq := f.seq
    firstSnap := true
    refDueAt := if s.firstSnap then s.refDueAt else f.count
    isoCode := f.iso }
  let b2 := (List.range 4).foldl (fun b i => takeTherm (4 * (f.seq % 32) + i) (f.therm.getD i 0) b) b1
  let b3 := noteRanges f oldCells b2
  let b4a := if priBad != b.sense.isel2 then note .currentChLost noArg [b2n priBad] b3 else b3
  let b4b := if priBad && !b.sense.isel2 && !secBad then takeover (partCode 4 0) (partCode 5 0) b4a else b4a
  let b4 := if sv.2 && !b.sense.vsel2 then takeover (partCode 6 0) (partCode 3 0) b4b else b4b
  let b5 := if p0.run && p0.last then w0Ended b4 else b4
  let b6 := b5.onLeash fun l => { l with inFlight := none, lastStored := b.sys.now }
  b6.touch senseTiles

/-- A snapshot recorded as missing: each window counts one snapshot fewer (R59, R76). -/
def missSnapshot (b : Block) : Block :=
  let c := b.sense.apCount + rateTicks b.sense.rate
  let p0 := b.sense.win0.phase c b.sense.held
  let p1 := b.sense.win1.phase c b.sense.held
  let b1 := b.onSense fun s => { (mapChans (Chan.take p0 p1 none) s) with win0 := s.win0.step p0, win1 := s.win1.step p1 }
  let b2 := b1.onLeash fun l => { l with inFlight := none, missed := satAdd 255 l.missed 1 }
  let b3 := if p0.run && p0.last then w0Ended b2 else b2
  (note .leashSnapMissed noArg [] b3).touch [8]

/-! ### Aperture and shutter -/

/-- APERTURE (R38, R62, R77, R81): every sample-and-hold holds; shutter modes that name this aperture take effect; the wire currents are those of now. -/
def doAperture (count : Nat) (b : Block) : Block :=
  if count % rateTicks b.sense.rate ≠ 0 ∨ count < b.sys.now then b
  else
    let b0 := b.at count
    let b1 := b0.onSense fun s => { s with
      segs := s.segs.map fun g => match g.pendingMode with
        | some (m, t) => if t ≤ count then { g with compensated := m, pendingMode := none } else g
        | none => g }
    let b2 := b1.onSense fun s => { s with apWire := b1.wireCurrents, apRun := (List.range b.nCell).map fun c => b1.runsThrough c }
    let b3 := b2.onBal fun s => { s with segs := s.segs.mapIdx fun n g => { g with railI := b2.railOf n } }
    (impLatch count (b3.onRing fun r => { r with segs := r.segs.map fun g => { g with converted := false, framePos := none, arrived := false, stale := false } })).touch [0x41]

def execAperture (count : Nat) (s : State) := effect (doAperture count) s

/-- SHUTTER_CLOSE (R77, R79): 2 µs before the aperture at `count`, the switches under Closed timing and the bridges are commanded open. -/
def doShutterClose (count : Nat) (b : Block) : Block :=
  (b.at (count - 200)).onSense fun s => { s with segs := s.segs.map fun g => { g with shutterOpen := true } }

def execShutterClose (count : Nat) (s : State) := effect (doShutterClose count) s

/-- SHUTTER_OPEN (R79, R133): 1 µs after the aperture at `count`, the switches may close and the pending changes of current are applied. -/
def doShutterOpen (count : Nat) (b : Block) : Block :=
  let b1 := (b.at (count + 100)).onSense fun s => { s with segs := s.segs.map fun g => { g with shutterOpen := false } }
  balShutterOpen b1

def execShutterOpen (count : Nat) (s : State) := effect (doShutterOpen count) s

/-- CONVERSION_COMPLETE (R28, R63): 4.0 µs after the aperture the segment sends its frame. -/
def doConversionComplete (n : Nat) (b : Block) : Block :=
  if b.nSeg ≤ n then b else b.onRing fun r => { r with segs := modAt r.segs n fun g => { g with converted := true, framePos := none } }

def execConversionComplete (seg : Fin 16) (s : State) := effect (doConversionComplete seg) s

/-! ### Rate changes -/

/-- Both windows restart (R65, R76). -/
def restartWindows (startAt tc : Nat) (b : Block) : Block :=
  b.onSense fun s => { (mapChans (fun c => c.clear0.clear1) s) with
    win0 := s.win0.restart (rateTicks s.rate) tc startAt
    win1 := s.win1.restart (rateTicks s.rate) tc startAt }

/-- WINDOW_LOCK_LOST for a carrier-locked window without a valid N (R74). -/
def noteLock (k : Nat) (w : Window) (b : Block) : Block := if w.locked && !w.lock then note .windowLockLost k [] b else b

/-- The converter's configured carrier period in ticks, used for locking (R74, R89, R216). -/
def Block.carrierTicks (b : Block) : Nat := b.cnv.set.tc

/-- RATE_CHANGE_EFFECT (R38, R64, R65). -/
def doRateChangeEffect (b : Block) : Block :=
  match b.sense.pendingRate with
  | none => b
  | some p =>
    let b1 := (b.at p.start).onSense fun s => { s with rate := p.rate, pendingRate := none, held := decide (p.rate = 4) }
    let b2 := restartWindows p.start b1.carrierTicks b1
    let b3 := if p.rate = 4 then b2 else noteLock 1 b2.sense.win1 (noteLock 0 b2.sense.win0 b2)
    (impStop (note .senseRateChanged noArg [p.rate] b3)).touch [0x40, 0x41]

def execRateChangeEffect (s : State) := effect doRateChangeEffect s

/-- SCHEDULE_FRAME (R38, R46, R86, R102): the schedules that Lead sent reach the hub and the segments. -/
def doScheduleFrame (rate start : Nat) (modes : List (Nat × Bool × Nat)) (owt : Option Nat) (b : Block) : Block :=
  b.onSense fun s => { s with
    pendingRate := if rate ≤ 4 && (rate != s.rate || s.pendingRate.isSome) then some { rate := rate, start := multipleFrom (rateTicks rate) start } else s.pendingRate
    segs := s.segs.mapIdx fun n g => match modes.find? fun m => m.1 == n with
      | some m => { g with pendingMode := some m.2 }
      | none => g
    owtNext := match owt with
      | some t => some t
      | none => s.owtNext }

def execScheduleFrame (rate start : Nat) (modes : List (Nat × Bool × Nat)) (owt : Option Nat) (s : State) := effect (doScheduleFrame rate start modes owt) s

/-! ### Reference checks (R70) -/

/-- Segments with a reference check running. -/
def Block.refBusyMask (b : Block) : Nat := maskOf ((List.range 16).map fun n => (b.seg n).refBusy)

/-- REF_CHECK_DUE: every 60 s, after the first snapshot of BOOT, or when a die has moved by more than 5 K: the check starts in the segments it is due in. -/
def doRefCheckDue (b : Block) : Block :=
  if !b.sense.firstSnap then b
  else
    let moved (g : SegSense) : Bool := match g.dieT, g.refT with
      | some t, some u => decide (500 < |t - u|)
      | _, _ => false
    let any := (List.range b.nSeg).any fun n => moved (b.seg n) && !(b.seg n).refBusy
    let b0 := if any then b else b.at b.sense.refDueAt
    b0.onSense fun s => { s with
      segs := s.segs.mapIdx fun n g => if n < b.nSeg ∧ (moved g ∨ !any) then { g with refBusy := true } else g
      refDueAt := if any then s.refDueAt else b0.sys.now + 60 * secT }

def execRefCheckDue (s : State) := effect doRefCheckDue s

/-- REF_CHECK_DONE: the two references' disagreement with their manufacture ratio in ppm, the larger deviation from 2.500 V in ppm, and the corrections
derived: offset (1/2,048 µV for the 32 cells, µV for the top-to-bottom channel, last) and gain in parts per 10^9. -/
def doRefCheckDone (n : Nat) (dev : Int) (worst : Nat) (corr : List (Int × Int)) (b : Block) : Block :=
  if !(b.seg n).refBusy then b
  else
    let dis := decide (150 < |dev|)
    let fail := decide (5000 < worst)
    let b1 := onSeg n (fun g => { g with
      refBusy := false, refDis := dis, refFail := fail, refDev := dev, refAt := some b.sys.now, refT := g.dieT
      refOk := if fail then false else if dis then g.refOk else true
      t2bOff := if dis then g.t2bOff else (corr.getD 32 (0, 0)).1
      t2bGain := if dis then g.t2bGain else (corr.getD 32 (0, 0)).2 }) b
    let b2 := if dis then b1 else b1.onSense fun s => { s with
      cells := s.cells.mapIdx fun c x => if segOf c = n then { x with corrOff := (corr.getD (c % 32) (0, 0)).1, corrGain := (corr.getD (c % 32) (0, 0)).2 } else x }
    let b3 := if dis then note .refDisagree n [dw dev] b2 else b2
    let b4 := if fail then note .refFail n [] b3 else b3
    let b5 := match b.sense.refJob with
      | none => b4
      | some j =>
        if !j.named.testBit n then b4
        else
          let j1 := { j with done := j.done.lor (2 ^ n), passed := if dis || fail then j.passed else j.passed.lor (2 ^ n), dis := if dis then j.dis.lor (2 ^ n) else j.dis, failed := j.failed || fail }
          if j1.done = j1.named then
            complete j.src (if j1.failed then .fault else .ok) (leBytes 2 j1.passed ++ leBytes 2 j1.dis) (b4.onSense fun s => { s with refJob := none })
          else b4.onSense fun s => { s with refJob := some j1 }
    b5.touch [0x80 + 8 * n]

def execRefCheckDone (seg : Fin 16) (dev : Int) (worst : Nat) (corr : List (Int × Int)) (s : State) := effect (doRefCheckDone seg dev worst corr) s

/-- SENSE_CHANNEL_FAULT (R92): a channel has carried CHF for 100 ms. -/
def doSenseChannelFault (c : Nat) (b : Block) : Block :=
  match (b.cell c).chfAt with
  | some t => if (b.cell c).chfRaised then b else (raise .senseChannelFault c [] (onCell c (fun x => { x with chfRaised := true }) (b.at (t + 100 * msT)))).touch [0x100 + c]
  | none => b

def execSenseChannelFault (cell : Fin 512) (s : State) := effect (doSenseChannelFault cell) s

/-- CURRENT_BOTH_LOST (R92): both current channels have been lost for 10 ms; the converter stops. -/
def doCurrentBothLost (b : Block) : Block :=
  match b.sense.bothLostAt with
  | some t => if b.sense.bothLost then b else raise .currentBothLost noArg [] ((b.at (t + 10 * msT)).onSense fun s => { s with bothLost := true })
  | none => b

def execCurrentBothLost (s : State) := effect doCurrentBothLost s

/-! ### Wire learning (R83, R84) -/

/-- The mean of at least 12 valid readings, fine units. -/
def mean12 (l : List (Option Int)) : Option Int :=
  let v := l.filterMap id
  if v.length < 12 then none else some (divNear (v.foldl (· + ·) 0) v.length)

/-- Change of a cell's mean raw reading across the step, fine units. -/
def Block.stepDv (b : Block) (c : Nat) : Option Int :=
  match mean12 (b.cell c).hist, mean12 (b.cell c).before with
  | some a, some p => some (a - p)
  | _, _ => none

/-- A resistance in µΩ from a change in fine units and a current in mA. -/
def ohmOf (dv i : Int) : Int := divNear (dv * 1000) (2048 * i)

/-- The two results a wire may have, averaged (R83). -/
def joinR : Option Int → Option Int → Option Int
  | some x, some y => some (divNear (x + y) 2)
  | some x, none => some x
  | none, y => y

/-- WIRE_LEARN (R83, R84): 16 snapshots after a step of 0.5 A or more on a cell. -/
def doWireLearn (k : Nat) (b : Block) : Block :=
  let x := b.cell k
  let d := x.stepDelta
  if |d| < 500 ∨ b.nCell ≤ k then b
  else
    let stepped (c : Nat) : Bool := (b.cell c).stepAt == x.stepAt && (b.cell c).stepDelta != 0
    let still (c : Int) : Bool := if 0 ≤ c ∧ c < b.nCell then !stepped c.toNat else true
    let dvOf (c : Int) : Option Int := if 0 ≤ c ∧ c < b.nCell then b.stepDv c.toNat else none
    let rs : Int := fxRound ((b.cellFlt k).rs * 1000000)
    let kk : Int := k
    let known (j : Nat) : Option Int := if (b.wire j).learned then some ((b.wire j).r : Int) else none
    let low := if k = 0 then none else if still (kk - 1) && still (kk - 2) then (dvOf (kk - 1)).map fun v => -(ohmOf v (-d)) else none
    let high := if k + 1 = b.nCell then none else if still (kk + 1) && still (kk + 2) then (dvOf (kk + 1)).map fun v => ohmOf v d else none
    let own := b.stepDv k
    let low' := if k = 0 then (match own, (match high with | some r => some r | none => known 1) with
      | some v, some r => some (-(ohmOf v d) - r - rs)
      | _, _ => none) else low
    let high' := if k + 1 = b.nCell then (match own, (match low with | some r => some r | none => known k) with
      | some v, some r => some (-(ohmOf v d) - r - rs)
      | _, _ => none) else high
    let r1 := match low' with | some r => some r | none => known k
    let r2 := match high' with | some r => some r | none => known (k + 1)
    let pred := match r1, r2 with
      | some p, some q => some (-(d * (p + q + rs)))
      | _, _ => none
    let agrees := match own, pred with
      | some v, some p => decide (|v * 1000 - p * 2048| ≤ 2000 * 1000 * 2048 + |p| * 2048 * 2 / 100)
      | _, _ => true
    if low'.isNone && high'.isNone then b
    else if !agrees then note .wireLearnInconsist k [] b
    else
      let put (j : Nat) (r : Option Int) (b : Block) : Block := match r with
        | none => b
        | some v =>
          let v := v.toNat
          let lim := decide (200000 < v)
          let b1 := onWire j (fun w => { w with r := min v 4294967295, learned := true, overLim := lim }) b
          if lim then
            let b2 := note .wireOverLimit j [v] b1
            b2.onSense fun s => { s with cells := s.cells.mapIdx fun c y => if c = j ∨ c + 1 = j then { y with exclUntil := max y.exclUntil s.apCount } else y }
          else b1
      let b1 := put (k + 1) high' (put k low' b)
      let n := segOf k
      let b2 := onCell k (fun y => { y with stepUntil := 0, learnp := false, stepDelta := 0 }) (onSeg n (fun g => { g with learns := satAdd 65535 g.learns 1 }) b1)
      let b3 := onSegBal n (fun g => { g with shuttles := g.shuttles.map fun h => if h.state = .learning ∧ h.cell = k then { h with state := .running, runsThrough := b2.compensatedCell k } else h }) b2
      b3.touch [0x80 + 8 * n, 0x80 + 8 * n + 2, 0x80 + 8 * n + 3, 0x80 + 8 * n + 4]

def execWireLearn (cell : Fin 512) (s : State) := effect (doWireLearn cell) s

/-! ### Commands (R87) -/

/-- A rate change is accepted in PARK, RUN, FAULT and SAFE (R64). -/
def ruleSenseSetRate (src : Src) (code : Nat) (b : Block) : HostRule :=
  { opcode := 0x0301, owner := true
    stateOk := decide (b.sys.mstate = .park ∨ b.sys.mstate = .run ∨ b.sys.mstate = .fault ∨ b.sys.mstate = .safe)
    param := need (code ≤ 3)
    act := fun b =>
      let b1 := scheduleRate code (b.onSense fun s => { s with rateCfg := code })
      (complete src .ok (leBytes 4 (multipleFrom (rateTicks code) (b.sys.now + msT))) (settingChanged b1)).touch [0x41] }

def execSenseSetRate (src : Src) (code : Nat) (s : State) := effect (host src (ruleSenseSetRate src code)) s

def ruleSenseSetWindow (src : Src) (window mode nReq : Nat) (_b : Block) : HostRule :=
  { opcode := 0x0302, owner := true, stateOk := true, param := need (decide (window ≤ 1 ∧ mode ≤ 1 ∧ 1 ≤ nReq ∧ nReq ≤ 4096))
    act := fun b =>
      let set (w : Window) : Window := ({ w with locked := decide (mode = 1), nReq := nReq } : Window).restart (rateTicks b.sense.rate) b.carrierTicks (b.sys.now + 1)
      let b1 := b.onSense fun s => if window = 0 then { (mapChans Chan.clear0 s) with win0 := set s.win0 } else { (mapChans Chan.clear1 s) with win1 := set s.win1 }
      let w := if window = 0 then b1.sense.win0 else b1.sense.win1
      let b2 := noteLock window w b1
      (complete src .ok (leBytes 2 w.n ++ leBytes 4 w.m ++ leBytes 1 (b2n w.lock)) (settingChanged b2)).touch [0x40, 0x41] }

def execSenseSetWindow (src : Src) (window mode nReq : Nat) (s : State) := effect (host src (ruleSenseSetWindow src window mode nReq)) s

/-- The effective aperture is the first at least 100 µs after acceptance (R86). -/
def ruleSenseSetShutter (src : Src) (mask mode : Nat) (b : Block) : HostRule :=
  { opcode := 0x0303, owner := true, stateOk := decide (b.sys.mstate ≠ .boot), param := need (b.maskFitted mask && decide (mode ≤ 1))
    act := fun b =>
      let t := multipleFrom (rateTicks b.sense.rate) (b.sys.now + 10000)
      let b1 := b.onSense fun s => { s with segs := s.segs.mapIdx fun n g => if mask.testBit n then { g with pendingMode := some (decide (mode = 1), t) } else g }
      (complete src .ok (leBytes 4 t) (settingChanged b1)).touch [0x41] }

def execSenseSetShutter (src : Src) (mask mode : Nat) (s : State) := effect (host src (ruleSenseSetShutter src mask mode)) s

def ruleSenseRefCheck (src : Src) (mask : Nat) (b : Block) : HostRule :=
  { opcode := 0x0304, owner := true, stateOk := true
    param := andThen (need (b.maskFitted mask)) (if b.refBusyMask.land mask ≠ 0 then some .busy else none)
    act := fun b =>
      if mask = 0 then complete src .ok (leBytes 2 0 ++ leBytes 2 0) b
      else b.onSense fun s => { s with
        segs := s.segs.mapIdx fun n g => if mask.testBit n then { g with refBusy := true } else g
        refJob := some { src := src, named := mask, done := 0, passed := 0, dis := 0, failed := false } } }

def execSenseRefCheck (src : Src) (mask : Nat) (s : State) := effect (host src (ruleSenseRefCheck src mask)) s

/-- Every wire of the named segments is unlearned (R85). -/
def ruleSenseRelearn (src : Src) (mask : Nat) (b : Block) : HostRule :=
  { opcode := 0x0305, owner := true, stateOk := true, param := need (b.maskFitted mask)
    act := fun b =>
      let named (j : Nat) : Bool := mask.testBit (j / 32) || (decide (j % 32 = 0 ∧ 0 < j) && mask.testBit (j / 32 - 1))
      (complete src .ok [] (b.onSense fun s => { s with wires := s.wires.mapIdx fun j w => if named j then { w with learned := false, overLim := false } else w })).touch senseTiles }

def execSenseRelearn (src : Src) (mask : Nat) (s : State) := effect (host src (ruleSenseRelearn src mask)) s

def ruleSenseSetThMap (src : Src) (cell therm : Nat) (b : Block) : HostRule :=
  { opcode := 0x0306, owner := true, stateOk := true, param := need (decide (cell < b.nCell ∧ therm < b.nTherm))
    act := fun b => (complete src .ok [] (settingChanged (onCell cell (fun x => { x with thIdx := therm }) b))).touch [0x100 + cell] }

def execSenseSetThMap (src : Src) (cell therm : Nat) (s : State) := effect (host src (ruleSenseSetThMap src cell therm)) s

def ruleSenseSetThCurve (src : Src) (mask curve : Nat) (b : Block) : HostRule :=
  { opcode := 0x0307, owner := true, stateOk := true, param := need (b.maskFitted mask && decide (curve ≤ 1))
    act := fun b => (complete src .ok [] (settingChanged (b.onSense fun s => { s with
      segs := s.segs.mapIdx fun n g => if mask.testBit n then { g with curve := curve } else g }))).touch ((List.range 16).map fun n => 0x80 + 8 * n + 1) }

def execSenseSetThCurve (src : Src) (mask curve : Nat) (s : State) := effect (host src (ruleSenseSetThCurve src mask curve)) s

def ruleSenseSetShunt (src : Src) (rsh : Nat) (b : Block) : HostRule :=
  { opcode := 0x0308, owner := true, stateOk := decide (b.sys.mstate ≠ .run), param := need (decide (45000 ≤ rsh ∧ rsh ≤ 55000))
    act := fun b => (complete src .ok [] (settingChanged (b.onSense fun s => { s with rsh := rsh }))).touch [0x41] }

def execSenseSetShunt (src : Src) (rsh : Nat) (s : State) := effect (host src (ruleSenseSetShunt src rsh)) s

def ruleSenseGetConfig (src : Src) (_b : Block) : HostRule :=
  { opcode := 0x0309, owner := false, stateOk := true, param := none, act := replyTile src 0x41 8 }

def execSenseGetConfig (src : Src) (s : State) := effect (host src (ruleSenseGetConfig src)) s

end Sys2Proof.Machine
end

