-- ==== Sys2Proof/Machine/Integrity.lean ====
section
/-! DEFINITION. Comparators, bark line, open-wire test, leash-loss settings (R93 to R108, R111, R114 to R118, R565). -/

namespace Sys2Proof.Machine

/-! ### Downstream frames (R46, R47) -/

/-- A leash lane is in service. -/
def Block.anyLane (b : Block) : Bool := b.leash.lanes.any fun l => l.up

/-- Send a downstream frame with the next tag; nothing is sent while no lane is in service (R46). -/
def sendDown (kind : DownKind) (carries : Option Src) (b : Block) : Block :=
  if !b.anyLane then b
  else b.onLeash fun l => { l with
    nextTag := (l.nextTag + 1) % 256
    waiting := l.waiting ++ [{ tag := l.nextTag, kind := kind, sent := 1, carries := carries }] }

/-! ### Comparators (R93 to R96) -/

/-- Identifier of a comparator within its segment: the local cell, or 32 + i for the pair comparator of local wire i (R103, R106). -/
def compId (c : Nat) (pair : Bool) : Nat := if pair then 32 + c % 32 else c % 32

/-- Wire `j` has no pair channel and no pair comparator (R565). -/
def pairless (j : Nat) : Bool := j % 32 == 0

/-- The cells that adjoin wire `j`. -/
def Block.adjoining (b : Block) (j : Nat) : List Nat := (if 0 < j then [j - 1] else []) ++ (if j < b.nCell then [j] else [])

/-- The segment whose running slot blanks the comparators of cell `c`, or holds back their outputs when `hold` (R103, R565). -/
def Block.slotOver (b : Block) (hold : Bool) (c : Nat) : Option Nat :=
  (List.range b.nSeg).find? fun n => match (b.seg n).owt with
    | some s => decide (2 ≤ s.phase) && (pairless s.wire == hold) && (b.adjoining s.wire).contains c
    | none => false

/-- The pair comparator across the two cells of wire `c` is engaged: in pair mode, or during the wire's slot (R103, R106). -/
def Block.pairEngaged (b : Block) (c : Nat) : Bool :=
  !pairless c && ((b.seg (segOf c)).pairs.any (fun p => p.1 == c) || (match (b.seg (segOf c)).owt with
    | some s => s.wire == c && decide (2 ≤ s.phase)
    | none => false))

/-- Hold a comparator output in a slot until its blank ends. -/
def holdIn (n c : Nat) (ov : Bool) (b : Block) : Block := onSeg n (fun g => { g with
  owt := g.owt.map fun s => if s.held.contains (c, ov) then s else { s with held := s.held ++ [(c, ov)] } }) b

/-- The comparator's output asserts. -/
def crossNow (c : Nat) (ov pair : Bool) (b : Block) : Block := onSeg (segOf c) (fun g =>
  if g.crossing.any fun x => x.1 == compId c pair && x.2.1 == ov then g else { g with crossing := g.crossing ++ [(compId c pair, ov, b.sys.now)] }) b

/-- COMPARATOR_CROSSING (R95): the output asserts, unless the comparator is blanked in a test slot or replaced by the pair comparator. -/
def doComparatorCrossing (c : Nat) (ov pair : Bool) (b : Block) : Block :=
  if b.nCell ≤ c then b
  else if pair then (if b.pairEngaged c then crossNow c ov true b else b)
  else if (b.cell c).pair then b
  else match b.slotOver false c with
    | some n => holdIn n c ov b
    | none => crossNow c ov false b

def execComparatorCrossing (cell : Fin 512) (ov pair : Bool) (s : State) := effect (doComparatorCrossing cell ov pair) s

/-- The cells, as a local mask, that a comparator watches. -/
def compMask (id : Nat) : Nat := if id < 32 then 2 ^ id else 2 ^ (id - 32) + 2 ^ (id - 33)

/-- Integrity tiles (R116). -/
def integTiles : List Nat := (List.range 16).map fun n => 0x80 + 8 * n + 5

/-- A deglitched output is passed on: the masks latch and the segment sends a rung trip both ways (R95, R96). -/
def passTrip (n id : Nat) (ov : Bool) (b : Block) : Block :=
  let b1 := onSeg n (fun g => { g with
    tripped := if g.tripped.any fun x => x.1 == id && x.2.1 == ov then g.tripped else g.tripped ++ [(id, ov, false)]
    ovLat := if ov then g.ovLat.lor (compMask id) else g.ovLat
    uvLat := if ov then g.uvLat else g.uvLat.lor (compMask id) }) b
  (b1.onRing fun r => { r with trips := insertIdx n r.trips }).touch integTiles

/-- COMPARATOR_DEGLITCHED (R95): 1.0 µs after the output; held back during a slot of R565. -/
def doComparatorDeglitched (c : Nat) (ov pair : Bool) (b : Block) : Block :=
  let n := segOf c
  match (b.seg n).crossing.find? fun x => x.1 == compId c pair && x.2.1 == ov with
  | none => b
  | some x =>
    let b1 := b.at (x.2.2 + usT)
    match (if pair then none else b.slotOver true c) with
    | some m => holdIn m c ov b1
    | none => passTrip n (compId c pair) ov b1

def execComparatorDeglitched (cell : Fin 512) (ov pair : Bool) (s : State) := effect (doComparatorDeglitched cell ov pair) s

/-- No comparator of the segment is tripped any more: its trips stop and the cause clears (R39, R96). -/
def dropTrips (n : Nat) (b : Block) : Block :=
  if (b.seg n).tripped != [] then b
  else
    let b1 := b.onRing fun r => { r with trips := r.trips.filter (· != n) }
    let none_ := (List.range 16).all fun m => (b1.seg m).tripped == []
    let b2 := b1.onLeash fun l => { l with tripsUp := l.tripsUp.filter fun t => t != n && !(none_ && t == 0x10) }
    let b3 := clearCause 3 n b2
    if none_ then clearCause 3 0x10 b3 else b3

/-- COMPARATOR_RELEASE (R94, R96): the voltage has returned across the threshold and its hysteresis. -/
def doComparatorRelease (c : Nat) (ov pair : Bool) (b : Block) : Block :=
  let n := segOf c
  let id := compId c pair
  let b1 := onSeg n (fun g => { g with
    crossing := g.crossing.filter fun x => !(x.1 == id && x.2.1 == ov)
    tripped := g.tripped.filter fun x => !(x.1 == id && x.2.1 == ov) }) b
  let b2 := if pair then b1 else b1.onSense fun s => { s with
    segs := s.segs.map fun g => { g with owt := g.owt.map fun o => { o with held := o.held.filter fun h => h != (c, ov) } } }
  dropTrips n b2

def execComparatorRelease (cell : Fin 512) (ov pair : Bool) (s : State) := effect (doComparatorRelease cell ov pair) s

/-- A segment reaches the hub one way or the other round the ring (R27, R110). -/
def Block.reaches (b : Block) (n : Nat) : Bool :=
  let up (r : Nat) : Bool := b.ring.rungs.getD r false
  ((List.range (n + 1)).all up) || ((List.range (b.nSeg - n)).all fun i => up (n + 1 + i))

/-- RUNG_TRIP (R41, R42, R95): a segment forwards the trip; the hub sends it upstream under the segment's source byte, or 0x10 where the identity was lost. -/
def doRungTrip (n : Nat) (atHub lost : Bool) (b : Block) : Block :=
  if !b.ring.trips.contains n || !atHub || !b.reaches n then b
  else b.onLeash fun l => { l with tripsUp := insertIdx (if lost then 0x10 else n) l.tripsUp }

def execRungTrip (seg : Fin 16) (atHub lost : Bool) (s : State) := effect (doRungTrip seg atHub lost) s

/-- COMP_OV and COMP_UV for the comparators of a segment not yet named (R118). -/
def nameTrips (n : Nat) (b : Block) : Block :=
  let new := (b.seg n).tripped.filter fun x => !x.2.2
  let b1 := new.foldl (fun b x => note (if x.2.1 then .compOv else .compUv) (32 * n + (if x.1 < 32 then x.1 else x.1 - 32)) [] b) b
  onSeg n (fun g => { g with tripped := g.tripped.map fun x => (x.1, x.2.1, true) }) b1

/-- LEASH_TRIP (R40, R41, R86, R96, R121): upstream the Latch takes a comparator fault as a demand for SSI; downstream every shuttle and bleed switch opens; a
reserved source is a code violation and does nothing. -/
def doLeashTrip (down : Bool) (source : Nat) (b : Block) : Block :=
  if !b.anyLane then b
  else if down then (if source = 0x80 then balTrip b else b)
  else if 0x10 < source then b
  else
    let b1 := if source < 16 then nameTrips source b else (List.range 16).foldl (fun b n => nameTrips n b) b
    demandSSI 3 source b1

def execLeashTrip (down : Bool) (source : Nat) (s : State) := effect (doLeashTrip down source) s

/-- TRIP_REPEAT (R39): every 1 µs while the cause is present; the trip goes out again and nothing else changes. -/
def doTripRepeat (down : Bool) (b : Block) : Block :=
  if b.anyLane && (if down then b.leash.tripDown else b.leash.tripsUp != []) then b.at (b.sys.now + usT) else b

def execTripRepeat (down : Bool) (s : State) := effect (doTripRepeat down) s

/-! ### The bark line (R97 to R101) -/

/-- FLT_WAKE with the condition's place in the table of R170 and the charge of the HIBERNATE, mAs. -/
def noteWake (cond : Nat) (b : Block) : Block := if b.sys.mstate = .hibernate then note .fltWake noArg [cond, dw (b.flt.qHib / 1000)] b else b

/-- EXTERNAL_BARK (R100, R170): `earlier` says that the assertion began before this module's own drive. -/
def doExternalBark (earlier : Bool) (b : Block) : Block :=
  if (b.bark.drive && !earlier) || b.latch.resetting.isSome then b
  else if b.latch.state = .selftest then b.onBark fun k => { k with line := false, lowAt := some b.sys.now }
  else
    let b1 := (b.onBark fun k => { k with line := false, lowAt := some b.sys.now, falls := satAdd 65535 k.falls 1, extLat := true }).touch [8]
    if b.latch.state = .test ∨ b.latch.state = .lockout then b1
    else demandSPS 4 0 (note .barkExt noArg [] (noteWake 3 b1))

def execExternalBark (earlier : Bool) (s : State) := effect (doExternalBark earlier) s

/-! ### Open-wire test (R102 to R108, R565) -/

/-- Segment and place in the cycle of the test of wire `j`: the top wire is tested by the top segment at i = 32 (R102). -/
def Block.testSeg (b : Block) (j : Nat) : Nat := if j = b.nCell then b.nSeg - 1 else j / 32
def Block.testPlace (b : Block) (j : Nat) : Nat := j - 32 * b.testSeg j

/-- OWT_CYCLE_START (R102): every 100 ms, at the first aperture at or after the count Lead sent. -/
def doOwtCycleStart (b : Block) : Block :=
  let due := match b.sense.owtNext with
    | some t => max t b.sys.now
    | none => b.nextMultiple (100 * msT)
  let t := multipleFrom (rateTicks b.sense.rate) due
  (b.at t).onSense fun s => { s with
    owtCycle := some t
    owtNext := none
    clearOpen := s.clearOpen.map fun x => (x.1, x.2.1, min x.2.2.1 3, x.2.2.2) }

def execOwtCycleStart (s : State) := effect doOwtCycleStart s

/-- One wire per aperture, in HIBERNATE and in Sleep (R102, R111). -/
def Block.slowTest (b : Block) : Bool := decide (b.sys.mstate = .hibernate) || decide (b.leash.stack = .sleep)

/-- OWT_SLOT_BEGIN (R103): 14 µs before the test aperture every switch of the segment opens. -/
def doOwtSlotBegin (n j : Nat) (b : Block) : Block :=
  if b.nSeg ≤ n ∨ b.nCell < j ∨ b.testSeg j ≠ n ∨ (b.seg n).owt.isSome then b
  else
    let b1 := match b.sense.owtCycle with
      | some t => if b.slowTest then b else b.at (t + 2 * b.testPlace j * rateTicks b.sense.rate - 1400)
      | none => b
    onSeg n (fun g => { g with slotOpen := true, owt := some { wire := j, phase := 1, blanked := !pairless j, held := [], result := none } }) b1

def execOwtSlotBegin (seg : Fin 16) (wire : Nat) (s : State) := effect (doOwtSlotBegin seg wire) s

/-- A slot moves on from one phase to the next (R103). -/
def owtPhase (n want next : Nat) (f : SegSense → SegSense) (ticks : Nat) (b : Block) : Block :=
  match (b.seg n).owt with
  | none => b
  | some s => if s.phase != want then b else onSeg n (fun g => f { g with owt := some { s with phase := next } }) (b.at (b.sys.now + ticks))

/-- OWT_TEST_CURRENT_ON (R103): 2 µs into the slot; the two cells' comparators are blanked, or held back under R565. -/
def doOwtTestCurrentOn (n : Nat) (b : Block) : Block := owtPhase n 1 2 id 200 b
def execOwtTestCurrentOn (seg : Fin 16) (s : State) := effect (doOwtTestCurrentOn seg) s

/-- OWT_TEST_CURRENT_OFF (R79, R103): 1 µs after the aperture, and the switches may close. -/
def doOwtTestCurrentOff (n : Nat) (b : Block) : Block := owtPhase n 2 3 (fun g => { g with slotOpen := false }) 1300 b
def execOwtTestCurrentOff (seg : Fin 16) (s : State) := effect (doOwtTestCurrentOff seg) s

/-- The raw reading of a cell in the preceding aperture, µV (R104). -/
def Block.prevUv (b : Block) (c : Nat) : Option Int := ((b.cell c).hist.headD none).map fun v => divNear v 2048

/-- The test cell and the other cell of wire `j` (R103, R104). -/
def Block.testCell (b : Block) (j : Nat) : Nat := if j = b.nCell then j - 1 else if j % 32 = 0 then j else j - 1
def Block.otherCell (b : Block) (j : Nat) : Option Nat := if j = 0 ∨ j = b.nCell then none else if j % 32 = 0 then some (j - 1) else some j

/-- The result of R104, first row that applies: 0 intact, 1 resistive, 2 open pattern, 3 disturbed; with the test cell's change in µV. A cell without a
reading in the preceding aperture has no change to judge by, and the result is disturbed (log entry 20). -/
def Block.classify (b : Block) (j : Nat) (rd : OwtReading) : Nat × Int :=
  match b.prevUv (b.testCell j) with
  | none => (3, 0)
  | some p =>
    let dT := rd.testNow - p
    let dO : Option (Option Int) := (b.otherCell j).map fun c => match b.prevUv c, rd.otherNow with
      | some q, some v => some (v - q)
      | _, _ => none
    match dO with
    | some none => (3, dT)
    | some (some d) =>
      if |dT| < 2000 ∧ |d| < 2000 then (0, dT)
      else if |dT| ≤ 1000000 ∧ |d| ≤ 1000000 then (1, dT)
      else if (dT < -1000000 ∨ rd.testNow < 100000) ∧ (rd.otherRng = true ∨ |d + dT| ≤ 4000) then (2, dT)
      else (3, dT)
    | none =>
      if |dT| < 2000 then (0, dT) else if |dT| ≤ 1000000 then (1, dT) else if dT < -1000000 ∨ rd.testNow < 100000 then (2, dT) else (3, dT)

/-- Series resistance of a list of cells, µΩ. -/
def Block.rsOf (b : Block) (cs : List Nat) : Int := cs.foldl (fun a c => a + fxRound ((b.cellFlt c).rs * 1000000)) 0

/-- |ΔI| in mA times a resistance in µΩ, in µV. -/
def dropUv (dI r : Int) : Int := |dI| * r / 1000

/-- Accuracy bounds of R69, µV: top-to-bottom and divider. -/
def t2bBound (v : Int) : Int := |v| / 1000 + 5000
def dividerBound (v : Int) : Int := |v| / 1000 + 200000

/-- Condition 1 of R105: the pair channel agrees with the two cells of the preceding aperture. -/
def Block.pairHolds (b : Block) (j : Nat) (rd : OwtReading) : Bool :=
  match rd.pair, b.prevUv (j - 1), b.prevUv j with
  | some p, some lo, some hi => decide (|p - (lo + hi)| ≤ 4000 + dropUv rd.dI (b.rsOf [j - 1, j]))
  | _, _, _ => false

/-- The replacement check of R565 for a bottom wire. -/
def Block.boundaryHolds (b : Block) (j : Nat) (rd : OwtReading) : Bool :=
  let n := j / 32
  let bound := t2bBound ((b.seg (n - 1)).t2b.last.getD 0) + t2bBound ((b.seg n).t2b.last.getD 0)
  decide (|rd.boundarySum - rd.boundaryPrev| ≤ bound + dropUv rd.dI (b.rsOf ((List.range 64).map (32 * (n - 1) + ·))))

/-- Conditions 2 and 3 of R105. -/
def Block.sumsHold (b : Block) (rd : OwtReading) : Bool :=
  match rd.pair with
  | none => true
  | some p =>
    decide (|rd.othersSum + p - rd.t2b| ≤ 2000 * 32 + t2bBound rd.t2b) && decide (|rd.stringSum - rd.divider| ≤ 2000 * b.nCell + dividerBound rd.divider)

/-- The tiles that a wire's report shows in. -/
def wireTiles (j : Nat) : List Nat :=
  [0x80 + 8 * (j / 32) + 5] ++ (if 32 ≤ j then [0x80 + 8 * (j / 32 - 1) + 5] else []) ++ (if 0 < j then [0x100 + j - 1] else []) ++ [0x100 + min j 511]

/-- Pair mode of the two cells of an interior wire (R106): at most two pairs a segment. -/
def pairMode (j : Nat) (v : Option Int) (b : Block) : Block :=
  let n := segOf j
  if pairless j ∨ 2 ≤ (b.seg n).pairs.length ∨ (b.cell j).pair ∨ (b.cell (j - 1)).pair then b
  else
    let ids := [compId (j - 1) false, compId j false]
    let b1 := onSeg n (fun g => { g with
      pairs := g.pairs ++ [(j, v)]
      crossing := g.crossing.filter fun x => !ids.contains x.1
      tripped := g.tripped.filter fun x => !ids.contains x.1 }) b
    let set (x : CellSense) : CellSense := { x with pair := true, degr := true }
    let b2 := onCell j set (onCell (j - 1) set b1)
    let rest (x : CellFlt) : CellFlt := { x with restAt := none, restV := [] }
    dropTrips n (onCellFlt j rest (onCellFlt (j - 1) rest b2))

/-- A wire is confirmed open (R105 to R107): pair mode, SENSE_OPEN, and the two reports that stop the converter. -/
def reportOpen (j : Nat) (v : Option Int) (b : Block) : Block :=
  let n := b.testSeg j
  let others := (List.range 33).filter fun i => 32 * n + i != j && (b.wire (32 * n + i)).opened
  let beside := (0 < j && (b.wire (j - 1)).opened) || (b.wire (j + 1)).opened
  let isEnd := j = 0 ∨ j = b.nCell
  let b1 := onWire j (fun w => { w with opened := true, susp := true }) b
  let b2 := pairMode j v b1
  let b3 := if isEnd then b2 else note .senseOpen j [] b2
  let b4 := if 2 ≤ others.length || beside then raise .senseOpenMulti j [] b3 else b3
  (if pairless j then raise .senseOpenEnd j [] b4 else b4).touch (wireTiles j)

/-- One more test aperture at which condition 2 or 3 failed, or a clean one (R105). -/
def countSums (n : Nat) (ok : Bool) (b : Block) : Block :=
  let k := if ok then 0 else (b.seg n).sumFails + 1
  let b1 := onSeg n (fun g => { g with sumFails := k }) b
  if k = 3 then note .senseSumMismatch n [] b1 else b1

/-- An open pattern counts towards the report: the first raises SENSE_SUSPECT, the second in consecutive cycles confirms (R105). -/
def countPattern (j : Nat) (v : Option Int) (b : Block) : Block :=
  let k := (b.wire j).patterns + 1
  let b1 := onWire j (fun w => { w with patterns := k, susp := true }) b
  if (b.wire j).opened then b1
  else if k = 1 then (note .senseSuspect j [] b1).touch (wireTiles j)
  else reportOpen j v b1

/-- The wire was not judged: no repetition starts from this test. -/
def notJudged (j : Nat) (b : Block) : Block := onWire j (fun w => { w with patterns := 0 }) b

/-- What the result of R104 leads to under R105 and R565. -/
def judge (j res : Nat) (dT : Int) (rd : OwtReading) (b : Block) : Block :=
  let n := b.testSeg j
  let isEnd : Bool := j == 0 || j == b.nCell
  let sums := b.sumsHold rd
  let b0 := if pairless j || rd.pair.isNone then b else countSums n sums b
  match res with
  | 0 => (onWire j (fun w => { w with patterns := 0, susp := w.opened }) b0).touch (wireTiles j)
  | 1 =>
    let b1 := onWire j (fun w => { w with patterns := 0, susp := true }) b0
    (if (b.wire j).susp then b1 else note .wireResistive j [(|dT| * 10000).toNat] b1).touch (wireTiles j)
  | 2 =>
    if isEnd then countPattern j none b0
    else if pairless j then (if b.boundaryHolds j rd then countPattern j none b0 else raise .cellPairAnomaly j [] (notJudged j b0))
    else if !b.pairHolds j rd then raise .cellPairAnomaly j [] (notJudged j b0)
    else if !sums then notJudged j b0
    else countPattern j rd.pair b0
  | _ =>
    if isEnd then notJudged j b0
    else if pairless j then (if b.boundaryHolds j rd then notJudged j b0 else raise .cellPairAnomaly j [] (notJudged j b0))
    else if b.pairHolds j rd then notJudged j b0 else raise .cellPairAnomaly j [] (notJudged j b0)

/-- The report of an open wire ends: pair mode ends, SENSE_OPEN_CLEARED (R108). -/
def clearReport (j : Nat) (b : Block) : Block :=
  let had := (b.seg (segOf j)).pairs.any fun p => p.1 == j
  let b1 := onWire j (fun w => { w with opened := false, susp := false, patterns := 0 }) b
  let set (x : CellSense) : CellSense := { x with pair := false, degr := false }
  let b2 := if had then onCell j set (onCell (j - 1) set (onSeg (segOf j) (fun g => { g with
      pairs := g.pairs.filter fun p => p.1 != j
      crossing := g.crossing.filter fun x => x.1 != compId j true
      tripped := g.tripped.filter fun x => x.1 != compId j true }) b1)) else b1
  (note .senseOpenCleared j [] (dropTrips (segOf j) b2)).touch (wireTiles j)

/-- INTEG_TEST_WIRE completes with the result of its wire's test (R115). -/
def answerTest (j res : Nat) (dT : Int) (rd : OwtReading) (b : Block) : Block :=
  match b.sense.testWire with
  | some (src, w) =>
    if w != j then b
    else complete src .ok (leBytes 1 res ++ leBytes 4 (s32Word (some dT)).toNat ++ leBytes 4 (s32Word (if pairless j then none else rd.pair)).toNat)
      (b.onSense fun s => { s with testWire := none })
  | none => b

/-- INTEG_CLEAR_OPEN counts its wire's test; 4 tests to go is the one that was running when it came (R108, R114). -/
def answerClear (j res : Nat) (b : Block) : Block :=
  match b.sense.clearOpen with
  | some (src, w, left, ok) =>
    if w != j || left == 4 then b
    else
      let ok1 := ok && res == 0
      if 1 < left then b.onSense fun s => { s with clearOpen := some (src, w, left - 1, ok1) }
      else
        let b1 := b.onSense fun s => { s with clearOpen := none }
        if ok1 then complete src .ok [] (clearReport j b1) else complete src .fault [] b1
  | none => b

/-- OWT_CLASSIFY (R103 to R108, R565): 4 µs after the test aperture. -/
def doOwtClassify (n : Nat) (rd : OwtReading) (b : Block) : Block :=
  match (b.seg n).owt with
  | none => b
  | some s =>
    if s.phase != 3 then b
    else
      let j := s.wire
      let r := b.classify j rd
      let b1 := onSeg n (fun g => { g with owt := some { s with phase := 4, result := some r.1 } }) (b.at (b.sys.now + 300))
      answerClear j r.1 (answerTest j r.1 r.2 rd (judge j r.1 r.2 rd b1))

def execOwtClassify (seg : Fin 16) (rd : OwtReading) (s : State) := effect (doOwtClassify seg rd) s

/-- OWT_RESTORE_ON and OWT_RESTORE_OFF (R103, R565): for an open pattern only. -/
def doOwtRestoreOn (n : Nat) (b : Block) : Block :=
  match (b.seg n).owt with
  | some s => if s.result = some 2 then owtPhase n 4 5 id 100 b else b
  | none => b
def execOwtRestoreOn (seg : Fin 16) (s : State) := effect (doOwtRestoreOn seg) s

def doOwtRestoreOff (n : Nat) (b : Block) : Block := owtPhase n 5 6 id 1500 b
def execOwtRestoreOff (seg : Fin 16) (s : State) := effect (doOwtRestoreOff seg) s

/-- OWT_BLANK_END (R103, R114, R565): outputs held back and still asserted are passed on; a condition still present after a blank trips within R95. -/
def doOwtBlankEnd (n : Nat) (b : Block) : Block :=
  match (b.seg n).owt with
  | none => b
  | some s =>
    if !(s.phase == 6 || (s.phase == 4 && s.result != some 2)) then b
    else
      let lastWire := s.wire == 32 * n + (if n + 1 = b.nSeg then 32 else 31)
      let b1 := onSeg n (fun g => { g with owt := none, owtCycles := if lastWire then g.owtCycles + 1 else g.owtCycles }) (b.at (b.sys.now + 100))
      (s.held.foldl (fun b h => if pairless s.wire then passTrip (segOf h.1) (compId h.1 false) h.2 b else crossNow h.1 h.2 false b) b1).touch integTiles

def execOwtBlankEnd (seg : Fin 16) (s : State) := effect (doOwtBlankEnd seg) s

/-! ### Commands (R111, R115) -/

def ruleIntegSetLeashMode (src : Src) (mode ms : Nat) (_b : Block) : HostRule :=
  { opcode := 0x0310, owner := true, stateOk := true, param := need (decide (mode ≤ 1 ∧ 100 ≤ ms ∧ ms ≤ 60000 ∧ ms % 100 = 0))
    act := fun b => complete src .ok [] (sendDown (.leashMode mode ms) none (settingChanged (b.onLeash fun l => { l with lossMode := mode, broddaMs := ms }))) }

def execIntegSetLeashMode (src : Src) (mode ms : Nat) (s : State) := effect (host src (ruleIntegSetLeashMode src mode ms)) s

def ruleIntegTestWire (src : Src) (wire : Nat) (b : Block) : HostRule :=
  { opcode := 0x0311, owner := true, stateOk := decide (b.sys.mstate ≠ .boot), param := need (decide (wire ≤ b.nCell))
    act := fun b => b.onSense fun s => { s with testWire := some (src, wire) } }

def execIntegTestWire (src : Src) (wire : Nat) (s : State) := effect (host src (ruleIntegTestWire src wire)) s

def ruleIntegClearOpen (src : Src) (wire : Nat) (b : Block) : HostRule :=
  { opcode := 0x0312, owner := true, stateOk := true, param := need (decide (wire ≤ b.nCell) && (b.wire wire).opened)
    act := fun b =>
      let busy := match (b.seg (b.testSeg wire)).owt with
        | some s => s.wire == wire
        | none => false
      b.onSense fun s => { s with clearOpen := some (src, wire, if busy then 4 else 3, true) } }

def execIntegClearOpen (src : Src) (wire : Nat) (s : State) := effect (host src (ruleIntegClearOpen src wire)) s

def ruleIntegSetBarkPullup (src : Src) (on : Nat) (_b : Block) : HostRule :=
  { opcode := 0x0313, owner := true, stateOk := true, param := need (decide (on ≤ 1))
    act := fun b => (complete src .ok [] (settingChanged (b.onBark fun k => { k with pullUp := on == 1 }))).touch [8] }

def execIntegSetBarkPullup (src : Src) (on : Nat) (s : State) := effect (host src (ruleIntegSetBarkPullup src on)) s

end Sys2Proof.Machine
end

