-- ==== Sys2Proof/Machine/Leash.lean ====
section
/-! DEFINITION. The leash, its lanes and frames, and the rung ring (R26 to R54, R59, R109 to R113). -/

namespace Sys2Proof.Machine

/-! ### Segment and snapshot frames (R27, R28, R57) -/

def Block.ringSeg (b : Block) (n : Nat) : RingSeg := b.ring.segs.getD n RingSeg.reset
def Block.rungUp (b : Block) (r : Nat) : Bool := b.ring.rungs.getD r false

/-- Every rung below, or above, segment `n` is up. -/
def Block.wayDown (b : Block) (n : Nat) : Bool := (List.range (n + 1)).all b.rungUp
def Block.wayUp (b : Block) (n : Nat) : Bool := (List.range (b.nSeg - n)).all fun i => b.rungUp (n + 1 + i)

/-- The direction in use: SG0 to SG7 downward, the rest upward, the other way where that way is broken (R27); true is downward. -/
def Block.goesDown (b : Block) (n : Nat) : Bool := if n < 8 then b.wayDown n || !b.wayUp n else b.wayDown n && !b.wayUp n

/-- The rung that the frame of segment `n` crosses next. -/
def Block.nextRung (b : Block) (n : Nat) : Nat :=
  match (b.ringSeg n).framePos with
  | none => if b.goesDown n then n else n + 1
  | some r => if b.goesDown n then r - 1 else r + 1

/-- SEGMENT_FRAME (R27, R28): the frame has crossed the rung that was next on its way; the hub stores it after rung 0 or the closing rung. -/
def doSegmentFrame (n r : Nat) (b : Block) : Block :=
  let g := b.ringSeg n
  if b.nSeg ≤ n ∨ g.converted = false ∨ g.arrived = true ∨ b.nextRung n ≠ r ∨ b.rungUp r = false then b
  else
    let atHub := decide (r = 0 ∨ r = b.nSeg)
    b.onRing fun x => { x with segs := modAt x.segs n fun g => { g with framePos := some r, arrived := atHub } }

def execSegmentFrame (seg : Fin 16) (rung : Nat) (s : State) := effect (doSegmentFrame seg rung) s

/-- SNAPSHOT_FRAME_START (R43, R45, R57): 15.0 µs after the aperture, 25.5 µs with a rung broken; a segment whose frame is missing shows STALE. -/
def doSnapshotFrameStart (b : Block) : Block :=
  let ta := rateTicks b.sense.rate
  let broken := !((List.range (b.nSeg + 1)).all b.rungUp)
  let b1 := b.at (b.sys.now / ta * ta + (if broken then 2550 else 1500))
  let b2 := b1.onRing fun x => { x with segs := x.segs.mapIdx fun n g => { g with stale := decide (n < b.nSeg) && !g.arrived } }
  if !b.anyLane then b2
  else b2.onLeash fun l => { l with inFlight := some { seq := l.snapSeq, striped := l.lanes.all fun x => x.up }, snapSeq := (l.snapSeq + 1) % 65536 }

def execSnapshotFrameStart (s : State) := effect doSnapshotFrameStart s

/-! ### Sync sets and delay (R36, R37) -/

/-- Change one lane. -/
def onLane (k : Nat) (f : Lane → Lane) (b : Block) : Block := b.onLeash fun l => { l with lanes := modAt l.lanes k f }

/-- A lane that is absent is down. -/
def Block.lane (b : Block) (k : Nat) : Lane := b.leash.lanes.getD k { up := false, hold := none, downs := [], lastSync := 0 }

/-- SYNC_SET_DOWNSTREAM (R36): at counts that are multiples of 1,000. -/
def doSyncSetDownstream (b : Block) : Block :=
  if !b.anyLane then b else (b.at (b.nextMultiple 1000)).onLeash fun l => { l with syncsSent := l.syncsSent + 1 }

def execSyncSetDownstream (s : State) := effect doSyncSetDownstream s

/-- SYNC_SET_UPSTREAM (R37): at counts 500 above a multiple of 1,000; an echo owed is sent in it. -/
def doSyncSetUpstream (b : Block) : Block :=
  if !b.anyLane then b else (b.at (multipleFrom 1000 (b.sys.now + 1 - min (b.sys.now + 1) 500) + 500)).onLeash fun l => { l with echoDue := none }

def execSyncSetUpstream (s : State) := effect doSyncSetUpstream s

/-- SYNC_SET_RECEIVED (R37, R48, R53, R111): at the hub it aligns the count and every 100,000th is to be echoed; at the Control Half an echo gives the one-way
delay, half the round trip less the turnaround, which is sent to the hub. The round trip is in ns. -/
def doSyncSetReceived (atHub : Bool) (k : Nat) (echo : Bool) (count roundTrip : Nat) (b : Block) : Block :=
  if !(b.lane k).up then b
  else
    let b1 := onLane k (fun l => { l with lastSync := b.sys.now }) b
    if atHub then b1.onLeash fun l => { l with
      aligned := true
      syncsHeard := l.syncsHeard + 1
      echoDue := if (l.syncsHeard + 1) % 100000 = 0 then some count else l.echoDue }
    else if !echo then b1
    else
      let d := (roundTrip - Config.hubTurnaround) / 2
      let old := b.leash.delay
      let step := b.leash.delayKnown && (decide (old + 2 < d) || decide (d + 2 < old))
      let b2 := b1.onLeash fun l => { l with delay := d, delayKnown := true }
      let b3 := if step then note .leashDelayStep noArg [d] b2 else b2
      (sendDown (.delayResult d) none b3).touch [8]

def execSyncSetReceived (atHub : Bool) (lane : Fin 2) (echo : Bool) (count roundTrip : Nat) (s : State) :=
  effect (doSyncSetReceived atHub lane echo count roundTrip) s

/-! ### Lane loss and return (R48, R49, R51, R61) -/

/-- A lane is declared down: out of service, counted, held down at the fourth time within 60 s, a striped frame in flight cancelled, the other lane its
backup. -/
def laneDown (k : Nat) (b : Block) : Block :=
  if !(b.lane k).up then b
  else
    let t := b.sys.now
    let recent := t :: (b.lane k).downs.filter fun d => decide (t < d + 60 * secT)
    let held := decide (4 ≤ recent.length)
    let b1 := onLane k (fun l => { l with up := false, hold := if held then some t else none, downs := if held then [] else recent }) b
    let b2 := b1.onLeash fun l => { l with flaps := satAdd 255 l.flaps 1 }
    let b3 := note .leashLaneDown k [] b2
    let b4 := if held then note .leashLaneFlap k [] b3 else b3
    let b5 := match b4.leash.inFlight with
      | some f => if f.striped then missSnapshot b4 else b4
      | none => b4
    (if b5.anyLane then takeover (partCode 1 k) (partCode 1 (1 - k)) b5 else b5).touch [8]

/-- LANE_VIOLATION_LIMIT (R48). -/
def execLaneViolationLimit (lane : Fin 2) (s : State) := effect (laneDown lane) s

/-- LANE_SYNC_TIMEOUT (R48): 30 µs without a valid sync set. -/
def doLaneSyncTimeout (k : Nat) (b : Block) : Block := if !(b.lane k).up then b else laneDown k (b.at ((b.lane k).lastSync + 30 * usT))
def execLaneSyncTimeout (lane : Fin 2) (s : State) := effect (doLaneSyncTimeout lane) s

/-- LDOWN_SET (R48): names the lane that the other end has declared down; a set whose CRC-8 fails is no set. -/
def doLdownSet (k : Nat) (crcOk : Bool) (b : Block) : Block := if crcOk then laneDown k b else b
def execLdownSet (lane : Fin 2) (crcOk : Bool) (s : State) := effect (doLdownSet lane crcOk) s

/-- FRAME_ABORT (R34, R59): the receiver discards the frame in progress; a snapshot is recorded as missing. -/
def doFrameAbort (b : Block) : Block := if b.leash.inFlight.isSome then missSnapshot b else b
def execFrameAbort (s : State) := effect doFrameAbort s

/-- The leash-loss setting reaches the hub, and the Stack Half leaves Sleep or Brodda operation (R111, R113); LEASH_RESTORED gives its time there in ms. -/
def leashBack (b : Block) : Block :=
  let was := b.leash.stack
  let ms := match b.leash.silentAt with
    | some t => (b.sys.now - t) / msT
    | none => 0
  let restored := was != .normal || b.leash.lostAt.isSome
  let b1 := b.onLeash fun l => { l with hubMode := l.lossMode, hubBrodda := l.broddaMs, stack := .normal, silentAt := none, broddaStopped := false, lostAt := none }
  let b2 := sendDown .schedule none (sendDown (.leashMode b.leash.lossMode b.leash.broddaMs) none b1)
  let b3 := if restored then note .leashRestored noArg [ms] b2 else b2
  clearCause 6 0 b3

/-- LANE_TRAINED (R49, R113): 10 ms of clean training; the lane is in service again and Lead repeats the last steps of R54. -/
def doLaneTrained (k : Nat) (b : Block) : Block :=
  if (b.lane k).up ∨ (b.lane k).hold.isSome then b
  else
    let b1 := onLane k (fun l => { l with up := true, lastSync := b.sys.now }) b
    (leashBack (note .leashLaneUp k [] b1)).touch (8 :: integTiles)

def execLaneTrained (lane : Fin 2) (s : State) := effect (doLaneTrained lane) s

/-- LANE_HOLD_EXPIRY (R49): 10 min after the hold-down. -/
def doLaneHoldExpiry (k : Nat) (b : Block) : Block :=
  match (b.lane k).hold with
  | some t => (onLane k (fun l => { l with hold := none }) (b.at (t + 600 * secT))).touch [8]
  | none => b

def execLaneHoldExpiry (lane : Fin 2) (s : State) := effect (doLaneHoldExpiry lane) s

/-! ### Command frames (R46, R47) -/

/-- LEASH_FRAME_TIMEOUT (R47, R53): sent again with the same tag up to 3 times; a fourth failure raises LEASH_CMD_FAIL and the command carried completes with
FAULT. -/
def doLeashFrameTimeout (tag : Nat) (b : Block) : Block :=
  match b.leash.waiting.find? fun f => f.tag == tag with
  | none => b
  | some f =>
    let b1 := b.at (b.sys.now + 50 * usT)
    if f.sent < 4 then b1.onLeash fun l => { l with waiting := l.waiting.map fun g => if g.tag = tag then { g with sent := g.sent + 1 } else g }
    else
      let b2 := note .leashCmdFail noArg [tag] (b1.onLeash fun l => { l with waiting := l.waiting.filter fun g => g.tag != tag })
      match f.carries with
      | some src => complete src .fault [] b2
      | none => b2

def execLeashFrameTimeout (tag : Nat) (s : State) := effect (doLeashFrameTimeout tag) s

/-- HUB_COMMAND_FRAME (R37, R46, R47, R111): the hub executes a tag once and replies to each copy. -/
def doHubCommandFrame (tag : Nat) (b : Block) : Block :=
  match b.leash.waiting.find? fun f => f.tag == tag with
  | none => b
  | some f =>
    if b.leash.hubTag = some tag then b
    else b.onLeash fun l =>
      let l1 := { l with hubTag := some tag }
      match f.kind with
      | .delayResult ns => { l1 with hubDelay := ns }
      | .leashMode mode ms => { l1 with hubMode := mode, hubBrodda := ms }
      | .schedule => l1
      | .targets => l1

def execHubCommandFrame (tag : Nat) (s : State) := effect (doHubCommandFrame tag) s

/-- REPLY_FRAME (R46): answers the command of the same tag. -/
def doReplyFrame (tag : Nat) (b : Block) : Block := b.onLeash fun l => { l with waiting := l.waiting.filter fun f => f.tag != tag }
def execReplyFrame (tag : Nat) (s : State) := effect (doReplyFrame tag) s

/-- EVENT_FRAME (R46): a hub or segment event; the spec lays out no content beyond the frame, which is kept as received. -/
def doEventFrame (payload : List Byte) (b : Block) : Block := b.onLeash fun l => { l with lastEvent := payload.take 256 }
def execEventFrame (payload : List Byte) (s : State) := effect (doEventFrame payload) s

/-! ### The ring (R30, R109, R110) -/

/-- RING_DELAY_MEASURE (R30): one-way delays to each segment in both directions, ns, where the way is whole. -/
def doRingDelayMeasure (down up : List Nat) (b : Block) : Block :=
  (b.at (b.nextMultiple secT)).onRing fun r => { r with
    segs := r.segs.mapIdx fun n g =>
      if b.nSeg ≤ n then g else
        { g with
          delayDown := if b.wayDown n then down.getD n g.delayDown else g.delayDown
          delayUp := if b.wayUp n then up.getD n g.delayUp else g.delayUp } }

def execRingDelayMeasure (down up : List Nat) (s : State) := effect (doRingDelayMeasure down up) s

/-- Both rungs of segment `n` are down. -/
def Block.cutOff (b : Block) (n : Nat) : Bool := !b.rungUp n && !b.rungUp (n + 1)

/-- Rungs of the fitted ring that are down. -/
def Block.rungsDown (b : Block) : Nat := ((List.range (b.nSeg + 1)).filter fun r => !b.rungUp r).length

/-- RUNG_DOWN (R27, R45, R61, R109, R110): a frame in transit on the rung is lost; with two or more rungs down the ring is split and SA and SB demand SSI. -/
def doRungDown (r : Nat) (lost : Option (Fin 16)) (b : Block) : Block :=
  if b.nSeg < r ∨ !b.rungUp r then b
  else
    let b1 := b.onRing fun x => { x with rungs := modAt x.rungs r (fun _ => false) }
    let b2 := match lost with
      | some n => b1.onRing fun x => { x with segs := modAt x.segs n fun g => { g with converted := false, stale := true } }
      | none => b1
    let b3 := b2.onRing fun x => { x with
      segs := x.segs.mapIdx fun n g => if decide (n < b.nSeg) && b2.cutOff n && g.cutAt.isNone then { g with cutAt := some b.sys.now } else g }
    let b4 := note .ringRungDown r [] b3
    let b5 := if b3.rungsDown = 1 then takeover (partCode 2 r) (partCode 2 17) b4 else b4
    let b6 := if 2 ≤ b3.rungsDown then
        let s1 := b5.onRing fun x => { x with split := true }
        demandSSI 7 0 (if b5.ring.split then s1 else note .ringSplit noArg [] s1)
      else b5
    b6.touch (8 :: integTiles)

def execRungDown (rung : Fin 17) (lostFrame : Option (Fin 16)) (s : State) := effect (doRungDown rung lostFrame) s

/-- RUNG_UP (R109): after 10 ms of clean characters. -/
def doRungUp (r : Nat) (b : Block) : Block :=
  if b.nSeg < r ∨ b.rungUp r then b
  else
    let b1 := b.onRing fun x => { x with rungs := modAt x.rungs r fun _ => true }
    let b2 := b1.onRing fun x => { x with
      split := decide (2 ≤ b1.rungsDown)
      segs := x.segs.mapIdx fun n g => if b1.cutOff n then g else { g with cutAt := none, isolated := false } }
    let b3 := note .ringRungUp r [] b2
    (if b2.ring.split then b3 else clearCause 7 0 b3).touch (8 :: integTiles)

def execRungUp (rung : Fin 17) (s : State) := effect (doRungUp rung) s

/-- SEGMENT_ISOLATED (R110): cut off from both neighbours for 50 ms, it stops its shuttles and bleed switches and samples at 1 Hz. -/
def doSegmentIsolated (n : Nat) (b : Block) : Block :=
  match (b.ringSeg n).cutAt with
  | some t =>
    let b1 := (b.at (t + 50 * msT)).onRing fun x => { x with segs := modAt x.segs n fun g => { g with isolated := true } }
    (openElements (· == n) b1).touch (integTiles ++ balTiles)
  | none => b

def execSegmentIsolated (seg : Fin 16) (s : State) := effect (doSegmentIsolated seg) s

/-! ### Leash loss (R111, R112) -/

/-- LEASH_SILENT (R111): 50 ms without a valid sync set or frame on any lane, at the Stack Half. -/
def doLeashSilent (b : Block) : Block :=
  if b.leash.stack != .normal || b.anyLane then b
  else
    let last := (b.leash.lanes.map (·.lastSync)).foldl max 0
    let b1 := b.at (last + 50 * msT)
    let mode : StackMode := if b.leash.hubMode = 1 then .brodda else .sleep
    let b2 := b1.onLeash fun l => { l with stack := mode, silentAt := some b1.sys.now, broddaStopped := false }
    (if mode = .sleep then openElements (fun _ => true) (endManuals (balStop b2)) else b2).touch (integTiles ++ balTiles)

def execLeashSilent (s : State) := effect doLeashSilent s

/-- BRODDA_TIMEOUT (R111): counted from silence; balancing stops. -/
def doBroddaTimeout (b : Block) : Block :=
  match b.leash.stack, b.leash.silentAt with
  | .brodda, some t =>
    if b.leash.broddaStopped then b
    else
      let b1 := (b.at (t + b.leash.hubBrodda * msT)).onLeash fun l => { l with broddaStopped := true }
      (openElements (fun _ => true) (endManuals (balStop b1))).touch balTiles
  | _, _ => b

def execBroddaTimeout (s : State) := effect doBroddaTimeout s

/-- LEASH_LOST (R112): both lanes down and no snapshot stored for 1 ms; it stops the converter. -/
def doLeashLost (b : Block) : Block :=
  if b.anyLane || b.leash.lostAt.isSome then b
  else
    let b1 := b.at (b.leash.lastStored + msT)
    (raise .leashLost noArg [] (b1.onLeash fun l => { l with lostAt := some b1.sys.now })).touch [8]

def execLeashLost (s : State) := effect doLeashLost s

/-- LEASH_LOSS_SSI (R112): no lane has returned 50 ms after LEASH_LOST. -/
def doLeashLossSsi (b : Block) : Block :=
  match b.leash.lostAt with
  | some t => if b.anyLane then b else demandSSI 6 0 (b.at (t + 50 * msT))
  | none => b

def execLeashLossSsi (s : State) := effect doLeashLossSsi s

end Sys2Proof.Machine
end

