-- ==== Sys2Proof/Machine/Filters.lean ====
section
/-! DEFINITION. Cell state filters, chemistry slots, string figures, learned-value saves (R146 to R179, R532 to R535). Reals are fixed point (log entry 6). -/

namespace Sys2Proof.Machine

/-! ### Chemistry slots (R148 to R151) -/

/-- Length of a slot record. -/
def slotLen : Nat := 6312

/-- The fields of a slot record (R148). -/
def parseSlot (bs : List Byte) : Slot :=
  { name := (bs.drop 4).take 16, capNom := leField bs 20 4, rs0 := leField bs 24 4, etaChg := leField bs 28 2, gamma := leField bs 30 2,
    zEmpty := leField bs 32 2, zFull := leField bs 34 2, vFull := leField bs 36 4, tGrid := (List.range 9).map fun t => leSigned bs (40 + 2 * t) 2,
    ocv := (List.range 909).map fun i => leField bs (60 + 4 * i) 4, mHys := (List.range 909).map fun i => leField bs (3696 + 2 * i) 2,
    rc := (List.range 99).map fun i =>
      (leField bs (5514 + 8 * i) 2, leField bs (5516 + 8 * i) 2, leField bs (5518 + 8 * i) 2, leField bs (5520 + 8 * i) 2),
    crc := leField bs 6308 4, bytes := bs }

/-- A strictly rising list. -/
def rising : List Int → Bool
  | a :: b :: l => decide (a < b) && rising (b :: l)
  | _ => true

/-- OCV row of temperature point `t`, µV. -/
def Slot.row (x : Slot) (t : Nat) : List Nat := (x.ocv.drop (101 * t)).take 101

/-- Interpolate a row of points spaced 1/`n` at `z`; outside 0 to 1 the nearest interval's slope goes on (R150). Fixed point. -/
def interpRow (row : List Nat) (n : Nat) (z : Fx) : Fx :=
  let s : Int := z * n
  let k : Int := clampI 0 ((n : Int) - 1) (s / fxOne)
  let a : Int := (row.getD k.toNat 0 : Nat)
  let b : Int := (row.getD (k.toNat + 1) 0 : Nat)
  fxI a + (b - a) * (s - k * fxOne)

/-- Temperature interval and weight of `T` in 0.01 °C, clamped to the grid (R150). -/
def Slot.tPlace (x : Slot) (t : Int) : Nat × Fx :=
  let t0 := x.tGrid.getD 0 0
  let t8 := x.tGrid.getD 8 0
  let u := clampI t0 t8 t
  let j := ((List.range 8).filter fun j => decide (x.tGrid.getD j 0 ≤ u)).foldl max 0
  (j, fxQ (u - x.tGrid.getD j 0) (x.tGrid.getD (j + 1) 0 - x.tGrid.getD j 0))

/-- A temperature outside the grid (R150). -/
def Slot.clampsT (x : Slot) (t : Int) : Bool := decide (t < x.tGrid.getD 0 0 ∨ x.tGrid.getD 8 0 < t)

/-- Weighted mean of two fixed-point values. -/
def mix (w a b : Fx) : Fx := a + fxMul w (b - a)

/-- ocv(z, T) in volts. -/
def Slot.ocvAt (x : Slot) (z : Fx) (t : Int) : Fx :=
  let p := x.tPlace t
  mix p.2 (interpRow (x.row p.1) 100 z) (interpRow (x.row (p.1 + 1)) 100 z) / 1000000

/-- m(z, T) in volts. -/
def Slot.mAt (x : Slot) (z : Fx) (t : Int) : Fx :=
  let p := x.tPlace t
  let row (k : Nat) := (x.mHys.drop (101 * k)).take 101
  mix p.2 (interpRow (row p.1) 100 z) (interpRow (row (p.1 + 1)) 100 z) / 1000000

/-- Slope of a table in z, volts per unit: the interval that holds `z`. -/
def slopeOf (f : Fx → Fx) (z : Fx) : Fx :=
  let k : Int := clampI 0 99 (z * 100 / fxOne)
  100 * (f (fxQ (k + 1) 100) - f (fxQ k 100))

/-- The inverse of ocv at `T`: the z at which the interpolated OCV equals `v` (R150). -/
def Slot.ocvInv (x : Slot) (v : Fx) (t : Int) : Fx :=
  let p := x.tPlace t
  let r0 := x.row p.1
  let r1 := x.row (p.1 + 1)
  let at_ (k : Nat) : Fx := mix p.2 (fxI (r0.getD k 0 : Nat)) (fxI (r1.getD k 0 : Nat)) / 1000000
  let k := ((List.range 100).filter fun k => decide (at_ k ≤ v)).foldl max 0
  let d := at_ (k + 1) - at_ k
  (fxI k + fxDiv (v - at_ k) d) / 100

/-- RC entry interpolated: RPA in Ω, TAUA in s, RPB in Ω, TAUB in s (R148, R150). -/
def Slot.rcAt (x : Slot) (z : Fx) (t : Int) : Fx × Fx × Fx × Fx :=
  let p := x.tPlace t
  let f (g : Nat × Nat × Nat × Nat → Nat) : Fx :=
    let row (k : Nat) := ((x.rc.drop (11 * k)).take 11).map g
    mix p.2 (interpRow (row p.1) 10 z) (interpRow (row (p.1 + 1)) 10 z)
  (f (·.1) / 1000000, f (·.2.1) / 100, f (·.2.2.1) / 1000000, f (·.2.2.2))

/-- Fractions of 65,536 in fixed point. -/
def frac16 (n : Nat) : Fx := fxQ n 65536

/-- The checks of R149 on a staged record, in order; 0 is success. -/
def slotCheck (staged : List (Option Byte)) : Nat :=
  if staged.length != slotLen || staged.any Option.isNone then 1
  else
    let bs := staged.map fun x => x.getD 0
    let x := parseSlot bs
    if leField bs 0 2 ≠ 1 ∨ leField bs 2 2 ≠ slotLen ∨ leField bs 58 2 ≠ 0 ∨ leField bs 6306 2 ≠ 0 then 2
    else if crc32c (bs.take 6308) ≠ x.crc then 3
    else if x.capNom < 1000 ∨ 2000000 < x.capNom ∨ x.rs0 < 10 ∨ 100000 < x.rs0 ∨ x.etaChg < 58982 ∨ x.gamma < 1 then 4
    else if x.zFull < x.zEmpty + 32768 then 5
    else if !rising x.tGrid || x.tGrid.any (fun t => decide (t < -4000 ∨ 8000 < t)) then 6
    else if (List.range 9).any (fun t => !rising ((x.row t).map Int.ofNat)) || x.ocv.any (fun v => decide (v < 500000 ∨ 5500000 < v)) then 7
    else if (List.range 9).any (fun t => decide (fxI (x.vFull : Int) ≤ interpRow (x.row t) 100 (frac16 x.zFull))) then 8
    else if x.rc.any (fun e => decide (e.2.1 < 1 ∨ e.2.2.2 < 1 ∨ 100 * e.2.2.2 ≤ e.2.1)) then 9
    else 0

/-- The slot of a cell, when it holds a committed table (R151). -/
def Block.slotOf (b : Block) (c : Nat) : Option Slot := (b.flt.slots.getD (b.flt.slotMap.getD (segOf c) 0) none)

/-! ### Inputs of a step (R153, R154) -/

/-- Tiles of the filters (R176 to R178). -/
def fltTiles : List Nat := [0x43, 0x44] ++ (List.range 512).map (0x100 + ·)

/-- The internal temperature of a cell is valid (R196). -/
def Block.itv (b : Block) (c : Nat) : Bool :=
  let m := b.impCell c
  (b.imp.zts.getD (b.flt.slotMap.getD (segOf c) 0) none).isSome && m.offL && !m.ztClamp && !(b.cell c).degr && m.tInt.isSome
    && (match m.fitAt with
      | some t => decide (b.sys.now ≤ t + 3600 * secT)
      | none => false)

/-- Mean of a list of temperatures. -/
def meanT (l : List Int) : Option Int := if l = [] then none else some (divNear (l.foldl (· + ·) 0) l.length)

/-- Temperature of a cell with the number of its source, 1 to 4 (R154). -/
def Block.tempInput (b : Block) (c : Nat) : Option (Int × Nat) :=
  let int_ := if b.flt.config.tSrc = 1 ∧ b.itv c = true then (b.impCell c).tInt else none
  match int_, b.cellTemp c with
  | some t, _ => some (t, 1)
  | none, some t => some (t, 2)
  | none, none =>
    match meanT ((List.range 8).filterMap fun i => (b.therm (8 * segOf c + i)).temp) with
    | some t => some (t, 3)
    | none => (meanT ((List.range b.nTherm).filterMap fun i => (b.therm i).temp)).map fun t => (t, 4)

/-- Net current into the rail of segment `n` from its bridges, mA (R153). -/
def Block.bridgeIn (b : Block) (n : Nat) : Int := -(b.segBal n).bridge + (if 0 < n then (b.segBal (n - 1)).bridge else 0)

/-- Cell current of the block, amperes (R153): mean selected current, less the cell's balancing current, plus its rail's, at the average currents of R125. -/
def Block.stepCurrent (b : Block) (c : Nat) : Option Fx :=
  let x := b.cellFlt c
  if x.nI = 0 then none
  else
    let duty := dutyOf b.sense.rate (b.compensatedCell c)
    let bal : Int := ((b.segBal (segOf c)).railI + b.bridgeIn (segOf c) - b.balCur c) * duty
    some (fxQ x.sumI ((x.nI : Int) * 1000000) + fxQ bal 1000000)

/-! ### The extended Kalman step (R147, R155 to R157) -/

/-- Entry of a 5 by 5 matrix. -/
def ent (p : List (List Fx)) (i j : Nat) : Fx := (p.getD i []).getD j 0

/-- A 5 by 5 matrix from its entries. -/
def mat (f : Nat → Nat → Fx) : List (List Fx) := (List.range 5).map fun i => (List.range 5).map fun j => f i j

/-- Sum over 0 to 4. -/
def sum5 (f : Nat → Fx) : Fx := f 0 + f 1 + f 2 + f 3 + f 4

/-- The charge moved in `t` at `i`, as a fraction of `cap` mAh: eta·i·t / (3600·cap). -/
def dqOf (eta i t : Fx) (cap : Nat) : Fx := if cap = 0 then 0 else fxMul (fxMul eta i) t * 1000 / (3600 * (cap : Int))

/-- Charge efficiency at current `i` (R147). -/
def Slot.etaAt (x : Slot) (i : Fx) : Fx := if 0 < i then frac16 x.etaChg else fxOne

/-- The decay of the hysteresis state over a charge fraction (R147). -/
def Slot.hDecay (x : Slot) (dq : Fx) : Fx := fxExp (-(|dq| * (x.gamma : Int) / 256))

/-- The prediction of R147 for one cell at its temperature, with the covariance under the diagonal of the step's derivatives. -/
def predict (x : Slot) (t i : Fx) (temp : Int) (c : CellFlt) : CellFlt :=
  let (rpa, taua, rpb, taub) := x.rcAt c.z temp
  let dq := dqOf (x.etaAt i) i t c.cap
  let ea := fxExp (-(fxDiv t taua))
  let eb := fxExp (-(fxDiv t taub))
  let eh := if i = 0 then fxOne else x.hDecay dq
  let sg : Int := if 0 < i then 1 else -1
  let d : List Fx := [fxOne, ea, eb, eh, fxOne]
  let rs0 := fxQ x.rs0 1000000
  let qs : List Fx := [fxQ 4 10000000000, fxQ 4 100000000, fxQ 4 100000000, fxQ 1 1000000, fxMul rs0 (rs0 * 4 / 100000000)]
  { c with
    z := c.z + dq
    vA := fxMul ea c.vA + fxMul (fxMul rpa (fxOne - ea)) i
    vB := fxMul eb c.vB + fxMul (fxMul rpb (fxOne - eb)) i
    h := if i = 0 then c.h else fxMul eh c.h + sg * (fxOne - eh)
    p := mat fun a b => fxMul (fxMul (d.getD a 0) (d.getD b 0)) (ent c.p a b) + (if a = b then fxMul (qs.getD a 0) t else 0)
    q := c.q + fxRound (fxMul (fxMul (x.etaAt i) i) t * 1000000) }

/-- The model voltage of R147. -/
def modelV (x : Slot) (i : Fx) (temp : Int) (c : CellFlt) : Fx := x.ocvAt c.z temp + fxMul (x.mAt c.z temp) c.h + c.vA + c.vB + fxMul c.rs i

/-- One measurement update with the mean of `n` readings; the result says whether the gate rejected it (R155, R157). -/
def measure (x : Slot) (n : Nat) (v i : Fx) (temp : Int) (degr : Bool) (c : CellFlt) : CellFlt × Bool :=
  let hz := slopeOf (fun z => x.ocvAt z temp) c.z + fxMul (slopeOf (fun z => x.mAt z temp) c.z) c.h
  let hj : List Fx := [hz, fxOne, fxOne, x.mAt c.z temp, i]
  let floorV : Fx := if degr then fxQ 4 1000000 else fxQ 1 1000000
  let rv := fxQ 2025 (1000000000000 * n) + floorV
  let ph (a : Nat) : Fx := sum5 fun j => fxMul (ent c.p a j) (hj.getD j 0)
  let s := sum5 (fun a => fxMul (hj.getD a 0) (ph a)) + rv
  let y := v - modelV x i temp c
  if max (4 * fxSqrt s) (fxQ 5 1000) < |y| then (c, true)
  else
    let k (a : Nat) : Fx := if a = 4 ∧ degr = true then 0 else fxDiv (ph a) s
    ({ c with
      z := c.z + fxMul (k 0) y
      vA := c.vA + fxMul (k 1) y
      vB := c.vB + fxMul (k 2) y
      h := c.h + fxMul (k 3) y
      rs := c.rs + fxMul (k 4) y
      p := mat fun a b => ent c.p a b - fxMul (k a) (sum5 fun j => fxMul (hj.getD j 0) (ent c.p j b)) }, false)

/-- The bounds of R146, and whether Rs met one. -/
def clampStates (x : Slot) (c : CellFlt) : CellFlt :=
  let rs0 := fxQ x.rs0 1000000
  let rs := clampI (rs0 / 4) (8 * rs0) c.rs
  { c with h := clampI (-fxOne) fxOne c.h, z := clampI (-(fxOne / 20)) (fxOne + fxOne / 20) c.z, rs := rs, rsClamp := decide (rs ≠ c.rs) }

/-- The reported SOC moves (R161). -/
def walkSoc (rate t dq z r : Fx) : Fx × Bool :=
  let r1 := r + dq
  let e := z - r1
  let lim := fxMul rate t
  (clampI 0 fxOne (r1 + clampI (-lim) lim e), decide (lim < |e|))

/-- RATE_RPT per second (R161): 0.01 % per minute. -/
def Block.rateRpt (b : Block) : Fx := fxQ b.flt.config.rateRpt 600000

/-- The SOH target as a fraction (R162). -/
def sohTarget (x : Slot) (cap : Nat) : Fx := min (fxQ 65535 65536) (fxQ cap x.capNom)

/-- The reported SOH moves by at most 0.5 % an hour (R162). -/
def walkSoh (x : Slot) (t : Fx) (c : CellFlt) : Fx := c.soh + clampI (-(t / 720000)) (t / 720000) (sohTarget x c.cap - c.soh)

/-- Standard deviation of z. -/
def CellFlt.sigma (c : CellFlt) : Fx := fxSqrt (ent c.p 0 0)

/-- SIGMA_VALID as a fraction. -/
def Block.sigmaValid (b : Block) : Fx := fxQ b.flt.config.sigmaValid 10000

/-- The wake adjustments of R171: polarisation decays over the time since entry, the charge of HIBERNATE moves h and widens z. -/
def wakeAdjust (b : Block) (x : Slot) (temp : Int) (c : CellFlt) : CellFlt :=
  match b.flt.hibAt with
  | none => c
  | some t0 =>
    let th := fxQ (b.sys.now - t0) secT
    let (_, taua, _, taub) := x.rcAt c.z temp
    let q := fxQ b.flt.qHib 1000000
    let dq := if c.cap = 0 then 0 else fxMul (x.etaAt q) q * 1000 / (3600 * (c.cap : Int))
    let eh := x.hDecay dq
    let sg : Int := if 0 < q then 1 else -1
    let bound := |q| / 1000 + th / 10
    let dz := if c.cap = 0 then 0 else bound * 1000 / (3600 * (c.cap : Int))
    { c with
      vA := fxMul (fxExp (-(fxDiv th taua))) c.vA
      vB := fxMul (fxExp (-(fxDiv th taub))) c.vB
      h := if q = 0 then c.h else fxMul eh c.h + sg * (fxOne - eh)
      p := mat fun a b => ent c.p a b + (if a = 0 ∧ b = 0 then fxMul dz dz else 0) }

/-- Voltage input of the block, volts, if a reading was used (R153). -/
def CellFlt.vMean (c : CellFlt) : Option Fx := if c.nV = 0 then none else some (fxQ c.sumV ((c.nV : Int) * 2048000000))

/-- A cell's rest and full-charge timing after a step (R163, R165). -/
def trackRest (now : Nat) (x : Slot) (i : Fx) (v : Option Fx) (c : CellFlt) : CellFlt :=
  let rest := decide (|i| * 100000 < fxI (c.cap : Int))
  let full := match v with
    | some v => decide (0 < i) && decide (i * 20000 ≤ fxI (c.cap : Int)) && decide (fxQ x.vFull 1000000 ≤ v)
    | none => false
  { c with
    restAt := if rest then (match c.restAt with
      | some t => some t
      | none => some now) else none
    restSeen := rest && c.restSeen
    restV := if rest then ((match v with
      | some v => v :: c.restV
      | none => c.restV).take 100) else []
    fullAt := if full then (match c.fullAt with
      | some t => some t
      | none => some now) else none
    fullSeen := full && c.fullSeen }

/-- A cell's block is emptied after its step. -/
def CellFlt.emptied (c : CellFlt) : CellFlt := { c with sumV := 0, nV := 0, sumI := 0, nI := 0, missed := 0 }

/-- One filter steps (R153 to R162). -/
def stepFilter (b : Block) (k : Nat) (c : CellFlt) : CellFlt :=
  match b.slotOf k with
  | none => { c.emptied with valid := false }
  | some x =>
    if !c.initialised then { c.emptied with valid := false }
    else
      match b.stepCurrent k with
      | none => { c with skipped := true, missed := c.missed + 1, predRun := c.predRun + 1 }
      | some i =>
        let t := fxQ (c.missed + 1 : Nat) 100
        let ti := b.tempInput k
        let temp : Int := match ti with
          | some p => p.1
          | none => c.temp.getD Config.firstTemperature
        let tempAt := if ti.isSome then b.sys.now else c.tempAt
        let c0 := if b.flt.wakePending then wakeAdjust b x temp c else c
        let c1 := predict x t i temp c0
        let degr := (b.cell k).degr
        let v := c.vMean
        let m := match v with
          | some v => measure x c.nV v i temp degr c1
          | none => (c1, false)
        let c2 := clampStates x m.1
        let w := walkSoc b.rateRpt t (c1.z - c0.z) c2.z c.r
        let accepted := v.isSome && !m.2
        let sigmaOk := decide (c2.sigma ≤ b.sigmaValid)
        let cleared := c.cleared156 && !(accepted && sigmaOk)
        let c3 := { c2 with
          r := w.1
          walk := w.2
          soh := walkSoh x t c2
          innov := m.2
          innovRun := if m.2 then c.innovRun + 1 else 0
          pred := v.isNone
          predRun := if v.isNone then c.predRun + 1 else 0
          temp := some temp
          tempAt := tempAt
          tSub := match ti with
            | some p => decide (3 ≤ p.2)
            | none => c.tSub
          tClamp := x.clampsT temp
          degr := degr
          cleared156 := cleared
          valid := sigmaOk && decide (b.sys.now < tempAt + 60 * secT) && !cleared }
        (trackRest b.sys.now x i v c3).emptied

/-! ### Distribution over the sequencers (R152, R158) -/

/-- Sequencers in service: F0 to F3 are bits 4 to 7 of the engine mask. -/
def Block.seqsOk (b : Block) : Nat := (((b.sys.engSvc.drop 4).take 4).filter id).length

/-- The filter of cell `c` steps in this period: all with three or four sequencers, every second or third with two or one; none of those whose sequencer the
debug port halts (R474). -/
def Block.stepsNow (b : Block) (c : Nat) : Bool :=
  if b.sec.halted.getD (4 + c / 128) false then false
  else match b.seqsOk with
  | 0 => false
  | 1 => c % 3 == b.flt.turn % 3
  | 2 => c % 2 == b.flt.turn % 2
  | _ => true

/-! ### String figures (R168) -/

/-- Number of a fraction of 65,536 (R14). -/
def enc16 (x : Fx) : Nat := (clampI 0 65535 (fxRound (x * 65536))).toNat

/-- The cell of a list with the least figure; the first of equals. -/
def leastBy (f : Nat → Int) : List Nat → Option Nat
  | [] => none
  | c :: l => match leastBy f l with
    | none => some c
    | some d => if f d < f c then some d else some c

/-- Form the string figures from the latest step. -/
def stringFigures (t : Fx) (b : Block) : Block :=
  let cells := List.range b.nCell
  let valid := cells.filter fun c => (b.cellFlt c).valid
  let degr := (cells.filter fun c => (b.cell c).degr).length
  if valid = [] then b.onFlt fun f => { f with aAvail := 0, eToFull := 0, ocvSum := none, rsSum := 0, nValid := 0, nDegr := degr }
  else
    let x (c : Nat) := b.cellFlt c
    let aOf (c : Nat) : Int := (x c).r * ((x c).cap : Int)
    let eOf (c : Nat) : Int := (fxOne - (x c).r) * ((x c).cap : Int)
    let a := aOf ((leastBy aOf valid).getD 0)
    let e := eOf ((leastBy eOf valid).getD 0)
    let soc := fxDiv a (a + e)
    let dq : Fx := match b.stepCurrent ((valid.head?).getD 0) with
      | some i => if a + e = 0 then 0 else fxDiv (fxMul i t * 1000 / 3600) ((a + e) / 1)
      | none => 0
    let w := walkSoc b.rateRpt t dq soc b.flt.strSoc
    let lo := (leastBy (fun c => (x c).r) valid).getD 0
    let hi := (leastBy (fun c => -(x c).r) valid).getD 0
    let term (c : Nat) : Fx := match b.slotOf c with
      | some s => s.ocvAt (x c).z ((x c).temp.getD Config.firstTemperature) + fxMul (s.mAt (x c).z ((x c).temp.getD Config.firstTemperature)) (x c).h
      | none => 0
    let n : Int := b.nCell
    let nv : Int := valid.length
    let ocv := (valid.foldl (fun s c => s + term c) 0) * n / nv
    let rs := (valid.foldl (fun s c => s + (x c).rs) 0) * n / nv
    b.onFlt fun f => { f with
      strSoc := w.1
      strSoh := enc16 ((x ((leastBy (fun c => (x c).soh) valid).getD 0)).soh)
      aAvail := (fxRound a).toNat
      eToFull := (fxRound e).toNat
      socMin := enc16 (x lo).r
      socMax := enc16 (x hi).r
      idxMin := lo
      idxMax := hi
      ocvSum := some (fxRound (ocv * 1000000))
      rsSum := (fxRound (rs * 1000000)).toNat
      nValid := valid.length
      nDegr := degr }

/-- CAP_MIN, mAh: the smallest CAP of the fitted, valid cells (R173). -/
def Block.capMin (b : Block) : Nat :=
  let l := ((List.range b.nCell).filter fun c => (b.cellFlt c).valid).map fun c => (b.cellFlt c).cap
  match minOf? l with
  | some x => x
  | none => 0

/-- The charge and rest conditions of R173 at a step, from the mean string current of the block; the end of a rest of 10 min starts a save. -/
def trackString (b : Block) : Block :=
  let cm : Int := b.capMin
  let i : Int := match b.sense.cur.last with
    | some u => u / 1000
    | none => 0
  let now := b.sys.now
  let charging := decide (cm < 20 * i) && decide (0 < cm)
  let low := decide (100 * i < cm)
  let rest := decide (|i| * 100 < cm)
  let b1 := b.onFlt fun f => { f with
    chgAt := if charging then (match f.chgAt with
      | some t => some t
      | none => some now) else none
    chgLong := f.chgLong || (match f.chgAt with
      | some t => decide (t + 600 * secT ≤ now) && charging
      | none => false)
    lowAt := if low then (match f.lowAt with
      | some t => some t
      | none => some now) else none
    strRestAt := if rest then (match f.strRestAt with
      | some t => some t
      | none => some now) else none }
  match b.flt.strRestAt with
  | some t => if !rest && decide (t + 600 * secT ≤ now) then startSave 3 b1 else b1
  | none => b1

/-- Events that a step raises for a cell: RS_CLAMP and TCLAMP when they set, INVALID when VALID clears (R179). -/
def noteStep (old : List CellFlt) (b : Block) (c : Nat) : Block :=
  let o := old.getD c CellFlt.reset
  let n := b.cellFlt c
  let b1 := if n.rsClamp && !o.rsClamp then note .fltRsClamp c [] b else b
  let b2 := if n.tClamp && !o.tClamp then note .fltTclamp c [] b1 else b1
  if o.valid && !n.valid then note .fltInvalid c [] b2 else b2

/-! ### Rest observations, capacity (R163 to R167) -/

/-- Round a fixed-point value to the nearest whole number, halves up. -/
def capStep (cap : Nat) (g cm : Fx) : Nat :=
  let raw := fxI cap + fxMul g (cm - fxI cap)
  let lim : Int := (cap : Int) * 5
  let v : Int := fxRound raw
  (clampI (((cap : Int) * 100 - lim + 99) / 100) (((cap : Int) * 100 + lim) / 100) v).toNat

/-- A reference point (R165, R166): the capacity is updated from the previous point, or the first failing condition is recorded; `anchored` leaves RELEARN. -/
def refPoint (k : Nat) (z : Fx) (anchored : Bool) (b : Block) : Block :=
  let c := b.cellFlt k
  let pt : RefPoint := { q := c.q, z := z, time := b.optime }
  let put (f : CellFlt → CellFlt) (b : Block) : Block := onCellFlt k (fun x => { (f x) with lastRef := some pt, skipped := false }) b
  match c.lastRef with
  | none => put id b
  | some p =>
    let dq := fxQ (c.q - p.q) 3600000
    let dz := z - p.z
    let cm := fxDiv dq dz
    let fail : Nat :=
      if |dz| < fxQ b.flt.config.capDzMin 10000 then 1
      else if p.time + 604800000 < b.optime then 2
      else if (dq < 0) ≠ (dz < 0) ∨ dq = 0 then 3
      else if cm * 10 < fxI (8 * (c.cap : Int)) ∨ fxI (12 * (c.cap : Int)) < cm * 10 then 4
      else if c.skipped then 5
      else 0
    if fail ≠ 0 then put id (note .fltCapReject k [fail] b)
    else
      let g := fxQ (min 100 (if c.relearn then 2 * b.flt.config.capGain else b.flt.config.capGain)) 100
      let new := capStep c.cap g cm
      let b1 := note .fltCapUpdate k [c.cap, (fxRound cm).toNat, new] b
      put (fun x => { x with cap := new, capNew := false, relearn := if anchored then true else false }) b1

/-- What a rest observation with mean voltage `v` leads to: a capacity reference point first, then the anchor (R163 to R166, R174). -/
def restObserve (k : Nat) (v : Fx) (b : Block) : Block :=
  let c := b.cellFlt k
  match b.slotOf k with
  | none => b
  | some x =>
    let temp := c.temp.getD Config.firstTemperature
    let i := (b.stepCurrent k).getD 0
    let zv := x.ocvInv (v - fxMul (x.mAt c.z temp) c.h - c.vA - c.vB - fxMul c.rs i) temp
    let b1 := onCellFlt k (fun y => { y with restSeen := true }) b
    let okV := decide (x.ocvAt (frac16 x.zEmpty) temp + fxQ 20 1000 < v)
    let okT := c.temp.isSome && !c.tSub
    let okD := !(b.cell k).degr && !c.tClamp
    let anch := okV && okT && okD && decide (fxQ b.flt.config.anchDz 10000 ≤ |zv - c.z|)
    let slope := decide (fxQ 1 10 ≤ slopeOf (fun z => x.ocvAt z temp) zv)
    let b1r := if anch then onCellFlt k (fun y => { y with relearn := true }) b1 else b1
    let b2 := if okV && okT && okD && slope then refPoint k zv anch b1r else b1r
    let b3 := if !anch then b2 else
      note .fltAnchor k [enc16 c.z, enc16 zv, (fxRound (v * 1000000)).toNat, ofSigned 16 temp] (onCellFlt k (fun y => { y with
        z := zv
        relearn := true
        p := mat fun a b => if a = 0 ∧ b = 0 then fxQ 1 10000 else if a = 0 ∨ b = 0 then 0 else ent y.p a b }) b2)
    b3.touch [0x43, 0x100 + k]

/-- REST_OBSERVATION (R163): the rest reaches 30 s; the mean of the step inputs over the last second. -/
def doRestObservation (k : Nat) (b : Block) : Block :=
  let c := b.cellFlt k
  match c.restAt with
  | some t =>
    if c.restSeen || !c.initialised || decide (b.nCell ≤ k) || c.restV.isEmpty then b
    else
      let n : Nat := match b.seqsOk with
        | 1 => 33
        | 2 => 50
        | _ => 100
      let vs := c.restV.take n
      restObserve k ((vs.foldl (· + ·) 0) / (vs.length : Int)) (b.at (t + 30 * secT))
  | none => b

/-- The 30 latest snapshots of HIBERNATE each met the cell's rest condition: their mean voltage (R171). -/
def Block.hibMean (b : Block) (k : Nat) : Option Fx :=
  let l := b.flt.hibRest
  let cap : Int := (b.cellFlt k).cap
  if 30 ≤ l.length ∧ (l.all fun r => decide (|r.headD 0| < cap * 10)) = true then
    some (fxQ ((l.map fun r => r.getD (k + 1) 0).foldl (· + ·) 0) (30 * 2048000000))
  else none

/-- The rest observations of the first step after a wake (R171). -/
def wakeObserve (b : Block) : Block :=
  (List.range b.nCell).foldl (fun b k => match b.hibMean k with
    | some v => if (b.cellFlt k).initialised && !(b.cellFlt k).restSeen then restObserve k v b else b
    | none => b) b

def execRestObservation (cell : Fin 512) (s : State) := effect (doRestObservation cell) s

/-- FILTER_STEP (R152 to R162, R168, R171): at counts that are multiples of 1,000,000, from the end of BOOT, outside HIBERNATE; after a wake the first step
comes at least 10 ms after the first aperture at the restored rate. -/
def doFilterStep (b : Block) : Block :=
  let s := b.nextMultiple 1000000
  let early := b.flt.wakePending && (decide (b.sense.rate = 4) || decide (s < b.sense.win0.startAt + 10 * msT))
  if b.sys.mstate = .boot ∨ b.sys.mstate = .off ∨ b.sys.mstate = .hibernate ∨ early ∨ b.seqsOk = 0 then b
  else
    let b1 := b.at s
    let old := b1.flt.cells
    let b2 := b1.onFlt fun f => { f with
      cells := f.cells.mapIdx fun c x => if b1.nCell ≤ c then x else if b1.stepsNow c then stepFilter b1 c x else { x with missed := x.missed + 1 }
      frozen := false
      wakePending := false
      turn := (f.turn + 1) % 6
      steps := f.steps + 1
      lastStep := s % 4294967296 }
    let b3 := (List.range b.nCell).foldl (noteStep old) b2
    let b4 := if b.flt.wakePending then (wakeObserve b3).onFlt (fun f => { f with hibRest := [], hibAt := none }) else b3
    (trackString (stringFigures (fxQ 1 100) b4)).touch fltTiles

def execFilterStep (s : State) := effect doFilterStep s

/-- FULL_CHARGE_EVENT (R165): 60 s of low charge current at or above V_FULL. -/
def doFullChargeEvent (k : Nat) (b : Block) : Block :=
  let c := b.cellFlt k
  match c.fullAt, b.slotOf k with
  | some t, some x =>
    if c.fullSeen || (b.cell k).degr || !c.initialised then b
    else (refPoint k (frac16 x.zFull) false (onCellFlt k (fun y => { y with fullSeen := true }) (b.at (t + 60 * secT)))).touch [0x43, 0x100 + k]
  | _, _ => b

def execFullChargeEvent (cell : Fin 512) (s : State) := effect (doFullChargeEvent cell) s

/-- VALID clears, with FLT_INVALID (R159, R179). -/
def clearValid (k : Nat) (f : CellFlt → CellFlt) (b : Block) : Block :=
  let b1 := onCellFlt k (fun x => { (f x) with valid := false }) b
  (if (b.cellFlt k).valid then note .fltInvalid k [] b1 else b1).touch [0x43, 0x100 + k]

/-- FILTER_VALID_LOST (R156): 100 consecutive predicted-only or skipped steps. -/
def doFilterValidLost (k : Nat) (b : Block) : Block := if (b.cellFlt k).predRun < 100 then b else clearValid k (fun x => { x with cleared156 := true }) b
def execFilterValidLost (cell : Fin 512) (s : State) := effect (doFilterValidLost cell) s

/-- FLT_INNOV (R179): the update has been rejected in 100 consecutive steps. -/
def doFltInnov (k : Nat) (b : Block) : Block := if (b.cellFlt k).innovRun < 100 then b else note .fltInnov k [] (onCellFlt k (fun x => { x with innovRun := 0 }) b)
def execFltInnov (cell : Fin 512) (s : State) := effect (doFltInnov cell) s

/-- TEMP_SOURCE_TIMEOUT (R154): 60 s without any source. -/
def doTempSourceTimeout (k : Nat) (b : Block) : Block :=
  if (b.tempInput k).isSome || !(b.cellFlt k).initialised then b else clearValid k id (b.at ((b.cellFlt k).tempAt + 60 * secT))
def execTempSourceTimeout (cell : Fin 512) (s : State) := effect (doTempSourceTimeout cell) s

/-! ### Initialisation (R172, R175, R535) -/

/-- The covariance after initialisation with σ of z in percent; R155 gives no other initial σ, so every other entry is free (log entry 9). -/
def initP (pct : Nat) : List (List Fx) := mat fun a b => if a = 0 ∧ b = 0 then fxQ (pct * pct : Nat) 10000 else Config.initialCovariance (min a b) (max a b)

/-- z from the latest W1 result (R172); a W1 result without a value is open (log entry 10). -/
def Block.zFromW1 (b : Block) (k : Nat) (x : Slot) (h rs : Fx) (temp : Int) : Fx :=
  let v : Fx := match (b.cell k).chan.w1 with
    | some w => fxQ w 2048000000
    | none => Config.unreadAtInit 0
  let i : Fx := match b.sense.cur.w1 with
    | some u => fxQ u 1000000
    | none => Config.unreadAtInit 1
  let z0 := x.ocvInv v temp
  x.ocvInv (v - fxMul (x.mAt z0 temp) h - fxMul rs i) temp

/-- Initialise the filter of one cell from its learned entry (R172, R535). -/
def initCell (b : Block) (k : Nat) (c : CellFlt) : CellFlt :=
  match b.slotOf k with
  | none => c
  | some x =>
    let e? : Option LearnEntry := match b.flt.inForce with
      | some f => match f.cells[k]? with
        | some e => if e.capV && e.slot == b.flt.slotMap.getD (segOf k) 0 then some e else none
        | none => none
      | none => none
    let cap : Nat := match e? with
      | some e => e.cap
      | none => x.capNom
    let rs := match e? with
      | some e => fxQ e.rs 1000000
      | none => fxQ x.rs0 1000000
    let h := match e? with
      | some e => fxQ e.h 32767
      | none => 0
    let temp : Int := match b.tempInput k with
      | some p => p.1
      | none => c.temp.getD Config.firstTemperature
    let i : Fx := match b.sense.cur.w1 with
      | some u => fxQ u 1000000
      | none => Config.unreadAtInit 1
    let z := b.zFromW1 k x h rs temp
    let c1 : CellFlt := { c with
      initialised := true, z := z, vA := 0, vB := 0, h := h, rs := rs, cap := cap, r := clampI 0 fxOne z, soh := sohTarget x cap, capNew := e?.isNone
      p := initP (if |i| * 100000 < fxI (cap : Int) then 3 else 10)
      temp := (b.tempInput k).map (·.1)
      tempAt := b.sys.now }
    c1.emptied

/-- LEARNED_INIT: the learned values and the filter states of every fitted cell whose slot holds a table; a copy that fails its CRC raises LEARN_COPY_BAD,
with none LEARN_NONE (R172, R535). -/
def learnedInit (b : Block) : Block :=
  let b1 := if b.flt.copyA.valid || b.flt.copyA.gen = 0 then b else note .learnCopyBad 0 [] b
  let b2 := if b.flt.copyB.valid || b.flt.copyB.gen = 0 then b1 else note .learnCopyBad 1 [] b1
  let b3 := if b.flt.inForce.isNone then note .learnNone noArg [] b2 else b2
  let b4 := b3.onFlt fun f => { f with
    learned := true
    cells := f.cells.mapIdx fun k c => if k < b.nCell then initCell b k c else c }
  let b5 := match b.flt.inForce with
    | none => b4
    | some f => b4.onImp fun i => { i with
        cells := i.cells.mapIdx fun k (m : ImpCell) => match f.cells[k]? with
        | some e =>
          let mine := e.slot == b.flt.slotMap.getD (segOf k) 0 && e.capV
          { m with tOff := if mine && e.offL then e.tOff else 0, offL := mine && e.offL, base := if e.baseV then e.base else [], baseV := e.baseV, tBase := e.tBase, bTime := e.bTime }
        | none => m }
  b5.touch (fltTiles ++ [0x46])

/-- Reinitialise a cell as FLT_RESET_CELL does; r is not set (R175). -/
def resetCell (k : Nat) (b : Block) : Block :=
  match b.slotOf k with
  | none => b
  | some x =>
    let temp : Int := match b.tempInput k with
      | some p => p.1
      | none => (b.cellFlt k).temp.getD Config.firstTemperature
    let rs0 := fxQ x.rs0 1000000
    let z := b.zFromW1 k x 0 rs0 temp
    (onCellFlt k (fun c => { c with
      initialised := true, z := z, vA := 0, vB := 0, h := 0, rs := rs0, cap := x.capNom, capNew := true, p := initP 10, lastRef := none
      temp := some temp }) b).touch [0x43, 0x100 + k]

/-! ### Saves (R173, R534) -/

/-- SAVE_INTERVAL: 15 min of operating time since the last save. -/
def doSaveInterval (b : Block) : Block := startSave 1 (b.at ((b.flt.lastSave + 900000 - b.log.opBoot) * msT))
def execSaveInterval (s : State) := effect doSaveInterval s

/-- CHARGE_END_DETECTED: 30 s below CAP_MIN / 100 h after a charge of 10 min. -/
def doChargeEndDetected (b : Block) : Block :=
  match b.flt.chgLong, b.flt.lowAt with
  | true, some t => startSave 2 ((b.at (t + 30 * secT)).onFlt fun f => { f with chgLong := false })
  | _, _ => b
def execChargeEndDetected (s : State) := effect doChargeEndDetected s

/-- SAVE_DONE: the copy is in force from the moment its CRC is complete; a failed read-back leaves the previous one (R173, R534). -/
def doSaveDone (ok : Bool) (b : Block) : Block :=
  match b.flt.saving with
  | none => b
  | some s =>
    let t := b.optime
    let b1 := b.onFlt fun f => { f with
      saving := none
      copyA := if ok && !s.toB then s.copy else f.copyA
      copyB := if ok && s.toB then s.copy else f.copyB
      saves := if ok then f.saves + 1 else f.saves
      lastCause := if ok then s.cause else f.lastCause
      lastSave := if ok then t % 4294967296 else f.lastSave
      saveLen := (b.sys.now - s.started) / usT
      saveSrcs := (f.saveSrcs.filter fun p => p.2).map fun (p : Src × Bool) => (p.1, false) }
    let b2 := if ok then note .fltSave noArg [s.cause] b1 else note .fltSaveFail noArg [s.cause] b1
    let b3 := ((b.flt.saveSrcs.filter fun p => !p.2).map (·.1)).foldl (fun b src => complete src (if ok then .ok else .fault) [] b) b2
    let b4 := match b.flt.saveAgain with
      | some c => startSave c (b3.onFlt fun f => { f with saveAgain := none })
      | none => b3
    b4.touch [0x44, 0x18]

def execSaveDone (ok : Bool) (s : State) := effect (doSaveDone ok) s

/-- WAKE_CURRENT (R170, R171): 100 consecutive wake-monitor samples above 2 A. -/
def doWakeCurrent (b : Block) : Block := if b.sys.mstate = .hibernate then enterState .park Event.fltWake.code (noteWake 0 b) else b
def execWakeCurrent (s : State) := effect doWakeCurrent s

/-! ### Commands (R175) -/

def ruleFltSetConfig (src : Src) (rateRpt anchDz capDzMin capGain sigmaValid tSrc : Nat) (_b : Block) : HostRule :=
  { opcode := 0x0501, owner := true, stateOk := true
    param := need (decide (5 ≤ rateRpt ∧ rateRpt ≤ 500 ∧ 50 ≤ anchDz ∧ anchDz ≤ 2000 ∧ 1000 ≤ capDzMin ∧ capDzMin ≤ 9000 ∧ 1 ≤ capGain ∧ capGain ≤ 100
      ∧ 100 ≤ sigmaValid ∧ sigmaValid ≤ 2000 ∧ tSrc ≤ 1))
    act := fun b => (complete src .ok [] (settingChanged (b.onFlt fun f => { f with
      config := { rateRpt := rateRpt, anchDz := anchDz, capDzMin := capDzMin, capGain := capGain, sigmaValid := sigmaValid, tSrc := tSrc } }))).touch [0x44] }

def execFltSetConfig (src : Src) (rateRpt anchDz capDzMin capGain sigmaValid tSrc : Nat) (s : State) :=
  effect (host src (ruleFltSetConfig src rateRpt anchDz capDzMin capGain sigmaValid tSrc)) s

/-- Bytes staged at an offset. -/
def stageBytes (old : List (Option Byte)) (offset : Nat) (bytes : List Byte) : List (Option Byte) :=
  old.mapIdx fun i x => if offset ≤ i ∧ i < offset + bytes.length then some (bytes.getD (i - offset) 0) else x

/-- A write at offset 0 begins staging unless this slot is being staged; another write needs its slot's staging (R175). -/
def ruleFltSlotWrite (src : Src) (slot offset : Nat) (bytes : List Byte) (b : Block) : HostRule :=
  let staging := match b.flt.staging with
    | some s => s.1 == slot
    | none => false
  { opcode := 0x0502, owner := true, stateOk := true
    param := need (decide (slot ≤ 3 ∧ 1 ≤ bytes.length ∧ bytes.length ≤ 1024 ∧ offset + bytes.length ≤ slotLen) && (staging || offset == 0))
    act := fun b =>
      let old := match b.flt.staging with
        | some s => if s.1 = slot then s.2 else List.replicate slotLen none
        | none => List.replicate slotLen none
      complete src .ok [] (b.onFlt fun f => { f with staging := some (slot, stageBytes old offset bytes) }) }

def execFltSlotWrite (src : Src) (slot offset : Nat) (bytes : List Byte) (s : State) := effect (host src (ruleFltSlotWrite src slot offset bytes)) s

/-- A slot assigned to a fitted segment (R151). -/
def Block.slotUsed (b : Block) (slot : Nat) : Bool := (List.range b.nSeg).any fun n => b.flt.slotMap.getD n 0 == slot

def ruleFltSlotCommit (src : Src) (slot : Nat) (b : Block) : HostRule :=
  { opcode := 0x0503, owner := true, stateOk := !(decide (b.sys.mstate = .run) && b.slotUsed slot), param := need (decide (slot ≤ 3))
    act := fun b =>
      let staged := match b.flt.staging with
        | some s => if s.1 = slot then s.2 else []
        | none => []
      let code := slotCheck staged
      if code ≠ 0 then complete src .badParam (leBytes 1 code ++ leBytes 4 0) b
      else
        let x := parseSlot (staged.map fun y => y.getD 0)
        let b1 := settingChanged (b.onFlt fun f => { f with slots := modAt f.slots slot (fun _ => some x), staging := none })
        (complete src .ok (leBytes 1 0 ++ leBytes 4 x.crc) (note .fltSlotCommit noArg [slot, x.crc] b1)).touch [0x44] }

def execFltSlotCommit (src : Src) (slot : Nat) (s : State) := effect (host src (ruleFltSlotCommit src slot)) s

def ruleFltSlotRead (src : Src) (slot offset length : Nat) (b : Block) : HostRule :=
  { opcode := 0x0504, owner := false, stateOk := true
    param := need (decide (slot ≤ 3 ∧ 1 ≤ length ∧ length ≤ 1024 ∧ offset + length ≤ slotLen) && (b.flt.slots.getD slot none).isSome)
    act := fun b => match b.flt.slots.getD slot none with
      | some x => complete src .ok ((x.bytes.drop offset).take length) b
      | none => complete src .badParam [] b }

def execFltSlotRead (src : Src) (slot offset length : Nat) (s : State) := effect (host src (ruleFltSlotRead src slot offset length)) s

def ruleFltSetSlot (src : Src) (mask slot : Nat) (b : Block) : HostRule :=
  { opcode := 0x0505, owner := true, stateOk := decide (b.sys.mstate = .park)
    param := need (b.maskFitted mask && decide (slot ≤ 3) && (b.flt.slots.getD slot none).isSome)
    act := fun b =>
      let b1 := b.onFlt fun f => { f with slotMap := f.slotMap.mapIdx fun n x => if mask.testBit n then slot else x }
      let b2 := ((List.range b.nCell).filter fun c => mask.testBit (segOf c)).foldl (fun b c => resetCell c b) b1
      (complete src .ok [] (settingChanged b2)).touch fltTiles }

def execFltSetSlot (src : Src) (mask slot : Nat) (s : State) := effect (host src (ruleFltSetSlot src mask slot)) s

def ruleFltSetCap (src : Src) (cell cap : Nat) (b : Block) : HostRule :=
  { opcode := 0x0506, owner := true, stateOk := true, param := need (decide (cell < b.nCell ∧ 1000 ≤ cap ∧ cap ≤ 2000000))
    act := fun b => (complete src .ok [] (onCellFlt cell (fun c => { c with cap := cap, relearn := true, capNew := false }) b)).touch [0x43, 0x100 + cell] }

def execFltSetCap (src : Src) (cell cap : Nat) (s : State) := effect (host src (ruleFltSetCap src cell cap)) s

def ruleFltResetCell (src : Src) (cell : Nat) (b : Block) : HostRule :=
  { opcode := 0x0507, owner := true, stateOk := decide (b.sys.mstate = .park), param := need (decide (cell < b.nCell))
    act := fun b => complete src .ok [] (resetCell cell b) }

def execFltResetCell (src : Src) (cell : Nat) (s : State) := effect (host src (ruleFltResetCell src cell)) s

/-- FLT_SAVE_NOW completes with its save; one that comes during a save waits for the further one (R173). -/
def ruleFltSaveNow (src : Src) (b : Block) : HostRule :=
  { opcode := 0x0508, owner := true, stateOk := decide (b.sys.mstate ≠ .boot), param := none
    act := fun b =>
      let later := b.flt.saving.isSome
      startSave 7 (b.onFlt fun f => { f with saveSrcs := f.saveSrcs ++ [(src, later)] }) }

def execFltSaveNow (src : Src) (s : State) := effect (host src (ruleFltSaveNow src)) s

def ruleFltGetConfig (src : Src) (_b : Block) : HostRule := { opcode := 0x0509, owner := false, stateOk := true, param := none, act := replyTile src 0x44 12 }

def execFltGetConfig (src : Src) (s : State) := effect (host src (ruleFltGetConfig src)) s

/-! ### What a stored snapshot brings to the filters (R153, R169) -/

/-- A stored snapshot joins the block: a cell's published reading unless it carries CHF, RNG, EXCL or LEARNP, and the selected current. -/
def fltTake (b : Block) : Block := b.onFlt fun f => { f with
  cells := f.cells.mapIdx fun k c =>
    if b.nCell ≤ k then c
    else
      let x := b.cell k
      let c1 := match x.chan.last with
        | some v => if x.chf || x.rng || x.excl || x.learnp then c else { c with sumV := c.sumV + v, nV := c.nV + 1 }
        | none => c
      match b.sense.cur.last with
      | some i => { c1 with sumI := c1.sumI + i, nI := c1.nI + 1 }
      | none => c1 }

/-- In HIBERNATE a 1 Hz snapshot's charge goes to every cell's count, z and r, and to Q_HIB, in µA·s; the rest count goes on (R169, R171). -/
def hibernateTake (b : Block) : Block :=
  match b.sense.cur.last with
  | none => b
  | some i =>
    let ia := fxQ i 1000000
    b.onFlt fun f => { f with
      qHib := f.qHib + i
      hibRest := ((i :: (List.range b.nCell).map fun k => (b.cell k).chan.last.getD 0) :: f.hibRest).take 30
      cells := f.cells.mapIdx fun k c => match b.slotOf k with
        | none => c
        | some x =>
          let dq := dqOf (x.etaAt ia) ia fxOne c.cap
          { c with z := clampI (-(fxOne / 20)) (fxOne + fxOne / 20) (c.z + dq), r := clampI 0 fxOne (c.r + dq), q := c.q + fxRound (fxMul (x.etaAt ia) ia * 1000000)
                   restAt := if |ia| * 100000 < fxI (c.cap : Int) then (match c.restAt with
                     | some t => some t
                     | none => some b.sys.now) else none } }

end Sys2Proof.Machine
end

