-- ==== Sys2Proof/Machine/Retune.lean ====
section
/-! DEFINITION. The design of compensator coefficients and the prediction of margins (R222, R223). Reals are fixed point (log entry 6). -/

namespace Sys2Proof.Machine

/-- A complex number in fixed point, as a pair. -/
abbrev Fz := Fx × Fx

def zMul (a b : Fz) : Fz := (fxMul a.1 b.1 - fxMul a.2 b.2, fxMul a.1 b.2 + fxMul a.2 b.1)
def zAdd (a b : Fz) : Fz := (a.1 + b.1, a.2 + b.2)
def zAbs (a : Fz) : Fx := fxSqrt (fxMul a.1 a.1 + fxMul a.2 a.2)
def zDiv (a b : Fz) : Fz :=
  let d := fxMul b.1 b.1 + fxMul b.2 b.2
  (fxDiv (fxMul a.1 b.1 + fxMul a.2 b.2) d, fxDiv (fxMul a.2 b.1 - fxMul a.1 b.2) d)

/-- Product of two polynomials in 1/z, lowest power first. -/
def polyMul (a b : List Fx) : List Fx :=
  (List.range (a.length + b.length - 1)).map fun n => (List.range (n + 1)).foldl (fun s i => s + fxMul (a.getD i 0) (b.getD (n - i) 0)) 0

/-- Sine and cosine of an angle in radians. -/
def sinRad (x : Fx) : Fx := sinTurn (fxDiv x (2 * fxPi))
def cosRad (x : Fx) : Fx := cosTurn (fxDiv x (2 * fxPi))

/-- fc in Hz: the smaller of FC_SET (mHz) and 1 / (ts × NFC_MIN), ts from TC in ticks (R222). -/
def fcOf (tc fcSet nfcMin : Nat) : Fx := min (fxQ fcSet 1000) (fxQ 100000000 ((tc * max 1 nfcMin : Nat)))

/-- The seven coefficients a1, a2, a3, b0 to b3 for a plant r + s·l, Ω and H (R222): c(s) under the bilinear map that is exact at fc. -/
def designReal (tc : Nat) (fc l r : Fx) : List Fx :=
  let ts := fxQ tc 100000000
  let wc := 2 * fxMul fxPi fc
  let wz := wc / 3
  let wp1 := 3 * wc
  let wp2 := fxDiv fxPi (2 * ts)
  let k := fxMul wc (zAbs (fxOne, fxDiv wc wp2)) / 3
  let half := fxMul wc ts / 2
  let kb := fxDiv (fxMul wc (cosRad half)) (sinRad half)
  let p : List Fx := [fxOne, -fxOne]
  let q : List Fx := [fxOne, fxOne]
  let lin (a b : Fx) : List Fx := List.zipWith (· + ·) (q.map (fxMul a)) (p.map (fxMul b))
  let num := polyMul (polyMul ((lin r (fxMul l kb)).map (fxMul k)) (lin fxOne (fxDiv kb wz))) q
  let den := polyMul (polyMul (p.map (fxMul kb)) (lin fxOne (fxDiv kb wp1))) (lin fxOne (fxDiv kb wp2))
  let d0 := den.getD 0 0
  [-(fxDiv (den.getD 1 0) d0), -(fxDiv (den.getD 2 0) d0), -(fxDiv (den.getD 3 0) d0)] ++ (List.range 4).map fun i => fxDiv (num.getD i 0) d0

/-- Coefficients as s32 with 24 fraction bits (R221). -/
def coefBits (c : List Fx) : List Int := c.map fun x => clampI (-2147483648) 2147483647 (fxRound (x * 16777216))

/-- A coefficient as a real. -/
def coefReal (c : Int) : Fx := c * (fxOne / 16777216)

/-- c(z) at an angular frequency times ts, by its coefficients. -/
def ctlAt (c : List Int) (th : Fx) : Fz :=
  let e (n : Nat) : Fz := (cosRad (th * n), -(sinRad (th * n)))
  let term (i n : Nat) : Fz := zMul (coefReal (c.getD i 0), 0) (e n)
  let num := (List.range 4).foldl (fun s n => zAdd s (term (3 + n) n)) (0, 0)
  let den := (List.range 3).foldl (fun s n => zAdd s (zMul (-fxOne, 0) (term n (n + 1)))) (fxOne, 0)
  zDiv num den

/-- Log-spaced frequency `i` of 256 from fc / 100 to 1 / (2·ts) (R223 step 5). -/
def sweepAt (tc : Nat) (fc : Fx) (i : Nat) : Fx :=
  let f0 := fc / 100
  let f1 := fxQ 100000000 (2 * tc : Nat)
  fxMul f0 (fxExp (fxLn (fxDiv f1 f0) * (i : Int) / 255))

/-- Gain and phase (radians) of the loop at one frequency: c(z) and the plant exp(-jω 1.5 ts) / (r + jωl). -/
def loopAt (tc : Nat) (c : List Int) (l r f : Fx) : Fx × Fx :=
  let ts := fxQ tc 100000000
  let w := 2 * fxMul fxPi f
  let z := ctlAt c (fxMul w ts)
  let plant : Fz := (r, fxMul w l)
  (fxDiv (zAbs z) (zAbs plant), fxAtan2 z.2 z.1 - fxMul w ts * 3 / 2 - fxAtan2 plant.2 plant.1)

/-- Phase margin in 0.01° and gain margin in 0.01 dB: at the first of the 256 frequencies with gain at or below 1, and with phase at or below -180°;
180° and 100 dB where there is none. -/
def marginsOf (tc : Nat) (fc : Fx) (c : List Int) (l r : Fx) : Int × Int :=
  let pts := (List.range 256).map fun i => loopAt tc c l r (sweepAt tc fc i)
  let pm : Int := match pts.find? fun p => decide (p.1 ≤ fxOne) with
    | some p => fxRound (fxDiv ((fxPi + p.2) * 18000) fxPi)
    | none => 18000
  let gm : Int := match pts.find? fun p => decide (p.2 ≤ -fxPi) with
    | some p => fxRound (-(fxDiv (fxLn p.1 * 2000) (fxLn (fxI 10))))
    | none => 10000
  (clampI (-32767) 32767 pm, clampI (-32767) 32767 gm)

/-- The fit of R223 steps 1 to 3 over points (f in Hz, Z in Ω): the modulator delay removed, r = max(0, mean Re), l = Σ ω Im / Σ ω², and the residual. -/
def fitPlant (tc : Nat) (pts : List (Fx × Fz)) : Fx × Fx × Fx :=
  let ts := fxQ tc 100000000
  let zs := pts.map fun p =>
    let w := 2 * fxMul fxPi p.1
    let a := -(fxMul w ts / 2)
    (w, zMul p.2 (cosRad a, sinRad a))
  let n : Int := max 1 zs.length
  let r := max 0 (zs.foldl (fun s p => s + p.2.1) 0 / n)
  let sw := zs.foldl (fun s p => s + fxMul p.1 p.2.2) 0
  let sww := zs.foldl (fun s p => s + fxMul p.1 p.1) 0
  let l := fxDiv sw sww
  let sq (a : Fz) : Fx := fxMul a.1 a.1 + fxMul a.2 a.2
  let err := zs.foldl (fun s p => s + sq (p.2.1 - r, p.2.2 - fxMul p.1 l)) 0
  let all_ := zs.foldl (fun s p => s + sq p.2) 0
  (r, l, fxSqrt (fxDiv err all_))

end Sys2Proof.Machine
end

