-- ==== Sys2Proof/Machine/Converter.lean ====
section
/-! DEFINITION. The string converter: phases, carrier, modulation, compensators, limits, soft start, settings (R206 to R247). -/

namespace Sys2Proof.Machine

/-! ### Readings -/

def Block.phase (b : Block) (k : Nat) : Phase := b.cnv.phases.getD k Phase.reset

/-- The modulating phases, in order of number (R215). -/
def Block.modPhases (b : Block) : List Nat := (List.range 8).filter fun k => (b.phase k).st.modulating

/-- The READY phases. -/
def Block.readyPhases (b : Block) : List Nat := (List.range 8).filter fun k => decide ((b.phase k).st = .ready)

/-- Join fraction: 1 for ACTIVE, the place in the 100 ms ramp for JOINING, 0 otherwise (R213, R215). -/
def Block.joinFraction (b : Block) (k : Nat) : Fx :=
  match (b.phase k).st, (b.phase k).joinAt with
  | .active, _ => fxOne
  | .joining, some t => min fxOne (fxQ (b.sys.now - t) (100 * msT))
  | _, _ => 0

/-- n_eff (R215, R228). -/
def Block.nEff (b : Block) : Fx := ((List.range 8).map b.joinFraction).foldl (· + ·) 0

/-- Weights sum to 1: a joining phase takes its fraction of 1/n and the ACTIVE phases share the rest (R215). -/
def Block.weightOf (b : Block) (k : Nat) : Fx :=
  let ms := b.modPhases
  let n : Int := ms.length
  let act : Int := (ms.filter fun j => decide ((b.phase j).st = .active)).length
  let joined := ((ms.filter fun j => decide ((b.phase j).st = .joining)).map b.joinFraction).foldl (· + ·) 0
  if n = 0 then 0
  else match (b.phase k).st with
    | .joining => b.joinFraction k / n
    | .active => if act = 0 then 0 else (fxOne - joined / n) / act
    | _ => 0

/-- Median of the latest link samples of the READY and modulating phases, mV; the mean of the middle two for an even count (R219). -/
def Block.vLinkMv (b : Block) : Option Int :=
  let l := ((List.range 8).filter fun k => (b.phase k).st.modulating || decide ((b.phase k).st = .ready)).filterMap fun k => (b.phase k).vLink
  let s := l.mergeSort
  match s with
  | [] => none
  | _ => if s.length % 2 = 1 then some (s.getD (s.length / 2) 0) else some (divNear (s.getD (s.length / 2 - 1) 0 + s.getD (s.length / 2) 0) 2)

/-- V_LAST of tile 0x0040, mV. -/
def Block.vStrMv (b : Block) : Option Int := b.sense.strV.last.map fun v => divNear v 1000

/-- The converter is in PREBIAS, RAMP or SETTLE. -/
def CState.softStart : CState → Bool
  | .prebias => true
  | .ramp => true
  | .settle => true
  | _ => false

/-- Effective limits, mA: charge and discharge magnitudes (R228). -/
def Block.ilimEff (b : Block) : Nat × Nat :=
  let c := b.cnv.set
  let lim := (fxRound (b.nEff * (c.iPhCont : Int) * (if b.cnv.foldback then 9 else 10) / 10)).toNat
  let ss (n : Nat) := if b.cnv.st.softStart then min n c.ilimSs else n
  (ss (min c.ilimChg (min b.iFloor lim)), ss (min c.ilimDis (min b.iFloor lim)))

/-- Limit a reference; the flag says that it stood at a limit (R228). -/
def Block.limitRef (b : Block) (i : Int) : Int × Bool :=
  let l := b.ilimEff
  let v := clampI (-(l.2 : Int)) (l.1 : Int) i
  (v, decide (v ≠ i))

/-! ### Phase membership (R212 to R215) -/

/-- Modulating phases below N_MIN in RUN while the converter modulates (R239). -/
def checkLow (b : Block) : Block :=
  if b.sys.mstate = .run ∧ b.cnv.st.modulates = true ∧ b.cnv.st ≠ .softstop ∧ b.modPhases.length < b.cnv.set.nMin then raise .cnvPhasesLow noArg [b.modPhases.length] b else b

/-- A phase leaves for a state that is not modulated, and the count is checked. -/
def dropPhase (k : Nat) (st : PhState) (b : Block) : Block := checkLow (setPhase k st b)

/-- A phase goes OUT with a reason (R214, R244). -/
def phaseOut (k reason : Nat) (b : Block) : Block :=
  let b1 := setPhase k .out (onPhase k (fun p => { p with outr := reason }) b)
  checkLow (note .cnvPhaseOut k [reason] b1)

/-- Start of JOINING: duty, history and state of the lowest-numbered ACTIVE phase, trim 0 (R215). -/
def joinPhase (k : Nat) (b : Block) : Block :=
  let b1 := match (List.range 8).find? fun j => decide ((b.phase j).st = .active) with
    | some j => onPhase k (fun p => { p with duty := (b.phase j).duty, trim := 0, comp := { p.comp with e := (b.phase j).comp.e, u := (b.phase j).comp.u } }) b
    | none => onPhase k (fun p => { p with trim := 0 }) b
  setPhase k .joining b1

/-- READY phases join while the converter regulates, outside a Hinge hold (R214, R237). -/
def admitPhases (b : Block) : Block := if b.cnv.st = .regulate ∧ b.hinge = false then b.readyPhases.foldl (fun b k => joinPhase k b) b else b

/-- CONFIG is sent with the present I_FAST, 0.1 A (R211, R214). -/
def sendConfig (k : Nat) (b : Block) : Block := onPhase k (fun p => { p with thrSent := b.cnv.set.iFast / 100 % 65536, ack := none }) b

/-- States that a lost GDU takes to SEARCH: SEARCH to HICCUP (R214). -/
def PhState.searching : PhState → Bool
  | .unconfigured => false
  | .out => false
  | _ => true

/-- ROLLCALL (R212, R214): phase k is polled 12.5 ms × k after each multiple of 10,000,000; a third answer missed sends it to SEARCH. -/
def doRollcall (k : Nat) (b : Block) : Block :=
  if b.sec.halted.getD (8 + k / 4) false then b else
  let p := b.phase k
  if p.st = .unconfigured ∨ b.cnv.fibreOn = false ∨ b.sys.mstate = .off then b
  else
    let at_ := multipleFrom 10000000 (b.sys.now + 1 - min (b.sys.now + 1) (1250000 * k)) + 1250000 * k
    let miss := if p.rcOpen then p.rcMiss + 1 else 0
    let b1 := onPhase k (fun p => { p with
      rcMiss := miss, rcGood := if p.rcOpen then 0 else p.rcGood, rcSeq := (p.rcSeq + 1) % 256, rcOpen := true, rcAt := max b.sys.now at_ }) (b.at at_)
    if 3 ≤ miss ∧ p.st.searching = true ∧ p.st ≠ .search then dropPhase k .search b1 else b1

def execRollcall (phase : Fin 8) (s : State) := effect (doRollcall phase) s

/-- DOWNLINK_FRAME (R209): every 1 µs; the frame count advances. -/
def doDownlinkFrame (k : Nat) (b : Block) : Block :=
  if (b.phase k).st = .unconfigured ∨ b.cnv.fibreOn = false then b else (b.at (b.nextMultiple usT)).onCnv fun c => { c with dnCount := (c.dnCount + 1) % 16 }

def execDownlinkFrame (phase : Fin 8) (s : State) := effect (doDownlinkFrame phase) s

/-! ### Soft start (R231 to R235) -/

/-- First check of PRECHECK that fails, 1 to 4; 0 when all hold (R232). -/
def Block.precheck (b : Block) : Nat :=
  if b.readyPhases.length < b.cnv.set.nMin then 1
  else match b.vLinkMv, b.vStrMv with
    | some v, some s => if b.vlinkMax < v then 3 else if v < s - 50000 then 4 else 0
    | _, _ => 2

/-- Entry to PREBIAS (R232, R233): READY phases become ACTIVE, histories, trims and integral 0, V_REF the measured link, V_TGT the target in force. -/
def enterPrebias (b : Block) : Block :=
  let v := b.vLinkMv.getD 0
  let b1 := b.readyPhases.foldl (fun b k => note .cnvPhaseJoin k [] (setPhase k .active b)) b
  let tgt := match b.cnv.vCmd with
    | some p => p.1
    | none => b.cnv.set.vTarget
  let slew := match b.cnv.vCmd with
    | some p => p.2
    | none => b.cnv.set.slewV
  (b1.onCnv fun c => { c with
    st := .prebias
    vRef := some (fxI v)
    vTgt := some (fxI (if tgt = 0 then v else tgt))
    slew := slew
    vInt := 0
    preRuns := 0
    vCmdDue := false
    settleAt := none
    phases := c.phases.map fun p => { p with trim := 0, periodAt := none, comp := { p.comp with e := [0, 0, 0], u := [0, 0, 0] } } }).touch cnvTiles

/-- Start a soft stop (R235): in HICCUP the reference is at 0 already. -/
def startSoftstop (src : Option Src) (cause : Nat × List Nat) (b : Block) : Block :=
  let zero := decide (b.cnv.st = .hiccup)
  (b.onCnv fun c => { c with
    st := .softstop, parkSrc := src, parkCause := cause, settleAt := none, handOver := none
    iRef := if zero then 0 else c.iRef, stopZeroAt := if zero || c.iRef == 0 then some b.sys.now else none }).touch cnvTiles

/-- PRECHECK ends; a Park command accepted in it then acts (R344). -/
def leavePrecheck (b : Block) : Block :=
  let b1 := enterPrebias b
  if b.cnv.parkSrc.isSome ∨ b.sec.fullDue.isSome then startSoftstop b.cnv.parkSrc b.cnv.parkCause b1 else b1

/-- PRECHECK passes at the moment its checks all hold (R231). -/
def tryPrecheck (b : Block) : Block := if b.cnv.st = .precheck ∧ b.precheck = 0 then leavePrecheck b else b

/-- PRECHECK_TIMEOUT (R231): 10 ms after entry; the first check failing. -/
def doPrecheckTimeout (b : Block) : Block :=
  if b.cnv.st ≠ .precheck then b
  else
    let b1 := b.at (b.cnv.preAt + 10 * msT)
    if b1.precheck = 0 then leavePrecheck b1 else raise .cnvPrecheckFail noArg [b1.precheck] (cnvDark .muzzled b1)

def execPrecheckTimeout (s : State) := effect doPrecheckTimeout s

/-- SOFTSTART_TIMEOUT (R231). -/
def doSoftstartTimeout (b : Block) : Block :=
  if b.cnv.st = .precheck ∨ b.cnv.st.softStart = true ∨ b.cnv.st = .hiccup then
    raise .softstartTimeout noArg [] (cnvDark .muzzled (b.at (b.cnv.preAt + b.cnv.set.ssTimeout * msT)))
  else b

def execSoftstartTimeout (s : State) := effect doSoftstartTimeout s

/-- An OC in soft start (R225, R231, R233): a hiccup, or LATCHED at the third within 2 s. -/
def softStartOc (b : Block) : Block :=
  let t := b.sys.now
  let recent := b.cnv.ssHics.filter fun h => decide (t < h + 2 * secT)
  if 2 ≤ recent.length then
    raise .softstartShort noArg [] ((cnvDark .latched b).onCnv fun c => { c with sslatch := true })
  else
    let b1 := b.onCnv fun c => { c with st := .hiccup, hicAt := t, ssHics := t :: recent, ssCount := satAdd 255 c.ssCount 1, iRef := 0, settleAt := none }
    (note .cnvSsHiccup noArg [b1.cnv.ssCount] b1).touch cnvTiles

/-- SS_HICCUP_END (R233): 20 ms after its OC. -/
def doSsHiccupEnd (b : Block) : Block := if b.cnv.st = .hiccup then enterPrebias (b.at (b.cnv.hicAt + 20 * msT)) else b
def execSsHiccupEnd (s : State) := effect doSsHiccupEnd s

/-- A set-point source is lost (R258). -/
def Block.srcLost (b : Block) (i : Nat) : Bool := (b.loop.sources.getD i { lost := false, okAt := none }).lost

/-- The loss action of LOSS_ACT in REGULATE, in automatic operation and outside a Hinge hold; a change of source accepted in this cycle comes first (R259,
R274). Actions 0 and 1 are in the source value (R259). -/
def lossAction (b : Block) : Block :=
  let l := b.loop
  if b.cnv.st ≠ .regulate ∨ b.hinge = true ∨ l.am = true ∨ l.srcDue = true ∨ b.srcLost l.src = false then b
  else match l.set.lossAct with
    | 2 => if l.onFb then b else
        (note .loopFallback noArg [l.src, l.set.fbSrc] (b.onLoop fun l => { l with src := l.set.fbSrc, onFb := true })).touch [0x400]
    | 3 => startSoftstop none (Event.loopSrcLost.code, []) b
    | _ => b

/-- SETTLE_COMPLETE (R231, R232, R237): the link within 1 % of V_TGT for 20 ms, outside a Hinge hold. -/
def doSettleComplete (b : Block) : Block :=
  match b.cnv.st, b.cnv.settleAt with
  | .settle, some t =>
    if b.hinge then b
    else
      let b1 := b.at (t + 20 * msT)
      let ms := (b1.sys.now - b1.cnv.preAt) / msT
      let b2 := b1.onCnv fun c => { c with st := .regulate, settleAt := none, handOver := some c.iRef, ssElapsed := ms }
      (lossAction (admitPhases (note .cnvSsDone noArg [ms] b2))).touch cnvTiles
  | _, _ => b

def execSettleComplete (s : State) := effect doSettleComplete s

/-- The soft stop ends: gates dark, IDLE, the module enters PARK, SYS_PARK completes (R235). -/
def endSoftstop (b : Block) : Block :=
  let src := b.cnv.parkSrc
  let b1 := (cnvDark .idle b).onCnv fun c => { c with parkSrc := none }
  let b2 := changeState .park b.cnv.parkCause.1 b.cnv.parkCause.2 b1
  match src with
  | some s => complete s .ok [] b2
  | none => b2

/-- SOFTSTOP_END (R235): the reference at 0 with |i_sum| at most 2 % of n_eff × I_PH_CONT, or 20 ms after the reference reached 0. -/
def doSoftstopEnd (b : Block) : Block :=
  match b.cnv.st, b.cnv.stopZeroAt with
  | .softstop, some t =>
    if fxI (|b.cnv.iSum| * 50) ≤ b.nEff * (b.cnv.set.iPhCont : Int) then endSoftstop b else endSoftstop (b.at (t + 20 * msT))
  | _, _ => b

def execSoftstopEnd (s : State) := effect doSoftstopEnd s

/-! ### GDU inputs (R210 to R214, R225, R229) -/

/-- UPLINK_FRAME (R210, R214, R229): a frame whose CRC fails is discarded; on an unconfigured phase it only sets UNEXP. -/
def doUplinkFrame (k : Nat) (f : Uplink) (b : Block) : Block :=
  let p := b.phase k
  if f.crcOk = false ∨ b.cnv.fibreOn = false then b
  else if p.st = .unconfigured then (onPhase k (fun p => { p with unexp := true }) b).touch cnvTiles
  else
    let ma := f.i * 100
    let mv : Int := f.mux * 100
    let high := decide (f.muxId = 0) && decide (b.vlinkMax < mv)
    let n := if f.muxId = 0 then (if high then p.overV + 1 else 0) else p.overV
    let b1 := onPhase k (fun p => { p with
      upAt := b.sys.now
      upSeen := true
      otw := bitOf 4 f.stat
      uvlo := bitOf 3 f.stat
      desat := bitOf 2 f.stat
      armed := bitOf 1 f.stat
      gduReady := bitOf 0 f.stat
      i := ma
      iSum := { sum := p.iSum.sum + ma, n := p.iSum.n + 1 }
      overV := n
      vLink := if f.muxId = 0 then some mv else p.vLink
      tHs := if f.muxId = 1 then some (toSigned 16 f.mux) else p.tHs
      gateMv := if f.muxId = 2 then f.mux else p.gateMv
      thrSeen := if f.muxId = 3 then f.mux else p.thrSeen }) b
    let b2 := if n = 2 then raise .cnvLinkOv k [f.mux * 100] (cnvMuzzle (b1.onCnv fun c => { c with linkOv := true })) else b1
    (tryPrecheck b2).touch cnvTiles

def execUplinkFrame (phase : Fin 8) (frame : Uplink) (s : State) := effect (doUplinkFrame phase frame) s

/-- The checks of the IDENT row of R214 on what the GDU reports. -/
def Block.identOk (b : Block) (g : GduIdent) : Bool :=
  decide (b.cnv.set.iPhCont ≤ g.iRated * 100) && decide (b.vlinkMax ≤ (g.vMax * 100 : Nat)) && decide (b.lMin ≤ g.lNom * 100) && decide (g.lNom * 100 ≤ b.lMax)

/-- IDENT (R212, R214): an answer with the sequence sent; another serial sends the phase to SEARCH with CNV_GDU_CHANGED. -/
def doIdent (k seq : Nat) (g : GduIdent) (b : Block) : Block :=
  let p := b.phase k
  if p.rcOpen = false ∨ p.rcSeq ≠ seq ∨ p.st = .unconfigured ∨ b.cnv.fibreOn = false then b
  else
    let b1 := onPhase k (fun p => { p with rcOpen := false, rcMiss := 0 }) b
    match p.st with
    | .search => if b.hinge then b1 else
        (sendConfig k (setPhase k .ident (onPhase k (fun p => { p with gdu := some g, rcGood := 1 }) b1))).touch cnvTiles
    | .out => b1
    | _ =>
      let old := match p.gdu with
        | some o => o.serial
        | none => g.serial
      if old ≠ g.serial then
        if b.hinge then b1 else dropPhase k .search (note .cnvGduChanged k [old, g.serial] (onPhase k (fun p => { p with gdu := some g, rcGood := 0 }) b1))
      else
        let b2 := onPhase k (fun p => { p with rcGood := p.rcGood + 1 }) b1
        if p.st = .ident ∧ 3 ≤ p.rcGood + 1 ∧ b.identOk g = false ∧ b.hinge = false then phaseOut k 1 b2 else b2

def execIdent (phase : Fin 8) (seq : Nat) (gdu : GduIdent) (s : State) := effect (doIdent phase seq gdu) s

/-- CONFIG_ACK (R211, R214, R239): result 0 with the threshold sent is the acknowledgement; a refusal takes an IDENT phase OUT. -/
def doConfigAck (k thr result : Nat) (b : Block) : Block :=
  let p := b.phase k
  let good := decide (result = 0 ∧ thr = p.thrSent)
  match p.st with
  | .unconfigured => b
  | .ident => if good then onPhase k (fun p => { p with ack := some true }) b else if result = 1 then phaseOut k 2 b else b
  | _ => if good then onPhase k (fun p => { p with ack := some true, cfgAt := none }) b else b

def execConfigAck (phase : Fin 8) (thr result : Nat) (s : State) := effect (doConfigAck phase thr result) s

/-- CONFIG_ACK_TIMEOUT (R239): 10 ms after a CONFIG sent because I_FAST changed in RUN. -/
def doConfigAckTimeout (k : Nat) (b : Block) : Block :=
  match (b.phase k).cfgAt with
  | some t => checkLow (sendConfig k (setPhase k .ident (onPhase k (fun p => { p with cfgAt := none, rcGood := 0 }) (b.at (t + 10 * msT)))))
  | none => b

def execConfigAckTimeout (phase : Fin 8) (s : State) := effect (doConfigAckTimeout phase) s

/-- Coefficients of a phase from L_NOM with r = 0 (R222). -/
def designNominal (k : Nat) (b : Block) : Block :=
  let c := b.cnv.set
  let l := match (b.phase k).gdu with
    | some g => fxQ g.lNom 10000000
    | none => 0
  let fc := fcOf c.tc c.fcSet b.nfcMin
  onPhase k (fun p => { p with comp := { p.comp with coef := coefBits (designReal c.tc fc l 0), fc := (fxRound (fc * 1000)).toNat, src := 0 } }) b

/-- PHASE_READY (R214, R222): RDY has been lit for 10 ms and every check of the IDENT row holds. -/
def doPhaseReady (k : Nat) (b : Block) : Block :=
  let p := b.phase k
  match p.st, p.gdu with
  | .ident, some g =>
    if p.ack ≠ some true ∨ p.rcGood < 3 ∨ b.identOk g = false ∨ b.hinge = true then b
    else
      let b1 := onPhase k (fun p => { p with rdy := true, rdyAt := b.sys.now }) b
      (tryPrecheck (admitPhases (setPhase k .ready (designNominal k b1)))).touch cnvTiles
  | _, _ => b

def execPhaseReady (phase : Fin 8) (s : State) := effect (doPhaseReady phase) s

/-- UPLINK_TIMEOUT (R212, R214): 10 µs without a valid uplink frame, outside the 300 ms after a wake. -/
def doUplinkTimeout (k : Nat) (b : Block) : Block :=
  let p := b.phase k
  if p.st.searching = false ∨ p.st = .search ∨ b.cnv.graceEnd.isSome = true ∨ b.cnv.fibreOn = false then b
  else dropPhase k .search (b.at (p.upAt + 10 * usT))

def execUplinkTimeout (phase : Fin 8) (s : State) := effect (doUplinkTimeout phase) s

/-- RDY_LOSS (R214): READY, JOINING and ACTIVE go to IDENT, at the third loss within 60 s to OUT. -/
def doRdyLoss (k : Nat) (b : Block) : Block :=
  let p := b.phase k
  let t := b.sys.now
  let b1 := (onPhase k (fun p => { p with rdy := false }) b).touch cnvTiles
  if p.st = .ready ∨ p.st.modulating = true then
    let recent := t :: p.rdyLosses.filter fun x => decide (t < x + 60 * secT)
    let b2 := onPhase k (fun p => { p with rdyLosses := recent, rcGood := 0 }) b1
    if 3 ≤ recent.length then phaseOut k 4 b2 else checkLow (sendConfig k (setPhase k .ident b2))
  else b1

def execRdyLoss (phase : Fin 8) (s : State) := effect (doRdyLoss phase) s

/-- OC_INPUT (R214, R225, R233, R239): OC lights, or goes dark. -/
def doOcInput (k : Nat) (lit : Bool) (b : Block) : Block :=
  let p := b.phase k
  if !lit then (onPhase k (fun p => { p with oc := false }) b).touch cnvTiles
  else
    let t := b.sys.now
    let fresh := match p.ocNoted with
      | some u => decide (u + secT ≤ t)
      | none => true
    let b1 := onPhase k (fun p => { p with
      oc := true, ocDark := true, ocThis := true, ocTrips := if p.ocThis then p.ocTrips else satAdd 65535 p.ocTrips 1
      ocNoted := if fresh then some t else p.ocNoted }) b
    let b2 := if fresh then note .cnvFastLimit k [] b1 else b1
    (if b.cnv.st.softStart then softStartOc b2 else b2).touch cnvTiles

def execOcInput (phase : Fin 8) (lit : Bool) (s : State) := effect (doOcInput phase lit) s

/-- PHASE_HICCUP_END (R214): 20 ms after entry, OC dark and RDY lit. -/
def doPhaseHiccupEnd (k : Nat) (b : Block) : Block :=
  let p := b.phase k
  if p.st ≠ .hiccup ∨ p.oc = true ∨ p.rdy = false then b
  else
    let b1 := b.at (p.hiccupAt.headD 0 + 20 * msT)
    if b.cnv.st = .regulate ∧ b.hinge = false then joinPhase k b1 else setPhase k .ready b1

def execPhaseHiccupEnd (phase : Fin 8) (s : State) := effect (doPhaseHiccupEnd phase) s

/-- JOIN_COMPLETE (R215): 100 ms of ramp. -/
def doJoinComplete (k : Nat) (b : Block) : Block :=
  match (b.phase k).st, (b.phase k).joinAt with
  | .joining, some t => note .cnvPhaseJoin k [] (setPhase k .active (b.at (t + 100 * msT)))
  | _, _ => b

def execJoinComplete (phase : Fin 8) (s : State) := effect (doJoinComplete phase) s

/-- WAKE_ROLLCALL_GRACE_END (R212): a phase that has not answered goes to SEARCH. -/
def doWakeRollcallGraceEnd (b : Block) : Block :=
  match b.cnv.graceEnd with
  | none => b
  | some t =>
    let b1 := (b.at t).onCnv fun c => { c with graceEnd := none }
    ((List.range 8).filter fun k => (b.phase k).st.searching && decide ((b.phase k).st ≠ .search) && decide ((b.phase k).rcGood = 0)).foldl (fun b k =>
      dropPhase k .search b) b1

def execWakeRollcallGraceEnd (s : State) := effect doWakeRollcallGraceEnd s

/-! ### Carrier (R216 to R218) -/

/-- Error of the reference against the lock source, in ticks, wrapped to half a period either way (R217, R218). -/
def Block.carrierError (b : Block) (start : Nat) : Option Int :=
  let tc : Int := b.cnv.set.tc
  let wrap (d : Int) : Int := (d + tc / 2) % tc - tc / 2
  match b.cnv.set.lockSrc with
  | 1 => b.ptpTicks.map fun p => wrap ((start : Int) - (b.sys.now : Int) + (p : Int))
  | 2 => if b.cnv.refSeen then b.cnv.syncRef.map fun r => wrap ((start : Int) - (r : Int)) else none
  | _ => none

/-- REFERENCE_PERIOD_START (R217, R218, R220): SYNC_OUT pulses, the mean trim of the modulating phases is taken from each, the next start is chosen. -/
def doReferencePeriodStart (b : Block) : Block :=
  let tc := b.cnv.set.tc
  let start := max b.sys.now (if b.cnv.nextRef = 0 then b.nextMultiple tc else b.cnv.nextRef)
  let b1 := b.at start
  let err := b1.carrierError start
  let step : Int := match err with
    | some e => clampI (-(tc / 256 : Nat)) (tc / 256 : Nat) (-e)
    | none => 0
  let aligned := match err with
    | some e => decide (|e| ≤ 5)
    | none => false
  let ms := b.modPhases
  let mean := if ms = [] then 0 else ((ms.map fun k => (b.phase k).trim).foldl (· + ·) 0) / (ms.length : Int)
  let ts := fxQ tc secT
  let ip := fxQ b.cnv.set.iPhCont 1000
  let free := err.isNone && !b.cnv.refSeen
  (b1.onCnv fun c => { c with
    periods := c.periods + 1
    lastRef := start
    nextRef := if free then multipleFrom tc (start + 1) else ((start : Int) + tc + step).toNat
    lockErr := match err with
      | some e => e * 10
      | none => c.lockErr
    alignRun := if aligned then c.alignRun + 1 else 0
    syncMiss := if c.set.lockSrc = 2 ∧ c.refSeen = true then c.syncMiss + 1 else 0
    refSeen := c.refSeen || (decide (c.set.lockSrc = 1) && err.isSome)
    phases := c.phases.map fun p =>
      if p.st.modulating then { p with trim := p.trim - mean } else { p with q := max 0 (p.q - fxMul (fxMul ip ip) ts) } }).touch cnvTiles

def execReferencePeriodStart (s : State) := effect doReferencePeriodStart s

/-- SYNC_IN_EDGE (R217): the reference of LOCKSRC 2 is the edge less SYNC_DLY. -/
def doSyncInEdge (count : Nat) (b : Block) : Block :=
  if b.cnv.set.lockSrc ≠ 2 then b
  else (b.at count).onCnv fun c => { c with syncRef := some (count - c.set.syncDly / 10), refSeen := true, syncMiss := 0 }

def execSyncInEdge (count : Nat) (s : State) := effect (doSyncInEdge count) s

/-- CARRIER_LOCKED (R218): 16 periods within 50 ns. -/
def doCarrierLocked (b : Block) : Block :=
  if b.cnv.locked = true ∨ b.cnv.alignRun < 16 ∨ b.cnv.set.lockSrc = 0 then b else (note .cnvLock noArg [] (b.onCnv fun c => { c with locked := true })).touch cnvTiles

def execCarrierLocked (s : State) := effect doCarrierLocked s

/-- CARRIER_LOCK_LOST (R218): 4 edges missing with LOCKSRC 2, or PTP lost with LOCKSRC 1; the carrier holds over on the time base. -/
def doCarrierLockLost (b : Block) : Block :=
  let lost := (decide (b.cnv.set.lockSrc = 2) && decide (4 ≤ b.cnv.syncMiss)) || (decide (b.cnv.set.lockSrc = 1) && b.ptpTicks.isNone)
  if !lost || !b.cnv.refSeen then b
  else (note .cnvLockLost noArg [] (b.onCnv fun c => { c with locked := false, refSeen := false, alignRun := 0, syncMiss := 0 })).touch cnvTiles

def execCarrierLockLost (s : State) := effect doCarrierLockLost s

/-- Offset of a phase's period start, in edge steps of 1/67 tick (R217). -/
def Block.phaseOffset (b : Block) (k : Nat) : Nat :=
  let ms := b.modPhases
  let n := max 1 ms.length
  let j := (ms.filter (· < k)).length
  let c := b.cnv.set
  let np := max 1 c.packSize
  (2 * c.tc * 67 * (j * np + c.packIdx) + n * np) / (2 * n * np) % (c.tc * 67)

/-- The phase's next period start: aligned to its offset, at least half a period after the last (R217). -/
def Block.nextPeriod (b : Block) (k : Nat) : Nat :=
  let tc := b.cnv.set.tc
  let base := b.cnv.lastRef + b.phaseOffset k / 67
  let after := match (b.phase k).periodAt with
    | some t => t + tc / 2
    | none => b.sys.now
  if after ≤ base then base - (base - after) / tc * tc else base + (after - base + tc - 1) / tc * tc

/-! ### Period start (R219, R225, R230 to R235) -/

/-- V_REF moves towards V_TGT by SLEW × TC (R232). -/
def slewRef (v t d : Fx) : Fx := if v < t then min t (v + d) else max t (v - d)

/-- The voltage loop (R232): the reference and its integral, held while the reference stands at its limit. -/
def voltageLoop (b : Block) : Block :=
  match b.cnv.vRef, b.vLinkMv with
  | some v, some l =>
    let c := b.cnv.set
    let e := v - fxI l
    let ts := fxQ c.tc secT
    let int1 := b.cnv.vInt + fxMul e ts
    let raw (i : Fx) : Int := -(fxRound ((e * (c.kpv : Int) + i * (c.kiv : Int)) / 1000))
    let r := b.limitRef (raw int1)
    let r0 := b.limitRef (raw b.cnv.vInt)
    b.onCnv fun d => { d with iRef := if r.2 then r0.1 else r.1, clamped := r.2, vInt := if r.2 then d.vInt else int1 }
  | _, _ => b

/-- The soft-start sequencer and the reference, once per period of the lowest-numbered modulating phase (R231 to R235). -/
def sequencer (b : Block) : Block :=
  let c := b.cnv.set
  let ts := fxQ c.tc secT
  let b0 := match b.cnv.vCmdDue, b.cnv.vCmd with
    | true, some p => b.onCnv fun d => { d with
        vTgt := some (fxI (if p.1 = 0 then b.vLinkMv.getD 0 else p.1)), slew := p.2, vCmdDue := false, st := if d.st = CState.settle then CState.ramp else d.st, settleAt := none }
    | _, _ => b
  match b0.cnv.st with
  | .prebias =>
    let n := b0.cnv.preRuns + 1
    voltageLoop (b0.onCnv fun d => { d with preRuns := n, st := if 3 ≤ n then .ramp else .prebias })
  | .ramp =>
    let v := slewRef (b0.cnv.vRef.getD 0) (b0.cnv.vTgt.getD 0) (fxMul (fxI b0.cnv.slew) ts)
    voltageLoop (b0.onCnv fun d => { d with vRef := some v, st := if some v = d.vTgt then .settle else .ramp })
  | .settle =>
    let near := match b0.vLinkMv, b0.cnv.vTgt with
      | some l, some t => decide (100 * |fxI l - t| ≤ |t|)
      | _, _ => false
    voltageLoop (b0.onCnv fun d => { d with settleAt := if near then (match d.settleAt with
      | some t => some t
      | none => some b.sys.now) else none })
  | .regulate =>
    if b0.hinge ∨ b0.cnv.handOver.isSome then b0
    else
      let r := b0.limitRef b0.loopOut
      b0.onCnv fun d => { d with iRef := r.1, clamped := r.2 }
  | .softstop =>
    let d := fxRound (fxMul (fxI (c.slewStop * 1000)) ts)
    let i := b0.cnv.iRef
    let i1 := if 0 < i then max 0 (i - d) else min 0 (i + d)
    b0.onCnv fun e => { e with iRef := i1, stopZeroAt := if i1 = 0 then (match e.stopZeroAt with
      | some t => some t
      | none => some b.sys.now) else none }
  | _ => b0

/-- The duty of a period start: (v_str + u + tau) / v_link clamped, and u kept as the history (R219); PREBIAS starts at min(V_LAST / v_link, D_MAX). -/
def setDuty (k : Nat) (b : Block) : Block :=
  match b.vStrMv, b.vLinkMv with
  | some v, some l =>
    let p := b.phase k
    let c := b.cnv.set
    let dMin := fxQ c.dMin 4294967296
    let dMax := fxQ c.dMax 4294967296
    let first := decide (b.cnv.st = .prebias) && p.periodAt.isNone
    let u := p.comp.u.getD 0 0
    let d := if first then min (fxQ v l) dMax else clampI dMin dMax (fxDiv (fxI v + u + p.trim) (fxI l))
    let u1 := if first then 0 else fxMul d (fxI l) - fxI v - p.trim
    onPhase k (fun p => { p with duty := d, comp := { p.comp with u := u1 :: p.comp.u.drop 1 } }) b
  | _, _ => b

/-- A phase's fast limit at a period start: eight periods in a row are a HICCUP in REGULATE, the third within 2 s OUT (R214, R225). -/
def countOc (k : Nat) (b : Block) : Block :=
  let p := b.phase k
  let t := b.sys.now
  let run := if p.ocThis then p.ocRun + 1 else 0
  let b1 := onPhase k (fun p => { p with ocRun := run, ocThis := p.oc, ocDark := p.oc }) b
  if run < 8 ∨ b.cnv.st ≠ .regulate then b1
  else
    let recent := t :: p.hiccupAt.filter fun x => decide (t < x + 2 * secT)
    let b2 := onPhase k (fun p => { p with ocRun := 0, hiccups := satAdd 65535 p.hiccups 1, hiccupAt := recent }) b1
    if 3 ≤ recent.length then phaseOut k 3 b2 else dropPhase k .hiccup (note .cnvPhaseHiccup k [] b2)

/-- PHASE_PERIOD_START (R217, R219, R225, R231 to R235). -/
def doPhasePeriodStart (k : Nat) (b : Block) : Block :=
  if (b.phase k).st.modulating = false ∨ b.cnv.st.modulates = false then b
  else
    let b1 := b.at (b.nextPeriod k)
    let b2 := countOc k b1
    if (b2.phase k).st.modulating = false ∨ b2.cnv.st.modulates = false then b2
    else
      let b3 := if b2.modPhases.head? = some k then sequencer b2 else b2
      let b4 := setDuty k b3
      (onPhase k (fun p => { p with periodAt := some b1.sys.now, weight := b4.weightOf k, offset := b4.phaseOffset k, iSum := { sum := 0, n := 0 } }) b4).touch cnvTiles

def execPhasePeriodStart (phase : Fin 8) (s : State) := effect (doPhasePeriodStart phase) s

/-! ### Compensators (R220, R221, R227, R229) -/

/-- Foldback begins at I2T_MAX and ends when every q is below half of it (R227). -/
def foldCheck (b : Block) : Block :=
  let m := fxI b.cnv.set.i2tMax
  let any := b.cnv.phases.any fun p => decide (m ≤ p.q)
  let low := b.cnv.phases.all fun p => decide (2 * p.q < m)
  if any && !b.cnv.foldback then note .cnvI2tLimit noArg [] (b.onCnv fun c => { c with foldback := true })
  else if low && b.cnv.foldback then b.onCnv fun c => { c with foldback := false }
  else b

/-- The cross-check of i_sum against the string current begins or ends (R229). -/
def xchkTrack (b : Block) : Block :=
  let bad := match b.sense.cur.last with
    | some u => decide (|u| / 1000 * 2 + 1000000 < 100 * |b.cnv.iSum - u / 1000|)
    | none => false
  b.onCnv fun c => { c with
    xchkAt := if bad then (match c.xchkAt with
      | some t => some t
      | none => some b.sys.now) else none
    xchkNoted := bad && c.xchkNoted }

/-- The compensator's new output (R221): history of u and e, newest first. -/
def compOut (c : Comp) (e : Fx) : Fx :=
  let co (i : Nat) : Fx := coefReal (c.coef.getD i 0)
  let u (i : Nat) : Fx := c.u.getD i 0
  let h (i : Nat) : Fx := c.e.getD i 0
  fxMul (co 0) (u 0) + fxMul (co 1) (u 1) + fxMul (co 2) (u 2) + fxMul (co 3) e + fxMul (co 4) (h 0) + fxMul (co 5) (h 1) + fxMul (co 6) (h 2)

/-- COMPENSATOR_STEP (R215, R220, R221, R227, R228): at the end of a phase's period; the excitation joins the reference downstream of the loop engine (R182). -/
def doCompensatorStep (k : Nat) (b : Block) : Block :=
  let p := b.phase k
  if p.st.modulating = false ∨ b.cnv.st.modulates = false ∨ p.periodAt.isNone = true then b
  else
    let c := b.cnv.set
    let b0 := b.at (p.periodAt.getD 0 + c.tc)
    let mean := if p.iSum.n = 0 then p.i else divNear p.iSum.sum p.iSum.n
    let b1 := onPhase k (fun p => { p with iMean := mean, iSum := { sum := 0, n := 0 } }) b0
    let sum := (b1.modPhases.map fun j => (b1.phase j).iMean).foldl (· + ·) 0
    let w := b1.weightOf k
    let x := if b.hinge then 0 else b.imp.x
    let r := b1.limitRef (b1.cnv.iRef + x)
    let e := w * (r.1 - sum)
    let u := compOut p.comp e
    let tcms := fxQ c.tc msT
    let tmax := fxQ c.trimMax 4294967296 * (b.vLinkMv.getD 0)
    let err := fxI mean - w * sum
    let tau := clampI (-tmax) tmax (p.trim - fxMul (err / 1000) tcms * (c.shareGain : Int))
    let ip := fxQ c.iPhCont 1000
    let ik := fxQ mean 1000
    let q := max 0 (p.q + fxMul (fxMul ik ik - fxMul ip ip) (fxQ c.tc secT))
    let b2 := onPhase k (fun p => { p with
      trim := tau, q := q, comp := { p.comp with u := (u :: p.comp.u).take 3, e := (e :: p.comp.e).take 3 } }) b1
    let b3 := b2.onCnv fun d => { d with iSum := sum, clamped := d.clamped || r.2 }
    (xchkTrack (foldCheck (if r.2 ∧ x ≠ 0 then markClip b3 else b3))).touch cnvTiles

def execCompensatorStep (phase : Fin 8) (s : State) := effect (doCompensatorStep phase) s

/-- CNV_ISUM_XCHK (R229): the difference has lasted 10 ms. -/
def doCnvIsumXchk (b : Block) : Block :=
  match b.cnv.xchkAt with
  | some t => if b.cnv.xchkNoted then b else note .cnvIsumXchk noArg [] ((b.at (t + 10 * msT)).onCnv fun c => { c with xchkNoted := true })
  | none => b

def execCnvIsumXchk (s : State) := effect doCnvIsumXchk s

/-! ### Retuning (R222, R223) -/

/-- The identification points of a phase as (Hz, Ω) from 20 Hz to 1 / (4 ts). -/
def identPoints (tc : Nat) (freqs : List Fx) (ident : List (Option (Int × Int))) : List (Fx × Fz) :=
  ((List.zip freqs ident).filterMap fun p => p.2.map fun z => (p.1, ((fxQ z.1 1000000, fxQ z.2 1000000) : Fz))).filter fun p =>
    decide (fxI 20 ≤ p.1) && decide (p.1 * (4 * tc : Nat) ≤ fxI 100000000)

/-- Fit and judge one phase: its published estimates, and accepted coefficients staged for their latch 1 ms on (R223). -/
def retunePhase (job : Nat) (freqs : List Fx) (k : Nat) (b : Block) : Block :=
  let p := b.phase k
  let c := b.cnv.set
  let pts := identPoints c.tc freqs p.ident
  let (r, l, res) := fitPlant c.tc pts
  let lN := (fxRound (l * 1000000000)).toNat
  let rU := (fxRound (r * 1000000)).toNat
  let fc := fcOf c.tc c.fcSet b.nfcMin
  let coef := coefBits (designReal c.tc fc l r)
  let (pm, gm) := marginsOf c.tc fc coef l r
  let floor := b.floor
  let inFloor := (List.range 7).all fun i => decide (floorCoefLo floor i ≤ coef.getD i 0) && decide (coef.getD i 0 ≤ floorCoefHi floor i)
  let rej : Nat :=
    if pts.length < 2 then 1
    else if fxQ 1 10 < res then 2
    else if lN < b.lMin ∨ b.lMax < lN then 3
    else if pm < 100 * (b.pmMin : Int) ∨ gm < 100 * (b.gmMin : Int) then 4
    else if !inFloor then 5
    else if !p.activeAll then 6
    else 0
  let st : Staged := { due := b.sys.now + msT, coef := coef, l := lN, r := rU, fc := (fxRound (fc * 1000)).toNat, pm := pm, gm := gm }
  let b1 := onPhase k (fun p => { p with
    comp := { p.comp with
      lEst := lN, rEst := rU, pm := pm, gm := gm, rej := rej, jobId := job, resid := enc16 res
      staged := if rej = 0 ∧ c.tuneEn = true then some st else p.comp.staged } }) b
  (if rej ≠ 0 then note .cnvRetuneReject k [rej] b1 else b1).touch cnvTiles

/-- A retune runs for the phases that were ACTIVE in the bands (R223). -/
def retune (job : Nat) (freqs : List Fx) (b : Block) : Block :=
  ((List.range 8).filter fun k => (b.phase k).st.modulating || (b.phase k).activeAll).foldl (fun b k => retunePhase job freqs k b) b

/-- RETUNE_LATCH (R223, R239): the phase's first period start at least 1 ms after the check; not during a Hinge hold (R237). -/
def doRetuneLatch (k : Nat) (b : Block) : Block :=
  match (b.phase k).comp.staged with
  | none => b
  | some s =>
    if b.hinge then b
    else
      let b1 := onPhase k (fun p => { p with
        comp := { p.comp with coef := s.coef, fc := s.fc, src := 1, staged := none, retunes := satAdd 65535 p.comp.retunes 1 } }) (b.at s.due)
      (note .cnvRetune k [s.l, s.r, packWord [(31, 16, ofSigned 16 s.gm), (15, 0, ofSigned 16 s.pm)] |>.toNat] b1).touch cnvTiles

def execRetuneLatch (phase : Fin 8) (s : State) := effect (doRetuneLatch phase) s

/-! ### Commands (R240) -/

def ruleCnvSetCarrier (src : Src) (tc lockSrc packIdx packSize syncDly : Nat) (b : Block) : HostRule :=
  { opcode := 0x0701, owner := true, stateOk := decide (b.sys.mstate = .park)
    param := need (decide (2500 ≤ tc ∧ tc ≤ 12500 ∧ lockSrc ≤ 2 ∧ packIdx ≤ 31 ∧ 1 ≤ packSize ∧ packSize ≤ 32 ∧ syncDly ≤ 1000 ∧ packIdx < packSize
      ∧ ¬ (1 < packSize ∧ lockSrc = 0)))
    act := fun b =>
      let b1 := b.onCnv fun c => { c with
        set := { c.set with tc := tc, lockSrc := lockSrc, packIdx := packIdx, packSize := packSize, syncDly := syncDly }
        locked := false, refSeen := false, syncRef := none, alignRun := 0, syncMiss := 0, nextRef := 0 }
      let b2 := restartWindows b.sys.now tc b1
      (complete src .ok [] (settingChanged (noteLock 1 b2.sense.win1 (noteLock 0 b2.sense.win0 b2)))).touch ([0x40, 0x41] ++ cnvTiles) }

def execCnvSetCarrier (src : Src) (tc lockSrc packIdx packSize syncDly : Nat) (s : State) :=
  effect (host src (ruleCnvSetCarrier src tc lockSrc packIdx packSize syncDly)) s

/-- Set bits of a byte. -/
def bits8 (m : Nat) : Nat := (membersOf 8 m).length

/-- Phases follow PHMASK (R214). -/
def applyMask (mask : Nat) (b : Block) : Block :=
  (List.range 8).foldl (fun b k =>
    if mask.testBit k then (if (b.phase k).st = .unconfigured then setPhase k .search (onPhase k (fun p => { p with unexp := false }) b) else b)
    else if (b.phase k).st = .unconfigured then b else setPhase k .unconfigured b) b

def ruleCnvSetPhases (src : Src) (mask nMin : Nat) (b : Block) : HostRule :=
  { opcode := 0x0702, owner := true, stateOk := decide (b.sys.mstate ≠ .run), param := need (decide (mask ≤ 255 ∧ 1 ≤ nMin ∧ nMin ≤ 8 ∧ nMin ≤ bits8 mask))
    act := fun b =>
      let b1 := b.onCnv fun c => { c with set := { c.set with phMask := mask, nMin := nMin } }
      (complete src .ok [] (settingChanged (applyMask mask b1))).touch cnvTiles }

def execCnvSetPhases (src : Src) (mask nMin : Nat) (s : State) := effect (host src (ruleCnvSetPhases src mask nMin)) s

/-- A value beyond a Floor limit is refused with DENIED (R224, R240). -/
def deny (bad : Bool) : Option Status := if bad then some .denied else none

def ruleCnvSetModulation (src : Src) (deadTime dMin dMax trimMax shareGain : Nat) (b : Block) : HostRule :=
  { opcode := 0x0703, owner := true, stateOk := decide (b.sys.mstate ≠ .run)
    param := andThen (need (decide (100 ≤ deadTime ∧ deadTime ≤ 5000 ∧ dMin ≤ 0x80000000 ∧ 0x80000000 ≤ dMax ∧ dMax ≤ 0xFFFFFFFF ∧ dMin < dMax ∧ trimMax ≤ 0x0CCCCCCD
      ∧ 1 ≤ shareGain ∧ shareGain ≤ 1000))) (deny (decide (deadTime < b.dtMin)))
    act := fun b => (complete src .ok [] (settingChanged (b.onCnv fun c => { c with
      set := { c.set with deadTime := deadTime, dMin := dMin, dMax := dMax, trimMax := trimMax, shareGain := shareGain } }))).touch cnvTiles }

def execCnvSetModulation (src : Src) (deadTime dMin dMax trimMax shareGain : Nat) (s : State) :=
  effect (host src (ruleCnvSetModulation src deadTime dMin dMax trimMax shareGain)) s

/-- I_FAST changed: CONFIG is sent to every phase that has answered; in RUN its acknowledgement is due within 10 ms (R239). -/
def resendConfig (b : Block) : Block :=
  ((List.range 8).filter fun k => (b.phase k).gdu.isSome && (b.phase k).st.searching).foldl (fun b k =>
    let b1 := sendConfig k b
    if b.sys.mstate = .run ∧ (b.phase k).st ≠ .ident then onPhase k (fun p => { p with cfgAt := some b.sys.now }) b1 else b1) b

def ruleCnvSetLimits (src : Src) (chg dis cont fast i2t : Nat) (b : Block) : HostRule :=
  { opcode := 0x0704, owner := true, stateOk := true
    param := andThen (need (decide (chg ≤ 1250000 ∧ dis ≤ 1250000 ∧ 10000 ≤ cont ∧ cont ≤ 1250000 ∧ 20000 ≤ fast ∧ fast ≤ 1000000 ∧ 10000 ≤ i2t ∧ i2t ≤ 100000000)))
      (deny (decide (b.iFloor < chg ∨ b.iFloor < dis ∨ b.iFastMax < fast)))
    act := fun b =>
      let changed := b.cnv.set.iFast != fast
      let b1 := b.onCnv fun c => { c with set := { c.set with ilimChg := chg, ilimDis := dis, iPhCont := cont, iFast := fast, i2tMax := i2t } }
      (complete src .ok [] (settingChanged (if changed then resendConfig b1 else b1))).touch cnvTiles }

def execCnvSetLimits (src : Src) (chg dis cont fast i2t : Nat) (s : State) := effect (host src (ruleCnvSetLimits src chg dis cont fast i2t)) s

/-- A link target: 0, or 500,000 mV up to VLINK_MAX, beyond which it is DENIED (R224, R240). -/
def targetCheck (b : Block) (v : Int) : Option Status := andThen (need (decide (v = 0 ∨ (500000 ≤ v ∧ v ≤ 3000000)))) (deny (decide (b.vlinkMax < v)))

def ruleCnvSetSoftstart (src : Src) (vTarget : Int) (slewV ilimSs ssTimeout kpv kiv slewStop : Nat) (b : Block) : HostRule :=
  { opcode := 0x0705, owner := true, stateOk := true
    param := andThen (need (decide (1000 ≤ slewV ∧ slewV ≤ 10000000 ∧ 5000 ≤ ilimSs ∧ ilimSs ≤ 200000 ∧ 1000 ≤ ssTimeout ∧ ssTimeout ≤ 600000 ∧ 10 ≤ kpv ∧ kpv ≤ 100000
      ∧ kiv ≤ 1000000 ∧ 1000 ≤ slewStop ∧ slewStop ≤ 1000000))) (targetCheck b vTarget)
    act := fun b => (complete src .ok [] (settingChanged (b.onCnv fun c => { c with
      set := { c.set with vTarget := vTarget, slewV := slewV, ilimSs := ilimSs, ssTimeout := ssTimeout, kpv := kpv, kiv := kiv, slewStop := slewStop } }))).touch cnvTiles }

def execCnvSetSoftstart (src : Src) (vTarget : Int) (slewV ilimSs ssTimeout kpv kiv slewStop : Nat) (s : State) :=
  effect (host src (ruleCnvSetSoftstart src vTarget slewV ilimSs ssTimeout kpv kiv slewStop)) s

/-- Takes effect at the next period start of the lowest-numbered modulating phase; in HICCUP at the restart (R234). -/
def ruleCnvSetVtarget (src : Src) (target : Int) (slew : Nat) (b : Block) : HostRule :=
  { opcode := 0x0706, owner := true, stateOk := b.cnv.st.softStart || decide (b.cnv.st = .hiccup)
    param := andThen (need (decide (1000 ≤ slew ∧ slew ≤ 10000000))) (targetCheck b target)
    act := fun b =>
      let v := b.cnv.vRef.map fxRound
      (complete src .ok (leBytes 4 (s32Word v).toNat) (b.onCnv fun c => { c with vCmd := some (target, slew), vCmdDue := decide (c.st ≠ .hiccup) })).touch cnvTiles }

def execCnvSetVtarget (src : Src) (target : Int) (slew : Nat) (s : State) := effect (host src (ruleCnvSetVtarget src target slew)) s

def ruleCnvSetTuning (src : Src) (en fc : Nat) (_b : Block) : HostRule :=
  { opcode := 0x0707, owner := true, stateOk := true, param := need (decide (en ≤ 1 ∧ 50000 ≤ fc ∧ fc ≤ 5000000))
    act := fun b => (complete src .ok [] (settingChanged (b.onCnv fun c => { c with set := { c.set with tuneEn := en == 1, fcSet := fc } }))).touch cnvTiles }

def execCnvSetTuning (src : Src) (en fc : Nat) (s : State) := effect (host src (ruleCnvSetTuning src en fc)) s

def ruleCnvSetCoeffs (src : Src) (mask : Nat) (coef : List Int) (b : Block) : HostRule :=
  { opcode := 0x0708, owner := true, stateOk := decide (b.sys.mstate ≠ .run)
    param := andThen (need (decide (mask ≤ 255 ∧ coef.length = 7) && coef.all fun v => decide (-2147483648 ≤ v ∧ v ≤ 2147483647)))
      (deny (!((List.range 7).all fun i => decide (floorCoefLo b.floor i ≤ coef.getD i 0) && decide (coef.getD i 0 ≤ floorCoefHi b.floor i))))
    act := fun b =>
      let b1 := (membersOf 8 mask).foldl (fun b k => onPhase k (fun p => { p with comp := { p.comp with coef := coef, src := 2, staged := none } }) b) b
      (complete src .ok (leBytes 1 mask) (settingChanged b1)).touch cnvTiles }

def execCnvSetCoeffs (src : Src) (mask : Nat) (coef : List Int) (s : State) := effect (host src (ruleCnvSetCoeffs src mask coef)) s

def ruleCnvPhaseCtrl (src : Src) (phase action : Nat) (b : Block) : HostRule :=
  let st := (b.phase phase).st
  { opcode := 0x0709, owner := true, stateOk := !(decide (action = 0) && decide (st = .unconfigured)) && !(decide (action = 1) && decide (st ≠ .out))
    param := need (decide (phase ≤ 7 ∧ action ≤ 1))
    act := fun b =>
      let b1 := if action = 0 then phaseOut phase 5 b else setPhase phase .search (onPhase phase (fun p => { p with outr := 0 }) b)
      (complete src .ok (leBytes 1 (b1.phase phase).st.code) b1).touch cnvTiles }

def execCnvPhaseCtrl (src : Src) (phase action : Nat) (s : State) := effect (host src (ruleCnvPhaseCtrl src phase action)) s

def ruleCnvGetConfig (src : Src) (_b : Block) : HostRule :=
  { opcode := 0x070A, owner := false, stateOk := true, param := none
    act := fun b => complete src (b.tilesStatus [0x301, 0x302]) (wordsBytes ((b.frontTile 0x301).take 10 ++ (b.frontTile 0x302).take 12)) b }

def execCnvGetConfig (src : Src) (s : State) := effect (host src (ruleCnvGetConfig src)) s

end Sys2Proof.Machine
end

