-- ==== Sys2Proof/Machine/Impedance.lean ====
section
/-! DEFINITION. In-service impedance: jobs, bands, excitation, spectra, map, temperatures, health, identification (R180 to R205). Reals are fixed point (log entry 6). -/

namespace Sys2Proof.Machine

/-! ### Frequencies and bands (R181, R184, R185) -/

/-- Line of a request in mHz at chip period 2^p × 25 µs, halves rounded up (R184). -/
def lineAt (f p : Nat) : Nat := (f * 4095 * 2 ^ p * 25 * 2 + 1000000000) / 2000000000

/-- Resolve a request to (p, n): the smallest p with n of at least 16 (R184). -/
def resolveFreq (f : Nat) : Nat × Nat :=
  let p := ((List.range 12).find? fun p => decide (16 ≤ lineAt f p)).getD 11
  (p, lineAt f p)

/-- The u32 frequency code (R184). -/
def freqCode (f : Nat) : Nat := (resolveFreq f).1 * 268435456 + (resolveFreq f).2 % 2048

/-- Measured frequency in Hz (R184). -/
def measuredHz (f : Nat) : Fx := fxQ ((resolveFreq f).2 * 40000 : Nat) (4095 * 2 ^ (resolveFreq f).1 : Nat)

/-- Slots of a setting that resolve to band `p`. -/
def ImpSet.slotsOf (x : ImpSet) (p : Nat) : List Nat := (List.range 8).filter fun k => (resolveFreq (x.reqs.getD k 0)).1 == p

/-- A band runs when its chip period is a whole number of aperture periods (R181). -/
def bandRuns (rate p : Nat) : Bool := decide (rate ≤ 2 ∧ rate ≤ p)

/-- The bands of a job, ascending (R185). -/
def ImpSet.bands (x : ImpSet) (rate : Nat) : List Nat := (List.range 12).filter fun p => bandRuns rate p && (x.slotsOf p != [])

/-- SKIPPED (R185). -/
def ImpSet.skipMask (x : ImpSet) (rate : Nat) : Nat := maskOf ((List.range 8).map fun k => !bandRuns rate (resolveFreq (x.reqs.getD k 0)).1)

/-- The slots of the band in progress. -/
def Block.bandSlots (b : Block) : List Nat := b.imp.jobSet.slotsOf b.imp.band

/-- The conditions of R183. -/
def Block.impOk (b : Block) : Bool := decide (b.sys.mstate = .run) && b.imp.en && !b.linkLoop && decide (b.sense.rate ≤ 2)

/-- Jobs running and waiting (R190, R203). -/
def ImpPart.queue (i : ImpPart) : Nat := b2n i.job.isSome + i.waiting.length

/-- A band of the running job is in progress: the register never holds 0 while it is. -/
def Block.bandOn (b : Block) : Bool := b.imp.job.isSome && (b.imp.lfsr != 0)

/-- Samples of one sequence period at the job's rate (R181). -/
def Block.periodSamples (b : Block) : Nat := 4095 * 2 ^ b.imp.band * 2500 / rateTicks b.sense.rate

/-- Ticks of a chip (R181). -/
def Block.chipTicks (b : Block) : Nat := 2 ^ b.imp.band * 2500

/-- Engine S0, S1 in service. -/
def Block.engIn (b : Block) (e : Nat) : Bool := b.sys.engSvc.getD e false
def Block.loneSpectral (b : Block) : Bool := b.engIn 10 != b.engIn 11

/-! ### Sums (R187, R188) -/

def Cpx.add (a b : Cpx) : Cpx := { re := a.re + b.re, im := a.im + b.im }
def Cpx.fz (a : Cpx) : Fz := (a.re, a.im)
def Cpx.ofFz (a : Fz) : Cpx := { re := a.1, im := a.2 }
def Cpx.abs (a : Cpx) : Fx := fxSqrt (fxMul a.re a.re + fxMul a.im a.im)

/-- Empty the sums for the next period; the latest value stays for an interpolation (R187). -/
def Series.next (x : Series) : Series := { x with s0 := 0, s1 := 0, lines := x.lines.map fun _ => Cpx.zero, gap := false }

/-- Add the value `y` of sample `t` of `n`, for the lines of the slots. -/
def Series.put (lines : List Nat) (n t : Nat) (y : Int) (x : Series) : Series :=
  { x with
    s0 := x.s0 + y
    s1 := x.s1 + t * y
    lines := List.zipWith (fun k (z : Cpx) =>
      let a := fxQ (k * t % n : Nat) n
      ({ re := z.re + y * cosTurn a, im := z.im - y * sinTurn a } : Cpx)) lines x.lines }

/-- Take one sample: an isolated missing value is filled half way between its neighbours; the flag says that two are missing in a row (R187). -/
def Series.take (lines : List Nat) (n t : Nat) (y : Option Int) (x : Series) : Series × Bool :=
  match y with
  | none => if x.gap then (x, true) else ({ x with gap := true }, false)
  | some v =>
    let x1 := if x.gap && decide (0 < t) then x.put lines n (t - 1) (divNear (x.prev.getD v + v) 2) else x
    ({ x1.put lines n t v with prev := some v, gap := false }, false)

/-- A last sample that is missing takes the value before it (log entry 22). -/
def Series.close (lines : List Nat) (n : Nat) (x : Series) : Series := if x.gap then x.put lines n (n - 1) (x.prev.getD 0) else x

/-- The transform at line `k` of `n` samples with the least-squares trend removed (R188): the sum less slope × Σ t·e^(-jωt), which is n / (w - 1). -/
def Series.bin (n k : Nat) (z : Cpx) (x : Series) : Cpx :=
  let nn : Int := n
  let slope := fxQ (12 * x.s1 - 6 * (nn - 1) * x.s0) (nn * (nn * nn - 1))
  let half := fxQ k (2 * n : Nat)
  let cot := fxDiv (cosTurn half) (sinTurn half)
  { re := z.re + fxMul slope (fxI nn) / 2, im := z.im - fxMul slope (nn * cot) / 2 }

/-- The bins of all lines. -/
def Series.bins (lines : List Nat) (n : Nat) (x : Series) : List Cpx := List.zipWith (fun k z => x.bin n k z) lines x.lines

/-- Add lists of sums, those of the slots chosen. -/
def addSel (sel : List Bool) (a b : List Cpx) : List Cpx := List.zipWith (fun s (p : Cpx × Cpx) => if s then p.1.add p.2 else p.1) sel (List.zip a b)

/-! ### The start of bands and periods -/

def ImpAcc.empty (n : Nat) : ImpAcc :=
  { ser := Series.empty n, bad := false, sumV := List.replicate n Cpx.zero, sumI := List.replicate n Cpx.zero, valid := List.replicate n 0 }

/-- The next band of the list begins at the count `t`: the register restarts from 0xFFF (R180, R181). -/
def beginBand (t : Nat) (b : Block) : Block :=
  match b.imp.bands with
  | [] => b
  | p :: rest =>
    let n := (b.imp.jobSet.slotsOf p).length
    b.onImp fun i => { i with
      bands := rest, band := p, nPeriod := 0, nValid := 0, nLow := 0, nHigh := 0, lfsr := 0xFFF, chip := 0, chipAt := t, x := 0, perAt := t, sample := 0
      badPeriod := false, missRun := 0, refMin := none, refMax := none, turnHigh := false, state := .settling
      acc := List.replicate b.nCell (ImpAcc.empty n), accI := Series.empty n, accX := Series.empty n, accPh := List.replicate 8 (Series.empty n, Series.empty n)
      sumI := List.replicate n Cpx.zero, sumX := List.replicate n Cpx.zero, sumPh := List.replicate 8 (List.replicate n Cpx.zero, List.replicate n Cpx.zero)
      linkV := { sum := 0, n := 0 } }

/-- One chip boundary: the output bit gives the sign of x and the register advances; under a Hinge hold the excitation contributes nothing (R180, R182, R201). -/
def chipStep (b : Block) : Block :=
  let s := b.imp.lfsr
  let out := s / 2048 % 2
  let fb := (s / 2048 + s / 32 + s / 8 + s) % 2
  let a : Int := b.imp.jobSet.amp
  let b1 := b.onImp fun i => { i with
    lfsr := (s * 2 + fb) % 4096
    x := if out = 1 then a else -a
    chip := (i.chip + 1) % 4095
    chipAt := i.chipAt + b.chipTicks
    badPeriod := i.badPeriod || b.hinge }
  let b2 := if (b1.limitRef (b1.cnv.iRef + b1.imp.x)).2 && !b.hinge then markClip b1 else b1
  b2.touch [0x45]

/-- EXCITATION_CHIP (R180 to R182, R191): at the chip boundary; while IMP_ENABLE 0 runs the excitation stops here. -/
def doExcitationChip (b : Block) : Block :=
  if b.bandOn = false then b
  else
    let b1 := b.at b.imp.chipAt
    if b.imp.disabling.isSome then (b1.onImp fun i => { i with x := 0 }).touch [0x45] else chipStep b1

def execExcitationChip (s : State) := effect doExcitationChip s

/-- IMP_JOB_BEGIN (R181, R183, R185, R190, R205): the first waiting job begins at the first aperture at least 100 µs after it is due; while R183 is not met
it waits (log entry 23). -/
def doImpJobBegin (b : Block) : Block :=
  match b.imp.job, b.imp.waiting with
  | none, j :: rest =>
    if b.impOk = false then b
    else
      let t := max (multipleFrom (rateTicks b.sense.rate) (b.imp.dueAt + 100 * usT)) (multipleFrom (rateTicks b.sense.rate) b.sys.now)
      let b1 := (b.at t).onImp fun i => { i with
        job := some j, waiting := rest, begun := true, jobSet := i.set, jobZts := i.zts, jobAt := t, lastStart := some t, clip := false, discards := 0, done := 0
        skipped := i.set.skipMask b.sense.rate, bands := i.set.bands b.sense.rate, latched := [], selSeen := b.sense.isel2
        segSig := [], nextDue := if i.interval = 0 then none else some (t + i.interval * secT) }
      let b2 := note .impJobStart noArg [j] b1
      (if b1.imp.bands = [] then endJob .ok b2 else chipStep (beginBand t b2)).touch impTiles
  | _, _ => b

def execImpJobBegin (s : State) := effect doImpJobBegin s

/-! ### Taking a snapshot (R187, R195, R199) -/

/-- Currents of the elements of a segment and of the bridges that touch it (R187). -/
def Block.segSignature (b : Block) (n : Nat) : List Int :=
  let g := b.segBal n
  (g.shuttles.map fun h => h.cur) ++ [g.bridge, if 0 < n then (b.segBal (n - 1)).bridge else 0]
    ++ (List.range 32).map fun i => ((b2n (b.cellBal (32 * n + i)).bleed : Nat) : Int)

/-- Lines of the slots of the band in progress. -/
def Block.bandLines (b : Block) : List Nat := b.bandSlots.map fun k => (resolveFreq (b.imp.jobSet.reqs.getD k 0)).2

/-- One stored snapshot, of count `count`, enters the sums of the period it belongs to. -/
def impSample (count : Nat) (b : Block) : Block :=
  let i := b.imp
  let n := b.periodSamples
  let t := (count - i.perAt) / rateTicks b.sense.rate
  if b.bandOn = false ∨ count < i.perAt ∨ n ≤ t ∨ t < i.sample then b
  else
    let lines := b.bandLines
    let missed := t - i.sample
    let lat := (i.latched.find? fun p => p.1 == count).map (·.2)
    let sig := (List.range b.nSeg).map b.segSignature
    let cur := b.sense.cur.last
    let gap (x : Series) : Series := if missed = 1 then (x.take lines n (t - 1) none).1 else x
    let iRef : Int := match lat with
      | some p => p.2.1
      | none => b.cnv.iRef
    let bad := i.badPeriod || decide (2 ≤ missed) || (b.sense.isel2 != i.selSeen) || b.hinge
    b.onImp fun i => { i with
      sample := t + 1
      missRun := missed
      badPeriod := bad
      selSeen := b.sense.isel2
      segSig := sig
      refMin := some (min (i.refMin.getD iRef) iRef)
      refMax := some (max (i.refMax.getD iRef) iRef)
      accI := ((gap i.accI).take lines n t cur).1
      accX := ((gap i.accX).take lines n t (lat.map (·.1))).1
      accPh := i.accPh.mapIdx fun k p =>
        let v := lat.bind fun l => l.2.2[k]?
        (((gap p.1).take lines n t (v.map (·.1))).1, ((gap p.2).take lines n t (v.map (·.2))).1)
      linkV := match b.vLinkMv with
        | some v => { sum := i.linkV.sum + v, n := i.linkV.n + 1 }
        | none => i.linkV
      acc := i.acc.mapIdx fun c (a : ImpAcc) =>
        let x := b.cell c
        let r := (gap a.ser).take lines n t (if x.excl then none else x.chan.last)
        let moved := decide (i.segSig ≠ []) && (sig.getD (segOf c) [] != i.segSig.getD (segOf c) [])
        ({ a with ser := r.1, bad := a.bad || r.2 || moved || x.chf || x.rng || x.degr } : ImpAcc) }

/-- The conditions that run over hours: the reference before x within ± CAP_MIN / 100 h, and each thermistor within 0.20 K of where it was (R195). -/
def impQuiet (b : Block) : Block :=
  let now := b.sys.now
  let quiet := decide (|b.cnv.iRef| * 100 ≤ (b.capMin : Int))
  b.onImp fun i => { i with
    quietAt := if quiet then (match i.quietAt with
      | some t => some t
      | none => some now) else none
    cells := i.cells.mapIdx fun c (m : ImpCell) => match b.cellTemp c, m.anchor with
      | none, _ => { m with anchor := none }
      | some t, some a => if |t - a| < 20 then m else { m with anchor := some t, anchorAt := now }
      | some t, none => { m with anchor := some t, anchorAt := now } }

/-- What a stored snapshot brings to the spectral engines. -/
def impTake (count : Nat) (b : Block) : Block := impQuiet (impSample count b)

/-! ### Ends of periods and bands (R186 to R189) -/

/-- The converter-level reasons of R187 leave the period valid. -/
def Block.periodValid (b : Block) : Bool :=
  let i := b.imp
  !i.badPeriod && decide (b.periodSamples ≤ i.sample + 1) && (match i.refMin, i.refMax with
    | some lo, some hi => decide (hi - lo ≤ (i.jobSet.amp : Int))
    | _, _ => false) && (b.engIn 10 || b.engIn 11)

/-- Which slots of the band the engines measured in this period: all with both, one set in turn with one (R186). -/
def Block.measuredSel (b : Block) : List Bool :=
  let s := b.bandSlots
  let both := s.any (decide <| · < 4) && s.any (decide <| 4 ≤ ·)
  s.map fun k => if b.engIn 10 && b.engIn 11 then true else if both then decide (4 ≤ k) == b.imp.turnHigh else true

/-- IMPEDANCE_PERIOD_END (R186 to R188, R199). -/
def doImpedancePeriodEnd (b : Block) : Block :=
  let i := b.imp
  if b.bandOn = false ∨ i.state = .stopping then b
  else
    let n := b.periodSamples
    let endAt := i.perAt + 4095 * b.chipTicks
    let settling := decide (i.nPeriod < i.jobSet.nSet)
    let valid := b.periodValid
    let lines := b.bandLines
    let sel := b.measuredSel
    let use := !settling && valid
    let binI := (i.accI.close lines n).bins lines n
    let binX := (i.accX.close lines n).bins lines n
    let low := (List.zip b.bandSlots sel).any fun p => p.2 && decide (p.1 < 4)
    let high := (List.zip b.bandSlots sel).any fun p => p.2 && decide (4 ≤ p.1)
    let lost := if settling then 0 else if valid then (i.acc.filter fun a => a.bad).length else b.nCell
    (b.at endAt).onImp (fun i => { i with
      perAt := endAt
      sample := 0
      missRun := 0
      badPeriod := b.hinge
      refMin := none
      refMax := none
      nPeriod := i.nPeriod + 1
      nValid := i.nValid + b2n use
      nLow := i.nLow + b2n (use && low)
      nHigh := i.nHigh + b2n (use && high)
      turnHigh := !settling && !i.turnHigh
      state := if i.nPeriod + 1 < i.jobSet.nSet then .settling else .measuring
      discards := i.discards + lost
      acc := i.acc.map fun (a : ImpAcc) =>
        let ok := use && !a.bad
        let binV := (a.ser.close lines n).bins lines n
        ({ ser := a.ser.next, bad := false
           sumV := if ok then addSel sel a.sumV binV else a.sumV
           sumI := if ok then addSel sel a.sumI binI else a.sumI
           valid := if ok then List.zipWith (fun s v => v + b2n s) sel a.valid else a.valid } : ImpAcc)
      accI := i.accI.next
      accX := i.accX.next
      accPh := i.accPh.map fun p => (p.1.next, p.2.next)
      sumI := if use then addSel sel i.sumI binI else i.sumI
      sumX := if use then addSel sel i.sumX binX else i.sumX
      sumPh := if use then List.zipWith (fun (q : List Cpx × List Cpx) (p : Series × Series) =>
          (addSel sel q.1 ((p.1.close lines n).bins lines n), addSel sel q.2 ((p.2.close lines n).bins lines n))) i.sumPh i.accPh else i.sumPh }) |>.touch [0x45]

def execImpedancePeriodEnd (s : State) := effect doImpedancePeriodEnd s

/-- Every set of slots of the band has its NPER valid periods, or the band has run its limit (R186). -/
def Block.bandComplete (b : Block) : Bool :=
  let i := b.imp
  let s := b.bandSlots
  let lone := b.loneSpectral
  let per := i.jobSet.nPer
  if lone then
    ((!(s.any (decide <| · < 4)) || decide (per ≤ i.nLow)) && (!(s.any (decide <| 4 ≤ ·)) || decide (per ≤ i.nHigh)))
      || decide (4 * per + i.jobSet.nSet ≤ i.nPeriod)
  else decide (per ≤ i.nValid) || decide (2 * per + i.jobSet.nSet ≤ i.nPeriod)

/-- A slot takes part in the identification: its measured frequency is 20 Hz or more (R199). -/
def identSlot (f : Nat) : Bool := decide (fxI 20 ≤ measuredHz f)

/-- The sums of the band in progress as a band whose results are to be written. -/
def Block.bandResult (b : Block) : BandDone :=
  let i := b.imp
  let has (p : Nat) : Bool := (i.jobSet.slotsOf p).any fun k => identSlot (i.jobSet.reqs.getD k 0)
  { p := i.band, endAt := i.perAt, last := decide (i.bands = []), job := i.job.getD 0
    handOver := has i.band && decide (i.jobSet.nPer ≤ i.nValid), retune := has i.band && !(i.bands.any has), written := false
    samples := b.periodSamples, nValid := i.nValid, cells := i.acc, sumI := i.sumI, sumX := i.sumX, sumPh := i.sumPh, linkV := i.linkV }

/-! ### Results (R188, R192 to R198) -/

/-- Phase of Z in 0.001°. -/
def phaseMilli (z : Cpx) : Int := fxRound (fxDiv (fxAtan2 z.im z.re * 180000) fxPi)

/-- Interpolate between two points of a ZT record. -/
def ztBetween (a c : Int × Int) (phi : Fx) : Fx := fxI a.2 + fxDiv (fxMul (fxI (c.2 - a.2)) (phi - fxI a.1)) (fxI (c.1 - a.1))

/-- ZT(φ) in 0.01 °C over points with rising phase, and whether φ lies outside their range (R194). -/
def ztRising (phi : Fx) : List (Int × Int) → Fx × Bool
  | [] => (0, true)
  | [a] => (fxI a.2, decide (fxI a.1 < phi))
  | a :: c :: l => if phi < fxI a.1 then (fxI a.2, true) else if phi ≤ fxI c.1 then (ztBetween a c phi, false) else ztRising phi (c :: l)

/-- ZT(φ) at the phase of Z at full precision, in 0.001°. -/
def ZtRec.at_ (r : ZtRec) (phi : Fx) : Fx × Bool :=
  let up := decide ((r.points.headD (0, 0)).1 ≤ (r.points.getLastD (0, 0)).1)
  ztRising phi (if up then r.points else r.points.reverse)

/-- Median of a list; the mean of the middle two for an even count. -/
def medianFx (l : List Fx) : Option Fx :=
  let s := l.mergeSort
  if s = [] then none
  else if s.length % 2 = 1 then some (s.getD (s.length / 2) 0) else some ((s.getD (s.length / 2 - 1) 0 + s.getD (s.length / 2) 0) / 2)

/-- The entries of a band for one cell (R188, R192). -/
def writeEntries (slots : List Nat) (r : BandDone) (nPer : Nat) (c : Nat) (m : ImpCell) : ImpCell :=
  let a := r.cells.getD c (ImpAcc.empty slots.length)
  let m0 := if m.job = r.job then m else { m with upd := if slots.length = 0 then m.upd else 0, low := m.low }
  (List.range slots.length).foldl (fun (m : ImpCell) j =>
    let s := slots.getD j 0
    let v := a.valid.getD j 0
    if 2 * v < nPer ∨ v = 0 then m
    else
      let zi := zDiv (a.sumV.getD j Cpx.zero).fz (a.sumI.getD j Cpx.zero).fz
      let sc (x : Fx) : Fx := x * 1000000 / 2048
      { m with
        z := m.z.set s (some (Cpx.ofFz (sc zi.1, sc zi.2)))
        job := r.job
        upd := (m.upd).lor (2 ^ s)
        low := if v < nPer then m.low.lor (2 ^ s) else m.low - (if m.low.testBit s then 2 ^ s else 0) }) (if (List.range slots.length).any (fun j => decide (nPer ≤ 2 * a.valid.getD j 0 ∧ 0 < a.valid.getD j 0)) then m0 else m)

/-- The internal temperature of a cell whose fit slot this band wrote; TOFF is learned at thermal equilibrium after it (R194, R195; log entry 24). The flag
says that the cell learned. -/
def fitTemp (b : Block) (slots : List Nat) (r : BandDone) (c : Nat) (m : ImpCell) : ImpCell × Bool :=
  match b.imp.jobZts.getD (b.flt.slotMap.getD (segOf c) 0) none with
  | none => (m, false)
  | some rec =>
    match slots.find? fun s => freqCode (b.imp.jobSet.reqs.getD s 0) == rec.fcode && m.upd.testBit s && m.job == r.job with
    | none => (m, false)
    | some s =>
      match m.z.getD s none with
      | none => (m, false)
      | some z =>
        let phi := fxDiv (fxAtan2 z.im z.re * 180000) fxPi
        let zt := rec.at_ phi
        let now := b.sys.now
        let steady := decide (m.anchor.isSome = true ∧ m.anchorAt + 1800 * secT ≤ now) && (match b.imp.quietAt with
          | some t => decide (t + 7200 * secT ≤ now)
          | none => false)
        let m1 := { m with phi := some (fxRound phi), tInt := some (fxRound zt.1 + m.tOff), ztClamp := zt.2, fitAt := some now }
        match b.cellTemp c with
        | some th => if !steady then (m1, false) else
            let d := th - fxRound zt.1
            ({ m1 with tOff := clampI (-500) 500 (if m.offL then m.tOff + divNear (d - m.tOff) 4 else d), offL := true }, true)
        | none => (m1, false)

/-- The health words of a cell at HSLOT (R198). -/
def healthOf (b : Block) (med : Option Fx) (c : Nat) (m : ImpCell) : ImpCell :=
  let h := b.imp.hslot
  match m.z.getD h none with
  | none => m
  | some z =>
    let a := z.abs
    let base := m.base.getD h (0, 0)
    let near := match (b.cellFlt c).temp with
      | some t => decide (|t - m.tBase| ≤ 300)
      | none => false
    let grow := if m.baseV && near then
        let bz : Cpx := { re := fxI (2 * base.1), im := fxI (2 * base.2) }
        (clampI 0 65535 (fxRound (fxDiv a bz.abs * 16384))).toNat
      else m.grow
    let odev := med.map fun v => clampI (-32767) 32767 (fxRound (fxDiv (a - v) v * 10000))
    { m with grow := grow, odev := odev, hTemp := (b.cellFlt c).temp }

/-- IMP_GROWTH and IMP_OUTLIER, once per crossing, rearmed below 95 % of the threshold (R198). -/
def healthEvents (c : Nat) (b : Block) : Block :=
  let m := b.impCell c
  let i := b.imp
  let o : Int := match m.odev with
    | some v => |v|
    | none => 0
  let g1 := decide (i.growWarn < m.grow)
  let o1 := decide ((i.outWarn : Int) < o)
  let b1 := if g1 && !m.growHigh then note .impGrowth c [m.grow] b else b
  let b2 := if o1 && !m.outHigh then note .impOutlier c [dw (m.odev.getD 0)] b1 else b1
  b2.onImp fun i => { i with cells := modAt i.cells c fun m => { m with
    growHigh := g1 || (m.growHigh && decide (i.growWarn * 95 ≤ m.grow * 100))
    outHigh := o1 || (m.outHigh && decide ((i.outWarn : Int) * 95 ≤ o * 100)) } }

/-- The map, temperatures, offsets, health words and line amplitudes of a band (R188, R192 to R198, R203). -/
def writeBand (r : BandDone) (b : Block) : Block :=
  let x := b.imp.jobSet
  let slots := x.slotsOf r.p
  let h := decide (b.imp.hslot ∈ slots)
  let b1 := b.onImp fun i => { i with
    cells := i.cells.mapIdx fun c m => if c < b.nCell then writeEntries slots r x.nPer c m else m
    iLine := slots.foldl (fun (l : List Nat) s =>
      let j := slots.idxOf s
      let a := (r.sumI.getD j Cpx.zero).abs
      l.set s (if r.nValid = 0 ∨ r.samples = 0 then 0 else min 65535 (fxRound (2 * a / (1000 * (r.nValid * r.samples : Nat)))).toNat)) i.iLine }
  let done := slots.foldl (fun m s => if (List.range b.nCell).any (fun c => (b1.impCell c).job == r.job && (b1.impCell c).upd.testBit s) then m.lor (2 ^ s) else m) b.imp.done
  let fits := (List.range b.nCell).map fun c => fitTemp b1 slots r c (b1.impCell c)
  let learned := (fits.filter (·.2)).length
  let b2 := b1.onImp fun i => { i with done := done, cells := i.cells.mapIdx fun c m => (fits.getD c (m, false)).1 }
  let b3 := if 0 < learned then note .impToffLearn noArg [learned] b2 else b2
  let b4 := if h then
      let meds := (List.range b.nSeg).map fun n => medianFx ((List.range 32).filterMap fun k => ((b3.impCell (32 * n + k)).z.getD b3.imp.hslot none).map Cpx.abs)
      let b5 := b3.onImp fun i => { i with cells := i.cells.mapIdx fun c m => if c < b.nCell then healthOf b3 (meds.getD (segOf c) none) c m else m }
      (List.range b.nCell).foldl (fun b c => healthEvents c b) b5
    else b3
  b4.touch (0x47 :: impTiles)

/-- The entries of a job that has completed with OK are kept for baselines (R197). -/
def keepOk (j : Nat) (b : Block) : Block :=
  b.onImp fun i => { i with cells := i.cells.map fun m =>
    if m.job = j ∧ m.upd = 255 then { m with okZ := m.z, okT := m.hTemp } else { m with okZ := [], okT := none } }

/-- BAND_RESULTS_WRITTEN (R189): 5 ms after the band's end; after the last band the job completes with OK. -/
def doBandResultsWritten (b : Block) : Block :=
  match b.imp.bandDone with
  | none => b
  | some r =>
    if r.written ∨ b.imp.job ≠ some r.job then b
    else
      let b1 := writeBand r (b.at (r.endAt + 5 * msT))
      let b2 := b1.onImp fun i => { i with bandDone := some { r with written := true, cells := [] } }
      if r.last then
        (endJob .ok (keepOk r.job b2)).onImp fun i => { i with bandDone := some { r with written := true, cells := [] } }
      else b2

def execBandResultsWritten (s : State) := effect doBandResultsWritten s

/-- Mean link voltage of a band, mV. -/
def BandDone.link (r : BandDone) : Int := if r.linkV.n = 0 then 0 else divNear r.linkV.sum r.linkV.n

/-- The identification points of a band: per phase V_LINK × ΣD / ΣI in µΩ, per slot the tracking ratio in 1/16,384 (R199, R223, R246). -/
def handPoints (r : BandDone) (b : Block) : Block :=
  let slots := b.imp.jobSet.slotsOf r.p
  let v := r.link
  b.onCnv fun c => { c with
    trackJob := r.job
    track := (if c.trackJob = r.job then c.track else List.replicate 8 none).mapIdx fun s old =>
      if s ∈ slots then
        let j := slots.idxOf s
        let z := zDiv (r.sumI.getD j Cpx.zero).fz ((r.sumX.getD j Cpx.zero).fz.1 * 1000, (r.sumX.getD j Cpx.zero).fz.2 * 1000)
        if identSlot (b.imp.jobSet.reqs.getD s 0) then some (fxRound (z.1 * 16384), fxRound (z.2 * 16384)) else old
      else old
    phases := c.phases.mapIdx fun k (p : Phase) =>
      if p.st = .unconfigured then p
      else
        ({ p with
          identJob := r.job
          identV := v
          ident := (if p.identJob = r.job then p.ident else List.replicate 8 none).mapIdx fun s old =>
            if s ∈ slots then
              let j := slots.idxOf s
              let q := r.sumPh.getD k ([], [])
              let d := q.2.getD j Cpx.zero
              let i := q.1.getD j Cpx.zero
              let z := zDiv d.fz (i.re * fxOne, i.im * fxOne)
              if identSlot (b.imp.jobSet.reqs.getD s 0) && (i.re != 0 || i.im != 0) then
                some (fxRound (z.1 * v * 1000000), fxRound (z.2 * v * 1000000))
              else old
            else old } : Phase) }

/-- IDENT_HANDOVER (R189, R199, R223): 6 ms after the band's end; after the job's last band that holds a slot of 20 Hz or more, the compensators retune. -/
def doIdentHandover (b : Block) : Block :=
  match b.imp.bandDone with
  | none => b
  | some r =>
    if !r.written then b
    else
      let b0 := (b.at (r.endAt + 6 * msT)).onImp fun i => { i with bandDone := none }
      let b1 := if r.handOver then (handPoints r b0).touch ([0x330] ++ (List.range 16).map (0x320 + ·)) else b0
      if r.retune then retune r.job (b.imp.jobSet.reqs.map measuredHz) b1 else b1

def execIdentHandover (s : State) := effect doIdentHandover s

/-- IMPEDANCE_BAND_END (R186, R189): the results of the band go to be written, and the next band is due. -/
def doImpedanceBandEnd (b : Block) : Block :=
  if b.bandOn = false ∨ b.bandComplete = false ∨ b.imp.state = .stopping then b
  else
    let b0 := doIdentHandover (doBandResultsWritten b)
    let e := b0.imp.perAt
    let b1 := b0.onImp fun i => { i with bandDone := some b.bandResult, x := 0, nPeriod := 0, nValid := 0, nLow := 0, nHigh := 0 }
    (if b1.imp.bands = [] then b1.onImp fun i => { i with lfsr := 0 } else beginBand (multipleFrom (rateTicks b.sense.rate) (e + 100 * usT)) b1).touch [0x45]

def execImpedanceBandEnd (s : State) := effect doImpedanceBandEnd s

/-! ### Schedule and enable (R190, R191) -/

/-- Queue a job under the next number; the queue was not full. -/
def queueJob (b : Block) : Block :=
  (b.onImp fun i => { i with
    waiting := i.waiting ++ [i.nextJob]
    nextJob := i.nextJob + 1
    dueAt := if i.queue = 0 then b.sys.now else i.dueAt }).touch [0x45]

/-- IMP_PERIODIC_DUE (R190). -/
def doImpPeriodicDue (b : Block) : Block :=
  match b.imp.nextDue with
  | none => b
  | some t =>
    let b1 := (b.at t).onImp fun i => { i with nextDue := some (t + i.interval * secT) }
    if 0 < b.imp.queue ∨ b.impOk = false ∨ b.imp.set.bands b.sense.rate = [] then note .impSkip noArg [] b1 else queueJob b1

def execImpPeriodicDue (s : State) := effect doImpPeriodicDue s

/-- The waiting jobs complete with ABORTED in queue order (R191). -/
def abortWaiting (b : Block) : Block :=
  b.imp.waiting.foldl (fun b j =>
    note .impJobEnd noArg [Status.aborted.code, 0, 0] (b.onImp fun i => { i with waiting := i.waiting.drop 1, lastJob := j, lastStat := Status.aborted.code, lastDone := 0 })) b

/-- The end of R191: the band cut short is written for the cells with enough periods, the jobs complete, STATE reads 4 and the command completes. -/
def finishDisable (b : Block) : Block :=
  let b1 := match b.imp.job with
    | some _ =>
      let b0 := doBandResultsWritten b
      let r := { b.bandResult with last := true }
      if b0.imp.job.isSome then endJob .aborted (if 0 < b.imp.nPeriod then writeBand r b0 else b0) else b0
    | none => b
  let b2 := (abortWaiting b1).onImp fun i => { i with state := .disabled, disabling := none, x := 0 }
  (match b.imp.disabling with
    | some src => complete src .ok [] b2
    | none => b2).touch impTiles

/-- IMP_DISABLE_DONE (R191). -/
def doImpDisableDone (b : Block) : Block := if b.imp.disabling.isSome then finishDisable b else b
def execImpDisableDone (s : State) := effect doImpDisableDone s

/-! ### Commands (R202) -/

/-- A strictly rising list of numbers. -/
def risingNat : List Nat → Bool
  | a :: b :: l => decide (a < b) && risingNat (b :: l)
  | _ => true

def ruleImpSetFreqs (src : Src) (reqs : List Nat) (_b : Block) : HostRule :=
  { opcode := 0x0601, owner := true, stateOk := true
    param := need (decide (reqs.length = 8) && reqs.all (fun f => decide (100 ≤ f ∧ f ≤ 10000000)) && risingNat reqs && decide ((reqs.map freqCode).Nodup))
    act := fun b => (complete src .ok (reqs.flatMap fun f => leBytes 4 (freqCode f)) (settingChanged (b.onImp fun i => { i with set := { i.set with reqs := reqs } }))).touch
      [0x46, 0x47] }

def execImpSetFreqs (src : Src) (reqs : List Nat) (s : State) := effect (host src (ruleImpSetFreqs src reqs)) s

def ruleImpSetExcitation (src : Src) (amp nPer nSet : Nat) (_b : Block) : HostRule :=
  { opcode := 0x0602, owner := true, stateOk := true
    param := need (decide (2000 ≤ amp ∧ amp ≤ 20000 ∧ amp % 100 = 0 ∧ 1 ≤ nPer ∧ nPer ≤ 64 ∧ 1 ≤ nSet ∧ nSet ≤ 4))
    act := fun b => (complete src .ok [] (settingChanged (b.onImp fun i => { i with set := { i.set with amp := amp, nPer := nPer, nSet := nSet } }))).touch [0x46] }

def execImpSetExcitation (src : Src) (amp nPer nSet : Nat) (s : State) := effect (host src (ruleImpSetExcitation src amp nPer nSet)) s

def ruleImpStart (src : Src) (b : Block) : HostRule :=
  { opcode := 0x0603, owner := true, stateOk := b.impOk && (b.imp.set.bands b.sense.rate != [])
    param := if 4 ≤ b.imp.queue then some .busy else none
    act := fun b => complete src .ok (leBytes 4 b.imp.nextJob) (queueJob b) }

def execImpStart (src : Src) (s : State) := effect (host src (ruleImpStart src)) s

def ruleImpEnable (src : Src) (en : Nat) (_b : Block) : HostRule :=
  { opcode := 0x0604, owner := true, stateOk := true, param := need (decide (en ≤ 1))
    act := fun b =>
      if en = 1 then
        (complete src .ok [] (settingChanged (b.onImp fun i => { i with en := true, state := if i.state = .disabled then .idle else i.state }))).touch [0x45]
      else
        let b1 := settingChanged (b.onImp fun i => { i with en := false, disabling := some src, state := .stopping })
        if b.imp.job.isSome then b1.touch [0x45] else finishDisable b1 }

def execImpEnable (src : Src) (en : Nat) (s : State) := effect (host src (ruleImpEnable src en)) s

/-- The next periodic job falls due INTERVAL after the latest start; with no start yet, INTERVAL from now (log entry 25). -/
def ruleImpSetSchedule (src : Src) (interval : Nat) (_b : Block) : HostRule :=
  { opcode := 0x0605, owner := true, stateOk := true, param := need (decide (interval = 0 ∨ (600 ≤ interval ∧ interval ≤ 604800)))
    act := fun b => (complete src .ok [] (settingChanged (b.onImp fun i => { i with
      interval := interval
      nextDue := if interval = 0 then none else some (max b.sys.now (i.lastStart.getD b.sys.now + interval * secT)) }))).touch [0x45, 0x46] }

def execImpSetSchedule (src : Src) (interval : Nat) (s : State) := effect (host src (ruleImpSetSchedule src interval)) s

/-- The fields of a ZT record (R193). -/
def parseZt (bs : List Byte) : ZtRec :=
  { fcode := leField bs 4 4, points := (List.range (leField bs 8 1)).map fun k => (leSigned bs (12 + 8 * k) 4, leSigned bs (16 + 8 * k) 2), bytes := bs }

/-- The checks of R193 in order; 0 is success. -/
def ztCheck (bs : List Byte) : Nat :=
  let n := leField bs 8 1
  let ts := (List.range n).map fun k => leSigned bs (16 + 8 * k) 2
  let ps := (List.range n).map fun k => leSigned bs (12 + 8 * k) 4
  let reserved := leField bs 9 3 = 0 ∧ (List.range 16).all (fun k => decide (leField bs (18 + 8 * k) 2 = 0) && (decide (k < n) || decide (leField bs (12 + 8 * k) 8 = 0))) = true
  if leField bs 0 2 ≠ 1 ∨ leField bs 2 2 ≠ 144 ∨ ¬ reserved ∨ n < 2 ∨ 16 < n then 1
  else if crc32c (bs.take 140) ≠ leField bs 140 4 then 2
  else if 11 < leField bs 4 4 / 268435456 ∨ leField bs 4 4 % 2048 < 16 ∨ 1024 < leField bs 4 4 % 2048 ∨ leField bs 4 4 / 2048 % 131072 ≠ 0 then 3
  else if !rising ts || ts.any (fun t => decide (t < -4000 ∨ 8000 < t)) then 4
  else if !(rising ps || rising (ps.map (- ·))) || ps.any (fun p => decide (90000 < |p|)) then 5
  else 0

def ruleImpZtWrite (src : Src) (slot : Nat) (rec : List Byte) (_b : Block) : HostRule :=
  { opcode := 0x0606, owner := true, stateOk := true, param := need (decide (slot ≤ 3 ∧ rec.length = 144))
    act := fun b =>
      let code := ztCheck rec
      if code ≠ 0 then complete src .badParam (leBytes 1 code) b
      else (complete src .ok (leBytes 1 0) (settingChanged (b.onImp fun i => { i with zts := modAt i.zts slot fun _ => some (parseZt rec) }))).touch [0x46] }

def execImpZtWrite (src : Src) (slot : Nat) (rec : List Byte) (s : State) := effect (host src (ruleImpZtWrite src slot rec)) s

/-- The latest job that completed with OK did so within the last 24 h (R197). -/
def Block.okRecent (b : Block) : Bool := match b.imp.lastOkAt with
  | some t => decide (b.sys.now ≤ t + 86400 * secT)
  | none => false

/-- An entry of the map in units of 2 µΩ (R192). -/
def entryUnits (z : Option Cpx) : Option (Int × Int) := z.map fun z => (clampI (-32767) 32767 (fxRound (z.re / 2)), clampI (-32767) 32767 (fxRound (z.im / 2)))

/-- Capture the baselines of the named segments (R197). -/
def captureBase (mask : Nat) (b : Block) : Block × Nat :=
  let cs := (List.range b.nCell).filter fun c => mask.testBit (segOf c) && decide ((b.impCell c).okZ ≠ [])
  let t := b.optime % 4294967296
  ((b.onImp fun i => { i with
    baseTime := t
    cells := i.cells.mapIdx fun c m => if c ∈ cs then
        { m with base := m.okZ.map fun z => (entryUnits z).getD (0, 0), baseV := true, tBase := m.okT.getD Config.firstTemperature, bTime := t }
      else m }), cs.length)

def ruleImpSetBaseline (src : Src) (mask : Nat) (b : Block) : HostRule :=
  { opcode := 0x0607, owner := true, stateOk := b.okRecent, param := need (b.maskFitted mask)
    act := fun b =>
      let r := captureBase mask b
      (complete src .ok (leBytes 2 r.2) r.1).touch (0x46 :: impTiles) }

def execImpSetBaseline (src : Src) (mask : Nat) (s : State) := effect (host src (ruleImpSetBaseline src mask)) s

def ruleImpSetHealth (src : Src) (hslot growWarn outWarn : Nat) (_b : Block) : HostRule :=
  { opcode := 0x0608, owner := true, stateOk := true, param := need (decide (hslot ≤ 7 ∧ 16385 ≤ growWarn ∧ growWarn ≤ 65535 ∧ 100 ≤ outWarn ∧ outWarn ≤ 10000))
    act := fun b => (complete src .ok [] (settingChanged (b.onImp fun i => { i with hslot := hslot, growWarn := growWarn, outWarn := outWarn }))).touch [0x46] }

def execImpSetHealth (src : Src) (hslot growWarn outWarn : Nat) (s : State) := effect (host src (ruleImpSetHealth src hslot growWarn outWarn)) s

/-- A word of two s16 parts; no value reads 0x8000 in both (R192). -/
def entryWord (z : Option (Int × Int)) : Word := match z with
  | some p => packWord [(31, 16, ofSigned 16 p.2), (15, 0, ofSigned 16 p.1)]
  | none => 0x80008000#32

def ruleImpGetBaseline (src : Src) (cell : Nat) (b : Block) : HostRule :=
  { opcode := 0x0609, owner := false, stateOk := true, param := need (decide (cell < b.nCell))
    act := fun b =>
      let m := b.impCell cell
      let ws := (List.range 8).map fun s => entryWord (if m.baseV then some (m.base.getD s (0, 0)) else none)
      complete src .ok (wordsBytes ws ++ leBytes 2 (if m.baseV then s16Of m.tBase else 0x8000) ++ leBytes 4 m.bTime) b }

def execImpGetBaseline (src : Src) (cell : Nat) (s : State) := effect (host src (ruleImpGetBaseline src cell)) s

def ruleImpGetConfig (src : Src) (_b : Block) : HostRule := { opcode := 0x060A, owner := false, stateOk := true, param := none, act := replyTile src 0x46 14 }
def execImpGetConfig (src : Src) (s : State) := effect (host src (ruleImpGetConfig src)) s

end Sys2Proof.Machine
end

