-- ==== Sys2Proof/Machine/Loop.lean ====
section
/-! DEFINITION. The loop engine and its set-point sources (R248 to R264, R274 to R277, R282). Reals are fixed point (log entry 6). -/

namespace Sys2Proof.Machine

/-- Tiles of the loop engine. -/
def loopTiles : List Nat := [0x400, 0x401]

/-! ### Scales and terms (R249, R251, R252, R257) -/

/-- KP or KI times a value in the unit of the mode, in mA. -/
def gainTerm (mode k : Nat) (e : Fx) : Fx := if mode = 1 then e * (k : Int) / 65536 else e * (k : Int) / 1000

/-- FS of the mode. -/
def LoopSet.fullScale (x : LoopSet) (mode : Nat) : Int := if mode = 0 then x.pmax else if mode = 1 then x.imax else x.vdcSpan

/-- What a source without a value, or a loss, delivers: 0, or VDC_MID in mode 2 (R254, R259). -/
def LoopSet.zeroValue (x : LoopSet) (mode : Nat) : Fx := if mode = 2 then fxI x.vdcMid else 0

/-- A normalised value as a set-point (R253). -/
def LoopSet.scaled (x : LoopSet) (mode : Nat) (n : Fx) : Fx := if mode = 2 then fxI x.vdcMid + n * x.vdcSpan else n * x.fullScale mode

/-- A value within the range of R254 for its mode. -/
def LoopSet.inRange (x : LoopSet) (mode : Nat) (v : Int) : Bool :=
  if mode = 2 then decide (x.vdcMid - x.vdcSpan ≤ v ∧ v ≤ x.vdcMid + x.vdcSpan) else decide (|v| ≤ x.fullScale mode)

/-- V_est in volts, and whether it had to come from V_LAST (R252). -/
def Block.vEst (b : Block) : Fx × Bool :=
  match (if b.flt.nValid = 0 then none else b.flt.ocvSum) with
  | some o => (fxQ o 1000000 + b.loop.u * (b.flt.rsSum : Int) / 1000000000, false)
  | none => (match b.sense.strV.last with
    | some v => fxQ v 1000000
    | none => 0, true)

/-- Feed-forward for a set-point, mA (R252). -/
def Block.feedForward (b : Block) (sp : Fx) : Fx :=
  if !b.loop.set.ffEn then 0 else if b.loop.lmode = 0 then fxDiv (sp * 1000) b.vEst.1 else if b.loop.lmode = 1 then sp else 0

/-- lo and hi of R251, mA. -/
def Block.loopLimits (b : Block) : Fx × Fx := (-(fxI (b.ilimEff.2 : Int)), fxI (b.ilimEff.1 : Int))

/-! ### Sources (R253 to R260) -/

/-- Change a source. -/
def onSource (i : Nat) (f : Source → Source) (b : Block) : Block := b.onLoop fun l => { l with sources := modAt l.sources i f }

/-- A source becomes lost: LOST if it is selected, LOSSES counts, LOOP_SRC_LOST names it (R258, R276, R282). -/
def loseSource (i : Nat) (b : Block) : Block :=
  if b.srcLost i then onSource i (fun s => { s with okAt := none }) b
  else
    let b1 := (onSource i (fun _ => { lost := true, okAt := none }) b).onLoop fun l => { l with losses := satAdd 65535 l.losses 1 }
    (lossAction (note .loopSrcLost i [] b1)).touch loopTiles

/-- A lost source returns (R258). -/
def returnSource (i : Nat) (b : Block) : Block :=
  if b.srcLost i then (note .loopSrcBack i [] (onSource i (fun _ => { lost := false, okAt := none }) b)).touch loopTiles else b

/-- The condition of a lost source is present, or has been absent since now or earlier. -/
def trackSource (i : Nat) (ok : Bool) (b : Block) : Block :=
  if !ok then loseSource i b
  else onSource i (fun s => { s with okAt := match s.okAt with
    | some t => some t
    | none => some b.sys.now }) b

/-- Normalised value of the analogue input (R253): AIN_DB is in 2 mV. -/
def ainNorm (db : Nat) (uv : Int) : Fx := if |uv| ≤ (db * 2000 : Nat) then 0 else clampI (-fxOne) fxOne (fxQ uv 10000000)

/-- Normalised value of a pulse duty (R253). -/
def pulseNorm (duty : Fx) : Fx := clampI (-fxOne) fxOne (fxDiv (duty - fxOne / 2) (fxQ 4 10))

/-- Signed difference of two PTP times in ns, over the wrap of the seconds (R380). -/
def ptpDiff (a b : Int) : Int :=
  let m : Int := 281474976710656 * 1000000000
  let d := (a - b) % m
  if m ≤ 2 * d then d - m else d

/-- Time of a schedule entry in ns. -/
def SchedEntry.time (e : SchedEntry) : Int := (e.sec : Int) * 1000000000 + e.ns

/-- RAMP (R255). -/
def SchedEntry.ramp (e : SchedEntry) : Bool := bitOf 0 e.flags

/-- Index of the latest entry at or before PTP time `t` (R256). -/
def schedIndex (l : List SchedEntry) (t : Int) : Option Nat :=
  ((List.range l.length).filter fun i => match l[i]? with
    | some e => decide (0 ≤ ptpDiff t e.time)
    | none => false).getLast?

/-- The schedule at PTP time `t` (R256). -/
def schedStep (t : Int) (b : Block) : Block :=
  let l := b.loop
  match schedIndex l.sched t with
  | none => b.onLoop fun l => { l with schedIx := none, schedWait := !l.sched.isEmpty, schedEnd := false, schedVal := some (l.set.zeroValue l.lmode) }
  | some i =>
    let b0 := b.onLoop fun l => { l with schedIx := some i, schedWait := false, schedEnd := decide (i + 1 = l.sched.length) }
    match l.sched[i]? with
    | none => b0
    | some e =>
      if e.mode ≠ l.lmode then
        if l.schedSkip = some i then b0 else note .loopSchedMode i [e.mode, l.lmode] (b0.onLoop fun l => { l with schedSkip := some i })
      else
        let v : Fx := match l.sched[i + 1]? with
          | some n => if n.ramp && decide (n.mode = l.lmode) then
              fxI e.value + fxDiv ((n.value - e.value) * fxI (ptpDiff t e.time)) (fxI (ptpDiff n.time e.time))
            else fxI e.value
          | none => fxI e.value
        b0.onLoop fun l => { l with schedVal := some v, schedSkip := none }

/-- Value that source `i` delivers (R253, R254). -/
def Block.delivered (b : Block) (i : Nat) : Option Fx :=
  let l := b.loop
  match i with
  | 0 => some (match l.packet with
    | some v => fxI v
    | none => l.set.zeroValue l.lmode)
  | 1 => some (l.set.scaled l.lmode (ainNorm l.set.ainDb l.ainUse))
  | 2 => some (l.set.scaled l.lmode (pulseNorm l.pulseDuty))
  | _ => l.schedVal

/-- The source value: the value delivered; a lost source keeps its last valid value, or becomes 0 or VDC_MID under its loss action (R258, R259). -/
def Block.sourceValue (b : Block) : Option Fx :=
  let l := b.loop
  if !b.srcLost l.src then b.delivered l.src
  else if b.cnv.st = .regulate ∧ l.am = false ∧ b.hinge = false ∧ (l.set.lossAct = 1 ∨ (l.set.lossAct = 2 ∧ l.onFb = true)) then some (l.set.zeroValue l.lmode)
  else l.spSrc

/-! ### Cycle (R248 to R252, R257, R261, R262) -/

/-- What a stored snapshot of count `count` adds to the feedback (R250). -/
def loopTake (count : Nat) (b : Block) : Block :=
  match b.sense.strV.last, b.sense.cur.last with
  | some v, some i =>
    let x : Int := match b.imp.latched.find? fun p => p.1 == count with
      | some p => p.2.1
      | none => 0
    let ix := i - 1000 * x
    b.onLoop fun l => { l with sumP := l.sumP + fxQ (v * ix) 1000000000000, sumI := l.sumI + fxQ ix 1000, sumN := l.sumN + 1 }
  | _, _ => b

/-- Feedback of the cycle (R250). -/
def Block.loopFb (b : Block) : Option Fx :=
  let l := b.loop
  if l.lmode = 2 then b.vLinkMv.map fxI else if l.sumN = 0 then none else some ((if l.lmode = 0 then l.sumP else l.sumI) / (l.sumN : Int))

/-- The preset of R261 for an occasion: u equals u0. -/
def makePreset (code : Nat) (u0 : Fx) (b : Block) : Block :=
  let l := b.loop
  let sp : Option Fx := match l.fb with
    | some f => some f
    | none => match l.spR with
      | some s => some s
      | none => l.spSrc
  let ff := b.feedForward (sp.getD 0)
  let (lo, hi) := b.loopLimits
  let ig := clampI (lo - ff) (hi - ff) (u0 - ff)
  let b1 := b.onLoop fun l => { l with
    spR := sp, p := 0, ff := ff, ig := ig, u := ff + ig, limHi := decide (ff + ig = hi), limLo := decide (ff + ig = lo), presets := satAdd 65535 l.presets 1
    preset := none }
  note .loopPreset noArg [code, dw (fxRound u0)] b1

/-- Manual operation (R262): the reference moves at MAN_RAMP towards MAN_IREF within the limits. -/
def manualStep (b : Block) : Block :=
  let (lo, hi) := b.loopLimits
  let l := b.loop
  let d := fxQ l.set.manRamp 10000
  let m := clampI lo hi (slewRef l.manRef (fxI l.manIref) d)
  b.onLoop fun l => { l with manRef := m, u := m, limHi := decide (m = hi), limLo := decide (m = lo) }

/-- Automatic operation (R251, R252, R257). -/
def autoStep (b : Block) : Block :=
  let l := b.loop
  let ramped (src : Fx) : Fx := match l.spR with
    | some s => slewRef s src (fxQ ((l.set.spRamp : Int) * l.set.fullScale l.lmode) 655360000)
    | none => src
  match l.fb, l.spSrc with
  | some fb, some src =>
    let sp := ramped src
    let sign : Int := if l.lmode = 2 then -1 else 1
    let e := sp - fb
    let ff := b.feedForward sp
    let p := sign * gainTerm l.lmode (l.set.gains.getD (2 * l.lmode) 0) e
    let (lo, hi) := b.loopLimits
    let ig := clampI (lo - ff - p) (hi - ff - p) (l.ig + sign * gainTerm l.lmode (l.set.gains.getD (2 * l.lmode + 1) 0) e / 10000)
    let u := clampI lo hi (ff + p + ig)
    let lost := l.set.ffEn && decide (l.lmode = 0) && b.vEst.2
    let b1 := b.onLoop fun l => { l with
      spR := some sp, ff := ff, p := p, ig := ig, u := u, limHi := decide (u = hi), limLo := decide (u = lo), ffLost := lost }
    if lost && !l.ffLost then note .loopFfLost noArg [] b1 else b1
  | none, some src => b.onLoop fun l => { l with spR := some (ramped src) }
  | _, none => b

/-- The inputs of the cycle: the analogue sample outside the open test, the schedule, and the losses that a cycle finds (R253, R256, R258, R264). -/
def loopInputs (ain : Int) (b : Block) : Block :=
  let now := b.sys.now
  let masked := decide (now < b.loop.ainMask)
  let b1 := b.onLoop fun l => { l with
    ain := if masked then l.ain else some ain
    ainUse := if masked then l.ainUse else ain
    sched := match l.commit with
      | some t => t
      | none => l.sched
    commit := none
    schedSkip := if l.commit.isSome then none else l.schedSkip
    unlockAt := if b.ptpLock then none else match l.unlockAt with
      | some t => some t
      | none => some now }
  let b2 := if masked then b1 else trackSource 1 (decide (|ain| ≤ 10500000) && !b1.loop.ainOpen) b1
  let b3 := if b2.loop.sched = [] then loseSource 3 b2 else if b.ptpLock then trackSource 3 true b2 else onSource 3 (fun s => { s with okAt := none }) b2
  schedStep b3.ptpNs b3

/-- The changes of mode, operation and source accepted since the last cycle take effect; the result carries the occasion of a preset (R254, R260 to R262, R274). -/
def loopChanges (b : Block) : Block :=
  let l := b.loop
  let reg := decide (b.cnv.st = .regulate)
  let b1 := if l.srcDue then b.onLoop fun l => { l with src := l.set.src, srcDue := false, onFb := false } else b
  let modeChg := l.modeDue && decide (l.set.lmode ≠ l.lmode)
  let b2 := if modeChg then
      let b2 := b1.onLoop fun l => { l with
        lmode := l.set.lmode, packet := none, spSrc := none, fb := none, sumN := 0, sumP := 0, sumI := 0, spR := none, schedVal := none
        preset := if reg && !l.am && l.preset.isNone then some (3, l.u) else l.preset }
      if b2.linkLoop then impStop b2 else b2
    else b1
  let b3 := b2.onLoop fun l => { l with modeDue := false }
  match b3.loop.amDue with
  | some true => b3.onLoop fun l => { l with am := true, amDue := none, manRef := if l.am then l.manRef else l.u, preset := none }
  | some false => b3.onLoop fun l => { l with am := false, amDue := none, preset := if l.am then some (2, l.manRef) else l.preset }
  | none => b3

/-- The hand-over from SETTLE: the manual reference starts from the converter's last i_ref, or a preset is made (R261, R262). -/
def takeHandOver (b : Block) : Block :=
  match b.cnv.handOver with
  | none => b
  | some i =>
    let b1 := b.onCnv fun c => { c with handOver := none }
    if b.loop.am then b1.onLoop fun l => { l with manRef := fxI i } else b1.onLoop fun l => { l with preset := some (1, fxI i) }

/-- LOOP_CYCLE (R248 to R262): at the next multiple of 10,000. -/
def doLoopCycle (ain : Int) (b : Block) : Block :=
  if b.sys.mstate = .off then b
  else
    let b1 := loopInputs ain (b.at (b.nextMultiple 10000))
    let b2 := b1.onLoop fun l => { l with cycles := (l.cycles + 1) % 4294967296 }
    if b2.hinge then
      (b2.onLoop fun l => { l with
        held := true, spSrc := b2.sourceValue, sumN := 0, sumP := 0, sumI := 0
        fb := match b2.loopFb with
          | some f => some f
          | none => l.fb }).touch loopTiles
    else
      let b3 := takeHandOver (loopChanges (b2.onLoop fun l => { l with held := false }))
      let b4 := lossAction b3
      let fb := b4.loopFb
      let b5 := b4.onLoop fun l => { l with spSrc := b4.sourceValue, sumN := 0, sumP := 0, sumI := 0 }
      let b6 := b5.onLoop fun l => { l with fb := fb }
      let b7 := if b6.loop.am then manualStep b6
        else match b6.loop.preset with
          | some p => makePreset p.1 p.2 b6
          | none => autoStep b6
      (b7.onLoop fun l => { l with fb := match fb with
        | some f => some f
        | none => b.loop.fb }).touch loopTiles

def execLoopCycle (ain : Int) (s : State) := effect (doLoopCycle ain) s

/-! ### Source events (R258, R264) -/

/-- AIN_OPEN_TEST (R264): at the next multiple of 10 ms; the input just before the test current and at its end. -/
def doAinOpenTest (before after : Int) (b : Block) : Block :=
  if b.sys.mstate = .off then b
  else
    let b1 := b.at (b.nextMultiple (10 * msT))
    let open_ := decide (1000000 < |after - before|)
    let b2 := b1.onLoop fun l => { l with ainMask := b1.sys.now + 200 * usT, ainOpen := open_ }
    (if open_ then loseSource 1 b2 else b2).touch loopTiles

def execAinOpenTest (before after : Int) (s : State) := effect (doAinOpenTest before after) s

/-- PULSE_PERIOD (R253, R258): a period of `period` ticks, high for `high` of them, completes. -/
def doPulsePeriod (period high : Nat) (b : Block) : Block :=
  if b.sys.mstate = .off ∨ period = 0 ∨ period < high then b
  else
    let freq := secT / period
    let duty := fxQ high period
    let good := decide (90 * period ≤ secT ∧ secT ≤ 11000 * period ∧ period ≤ 20 * high ∧ 20 * high ≤ 19 * period)
    let b1 := b.onLoop fun l => { l with
      pulseAt := b.sys.now
      pulseFreq := min 65535 freq
      pulseDuty := if good then duty else l.pulseDuty
      pulseBad := if good then 0 else l.pulseBad + 1 }
    (if good then trackSource 2 true b1 else if 3 ≤ b1.loop.pulseBad then loseSource 2 b1 else onSource 2 (fun s => { s with okAt := none }) b1).touch loopTiles

def execPulsePeriod (period high : Nat) (s : State) := effect (doPulsePeriod period high) s

/-- PULSE_TIMEOUT (R258): 20 ms without a rising edge. -/
def doPulseTimeout (b : Block) : Block := if b.sys.mstate = .off ∨ b.srcLost 2 then b else loseSource 2 (b.at (b.loop.pulseAt + 20 * msT))
def execPulseTimeout (s : State) := effect doPulseTimeout s

/-- SETPOINT_TIMEOUT (R258). -/
def doSetpointTimeout (b : Block) : Block :=
  if b.loop.set.spTimeout = 0 ∨ b.srcLost 0 ∨ b.sys.mstate = .off ∨ b.sys.mstate = .boot then b
  else loseSource 0 (b.at (b.loop.packetAt + b.loop.set.spTimeout * msT))

def execSetpointTimeout (s : State) := effect doSetpointTimeout s

/-- SCHED_HOLD_EXPIRY (R258): PTP out of lock for SCHED_HOLD. -/
def doSchedHoldExpiry (b : Block) : Block :=
  match b.loop.unlockAt with
  | none => b
  | some t => if b.ptpLock ∨ b.srcLost 3 then b else loseSource 3 (b.at (t + b.loop.set.schedHold * secT))

def execSchedHoldExpiry (s : State) := effect doSchedHoldExpiry s

/-- SOURCE_RETURN (R258): the condition has been absent for SP_RETURN; the packet source returns by LOOP_SETPOINT instead. -/
def doSourceReturn (i : Nat) (b : Block) : Block :=
  match i, (b.loop.sources.getD i { lost := false, okAt := none }).okAt with
  | 0, _ => b
  | _, some t => if b.srcLost i then returnSource i (b.at (t + b.loop.set.spReturn * msT)) else b
  | _, none => b

def execSourceReturn (source : Fin 4) (s : State) := effect (doSourceReturn source) s

/-! ### Commands (R275) -/

def ruleLoopSetMode (src : Src) (lmode ffEn : Nat) (_b : Block) : HostRule :=
  { opcode := 0x0801, owner := true, stateOk := true, param := need (decide (lmode ≤ 2 ∧ ffEn ≤ 1))
    act := fun b => (complete src .ok [] (settingChanged (b.onLoop fun l => { l with set := { l.set with lmode := lmode, ffEn := ffEn == 1 }, modeDue := true }))).touch loopTiles }

def execLoopSetMode (src : Src) (lmode ffEn : Nat) (s : State) := effect (host src (ruleLoopSetMode src lmode ffEn)) s

def ruleLoopSetSource (src : Src) (source fbSrc lossAct : Nat) (b : Block) : HostRule :=
  { opcode := 0x0802, owner := true, stateOk := !(decide (source ≤ 3) && b.srcLost source), param := need (decide (source ≤ 3 ∧ fbSrc ≤ 3 ∧ lossAct ≤ 3))
    act := fun b => (complete src .ok [] (settingChanged (b.onLoop fun l => { l with
      set := { l.set with src := source, fbSrc := fbSrc, lossAct := lossAct }, srcDue := true }))).touch loopTiles }

def execLoopSetSource (src : Src) (source fbSrc lossAct : Nat) (s : State) := effect (host src (ruleLoopSetSource src source fbSrc lossAct)) s

def ruleLoopSetpoint (src : Src) (value : Int) (b : Block) : HostRule :=
  { opcode := 0x0803, owner := true, stateOk := true
    param := andThen (need (b.loop.set.inRange b.loop.lmode value)) (deny (decide (b.loop.lmode = 2 ∧ b.vlinkMax < value)))
    act := fun b => (complete src .ok [] (returnSource 0 (b.onLoop fun l => { l with packet := some value, packetAt := b.sys.now }))).touch loopTiles }

def execLoopSetpoint (src : Src) (value : Int) (s : State) := effect (host src (ruleLoopSetpoint src value)) s

def ruleLoopSetScale (src : Src) (pmax imax : Nat) (vdcMid vdcSpan : Int) (spRamp manRamp : Nat) (b : Block) : HostRule :=
  { opcode := 0x0804, owner := true, stateOk := true
    param := andThen (need (decide (1000 ≤ pmax ∧ pmax ≤ 2500000 ∧ 1000 ≤ imax ∧ imax ≤ 1250000 ∧ 500000 ≤ vdcMid ∧ vdcMid ≤ 3000000 ∧ 1000 ≤ vdcSpan ∧ vdcSpan ≤ 500000
      ∧ 66 ≤ spRamp ∧ spRamp ≤ 655360 ∧ 1000 ≤ manRamp ∧ manRamp ≤ 10000000))) (deny (decide (b.iFloor < imax ∨ b.vlinkMax < vdcMid + vdcSpan)))
    act := fun b => (complete src .ok [] (settingChanged (b.onLoop fun l => { l with
      set := { l.set with pmax := pmax, imax := imax, vdcMid := vdcMid, vdcSpan := vdcSpan, spRamp := spRamp, manRamp := manRamp } }))).touch loopTiles }

def execLoopSetScale (src : Src) (pmax imax : Nat) (vdcMid vdcSpan : Int) (spRamp manRamp : Nat) (s : State) :=
  effect (host src (ruleLoopSetScale src pmax imax vdcMid vdcSpan spRamp manRamp)) s

def ruleLoopSetGains (src : Src) (mode kp ki : Nat) (_b : Block) : HostRule :=
  { opcode := 0x0805, owner := true, stateOk := true, param := need (decide (mode ≤ 2 ∧ kp ≤ 10000000 ∧ ki ≤ 100000000))
    act := fun b => (complete src .ok [] (settingChanged (b.onLoop fun l => { l with
      set := { l.set with gains := (l.set.gains.set (2 * mode) kp).set (2 * mode + 1) ki } }))).touch loopTiles }

def execLoopSetGains (src : Src) (mode kp ki : Nat) (s : State) := effect (host src (ruleLoopSetGains src mode kp ki)) s

/-- SP_TIMEOUT counts again from the command that sets it (R258). -/
def ruleLoopSetTiming (src : Src) (spTimeout spReturn schedHold ainDb : Nat) (_b : Block) : HostRule :=
  { opcode := 0x0806, owner := true, stateOk := true
    param := need (decide ((spTimeout = 0 ∨ (100 ≤ spTimeout ∧ spTimeout ≤ 60000)) ∧ spReturn ≤ 60000 ∧ schedHold ≤ 3600 ∧ ainDb ≤ 250))
    act := fun b => (complete src .ok [] (settingChanged (b.onLoop fun l => { l with
      set := { l.set with spTimeout := spTimeout, spReturn := spReturn, schedHold := schedHold, ainDb := ainDb }, packetAt := b.sys.now }))).touch loopTiles }

def execLoopSetTiming (src : Src) (spTimeout spReturn schedHold ainDb : Nat) (s : State) :=
  effect (host src (ruleLoopSetTiming src spTimeout spReturn schedHold ainDb)) s

/-- LOOP_MANUAL (R262): the change takes effect in the next cycle. -/
def ruleLoopManual (src : Src) (am : Nat) (iref : Int) (b : Block) : HostRule :=
  { opcode := 0x0807, owner := true, stateOk := decide (b.sys.mstate = .park ∨ b.sys.mstate = .run)
    param := need (decide (am ≤ 1 ∧ -2147483647 ≤ iref ∧ iref ≤ 2147483647))
    act := fun b => (complete src .ok [] (b.onLoop fun l => { l with amDue := some (am == 1), manIref := iref })).touch loopTiles }

def execLoopManual (src : Src) (am : Nat) (iref : Int) (s : State) := effect (host src (ruleLoopManual src am iref)) s

/-- A schedule entry of 16 bytes (R255). -/
def parseEntry (bs : List Byte) : SchedEntry :=
  { sec := leField bs 0 6, ns := leField bs 6 4, value := leSigned bs 10 4, mode := leField bs 14 1, flags := leField bs 15 1 }

def ruleLoopSchedWrite (src : Src) (first count : Nat) (entries : List Byte) (_b : Block) : HostRule :=
  { opcode := 0x0808, owner := true, stateOk := true
    param := need (decide (first ≤ 255 ∧ 1 ≤ count ∧ count ≤ 64 ∧ first + count ≤ 256 ∧ entries.length = 16 * count))
    act := fun b => complete src .ok [] (b.onLoop fun l => { l with
      staged := l.staged.mapIdx fun i e => if first ≤ i ∧ i < first + count then some (parseEntry ((entries.drop (16 * (i - first))).take 16)) else e }) }

def execLoopSchedWrite (src : Src) (first count : Nat) (entries : List Byte) (s : State) := effect (host src (ruleLoopSchedWrite src first count entries)) s

/-- Times strictly ascending by signed difference (R255, R256). -/
def timesRise : List SchedEntry → Bool
  | a :: b :: l => decide (0 < ptpDiff b.time a.time) && timesRise (b :: l)
  | _ => true

/-- The checks of R255 in order; 0 is success. -/
def schedCheck (x : LoopSet) (staged : List (Option SchedEntry)) (count : Nat) : Nat :=
  let l := staged.take count
  if l.length < count || l.any Option.isNone then 1
  else
    let es := l.filterMap id
    if es.any fun e => decide (1000000000 ≤ e.ns ∨ 2 < e.mode ∨ 1 < e.flags) then 2
    else if !timesRise es then 3
    else if es.any fun e => !x.inRange e.mode e.value then 4
    else if (es.head?.map SchedEntry.ramp).getD false then 5
    else 0

def ruleLoopSchedCommit (src : Src) (count : Nat) (_b : Block) : HostRule :=
  { opcode := 0x0809, owner := true, stateOk := true, param := need (decide (1 ≤ count ∧ count ≤ 256))
    act := fun b =>
      let code := schedCheck b.loop.set b.loop.staged count
      if code ≠ 0 then complete src .badParam (leBytes 1 code) b
      else
        let b1 := b.onLoop fun l => { l with commit := some ((l.staged.take count).filterMap id), staged := List.replicate 256 none }
        (complete src .ok (leBytes 1 0) (note .loopSchedCommit noArg [count] b1)).touch loopTiles }

def execLoopSchedCommit (src : Src) (count : Nat) (s : State) := effect (host src (ruleLoopSchedCommit src count)) s

def ruleLoopGetConfig (src : Src) (_b : Block) : HostRule :=
  { opcode := 0x0811, owner := false, stateOk := true, param := none
    act := fun b => complete src (b.tilesStatus [0x401, 0x410]) (wordsBytes ((b.frontTile 0x401).take 15 ++ ((b.frontTile 0x410).drop 1).take 6)) b }

def execLoopGetConfig (src : Src) (s : State) := effect (host src (ruleLoopGetConfig src)) s

end Sys2Proof.Machine
end

