-- ==== Sys2Proof/Machine/Thermal.lean ====
section
/-! DEFINITION. The thermal loop, fans, pumps and louvres (R265 to R273, R275, R278 to R282). Reals are fixed point (log entry 6). -/

namespace Sys2Proof.Machine

/-- Tiles of the thermal loop. -/
def thmTiles : List Nat := [0x410, 0x414, 0x415, 0x418, 0x419, 0x41A, 0x41B]

/-- Friction tiles (R281). -/
def frictionTiles : List Nat := (List.range 8).map (0x420 + ·)

/-- Change a fan or pump, a louvre, the map of output 0 to 5 (R275). -/
def onFp (f : Nat) (g : FanPump → FanPump) (b : Block) : Block := b.onThm fun t => { t with fps := modAt t.fps f g }
def onLv (k : Nat) (g : Louvre → Louvre) (b : Block) : Block := b.onThm fun t => { t with lvs := modAt t.lvs k g }
def onMap (o : Nat) (g : OutMap → OutMap) (b : Block) : Block :=
  if o < 2 then onFp o (fun x => { x with map := g x.map }) b else onLv (o - 2) (fun x => { x with map := g x.map }) b

/-- The overrides of every output end. -/
def clearOverrides (b : Block) : Block := (List.range 6).foldl (fun b o => onMap o (fun m => { m with override := none }) b) b

/-! ### Demand and outputs (R265 to R268) -/

/-- T_CTRL in 0.01 °C (R265). -/
def Block.tempCtrl (b : Block) : Option Int :=
  let ts := (List.range b.nCell).filterMap fun c => (b.cellFlt c).temp
  match b.thm.tSel with
  | 0 => ts.max?
  | 1 => meanT ts
  | _ => (b.therm b.thm.thIdx).temp

/-- The map of an output at demand `d` (R267), a fraction of 65,536. -/
def OutMap.at_ (m : OutMap) (d : Fx) : Nat :=
  if d < frac16 m.dStart then m.outOff
  else
    let f := min fxOne (fxDiv (d - frac16 m.dStart) (frac16 m.dFull - frac16 m.dStart))
    (clampI 0 65535 ((m.outMin : Int) + fxRound (((m.outMax : Int) - m.outMin) * f))).toNat

/-- The demand that the maps take in the state: FS_DEMAND in BOOT or with T_CTRL lost, HIB_DEMAND in HIBERNATE, d otherwise (R265, R268). -/
def Block.mapDemand (b : Block) : Fx :=
  if b.sys.mstate = .boot then frac16 b.thm.fsDemand
  else if b.sys.mstate = .hibernate then frac16 b.thm.hibDemand
  else if b.thm.tLost then frac16 b.thm.fsDemand
  else b.thm.d

/-- An output's value: FIRE, the override in PARK, RUN, FAULT and SAFE, or the map (R268). -/
def Block.outValue (b : Block) (m : OutMap) : Nat :=
  if b.thm.fire then m.fire
  else match m.override with
    | some o => if b.sys.mstate = .boot ∨ b.sys.mstate = .hibernate then m.at_ b.mapDemand else o.1
    | none => m.at_ b.mapDemand

/-- Put the values at the outputs; a Hinge hold leaves them, but for the fire row (R268). -/
def driveOutputs (b : Block) : Block :=
  if b.hinge ∧ b.thm.fire = false then b
  else (b.onThm fun t => { t with
    fps := t.fps.map fun f => { f with duty := b.outValue f.map }
    lvs := t.lvs.map fun v => if v.learn.isSome then v else { v with tgt := frac16 (b.outValue v.map) } }).touch thmTiles

/-- The fire-release demand begins or ends: its row comes before every other (R268, R282). -/
def followFire (b : Block) : Block :=
  if b.fireDemand ∧ b.thm.fire = false then
    driveOutputs (note .thmFire noArg [] (clearOverrides (b.onThm fun t => { t with fire := true })))
  else if b.fireDemand = false ∧ b.thm.fire = true then driveOutputs (b.onThm fun t => { t with fire := false })
  else b

/-- The PI of R266; it stands still in BOOT, HIBERNATE, a Hinge hold and a fire demand, and without a temperature. -/
def thermalPi (b : Block) : Block :=
  let t := b.thm
  match t.tCtrl with
  | none => b
  | some c =>
    if b.sys.mstate = .boot ∨ b.sys.mstate = .hibernate ∨ b.hinge = true ∨ t.fire = true then b
    else
      let e := fxQ (c - t.tSet) 100
      let p := e * (t.kpT : Int) / 65536
      let ig := clampI (-p) (fxOne - p) (t.ig + e * (t.kiT : Int) / 655360)
      b.onThm fun t => { t with ig := ig, d := clampI 0 fxOne (p + ig) }

/-- Speed from a tach frequency in mHz (R269). -/
def rpmOf (mHz ppr : Nat) : Nat := 60 * mHz / (1000 * max 1 ppr)

/-- A fan or pump after its speed is known: the start of the slow time of FP_STALL (R269). -/
def FanPump.watch (now mHz : Nat) (f : FanPump) : FanPump :=
  let rpm := rpmOf mHz f.ppr
  let slow := decide (f.tachMin ≠ 0 ∧ rpm < f.tachMin ∧ 65536 ≤ 5 * f.duty)
  { f with
    rpm := rpm
    stall := f.stall && slow
    slowAt := if slow then (match f.slowAt with
      | some t => some t
      | none => some now) else none }

/-- THERMAL_CYCLE (R265 to R269): at the next multiple of 10,000,000, with the tach frequencies of FP0 and FP1 in mHz. -/
def doThermalCycle (tach0 tach1 : Nat) (b : Block) : Block :=
  if b.sys.mstate = .off then b
  else
    let b1 := b.at (b.nextMultiple 10000000)
    let now := b1.sys.now
    let tc := b1.tempCtrl
    let b2 := b1.onThm fun t => { t with
      cycles := (t.cycles + 1) % 4294967296
      tCtrl := tc
      tLost := t.tLost && tc.isNone
      noneAt := if tc.isSome then none else match t.noneAt with
        | some u => some u
        | none => some now }
    let b3 := driveOutputs (thermalPi b2)
    (b3.onThm fun t => { t with fps := t.fps.mapIdx fun i f => f.watch now (if i = 0 then tach0 else tach1) }).touch thmTiles

def execThermalCycle (tach0 tach1 : Nat) (s : State) := effect (doThermalCycle tach0 tach1) s

/-- THM_TEMP_LOST (R265). -/
def doThmTempLost (b : Block) : Block :=
  match b.thm.noneAt with
  | none => b
  | some t => if b.thm.tLost then b else driveOutputs (note .thmTempLost noArg [] ((b.at (t + 10 * secT)).onThm fun t => { t with tLost := true }))

def execThmTempLost (s : State) := effect doThmTempLost s

/-- The map of an output. -/
def Block.outMap? (b : Block) (o : Nat) : Option OutMap := if o < 2 then (b.thm.fps[o]?).map (·.map) else (b.thm.lvs[o - 2]?).map (·.map)

/-- OVERRIDE_EXPIRY (R267). -/
def doOverrideExpiry (o : Nat) (b : Block) : Block :=
  match (b.outMap? o).bind (·.override) with
  | none => b
  | some v => driveOutputs (onMap o (fun m => { m with override := none }) (b.at v.2))

def execOverrideExpiry (output : Fin 6) (s : State) := effect (doOverrideExpiry output) s

/-- FP_STALL (R269): 5 s below TACH_MIN at 20 % duty or more; the output keeps running. -/
def doFpStall (f : Nat) (b : Block) : Block :=
  match b.thm.fps[f]? with
  | none => b
  | some x => match x.slowAt with
    | none => b
    | some t => if x.stall then b else (note .fpStall f [x.rpm] (onFp f (fun x => { x with stall := true }) (b.at (t + 5 * secT)))).touch thmTiles

def execFpStall (output : Fin 2) (s : State) := effect (doFpStall output) s

/-! ### Louvres (R270 to R273) -/

/-- fr(p) in 0.01 % of full drive (R271). -/
def Louvre.fr (v : Louvre) (p : Fx) : Fx :=
  let s := p * 31
  let i := (clampI 0 30 (s / fxOne)).toNat
  let a : Int := (v.friction.getD i 0 : Nat)
  let c : Int := (v.friction.getD (i + 1) 0 : Nat)
  (fxI a + (c - a) * (s - (i : Int) * fxOne)) * 10000 / 65536

/-- The position for a feedback voltage (R270). -/
def Louvre.place (v : Louvre) (uv : Int) : Fx := clampI 0 fxOne (fxQ (uv - v.fbLo) (v.fbHi - v.fbLo))

/-- One cycle of the position loop towards `tgt` (R270): drive and integrator in 0.01 %. -/
def Louvre.loopStep (v : Louvre) (tgt p : Fx) : Fx × Fx :=
  let e := tgt - p
  let um := fxI v.umax
  if |e| * 10000 ≤ fxI v.db then (0, 0)
  else
    let ep := e * 100
    let ig := clampI (-um) um (v.ig + ep * (v.ki : Int) / 1000)
    let sg : Int := if 0 < e then 1 else -1
    (clampI (-um) um (ep * (v.kp : Int) + ig + sg * v.fr p), ig)

/-- The drive is off: stalled, waiting for a retry, without feedback, or never driven. -/
def LvState.dark : LvState → Bool
  | .stalled => true
  | .fbLost => true
  | .retry => true
  | _ => false

/-- The stall watch (R273): from the count at which |u| reached 50 % with p within 0.5 % of where it then stood. -/
def Louvre.watched (now : Nat) (v : Louvre) : Louvre :=
  { v with watch :=
      if fxI 5000 ≤ |v.u| then (match v.watch with
        | some w => if |v.pos - w.2| * 200 < fxOne then some w else some (now, v.pos)
        | none => some (now, v.pos))
      else none }

/-- A louvre's cycle at feedback `uv` and motor current `ma` (R270, R272, R273). -/
def Louvre.cycle (now : Nat) (uv ma : Int) (v : Louvre) : Louvre :=
  let ok := decide (-250000 ≤ uv ∧ uv ≤ 10500000)
  let p := v.place uv
  let v1 := { v with
    pos := p, fbV := some uv, iMot := ma
    badAt := if ok then none else match v.badAt with
      | some t => some t
      | none => some now
    goodAt := if ok then (match v.goodAt with
      | some t => some t
      | none => some now) else none }
  if v.st.dark then { v1 with u := 0, ig := 0, watch := none }
  else
    match v.learn with
    | some l =>
      let u : Fx := if l.placing ∧ l.ups = [] ∧ l.downs = [] then (v1.loopStep 0 p).1 else if l.up then fxI l.drive else -(fxI l.drive)
      ({ v1 with u := u, st := .learning } : Louvre).watched now
    | none =>
      let r := v1.loopStep v.tgt p
      ({ v1 with u := r.1, ig := r.2, st := if r.1 = 0 then .inBand else .moving } : Louvre).watched now

/-- LOUVRE_CYCLE (R270): at the next whole millisecond; its position loop keeps running in a Hinge hold (R268). -/
def doLouvreCycle (k : Nat) (fb iMot : Int) (b : Block) : Block :=
  if b.sys.mstate = .off then b
  else
    let b1 := b.at (multipleFrom msT b.sys.now)
    (onLv k (Louvre.cycle b1.sys.now fb iMot) b1).touch thmTiles

def execLouvreCycle (louvre : Fin 4) (fb iMot : Int) (s : State) := effect (doLouvreCycle louvre fb iMot) s

/-- The positions at which a point is reached: i / 31 (R271). -/
def pointAt (i : Nat) : Fx := fxQ i 31

/-- The learned table (R272): the mean of the two breakaways, point 0 the downward and point 31 the upward, as fractions of 65,536. -/
def Learn.table (l : Learn) : List Nat :=
  (List.range 32).map fun i =>
    let up := (lookupKey l.ups i).getD 0
    let dn := (lookupKey l.downs i).getD 0
    let m := if i = 0 then 2 * dn else if i = 31 then 2 * up else up + dn
    min 65535 ((m * 65536 + 10000) / 20000)

/-- LV_LEARN completes when every learn has ended: FAULT if any failed (R275). -/
def closeLearn (b : Block) : Block :=
  match b.thm.learnSrc with
  | none => b
  | some (src, named, failed) =>
    if b.thm.lvs.any fun v => v.learn.isSome then b
    else
      let ok := (membersOf 4 named).foldl (fun m k => if failed.testBit k then m else m + 2 ^ k) 0
      complete src (if failed = 0 then .ok else .fault) (leBytes 1 ok) (b.onThm fun t => { t with learnSrc := none })

/-- A learn ends without a table (R272). -/
def failLearn (k : Nat) (b : Block) : Block :=
  match b.thm.lvs[k]? with
  | none => b
  | some v => match v.learn with
    | none => b
    | some _ =>
      let b1 := onLv k (fun v => { v with learn := none, u := 0, ig := 0, st := if v.st.dark then v.st else .off }) b
      let b2 := b1.onThm fun t => { t with learnSrc := t.learnSrc.map fun p => (p.1, p.2.1, p.2.2.lor (2 ^ k)) }
      (closeLearn (note .lvLearnFail k [] b2)).touch thmTiles

/-- LV_LEARN_FAIL (R272): 10 min without every point. -/
def doLvLearnFail (k : Nat) (b : Block) : Block :=
  match (b.thm.lvs[k]?).bind (·.learn) with
  | none => b
  | some l => failLearn k (b.at (l.begun + 600 * secT))

def execLvLearnFail (louvre : Fin 4) (s : State) := effect (doLvLearnFail louvre) s

/-- The next point of a learn after a breakaway at `drive` (R272): points 1 to 31 upward, then 30 to 0 downward (log entry 27). -/
def Learn.record (l : Learn) : Learn × Bool :=
  if l.up then
    let l1 := { l with ups := insertKey l.point l.drive l.ups, placing := true, recent := [] }
    (l1, false)
  else
    ({ l with downs := insertKey l.point l.drive l.downs, placing := true, recent := [] }, decide (l.point = 0))

/-- One 20 ms step of a learn at position `p`; the flag says that every point is found. -/
def Learn.step (db : Nat) (p : Fx) (l : Learn) : Learn × Bool :=
  if l.placing then
    if l.ups = [] ∧ l.downs = [] then (if p * 10000 ≤ fxI db then { l with placing := false, drive := 0, recent := [p] } else l, false)
    else if l.up then
      if pointAt l.point ≤ p ∨ l.point = 31 then
        (if l.point < 31 then { l with point := l.point + 1, placing := false, drive := 0, recent := [p] }
         else { l with up := false, point := 30, placing := false, drive := 0, recent := [p] }, false)
      else (l, false)
    else if p ≤ pointAt l.point then ({ l with point := l.point - 1, placing := false, drive := 0, recent := [p] }, false) else (l, false)
  else if l.recent.any fun r => decide (3 * fxOne ≤ 1000 * |p - r|) then l.record
  else ({ l with drive := l.drive + 50, recent := (p :: l.recent).take 5 }, false)

/-- LV_LEARN_STEP (R272). -/
def doLvLearnStep (k : Nat) (b : Block) : Block :=
  match b.thm.lvs[k]? with
  | none => b
  | some v => match v.learn with
    | none => b
    | some l =>
      let b1 := b.at (b.nextMultiple (20 * msT))
      let r := l.step v.db v.pos
      if r.2 then
        let b2 := onLv k (fun v => { v with learn := none, friction := r.1.table, frSet := true, u := 0, ig := 0, st := .off }) b1
        (closeLearn (settingChanged (note .lvLearnDone k [] b2))).touch (thmTiles ++ frictionTiles)
      else (onLv k (fun v => { v with learn := some r.1 }) b1).touch thmTiles

def execLvLearnStep (louvre : Fin 4) (s : State) := effect (doLvLearnStep louvre) s

/-- A stall of louvre `k` (R273): off for 30 s, and off for good at the third within 10 min. -/
def stallLouvre (k : Nat) (b : Block) : Block :=
  let now := b.sys.now
  (onLv k (fun v =>
    let l := now :: v.stalls.filter fun t => decide (now < t + 600 * secT)
    { v with stalls := l, st := if 3 ≤ l.length then .stalled else .retry, offAt := now, u := 0, ig := 0, watch := none }) b).touch thmTiles

/-- LV_STALL (R273). -/
def doLvStall (k : Nat) (b : Block) : Block :=
  match (b.thm.lvs[k]?).bind (·.watch) with
  | none => b
  | some w => stallLouvre k (note .lvStall k [] (b.at (w.1 + 2 * secT)))

def execLvStall (louvre : Fin 4) (s : State) := effect (doLvStall louvre) s

/-- LV_RETRY (R273, R274): 30 s after a stall; during a learn the learn fails. -/
def doLvRetry (k : Nat) (b : Block) : Block :=
  match b.thm.lvs[k]? with
  | none => b
  | some v =>
    if v.st ≠ .retry then b
    else (failLearn k (onLv k (fun v => { v with st := .off }) (b.at (v.offAt + 30 * secT)))).touch thmTiles

def execLvRetry (louvre : Fin 4) (s : State) := effect (doLvRetry louvre) s

/-- LV_OVERCURRENT (R273): off in hardware, counted as a stall. -/
def doLvOvercurrent (k : Nat) (b : Block) : Block :=
  match b.thm.lvs[k]? with
  | none => b
  | some v => stallLouvre k (note .lvOvercurrent k [dw v.iMot] b)

def execLvOvercurrent (louvre : Fin 4) (s : State) := effect (doLvOvercurrent louvre) s

/-- LV_FB_LOST (R273): 100 ms out of range. -/
def doLvFbLost (k : Nat) (b : Block) : Block :=
  match b.thm.lvs[k]? with
  | none => b
  | some v => match v.badAt with
    | none => b
    | some t => if v.st = .fbLost then b else
        (note .lvFbLost k [] (onLv k (fun v => { v with st := if v.st = .stalled then .stalled else .fbLost, u := 0, ig := 0, watch := none }) (b.at (t + 100 * msT)))).touch thmTiles

def execLvFbLost (louvre : Fin 4) (s : State) := effect (doLvFbLost louvre) s

/-- LV_FB_RESTORED (R273): 1 s of valid feedback. -/
def doLvFbRestored (k : Nat) (b : Block) : Block :=
  match b.thm.lvs[k]? with
  | none => b
  | some v => match v.goodAt with
    | none => b
    | some t => if v.st = .fbLost then (onLv k (fun v => { v with st := .off }) (b.at (t + secT))).touch thmTiles else b

def execLvFbRestored (louvre : Fin 4) (s : State) := effect (doLvFbRestored louvre) s

/-! ### Commands (R275) -/

def ruleThmSetConfig (src : Src) (tSel thIdx : Nat) (tSet : Int) (kpT kiT fsDemand hibDemand : Nat) (b : Block) : HostRule :=
  { opcode := 0x080A, owner := true, stateOk := true
    param := need (decide (tSel ≤ 2 ∧ thIdx < b.nTherm ∧ -2000 ≤ tSet ∧ tSet ≤ 8000 ∧ kpT < 2 ^ 32 ∧ kiT < 2 ^ 32 ∧ fsDemand < 65536 ∧ hibDemand < 65536))
    act := fun b => (complete src .ok [] (settingChanged (b.onThm fun t => { t with
      tSel := tSel, thIdx := thIdx, tSet := tSet, kpT := kpT, kiT := kiT, fsDemand := fsDemand, hibDemand := hibDemand }))).touch thmTiles }

def execThmSetConfig (src : Src) (tSel thIdx : Nat) (tSet : Int) (kpT kiT fsDemand hibDemand : Nat) (s : State) :=
  effect (host src (ruleThmSetConfig src tSel thIdx tSet kpT kiT fsDemand hibDemand)) s

def ruleThmSetMap (src : Src) (output dStart dFull outOff outMin outMax fire : Nat) (_b : Block) : HostRule :=
  { opcode := 0x080B, owner := true, stateOk := true
    param := need (decide (output ≤ 5 ∧ dFull < 65536 ∧ dStart < dFull ∧ outOff < 65536 ∧ outMin < 65536 ∧ outMax < 65536 ∧ fire < 65536))
    act := fun b => (complete src .ok [] (settingChanged (onMap output (fun m => { m with
      dStart := dStart, dFull := dFull, outOff := outOff, outMin := outMin, outMax := outMax, fire := fire }) b))).touch thmTiles }

def execThmSetMap (src : Src) (output dStart dFull outOff outMin outMax fire : Nat) (s : State) :=
  effect (host src (ruleThmSetMap src output dStart dFull outOff outMin outMax fire)) s

/-- Set or clear an override (R267); a policy engine writes the same. -/
def setOverride (output set value time : Nat) (b : Block) : Block :=
  driveOutputs (onMap output (fun m => { m with override := if set = 1 then some (value, b.sys.now + time * secT) else none }) b)

def ruleThmOverride (src : Src) (output set value time : Nat) (b : Block) : HostRule :=
  { opcode := 0x080C, owner := true, stateOk := !b.fireDemand
    param := need (decide (output ≤ 5 ∧ set ≤ 1 ∧ value < 65536 ∧ (set = 0 ∨ (1 ≤ time ∧ time ≤ 3600))))
    act := fun b => complete src .ok [] (setOverride output set value time b) }

def execThmOverride (src : Src) (output set value time : Nat) (s : State) := effect (host src (ruleThmOverride src output set value time)) s

def ruleFpSetConfig (src : Src) (output inv ppr tachMin : Nat) (_b : Block) : HostRule :=
  { opcode := 0x080D, owner := true, stateOk := true, param := need (decide (output ≤ 1 ∧ inv ≤ 1 ∧ 1 ≤ ppr ∧ ppr ≤ 4 ∧ tachMin < 65536))
    act := fun b => (complete src .ok [] (settingChanged (onFp output (fun f => { f with inv := inv == 1, ppr := ppr, tachMin := tachMin }) b))).touch thmTiles }

def execFpSetConfig (src : Src) (output inv ppr tachMin : Nat) (s : State) := effect (host src (ruleFpSetConfig src output inv ppr tachMin)) s

def ruleLvSetConfig (src : Src) (louvre : Nat) (fbLo fbHi : Int) (kp ki db umax : Nat) (_b : Block) : HostRule :=
  { opcode := 0x080E, owner := true, stateOk := true
    param := need (decide (louvre ≤ 3 ∧ 0 ≤ fbLo ∧ fbLo ≤ 10000000 ∧ 0 ≤ fbHi ∧ fbHi ≤ 10000000 ∧ fbLo ≠ fbHi ∧ kp < 65536 ∧ ki < 65536 ∧ db ≤ 1000 ∧ 1000 ≤ umax
      ∧ umax ≤ 10000))
    act := fun b => (complete src .ok [] (settingChanged (onLv louvre (fun v => { v with
      fbLo := fbLo, fbHi := fbHi, kp := kp, ki := ki, db := db, umax := umax, stalls := [], st := if v.st = .stalled ∨ v.st = .retry then .off else v.st }) b))).touch thmTiles }

def execLvSetConfig (src : Src) (louvre : Nat) (fbLo fbHi : Int) (kp ki db umax : Nat) (s : State) :=
  effect (host src (ruleLvSetConfig src louvre fbLo fbHi kp ki db umax)) s

def ruleLvFrictionWrite (src : Src) (louvre : Nat) (table : List Nat) (_b : Block) : HostRule :=
  { opcode := 0x080F, owner := true, stateOk := true, param := need (decide (louvre ≤ 3 ∧ table.length = 32) && table.all fun x => decide (x < 65536))
    act := fun b => (complete src .ok [] (settingChanged (onLv louvre (fun v => { v with friction := table, frSet := true }) b))).touch (thmTiles ++ frictionTiles) }

def execLvFrictionWrite (src : Src) (louvre : Nat) (table : List Nat) (s : State) := effect (host src (ruleLvFrictionWrite src louvre table)) s

/-- A learn starts: the louvre drives to position 0 (R272). -/
def Learn.start (now : Nat) : Learn := { begun := now, point := 1, up := true, placing := true, drive := 0, recent := [], ups := [], downs := [] }

def ruleLvLearn (src : Src) (mask : Nat) (b : Block) : HostRule :=
  { opcode := 0x0810, owner := true, stateOk := decide (b.sys.mstate = .park), param := need (decide (mask ≤ 15))
    act := fun b =>
      let b1 := (membersOf 4 mask).foldl (fun b k => onLv k (fun v => { v with learn := some (Learn.start b.sys.now), st := if v.st.dark then v.st else .learning }) b) b
      (closeLearn (b1.onThm fun t => { t with learnSrc := some (src, mask, 0) })).touch thmTiles }

def execLvLearn (src : Src) (mask : Nat) (s : State) := effect (host src (ruleLvLearn src mask)) s

end Sys2Proof.Machine
end

