-- ==== Sys2Proof/Machine/Latch.lean ====
section
/-! DEFINITION. The Latch's states, its start-up and supply, the safety inputs and their test pulses (R286 to R294, R305, R319, R566). -/

namespace Sys2Proof.Machine

/-- Tiles of the safety inputs. -/
def inputTiles : List Nat := [0x500, 0x501]

/-- Change input `i`, 0 for SI1. -/
def onInput (i : Nat) (f : SafeInput → SafeInput) (b : Block) : Block := (b.onLatch fun l => { l with inputs := modAt l.inputs i f }).touch inputTiles

/-- Channel 0 (a) or 1 (b) of an input, and a change of it. -/
def SafeInput.chan (x : SafeInput) (c : Nat) : SafeChan := if c = 0 then x.a else x.b
def SafeInput.onChan (x : SafeInput) (c : Nat) (f : SafeChan → SafeChan) : SafeInput := if c = 0 then { x with a := f x.a } else { x with b := f x.b }

def onChan (i c : Nat) (f : SafeChan → SafeChan) (b : Block) : Block := onInput i (fun x => x.onChan c f) b

/-- The TP source of a channel: 0 OSSD, 1 to 4 (R311). -/
def Block.siSrc (b : Block) (i c : Nat) : Nat := if c = 0 then b.siSrcA i else b.siSrcB i

/-- A channel as the Latch takes it outside masks: low from its filter's begin on (R291). -/
def SafeChan.seenHigh (c : SafeChan) : Bool := c.high && c.lowAt.isNone

/-! ### Supply and states (R286 to R288, R566) -/

/-- LAT_POWER_UP (R287): the LAT supply rises; SELFTEST, every output off, muzzle asserted. What the Latch NVM holds stands; the contacts of the mirrors are
where they are. -/
def doLatPowerUp (b : Block) : Block :=
  if b.latch.powered then b
  else (b.onLatch fun l => { l with
    powered := true
    state := .selftest
    fn := .none
    cause := 0
    causeIx := 0
    muzzle := true
    causes := []
    actAt := none
    deny := 0
    inputs := l.inputs.map fun _ => SafeInput.reset
    tps := l.tps.map fun _ => { on := false, fault := false }
    frames := 0
    outs := l.outs.map fun o => { SafeOut.reset with mirror := o.mirror }
    testsOff := false
    testAt := b.sys.now
    seq := .idle
    seqSrc := none
    seqFail := 0
    preDone := false
    peak := 0
    peaked := false
    lowSince := none
    srst := false
    srstIgnored := false
    srstPress := none
    resetting := none
    isoPos := true
    isoFirst := none
    rIso := none
    vPos := none
    vNeg := none
    isoLow := 0
    isoWarned := false
    lockstep := true
    restartAt := none
    answering := true
    missRun := 0
    goodRun := 0
    missed := 0
    chk := List.replicate 8 false
    blk := .empty
    hotAt := none
    overI := 0
    spsAt := none
    unexecAt := none
    lockEnd := if l.fails < 5 ∨ l.lockUntil ≤ b.optime then none else some (b.sys.now + (l.lockUntil - b.optime) * msT)
    nonces := []
    windows := []
    proof := none }).touch (latchTiles ++ inputTiles)

def execLatPowerUp (s : State) := effect doLatPowerUp s

/-- The input is enabled (R311). -/
def Block.siOn (b : Block) (i : Nat) : Bool := b.siFunc i != 0

/-- An enabled input that is not released. -/
def Block.siOpen (b : Block) (i : Nat) : Bool := b.siOn i && (match b.latch.inputs[i]? with
  | some x => decide (x.st ≠ .released)
  | none => false)

/-- Enabled inputs not released, 0 for SI1. -/
def Block.openInputs (b : Block) : List Nat := (List.range 8).filter b.siOpen

/-- A disabled input reads disabled; one enabled now begins unreleased (R293, R294, R322). -/
def reloadInputs (b : Block) : Block := followFire ((b.onLatch fun l => { l with
  inputs := l.inputs.mapIdx fun i x =>
    if b.siOn i then (if x.st = .disabled then { x with st := if x.a.seenHigh || x.b.seenHigh then .returning else .demand } else x)
    else { x with st := .disabled } }).touch inputTiles)

/-- The function that a held cause calls for: an external bark and the string checks SPS, every other SSI (R100, R301). -/
def heldSsi (cause ix : Nat) : Bool := !(cause == 4 || (cause == 5 && (ix == 3 || ix == 4)))

/-- The first 60 bytes of a change-log entry, and the entry with its CRC (R317). -/
def ChangeEntry.body (e : ChangeEntry) : List Byte :=
  leBytes 4 e.seq ++ leBytes 6 e.optime ++ leBytes 4 e.pcyc ++ leBytes 1 e.src ++ leBytes 1 e.kind ++ leBytes 4 e.gen ++ leBytes 4 e.rcrc ++ leBytes 4 e.detail ++ e.prev
def ChangeEntry.bytes (e : ChangeEntry) : List Byte := e.body ++ leBytes 4 (crc32c e.body)

/-- Append a change-log entry; HEAD is its SHA-256 (R317, R318). -/
def appendChange (src kind detail : Nat) (b : Block) : Block := b.onLatch fun l =>
  let prev := match l.changes with
    | e :: _ => sha256 e.bytes
    | [] => List.replicate 32 0#8
  let e : ChangeEntry :=
    { seq := l.changeSeq + 1, optime := b.optime, pcyc := b.log.pcyc, src := src, kind := kind, gen := floorGen l.floor, rcrc := leField l.floor 252 4, detail := detail,
      prev := prev }
  { l with changes := (e :: l.changes).take 256, changeSeq := l.changeSeq + 1, head := sha256 e.bytes }

/-- SELFTEST_DONE (R287, R312, R566): STARTUP on a pass with a valid Floor copy, the held causes acted on; LOCKOUT otherwise. -/
def doSelftestDone (pass : Bool) (b : Block) : Block :=
  if b.latch.powered = false ∨ b.latch.state ≠ .selftest then b
  else if b.latch.floorOk = false then lockout 18 b
  else if !pass then lockout 16 b
  else
    let b0 := match b.latch.commitOpen with
      | some d => (appendChange 0xFE 6 d b).onLatch fun l => { l with commitOpen := none }
      | none => b
    let held := b0.latch.causes
    let b1 := reloadInputs ((b0.onLatch fun l => { l with state := .startup, causes := [] }).touch latchTiles)
    let b2 := held.foldl (fun b c => demand (heldSsi c.1 c.2) c.1 c.2 b) b1
    if b2.bark.line = false ∧ b2.bark.drive = false then
      demandSPS 4 0 (note .barkExt noArg [] ((b2.onBark fun k => { k with lowAt := some b2.sys.now, falls := satAdd 65535 k.falls 1, extLat := true }).touch [8]))
    else b2

def execSelftestDone (pass : Bool) (s : State) := effect (doSelftestDone pass) s

/-- LATCH_SELFCHECK (R287): every 100 ms; a failure takes any state but SELFTEST to LOCKOUT. -/
def doLatchSelfcheck (pass : Bool) (b : Block) : Block :=
  if b.latch.powered = false then b
  else
    let b1 := b.at (b.nextMultiple (100 * msT))
    if pass ∨ b1.latch.state = .selftest then b1 else lockout 16 b1

def execLatchSelfcheck (pass : Bool) (s : State) := effect (doLatchSelfcheck pass) s

/-- BOOT ends in PARK when every engine is loaded and the Latch reports ready (R19); no event names this change, so its cause code is open (log entry 29). -/
def bootToPark (b : Block) : Block :=
  if b.sys.mstate = .boot ∧ b.latch.state = .armed ∧ b.enginesLoaded = true then enterState .park (Config.bootParkCause % 65536) b else b

/-- LEAD_READY_REQUEST (R100, R287, R288, R566): STARTUP ends in ARMED, or in ACTED with the first failing condition. -/
def doLeadReadyRequest (b : Block) : Block :=
  let b0 := if b.bark.line = false ∧ b.bark.drive = false then (b.onBark fun k => { k with stuck := true }).touch [8] else b
  if b0.latch.powered = false ∨ b0.latch.state ≠ .startup then b0
  else match b0.openInputs with
    | i :: rest =>
      let b1 := (i :: rest).foldl (fun b j => addCause 1 (j + 1) b) b0
      execFn true 1 (i + 1) .acted b1
    | [] =>
      if b0.latch.lockstep = false then execFn true 8 0 .acted (addCause 8 0 b0)
      else if b0.latch.answering = false then execFn true 9 0 .acted (addCause 9 0 b0)
      else match b0.latch.pendingAct with
        | some a => settleLatch (execFn a.1 15 0 .acted b0)
        | none =>
          bootToPark ((onOut 3 SafeOut.turnOn (b0.onLatch fun l => { l with state := .armed, muzzle := false, causes := [] })).touch latchTiles)

def execLeadReadyRequest (s : State) := effect doLeadReadyRequest s

/-- What the Latch records as its supply falls (R288). -/
def LatchPart.toRecord (l : LatchPart) : Option (Bool × Nat) :=
  if l.state = .acted ∨ l.state = .recovery ∨ l.state = .test ∨ l.state = .lockout then
    let ssi := decide (l.fn ≠ .sps)
    match l.pendingAct with
    | some a => some (a.1 || ssi, a.2)
    | none => some (ssi, l.cause)
  else l.pendingAct

/-- LAT_SUPPLY_FALL (R288, R297): the pending action is recorded; every output opens, PRE_DONE clears, a running sequence ends. -/
def doLatSupplyFall (b : Block) : Block :=
  if b.latch.powered = false then b
  else
    let b1 := if b.latch.seq.closing then failClose 7 b else b
    let b2 := b1.onLatch fun l => { l with
      powered := false
      pendingAct := l.toRecord
      muzzle := true
      outs := l.outs.map fun o => { o.off with inTest := none, rb := false }
      tps := l.tps.map fun t => { t with on := false }
      preDone := false
      seq := .idle
      seqSrc := none
      resetting := none
      proof := none
      windows := []
      nonces := [] }
    (cnvMuzzle (driveBark false b2)).touch latchTiles

def execLatSupplyFall (s : State) := effect doLatSupplyFall s

/-! ### Demands of the inputs (R293, R305, R319) -/

/-- A change of a safety input wakes the module from HIBERNATE (R170). -/
def wakeByInput (b : Block) : Block := if b.sys.mstate = .hibernate then enterState .park Event.fltWake.code (noteWake 4 b) else b

/-- What a demand of input `i` does by its FUNC: SSI, SPS, or a door's reaction (R305). -/
def actInput (i code : Nat) (b : Block) : Block :=
  match b.siFunc i with
  | 1 => demandSSI code (i + 1) b
  | 2 => demandSPS code (i + 1) b
  | 3 =>
    if ((b.latch.outs.take 3).any fun o => o.cmd) || decide (b.sys.mstate = .run) then
      demand (b.siAct i == 1) (if code = 1 then 2 else code) (i + 1) b
    else note .sdmDoorOpen (i + 1) [] b
  | _ => b

/-- An enabled input makes a demand: DEMANDS, SI_DEMAND with the channel first seen, and its function in ARMED, ACTED and RECOVERY; in STARTUP it is judged at
Lead's ready request, in TEST it is a test action, in LOCKOUT nothing executes (R293, R294, R309, R319). -/
def makeDemand (i code chan : Nat) (b : Block) : Block :=
  let b1 := onInput i (fun x => { x with st := if code = 10 then .pulseFault else .demand, demands := satAdd 65535 x.demands 1 }) b
  let b2 := followFire (note .siDemand (i + 1) [chan] b1)
  let b3 := if b2.latch.state = .armed ∨ b2.latch.state = .acted ∨ b2.latch.state = .recovery then actInput i code b2 else b2
  b3.touch inputTiles

/-- The causes of input `i` clear with its release. -/
def clearInputCauses (i : Nat) (b : Block) : Block :=
  settleLatch (b.onLatch fun l => { l with causes := l.causes.filter fun c => !(c.2 == i + 1 && (c.1 == 1 || c.1 == 2 || c.1 == 10 || c.1 == 11)) })

/-- The TP sources of both channels allow release: three consecutive passes, or 1 s of them after a pulse or TP fault (R293, R294). -/
def Block.pulsesPass (b : Block) (i need : Nat) (x : SafeInput) : Bool :=
  (List.range 2).all fun c => b.siSrc i c = 0 || decide (need ≤ (x.chan c).passes)

/-- No TP source of the input is faulted. -/
def Block.tpsOk (b : Block) (i : Nat) : Bool :=
  (List.range 2).all fun c => match b.siSrc i c with
    | 0 => true
    | n + 1 => match b.latch.tps[n]? with
      | some t => !t.fault
      | none => true

/-- The input may be released now: in ARMED with both channels high, in every other state by the discrepancy rule and three passed frames; after a pulse or TP
fault with a second of passes (R286, R293, R294). -/
def Block.mayRelease (b : Block) (i : Nat) (x : SafeInput) : Bool :=
  x.a.seenHigh && x.b.seenHigh && (decide (x.st = .demand) || decide (x.st = .returning) || decide (x.st = .pulseFault))
    && b.tpsOk i
    && (if x.st = .pulseFault then b.pulsesPass i 100 x else true)
    && (if b.latch.state = .armed then true else x.paired && b.pulsesPass i 3 x)

/-- In TEST an input that is released again has its verdict (R309). -/
def SafeInput.judge (x : SafeInput) : SafeInput :=
  match x.fellAt with
  | some _ => { x with verdict := some x.fallOk, fellAt := none, fallOk := false }
  | none => x

/-- Release input `i` if it may be. -/
def tryRelease (i : Nat) (b : Block) : Block :=
  match b.latch.inputs[i]? with
  | none => b
  | some x =>
    if b.siOn i && b.mayRelease i x then
      let b1 := onInput i (fun x => let y := { x with st := .released }; if b.latch.state = .test then y.judge else y) b
      clearInputCauses i (followFire b1)
    else b

/-- A channel is seen to rise (R294): the pair is judged against DISC. -/
def chanRise (i c : Nat) (b : Block) : Block :=
  let t := b.sys.now
  let b1 := onInput i (fun x =>
    let o := x.chan (1 - c)
    let pair := o.seenHigh && (match o.roseAt with
      | some r => decide (t ≤ r + b.siDisc i)
      | none => false)
    let x1 := x.onChan c fun y => { y with lowAt := none, roseAt := some t, passes := 0, fails := 0 }
    { x1 with
      paired := if x.st = .released then x.paired else pair
      st := if x.st = .demand then .returning else x.st }) b
  tryRelease i b1

/-- A channel is seen to fall: its filter begins; before release the rule restarts, and both channels low leave a discrepancy fault (R291, R294, R309). -/
def chanFall (i c : Nat) (b : Block) : Block :=
  let t := b.sys.now
  onInput i (fun x =>
    let o := x.chan (1 - c)
    let x1 := x.onChan c fun y => { y with lowAt := some t, passes := 0 }
    let x2 := if x.st = .released then x1 else { x1 with paired := false }
    let x3 := if x.st = .discrepancy ∧ o.seenHigh = false then { x2 with st := .demand } else x2
    if b.latch.state ≠ .test then x3
    else match x.fellAt with
      | none => { x3 with fellAt := some t, fallOk := false }
      | some f => if o.seenHigh then x3 else { x3 with fallOk := decide (t ≤ f + b.siDisc i) }) b

/-- SI_CHANNEL_CHANGE (R170, R291, R293, R294): inside a mask the level is only noted. -/
def doSiChannelChange (i c : Nat) (high : Bool) (count : Nat) (b : Block) : Block :=
  let b1 := b.at count
  match b1.latch.inputs[i]? with
  | none => b1
  | some x =>
    let ch := x.chan c
    if b1.latch.powered = false ∨ ch.high = high then b1
    else
      let b2 := onChan i c (fun y => { y with high := high }) b1
      if ch.maskEnd.isSome then b2
      else if high then chanRise i c (wakeByInput b2) else chanFall i c (wakeByInput b2)

def execSiChannelChange (input : Fin 8) (chan : Fin 2) (high : Bool) (count : Nat) (s : State) := effect (doSiChannelChange input chan high count) s

/-- SI_DEMAND (R291, R293, R300): a released input whose channel has been low beyond its filter, at the later of the filter's end and the mask's. -/
def doSiDemand (i c : Nat) (b : Block) : Block :=
  match b.latch.inputs[i]? with
  | none => b
  | some x =>
    match (x.chan c).lowAt with
    | none => b
    | some t =>
      if b.siOn i && decide (x.st = .released) then makeDemand i 1 c (b.at (max (t + b.siFilt i) ((x.chan c).maskEnd.getD 0))) else b

def execSiDemand (input : Fin 8) (chan : Fin 2) (s : State) := effect (doSiDemand input chan) s

/-- SI_DISCREPANCY (R294): DISC after one channel's rise the other is still low. -/
def doSiDiscrepancy (i : Nat) (b : Block) : Block :=
  match b.latch.inputs[i]? with
  | none => b
  | some x =>
    let up := if x.a.seenHigh then x.a else x.b
    if b.siOn i && decide (x.st = .returning) && (x.a.seenHigh != x.b.seenHigh) && decide (b.latch.state ≠ .armed) && decide (b.latch.state ≠ .selftest)
      && decide (b.latch.state ≠ .lockout) then
      let b1 := b.at (up.roseAt.getD 0 + b.siDisc i)
      let b2 := onInput i (fun x =>
        let y := { x with st := .discrepancy, paired := false }
        if b.latch.state = .test then { y with verdict := some false, fellAt := none, fallOk := false } else y) b1
      note .siDiscrepancy (i + 1) [] b2
    else b

def execSiDiscrepancy (input : Fin 8) (s : State) := effect (doSiDiscrepancy input) s

/-! ### Test pulses (R291 to R293) -/

/-- TP_FRAME (R291): a frame begins at each multiple of 1,000,000. -/
def doTpFrame (b : Block) : Block :=
  if b.latch.powered = false then b
  else ((b.at (multipleFrom 1000000 b.sys.now)).onLatch fun l => { l with frames := (l.frames + 1) % 4294967296, tps := l.tps.map fun t => { t with on := true } }).touch [0x501]

def execTpFrame (s : State) := effect doTpFrame s

/-- Apply a change to every channel that TP output `n` (0 for TP1) sources. -/
def onSourced (n : Nat) (f : Nat → Nat → Block → Block) (b : Block) : Block :=
  (List.range 8).foldl (fun b i => (List.range 2).foldl (fun b c => if b.siOn i && b.siSrc i c == n + 1 then f i c b else b) b) b

/-- TP_PULSE (R291): TPn goes off 2.5 ms × (n - 1) into its frame; its channels are masked for 350 µs. -/
def doTpPulse (n : Nat) (b : Block) : Block :=
  if b.latch.powered = false then b
  else
    let t := multipleFrom 1000000 (b.sys.now - 250000 * n) + 250000 * n
    onSourced n (fun i c b => onChan i c (fun y => { y with maskEnd := some (t + 35000), checked := y.high }) b) (b.at t)

def execTpPulse (tp : Fin 4) (s : State) := effect (doTpPulse tp) s

/-- PULSE_CHECK (R291, R293): 240 µs after the start of the pulse, whether the channel read low throughout from 150 µs on; a channel that was low at the start
is not checked. -/
def doPulseCheck (i c : Nat) (low : Bool) (b : Block) : Block :=
  match b.latch.inputs[i]? with
  | none => b
  | some x =>
    let ch := x.chan c
    match ch.maskEnd with
    | none => b
    | some e =>
      let b1 := b.at (e - 11000)
      if b.siOn i = false ∨ b.siSrc i c = 0 then b1
      else if !ch.checked then onChan i c (fun y => { y with passes := 0, fails := 0 }) b1
      else if low then tryRelease i (onChan i c (fun y => { y with passes := y.passes + 1, fails := 0, passed := true }) b1)
      else
        let b2 := onChan i c (fun y => { y with passes := 0, fails := y.fails + 1, passed := false }) b1
        if 2 ≤ ch.fails + 1 ∧ x.st ≠ .pulseFault ∧ b.latch.state ≠ .selftest then
          let b3 := note .siCrossShort (i + 1) [c] b2
          if x.st = .released then makeDemand i 10 c b3 else onInput i (fun y => { y with st := .pulseFault }) b3
        else b2

def execPulseCheck (input : Fin 8) (chan : Fin 2) (low : Bool) (s : State) := effect (doPulseCheck input chan low) s

/-- SI_MASK_END (R291): a channel high at the end has not been low; one low before and still low has its demand recognised at the later of filter and mask; one
that fell inside the mask begins its filter now. -/
def doSiMaskEnd (i c : Nat) (b : Block) : Block :=
  match b.latch.inputs[i]? with
  | none => b
  | some x =>
    let ch := x.chan c
    match ch.maskEnd with
    | none => b
    | some e =>
      let b1 := onChan i c (fun y => { y with maskEnd := none }) (b.at e)
      if ch.high then (if ch.lowAt.isSome then chanRise i c (wakeByInput b1) else b1)
      else match ch.lowAt with
        | none => chanFall i c (wakeByInput b1)
        | some t => if b.siOn i && decide (x.st = .released) && decide (t + b.siFilt i ≤ b1.sys.now) then makeDemand i 1 c b1 else b1

def execSiMaskEnd (input : Fin 8) (chan : Fin 2) (s : State) := effect (doSiMaskEnd input chan) s

/-- The inputs that TPn sources make demands, and are in pulse or TP fault (R291, R293). -/
def tpDemands (n : Nat) (b : Block) : Block :=
  (List.range 8).foldl (fun b i =>
    if b.siOn i && (b.siSrc i 0 == n + 1 || b.siSrc i 1 == n + 1) then
      match b.latch.inputs[i]? with
      | some x => if x.st = .released then makeDemand i 10 (if b.siSrc i 0 = n + 1 then 0 else 1) b
          else onInput i (fun y => { y with st := .pulseFault, a := { y.a with passes := 0 }, b := { y.b with passes := 0 } }) b
      | none => b
    else b) b

/-- TP_FAULT (R291, R293): the current limit has acted for 10 ms or the readback is wrong. -/
def doTpFault (n : Nat) (b : Block) : Block :=
  match b.latch.tps[n]? with
  | none => b
  | some t =>
    if t.fault ∨ b.latch.powered = false then b
    else
      let b1 := (b.onLatch fun l => { l with tps := modAt l.tps n fun t => { t with fault := true } }).touch [0x501]
      tpDemands n (note .tpFault (n + 1) [] b1)

def execTpFault (tp : Fin 4) (s : State) := effect (doTpFault tp) s

/-- TP_FAULT_CLEAR (R291): the readback has been correct for 1 s; the inputs are released only by their own rules. -/
def doTpFaultClear (n : Nat) (b : Block) : Block := (b.onLatch fun l => { l with tps := modAt l.tps n fun t => { t with fault := false } }).touch [0x501]

def execTpFaultClear (tp : Fin 4) (s : State) := effect (doTpFaultClear tp) s

end Sys2Proof.Machine
end

