-- ==== Sys2Proof/Machine/Outputs.lean ====
section
/-! DEFINITION. The safety outputs: mirrors, contactor sequences, output tests (R295 to R299). -/

namespace Sys2Proof.Machine

/-- Tiles of the safety outputs. -/
def outTiles : List Nat := [0x500, 0x502]

/-- A mirror enabled by SFB_EN reads closed; one not enabled is taken as met (R296, R297). -/
def Block.mirrorClosed (b : Block) (n : Nat) : Bool := !b.sfbEn n || (match b.latch.outs[n]? with
  | some o => o.mirror
  | none => true)

def Block.mirrorOpen (b : Block) (n : Nat) : Bool := !b.sfbEn n || (match b.latch.outs[n]? with
  | some o => !o.mirror
  | none => true)

/-- Any of SO1 to SO3 is on. -/
def Block.contactorOn (b : Block) : Bool := (b.latch.outs.take 3).any fun o => o.cmd

/-- Every SDM door is released (R297, R305). -/
def Block.doorsClosed (b : Block) : Bool := (List.range 8).all fun i => b.siFunc i != 3 || !b.siOpen i

/-- SFB_MIRROR_CHANGE (R296): the counts start or stop; a mirror that closes ends the weld condition and its cause. -/
def doSfbMirrorChange (n : Nat) (closed : Bool) (count : Nat) (b : Block) : Block :=
  let b1 := onOut n (fun o => { o with mirror := closed, weld := o.weld && !closed }) (b.at count)
  let b2 := if closed then clearCause 13 (n + 1) b1 else b1
  b2.touch outTiles

def execSfbMirrorChange (out : Fin 3) (closed : Bool) (count : Nat) (s : State) := effect (doSfbMirrorChange out closed count) s

/-- The output's mirror has contradicted it, as `on` says, since this count (R296). -/
def Block.wrongSince (b : Block) (n : Nat) (on : Bool) : Option Nat := match b.latch.outs[n]? with
  | some o => if o.cmd = on then o.wrongAt else none
  | none => none

/-- CONTACTOR_WELD (R296): the output is off and its mirror has read open for 100 ms. -/
def doContactorWeld (n : Nat) (b : Block) : Block :=
  match b.wrongSince n false with
  | none => b
  | some t =>
    let b1 := onOut n (fun o => { o with weld := true }) (b.at (t + 100 * msT))
    let b2 := if b.latch.causes.contains (13, n + 1) then b1 else note .contactorWeld (n + 1) [] b1
    (demandSSI 13 (n + 1) b2).touch outTiles

def execContactorWeld (out : Fin 3) (s : State) := effect (doContactorWeld out) s

/-- CONTACTOR_FAIL_TO_CLOSE (R296): the output is on and its mirror has read closed for 100 ms. -/
def doContactorFailToClose (n : Nat) (b : Block) : Block :=
  match b.wrongSince n true with
  | none => b
  | some t => (raise .contactorFault (n + 1) [] (b.at (t + 100 * msT))).touch outTiles

def execContactorFailToClose (out : Fin 3) (s : State) := effect (doContactorFailToClose out) s

/-! ### Contactor sequences (R297) -/

/-- The sequence moves on; the count of the step begins now. -/
def toSeq (q : SeqState) (b : Block) : Block := retime (b.onLatch fun l => { l with seq := q })

/-- A close starts: SO2 on at its acceptance. -/
def startClose (src : Src) (b : Block) : Block :=
  (onOut 1 SafeOut.turnOn (b.onLatch fun l => { l with
    seq := .so2Closing, seqAt := b.sys.now, seqSrc := some src, seqFail := 0, peak := 0, peaked := false, lowSince := none })).touch outTiles

/-- An open starts: SO1 off; PRE_DONE clears. -/
def startOpen (src : Src) (b : Block) : Block :=
  (onOut 0 SafeOut.off (b.onLatch fun l => { l with seq := .opening, seqAt := b.sys.now, seqSrc := some src, preDone := false })).touch outTiles

/-- SAFE_CONTACTORS (R297, R305, R320). An open during a close sequence is not accepted: BUSY holds it back while the close command runs. -/
def ruleSafeContactors (src : Src) (act : Nat) (b : Block) : HostRule :=
  { opcode := 0x0902, owner := true
    stateOk := if act = 1 then
        decide (b.latch.state = .armed) && decide (b.sys.mstate = .park) && b.doorsClosed && (List.range 3).all b.mirrorClosed
      else decide (b.sys.mstate = .park) || decide (b.sys.mstate = .fault)
    param := need (act ≤ 1)
    act := fun b => if act = 1 then startClose src b else startOpen src b }

def execSafeContactors (src : Src) (act : Nat) (s : State) := effect (host src (ruleSafeContactors src act)) s

/-- CLOSE_SEQ_SO3_ON (R297): +100 ms, SFB2 open; SO3 on. -/
def doCloseSeqSo3On (b : Block) : Block :=
  if b.latch.seq ≠ .so2Closing then b
  else
    let b1 := b.at (b.latch.seqAt + 100 * msT)
    if b1.mirrorOpen 1 then
      ((onOut 2 SafeOut.turnOn (toSeq .precharging b1)).onLatch fun l => { l with so3At := b1.sys.now }).touch outTiles
    else failClose 2 b1

def execCloseSeqSo3On (s : State) := effect doCloseSeqSo3On s

/-- The string current of a stored snapshot while precharging: the peak, and since when it has stayed at or below PRE_I after the peak (R297). -/
def prechargeTake (b : Block) : Block :=
  if b.latch.seq ≠ .precharging then b
  else match b.sense.cur.last with
    | none => b.onLatch fun l => { l with lowSince := none }
    | some i =>
      let m := i.natAbs / 1000
      (b.onLatch fun l => { l with
        peak := max l.peak m
        peaked := l.peaked || (decide (2 * l.preI ≤ m) && decide (b.sys.now ≤ l.seqAt + 300 * msT))
        lowSince := if (l.peaked || decide (2 * l.preI ≤ m)) && decide (i.natAbs ≤ 1000 * l.preI) then some (l.lowSince.getD b.sys.now) else none }).touch outTiles

/-- CLOSE_SEQ_PEAK_CHECK (R297): by +300 ms the current has peaked at 2 × PRE_I, or code 3. -/
def doCloseSeqPeakCheck (b : Block) : Block :=
  if b.latch.seq ≠ .precharging then b
  else
    let b1 := b.at (b.latch.seqAt + 300 * msT)
    if b1.latch.peaked then b1 else failClose 3 b1

def execCloseSeqPeakCheck (s : State) := effect doCloseSeqPeakCheck s

/-- CLOSE_SEQ_SO1_ON (R297): at or below PRE_I continuously for 100 ms after the peak and within PRE_TMAX of SO3 on; SO1 on. -/
def doCloseSeqSo1On (b : Block) : Block :=
  match b.latch.lowSince with
  | none => b
  | some t =>
    let due := t + 100 * msT
    if b.latch.seq = .precharging ∧ b.latch.peaked = true ∧ due ≤ b.latch.so3At + b.latch.preTmax * msT then
      let b1 := b.at due
      ((onOut 0 SafeOut.turnOn (toSeq .so1Closing b1)).onLatch fun l => { l with so1At := b1.sys.now }).touch outTiles
    else b

def execCloseSeqSo1On (s : State) := effect doCloseSeqSo1On s

/-- CLOSE_SEQ_PRECHARGE_TIMEOUT (R297): PRE_TMAX after SO3 on without the condition, code 4. -/
def doCloseSeqPrechargeTimeout (b : Block) : Block :=
  if b.latch.seq ≠ .precharging then b else failClose 4 (b.at (b.latch.so3At + b.latch.preTmax * msT))

def execCloseSeqPrechargeTimeout (s : State) := effect doCloseSeqPrechargeTimeout s

/-- CLOSE_SEQ_SO3_OFF (R297): 100 ms after SO1 on, SFB1 open; SO3 off. -/
def doCloseSeqSo3Off (b : Block) : Block :=
  if b.latch.seq ≠ .so1Closing then b
  else
    let b1 := b.at (b.latch.so1At + 100 * msT)
    if b1.mirrorOpen 0 then (onOut 2 SafeOut.off (toSeq .so3Opening b1)).touch outTiles else failClose 5 b1

def execCloseSeqSo3Off (s : State) := effect doCloseSeqSo3Off s

/-- CLOSE_SEQ_DONE (R297): 300 ms after SO1 on, SFB3 closed; PRE_DONE, and the command completes with OK. -/
def doCloseSeqDone (b : Block) : Block :=
  if b.latch.seq ≠ .so3Opening then b
  else
    let b1 := b.at (b.latch.so1At + 300 * msT)
    if b1.mirrorClosed 2 then
      let src := b1.latch.seqSrc
      let b2 := toSeq .idle (b1.onLatch fun l => { l with preDone := true, seqSrc := none })
      (match src with
        | some s => complete s .ok (leBytes 1 0) b2
        | none => b2).touch outTiles
    else failClose 6 b1

def execCloseSeqDone (s : State) := effect doCloseSeqDone s

/-- OPEN_SEQ_SO2_OFF (R297): 100 ms after SO1 off, SO2 off; the open sequence ends. -/
def doOpenSeqSo2Off (b : Block) : Block :=
  if b.latch.seq ≠ .opening then b
  else
    let b1 := b.at (b.latch.seqAt + 100 * msT)
    let src := b1.latch.seqSrc
    let b2 := toSeq .idle (onOut 1 SafeOut.off (b1.onLatch fun l => { l with seqSrc := none, preDone := false }))
    (match src with
      | some s => complete s .ok (leBytes 1 0) b2
      | none => b2).touch outTiles

def execOpenSeqSo2Off (s : State) := effect doOpenSeqSo2Off s

/-- SAFE_SET_PRECHARGE (R297, R320). -/
def ruleSafeSetPrecharge (src : Src) (preI preTmax : Nat) (b : Block) : HostRule :=
  { opcode := 0x0903, owner := true, stateOk := decide (b.sys.mstate = .park) || decide (b.sys.mstate = .safe)
    param := need (decide (100 ≤ preI ∧ preI ≤ 20000 ∧ 500 ≤ preTmax ∧ preTmax ≤ 30000))
    act := fun b => (complete src .ok [] (settingChanged (b.onLatch fun l => { l with preI := preI, preTmax := preTmax }))).touch outTiles }

def execSafeSetPrecharge (src : Src) (preI preTmax : Nat) (s : State) := effect (host src (ruleSafeSetPrecharge src preI preTmax)) s

/-! ### Output tests (R298, R299) -/

/-- Open one switch of each output that is on, for its test. -/
def beginTest (high : Bool) (b : Block) : Block :=
  (b.onLatch fun l => { l with outs := l.outs.map fun o =>
    if o.cmd then { o with inTest := some (high, b.sys.now), hs := o.hs && !high, ls := o.ls && high } else o }).touch outTiles

/-- A test is due: a demand at this very count suspends the tests until the next accepted reset (R299). -/
def dueTest (high : Bool) (b : Block) : Block :=
  if b.latch.powered = false ∨ b.latch.testsOff = true then b
  else if b.latch.actAt = some b.sys.now then b.onLatch fun l => { l with testsOff := true }
  else beginTest high b

/-- SO_TEST_HIGH (R298): every 1 s the Latch opens the high-side switches of the outputs that are on. -/
def doSoTestHigh (count : Nat) (b : Block) : Block :=
  let b1 := b.at count
  dueTest true (b1.onLatch fun l => { l with testAt := b1.sys.now })

def execSoTestHigh (count : Nat) (s : State) := effect (doSoTestHigh count) s

/-- SO_TEST_LOW (R298): 500 ms later, SA and SB open the low-side switches. -/
def doSoTestLow (b : Block) : Block := dueTest false (b.at (b.latch.testAt + 500 * msT))

def execSoTestLow (s : State) := effect doSoTestLow s

/-- SO_READBACK_FALL (R298, R299): the test passes, and the switch closes again unless a demand has taken the output off. -/
def doSoReadbackFall (n : Nat) (b : Block) : Block :=
  match b.latch.outs[n]? with
  | none => b
  | some o =>
    if o.inTest.isNone then b
    else (b.onLatch fun l => { l with outs := modAt l.outs n fun o =>
      { o with inTest := none, hs := o.cmd, ls := o.cmd, rb := o.cmd, tests := satAdd 65535 o.tests 1 } }).touch outTiles

def execSoReadbackFall (out : Fin 4) (s : State) := effect (doSoReadbackFall out) s

/-- An output's test fails: SO_TEST_FAIL, every output opens, LOCKOUT (R298). -/
def failTest (n : Nat) (b : Block) : Block :=
  let b1 := b.onLatch fun l => { l with outs := modAt l.outs n fun o => { o with tfail := true, inTest := none } }
  (lockout 12 (note .soTestFail (n + 1) [] b1)).touch outTiles

/-- SO_TEST_FAIL (R298): 400 µs into the test the readback has not fallen. -/
def doSoTestFail (n : Nat) (b : Block) : Block :=
  match b.latch.outs[n]? with
  | none => b
  | some o => match o.inTest with
    | none => b
    | some x => failTest n (b.at (x.2 + 400 * usT))

def execSoTestFail (out : Fin 4) (s : State) := effect (doSoTestFail out) s

/-- SO_MIDPOINT_CHECK (R298): every 500 ms the midpoint of each off output is judged against its switches commanded open; `hsClosed` and `lsClosed` are the
outputs whose midpoint shows that switch closed, bit n-1 for SOn. -/
def doSoMidpointCheck (hsClosed lsClosed : Nat) (b : Block) : Block :=
  if b.latch.powered = false then b
  else
    let bad := (List.range 4).filter fun n => match b.latch.outs[n]? with
      | some o => (!o.hs || !o.ls) && o.inTest.isNone && ((!o.hs && bitOf n hsClosed) || (!o.ls && bitOf n lsClosed))
      | none => false
    bad.foldl (fun b n => failTest n b) b

def execSoMidpointCheck (hsClosed lsClosed : Nat) (s : State) := effect (doSoMidpointCheck hsClosed lsClosed) s

end Sys2Proof.Machine
end

