-- ==== Sys2Proof/Machine/SafetyPath.lean ====
section
/-! DEFINITION. The engine path, the supervision of Latch and engines, the isolation monitor, the safety reset and SRST (R301 to R308, R319). -/

namespace Sys2Proof.Machine

/-- Tiles of the engine path. -/
def checkTiles : List Nat := [0x500, 0x503]

/-- Add a value to a running sum; no value leaves it. -/
def Acc.put (v : Option Int) (a : Acc) : Acc := match v with
  | some x => { sum := a.sum + x, n := a.n + 1 }
  | none => a

/-- The mean of a running sum, if it holds a value. -/
def Acc.mean? (a : Acc) : Option Int := if a.n = 0 then none else some (a.sum / a.n)

/-- A stored snapshot joins the 2 ms block of SA and SB; readings with EXCL, CHF or RNG are left out (R301). -/
def blockTake (b : Block) : Block := b.onLatch fun l => { l with
  blk := {
    cells := l.blk.cells.mapIdx fun c a =>
      let x := b.cell c
      a.put (if decide (b.nCell ≤ c) || x.excl || x.chf || x.rng then none else x.chan.last)
    cur := l.blk.cur.put b.sense.cur.last
    volt := l.blk.volt.put b.sense.strV.last } }

/-- The highest valid thermistor, 0.01 °C (R301, R322). -/
def Block.hottest (b : Block) : Option Int := ((List.range b.nTherm).filterMap fun t => (b.therm t).temp).max?

/-- A cell's block mean lies above OV + 20 mV or below UV − 20 mV; a pair-mode cell's reading is half its pair channel (R301). -/
def Block.cellsTripped (b : Block) : Bool := b.latch.blk.cells.any fun a => match a.mean? with
  | some v => decide ((b.ovTh + 20000) * 2048 < v) || decide (v < (b.uvTh - 20000) * 2048)
  | none => false

/-- SA and SB are evaluating: in lockstep, and the Latch is powered (R301, R303). -/
def Block.engineUp (b : Block) : Bool := b.latch.powered && b.latch.lockstep

/-- The inputs that SA and SB see in demand and the Latch holds released (R301). -/
def Block.unexecuted (b : Block) (seen : Nat) : List Nat := (List.range 8).filter fun i =>
  bitOf i seen && b.siOn i && (match b.latch.inputs[i]? with
    | some x => decide (x.st = .released)
    | none => false)

/-- The checks of R301 that SA and SB evaluate at the end of a block, bits 1 to 5; bit 0 is judged with the inputs they read, 6 by the ring, 7 by the record's
own check. -/
def Block.checkNow (b : Block) (i : Nat) : Bool :=
  let l := b.latch
  match i with
  | 1 => b.cellsTripped
  | 2 => match l.hotAt with
    | some t => decide (t + secT ≤ b.sys.now)
    | none => false
  | 3 => decide (3 ≤ l.overI)
  | 4 => match l.blk.volt.mean? with
    | some v => decide (b.vStrMax < v)
    | none => false
  | 5 => b.isoEn && decide (2 ≤ l.isoLow)
  | 6 => b.ring.split
  | 7 => l.chk.getD 7 false
  | _ => false

/-- The counters of the confirmed checks move on with the block. -/
def blockCounts (b : Block) : Block := b.onLatch fun l => { l with
  hotAt := match b.hottest with
    | some t => if b.tCellMax < t then some (l.hotAt.getD (b.sys.now - 200000)) else none
    | none => none
  overI := match l.blk.cur.mean? with
    | some i => if 1000 * b.iStrMax < |i| then l.overI + 1 else 0
    | none => 0 }

/-- Checks 1 to 5 act: those that call for SSI first (R319); string current calls for SPS and its 50 ms begin (R301). -/
def actChecks (b : Block) : Block :=
  let b1 := [1, 2, 5].foldl (fun b i => if b.checkNow i then demandSSI 5 i b else clearCause 5 i b) b
  let b2 := [3, 4].foldl (fun b i => if b.checkNow i then demandSPS 5 i b else clearCause 5 i b) b1
  b2.onLatch fun l => { l with spsAt := if b2.checkNow 3 then some (l.spsAt.getD b2.sys.now) else none }

/-- SA and SB have seen a demand that the Latch has not executed within 2 ms: the function of that input, and LATCH_DISAGREE (R301, R303). -/
def actUnexecuted (i : Nat) (b : Block) : Block :=
  let b1 := demand (if b.siFunc i = 3 then b.siAct i == 1 else b.siFunc i == 1) 5 0 b
  lockout 17 (note .latchDisagree noArg [] b1)

/-- ENGINE_CHECK_BLOCK (R301, R302): at each multiple of 200,000; `seen` is the mask of inputs that SA and SB read in demand. -/
def doEngineCheckBlock (seen : Nat) (b : Block) : Block :=
  let b0 := b.at (multipleFrom 200000 b.sys.now)
  if b0.engineUp = false then b0.onLatch fun l => { l with blk := .empty }
  else
    let b1 := blockCounts b0
    let un := b1.unexecuted seen
    let late := match un, b1.latch.unexecAt with
      | _ :: _, some t => decide (t + 200000 ≤ b1.sys.now)
      | _, _ => false
    let b2 := b1.onLatch fun l => { l with
      unexecAt := if un = [] then none else some (l.unexecAt.getD b1.sys.now)
      chk := [late] ++ ((List.range 7).map fun k => b1.checkNow (k + 1)) }
    let b3 := actChecks b2
    let b4 := match late, un with
      | true, i :: _ => actUnexecuted i b3
      | _, _ => b3
    (b4.onLatch fun l => { l with blk := .empty }).touch checkTiles

def execEngineCheckBlock (seen : Nat) (s : State) := effect (doEngineCheckBlock seen) s

/-- STRING_CURRENT_ESCALATION (R301): 50 ms after SPS the condition still holds. -/
def doStringCurrentEscalation (b : Block) : Block :=
  match b.latch.spsAt with
  | none => b
  | some t =>
    let b1 := b.at (t + 50 * msT)
    if b1.checkNow 3 ∧ b1.engineUp = true then demandSSI 5 3 b1 else b1

def execStringCurrentEscalation (s : State) := effect doStringCurrentEscalation s

/-- FLOOR_CRC_CHECK (R301): every 1 s the active copy's CRC; a failure calls for SSI. -/
def doFloorCrcCheck (ok : Bool) (b : Block) : Block :=
  let b1 := b.at (b.nextMultiple secT)
  if b1.engineUp = false then b1
  else
    let b2 := (b1.onLatch fun l => { l with chk := l.chk.set 7 (!ok) }).touch checkTiles
    if ok then clearCause 5 7 b2 else demandSSI 5 7 b2

def execFloorCrcCheck (ok : Bool) (s : State) := effect (doFloorCrcCheck ok) s

/-! ### Supervision (R303) -/

/-- LATCH_CHALLENGE (R303): every 1 ms; two consecutive missed or wrong answers call for SSI, 1,000 correct ones restore answering. -/
def doLatchChallenge (answered : Bool) (b : Block) : Block :=
  if b.latch.powered = false then b
  else
    let b1 := b.at (b.nextMultiple msT)
    if answered then
      let n := b1.latch.goodRun + 1
      let b2 := b1.onLatch fun l => { l with missRun := 0, goodRun := if l.answering then 0 else n, answering := l.answering || decide (1000 ≤ n) }
      if b1.latch.answering = false ∧ b2.latch.answering = true then (clearCause 9 0 b2).touch checkTiles else b2
    else
      let b2 := (b1.onLatch fun l => { l with missRun := min 2 (l.missRun + 1), goodRun := 0, missed := (l.missed + 1) % 4294967296 }).touch checkTiles
      if 2 ≤ b1.latch.missRun + 1 ∧ b1.latch.answering = true then
        demandSSI 9 0 (note .safetyEngineLost noArg [] (b2.onLatch fun l => { l with answering := false }))
      else b2

def execLatchChallenge (answered : Bool) (s : State) := effect (doLatchChallenge answered) s

/-- Every low-side switch opens. -/
def lowSidesOff (b : Block) : Block := b.onLatch fun l => { l with outs := l.outs.map fun o => { o with ls := false } }

/-- LOCKSTEP_MISMATCH (R303): low-side switches open, SSI, and Lead restarts SA and SB, 200 ms from now (log entry 34). -/
def doLockstepMismatch (b : Block) : Block :=
  if b.latch.powered = false then b
  else
    let b1 := (lowSidesOff b).onLatch fun l => { l with lockstep := false, restartAt := some (b.sys.now + 200 * msT) }
    (demandSSI 8 0 (note .lockstepLost noArg [] b1)).touch checkTiles

def execLockstepMismatch (s : State) := effect doLockstepMismatch s

/-- LOCKSTEP_RESTORED (R303): 1 s of self-test in agreement after the latest restart. -/
def doLockstepRestored (b : Block) : Block :=
  match b.latch.restartAt with
  | none => b
  | some t => (clearCause 8 0 ((b.at (t + secT)).onLatch fun l => { l with lockstep := true, restartAt := none })).touch checkTiles

def execLockstepRestored (s : State) := effect doLockstepRestored s

/-- LATCH_DISAGREE (R303): 2 ms of disagreement; the low-side switches open and the Latch enters LOCKOUT. -/
def doLatchDisagree (b : Block) : Block :=
  if b.latch.powered = false ∨ b.latch.state = .selftest then b else lockout 17 (note .latchDisagree noArg [] (lowSidesOff b))

def execLatchDisagree (s : State) := effect doLatchDisagree s

/-- ISO_ALTERNATION (R304): every 5 s, the readings of this alternation in µV and, of each second one, R_ISO in Ω as the hub computes it; no formula is given. -/
def doIsoAlternation (vPos vNeg : Int) (r : Nat) (b : Block) : Block :=
  let b0 := b.at (b.nextMultiple (5 * secT))
  if b0.isoEn = false then b0
  else
    let b1 := (b0.onLatch fun l => { l with isoPos := !l.isoPos, vPos := some vPos, vNeg := some vNeg }).touch checkTiles
    match b1.latch.isoFirst with
    | none => b1.onLatch fun l => { l with isoFirst := some (vPos, vNeg) }
    | some _ =>
      let low := decide (r < b1.isoWarnAt)
      let b2 := b1.onLatch fun l => { l with isoFirst := none, rIso := some r, isoLow := if r < b1.isoMin then l.isoLow + 1 else 0, isoWarned := low }
      if low && !b1.latch.isoWarned then note .isoWarn noArg [r] b2 else b2

def execIsoAlternation (vPos vNeg : Int) (r : Nat) (s : State) := effect (doIsoAlternation vPos vNeg r) s

/-! ### Safety reset (R306 to R308) -/

/-- A comparator is tripped (R96, R306). -/
def Block.comparatorTripped (b : Block) : Bool := ((List.range 16).any fun n => (b.seg n).tripped != []) || decide (b.leash.tripsUp ≠ [])

/-- Condition `n` of R306 is met; 4 is the sensed level while this module does not drive the line. -/
def Block.resetCondition (b : Block) (srcOk : Bool) (n : Nat) : Bool :=
  match n with
  | 1 => decide (b.latch.state = .recovery)
  | 2 => decide (b.openInputs = [])
  | 3 => !b.comparatorTripped
  | 4 => b.bark.drive || b.bark.line
  | 5 => b.latch.saOk && !(b.latch.chk.any fun c => c) && !b.ring.split
  | 6 => (List.range 3).all b.mirrorClosed
  | 7 => srcOk
  | _ => true

/-- The first failing condition of R306. -/
def Block.firstFailing (b : Block) (srcOk : Bool) : Option Nat := [1, 2, 3, 4, 5, 6, 7].find? fun n => !b.resetCondition srcOk n

/-- RESETOK: conditions 1 to 6 (R321). -/
def Block.resetOk (b : Block) : Bool := (b.firstFailing true).isNone

/-- An accepted reset takes effect in the order of R308. -/
def applyReset (src : Option Src) (b : Block) : Block :=
  let b1 := (b.onSense fun s => { s with segs := s.segs.map fun g => { g with ovLat := 0, uvLat := 0 } }).touch integTiles
  let b2 := (driveBark false b1).onBark fun k => { k with extLat := false }
  let b3 := b2.onLatch fun l => { l with pendingAct := none, resetting := none, srstPress := none, testsOff := false, muzzle := false, fn := .none, causes := [], state := .armed }
  let b4 := (onOut 3 SafeOut.turnOn b3).onLeash fun h => { h with tripDown := false }
  let b5 := note .safeResetDone noArg [] b4
  let b6 := if b5.sys.mstate = .safe then (match src with
    | some _ => enterByCommand .park 0x0901 b5
    | none => enterState .park Event.safeResetDone.code b5) else b5
  (match src with
    | some s => complete s .ok (leBytes 1 0) b6
    | none => b6).touch latchTiles

/-- A reset is requested: denied at the first failing condition; otherwise it takes effect, after the bark release test while this module drives the line (R306). -/
def tryReset (src : Option Src) (srcOk : Bool) (b : Block) : Block :=
  match b.firstFailing srcOk with
  | some n => denyReset src n b
  | none =>
    if b.bark.drive then (driveBark false b).onLatch fun l => { l with resetting := some (src, b.sys.now) }
    else applyReset src b

/-- SAFE_RESET (R306, R307, R320). -/
def ruleSafeReset (src : Src) (b : Block) : HostRule :=
  { opcode := 0x0901, owner := true, stateOk := decide (b.sys.mstate = .safe), param := none
    act := fun b =>
      let ok := match b.rstMode with
        | 0 => true
        | 2 => (match b.latch.srstPress with
          | some t => decide (b.sys.now ≤ t + 10 * secT)
          | none => false)
        | _ => false
      tryReset (some src) ok b }

def execSafeReset (src : Src) (s : State) := effect (host src (ruleSafeReset src)) s

/-- BARK_RELEASE_TEST (R306): 1 ms after the release the line has not risen: driven again, condition 4 fails. -/
def doBarkReleaseTest (b : Block) : Block :=
  match b.latch.resetting with
  | none => b
  | some r => denyReset r.1 4 (driveBark true (b.at (r.2 + msT)))

def execBarkReleaseTest (s : State) := effect doBarkReleaseTest s

/-- BARK_LINE_RELEASED (R97, R100, R306): the line rises; an external assertion ends, and a reset that waits proceeds. -/
def doBarkLineReleased (b : Block) : Block :=
  if b.bark.drive then b
  else
    let b1 := clearCause 4 0 ((b.onBark fun k => { k with line := true, lowAt := none }).touch [8])
    match b1.latch.resetting with
    | some r => applyReset r.1 b1
    | none => b1

def execBarkLineReleased (s : State) := effect doBarkLineReleased s

/-- SRST_RISE (R307): a press begins. -/
def doSrstRise (count : Nat) (b : Block) : Block :=
  let b1 := b.at count
  if b1.latch.powered = false ∨ b1.latch.srst = true then b1
  else (b1.onLatch fun l => { l with srst := true, srstAt := b1.sys.now, srstIgnored := false }).touch [0x501]

def execSrstRise (count : Nat) (s : State) := effect (doSrstRise count) s

/-- SRST_STUCK (R307): high for longer than 5 s. -/
def doSrstStuck (b : Block) : Block :=
  if b.latch.srst = false ∨ b.latch.srstIgnored = true then b
  else note .srstStuck noArg [] ((b.at (b.latch.srstAt + 5 * secT)).onLatch fun l => { l with srstIgnored := true })

def execSrstStuck (s : State) := effect doSrstStuck s

/-- SRST_FALL (R307): a press of 0.2 to 5 s is valid; with RST_MODE 1 it requests the reset, with 2 it opens the 10 s. -/
def doSrstFall (count : Nat) (b : Block) : Block :=
  let b1 := b.at count
  if b1.latch.srst = false then b1
  else
    let held := b1.sys.now - b1.latch.srstAt
    let b2 := (b1.onLatch fun l => { l with srst := false, srstIgnored := false }).touch [0x501]
    if b1.latch.srstIgnored ∨ held < secT / 5 ∨ 5 * secT < held then b2
    else if b2.rstMode = 1 then tryReset none true b2
    else if b2.rstMode = 2 then b2.onLatch fun l => { l with srstPress := some b2.sys.now }
    else b2

def execSrstFall (count : Nat) (s : State) := effect (doSrstFall count) s

end Sys2Proof.Machine
end

