-- ==== Sys2Proof/Machine/Authority.lean ====
section
/-! DEFINITION. The proof test, the Floor record's write and read, password, authorisation and change log (R309 to R318, R320). -/

namespace Sys2Proof.Machine

/-- Tiles of the Floor mirror and of the log. -/
def floorTiles : List Nat := [0x500, 0x501, 0x503, 0x504, 0x508, 0x509, 0x50A, 0x50B, 0x50C]

/-- The requester as a session index; a policy engine stands for none of the four sessions. -/
def Src.index : Src → Nat
  | .session i _ => i
  | .engine p _ => 0x10 + p

/-! ### Proof test (R309) -/

/-- Bits of the inputs whose verdict in TEST is `v`. -/
def LatchPart.verdicts (l : LatchPart) (v : Bool) : Nat := maskOf (l.inputs.map fun x => x.verdict == some v)

/-- TEST begins: every enabled input is tested from its present state (R309, R319). -/
def beginProof (comparators : Bool) (src : Src) (b : Block) : Block :=
  let b1 := if b.latch.state = .armed then execFn false 14 0 .test b else b.onLatch fun l => { l with state := .test }
  let t := b1.sys.now
  let b2 := b1.onLatch fun l => { l with
    proof := some { begun := t, comparators := comparators, passIn := 0, failIn := 0, compPass := 0, session := src.index }
    inputs := l.inputs.map fun x =>
      if x.st = .released ∨ x.st = .disabled then { x with verdict := none, fellAt := none, fallOk := false }
      else { x with verdict := none, fellAt := some t, fallOk := !x.a.seenHigh && !x.b.seenHigh } }
  (note .safeTestBegin noArg [b2n comparators] b2).touch (latchTiles ++ inputTiles)

/-- TEST ends: the masks, change-log kind 5, RECOVERY (R309, R317). -/
def endProof (compPass : Nat) (b : Block) : Block × List Byte :=
  let comp := match b.latch.proof with
    | some p => if p.comparators then compPass % 65536 % 2 ^ b.nSeg else 0
    | none => 0
  let by_ := match b.latch.proof with
    | some p => p.session
    | none => 0
  let pass := b.latch.verdicts true
  let fail := b.latch.verdicts false
  let b1 := appendChange by_ 5 (pass + 256 * fail + 65536 * comp) (b.onLatch fun l => { l with state := .recovery, proof := none })
  ((note .safeTestEnd noArg [pass, fail, comp] b1).touch (latchTiles ++ floorTiles), leBytes 1 pass ++ leBytes 1 fail ++ leBytes 2 comp)

/-- The requester has an open authorisation window (R315). -/
def Block.windowOpen (b : Block) (src : Src) : Bool := b.latch.windows.any fun w => w.1 == src.index && decide (b.sys.now < w.2 + 60 * secT)

/-- SAFE_TEST (R287, R309, R315, R320); `compPass` are the segments whose comparators all tripped in the comparator test. -/
def ruleSafeTest (src : Src) (act opt compPass : Nat) (b : Block) : HostRule :=
  { opcode := 0x090A, owner := true
    stateOk := if act = 1 then
        (decide (b.latch.state = .armed) && decide (b.sys.mstate = .park) && !b.contactorOn) || decide (b.latch.state = .acted) || decide (b.latch.state = .recovery)
      else decide (b.latch.state = .test)
    param := need (decide (act ≤ 1 ∧ opt ≤ 1))
    act := fun b =>
      if act = 0 then (let r := endProof compPass b; complete src .ok r.2 r.1)
      else if b.windowOpen src then complete src .ok [] (beginProof (opt == 1) src b)
      else complete src .denied [] b }

def execSafeTest (src : Src) (act opt compPass : Nat) (s : State) := effect (host src (ruleSafeTest src act opt compPass)) s

/-- SAFE_TEST_TIMEOUT (R287): 30 min in TEST. -/
def doSafeTestTimeout (compPass : Nat) (b : Block) : Block :=
  match b.latch.proof with
  | none => b
  | some p => if b.latch.state = .test then (endProof compPass (b.at (p.begun + 1800 * secT))).1 else b

def execSafeTestTimeout (compPass : Nat) (s : State) := effect (doSafeTestTimeout compPass) s

/-! ### Authorisation (R313 to R316) -/

/-- Close the authorisation windows of a session (R315). -/
def closeWindow (i : Nat) (b : Block) : Block := (b.onLatch fun l => { l with windows := l.windows.filter fun w => w.1 != i }).touch [0x500]

/-- Sixteen bytes of the module's random source (log entry 3). -/
def Block.random16 (b : Block) : List Byte := leBytes 8 b.draw.toNat ++ leBytes 8 b.drew.draw.toNat

/-- A lockout runs. -/
def Block.locked (b : Block) : Bool := match b.latch.lockEnd with
  | some t => decide (b.sys.now < t)
  | none => false

/-- SAFE_GET_NONCE (R315, R316). -/
def ruleSafeGetNonce (src : Src) (b : Block) : HostRule :=
  { opcode := 0x0904, owner := true, stateOk := b.latch.pwSet, param := none
    act := fun b =>
      if b.locked then complete src .busy [] b
      else
        let n := b.random16
        let b1 := closeWindow src.index b.drew.drew
        let b2 := b1.onLatch fun l => { l with nonces := (src.index, n, b.sys.now) :: l.nonces.filter fun x => x.1 != src.index }
        complete src .ok (b.latch.salt ++ leBytes 4 b.latch.iter ++ n) b2 }

def execSafeGetNonce (src : Src) (s : State) := effect (host src (ruleSafeGetNonce src)) s

/-- The lockout in s that the failure count starts: 60 s at the fifth, doubling to 3,600 s (R316). -/
def lockoutSeconds (fails : Nat) : Nat := min 3600 (60 * 2 ^ (min fails 11 - 5))

/-- A failed authorisation: AUTH_FAIL, FAILS, and from the fifth on a lockout with its change-log entry (R316). -/
def authFailed (src : Src) (b : Block) : Block :=
  let n := satAdd 255 b.latch.fails 1
  let b1 := note .authFail src.index [n] (b.onLatch fun l => { l with fails := n })
  if n < 5 then b1
  else
    let s := lockoutSeconds n
    (appendChange src.index 4 s (b1.onLatch fun l => { l with
      lockUntil := (b1.optime + 1000 * s) % 4294967296
      lockEnd := some (b1.sys.now + s * secT) })).touch [0x504]

/-- SAFE_AUTH (R315, R316): the nonce is good for one attempt. -/
def ruleSafeAuth (src : Src) (mac : List Byte) (b : Block) : HostRule :=
  { opcode := 0x0905, owner := true, stateOk := b.latch.pwSet, param := need (decide (mac.length = 32))
    act := fun b =>
      if b.locked then complete src .busy [] b
      else match b.latch.nonces.find? fun x => x.1 == src.index && decide (b.sys.now < x.2.2 + 60 * secT) with
        | none => complete src .badParam [] b
        | some x =>
          let b1 := b.onLatch fun l => { l with nonces := l.nonces.filter fun y => y.1 != src.index }
          if hmac256 b.latch.key (x.2.1 ++ leBytes 1 src.index) = mac then
            (complete src .ok [] (b1.onLatch fun l => { l with fails := 0, windows := (src.index, b.sys.now) :: l.windows.filter fun w => w.1 != src.index })).touch
              [0x500, 0x504]
          else (complete src .denied [] (authFailed src b1)).touch [0x504] }

def execSafeAuth (src : Src) (mac : List Byte) (s : State) := effect (host src (ruleSafeAuth src mac)) s

/-- AUTH_WINDOW_EXPIRY (R315): the 60 s of a session's window end. -/
def doAuthWindowExpiry (i : Nat) (b : Block) : Block :=
  match b.latch.windows.find? fun w => w.1 == i with
  | none => b
  | some w => closeWindow i (b.at (w.2 + 60 * secT))

def execAuthWindowExpiry (session : Fin 4) (s : State) := effect (doAuthWindowExpiry session) s

/-- AUTH_LOCKOUT_END (R316): FAILS stands. -/
def doAuthLockoutEnd (b : Block) : Block :=
  match b.latch.lockEnd with
  | none => b
  | some t => ((b.at t).onLatch fun l => { l with lockEnd := none }).touch [0x504]

def execAuthLockoutEnd (s : State) := effect doAuthLockoutEnd s

/-- SAFE_SET_PASSWORD (R313, R314): with none set, only in PARK with SRST held high; with one set, within a window. -/
def ruleSafeSetPassword (src : Src) (chars : List Byte) (b : Block) : HostRule :=
  { opcode := 0x0906, owner := true
    stateOk := b.latch.pwSet || (decide (b.sys.mstate = .park) && b.latch.srst)
    param := need (decide (8 ≤ chars.length ∧ chars.length ≤ 32) && chars.all fun c => decide (0x20 ≤ c.toNat ∧ c.toNat ≤ 0x7E))
    act := fun b =>
      if b.latch.pwSet && !b.windowOpen src then complete src .denied [] b
      else
        let salt := b.random16
        let kind := if b.latch.pwSet then 3 else 2
        let b1 := b.drew.drew.onLatch fun l => { l with pwSet := true, iter := 100000, salt := salt, key := pbkdf2 chars salt 100000 }
        (complete src .ok [] (appendChange src.index kind 0 b1)).touch [0x500, 0x504] }

def execSafeSetPassword (src : Src) (chars : List Byte) (s : State) := effect (host src (ruleSafeSetPassword src chars)) s

/-! ### Floor record (R310 to R312) -/

/-- A field of the record lies within a range, in steps from its minimum. -/
def fieldIn (r : List Byte) (o n lo hi step : Nat) : Bool :=
  let v := leField r o n
  decide (lo ≤ v ∧ v ≤ hi) && (v - lo) % step == 0

/-- Check 1: FORMAT, LENGTH, reserved bytes. -/
def floorForm (r : List Byte) : Bool :=
  leField r 0 2 == 1 && leField r 2 2 == 256 && leField r 41 3 == 0 && ((r.drop 185).take 67).all fun x => x == 0#8

/-- Check 4: every field within its range (R93, R224, R310). -/
def floorRanges (r : List Byte) : Bool :=
  fieldIn r 8 4 2500000 5000000 2000 && fieldIn r 12 4 500000 4000000 2000 && fieldIn r 16 4 500000000 3000000000 1 && fieldIn r 20 4 0 1250000 1
    && fieldIn r 24 4 20000 1000000 1 && fieldIn r 28 4 5000 5000000 1 && fieldIn r 32 4 5000 5000000 1 && fieldIn r 36 2 100 2000 1 && fieldIn r 38 1 5 50 1
    && fieldIn r 39 1 30 75 1 && fieldIn r 40 1 3 20 1 && fieldIn r 100 4 100000 1500000 1 && fieldIn r 104 4 100000000 1800000000 1 && fieldIn r 108 2 3000 8000 1
    && fieldIn r 110 1 0 1 1 && fieldIn r 111 1 0 2 1 && fieldIn r 112 4 20000 2000000 1 && decide (leField r 116 4 ≤ 5000000) && fieldIn r 184 1 0 7 1

/-- Check 5: the fields against each other. -/
def floorOrder (r : List Byte) : Bool :=
  decide (leField r 12 4 + 300000 ≤ leField r 8 4) && decide (leField r 28 4 < leField r 32 4) && decide (leField r 112 4 ≤ leField r 116 4)
    && (List.range 7).all fun i => decide (floorCoefLo r i ≤ floorCoefHi r i)

/-- Check 6: one INPUTS entry (R311, R312). -/
def floorEntry (r : List Byte) (i : Nat) : Bool :=
  let o := 120 + 8 * i
  let func := leField r o 1
  let a := leField r (o + 1) 1 % 16
  let c := leField r (o + 1) 1 / 16
  let act := leField r (o + 6) 1
  decide (func ≤ 3 ∧ a ≤ 4 ∧ c ≤ 4) && fieldIn r (o + 2) 1 5 25 1 && leField r (o + 3) 1 == 0 && fieldIn r (o + 4) 2 10 500 1 && leField r (o + 7) 1 == 0
    && (a != c || a == 0) && (if func = 3 then act == 1 || act == 2 else act == 0)

/-- Check 8: the settings in force lie within the new bounds (R312). -/
def Block.settingsIn (b : Block) (r : List Byte) : Bool :=
  let vmax : Int := leField r 16 4 / 1000
  decide (leField r 36 2 ≤ b.cnv.set.deadTime) && decide (b.cnv.set.vTarget ≤ vmax) && decide (b.loop.set.imax ≤ leField r 20 4)
    && decide (b.loop.set.vdcMid + b.loop.set.vdcSpan ≤ vmax)
    && b.cnv.phases.all fun p => (List.range 7).all fun i => decide (floorCoefLo r i ≤ p.comp.coef.getD i 0) && decide (p.comp.coef.getD i 0 ≤ floorCoefHi r i)

/-- The first failing check of R312 and its status. -/
def Block.floorCheck (b : Block) (r : List Byte) : Option (Nat × Status) :=
  if !floorForm r then some (1, .badParam)
  else if leField r 252 4 ≠ crc32c (r.take 252) then some (2, .badParam)
  else if floorGen r ≠ (floorGen b.floor + 1) % 4294967296 then some (3, .badParam)
  else if !floorRanges r then some (4, .denied)
  else if !floorOrder r then some (5, .badParam)
  else if !((List.range 8).all (floorEntry r)) then some (6, .badParam)
  else if leField r 120 1 ≠ 1 then some (7, .badParam)
  else if !b.settingsIn r then some (8, .denied)
  else none

/-- Two records differ in a run of bytes. -/
def differIn (r q : List Byte) (o n : Nat) : Bool := (r.drop o).take n != (q.drop o).take n

/-- DETAIL of kinds 1 and 6: the groups in which a record differs from the one before (R317). -/
def floorDetail (r q : List Byte) : Nat :=
  maskOf [differIn r q 8 8, differIn r q 16 25, differIn r q 44 56, differIn r q 100 10, differIn r q 110 1 || differIn r q 112 8, differIn r q 111 1,
    differIn r q 120 64, differIn r q 184 1]

/-- Put a record, valid or cut, into the copy not in force. -/
def storeFloor (r : List Byte) (ok : Bool) (b : Block) : Block := b.onLatch fun l =>
  if l.aInForce then { l with copyB := r, okB := ok } else { l with copyA := r, okA := ok }

/-- The Latch reloads from the record now in force: inputs, isolation monitor, output counts. -/
def reloadFloor (b : Block) : Block :=
  let b1 := if b.isoEn then b else b.onLatch fun l => { l with rIso := none, vPos := none, vNeg := none, isoLow := 0, isoWarned := false, isoFirst := none }
  (retime (reloadInputs b1)).touch floorTiles

/-- The commit of R312, steps 1 to 4. -/
def commitFloor (src : Src) (r : List Byte) (how : FloorOutcome) (b : Block) : Block :=
  let gen := floorGen r
  let detail := floorDetail r b.floor
  match how with
  | .written =>
    let b1 := appendChange src.index 1 detail (reloadFloor (storeFloor r true b))
    complete src .ok (leBytes 1 0 ++ leBytes 4 gen) (note .floorWrite noArg [gen] b1)
  | .failed => complete src .fault (leBytes 1 0 ++ leBytes 4 (floorGen b.floor)) (note .floorWriteFail noArg [] (storeFloor r false b))
  | .cutBefore => storeFloor r false b
  | .cutAfter => (storeFloor r true b).onLatch fun l => { l with commitOpen := some detail }

/-- SAFE_FLOOR_WRITE (R312). -/
def ruleSafeFloorWrite (src : Src) (record : List Byte) (how : FloorOutcome) (b : Block) : HostRule :=
  { opcode := 0x0907, owner := true
    stateOk := (decide (b.latch.state = .armed) && decide (b.sys.mstate = .park)) || decide (b.latch.state = .acted) || decide (b.latch.state = .recovery)
    param := need (decide (record.length = 256))
    act := fun b =>
      if !b.windowOpen src then complete src .denied [] b
      else match b.floorCheck record with
        | some f => complete src f.2 (leBytes 1 f.1 ++ leBytes 4 (floorGen b.floor)) b
        | none => commitFloor src record how b }

def execSafeFloorWrite (src : Src) (record : List Byte) (how : FloorOutcome) (s : State) := effect (host src (ruleSafeFloorWrite src record how)) s

/-- SAFE_FLOOR_READ (R287, R320): the record in force; FAULT with no valid copy. -/
def ruleSafeFloorRead (src : Src) (_b : Block) : HostRule :=
  { opcode := 0x0908, owner := false, stateOk := true, param := none
    act := fun b => complete src (if b.latch.floorOk then .ok else .fault) b.floor b }

def execSafeFloorRead (src : Src) (s : State) := effect (host src (ruleSafeFloorRead src)) s

/-- SAFE_LOG_READ (R317, R320): the entries held among `count` from SEQ `first`. -/
def ruleSafeLogRead (src : Src) (first count : Nat) (_b : Block) : HostRule :=
  { opcode := 0x0909, owner := false, stateOk := true, param := need (decide (1 ≤ count ∧ count ≤ 16))
    act := fun b => complete src .ok ((b.latch.changes.reverse.filter fun e => decide (first ≤ e.seq ∧ e.seq < first + count)).flatMap (·.bytes)) b }

def execSafeLogRead (src : Src) (first count : Nat) (s : State) := effect (host src (ruleSafeLogRead src first count)) s

end Sys2Proof.Machine
end

