-- ==== Sys2Proof/Machine/Net.lean ====
section
/-! DEFINITION. Ethernet, PRP and PTP (R375 to R389, R401 to R403, R406, R407). -/

namespace Sys2Proof.Machine

/-- Tiles of the ports and of PTP. -/
def netTiles : List Nat := [0x50]
def ptpTiles : List Nat := [0x51]

/-- N0 is in service (R60), and not halted by the debug port (R474). -/
def Block.n0Up (b : Block) : Bool := b.engIn 12 && !(b.sec.halted.getD 12 false)

/-- Change one cage, the PTP clock, one PTP port. -/
def onCage (c : Nat) (f : Cage → Cage) (b : Block) : Block := (b.onNet fun n => { n with cages := modAt n.cages c f }).touch netTiles
def onPtp (f : PtpPart → PtpPart) (b : Block) : Block := (b.onNet fun n => { n with ptp := f n.ptp }).touch ptpTiles
def onPort (p : Nat) (f : PtpPort → PtpPort) (b : Block) : Block := onPtp (fun x => { x with ports := modAt x.ports p f }) b

/-- A message leaves N0. -/
def sendNet (o : NetOut) (b : Block) : Block := b.onNet fun n => { n with out := n.out ++ [o] }

/-! ### Ports and LANs (R375 to R379) -/

/-- SFP_POLL (R375): every 1 s the identity and diagnostics of a cage. -/
def doSfpPoll (c : Nat) (present supported txFault alarm los : Bool) (b : Block) : Block :=
  match b.net.cages[c]? with
  | none => b
  | some g =>
    let b1 := b.at (multipleFrom secT b.sys.now)
    let bad := present && (!supported || txFault || alarm || los)
    let b2 := onCage c (fun g => { g with present := present, fault := bad, unusable := present && !supported }) b1
    if present && (txFault || alarm || los) && !g.fault then note .sfpFault c [] b2 else b2

def execSfpPoll (cage : Fin 2) (present supported txFault alarm los : Bool) (s : State) := effect (doSfpPoll cage present supported txFault alarm los) s

/-- A LAN leaves service (R378). -/
def lanLeave (c : Nat) (b : Block) : Block :=
  match b.net.cages[c]? with
  | none => b
  | some g =>
    if g.up = false then b
    else
      let b1 := note .prpLanLost c [] (onCage c (fun g => { g with up := false }) b)
      if b1.net.cages.any fun g => g.up then b1
      else note .netAllLost noArg [] ((b1.onNet fun n => { n with allLost := true }).touch netTiles)

/-- LAN_LINK_LOST (R378): 10 ms without a Clause 37 link, counted from `count`. -/
def doLanLinkLost (c count : Nat) (b : Block) : Block := lanLeave c (onCage c (fun g => { g with link := false }) (b.at (count + 10 * msT)))

def execLanLinkLost (cage : Fin 2) (count : Nat) (s : State) := effect (doLanLinkLost cage count) s

/-- LAN_RCT_TIMEOUT (R378): in NETMODE 0, 6 s without a valid RCT while the other LAN has had one. -/
def doLanRctTimeout (c : Nat) (b : Block) : Block :=
  match b.net.cages[c]?, b.net.cages[1 - c]? with
  | some g, some o =>
    let due := g.lastRct.getD 0 + 6 * secT
    (match o.lastRct with
      | some t => if b.net.ip.mode = 0 ∧ g.up = true ∧ g.lastRct.getD 0 < t then lanLeave c (b.at due) else b
      | none => b)
  | _, _ => b

def execLanRctTimeout (cage : Fin 2) (s : State) := effect (doLanRctTimeout cage) s

/-- LAN_RETURN (R378): 2 s of link with valid frames. -/
def doLanReturn (c count : Nat) (b : Block) : Block :=
  match b.net.cages[c]? with
  | none => b
  | some g =>
    let b1 := b.at count
    if g.up ∨ g.unusable = true then b1
    else note .prpLanBack c [] ((onCage c (fun g => { g with link := true, up := true }) b1).onNet fun n => { n with allLost := false })

def execLanReturn (cage : Fin 2) (count : Nat) (s : State) := effect (doLanReturn cage count) s

/-- A frame that N0 discards (R379). -/
def dropFrame (b : Block) : Block := (b.onNet fun n => { n with rxDrop := (n.rxDrop + 1) % 4294967296 }).touch netTiles

/-- What N0 does with a frame for it (R379): ARP and echo are answered, at most 64 echoes in a second; a datagram of port 17423 and a PTP message act as their own
rows; the rest is discarded. -/
def dispatchFrame (c : Nat) (f : EthFrame) (b : Block) : Block :=
  match f.kind with
  | .arp target sender => if target = b.net.ip.addr then sendNet (.arpReply c sender) b else dropFrame b
  | .echo dst src =>
    let recent := b.net.echoes.filter fun t => b.sys.now < t + secT
    if dst = b.net.ip.addr ∧ recent.length < 64 then sendNet (.echoReply c src) (b.onNet fun n => { n with echoes := b.sys.now :: recent }) else dropFrame b
  | .ixras dst _ _ fragment => if dst = b.net.ip.addr ∧ fragment = false then b else dropFrame b
  | .ptp => b
  | .igmp => b
  | .supervision => b
  | .other => dropFrame b

/-- The frame's VLAN is accepted (R379). -/
def Block.vlanOk (b : Block) (f : EthFrame) : Bool := match f.vlan with
  | none => true
  | some v => b.net.ip.vlan != 0 && v == b.net.ip.vlan

/-- PRP duplicate discard (R377): the second copy of a frame from the other LAN is counted and goes no further. -/
def prpReceive (c : Nat) (f : EthFrame) (b : Block) : Block :=
  let nodes := insertKey f.mac b.sys.now b.net.nodes
  let b1 := (b.onNet fun n => { n with nodes := if nodes.length ≤ 256 then nodes else n.nodes }).touch netTiles
  match f.rct with
  | none => dispatchFrame c f b1
  | some (seq, lan) =>
    let b2 := if lan = c then onCage c (fun g => { g with lastRct := some b.sys.now }) b1
      else b1.onNet fun n => { n with wrongLan := (n.wrongLan + 1) % 4294967296 }
    match b2.net.dups.find? fun d => d.mac == f.mac && d.seq == seq with
    | some _ => b2.onNet fun n => { n with
        dupDisc := (n.dupDisc + 1) % 4294967296
        dups := n.dups.map fun d => if d.mac = f.mac ∧ d.seq = seq then { d with onA := d.onA || c == 0, onB := d.onB || c == 1 } else d }
    | none => dispatchFrame c f (b2.onNet fun n => { n with
        dups := n.dups ++ [{ mac := f.mac, seq := seq, onA := c == 0, onB := c == 1, count := b.sys.now }] })

/-- The frame may pass cage 1 in split mode (R376). -/
def EthKind.splitOk : EthKind → Bool
  | .arp _ _ => true
  | .echo _ _ => true
  | .ptp => true
  | _ => false

/-- ETH_FRAME (R376, R377, R379). -/
def doEthFrame (c : Nat) (f : EthFrame) (count : Nat) (b : Block) : Block :=
  let b0 := b.at count
  match b0.net.cages[c]? with
  | none => b0
  | some g =>
    if g.unusable ∨ b0.n0Up = false then b0
    else
      let b1 := onCage c (fun g => { g with link := true }) b0
      if 9030 < f.len ∨ b1.vlanOk f = false then dropFrame b1
      else if b1.net.ip.mode = 1 then (if c = 1 ∧ f.kind.splitOk = false then dropFrame b1 else dispatchFrame c f b1)
      else if f.kind = .ptp then b1
      else prpReceive c f b1

def execEthFrame (cage : Fin 2) (f : EthFrame) (count : Nat) (s : State) := effect (doEthFrame cage f count) s

/-- PRP_SUPERVISION (R377): every 2 s, on both LANs. -/
def doPrpSupervision (b : Block) : Block :=
  let b1 := b.at (multipleFrom (2 * secT) b.sys.now)
  if b1.net.ip.mode ≠ 0 ∨ b1.n0Up = false then b1
  else
    let s := b1.net.supSeq
    (sendNet (.supervision 1 s) (sendNet (.supervision 0 s) b1)).onNet fun n => { n with supSeq := (n.supSeq + 1) % 65536 }

def execPrpSupervision (s : State) := effect doPrpSupervision s

/-- PRP_ENTRY_EXPIRY (R377, R402): the oldest duplicate-discard entry at 400 ms, or the oldest node at 60 s; a frame heard on one LAN only counts there. -/
def doPrpEntryExpiry (node : Bool) (b : Block) : Block :=
  if node then
    match minOf? (b.net.nodes.map (·.2)) with
    | none => b
    | some t => ((b.at (t + 60 * secT)).onNet fun n => { n with nodes := n.nodes.filter fun x => x.2 != t }).touch netTiles
  else match b.net.dups with
    | [] => b
    | d :: _ => ((b.at (d.count + 400 * msT)).onNet fun n => { n with
        dups := n.dups.tail
        uniqA := if d.onA && !d.onB then (n.uniqA + 1) % 4294967296 else n.uniqA
        uniqB := if d.onB && !d.onA then (n.uniqB + 1) % 4294967296 else n.uniqB }).touch netTiles

def execPrpEntryExpiry (node : Bool) (s : State) := effect (doPrpEntryExpiry node) s

/-! ### The PTP clock (R380 to R387) -/

/-- The port's announce and sync intervals in ticks (R383). -/
def PtpSet.annTicks (x : PtpSet) : Nat := if x.profile = 0 then 2 * secT else secT
def PtpSet.syncTicks (x : PtpSet) : Nat :=
  if x.profile = 1 then secT else if 0 ≤ x.logSync then secT * 2 ^ x.logSync.toNat else secT / 2 ^ (-x.logSync).toNat

/-- GM: the module's own clock is selected, PTP time is valid and SLAVE_ONLY is clear (R385). -/
def judgeGm (b : Block) : Block := onPtp (fun x => { x with
  gm := x.set.en && x.slave.isNone && x.valid && !x.set.slaveOnly && x.ports.any fun p => decide (p.st = .master) }) b

/-- LOCKED sets or clears, with its event (R385, R407). -/
def setLocked (on : Bool) (b : Block) : Block :=
  if b.net.ptp.locked = on then b
  else note (if on then .ptpLock else .ptpUnlock) noArg [] (onPtp (fun x => { x with locked := on, inRun := 0, outRun := 0 }) b)

/-- A step of the PTP clock by `d` ns: TIME_STEP with the time before; LOCKED clears (R386, R387). -/
def ptpStep (d : Int) (b : Block) : Block :=
  let t := b.ptpTime
  let b1 := onPtp (fun x => { x with
    offset := x.offset + d
    valid := true
    steps := (x.steps + 1) % 4294967296
    lastStep := clampI (-2147483648) 2147483647 d
    stepRun := 0
    inRun := 0
    outRun := 0 }) b
  judgeGm (setLocked false (note .timeStep noArg [t.1 % 4294967296, t.1 / 4294967296, t.2] b1))

/-- FADJ of the next moment: the spec gives its limits and no law, so the value is free within ±100 ppm and 10 ppm per second (R381, R386; log entry 38). -/
def steer (b : Block) : Block :=
  let lim : Int := 10000 * ((b.sys.now - b.net.ptp.fadjAt : Nat) : Int) / secT
  let want := clampI (-100000) 100000 b.draw.toInt
  onPtp (fun x => { x with fadj := clampI (x.fadj - lim) (x.fadj + lim) want, fadjAt := b.sys.now }) b.drew

/-- The slave port reaches SLAVE: PTP time is valid and HOLD clears (R382, R385). -/
def reachSlave (p : Nat) (b : Block) : Block :=
  onPort p (fun x => { x with st := .slave }) (onPtp (fun x => { x with hold := false, valid := true }) b)

/-- A measurement on the slave port (R385, R386). -/
def measureSlave (p : Nat) (off : Int) (b : Block) : Block :=
  let x := b.net.ptp
  let mag := off.natAbs
  let uncal := match x.ports[p]? with
    | some q => decide (q.st = .uncalibrated)
    | none => false
  let big := decide (x.set.stepThr ≠ 0) && decide (x.set.stepThr < mag)
  let b1 := steer (onPtp (fun x => { x with
    lastOffset := some off
    inRun := if mag ≤ x.set.lockThr then min 16 (x.inRun + 1) else 0
    outRun := if 4 * x.set.lockThr < mag then min 3 (x.outRun + 1) else 0
    stepRun := if big then min 3 (x.stepRun + 1) else 0
    first := x.first && !uncal }) b)
  if big ∧ ((uncal = true ∧ x.first = true) ∨ (uncal = false ∧ 3 ≤ x.stepRun + 1)) then
    let b2 := ptpStep (-off) b1
    if uncal then b2 else onPort p (fun q => { q with st := .uncalibrated }) b2
  else
    let b2 := if b1.net.ptp.locked ∧ 3 ≤ b1.net.ptp.outRun then setLocked false b1 else b1
    if 16 ≤ b2.net.ptp.inRun then
      let b3 := setLocked true b2
      if uncal then reachSlave p b3 else b3
    else b2

/-- A measurement of a port: the slave port's drives the servo, another's is tracked (R384). -/
def ptpMeasure (p : Nat) (b : Block) : Block :=
  match b.net.ptp.ports[p]? with
  | none => b
  | some q =>
    let off := q.t2 - q.t1 - q.mpd
    let b1 := onPort p (fun q => { q with offset := some off }) b
    if b.net.ptp.slave = some p then measureSlave p off b1 else b1

/-- The comparison of the best master clock algorithm of IEEE 1588-2019 (R383, log entry 12): the order of the fields when the grandmasters differ, steps removed and
sender when they are one. -/
def Announce.better (a c : Announce) : Bool :=
  if a.gm = c.gm then decide (a.steps < c.steps) || (a.steps == c.steps && decide (a.sender < c.sender))
  else
    let k (x : Announce) : List Nat := [x.prio1, x.clockClass, x.accuracy, x.variance, x.prio2, x.gm]
    decide (k a < k c)

/-- The module's own data set (R384). -/
def Block.ownClock (b : Block) : Announce :=
  { gm := Config.clockIdentity, prio1 := b.net.ptp.set.prio1, clockClass := 248, accuracy := 0xFE, variance := 0xFFFF, prio2 := b.net.ptp.set.prio2, steps := 0,
    sender := Config.clockIdentity, utc := b.net.ptp.utc }

/-- PTP runs on the port: both cages in NETMODE 0 and as a boundary clock, cage 0 alone otherwise (R384). -/
def Block.portRuns (b : Block) (p : Nat) : Bool := b.net.ptp.set.en && (p == 0 || b.net.ip.mode == 0 || b.net.ptp.set.role == 1)

/-- The port with the best announce, cage 0 on a tie (R384). -/
def Block.bestPort (b : Block) : Option (Nat × Announce) :=
  let at_ (p : Nat) : Option Announce := if b.portRuns p then (b.net.ptp.ports[p]?).bind (·.ann) else none
  match at_ 0, at_ 1 with
  | some a, some c => if c.better a then some (1, c) else some (0, a)
  | some a, none => some (0, a)
  | none, some c => some (1, c)
  | none, none => none

/-- The grandmaster in force: PTP_GM_CHANGE gives old and new (R407). -/
def setGm (a : Announce) (b : Block) : Block :=
  let old := b.net.ptp.gmId
  let b1 := onPtp (fun x => { x with gmId := a.gm, gmClass := a.clockClass, utc := a.utc }) b
  if old = a.gm then b1 else note .ptpGmChange noArg [old % 4294967296, old / 4294967296, a.gm % 4294967296, a.gm / 4294967296] b1

/-- Every running port takes a state. -/
def setPorts (st : Nat → PtpState) (b : Block) : Block := onPtp (fun x => { x with
  ports := x.ports.mapIdx fun p q => { q with st := if b.portRuns p then st p else .disabled } }) b

/-- The selection among the announces held (R383 to R385): `fresh` makes a new slave port start in UNCALIBRATED. -/
def selectMaster (fresh alone : Bool) (b : Block) : Block :=
  let x := b.net.ptp
  match b.bestPort with
  | some (p, a) =>
    if x.set.slaveOnly || a.better b.ownClock then
      let was := x.slave.bind fun o => (x.ports[o]?).map (·.st)
      let st : PtpState := match x.slave, was with
        | some o, some s => if o = p then s else if fresh then .uncalibrated else s
        | _, _ => .uncalibrated
      let other : PtpState := if x.set.role = 1 && !x.set.slaveOnly then .master else .passive
      let b1 := setPorts (fun q => if q = p then st else other) b
      judgeGm (setGm a (onPtp (fun y => { y with slave := some p, first := y.first || x.slave.isNone }) b1))
    else
      let b1 := setPorts (fun _ => .master) (onPtp (fun y => { y with slave := none }) b)
      judgeGm (setGm b.ownClock b1)
  | none =>
    if x.set.slaveOnly ∨ alone = false then judgeGm (setPorts (fun _ => .listening) (onPtp (fun y => { y with slave := none }) b))
    else
      let b1 := setPorts (fun _ => .master) (onPtp (fun y => { y with slave := none }) b)
      judgeGm (setGm b.ownClock b1)

/-- PTP_MESSAGE (R380, R383 to R386): received at `rx` ns of the count; a message of another domain or transport, or of the delay mechanism not in use, is ignored. -/
def takePtp (p : Nat) (msg : PtpMsg) (rx : Int) (b : Block) : Block :=
  match b.net.ptp.ports[p]? with
  | none => b
  | some q =>
    let prof := b.net.ptp.set.profile
    let fromParent (sender : Nat) : Bool := (q.ann.map (·.sender)) == some sender
    let now := b.sys.now
    match msg with
    | .announce a => selectMaster false false (onPort p (fun q => { q with ann := some a, annAt := now }) b)
    | .sync sender seq twoStep origin corr =>
      if !fromParent sender then b
      else if twoStep then onPort p (fun q => { q with sync := some (sender, seq, rx - corr) }) b
      else ptpMeasure p (onPort p (fun q => { q with t1 := origin, t2 := rx - corr, syncSeen := true, syncAt := now, sync := none }) b)
    | .followUp sender seq origin corr =>
      (match q.sync with
        | some (s, n, t) => if s = sender ∧ n = seq then ptpMeasure p (onPort p (fun q => { q with t1 := origin + corr, t2 := t, syncSeen := true, syncAt := now, sync := none }) b) else b
        | none => b)
    | .delayReq _ seq => if q.st = .master ∧ prof = 0 then sendNet (.ptp p 9 seq) b else b
    | .delayResp seq recv corr =>
      (match q.reqOut, q.reqTx with
        | some s, some t3 => if s = seq ∧ prof = 0 ∧ q.syncSeen = true then
            onPort p (fun q => { q with mpd := max 0 (((q.t2 - q.t1) + (recv - corr - t3)) / 2), reqOut := none, reqTx := none }) b else b
        | _, _ => b)
    | .pdelayReq _ seq => if prof = 1 then sendNet (.ptp p 10 seq) (sendNet (.ptp p 3 seq) b) else b
    | .pdelayResp seq twoStep recv corr =>
      (match q.reqOut, q.reqTx with
        | some s, some t3 =>
          if s ≠ seq ∨ prof ≠ 1 then b
          else if twoStep then onPort p (fun q => { q with pResp := some (rx, recv + corr) }) b
          else onPort p (fun q => { q with mpd := max 0 ((rx - t3 - corr) / 2), reqOut := none, reqTx := none }) b
        | _, _ => b)
    | .pdelayRespFollowUp seq origin corr =>
      (match q.reqOut, q.reqTx, q.pResp with
        | some s, some t3, some (t4, t2) => if s = seq ∧ prof = 1 then
            onPort p (fun q => { q with mpd := max 0 (((t4 - t3) - (origin + corr - t2)) / 2), reqOut := none, reqTx := none, pResp := none }) b else b
        | _, _, _ => b)
    | .other => b

def doPtpMessage (p domain : Nat) (ether : Bool) (msg : PtpMsg) (rxNs : Nat) (b : Block) : Block :=
  let b1 := b.at (rxNs / 10)
  let x := b1.net.ptp
  if !b1.portRuns p || !b1.n0Up || x.set.domain != domain || (ether != (x.set.profile == 1)) then b1
  else takePtp p msg ((rxNs : Int) + x.offset) b1

def execPtpMessage (port : Fin 2) (domain : Nat) (ether : Bool) (msg : PtpMsg) (rxNs : Nat) (s : State) := effect (doPtpMessage port domain ether msg rxNs) s

/-- PTP_TX_TIMER (R383, R384): the delay or peer-delay request of a port that follows a master, announce and sync of a master port. `what`: 0 request, 1 announce,
2 sync. -/
def doPtpTxTimer (p what count : Nat) (b : Block) : Block :=
  let b1 := b.at count
  match b1.net.ptp.ports[p]? with
  | none => b1
  | some q =>
    if !b1.portRuns p || !b1.n0Up then b1
    else
      let prof := b1.net.ptp.set.profile
      let follows := decide (q.st = .uncalibrated) || decide (q.st = .slave) || decide (q.st = .passive)
      if what = 0 ∧ (prof = 1 ∨ follows = true) then
        let s := (q.reqSeq + 1) % 65536
        onPort p (fun q => { q with reqSeq := s, reqOut := some s, reqTx := none, pResp := none }) (sendNet (.ptp p (if prof = 1 then 2 else 1) s) b1)
      else if what = 1 ∧ q.st = .master then onPort p (fun q => { q with seqAnn := (q.seqAnn + 1) % 65536 }) (sendNet (.ptp p 11 q.seqAnn) b1)
      else if what = 2 ∧ q.st = .master then
        onPort p (fun q => { q with seqSync := (q.seqSync + 1) % 65536, syncOut := some q.seqSync }) (sendNet (.ptp p 0 q.seqSync) b1)
      else b1

def execPtpTxTimer (port : Fin 2) (what : Fin 3) (count : Nat) (s : State) := effect (doPtpTxTimer port what count) s

/-- HOLD sets (R385). -/
def setHold (b : Block) : Block :=
  if b.net.ptp.hold then b else note .ptpHoldover noArg [] (onPtp (fun x => { x with hold := true, holdAt := b.sys.now }) b)

/-- PTP_SYNC_TIMEOUT (R385): three sync intervals without a sync, or the announce receipt timeout, on the slave port, or on a listening one. -/
def doPtpSyncTimeout (announce : Bool) (b : Block) : Block :=
  let x := b.net.ptp
  match x.slave with
  | some p =>
    (match x.ports[p]? with
      | none => b
      | some q =>
        if announce then
          selectMaster true true (setHold (onPort p (fun q => { q with ann := none, sync := none }) (b.at (q.annAt + 3 * x.set.annTicks))))
        else
          setHold (onPort p (fun q => { q with st := .uncalibrated, sync := none }) (b.at (q.syncAt + 3 * x.set.syncTicks))))
  | none => if announce ∧ x.set.en = true then selectMaster true true b else b

def execPtpSyncTimeout (announce : Bool) (s : State) := effect (doPtpSyncTimeout announce) s

/-- PTP_HOLD_UNLOCK (R385): 5 s after HOLD sets. -/
def doPtpHoldUnlock (b : Block) : Block :=
  if b.net.ptp.hold ∧ b.net.ptp.locked = true then setLocked false (b.at (b.net.ptp.holdAt + 5 * secT)) else b

def execPtpHoldUnlock (s : State) := effect doPtpHoldUnlock s

/-! ### Transmit timestamps (R389) -/

/-- Write an entry of a cage's queue, or lose it. -/
def stampQueue (c id : Nat) (t : Nat × Nat) (b : Block) : Block :=
  match b.net.ptp.queues[c]? with
  | none => b
  | some g =>
    if g.entries.length < 8 then
      onPtp (fun x => { x with queues := modAt x.queues c fun g =>
        { g with entries := g.entries ++ [{ id := id, port := c, ovfb := g.gap, sec := t.1, ns := t.2 }], gap := false } }) b
    else
      let b1 := onPtp (fun x => { x with queues := modAt x.queues c fun g => { g with ovf := true, gap := true, lost := satAdd 65535 g.lost 1 } }) b
      if g.ovf then b1 else note .txtsOverflow c [] b1

/-- TX_TIMESTAMP (R389): a frame with a timestamp request leaves the SERDES at `ns` of the count; `own` is N0's own message: 1 a delay or peer-delay request, 2 a Sync,
whose follow-up is sent unless the timestamp was lost; 3 and 4 a datagram of the frame port of P0 or P1, whose timestamp also
reaches its completion queue, or is lost while the engine is down (R430, R439). -/
def doTxTimestamp (c id own ns : Nat) (b : Block) : Block :=
  let b1 := b.at (ns / 10)
  let t : Int := (ns : Int) + b1.net.ptp.offset
  let full := match b1.net.ptp.queues[c]? with
    | some g => decide (8 ≤ g.entries.length)
    | none => true
  let st : Nat × Nat := ((t / 1000000000).toNat, (t % 1000000000).toNat)
  let b2 := stampQueue c id st b1
  if 3 ≤ own then
    if !(b1.pe (own - 3)).up then onPtp (fun x => { x with queues := modAt x.queues c fun g => { g with lost := satAdd 65535 g.lost 1 } }) b1
    else if full then b2
    else pushCq (.port (own - 3)) { kind := 2, index := c, status := 0, hi := st.1 / 4294967296, tag := id % 65536, count := st.2, addr := st.1 % 4294967296 } b2
  else if own = 1 then (if full then b2 else onPort c (fun q => { q with reqTx := some t }) b2)
  else if own = 2 then
    match (b2.net.ptp.ports[c]?).bind (·.syncOut) with
    | none => b2
    | some s => onPort c (fun q => { q with syncOut := none }) (if full then b2 else sendNet (.ptp c 8 s) b2)
  else b2

def execTxTimestamp (cage : Fin 2) (id : Nat) (own : Fin 5) (ns : Nat) (s : State) := effect (doTxTimestamp cage id own ns) s

/-- TXTS_READ (R389): reading the last word of the oldest entry removes it; TSOVF clears when the queue is empty. -/
def doTxtsRead (c : Nat) (b : Block) : Block :=
  onPtp (fun x => { x with queues := modAt x.queues c fun g => { g with entries := g.entries.tail, ovf := g.ovf && !(g.entries.tail == []) } }) b

def execTxtsRead (cage : Fin 2) (s : State) := effect (doTxtsRead cage) s

/-! ### Commands (R401) -/

/-- The mask is a run of ones from the top, 8 to 30 of them (log entry 39). -/
def maskOk (m : Nat) : Bool := (List.range 23).any fun k => m == 2 ^ 32 - 2 ^ (24 - k)

/-- A usable unicast host configuration (R401). -/
def hostOk (addr mask : Nat) : Bool :=
  let top := addr / 2 ^ 24
  let host := addr % (2 ^ 32 - mask)
  decide (addr < 2 ^ 32) && maskOk mask && decide (1 ≤ top ∧ top < 224) && top != 127 && host != 0 && host + 1 != 2 ^ 32 - mask

/-- NET_SET_IP (R379, R401): takes effect 100 ms after the reply. -/
def ruleNetSetIp (src : Src) (x : IpSet) (b : Block) : HostRule :=
  { opcode := 0x0A01, owner := true, stateOk := true
    param := need (hostOk x.addr x.mask && decide (x.gw < 2 ^ 32 ∧ x.vlan ≤ 4094 ∧ x.pcp ≤ 7 ∧ x.mode ≤ 1) && !(x.mode == 0 && b.net.ptp.set.role == 1))
    act := fun b => complete src .ok [] (settingChanged (b.onNet fun n => { n with ipNext := some (x, b.sys.now + 100 * msT) })) }

def execNetSetIp (src : Src) (x : IpSet) (s : State) := effect (host src (ruleNetSetIp src x)) s

/-- IP_CHANGE_EFFECT (R379). -/
def doIpChangeEffect (b : Block) : Block :=
  match b.net.ipNext with
  | none => b
  | some (x, t) =>
    let b1 := ((b.at t).onNet fun n => { n with ip := x, ipNext := none }).touch netTiles
    if x.mode = b.net.ip.mode then b1 else selectMaster true false b1

def execIpChangeEffect (s : State) := effect doIpChangeEffect s

/-- PTP restarts in LISTENING: every port, the selection and the flags begin again (R401, R406). -/
def restartPtp (b : Block) : Block :=
  let b1 := setLocked false b
  onPtp (fun x => { x with
    ports := (List.range 2).map fun p => PtpPort.fresh (if b.portRuns p then .listening else .disabled)
    slave := none
    hold := false
    gm := false
    inRun := 0
    outRun := 0
    stepRun := 0
    first := true
    lastOffset := none }) b1

/-- NET_SET_PTP (R383 to R386, R401). -/
def ruleNetSetPtp (src : Src) (x : PtpSet) (b : Block) : HostRule :=
  { opcode := 0x0A02, owner := true, stateOk := true
    param := need (decide (x.profile ≤ 1 ∧ x.role ≤ 1 ∧ x.domain ≤ 127 ∧ x.prio1 ≤ 255 ∧ x.prio2 ≤ 255 ∧ -3 ≤ x.logSync ∧ x.logSync ≤ 1 ∧ 100 ≤ x.lockThr ∧ x.lockThr ≤ 100000)
      && decide (x.stepThr = 0 ∨ (1000 ≤ x.stepThr ∧ x.stepThr ≤ 1000000000)) && !(x.role == 1 && b.net.ip.mode == 0))
    act := fun b => complete src .ok [] (settingChanged (restartPtp (onPtp (fun p => { p with set := x }) b))) }

def execNetSetPtp (src : Src) (x : PtpSet) (s : State) := effect (host src (ruleNetSetPtp src x)) s

/-- NET_SET_TIME (R380, R382, R386, R401): a step to the time given. -/
def ruleNetSetTime (src : Src) (sec ns : Nat) (utc : Int) (b : Block) : HostRule :=
  { opcode := 0x0A03, owner := true
    stateOk := b.net.ptp.ports.all fun q => decide (q.st ≠ .slave) && decide (q.st ≠ .uncalibrated)
    param := need (decide (sec < 2 ^ 48 ∧ ns < 1000000000 ∧ -32768 ≤ utc ∧ utc ≤ 32767))
    act := fun b =>
      let d := (sec : Int) * 1000000000 + ns - b.ptpNs
      complete src .ok [] (ptpStep d (onPtp (fun x => { x with utc := utc }) b)) }

def execNetSetTime (src : Src) (sec ns : Nat) (utc : Int) (s : State) := effect (host src (ruleNetSetTime src sec ns utc)) s

/-- NET_GET_CONFIG (R401). -/
def ruleNetGetConfig (src : Src) (_b : Block) : HostRule :=
  { opcode := 0x0A07, owner := false, stateOk := true, param := none
    act := fun b =>
      let p := b.frontTile 0x51
      complete src (b.tilesStatus [0x50, 0x51, 0x52, 0x53]) (wordsBytes ((b.frontTile 0x50).take 5 ++ p.take 1 ++ (p.drop 8).take 3 ++ (b.frontTile 0x52).take 6 ++ (b.frontTile 0x53).take 6)) b }

def execNetGetConfig (src : Src) (s : State) := effect (host src (ruleNetGetConfig src)) s

end Sys2Proof.Machine
end

