-- ==== Sys2Proof/Machine/Can.lean ====
section
/-! DEFINITION. The CAN FD controllers and the partners (R390 to R400, R404 to R406). -/

namespace Sys2Proof.Machine

/-- Tiles of a controller and of the partner table. -/
def canTiles (k : Nat) : List Nat := [0x52 + k]
def partnerTiles : List Nat := (List.range 8).map (0x58 + ·)

/-- Controller `k`, and a change of it. -/
def Block.can (b : Block) (k : Nat) : CanCtl := b.net.cans.getD k CanCtl.reset
def onCan (k : Nat) (f : CanCtl → CanCtl) (b : Block) : Block := (b.onNet fun n => { n with cans := modAt n.cans k f }).touch (canTiles k)

/-! ### Transmission (R393, R396, R397) -/

/-- The place of a frame in arbitration: the lower wins; a standard frame wins over an extended one of the same base (R393). -/
def CanFrame.arb (f : CanFrame) : Nat :=
  if bitOf 31 f.idw then bitsOf 28 18 f.idw * 2 ^ 20 + 2 ^ 19 + bitsOf 17 0 f.idw else bitsOf 10 0 f.idw * 2 ^ 20

/-- The pending buffer that goes next: by number with TXPRI 1, by arbitration field otherwise (R393). -/
def CanCtl.winner (c : CanCtl) : Option Nat :=
  let ps := (List.range 3).filter fun n => (c.tbs.getD n CanBuf.empty).st == 1
  if c.set.txpri then ps.head?
  else match minOf? (ps.map fun n => (c.tbs.getD n CanBuf.empty).frame.arb) with
    | none => none
    | some a => ps.find? fun n => (c.tbs.getD n CanBuf.empty).frame.arb == a

/-- An attempt begins on an idle controller that is on the bus (R393, R396). -/
def CanCtl.arbitrate (c : CanCtl) : CanCtl := if c.txNow.isNone && c.on && c.est != 2 then { c with txNow := c.winner } else c

/-- A buffer takes a state: 1 pending, 2 sent, 3 aborted (R391). -/
def CanCtl.setBuf (c : CanCtl) (n st : Nat) : CanCtl := { c with tbs := modAt c.tbs n fun t => { t with st := st, abortReq := false } }

/-- Every pending buffer not in transmission, or every one, completes aborted (R393, R397). -/
def CanCtl.abortAll (c : CanCtl) : CanCtl := { c with tbs := c.tbs.map fun t => if t.st = 1 then { t with st := 3, abortReq := false } else t, txNow := none }

/-- A buffer is sent: aborted at once in MON, in HBONLY for TB0 and TB1, or as an FD frame while FD is off; otherwise pending (R392, R393, R396, R397). -/
def CanCtl.send (c : CanCtl) (n : Nat) : CanCtl :=
  let t := c.tbs.getD n CanBuf.empty
  if t.st = 1 then c
  else if c.on = false ∨ c.set.mon = true ∨ (c.hbOnly = true ∧ n < 2) ∨ (bitOf 30 t.frame.idw = true ∧ c.set.fd = false) then c.setBuf n 3
  else (c.setBuf n 1).arbitrate

/-- CAN_SEND (R391, R393): a SEND bit of TB0 or TB1; one for TB2 is ignored. -/
def doCanSend (k n : Nat) (b : Block) : Block := if 2 ≤ n then b else onCan k (fun c => c.send n) b

def execCanSend (ctl : Fin 2) (buf : Fin 3) (s : State) := effect (doCanSend ctl buf) s

/-- CAN_ABORT (R391, R393): at once, or at the end of the attempt in progress. -/
def doCanAbort (k n : Nat) (b : Block) : Block :=
  if 2 ≤ n then b
  else onCan k (fun c =>
    if (c.tbs.getD n CanBuf.empty).st ≠ 1 then c
    else if c.txNow = some n then { c with tbs := modAt c.tbs n fun t => { t with abortReq := true } }
    else c.setBuf n 3) b

def execCanAbort (ctl : Fin 2) (buf : Fin 3) (s : State) := effect (doCanAbort ctl buf) s

/-- The error state of the counts (R396): entry to error-passive and to bus-off. -/
def judgeErrors (k : Nat) (b : Block) : Block :=
  let c := b.can k
  let est := if 255 < c.tec then 2 else if 127 < c.tec ∨ 127 < c.rec_ then 1 else 0
  let b1 := onCan k (fun c => { c with
    est := est
    busOffs := if est = 2 ∧ c.est ≠ 2 then satAdd 65535 c.busOffs 1 else c.busOffs
    busOffAt := if est = 2 ∧ c.est ≠ 2 then some b.sys.now else c.busOffAt
    txNow := if est = 2 then none else c.txNow }) b
  if est = 2 ∧ c.est ≠ 2 then note .canBusOff k [] b1
  else if est = 1 ∧ c.est = 0 then note .canErrPassive k [] b1
  else b1

/-- The disabling that waited for the end of the frame completes: pending buffers aborted in buffer order, the reply (R393, R401). -/
def finishCanDisable (k : Nat) (b : Block) : Block :=
  match (b.can k).disabling with
  | none => b
  | some src => complete src .ok [] (onCan k (fun c => { c.abortAll with on := false, disabling := none, annDue := none }) b)

/-- HBONLY ends: an acknowledged heartbeat (R397); one announce falls due (R399). -/
def ackSeen (k : Nat) (b : Block) : Block :=
  if (b.can k).hbOnly then
    note .canAckSeen k [] (onCan k (fun c => { c with hbOnly := false, alone := false, ackRun := 0, annDue := some (b.sys.now + 100 * msT) }) b)
  else b

/-- CAN_TX_ATTEMPT_END (R393, R396, R397): the attempt on the bus ends. -/
def doCanTxAttemptEnd (k : Nat) (r : CanResult) (count : Nat) (b : Block) : Block :=
  let b0 := b.at count
  match (b0.can k).txNow with
  | none => b0
  | some n =>
    let abortReq := ((b0.can k).tbs.getD n CanBuf.empty).abortReq
    let single := (b0.can k).hbOnly
    let free (c : CanCtl) : CanCtl := { c with txNow := none }
    let again (c : CanCtl) : CanCtl := if abortReq || single then (free c).setBuf n 3 else free c
    let b1 := match r with
      | .ok => ackSeen k (onCan k (fun c => { ((free c).setBuf n 2) with tec := c.tec - 1, ackRun := 0, txOk := (c.txOk + 1) % 4294967296 }) b0)
      | .noAck => onCan k (fun c => { (again c) with lec := 3, tec := if c.est = 1 then c.tec else c.tec + 8, ackRun := satAdd 65535 c.ackRun 1 }) b0
      | .err lec acked => onCan k (fun c => { (again c) with lec := lec, tec := c.tec + 8, ackRun := if acked then 0 else c.ackRun }) b0
    let b2 := judgeErrors k b1
    if (b2.can k).disabling.isSome then finishCanDisable k b2 else onCan k CanCtl.arbitrate b2

def execCanTxAttemptEnd (ctl : Fin 2) (r : CanResult) (count : Nat) (s : State) := effect (doCanTxAttemptEnd ctl r count) s

/-- CAN_ALONE (R397): ACKRUN has reached 64. -/
def doCanAlone (k : Nat) (b : Block) : Block :=
  if (b.can k).ackRun < 64 ∨ (b.can k).alone = true then b
  else note .canAlone k [] (onCan k (fun c => { c.abortAll with alone := true, hbOnly := true, alones := satAdd 65535 c.alones 1 }) b)

def execCanAlone (ctl : Fin 2) (s : State) := effect (doCanAlone ctl) s

/-- CAN_BUSOFF_RECOVERY (R396): 100 ms after bus-off the standard recovery starts; its end is CAN_BUSOFF_RECOVERED. -/
def doCanBusoffRecovery (k : Nat) (b : Block) : Block :=
  match (b.can k).busOffAt with
  | none => b
  | some t => onCan k (fun c => { c with busOffAt := none }) (b.at (t + 100 * msT))

def execCanBusoffRecovery (ctl : Fin 2) (s : State) := effect (doCanBusoffRecovery ctl) s

/-- CAN_BUSOFF_RECOVERED (R396): error-active again, counts at 0. -/
def doCanBusoffRecovered (k : Nat) (b : Block) : Block :=
  if (b.can k).est = 2 ∧ (b.can k).busOffAt = none then onCan k (fun c => { c with est := 0, tec := 0, rec_ := 0 }.arbitrate) b else b

def execCanBusoffRecovered (ctl : Fin 2) (s : State) := effect (doCanBusoffRecovered ctl) s

/-! ### Partners (R398 to R400) -/

/-- SERIAL32: the CRC-32C of the serial number (R398). -/
def Block.serial32 (b : Block) : Nat := crc32c (wordsBytes b.sys.serial)

/-- N0 puts a frame of TYPE into TB2 and sends it; while TB2 still waits, nothing is put. -/
def sendPartner (k type : Nat) (data : List Byte) (b : Block) : Block :=
  onCan k (fun c =>
    if (c.tbs.getD 2 CanBuf.empty).st = 1 then c
    else
      let id := c.set.base + type * 256 + c.set.node
      let f : CanFrame := { idw := 2 ^ 31 + id % 2 ^ 29, ctlw := data.length, data := data ++ List.replicate (64 - data.length) 0#8 }
      { c with tbs := modAt c.tbs 2 fun t => { t with frame := f } }.send 2) b

/-- The heartbeat frame: state code and sequence (R398). -/
def sendHeartbeat (k : Nat) (b : Block) : Block :=
  let c := b.can k
  onCan k (fun c => { c with hbSeq := (c.hbSeq + 1) % 256, hbAt := b.sys.now }) (sendPartner k 1 (leBytes 1 b.sys.mstate.code ++ leBytes 1 c.hbSeq ++ leBytes 2 0) b)

/-- PARTNER_HEARTBEAT (R399): every HB_PERIOD. -/
def doPartnerHeartbeat (k : Nat) (b : Block) : Block :=
  let c := b.can k
  if c.on = false ∨ c.hbOnly = true ∨ b.n0Up = false then b else sendHeartbeat k (b.at (c.hbAt + c.set.hbPeriod * msT))

def execPartnerHeartbeat (ctl : Fin 2) (s : State) := effect (doPartnerHeartbeat ctl) s

/-- HBONLY_HEARTBEAT (R397): once per second, single-shot. -/
def doHbonlyHeartbeat (k : Nat) (b : Block) : Block :=
  let c := b.can k
  if c.on = false ∨ c.hbOnly = false ∨ b.n0Up = false then b else sendHeartbeat k (b.at (c.hbAt + secT))

def execHbonlyHeartbeat (ctl : Fin 2) (s : State) := effect (doHbonlyHeartbeat ctl) s

/-- MODEL of the announce (R398). -/
def Block.model (b : Block) : Nat := if b.sys.variant = .s384as then 0x0384 else 0x0512

/-- PARTNER_ANNOUNCE (R399): at the count at which one falls due, or 10 s after the latest; waits while HBONLY holds. -/
def doPartnerAnnounce (k : Nat) (b : Block) : Block :=
  let c := b.can k
  if c.on = false ∨ c.hbOnly = true ∨ b.n0Up = false then b
  else
    let due := c.annAt + 10 * secT
    let b1 := b.at (match c.annDue with
      | some t => min t due
      | none => due)
    let data := leBytes 1 1 ++ leBytes 1 (c.set.hbPeriod / 100) ++ leBytes 2 b.model ++ leBytes 4 b.serial32
    onCan k (fun c => { c with annAt := b1.sys.now, annDue := none }) (sendPartner k 0 data b1)

def execPartnerAnnounce (ctl : Fin 2) (s : State) := effect (doPartnerAnnounce ctl) s

/-- Change one partner entry. -/
def onPartner (p : Nat) (f : Partner → Partner) (b : Block) : Block := (b.onNet fun n => { n with partners := modAt n.partners p f }).touch partnerTiles

/-- Heard on controller `k`. -/
def Partner.heard (k : Nat) (p : Partner) : Partner := { p with seenA := p.seenA || k == 0, seenB := p.seenB || k == 1 }

/-- The first free entry. -/
def Block.freePartner (b : Block) : Option Nat := b.net.partners.findIdx? fun p => p.st == 0

/-- Every running controller owes an announce within 100 ms (R399). -/
def oweAnnounce (k : Nat) (b : Block) : Block := onCan k (fun c => { c with annDue := some (min (b.sys.now + 100 * msT) (c.annDue.getD (b.sys.now + 100 * msT))) }) b

/-- An announce (R399): matched by NODE and SERIAL32, or an entry of that NODE that has not announced. -/
def takeAnnounce (k node : Nat) (d : List Byte) (b : Block) : Block :=
  let serial := leField d 4 4
  let fill (p : Partner) : Partner := { (p.heard k) with
    st := 2, node := node, kind := leField d 0 1 % 8, model := leField d 2 2, serial := serial, hbPer := 100 * leField d 1 1, hbAt := b.sys.now }
  let b1 := if node = (b.can k).set.node ∧ serial ≠ b.serial32 then note .canNodeClash k [node, serial] b else b
  match b1.net.partners.findIdx? fun p => p.st != 0 && p.node == node && (p.serial == serial || p.st == 1) with
  | some i =>
    let was := (b1.net.partners.getD i Partner.empty).st
    let b2 := onPartner i fill b1
    if was = 2 then b2 else note .partnerJoin i [node, serial] b2
  | none => match b1.freePartner with
    | some i => oweAnnounce k (note .partnerJoin i [node, serial] (onPartner i (fun _ => fill Partner.empty) b1))
    | none => oweAnnounce k (note .partnerFull noArg [node, serial] b1)

/-- A heartbeat (R399). -/
def takeHeartbeat (k node : Nat) (b : Block) : Block :=
  match b.net.partners.findIdx? fun p => p.st != 0 && p.node == node with
  | some i =>
    let p := b.net.partners.getD i Partner.empty
    let b1 := onPartner i (fun p => { (p.heard k) with st := if p.st = 3 then (if p.kind = 0 then 1 else 2) else p.st, hbAt := b.sys.now }) b
    if p.st = 3 then note .partnerJoin i [node, p.serial] b1 else b1
  | none => match b.freePartner with
    | some i => note .partnerJoin i [node, 0] (onPartner i (fun _ => { (Partner.empty.heard k) with st := 1, node := node, hbAt := b.sys.now }) b)
    | none => note .partnerFull noArg [node, 0] b

/-- A wake frame: in HIBERNATE, for this NODE or for all, with WAKE_EN set (R400). -/
def takeWake (k : Nat) (d : List Byte) (b : Block) : Block :=
  let t := leField d 0 1
  if b.sys.mstate = .hibernate ∧ (b.can k).set.wakeEn = true ∧ (t = (b.can k).set.node ∨ t = 0xFF) ∧ leField d 1 1 = 1 then
    enterState .park Event.fltWake.code (noteWake 2 b)
  else b

/-- N0 takes a partner frame. -/
def takePartner (k : Nat) (f : CanFrame) (b : Block) : Block :=
  let id := f.idw % 2 ^ 29 - (b.can k).set.base
  let node := id % 256
  match id / 256 with
  | 0 => takeAnnounce k node f.data b
  | 1 => takeHeartbeat k node b
  | 2 => takeWake k f.data b
  | _ => b

/-- A frame of the partner range: 29-bit identifier from PARTNER_BASE on (R394, R398). -/
def CanCtl.partnerFrame (c : CanCtl) (f : CanFrame) : Bool :=
  bitOf 31 f.idw && decide (c.set.base ≤ f.idw % 2 ^ 29) && decide (f.idw % 2 ^ 29 < c.set.base + 1024)

/-- One filter element matches an identifier (R394). -/
def filterMatch (e : Nat × Nat) (xtd : Bool) (id : Nat) : Bool :=
  let id1 := e.1 % 2 ^ 29
  let id2 := e.2 % 2 ^ 29
  bitOf 29 e.1 == xtd && (match bitsOf 31 30 e.1 with
    | 0 => decide (id1 ≤ id ∧ id ≤ id2)
    | 1 => id == id1 || id == id2
    | 2 => id.land id2 == id1.land id2
    | _ => false)

/-- The action and index of the first matching element, or NOMATCH and 0x1FF (R394). -/
def CanCtl.filter (c : CanCtl) (f : CanFrame) : Nat × Nat :=
  let xtd := bitOf 31 f.idw
  let id := if xtd then f.idw % 2 ^ 29 else f.idw % 2 ^ 11
  match (c.filters.take c.fltLen).findIdx? fun e => filterMatch e xtd id with
  | some i => (bitsOf 31 30 (c.filters.getD i (0, 0)).2, i)
  | none => (b2n c.set.noMatch, 0x1FF)

/-- Store a frame in RQ1, or lose it (R395). -/
def storeRq1 (k fidx : Nat) (f : CanFrame) (ts : Nat) (b : Block) : Block :=
  let c := b.can k
  if (c.rqPut + 1024 - c.rqGet) % 1024 = c.set.rqLen then
    let b1 := onCan k (fun c => { c with rxLost := satAdd 4294967295 c.rxLost 1, rxLostAll := (c.rxLostAll + 1) % 4294967296, rqFull := true }) b
    if c.rqFull then b1 else note .canRqFull k [] b1
  else
    let g : CanFrame := { f with ctlw := f.ctlw % 2 ^ 16 + 2 ^ 30 * bitsOf 31 30 f.ctlw + 65536 * fidx }
    onCan k (fun c => { c with rq1 := insertKey (c.rqPut % c.set.rqLen) { frame := g, ts := ts } c.rq1, rqPut := (c.rqPut + 1) % 1024 }) b

/-- CAN_FRAME_RX (R394, R395, R398, R400): `ts` is the count at the start of frame. A partner frame waits in RQ0 while N0 is out of service. -/
def doCanFrameRx (k : Nat) (f : CanFrame) (ts : Nat) (b : Block) : Block :=
  let b0 := b.at ts
  if (b0.can k).on = false ∨ (b0.can k).est = 2 then b0
  else
    let b1 := onCan k (fun c => { c with rxOk := (c.rxOk + 1) % 4294967296, rec_ := c.rec_ - 1 }) b0
    let c := b1.can k
    if c.partnerFrame f then
      if b1.n0Up then takePartner k f b1
      else onCan k (fun c => if c.rq0.length < 64 then { c with rq0 := c.rq0 ++ [f] } else c) b1
    else
      let m := c.filter f
      if m.1 = 1 ∧ c.set.rqOwn ≠ 0 then storeRq1 k m.2 f ts b1 else b1

def execCanFrameRx (ctl : Fin 2) (f : CanFrame) (ts : Nat) (s : State) := effect (doCanFrameRx ctl f ts) s

/-- N0 returns to service and takes the partner frames that waited (R406). -/
def drainPartners (k : Nat) (b : Block) : Block :=
  let fs := (b.can k).rq0
  fs.foldl (fun b f => takePartner k f b) (onCan k (fun c => { c with rq0 := [] }) b)

/-- CAN_RQGET_WRITE (R395): a value outside RQGET to RQPUT is ignored; the acknowledgement clears RQFULL. -/
def doCanRqgetWrite (k value : Nat) (b : Block) : Block :=
  let c := b.can k
  let v := value % 1024
  if (c.rqPut + 1024 - c.rqGet) % 1024 < (v + 1024 - c.rqGet) % 1024 then b else onCan k (fun c => { c with rqGet := v, rqFull := false }) b

def execCanRqgetWrite (ctl : Fin 2) (value : Nat) (s : State) := effect (doCanRqgetWrite ctl value) s

/-- Heartbeat period of a partner in ticks; one that has not announced is judged by this module's own (R399; log entry 40). -/
def Block.partnerPeriod (b : Block) (p : Partner) : Nat := (if p.kind = 0 then (b.can (if p.seenA then 0 else 1)).set.hbPeriod else p.hbPer) * msT

/-- PARTNER_LOST (R399): 3 periods and 100 ms without a heartbeat. -/
def doPartnerLost (i : Nat) (b : Block) : Block :=
  match b.net.partners[i]? with
  | none => b
  | some p =>
    if p.st = 1 ∨ p.st = 2 then
      let b1 := b.at (p.hbAt + 3 * b.partnerPeriod p + 100 * msT)
      note .partnerLost i [p.node, p.serial] (onPartner i (fun p => { p with st := 3, lostAt := b1.sys.now }) b1)
    else b

def execPartnerLost (entry : Fin 40) (s : State) := effect (doPartnerLost entry) s

/-- PARTNER_ENTRY_FREE (R399): 60 s after the loss. -/
def doPartnerEntryFree (i : Nat) (b : Block) : Block :=
  match b.net.partners[i]? with
  | none => b
  | some p => if p.st = 3 then onPartner i (fun _ => Partner.empty) (b.at (p.lostAt + 60 * secT)) else b

def execPartnerEntryFree (entry : Fin 40) (s : State) := effect (doPartnerEntryFree entry) s

/-! ### Commands (R401) -/

/-- NBT and DBT within R390: at least 80 clocks for a nominal bit and 16 for a data bit. -/
def nbtOk (v : Nat) : Bool :=
  let seg1 := bitsOf 24 17 v + 1
  let seg2 := bitsOf 16 10 v + 1
  decide (v < 2 ^ 32) && decide (2 ≤ seg1 ∧ 2 ≤ seg2) && decide (80 ≤ (1 + seg1 + seg2) * (bitsOf 9 0 v + 1))
def dbtOk (v : Nat) : Bool :=
  decide (v < 2 ^ 32) && bitsOf 6 1 v == 0 && decide (16 ≤ (1 + (bitsOf 27 23 v + 1) + (bitsOf 22 19 v + 1)) * (bitsOf 18 14 v + 1))

/-- The fields of CAN_SET_CONFIG within their ranges. -/
def CanSet.ok (x : CanSet) : Bool :=
  nbtOk x.nbt && dbtOk x.dbt && decide (1 ≤ x.node ∧ x.node ≤ 254 ∧ 100 ≤ x.hbPeriod ∧ x.hbPeriod ≤ 10000 ∧ x.base % 1024 = 0 ∧ x.base ≤ 0x1FFFFC00 ∧ x.rqOwn ≤ 2)
    && [4, 8, 16, 32, 64, 128, 256, 512].contains x.rqLen

/-- The controller starts: RQPUT and RQGET at 0, an announce at once (R395, R399). -/
def startCan (k : Nat) (b : Block) : Block :=
  onCan k (fun c => { c with
    on := true, est := 0, tec := 0, rec_ := 0, lec := 0, txNow := none, rq1 := [], rqPut := 0, rqGet := 0, rqFull := false, rxLost := 0, ackRun := 0, alone := false
    hbOnly := false, busOffAt := none, hbAt := b.sys.now, annAt := b.sys.now, annDue := some b.sys.now, tbs := List.replicate 3 .empty }) b

/-- CAN_SET_CONFIG (R390, R391, R393, R401). -/
def ruleCanSetConfig (src : Src) (k : Fin 2) (x : CanSet) (b : Block) : HostRule :=
  { opcode := 0x0A04, owner := true
    stateOk := !(b.can k).set.en || decide ({ x with en := true } = (b.can k).set)
    param := need x.ok
    act := fun b =>
      let was := (b.can k).set.en
      let b1 := settingChanged (onCan k (fun c => { c with set := x }) b)
      if x.en ∧ was = false then complete src .ok [] (startCan k b1)
      else if x.en = false ∧ was = true then
        let b2 := onCan k (fun c => { c with disabling := some src }) b1
        if (b1.can k).txNow.isSome then b2 else finishCanDisable k b2
      else complete src .ok [] b1 }

def execCanSetConfig (src : Src) (ctl : Fin 2) (x : CanSet) (s : State) := effect (host src (ruleCanSetConfig src ctl x)) s

/-- CAN_FILTER_WRITE (R394, R401): ACT 2 and 3 and bit 29 of word 1 are reserved. -/
def ruleCanFilterWrite (src : Src) (k : Fin 2) (first fltLen : Nat) (elems : List (Nat × Nat)) (_b : Block) : HostRule :=
  { opcode := 0x0A05, owner := true, stateOk := true
    param := need (decide (first ≤ 255 ∧ 1 ≤ elems.length ∧ elems.length ≤ 64 ∧ first + elems.length ≤ 256 ∧ fltLen ≤ 256)
      && elems.all fun e => decide (e.1 < 2 ^ 32 ∧ e.2 < 2 ^ 32) && (bitsOf 31 29 e.2 == 0 || bitsOf 31 29 e.2 == 2))
    act := fun b => complete src .ok [] (settingChanged (onCan k (fun c => { c with
      fltLen := fltLen
      filters := c.filters.mapIdx fun i e => if first ≤ i ∧ i < first + elems.length then elems.getD (i - first) e else e }) b)) }

def execCanFilterWrite (src : Src) (ctl : Fin 2) (first fltLen : Nat) (elems : List (Nat × Nat)) (s : State) :=
  effect (host src (ruleCanFilterWrite src ctl first fltLen elems)) s

/-- The three words of a partner entry (R405). -/
def Block.partnerWords (b : Block) (p : Partner) : List Word :=
  if p.st = 0 then [0#32, 0#32, 0#32]
  else
    [packWord [(31, 24, p.node), (23, 23, b2n p.seenB), (22, 22, b2n p.seenA), (21, 19, p.st), (18, 16, p.kind), (15, 0, p.model)], w32 p.serial,
      packWord [(31, 16, p.hbPer), (15, 0, min 65535 ((b.sys.now - p.hbAt) / secT))]]

/-- NET_GET_PARTNERS (R401, R405). -/
def ruleNetGetPartners (src : Src) (first count : Nat) (_b : Block) : HostRule :=
  { opcode := 0x0A06, owner := false, stateOk := true
    param := need (decide (first ≤ 39 ∧ 1 ≤ count ∧ count ≤ 40 ∧ first + count ≤ 40))
    act := fun b => complete src .ok (wordsBytes (((b.net.partners.drop first).take count).flatMap b.partnerWords)) b }

def execNetGetPartners (src : Src) (first count : Nat) (s : State) := effect (host src (ruleNetGetPartners src first count)) s

end Sys2Proof.Machine
end

