-- ==== Sys2Proof/Machine/Crypto.lean ====
section
/-! DEFINITION. SHA-384 and ECDSA over P-384, which the spec names by their standards and does not restate: written from FIPS 180-4 and FIPS 186-5 (R465, log
entry 12). -/

namespace Sys2Proof.Machine

/-! ### SHA-384 -/

/-- Initial hash value. -/
def sha384Init : List (BitVec 64) :=
  [0xcbbb9d5dc1059ed8#64, 0x629a292a367cd507#64, 0x9159015a3070dd17#64, 0x152fecd8f70e5939#64, 0x67332667ffc00b31#64, 0x8eb44a8768581511#64, 0xdb0c2e0d64f98fa7#64, 0x47b5481dbefa4fa4#64]

/-- Round constants. -/
def sha512K : List (BitVec 64) :=
  [0x428a2f98d728ae22#64, 0x7137449123ef65cd#64, 0xb5c0fbcfec4d3b2f#64, 0xe9b5dba58189dbbc#64, 0x3956c25bf348b538#64, 0x59f111f1b605d019#64, 0x923f82a4af194f9b#64, 0xab1c5ed5da6d8118#64] ++
  [0xd807aa98a3030242#64, 0x12835b0145706fbe#64, 0x243185be4ee4b28c#64, 0x550c7dc3d5ffb4e2#64, 0x72be5d74f27b896f#64, 0x80deb1fe3b1696b1#64, 0x9bdc06a725c71235#64, 0xc19bf174cf692694#64] ++
  [0xe49b69c19ef14ad2#64, 0xefbe4786384f25e3#64, 0x0fc19dc68b8cd5b5#64, 0x240ca1cc77ac9c65#64, 0x2de92c6f592b0275#64, 0x4a7484aa6ea6e483#64, 0x5cb0a9dcbd41fbd4#64, 0x76f988da831153b5#64] ++
  [0x983e5152ee66dfab#64, 0xa831c66d2db43210#64, 0xb00327c898fb213f#64, 0xbf597fc7beef0ee4#64, 0xc6e00bf33da88fc2#64, 0xd5a79147930aa725#64, 0x06ca6351e003826f#64, 0x142929670a0e6e70#64] ++
  [0x27b70a8546d22ffc#64, 0x2e1b21385c26c926#64, 0x4d2c6dfc5ac42aed#64, 0x53380d139d95b3df#64, 0x650a73548baf63de#64, 0x766a0abb3c77b2a8#64, 0x81c2c92e47edaee6#64, 0x92722c851482353b#64] ++
  [0xa2bfe8a14cf10364#64, 0xa81a664bbc423001#64, 0xc24b8b70d0f89791#64, 0xc76c51a30654be30#64, 0xd192e819d6ef5218#64, 0xd69906245565a910#64, 0xf40e35855771202a#64, 0x106aa07032bbd1b8#64] ++
  [0x19a4c116b8d2d0c8#64, 0x1e376c085141ab53#64, 0x2748774cdf8eeb99#64, 0x34b0bcb5e19b48a8#64, 0x391c0cb3c5c95a63#64, 0x4ed8aa4ae3418acb#64, 0x5b9cca4f7763e373#64, 0x682e6ff3d6b2b8a3#64] ++
  [0x748f82ee5defb2fc#64, 0x78a5636f43172f60#64, 0x84c87814a1f0ab72#64, 0x8cc702081a6439ec#64, 0x90befffa23631e28#64, 0xa4506cebde82bde9#64, 0xbef9a3f7b2c67915#64, 0xc67178f2e372532b#64] ++
  [0xca273eceea26619c#64, 0xd186b8c721c0c207#64, 0xeada7dd6cde0eb1e#64, 0xf57d4f7fee6ed178#64, 0x06f067aa72176fba#64, 0x0a637dc5a2c898a6#64, 0x113f9804bef90dae#64, 0x1b710b35131c471b#64] ++
  [0x28db77f523047d84#64, 0x32caab7b40c72493#64, 0x3c9ebe0a15c9bebc#64, 0x431d67c49c100d4c#64, 0x4cc5d4becb3e42b6#64, 0x597f299cfc657e2a#64, 0x5fcb6fab3ad6faec#64, 0x6c44198c4a475817#64]

/-- Eight bytes, most significant first. -/
def beWord64 (bs : List Byte) : BitVec 64 := BitVec.ofNat 64 (bs.foldl (fun a b => a * 256 + b.toNat) 0)

/-- The message schedule, newest word first, extended `n` times. -/
def sha512Extend : Nat → List (BitVec 64) → List (BitVec 64)
  | 0, acc => acc
  | n + 1, acc =>
    let w15 := acc.getD 14 0
    let w2 := acc.getD 1 0
    let s0 := (w15.rotateRight 1) ^^^ (w15.rotateRight 8) ^^^ (w15 >>> 7)
    let s1 := (w2.rotateRight 19) ^^^ (w2.rotateRight 61) ^^^ (w2 >>> 6)
    sha512Extend n ((acc.getD 15 0 + s0 + acc.getD 6 0 + s1) :: acc)

/-- One round. -/
def sha512Round (h : List (BitVec 64)) (kw : BitVec 64 × BitVec 64) : List (BitVec 64) :=
  let a := h.getD 0 0
  let e := h.getD 4 0
  let s1 := (e.rotateRight 14) ^^^ (e.rotateRight 18) ^^^ (e.rotateRight 41)
  let ch := (e &&& h.getD 5 0) ^^^ (~~~e &&& h.getD 6 0)
  let t1 := h.getD 7 0 + s1 + ch + kw.1 + kw.2
  let s0 := (a.rotateRight 28) ^^^ (a.rotateRight 34) ^^^ (a.rotateRight 39)
  let maj := (a &&& h.getD 1 0) ^^^ (a &&& h.getD 2 0) ^^^ (h.getD 1 0 &&& h.getD 2 0)
  [t1 + s0 + maj, a, h.getD 1 0, h.getD 2 0, h.getD 3 0 + t1, e, h.getD 5 0, h.getD 6 0]

/-- One block of 128 bytes. -/
def sha512Block (h : List (BitVec 64)) (bs : List Byte) : List (BitVec 64) :=
  let ws := (List.range 16).map fun i => beWord64 ((bs.drop (8 * i)).take 8)
  let sched := (sha512Extend 64 ws.reverse).reverse
  List.zipWith (· + ·) h ((List.zip sha512K sched).foldl sha512Round h)

/-- Blocks of a padded message, by fuel. -/
def sha512Blocks : Nat → List (BitVec 64) → List Byte → List (BitVec 64)
  | 0, h, _ => h
  | n + 1, h, bs => sha512Blocks n (sha512Block h (bs.take 128)) (bs.drop 128)

/-- SHA-384. -/
def sha384 (bs : List Byte) : List Byte :=
  let pad := bs ++ [0x80#8] ++ List.replicate ((239 - bs.length % 128) % 128) 0#8 ++ beBytes 16 (8 * bs.length)
  ((sha512Blocks (pad.length / 128) sha384Init pad).flatMap fun w => beBytes 8 w.toNat).take 48

/-! ### P-384 -/

/-- The field prime, the curve's b, the group order and the base point. -/
def p384P : Nat := 2 ^ 384 - 2 ^ 128 - 2 ^ 96 + 2 ^ 32 - 1
def p384B : Nat := 0xB3312FA7E23EE7E4988E056BE3F82D19181D9C6EFE8141120314088F5013875AC656398D8A2ED19D2A85C8EDD3EC2AEF
def p384N : Nat := 0xFFFFFFFFFFFFFFFFFFFFFFFFFFFFFFFFFFFFFFFFFFFFFFFFC7634D81F4372DDF581A0DB248B0A77AECEC196ACCC52973
def p384Gx : Nat := 0xAA87CA22BE8B05378EB1C71EF320AD746E1D3B628BA79B9859F741E082542A385502F25DBF55296C3A545E3872760AB7
def p384Gy : Nat := 0x3617DE4A96262C6F5D9E98BF9292DC29F8F41DBD289A147CE9DA3113B5F0B8C00A60B1CE1D7E819D7A431D7C90EA0E5F

/-- A point in Jacobian coordinates; z = 0 is the point at infinity. -/
structure JPoint where
  x : Nat
  y : Nat
  z : Nat
  deriving DecidableEq, Repr

/-- Difference in the field. -/
def fieldSub (a b : Nat) : Nat := (a + p384P - b % p384P) % p384P

/-- Twice a point. -/
def JPoint.dbl (q : JPoint) : JPoint :=
  if q.z = 0 ∨ q.y = 0 then { x := 1, y := 1, z := 0 }
  else
    let zz := q.z * q.z % p384P
    let yy := q.y * q.y % p384P
    let s := 4 * q.x * yy % p384P
    let m := 3 * fieldSub q.x zz * ((q.x + zz) % p384P) % p384P
    let x3 := fieldSub (m * m % p384P) (2 * s)
    { x := x3, y := fieldSub (m * fieldSub s x3 % p384P) (8 * yy * yy), z := 2 * q.y * q.z % p384P }

/-- Sum of two points. -/
def JPoint.add (q r : JPoint) : JPoint :=
  if q.z = 0 then r
  else if r.z = 0 then q
  else
    let qzz := q.z * q.z % p384P
    let rzz := r.z * r.z % p384P
    let u1 := q.x * rzz % p384P
    let u2 := r.x * qzz % p384P
    let s1 := q.y * (rzz * r.z % p384P) % p384P
    let s2 := r.y * (qzz * q.z % p384P) % p384P
    if u1 = u2 then (if s1 = s2 then q.dbl else { x := 1, y := 1, z := 0 })
    else
      let h := fieldSub u2 u1
      let d := fieldSub s2 s1
      let hh := h * h % p384P
      let hhh := h * hh % p384P
      let v := u1 * hh % p384P
      let x3 := fieldSub (fieldSub (d * d % p384P) hhh) (2 * v)
      { x := x3, y := fieldSub (d * fieldSub v x3 % p384P) (s1 * hhh), z := h * (q.z * r.z % p384P) % p384P }

/-- `u` times `q` plus `v` times `r`, over the lowest `n` bits of both scalars, from the top. -/
def JPoint.lin (q r : JPoint) (u v : Nat) : Nat → JPoint → JPoint
  | 0, acc => acc
  | n + 1, acc =>
    let a := acc.dbl
    let b := if u.testBit n then a.add q else a
    JPoint.lin q r u v n (if v.testBit n then b.add r else b)

/-- `b` to the power of the number in the lowest `n` bits of `e`, modulo `m`. -/
def powModBits (b e m : Nat) : Nat → Nat → Nat
  | 0, acc => acc
  | n + 1, acc =>
    let a := acc * acc % m
    powModBits b e m n (if e.testBit n then a * b % m else a)

/-- Inverse modulo a prime below 2^384. -/
def invMod (a m : Nat) : Nat := powModBits a (m - 2) m 384 1

/-- Bytes as a number, most significant first. -/
def beNat (bs : List Byte) : Nat := bs.foldl (fun a b => a * 256 + b.toNat) 0

/-- X‖Y is a point of P-384 (R472). -/
def onP384 (key : List Byte) : Bool :=
  let x := beNat (key.take 48)
  let y := beNat ((key.drop 48).take 48)
  decide (key.length = 96 ∧ x < p384P ∧ y < p384P ∧ y * y % p384P = (x * x * x + (p384P - 3) * x + p384B) % p384P)

/-- ECDSA P-384 over SHA-384 of the message: `key` is X‖Y, `sig` is r‖s (R465). -/
def ecdsaOk (key sig msg : List Byte) : Bool :=
  let r := beNat (sig.take 48)
  let s := beNat ((sig.drop 48).take 48)
  if !onP384 key || decide (sig.length ≠ 96 ∨ r = 0 ∨ s = 0 ∨ p384N ≤ r ∨ p384N ≤ s) then false
  else
    let w := invMod s p384N
    let u := beNat (sha384 msg) * w % p384N
    let v := r * w % p384N
    let g : JPoint := { x := p384Gx, y := p384Gy, z := 1 }
    let q : JPoint := { x := beNat (key.take 48), y := beNat (key.drop 48), z := 1 }
    let t := JPoint.lin g q u v 384 { x := 1, y := 1, z := 0 }
    let zi := invMod t.z p384P
    decide (t.z ≠ 0) && decide (t.x * (zi * zi % p384P) % p384P % p384N = r)

end Sys2Proof.Machine
end

