-- ==== Sys2Proof/Machine/Images.lean ====
section
/-! DEFINITION. Signed engine images and bundles in flash, and their checks (R408, R465 to R468, R485 to R488). -/

namespace Sys2Proof.Machine

/-! ### Flash (R485) -/

/-- Base of a slot: 0 A, 1 B. -/
def slotBase (slot : Nat) : Nat := 0x1000000 * slot

/-- Bytes of the bundle region of a slot. -/
def Block.flashAt (b : Block) (slot off n : Nat) : List Byte := memRead 0xFF#8 b.upd.flash (slotBase slot + off) n

/-- Size of a bundle region. -/
def regionSize : Nat := 0xE00000

/-! ### Key store (R471) -/

/-- The key store in force: the valid copy with the higher KSGEN, or an empty one. -/
def SecPart.store (s : SecPart) : KeyStore :=
  if s.ksA.valid && (!s.ksB.valid || decide (s.ksB.gen ≤ s.ksA.gen)) then s.ksA else if s.ksB.valid then s.ksB else KeyStore.fresh

/-- The key that an operator slot holds. -/
def Block.opKey (b : Block) (slot : Nat) : Option (List Byte) := (b.sec.store.keys.getD slot none)

/-- SERIAL as 12 bytes (R362, R467). -/
def Block.serialBytes (b : Block) : List Byte := wordsBytes b.sys.serial

/-- The minimum SVN of a TARGET (R468). -/
def Block.minSvn (b : Block) (target : Nat) : Nat := if target = 7 then b.sec.store.minP0 else if target = 8 then b.sec.store.minP1 else b.sec.vmin

/-! ### Bundle header (R487) -/

/-- A table entry: TARGET, OFFSET, SIZE. -/
structure TableEntry where
  target : Nat
  offset : Nat
  size : Nat
  deriving DecidableEq, Repr

/-- The fields of a bundle header. -/
structure BundleHead where
  length : Nat
  bver : Nat
  schema : Nat
  schemaMin : Nat
  saif : Nat
  count : Nat
  table : List TableEntry
  deriving DecidableEq, Repr

/-- The header of the bundle in a slot. -/
def Block.bundleHead (b : Block) (slot : Nat) : BundleHead :=
  let h := b.flashAt slot 0 256
  { length := leField h 8 4, bver := leField h 12 4, schema := leField h 16 4, schemaMin := leField h 20 4, saif := leField h 24 4, count := leField h 28 1
    table := (List.range 8).map fun i => { target := leField h (32 + 16 * i) 1, offset := leField h (36 + 16 * i) 4, size := leField h (40 + 16 * i) 4 } }

/-- The images of the table. -/
def BundleHead.images (h : BundleHead) : List TableEntry := h.table.take h.count

/-- Every byte is 0. -/
def allZero (bs : List Byte) : Bool := bs.all fun x => x == 0#8

/-- The header's fields, HCRC and TABLE rules hold (R487, result code 7 of R493). -/
def Block.headerOk (b : Block) (slot : Nat) : Bool :=
  let h := b.flashAt slot 0 256
  let g := b.bundleHead slot
  let im := g.images
  let once (t : Nat) : Nat := (im.filter fun e => e.target == t).length
  let fits (e : TableEntry) : Bool := decide (e.offset % 1024 = 0 ∧ 256 ≤ e.offset ∧ 256 ≤ e.size ∧ e.offset + e.size ≤ g.length)
  let apart (e f : TableEntry) : Bool := decide (e.offset + e.size ≤ f.offset ∨ f.offset + f.size ≤ e.offset)
  h.take 4 == [0x4D#8, 0x58#8, 0x42#8, 0x4E#8] && decide (leField h 4 2 = 1 ∧ leField h 6 2 = 256 ∧ leField h 252 4 = crc32c (h.take 252))
    && decide (2048 ≤ g.length ∧ g.length ≤ 14680064 ∧ 1 ≤ g.schema ∧ g.schema ≤ 65535 ∧ 1 ≤ g.schemaMin ∧ g.schemaMin ≤ g.schema ∧ 1 ≤ g.saif ∧ g.saif ≤ 65535)
    && decide (6 ≤ g.count ∧ g.count ≤ 8) && allZero ((h.drop 29).take 3) && allZero ((h.drop 160).take 92) && allZero ((h.drop (32 + 16 * g.count)).take (128 - 16 * g.count))
    && ((List.range 8).all fun i => allZero ((h.drop (33 + 16 * i)).take 3) && allZero ((h.drop (44 + 16 * i)).take 4))
    && ([1, 2, 3, 4, 5, 6].all fun t => once t == 1) && decide (once 7 ≤ 1 ∧ once 8 ≤ 1) && im.all (fun e => decide (1 ≤ e.target ∧ e.target ≤ 8) && fits e)
    && (List.range im.length).all (fun i => (List.range i).all fun j => match im[i]?, im[j]? with
      | some e, some f => apart e f
      | _, _ => true)

/-- Where the image of a TARGET lies in a slot. -/
def Block.imageOff (b : Block) (slot target : Nat) : Option Nat := ((b.bundleHead slot).images.find? fun e => e.target == target).map (·.offset)

/-! ### Images (R465, R466) -/

/-- Fields of the image header at an offset of a slot. -/
def Block.imageSigner (b : Block) (slot off : Nat) : Nat := leField (b.flashAt slot off 256) 9 1
def Block.imageSvn (b : Block) (slot off : Nat) : Nat := leField (b.flashAt slot off 256) 12 4
def Block.imageBodyLen (b : Block) (slot off : Nat) : Nat := leField (b.flashAt slot off 256) 16 4
def Block.imageBver (b : Block) (slot off : Nat) : Nat := leField (b.flashAt slot off 256) 20 4

/-- The body. -/
def Block.imageBody (b : Block) (slot off : Nat) : List Byte := b.flashAt slot (off + 256) (b.imageBodyLen slot off)

/-- SHA-384 of an image: header and body (R493). -/
def Block.imageHash (b : Block) (slot off : Nat) : List Byte := sha384 (b.flashAt slot off (256 + b.imageBodyLen slot off))

/-- LOAD of a policy image's descriptor (R408). -/
def Block.imageLoad (b : Block) (slot off : Nat) : Nat := leNat (b.flashAt slot (off + 256) 4)

/-- Local RAM of the engine of a TARGET: 512 KiB of the policy engines (R413); of the others the spec gives no size (log entry 46). -/
def ramOf (target : Nat) : Nat := if target = 7 ∨ target = 8 then 528 + ramSize else Config.engineRam target

/-- The checks of R466 in order; 0 accepts. -/
def Block.imageCode (b : Block) (slot off target : Nat) : Nat :=
  let h := b.flashAt slot off 256
  let signer := leField h 9 1
  let pub := (h.drop 32).take 96
  let key : Option (List Byte) := if signer = 0xFF then some pub else b.opKey signer
  if !(h.take 4 == [0x4D#8, 0x58#8, 0x49#8, 0x4D#8] && decide (leField h 4 2 = 1 ∧ leField h 6 2 = 256) && allZero ((h.drop 10).take 2) && allZero ((h.drop 24).take 8)
    && allZero (h.drop 224)) then 1
  else if !decide (leField h 8 1 = target ∧ (if target ≤ 6 then signer = 0xFF else signer ≤ 3)) then 2
  else match key with
    | none => 3
    | some k =>
      if signer = 0xFF ∧ sha384 pub ≠ b.sec.vkh then 3
      else if !ecdsaOk k ((h.drop 128).take 96) (h.take 128 ++ List.replicate 96 0#8 ++ h.drop 224 ++ b.imageBody slot off) then 4
      else if leField h 12 4 < b.minSvn target then 5
      else if !decide (b.imageBodyLen slot off ≤ ramOf target) || (decide (7 ≤ target) && decide (b.imageBodyLen slot off ≠ 528 + b.imageLoad slot off)) then 6
      else 0

/-- The check of the image of a TARGET in a slot; a table without it fails check 1 (log entry 47). -/
def Block.targetCode (b : Block) (slot target : Nat) : Nat := match b.imageOff slot target with
  | some off => b.imageCode slot off target
  | none => 1

/-! ### Policy descriptors (R408) -/

/-- A region register pair from its two words (R417). -/
def regionOf (w0 w1 : Nat) : Region :=
  { vbase := w0 / 4096 * 4096, size := bitsOf 6 2 w0, lock := bitOf 1 w0, en := bitOf 0 w0, pbase := w1 / 4096 * 4096, x := bitOf 2 w1, w := bitOf 1 w1, r := bitOf 0 w1 }

/-- The 64 region pairs of a descriptor. -/
def regionsOf (d : List Byte) : List Region := (List.range 64).map fun i => regionOf (leField d (16 + 8 * i) 4) (leField d (20 + 8 * i) 4)

/-- The first field of a descriptor that fails its check, as its offset; `other` is the DMAMASK of the other engine (R408). -/
def descriptorFault (d : List Byte) (p other : Nat) : Option Nat :=
  let load := leField d 0 4
  let entry := leField d 4 4
  let x := translate (regionsOf d) 2 entry 2
  if load < 64 ∨ 524288 < load ∨ load % 4 ≠ 0 then some 0
  else if entry % 2 ≠ 0 ∨ x.cause ≠ 0 ∨ x.phys < p * ramSize ∨ p * ramSize + load ≤ x.phys then some 4
  else if (leField d 8 2).land 0xC001 ≠ 0 then some 8
  else if (leField d 10 2).land other ≠ 0 then some 10
  else if leField d 12 2 < 10 ∨ 10000 < leField d 12 2 then some 12
  else if leField d 14 2 ≠ 0 then some 14
  else if (List.range 64).any (fun i => bitsOf 11 7 (leField d (16 + 8 * i) 4) != 0 || bitsOf 11 3 (leField d (20 + 8 * i) 4) != 0) then some 16
  else none

/-- The descriptor of the policy image of a TARGET in a slot. -/
def Block.descriptor (b : Block) (slot target : Nat) : List Byte := match b.imageOff slot target with
  | some off => b.flashAt slot (off + 256) 528
  | none => []

/-- The signed schema words of the Lead image and the signed SAIF of the SA and SB image (R488). -/
def Block.leadWord (b : Block) (slot i : Nat) : Nat := match b.imageOff slot 1 with
  | some off => leNat (b.flashAt slot (off + 256 + 4 * i) 4)
  | none => 0
def Block.saSaif (b : Block) (slot : Nat) : Nat := match b.imageOff slot 2 with
  | some off => leNat (b.flashAt slot (off + 256) 4)
  | none => 0

/-! ### Policy engine starts (R409, R410) -/

/-- TARGET of a policy engine. -/
def policyTarget (p : Nat) : Nat := 7 + p

/-- The image of a policy engine fails a check: the field of R408, or 0x100 and the code of R466 (log entry 47). -/
def Block.policyFault (b : Block) (p : Nat) : Option Nat :=
  let slot := b.sec.slot
  let t := policyTarget p
  match b.targetCode slot t with
  | 0 => descriptorFault (b.descriptor slot t) p (if (b.pe (1 - p)).loaded then (b.pe (1 - p)).dmaMask else 0)
  | c => some (0x100 + c)

/-- The engine is loaded from the active slot: RAM, regions, channels, registers (R409 steps 1 to 4); its service ring, frame port and local registers start anew. -/
def loadPolicy (p : Nat) (b : Block) : Block :=
  let slot := b.sec.slot
  let d := b.descriptor slot (policyTarget p)
  let load := leField d 0 4
  let img := match b.imageOff slot (policyTarget p) with
    | some off => b.flashAt slot (off + 784) load
    | none => []
  let mask := leField d 10 2
  let b1 := onPe p (fun e => { PolEngine.reset with
    loaded := true, load := load, entry := leField d 4 4, grant := leField d 8 2, dmaMask := mask, wdper := leField d 12 2, starts := e.starts
    restarts := e.restarts, ram := memWrite 0#8 0 img [], pc := w32 (leField d 4 4), regions := regionsOf d }) b
  b1.onPol fun x => { x with chans := x.chans.mapIdx fun c ch => if mask.testBit c then { DmaChan.reset with owner := some p } else if ch.owner = some p then DmaChan.reset else ch }

end Sys2Proof.Machine
end

