-- ==== Sys2Proof/Machine/Settings.lean ====
section
/-! DEFINITION. The stored settings as a whole: what a settings copy carries, and how a bundle takes its settings (R505 to R508). -/

namespace Sys2Proof.Machine

/-- The settings in force (R505): every chapter's stored settings. -/
def Block.settings (b : Block) : Settings :=
  { rateCfg := b.sense.rateCfg
    win0 := (b.sense.win0.locked, b.sense.win0.nReq)
    win1 := (b.sense.win1.locked, b.sense.win1.nReq)
    shutter := b.sense.segs.map fun g => match g.pendingMode with
      | some m => m.1
      | none => g.compensated
    thMap := b.sense.cells.map (·.thIdx)
    curves := b.sense.segs.map (·.curve)
    rsh := b.sense.rsh
    lossMode := b.leash.lossMode
    broddaMs := b.leash.broddaMs
    pullUp := b.bark.pullUp
    balEn := b.bal.en && b.bal.disabling.isNone
    balance := b.bal.policy
    slots := b.flt.slots
    slotMap := b.flt.slotMap
    filter := b.flt.config
    cnv := b.cnv.set
    coefs := b.cnv.phases.map (·.comp.coef)
    imp := { set := b.imp.set, interval := b.imp.interval, hslot := b.imp.hslot, growWarn := b.imp.growWarn, outWarn := b.imp.outWarn, zts := b.imp.zts, en := b.imp.en }
    loop := b.loop.set
    tSel := b.thm.tSel
    thIdx := b.thm.thIdx
    tSet := b.thm.tSet
    kpT := b.thm.kpT
    kiT := b.thm.kiT
    fsDemand := b.thm.fsDemand
    hibDemand := b.thm.hibDemand
    fanPumps := b.thm.fps.map fun f => { map := { f.map with override := none }, inv := f.inv, ppr := f.ppr, tachMin := f.tachMin }
    louvres := b.thm.lvs.map fun v =>
      { map := { v.map with override := none }, fbLo := v.fbLo, fbHi := v.fbHi, kp := v.kp, ki := v.ki, db := v.db, umax := v.umax, friction := v.friction, frSet := v.frSet }
    preI := b.latch.preI
    preTmax := b.latch.preTmax
    ip := match b.net.ipNext with
      | some p => p.1
      | none => b.net.ip
    ptp := b.net.ptp.set
    cans := b.net.cans.map (·.set)
    canFilters := b.net.cans.map fun c => (c.filters, c.fltLen) }

/-- The reset value that each chapter gives for every setting (R507 rule 3). -/
def Settings.defaults : Settings := Block.new.settings

/-- Item `i` of a list of settings, or what the machine holds. -/
def pick {α : Type} (l : List α) (i : Nat) (x : α) : α := l.getD i x

/-- Take settings of sensing, leash and balancing. -/
def takeSensing (s : Settings) (b : Block) : Block :=
  let win (p : Bool × Nat) (w : Window) : Window := ({ w with locked := p.1, nReq := p.2 } : Window).restart (rateTicks b.sense.rate) s.cnv.tc (b.sys.now + 1)
  let b1 := b.onSense fun x => { x with
    rateCfg := s.rateCfg
    win0 := if (x.win0.locked, x.win0.nReq) = s.win0 then x.win0 else win s.win0 x.win0
    win1 := if (x.win1.locked, x.win1.nReq) = s.win1 then x.win1 else win s.win1 x.win1
    rsh := s.rsh
    cells := x.cells.mapIdx fun c y => { y with thIdx := pick s.thMap c y.thIdx }
    segs := x.segs.mapIdx fun n g =>
      let m := pick s.shutter n g.compensated
      { g with curve := pick s.curves n g.curve, pendingMode := if m = g.compensated then none else some (m, b.sys.now) } }
  let b2 := b1.onLeash fun h => { h with lossMode := s.lossMode, broddaMs := s.broddaMs }
  let b3 := b2.onBark fun k => { k with pullUp := s.pullUp }
  b3.onBal fun x => { x with en := s.balEn, policy := s.balance }

/-- Take settings of filters, impedance, loops and the thermal outputs. -/
def takeLoops (s : Settings) (b : Block) : Block :=
  let b1 := b.onFlt fun f => { f with slots := s.slots, slotMap := s.slotMap, config := s.filter }
  let b2 := b1.onImp fun i => { i with
    set := s.imp.set, interval := s.imp.interval, hslot := s.imp.hslot, growWarn := s.imp.growWarn, outWarn := s.imp.outWarn, zts := s.imp.zts, en := s.imp.en
    state := if s.imp.en = true ∧ i.state = .disabled then .idle else if s.imp.en = false ∧ i.job.isNone = true then .disabled else i.state
    nextDue := if s.imp.interval = 0 then none else some (i.nextDue.getD (b.sys.now + s.imp.interval * secT)) }
  let b3 := b2.onLoop fun l => { l with set := s.loop, modeDue := true, srcDue := true }
  b3.onThm fun t => { t with
    tSel := s.tSel, thIdx := s.thIdx, tSet := s.tSet, kpT := s.kpT, kiT := s.kiT, fsDemand := s.fsDemand, hibDemand := s.hibDemand
    fps := t.fps.mapIdx fun k f => match s.fanPumps[k]? with
      | some x => { f with map := { x.map with override := f.map.override }, inv := x.inv, ppr := x.ppr, tachMin := x.tachMin }
      | none => f
    lvs := t.lvs.mapIdx fun k v => match s.louvres[k]? with
      | some x => { v with map := { x.map with override := v.map.override }, fbLo := x.fbLo, fbHi := x.fbHi, kp := x.kp, ki := x.ki, db := x.db, umax := x.umax,
                           friction := x.friction, frSet := x.frSet }
      | none => v }

/-- Take settings of the converter, the precharge and the networks: controllers follow their EN, PTP restarts when its settings change (R390, R401). -/
def takePlant (s : Settings) (b : Block) : Block :=
  let b1 := b.onCnv fun c => { c with
    set := s.cnv
    phases := c.phases.mapIdx fun k p => { p with comp := { p.comp with coef := pick s.coefs k p.comp.coef } } }
  let b2 := applyMask s.cnv.phMask b1
  let b3 := b2.onLatch fun l => { l with preI := s.preI, preTmax := s.preTmax }
  let b4 := b3.onNet fun n => { n with
    ip := s.ip, ipNext := none
    cans := n.cans.mapIdx fun k c => { c with set := pick s.cans k c.set, filters := (pick s.canFilters k (c.filters, c.fltLen)).1, fltLen := (pick s.canFilters k (c.filters, c.fltLen)).2 } }
  let b5 := (List.range 2).foldl (fun b k =>
    if (b.can k).set.en && !(b.can k).on then startCan k b else if !(b.can k).set.en && (b.can k).on then onCan k (fun c => { c with on := false }) b else b) b4
  if b.net.ptp.set = s.ptp then b5 else restartPtp (onPtp (fun p => { p with set := s.ptp }) b5)

/-- The settings become those in force. -/
def takeSettings (s : Settings) (b : Block) : Block :=
  (takePlant s (takeLoops s (takeSensing s b))).touch ([8, 0x10, 0x40, 0x41, 0x42, 0x45, 0x46, 0x47] ++ fltTiles ++ loopTiles ++ thmTiles ++ cnvTiles ++ netTiles)

/-! ### Copies (R505, R507) -/

/-- The copies of a slot's area. -/
def UpdPart.copies (u : UpdPart) (slot : Nat) : Option SetCopy × Option SetCopy := if slot = 0 then (u.setA0, u.setA1) else (u.setB0, u.setB1)

/-- A copy with a valid CRC. -/
def validCopy (c : Option SetCopy) : Option SetCopy := match c with
  | some x => if x.valid then some x else none
  | none => none

/-- The copy in force of an area: valid, with the higher GEN (R505). -/
def UpdPart.copyInForce (u : UpdPart) (slot : Nat) : Option SetCopy :=
  match validCopy (u.copies slot).1, validCopy (u.copies slot).2 with
  | some x, some y => if x.gen < y.gen then some y else some x
  | some x, none => some x
  | none, c => c

/-- Copy 0 of the area is in force. -/
def UpdPart.zeroInForce (u : UpdPart) (slot : Nat) : Bool := match validCopy (u.copies slot).1, validCopy (u.copies slot).2 with
  | some x, some y => decide (y.gen ≤ x.gen)
  | some _, none => true
  | none, _ => false

/-- Put a copy into an area. -/
def putCopy (slot : Nat) (zero : Bool) (c : Option SetCopy) (b : Block) : Block := b.onUpd fun u =>
  match slot, zero with
  | 0, true => { u with setA0 := c }
  | 0, false => { u with setA1 := c }
  | _, true => { u with setB0 := c }
  | _, false => { u with setB1 := c }

/-- The result of R507: which rule applies, and the settings. -/
structure Taken where
  origin : Nat
  dflt : Bool
  gen : Nat
  from_ : Nat
  body : Settings
  deriving DecidableEq, Repr

/-- The source of rule 2: schema and body (R507). -/
def Block.settingsSource (b : Block) (live : Bool) (slot : Nat) : Option (Nat × Settings) :=
  if live then some (b.upd.setSchema, b.settings) else (b.upd.copyInForce (1 - slot)).map fun c => (c.schema, c.body)

/-- How the bundle of schema `s` and oldest schema `m` in `slot` takes its settings (R507); a migration keeps every value (log entry 48). -/
def Block.chooseSettings (b : Block) (live : Bool) (slot s m : Nat) : Taken :=
  let src := b.settingsSource live slot
  let rule2 : Taken := match src with
    | some x =>
      if m ≤ x.1 ∧ x.1 ≤ s then { origin := 1, dflt := false, gen := 0, from_ := x.1, body := x.2 }
      else { origin := 2, dflt := true, gen := 0, from_ := x.1, body := { Settings.defaults with ip := x.2.ip, ptp := x.2.ptp } }
    | none => { origin := 2, dflt := true, gen := 0, from_ := 0, body := Settings.defaults }
  match b.upd.copyInForce slot with
  | some c => if c.schema = s then { origin := c.origin, dflt := c.dflt, gen := c.gen, from_ := s, body := c.body } else rule2
  | none => rule2

/-- The bundle in `slot` takes its settings; under rules 2 and 3 the result is to be written into its own slot within `within_` ticks (R499, R506, R507). -/
def settingsTake (live : Bool) (slot s m within_ : Nat) (b : Block) : Block :=
  let own := match b.upd.copyInForce slot with
    | some c => decide (c.schema = s)
    | none => false
  let t := b.chooseSettings live slot s m
  let b1 := (takeSettings t.body b).onUpd fun u => { u with
    setSchema := s, setOrigin := t.origin, dflt := t.dflt, setGen := t.gen, setDue := if own then none else some (b.sys.now + within_) }
  if own then b1 else if t.origin = 1 then note .setMigrated noArg [t.from_, s] b1 else note .setDefaults noArg [] b1

end Sys2Proof.Machine
end

