-- ==== Sys2Proof/Machine/Firmware.lean ====
section
/-! DEFINITION. Firmware update: the slot-select record, the update commands, preparation, confirmation, settings writes (R485 to R511). -/

namespace Sys2Proof.Machine

/-- Tiles of identity and update. -/
def updTiles : List Nat := [1, 0x10]

/-! ### Slot-select record (R494, R495) -/

/-- Copy A of the record is in force. -/
def UpdPart.recAInForce (u : UpdPart) : Bool := u.recA.valid && (!u.recB.valid || decide (u.recB.gen ≤ u.recA.gen))

/-- The record in force; with no valid copy, a confirmed record of slot A (R495). -/
def UpdPart.record (u : UpdPart) : SlotRec := if u.recAInForce then u.recA else if u.recB.valid then u.recB else SlotRec.none_

/-- Write a record into the copy not in force, with GEN one above (R495). -/
def writeRecord (r : SlotRec) (b : Block) : Block := (b.onUpd fun u =>
  let n := { r with valid := true, gen := (u.record.gen + 1) % 4294967296 }
  if u.recAInForce then { u with recB := n } else { u with recA := n }).touch updTiles

/-- BVER that the bundle of a slot declares. -/
def Block.slotBver (b : Block) (slot : Nat) : Nat := (b.bundleHead slot).bver

/-- A confirmed record that names a slot. -/
def confirmedRecord (slot : Nat) (b : Block) : SlotRec :=
  { b.upd.record with active := slot, trial := false, tries := 0, abver := b.slotBver slot, pbver := b.slotBver b.upd.record.prev }

/-- An unconfirmed record that names a slot, to fall back to the running one (R497, R498). -/
def trialRecord (slot : Nat) (b : Block) : SlotRec :=
  { valid := true, gen := 0, active := slot, trial := true, prev := b.sec.slot, tries := 0, abver := b.slotBver slot, pbver := b.slotBver b.sec.slot, actTime := b.optime % 4294967296 }

/-- The inactive slot (R486). -/
def Block.inactive (b : Block) : Nat := 1 - b.sec.slot

/-- A running update command completes (R490). -/
def endUpdate (st : Status) (data : List Byte) (b : Block) : Block := match b.upd.src with
  | some src => complete src st data (b.onUpd fun u => { u with src := none })
  | none => b

/-- Number of blocks of the update (R492). -/
def UpdPart.blocks (u : UpdPart) : Nat := (u.length + 1023) / 1024

/-- The lowest unwritten block. -/
def UpdPart.firstMiss (u : UpdPart) : Option Nat := (List.range u.blocks).find? fun k => !u.written.contains k

/-! ### Receiving (R490 to R492) -/

/-- UPD_BEGIN (R490, R491): the bundle region and the settings area of the inactive slot are erased; the erase ends by UPD_ERASE_DONE. -/
def ruleUpdBegin (src : Src) (length bcrc : Nat) (b : Block) : HostRule :=
  { opcode := 0x0B01, owner := true
    stateOk := decide (b.upd.ustate = 0 ∨ b.upd.ustate = 5) && decide (b.sys.mstate ≠ .boot ∧ b.sys.mstate ≠ .hibernate) && !b.pwr.resCtl
    param := andThen (need (decide (2048 ≤ length ∧ length ≤ 14680064))) (if b.sec.dstate = 0 then none else some .denied)
    act := fun b =>
      let base := slotBase b.inactive
      let b1 := putCopy b.inactive true none (putCopy b.inactive false none b)
      let b2 := b1.onUpd fun u => { u with
        ustate := 1, length := length, bcrc := bcrc, written := [], waiting := none, src := some src, flash := memErase base (base + regionSize) u.flash
        newBver := 0, nSchema := 0, nSchemaMin := 0, nSaif := 0, hashes := [], lastErr := 0, errTgt := 0, reverting := false }
      (note .updStarted noArg [length] b2).touch updTiles }

def execUpdBegin (src : Src) (length bcrc : Nat) (s : State) := effect (host src (ruleUpdBegin src length bcrc)) s

/-- UPD_ERASE_DONE (R489, R491). A failed erase completes with FAULT, the one status of R17 for it (log entry 50). -/
def doUpdEraseDone (ok : Bool) (b : Block) : Block :=
  if b.upd.ustate ≠ 1 then b
  else (endUpdate (if ok then .ok else .fault) [] (b.onUpd fun u => { u with ustate := if ok then 2 else 5 })).touch updTiles

def execUpdEraseDone (ok : Bool) (s : State) := effect (doUpdEraseDone ok) s

/-- A block whose programming failed or was cut: its sector erased, its four blocks unwritten (R492). -/
def failBlock (src : Src) (off : Nat) (b : Block) : Block :=
  let sec := off / 4096
  let base := slotBase b.inactive + 4096 * sec
  let b1 := b.onUpd fun u => { u with
    waiting := none, flash := memErase base (base + 4096) u.flash, written := u.written.filter fun k => k / 4 != sec }
  (complete src .fault [] (note .updBlockFail noArg [sec] b1)).touch updTiles

/-- Program a block and read it back (R492). -/
def programBlock (src : Src) (off : Nat) (data : List Byte) (ok : Bool) (b : Block) : Block :=
  if ok then
    let b1 := b.onUpd fun u => { u with
      waiting := none, flash := memWrite 0xFF#8 (slotBase b.inactive + off) data u.flash, written := insertIdx (off / 1024) u.written }
    (complete src .ok [] b1).touch updTiles
  else failBlock src off b

/-- UPD_BLOCK (R492); `ok` is the read-back of its programming. It waits while PFWARN stands (R486). -/
def ruleUpdBlock (src : Src) (off : Nat) (data : List Byte) (ok : Bool) (b : Block) : HostRule :=
  { opcode := 0x0B02, owner := true, stateOk := decide (b.upd.ustate = 2)
    param := need (decide (off % 1024 = 0 ∧ 1 ≤ data.length ∧ data.length ≤ 1024 ∧ off + data.length ≤ b.upd.length ∧ (data.length = 1024 ∨ off + data.length = b.upd.length)))
    act := fun b =>
      if b.upd.written.contains (off / 1024) then
        (if b.flashAt b.inactive off data.length = data then complete src .ok [] b else complete src .badParam [] b)
      else if b.pfWarn then b.onUpd fun u => { u with waiting := some (src, off, data) }
      else programBlock src off data ok b }

def execUpdBlock (src : Src) (off : Nat) (data : List Byte) (ok : Bool) (s : State) := effect (host src (ruleUpdBlock src off data ok)) s

/-- Programming resumes when PFWARN clears (R486). -/
def resumeBlock (b : Block) : Block := match b.upd.waiting with
  | some (src, off, data) => programBlock src off data true b
  | none => b

/-- Programming that waited is cut by POWER_LOST (R486, R492). -/
def cutBlock (b : Block) : Block := match b.upd.waiting with
  | some (src, off, _) => failBlock src off b
  | none => b

/-! ### Verification (R493) -/

/-- UPD_VERIFY: accepted with every block present; the evaluation ends by UPD_VERIFY_DONE. -/
def ruleUpdVerify (src : Src) (b : Block) : HostRule :=
  { opcode := 0x0B03, owner := true, stateOk := decide (b.upd.ustate = 2) && decide (b.upd.firstMiss = none), param := none
    act := fun b => (b.onUpd fun u => { u with ustate := 3, src := some src }).touch updTiles }

def execUpdVerify (src : Src) (s : State) := effect (host src (ruleUpdVerify src)) s

/-- The first image of a slot in TABLE order that fails, with its code; the descriptor checks of R408 count as code 6 (log entry 47). -/
def Block.imagesFault (b : Block) (slot : Nat) : Option (Nat × Nat) :=
  let other (t : Nat) : Nat := match b.imageOff slot (if t = 7 then 8 else 7) with
    | some off => leField (b.flashAt slot (off + 256) 528) 10 2
    | none => 0
  ((b.bundleHead slot).images.map fun e =>
    let c := b.imageCode slot e.offset e.target
    (e.target, if c = 0 ∧ 7 ≤ e.target ∧ (descriptorFault (b.flashAt slot (e.offset + 256) 528) (e.target - 7) (other e.target)).isSome = true then 6 else c)).find? fun p => p.2 != 0

/-- The result of the evaluation: code and TARGET (R493). -/
def Block.verifyResult (b : Block) : Nat × Nat :=
  let slot := b.inactive
  let h := b.bundleHead slot
  if crc32c (b.flashAt slot 0 b.upd.length) ≠ b.upd.bcrc then (8, 0)
  else if b.headerOk slot = false ∨ h.length ≠ b.upd.length then (7, 0)
  else match b.imagesFault slot with
    | some p => (p.2, p.1)
    | none =>
      if h.schema = b.leadWord slot 0 ∧ h.schemaMin = b.leadWord slot 1 ∧ h.saif = b.leadWord slot 2 ∧ b.saSaif slot = b.leadWord slot 2 then (0, 0) else (9, 0)

/-- SHA-384 of every image of a slot by TARGET. -/
def Block.slotHashes (b : Block) (slot : Nat) : List (Nat × List Byte) := (b.bundleHead slot).images.map fun e => (e.target, b.imageHash slot e.offset)

/-- UPD_VERIFY_DONE (R493). -/
def doUpdVerifyDone (b : Block) : Block :=
  if b.upd.ustate ≠ 3 then b
  else
    let r := b.verifyResult
    let slot := b.inactive
    let data := leBytes 1 r.1 ++ leBytes 1 r.2
    if r.1 = 0 then
      let b1 := b.onUpd fun u => { u with
        ustate := 4, lastErr := 0, errTgt := 0, newBver := b.slotBver slot, nSchema := b.leadWord slot 0, nSchemaMin := b.leadWord slot 1, nSaif := b.leadWord slot 2
        hashes := b.slotHashes slot }
      (endUpdate .ok data (note .updVerified noArg [b.slotBver slot] b1)).touch updTiles
    else
      let b1 := b.onUpd fun u => { u with ustate := 5, lastErr := r.1, errTgt := r.2 }
      (endUpdate (if 3 ≤ r.1 ∧ r.1 ≤ 5 then .denied else .fault) data (note .updVerifyFail noArg [r.1, r.2] b1)).touch updTiles

def execUpdVerifyDone (s : State) := effect doUpdVerifyDone s

/-! ### Activation (R497 to R499) -/

/-- The SAIF condition of R497. -/
def Block.saifMatches (b : Block) : Bool := decide (b.saSaif b.inactive = b.upd.saifRun)

/-- Every condition of R497 but the SAIF one. -/
def Block.liveOk (b : Block) : Bool :=
  (decide (b.sys.mstate = .park) || decide (b.sys.mstate = .run) || decide (b.sys.mstate = .fault) || decide (b.sys.mstate = .safe))
  && !b.pwr.resCtl && b.pwr.resOk && b.pwr.kenOk && !b.hinge && decide (b.sec.dstate ≤ 1) && !b.sec.closing
  && (decide (b.leadWord b.inactive 1 ≤ b.upd.setSchema ∧ b.upd.setSchema ≤ b.leadWord b.inactive 0) || decide (b.sys.mstate ≠ .run))

/-- Every image of a slot passes R466 again and matches its recorded SHA-384 (R498 step 1). -/
def Block.stillGood (b : Block) (slot : Nat) : Bool :=
  (b.imagesFault slot).isNone && (b.bundleHead slot).images.all fun e => match lookupKey b.upd.hashes e.target with
    | some h => h == b.imageHash slot e.offset
    | none => true

/-- UPD_ACTIVATE (R497, R498): armed for the next BOOT when only the SAIF condition fails; otherwise prepared, and the pause follows. Going back in REVERTING keeps
the confirmed record that names the previous slot (log entry 51). -/
def ruleUpdActivate (src : Src) (b : Block) : HostRule :=
  { opcode := 0x0B04, owner := true, stateOk := decide (b.upd.ustate = 4 ∨ b.upd.ustate = 10) && b.liveOk, param := none
    act := fun b =>
      let rev := decide (b.upd.ustate = 10)
      if b.saifMatches = false then
        let b1 := (writeRecord (trialRecord b.inactive b) b).onUpd fun u => { u with ustate := 9 }
        complete src .ok (leBytes 1 1) (note .updActivated noArg [b.slotBver b.inactive, b.upd.lastPause] b1)
      else if b.stillGood b.inactive then
        let b1 := if rev then b else writeRecord (trialRecord b.inactive b) b
        (b1.onUpd fun u => { u with ustate := 6, src := some src, reverting := rev }).touch updTiles
      else (complete src .fault [] (b.onUpd fun u => { u with ustate := 5 })).touch updTiles }

def execUpdActivate (src : Src) (s : State) := effect (host src (ruleUpdActivate src)) s

/-! ### Confirmation (R468, R502, R503) -/

/-- The key-store controller writes the copy not in force, with KSGEN one higher (R471; log entry 52). -/
def writeStore (f : KeyStore → KeyStore) (b : Block) : Block := (b.onSec fun s =>
  let n := { f s.store with valid := true, gen := (s.store.gen + 1) % 4294967296 }
  if s.ksA.valid && (!s.ksB.valid || decide (s.ksB.gen ≤ s.ksA.gen)) then { s with ksB := n } else { s with ksA := n }).touch [0x15]

/-- SVN of the image of a TARGET of a slot. -/
def Block.targetSvn (b : Block) (slot target : Nat) : Option Nat := (b.imageOff slot target).map fun off => b.imageSvn slot off

/-- Each minimum rises to the SVN of the confirmed image of its target, if that is higher (R468, R502). -/
def raiseMinima (b : Block) : Block :=
  let slot := b.sec.slot
  let v := (([1, 2, 3, 4, 5, 6].filterMap fun t => b.targetSvn slot t).min?).getD 0
  let p0 := max b.sec.store.minP0 ((b.targetSvn slot 7).getD 0)
  let p1 := max b.sec.store.minP1 ((b.targetSvn slot 8).getD 0)
  let b1 := if b.sec.vmin < v then (note .svnRaised noArg [1, v] (b.onSec fun s => { s with vmin := min 64 v })).touch [0x14] else b
  let up0 := decide (b.sec.store.minP0 < p0)
  let up1 := decide (b.sec.store.minP1 < p1)
  let b2 := if up0 || up1 then writeStore (fun k => { k with minP0 := p0, minP1 := p1 }) b1 else b1
  let b3 := if up0 then note .svnRaised noArg [7, p0] b2 else b2
  if up1 then note .svnRaised noArg [8, p1] b3 else b3

/-- UPD_CONFIRM (R502). -/
def ruleUpdConfirm (src : Src) (b : Block) : HostRule :=
  { opcode := 0x0B05, owner := true, stateOk := decide (b.upd.ustate = 8), param := none
    act := fun b =>
      let b1 := raiseMinima (writeRecord (confirmedRecord b.sec.slot b) b)
      let b2 := b1.onUpd fun u => { u with ustate := 0, confEnd := none, dflt := false }
      let b3 := if b.upd.dflt then settingsDue b2 else b2
      (complete src .ok [] (note .updConfirmed noArg [] b3)).touch updTiles }

def execUpdConfirm (src : Src) (s : State) := effect (host src (ruleUpdConfirm src)) s

/-- The trial is given up: a confirmed record names PREV (R503). -/
def revertTrial (b : Block) : Block :=
  ((writeRecord (confirmedRecord b.upd.record.prev b) b).onUpd fun u => { u with ustate := 10, confEnd := none }).touch updTiles

/-- UPD_ABORT (R489, R503). A command of the update that still runs completes with FAULT (log entry 50). -/
def ruleUpdAbort (src : Src) (b : Block) : HostRule :=
  { opcode := 0x0B06, owner := true
    stateOk := decide ((1 ≤ b.upd.ustate ∧ b.upd.ustate ≤ 5) ∨ b.upd.ustate = 8 ∨ b.upd.ustate = 9), param := none
    act := fun b =>
      let b1 :=
        if b.upd.ustate = 8 then revertTrial b
        else if b.upd.ustate = 9 then (writeRecord (confirmedRecord b.sec.slot b) b).onUpd fun u => { u with ustate := 0 }
        else
          let b0 := endUpdate .fault [] b
          let b0 := match b0.upd.waiting with
            | some w => complete w.1 .fault [] (b0.onUpd fun u => { u with waiting := none })
            | none => b0
          b0.onUpd fun u => { u with ustate := 0 }
      (complete src .ok [] (note .updAborted noArg [] b1)).touch updTiles }

def execUpdAbort (src : Src) (s : State) := effect (host src (ruleUpdAbort src)) s

/-- UPD_CONFIRM_TIMEOUT (R503): at the deadline. -/
def doUpdConfirmTimeout (b : Block) : Block :=
  match b.upd.confEnd with
  | none => b
  | some t => if b.upd.ustate = 8 then note .updConfirmTimeout noArg [] (revertTrial (b.at t)) else b

def execUpdConfirmTimeout (s : State) := effect doUpdConfirmTimeout s

def ruleUpdGetStatus (src : Src) (_b : Block) : HostRule :=
  { opcode := 0x0B07, owner := false, stateOk := true, param := none, act := fun b => complete src .ok (wordsBytes ((b.frontTile 0x10).take 14)) b }

def execUpdGetStatus (src : Src) (s : State) := effect (host src (ruleUpdGetStatus src)) s

/-! ### Settings writes (R506) -/

/-- SETTINGS_WRITE (R506): the copy not in force of the running slot is erased and programmed with GEN one higher; `ok` is the read-back. -/
def doSettingsWrite (ok : Bool) (b : Block) : Block :=
  match b.upd.setDue with
  | none => b
  | some t =>
    if b.sys.mstate = .off ∨ b.pfWarn = true then b
    else
      let due := match b.upd.setAt with
        | some a => max t (a + 5 * secT)
        | none => t
      let b1 := b.at due
      let slot := b1.sec.slot
      let gen := match b1.upd.copyInForce slot with
        | some c => c.gen + 1
        | none => 1
      let c : SetCopy := { valid := ok, schema := b1.upd.setSchema, gen := gen % 4294967296, wbver := b1.upd.bver, origin := b1.upd.setOrigin, dflt := b1.upd.dflt, body := b1.settings }
      let b2 := (putCopy slot (!b1.upd.zeroInForce slot) (some c) b1).onUpd fun u => { u with setDue := none, setAt := some b1.sys.now, setGen := if ok then c.gen else u.setGen }
      (if ok then b2 else note .setWriteFail noArg [] b2).touch updTiles

def execSettingsWrite (ok : Bool) (s : State) := effect (doSettingsWrite ok) s

end Sys2Proof.Machine
end

