-- ==== Sys2Proof/Machine/Sessions.lean ====
section
/-! DEFINITION. Sessions, ownership and the system commands (R331 to R339, R343, R344). -/

namespace Sys2Proof.Machine

/-- Tiles of the module state and sessions. -/
def sysTiles : List Nat := [4, 5]

/-- The owner as a reply byte and as a record's index: 0xFF none (R343, R513). -/
def Block.ownerByte (b : Block) : Nat := b.ix.owner.getD 0xFF

/-- Ownership changes: OWNER_CHANGE, the old owner's authorisation window closes; an interval without an owner loses the packet source (R258, R315, R333, R351). -/
def setOwner (o : Option Nat) (b : Block) : Block :=
  if b.ix.owner = o then b
  else
    let b1 := note .ownerChange (o.getD 0xFF) [b.ownerByte] (b.onIx fun x => { x with owner := o })
    let b2 := match b.ix.owner with
      | some i => closeWindow i b1
      | none => b1
    (if o.isNone then loseSource 0 b2 else b2).touch sysTiles

/-- A session closes: its cache and what is bound to it are gone; the tag last used stays with the index (R315, R331 to R333, R476). -/
def closeSession (i : Nat) (b : Block) : Block :=
  if (b.session i).isOpen = false then b
  else
    let b1 := note .sessionClose i [(b.session i).ip] (b.onIx fun x => { x with sessions := modAt x.sessions i fun n => { Session.closed with stag := n.stag } })
    let b2 := if b.ix.owner = some i then setOwner none b1 else b1
    let b3 := (closeWindow i b2).onLatch fun l => { l with nonces := l.nonces.filter fun x => x.1 != i }
    let b4 := b3.onSec fun s => { s with nonce := match s.nonce with
      | some n => if n.1 = i then none else some n
      | none => none }
    b4.touch (0x16 :: sysTiles)

/-- A tag drawn for an index: not zero and not the tag last used there (R331; log entry 3). -/
def newTag (draw last : Nat) : Nat := (([draw % 65536, (draw + 1) % 65536, (draw + 2) % 65536].find? fun t => t != 0 && t != last)).getD 1

/-- SYS_SESSION_OPEN (R331, R343): the lowest free index, or BUSY. The request comes from an address and port, with a SEQ of its own. -/
def doSysSessionOpen (ip port seq timeout mtu : Nat) (b : Block) : Block :=
  let answer (ix tag st : Nat) (data : List Byte) (b : Block) : Block :=
    sendReply { ip := ip, port := port, session := ix, stag := tag, seq := seq, opcode := 0x0101, status := st, pend := false, mtu := 1500, data := data, mask := 0xFFFF } b
  if b.sys.mstate = .off ∨ b.n0Up = false ∨ b.upd.pauseAt.isSome = true then b
  else if !decide (timeout ≤ 60 ∧ 576 ≤ mtu ∧ mtu ≤ 9000) then answer 0xFF 0 Status.badParam.code [] b
  else match (List.range 4).find? fun i => !(b.session i).isOpen with
    | none => answer 0xFF 0 Status.busy.code [] b
    | some i =>
      let tag := newTag b.draw.toNat (b.session i).stag
      let t := if timeout = 0 then 10 else timeout
      let n : Session := { isOpen := true, stag := tag, ip := ip, port := port, mtu := mtu, timeout := t, lastHeard := b.sys.now, lastSeq := 0, cache := [] }
      let b1 := b.drew.onIx fun x => { x with sessions := x.sessions.set i n }
      let b2 := note .sessionOpen i [ip] b1
      (answer i tag 0 (leBytes 1 i ++ leBytes 2 tag ++ leBytes 2 mtu ++ leBytes 2 t ++ leBytes 1 b2.ownerByte ++ leBytes 1 b2.sys.mstate.code) b2).touch sysTiles

def execSysSessionOpen (ip port seq timeout mtu : Nat) (s : State) := effect (doSysSessionOpen ip port seq timeout mtu) s

/-- SYS_SESSION_CLOSE (R332). -/
def ruleSysSessionClose (src : Src) (_b : Block) : HostRule :=
  { opcode := 0x0102, owner := false, stateOk := true, param := none, act := fun b => closeSession src.index (complete src .ok [] b) }

def execSysSessionClose (src : Src) (s : State) := effect (host src (ruleSysSessionClose src)) s

/-- SESSION_TIMEOUT (R332): no request has passed check 5 for TIMEOUT. -/
def doSessionTimeout (i : Nat) (b : Block) : Block :=
  if (b.session i).isOpen then closeSession i (b.at ((b.session i).lastHeard + (b.session i).timeout * secT)) else b

def execSessionTimeout (session : Fin 4) (s : State) := effect (doSessionTimeout session) s

/-- When the next PEND packet of a request accepted at `t` falls due: 50 ms after acceptance, then every second (R336). -/
def pendDue (t now : Nat) : Nat := if now < t + 50 * msT then t + 50 * msT else t + 50 * msT + ((now - t - 50 * msT) / secT + 1) * secT

/-- PEND_PACKET (R336): none are sent during an activation pause (R342). -/
def doPendPacket (i seq : Nat) (b : Block) : Block :=
  match b.entry? i seq with
  | some e => if e.running = false ∨ b.upd.pauseAt.isSome = true then b else sendPend i seq (b.at (pendDue e.accepted b.sys.now))
  | none => b

def execPendPacket (session : Fin 4) (seq : Nat) (s : State) := effect (doPendPacket session seq) s

/-- SYS_PING (R343). -/
def ruleSysPing (src : Src) (_b : Block) : HostRule :=
  { opcode := 0x0103, owner := false, stateOk := true, param := none
    act := fun b => complete src .ok (leBytes 4 b.img.epoch ++ leBytes 1 b.sys.mstate.code ++ leBytes 1 b.ownerByte) b }

def execSysPing (src : Src) (s : State) := effect (host src (ruleSysPing src)) s

/-- SYS_TAKE_OWNER (R333). -/
def ruleSysTakeOwner (src : Src) (_b : Block) : HostRule :=
  { opcode := 0x0104, owner := false, stateOk := true, param := none
    act := fun b => match b.ix.owner with
      | none => complete src .ok [] (setOwner (some src.index) b)
      | some i => complete src (if i = src.index then .ok else .busy) [] b }

def execSysTakeOwner (src : Src) (s : State) := effect (host src (ruleSysTakeOwner src)) s

/-- SYS_RELEASE_OWNER (R333, R343). -/
def ruleSysReleaseOwner (src : Src) (target : Nat) (b : Block) : HostRule :=
  { opcode := 0x0105, owner := true, stateOk := true
    param := need (target == 0xFF || (decide (target < 4) && target != src.index && (b.session target).isOpen))
    act := fun b => complete src .ok [] (setOwner (if target = 0xFF then none else some target) b) }

def execSysReleaseOwner (src : Src) (target : Nat) (s : State) := effect (host src (ruleSysReleaseOwner src target)) s

/-- SYS_SET_MTU (R326, R343). -/
def ruleSysSetMtu (src : Src) (mtu : Nat) (_b : Block) : HostRule :=
  { opcode := 0x0106, owner := false, stateOk := true, param := need (decide (576 ≤ mtu ∧ mtu ≤ 9000))
    act := fun b => complete src .ok [] (b.onIx fun x => { x with sessions := modAt x.sessions src.index fun n => { n with mtu := mtu } }) }

def execSysSetMtu (src : Src) (mtu : Nat) (s : State) := effect (host src (ruleSysSetMtu src mtu)) s

/-- The cached reply that SYS_RESEND names, if it can be resent with that mask (R339). -/
def Block.resendable (b : Block) (i seq mask : Nat) : Option CacheEntry :=
  match b.entry? i seq with
  | some e =>
    let r := sessionReply i seq e.opcode e.status e.mtu e.data b
    if e.running || decide (e.opcode = 0x0107 ∨ mask = 0 ∨ 2 ^ r.segCount ≤ mask) then none else some e
  | none => none

/-- SYS_RESEND (R339). -/
def ruleSysResend (src : Src) (seq mask : Nat) (b : Block) : HostRule :=
  { opcode := 0x0107, owner := false, stateOk := true, param := need (b.resendable src.index seq mask).isSome
    act := fun b => match b.resendable src.index seq mask with
      | some e =>
        let b1 := sendReply { sessionReply src.index seq e.opcode e.status e.mtu e.data b with mask := mask } (b.onIx fun x => { x with resent := satAdd 65535 x.resent 1 })
        complete src .ok (leBytes 1 (membersOf 16 mask).length) b1
      | none => complete src .badParam [] b }

def execSysResend (src : Src) (seq mask : Nat) (s : State) := effect (host src (ruleSysResend src seq mask)) s

/-! ### State commands (R19 to R21, R344) -/

/-- An enabled SDM door input is not released (R305). -/
def Block.doorOpen (b : Block) : Bool := (List.range 8).any fun i => decide (b.siFunc i = 3) && (match b.latch.inputs[i]? with
  | some x => !(decide (x.st = .disabled) || decide (x.st = .released))
  | none => false)

/-- The conditions of SYS_RUN (R344, R508). -/
def Block.runOk (b : Block) : Bool :=
  decide (b.sys.mstate = .park) && decide (b.latch.state = .armed) && decide (b.cnv.st = .idle) && b.latch.preDone && !b.doorOpen
    && !(decide (b.loop.set.lossAct = 3) && b.srcLost b.loop.src) && !b.upd.dflt

/-- SYS_RUN: OK on entry to RUN (R344). -/
def ruleSysRun (src : Src) (b : Block) : HostRule :=
  { opcode := 0x0110, owner := true, stateOk := b.runOk, param := none, act := fun b => complete src .ok [] (enterByCommand .run 0x0110 b) }

def execSysRun (src : Src) (s : State) := effect (host src (ruleSysRun src)) s

/-- The Park command of R19 in RUN: the soft stop starts, or waits for the end of PRECHECK (R231, R235, R344); `src` completes with it. -/
def parkCommand (src : Option Src) (opcode : Nat) (b : Block) : Block :=
  let b0 := startSave 4 b
  match b0.cnv.st with
  | .precheck => b0.onCnv fun c => { c with parkSrc := src, parkCause := (0x0106, [opcode]) }
  | .softstop => b0.onCnv fun c => { c with parkSrc := match src with
      | some x => some x
      | none => c.parkSrc }
  | _ => startSoftstop src (0x0106, [opcode]) b0

/-- SYS_PARK (R235, R344). -/
def ruleSysPark (src : Src) (b : Block) : HostRule :=
  { opcode := 0x0111, owner := true, stateOk := decide (b.sys.mstate = .run ∨ b.sys.mstate = .park), param := none
    act := fun b =>
      if b.sys.mstate = .park then complete src .ok [] b
      else if b.cnv.st = .muzzled ∨ b.cnv.st = .latched then complete src .fault [] b
      else parkCommand (some src) 0x0111 b }

def execSysPark (src : Src) (s : State) := effect (host src (ruleSysPark src)) s

/-- SYS_HIBERNATE (R20, R344). -/
def ruleSysHibernate (src : Src) (b : Block) : HostRule :=
  { opcode := 0x0112, owner := true, stateOk := decide (b.sys.mstate = .park), param := none
    act := fun b => complete src .ok [] (enterByCommand .hibernate 0x0112 b) }

def execSysHibernate (src : Src) (s : State) := effect (host src (ruleSysHibernate src)) s

/-- A cause of FAULT is still present (R19, R344; log entry 54). -/
def Block.causePresent (b : Block) (c : Event × Nat) : Bool :=
  match c.1 with
  | .currentBothLost => b.sense.bothLost
  | .leashLost => b.leash.lostAt.isSome
  | .senseOpenMulti => (b.wire c.2).opened
  | .senseOpenEnd => (b.wire c.2).opened
  | .fltAllSeqLost => decide (b.seqsOk = 0)
  | .cnvLinkOv => b.cnv.phases.any fun p => match p.vLink with
    | some v => decide (b.vlinkMax < v)
    | none => false
  | .contactorFault => decide (1 ≤ c.2 ∧ c.2 ≤ 3) && (match b.latch.outs[c.2 - 1]? with
    | some o => o.wrongAt.isSome
    | none => false)
  | .powerLost => b.pfWarn
  | .bootImageBad => !b.enginesLoaded
  | .debugFullOpen => b.sec.fullCause
  | _ => false

/-- The causes of FAULT still present. -/
def Block.presentCauses (b : Block) : List (Event × Nat) := b.sys.faultCauses.filter b.causePresent

/-- SYS_FAULT_CLEAR (R21, R344). -/
def ruleSysFaultClear (src : Src) (b : Block) : HostRule :=
  { opcode := 0x0113, owner := true, stateOk := decide (b.sys.mstate = .fault), param := none
    act := fun b =>
      let left := b.presentCauses
      let b1 := b.onSys fun y => { y with faultCauses := left }
      if left ≠ [] then complete src .badState (leBytes 1 (min 255 left.length)) b1
      else if b.sys.faultAt = some b.cycle then complete src .fault (leBytes 1 0) b1
      else complete src .ok (leBytes 1 0) (enterByCommand .park 0x0113 b1) }

def execSysFaultClear (src : Src) (s : State) := effect (host src (ruleSysFaultClear src)) s

/-- SYS_WAKE: the Ethernet wake (R170, R171, R344). -/
def ruleSysWake (src : Src) (b : Block) : HostRule :=
  { opcode := 0x0114, owner := false, stateOk := decide (b.sys.mstate = .hibernate), param := none
    act := fun b =>
      let b1 := enterByCommand .park 0x0114 (noteWake 1 b)
      complete src .ok (leBytes 1 b1.sys.mstate.code) b1 }

def execSysWake (src : Src) (s : State) := effect (host src (ruleSysWake src)) s

end Sys2Proof.Machine
end

