-- ==== Sys2Proof/Machine/TilesStack.lean ====
section
/-! DEFINITION. What the writers of the stack's tiles publish: strings, segments, cells, balancing, filters, impedance (R52, R88 to R91, R101, R116, R117,
R141 to R144, R176 to R178, R192, R203, R204). -/

namespace Sys2Proof.Machine

/-! ### Words -/

/-- The 15 data words of a tile; words not given are 0. -/
def pad15 (ws : List Word) : TileData := (ws ++ List.replicate 15 0#32).take 15

/-- A saturating u32, two s16 or u16 halves, a flag as a field of a word. -/
def u32Sat (n : Nat) : Word := w32 (min 4294967295 n)
def halves (hi lo : Nat) : Word := packWord [(31, 16, hi), (15, 0, lo)]
def flag (i : Nat) (f : Bool) : Nat × Nat × Nat := (i, i, b2n f)

/-- Seconds left until a count, a part of a second counted whole (log entry 55). -/
def secsLeft (now at_ : Nat) : Nat := (at_ - now + secT - 1) / secT

/-- The flags of 32 local items of a segment. -/
def mask32 (f : Nat → Bool) : Word := w32 (maskOf ((List.range 32).map f))

/-- A channel in its fine unit as µV or mA words. -/
def fineWord (unit : Int) (v : Option Int) : Word := s32Word (v.map fun x => divNear x unit)

/-! ### Health words (R52, R101) -/

/-- The leash status word. -/
def Block.leashWord (b : Block) : Word :=
  let u0 := (b.lane 0).up
  let u1 := (b.lane 1).up
  packWord [(31, 24, if b.leash.delayKnown then b.leash.delay else 0), (23, 16, min 255 b.leash.missed), (15, 8, min 255 b.leash.flaps),
    flag 5 (b.lane 1).hold.isSome, flag 4 (b.lane 0).hold.isSome, (3, 2, if u0 && u1 then 3 else if u0 then 1 else if u1 then 2 else 0), flag 1 u1, flag 0 u0]

/-- The bark line status word. -/
def Block.barkWord (b : Block) : Word :=
  let k := b.bark
  packWord [(31, 16, min 65535 k.falls), flag 4 k.stuck, flag 3 k.pullUp, flag 2 k.extLat, flag 1 k.drive, flag 0 k.line]

/-! ### Sensing (R88 to R91) -/

/-- Tile 0x0040. -/
def Block.stringTile (b : Block) : TileData :=
  let s := b.sense
  pad15 [s32Word s.strV.last, s32Word s.strV.w0, s32Word s.strV.w1, fineWord 1000 s.cur.last, fineWord 1000 s.cur.w0, fineWord 1000 s.cur.w1,
    fineWord 1000 s.pri.w0, fineWord 1000 s.sec.w0, s32Word s.pwr.last, s32Word s.pwr.w0, s32Word b.vSumW0,
    packWord [flag 11 s.strV.part1, flag 10 s.strV.part0, flag 9 s.win1.lock, flag 8 s.win0.lock, flag 7 s.held, flag 6 s.vsel2, flag 5 s.xchkVOn,
      flag 4 s.vDivOk, flag 3 s.xchkIOn, flag 2 s.iSecOk, flag 1 s.iPriOk, flag 0 s.isel2],
    w32 s.apCount, packWord [(18, 16, s.rate), (15, 0, s.seq)]]

/-- The request and the effective word of a window (R89). -/
def Window.reqWord (w : Window) : Word := packWord [flag 16 w.locked, (12, 0, w.nReq)]
def Window.effWord (w : Window) : Word := packWord [(31, 14, w.m), flag 13 w.lock, (12, 0, w.n)]

/-- Tile 0x0041. -/
def Block.senseConfigTile (b : Block) : TileData :=
  let s := b.sense
  pad15 [packWord [(2, 0, s.rateCfg)], s.win0.reqWord, s.win0.effWord, s.win1.reqWord, s.win1.effWord, w32 (maskOf (s.segs.map fun g => g.compensated)),
    w32 s.rsh, w32 b.cnv.set.tc]

/-- Segment tiles +0 to +4 (R90). -/
def Block.segTile (b : Block) (n t : Nat) : TileData :=
  let g := b.seg n
  let wire (i : Nat) := b.wire (32 * n + i)
  let good (i : Nat) : Bool := (wire i).learned && !(wire i).overLim
  match t with
  | 0 => pad15 [packWord [flag 7 (good 0 && good 32), flag 6 g.twarn, flag 5 (b.goesDown n != decide (n < 8)), flag 4 g.refDis, flag 3 g.refOk,
        flag 2 g.compensated, flag 1 (decide (n < b.nSeg)), flag 0 g.present],
      s32Word g.t2b.last, s32Word g.t2b.w0, s32Word g.t2b.w1, s32Word g.sumW0, w32 (s16Nat g.dieT),
      (match g.refAt with
        | some a => u32Sat ((b.sys.now - a) / usT)
        | none => 0xFFFFFFFF#32),
      ws32 g.refDev]
  | 1 =>
    let th (i : Nat) := b.therm (8 * n + i)
    pad15 (((List.range 4).map fun i => halves (s16Nat (th (2 * i + 1)).temp) (s16Nat (th (2 * i)).temp)) ++
      [packWord [(17, 16, g.curve), (15, 8, maskOf ((List.range 8).map fun i => (th i).isShort)), (7, 0, maskOf ((List.range 8).map fun i => (th i).isOpen))]])
  | 2 => (List.range 15).map fun i => w32 (wire i).r
  | 3 => (List.range 15).map fun i => w32 (wire (15 + i)).r
  | _ => pad15 (((List.range 3).map fun i => w32 (wire (30 + i)).r) ++ [mask32 fun i => (wire i).learned,
      packWord [flag 1 (wire 32).overLim, flag 0 (wire 32).learned], mask32 fun i => (wire i).overLim, w32 g.learns])

/-- Segment tile +5 (R116). -/
def Block.integTile (b : Block) (n : Nat) : TileData :=
  let g := b.seg n
  let wire (i : Nat) := b.wire (32 * n + i)
  let pairWord (i : Nat) : Word := match g.pairs[i]? with
    | some p => packWord [flag 15 true, (9, 0, p.1)]
    | none => 0#32
  let pairSum (i : Nat) : Word := match g.pairs[i]? with
    | some p => s32Word p.2
    | none => 0x80000000#32
  let fit := decide (n < b.nSeg)
  let iso := (b.ringSeg n).isolated
  pad15 [ws32 b.ovTh, ws32 b.uvTh, w32 g.ovLive, w32 g.uvLive, w32 g.ovLat, w32 g.uvLat, mask32 fun i => (wire i).opened, mask32 fun i => (wire i).susp,
    packWord [flag 8 (decide (b.leash.stack = .brodda)), flag 7 (decide (b.leash.stack = .sleep) || iso), flag 6 iso, flag 5 (fit && !b.rungUp (n + 1)),
      flag 4 (fit && !b.rungUp n), (3, 2, g.pairs.length), flag 1 (wire 32).susp, flag 0 (wire 32).opened],
    pairWord 0, pairSum 0, pairWord 1, pairSum 1, u32Sat g.owtCycles]

/-! ### Balancing (R141 to R144) -/

/-- Tile 0x0042. -/
def Block.balTile (b : Block) : TileData :=
  let s := b.bal
  let p := s.policy
  let shuttles := (s.segs.map fun g => (g.shuttles.filter fun h => decide (h.state ≠ .idle ∧ h.state ≠ .outOfService)).length).foldl (· + ·) 0
  let bridges := (s.segs.filter fun g => g.bridgeOn).length
  let bleeds := (s.cells.filter fun c => c.bleed).length
  pad15 [packWord [flag 10 (s.manuals != []), flag 9 s.pwrLim, flag 8 (decide (0 < shuttles + bridges + bleeds)), (4, 3, p.mode), (2, 1, p.goal), flag 0 s.en],
    w32 p.start, w32 p.stop, w32 p.brStart, w32 p.brStop, halves p.iBr p.iSet, w32 p.vMargin, halves (s16Of p.tMax) (s16Of p.tFeedMin),
    packWord [(31, 16, p.pwrMax), (7, 0, p.maxBleed)], u32Sat s.pEst, w32 s.decisions, packWord [(25, 16, bleeds), (15, 8, bridges), (7, 0, shuttles)],
    w32 s.kFactor, w32 s.socT]

/-- STATE of a shuttle (R142). -/
def ShuttleState.code : ShuttleState → Nat
  | .idle => 0
  | .running => 1
  | .learning => 2
  | .manual => 3
  | .outOfService => 4

/-- Segment tile +6. -/
def Block.segBalTile (b : Block) (n : Nat) : TileData :=
  let g := b.segBal n
  let sh (i : Nat) : Shuttle := g.shuttles.getD i Shuttle.reset
  let cell (i : Nat) := b.cellBal (32 * n + i)
  pad15 (((List.range 4).map fun i => ws32 (sh i).cur) ++
    ((List.range 4).map fun i => packWord [flag 11 (sh i).runsThrough, (10, 8, (sh i).state.code), (4, 0, (sh i).cell % 32)]) ++
    [mask32 fun i => (cell i).bleed, ws32 g.bridge, ws32 g.railI,
      packWord [flag 22 ((List.range 32).any fun i => (cell i).stuck), (21, 18, maskOf ((List.range 4).map fun i => decide ((sh i).state = .outOfService))),
        flag 17 g.bridgeFault, flag 16 g.overTemp, (15, 0, g.kt)],
      mask32 fun i => (cell i).stuck])

/-- Segment tile +7: mA·ms and µJ as A·s and J (R143). -/
def Block.segCountTile (b : Block) (n : Nat) : TileData :=
  let g := b.segBal n
  pad15 [u32Sat (g.qDraw / 1000000), u32Sat (g.qFeed / 1000000), u32Sat (g.qBleed / 1000000), u32Sat (g.qBrUp / 1000000), u32Sat (g.qBrDn / 1000000),
    u32Sat (g.eLoss / 1000000), u32Sat g.steps]

/-- SRC and SHIDX of a cell (R144). -/
def Block.balSource (b : Block) (c : Nat) : Nat × Nat :=
  let manual := b.bal.manuals.find? fun m => m.target.cell == c
  match b.shuttleOf c, manual with
  | some x, some _ => (3, x.1)
  | some x, none => (1, x.1)
  | none, some _ => (3, 0)
  | none, none => (if (b.cellBal c).bleed then 2 else 0, 0)

/-- Words 11 and 12 of a cell tile. -/
def Block.balWords (b : Block) (c : Nat) : List Word :=
  let x := b.cellBal c
  let s := b.balSource c
  [ws32 (b.balCur c), packWord [(31, 16, s16Nat (if x.exclReason = 0 then x.dev else none)), (11, 8, x.exclReason), (7, 6, s.2), (5, 4, s.1),
    (3, 2, if x.exclReason ≠ 0 then 3 else if x.donor then 1 else if x.receiver then 2 else 0), flag 1 x.limV, flag 0 x.limT]]

/-! ### Filters (R176 to R178) -/

/-- A voltage in 20 µV units, saturating; none is 0x8000 (R176). -/
def v20 (v : Option Fx) : Nat := s16Nat (v.map fun x => fxRound (x * 50000))

/-- Words 5 to 10 of a cell tile. -/
def Block.fltWords (b : Block) (c : Nat) : List Word :=
  let x := b.cellFlt c
  if x.initialised = false then
    [0#32, packWord [(15, 14, b.flt.slotMap.getD (segOf c) 0), flag 2 b.flt.frozen], w32 x.cap, 0#32, 0x80008000#32, 0x8000FFFF#32]
  else
    let s := b.slotOf c
    let vh : Option Fx := s.map fun y => fxMul (y.mAt x.z (x.temp.getD Config.firstTemperature)) x.h
    let full := match s with
      | some y => decide (frac16 y.zFull ≤ x.z)
      | none => false
    let empty := match s with
      | some y => decide (x.z ≤ frac16 y.zEmpty)
      | none => false
    let rest := match x.restAt with
      | some t => decide (t + 30 * secT ≤ b.sys.now)
      | none => false
    [halves (enc16 x.z) (enc16 x.r),
      packWord [(31, 16, enc16 x.soh), (15, 14, b.flt.slotMap.getD (segOf c) 0), flag 13 x.tSub, flag 12 x.tClamp, flag 11 x.rsClamp, flag 10 x.innov, flag 9 x.pred,
        flag 8 empty, flag 7 full, flag 6 rest, flag 5 x.capNew, flag 4 x.relearn, flag 3 x.walk, flag 2 b.flt.frozen, flag 1 x.degr, flag 0 x.valid],
      w32 x.cap, u32Sat x.rsMicro, halves (v20 (some x.vB)) (v20 (some x.vA)), halves (v20 vh) (enc16 x.sigma)]

/-- Tile 0x0043. -/
def Block.stringFigureTile (b : Block) : TileData :=
  let f := b.flt
  let up := ((b.sys.engSvc.drop 4).take 4)
  let n := b.seqsOk
  pad15 [halves f.strSoh (enc16 f.strSoc), u32Sat f.aAvail, u32Sat f.eToFull, halves f.socMin f.socMax, packWord [(25, 16, f.idxMax), (9, 0, f.idxMin)],
    s32Word f.ocvSum, u32Sat f.rsSum, packWord [(25, 16, f.nDegr), (9, 0, f.nValid)], w32 f.steps, w32 f.lastStep,
    packWord [(9, 8, if f.frozen then 3 else if 3 ≤ n then 0 else if n = 2 then 1 else if n = 1 then 2 else 3), (7, 4, maskOf up), flag 3 f.strRestAt.isSome,
      flag 2 (f.cells.any fun c => c.relearn), flag 1 (f.cells.any fun c => c.walk), flag 0 f.frozen],
    ws32 (f.qHib / 1000)]

/-- Tile 0x0044. -/
def Block.fltConfigTile (b : Block) : TileData :=
  let f := b.flt
  let g := f.config
  pad15 ([halves g.anchDz g.rateRpt, packWord [(24, 24, g.tSrc), (23, 16, g.capGain), (15, 0, g.capDzMin)], w32 g.sigmaValid,
    packWord ((List.range 16).map fun n => (2 * n + 1, 2 * n, f.slotMap.getD n 0)), w32 (maskOf (f.slots.map fun s => s.isSome))] ++
    (f.slots.map fun s => match s with
      | some x => w32 x.crc
      | none => 0#32) ++
    [w32 f.saves, w32 f.lastCause, w32 f.lastSave])

/-! ### Impedance (R192, R203, R204) -/

/-- An entry word: real part low, 2 µΩ units (R192). -/
def zWord (z : Option Cpx) : Word := entryWord (entryUnits z)

/-- Map tile 0x0600 + c. -/
def Block.mapTile (b : Block) (c : Nat) : TileData :=
  let m := b.impCell c
  pad15 (((List.range 8).map fun s => zWord (m.z.getD s none)) ++ [w32 m.job,
    packWord [(23, 16, m.low), (15, 8, maskOf ((List.range 8).map fun s => (m.z.getD s none).isSome)), (7, 0, m.upd)],
    halves (s16Of m.tOff) (s16Nat m.tInt), halves (s16Nat m.odev) (min 65535 m.grow), s32Word m.phi])

/-- Word 13 of a cell tile. -/
def Block.impWord (b : Block) (c : Nat) : Word :=
  let m := b.impCell c
  packWord [flag 20 m.outHigh, flag 19 m.growHigh, flag 18 m.ztClamp, flag 17 m.offL, flag 16 (b.itv c), (15, 0, s16Nat m.tInt)]

/-- STATE of R203. -/
def ImpState.code : ImpState → Nat
  | .idle => 0
  | .settling => 1
  | .measuring => 2
  | .stopping => 3
  | .disabled => 4

/-- Tiles 0x0045 to 0x0047. -/
def Block.impTile (b : Block) (t : Nat) : TileData :=
  let i := b.imp
  match t with
  | 0 => pad15 [packWord [(21, 14, i.skipped), flag 13 i.clip, flag 12 b.loneSpectral, (11, 8, i.queue), (7, 4, i.band), flag 3 i.en, (2, 0, i.state.code)],
      w32 (i.job.getD 0), w32 i.lastJob, packWord [(23, 16, i.lastDone), (15, 0, i.lastStat)], packWord [(15, 8, i.nValid), (7, 0, i.nPeriod)],
      u32Sat (if i.job.isSome && i.begun then (b.sys.now - i.jobAt) / msT else 0),
      (match i.nextDue with
        | some t => u32Sat (secsLeft b.sys.now t)
        | none => 0xFFFFFFFF#32),
      ws32 i.x, u32Sat i.discards]
  | 1 => pad15 ((i.set.reqs.map w32) ++ [packWord [(31, 24, i.set.nSet), (23, 16, i.set.nPer), (15, 0, i.set.amp)], w32 i.interval,
      packWord [(31, 16, i.growWarn), (2, 0, i.hslot)], packWord [(19, 16, maskOf (i.zts.map fun z => z.isSome)), (15, 0, i.outWarn)],
      w32 ((i.cells.filter fun c => c.baseV).length), w32 i.baseTime])
  | _ => pad15 ((i.set.reqs.map fun f => w32 (freqCode f)) ++
      ((List.range 4).map fun k => halves (i.iLine.getD (2 * k + 1) 0) (i.iLine.getD (2 * k) 0)))

/-! ### Cells (R91) -/

/-- Cell tile 0x0100 + c. -/
def Block.cellTile (b : Block) (c : Nat) : TileData :=
  let x := b.cell c
  [fineWord 2048 x.chan.last, fineWord 2048 x.chan.w0, fineWord 2048 x.chan.w1,
    packWord [flag 15 b.sense.held, flag 14 x.excl, flag 13 x.degr, flag 12 x.pair, flag 11 x.chan.part1, flag 10 x.chan.part0, flag 9 x.learnp, flag 8 x.fbClosed,
      flag 7 x.corr, flag 6 x.cmp, flag 5 x.uvc, flag 4 x.ovc, flag 3 x.chf, flag 2 x.rng, flag 1 x.chan.last.isSome, flag 0 (decide (c < b.nCell))],
    packWord [(22, 16, x.thIdx), (15, 0, s16Nat (b.cellTemp c))]] ++ b.fltWords c ++ b.balWords c ++ [b.impWord c, w32 x.seq]

/-- A segment's eight tiles. -/
def Block.segmentTile (b : Block) (n t : Nat) : TileData :=
  if t < 5 then b.segTile n t else if t = 5 then b.integTile n else if t = 6 then b.segBalTile n else b.segCountTile n

end Sys2Proof.Machine
end

