-- ==== Sys2Proof/Machine/TilesOut.lean ====
section
/-! DEFINITION. What the writers of the converter's, the loops' and the safety tiles publish (R241 to R245, R276 to R281, R321, R322). -/

namespace Sys2Proof.Machine

/-! ### Converter (R241 to R245) -/

/-- A fraction of 2^32 as its word. -/
def frac32 (x : Fx) : Word := w32 (clampI 0 4294967295 (fxRound (x * 4294967296))).toNat

/-- Tile 0x0300. -/
def Block.cnvTile (b : Block) : TileData :=
  let c := b.cnv
  let l := b.ilimEff
  pad15 [packWord [flag 23 c.locked, (22, 21, c.set.lockSrc), flag 20 c.sslatch, flag 19 c.clamped, flag 18 c.foldback, flag 17 c.st.softStart, flag 16 b.latch.muzzle,
      (15, 12, b.readyPhases.length), (11, 8, b.modPhases.length), (3, 0, c.st.code)],
    ws32 c.iRef, ws32 c.iSum, w32 l.1, w32 l.2, s32Word b.vLinkMv, s32Word (c.vRef.map fxRound), s32Word (c.vTgt.map fxRound), w32 c.slew,
    packWord [(31, 16, (fxRound (b.nEff * 256)).toNat), (7, 0, c.ssCount)], u32Sat c.ssElapsed, ws32 c.lockErr, w32 c.periods]

/-- Tiles 0x0301 and 0x0302. -/
def Block.carrierTile (b : Block) : TileData :=
  let s := b.cnv.set
  pad15 [w32 s.tc, packWord [(27, 24, s.nMin), (23, 16, s.phMask), (12, 7, s.packSize), (6, 2, s.packIdx), (1, 0, s.lockSrc)], w32 s.syncDly, w32 s.deadTime,
    w32 s.dMin, w32 s.dMax, w32 s.trimMax, w32 s.shareGain, w32 s.fcSet, packWord [flag 0 s.tuneEn]]
def Block.limitTile (b : Block) : TileData :=
  let s := b.cnv.set
  pad15 [w32 s.ilimChg, w32 s.ilimDis, w32 s.iPhCont, w32 s.iFast, w32 s.i2tMax, ws32 s.vTarget, w32 s.slewV, w32 s.ilimSs, w32 s.ssTimeout, w32 s.kpv, w32 s.kiv,
    w32 s.slewStop]

/-- Tile 0x0308 + k. -/
def Block.phaseTile (b : Block) (k : Nat) : TileData :=
  let p := b.phase k
  let g (f : GduIdent → Nat) : Nat := match p.gdu with
    | some x => f x
    | none => 0
  let trim : Word := match b.vLinkMv with
    | some v => ws32 (fxRound (fxDiv p.trim (fxI v) * 4294967296))
    | none => 0#32
  pad15 [packWord [flag 15 p.unexp, flag 14 p.otw, flag 13 p.uvlo, flag 12 p.desat, flag 11 p.armed, flag 10 p.oc, flag 9 p.rdy, flag 8 (bitOf k b.cnv.set.phMask),
      (7, 4, p.outr), (3, 0, p.st.code)],
    ws32 p.iMean, frac32 p.duty, trim, w32 (enc16 p.weight), w32 p.offset, s32Word p.vLink, w32 (s16Nat p.tHs), u32Sat (fxRound p.q).toNat, w32 (g (·.serial)),
    halves (g (·.model)) (g (·.vendor)), w32 (100 * g (·.iRated)), w32 (100 * g (·.lNom)), halves (min 65535 p.ocTrips) (min 65535 p.hiccups)]

/-- Tile 0x0310 + k. -/
def Block.compTile (b : Block) (k : Nat) : TileData :=
  let c := (b.phase k).comp
  pad15 (((List.range 7).map fun i => ws32 (c.coef.getD i 0)) ++ [w32 c.lEst, w32 c.rEst, w32 c.fc, halves (s16Of c.gm) (s16Of c.pm),
    packWord [(31, 16, c.retunes), (11, 8, c.rej), (1, 0, c.src)], w32 c.jobId, w32 c.resid])

/-! ### Loops (R276 to R281) -/

/-- Tile 0x0400. -/
def Block.loopTile (b : Block) : TileData :=
  let l := b.loop
  let act := decide (b.cnv.st = .regulate) && decide (b.sys.mstate = .run)
  let ramping := match l.spSrc, l.spR with
    | some x, some y => decide (x ≠ y)
    | _, _ => false
  pad15 [packWord [flag 14 l.schedEnd, flag 13 l.schedWait, flag 12 ramping, flag 11 l.held, flag 10 l.ffLost, flag 9 l.limLo, flag 8 l.limHi, flag 7 l.onFb,
      flag 6 (b.srcLost l.src), flag 5 act, flag 4 l.am, (3, 2, l.src), (1, 0, l.lmode)],
    s32Word (l.spSrc.map fxRound), s32Word (l.spR.map fxRound), s32Word (l.fb.map fxRound), ws32 (fxRound l.ff), ws32 (fxRound l.p), ws32 (fxRound l.ig),
    ws32 (fxRound l.u), ws32 (fxRound l.manRef), s32Word l.ain, halves l.pulseFreq (enc16 l.pulseDuty), halves l.sched.length (l.schedIx.getD 0xFFFF), w32 l.cycles,
    halves (min 65535 l.losses) (min 65535 l.presets)]

/-- Tile 0x0401. -/
def Block.loopConfigTile (b : Block) : TileData :=
  let s := b.loop.set
  pad15 ([packWord [flag 8 s.ffEn, (7, 6, s.lossAct), (5, 4, s.fbSrc), (3, 2, s.src), (1, 0, s.lmode)], w32 s.pmax, w32 s.imax, ws32 s.vdcMid, ws32 s.vdcSpan] ++
    ((List.range 6).map fun i => w32 (s.gains.getD i 0)) ++ [w32 s.spRamp, w32 s.manRamp, halves s.schedHold s.spTimeout, packWord [(23, 16, s.ainDb), (15, 0, s.spReturn)]])

/-- The override words of an output: seconds left and value. -/
def OutMap.overWord (m : OutMap) (now : Nat) : Word := match m.override with
  | some (v, t) => halves (secsLeft now t) v
  | none => 0#32

/-- Tile 0x0410. -/
def Block.thmTile (b : Block) : TileData :=
  let t := b.thm
  let ovr := (List.range 6).map fun o => match b.outMap? o with
    | some m => m.override.isSome
    | none => false
  pad15 [packWord [(11, 6, maskOf ovr), flag 5 b.hinge, flag 4 (decide (b.sys.mstate = .hibernate)), flag 3 t.fire, flag 2 t.tLost, (1, 0, t.tSel)],
    halves (s16Of t.tSet) (s16Nat t.tCtrl), halves (enc16 t.ig) (enc16 t.d), w32 t.kpT, w32 t.kiT, halves t.hibDemand t.fsDemand, w32 t.thIdx, w32 t.cycles]

/-- Tile 0x0414 + f. -/
def Block.fpTile (b : Block) (f : Nat) : TileData := match b.thm.fps[f]? with
  | none => pad15 []
  | some x => pad15 [packWord [flag 5 x.map.override.isSome, flag 4 x.stall, flag 3 x.inv, (2, 0, x.ppr)], w32 x.duty, w32 x.rpm, halves x.map.dFull x.map.dStart,
      halves x.map.outMin x.map.outOff, halves x.map.fire x.map.outMax, w32 x.tachMin, x.map.overWord b.sys.now]

/-- STATE of a louvre (R280). -/
def LvState.code : LvState → Nat
  | .off => 0
  | .inBand => 1
  | .moving => 2
  | .learning => 3
  | .stalled => 4
  | .fbLost => 5
  | .retry => 6

/-- Tile 0x0418 + k. -/
def Block.lvTile (b : Block) (k : Nat) : TileData := match b.thm.lvs[k]? with
  | none => pad15 []
  | some x =>
    let recent := (x.stalls.filter fun t => decide (b.sys.now < t + 600 * secT)).length
    pad15 [packWord [(7, 5, min 7 recent), flag 4 x.frSet, flag 3 x.map.override.isSome, (2, 0, x.st.code)], halves (enc16 x.pos) (enc16 x.tgt),
      w32 (s16Of (fxRound x.u)), s32Word x.fbV, ws32 x.fbLo, ws32 x.fbHi, halves x.ki x.kp, halves x.umax x.db, halves x.map.dFull x.map.dStart,
      halves x.map.outMin x.map.outOff, halves x.map.fire x.map.outMax, ws32 x.iMot, x.map.overWord b.sys.now]

/-- Tiles 0x0420 + 2k and 0x0421 + 2k. -/
def Block.frTile (b : Block) (k half : Nat) : TileData := match b.thm.lvs[k]? with
  | none => pad15 []
  | some x => pad15 ((List.range 8).map fun w => halves (x.friction.getD (16 * half + 2 * w + 1) 0) (x.friction.getD (16 * half + 2 * w) 0))

/-! ### Safety mirror (R321, R322) -/

/-- The CRC of the Floor record in force. -/
def Block.floorCrc (b : Block) : Nat := leField b.floor 252 4

/-- Tile 0x0500. -/
def Block.latchTile (b : Block) : TileData :=
  let l := b.latch
  pad15 [packWord [flag 14 l.preDone, flag 13 l.pwSet, flag 12 (l.windows.any fun w => decide (b.sys.now < w.2 + 60 * secT)), (11, 10, b.rstMode), flag 9 b.resetOk,
      flag 8 l.saOk, flag 7 l.pendingAct.isSome, flag 6 b.bark.drive, flag 5 l.muzzle, (4, 3, l.fn.code), (2, 0, l.state.code)],
    packWord [(15, 8, l.causeIx), (7, 0, l.cause)], w32 l.acts, w32 l.actTime, w32 l.deny, w32 (floorGen b.floor), w32 b.floorCrc]

/-- ISTATE of an input (R322). -/
def InState.code : InState → Nat
  | .disabled => 0
  | .released => 1
  | .demand => 2
  | .returning => 3
  | .discrepancy => 4
  | .pulseFault => 5

/-- SEQ (R322). -/
def SeqState.code : SeqState → Nat
  | .idle => 0
  | .so2Closing => 1
  | .precharging => 2
  | .so1Closing => 3
  | .so3Opening => 4
  | .opening => 5

/-- Tiles 0x0501 to 0x0504. -/
def Block.safetyTile (b : Block) (t : Nat) : TileData :=
  let l := b.latch
  match t with
  | 1 => pad15 ((l.inputs.mapIdx fun i x => packWord [(31, 16, min 65535 x.demands), (10, 9, b.siFunc i), flag 8 x.b.passed, flag 7 x.a.passed, flag 6 x.b.high,
        flag 5 x.a.high, (2, 0, x.st.code)]) ++
      [packWord [flag 9 b.fireDemand, flag 8 l.srst, (7, 4, maskOf (l.tps.map fun p => p.fault)), (3, 0, maskOf (l.tps.map fun p => p.on))], w32 l.frames])
  | 2 => pad15 ((l.outs.map fun o => packWord [(31, 16, min 65535 o.tests), flag 7 o.inTest.isSome, flag 6 o.tfail, flag 5 o.weld, flag 4 o.mirror, flag 3 o.rb,
        flag 2 o.ls, flag 1 o.hs, flag 0 o.cmd]) ++
      [packWord [(15, 8, l.seqFail), (2, 0, l.seq.code)], w32 l.preI, w32 l.preTmax, w32 l.peak])
  | 3 => pad15 [packWord [flag 10 l.isoWarned, flag 9 l.rIso.isSome, flag 8 b.isoEn, (7, 0, maskOf l.chk)], w32 (l.rIso.getD 0), s32Word l.vPos, s32Word l.vNeg,
      w32 (s16Nat b.hottest), w32 l.missed]
  | _ => pad15 ([w32 l.changeSeq] ++ ((List.range 8).map fun i => w32 (leField l.head (4 * i) 4)) ++
      [(match l.lockEnd with
        | some t => u32Sat (secsLeft b.sys.now t)
        | none => 0#32), packWord [(7, 0, l.fails)]])

/-- Tiles 0x0508 to 0x050C: the Floor record in force. -/
def Block.floorTile (b : Block) (t : Nat) : TileData :=
  (List.range 15).map fun w => if 15 * t + w < 64 then w32 (leField b.floor (4 * (15 * t + w)) 4) else 0#32

end Sys2Proof.Machine
end

