-- ==== Sys2Proof/Machine/TilesSys.lean ====
section
/-! DEFINITION. What the writers of the module's own tiles publish, record layouts, and the words of every tile (R350, R360 to R364, R402 to R405, R462, R463,
R482, R510, R515, R516, R528, R530, R537, R538). -/

namespace Sys2Proof.Machine

/-! ### Records (R515, R516) -/

/-- A Fast record as its 32 bytes; MARK is the complement of SEQ (R515, R522). -/
def FastRec.bytes (r : FastRec) : List Byte :=
  leBytes 4 r.seq ++ leBytes 6 r.optime ++ leBytes 2 r.code ++ leBytes 1 (packWord [(2, 0, r.sev.rank), flag 3 r.kept, flag 4 r.safOvf]).toNat ++ leBytes 1 r.src
    ++ leBytes 2 r.arg0 ++ ((List.range 3).flatMap fun i => leBytes 4 (r.data.getD i 0)) ++ leBytes 4 (4294967295 - r.seq % 4294967296)

/-- A Keep record as bytes 0 to 59, without its CRC (R516). -/
def KeepRec.body (r : KeepRec) : List Byte :=
  leBytes 8 r.seq ++ leBytes 6 r.optime ++ leBytes 2 r.code ++ leBytes 4 r.pcyc ++ leBytes 6 ((r.ptp.map (·.1)).getD 0) ++ leBytes 4 ((r.ptp.map (·.2)).getD 0)
    ++ leBytes 1 (packWord [(2, 0, r.sev.rank), flag 3 r.ptp.isSome, flag 4 r.resv]).toNat ++ leBytes 1 r.src ++ leBytes 2 r.arg0 ++ leBytes 2 0
    ++ ((List.range 6).flatMap fun i => leBytes 4 (r.data.getD i 0))

/-- A Keep record with its CRC (R516). -/
def KeepRec.bytes (r : KeepRec) : List Byte := r.body ++ leBytes 4 (crc32c r.body)

/-- The lowest SEQ of a log, or its HEAD when it is empty (R528). -/
def LogPart.fTail (g : LogPart) : Nat := (minOf? (g.fast.map (·.seq))).getD g.fHead
def LogPart.kTail (g : LogPart) : Nat := (minOf? ((g.keepGen ++ g.keepRes).map (·.seq))).getD g.kHead

/-- Words of a byte string. -/
def bytesWords (n : Nat) (bs : List Byte) : List Word := (List.range n).map fun i => w32 (leField bs (4 * i) 4)

/-- The event-recorder window (R530): the newest record whose SEQ has this remainder. -/
def Block.fastTile (b : Block) (i : Nat) : TileData := match b.log.fast.reverse.find? fun r => r.seq % 1024 == i with
  | some r => pad15 (bytesWords 8 r.bytes)
  | none => pad15 []
def Block.keepTile (b : Block) (i : Nat) : TileData :=
  let l := (b.log.keepGen ++ b.log.keepRes ++ b.log.queue).filter fun r => r.seq % 1024 == i
  match l.foldl (fun (a : Option KeepRec) r => match a with
    | none => some r
    | some x => if x.seq < r.seq then some r else some x) none with
  | some r => bytesWords 15 r.body
  | none => pad15 []

/-! ### Module (R350, R361 to R364) -/

/-- The ordering code of a variant, 16 bytes (R3, R362). -/
def Variant.order : Variant → List Nat
  | .s512as => [0x4D, 0x58, 0x2D, 0x53, 0x35, 0x31, 0x32, 0x2D, 0x41, 0x53]
  | .s512at => [0x4D, 0x58, 0x2D, 0x53, 0x35, 0x31, 0x32, 0x2D, 0x41, 0x54]
  | .s384as => [0x4D, 0x58, 0x2D, 0x53, 0x33, 0x38, 0x34, 0x2D, 0x41, 0x53]

def Variant.code : Variant → Nat
  | .s512as => 0
  | .s512at => 1
  | .s384as => 2

/-- Tile 0x0000 as the image hardware writes it at a swap (R361). -/
def Block.headerTile (b : Block) (epoch : Nat) (held bank1 : Bool) : TileData :=
  let t := b.optime
  let p := b.ptpTime
  let g := b.img
  let v := b.net.ptp.valid
  pad15 [w32 epoch, packWord [flag 16 held, (10, 8, b.sys.mstate.code), flag 0 bank1], w32 b.sys.now, w32 t, packWord [flag 16 v, (15, 0, t / 4294967296)],
    w32 b.log.pcyc, (if v then w32 p.1 else 0#32), (if v then w32 p.2 else 0#32), w32 g.swaps, u32Sat g.defers, u32Sat g.defMax, u32Sat g.chkFail,
    packWord [(14, 14, g.lfBank), (13, 0, g.lfTile)]]

/-- Tile 0x0001. -/
def Block.identityTile (b : Block) : TileData :=
  pad15 (bytesWords 4 (b.sys.variant.order.map fun n => BitVec.ofNat 8 n) ++ [b.sys.serial.getD 0 0, b.sys.serial.getD 1 0, b.sys.serial.getD 2 0, w32 b.upd.bver,
    packWord [flag 1 b.upd.confEnd.isSome, (0, 0, b.sec.slot)], halves b.sys.hubRev b.sys.ctlRev, w32 b.fittedMask, w32 b.sys.variant.code])

/-- Tile 0x0004. -/
def Block.stateTile (b : Block) : TileData :=
  let y := b.sys
  pad15 [packWord [(19, 17, b.ix.owner.getD 0), flag 16 b.ix.owner.isSome, (10, 8, y.prev.code), (2, 0, y.mstate.code)], w32 y.entryTime, w32 y.cause, w32 y.changes]

/-- Tile 0x0005 (R350). -/
def Block.sessionTile (b : Block) : TileData :=
  pad15 ((b.ix.sessions.mapIdx fun i n =>
      if n.isOpen then packWord [(31, 16, n.lastSeq), (15, 8, secsLeft b.sys.now (n.lastHeard + n.timeout * secT)),
        (7, 4, (n.cache.filter fun e => e.running).length), flag 1 (b.ix.owner == some i), flag 0 true]
      else 0#32) ++
    [halves (min 65535 b.ix.dropped) (min 65535 b.ix.resent)])

/-- Tile 0x0008. -/
def Block.healthTile (b : Block) : TileData :=
  pad15 [b.leashWord, b.barkWord, packWord [flag 17 b.hinge, flag 16 b.pwr.resCtl, (14, 0, maskOf b.sys.engSvc)], w32 b.sys.takeovers, w32 (min 65535 b.img.stuck)]

/-! ### Supplies and standby (R443, R462, R463) -/

/-- CARRY: the SDS alone, one feed more than 100 mV above the other, or both (R443). -/
def Block.carry (b : Block) : Nat :=
  if b.sdsOn then 3
  else match b.feedHolds 0, b.feedHolds 1 with
    | true, false => 0
    | false, true => 1
    | _, _ => match b.feedUv 0, b.feedUv 1 with
      | some x, some y => if y + 100000 < x then 0 else if x + 100000 < y then 1 else 2
      | _, _ => 2

/-- Tile 0x0009. -/
def Block.supplyTile (b : Block) : TileData :=
  let p := b.pwr
  let feed (n : Nat) : Feed := p.feeds.getD n { ok := false, low := false }
  pad15 ([packWord [flag 12 b.pfWarn, flag 11 p.sdsCap, flag 10 b.sdsOn, flag 9 p.sdsOk, flag 8 (feed 1).ok, flag 7 (feed 0).ok, flag 6 (feed 1).low, flag 5 (feed 0).low,
      (4, 3, b.carry), (1, 0, if b.sys.mstate = .run then 1 else if b.sys.mstate = .hibernate then 2 else 0)]] ++
    ((List.range 7).map fun i => p.meas.getD i 0) ++ [u32Sat p.holdup, u32Sat p.holdup85, halves (min 65535 p.losts) (min 65535 p.dips)])

/-- Tile 0x000A. -/
def Block.standbyTile (b : Block) : TileData :=
  let p := b.pwr
  pad15 [packWord [(13, 12, p.hcause), flag 11 p.hlimit, flag 10 p.leadHeld, flag 9 p.tmonOk, flag 8 p.kenOk, flag 7 p.resOk, flag 6 p.leadOk, flag 5 p.resCtl,
      flag 4 p.hold.isSome, (3, 2, p.tcause)],
    w32 p.ckSeq,
    (match p.ckAt with
      | some t => u32Sat ((b.sys.now - t) / usT)
      | none => 0xFFFFFFFF#32),
    u32Sat p.holdLen, u32Sat p.holdMax, halves (min 65535 p.leadFails) (min 65535 p.handbacks),
    (match p.cleanAt with
      | some t => u32Sat ((b.sys.now - t) / usT)
      | none => 0#32),
    w32 p.resTest]

/-! ### Update, boot, logs (R482, R510, R537, R538) -/

/-- Tile 0x0010. -/
def Block.updateTile (b : Block) : TileData :=
  let u := b.upd
  let r := u.record
  pad15 [packWord [(27, 24, u.errTgt), (23, 16, u.lastErr), (9, 8, u.setOrigin), flag 7 u.saPend, flag 6 u.dflt, (5, 5, b.inactive), (3, 0, u.ustate)], w32 u.length,
    w32 u.written.length,
    (match u.firstMiss with
      | some k => w32 k
      | none => 0xFFFFFFFF#32),
    w32 u.newBver,
    (match u.confEnd with
      | some t => u32Sat (secsLeft b.sys.now t)
      | none => 0xFFFFFFFF#32),
    packWord [(15, 8, r.tries), (2, 2, r.prev), flag 1 r.trial, (0, 0, r.active)], w32 r.gen, w32 u.setSchema, w32 u.nSchema, w32 u.nSchemaMin, halves u.saifRun u.nSaif,
    w32 u.setGen, u32Sat u.lastPause]

/-- Tiles 0x0014 to 0x0016. -/
def Block.bootTile (b : Block) (t : Nat) : TileData :=
  let s := b.sec
  let k := s.store
  match t with
  | 0 => pad15 [packWord [(11, 8, s.bootErr), (7, 4, s.errTgt), flag 3 s.p1Img, flag 2 s.p0Img, flag 1 s.alt, (0, 0, s.slot)], w32 s.vsvn, w32 s.vmin,
      u32Sat s.romTime, u32Sat s.loadTime]
  | 1 => pad15 ([w32 (maskOf (k.keys.map fun x => x.isSome)), w32 k.gen, w32 k.minP0, w32 k.minP1] ++
      (k.keys.map fun x => match x with
        | some q => w32 (leNat ((sha384 q).take 4))
        | none => 0#32))
  | _ => pad15 [packWord [(22, 8, maskOf s.touched), flag 3 s.closing, flag 2 s.nonce.isSome, (1, 0, s.dstate)],
      (match s.openEnd with
        | some t => u32Sat (secsLeft b.sys.now t)
        | none => 0#32),
      w32 s.opens, packWord [(15, 8, min 255 s.denies), (7, 0, s.lastCause)]]

/-- Tile 0x0018. -/
def Block.pointerTile (b : Block) : TileData :=
  let g := b.log
  let two (n : Nat) : List Word := [w32 n, w32 (n / 4294967296)]
  pad15 (two g.fHead ++ two g.fTail ++ two g.kHead ++ two g.kTail ++ [packWord [flag 17 g.safeFull, flag 16 g.resHigh, (10, 0, g.keepRes.length)], u32Sat g.fDisc,
    u32Sat g.kDisc, halves (min 65535 g.torn) (min 65535 g.qLost), w32 g.queue.length, w32 g.safOvfN])

/-- Tile 0x0019. -/
def Block.timeTile (b : Block) : TileData :=
  let t := b.optime
  let f := b.flt
  pad15 [w32 t, packWord [(15, 0, t / 4294967296)], w32 b.log.pcyc, w32 b.log.opBoot, w32 (b2n b.log.secured), w32 f.copyA.gen, w32 f.copyB.gen,
    packWord [flag 3 (!f.copyB.valid), flag 2 (!f.copyA.valid), (1, 0, if f.aInForce then 1 else if f.copyB.valid then 2 else 0)], u32Sat f.saveLen]

/-! ### Networks (R402 to R405) -/

/-- Tile 0x0050. -/
def Block.ethTile (b : Block) : TileData :=
  let n := b.net
  let g (c : Nat) : Cage := n.cages.getD c { present := false, fault := false, unusable := false, link := false, up := false, lastRct := none }
  pad15 [packWord [flag 9 n.allLost, flag 8 (g 1).fault, flag 7 (g 0).fault, flag 6 (g 1).present, flag 5 (g 0).present, flag 4 (g 1).up, flag 3 (g 0).up,
      flag 2 (g 1).link, flag 1 (g 0).link, (0, 0, n.ip.mode)],
    w32 n.ip.addr, w32 n.ip.mask, w32 n.ip.gw, packWord [(14, 12, n.ip.pcp), (11, 0, n.ip.vlan)], w32 n.dupDisc, w32 n.uniqA, w32 n.uniqB, w32 n.wrongLan,
    w32 n.nodes.length, w32 n.rxDrop]

/-- PSTATE codes (R403). -/
def PtpState.code : PtpState → Nat
  | .disabled => 0
  | .listening => 1
  | .uncalibrated => 2
  | .slave => 3
  | .master => 4
  | .passive => 5
  | .faulty => 6

/-- Tile 0x0051. The slave-side port is the slave port, or that of cage 0 while none is selected. -/
def Block.ptpTile (b : Block) : TileData :=
  let p := b.net.ptp
  let port := p.slave.getD 0
  let x := p.ports.getD port (PtpPort.fresh .disabled)
  let q (c : Nat) : TsQueue := p.queues.getD c { entries := [], ovf := false, lost := 0, gap := false }
  pad15 [packWord [(27, 20, p.set.domain), flag 19 p.set.en, flag 18 p.set.slaveOnly, (17, 17, p.set.role), (16, 16, p.set.profile), flag 9 (q 1).ovf, flag 8 (q 0).ovf,
      (7, 7, port), flag 6 p.gm, flag 5 p.hold, flag 4 p.locked, (2, 0, x.st.code)],
    s32Word p.lastOffset, u32Sat x.mpd.toNat, ws32 p.fadj, w32 p.gmId, w32 (p.gmId / 4294967296), packWord [(31, 24, p.gmClass), (15, 0, s16Of p.utc)], w32 p.steps,
    w32 p.set.lockThr, w32 p.set.stepThr, packWord [(23, 16, ofSigned 8 p.set.logSync), (15, 8, p.set.prio2), (7, 0, p.set.prio1)],
    halves (min 65535 (q 1).lost) (min 65535 (q 0).lost), ws32 (max (-2147483648) (min 2147483647 p.lastStep))]

/-- Tiles 0x0052 and 0x0053. -/
def Block.canTile (b : Block) (k : Nat) : TileData :=
  let c := b.can k
  let s := c.set
  pad15 [packWord [flag 15 c.rqFull, flag 14 s.noMatch, (13, 12, s.rqOwn), flag 11 c.hbOnly, flag 10 c.alone, (9, 8, c.est), flag 7 c.on, flag 6 s.wakeEn, flag 5 s.mon,
      flag 4 s.term, flag 3 s.txpri, flag 2 s.fd, flag 1 s.en],
    packWord [(31, 24, c.tec), (23, 16, c.rec_), (15, 8, s.node), (2, 0, c.lec)], w32 s.nbt, w32 s.dbt, w32 s.base, halves s.hbPeriod s.rqLen,
    halves (min 65535 c.ackRun) c.fltLen, w32 c.txOk, w32 c.rxOk, w32 c.rxLostAll, halves (min 65535 c.busOffs) (min 65535 c.alones)]

/-- Tiles 0x0058 to 0x005F. -/
def Block.partnerTile (b : Block) (t : Nat) : TileData :=
  (List.range 5).flatMap fun j => b.partnerWords (b.net.partners.getD (5 * t + j) Partner.empty)

/-! ### The region map (R360) -/

/-- The 15 words that the writers of a tile below the policy shared area publish; a tile that no chapter assigns holds 0 (R353, R360). Tile 0x0000 is written at
the swap. -/
def Block.tileWords (b : Block) (t : Nat) : TileData :=
  if t = 0x01 then b.identityTile
  else if t = 0x04 then b.stateTile
  else if t = 0x05 then b.sessionTile
  else if t = 0x08 then b.healthTile
  else if t = 0x09 then b.supplyTile
  else if t = 0x0A then b.standbyTile
  else if t = 0x10 then b.updateTile
  else if 0x14 ≤ t ∧ t ≤ 0x16 then b.bootTile (t - 0x14)
  else if t = 0x18 then b.pointerTile
  else if t = 0x19 then b.timeTile
  else if t = 0x40 then b.stringTile
  else if t = 0x41 then b.senseConfigTile
  else if t = 0x42 then b.balTile
  else if t = 0x43 then b.stringFigureTile
  else if t = 0x44 then b.fltConfigTile
  else if 0x45 ≤ t ∧ t ≤ 0x47 then b.impTile (t - 0x45)
  else if t = 0x50 then b.ethTile
  else if t = 0x51 then b.ptpTile
  else if t = 0x52 ∨ t = 0x53 then b.canTile (t - 0x52)
  else if 0x58 ≤ t ∧ t ≤ 0x5F then b.partnerTile (t - 0x58)
  else if 0x80 ≤ t ∧ t ≤ 0xFF then b.segmentTile ((t - 0x80) / 8) ((t - 0x80) % 8)
  else if 0x100 ≤ t ∧ t ≤ 0x2FF then b.cellTile (t - 0x100)
  else if t = 0x300 then b.cnvTile
  else if t = 0x301 then b.carrierTile
  else if t = 0x302 then b.limitTile
  else if 0x308 ≤ t ∧ t ≤ 0x30F then b.phaseTile (t - 0x308)
  else if 0x310 ≤ t ∧ t ≤ 0x317 then b.compTile (t - 0x310)
  else if t = 0x400 then b.loopTile
  else if t = 0x401 then b.loopConfigTile
  else if t = 0x410 then b.thmTile
  else if t = 0x414 ∨ t = 0x415 then b.fpTile (t - 0x414)
  else if 0x418 ≤ t ∧ t ≤ 0x41B then b.lvTile (t - 0x418)
  else if 0x420 ≤ t ∧ t ≤ 0x427 then b.frTile ((t - 0x420) / 2) (t % 2)
  else if t = 0x500 then b.latchTile
  else if 0x501 ≤ t ∧ t ≤ 0x504 then b.safetyTile (t - 0x500)
  else if 0x508 ≤ t ∧ t ≤ 0x50C then b.floorTile (t - 0x508)
  else if 0x600 ≤ t ∧ t ≤ 0x7FF then b.mapTile (t - 0x600)
  else if 0x800 ≤ t ∧ t ≤ 0xBFF then b.fastTile (t - 0x800)
  else if 0xC00 ≤ t ∧ t ≤ 0xFFF then b.keepTile (t - 0xC00)
  else pad15 []

/-- The first tile of the policy shared area (R360). -/
def policyBase : Nat := 0x1000

end Sys2Proof.Machine
end

