-- ==== Sys2Proof/Machine/Image.lean ====
section
/-! DEFINITION. The state image: tile writes, swaps, copies, holds, reads and checks, and the image commands (R345, R346, R352 to R374). -/

namespace Sys2Proof.Machine

/-! ### Banks (R353, R355, R357) -/

/-- Put a tile into a bank; a tile of zeros is not listed. -/
def bankPut (t : Nat) (ws : TileData) (bank : List (Nat × TileData)) : List (Nat × TileData) :=
  if ws.all (fun w => w == 0#32) then eraseKey t bank else insertKey t ws bank

/-- A tile of a bank. -/
def bankGet (bank : List (Nat × TileData)) (t : Nat) : TileData := (lookupKey bank t).getD (List.replicate 15 0#32)

def ImgPart.front (g : ImgPart) : List (Nat × TileData) := if g.front1 then g.bank1 else g.bank0
def ImgPart.back (g : ImgPart) : List (Nat × TileData) := if g.front1 then g.bank0 else g.bank1
def ImgPart.setBack (g : ImgPart) (l : List (Nat × TileData)) : ImgPart := if g.front1 then { g with bank0 := l } else { g with bank1 := l }

/-- The image hardware stores a whole tile in the back bank; a writer that comes before the tile's copy waits for it (R353, R357). -/
def storeTile (t : Nat) (ws : TileData) (b : Block) : Block := b.onImg fun g =>
  { g.setBack (bankPut t ws g.back) with
    written := insertIdx t g.written
    copying := g.copying.filter fun x => x != t
    dirty := g.dirty.filter fun x => x != t }

/-- A writer publishes a tile from its registers. -/
def publish (t : Nat) (b : Block) : Block := storeTile t (b.tileWords t) b

/-- Every tile that a chapter assigns to a writer below the policy shared area (R360). -/
def writtenTiles : List Nat :=
  [0x01, 0x04, 0x05, 0x08, 0x09, 0x0A, 0x10, 0x14, 0x15, 0x16, 0x18, 0x19] ++ (List.range 8).map (0x40 + ·) ++ (List.range 4).map (0x50 + ·)
    ++ (List.range 8).map (0x58 + ·) ++ (List.range 128).map (0x80 + ·) ++ (List.range 512).map (0x100 + ·) ++ [0x300, 0x301, 0x302]
    ++ (List.range 8).map (0x308 + ·) ++ (List.range 8).map (0x310 + ·) ++ [0x400, 0x401, 0x410, 0x414, 0x415] ++ (List.range 4).map (0x418 + ·)
    ++ (List.range 8).map (0x420 + ·) ++ (List.range 5).map (0x500 + ·) ++ (List.range 5).map (0x508 + ·) ++ (List.range 512).map (0x600 + ·)
    ++ (List.range 2048).map (0x800 + ·)

/-- The banks swap: what the writers owe is published, the header of the new front bank is written, and the tiles of the epoch are to be copied (R355 to R357, R361). -/
def swapBanks (epoch : Nat) (held : Bool) (b : Block) : Block :=
  let b1 := b.img.dirty.foldl (fun b t => publish t b) b
  let b2 := b1.onImg fun g => { g with swaps := (g.swaps + 1) % 4294967296 }
  let b3 := storeTile 0 (b2.headerTile epoch held (!b2.img.front1)) b2
  b3.onImg fun g => { g with front1 := !g.front1, epoch := epoch, copying := g.written, written := [], dirty := [], deferred := none }

/-- Epoch number of a boundary (R355). -/
def epochOf (count : Nat) : Nat := count / msT % 4294967296

/-- EPOCH_BOUNDARY (R355, R358): a swap, or under a hold a swap that waits. -/
def doEpochBoundary (b : Block) : Block :=
  if b.sys.mstate = .off then b
  else
    let b1 := b.at (b.nextMultiple msT)
    if b1.img.hold.isSome then b1.onImg fun g => { g with deferred := some (g.deferred.getD b1.sys.now) }
    else swapBanks (epochOf b1.sys.now) false b1

def execEpochBoundary (s : State) := effect doEpochBoundary s

/-- The copies of R357. -/
def copyBack (b : Block) : Block := b.onImg fun g =>
  { g.setBack (g.copying.foldl (fun l t => bankPut t (bankGet g.front t) l) g.back) with copying := [] }

/-- BACK_COPY_DONE (R357). -/
def doBackCopyDone (b : Block) : Block := copyBack b

def execBackCopyDone (s : State) := effect doBackCopyDone s

/-- A batch is open: one granted to a policy engine that has not ended (R356, R421). -/
def Block.batchOpen (b : Block) : Bool := (List.range 2).any fun p => (b.pe p).bstat == 2

/-- The hold begins; TLACK rises (R369). -/
def beginHold (b : Block) : Block := b.onImg fun g => { g with hold := some b.sys.now, tlack := true, holdLong := false }

/-- DEFERRED_SWAP (R358, R369): once the hold is released and no batch is open; a new hold that waited for it then begins. -/
def doDeferredSwap (b : Block) : Block :=
  match b.img.deferred with
  | none => b
  | some due =>
    if b.img.hold.isSome = true ∨ b.batchOpen = true ∨ b.sys.mstate = .off then b
    else
      let len := (b.sys.now - due) / usT
      let b1 := b.onImg fun g => { g with defers := satAdd 4294967295 g.defers 1, defMax := max g.defMax len }
      let b2 := swapBanks (epochOf b.sys.now) true b1
      if b2.img.tlatch then beginHold b2 else b2

def execDeferredSwap (s : State) := effect doDeferredSwap s

/-- The measured words of the supplies; a feed at 18.0 V or more is no longer low (R442, R462; log entry 60). -/
def takeMeasures (ws : List Word) (b : Block) : Block := b.onPwr fun p => { p with
  meas := ws
  feeds := p.feeds.mapIdx fun n f => { f with low := f.low && decide (toSigned 32 (ws.getD n 0#32).toNat < 18000000) } }

/-- TILE_WRITE (R353): the owner of a tile publishes it; the words it brings are those of the policy shared area, and in tile 0x0009 the measured words 1 to 7,
which no other event brings (R462). -/
def doTileWrite (t : Nat) (ws : List Word) (b : Block) : Block :=
  if t = 0 then b
  else if policyBase ≤ t then storeTile t (pad15 ws) b
  else
    let b1 := if t = 9 then takeMeasures (((pad15 ws).drop 1).take 7) b else b
    publish t b1

def execTileWrite (tile : Fin 16384) (ws : List Word) (s : State) := effect (doTileWrite tile ws) s

/-- TILE_REFRESH (R356): the writer publishes the tile again. -/
def doTileRefresh (t : Nat) (b : Block) : Block :=
  if t = 0 then b else if policyBase ≤ t then storeTile t (bankGet b.img.back t) b else publish t b

def execTileRefresh (tile : Fin 16384) (s : State) := effect (doTileRefresh tile) s

/-! ### Transom port (R366 to R370) -/

/-- Every tile of both banks has been written since the CTL domain rose (R370). -/
def Block.portReady (b : Block) : Bool := decide (b.sys.mstate ≠ .off) && decide (5 * msT ≤ b.sys.now)

/-- The 64 bytes of a tile with its check (R352). -/
def tileBytes (ws : TileData) : List Byte := wordsBytes ws ++ leBytes 4 (crc32c (wordsBytes ws))

/-- TRANSOM_READ (R366, R368, R370). -/
def doTransomRead (t h : Nat) (b : Block) : Block := b.onImg fun g => { g with
  td := if b.sys.mstate = .off then none else if b.portReady then some (BitVec.ofNat 16 (leField (tileBytes (bankGet g.front t)) (2 * h) 2)) else some 0#16 }

def execTransomRead (tile : Fin 16384) (half : Fin 32) (s : State) := effect (doTransomRead tile half) s

/-- TLATCH_RISE (R369, R373): a hold, or after a pending deferred swap. -/
def doTlatchRise (b : Block) : Block :=
  if b.img.tlatch then b
  else
    let b1 := b.onImg fun g => { g with tlatch := true }
    if b.portReady = false ∨ b.img.deferred.isSome = true then b1 else beginHold b1

def execTlatchRise (s : State) := effect doTlatchRise s

/-- TLATCH_FALL (R369). -/
def doTlatchFall (b : Block) : Block := b.onImg fun g => { g with tlatch := false, tlack := false, hold := none, holdLong := false }

def execTlatchFall (s : State) := effect doTlatchFall s

/-- IMG_HOLD_LONG (R358): once for a hold of 100 ms. -/
def doImgHoldLong (b : Block) : Block :=
  match b.img.hold with
  | some t => if b.img.holdLong then b else note .imgHoldLong noArg [] ((b.at (t + 100 * msT)).onImg fun g => { g with holdLong := true })
  | none => b

def execImgHoldLong (s : State) := effect doImgHoldLong s

/-! ### Checks (R354, R371, R372) -/

def ImgPart.fault? (g : ImgPart) (t : Nat) : Option TileFault := g.faults.find? fun f => f.tile == t

def putFault (f : TileFault) (b : Block) : Block := b.onImg fun g => { g with faults := f :: g.faults.filter fun x => x.tile != f.tile }

/-- An internal reader sees a tile fail: it counts, and raises IMG_TILE_CHECK at most once per tile per second (R372). -/
def tileFails (t : Nat) (b : Block) : Block :=
  let bank := b2n b.img.front1
  let b1 := b.onImg fun g => { g with chkFail := satAdd 4294967295 g.chkFail 1, lfTile := t, lfBank := bank }
  match b.img.fault? t with
  | some f =>
    let f1 := { f with firstFail := some (f.firstFail.getD b.sys.now) }
    if b.sys.now < f.lastEvent + secT then putFault f1 b1
    else note .imgTileCheck noArg [t, bank] (putFault { f1 with lastEvent := b.sys.now } b1)
  | none => note .imgTileCheck noArg [t, bank] (putFault { tile := t, firstFail := some b.sys.now, lastEvent := b.sys.now, stuck := false } b1)

/-- A tile that reads well ends its run of failures. -/
def tilePasses (t : Nat) (b : Block) : Block := match b.img.fault? t with
  | some f => if f.stuck then b else putFault { f with firstFail := none } b
  | none => b

/-- TILE_READ_INTERNAL (R372): a tile that fails is read once more; after a second failure the engine keeps the value it last took while that is no older than
100 ms, and otherwise has none. -/
def doTileReadInternal (e t fails : Nat) (b : Block) : Block :=
  let mine (x : Nat × Nat × Nat × TileData) : Bool := x.1 == e && x.2.1 == t
  let take (b : Block) : Block := (tilePasses t b).onImg fun g => { g with
    taken := (e, t, b.sys.now, bankGet g.front t) :: g.taken.filter fun x => !mine x }
  if fails = 0 then take b
  else if fails = 1 then take (tileFails t b)
  else (tileFails t (tileFails t b)).onImg fun g => { g with
    taken := g.taken.filter fun x => !mine x || decide (b.sys.now ≤ x.2.2.1 + 100 * msT) }

def execTileReadInternal (engine : Fin 15) (tile : Fin 16384) (fails : Fin 3) (s : State) := effect (doTileReadInternal engine tile fails) s

/-- IMG_TILE_STUCK (R372): a tile that still fails 200 ms after its first failure. -/
def doImgTileStuck (t : Nat) (b : Block) : Block :=
  match b.img.fault? t with
  | some f => match f.firstFail with
    | some t0 =>
      if f.stuck then b
      else
        let b1 := tileFails t (b.at (t0 + 200 * msT))
        let b2 := b1.onImg fun g => { g with stuck := satAdd 65535 g.stuck 1, faults := g.faults.map fun x => if x.tile = t then { x with stuck := true } else x }
        (note .imgTileStuck noArg [t, b2n b.img.front1] b2).touch [8]
    | none => b
  | none => b

def execImgTileStuck (tile : Fin 16384) (s : State) := effect (doImgTileStuck tile) s

/-! ### Image commands (R345, R346, R365) -/

/-- The read reply: the tiles as the front bank holds them; `bad` names the positions whose tile failed its check in the final copy. -/
def readReply (src : Src) (tiles : List Nat) (bad : List Nat) (b : Block) : Block :=
  let fails := (List.range tiles.length).filter fun i => bad.contains i
  let data := leBytes 4 b.img.epoch ++ leBytes 1 (b2n b.img.front1) ++ leBytes 1 0 ++ leBytes 2 tiles.length
    ++ leBytes 16 (maskOf ((List.range 128).map fun i => fails.contains i)) ++ tiles.flatMap fun t => tileBytes (bankGet b.img.front t)
  let b1 := fails.foldl (fun b i => tileFails (tiles.getD i 0) b) b
  complete src (if fails = [] then .ok else .tileCheck) data b1

/-- IMG_READ. -/
def ruleImgRead (src : Src) (first count reserved : Nat) (bad : List Nat) (_b : Block) : HostRule :=
  { opcode := 0x0201, owner := false, stateOk := true, param := need (decide (1 ≤ count ∧ count ≤ 128 ∧ first + count ≤ 16384 ∧ reserved = 0))
    act := readReply src ((List.range count).map (first + ·)) bad }

def execImgRead (src : Src) (first count reserved : Nat) (bad : List Nat) (s : State) := effect (host src (ruleImgRead src first count reserved bad)) s

/-- IMG_READ_LIST. -/
def ruleImgReadList (src : Src) (tiles : List Nat) (reserved : Nat) (bad : List Nat) (_b : Block) : HostRule :=
  { opcode := 0x0202, owner := false, stateOk := true
    param := need (decide (1 ≤ tiles.length ∧ tiles.length ≤ 128 ∧ reserved = 0) && tiles.all fun t => decide (t < 16384))
    act := readReply src tiles bad }

def execImgReadList (src : Src) (tiles : List Nat) (reserved : Nat) (bad : List Nat) (s : State) := effect (host src (ruleImgReadList src tiles reserved bad)) s

end Sys2Proof.Machine
end

