-- ==== Sys2Proof/Machine/PolicyRegs.lean ====
section
/-! DEFINITION. The register blocks that the policy engines reach: completion queues, DMA channels, service ring, frame port, local block, RTU, image control,
interrupt controller, CAN blocks (R391, R411, R413 to R441). -/

namespace Sys2Proof.Machine

/-! ### Completion queues (R425, R428, R429) -/

/-- A queue by number: 0 to 15 the channels, 16 and 17 the service rings, 18 and 19 the frame ports. -/
def cqAt (q : Nat) : CqLoc := if q < 16 then .chan q else if q < 18 then .ring (q - 16) else .port (q - 18)

/-- A channel that has been disabled reports DISABLED once its last completion is written (R430). -/
def dmaDisabled (c : Nat) (b : Block) : Block :=
  if (b.ch c).st = .stopping ∧ (b.ch c).cq.waiting = [] then onCh c (fun x => { x with st := .disabled }) b else b

/-- What may report disabled when space is made in a queue. -/
def settleQueue (l : CqLoc) (b : Block) : Block :=
  match l with
  | .chan c => dmaDisabled c b
  | .ring p => drainRing p b
  | .port _ => b

/-- CQGET: a value outside the range from CQGET to CQPUT is ignored; room lets waiting completions be written (R425, R429). -/
def writeCqGet (l : CqLoc) (v : Nat) (b : Block) : Block :=
  let q := b.cq l
  let w := v % 8192
  if (q.put + 8192 - q.get) % 8192 < (w + 8192 - q.get) % 8192 then b
  else
    let b1 := onCq l (fun q => { q with get := w }) b
    settleQueue l (flushCq l (q.waiting.length + 1) b1)

/-- CQGET_WRITE (R429). -/
def doCqgetWrite (q value : Nat) (b : Block) : Block := writeCqGet (cqAt q) value b

def execCqgetWrite (queue : Fin 20) (value : Nat) (s : State) := effect (doCqgetWrite queue value) s

/-- CQ_MODERATION_TIMEOUT (R428): the oldest unsignalled completion has waited MTIME. -/
def doCqModerationTimeout (q : Nat) (b : Block) : Block :=
  let l := cqAt q
  match (b.cq l).oldest with
  | some t => if (b.cq l).mtime = 0 ∨ (b.cq l).mpend = 0 then b else signalCq l (b.at (t + (b.cq l).mtime * usT))
  | none => b

def execCqModerationTimeout (queue : Fin 20) (s : State) := effect (doCqModerationTimeout queue) s

/-- The queue registers at offsets 0x20 to 0x34 (R425). -/
def Cq.read (q : Cq) (off : Nat) : Nat :=
  match off with
  | 0x20 => q.base
  | 0x24 => q.size
  | 0x28 => q.put
  | 0x2C => q.get
  | 0x30 => q.mtime * 65536 + q.mcount
  | 0x34 => b2n q.full * 256 + q.mpend % 256
  | _ => 0

/-- A write to a queue register; CQBASE and CQSIZE take one only while the function is disabled (R425). -/
def writeCqReg (l : CqLoc) (off v : Nat) (disabled : Bool) (b : Block) : Block :=
  match off with
  | 0x20 => if disabled then onCq l (fun q => { q with base := v }) b else b
  | 0x24 => if disabled then onCq l (fun q => { q with size := v % 8192 }) b else b
  | 0x2C => writeCqGet l v b
  | 0x30 => onCq l (fun q => { q with mtime := v / 65536 % 65536, mcount := v % 256 }) b
  | _ => b

/-- A queue starts anew when its function is enabled (R425). -/
def Cq.restart (q : Cq) : Cq := { q with put := 0, get := 0, mpend := 0, oldest := none, full := false, waiting := [] }

/-! ### DMA channels (R423 to R426, R430) -/

/-- The engine owns the channel: writes by the other engine, and to a channel of neither, are ignored (R423). -/
def Block.ownsCh (b : Block) (p c : Nat) : Bool := (b.ch c).owner == some p

/-- IDLE or RUNNING, as RGET and RPUT and a descriptor in progress tell (R425). -/
def DmaChan.settle (x : DmaChan) : DmaChan :=
  if x.st = .idle ∨ x.st = .running then { x with st := if x.cur.isNone && x.rget == x.rput then .idle else .running } else x

/-- Setting EN of a DISABLED channel (R425). -/
def enableCh (c : Nat) (b : Block) : Block :=
  if (b.ch c).st = .disabled then onCh c (fun x => { x with st := .idle, rput := 0, rget := 0, cq := x.cq.restart, cur := none }) b else b

/-- DMA_ENABLE. -/
def doDmaEnable (c : Nat) (b : Block) : Block := if (b.ch c).owner.isSome then enableCh c b else b

def execDmaEnable (ch : Fin 16) (s : State) := effect (doDmaEnable ch) s

/-- TAG of the descriptor `k` of a channel's ring, 0 when its words cannot be read. -/
def Block.descTag (b : Block) (c k : Nat) : Nat :=
  match b.vread ((b.ch c).owner.getD 0) ((b.ch c).rbase + 16 * (k % max 1 (b.ch c).rsize)) 16 with
  | some d => leField d 14 2
  | none => 0

/-- A completion of a channel. -/
def dmaEntry (index status tag count addr : Nat) : CqEntry := { kind := 0, index := index, status := status, hi := 0, tag := tag, count := count, addr := addr }

/-- Disabling a channel (R430): the descriptor in progress, then the queued ones, complete ABORTED in order. -/
def disableCh (c : Nat) (b : Block) : Block :=
  let x := b.ch c
  if x.st = .disabled ∨ x.st = .stopping then b
  else
    let b1 := onCh c (fun x => { x with st := .stopping, cur := none }) b
    let b2 := match x.cur with
      | some d => pushCq (.chan c) (dmaEntry d.index 8 d.tag d.moved 0) b1
      | none => b1
    let n := (x.rput + 8192 - x.rget) % 8192
    let b3 := (List.range n).foldl (fun b i => pushCq (.chan c) (dmaEntry ((x.rget + i) % max 1 x.rsize) 8 (b.descTag c (x.rget + i)) 0 0) b) b2
    onCh c (fun y => { y with rget := x.rput }) b3

/-- DMA_DISABLE. -/
def doDmaDisable (c : Nat) (b : Block) : Block := disableCh c b

def execDmaDisable (ch : Fin 16) (s : State) := effect (doDmaDisable ch) s

/-- DMA_DISABLE_DONE. -/
def doDmaDisableDone (c : Nat) (b : Block) : Block := dmaDisabled c b

def execDmaDisableDone (ch : Fin 16) (s : State) := effect (doDmaDisableDone ch) s

/-- RPUT: a distance ahead of RGET above RSIZE is ignored (R425). -/
def writeRput (c v : Nat) (b : Block) : Block :=
  let x := b.ch c
  let w := v % 8192
  if x.rsize < (w + 8192 - x.rget) % 8192 then b else onCh c (fun x => { x with rput := w }.settle) b

/-- DMA_RPUT_WRITE. -/
def doDmaRputWrite (c value : Nat) (b : Block) : Block := writeRput c value b

def execDmaRputWrite (ch : Fin 16) (value : Nat) (s : State) := effect (doDmaRputWrite ch value) s

/-- RESUME of a HALTED channel (R425, R426). -/
def resumeCh (c : Nat) (b : Block) : Block := onCh c (fun x => if x.st = .halted then { x with st := .idle, cur := none }.settle else x) b

/-- DMA_RESUME. -/
def doDmaResume (c : Nat) (b : Block) : Block := resumeCh c b

def execDmaResume (ch : Fin 16) (s : State) := effect (doDmaResume ch) s

def DmaState.code : DmaState → Nat
  | .disabled => 0
  | .idle => 1
  | .running => 2
  | .halted => 3
  | .stopping => 4

/-- The block of a channel (R425). -/
def Block.chRead (b : Block) (c off : Nat) : Nat :=
  let x := b.ch c
  match off with
  | 0x00 => x.prio * 16 + b2n (decide (x.st ≠ .disabled))
  | 0x04 => x.owner.getD 0 * 256 + x.st.code
  | 0x08 => x.rbase
  | 0x0C => x.rsize
  | 0x10 => x.rput
  | 0x14 => x.rget
  | 0x18 => x.faddr
  | 0x1C => x.fcause * 256 + x.facc * 64 + x.fregion
  | _ => x.cq.read off

def writeCh (c off v : Nat) (b : Block) : Block :=
  let dis := decide ((b.ch c).st = .disabled)
  match off with
  | 0x00 =>
    let b1 := onCh c (fun x => { x with prio := bitsOf 5 4 v }) b
    if bitOf 0 v then (let b2 := enableCh c b1; if bitOf 1 v then resumeCh c b2 else b2) else disableCh c b1
  | 0x08 => if dis then onCh c (fun x => { x with rbase := v }) b else b
  | 0x0C => if dis then onCh c (fun x => { x with rsize := v % 8192 }) b else b
  | 0x10 => writeRput c v b
  | _ => writeCqReg (.chan c) off v dis b

/-! ### Service ring and frame port blocks (R437, R439) -/

/-- STATE of a ring: 0 disabled, 1 idle, 2 running (R437). -/
def Ring.state (r : Ring) : Nat := if !r.en then 0 else if r.running = [] ∧ r.rget = r.rput then 1 else 2

def Block.ringRead (b : Block) (p off : Nat) : Nat :=
  let r := (b.pe p).ring
  match off with
  | 0x00 => b2n r.en
  | 0x04 => p * 256 + r.state
  | 0x08 => r.rbase
  | 0x0C => r.rsize
  | 0x10 => r.rput
  | 0x14 => r.rget
  | _ => r.cq.read off

def onRing_ (p : Nat) (f : Ring → Ring) (b : Block) : Block := onPe p (fun e => { e with ring := f e.ring }) b

/-- Disabling a ring (R430). -/
def disableRing (p : Nat) (b : Block) : Block :=
  if (b.pe p).ring.en then drainRing p (onRing_ p (fun r => { r with stopping := true }) b) else b

def writeRing (p off v : Nat) (b : Block) : Block :=
  let r := (b.pe p).ring
  match off with
  | 0x00 =>
    if bitOf 0 v then (if r.en then b else onRing_ p (fun r => { r with en := true, stopping := false, rput := 0, rget := 0, cq := r.cq.restart }) b)
    else disableRing p b
  | 0x08 => if r.en then b else onRing_ p (fun r => { r with rbase := v }) b
  | 0x0C => if r.en then b else onRing_ p (fun r => { r with rsize := v % 8192 }) b
  | 0x10 => if r.rsize < (v % 8192 + 8192 - r.rget) % 8192 then b else onRing_ p (fun r => { r with rput := v % 8192 }) b
  | _ => writeCqReg (.ring p) off v (!r.en) b

def onPort_ (p : Nat) (f : FramePort → FramePort) (b : Block) : Block := onPe p (fun e => { e with port := f e.port }) b

/-- SEND (R439): a datagram through N0, or ignored and counted beyond 1,000 in a second or while BUSY; a FLEN outside 1 to 1,472 sends nothing (log entry 57). -/
def sendFrame (p : Nat) (b : Block) : Block :=
  let f := (b.pe p).port
  let recent := f.sends.filter fun t => decide (b.sys.now < t + secT)
  if f.busy = true ∨ 1000 ≤ recent.length then onPort_ p (fun f => { f with refused := satAdd 65535 f.refused 1 }) b
  else if f.flen = 0 ∨ 1472 < f.flen then b
  else
    let b1 := onPort_ p (fun f => { f with sends := b.sys.now :: recent }) b
    if b.n0Up then sendNet (.udp p f.daddr f.dport (memRead 0#8 f.fbuf 0 f.flen) (if f.tsreq then some f.fid else none)) b1 else b1

/-- FRAME_PORT_SEND. -/
def doFramePortSend (p : Nat) (b : Block) : Block := sendFrame p b

def execFramePortSend (engine : Fin 2) (s : State) := effect (doFramePortSend engine) s

def Block.portRead (b : Block) (p off : Nat) : Nat :=
  let f := (b.pe p).port
  if 0x100 ≤ off ∧ off < 0x6C0 then leNat (memRead 0#8 f.fbuf (off - 0x100) 4)
  else match off with
    | 0x004 => f.refused * 65536 + b2n f.busy
    | 0x008 => f.daddr
    | 0x00C => f.dport
    | 0x010 => f.flen
    | 0x014 => b2n f.tsreq * 65536 + f.fid
    | _ => f.cq.read off

def writePort (p off v : Nat) (b : Block) : Block :=
  if 0x100 ≤ off ∧ off < 0x6C0 then onPort_ p (fun f => { f with fbuf := memWrite 0#8 (off - 0x100) (leBytes 4 v) f.fbuf }) b
  else match off with
    | 0x000 => if bitOf 0 v then sendFrame p b else b
    | 0x008 => onPort_ p (fun f => { f with daddr := v }) b
    | 0x00C => onPort_ p (fun f => { f with dport := v % 65536 }) b
    | 0x010 => onPort_ p (fun f => { f with flen := v % 2048 }) b
    | 0x014 => onPort_ p (fun f => { f with tsreq := bitOf 16 v, fid := v % 65536 }) b
    | _ => writeCqReg (.port p) off v true b

/-! ### Local block (R411, R414) -/

/-- WDOG_WRITE (R411). -/
def doWdogWrite (p : Nat) (b : Block) : Block := onPe p (fun e => { e with wdAt := b.sys.now }) b

def execWdogWrite (engine : Fin 2) (s : State) := effect (doWdogWrite engine) s

/-- Reading MTIME_LO latches MTIME_HI. -/
def doMtimeLoRead (p : Nat) (b : Block) : Block := onPe p (fun e => { e with mtimeHi := b.sys.now / 4294967296 % 4294967296 }) b

def execMtimeLoRead (engine : Fin 2) (s : State) := effect (doMtimeLoRead engine) s

/-- Reading PTP_S_LO latches PTP_S_HI with PTPV, and PTP_NS. -/
def doPtpSLoRead (p : Nat) (b : Block) : Block :=
  let t := b.ptpTime
  onPe p (fun e => { e with ptpHi := b2n b.net.ptp.valid * 65536 + t.1 / 4294967296 % 65536, ptpNs := t.2 }) b

def execPtpSLoRead (engine : Fin 2) (s : State) := effect (doPtpSLoRead engine) s

def readLocal (p off : Nat) (b : Block) : Nat × Block :=
  let e := b.pe p
  match off with
  | 0x00 => (p, b)
  | 0x04 => (e.starts, b)
  | 0x08 => (b.sys.now % 4294967296, doMtimeLoRead p b)
  | 0x0C => (e.mtimeHi, b)
  | 0x10 => (e.mtimecmp % 4294967296, b)
  | 0x14 => (e.mtimecmp / 4294967296, b)
  | 0x1C => (e.wdper, b)
  | 0x20 => (b.ptpTime.1 % 4294967296, doPtpSLoRead p b)
  | 0x24 => (e.ptpHi, b)
  | 0x28 => (e.ptpNs, b)
  | 0x2C => (e.sleepRef, b)
  | _ => (0, b)

def writeLocal (p off v : Nat) (b : Block) : Block :=
  match off with
  | 0x10 => onPe p (fun e => { e with mtimecmp := e.mtimecmp / 4294967296 * 4294967296 + v }) b
  | 0x14 => onPe p (fun e => { e with mtimecmp := v * 4294967296 + e.mtimecmp % 4294967296 }) b
  | 0x18 => doWdogWrite p b
  | _ => b

/-! ### RTU block (R416, R417) -/

/-- A write to a word of the region registers; a locked region ignores it, and LOCK itself is read-only. -/
def writeRegion (p i : Nat) (hi : Bool) (v : Nat) (b : Block) : Block := onPe p (fun e => { e with
  regions := modAt e.regions i fun r =>
    if r.lock then r
    else if hi then { r with pbase := v / 4096 * 4096, x := bitOf 2 v, w := bitOf 1 v, r := bitOf 0 v }
    else { r with vbase := v / 4096 * 4096, size := bitsOf 6 2 v, en := bitOf 0 v } }) b

/-- REGION_WRITE. -/
def doRegionWrite (p i : Nat) (hi : Bool) (v : Word) (b : Block) : Block := writeRegion p i hi v.toNat b

def execRegionWrite (engine : Fin 2) (region : Fin 64) (hi : Bool) (value : Word) (s : State) := effect (doRegionWrite engine region hi value) s

/-- RTU_ACTIVE_CLEAR (R417). -/
def doRtuActiveClear (p : Nat) (b : Block) : Block := onPe p (fun e => { e with active := false }) b

def execRtuActiveClear (engine : Fin 2) (s : State) := effect (doRtuActiveClear engine) s

def Region.word0 (r : Region) : Nat := r.vbase + r.size * 4 + b2n r.lock * 2 + b2n r.en
def Region.word1 (r : Region) : Nat := r.pbase + b2n r.x * 4 + b2n r.w * 2 + b2n r.r

def Block.rtuRead (b : Block) (p off : Nat) : Nat :=
  let e := b.pe p
  if off < 0x200 then
    let r := e.regions.getD (off / 8) Region.off
    if off % 8 = 0 then r.word0 else r.word1
  else match off with
    | 0x200 => b2n e.active * 2147483648 + e.fcause * 256 + e.facc * 64 + e.fregion
    | 0x204 => e.fvaddr
    | 0x208 => e.fpaddr
    | 0x20C => e.faults
    | _ => 0

def writeRtu (p off v : Nat) (b : Block) : Block :=
  if off < 0x200 then writeRegion p (off / 8) (off % 8 != 0) v b
  else if off = 0x200 ∧ bitOf 31 v = true then doRtuActiveClear p b
  else b

/-! ### Image control (R421, R422) -/

/-- A batch of `n` µs can be granted at once: the length plus 5 µs remain before the next boundary and no copy is outstanding (R421). -/
def Block.batchFits (b : Block) (n : Nat) : Bool := decide (b.sys.now + (n + 5) * usT ≤ b.nextMultiple msT) && decide (b.img.copying = [])

/-- BOPEN: 0, values above 50 and a write while a batch waits or is granted are ignored (R422). -/
def doBopenWrite (p n : Nat) (b : Block) : Block :=
  let e := b.pe p
  if n = 0 ∨ 50 < n ∨ e.bstat = 1 ∨ e.bstat = 2 then b
  else onPe p (fun e => { e with bLen := n, bstat := if b.batchFits n then 2 else 1, bAt := b.sys.now }) b

def execBopenWrite (engine : Fin 2) (len : Nat) (s : State) := effect (doBopenWrite engine len) s

/-- BATCH_GRANT (R421): the first copy after the next swap is complete. -/
def doBatchGrant (p : Nat) (b : Block) : Block :=
  if (b.pe p).bstat = 1 ∧ b.img.copying = [] then onPe p (fun e => { e with bstat := 2, bAt := b.sys.now }) b else b

def execBatchGrant (engine : Fin 2) (s : State) := effect (doBatchGrant engine) s

/-- BCLOSE (R421): a waiting or granted batch ends. -/
def doBcloseWrite (p : Nat) (b : Block) : Block := if (b.pe p).bstat = 1 ∨ (b.pe p).bstat = 2 then onPe p (fun e => { e with bstat := 0 }) b else b

def execBcloseWrite (engine : Fin 2) (s : State) := effect (doBcloseWrite engine) s

/-- BATCH_OVERRUN (R421). -/
def doBatchOverrun (p : Nat) (b : Block) : Block :=
  let e := b.pe p
  if e.bstat = 2 then note .polBatchOverrun p [] (onPe p (fun e => { e with bstat := 3 }) (b.at (e.bAt + e.bLen * usT))) else b

def execBatchOverrun (engine : Fin 2) (s : State) := effect (doBatchOverrun engine) s

def Block.imgCtlRead (b : Block) (p off : Nat) : Nat :=
  let e := b.pe p
  match off with
  | 0x00 => b2n b.img.hold.isSome * 2 + b2n b.img.front1
  | 0x04 => b.img.swaps
  | 0x10 => e.bstat
  | 0x14 => e.tpart
  | 0x18 => e.twrites
  | _ => 0

def writeImgCtl (p off v : Nat) (b : Block) : Block :=
  match off with
  | 0x08 => doBopenWrite p (v % 64) b
  | 0x0C => doBcloseWrite p b
  | _ => b

/-! ### Interrupt controller (R431 to R435) -/

/-- COMPLETE (R434): clears a source delivered to the engine; a level source is sampled again. -/
def doIrqComplete (p s : Nat) (b : Block) : Block :=
  if s < 128 ∧ b.delivered_ p s = true then
    let b1 := b.onPol fun x => { x with pend := clearBit x.pend s }
    if b.irqLevel s then raiseIrq s b1 else b1
  else b

def execIrqComplete (engine : Fin 2) (source : Fin 128) (s : State) := effect (doIrqComplete engine source) s

/-- SWISET (R432). -/
def doSwisetWrite (mask : Nat) (b : Block) : Block := (membersOf 8 mask).foldl (fun b n => raiseIrq (48 + n) b) b

def execSwisetWrite (mask : BitVec 8) (s : State) := effect (doSwisetWrite mask.toNat) s

/-- TPER (R432): a write restarts the timer. -/
def doTperWrite (t per : Nat) (b : Block) : Block := b.onPol fun x => { x with timers := modAt x.timers t fun _ => { per := per, start := b.sys.now } }

def execTperWrite (timer : Fin 8) (period : Word) (s : State) := effect (doTperWrite timer period.toNat) s

/-- TIMER_EXPIRY (R433): once per period. -/
def doTimerExpiry (t : Nat) (b : Block) : Block :=
  match b.pol.timers[t]? with
  | some x =>
    if x.per = 0 then b
    else
      let due := x.start + x.per * usT
      raiseIrq (56 + t) ((b.at due).onPol fun y => { y with timers := modAt y.timers t fun z => { z with start := due } })
  | none => b

def execTimerExpiry (timer : Fin 8) (s : State) := effect (doTimerExpiry timer) s

/-- ROUTE (R431, R440): pending sources follow it at once. -/
def doRouteWrite (s : Nat) (p1 : Bool) (b : Block) : Block := redirectOne s (b.onPol fun x => { x with route := if p1 then setBit x.route s else clearBit x.route s })

def execRouteWrite (source : Fin 128) (toP1 : Bool) (s : State) := effect (doRouteWrite source toP1) s

/-- RDIR_CLEAR (R432). -/
def doRdirClear (s : Nat) (b : Block) : Block := b.onPol fun x => { x with rdir := clearBit x.rdir s }

def execRdirClear (source : Fin 128) (s : State) := effect (doRdirClear source) s

/-- The sources delivered to an engine (R431, R432). -/
def Block.pendOf (b : Block) (p : Nat) : Nat := if b.peLive p then (b.pol.pend.land b.pol.en).land (if p = 0 then (2 ^ 128 - 1 - b.pol.route % 2 ^ 128) else b.pol.route) else 0

def Block.intcRead (b : Block) (p off : Nat) : Nat :=
  let word (m w : Nat) : Nat := m / 2 ^ (32 * w) % 4294967296
  if off < 0x10 then word (b.pendOf p) (off / 4)
  else if off < 0x20 then word b.pol.pend (off / 4 - 4)
  else if off < 0x30 then word b.pol.en (off / 4 - 8)
  else if 0x40 ≤ off ∧ off < 0x60 then (b.pol.timers.getD (off / 4 - 16) { per := 0, start := 0 }).per
  else if 0x100 ≤ off ∧ off < 0x300 then
    let s := off / 4 - 64
    b2n (b.pol.pend.testBit s) * 8 + b2n (b.pol.rdir.testBit s) * 4 + b2n (s == 36 || s == 39) * 2 + b2n (b.pol.route.testBit s)
  else 0

def writeIntc (p off v : Nat) (b : Block) : Block :=
  if 0x20 ≤ off ∧ off < 0x30 then
    let w := off / 4 - 8
    b.onPol fun x => { x with en := x.en % 2 ^ (32 * w) + v * 2 ^ (32 * w) + x.en / 2 ^ (32 * (w + 1)) * 2 ^ (32 * (w + 1)) }
  else if off = 0x30 then doIrqComplete p (v % 128) b
  else if off = 0x34 then doSwisetWrite (v % 256) b
  else if 0x40 ≤ off ∧ off < 0x60 then doTperWrite (off / 4 - 16) v b
  else if 0x100 ≤ off ∧ off < 0x300 then
    let s := off / 4 - 64
    let b1 := doRouteWrite s (bitOf 0 v) b
    if bitOf 2 v then doRdirClear s b1 else b1
  else b

/-! ### CAN blocks (R391, R392, R394, R395) -/

/-- The 72 bytes of a transmit buffer, and the 80 bytes of a receive entry. -/
def CanFrame.bytes (f : CanFrame) : List Byte := leBytes 4 f.idw ++ leBytes 4 f.ctlw ++ (f.data ++ List.replicate 64 0#8).take 64
def CanEntry.bytes (e : CanEntry) : List Byte := e.frame.bytes ++ leBytes 8 e.ts

def Block.canRead (b : Block) (k off : Nat) : Nat :=
  let c := b.can k
  let tb (n o : Nat) : Nat := leField (c.tbs.getD n CanBuf.empty).frame.bytes o 4
  if 0x040 ≤ off ∧ off < 0x088 then tb 0 (off - 0x040)
  else if 0x088 ≤ off ∧ off < 0x0D0 then tb 1 (off - 0x088)
  else if 0x800 ≤ off ∧ off < 0x1000 then
    let e := c.filters.getD ((off - 0x800) / 8) (0, 0)
    if off % 8 = 0 then e.1 else e.2
  else if 0x1000 ≤ off ∧ off < 0xB000 then
    match lookupKey c.rq1 ((off - 0x1000) / 80) with
    | some e => leField e.bytes ((off - 0x1000) % 80) 4
    | none => 0
  else match off with
    | 0x000 => ((b.canTile k).getD 0 0).toNat
    | 0x004 => ((b.canTile k).getD 1 0).toNat
    | 0x00C => (List.range 3).foldl (fun a n => a + (c.tbs.getD n CanBuf.empty).st * 4 ^ n) 0
    | 0x010 => c.rqPut
    | 0x014 => c.rqGet
    | 0x018 => c.rxLost
    | _ => 0

/-- A word of a transmit buffer that is not pending (R393). -/
def writeTb (k n off v : Nat) (b : Block) : Block := onCan k (fun c => { c with
  tbs := modAt c.tbs n fun t =>
    if t.st = 1 then t
    else if off = 0 then { t with frame := { t.frame with idw := v } }
    else if off = 4 then { t with frame := { t.frame with ctlw := v } }
    else { t with frame := { t.frame with data := (t.frame.data.take (off - 8) ++ leBytes 4 v ++ t.frame.data.drop (off - 4)).take 64 } } }) b

def writeCan (k off v : Nat) (b : Block) : Block :=
  if 0x040 ≤ off ∧ off < 0x088 then writeTb k 0 (off - 0x040) v b
  else if 0x088 ≤ off ∧ off < 0x0D0 then writeTb k 1 (off - 0x088) v b
  else if 0x800 ≤ off ∧ off < 0x1000 then
    onCan k (fun c => { c with filters := modAt c.filters ((off - 0x800) / 8) fun e => if off % 8 = 0 then (v, e.2) else (e.1, v) }) b
  else match off with
    | 0x008 =>
      let b1 := (membersOf 3 v).foldl (fun b n => doCanSend k n b) b
      (membersOf 3 (v / 8)).foldl (fun b n => doCanAbort k n b) b1
    | 0x014 => doCanRqgetWrite k v b
    | _ => b

/-! ### The physical map (R413) -/

/-- What a physical address reaches: local RAM of an engine, the image windows, a register block with the offset in it, a CAN block, or nothing. -/
inductive PhysTarget where
  | ram (p : Nat)
  | imgRead (off : Nat)
  | imgWrite (off : Nat)
  | block (n off : Nat)
  | dma (c off : Nat)
  | can (k off : Nat)
  | nothing
  deriving DecidableEq, Repr

/-- The map; blocks 0 to 5 are the local block, interrupt controller, RTU, image control, service ring and frame port. -/
def physTarget (pa : Nat) : PhysTarget :=
  if pa < 0x00100000 then .ram (pa / ramSize)
  else if 0x10000000 ≤ pa ∧ pa < 0x10100000 then .imgRead (pa - 0x10000000)
  else if 0x10100000 ≤ pa ∧ pa < 0x101C0000 then .imgWrite (pa - 0x10100000)
  else if 0x40000000 ≤ pa ∧ pa < 0x40006000 then .block ((pa - 0x40000000) / 4096) (pa % 4096)
  else if 0x40010000 ≤ pa ∧ pa < 0x40011000 then .dma ((pa - 0x40010000) / 256) (pa % 256)
  else if 0x40020000 ≤ pa ∧ pa < 0x40030000 then .can 0 (pa - 0x40020000)
  else if 0x40030000 ≤ pa ∧ pa < 0x40040000 then .can 1 (pa - 0x40030000)
  else .nothing

/-- RQOWN of the controller names the engine (R391, R413). -/
def Block.canOwned (b : Block) (p k : Nat) : Bool := (b.can k).set.rqOwn == p + 1

/-- Read an aligned word of a register block as engine `p`; none where the map reaches nothing. -/
def readReg (p : Nat) (t : PhysTarget) (b : Block) : Option (Nat × Block) :=
  match t with
  | .block 0 off => some (readLocal p off b)
  | .block 1 off => some (b.intcRead p off, b)
  | .block 2 off => some (b.rtuRead p off, b)
  | .block 3 off => some (b.imgCtlRead p off, b)
  | .block 4 off => some (b.ringRead p off, b)
  | .block _ off => some (b.portRead p off, b)
  | .dma c off => some (b.chRead c off, b)
  | .can k off => if b.canOwned p k then some (b.canRead k off, b) else none
  | _ => none

/-- Write an aligned word of a register block as engine `p`. -/
def writeReg (p : Nat) (t : PhysTarget) (v : Nat) (b : Block) : Option Block :=
  match t with
  | .block 0 off => some (writeLocal p off v b)
  | .block 1 off => some (writeIntc p off v b)
  | .block 2 off => some (writeRtu p off v b)
  | .block 3 off => some (writeImgCtl p off v b)
  | .block 4 off => some (writeRing p off v b)
  | .block _ off => some (writePort p off v b)
  | .dma c off => some (if b.ownsCh p c then writeCh c off v b else b)
  | .can k off => if b.canOwned p k then some (writeCan k off v b) else none
  | _ => none

/-- REGISTER_WRITE (R8): a write to a register at its physical address, by an engine in service. -/
def doRegisterWrite (p pa v : Nat) (b : Block) : Block :=
  if b.peLive p = false ∨ pa % 4 ≠ 0 then b else (writeReg p (physTarget pa) v b).getD b

def execRegisterWrite (engine : Fin 2) (addr value : Word) (s : State) := effect (doRegisterWrite engine addr.toNat value.toNat) s

end Sys2Proof.Machine
end

