-- ==== Sys2Proof/Machine/Policy.lean ====
section
/-! DEFINITION. Policy engine starts, restarts, traps, sleep, RTU faults, tile staging, accesses and DMA bursts (R408 to R426, R436). -/

namespace Sys2Proof.Machine

/-- An engine goes into or out of service in ENGSVC (R364). -/
def setSvc (e : Nat) (up : Bool) (b : Block) : Block := (b.onSys fun y => { y with engSvc := y.engSvc.set e up }).touch [8]

/-- Its place in the bit order of R364. -/
def svcOf (p : Nat) : Nat := 13 + p

/-! ### Starts and restarts (R409 to R411) -/

/-- What an engine loses when it goes down: its channels and its ring are disabled, its reservation and its sleep end (R411, R430). -/
def stopPolicy (p : Nat) (b : Block) : Block :=
  let b1 := onPe p (fun e => { e with up := false, asleep := false, resv := none }) (setSvc (svcOf p) false b)
  let mine := (List.range 16).filter fun c => decide ((b1.ch c).owner = some p)
  disableRing p (mine.foldl (fun b c => disableCh c b) b1)

/-- Restarts of the last 10 min. -/
def PolEngine.recent (e : PolEngine) (now : Nat) : List Nat := e.restarts.filter fun t => decide (now < t + 600 * secT)

/-- An engine goes down for a restart, or at the third within 10 min is held until the next BOOT: cause 0 watchdog, 1 double fault, 2 trap (R411). -/
def policyDown (p cause : Nat) (b : Block) : Block :=
  let recent := (b.pe p).recent b.sys.now
  let b1 := onPe p (fun e => { e with restarts := b.sys.now :: recent }) (stopPolicy p b)
  if 2 ≤ recent.length then note .polHeld p [] (onPe p (fun e => { e with held := true, restartDue := none }) b1)
  else note .polRestart p [cause] (onPe p (fun e => { e with restartDue := some cause }) b1)

/-- The engine is released at ENTRY (R409 step 5). -/
def releasePolicy (p : Nat) (b : Block) : Block :=
  let starts := (b.pe p).starts + 1
  let b1 := onPe p (fun e => { e with up := true, wdAt := b.sys.now, starts := starts, restartDue := none }) b
  note .polStart p [starts] (clearRedirected p (setSvc (svcOf p) true b1))

/-- A start: an image that fails a check is not started; with no image the engine stays in reset (R408 to R410). -/
def startPolicy (p : Nat) (b : Block) : Block :=
  if (b.imageOff b.sec.slot (policyTarget p)).isNone then onPe p (fun e => { e with restartDue := none }) b
  else match b.policyFault p with
    | some f => note .polImageBad p [f] (onPe p (fun e => { e with loaded := false, restartDue := none }) b)
    | none => releasePolicy p (loadPolicy p (b.onPol fun x => { x with
        engines := x.engines.map fun e => { e with resv := e.resv.filter fun a => decide (a / ramSize ≠ p) } }))

/-- POLICY_ENGINE_START: of an engine in reset, not held, once the module has left BOOT. -/
def doPolicyEngineStart (p : Nat) (b : Block) : Block :=
  if (b.pe p).up = true ∨ (b.pe p).held = true ∨ b.sys.mstate = .off ∨ b.sys.mstate = .boot then b else startPolicy p b

def execPolicyEngineStart (engine : Fin 2) (s : State) := effect (doPolicyEngineStart engine) s

/-- The engine runs: in service, not clock-gated, not halted by the debug port. -/
def Block.peRuns (b : Block) (p : Nat) : Bool := b.peLive p && !(b.sec.halted.getD (svcOf p) false)

/-- POL_WATCHDOG_EXPIRY; the watchdog of a gated or halted engine stands (R411, R474). -/
def doPolWatchdogExpiry (p : Nat) (b : Block) : Block :=
  if b.peRuns p then policyDown p 0 (b.at ((b.pe p).wdAt + (b.pe p).wdper * msT)) else b

def execPolWatchdogExpiry (engine : Fin 2) (s : State) := effect (doPolWatchdogExpiry engine) s

/-! ### Traps (R412, R418) -/

/-- The trap vector: vectored mode moves interrupts only. -/
def Csrs.vector (c : Csrs) (irq : Bool) (code : Nat) : Nat :=
  let base := c.mtvec.toNat / 4 * 4
  if irq && c.mtvec.toNat % 4 == 1 then (base + 4 * code) % 4294967296 else base

/-- A trap: mepc, mcause, mtval, MPIE and MIE, the vector; any LR reservation is cleared. -/
def takeTrap (p : Nat) (irq : Bool) (code tval : Nat) (b : Block) : Block := onPe p (fun e => { e with
  pc := w32 (e.csr.vector irq code)
  resv := none
  csr := { e.csr with mepc := e.pc, mcause := w32 (b2n irq * 2147483648 + code), mtval := w32 tval, mpie := e.csr.mie, mie := false } }) b

/-- mcause of an access fault: 0 load, 1 store, 2 fetch, 3 AMO. -/
def accessCause (acc : Nat) : Nat :=
  match acc with
  | 0 => 5
  | 2 => 1
  | _ => 7

/-- A refused engine access: the record, and a trap, or with ACTIVE set a double fault (R418). -/
def rtuFault (p cause acc region va pa : Nat) (b : Block) : Block :=
  let b1 := onPe p (fun e => { e with fcause := cause, facc := acc, fregion := region, fvaddr := va, fpaddr := pa, faults := satAdd 4294967295 e.faults 1 }) b
  if (b.pe p).active then policyDown p 1 (note .polDoubleFault p [va, cause] b1)
  else takeTrap p false (accessCause acc) va (onPe p (fun e => { e with active := true }) b1)

/-- mtvec lies in the loaded bytes (R411). -/
def Block.vectorLoaded (b : Block) (p : Nat) : Bool :=
  let e := b.pe p
  let x := translate e.regions 2 (e.csr.vector false 2) 4
  decide (x.cause = 0) && decide (p * ramSize ≤ x.phys) && decide (x.phys + 4 ≤ p * ramSize + e.load)

/-- An illegal instruction (R411, R412). -/
def illegal (p w : Nat) (b : Block) : Block :=
  let b1 := takeTrap p false 2 (if Config.illegalInMtval then w else 0) b
  if b.vectorLoaded p then b1 else policyDown p 2 b1

/-! ### Interrupts and sleep (R412, R436) -/

/-- MTIP. -/
def Block.mtip (b : Block) (p : Nat) : Bool := decide ((b.pe p).mtimecmp ≤ b.sys.now)

/-- MEIP: the OR of PEND (R431). -/
def Block.meip (b : Block) (p : Nat) : Bool := b.pendOf p != 0

/-- The interrupt that the engine takes at its next instruction boundary. -/
def Block.irqDue (b : Block) (p : Nat) : Option Nat :=
  let c := (b.pe p).csr
  if !c.mie then none else if c.meie && b.meip p then some 11 else if c.mtie && b.mtip p then some 7 else none

/-- The completion queues whose enabled source is routed to the engine and which hold moderated completions (R436). -/
def Block.guardQueues (b : Block) (p : Nat) : List CqLoc := ((List.range 20).map cqAt).filter fun l =>
  b.pol.en.testBit l.irq && decide (b.routeOf l.irq = p) && decide (0 < (b.cq l).mpend)

/-- WFI (R436). -/
def doWfi (p : Nat) (b : Block) : Block :=
  if b.peRuns p = false ∨ (b.pe p).asleep = true then b
  else
    let b1 := onPe p (fun e => { e with pc := e.pc + 4 }) b
    match b.guardQueues p with
    | [] => if b.meip p || b.mtip p then b1 else onPe p (fun e => { e with asleep := true }) b1
    | qs => onPe p (fun e => { e with sleepRef := e.sleepRef + 1 }) (qs.foldl (fun b l => signalCq l b) b1)

def execWfi (engine : Fin 2) (s : State) := effect (doWfi engine) s

/-- MTIMER_INTERRUPT: MTIP sets, and wakes a sleeping engine. -/
def doMtimerInterrupt (p : Nat) (b : Block) : Block :=
  let b1 := b.at (b.pe p).mtimecmp
  if b1.peLive p then onPe p (fun e => { e with asleep := false }) b1 else b1

def execMtimerInterrupt (engine : Fin 2) (s : State) := effect (doMtimerInterrupt engine) s

/-- INTERRUPT_WAKE: a delivered source wakes the engine. -/
def doInterruptWake (p : Nat) (b : Block) : Block := if b.meip p then onPe p (fun e => { e with asleep := false }) b else b

def execInterruptWake (engine : Fin 2) (s : State) := effect (doInterruptWake engine) s

/-! ### Tile staging (R420) -/

/-- What a store to the write window does with a staging buffer. -/
inductive StageOut where
  | held (s : Stage)
  | commit (ws : TileData)
  | refused
  deriving DecidableEq, Repr

/-- A store of word `w` of tile `t` of the window. -/
def Stage.store (s : Stage) (t w : Nat) (v : Word) : StageOut :=
  let staged := s.words.any Option.isSome
  if w = 15 ∨ (staged = true ∧ s.tile ≠ some t) then .refused
  else
    let ws := (if staged then s.words else List.replicate 15 none).set w (some v)
    if w = 14 then (if ws.all Option.isSome then .commit (ws.map fun x => x.getD 0#32) else .refused) else .held { tile := some t, words := ws }

/-- Count a committed and a discarded tile of the engine (R422). -/
def countCommit (p : Nat) (b : Block) : Block := onPe p (fun e => { e with twrites := satAdd 4294967295 e.twrites 1 }) b
def countPart (p : Nat) (b : Block) : Block := onPe p (fun e => { e with tpart := satAdd 4294967295 e.tpart 1 }) b

/-! ### Accesses of an engine (R413, R415, R418 to R420) -/

/-- How an access ends: with a value, refused with its cause, region and physical address, or misaligned where the engine does not carry that out. -/
inductive Access where
  | done (v : Nat) (b : Block)
  | refused (cause region pa : Nat) (b : Block)
  | misaligned

/-- The region of a refusal and its physical address; both 0 for cause 1. -/
def Xlat.refuse (x : Xlat) (b : Block) : Access := if x.cause = 1 then .refused 1 0 0 b else .refused x.cause x.region x.phys b

/-- A load of `w` bytes as access kind `acc`; `bad` says that the tile read fails its check. -/
def loadAt (p acc va w : Nat) (bad : Bool) (b : Block) : Access :=
  let x := translate (b.pe p).regions acc va w
  let no (c : Nat) (b : Block) : Access := .refused c x.region x.phys b
  if x.cause ≠ 0 then x.refuse b
  else match physTarget x.phys with
    | .ram _ =>
      if inRam x.phys w = false then no 3 b
      else if va % w ≠ 0 ∧ Config.misalignedRam = false then .misaligned
      else .done (leNat (b.ramRead x.phys w)) b
    | .imgRead off =>
      if off % w ≠ 0 then no 6 b
      else if bad then no 5 (tileFails (off / 64) b)
      else .done (leField (tileBytes (bankGet b.img.front (off / 64))) (off % 64) w) b
    | .imgWrite _ => no 3 b
    | t =>
      match readReg p t b with
      | none => no 3 b
      | some r => if w = 4 ∧ x.phys % 4 = 0 then .done r.1 r.2 else no 6 b

/-- An engine's store of a word to the write window. -/
def stageEngine (p off : Nat) (v : Word) (b : Block) : Option Block :=
  match (b.pe p).stage.store (off / 64) (off % 64 / 4) v with
  | .held s => some (onPe p (fun e => { e with stage := s }) b)
  | .commit ws => some (storeTile (policyBase + off / 64) ws (countCommit p (onPe p (fun e => { e with stage := .empty }) b)))
  | .refused => none

/-- A store of `w` bytes as access kind `acc`. -/
def storeAt (p acc va w v : Nat) (b : Block) : Access :=
  let x := translate (b.pe p).regions acc va w
  let no (c : Nat) (b : Block) : Access := .refused c x.region x.phys b
  if x.cause ≠ 0 then x.refuse b
  else match physTarget x.phys with
    | .ram _ =>
      if inRam x.phys w = false then no 3 b
      else if va % w ≠ 0 ∧ Config.misalignedRam = false then .misaligned
      else .done 0 (ramWrite x.phys (leBytes w v) b)
    | .imgRead _ => no 3 b
    | .imgWrite off =>
      if w ≠ 4 ∨ off % 4 ≠ 0 then no 6 b
      else match stageEngine p off (w32 v) b with
        | some b1 => .done 0 b1
        | none => no 4 (countPart p (onPe p (fun e => { e with stage := .empty }) b))
    | t =>
      match readReg p t b with
      | none => no 3 b
      | some _ => if w = 4 ∧ x.phys % 4 = 0 then .done 0 ((writeReg p t v b).getD b) else no 6 b

/-- The block after an access that ends in a trap of its kind. -/
def accessTrap (p acc va : Nat) (a : Access) (b : Block) : Block :=
  match a with
  | .done _ b1 => b1
  | .refused c r pa b1 => rtuFault p c acc r va pa b1
  | .misaligned => takeTrap p false (if acc = 0 then 4 else 6) va b

/-- TILE_STAGE_STORE (R420): a store of a word at a virtual address that the RTU translates into the image write window. -/
def doTileStageStore (p va : Nat) (v : Word) (b : Block) : Block :=
  let x := translate (b.pe p).regions 1 va 4
  match physTarget x.phys with
  | .imgWrite _ => if b.peRuns p = true ∧ x.cause = 0 then accessTrap p 1 va (storeAt p 1 va 4 v.toNat b) b else b
  | _ => b

def execTileStageStore (engine : Fin 2) (va value : Word) (s : State) := effect (doTileStageStore engine va.toNat value) s

/-! ### DMA bursts (R423, R424, R426) -/

/-- A side of a burst that is refused: the cause, the region and the block after it. -/
abbrev Side (α : Type) := Except (Nat × Nat × Block) α

/-- The bytes a burst reads; `bad` says that the tile it reads fails its check. -/
def burstRead (p va n : Nat) (bad : Bool) (b : Block) : Side (List Byte) :=
  let x := translate (b.pe p).regions 0 va n
  if x.cause ≠ 0 then .error (x.cause, x.region, b)
  else match physTarget x.phys with
    | .ram _ => if inRam x.phys n then .ok (b.ramRead x.phys n) else .error (3, x.region, b)
    | .imgRead off => if bad then .error (5, x.region, tileFails (off / 64) b) else .ok (((tileBytes (bankGet b.img.front (off / 64))).drop (off % 64)).take n)
    | .can k off =>
      if b.canOwned p k = false then .error (3, x.region, b)
      else if x.phys % 4 ≠ 0 ∨ n % 4 ≠ 0 then .error (6, x.region, b)
      else .ok ((List.range (n / 4)).flatMap fun i => leBytes 4 (b.canRead k (off + 4 * i)))
    | _ => .error (3, x.region, b)

/-- The words of a burst go through the channel's staging buffer; none where one of them is refused. -/
def stageBurst (p c off : Nat) : List Word → Block → Option Block
  | [], b => some b
  | v :: l, b =>
    match (b.ch c).stage.store (off / 64) (off % 64 / 4) v with
    | .held s => stageBurst p c (off + 4) l (onCh c (fun x => { x with stage := s }) b)
    | .commit ws => stageBurst p c (off + 4) l (storeTile (policyBase + off / 64) ws (countCommit p (onCh c (fun x => { x with stage := .empty }) b)))
    | .refused => none

/-- Little-endian words of bytes. -/
def bytesToWords (bs : List Byte) : List Word := (List.range (bs.length / 4)).map fun i => w32 (leField bs (4 * i) 4)

/-- A burst writes all its bytes or none. -/
def burstWrite (p c va : Nat) (tile : Bool) (bs : List Byte) (b : Block) : Side Block :=
  let x := translate (b.pe p).regions 1 va bs.length
  let no (k : Nat) : Side Block := .error (k, x.region, b)
  if x.cause ≠ 0 then no x.cause
  else match physTarget x.phys with
    | .ram _ => if tile then no 6 else if inRam x.phys bs.length then .ok (ramWrite x.phys bs b) else no 3
    | .imgWrite off =>
      if tile then (if off % 64 = 0 ∧ bs.length = 64 then .ok (storeTile (policyBase + off / 64) (pad15 ((bytesToWords bs).take 15)) (countCommit p b)) else no 6)
      else if off % 4 ≠ 0 ∨ bs.length % 4 ≠ 0 then no 6
      else match stageBurst p c off (bytesToWords bs) b with
        | some b1 => .ok b1
        | none => .error (4, x.region, countPart p (onCh c (fun y => { y with stage := .empty }) b))
    | .can k off =>
      if b.canOwned p k = false then no 3
      else if tile = true ∨ x.phys % 4 ≠ 0 ∨ bs.length % 4 ≠ 0 then no 6
      else .ok (((bytesToWords bs).zipIdx).foldl (fun b w => writeCan k (off + 4 * w.2) w.1.toNat b) b)
    | _ => no 3

/-- A descriptor of 16 bytes (R424); none for one that is not valid. -/
def readDesc (index : Nat) (d : List Byte) : Option DmaDesc :=
  let w2 := leField d 8 4
  let w3 := leField d 12 4
  let len := w2 % 16777216
  let tile := bitOf 3 w3
  if w2 / 16777216 ≠ 0 ∨ bitsOf 15 4 w3 ≠ 0 ∨ len = 0 ∨ (tile = true ∧ len % 64 ≠ 0) then none
  else some { index := index, src := leField d 0 4, dst := leField d 4 4, len := len, tag := w3 / 65536, tile := tile, dstFix := bitOf 2 w3, srcFix := bitOf 1 w3, moved := 0 }

/-- Bytes of the next burst: at most 64, within a 64-byte boundary of each side. -/
def DmaDesc.srcNow (d : DmaDesc) : Nat := if d.srcFix then d.src else (d.src + d.moved) % 4294967296
def DmaDesc.dstNow (d : DmaDesc) : Nat := if d.dstFix then d.dst else (d.dst + d.moved) % 4294967296
def DmaDesc.burst (d : DmaDesc) : Nat := min (d.len - d.moved) (min (64 - d.srcNow % 64) (64 - d.dstNow % 64))

/-- The channel halts on a refused burst (R426): completion, fault registers, HALTED, its source, POL_DMA_FAULT. -/
def haltCh (c index tag moved va cause acc region : Nat) (b : Block) : Block :=
  let b1 := pushCq (.chan c) (dmaEntry index 9 tag moved va) b
  let b2 := onCh c (fun x => { x with faddr := va, fcause := cause, facc := acc, fregion := (if cause = 1 then 0 else region), st := .halted, cur := none }) b1
  note .polDmaFault c [c, va, cause] (raiseIrq (16 + c) b2)

/-- A descriptor ends. -/
def finishDesc (c : Nat) (e : CqEntry) (b : Block) : Block := onCh c (fun x => { x with cur := none }.settle) (pushCq (.chan c) e b)

/-- One burst of a descriptor. -/
def runBurst (p c : Nat) (d : DmaDesc) (bad : Bool) (b : Block) : Block :=
  match burstRead p d.srcNow d.burst bad b with
  | .error (cause, region, b1) => haltCh c d.index d.tag d.moved d.srcNow cause 0 region b1
  | .ok bs =>
    match burstWrite p c d.dstNow d.tile bs b with
    | .error (cause, region, b1) => haltCh c d.index d.tag d.moved d.dstNow cause 1 region b1
    | .ok b1 =>
      let d1 := { d with moved := d.moved + d.burst }
      if d1.moved < d.len then onCh c (fun x => { x with cur := some d1 }) b1 else finishDesc c (dmaEntry d.index 0 d.tag d.len 0) b1

/-- A channel takes its next descriptor: RGET passes it; one whose words cannot be read halts the channel, one that is not valid completes BAD_PARAM. -/
def takeDesc (p c : Nat) (bad : Bool) (b : Block) : Block :=
  let x := b.ch c
  let k := x.rget % max 1 x.rsize
  let va := x.rbase + 16 * k
  let b1 := onCh c (fun x => { x with rget := (x.rget + 1) % 8192 }) b
  match b.vread p va 16 with
  | none =>
    let t := translate (b.pe p).regions 0 va 16
    haltCh c k 0 0 va (if t.cause = 0 then 3 else t.cause) 0 t.region b1
  | some w => match readDesc k w with
    | none => finishDesc c (dmaEntry k 4 (leField w 14 2) 0 0) b1
    | some d => runBurst p c d bad b1

/-- A channel with work, of an engine that is not clock-gated. -/
def Block.chWorks (b : Block) (c : Nat) : Bool := match (b.ch c).owner with
  | some p => decide ((b.ch c).st = .running) && b.peLive p
  | none => false

/-- Its queue has room for its next completion (R429). -/
def Block.chRoom (b : Block) (c : Nat) : Bool := decide ((b.ch c).cq.waiting = []) && decide ((b.ch c).cq.count < (b.ch c).cq.size)

/-- The channel that wins the burst boundary: the highest PRIO, round-robin from the one after the latest (R423). -/
def Block.winner (b : Block) : Option Nat :=
  let order := (List.range 16).map fun i => (b.pol.lastChan + 1 + i) % 16
  let cs := order.filter fun c => b.chWorks c && b.chRoom c
  let top := cs.foldl (fun m c => max m (b.ch c).prio) 0
  cs.find? fun c => decide ((b.ch c).prio = top)

/-- DMA_BURST: a channel that stalls on a full queue sets CQFULL; the winner moves one burst. -/
def doDmaBurst (bad : Bool) (b : Block) : Block :=
  let stalled := (List.range 16).filter fun c => b.chWorks c && !b.chRoom c
  let b1 := stalled.foldl (fun b c => onCq (.chan c) (fun q => { q with full := true }) b) b
  match b1.winner with
  | none => b1
  | some c =>
    let b2 := b1.onPol fun x => { x with lastChan := c }
    let p := (b2.ch c).owner.getD 0
    match (b2.ch c).cur with
    | some d => runBurst p c d bad b2
    | none => takeDesc p c bad b2

def execDmaBurst (bad : Bool) (s : State) := effect (doDmaBurst bad) s

end Sys2Proof.Machine
end

