-- ==== Sys2Proof/Machine/Recorder.lean ====
section
/-! DEFINITION. The event recorder's writes, time words and commands (R519 to R531, R536). -/

namespace Sys2Proof.Machine

/-! ### Keep writes (R519 to R523) -/

/-- Insert a record by its SEQ. -/
def insertRec (r : KeepRec) : List KeepRec → List KeepRec
  | [] => [r]
  | x :: l => if r.seq < x.seq then r :: x :: l else x :: insertRec r l

/-- The record takes a slot of its area, under R519 in the general one. -/
def placeKeep (r : KeepRec) (g : LogPart) : LogPart :=
  if r.resv then { g with keepRes := insertRec r g.keepRes }
  else if g.keepGen.length < keepSlots then { g with keepGen := insertRec r g.keepGen }
  else match evictKeep r.sev g.keepGen with
    | some l => { g with keepGen := insertRec r l }
    | none => { g with kDisc := satAdd 4294967295 g.kDisc 1 }

/-- RESHIGH at the 896th reserve slot (R520). -/
def watchReserve (b : Block) : Block :=
  if 896 ≤ b.log.keepRes.length ∧ b.log.resHigh = false then note .logReserveHigh noArg [] (b.onLog fun g => { g with resHigh := true }) else b

/-- KEEP_WRITE (R523): the next queued record is written and read back; `fails` read-backs of it fail. A record that fails twice is discarded; the spec numbers the
slot of it and does not say which one a record takes, so the number that LOG_WRITE_FAIL gives is free. -/
def doKeepWrite (fails : Nat) (b : Block) : Block :=
  if b.hinge = true ∨ b.sys.mstate = .off then b
  else match b.log.queue with
    | [] => b
    | r :: rest =>
      let b1 := (b.onLog fun g => { g with queue := rest }).touch [0x18]
      if fails < 2 then watchReserve (b1.onLog fun g => placeKeep r g)
      else note .logWriteFail noArg [b.draw.toNat % 16384] (b1.drew.onLog fun g => { g with kDisc := satAdd 4294967295 g.kDisc 1 })

def execKeepWrite (fails : Fin 3) (s : State) := effect (doKeepWrite fails) s

/-! ### Time words (R525, R526) -/

/-- Write a time word; the two are written alternately. -/
def writeWord (secured : Bool) (b : Block) : Block :=
  let w : TimeWord := { optime := b.optime, pcyc := b.log.pcyc, secured := secured, valid := true }
  (b.onLog fun g => if g.nextWord = 0 then { g with word0 := w, nextWord := 1 } else { g with word1 := w, nextWord := 0 }).touch [0x19]

/-- TIME_WORD_WRITE (R525): every 1,000 ms, SECURED clear. -/
def doTimeWordWrite (b : Block) : Block := if b.sys.mstate = .off ∨ b.sec.released = false then b else writeWord false (b.at (b.nextMultiple secT))

def execTimeWordWrite (s : State) := effect doTimeWordWrite s

/-- The valid time word that holds the higher count. -/
def LogPart.word (g : LogPart) : Option TimeWord :=
  if g.word0.valid ∧ (g.word1.valid = false ∨ g.word1.optime ≤ g.word0.optime) then some g.word0 else if g.word1.valid then some g.word1 else none

/-! ### Commands (R529, R531) -/

/-- A read reply. -/
def logReply (head tail bad : Nat) (rs : List (List Byte)) : List Byte :=
  leBytes 8 head ++ leBytes 8 tail ++ leBytes 2 rs.length ++ leBytes 2 bad ++ leBytes 4 0 ++ rs.flatten

def ruleLogReadFast (src : Src) (first count sev reserved : Nat) (_b : Block) : HostRule :=
  { opcode := 0x0C01, owner := false, stateOk := true, param := need (decide (1 ≤ count ∧ count ≤ 256 ∧ sev ≤ 4 ∧ reserved = 0))
    act := fun b =>
      let rs := (b.log.fast.filter fun r => decide (first ≤ r.seq) && decide (sev ≤ r.sev.rank)).take count
      complete src .ok (logReply b.log.fHead b.log.fTail 0 (rs.map FastRec.bytes)) b }

def execLogReadFast (src : Src) (first count sev reserved : Nat) (s : State) := effect (host src (ruleLogReadFast src first count sev reserved)) s

/-- The Keep records of an area in SEQ order: 0 both, 1 general, 2 reserve. -/
def LogPart.area (g : LogPart) (a : Nat) : List KeepRec :=
  if a = 1 then g.keepGen else if a = 2 then g.keepRes else g.keepRes.foldl (fun l r => insertRec r l) g.keepGen

def ruleLogReadKeep (src : Src) (first count sev area reserved : Nat) (_b : Block) : HostRule :=
  { opcode := 0x0C02, owner := false, stateOk := true, param := need (decide (1 ≤ count ∧ count ≤ 128 ∧ sev ≤ 4 ∧ area ≤ 2 ∧ reserved = 0))
    act := fun b =>
      let rs := ((b.log.area area).filter fun r => decide (first ≤ r.seq) && decide (sev ≤ r.sev.rank)).take count
      let good := rs.filter (·.crcOk)
      let bad := rs.length - good.length
      complete src (if bad = 0 then .ok else .fault) (logReply b.log.kHead b.log.kTail bad (good.map KeepRec.bytes)) b }

def execLogReadKeep (src : Src) (first count sev area reserved : Nat) (s : State) := effect (host src (ruleLogReadKeep src first count sev area reserved)) s

def ruleLogGetPointers (src : Src) (_b : Block) : HostRule :=
  { opcode := 0x0C03, owner := false, stateOk := true, param := none
    act := fun b => complete src .ok (wordsBytes (b.frontTile 0x18 ++ (b.frontTile 0x19).take 9)) b }

def execLogGetPointers (src : Src) (s : State) := effect (host src (ruleLogGetPointers src)) s

/-- SRC of a requester (R515, R531). -/
def Src.recCode : Src → Nat
  | .session i _ => 0x20 + i
  | .engine p _ => 13 + p

/-- The severity of a code. -/
def sevOf (n : Nat) : Severity := [Severity.trace, .info, .warning, .fault].getD n .trace

/-- LOG_WRITE_NOTE (R531); the reply is the Keep SEQ of its record, 0 for Trace. -/
def ruleLogWriteNote (src : Src) (sev : Nat) (text : List Byte) (_b : Block) : HostRule :=
  { opcode := 0x0C04, owner := true, stateOk := true
    param := need (decide (sev ≤ 3 ∧ text.length ≤ 24) && text.all fun c => decide (0x20 ≤ c.toNat ∧ c.toNat ≤ 0x7E))
    act := fun b =>
      let words := (List.range 6).map fun i => leField text (4 * i) 4
      complete src .ok (leBytes 8 (if sev = 0 then 0 else b.log.kHead)) (recordEvent (sevOf sev) Event.logNote.code src.recCode noArg words b) }

def execLogWriteNote (src : Src) (sev : Nat) (text : List Byte) (s : State) := effect (host src (ruleLogWriteNote src sev text)) s

end Sys2Proof.Machine
end

