-- ==== Sys2Proof/Machine/Power.lean ====
section
/-! DEFINITION. Supplies, hold-up, power loss, the Off states, Kennel checkpoints and standby tests (R442 to R451, R453, R458, R459, R461). -/

namespace Sys2Proof.Machine

/-- Tiles of the supplies and of standby (R462, R463). -/
def supplyTiles : List Nat := [9, 10]

/-! ### Feeds and the string-derived supply (R442, R445, R446) -/

def onFeed (n : Nat) (f : Feed → Feed) (b : Block) : Block := (b.onPwr fun p => { p with feeds := modAt p.feeds n f }).touch supplyTiles

/-- A feed is present. -/
def Block.feedOk (b : Block) (n : Nat) : Bool := match b.pwr.feeds[n]? with
  | some f => f.ok
  | none => false

/-- TP output `n` runs: it sources a channel of an enabled input. -/
def Block.tpRuns (b : Block) (n : Nat) : Bool := (List.range 8).any fun i => b.siOn i && (b.siSrc i 0 == n + 1 || b.siSrc i 1 == n + 1)

/-- Both feeds absent: the safety outputs lose their supply, and every running TP output fails its readback (R446). -/
def loseOutputs (b : Block) : Block :=
  let b1 := (b.onLatch fun l => { l with outs := l.outs.map fun o => { o with rb := false } }).touch [0x502]
  ((List.range 4).filter b.tpRuns).foldl (fun b n => doTpFault n b) b1

/-- FEED_ABSENT (R442, R459): FEED_LOST, and the other feed carries the module. -/
def doFeedAbsent (n : Nat) (b : Block) : Block :=
  if b.feedOk n = false then b
  else
    let b1 := note .feedLost n [] (onFeed n (fun _ => { ok := false, low := false }) b)
    if b1.feedOk (1 - n) then takeover (partCode 15 n) (partCode 15 (1 - n)) b1 else loseOutputs b1

def execFeedAbsent (feed : Fin 2) (s : State) := effect (doFeedAbsent feed) s

/-- FEED_PRESENT (R442). -/
def doFeedPresent (n : Nat) (b : Block) : Block := if b.feedOk n then b else note .feedBack n [] (onFeed n (fun f => { f with ok := true }) b)

def execFeedPresent (feed : Fin 2) (s : State) := effect (doFeedPresent feed) s

/-- FEED_LOW (R442). -/
def doFeedLow (n : Nat) (b : Block) : Block :=
  match b.pwr.feeds[n]? with
  | some f => if f.ok && !f.low then note .feedLow n [] (onFeed n (fun f => { f with low := true }) b) else b
  | none => b

def execFeedLow (feed : Fin 2) (s : State) := effect (doFeedLow feed) s

/-- SDS_START (R445): with the string at 100 V or more the hub starts the supply, which fails to start or runs; below 100 V it stops. -/
def doSdsStart (high ok : Bool) (b : Block) : Block :=
  if b.pwr.hubOn = false then b
  else
    let b1 := (b.onPwr fun p => { p with strHigh := high, sdsOk := high && ok }).touch supplyTiles
    if high && !ok then note .sdsFault noArg [] b1 else b1

def execSdsStart (high ok : Bool) (s : State) := effect (doSdsStart high ok) s

/-- HUB_STRING_START (R445): the hub powers itself from the string. -/
def doHubStringStart (b : Block) : Block := if b.pwr.hubOn then b else b.onPwr fun p => { p with hubOn := true, strHigh := true }

def execHubStringStart (s : State) := effect doHubStringStart s

/-! ### Power failure (R447, R448, R461) -/

/-- POWER_FAIL_WARNING (R448). -/
def doPowerFailWarning (b : Block) : Block :=
  if b.sys.mstate = .off ∨ b.pfWarn = true then b
  else note .powerDip noArg [] ((b.onPwr fun p => { p with pfAt := some b.sys.now, lost := false, dips := satAdd 65535 p.dips 1 }).touch supplyTiles)

def execPowerFailWarning (s : State) := effect doPowerFailWarning s

/-- POWER_RESTORED (R448): PFWARN clears, and programming resumes; after POWER_LOST nothing else is told. -/
def doPowerRestored (b : Block) : Block :=
  if b.pfWarn then
    let b1 := resumeBlock ((b.onPwr fun p => { p with pfAt := none, lost := false }).touch supplyTiles)
    if b.pwr.lost then b1 else note .powerRestored noArg [] b1
  else b

def execPowerRestored (s : State) := effect doPowerRestored s

/-- The queued record of an event goes ahead of the queue (R525). -/
def aheadOfQueue (code : Nat) (b : Block) : Block := b.onLog fun g => { g with queue := (g.queue.filter fun r => r.code == code) ++ g.queue.filter fun r => r.code != code }

/-- POWER_LOST (R448, R486, R525): a secured time word, the record ahead of the queue, the converter stops, the save of cause 5. -/
def losePower (b : Block) : Block :=
  let b1 := (writeWord true b).onPwr fun p => { p with lost := true, lossDue := false, losts := satAdd 65535 p.losts 1 }
  let saved := b1.flt.saving.isSome
  let b2 := aheadOfQueue Event.powerLost.code (raise .powerLost noArg [] (b1.touch supplyTiles))
  cutBlock (if saved = false ∧ b2.flt.saving.isNone = true then startSave 5 b2 else b2)

/-- POWER_LOST: 20 ms after the warning; in a hold it waits for its end. -/
def doPowerLost (b : Block) : Block :=
  match b.pwr.pfAt with
  | some t =>
    if b.pwr.lost = true ∨ b.pwr.lossDue = true then b
    else
      let b1 := b.at (t + 20 * msT)
      if b1.hinge then b1.onPwr fun p => { p with lossDue := true } else losePower b1
  | none => b

def execPowerLost (s : State) := effect doPowerLost s

/-! ### Off (R448, R449) -/

/-- What the segments keep when the Control Half loses its supply: their cells power them (R55). -/
def stackSense (s : SensePart) : SensePart := { SensePart.fresh with
  segs := s.segs.map fun g => { SegSense.reset with ovLive := g.ovLive, uvLive := g.uvLive, crossing := g.crossing, tripped := g.tripped } }
def stackBal (s : BalPart) : BalPart := { BalPart.fresh with
  cells := s.cells.map fun c => { (BalPart.fresh.cells.headD c) with bleed := c.bleed, stuck := c.stuck, drain := c.drain }
  segs := s.segs.map fun g => { SegBal.reset with shuttles := g.shuttles, bridge := g.bridge, bridgeOn := g.bridgeOn } }

/-- The hub's own side of the leash. -/
def stackLeash (l : LeashPart) : LeashPart := { LeashPart.fresh with
  lanes := l.lanes.map fun x => { x with up := false, hold := none, downs := [] }
  hubTag := l.hubTag
  hubDelay := l.hubDelay
  hubMode := l.hubMode
  hubBrodda := l.hubBrodda
  stack := l.stack
  silentAt := l.silentAt
  broddaStopped := l.broddaStopped }

/-- What the keep store holds; a record whose write is cut leaves a slot whose CRC fails (R518, R524). -/
def keptLog (torn : Bool) (g : LogPart) : LogPart :=
  let cut : List KeepRec := if torn then (g.queue.take 1).map fun r => { r with crcOk := false } else []
  { LogPart.fresh with
    keepGen := (cut.filter fun r => !r.resv).foldl (fun l r => insertRec r l) g.keepGen
    keepRes := (cut.filter (·.resv)).foldl (fun l r => insertRec r l) g.keepRes
    word0 := g.word0
    word1 := g.word1
    nextWord := g.nextWord
    resHigh := g.resHigh
    safeFull := g.safeFull }

/-- CTL_SHUTDOWN (R448, R450): CTL and KEN lose all they hold; flash, the keep store, OTP and the key store keep theirs, the Latch runs on its own store, the
Stack Half on the string, and every fibre is dark; `torn` says that a Keep write was cut. -/
def doCtlShutdown (torn : Bool) (b : Block) : Block :=
  if b.sys.mstate = .off then b
  else
    { sys := { SysPart.fresh with variant := b.sys.variant, serial := b.sys.serial, hubRev := b.sys.hubRev, ctlRev := b.sys.ctlRev, now := b.sys.now, drawn := b.sys.drawn }
      log := keptLog torn b.log
      ix := .fresh
      img := .fresh
      leash := stackLeash b.leash
      ring := b.ring
      sense := stackSense b.sense
      bark := { BarkPart.fresh with line := b.bark.line, drive := b.bark.drive }
      bal := stackBal b.bal
      flt := { FltPart.fresh with copyA := b.flt.copyA, copyB := b.flt.copyB }
      latch := { b.latch with windows := [], nonces := [] }
      cnv := .fresh
      imp := .fresh
      loop := .fresh
      thm := .fresh
      net := .fresh
      pwr := { PwrPart.fresh with hubOn := b.pwr.hubOn, strHigh := b.pwr.strHigh, sdsOk := b.pwr.sdsOk }
      sec := { SecPart.fresh with vkh := b.sec.vkh, dkh := b.sec.dkh, vmin := b.sec.vmin, ksA := b.sec.ksA, ksB := b.sec.ksB }
      upd := { UpdPart.fresh with flash := b.upd.flash, recA := b.upd.recA, recB := b.upd.recB, setA0 := b.upd.setA0, setA1 := b.upd.setA1, setB0 := b.upd.setB0, setB1 := b.upd.setB1 }
      pol := .fresh }

def execCtlShutdown (torn : Bool) (s : State) := effect (doCtlShutdown torn) s

/-- STACK_OFF (R449): 10 s of silence without a load on the string-derived supply; the hub withdraws every segment enable and powers itself down. -/
def doStackOff (b : Block) : Block :=
  match b.leash.silentAt with
  | some t =>
    if b.sys.mstate ≠ .off ∨ b.pwr.hubOn = false then b
    else
      let b1 := openElements (fun _ => true) (b.at (t + 10 * secT))
      { b1 with
        pwr := { b1.pwr with hubOn := false, sdsOk := false }
        sense := .fresh
        leash := .fresh
        ring := { b1.ring with segs := RingPart.fresh.segs, trips := [], split := false } }
  | none => b

def execStackOff (s : State) := effect doStackOff s

/-- HOLDUP_TEST (R447): the predicted hold-up at the present draw and at 85 W, µs. -/
def doHoldupTest (present full : Nat) (b : Block) : Block :=
  if b.sys.mstate = .off then b
  else
    let b1 := (b.onPwr fun p => { p with holdup := present, holdup85 := full }).touch supplyTiles
    if full < 30000 then note .holdupLow noArg [] b1 else b1

def execHoldupTest (present full : Nat) (s : State) := effect (doHoldupTest present full) s

/-! ### Kennel and standby tests (R451, R453, R458) -/

/-- A checkpoint: SEQ one higher into the other slot; a failed read-back raises KENNEL_FAULT. -/
def checkpoint (ok : Bool) (b : Block) : Block :=
  let q := (b.pwr.ckSeq + 1) % 4294967296
  let v := if ok then some q else none
  let b1 := (b.onPwr fun p => { p with ckSeq := q, ckAt := some b.sys.now, kenOk := ok, slot0 := (if q % 2 = 0 then v else p.slot0), slot1 := (if q % 2 = 1 then v else p.slot1) }).touch supplyTiles
  if ok then b1 else note .kennelFault noArg [] b1

/-- The next count that is 500,000 more than a multiple of 1,000,000. -/
def Block.nextCheckpoint (b : Block) : Nat := (b.sys.now + 500000) / 1000000 * 1000000 + 500000

/-- KENNEL_CHECKPOINT (R451): every 10 ms, not during a hold (R455). -/
def doKennelCheckpoint (ok : Bool) (b : Block) : Block :=
  if b.sys.mstate = .off ∨ b.sec.released = false ∨ b.hinge = true then b else checkpoint ok (b.at b.nextCheckpoint)

def execKennelCheckpoint (ok : Bool) (s : State) := effect (doKennelCheckpoint ok) s

/-- TAKEOVER_MONITOR_TEST (R453). -/
def doTakeoverMonitorTest (ok : Bool) (b : Block) : Block :=
  if b.sys.mstate = .off ∨ b.sec.released = false then b
  else
    let b1 := (b.onPwr fun p => { p with tmonOk := ok }).touch supplyTiles
    if ok then b1 else note .takeoverMonFault noArg [] b1

def execTakeoverMonitorTest (ok : Bool) (s : State) := effect (doTakeoverMonitorTest ok) s

/-- RESERVE_STANDBY_TEST (R458): while Lead is in control and no hold is in force. -/
def doReserveStandbyTest (ok : Bool) (b : Block) : Block :=
  if b.sys.mstate = .off ∨ b.sec.released = false ∨ b.pwr.resCtl = true ∨ b.hinge = true then b
  else
    let b1 := (b.onPwr fun p => { p with resOk := ok, resTest := b.optime % 4294967296 }).touch supplyTiles
    if ok then b1 else note .reserveFault noArg [] b1

def execReserveStandbyTest (ok : Bool) (s : State) := effect (doReserveStandbyTest ok) s

end Sys2Proof.Machine
end

