-- ==== Sys2Proof/Machine/Standby.lean ====
section
/-! DEFINITION. Single faults, engine restarts, takeovers, handbacks and the ends of holds (R60, R61, R453 to R459, R461, R501). -/

namespace Sys2Proof.Machine

/-! ### Holds (R454 to R456) -/

/-- A Hinge hold begins with its cause; a hold in force takes the cause of a takeover that runs under it. Balancing elements open, empty targets are sent (R136, R455). -/
def startHold (cause : Nat) (b : Block) : Block :=
  if b.hinge then (b.onPwr fun p => { p with hcause := cause }).touch supplyTiles
  else (balStop (b.onPwr fun p => { p with hold := some b.sys.now, hcause := cause })).touch (8 :: supplyTiles)

/-- The hold in force ends: its length is published (R463). -/
def closeHold (b : Block) : Block :=
  match b.pwr.hold with
  | some t =>
    let len := (b.sys.now - t) / usT
    (b.onPwr fun p => { p with hold := none, holdLen := len, holdMax := max p.holdMax len }).touch (8 :: supplyTiles)
  | none => b

/-- The activation runs and Reserve does not yet hold the new Lead image (R499, R501). -/
def Block.activating (b : Block) : Bool := match b.upd.pauseAt with
  | some t => decide (b.sys.now < t + 4050000)
  | none => false

/-- The activation is abandoned: a confirmed record naming the running slot, UPD_ACTIVATE ends with FAULT, Reserve takes over under the same hold (R501). -/
def abandonActivation (engine : Nat) (b : Block) : Block :=
  let b1 := (writeRecord (confirmedRecord b.sec.slot b) b).onUpd fun u => { u with ustate := 5, pauseAt := none, reverting := false }
  startHold 1 (note .updAbandoned noArg [engine] ((endUpdate .fault [] b1).touch updTiles))

/-- A save that Lead was writing is cut and will be started again at the hold's end; the requests that waited for it end with FAULT (R454, R534, R536). -/
def cutSave (b : Block) : Block :=
  match b.flt.saving with
  | some v =>
    let b1 := (b.onFlt fun f => { f with saving := none, saveAgain := none, saveSrcs := [] }).onPwr fun p => { p with saveDue := some v.cause }
    (b.flt.saveSrcs.map (·.1)).foldl (fun b src => complete src .fault [] b) b1
  | none => b

/-- The update command that Lead ran ends with FAULT, and a block it was programming is cut (R454, R492). -/
def cutUpdate (b : Block) : Block :=
  let b1 := if b.upd.ustate = 1 ∨ b.upd.ustate = 3 ∨ b.upd.ustate = 6 then (endUpdate .fault [] (b.onUpd fun u => { u with ustate := 5 })).touch updTiles else b
  cutBlock b1

/-- Lead is held in reset and Reserve is released (R453, R454). -/
def failLead (cause : Nat) (b : Block) : Block :=
  let b0 := if b.activating then abandonActivation 0 b else b
  let b1 := startHold 1 (setSvc 0 false (b0.onPwr fun p => { p with leadOk := false, tcause := cause }))
  cutUpdate (cutSave b1)

/-- The self-test of the Lead being returned fails: its 60 s start again, and the third failure within 10 min holds it out (R457, R461). -/
def returnFails (b : Block) : Block :=
  if b.pwr.leadHeld then b
  else
    let recent := b.pwr.selfFails.filter fun t => decide (b.sys.now < t + 600 * secT)
    let b1 := (b.onPwr fun p => { p with selfFails := b.sys.now :: recent, cleanAt := (if b.hinge then none else some b.sys.now), leadOk := false }).touch supplyTiles
    if 2 ≤ recent.length then note .leadHeld noArg [] (b1.onPwr fun p => { p with leadHeld := true, cleanAt := none }) else b1

/-- A failure of Lead: of the one in control, or of the one being returned while Reserve is in control. -/
def leadFailure (cause : Nat) (b : Block) : Block :=
  if b.sys.mstate = .off ∨ b.sec.released = false then b
  else if b.pwr.resCtl then (if b.pwr.cleanAt.isSome then returnFails b else b)
  else if b.engIn 0 then failLead cause b
  else b

/-- LEAD_WATCHDOG (R453): five missed control cycles; the watchdog of a Lead that the debug port halts is suspended (R474). -/
def doLeadWatchdog (b : Block) : Block := if b.sec.halted.getD 0 false then b else leadFailure 1 b

def execLeadWatchdog (s : State) := effect doLeadWatchdog s

/-- LEAD_SELFTEST_FAIL (R453). -/
def doLeadSelftestFail (b : Block) : Block := leadFailure 2 b

def execLeadSelftestFail (s : State) := effect doLeadSelftestFail s

/-- LEAD_DOUBLE_FAULT (R453). -/
def doLeadDoubleFault (b : Block) : Block := leadFailure 3 b

def execLeadDoubleFault (s : State) := effect doLeadDoubleFault s

/-- A failure of Reserve: standby cover is lost; while it is in control a hold begins, which a clean Lead can end (R457, R459). -/
def reserveFailure (b : Block) : Block :=
  let b1 := note .reserveFault noArg [] ((b.onPwr fun p => { p with resOk := false }).touch supplyTiles)
  if b.pwr.resCtl then startHold 1 (setSvc 1 false b1) else b1

/-- LEAD_HANDBACK (R457): 60 s of clean self-test; a checkpoint, then the hold. -/
def doLeadHandback (b : Block) : Block :=
  match b.pwr.cleanAt with
  | some t => if b.pwr.resCtl = false ∨ b.hinge = true ∨ b.pwr.leadHeld = true then b else startHold 3 (checkpoint true (b.at (t + 60 * secT)))
  | none => b

def execLeadHandback (s : State) := effect doLeadHandback s

/-- Control passes as the hold ends: to Reserve after a failure of Lead, to Lead after one of Reserve, or back to Lead; none where no engine can take it. -/
def passControl (b : Block) : Option Block :=
  let len (b : Block) : Nat := b.pwr.holdLen
  if b.pwr.hcause = 3 then
    let b1 := closeHold b
    if b.pwr.cleanAt.isSome then
      let b2 := setSvc 1 false (setSvc 0 true (b1.onPwr fun p => { p with resCtl := false, leadOk := true, cleanAt := none, handbacks := satAdd 65535 p.handbacks 1 }))
      some (note .leadReturn noArg [len b1] b2)
    else some (b1.onPwr fun p => { p with cleanAt := if p.leadHeld then none else some b.sys.now })
  else if b.pwr.resCtl then
    if b.pwr.cleanAt.isNone ∨ b.pwr.leadHeld = true then none
    else
      let b1 := closeHold b
      let b2 := setSvc 1 false (setSvc 0 true (b1.onPwr fun p => { p with resCtl := false, leadOk := true, cleanAt := none, leadFails := satAdd 65535 p.leadFails 1 }))
      some (note .leadTakeover noArg [b.pwr.tcause, len b1] (b2.onSys fun y => { y with takeovers := y.takeovers + 1 }))
  else if b.pwr.resOk = false ∨ b.pwr.kenOk = false then none
  else
    let b1 := closeHold b
    let b2 := setSvc 1 true (b1.onPwr fun p => { p with resCtl := true, cleanAt := none, leadFails := satAdd 65535 p.leadFails 1 })
    some (note .leadTakeover noArg [b.pwr.tcause, len b1] (b2.onSys fun y => { y with takeovers := y.takeovers + 1 }))

/-- What waited for the end of the hold: the state change, POWER_LOST, the save, the loop preset, admissions (R237, R261, R455, R461, R536). -/
def afterHold (b : Block) : Block :=
  let b1 := b.onPwr fun p => { p with stateDue := none, saveDue := none }
  let b2 := match b.pwr.stateDue with
    | some x => changeNow x.1 x.2.1 x.2.2 b1
    | none => b1
  let b3 := if b.pwr.lossDue then losePower b2 else b2
  let b4 := match b.pwr.saveDue with
    | some c => if b3.flt.saving.isNone then startSave c b3 else b3
    | none => b3
  let b5 := if b4.cnv.st = .regulate ∧ b4.loop.am = false then b4.onLoop fun l => { l with preset := some (4, fxI b4.cnv.iRef) } else b4
  admitPhases b5

/-! ### Parts and restarts (R60, R61, R459) -/

/-- A filter sequencer goes out of service (R158). -/
def loseSequencer (n : Nat) (b : Block) : Block :=
  let b1 := (setSvc (4 + n) false b).touch [0x40]
  match (List.range 4).find? fun i => b1.engIn (4 + i) with
  | some i => note .fltSeqTakeover n [i] (takeover (partCode 10 n) (partCode 10 i) b1)
  | none => raise .fltAllSeqLost noArg [] b1

/-- N0 goes out of service: every session closes, no owner, the packet source is lost, HOLD sets (R259, R333, R406). -/
def loseNetwork (b : Block) : Block :=
  let b1 := takeover (partCode 13 0) (partCode 7 0) (setSvc 12 false b)
  let b2 := (List.range 4).foldl (fun b i => closeSession i b) b1
  setHold (loseSource 0 b2)

/-- A spectral engine goes out of service: the bin in flight is lost, the other computes every frequency (R186). -/
def loseSpectral (n : Nat) (b : Block) : Block :=
  let b1 := (setSvc (10 + n) false b).onImp fun i => { i with badPeriod := i.badPeriod || i.job.isSome }
  let b2 := if b1.engIn (11 - n) then takeover (partCode 12 n) (partCode 12 (1 - n)) b1 else b1
  (note .impEngineSingle noArg [] b2).touch [0x45]

/-- An engine of R31 fails; during an activation that abandons it (R501). -/
def engineDown (e : Engine) (b : Block) : Block :=
  let i := e.ctorIdx
  if e = .reserve then reserveFailure b
  else if b.engIn i = false then b
  else if b.activating = true ∧ e ≠ .sa ∧ e ≠ .sb then (if e = .lead then failLead 1 b else abandonActivation i b)
  else match e with
    | .lead => leadFailure 1 b
    | .reserve => b
    | .sa => doLockstepMismatch b
    | .sb => doLockstepMismatch b
    | .f0 => loseSequencer 0 b
    | .f1 => loseSequencer 1 b
    | .f2 => loseSequencer 2 b
    | .f3 => loseSequencer 3 b
    | .c0 => takeover (partCode 11 0) (partCode 11 1) (setSvc 8 false b)
    | .c1 => takeover (partCode 11 1) (partCode 11 0) (setSvc 9 false b)
    | .s0 => loseSpectral 0 b
    | .s1 => loseSpectral 1 b
    | .n0 => loseNetwork b
    | .p0 => takeover (partCode 14 0) (partCode 7 0) (policyDown 0 0 b)
    | .p1 => takeover (partCode 14 1) (partCode 7 0) (policyDown 1 0 b)

/-- The primary current channel fails (R71, R92). -/
def losePrimary (b : Block) : Block :=
  if b.sense.isel2 then b
  else
    let b1 := note .currentChLost noArg [1] (b.onSense fun s => { s with isel2 := true, iPriOk := false })
    (if b.sense.iSecOk then takeover (partCode 4 0) (partCode 5 0) b1 else b1).touch senseTiles

/-- The secondary current channel fails. -/
def loseSecondary (b : Block) : Block :=
  if b.sense.iSecOk = false then b
  else
    let b1 := (b.onSense fun s => { s with iSecOk := false }).touch senseTiles
    if b.sense.iPriOk then takeover (partCode 5 0) (partCode 4 0) b1 else b1

/-- The string voltage divider fails (R72). -/
def loseDivider (b : Block) : Block :=
  if b.sense.vsel2 then b else (takeover (partCode 6 0) (partCode 3 0) (b.onSense fun s => { s with vsel2 := true, vDivOk := false })).touch senseTiles

/-- A segment die fails: it has no backup, the module goes to FAULT (R60, R61; log entry 53). -/
def loseDie (n : Nat) (b : Block) : Block :=
  if b.nSeg ≤ n then b
  else
    let b1 := (b.onSense fun s => { s with segs := modAt s.segs n fun g => { g with present := false } }).touch senseTiles
    if b1.sys.mstate = .safe ∨ b1.sys.mstate = .fault then b1 else enterState .fault Event.backupTakeover.code b1

/-- A CAN controller fails; the plant may be wired to the other (R60). -/
def loseCan (k : Nat) (b : Block) : Block := takeover (partCode 18 k) (partCode 18 (1 - k)) (onCan k (fun c => { c with on := false }) b)

/-- A cage or its path fails (R60, R378). -/
def loseCage (c : Nat) (b : Block) : Block :=
  let was : Bool := match b.net.cages[c]? with
    | some g => g.up
    | none => false
  let b1 := doLanLinkLost c (b.sys.now - 10 * msT) b
  if was ∧ b1.net.allLost = false then takeover (partCode 17 c) (partCode 17 (1 - c)) b1 else b1

/-- PART_FAULT (R60, R61, R459). -/
def doPartFault (p : Part) (b : Block) : Block :=
  if b.sys.mstate = .off then b
  else match p with
    | .leashLane n => laneDown n b
    | .rung n => doRungDown n none b
    | .segmentDie n => loseDie n b
    | .primaryCurrent => losePrimary b
    | .secondaryCurrent => loseSecondary b
    | .divider => loseDivider b
    | .engine e => engineDown e b
    | .feed n => doFeedAbsent n b
    | .flashSlot n => takeover (partCode 16 n) (partCode 16 (1 - n)) b
    | .sfp n => loseCage n b
    | .can n => loseCan n b
    | .sds => if b.pwr.sdsOk then note .sdsFault noArg [] ((b.onPwr fun p => { p with sdsOk := false }).touch supplyTiles) else b
    | .feedDiode n => note .feedLost n [] b
    | .holdupStore => note .holdupLow noArg [] b
    | .coreRegulator n => note .regFault n [] b
    | .latRegulator n => note .regFault (2 + n) [] b
    | .hingeRegister n => note .hingeFault n [] b
    | .kennel => note .kennelFault noArg [] ((b.onPwr fun p => { p with kenOk := false }).touch supplyTiles)
    | .takeoverMonitor => note .takeoverMonFault noArg [] ((b.onPwr fun p => { p with tmonOk := false }).touch supplyTiles)

def execPartFault (part : Part) (s : State) := effect (doPartFault part) s

/-- An engine that Lead has reloaded from the active slot returns to service (R60, R303, R457). -/
def engineUp (e : Engine) (b : Block) : Block :=
  let i := e.ctorIdx
  match e with
  | .lead => if b.pwr.resCtl = true ∧ b.pwr.leadHeld = false ∧ b.pwr.cleanAt.isNone = true then (b.onPwr fun p => { p with cleanAt := some b.sys.now, leadOk := true }).touch supplyTiles else b
  | .reserve => b
  | .sa => if b.latch.lockstep then b else b.onLatch fun l => { l with restartAt := some b.sys.now }
  | .sb => if b.latch.lockstep then b else b.onLatch fun l => { l with restartAt := some b.sys.now }
  | .p0 => if b.engIn 13 ∨ (b.pe 0).held = true ∨ b.sys.mstate = .boot then b else startPolicy 0 b
  | .p1 => if b.engIn 14 ∨ (b.pe 1).held = true ∨ b.sys.mstate = .boot then b else startPolicy 1 b
  | .n0 => if b.engIn 12 then b else drainPartners 1 (drainPartners 0 (setSvc 12 true b))
  | _ => if b.engIn i then b else (setSvc i true b).touch [0x40, 0x45]

/-- ENGINE_RESTART_DONE. -/
def doEngineRestartDone (e : Engine) (b : Block) : Block := if b.sys.mstate = .off ∨ b.sec.released = false then b else engineUp e b

def execEngineRestartDone (engine : Engine) (s : State) := effect (doEngineRestartDone engine) s

end Sys2Proof.Machine
end

