-- ==== Sys2Proof/Machine/Boot.lean ====
section
/-! DEFINITION. The start of the module and the activation of a bundle (R19, R408 to R410, R445, R466 to R470, R496, R499 to R501, R503, R524, R526). -/

namespace Sys2Proof.Machine

/-! ### Entry to BOOT (R19, R445, R496) -/

/-- The boot ROM's choice of a slot (R495, R496). -/
def chooseSlot (b : Block) : Block :=
  let r := b.upd.record
  let pick (slot : Nat) (back : Bool) (b : Block) : Block := (b.onSec fun s => { s with selSlot := slot, slot := slot }).onUpd fun u => { u with fellBack := back }
  if b.upd.recA.valid = false ∧ b.upd.recB.valid = false then pick 0 false (writeRecord (confirmedRecord 0 b) b)
  else if r.trial = false then pick r.active false b
  else if 3 ≤ r.tries then pick r.prev true (writeRecord (confirmedRecord r.prev b) b)
  else pick r.active false (writeRecord { r with tries := r.tries + 1 } b)

/-- POWER_START (R19, R381, R445): the time base starts, CTL powers the hub through the transformer, the boot ROM selects a slot. -/
def doPowerStart (b : Block) : Block :=
  if b.sys.mstate ≠ .off then b
  else
    let b1 := b.onSys fun y => { y with now := 0, mstate := .boot }
    let b2 := b1.onPwr fun p => { p with hubOn := true }
    chooseSlot (b2.touch writtenTiles)

def execPowerStart (s : State) := effect doPowerStart s

/-! ### The release of Lead (R469, R470, R524, R526) -/

/-- Time resumes (R526). -/
def resumeTime (b : Block) : Block :=
  let recs := (b.log.keepGen ++ b.log.keepRes).filter (·.crcOk)
  let top (f : KeepRec → Nat) : Nat := recs.foldl (fun m r => max m (f r)) 0
  let t : Nat × Nat × Bool := match b.log.word with
    | some w => (if w.secured then w.optime else w.optime + 1000, w.pcyc + 1, w.secured)
    | none => if recs = [] then (0, 1, false) else (top (·.optime) + 1000, top (·.pcyc) + 1, false)
  let b1 := b.onLog fun g => { g with opBoot := t.1, pcyc := t.2.1, secured := t.2.2 }
  let b2 := b1.onSys fun y => { y with entryTime := t.1 % 4294967296 }
  note .optimeResumed noArg [t.1 % 4294967296, t.1 / 4294967296, b2n t.2.2] (writeWord false b2)

/-- The scan of the Keep slots: KHEAD follows the held records, torn slots are freed and told once (R524). -/
def scanKeep (b : Block) : Block :=
  let n := ((b.log.keepGen ++ b.log.keepRes).filter fun r => !r.crcOk).length
  b.onLog fun g =>
    let gen := g.keepGen.filter (·.crcOk)
    let res := g.keepRes.filter (·.crcOk)
    { g with keepGen := gen, keepRes := res, kHead := (gen ++ res).foldl (fun m r => max m (r.seq + 1)) 1, torn := n }

/-- Lead runs. -/
def releaseLead (slot : Nat) (alt : Bool) (b : Block) : Block :=
  let b1 := (setSvc 0 true b).onSec fun s => { s with
    slot := slot, alt := alt, released := true, releasedAt := b.sys.now, romTime := b.sys.now / usT, vsvn := (b.targetSvn slot 1).getD 0 }
  let b2 := resumeTime (scanKeep (b1.onPwr fun p => { p with leadOk := true }))
  let b3 := b2.onFlt fun f => { f with lastSave := match f.inForce with
    | some c => c.optime
    | none => b2.log.opBoot }
  let b4 := if b3.log.torn = 0 then b3 else note .logTorn noArg [b3.log.torn] b3
  let b5 := if alt then note .bootAltSlot noArg [] (writeRecord (confirmedRecord slot b4) b4) else b4
  b5.touch ([0x14] ++ supplyTiles)

/-- LEAD_RELEASE (R469, R470): the Lead image of the selected slot, else of the other, passes R466; with neither the module stays in BOOT. -/
def doLeadRelease (b : Block) : Block :=
  if b.sys.mstate ≠ .boot ∨ b.sec.released = true ∨ b.sec.dead = true then b
  else
    let sel := b.sec.selSlot
    let c0 := b.targetCode sel 1
    if c0 = 0 then releaseLead sel false b
    else
      let b1 := b.onSec fun s => { s with bootErr := c0, errTgt := 1 }
      let c1 := b.targetCode (1 - sel) 1
      if c1 = 0 then releaseLead (1 - sel) true b1 else (b1.onSec fun s => { s with bootErr := c1, dead := true }).touch [0x14]

def execLeadRelease (s : State) := effect doLeadRelease s

/-! ### The other engines (R31, R466, R470, R503, R507) -/

/-- ENGSVC bits of a TARGET. -/
def enginesOf (target : Nat) : List Nat :=
  match target with
  | 2 => [2, 3]
  | 3 => [4, 5, 6, 7]
  | 4 => [8, 9]
  | 5 => [10, 11]
  | _ => [12]

/-- Load the engines of a TARGET 2 to 6, or raise BOOT_IMAGE_BAD: for SA and SB the Latch's STARTUP then fails on lockstep, for the others the module goes to FAULT. -/
def loadTarget (t : Nat) (b : Block) : Block :=
  let c := b.targetCode b.sec.slot t
  if c = 0 then (enginesOf t).foldl (fun b e => setSvc e true b) b
  else
    let b1 := (b.onSec fun s => { s with bootErr := c, errTgt := t }).touch [0x14]
    if t = 2 then note .bootImageBad noArg [t, c] (b1.onLatch fun l => { l with lockstep := false }) else raise .bootImageBad noArg [t, c] b1

/-- Check the image of a policy engine; it starts when the module has left BOOT (R408 to R410). -/
def checkPolicy (p : Nat) (b : Block) : Block :=
  if (b.imageOff b.sec.slot (policyTarget p)).isNone then b
  else match b.policyFault p with
    | some f => note .polImageBad p [f] (if 0x100 < f then (b.onSec fun s => { s with bootErr := f - 0x100, errTgt := policyTarget p }).touch [0x14] else b)
    | none => loadPolicy p ((b.onSec fun s => if p = 0 then { s with p0Img := true } else { s with p1Img := true }).touch [0x14])

/-- What the bundle in `slot` declares is in force. -/
def takeBundle (slot : Nat) (b : Block) : Block := (b.onUpd fun u => { u with
  bver := b.slotBver slot, schema := b.leadWord slot 0, schemaMin := b.leadWord slot 1 }).touch updTiles

/-- ENGINE_LOAD_DONE. -/
def doEngineLoadDone (b : Block) : Block :=
  if b.sys.mstate ≠ .boot ∨ b.sec.released = false ∨ b.sec.loaded = true then b
  else
    let slot := b.sec.slot
    let bad := [2, 3, 4, 5, 6].any fun t => b.targetCode slot t != 0
    let trial := b.upd.record.trial && decide (b.upd.record.active = slot)
    let b1 := [2, 3, 4, 5, 6].foldl (fun b t => loadTarget t b) b
    let b2 := checkPolicy 1 (checkPolicy 0 b1)
    let b3 := settingsTake false slot (b2.leadWord slot 0) (b2.leadWord slot 1) (5 * secT) (takeBundle slot b2)
    let b4 := (b3.onSec fun s => { s with loaded := !bad, loadTime := (b3.sys.now - s.releasedAt) / usT, saImg := decide (b.targetCode slot 2 = 0), runHash := b.slotHashes slot }).touch [0x14]
    let b5 := b4.onUpd fun u => { u with saifRun := b4.saSaif slot, ustate := if trial then 8 else 0, confEnd := if trial then some (600 * secT) else none }
    let b6 := if bad && trial then writeRecord { b5.upd.record with tries := 3 } b5 else b5
    let b7 := if b6.upd.fellBack then note .updFellBack noArg [b6.slotBver slot, b6.slotBver (1 - slot)] b6 else b6
    bootToPark b7

def execEngineLoadDone (s : State) := effect doEngineLoadDone s

/-! ### Activation (R499 to R501) -/

/-- ACTIVATION_PAUSE: once prepared, command service pauses with a checkpoint, and 0.4 ms later the hold begins. -/
def doActivationPause (b : Block) : Block :=
  if b.upd.ustate ≠ 6 ∨ b.hinge = true ∨ b.upd.pauseAt.isSome = true then b
  else
    let b1 := checkpoint true (b.onUpd fun u => { u with pauseAt := some b.sys.now, ustate := 7 })
    (startHold 2 (b1.at (b.sys.now + 40000))).touch updTiles

def execActivationPause (s : State) := effect doActivationPause s

/-- A policy engine starts from the new slot, or is held in reset if it has no image for it (R499). -/
def movePolicy (p : Nat) (b : Block) : Block :=
  let has := (b.imageOff b.sec.slot (policyTarget p)).isSome
  let b1 := (if (b.pe p).up then stopPolicy p b else b).onSec fun s => if p = 0 then { s with p0Img := has } else { s with p1Img := has }
  if has ∧ (b.pe p).held = false then startPolicy p b1 else onPe p (fun e => { e with loaded := false }) b1

/-- The activation completes with the hold: every engine but SA and SB runs from the new slot, its settings are taken, the confirmation deadline starts
(R499, R500, R503). -/
def finishActivation (b : Block) : Block :=
  match b.upd.pauseAt with
  | none => b
  | some q =>
    let slot := b.inactive
    let oldSa := lookupKey b.sec.runHash 2
    let new := b.slotHashes slot
    let b1 := (b.onSec fun s => { s with
      slot := slot
      vsvn := (b.targetSvn slot 1).getD 0
      runHash := match oldSa with
        | some h => insertKey 2 h new
        | none => new }).touch [1, 0x14]
    let b2 := settingsTake true slot (b1.leadWord slot 0) (b1.leadWord slot 1) secT (takeBundle slot b1)
    let b2 := (List.range 2).foldl (fun b p => onPe p (fun e => { e with loaded := false }) b) b2
    let b3 := movePolicy 1 (movePolicy 0 ((List.range 9).foldl (fun b i => setSvc (4 + i) true b) b2))
    let rev := b.upd.reverting
    let len := (b.sys.now - q) / usT
    let b4 := b3.onUpd fun u => { u with
      saPend := decide (lookupKey new 2 ≠ oldSa), ustate := (if rev then 0 else 8), confEnd := (if rev then none else some (b.sys.now + 600 * secT)), pauseAt := none
      lastPause := len, reverting := false }
    (endUpdate .ok (leBytes 1 0) (note .updActivated noArg [b4.upd.bver, len] b4)).touch updTiles

end Sys2Proof.Machine
end

