-- ==== Sys2Proof/Machine/Rv.lean ====
section
/-! DEFINITION. One RV32IMAC instruction of a policy engine in machine mode (R412, R415, R418). The base and the extensions are the RISC-V standard's, which the
spec names and does not print (PRESUMED, log entry 59). -/

namespace Sys2Proof.Machine

/-! ### Fields -/

/-- A register of an engine; x0 reads 0. -/
def PolEngine.reg (e : PolEngine) (r : Nat) : Word := if r = 0 then 0#32 else e.regs.getD (r - 1) 0#32

/-- Write a register; x0 discards. -/
def PolEngine.setReg (r : Nat) (v : Word) (e : PolEngine) : PolEngine := if r = 0 then e else { e with regs := e.regs.set (r - 1) v }

/-- A field of `n` bits, sign-extended. -/
def sext (n v : Nat) : Word := ws32 (toSigned n v)

def rvRd (w : Nat) : Nat := bitsOf 11 7 w
def rvRs1 (w : Nat) : Nat := bitsOf 19 15 w
def rvRs2 (w : Nat) : Nat := bitsOf 24 20 w
def rvF3 (w : Nat) : Nat := bitsOf 14 12 w
def rvF7 (w : Nat) : Nat := bitsOf 31 25 w
def immI (w : Nat) : Word := sext 12 (bitsOf 31 20 w)
def immS (w : Nat) : Word := sext 12 (bitsOf 31 25 w * 32 + bitsOf 11 7 w)
def immB (w : Nat) : Word := sext 13 (bitsOf 31 31 w * 4096 + bitsOf 7 7 w * 2048 + bitsOf 30 25 w * 32 + bitsOf 11 8 w * 2)
def immU (w : Nat) : Word := w32 (w / 4096 * 4096)
def immJ (w : Nat) : Word := sext 21 (bitsOf 31 31 w * 1048576 + bitsOf 19 12 w * 4096 + bitsOf 20 20 w * 2048 + bitsOf 30 21 w * 2)

/-! ### Arithmetic -/

/-- OP and OP-IMM by funct3; `alt` is SUB or SRA. -/
def rvAlu (f3 : Nat) (alt : Bool) (a c : Word) : Word :=
  match f3 with
  | 0 => if alt then a - c else a + c
  | 1 => a <<< (c.toNat % 32)
  | 2 => if a.toInt < c.toInt then 1#32 else 0#32
  | 3 => if a.toNat < c.toNat then 1#32 else 0#32
  | 4 => a ^^^ c
  | 5 => if alt then a.sshiftRight (c.toNat % 32) else a >>> (c.toNat % 32)
  | 6 => a ||| c
  | _ => a &&& c

/-- The M extension: division by zero and overflow give the values of the standard. -/
def rvMul (f3 : Nat) (a c : Word) : Word :=
  match f3 with
  | 0 => a * c
  | 1 => ws32 (a.toInt * c.toInt / 4294967296)
  | 2 => ws32 (a.toInt * (c.toNat : Int) / 4294967296)
  | 3 => w32 (a.toNat * c.toNat / 4294967296)
  | 4 => if c = 0#32 then 0xFFFFFFFF#32 else ws32 (a.toInt.tdiv c.toInt)
  | 5 => if c = 0#32 then 0xFFFFFFFF#32 else w32 (a.toNat / c.toNat)
  | 6 => if c = 0#32 then a else ws32 (a.toInt.tmod c.toInt)
  | _ => if c = 0#32 then a else w32 (a.toNat % c.toNat)

/-- Whether a branch is taken; none for a reserved funct3. -/
def rvBranch (f3 : Nat) (a c : Word) : Option Bool :=
  match f3 with
  | 0 => some (a == c)
  | 1 => some (a != c)
  | 4 => some (decide (a.toInt < c.toInt))
  | 5 => some (decide (c.toInt ≤ a.toInt))
  | 6 => some (decide (a.toNat < c.toNat))
  | 7 => some (decide (c.toNat ≤ a.toNat))
  | _ => none

/-- What an AMO stores, by funct5. -/
def rvAmo (f5 : Nat) (old src : Word) : Option Word :=
  match f5 with
  | 0 => some (old + src)
  | 1 => some src
  | 4 => some (old ^^^ src)
  | 8 => some (old ||| src)
  | 12 => some (old &&& src)
  | 16 => some (if old.toInt ≤ src.toInt then old else src)
  | 20 => some (if old.toInt ≤ src.toInt then src else old)
  | 24 => some (if old.toNat ≤ src.toNat then old else src)
  | 28 => some (if old.toNat ≤ src.toNat then src else old)
  | _ => none

/-! ### Retirement -/

/-- The instruction retires: its register, the next program counter, minstret. -/
def retire (p rd : Nat) (v npc : Word) (b : Block) : Block := onPe p (fun e =>
  let e1 := e.setReg rd v
  { e1 with pc := npc, csr := { e1.csr with minstret := if e1.csr.mcounterinhibit.testBit 2 then e1.csr.minstret else (e1.csr.minstret + 1) % 2 ^ 64 } }) b

/-! ### Control and status registers -/

/-- misa: RV32 with I, M, A and C. -/
def misaValue : Word := 0x40001105#32

/-- A CSR; none for one the engine does not have. -/
def Block.csrRead (b : Block) (p n : Nat) : Option Word :=
  let c := (b.pe p).csr
  if n = 0x300 then some (w32 (6144 + b2n c.mpie * 128 + b2n c.mie * 8))
  else if n = 0x301 then some misaValue
  else if n = 0x304 then some (w32 (b2n c.meie * 2048 + b2n c.mtie * 128))
  else if n = 0x305 then some c.mtvec
  else if n = 0x310 then some 0#32
  else if n = 0x320 then some (w32 c.mcounterinhibit)
  else if 0x323 ≤ n ∧ n ≤ 0x33F then some 0#32
  else if n = 0x340 then some c.mscratch
  else if n = 0x341 then some c.mepc
  else if n = 0x342 then some c.mcause
  else if n = 0x343 then some c.mtval
  else if n = 0x344 then some (w32 (b2n (b.meip p) * 2048 + b2n (b.mtip p) * 128))
  else if n = 0xB00 then some (w32 c.mcycle)
  else if n = 0xB02 then some (w32 c.minstret)
  else if n = 0xB80 then some (w32 (c.mcycle / 4294967296))
  else if n = 0xB82 then some (w32 (c.minstret / 4294967296))
  else if (0xB03 ≤ n ∧ n ≤ 0xB1F) ∨ (0xB83 ≤ n ∧ n ≤ 0xB9F) then some 0#32
  else if n = 0xF14 then some (w32 p)
  else if 0xF11 ≤ n ∧ n ≤ 0xF15 then some 0#32
  else none

/-- A write to a CSR that the engine has; fields it does not have keep their value. -/
def Csrs.write (n : Nat) (v : Word) (c : Csrs) : Csrs :=
  let u := v.toNat
  if n = 0x300 then { c with mpie := bitOf 7 u, mie := bitOf 3 u }
  else if n = 0x304 then { c with meie := bitOf 11 u, mtie := bitOf 7 u }
  else if n = 0x305 then { c with mtvec := w32 (u / 4 * 4 + u % 2) }
  else if n = 0x320 then { c with mcounterinhibit := (u % 8) / 4 * 4 + u % 2 }
  else if n = 0x340 then { c with mscratch := v }
  else if n = 0x341 then { c with mepc := w32 (u / 2 * 2) }
  else if n = 0x342 then { c with mcause := v }
  else if n = 0x343 then { c with mtval := v }
  else if n = 0xB00 then { c with mcycle := c.mcycle / 4294967296 * 4294967296 + u }
  else if n = 0xB02 then { c with minstret := c.minstret / 4294967296 * 4294967296 + u }
  else if n = 0xB80 then { c with mcycle := u * 4294967296 + c.mcycle % 4294967296 }
  else if n = 0xB82 then { c with minstret := u * 4294967296 + c.minstret % 4294967296 }
  else c

/-- The CSR instructions: read, then write, set or clear; a set or clear with x0 or 0 writes nothing. -/
def rvCsr (p w : Nat) (npc : Word) (b : Block) : Block :=
  let e := b.pe p
  let n := bitsOf 31 20 w
  let f3 := rvF3 w
  let src := if 4 < f3 then w32 (rvRs1 w) else e.reg (rvRs1 w)
  let writes := decide (f3 % 4 = 1) || decide (rvRs1 w ≠ 0)
  match b.csrRead p n with
  | none => illegal p w b
  | some old =>
    if writes = true ∧ 0xC00 ≤ n then illegal p w b
    else
      let new := if f3 % 4 = 1 then src else if f3 % 4 = 2 then old ||| src else old &&& ~~~src
      let b1 := retire p (rvRd w) old npc b
      if writes then onPe p (fun e => { e with csr := e.csr.write n new }) b1 else b1

/-! ### Memory instructions -/

/-- A load by funct3. -/
def rvLoad (p w : Nat) (bad : Bool) (npc : Word) (b : Block) : Block :=
  let va := ((b.pe p).reg (rvRs1 w) + immI w).toNat
  let go (n : Nat) (ext : Nat → Word) : Block :=
    match loadAt p 0 va n bad b with
    | .done v b1 => retire p (rvRd w) (ext v) npc b1
    | a => accessTrap p 0 va a b
  match rvF3 w with
  | 0 => go 1 (sext 8)
  | 1 => go 2 (sext 16)
  | 2 => go 4 w32
  | 4 => go 1 w32
  | 5 => go 2 w32
  | _ => illegal p w b

/-- A store by funct3. -/
def rvStore (p w : Nat) (npc : Word) (b : Block) : Block :=
  let va := ((b.pe p).reg (rvRs1 w) + immS w).toNat
  let v := ((b.pe p).reg (rvRs2 w)).toNat
  let go (n : Nat) : Block :=
    match storeAt p 1 va n v b with
    | .done _ b1 => retire p 0 0#32 npc b1
    | a => accessTrap p 1 va a b
  match rvF3 w with
  | 0 => go 1
  | 1 => go 2
  | 2 => go 4
  | _ => illegal p w b

/-- LR, SC and the AMOs: words of either local RAM (R412). -/
def rvAtomic (p w : Nat) (npc : Word) (b : Block) : Block :=
  let e := b.pe p
  let f5 := bitsOf 31 27 w
  let va := (e.reg (rvRs1 w)).toNat
  let src := e.reg (rvRs2 w)
  let acc := if f5 = 2 then 0 else if f5 = 3 then 1 else 3
  let x := translate e.regions acc va 4
  if rvF3 w ≠ 2 ∨ (f5 = 2 ∧ rvRs2 w ≠ 0) ∨ (f5 ≠ 2 ∧ f5 ≠ 3 ∧ rvAmo f5 0#32 0#32 = none) then illegal p w b
  else if va % 4 ≠ 0 then accessTrap p acc va .misaligned b
  else if x.cause ≠ 0 then accessTrap p acc va (x.refuse b) b
  else if inRam x.phys 4 = false then accessTrap p acc va (.refused 3 x.region x.phys b) b
  else
    let old := w32 (leNat (b.ramRead x.phys 4))
    if f5 = 2 then retire p (rvRd w) old npc (onPe p (fun e => { e with resv := some x.phys }) b)
    else if f5 = 3 then
      let ok := decide (e.resv = some x.phys)
      let b1 := if ok then ramWrite x.phys (leBytes 4 src.toNat) b else b
      retire p (rvRd w) (if ok then 0#32 else 1#32) npc (onPe p (fun e => { e with resv := none }) b1)
    else match rvAmo f5 old src with
      | some v => retire p (rvRd w) old npc (ramWrite x.phys (leBytes 4 v.toNat) b)
      | none => illegal p w b

/-! ### Execution of a 32-bit instruction -/

/-- MRET: MIE from MPIE, and the program counter from mepc. -/
def rvMret (p : Nat) (b : Block) : Block := onPe p (fun e => { e with csr := { e.csr with mie := e.csr.mpie, mpie := true } }) (retire p 0 0#32 (b.pe p).csr.mepc b)

/-- SYSTEM: ECALL, EBREAK, MRET, WFI and the CSR instructions. -/
def rvSystem (p w : Nat) (npc : Word) (b : Block) : Block :=
  if rvF3 w = 0 then
    match w with
    | 0x00000073 => takeTrap p false 11 0 b
    | 0x00100073 => takeTrap p false 3 (if Config.ebreakInMtval then (b.pe p).pc.toNat else 0) b
    | 0x30200073 => rvMret p b
    | 0x10500073 => onPe p (fun e => { e with csr := { e.csr with minstret := if e.csr.mcounterinhibit.testBit 2 then e.csr.minstret else (e.csr.minstret + 1) % 2 ^ 64 } }) (doWfi p b)
    | _ => illegal p w b
  else if rvF3 w = 4 then illegal p w b
  else rvCsr p w npc b

/-- An instruction of 32 bits, or the expansion of one of 16; `npc` is the address of the next instruction. -/
def rvExec (p w : Nat) (bad : Bool) (npc : Word) (b : Block) : Block :=
  let e := b.pe p
  let a := e.reg (rvRs1 w)
  let c := e.reg (rvRs2 w)
  let f3 := rvF3 w
  let f7 := rvF7 w
  match w % 128 with
  | 0x37 => retire p (rvRd w) (immU w) npc b
  | 0x17 => retire p (rvRd w) (e.pc + immU w) npc b
  | 0x6F => retire p (rvRd w) npc (e.pc + immJ w) b
  | 0x67 => if f3 = 0 then retire p (rvRd w) npc ((a + immI w) &&& 0xFFFFFFFE#32) b else illegal p w b
  | 0x63 => match rvBranch f3 a c with
    | some t => retire p 0 0#32 (if t then e.pc + immB w else npc) b
    | none => illegal p w b
  | 0x03 => rvLoad p w bad npc b
  | 0x23 => rvStore p w npc b
  | 0x13 =>
    if (f3 = 1 ∧ f7 ≠ 0) ∨ (f3 = 5 ∧ f7 ≠ 0 ∧ f7 ≠ 32) then illegal p w b
    else retire p (rvRd w) (rvAlu f3 (decide (f3 = 5 ∧ f7 = 32)) a (immI w)) npc b
  | 0x33 =>
    if f7 = 1 then retire p (rvRd w) (rvMul f3 a c) npc b
    else if f7 = 0 then retire p (rvRd w) (rvAlu f3 false a c) npc b
    else if f7 = 32 ∧ (f3 = 0 ∨ f3 = 5) then retire p (rvRd w) (rvAlu f3 true a c) npc b
    else illegal p w b
  | 0x0F => if f3 = 0 ∨ f3 = 1 then retire p 0 0#32 npc b else illegal p w b
  | 0x2F => rvAtomic p w npc b
  | 0x73 => rvSystem p w npc b
  | _ => illegal p w b

/-! ### Compressed instructions -/

/-- Encodings of 32 bits by format. -/
def encR (f7 rs2 rs1 f3 rd op : Nat) : Nat := f7 * 33554432 + rs2 * 1048576 + rs1 * 32768 + f3 * 4096 + rd * 128 + op
def encI (imm rs1 f3 rd op : Nat) : Nat := imm % 4096 * 1048576 + rs1 * 32768 + f3 * 4096 + rd * 128 + op
def encS (imm rs2 rs1 f3 op : Nat) : Nat := imm / 32 % 128 * 33554432 + rs2 * 1048576 + rs1 * 32768 + f3 * 4096 + imm % 32 * 128 + op
def encB (imm rs2 rs1 f3 : Nat) : Nat :=
  bitsOf 12 12 imm * 2147483648 + bitsOf 10 5 imm * 33554432 + rs2 * 1048576 + rs1 * 32768 + f3 * 4096 + bitsOf 4 1 imm * 256 + bitsOf 11 11 imm * 128 + 0x63
def encJ (imm rd : Nat) : Nat :=
  bitsOf 20 20 imm * 2147483648 + bitsOf 10 1 imm * 2097152 + bitsOf 11 11 imm * 1048576 + bitsOf 19 12 imm * 4096 + rd * 128 + 0x6F

/-- A signed field of `n` bits as one of `m` bits. -/
def widen (n m v : Nat) : Nat := ofSigned m (toSigned n v)

/-- The fields of the compressed formats. -/
def cImm6 (h : Nat) : Nat := bitsOf 12 12 h * 32 + bitsOf 6 2 h
def cOffJ (h : Nat) : Nat :=
  bitsOf 12 12 h * 2048 + bitsOf 8 8 h * 1024 + bitsOf 10 9 h * 256 + bitsOf 6 6 h * 128 + bitsOf 7 7 h * 64 + bitsOf 2 2 h * 32 + bitsOf 11 11 h * 16 + bitsOf 5 3 h * 2
def cOffB (h : Nat) : Nat := bitsOf 12 12 h * 256 + bitsOf 6 5 h * 64 + bitsOf 2 2 h * 32 + bitsOf 11 10 h * 8 + bitsOf 4 3 h * 2
def cOffW (h : Nat) : Nat := bitsOf 5 5 h * 64 + bitsOf 12 10 h * 8 + bitsOf 6 6 h * 4

/-- Quadrant 0. -/
def expand0 (h : Nat) : Option Nat :=
  let rd := 8 + bitsOf 4 2 h
  let rs1 := 8 + bitsOf 9 7 h
  match bitsOf 15 13 h with
  | 0 =>
    let imm := bitsOf 10 7 h * 64 + bitsOf 12 11 h * 16 + bitsOf 5 5 h * 8 + bitsOf 6 6 h * 4
    if imm = 0 then none else some (encI imm 2 0 rd 0x13)
  | 2 => some (encI (cOffW h) rs1 2 rd 0x03)
  | 6 => some (encS (cOffW h) rd rs1 2 0x23)
  | _ => none

/-- Quadrant 1. -/
def expand1 (h : Nat) : Option Nat :=
  let rd := bitsOf 11 7 h
  let rc := 8 + bitsOf 9 7 h
  let r2 := 8 + bitsOf 4 2 h
  let imm := widen 6 12 (cImm6 h)
  match bitsOf 15 13 h with
  | 0 => some (encI imm rd 0 rd 0x13)
  | 1 => some (encJ (widen 12 21 (cOffJ h)) 1)
  | 2 => some (encI imm 0 0 rd 0x13)
  | 3 =>
    if rd = 2 then
      let sp := bitsOf 12 12 h * 512 + bitsOf 4 3 h * 128 + bitsOf 5 5 h * 64 + bitsOf 2 2 h * 32 + bitsOf 6 6 h * 16
      if sp = 0 then none else some (encI (widen 10 12 sp) 2 0 2 0x13)
    else if cImm6 h = 0 then none
    else some (widen 6 20 (cImm6 h) * 4096 + rd * 128 + 0x37)
  | 4 =>
    match bitsOf 11 10 h with
    | 0 => if bitOf 12 h then none else some (encI (cImm6 h) rc 5 rc 0x13)
    | 1 => if bitOf 12 h then none else some (encI (1024 + cImm6 h) rc 5 rc 0x13)
    | 2 => some (encI imm rc 7 rc 0x13)
    | _ =>
      if bitOf 12 h then none
      else match bitsOf 6 5 h with
        | 0 => some (encR 32 r2 rc 0 rc 0x33)
        | 1 => some (encR 0 r2 rc 4 rc 0x33)
        | 2 => some (encR 0 r2 rc 6 rc 0x33)
        | _ => some (encR 0 r2 rc 7 rc 0x33)
  | 5 => some (encJ (widen 12 21 (cOffJ h)) 0)
  | 6 => some (encB (widen 9 13 (cOffB h)) 0 rc 0)
  | _ => some (encB (widen 9 13 (cOffB h)) 0 rc 1)

/-- Quadrant 2. -/
def expand2 (h : Nat) : Option Nat :=
  let rd := bitsOf 11 7 h
  let r2 := bitsOf 6 2 h
  match bitsOf 15 13 h with
  | 0 => if bitOf 12 h then none else some (encI r2 rd 1 rd 0x13)
  | 2 => if rd = 0 then none else some (encI (bitsOf 3 2 h * 64 + bitsOf 12 12 h * 32 + bitsOf 6 4 h * 4) 2 2 rd 0x03)
  | 4 =>
    if bitOf 12 h then
      (if r2 = 0 then (if rd = 0 then some 0x00100073 else some (encI 0 rd 0 1 0x67)) else some (encR 0 r2 rd 0 rd 0x33))
    else if r2 = 0 then (if rd = 0 then none else some (encI 0 rd 0 0 0x67))
    else some (encR 0 r2 0 0 rd 0x33)
  | 6 => some (encS (bitsOf 8 7 h * 64 + bitsOf 12 9 h * 4) r2 2 2 0x23)
  | _ => none

/-- The 32-bit instruction that a 16-bit one stands for; none for a reserved one. -/
def expandC (h : Nat) : Option Nat :=
  match h % 4 with
  | 0 => expand0 h
  | 1 => expand1 h
  | 2 => expand2 h
  | _ => none

/-! ### Fetch and step -/

/-- Two bytes of instruction at a virtual address, from the engine's own local RAM (R413). -/
def fetchHalf (p va : Nat) (b : Block) : Access :=
  let x := translate (b.pe p).regions 2 va 2
  if x.cause ≠ 0 then x.refuse b
  else if inRam x.phys 2 = true ∧ x.phys / ramSize = p then .done (leNat (b.ramRead x.phys 2)) b
  else .refused 3 x.region x.phys b

/-- Cycles pass. -/
def rvCycles (p n : Nat) (b : Block) : Block := onPe p (fun e => { e with csr := { e.csr with
  mcycle := if e.csr.mcounterinhibit.testBit 0 then e.csr.mcycle else (e.csr.mcycle + n) % 2 ^ 64 } }) b

/-- The instruction at the program counter. -/
def rvStep (p : Nat) (bad : Bool) (b : Block) : Block :=
  let pc := (b.pe p).pc
  match fetchHalf p pc.toNat b with
  | .done h _ =>
    if h % 4 ≠ 3 then
      match expandC h with
      | some w => rvExec p w bad (pc + 2) b
      | none => illegal p h b
    else match fetchHalf p (pc + 2).toNat b with
      | .done h2 _ => rvExec p (h2 * 65536 + h) bad (pc + 4) b
      | a => accessTrap p 2 (pc + 2).toNat a b
  | a => accessTrap p 2 pc.toNat a b

/-- POLICY_INSTRUCTION: an enabled interrupt is taken at the instruction boundary, otherwise the instruction executes; `bad` says that an image tile it reads
fails its check. -/
def doPolicyInstruction (p cycles : Nat) (bad : Bool) (b : Block) : Block :=
  if b.peRuns p = false ∨ (b.pe p).asleep = true then b
  else match b.irqDue p with
    | some code => takeTrap p true code 0 b
    | none => rvStep p bad (rvCycles p cycles b)

def execPolicyInstruction (engine : Fin 2) (cycles : Nat) (bad : Bool) (s : State) := effect (doPolicyInstruction engine cycles bad) s

end Sys2Proof.Machine
end

