-- ==== Sys2Proof/Machine/Debug.lean ====
section
/-! DEFINITION. Debug port, debug states and operator keys (R471 to R484). -/

namespace Sys2Proof.Machine

/-! ### The port (R473, R474, R479) -/

/-- The answer of the port. -/
def answer (a : DbgAnswer) (b : Block) : Block := b.onSec fun s => { s with answer := a }

/-- The answer is a value that the spec leaves open. -/
def answerOpen (b : Block) : Block := answer (.value (b.draw.toNat % 4294967296)) b.drew

/-- An engine is halted or written: TOUCHED (R475). -/
def touchEngine (i : Nat) (b : Block) : Block := (b.onSec fun s => { s with touched := s.touched.set i true }).touch [0x16]
def setHalted (i : Nat) (h : Bool) (b : Block) : Block := b.onSec fun s => { s with halted := s.halted.set i h }

/-- An access to a policy engine; memory goes through its own RTU, whose refusal is an error on the port and no trap. -/
def debugPolicy (p : Nat) (op : DbgOp) (b : Block) : Block :=
  let i := svcOf p
  let gated := decide (b.sys.mstate = .hibernate)
  match op with
  | .idcode => b
  | .halt => answer (if gated then .gated else .done) (setHalted i true (touchEngine i b))
  | .resume => if gated then answer .gated b else answer .done (setHalted i false b)
  | .step => if gated then answer .gated b else answer .done (if b.sec.halted.getD i false ∧ (b.pe p).up = true then rvStep p false b else b)
  | .readReg n => if gated then answer .gated b else answer (.value (if n = 32 then (b.pe p).pc.toNat else ((b.pe p).reg (n % 32)).toNat)) b
  | .writeReg n v =>
    if gated then answer .gated b
    else answer .done (touchEngine i (onPe p (fun e => if n = 32 then { e with pc := w32 v } else e.setReg (n % 32) (w32 v)) b))
  | .readMem a =>
    if gated then answer .gated b
    else match loadAt p 0 a 4 false b with
      | .done v b1 => answer (.value v) b1
      | _ => answer .error b
  | .writeMem a v =>
    if gated then answer .gated b
    else match storeAt p 1 a 4 v b with
      | .done _ b1 => answer .done (touchEngine i b1)
      | _ => answer .error b

/-- An access to a vendor engine: its registers and local memory have no published content (R32), so what a read answers is open. -/
def debugVendor (i : Nat) (op : DbgOp) (b : Block) : Block :=
  match op with
  | .idcode => b
  | .halt => answer .done (setHalted i true (touchEngine i b))
  | .resume => answer .done (setHalted i false b)
  | .step => answer .done b
  | .readReg _ => answerOpen b
  | .readMem _ => answerOpen b
  | .writeReg _ _ => answer .done (touchEngine i b)
  | .writeMem _ _ => answer .done (touchEngine i b)

/-- A read of a store in Full-Open; writes are refused. -/
def debugRead (part : DbgPart) (op : DbgOp) (b : Block) : Block :=
  match op, part with
  | .readMem _, .image a => answer (.value (leField (tileBytes (bankGet b.img.front (a / 64 % 16384))) (a % 64) 4)) b
  | .readMem _, .flash a => answer (.value (leNat (memRead 0xFF#8 b.upd.flash a 4))) b
  | .readMem _, _ => answerOpen b
  | _, _ => answer .refused b

/-- DEBUG_ACCESS (R473, R474, R479): the debug state decides who answers. -/
def doDebugAccess (part : DbgPart) (op : DbgOp) (b : Block) : Block :=
  if b.sys.mstate = .off then answer .nothing b
  else match part with
    | .tap => answer (if op = .idcode then .value 0x0512A0B3 else .done) b
    | .engine e =>
      if op = .idcode then answer .refused b
      else if e = .p0 ∨ e = .p1 then (if b.sec.dstate = 0 then answer .refused b else debugPolicy (e.ctorIdx - 13) op b)
      else if e = .reserve ∨ e = .sa ∨ e = .sb ∨ b.sec.dstate ≠ 2 then answer .refused b
      else debugVendor e.ctorIdx op b
    | .never => answer .refused b
    | _ => if b.sec.dstate = 2 then debugRead part op b else answer .refused b

def execDebugAccess (part : DbgPart) (op : DbgOp) (s : State) := effect (doDebugAccess part op) s

/-! ### Opening and closing (R475 to R478) -/

/-- DEBUG_OPEN_EXPIRY (R476). -/
def doDebugOpenExpiry (b : Block) : Block := match b.sec.openEnd with
  | some t => if b.sec.dstate = 0 then b else closeDebug 2 (b.at t)
  | none => b

def execDebugOpenExpiry (s : State) := effect doDebugOpenExpiry s

/-- The engines of R31 by their ENGSVC bit. -/
def engineAt (i : Nat) : Engine :=
  [Engine.lead, .reserve, .sa, .sb, .f0, .f1, .f2, .f3, .c0, .c1, .s0, .s1, .n0, .p0, .p1].getD i .lead

/-- A touched engine restarts from the active slot: P0 and P1 under R409, the others under R60; Lead has been taken over and returns under R457. -/
def restartTouched (i : Nat) (b : Block) : Block :=
  if i = 0 then b
  else if 13 ≤ i then (if (b.pe (i - 13)).up then startPolicy (i - 13) (stopPolicy (i - 13) b) else b)
  else engineUp (engineAt i) (engineDown (engineAt i) (setHalted i false b))

/-- DEBUG_CLOSE_DONE (R475): every touched engine restarted, a touched Lead taken over by Reserve. -/
def doDebugCloseDone (b : Block) : Block :=
  if b.sec.closing = false ∨ (b.sec.touched.getD 0 false = true ∧ b.pwr.resCtl = false) then b
  else
    let mask := maskOf b.sec.touched
    let b1 := (membersOf 15 mask).foldl (fun b i => restartTouched i b) b
    let b2 := b1.onSec fun s => { s with touched := List.replicate 15 false, halted := List.replicate 15 false, closing := false, fullCause := false }
    (note .debugClosed noArg [b2.sec.lastCause, mask] b2).touch [0x16]

def execDebugCloseDone (s : State) := effect doDebugCloseDone s

/-! ### Debug commands (R476 to R481) -/

def ruleSecGetDebug (src : Src) (_b : Block) : HostRule := { opcode := 0x0D01, owner := false, stateOk := true, param := none, act := fun b => complete src .ok (wordsBytes ((b.frontTile 0x16).take 4)) b }

def execSecGetDebug (src : Src) (s : State) := effect (host src (ruleSecGetDebug src)) s

/-- 32 random bytes. -/
def Block.random32 (b : Block) : List Byte := (List.range 4).flatMap fun i => leBytes 8 (Config.freeValue (b.sys.drawn + i)).toNat

def ruleSecDebugChallenge (src : Src) (state : Nat) (b : Block) : HostRule :=
  { opcode := 0x0D02, owner := true, stateOk := decide (b.sys.mstate ≠ .hibernate) && !b.sec.closing, param := need (decide (state = 1 ∨ state = 2))
    act := fun b =>
      let n := b.random32
      let b1 := (b.drew.drew.drew.drew.onSec fun s => { s with nonce := some (src.index, state, n, b.sys.now) }).touch [0x16]
      complete src .ok (leBytes 1 state ++ n ++ b.serialBytes) b1 }

def execSecDebugChallenge (src : Src) (state : Nat) (s : State) := effect (host src (ruleSecDebugChallenge src state)) s

/-- The nonce that a SEC_DEBUG_SET uses (R476). -/
def Block.nonceFor (b : Block) (src : Src) (state : Nat) : Option (List Byte) := match b.sec.nonce with
  | some n => if n.1 = src.index ∧ n.2.1 = state ∧ b.sys.now < n.2.2.2 + 300 * secT then some n.2.2.1 else none
  | none => none

/-- The key of a signer: an operator slot, or for 0xFF the vendor debug key that the command carries. -/
def Block.debugKey (b : Block) (state signer : Nat) (key : List Byte) : Option (List Byte) :=
  if state = 1 then (if signer ≤ 3 then b.sec.store.keys.getD signer none else none)
  else if signer = 0xFF ∧ sha384 key = b.sec.dkh then some key else none

/-- Open a debug state against a signed grant. -/
def openDebug (src : Src) (state minutes signer : Nat) (key sig : List Byte) (b : Block) : Block :=
  match b.nonceFor src state with
  | none => complete src .badParam [] b
  | some n =>
    let b1 := (b.onSec fun s => { s with nonce := none }).touch [0x16]
    let msg := n ++ b.serialBytes ++ leBytes 1 state ++ leBytes 2 minutes ++ leBytes 1 signer
    let good := match b.debugKey state signer key with
      | some k => ecdsaOk k sig msg
      | none => false
    if good = false then complete src .denied [] (note .debugDenied noArg [] (b1.onSec fun s => { s with denies := satAdd 255 s.denies 1 }))
    else if state = 1 then
      let b2 := b1.onSec fun s => { s with dstate := 1, openEnd := some (b.sys.now + minutes * 60 * secT), opens := s.opens + 1 }
      complete src .ok [] (note .debugOpen noArg [signer, minutes] b2)
    else if b.sys.mstate = .run then parkCommand none 0x0D03 (b1.onSec fun s => { s with fullDue := some (src, minutes) })
    else enterFullOpen src minutes b1

/-- The state conditions of SEC_DEBUG_SET (R478, R480, R481); Policy-Open while Full-Open is in force is refused (log entry 61). -/
def Block.debugStateOk (b : Block) (state : Nat) : Bool :=
  if state = 0 then true
  else if b.sec.closing then false
  else if state = 1 then decide (b.sec.dstate ≠ 2) && (decide (b.sec.dstate = 1) || b.sec.store.keys.any Option.isSome)
  else (decide (b.sys.mstate = .park) || decide (b.sys.mstate = .run) || decide (b.sys.mstate = .fault)) && b.latch.saOk

def ruleSecDebugSet (src : Src) (state minutes signer : Nat) (key sig : List Byte) (b : Block) : HostRule :=
  { opcode := 0x0D03, owner := true, stateOk := b.debugStateOk state
    param := need (decide (state ≤ 2 ∧ key.length = 96 ∧ sig.length = 96) &&
      (decide (state = 0) || (decide (1 ≤ minutes ∧ minutes ≤ 480) && (if signer = 0xFF then true else decide (signer ≤ 3) && allZero key))))
    act := fun b =>
      if state = 0 then complete src .ok [] (if b.sec.dstate = 0 then b else closeDebug 1 b)
      else if state = 1 ∧ b.sec.dstate = 1 then complete src .ok [] b
      else openDebug src state minutes signer key sig b }

def execSecDebugSet (src : Src) (state minutes signer : Nat) (key sig : List Byte) (s : State) := effect (host src (ruleSecDebugSet src state minutes signer key sig)) s

/-! ### Operator keys (R471, R472, R481) -/

/-- The 114-byte message of a request. -/
def Block.keyMessage (b : Block) (op slot : Nat) (key : List Byte) : List Byte := b.serialBytes ++ leBytes 4 b.sec.store.gen ++ leBytes 1 op ++ leBytes 1 slot ++ key

/-- The slot holds a key. -/
def Block.slotHeld (b : Block) (slot : Nat) : Bool := (b.sec.store.keys.getD slot none).isSome

/-- A signature by a slot that holds a key. -/
def Block.signedBy (b : Block) (signer op slot : Nat) (key sig : List Byte) : Bool := match (if signer ≤ 3 then b.sec.store.keys.getD signer none else none) with
  | some k => ecdsaOk k sig (b.keyMessage op slot key)
  | none => false

/-- First 4 bytes of SHA-384 of a key. -/
def keyId (key : List Byte) : Nat := leNat ((sha384 key).take 4)

def ruleSecKeyEnroll (src : Src) (slot : Nat) (key : List Byte) (signer : Nat) (sig : List Byte) (b : Block) : HostRule :=
  { opcode := 0x0D04, owner := true, stateOk := decide (b.sys.mstate = .park)
    param := need (decide (slot ≤ 3 ∧ key.length = 96 ∧ sig.length = 96) && !b.slotHeld slot && onP384 key)
    act := fun b =>
      let none_ := b.sec.store.keys.all fun x => x.isNone
      let ok := if none_ then decide (signer = 0xFF) && allZero sig && b.latch.srst else b.signedBy signer 1 slot key sig
      if ok then
        let b1 := writeStore (fun k => { k with keys := k.keys.set slot (some key) }) b
        complete src .ok (leBytes 4 b1.sec.store.gen) (note .keyEnrolled noArg [slot, keyId key, b1.sec.store.gen] b1)
      else complete src .denied [] b }

def execSecKeyEnroll (src : Src) (slot : Nat) (key : List Byte) (signer : Nat) (sig : List Byte) (s : State) := effect (host src (ruleSecKeyEnroll src slot key signer sig)) s

def ruleSecKeyRevoke (src : Src) (slot signer : Nat) (sig : List Byte) (b : Block) : HostRule :=
  { opcode := 0x0D05, owner := true, stateOk := true, param := need (decide (slot ≤ 3 ∧ sig.length = 96) && b.slotHeld slot)
    act := fun b =>
      if b.signedBy signer 2 slot (List.replicate 96 0#8) sig then
        let kid := keyId ((b.sec.store.keys.getD slot none).getD [])
        let b1 := writeStore (fun k => { k with keys := k.keys.set slot none }) b
        complete src .ok (leBytes 4 b1.sec.store.gen) (note .keyRevoked noArg [slot, kid, b1.sec.store.gen] b1)
      else complete src .denied [] b }

def execSecKeyRevoke (src : Src) (slot signer : Nat) (sig : List Byte) (s : State) := effect (host src (ruleSecKeyRevoke src slot signer sig)) s

def ruleSecKeyList (src : Src) (_b : Block) : HostRule :=
  { opcode := 0x0D06, owner := false, stateOk := true, param := none
    act := fun b =>
      let k := b.sec.store
      complete src .ok (leBytes 4 k.gen ++ leBytes 4 k.minP0 ++ leBytes 4 k.minP1 ++ (List.range 4).flatMap fun i => match k.keys.getD i none with
        | some q => leBytes 1 1 ++ q
        | none => leBytes 1 0 ++ List.replicate 96 0#8) b }

def execSecKeyList (src : Src) (s : State) := effect (host src (ruleSecKeyList src)) s

end Sys2Proof.Machine
end

