-- ==== Sys2Proof/Machine/Datagram.lean ====
section
/-! DEFINITION. Datagrams and ring entries as requests: their layouts, the checks of R329 in order, the service ring, and the ends of holds
(R325 to R330, R334, R342, R437, R438, R454 to R456). -/

namespace Sys2Proof.Machine

/-! ### Requests (R16, R343, R345, R347, R348) -/

/-- A request as an opcode's table gives it: the data bytes it takes, those announced by a length or count field included, and its command. -/
structure Request where
  opcode : Nat
  length : Nat
  rule : Block → HostRule

/-- Bytes as little-endian numbers of `n` bytes each. -/
def fieldsOf (n : Nat) (d : List Byte) : List Nat := (List.range (d.length / max 1 n)).map fun i => leField d (n * i) n

/-- Numbers taken two by two. -/
def pairsOf : List Nat → List (Nat × Nat)
  | a :: b :: l => (a, b) :: pairsOf l
  | _ => []

/-- A command with a parameter byte outside its range: BAD_PARAM at check 13. -/
def within (ok : Bool) (r : HostRule) : HostRule := { r with param := if ok then r.param else some .badParam }

/-- Requests of the sys group: opcode, data bytes, command (R343). -/
def sysRequests (src : Src) (d : List Byte) : List Request :=
  [ { opcode := 0x0101, length := 4, rule := fun _ => { opcode := 0x0101, owner := false, stateOk := true, param := some .badParam, act := id } }
  , { opcode := 0x0102, length := 0, rule := fun b => ruleSysSessionClose src b }
  , { opcode := 0x0103, length := 0, rule := fun b => ruleSysPing src b }
  , { opcode := 0x0104, length := 0, rule := fun b => ruleSysTakeOwner src b }
  , { opcode := 0x0105, length := 1, rule := fun b => ruleSysReleaseOwner src (leField d 0 1) b }
  , { opcode := 0x0106, length := 2, rule := fun b => ruleSysSetMtu src (leField d 0 2) b }
  , { opcode := 0x0107, length := 4, rule := fun b => ruleSysResend src (leField d 0 2) (leField d 2 2) b }
  , { opcode := 0x0110, length := 0, rule := fun b => ruleSysRun src b }
  , { opcode := 0x0111, length := 0, rule := fun b => ruleSysPark src b }
  , { opcode := 0x0112, length := 0, rule := fun b => ruleSysHibernate src b }
  , { opcode := 0x0113, length := 0, rule := fun b => ruleSysFaultClear src b }
  , { opcode := 0x0114, length := 0, rule := fun b => ruleSysWake src b } ]

/-- Requests of the img group: opcode, data bytes, command (R345). -/
def imgRequests (src : Src) (d : List Byte) : List Request :=
  [ { opcode := 0x0201, length := 4, rule := fun b => ruleImgRead src (leField d 0 2) (leField d 2 1) (leField d 3 1) [] b }
  , { opcode := 0x0202, length := 2 + 2 * leField d 0 1, rule := fun b => ruleImgReadList src (fieldsOf 2 (d.drop 2)) (leField d 1 1) [] b } ]

/-- Requests of the sense group: opcode, data bytes, command (R87, R115). -/
def senseRequests (src : Src) (d : List Byte) : List Request :=
  [ { opcode := 0x0301, length := 1, rule := fun b => ruleSenseSetRate src (leField d 0 1) b }
  , { opcode := 0x0302, length := 4, rule := fun b => ruleSenseSetWindow src (leField d 0 1) (leField d 1 1) (leField d 2 2) b }
  , { opcode := 0x0303, length := 3, rule := fun b => ruleSenseSetShutter src (leField d 0 2) (leField d 2 1) b }
  , { opcode := 0x0304, length := 2, rule := fun b => ruleSenseRefCheck src (leField d 0 2) b }
  , { opcode := 0x0305, length := 2, rule := fun b => ruleSenseRelearn src (leField d 0 2) b }
  , { opcode := 0x0306, length := 3, rule := fun b => ruleSenseSetThMap src (leField d 0 2) (leField d 2 1) b }
  , { opcode := 0x0307, length := 3, rule := fun b => ruleSenseSetThCurve src (leField d 0 2) (leField d 2 1) b }
  , { opcode := 0x0308, length := 4, rule := fun b => ruleSenseSetShunt src (leField d 0 4) b }
  , { opcode := 0x0309, length := 0, rule := fun b => ruleSenseGetConfig src b }
  , { opcode := 0x0310, length := 5, rule := fun b => ruleIntegSetLeashMode src (leField d 0 1) (leField d 1 4) b }
  , { opcode := 0x0311, length := 2, rule := fun b => ruleIntegTestWire src (leField d 0 2) b }
  , { opcode := 0x0312, length := 2, rule := fun b => ruleIntegClearOpen src (leField d 0 2) b }
  , { opcode := 0x0313, length := 1, rule := fun b => ruleIntegSetBarkPullup src (leField d 0 1) b } ]

/-- Requests of the bal group: opcode, data bytes, command (R140). -/
def balRequests (src : Src) (d : List Byte) : List Request :=
  [ { opcode := 0x0401, length := 1, rule := fun b => ruleBalEnable src (leField d 0 1) b }
  , { opcode := 0x0402, length := 2, rule := fun b => ruleBalSetGoal src (leField d 0 1) (leField d 1 1) b }
  , { opcode := 0x0403, length := 16, rule := fun b => ruleBalSetThresh src (leField d 0 4) (leField d 4 4) (leField d 8 4) (leField d 12 4) b }
  , { opcode := 0x0404, length := 15, rule := fun b => ruleBalSetLimits src (leField d 0 2) (leField d 2 2) (leField d 4 4) (leSigned d 8 2) (leSigned d 10 2) (leField d 12 1) (leField d 13 2) b }
  , { opcode := 0x0405, length := 7, rule := fun b => ruleBalManual src (leField d 0 2) (leField d 2 1) (leSigned d 3 2) (leField d 5 2) b }
  , { opcode := 0x0406, length := 2, rule := fun b => ruleBalClearFault src (leField d 0 2) b }
  , { opcode := 0x0407, length := 0, rule := fun b => ruleBalGetConfig src b } ]

/-- Requests of the flt group: opcode, data bytes, command (R175). -/
def fltRequests (src : Src) (d : List Byte) : List Request :=
  [ { opcode := 0x0501, length := 10, rule := fun b => ruleFltSetConfig src (leField d 0 2) (leField d 2 2) (leField d 4 2) (leField d 6 1) (leField d 7 2) (leField d 9 1) b }
  , { opcode := 0x0502, length := 5 + leField d 3 2, rule := fun b => ruleFltSlotWrite src (leField d 0 1) (leField d 1 2) (d.drop 5) b }
  , { opcode := 0x0503, length := 1, rule := fun b => ruleFltSlotCommit src (leField d 0 1) b }
  , { opcode := 0x0504, length := 5, rule := fun b => ruleFltSlotRead src (leField d 0 1) (leField d 1 2) (leField d 3 2) b }
  , { opcode := 0x0505, length := 3, rule := fun b => ruleFltSetSlot src (leField d 0 2) (leField d 2 1) b }
  , { opcode := 0x0506, length := 6, rule := fun b => ruleFltSetCap src (leField d 0 2) (leField d 2 4) b }
  , { opcode := 0x0507, length := 2, rule := fun b => ruleFltResetCell src (leField d 0 2) b }
  , { opcode := 0x0508, length := 0, rule := fun b => ruleFltSaveNow src b }
  , { opcode := 0x0509, length := 0, rule := fun b => ruleFltGetConfig src b } ]

/-- Requests of the imp group: opcode, data bytes, command (R202). -/
def impRequests (src : Src) (d : List Byte) : List Request :=
  [ { opcode := 0x0601, length := 32, rule := fun b => ruleImpSetFreqs src (fieldsOf 4 d) b }
  , { opcode := 0x0602, length := 4, rule := fun b => ruleImpSetExcitation src (leField d 0 2) (leField d 2 1) (leField d 3 1) b }
  , { opcode := 0x0603, length := 0, rule := fun b => ruleImpStart src b }
  , { opcode := 0x0604, length := 1, rule := fun b => ruleImpEnable src (leField d 0 1) b }
  , { opcode := 0x0605, length := 4, rule := fun b => ruleImpSetSchedule src (leField d 0 4) b }
  , { opcode := 0x0606, length := 145, rule := fun b => ruleImpZtWrite src (leField d 0 1) (d.drop 1) b }
  , { opcode := 0x0607, length := 2, rule := fun b => ruleImpSetBaseline src (leField d 0 2) b }
  , { opcode := 0x0608, length := 5, rule := fun b => ruleImpSetHealth src (leField d 0 1) (leField d 1 2) (leField d 3 2) b }
  , { opcode := 0x0609, length := 2, rule := fun b => ruleImpGetBaseline src (leField d 0 2) b }
  , { opcode := 0x060A, length := 0, rule := fun b => ruleImpGetConfig src b } ]

/-- Requests of the cnv group: opcode, data bytes, command (R240). -/
def cnvRequests (src : Src) (d : List Byte) : List Request :=
  [ { opcode := 0x0701, length := 9, rule := fun b => ruleCnvSetCarrier src (leField d 0 4) (leField d 4 1) (leField d 5 1) (leField d 6 1) (leField d 7 2) b }
  , { opcode := 0x0702, length := 2, rule := fun b => ruleCnvSetPhases src (leField d 0 1) (leField d 1 1) b }
  , { opcode := 0x0703, length := 16, rule := fun b => ruleCnvSetModulation src (leField d 0 2) (leField d 2 4) (leField d 6 4) (leField d 10 4) (leField d 14 2) b }
  , { opcode := 0x0704, length := 20, rule := fun b => ruleCnvSetLimits src (leField d 0 4) (leField d 4 4) (leField d 8 4) (leField d 12 4) (leField d 16 4) b }
  , { opcode := 0x0705, length := 28, rule := fun b => ruleCnvSetSoftstart src (leSigned d 0 4) (leField d 4 4) (leField d 8 4) (leField d 12 4) (leField d 16 4) (leField d 20 4) (leField d 24 4) b }
  , { opcode := 0x0706, length := 8, rule := fun b => ruleCnvSetVtarget src (leSigned d 0 4) (leField d 4 4) b }
  , { opcode := 0x0707, length := 5, rule := fun b => ruleCnvSetTuning src (leField d 0 1) (leField d 1 4) b }
  , { opcode := 0x0708, length := 29, rule := fun b => ruleCnvSetCoeffs src (leField d 0 1) ((fieldsOf 4 (d.drop 1)).map (toSigned 32)) b }
  , { opcode := 0x0709, length := 2, rule := fun b => ruleCnvPhaseCtrl src (leField d 0 1) (leField d 1 1) b }
  , { opcode := 0x070A, length := 0, rule := fun b => ruleCnvGetConfig src b } ]

/-- Requests of the loop group: opcode, data bytes, command (R275). -/
def loopRequests (src : Src) (d : List Byte) : List Request :=
  [ { opcode := 0x0801, length := 2, rule := fun b => ruleLoopSetMode src (leField d 0 1) (leField d 1 1) b }
  , { opcode := 0x0802, length := 3, rule := fun b => ruleLoopSetSource src (leField d 0 1) (leField d 1 1) (leField d 2 1) b }
  , { opcode := 0x0803, length := 4, rule := fun b => ruleLoopSetpoint src (leSigned d 0 4) b }
  , { opcode := 0x0804, length := 24, rule := fun b => ruleLoopSetScale src (leField d 0 4) (leField d 4 4) (leSigned d 8 4) (leSigned d 12 4) (leField d 16 4) (leField d 20 4) b }
  , { opcode := 0x0805, length := 9, rule := fun b => ruleLoopSetGains src (leField d 0 1) (leField d 1 4) (leField d 5 4) b }
  , { opcode := 0x0806, length := 7, rule := fun b => ruleLoopSetTiming src (leField d 0 2) (leField d 2 2) (leField d 4 2) (leField d 6 1) b }
  , { opcode := 0x0807, length := 5, rule := fun b => ruleLoopManual src (leField d 0 1) (leSigned d 1 4) b }
  , { opcode := 0x0808, length := 3 + 16 * leField d 2 1, rule := fun b => ruleLoopSchedWrite src (leField d 0 2) (leField d 2 1) (d.drop 3) b }
  , { opcode := 0x0809, length := 2, rule := fun b => ruleLoopSchedCommit src (leField d 0 2) b }
  , { opcode := 0x080A, length := 16, rule := fun b => ruleThmSetConfig src (leField d 0 1) (leField d 1 1) (leSigned d 2 2) (leField d 4 4) (leField d 8 4) (leField d 12 2) (leField d 14 2) b }
  , { opcode := 0x080B, length := 13, rule := fun b => ruleThmSetMap src (leField d 0 1) (leField d 1 2) (leField d 3 2) (leField d 5 2) (leField d 7 2) (leField d 9 2) (leField d 11 2) b }
  , { opcode := 0x080C, length := 6, rule := fun b => ruleThmOverride src (leField d 0 1) (leField d 1 1) (leField d 2 2) (leField d 4 2) b }
  , { opcode := 0x080D, length := 5, rule := fun b => ruleFpSetConfig src (leField d 0 1) (leField d 1 1) (leField d 2 1) (leField d 3 2) b }
  , { opcode := 0x080E, length := 17, rule := fun b => ruleLvSetConfig src (leField d 0 1) (leSigned d 1 4) (leSigned d 5 4) (leField d 9 2) (leField d 11 2) (leField d 13 2) (leField d 15 2) b }
  , { opcode := 0x080F, length := 65, rule := fun b => ruleLvFrictionWrite src (leField d 0 1) (fieldsOf 2 (d.drop 1)) b }
  , { opcode := 0x0810, length := 1, rule := fun b => ruleLvLearn src (leField d 0 1) b }
  , { opcode := 0x0811, length := 0, rule := fun b => ruleLoopGetConfig src b } ]

/-- Requests of the safe group: opcode, data bytes, command (R320). -/
def safeRequests (src : Src) (d : List Byte) : List Request :=
  [ { opcode := 0x0901, length := 0, rule := fun b => ruleSafeReset src b }
  , { opcode := 0x0902, length := 1, rule := fun b => ruleSafeContactors src (leField d 0 1) b }
  , { opcode := 0x0903, length := 8, rule := fun b => ruleSafeSetPrecharge src (leField d 0 4) (leField d 4 4) b }
  , { opcode := 0x0904, length := 0, rule := fun b => ruleSafeGetNonce src b }
  , { opcode := 0x0905, length := 32, rule := fun b => ruleSafeAuth src d b }
  , { opcode := 0x0906, length := 1 + leField d 0 1, rule := fun b => ruleSafeSetPassword src (d.drop 1) b }
  , { opcode := 0x0907, length := 256, rule := fun b => ruleSafeFloorWrite src d .written b }
  , { opcode := 0x0908, length := 0, rule := fun b => ruleSafeFloorRead src b }
  , { opcode := 0x0909, length := 5, rule := fun b => ruleSafeLogRead src (leField d 0 4) (leField d 4 1) b }
  , { opcode := 0x090A, length := 2, rule := fun b => ruleSafeTest src (leField d 0 1) (leField d 1 1) 0xFFFF b } ]

/-- Requests of the net group: opcode, data bytes, command (R401). -/
def netRequests (src : Src) (d : List Byte) : List Request :=
  [ { opcode := 0x0A01, length := 16, rule := fun b => ruleNetSetIp src { addr := leField d 0 4, mask := leField d 4 4, gw := leField d 8 4, vlan := leField d 12 2, pcp := leField d 14 1, mode := leField d 15 1 } b }
  , { opcode := 0x0A02, length := 16, rule := fun b => within (decide (leField d 0 1 ≤ 1 ∧ leField d 6 1 ≤ 1)) (ruleNetSetPtp src
    { en := leField d 0 1 != 0, profile := leField d 1 1, role := leField d 2 1, domain := leField d 3 1, prio1 := leField d 4 1, prio2 := leField d 5 1,
      slaveOnly := leField d 6 1 != 0, logSync := leSigned d 7 1, lockThr := leField d 8 4, stepThr := leField d 12 4 } b) }
  , { opcode := 0x0A03, length := 12, rule := fun b => ruleNetSetTime src (leField d 0 6) (leField d 6 4) (leSigned d 10 2) b }
  , { opcode := 0x0A04, length := 22, rule := fun b => within (decide (leField d 0 1 ≤ 1 ∧ leField d 1 1 ≤ 1 ∧ leField d 2 1 < 32 ∧ leField d 21 1 ≤ 1)) (ruleCanSetConfig src (Fin.ofNat 2 (leField d 0 1))
    { en := leField d 1 1 != 0, fd := bitOf 0 (leField d 2 1), txpri := bitOf 1 (leField d 2 1), term := bitOf 2 (leField d 2 1), mon := bitOf 3 (leField d 2 1),
      wakeEn := bitOf 4 (leField d 2 1), nbt := leField d 3 4, dbt := leField d 7 4, node := leField d 11 1, hbPeriod := leField d 12 2, base := leField d 14 4,
      rqOwn := leField d 18 1, rqLen := leField d 19 2, noMatch := leField d 21 1 != 0 } b) }
  , { opcode := 0x0A05, length := 6 + 8 * leField d 3 1, rule := fun b => within (decide (leField d 0 1 ≤ 1)) (ruleCanFilterWrite src (Fin.ofNat 2 (leField d 0 1)) (leField d 1 2) (leField d 4 2) (pairsOf (fieldsOf 4 (d.drop 6))) b) }
  , { opcode := 0x0A06, length := 2, rule := fun b => ruleNetGetPartners src (leField d 0 1) (leField d 1 1) b }
  , { opcode := 0x0A07, length := 0, rule := fun b => ruleNetGetConfig src b } ]

/-- Requests of the upd group: opcode, data bytes, command (R490). -/
def updRequests (src : Src) (d : List Byte) : List Request :=
  [ { opcode := 0x0B01, length := 8, rule := fun b => ruleUpdBegin src (leField d 0 4) (leField d 4 4) b }
  , { opcode := 0x0B02, length := 6 + leField d 4 2, rule := fun b => ruleUpdBlock src (leField d 0 4) (d.drop 6) true b }
  , { opcode := 0x0B03, length := 0, rule := fun b => ruleUpdVerify src b }
  , { opcode := 0x0B04, length := 0, rule := fun b => ruleUpdActivate src b }
  , { opcode := 0x0B05, length := 0, rule := fun b => ruleUpdConfirm src b }
  , { opcode := 0x0B06, length := 0, rule := fun b => ruleUpdAbort src b }
  , { opcode := 0x0B07, length := 0, rule := fun b => ruleUpdGetStatus src b } ]

/-- Requests of the log group: opcode, data bytes, command (R531). -/
def logRequests (src : Src) (d : List Byte) : List Request :=
  [ { opcode := 0x0C01, length := 12, rule := fun b => ruleLogReadFast src (leField d 0 8) (leField d 8 2) (leField d 10 1) (leField d 11 1) b }
  , { opcode := 0x0C02, length := 12, rule := fun b => ruleLogReadKeep src (leField d 0 8) (leField d 8 1) (leField d 9 1) (leField d 10 1) (leField d 11 1) b }
  , { opcode := 0x0C03, length := 0, rule := fun b => ruleLogGetPointers src b }
  , { opcode := 0x0C04, length := 2 + leField d 1 1, rule := fun b => ruleLogWriteNote src (leField d 0 1) (d.drop 2) b } ]

/-- Requests of the sec group: opcode, data bytes, command (R481). -/
def secRequests (src : Src) (d : List Byte) : List Request :=
  [ { opcode := 0x0D01, length := 0, rule := fun b => ruleSecGetDebug src b }
  , { opcode := 0x0D02, length := 1, rule := fun b => ruleSecDebugChallenge src (leField d 0 1) b }
  , { opcode := 0x0D03, length := 196, rule := fun b => ruleSecDebugSet src (leField d 0 1) (leField d 1 2) (leField d 3 1) ((d.drop 4).take 96) (d.drop 100) b }
  , { opcode := 0x0D04, length := 194, rule := fun b => ruleSecKeyEnroll src (leField d 0 1) ((d.drop 1).take 96) (leField d 97 1) (d.drop 98) b }
  , { opcode := 0x0D05, length := 98, rule := fun b => ruleSecKeyRevoke src (leField d 0 1) (leField d 1 1) (d.drop 2) b }
  , { opcode := 0x0D06, length := 0, rule := fun b => ruleSecKeyList src b } ]

/-- The requests of every group, by the high byte of the opcode (R16). -/
def requestsOf (src : Src) (d : List Byte) (group : Nat) : List Request :=
  match group with
  | 1 => sysRequests src d
  | 2 => imgRequests src d
  | 3 => senseRequests src d
  | 4 => balRequests src d
  | 5 => fltRequests src d
  | 6 => impRequests src d
  | 7 => cnvRequests src d
  | 8 => loopRequests src d
  | 9 => safeRequests src d
  | 10 => netRequests src d
  | 11 => updRequests src d
  | 12 => logRequests src d
  | 13 => secRequests src d
  | _ => []

/-- The request that an opcode and its data spell; `none` for an opcode that is unknown or reserved. -/
def requestOf (src : Src) (op : Nat) (d : List Byte) : Option Request := (requestsOf src d (op / 256)).find? fun r => r.opcode == op

/-! ### Datagrams (R325 to R330) -/

/-- A reply without data to a datagram that names no open session. -/
def rawReply (ip port : Nat) (p : List Byte) (st : Status) (b : Block) : Block :=
  let r : Reply :=
    { ip := ip, port := port, session := leField p 2 1, stag := leField p 14 2, seq := leField p 6 2, opcode := leField p 8 2, status := st.code, pend := false, mtu := 1500
      data := [], mask := 0xFFFF }
  sendReply r b

/-- The datagram stands check 1: its length, its LENGTH field and its CRC-32C. -/
def wellFramed (p : List Byte) : Bool :=
  decide (20 ≤ p.length) && decide (leField p 12 2 = p.length - 20) && decide (leField p (p.length - 4) 4 = crc32c (p.take (p.length - 4)))

/-- The header stands check 4: reserved bits, SEGIX, SEGCNT and STATUS. -/
def plainHeader (p : List Byte) : Bool :=
  decide (leField p 1 1 < 8) && decide (leField p 5 1 = 0) && decide (leField p 3 1 = 0) && decide (leField p 4 1 = 1) && decide (leField p 10 2 = 0)

/-- The datagram comes from the open session that it names (check 5). -/
def Block.fromSession (b : Block) (ip port : Nat) (p : List Byte) : Bool :=
  let n := b.session (leField p 2 1)
  n.isOpen && decide (n.stag = leField p 14 2) && decide (n.ip = ip) && decide (n.port = port)

/-- A request of an open session at checks 6 to 13. -/
def judgeSession (i seq op : Nat) (d : List Byte) (b0 : Block) : Block :=
  let b := b0.onIx fun x => { x with sessions := modAt x.sessions i fun n => { n with lastHeard := b0.sys.now } }
  let src := Src.session i seq
  match b.entry? i seq with
  | some e => duplicate i seq op e b
  | none =>
    if b.sessionFull src then refuse src op .busy b
    else match requestOf src op d with
      | none => refuse src op .badOpcode b
      | some r => if d.length ≠ r.length ∨ 1100 < d.length then refuse src op .badParam b else judgeRequest src (r.rule b) d b

/-- A datagram that the command service takes: the checks of R329 in their order. -/
def takeDatagram (ip port : Nat) (p : List Byte) (b : Block) : Block :=
  let dropped (b : Block) : Block := (b.onIx fun x => { x with dropped := satAdd 65535 x.dropped 1 }).touch [5]
  let op := leField p 8 2
  let d := (p.drop 16).take (p.length - 20)
  if !wellFramed p then dropped b
  else if bitOf 0 (leField p 1 1) || bitOf 1 (leField p 1 1) then dropped b
  else if leField p 0 1 ≠ 1 then rawReply ip port p .badOpcode b
  else if !plainHeader p then rawReply ip port p .badParam b
  else if leField p 2 1 = 0xFF ∧ op = 0x0101 then
    (if d.length ≠ 4 then rawReply ip port p .badParam b else doSysSessionOpen ip port (leField p 6 2) (leField d 0 2) (leField d 2 2) b)
  else if !b.fromSession ip port p then rawReply ip port p .badParam b
  else judgeSession (leField p 2 1) (leField p 6 2) op d b

/-- IXRAS_DATAGRAM: lost while N0 is out of service, held during an activation pause (R342), else judged. -/
def doIxrasDatagram (ip port : Nat) (payload : List Byte) (b : Block) : Block :=
  if b.sys.mstate = .off ∨ b.n0Up = false then b
  else if b.upd.pauseAt.isSome then b.onIx fun x => { x with held := x.held ++ [(ip, port, payload)] }
  else takeDatagram ip port payload b

def execIxrasDatagram (ip port : Nat) (payload : List Byte) (s : State) := effect (doIxrasDatagram ip port payload) s

/-! ### Service ring (R437, R438) -/

/-- The most reply bytes that a request of a group open to policy engines can produce. -/
def largestReply (op : Nat) (d : List Byte) : Nat :=
  (([(0x0103, 6), (0x0201, 24 + 64 * leField d 2 1), (0x0202, 24 + 64 * leField d 0 1), (0x0301, 4), (0x0302, 9), (0x0303, 4), (0x0304, 4), (0x0309, 32),
    (0x0311, 9), (0x0405, 1), (0x0406, 2), (0x0407, 36), (0x0503, 5), (0x0504, leField d 3 2), (0x0509, 48), (0x0601, 32),
    (0x0603, 4), (0x0606, 1), (0x0607, 2), (0x0609, 38), (0x060A, 56), (0x0706, 4), (0x0708, 1), (0x0709, 1),
    (0x070A, 88), (0x0809, 1), (0x0810, 1), (0x0811, 84), (0x0908, 256), (0x0909, 64 * leField d 4 1), (0x0A06, 12 * leField d 1 1), (0x0A07, 84),
    (0x0B07, 56), (0x0C01, 24 + 32 * leField d 8 2), (0x0C02, 24 + 64 * leField d 8 1), (0x0C03, 96), (0x0C04, 8), (0x0D01, 16), (0x0D06, 400)].find? fun x => x.1 == op).map (·.2)).getD 0

/-- The next entry of the ring at checks 7 to 13 as R438 changes them: refused with a status and ADDR, or accepted. -/
def judgeEntry (p k : Nat) (b : Block) : Block :=
  let src := Src.engine p k
  let reject (st : Status) (addr : Nat) : Block := rejectRing p k st.code addr (passRing p k b)
  match b.ringEntry p k with
  | none => reject .fault ((b.pe p).ring.rbase + 16 * (k % max 1 (b.pe p).ring.rsize))
  | some e =>
    if (requestOf src e.opcode []).isNone then reject .badOpcode 0
    else if 1100 < e.length then reject .badParam 0
    else match b.vread p e.req e.length with
      | none => reject .fault e.req
      | some d => match requestOf src e.opcode d with
        | none => reject .badOpcode 0
        | some r =>
          if d.length ≠ r.length then reject .badParam 0
          else match checkRule src (r.rule b) b with
            | some st => reject st 0
            | none =>
              if e.rcap < largestReply e.opcode d then reject .badParam 0
              else if !b.vwritable p e.rply (largestReply e.opcode d) then reject .fault e.rply
              else takeRequest src (r.rule b) d b

/-- SERVICE_ENTRY: Lead takes the next entry, unless the ring stalls on a full completion queue, 8 commands run, or entries wait for a hold or pause to pass. -/
def doServiceEntry (p : Nat) (b : Block) : Block :=
  let r := (b.pe p).ring
  if b.sys.mstate = .off ∨ r.en = false ∨ r.stopping = true ∨ r.rput = r.rget ∨ b.paused = true ∨ 8 ≤ r.running.length then b
  else if r.cq.waiting ≠ [] ∨ r.cq.size ≤ r.cq.count then onCq (.ring p) (fun q => { q with full := true }) b
  else judgeEntry p r.rget b

def execServiceEntry (engine : Fin 2) (s : State) := effect (doServiceEntry engine) s

/-! ### The ends of holds (R342, R455, R456, R499) -/

/-- Put a request among others in the order of acceptance, before those of the same count. -/
def putInOrder (x : Nat × Src × Nat × List Byte) : List (Nat × Src × Nat × List Byte) → List (Nat × Src × Nat × List Byte)
  | [] => [x]
  | y :: l => if x.1 ≤ y.1 then x :: y :: l else y :: putInOrder x l

/-- Accepted requests whose effects wait: count of acceptance, source, opcode, data. -/
def Block.waitingRequests (b : Block) : List (Nat × Src × Nat × List Byte) :=
  let ix := b.ix.sessions.zipIdx.flatMap fun x => (x.1.cache.reverse.filter fun e => e.running && !e.started).map fun e => (e.accepted, Src.session x.2 e.seq, e.opcode, e.params)
  let rg := b.pol.engines.zipIdx.flatMap fun x => (x.1.ring.running.filter fun c => !c.started).map fun c => (c.accepted, Src.engine x.2 c.index, c.opcode, c.params)
  (ix ++ rg).foldr putInOrder []

/-- The effects of accepted requests are applied in acceptance order, each read in the state that the ones before it leave (R340, R455). -/
def startWaiting (b : Block) : Block :=
  if b.paused then b
  else b.waitingRequests.foldl (fun b x => match requestOf x.2.1 x.2.2.1 x.2.2.2 with
    | some r => if r.length = x.2.2.2.length ∧ b.paused = false then (r.rule b).act (journalStart x.2.1 x.2.2.1 (beginRequest x.2.1 b)) else b
    | none => b) b

/-- Datagrams held during an activation pause are accepted in arrival order after it (R342). -/
def releaseHeld (b : Block) : Block :=
  if b.paused then b
  else b.ix.held.foldl (fun b x => takeDatagram x.1 x.2.1 x.2.2 b) (b.onIx fun x => { x with held := [] })

/-- What follows the end of a hold. -/
def resumeService (b : Block) : Block := releaseHeld (startWaiting (afterHold b))

/-- When the hold in force ends: 41 ms into an activation pause, 2 ms of a handback, 4 ms of a takeover (R454, R457, R499; log entry 34). -/
def Block.holdEnd (b : Block) (from_ : Nat) : Nat := match b.upd.pauseAt with
  | some q => q + 4100000
  | none => from_ + (if b.pwr.hcause = 3 then 200000 else 400000)

/-- HINGE_HOLD_END: control passes, or an activation completes; a hold that no engine can end goes on (R454, R455, R457, R499). -/
def doHingeHoldEnd (b : Block) : Block :=
  match b.pwr.hold with
  | none => b
  | some t =>
    let b1 := b.at (b.holdEnd t)
    if b.pwr.hcause = 2 then resumeService (closeHold (finishActivation b1))
    else match passControl b1 with
      | none => b
      | some b2 => resumeService (finishActivation b2)

def execHingeHoldEnd (s : State) := effect doHingeHoldEnd s

/-- HINGE_HOLD_LIMIT: 200 ms without an end; Lead, restarted, takes control and raises SUPERVISOR_LOST (R456). -/
def doHingeHoldLimit (b : Block) : Block :=
  match b.pwr.hold with
  | none => b
  | some t =>
    let b1 := b.at (t + 200 * msT)
    let b2 := if b1.upd.pauseAt.isSome then abandonActivation 0 b1 else b1
    let b3 := closeHold (b2.onPwr fun p => { p with hlimit := true, resCtl := false, leadOk := true, cleanAt := none })
    resumeService (raise .supervisorLost noArg [] (setSvc 1 false (setSvc 0 true b3)))

def execHingeHoldLimit (s : State) := effect doHingeHoldLimit s

end Sys2Proof.Machine
end

