-- ==== Sys2Proof/Machine/Snapshots.lean ====
section
/-! DEFINITION. The reception of a snapshot: what each user of the samples takes from it (R58, R59, R153, R169, R172, R186, R231, R250, R297, R301). -/

namespace Sys2Proof.Machine

/-- A reference check has ended in every fitted segment (R70). -/
def Block.allRefChecked (b : Block) : Bool := (List.range b.nSeg).all fun n => (b.seg n).refAt.isSome

/-- The learned values are initialised at the first result of W1 after the first reference check (R172). -/
def initAtW1 (w1Ended : Bool) (b : Block) : Block := if w1Ended && !b.flt.learned && b.allRefChecked then learnedInit b else b

/-- The users of a stored snapshot: filters or the HIBERNATE counts, spectral engines, control loop, SA and SB, a running precharge, PRECHECK (R58). -/
def distribute (count : Nat) (b : Block) : Block :=
  let b1 := if b.sys.mstate = .hibernate then hibernateTake b else fltTake b
  tryPrecheck (prechargeTake (blockTake (loopTake count (impTake count b1))))

/-- SNAPSHOT_FRAME: a frame in flight arrives; with a valid CRC it is stored and its values go to their users, else it is recorded as missing (R58, R59). -/
def doSnapshotFrame (f : Snapshot) (b : Block) : Block :=
  if b.leash.inFlight.isNone ∨ b.sys.mstate = .off then b
  else if !f.crcOk then missSnapshot b
  else
    let p1 := b.sense.win1.phase f.count b.sense.held
    distribute f.count (initAtW1 (p1.run && p1.last) (storeSnapshot f b))

def execSnapshotFrame (frame : Snapshot) (s : State) := effect (doSnapshotFrame frame) s

end Sys2Proof.Machine
end

