-- ==== Sys2Proof/Machine/Dispatch.lean ====
section
/-! DEFINITION. One arm per command of the table, each a direct call of its meaning. -/

namespace Sys2Proof.Machine

open Sys2Proof
open Host

/-- What a command does to everything but the queue. -/
def exec (i : Instr) (s : State) : Host.Outcome State Fault Refusal :=
  match i with
  | .powerStart => Sys2Proof.Machine.execPowerStart s
  | .leadRelease => Sys2Proof.Machine.execLeadRelease s
  | .engineLoadDone => Sys2Proof.Machine.execEngineLoadDone s
  | .aperture count => Sys2Proof.Machine.execAperture count s
  | .shutterClose count => Sys2Proof.Machine.execShutterClose count s
  | .shutterOpen count => Sys2Proof.Machine.execShutterOpen count s
  | .conversionComplete seg => Sys2Proof.Machine.execConversionComplete seg s
  | .segmentFrame seg rung => Sys2Proof.Machine.execSegmentFrame seg rung s
  | .snapshotFrameStart => Sys2Proof.Machine.execSnapshotFrameStart s
  | .snapshotFrame frame => Sys2Proof.Machine.execSnapshotFrame frame s
  | .syncSetDownstream => Sys2Proof.Machine.execSyncSetDownstream s
  | .syncSetUpstream => Sys2Proof.Machine.execSyncSetUpstream s
  | .syncSetReceived atHub lane echo count roundTrip => Sys2Proof.Machine.execSyncSetReceived atHub lane echo count roundTrip s
  | .tripRepeat down => Sys2Proof.Machine.execTripRepeat down s
  | .leashTrip down source => Sys2Proof.Machine.execLeashTrip down source s
  | .laneViolationLimit lane => Sys2Proof.Machine.execLaneViolationLimit lane s
  | .laneSyncTimeout lane => Sys2Proof.Machine.execLaneSyncTimeout lane s
  | .ldownSet lane crcOk => Sys2Proof.Machine.execLdownSet lane crcOk s
  | .frameAbort => Sys2Proof.Machine.execFrameAbort s
  | .laneTrained lane => Sys2Proof.Machine.execLaneTrained lane s
  | .laneHoldExpiry lane => Sys2Proof.Machine.execLaneHoldExpiry lane s
  | .leashFrameTimeout tag => Sys2Proof.Machine.execLeashFrameTimeout tag s
  | .hubCommandFrame tag => Sys2Proof.Machine.execHubCommandFrame tag s
  | .replyFrame tag => Sys2Proof.Machine.execReplyFrame tag s
  | .eventFrame payload => Sys2Proof.Machine.execEventFrame payload s
  | .scheduleFrame rate start modes owt => Sys2Proof.Machine.execScheduleFrame rate start modes owt s
  | .targetsFrame => Sys2Proof.Machine.execTargetsFrame s
  | .ringDelayMeasure down up => Sys2Proof.Machine.execRingDelayMeasure down up s
  | .rungDown rung lostFrame => Sys2Proof.Machine.execRungDown rung lostFrame s
  | .rungUp rung => Sys2Proof.Machine.execRungUp rung s
  | .segmentIsolated seg => Sys2Proof.Machine.execSegmentIsolated seg s
  | .leashSilent => Sys2Proof.Machine.execLeashSilent s
  | .broddaTimeout => Sys2Proof.Machine.execBroddaTimeout s
  | .leashLost => Sys2Proof.Machine.execLeashLost s
  | .leashLossSsi => Sys2Proof.Machine.execLeashLossSsi s
  | .partFault part => Sys2Proof.Machine.execPartFault part s
  | .engineRestartDone engine => Sys2Proof.Machine.execEngineRestartDone engine s
  | .rateChangeEffect => Sys2Proof.Machine.execRateChangeEffect s
  | .refCheckDue => Sys2Proof.Machine.execRefCheckDue s
  | .refCheckDone seg dev worst corr => Sys2Proof.Machine.execRefCheckDone seg dev worst corr s
  | .senseChannelFault cell => Sys2Proof.Machine.execSenseChannelFault cell s
  | .currentBothLost => Sys2Proof.Machine.execCurrentBothLost s
  | .wireLearn cell => Sys2Proof.Machine.execWireLearn cell s
  | .comparatorCrossing cell ov pair => Sys2Proof.Machine.execComparatorCrossing cell ov pair s
  | .comparatorDeglitched cell ov pair => Sys2Proof.Machine.execComparatorDeglitched cell ov pair s
  | .rungTrip seg atHub lost => Sys2Proof.Machine.execRungTrip seg atHub lost s
  | .externalBark earlier => Sys2Proof.Machine.execExternalBark earlier s
  | .owtCycleStart => Sys2Proof.Machine.execOwtCycleStart s
  | .owtSlotBegin seg wire => Sys2Proof.Machine.execOwtSlotBegin seg wire s
  | .owtTestCurrentOn seg => Sys2Proof.Machine.execOwtTestCurrentOn seg s
  | .owtTestCurrentOff seg => Sys2Proof.Machine.execOwtTestCurrentOff seg s
  | .owtClassify seg rd => Sys2Proof.Machine.execOwtClassify seg rd s
  | .owtRestoreOn seg => Sys2Proof.Machine.execOwtRestoreOn seg s
  | .owtRestoreOff seg => Sys2Proof.Machine.execOwtRestoreOff seg s
  | .owtBlankEnd seg => Sys2Proof.Machine.execOwtBlankEnd seg s
  | .placementDecision => Sys2Proof.Machine.execPlacementDecision s
  | .dieTemperatureChange seg temp => Sys2Proof.Machine.execDieTemperatureChange seg temp s
  | .shuttleFault seg shuttle => Sys2Proof.Machine.execShuttleFault seg shuttle s
  | .bridgeFault bridge => Sys2Proof.Machine.execBridgeFault bridge s
  | .bleedStuck cell drain => Sys2Proof.Machine.execBleedStuck cell drain s
  | .balManualExpiry seg => Sys2Proof.Machine.execBalManualExpiry seg s
  | .balDisableDone => Sys2Proof.Machine.execBalDisableDone s
  | .filterStep => Sys2Proof.Machine.execFilterStep s
  | .restObservation cell => Sys2Proof.Machine.execRestObservation cell s
  | .fullChargeEvent cell => Sys2Proof.Machine.execFullChargeEvent cell s
  | .filterValidLost cell => Sys2Proof.Machine.execFilterValidLost cell s
  | .fltInnov cell => Sys2Proof.Machine.execFltInnov cell s
  | .tempSourceTimeout cell => Sys2Proof.Machine.execTempSourceTimeout cell s
  | .saveInterval => Sys2Proof.Machine.execSaveInterval s
  | .chargeEndDetected => Sys2Proof.Machine.execChargeEndDetected s
  | .saveDone ok => Sys2Proof.Machine.execSaveDone ok s
  | .wakeCurrent => Sys2Proof.Machine.execWakeCurrent s
  | .impJobBegin => Sys2Proof.Machine.execImpJobBegin s
  | .excitationChip => Sys2Proof.Machine.execExcitationChip s
  | .impedancePeriodEnd => Sys2Proof.Machine.execImpedancePeriodEnd s
  | .impedanceBandEnd => Sys2Proof.Machine.execImpedanceBandEnd s
  | .bandResultsWritten => Sys2Proof.Machine.execBandResultsWritten s
  | .identHandover => Sys2Proof.Machine.execIdentHandover s
  | .retuneLatch phase => Sys2Proof.Machine.execRetuneLatch phase s
  | .impPeriodicDue => Sys2Proof.Machine.execImpPeriodicDue s
  | .impDisableDone => Sys2Proof.Machine.execImpDisableDone s
  | .rollcall phase => Sys2Proof.Machine.execRollcall phase s
  | .downlinkFrame phase => Sys2Proof.Machine.execDownlinkFrame phase s
  | .uplinkFrame phase frame => Sys2Proof.Machine.execUplinkFrame phase frame s
  | .ident phase seq gdu => Sys2Proof.Machine.execIdent phase seq gdu s
  | .configAck phase thr result => Sys2Proof.Machine.execConfigAck phase thr result s
  | .phaseReady phase => Sys2Proof.Machine.execPhaseReady phase s
  | .uplinkTimeout phase => Sys2Proof.Machine.execUplinkTimeout phase s
  | .rdyLoss phase => Sys2Proof.Machine.execRdyLoss phase s
  | .ocInput phase lit => Sys2Proof.Machine.execOcInput phase lit s
  | .phaseHiccupEnd phase => Sys2Proof.Machine.execPhaseHiccupEnd phase s
  | .joinComplete phase => Sys2Proof.Machine.execJoinComplete phase s
  | .referencePeriodStart => Sys2Proof.Machine.execReferencePeriodStart s
  | .phasePeriodStart phase => Sys2Proof.Machine.execPhasePeriodStart phase s
  | .compensatorStep phase => Sys2Proof.Machine.execCompensatorStep phase s
  | .syncInEdge count => Sys2Proof.Machine.execSyncInEdge count s
  | .carrierLocked => Sys2Proof.Machine.execCarrierLocked s
  | .carrierLockLost => Sys2Proof.Machine.execCarrierLockLost s
  | .cnvIsumXchk => Sys2Proof.Machine.execCnvIsumXchk s
  | .precheckTimeout => Sys2Proof.Machine.execPrecheckTimeout s
  | .settleComplete => Sys2Proof.Machine.execSettleComplete s
  | .ssHiccupEnd => Sys2Proof.Machine.execSsHiccupEnd s
  | .softstartTimeout => Sys2Proof.Machine.execSoftstartTimeout s
  | .softstopEnd => Sys2Proof.Machine.execSoftstopEnd s
  | .loopCycle ain => Sys2Proof.Machine.execLoopCycle ain s
  | .ainOpenTest before after => Sys2Proof.Machine.execAinOpenTest before after s
  | .pulsePeriod period high => Sys2Proof.Machine.execPulsePeriod period high s
  | .pulseTimeout => Sys2Proof.Machine.execPulseTimeout s
  | .setpointTimeout => Sys2Proof.Machine.execSetpointTimeout s
  | .schedHoldExpiry => Sys2Proof.Machine.execSchedHoldExpiry s
  | .sourceReturn source => Sys2Proof.Machine.execSourceReturn source s
  | .thermalCycle tach0 tach1 => Sys2Proof.Machine.execThermalCycle tach0 tach1 s
  | .thmTempLost => Sys2Proof.Machine.execThmTempLost s
  | .overrideExpiry output => Sys2Proof.Machine.execOverrideExpiry output s
  | .fpStall output => Sys2Proof.Machine.execFpStall output s
  | .louvreCycle louvre fb iMot => Sys2Proof.Machine.execLouvreCycle louvre fb iMot s
  | .lvStall louvre => Sys2Proof.Machine.execLvStall louvre s
  | .lvRetry louvre => Sys2Proof.Machine.execLvRetry louvre s
  | .lvOvercurrent louvre => Sys2Proof.Machine.execLvOvercurrent louvre s
  | .lvFbLost louvre => Sys2Proof.Machine.execLvFbLost louvre s
  | .lvFbRestored louvre => Sys2Proof.Machine.execLvFbRestored louvre s
  | .lvLearnStep louvre => Sys2Proof.Machine.execLvLearnStep louvre s
  | .lvLearnFail louvre => Sys2Proof.Machine.execLvLearnFail louvre s
  | .latPowerUp => Sys2Proof.Machine.execLatPowerUp s
  | .selftestDone pass => Sys2Proof.Machine.execSelftestDone pass s
  | .latchSelfcheck pass => Sys2Proof.Machine.execLatchSelfcheck pass s
  | .leadReadyRequest => Sys2Proof.Machine.execLeadReadyRequest s
  | .latSupplyFall => Sys2Proof.Machine.execLatSupplyFall s
  | .tpFrame => Sys2Proof.Machine.execTpFrame s
  | .tpPulse tp => Sys2Proof.Machine.execTpPulse tp s
  | .siMaskEnd input chan => Sys2Proof.Machine.execSiMaskEnd input chan s
  | .pulseCheck input chan low => Sys2Proof.Machine.execPulseCheck input chan low s
  | .siChannelChange input chan high count => Sys2Proof.Machine.execSiChannelChange input chan high count s
  | .siDemand input chan => Sys2Proof.Machine.execSiDemand input chan s
  | .siDiscrepancy input => Sys2Proof.Machine.execSiDiscrepancy input s
  | .tpFault tp => Sys2Proof.Machine.execTpFault tp s
  | .tpFaultClear tp => Sys2Proof.Machine.execTpFaultClear tp s
  | .contactorWeld out => Sys2Proof.Machine.execContactorWeld out s
  | .contactorFailToClose out => Sys2Proof.Machine.execContactorFailToClose out s
  | .closeSeqSo3On => Sys2Proof.Machine.execCloseSeqSo3On s
  | .closeSeqPeakCheck => Sys2Proof.Machine.execCloseSeqPeakCheck s
  | .closeSeqSo1On => Sys2Proof.Machine.execCloseSeqSo1On s
  | .closeSeqPrechargeTimeout => Sys2Proof.Machine.execCloseSeqPrechargeTimeout s
  | .closeSeqSo3Off => Sys2Proof.Machine.execCloseSeqSo3Off s
  | .closeSeqDone => Sys2Proof.Machine.execCloseSeqDone s
  | .openSeqSo2Off => Sys2Proof.Machine.execOpenSeqSo2Off s
  | .soTestHigh count => Sys2Proof.Machine.execSoTestHigh count s
  | .soTestLow => Sys2Proof.Machine.execSoTestLow s
  | .soReadbackFall out => Sys2Proof.Machine.execSoReadbackFall out s
  | .soTestFail out => Sys2Proof.Machine.execSoTestFail out s
  | .soMidpointCheck hsClosed lsClosed => Sys2Proof.Machine.execSoMidpointCheck hsClosed lsClosed s
  | .engineCheckBlock seen => Sys2Proof.Machine.execEngineCheckBlock seen s
  | .stringCurrentEscalation => Sys2Proof.Machine.execStringCurrentEscalation s
  | .floorCrcCheck ok => Sys2Proof.Machine.execFloorCrcCheck ok s
  | .latchChallenge answered => Sys2Proof.Machine.execLatchChallenge answered s
  | .lockstepMismatch => Sys2Proof.Machine.execLockstepMismatch s
  | .lockstepRestored => Sys2Proof.Machine.execLockstepRestored s
  | .latchDisagree => Sys2Proof.Machine.execLatchDisagree s
  | .isoAlternation vPos vNeg r => Sys2Proof.Machine.execIsoAlternation vPos vNeg r s
  | .srstFall count => Sys2Proof.Machine.execSrstFall count s
  | .srstStuck => Sys2Proof.Machine.execSrstStuck s
  | .barkReleaseTest => Sys2Proof.Machine.execBarkReleaseTest s
  | .safeTestTimeout compPass => Sys2Proof.Machine.execSafeTestTimeout compPass s
  | .authWindowExpiry session => Sys2Proof.Machine.execAuthWindowExpiry session s
  | .authLockoutEnd => Sys2Proof.Machine.execAuthLockoutEnd s
  | .ixrasDatagram ip port payload => Sys2Proof.Machine.execIxrasDatagram ip port payload s
  | .pendPacket session seq => Sys2Proof.Machine.execPendPacket session seq s
  | .sessionTimeout session => Sys2Proof.Machine.execSessionTimeout session s
  | .sysSessionOpen ip port seq timeout mtu => Sys2Proof.Machine.execSysSessionOpen ip port seq timeout mtu s
  | .sysSessionClose src => Sys2Proof.Machine.execSysSessionClose src s
  | .sysPing src => Sys2Proof.Machine.execSysPing src s
  | .sysTakeOwner src => Sys2Proof.Machine.execSysTakeOwner src s
  | .sysReleaseOwner src target => Sys2Proof.Machine.execSysReleaseOwner src target s
  | .sysSetMtu src mtu => Sys2Proof.Machine.execSysSetMtu src mtu s
  | .sysResend src seq mask => Sys2Proof.Machine.execSysResend src seq mask s
  | .sysRun src => Sys2Proof.Machine.execSysRun src s
  | .sysPark src => Sys2Proof.Machine.execSysPark src s
  | .sysHibernate src => Sys2Proof.Machine.execSysHibernate src s
  | .sysFaultClear src => Sys2Proof.Machine.execSysFaultClear src s
  | .sysWake src => Sys2Proof.Machine.execSysWake src s
  | .imgRead src first count reserved bad => Sys2Proof.Machine.execImgRead src first count reserved bad s
  | .imgReadList src tiles reserved bad => Sys2Proof.Machine.execImgReadList src tiles reserved bad s
  | .senseSetRate src code => Sys2Proof.Machine.execSenseSetRate src code s
  | .senseSetWindow src window mode nReq => Sys2Proof.Machine.execSenseSetWindow src window mode nReq s
  | .senseSetShutter src mask mode => Sys2Proof.Machine.execSenseSetShutter src mask mode s
  | .senseRefCheck src mask => Sys2Proof.Machine.execSenseRefCheck src mask s
  | .senseRelearn src mask => Sys2Proof.Machine.execSenseRelearn src mask s
  | .senseSetThMap src cell therm => Sys2Proof.Machine.execSenseSetThMap src cell therm s
  | .senseSetThCurve src mask curve => Sys2Proof.Machine.execSenseSetThCurve src mask curve s
  | .senseSetShunt src rsh => Sys2Proof.Machine.execSenseSetShunt src rsh s
  | .senseGetConfig src => Sys2Proof.Machine.execSenseGetConfig src s
  | .integSetLeashMode src mode ms => Sys2Proof.Machine.execIntegSetLeashMode src mode ms s
  | .integTestWire src wire => Sys2Proof.Machine.execIntegTestWire src wire s
  | .integClearOpen src wire => Sys2Proof.Machine.execIntegClearOpen src wire s
  | .integSetBarkPullup src on => Sys2Proof.Machine.execIntegSetBarkPullup src on s
  | .balEnable src en => Sys2Proof.Machine.execBalEnable src en s
  | .balSetGoal src goal mode => Sys2Proof.Machine.execBalSetGoal src goal mode s
  | .balSetThresh src start stop brStart brStop => Sys2Proof.Machine.execBalSetThresh src start stop brStart brStop s
  | .balSetLimits src iSet iBr vMargin tFeedMin tMax maxBleed pwrMax => Sys2Proof.Machine.execBalSetLimits src iSet iBr vMargin tFeedMin tMax maxBleed pwrMax s
  | .balManual src cell element current time => Sys2Proof.Machine.execBalManual src cell element current time s
  | .balClearFault src mask => Sys2Proof.Machine.execBalClearFault src mask s
  | .balGetConfig src => Sys2Proof.Machine.execBalGetConfig src s
  | .fltSetConfig src rateRpt anchDz capDzMin capGain sigmaValid tSrc => Sys2Proof.Machine.execFltSetConfig src rateRpt anchDz capDzMin capGain sigmaValid tSrc s
  | .fltSlotWrite src slot offset bytes => Sys2Proof.Machine.execFltSlotWrite src slot offset bytes s
  | .fltSlotCommit src slot => Sys2Proof.Machine.execFltSlotCommit src slot s
  | .fltSlotRead src slot offset length => Sys2Proof.Machine.execFltSlotRead src slot offset length s
  | .fltSetSlot src mask slot => Sys2Proof.Machine.execFltSetSlot src mask slot s
  | .fltSetCap src cell cap => Sys2Proof.Machine.execFltSetCap src cell cap s
  | .fltResetCell src cell => Sys2Proof.Machine.execFltResetCell src cell s
  | .fltSaveNow src => Sys2Proof.Machine.execFltSaveNow src s
  | .fltGetConfig src => Sys2Proof.Machine.execFltGetConfig src s
  | .impSetFreqs src reqs => Sys2Proof.Machine.execImpSetFreqs src reqs s
  | .impSetExcitation src amp nPer nSet => Sys2Proof.Machine.execImpSetExcitation src amp nPer nSet s
  | .impStart src => Sys2Proof.Machine.execImpStart src s
  | .impEnable src en => Sys2Proof.Machine.execImpEnable src en s
  | .impSetSchedule src interval => Sys2Proof.Machine.execImpSetSchedule src interval s
  | .impZtWrite src slot rec => Sys2Proof.Machine.execImpZtWrite src slot rec s
  | .impSetBaseline src mask => Sys2Proof.Machine.execImpSetBaseline src mask s
  | .impSetHealth src hslot growWarn outWarn => Sys2Proof.Machine.execImpSetHealth src hslot growWarn outWarn s
  | .impGetBaseline src cell => Sys2Proof.Machine.execImpGetBaseline src cell s
  | .impGetConfig src => Sys2Proof.Machine.execImpGetConfig src s
  | .cnvSetCarrier src tc lockSrc packIdx packSize syncDly => Sys2Proof.Machine.execCnvSetCarrier src tc lockSrc packIdx packSize syncDly s
  | .cnvSetPhases src mask nMin => Sys2Proof.Machine.execCnvSetPhases src mask nMin s
  | .cnvSetModulation src deadTime dMin dMax trimMax shareGain => Sys2Proof.Machine.execCnvSetModulation src deadTime dMin dMax trimMax shareGain s
  | .cnvSetLimits src chg dis cont fast i2t => Sys2Proof.Machine.execCnvSetLimits src chg dis cont fast i2t s
  | .cnvSetSoftstart src vTarget slewV ilimSs ssTimeout kpv kiv slewStop => Sys2Proof.Machine.execCnvSetSoftstart src vTarget slewV ilimSs ssTimeout kpv kiv slewStop s
  | .cnvSetVtarget src target slew => Sys2Proof.Machine.execCnvSetVtarget src target slew s
  | .cnvSetTuning src en fc => Sys2Proof.Machine.execCnvSetTuning src en fc s
  | .cnvSetCoeffs src mask coef => Sys2Proof.Machine.execCnvSetCoeffs src mask coef s
  | .cnvPhaseCtrl src phase action => Sys2Proof.Machine.execCnvPhaseCtrl src phase action s
  | .cnvGetConfig src => Sys2Proof.Machine.execCnvGetConfig src s
  | .loopSetMode src lmode ffEn => Sys2Proof.Machine.execLoopSetMode src lmode ffEn s
  | .loopSetSource src source fbSrc lossAct => Sys2Proof.Machine.execLoopSetSource src source fbSrc lossAct s
  | .loopSetpoint src value => Sys2Proof.Machine.execLoopSetpoint src value s
  | .loopSetScale src pmax imax vdcMid vdcSpan spRamp manRamp => Sys2Proof.Machine.execLoopSetScale src pmax imax vdcMid vdcSpan spRamp manRamp s
  | .loopSetGains src mode kp ki => Sys2Proof.Machine.execLoopSetGains src mode kp ki s
  | .loopSetTiming src spTimeout spReturn schedHold ainDb => Sys2Proof.Machine.execLoopSetTiming src spTimeout spReturn schedHold ainDb s
  | .loopManual src am iref => Sys2Proof.Machine.execLoopManual src am iref s
  | .loopSchedWrite src first count entries => Sys2Proof.Machine.execLoopSchedWrite src first count entries s
  | .loopSchedCommit src count => Sys2Proof.Machine.execLoopSchedCommit src count s
  | .thmSetConfig src tSel thIdx tSet kpT kiT fsDemand hibDemand => Sys2Proof.Machine.execThmSetConfig src tSel thIdx tSet kpT kiT fsDemand hibDemand s
  | .thmSetMap src output dStart dFull outOff outMin outMax fire => Sys2Proof.Machine.execThmSetMap src output dStart dFull outOff outMin outMax fire s
  | .thmOverride src output set value time => Sys2Proof.Machine.execThmOverride src output set value time s
  | .fpSetConfig src output inv ppr tachMin => Sys2Proof.Machine.execFpSetConfig src output inv ppr tachMin s
  | .lvSetConfig src louvre fbLo fbHi kp ki db umax => Sys2Proof.Machine.execLvSetConfig src louvre fbLo fbHi kp ki db umax s
  | .lvFrictionWrite src louvre table => Sys2Proof.Machine.execLvFrictionWrite src louvre table s
  | .lvLearn src mask => Sys2Proof.Machine.execLvLearn src mask s
  | .loopGetConfig src => Sys2Proof.Machine.execLoopGetConfig src s
  | .safeReset src => Sys2Proof.Machine.execSafeReset src s
  | .safeContactors src act => Sys2Proof.Machine.execSafeContactors src act s
  | .safeSetPrecharge src preI preTmax => Sys2Proof.Machine.execSafeSetPrecharge src preI preTmax s
  | .safeGetNonce src => Sys2Proof.Machine.execSafeGetNonce src s
  | .safeAuth src mac => Sys2Proof.Machine.execSafeAuth src mac s
  | .safeSetPassword src chars => Sys2Proof.Machine.execSafeSetPassword src chars s
  | .safeFloorWrite src record how => Sys2Proof.Machine.execSafeFloorWrite src record how s
  | .safeFloorRead src => Sys2Proof.Machine.execSafeFloorRead src s
  | .safeLogRead src first count => Sys2Proof.Machine.execSafeLogRead src first count s
  | .safeTest src act opt compPass => Sys2Proof.Machine.execSafeTest src act opt compPass s
  | .epochBoundary => Sys2Proof.Machine.execEpochBoundary s
  | .backCopyDone => Sys2Proof.Machine.execBackCopyDone s
  | .deferredSwap => Sys2Proof.Machine.execDeferredSwap s
  | .tileWrite tile ws => Sys2Proof.Machine.execTileWrite tile ws s
  | .tileRefresh tile => Sys2Proof.Machine.execTileRefresh tile s
  | .transomRead tile half => Sys2Proof.Machine.execTransomRead tile half s
  | .tlatchRise => Sys2Proof.Machine.execTlatchRise s
  | .tlatchFall => Sys2Proof.Machine.execTlatchFall s
  | .imgHoldLong => Sys2Proof.Machine.execImgHoldLong s
  | .tileReadInternal engine tile fails => Sys2Proof.Machine.execTileReadInternal engine tile fails s
  | .imgTileStuck tile => Sys2Proof.Machine.execImgTileStuck tile s
  | .sfpPoll cage present supported txFault alarm los => Sys2Proof.Machine.execSfpPoll cage present supported txFault alarm los s
  | .ethFrame cage f count => Sys2Proof.Machine.execEthFrame cage f count s
  | .prpSupervision => Sys2Proof.Machine.execPrpSupervision s
  | .prpEntryExpiry node => Sys2Proof.Machine.execPrpEntryExpiry node s
  | .lanLinkLost cage count => Sys2Proof.Machine.execLanLinkLost cage count s
  | .lanRctTimeout cage => Sys2Proof.Machine.execLanRctTimeout cage s
  | .lanReturn cage count => Sys2Proof.Machine.execLanReturn cage count s
  | .ipChangeEffect => Sys2Proof.Machine.execIpChangeEffect s
  | .ptpMessage port domain ether msg rxNs => Sys2Proof.Machine.execPtpMessage port domain ether msg rxNs s
  | .ptpTxTimer port what count => Sys2Proof.Machine.execPtpTxTimer port what count s
  | .ptpSyncTimeout announce => Sys2Proof.Machine.execPtpSyncTimeout announce s
  | .ptpHoldUnlock => Sys2Proof.Machine.execPtpHoldUnlock s
  | .txTimestamp cage id own ns => Sys2Proof.Machine.execTxTimestamp cage id own ns s
  | .txtsRead cage => Sys2Proof.Machine.execTxtsRead cage s
  | .canFrameRx ctl f ts => Sys2Proof.Machine.execCanFrameRx ctl f ts s
  | .canTxAttemptEnd ctl r count => Sys2Proof.Machine.execCanTxAttemptEnd ctl r count s
  | .canAlone ctl => Sys2Proof.Machine.execCanAlone ctl s
  | .canBusoffRecovery ctl => Sys2Proof.Machine.execCanBusoffRecovery ctl s
  | .hbonlyHeartbeat ctl => Sys2Proof.Machine.execHbonlyHeartbeat ctl s
  | .partnerHeartbeat ctl => Sys2Proof.Machine.execPartnerHeartbeat ctl s
  | .partnerAnnounce ctl => Sys2Proof.Machine.execPartnerAnnounce ctl s
  | .partnerLost entry => Sys2Proof.Machine.execPartnerLost entry s
  | .partnerEntryFree entry => Sys2Proof.Machine.execPartnerEntryFree entry s
  | .canSend ctl buf => Sys2Proof.Machine.execCanSend ctl buf s
  | .canAbort ctl buf => Sys2Proof.Machine.execCanAbort ctl buf s
  | .canRqgetWrite ctl value => Sys2Proof.Machine.execCanRqgetWrite ctl value s
  | .netSetIp src x => Sys2Proof.Machine.execNetSetIp src x s
  | .netSetPtp src x => Sys2Proof.Machine.execNetSetPtp src x s
  | .netSetTime src sec ns utc => Sys2Proof.Machine.execNetSetTime src sec ns utc s
  | .canSetConfig src ctl x => Sys2Proof.Machine.execCanSetConfig src ctl x s
  | .canFilterWrite src ctl first fltLen elems => Sys2Proof.Machine.execCanFilterWrite src ctl first fltLen elems s
  | .netGetPartners src first count => Sys2Proof.Machine.execNetGetPartners src first count s
  | .netGetConfig src => Sys2Proof.Machine.execNetGetConfig src s
  | .policyEngineStart engine => Sys2Proof.Machine.execPolicyEngineStart engine s
  | .policyInstruction engine cycles bad => Sys2Proof.Machine.execPolicyInstruction engine cycles bad s
  | .wfi engine => Sys2Proof.Machine.execWfi engine s
  | .mtimerInterrupt engine => Sys2Proof.Machine.execMtimerInterrupt engine s
  | .interruptWake engine => Sys2Proof.Machine.execInterruptWake engine s
  | .wdogWrite engine => Sys2Proof.Machine.execWdogWrite engine s
  | .polWatchdogExpiry engine => Sys2Proof.Machine.execPolWatchdogExpiry engine s
  | .mtimeLoRead engine => Sys2Proof.Machine.execMtimeLoRead engine s
  | .ptpSLoRead engine => Sys2Proof.Machine.execPtpSLoRead engine s
  | .regionWrite engine region hi value => Sys2Proof.Machine.execRegionWrite engine region hi value s
  | .rtuActiveClear engine => Sys2Proof.Machine.execRtuActiveClear engine s
  | .tileStageStore engine va value => Sys2Proof.Machine.execTileStageStore engine va value s
  | .bopenWrite engine len => Sys2Proof.Machine.execBopenWrite engine len s
  | .batchGrant engine => Sys2Proof.Machine.execBatchGrant engine s
  | .bcloseWrite engine => Sys2Proof.Machine.execBcloseWrite engine s
  | .batchOverrun engine => Sys2Proof.Machine.execBatchOverrun engine s
  | .dmaEnable ch => Sys2Proof.Machine.execDmaEnable ch s
  | .dmaDisable ch => Sys2Proof.Machine.execDmaDisable ch s
  | .dmaDisableDone ch => Sys2Proof.Machine.execDmaDisableDone ch s
  | .dmaRputWrite ch value => Sys2Proof.Machine.execDmaRputWrite ch value s
  | .dmaResume ch => Sys2Proof.Machine.execDmaResume ch s
  | .dmaBurst bad => Sys2Proof.Machine.execDmaBurst bad s
  | .cqgetWrite queue value => Sys2Proof.Machine.execCqgetWrite queue value s
  | .cqModerationTimeout queue => Sys2Proof.Machine.execCqModerationTimeout queue s
  | .irqComplete engine source => Sys2Proof.Machine.execIrqComplete engine source s
  | .swisetWrite mask => Sys2Proof.Machine.execSwisetWrite mask s
  | .tperWrite timer period => Sys2Proof.Machine.execTperWrite timer period s
  | .timerExpiry timer => Sys2Proof.Machine.execTimerExpiry timer s
  | .routeWrite source toP1 => Sys2Proof.Machine.execRouteWrite source toP1 s
  | .rdirClear source => Sys2Proof.Machine.execRdirClear source s
  | .serviceEntry engine => Sys2Proof.Machine.execServiceEntry engine s
  | .framePortSend engine => Sys2Proof.Machine.execFramePortSend engine s
  | .registerWrite engine addr value => Sys2Proof.Machine.execRegisterWrite engine addr value s
  | .feedAbsent feed => Sys2Proof.Machine.execFeedAbsent feed s
  | .feedPresent feed => Sys2Proof.Machine.execFeedPresent feed s
  | .feedLow feed => Sys2Proof.Machine.execFeedLow feed s
  | .sdsStart high ok => Sys2Proof.Machine.execSdsStart high ok s
  | .powerFailWarning => Sys2Proof.Machine.execPowerFailWarning s
  | .powerRestored => Sys2Proof.Machine.execPowerRestored s
  | .powerLost => Sys2Proof.Machine.execPowerLost s
  | .ctlShutdown torn => Sys2Proof.Machine.execCtlShutdown torn s
  | .stackOff => Sys2Proof.Machine.execStackOff s
  | .holdupTest present full => Sys2Proof.Machine.execHoldupTest present full s
  | .kennelCheckpoint ok => Sys2Proof.Machine.execKennelCheckpoint ok s
  | .leadWatchdog => Sys2Proof.Machine.execLeadWatchdog s
  | .leadSelftestFail => Sys2Proof.Machine.execLeadSelftestFail s
  | .leadDoubleFault => Sys2Proof.Machine.execLeadDoubleFault s
  | .hingeHoldEnd => Sys2Proof.Machine.execHingeHoldEnd s
  | .hingeHoldLimit => Sys2Proof.Machine.execHingeHoldLimit s
  | .takeoverMonitorTest ok => Sys2Proof.Machine.execTakeoverMonitorTest ok s
  | .leadHandback => Sys2Proof.Machine.execLeadHandback s
  | .reserveStandbyTest ok => Sys2Proof.Machine.execReserveStandbyTest ok s
  | .debugAccess part op => Sys2Proof.Machine.execDebugAccess part op s
  | .debugOpenExpiry => Sys2Proof.Machine.execDebugOpenExpiry s
  | .debugCloseDone => Sys2Proof.Machine.execDebugCloseDone s
  | .secGetDebug src => Sys2Proof.Machine.execSecGetDebug src s
  | .secDebugChallenge src state => Sys2Proof.Machine.execSecDebugChallenge src state s
  | .secDebugSet src state minutes signer key sig => Sys2Proof.Machine.execSecDebugSet src state minutes signer key sig s
  | .secKeyEnroll src slot key signer sig => Sys2Proof.Machine.execSecKeyEnroll src slot key signer sig s
  | .secKeyRevoke src slot signer sig => Sys2Proof.Machine.execSecKeyRevoke src slot signer sig s
  | .secKeyList src => Sys2Proof.Machine.execSecKeyList src s
  | .updBegin src length bcrc => Sys2Proof.Machine.execUpdBegin src length bcrc s
  | .updEraseDone ok => Sys2Proof.Machine.execUpdEraseDone ok s
  | .updBlock src off data ok => Sys2Proof.Machine.execUpdBlock src off data ok s
  | .updVerify src => Sys2Proof.Machine.execUpdVerify src s
  | .updActivate src => Sys2Proof.Machine.execUpdActivate src s
  | .activationPause => Sys2Proof.Machine.execActivationPause s
  | .updConfirm src => Sys2Proof.Machine.execUpdConfirm src s
  | .updAbort src => Sys2Proof.Machine.execUpdAbort src s
  | .updGetStatus src => Sys2Proof.Machine.execUpdGetStatus src s
  | .updConfirmTimeout => Sys2Proof.Machine.execUpdConfirmTimeout s
  | .settingsWrite ok => Sys2Proof.Machine.execSettingsWrite ok s
  | .keepWrite fails => Sys2Proof.Machine.execKeepWrite fails s
  | .timeWordWrite => Sys2Proof.Machine.execTimeWordWrite s
  | .logReadFast src first count sev reserved => Sys2Proof.Machine.execLogReadFast src first count sev reserved s
  | .logReadKeep src first count sev area reserved => Sys2Proof.Machine.execLogReadKeep src first count sev area reserved s
  | .logGetPointers src => Sys2Proof.Machine.execLogGetPointers src s
  | .logWriteNote src sev text => Sys2Proof.Machine.execLogWriteNote src sev text s
  | .updVerifyDone => Sys2Proof.Machine.execUpdVerifyDone s
  | .configAckTimeout phase => Sys2Proof.Machine.execConfigAckTimeout phase s
  | .wakeRollcallGraceEnd => Sys2Proof.Machine.execWakeRollcallGraceEnd s
  | .canBusoffRecovered ctl => Sys2Proof.Machine.execCanBusoffRecovered ctl s
  | .sfbMirrorChange out closed count => Sys2Proof.Machine.execSfbMirrorChange out closed count s
  | .comparatorRelease cell ov pair => Sys2Proof.Machine.execComparatorRelease cell ov pair s
  | .barkLineReleased => Sys2Proof.Machine.execBarkLineReleased s
  | .srstRise count => Sys2Proof.Machine.execSrstRise count s
  | .hubStringStart => Sys2Proof.Machine.execHubStringStart s

end Sys2Proof.Machine
end

