-- ==== Sys2Proof/Machine/Step.lean ====
section
/-! DEFINITION. One step: the command at the front of the queue acts; with none waiting the time base counts one tick (R36). -/

namespace Sys2Proof.Machine

/-- The time base counts one tick of 10 ns while the module is powered (R36, R19; log entry 62). -/
def tick (b : Block) : Block := if b.sys.mstate = .off then b else b.onSys fun y => { y with now := y.now + 1 }

/-- Take the command at the front of the queue; on an empty queue, time goes on. -/
def step (s : State) : Host.Outcome State Fault Refusal :=
  match s.pending with
  | [] => .next { s with block := tick s.block }
  | i :: rest => exec i { s with pending := rest }

/-- A command that a word spells, put at the front of the queue; no row of the table gives bits, so no word spells one. -/
def State.withFetchWord (s : State) (nbits w : Nat) : State :=
  match Sys2Proof.decodeTableWord nbits w with
  | some i => { s with pending := i :: s.pending }
  | none => s

end Sys2Proof.Machine
end

