-- ==== Sys2Proof/Safety.lean ====
section
/-! DEFINITION. The terms in which claims speak of the module: the interlock of the safety path, blocks in which the hardware does nothing of itself after a
command, requests that pass the checks of R329, what a command changes, and how a command ends. -/

namespace Sys2Proof.Machine

/-! ### The safety path (R19, R231, R236, R286) -/

/-- The Latch muzzle stands in every state but ARMED; while it stands the converter is MUZZLED or LATCHED; a module whose Latch has acted is in SAFE, but for a
Hinge hold and for Off (R19, R231, R236, R286, R461). -/
def Block.safePath (b : Block) : Bool :=
  (decide (b.latch.state = .armed) || b.latch.muzzle) && (!b.latch.muzzle || decide (b.cnv.st = .muzzled) || decide (b.cnv.st = .latched))
    && (!b.latch.state.acting || b.hinge || decide (b.sys.mstate = .safe) || decide (b.sys.mstate = .off))

/-- The interlock of the safety path holds, no entry to Full-Open waits, and Full-Open stands only with SA and SB answering: after a command the hardware changes
nothing of itself but the interrupt sources (R477, R478). -/
def Block.settled (b : Block) : Bool := b.safePath && b.sec.fullDue.isNone && (decide (b.sec.dstate ≠ 2) || b.latch.saOk)

/-! ### Requests (R329, R438) -/

/-- The cache of the requester's session does not hold the request (R329 check 6); a ring entry has no cache. -/
def Block.unseen (b : Block) : Src → Bool
  | .session i seq => (b.entry? i seq).isNone
  | .engine _ _ => true

/-- A request of opcode `op` passes checks 1 to 11 of R329 and acts at once: its source is open, it is new, there is room for it, no hold or pause is in force, it is
granted, and where it needs ownership the requester has it and no other request of the opcode runs. -/
def Block.admits (b : Block) (src : Src) (op : Nat) (owner : Bool) : Bool :=
  b.srcOpen src && !b.paused && !b.acceptedEarlier src op && b.unseen src && !b.sessionFull src && b.srcGranted src op
    && (!owner || (b.owns src && !b.runningOpcodes.contains op))

/-- The request has completed with a status and reply data: its cache entry holds them (R335); a ring holds the entry no more among those that run (R438). -/
def Block.answered (b : Block) (src : Src) (st : Status) (data : List Byte) : Prop :=
  match src with
  | .session i seq => ∃ e, b.entry? i seq = some e ∧ e.running = false ∧ e.status = st.code ∧ e.data = data
  | .engine p k => ∀ c ∈ (b.pe p).ring.running, c.index ≠ k

/-- The request has been refused at a check of R329: a reply of the status, without data (R328, R329); for a ring, no entry has come to run (R438). -/
def Block.refused (o b : Block) (src : Src) (st : Status) : Prop :=
  match src with
  | .session i seq => ∃ r, b.ix.tx = o.ix.tx ++ [r] ∧ r.session = i ∧ r.seq = seq ∧ r.status = st.code ∧ r.data = []
  | .engine p _ => (b.pe p).ring.running = (o.pe p).ring.running

/-! ### Frames -/

/-- The parts of the block, and pieces of them that a frame names on their own: the keep store and its time words, the tile banks, the owner of control, the supplies
without the command journal, the policy engines, the DMA channels, and what else of the policy environment is no pending bit. -/
inductive PartName where
  | sys
  | log
  | ix
  | img
  | leash
  | ring
  | sense
  | bark
  | bal
  | flt
  | latch
  | cnv
  | imp
  | loop
  | thm
  | net
  | pwr
  | sec
  | upd
  | pol
  | keep
  | bank
  | owner
  | supply
  | engines
  | chans
  | routes
  deriving DecidableEq, Repr

/-- The keep store and its time words. -/
def Block.keepPart (b : Block) : List KeepRec × List KeepRec × TimeWord × TimeWord := (b.log.keepGen, b.log.keepRes, b.log.word0, b.log.word1)
/-- The image with its banks, but for the set of tiles to be written. -/
def Block.bankPart (b : Block) : ImgPart := { b.img with dirty := [] }
/-- The owner of control, and the datagrams held for the end of a takeover. -/
def Block.ownPart (b : Block) : Option Nat × List (Nat × Nat × List Byte) := (b.ix.owner, b.ix.held)
/-- The supplies and the standby, but for the command journal. -/
def Block.supplyPart (b : Block) : PwrPart := { b.pwr with journal := [] }
/-- Enables, routes and timers of the interrupt controller, and the channel served last. -/
def Block.routePart (b : Block) : Nat × Nat × List PolTimer × Nat := (b.pol.en, b.pol.route, b.pol.timers, b.pol.lastChan)

/-- A part is as it was. -/
def Block.same (o b : Block) : PartName → Prop
  | .sys => b.sys = o.sys
  | .log => b.log = o.log
  | .ix => b.ix = o.ix
  | .img => b.img = o.img
  | .leash => b.leash = o.leash
  | .ring => b.ring = o.ring
  | .sense => b.sense = o.sense
  | .bark => b.bark = o.bark
  | .bal => b.bal = o.bal
  | .flt => b.flt = o.flt
  | .latch => b.latch = o.latch
  | .cnv => b.cnv = o.cnv
  | .imp => b.imp = o.imp
  | .loop => b.loop = o.loop
  | .thm => b.thm = o.thm
  | .net => b.net = o.net
  | .pwr => b.pwr = o.pwr
  | .sec => b.sec = o.sec
  | .upd => b.upd = o.upd
  | .pol => b.pol = o.pol
  | .keep => b.keepPart = o.keepPart
  | .bank => b.bankPart = o.bankPart
  | .owner => b.ownPart = o.ownPart
  | .supply => b.supplyPart = o.supplyPart
  | .engines => b.pol.engines = o.pol.engines
  | .chans => b.pol.chans = o.pol.chans
  | .routes => b.routePart = o.routePart

/-- Nothing but the named parts has changed. -/
def Block.changesOnly (o b : Block) (l : List PartName) : Prop := ∀ p, p ∉ l → o.same b p

/-- What the service of any command may change beside its own effect: the recorder (R517), the tiles to be written (R356), the interrupt sources (R431). -/
def noticed : List PartName := [.log, .img, .pol]

/-- And of a host command: sessions, the command journal, the rings (R335, R438, R452). -/
def served : List PartName := [.ix, .pwr, .log, .img, .pol]

/-- The same of the command's requester: an engine's command stands in the engine's ring, so its service changes the engine's part too (R438). -/
def servedBy : Src → List PartName
  | .session _ _ => served
  | .engine _ _ => .engines :: served

/-- What a change of module state may touch beside the command's own effect (R19, R136, R173, R183, R231): the converter, impedance jobs, balancing, filters, rates,
the safe fallback's count, a park that waits. -/
def controlled : List PartName := [.engines, .sys, .ix, .sense, .bal, .flt, .cnv, .imp, .loop, .pwr, .supply, .log, .img, .pol]

/-- And what a function of the Latch may touch: its outputs, the leash's trip, the bark line (R283). -/
def actedOn : List PartName := [.latch, .leash, .bark] ++ controlled

/-- An event that stops the converter has happened: it is among the causes of FAULT, and a module that was in BOOT, PARK, RUN or HIBERNATE, without a Hinge hold, is in
FAULT (R19, R21). -/
def Block.raised (o b : Block) (e : Event) (arg0 : Nat) : Prop :=
  (e, arg0) ∈ b.sys.faultCauses ∧ (o.hinge = false → o.sys.mstate ∈ [MState.boot, .park, .run, .hibernate] → b.sys.mstate = .fault)

/-! ### Ends -/

/-- The command ends in a next state whose queue is unchanged and whose block has the property. -/
def Ends (i : Instr) (s : State) (P : Block → Prop) : Prop := ∃ t : State, exec i s = .next t ∧ t.pending = s.pending ∧ P t.block

/-! ### Host commands -/

/-- Every RAM, frame buffer and the flash are in canonical form (R413, R439, R485). -/
def Block.memoriesWf (b : Block) : Bool := b.upd.flash.flashWf && b.pol.engines.all fun e => e.ram.ramWf && e.port.fbuf.ramWf

/-- The requester and the rule of a host command; an event of the hardware has none (R329, R330). -/
def hostRule? : Instr → Option (Src × (Block → HostRule))
  | .powerStart => none
  | .leadRelease => none
  | .engineLoadDone => none
  | .aperture _ => none
  | .shutterClose _ => none
  | .shutterOpen _ => none
  | .conversionComplete _ => none
  | .segmentFrame _ _ => none
  | .snapshotFrameStart => none
  | .snapshotFrame _ => none
  | .syncSetDownstream => none
  | .syncSetUpstream => none
  | .syncSetReceived _ _ _ _ _ => none
  | .tripRepeat _ => none
  | .leashTrip _ _ => none
  | .laneViolationLimit _ => none
  | .laneSyncTimeout _ => none
  | .ldownSet _ _ => none
  | .frameAbort => none
  | .laneTrained _ => none
  | .laneHoldExpiry _ => none
  | .leashFrameTimeout _ => none
  | .hubCommandFrame _ => none
  | .replyFrame _ => none
  | .eventFrame _ => none
  | .scheduleFrame _ _ _ _ => none
  | .targetsFrame => none
  | .ringDelayMeasure _ _ => none
  | .rungDown _ _ => none
  | .rungUp _ => none
  | .segmentIsolated _ => none
  | .leashSilent => none
  | .broddaTimeout => none
  | .leashLost => none
  | .leashLossSsi => none
  | .partFault _ => none
  | .engineRestartDone _ => none
  | .rateChangeEffect => none
  | .refCheckDue => none
  | .refCheckDone _ _ _ _ => none
  | .senseChannelFault _ => none
  | .currentBothLost => none
  | .wireLearn _ => none
  | .comparatorCrossing _ _ _ => none
  | .comparatorDeglitched _ _ _ => none
  | .rungTrip _ _ _ => none
  | .externalBark _ => none
  | .owtCycleStart => none
  | .owtSlotBegin _ _ => none
  | .owtTestCurrentOn _ => none
  | .owtTestCurrentOff _ => none
  | .owtClassify _ _ => none
  | .owtRestoreOn _ => none
  | .owtRestoreOff _ => none
  | .owtBlankEnd _ => none
  | .placementDecision => none
  | .dieTemperatureChange _ _ => none
  | .shuttleFault _ _ => none
  | .bridgeFault _ => none
  | .bleedStuck _ _ => none
  | .balManualExpiry _ => none
  | .balDisableDone => none
  | .filterStep => none
  | .restObservation _ => none
  | .fullChargeEvent _ => none
  | .filterValidLost _ => none
  | .fltInnov _ => none
  | .tempSourceTimeout _ => none
  | .saveInterval => none
  | .chargeEndDetected => none
  | .saveDone _ => none
  | .wakeCurrent => none
  | .impJobBegin => none
  | .excitationChip => none
  | .impedancePeriodEnd => none
  | .impedanceBandEnd => none
  | .bandResultsWritten => none
  | .identHandover => none
  | .retuneLatch _ => none
  | .impPeriodicDue => none
  | .impDisableDone => none
  | .rollcall _ => none
  | .downlinkFrame _ => none
  | .uplinkFrame _ _ => none
  | .ident _ _ _ => none
  | .configAck _ _ _ => none
  | .phaseReady _ => none
  | .uplinkTimeout _ => none
  | .rdyLoss _ => none
  | .ocInput _ _ => none
  | .phaseHiccupEnd _ => none
  | .joinComplete _ => none
  | .referencePeriodStart => none
  | .phasePeriodStart _ => none
  | .compensatorStep _ => none
  | .syncInEdge _ => none
  | .carrierLocked => none
  | .carrierLockLost => none
  | .cnvIsumXchk => none
  | .precheckTimeout => none
  | .settleComplete => none
  | .ssHiccupEnd => none
  | .softstartTimeout => none
  | .softstopEnd => none
  | .loopCycle _ => none
  | .ainOpenTest _ _ => none
  | .pulsePeriod _ _ => none
  | .pulseTimeout => none
  | .setpointTimeout => none
  | .schedHoldExpiry => none
  | .sourceReturn _ => none
  | .thermalCycle _ _ => none
  | .thmTempLost => none
  | .overrideExpiry _ => none
  | .fpStall _ => none
  | .louvreCycle _ _ _ => none
  | .lvStall _ => none
  | .lvRetry _ => none
  | .lvOvercurrent _ => none
  | .lvFbLost _ => none
  | .lvFbRestored _ => none
  | .lvLearnStep _ => none
  | .lvLearnFail _ => none
  | .latPowerUp => none
  | .selftestDone _ => none
  | .latchSelfcheck _ => none
  | .leadReadyRequest => none
  | .latSupplyFall => none
  | .tpFrame => none
  | .tpPulse _ => none
  | .siMaskEnd _ _ => none
  | .pulseCheck _ _ _ => none
  | .siChannelChange _ _ _ _ => none
  | .siDemand _ _ => none
  | .siDiscrepancy _ => none
  | .tpFault _ => none
  | .tpFaultClear _ => none
  | .contactorWeld _ => none
  | .contactorFailToClose _ => none
  | .closeSeqSo3On => none
  | .closeSeqPeakCheck => none
  | .closeSeqSo1On => none
  | .closeSeqPrechargeTimeout => none
  | .closeSeqSo3Off => none
  | .closeSeqDone => none
  | .openSeqSo2Off => none
  | .soTestHigh _ => none
  | .soTestLow => none
  | .soReadbackFall _ => none
  | .soTestFail _ => none
  | .soMidpointCheck _ _ => none
  | .engineCheckBlock _ => none
  | .stringCurrentEscalation => none
  | .floorCrcCheck _ => none
  | .latchChallenge _ => none
  | .lockstepMismatch => none
  | .lockstepRestored => none
  | .latchDisagree => none
  | .isoAlternation _ _ _ => none
  | .srstFall _ => none
  | .srstStuck => none
  | .barkReleaseTest => none
  | .safeTestTimeout _ => none
  | .authWindowExpiry _ => none
  | .authLockoutEnd => none
  | .ixrasDatagram _ _ _ => none
  | .pendPacket _ _ => none
  | .sessionTimeout _ => none
  | .sysSessionOpen _ _ _ _ _ => none
  | .sysSessionClose src => some (src, ruleSysSessionClose src)
  | .sysPing src => some (src, ruleSysPing src)
  | .sysTakeOwner src => some (src, ruleSysTakeOwner src)
  | .sysReleaseOwner src target => some (src, ruleSysReleaseOwner src target)
  | .sysSetMtu src mtu => some (src, ruleSysSetMtu src mtu)
  | .sysResend src seq mask => some (src, ruleSysResend src seq mask)
  | .sysRun src => some (src, ruleSysRun src)
  | .sysPark src => some (src, ruleSysPark src)
  | .sysHibernate src => some (src, ruleSysHibernate src)
  | .sysFaultClear src => some (src, ruleSysFaultClear src)
  | .sysWake src => some (src, ruleSysWake src)
  | .imgRead src first count reserved bad => some (src, ruleImgRead src first count reserved bad)
  | .imgReadList src tiles reserved bad => some (src, ruleImgReadList src tiles reserved bad)
  | .senseSetRate src code => some (src, ruleSenseSetRate src code)
  | .senseSetWindow src window mode nReq => some (src, ruleSenseSetWindow src window mode nReq)
  | .senseSetShutter src mask mode => some (src, ruleSenseSetShutter src mask mode)
  | .senseRefCheck src mask => some (src, ruleSenseRefCheck src mask)
  | .senseRelearn src mask => some (src, ruleSenseRelearn src mask)
  | .senseSetThMap src cell therm => some (src, ruleSenseSetThMap src cell therm)
  | .senseSetThCurve src mask curve => some (src, ruleSenseSetThCurve src mask curve)
  | .senseSetShunt src rsh => some (src, ruleSenseSetShunt src rsh)
  | .senseGetConfig src => some (src, ruleSenseGetConfig src)
  | .integSetLeashMode src mode ms => some (src, ruleIntegSetLeashMode src mode ms)
  | .integTestWire src wire => some (src, ruleIntegTestWire src wire)
  | .integClearOpen src wire => some (src, ruleIntegClearOpen src wire)
  | .integSetBarkPullup src on => some (src, ruleIntegSetBarkPullup src on)
  | .balEnable src en => some (src, ruleBalEnable src en)
  | .balSetGoal src goal mode => some (src, ruleBalSetGoal src goal mode)
  | .balSetThresh src start stop brStart brStop => some (src, ruleBalSetThresh src start stop brStart brStop)
  | .balSetLimits src iSet iBr vMargin tFeedMin tMax maxBleed pwrMax => some (src, ruleBalSetLimits src iSet iBr vMargin tFeedMin tMax maxBleed pwrMax)
  | .balManual src cell element current time => some (src, ruleBalManual src cell element current time)
  | .balClearFault src mask => some (src, ruleBalClearFault src mask)
  | .balGetConfig src => some (src, ruleBalGetConfig src)
  | .fltSetConfig src rateRpt anchDz capDzMin capGain sigmaValid tSrc => some (src, ruleFltSetConfig src rateRpt anchDz capDzMin capGain sigmaValid tSrc)
  | .fltSlotWrite src slot offset bytes => some (src, ruleFltSlotWrite src slot offset bytes)
  | .fltSlotCommit src slot => some (src, ruleFltSlotCommit src slot)
  | .fltSlotRead src slot offset length => some (src, ruleFltSlotRead src slot offset length)
  | .fltSetSlot src mask slot => some (src, ruleFltSetSlot src mask slot)
  | .fltSetCap src cell cap => some (src, ruleFltSetCap src cell cap)
  | .fltResetCell src cell => some (src, ruleFltResetCell src cell)
  | .fltSaveNow src => some (src, ruleFltSaveNow src)
  | .fltGetConfig src => some (src, ruleFltGetConfig src)
  | .impSetFreqs src reqs => some (src, ruleImpSetFreqs src reqs)
  | .impSetExcitation src amp nPer nSet => some (src, ruleImpSetExcitation src amp nPer nSet)
  | .impStart src => some (src, ruleImpStart src)
  | .impEnable src en => some (src, ruleImpEnable src en)
  | .impSetSchedule src interval => some (src, ruleImpSetSchedule src interval)
  | .impZtWrite src slot rec => some (src, ruleImpZtWrite src slot rec)
  | .impSetBaseline src mask => some (src, ruleImpSetBaseline src mask)
  | .impSetHealth src hslot growWarn outWarn => some (src, ruleImpSetHealth src hslot growWarn outWarn)
  | .impGetBaseline src cell => some (src, ruleImpGetBaseline src cell)
  | .impGetConfig src => some (src, ruleImpGetConfig src)
  | .cnvSetCarrier src tc lockSrc packIdx packSize syncDly => some (src, ruleCnvSetCarrier src tc lockSrc packIdx packSize syncDly)
  | .cnvSetPhases src mask nMin => some (src, ruleCnvSetPhases src mask nMin)
  | .cnvSetModulation src deadTime dMin dMax trimMax shareGain => some (src, ruleCnvSetModulation src deadTime dMin dMax trimMax shareGain)
  | .cnvSetLimits src chg dis cont fast i2t => some (src, ruleCnvSetLimits src chg dis cont fast i2t)
  | .cnvSetSoftstart src vTarget slewV ilimSs ssTimeout kpv kiv slewStop => some (src, ruleCnvSetSoftstart src vTarget slewV ilimSs ssTimeout kpv kiv slewStop)
  | .cnvSetVtarget src target slew => some (src, ruleCnvSetVtarget src target slew)
  | .cnvSetTuning src en fc => some (src, ruleCnvSetTuning src en fc)
  | .cnvSetCoeffs src mask coef => some (src, ruleCnvSetCoeffs src mask coef)
  | .cnvPhaseCtrl src phase action => some (src, ruleCnvPhaseCtrl src phase action)
  | .cnvGetConfig src => some (src, ruleCnvGetConfig src)
  | .loopSetMode src lmode ffEn => some (src, ruleLoopSetMode src lmode ffEn)
  | .loopSetSource src source fbSrc lossAct => some (src, ruleLoopSetSource src source fbSrc lossAct)
  | .loopSetpoint src value => some (src, ruleLoopSetpoint src value)
  | .loopSetScale src pmax imax vdcMid vdcSpan spRamp manRamp => some (src, ruleLoopSetScale src pmax imax vdcMid vdcSpan spRamp manRamp)
  | .loopSetGains src mode kp ki => some (src, ruleLoopSetGains src mode kp ki)
  | .loopSetTiming src spTimeout spReturn schedHold ainDb => some (src, ruleLoopSetTiming src spTimeout spReturn schedHold ainDb)
  | .loopManual src am iref => some (src, ruleLoopManual src am iref)
  | .loopSchedWrite src first count entries => some (src, ruleLoopSchedWrite src first count entries)
  | .loopSchedCommit src count => some (src, ruleLoopSchedCommit src count)
  | .thmSetConfig src tSel thIdx tSet kpT kiT fsDemand hibDemand => some (src, ruleThmSetConfig src tSel thIdx tSet kpT kiT fsDemand hibDemand)
  | .thmSetMap src output dStart dFull outOff outMin outMax fire => some (src, ruleThmSetMap src output dStart dFull outOff outMin outMax fire)
  | .thmOverride src output set value time => some (src, ruleThmOverride src output set value time)
  | .fpSetConfig src output inv ppr tachMin => some (src, ruleFpSetConfig src output inv ppr tachMin)
  | .lvSetConfig src louvre fbLo fbHi kp ki db umax => some (src, ruleLvSetConfig src louvre fbLo fbHi kp ki db umax)
  | .lvFrictionWrite src louvre table => some (src, ruleLvFrictionWrite src louvre table)
  | .lvLearn src mask => some (src, ruleLvLearn src mask)
  | .loopGetConfig src => some (src, ruleLoopGetConfig src)
  | .safeReset src => some (src, ruleSafeReset src)
  | .safeContactors src act => some (src, ruleSafeContactors src act)
  | .safeSetPrecharge src preI preTmax => some (src, ruleSafeSetPrecharge src preI preTmax)
  | .safeGetNonce src => some (src, ruleSafeGetNonce src)
  | .safeAuth src mac => some (src, ruleSafeAuth src mac)
  | .safeSetPassword src chars => some (src, ruleSafeSetPassword src chars)
  | .safeFloorWrite src record how => some (src, ruleSafeFloorWrite src record how)
  | .safeFloorRead src => some (src, ruleSafeFloorRead src)
  | .safeLogRead src first count => some (src, ruleSafeLogRead src first count)
  | .safeTest src act opt compPass => some (src, ruleSafeTest src act opt compPass)
  | .epochBoundary => none
  | .backCopyDone => none
  | .deferredSwap => none
  | .tileWrite _ _ => none
  | .tileRefresh _ => none
  | .transomRead _ _ => none
  | .tlatchRise => none
  | .tlatchFall => none
  | .imgHoldLong => none
  | .tileReadInternal _ _ _ => none
  | .imgTileStuck _ => none
  | .sfpPoll _ _ _ _ _ _ => none
  | .ethFrame _ _ _ => none
  | .prpSupervision => none
  | .prpEntryExpiry _ => none
  | .lanLinkLost _ _ => none
  | .lanRctTimeout _ => none
  | .lanReturn _ _ => none
  | .ipChangeEffect => none
  | .ptpMessage _ _ _ _ _ => none
  | .ptpTxTimer _ _ _ => none
  | .ptpSyncTimeout _ => none
  | .ptpHoldUnlock => none
  | .txTimestamp _ _ _ _ => none
  | .txtsRead _ => none
  | .canFrameRx _ _ _ => none
  | .canTxAttemptEnd _ _ _ => none
  | .canAlone _ => none
  | .canBusoffRecovery _ => none
  | .hbonlyHeartbeat _ => none
  | .partnerHeartbeat _ => none
  | .partnerAnnounce _ => none
  | .partnerLost _ => none
  | .partnerEntryFree _ => none
  | .canSend _ _ => none
  | .canAbort _ _ => none
  | .canRqgetWrite _ _ => none
  | .netSetIp src x => some (src, ruleNetSetIp src x)
  | .netSetPtp src x => some (src, ruleNetSetPtp src x)
  | .netSetTime src sec ns utc => some (src, ruleNetSetTime src sec ns utc)
  | .canSetConfig src ctl x => some (src, ruleCanSetConfig src ctl x)
  | .canFilterWrite src ctl first fltLen elems => some (src, ruleCanFilterWrite src ctl first fltLen elems)
  | .netGetPartners src first count => some (src, ruleNetGetPartners src first count)
  | .netGetConfig src => some (src, ruleNetGetConfig src)
  | .policyEngineStart _ => none
  | .policyInstruction _ _ _ => none
  | .wfi _ => none
  | .mtimerInterrupt _ => none
  | .interruptWake _ => none
  | .wdogWrite _ => none
  | .polWatchdogExpiry _ => none
  | .mtimeLoRead _ => none
  | .ptpSLoRead _ => none
  | .regionWrite _ _ _ _ => none
  | .rtuActiveClear _ => none
  | .tileStageStore _ _ _ => none
  | .bopenWrite _ _ => none
  | .batchGrant _ => none
  | .bcloseWrite _ => none
  | .batchOverrun _ => none
  | .dmaEnable _ => none
  | .dmaDisable _ => none
  | .dmaDisableDone _ => none
  | .dmaRputWrite _ _ => none
  | .dmaResume _ => none
  | .dmaBurst _ => none
  | .cqgetWrite _ _ => none
  | .cqModerationTimeout _ => none
  | .irqComplete _ _ => none
  | .swisetWrite _ => none
  | .tperWrite _ _ => none
  | .timerExpiry _ => none
  | .routeWrite _ _ => none
  | .rdirClear _ => none
  | .serviceEntry _ => none
  | .framePortSend _ => none
  | .registerWrite _ _ _ => none
  | .feedAbsent _ => none
  | .feedPresent _ => none
  | .feedLow _ => none
  | .sdsStart _ _ => none
  | .powerFailWarning => none
  | .powerRestored => none
  | .powerLost => none
  | .ctlShutdown _ => none
  | .stackOff => none
  | .holdupTest _ _ => none
  | .kennelCheckpoint _ => none
  | .leadWatchdog => none
  | .leadSelftestFail => none
  | .leadDoubleFault => none
  | .hingeHoldEnd => none
  | .hingeHoldLimit => none
  | .takeoverMonitorTest _ => none
  | .leadHandback => none
  | .reserveStandbyTest _ => none
  | .debugAccess _ _ => none
  | .debugOpenExpiry => none
  | .debugCloseDone => none
  | .secGetDebug src => some (src, ruleSecGetDebug src)
  | .secDebugChallenge src state => some (src, ruleSecDebugChallenge src state)
  | .secDebugSet src state minutes signer key sig => some (src, ruleSecDebugSet src state minutes signer key sig)
  | .secKeyEnroll src slot key signer sig => some (src, ruleSecKeyEnroll src slot key signer sig)
  | .secKeyRevoke src slot signer sig => some (src, ruleSecKeyRevoke src slot signer sig)
  | .secKeyList src => some (src, ruleSecKeyList src)
  | .updBegin src length bcrc => some (src, ruleUpdBegin src length bcrc)
  | .updEraseDone _ => none
  | .updBlock src off data ok => some (src, ruleUpdBlock src off data ok)
  | .updVerify src => some (src, ruleUpdVerify src)
  | .updActivate src => some (src, ruleUpdActivate src)
  | .activationPause => none
  | .updConfirm src => some (src, ruleUpdConfirm src)
  | .updAbort src => some (src, ruleUpdAbort src)
  | .updGetStatus src => some (src, ruleUpdGetStatus src)
  | .updConfirmTimeout => none
  | .settingsWrite _ => none
  | .keepWrite _ => none
  | .timeWordWrite => none
  | .logReadFast src first count sev reserved => some (src, ruleLogReadFast src first count sev reserved)
  | .logReadKeep src first count sev area reserved => some (src, ruleLogReadKeep src first count sev area reserved)
  | .logGetPointers src => some (src, ruleLogGetPointers src)
  | .logWriteNote src sev text => some (src, ruleLogWriteNote src sev text)
  | .updVerifyDone => none
  | .configAckTimeout _ => none
  | .wakeRollcallGraceEnd => none
  | .canBusoffRecovered _ => none
  | .sfbMirrorChange _ _ _ => none
  | .comparatorRelease _ _ _ => none
  | .barkLineReleased => none
  | .srstRise _ => none
  | .hubStringStart => none

/-! ### How statements speak -/

/-- The request has been accepted and runs: it completes later (R329, R335, R438). -/
def Block.awaits (b : Block) (src : Src) (op : Nat) : Prop :=
  match src with
  | .session i seq => ∃ e, b.entry? i seq = some e ∧ e.running = true ∧ e.opcode = op
  | .engine p k => ∃ c ∈ (b.pe p).ring.running, c.index = k ∧ c.opcode = op

/-- From a settled block the command ends with the property, and nothing but the named parts and what notices change is touched. -/
def Happens (i : Instr) (s : State) (changed : List PartName) (P : Block → Prop) : Prop :=
  s.block.settled = true → Ends i s fun b => P b ∧ s.block.changesOnly b (changed ++ noticed)

/-- From a settled block that admits the request, the command completes with the status and the reply data and ends with the property; nothing but the named parts and
what the service of the request changes is touched. -/
def Serves (i : Instr) (s : State) (src : Src) (op : Nat) (owner : Bool) (changed : List PartName) (st : Status) (data : List Byte) (P : Block → Prop) : Prop :=
  s.block.settled = true → s.block.admits src op owner = true →
    Ends i s fun b => P b ∧ b.answered src st data ∧ s.block.changesOnly b (changed ++ servedBy src)

/-- The same of a command that is accepted, begins and completes later. -/
def Begins (i : Instr) (s : State) (src : Src) (op : Nat) (owner : Bool) (changed : List PartName) (P : Block → Prop) : Prop :=
  s.block.settled = true → s.block.admits src op owner = true →
    Ends i s fun b => P b ∧ b.awaits src op ∧ s.block.changesOnly b (changed ++ servedBy src)

/-- The Latch has executed SSI or SPS on a cause (R283, R319): ACTED with the muzzle asserted, the cause among those present, the trip 0x80 and, for SSI, the bark line
driven, the outputs of the function off, the converter dark, the execution counted, and the module in SAFE unless a Hinge hold defers the change (R461). -/
def Block.hasActed (o b : Block) (ssi : Bool) (cause ix : Nat) : Prop :=
  b.latch.state = .acted ∧ b.latch.muzzle = true ∧ (cause, ix) ∈ b.latch.causes ∧ b.latch.acts = o.latch.acts + 1
  ∧ b.latch.fn = (if ssi = true ∨ o.latch.fn = .ssi then .ssi else .sps) ∧ b.leash.tripDown = true ∧ (ssi = true → b.bark.drive = true)
  ∧ (∀ n < 4, n = 3 ∨ ssi = true → (b.latch.outs[n]?.all fun x => !x.cmd && !x.hs && !x.ls) = true)
  ∧ (b.cnv.st = .muzzled ∨ b.cnv.st = .latched) ∧ (o.hinge = false → b.sys.mstate = .safe)

/-- The command has changed the stored settings: the next copy has ORIGIN 0 and is to be written within 5 s, unless a write is due already (R505, R506). -/
def Block.storesSettings (o b : Block) : Prop := b.upd = { o.upd with setOrigin := 0, setDue := some (o.upd.setDue.getD (o.sys.now + 5 * secT)) }

/-- Of the converter nothing but one phase has changed. -/
def Block.onlyPhase (o b : Block) (k : Nat) : Prop := b.cnv = { o.cnv with phases := b.cnv.phases } ∧ ∀ j < 8, j ≠ k → b.phase j = o.phase j

/-- One phase may leave without CNV_PHASES_LOW: the converter does not modulate in RUN, or more phases than N_MIN modulate (R239). -/
def Block.phaseToSpare (b : Block) : Bool := decide (b.sys.mstate ≠ .run) || !b.cnv.st.modulates || decide (b.cnv.set.nMin < b.modPhases.length)

/-- The Latch is in LOCKOUT: every output off, PRE_DONE clear, the muzzle asserted, the converter dark, no function executed, and the module in SAFE unless a Hinge hold
defers the change (R286, R287, R461). -/
def Block.hasLockedOut (o b : Block) (cause : Nat) : Prop :=
  b.latch.state = .lockout ∧ b.latch.muzzle = true ∧ (∀ x ∈ b.latch.outs, x.cmd = false ∧ x.hs = false ∧ x.ls = false) ∧ b.latch.preDone = false
  ∧ b.latch.fn = o.latch.fn ∧ b.latch.acts = o.latch.acts ∧ b.latch.cause = (if o.latch.fn = .none then cause else o.latch.cause)
  ∧ (b.cnv.st = .muzzled ∨ b.cnv.st = .latched) ∧ (o.hinge = false → b.sys.mstate = .safe)

/-- The requester's command is still held: its session's cache, or its ring (R335, R438). -/
def Block.holdsRequest (b : Block) : Src → Bool
  | .session i seq => (b.entry? i seq).isSome
  | .engine _ _ => true

/-- A close sequence has failed with a code: SO1 to SO3 off, PRE_DONE clear, CONTACTOR_FAULT, and the command completes with FAULT and the code (R297). -/
def Block.closeFailed (o b : Block) (code : Nat) : Prop :=
  b.latch.seq = .idle ∧ b.latch.seqFail = code ∧ b.latch.preDone = false ∧ b.latch.seqSrc = none
  ∧ (∀ n < 3, (b.latch.outs[n]?.all fun x => !x.cmd && !x.hs && !x.ls) = true) ∧ o.raised b .contactorFault noArg
  ∧ ∀ src ∈ o.latch.seqSrc, o.holdsRequest src = true → b.answered src .fault [BitVec.ofNat 8 code]

/-- Output `n`, 0 for SO1, is as it was but for its commands and switches, which are on or off. -/
def Block.outSet (b : Block) (n : Nat) (on : Bool) : Bool := b.latch.outs[n]?.any fun x => x.cmd == on && x.hs == on && x.ls == on

/-- A safety reset has taken effect in the order of R308: ARMED, muzzle and trip released, SO4 on, comparator latches cleared, the converter free, the module in PARK. -/
def Block.safetyReset (o b : Block) : Prop :=
  b.latch.state = .armed ∧ b.latch.muzzle = false ∧ b.latch.fn = .none ∧ b.latch.causes = [] ∧ b.latch.pendingAct = none ∧ b.latch.resetting = none ∧ b.latch.testsOff = false
  ∧ b.outSet 3 true = true ∧ (∀ n < 3, (b.latch.outs[n]?.map fun x => (x.cmd, x.hs, x.ls, x.mirror)) = o.latch.outs[n]?.map fun x => (x.cmd, x.hs, x.ls, x.mirror)) ∧ b.leash.tripDown = false ∧ b.bark.drive = false ∧ b.bark.extLat = false
  ∧ (∀ g ∈ b.sense.segs, g.ovLat = 0 ∧ g.uvLat = 0) ∧ (o.sys.mstate = .safe → o.hinge = false → b.sys.mstate = .park)

/-- PTP time at `ns` nanoseconds of the count, as a transmit timestamp holds it: seconds and nanoseconds (R381, R389). -/
def Block.stampOf (b : Block) (ns : Nat) : Nat × Nat :=
  ((((ns : Int) + b.net.ptp.offset) / 1000000000).toNat, (((ns : Int) + b.net.ptp.offset) % 1000000000).toNat)

/-- The newest entry of the change log has been added, with a source, a kind and a detail (R317). -/
def Block.logsChange (o b : Block) (src kind detail : Nat) : Prop :=
  b.latch.changeSeq = o.latch.changeSeq + 1 ∧ b.latch.changes.tail = o.latch.changes.take 255
  ∧ ∃ e ∈ b.latch.changes.head?, e.seq = o.latch.changeSeq + 1 ∧ e.src = src ∧ e.kind = kind ∧ e.detail = detail ∧ b.latch.head = sha256 e.bytes

/-- The instruction at the program counter of a policy engine, as 32 bits, and the address of the next one: both its halves can be fetched from the engine's own RAM, and
one of 16 bits stands for an instruction of the base (R412, R413). -/
def Block.fetched (b : Block) (p : Nat) : Option (Nat × Word) :=
  match fetchHalf p (b.pe p).pc.toNat b with
  | .done h _ =>
    if h % 4 ≠ 3 then (expandC h).map fun w => (w, (b.pe p).pc + 2)
    else match fetchHalf p ((b.pe p).pc + 2).toNat b with
      | .done h2 _ => some (h2 * 65536 + h, (b.pe p).pc + 4)
      | _ => none
  | _ => none

/-- The cycle counter after some cycles, and with it the counter of retired instructions; neither counts while inhibited (R412). -/
def Csrs.cycled (n : Nat) (c : Csrs) : Csrs := { c with mcycle := if c.mcounterinhibit.testBit 0 then c.mcycle else (c.mcycle + n) % 2 ^ 64 }
def Csrs.counted (n : Nat) (c : Csrs) : Csrs :=
  { c.cycled n with minstret := if c.mcounterinhibit.testBit 2 then c.minstret else (c.minstret + 1) % 2 ^ 64 }

/-- An instruction of so many cycles has retired: one register, the program counter, the counters. -/
def PolEngine.retired (n rd : Nat) (v npc : Word) (e : PolEngine) : PolEngine := { e.setReg rd v with pc := npc, csr := e.csr.counted n }

/-- A trap has been taken: mepc, mcause, mtval, MPIE and MIE, the vector; the reservation is gone (R412). -/
def PolEngine.trapped (irq : Bool) (code tval : Nat) (e : PolEngine) : PolEngine := { e with
  pc := w32 (e.csr.vector irq code)
  resv := none
  csr := { e.csr with mepc := e.pc, mcause := w32 (b2n irq * 2147483648 + code), mtval := w32 tval, mpie := e.csr.mie, mie := false } }

/-- A policy engine is down: out of service, its reservation and sleep over, its channels and its ring disabled or on their way there (R411, R430). -/
def Block.engineDown (b : Block) (p : Nat) : Prop :=
  (b.pe p).up = false ∧ (b.pe p).asleep = false ∧ (b.pe p).resv = none ∧ ((b.pe p).ring.en = false ∨ (b.pe p).ring.stopping = true)
  ∧ ∀ c < 16, (b.ch c).owner = some p → (b.ch c).st = .disabled ∨ (b.ch c).st = .stopping

/-- The module may pass from one state to the other, or stays: the table of R19, and CTL losing its supply, after which the module is Off (R448, R450). -/
def MState.mayPass (o n : MState) : Bool :=
  o == n || n == .off || n == .safe || (n == .fault && (o == .boot || o == .park || o == .run || o == .hibernate))
    || (n == .park && (o == .boot || o == .run || o == .hibernate || o == .fault || o == .safe)) || (o == .park && (n == .run || n == .hibernate)) || (o == .off && n == .boot)

/-- No Hinge hold is in force and nothing waits for the end of one (R335, R455, R461). -/
def Block.nothingDeferred (b : Block) : Prop :=
  b.pwr.hold = none ∧ b.pwr.stateDue = none ∧ b.pwr.lossDue = false ∧ b.waitingRequests = [] ∧ b.ix.held = []

end Sys2Proof.Machine
end

