-- ==== Sys2Proof/Certificates/Slice0/Obligations.lean ====
section
/-! DEFINITION. The statements for the provers: what each command does, said of every state in which the interlock of the safety path stands and which meets the clause's
premises, with its frame; and what every step keeps. -/

open Sys2Proof Sys2Proof.Machine

/-! ### The whole machine (00_scope.md) -/

/-- A step takes the command at the front of the queue and is that command's effect with the queue's rest; every command ends in a next state and leaves the queue to the
step. With no command waiting the time base counts one tick while the module is powered: that is the model's choice (log entry 62). No row of the table gives bits, so no
word spells a command. -/
def Obligations.StepRunsTheFrontCommand : Prop :=
  (∀ (c : Instr) (q : List Instr) (b : Block), step { block := b, pending := c :: q } = exec c { block := b, pending := q })
  ∧ (∀ (c : Instr) (s : State), ∃ t : State, exec c s = .next t ∧ t.pending = s.pending)
  ∧ (∀ b : Block, b.sys.mstate = .off → step { block := b, pending := [] } = .next { block := b, pending := [] })
  ∧ (∀ b : Block, b.sys.mstate ≠ .off → step { block := b, pending := [] } = .next { block := { b with sys := { b.sys with now := b.sys.now + 1 } }, pending := [] })
  ∧ (∀ (s : State) (nbits w : Nat), Sys2Proof.decodeTableWord nbits w = none ∧ s.withFetchWord nbits w = s)

/-- R9, R18, R333, R216, R180, R297, R73, R126, R286: what the module holds right after reset. It is Off and empty: no command waits, no session is open, nobody owns it, the
logs are empty; the Latch is in SELFTEST with the muzzle asserted and every output off, the converter is MUZZLED, the settings stand at their reset values. That the state
before the first supply holds these values is the model's choice (log entries 43 and 44). -/
def Obligations.ResetIsOffEmptyAndSafe : Prop :=
  State.reset.pending = [] ∧ State.reset.block.sys.mstate = .off ∧ State.reset.block.settled = true ∧ State.reset.block.memoriesWf = true
  ∧ State.reset.block.ix.owner = none ∧ (∀ x ∈ State.reset.block.ix.sessions, x.isOpen = false) ∧ State.reset.block.log.fast = [] ∧ State.reset.block.log.fHead = 1
  ∧ State.reset.block.log.keepGen = [] ∧ State.reset.block.log.keepRes = [] ∧ State.reset.block.latch.state = .selftest ∧ State.reset.block.latch.muzzle = true
  ∧ (∀ x ∈ State.reset.block.latch.outs, x.cmd = false ∧ x.hs = false ∧ x.ls = false) ∧ State.reset.block.latch.preI = 500 ∧ State.reset.block.latch.preTmax = 5000
  ∧ State.reset.block.cnv.st = .muzzled ∧ State.reset.block.cnv.set.tc = 8000 ∧ State.reset.block.imp.set.amp = 10000 ∧ State.reset.block.imp.state = .idle
  ∧ State.reset.block.bal.en = false ∧ State.reset.block.bal.policy.iSet = 2000 ∧ State.reset.block.sense.win0.n = 48 ∧ State.reset.block.sense.win0.m = 15
  ∧ State.reset.block.sec.dstate = 0 ∧ State.reset.block.pwr.hold = none ∧ (∀ e ∈ State.reset.block.pol.engines, e.up = false ∧ e.ring.en = false)

/-- R19, R231, R236, R286, R461: every command leaves the interlock of the safety path in force, whatever it found, and a tick keeps it: a Latch that is not ARMED muzzles,
no phase modulates while it does, and a module whose Latch has acted is in SAFE, but for a Hinge hold and for Off. -/
def Obligations.SafetyPathHoldsAfterEveryStep : Prop :=
  ∀ s t : State, step s = .next t → s.pending ≠ [] ∨ s.block.safePath = true →
    t.block.safePath = true ∧ (t.block.latch.state ≠ .armed → t.block.latch.muzzle = true) ∧ (t.block.latch.muzzle = true → t.block.cnv.st.modulates = false)
    ∧ (t.block.latch.state.acting = true → t.block.hinge = false → t.block.sys.mstate ≠ .off → t.block.sys.mstate = .safe)

/-- R413, R439, R485: every step keeps the RAMs of the policy engines, their frame buffers and the flash in canonical form. -/
def Obligations.MemoriesStayCanonicalInEveryStep : Prop :=
  ∀ s t : State, s.block.memoriesWf = true → step s = .next t → t.block.memoriesWf = true

/-- R520: no step takes a record out of the Safety reserve or changes it (a slot whose CRC fails holds no record, R524); the write that fills the 896th slot sets RESHIGH and
raises LOG_RESERVE_HIGH. -/
def Obligations.SafetyReserveIsNeverEmptied : Prop :=
  (∀ (s t : State), step s = .next t → ∀ r ∈ s.block.log.keepRes, r.crcOk = true → r ∈ t.block.log.keepRes)
  ∧ (∀ s (fails : Fin 3) r rest, fails.val < 2 → s.block.sys.mstate ≠ .off → s.block.hinge = false → s.block.log.queue = r :: rest → r.resv = true →
      s.block.log.keepRes.length = 895 → s.block.log.resHigh = false → s.block.log.fast.length < 65536 → Happens (.keepWrite fails) s [.keep] fun b =>
        b.log.keepRes.length = 896 ∧ r ∈ b.log.keepRes ∧ b.log.resHigh = true ∧ ∃ f ∈ b.log.fast, f.code = Event.logReserveHigh.code ∧ f.seq = s.block.log.fHead)

/-- R20, and the table of R19: while no Hinge hold is in force and nothing waits for the end of one, a step takes a powered module only where the table says; SYS_HIBERNATE in RUN
completes with BAD_STATE, HIBERNATE is entered only from PARK, and a takeover by Reserve and an activation leave the module state as it was. -/
def Obligations.ModuleStateFollowsItsTransitions : Prop :=
  (∀ (s t : State), step s = .next t → s.block.nothingDeferred → s.block.sec.fullDue = none → s.block.sys.mstate ≠ .off →
      s.block.sys.mstate.mayPass t.block.sys.mstate = true ∧ (t.block.sys.mstate = .hibernate → s.block.sys.mstate = .hibernate ∨ s.block.sys.mstate = .park))
  ∧ (∀ s src, s.block.settled = true → s.block.admits src 0x0112 true = true → s.block.sys.mstate = .run → Ends (.sysHibernate src) s fun b =>
      s.block.refused b src .badState ∧ b.sys.mstate = .run)
  ∧ (∀ s, ∀ i ∈ [Instr.leadWatchdog, .leadSelftestFail, .leadDoubleFault], s.block.settled = true → s.block.pwr.resCtl = false → s.block.activating = false →
      Ends i s fun b => b.sys.mstate = s.block.sys.mstate)
  ∧ (∀ s src, s.block.settled = true → s.block.admits src 0x0B04 true = true → Ends (.updActivate src) s fun b => b.sys.mstate = s.block.sys.mstate)
  ∧ (∀ s, s.block.settled = true → s.block.upd.ustate = 6 → s.block.hinge = false → Ends .activationPause s fun b => b.sys.mstate = s.block.sys.mstate)
  ∧ (∀ s, s.block.settled = true → s.block.pwr.hcause ≠ 0 → s.block.pwr.stateDue = none → s.block.pwr.lossDue = false → s.block.waitingRequests = [] → s.block.ix.held = [] →
      s.block.latch.state.acting = false → Ends .hingeHoldEnd s fun b => b.sys.mstate = s.block.sys.mstate)

/-! ### The leash and its lanes (01_architecture.md, 03_sense_integrity.md) -/

/-- R36, R37, R48, R49, R54, R113: sync sets move the count and carry the delay echo; a lane goes down by violations, by silence or by the other end, and comes back
trained unless it is held down.
Part of it rests on the model's own choice (log entry 4). -/
def Obligations.LanesCarrySyncSetsFailAndReturn : Prop :=
  (∀ s, s.block.anyLane = true → Happens .syncSetDownstream s [.sys, .leash] fun b =>
      b.sys.now = s.block.nextMultiple 1000 ∧ b.leash = { s.block.leash with syncsSent := s.block.leash.syncsSent + 1 })
  ∧ (∀ s, s.block.anyLane = true → Happens .syncSetUpstream s [.sys, .leash] fun b =>
      b.sys.now % 1000 = 500 ∧ s.block.sys.now < b.sys.now ∧ b.sys.now ≤ s.block.sys.now + 1000 ∧ b.leash = { s.block.leash with echoDue := none })
  ∧ (∀ s (k : Fin 2) echo count rt, (s.block.lane k).up = true → Happens (.syncSetReceived true k echo count rt) s [.leash] fun b =>
      (b.lane k).lastSync = s.block.sys.now ∧ b.leash.aligned = true ∧ b.leash.syncsHeard = s.block.leash.syncsHeard + 1
      ∧ b.leash.echoDue = (if (s.block.leash.syncsHeard + 1) % 100000 = 0 then some count else s.block.leash.echoDue))
  ∧ (∀ s (k : Fin 2) count rt, (s.block.lane k).up = true → Happens (.syncSetReceived false k false count rt) s [.leash] fun b =>
      (b.lane k).lastSync = s.block.sys.now ∧ b.leash.delay = s.block.leash.delay ∧ b.leash.waiting = s.block.leash.waiting)
  ∧ (∀ s (k : Fin 2) count rt, (s.block.lane k).up = true → Happens (.syncSetReceived false k true count rt) s [.leash] fun b =>
      (b.lane k).lastSync = s.block.sys.now ∧ b.leash.delay = (rt - Config.hubTurnaround) / 2 ∧ b.leash.delayKnown = true
      ∧ b.leash.waiting = s.block.leash.waiting
          ++ [{ tag := s.block.leash.nextTag, kind := .delayResult ((rt - Config.hubTurnaround) / 2), sent := 1, carries := none }])
  ∧ (∀ s (k : Fin 2), (s.block.lane k).up = true → Happens (.laneViolationLimit k) s [.sys, .leash, .sense] fun b =>
      (b.lane k).up = false ∧ (∀ j : Fin 2, j ≠ k → b.lane j = s.block.lane j) ∧ b.leash.flaps = satAdd 255 s.block.leash.flaps 1
      ∧ b.leash.missed = (if (s.block.leash.inFlight.any fun f => f.striped) = true then satAdd 255 s.block.leash.missed 1 else s.block.leash.missed)
      ∧ (b.lane k).hold = (if 3 ≤ ((s.block.lane k).downs.filter fun d => decide (s.block.sys.now < d + 60 * secT)).length then some s.block.sys.now else none))
  ∧ (∀ s (k : Fin 2), (s.block.lane k).up = true → Happens (.laneSyncTimeout k) s [.sys, .leash, .sense] fun b =>
      b.sys.now = max s.block.sys.now ((s.block.lane k).lastSync + 30 * usT) ∧ (b.lane k).up = false ∧ (∀ j : Fin 2, j ≠ k → b.lane j = s.block.lane j)
      ∧ b.leash.flaps = satAdd 255 s.block.leash.flaps 1)
  ∧ (∀ s (k : Fin 2), (s.block.lane k).up = true → Happens (.ldownSet k true) s [.sys, .leash, .sense] fun b =>
      (b.lane k).up = false ∧ (∀ j : Fin 2, j ≠ k → b.lane j = s.block.lane j) ∧ b.leash.flaps = satAdd 255 s.block.leash.flaps 1)
  ∧ (∀ s (k : Fin 2), Happens (.ldownSet k false) s [] fun _ => True)
  ∧ (∀ s (k : Fin 2), k.val < s.block.leash.lanes.length → (s.block.lane k).up = false → (s.block.lane k).hold = none →
      Happens (.laneTrained k) s [.leash, .latch] fun b =>
        (b.lane k).up = true ∧ (b.lane k).lastSync = s.block.sys.now ∧ (∀ j : Fin 2, j ≠ k → b.lane j = s.block.lane j)
        ∧ b.leash.hubMode = s.block.leash.lossMode ∧ b.leash.hubBrodda = s.block.leash.broddaMs ∧ b.leash.stack = .normal ∧ b.leash.lostAt = none
        ∧ (6, 0) ∉ b.latch.causes)
  ∧ (∀ s (k : Fin 2) t, (s.block.lane k).hold = some t → Happens (.laneHoldExpiry k) s [.sys, .leash] fun b =>
      b.sys.now = max s.block.sys.now (t + 600 * secT) ∧ b.lane k = { s.block.lane k with hold := none } ∧ ∀ j : Fin 2, j ≠ k → b.lane j = s.block.lane j)

/-- R34, R38, R39, R40, R45, R46, R47, R53, R57, R58, R59, R64, R86, R102, R121: frames down the leash are repeated until their reply or the fourth failure; the snapshot frame
is sent, stored or missed; a trip acts at the end that receives it. -/
def Obligations.LeashFramesAndTripsDoWhatTheyCarry : Prop :=
  (∀ s tag f, (s.block.leash.waiting.find? fun x => x.tag == tag) = some f → f.sent < 4 → Happens (.leashFrameTimeout tag) s [.sys, .leash] fun b =>
      b.sys.now = s.block.sys.now + 50 * usT
      ∧ b.leash = { s.block.leash with waiting := (s.block.leash.waiting.map fun g => if g.tag = tag then { g with sent := g.sent + 1 } else g) })
  ∧ (∀ s tag f, (s.block.leash.waiting.find? fun x => x.tag == tag) = some f → 4 ≤ f.sent → f.carries = none → Happens (.leashFrameTimeout tag) s [.sys, .leash] fun b =>
      b.leash = { s.block.leash with waiting := (s.block.leash.waiting.filter fun g => g.tag != tag) })
  ∧ (∀ s tag f i q e, (s.block.leash.waiting.find? fun x => x.tag == tag) = some f → 4 ≤ f.sent → f.carries = some (.session i q) →
      s.block.entry? i q = some e → e.running = true → Happens (.leashFrameTimeout tag) s [.sys, .leash, .ix, .pwr] fun b =>
        b.answered (.session i q) .fault [] ∧ b.leash = { s.block.leash with waiting := (s.block.leash.waiting.filter fun g => g.tag != tag) })
  ∧ (∀ s tag f, (s.block.leash.waiting.find? fun x => x.tag == tag) = some f → s.block.leash.hubTag ≠ some tag → Happens (.hubCommandFrame tag) s [.leash] fun b =>
      b.leash.hubTag = some tag ∧ b.leash.waiting = s.block.leash.waiting ∧ b.leash.hubDelay = (match f.kind with
        | .delayResult ns => ns
        | _ => s.block.leash.hubDelay) ∧ (b.leash.hubMode, b.leash.hubBrodda) = (match f.kind with
        | .leashMode mode ms => (mode, ms)
        | _ => (s.block.leash.hubMode, s.block.leash.hubBrodda)))
  ∧ (∀ s tag, s.block.leash.hubTag = some tag → Happens (.hubCommandFrame tag) s [] fun _ => True)
  ∧ (∀ s tag, Happens (.replyFrame tag) s [.leash] fun b =>
      b.leash = { s.block.leash with waiting := (s.block.leash.waiting.filter fun f => f.tag != tag) })
  ∧ (∀ s p, p.length ≤ 256 → Happens (.eventFrame p) s [.leash] fun b => b.leash = { s.block.leash with lastEvent := p })
  ∧ (∀ s rate start modes owt, rate ≤ 4 → rate ≠ s.block.sense.rate → Happens (.scheduleFrame rate start modes owt) s [.sense] fun b =>
      b.sense.pendingRate = some { rate := rate, start := multipleFrom (rateTicks rate) start } ∧ b.sense.owtNext = owt.or s.block.sense.owtNext
      ∧ b.sense.rate = s.block.sense.rate ∧ b.sense.cells = s.block.sense.cells ∧ b.sense.wires = s.block.sense.wires
      ∧ ∀ n < 16, n < s.block.sense.segs.length → (b.seg n).pendingMode = ((modes.find? fun m => m.1 == n).map fun m => m.2).or (s.block.seg n).pendingMode)
  ∧ (∀ s, s.block.anyLane = true → Happens .snapshotFrameStart s [.sys, .ring, .leash] fun b =>
      b.leash.inFlight = some { seq := s.block.leash.snapSeq, striped := (s.block.leash.lanes.all fun x => x.up) } ∧ b.leash.snapSeq = (s.block.leash.snapSeq + 1) % 65536
      ∧ ∀ n < s.block.ring.segs.length, (b.ringSeg n).stale = (decide (n < s.block.nSeg) && !(s.block.ringSeg n).arrived))
  ∧ (∀ s f, s.block.leash.inFlight.isSome = true → s.block.sys.mstate ≠ .off → f.crcOk = false → Happens (.snapshotFrame f) s [.leash, .sense] fun b =>
      b.leash = { s.block.leash with inFlight := none, missed := satAdd 255 s.block.leash.missed 1 }
      ∧ b.sense.seq = s.block.sense.seq ∧ ∀ c < 512, (b.cell c).chan.last = (s.block.cell c).chan.last)
  ∧ (∀ s f, s.block.leash.inFlight.isSome = true → s.block.sys.mstate ≠ .off → f.crcOk = true → Happens (.snapshotFrame f) s actedOn fun b =>
        b.leash.inFlight = none ∧ b.leash.lastStored = s.block.sys.now ∧ b.leash.missed = s.block.leash.missed ∧ b.sense.seq = f.seq
        ∧ b.sense.apCount = f.count % 4294967296 ∧ ∀ c < s.block.nCell, c < s.block.sense.cells.length → (b.cell c).seq = f.seq ∧ (b.cell c).chf = chfOf (f.cells.getD c 0))
  ∧ (∀ s, s.block.leash.inFlight.isSome = true → Happens .frameAbort s [.leash, .sense] fun b =>
      b.leash = { s.block.leash with inFlight := none, missed := satAdd 255 s.block.leash.missed 1 } ∧ b.sense.seq = s.block.sense.seq)
  ∧ (∀ s, s.block.anyLane = true → s.block.leash.tripDown = true → Happens (.tripRepeat true) s [.sys] fun b => b.sys = { s.block.sys with now := s.block.sys.now + usT })
  ∧ (∀ s, s.block.anyLane = true → s.block.leash.tripsUp ≠ [] → Happens (.tripRepeat false) s [.sys] fun b => b.sys = { s.block.sys with now := s.block.sys.now + usT })
  ∧ (∀ s source, s.block.anyLane = true → source ≤ 0x10 → s.block.latch.state = .armed → Happens (.leashTrip false source) s actedOn fun b =>
      s.block.hasActed b true 3 source)
  ∧ (∀ s, s.block.anyLane = true → Happens (.leashTrip true 0x80) s [.bal, .sense] fun b =>
      b.bal.manuals = [] ∧ b.bal.staged = [] ∧ (∀ c < 512, (b.cellBal c).bleed = false) ∧ ∀ n < 16, ∀ h ∈ (b.segBal n).shuttles, h.cur = 0)
  ∧ (∀ s source, 0x10 < source → Happens (.leashTrip false source) s [] fun _ => True)

/-- R26, R27, R28, R30, R38, R42, R95, R109, R110, R111, R112: what the rung ring does in an aperture, and what a loss on the ring or of the leash leads to.
Part of it rests on the model's own choice (log entry 4). -/
def Obligations.RingAndLeashLossesAreHandled : Prop :=
  (∀ s count, count % rateTicks s.block.sense.rate = 0 → s.block.sys.now ≤ count → Happens (.aperture count) s [.sys, .sense, .bal, .ring, .imp] fun b =>
      b.sys.now = count ∧ (∀ g ∈ b.ring.segs, g.converted = false ∧ g.arrived = false ∧ g.framePos = none ∧ g.stale = false) ∧ b.ring.rungs = s.block.ring.rungs
      ∧ ∀ n < 16, n < s.block.sense.segs.length → ∀ x ∈ (s.block.seg n).pendingMode, x.2 ≤ count →
          (b.seg n).compensated = x.1 ∧ (b.seg n).pendingMode = none)
  ∧ (∀ s (n : Fin 16), n.val < s.block.nSeg → n.val < s.block.ring.segs.length → Happens (.conversionComplete n) s [.ring] fun b =>
      b.ringSeg n = { s.block.ringSeg n with converted := true, framePos := none } ∧ b.ring.rungs = s.block.ring.rungs
      ∧ ∀ m : Fin 16, m ≠ n → b.ringSeg m = s.block.ringSeg m)
  ∧ (∀ s (n : Fin 16) r, n.val < s.block.nSeg → (s.block.ringSeg n).converted = true → (s.block.ringSeg n).arrived = false → s.block.nextRung n = r →
      s.block.rungUp r = true → Happens (.segmentFrame n r) s [.ring] fun b =>
        b.ringSeg n = { s.block.ringSeg n with framePos := some r, arrived := decide (r = 0 ∨ r = s.block.nSeg) } ∧ b.ring.rungs = s.block.ring.rungs
        ∧ ∀ m : Fin 16, m ≠ n → b.ringSeg m = s.block.ringSeg m)
  ∧ (∀ s (n : Fin 16) lost, s.block.ring.trips.contains n.val = true → s.block.reaches n = true → Happens (.rungTrip n true lost) s [.leash] fun b =>
      b.leash = { s.block.leash with tripsUp := insertIdx (if lost then 0x10 else n.val) s.block.leash.tripsUp })
  ∧ (∀ s (n : Fin 16) lost, Happens (.rungTrip n false lost) s [] fun _ => True)
  ∧ (∀ s down up, Happens (.ringDelayMeasure down up) s [.sys, .ring] fun b =>
      b.sys.now = s.block.nextMultiple secT ∧ b.ring.rungs = s.block.ring.rungs
      ∧ ∀ n < s.block.nSeg, n < s.block.ring.segs.length →
          (s.block.wayDown n = true → n < down.length → (b.ringSeg n).delayDown = down.getD n 0)
          ∧ (s.block.wayUp n = true → n < up.length → (b.ringSeg n).delayUp = up.getD n 0))
  ∧ (∀ s (r : Fin 17) lost, r.val ≤ s.block.nSeg → s.block.rungUp r = true → s.block.rungsDown = 0 → Happens (.rungDown r lost) s [.sys, .ring] fun b =>
      b.rungUp r = false ∧ (∀ q : Fin 17, q ≠ r → b.rungUp q = s.block.rungUp q) ∧ b.ring.split = s.block.ring.split
      ∧ b.sys = { s.block.sys with takeovers := s.block.sys.takeovers + 1 })
  ∧ (∀ s (r : Fin 17) lost, r.val ≤ s.block.nSeg → s.block.rungUp r = true → 1 ≤ s.block.rungsDown → s.block.latch.state = .armed →
      Happens (.rungDown r lost) s ([.ring] ++ actedOn) fun b => b.rungUp r = false ∧ b.ring.split = true ∧ s.block.hasActed b true 7 0)
  ∧ (∀ s (r : Fin 17), r.val ≤ s.block.nSeg → s.block.rungUp r = false → r.val < s.block.ring.rungs.length → Happens (.rungUp r) s [.ring, .latch] fun b =>
      b.rungUp r = true ∧ (∀ q : Fin 17, q ≠ r → b.rungUp q = s.block.rungUp q) ∧ b.ring.split = decide (2 ≤ b.rungsDown)
      ∧ (b.ring.split = false → (7, 0) ∉ b.latch.causes) ∧ (b.ring.split = true → b.latch = s.block.latch))
  ∧ (∀ s (n : Fin 16) t, (s.block.ringSeg n).cutAt = some t → Happens (.segmentIsolated n) s [.sys, .ring, .bal] fun b =>
      b.sys.now = max s.block.sys.now (t + 50 * msT) ∧ (b.ringSeg n).isolated = true ∧ (∀ c < 512, segOf c = n → (b.cellBal c).bleed = false)
      ∧ (∀ h ∈ (b.segBal n).shuttles, h.cur = 0) ∧ ∀ m : Fin 16, m ≠ n → (b.segBal m).shuttles = (s.block.segBal m).shuttles)
  ∧ (∀ s, s.block.leash.stack = .normal → s.block.anyLane = false → s.block.leash.hubMode ≠ 1 → Happens .leashSilent s [.sys, .leash, .bal] fun b =>
      b.leash.stack = .sleep ∧ b.leash.silentAt = some b.sys.now ∧ s.block.sys.now ≤ b.sys.now ∧ b.bal.manuals = []
      ∧ (∀ c < 512, (b.cellBal c).bleed = false) ∧ ∀ n < 16, ∀ h ∈ (b.segBal n).shuttles, h.cur = 0)
  ∧ (∀ s, s.block.leash.stack = .normal → s.block.anyLane = false → s.block.leash.hubMode = 1 → Happens .leashSilent s [.sys, .leash] fun b =>
      b.leash.stack = .brodda ∧ b.leash.silentAt = some b.sys.now ∧ b.leash.broddaStopped = false)
  ∧ (∀ s t, s.block.leash.stack = .brodda → s.block.leash.silentAt = some t → s.block.leash.broddaStopped = false → Happens .broddaTimeout s [.sys, .leash, .bal] fun b =>
      b.sys.now = max s.block.sys.now (t + s.block.leash.hubBrodda * msT) ∧ b.leash = { s.block.leash with broddaStopped := true } ∧ b.bal.manuals = []
      ∧ (∀ c < 512, (b.cellBal c).bleed = false) ∧ ∀ n < 16, ∀ h ∈ (b.segBal n).shuttles, h.cur = 0)
  ∧ (∀ s, s.block.anyLane = false → s.block.leash.lostAt = none → Happens .leashLost s ([.leash] ++ controlled) fun b =>
      b.sys.now = max s.block.sys.now (s.block.leash.lastStored + msT) ∧ b.leash = { s.block.leash with lostAt := some b.sys.now }
      ∧ s.block.raised b .leashLost noArg)
  ∧ (∀ s t, s.block.leash.lostAt = some t → s.block.anyLane = false → s.block.latch.state = .armed → Happens .leashLossSsi s actedOn fun b =>
      b.sys.now = max s.block.sys.now (t + 50 * msT) ∧ s.block.hasActed b true 6 0)

/-! ### Simultaneous sensing (02_sensing_and_compensated_sampling.md) -/

/-- R38, R64, R65, R70, R77, R79, R83, R84, R92: shutters, rate changes, reference checks, channel faults and the learning of wires. -/
def Obligations.ApertureEventsAndChecksChangeTheSensing : Prop :=
  (∀ s count, Happens (.shutterClose count) s [.sys, .sense] fun b =>
      b.sys.now = max s.block.sys.now (count - 200) ∧ (∀ g ∈ b.sense.segs, g.shutterOpen = true) ∧ b.sense.cells = s.block.sense.cells ∧ b.sense.wires = s.block.sense.wires)
  ∧ (∀ s count, s.block.bal.openNext = false → s.block.bal.stagedActive = false → s.block.bal.stagedBridges = [] → Happens (.shutterOpen count) s [.sys, .sense] fun b =>
      b.sys.now = max s.block.sys.now (count + 100) ∧ (∀ g ∈ b.sense.segs, g.shutterOpen = false) ∧ b.sense.cells = s.block.sense.cells)
  ∧ (∀ s count, s.block.bal.openNext = true → Happens (.shutterOpen count) s [.sys, .sense, .bal] fun b =>
      (∀ g ∈ b.sense.segs, g.shutterOpen = false) ∧ b.bal.openNext = false ∧ b.bal.manuals = [] ∧ (∀ c < 512, (b.cellBal c).bleed = false)
      ∧ ∀ n < 16, (b.segBal n).bridge = 0 ∧ ∀ h ∈ (b.segBal n).shuttles, h.cur = 0)
  ∧ (∀ s count, s.block.bal.openNext = false → s.block.bal.stagedActive = true → s.block.bal.staggerNext < 2 → Happens (.shutterOpen count) s [.sys, .sense, .bal] fun b =>
      (∀ g ∈ b.sense.segs, g.shutterOpen = false) ∧ b.bal.stagedActive = true ∧ b.bal.staggerNext = s.block.bal.staggerNext + 1 ∧ b.bal.staged = s.block.bal.staged)
  ∧ (∀ s p, s.block.sense.pendingRate = some p → Happens .rateChangeEffect s [.sys, .sense, .imp] fun b =>
      b.sys.now = max s.block.sys.now p.start ∧ b.sense.rate = p.rate ∧ b.sense.pendingRate = none ∧ b.sense.held = decide (p.rate = 4)
      ∧ b.sense.win0.startAt = p.start ∧ b.sense.win1.startAt = p.start ∧ b.sense.win0.pos = 0 ∧ b.sense.win1.pos = 0 ∧ b.sense.rateCfg = s.block.sense.rateCfg
      ∧ (s.block.imp.begun = true → b.imp.job = none) ∧ (s.block.imp.job = none → b.imp = s.block.imp))
  ∧ (∀ s, s.block.sense.firstSnap = true → ((List.range s.block.nSeg).all fun n => (s.block.seg n).dieT.isNone) = true → Happens .refCheckDue s [.sys, .sense] fun b =>
      b.sys.now = max s.block.sys.now s.block.sense.refDueAt ∧ b.sense.refDueAt = b.sys.now + 60 * secT
      ∧ ∀ n < s.block.sense.segs.length, b.seg n = (if n < s.block.nSeg then { s.block.seg n with refBusy := true } else s.block.seg n))
  ∧ (∀ s (n : Fin 16) dev worst corr, (s.block.seg n).refBusy = true → s.block.sense.refJob = none → |dev| ≤ 150 → worst ≤ 5000 →
      Happens (.refCheckDone n dev worst corr) s [.sense] fun b =>
        b.seg n = { s.block.seg n with refBusy := false, refDis := false, refFail := false, refDev := dev, refAt := some s.block.sys.now, refT := (s.block.seg n).dieT, refOk := true,
                                       t2bOff := (corr.getD 32 (0, 0)).1, t2bGain := (corr.getD 32 (0, 0)).2 }
        ∧ (∀ c < 512, c < s.block.sense.cells.length → b.cell c = (if segOf c = n then { s.block.cell c with corrOff := (corr.getD (c % 32) (0, 0)).1, corrGain := (corr.getD (c % 32) (0, 0)).2 }
            else s.block.cell c)) ∧ ∀ m : Fin 16, m ≠ n → b.seg m = s.block.seg m)
  ∧ (∀ s (n : Fin 16) dev worst corr, (s.block.seg n).refBusy = true → s.block.sense.refJob = none → 150 < |dev| → worst ≤ 5000 →
      Happens (.refCheckDone n dev worst corr) s [.sense] fun b =>
        b.seg n = { s.block.seg n with refBusy := false, refDis := true, refFail := false, refDev := dev, refAt := some s.block.sys.now, refT := (s.block.seg n).dieT }
        ∧ b.sense.cells = s.block.sense.cells)
  ∧ (∀ s (n : Fin 16) dev worst corr j i q, (s.block.seg n).refBusy = true → s.block.sense.refJob = some j → j.src = .session i q → (s.block.entry? i q).isSome = true →
      j.named = 2 ^ n.val → j.done = 0 → j.passed = 0 → j.dis = 0 → j.failed = false → Happens (.refCheckDone n dev worst corr) s [.sense, .ix, .pwr] fun b =>
        b.sense.refJob = none ∧ (b.seg n).refBusy = false
        ∧ b.answered (.session i q) (if 5000 < worst then .fault else .ok)
            (leBytes 2 (if 150 < |dev| ∨ 5000 < worst then 0 else 2 ^ n.val) ++ leBytes 2 (if 150 < |dev| then 2 ^ n.val else 0)))
  ∧ (∀ s (c : Fin 512) t, (s.block.cell c).chfAt = some t → (s.block.cell c).chfRaised = false → Happens (.senseChannelFault c) s [.sys, .sense] fun b =>
      b.sys.now = max s.block.sys.now (t + 100 * msT) ∧ (b.cell c).chfRaised = true ∧ (∀ d : Fin 512, d ≠ c → b.cell d = s.block.cell d)
      ∧ b.sense.segs = s.block.sense.segs)
  ∧ (∀ s t, s.block.sense.bothLostAt = some t → s.block.sense.bothLost = false → Happens .currentBothLost s controlled fun b =>
      b.sys.now = max s.block.sys.now (t + 10 * msT) ∧ b.sense.bothLost = true ∧ s.block.raised b .currentBothLost noArg)
  ∧ (∀ s (k : Fin 512) lo hi own, 2 ≤ k.val → k.val + 2 < s.block.nCell → 500 ≤ |(s.block.cell k).stepDelta| →
      (∀ c ∈ [k.val - 2, k.val - 1, k.val + 1, k.val + 2], (s.block.cell c).stepDelta = 0) →
      s.block.stepDv (k.val - 1) = some lo → s.block.stepDv (k.val + 1) = some hi → s.block.stepDv k = some own →
      0 ≤ -(ohmOf lo (-(s.block.cell k).stepDelta)) → -(ohmOf lo (-(s.block.cell k).stepDelta)) ≤ 200000 →
      0 ≤ ohmOf hi (s.block.cell k).stepDelta → ohmOf hi (s.block.cell k).stepDelta ≤ 200000 →
      |own * 1000 + (s.block.cell k).stepDelta * (-(ohmOf lo (-(s.block.cell k).stepDelta)) + ohmOf hi (s.block.cell k).stepDelta
        + fxRound ((s.block.cellFlt k).rs * 1000000)) * 2048| ≤ 2000 * 1000 * 2048 →
      k.val + 1 < s.block.sense.wires.length → Happens (.wireLearn k) s [.sense, .bal] fun b =>
        b.wire k = { s.block.wire k with r := (-(ohmOf lo (-(s.block.cell k).stepDelta))).toNat, learned := true, overLim := false }
        ∧ b.wire (k.val + 1) = { s.block.wire (k.val + 1) with r := (ohmOf hi (s.block.cell k).stepDelta).toNat, learned := true, overLim := false }
        ∧ (b.seg (segOf k)).learns = satAdd 65535 (s.block.seg (segOf k)).learns 1 ∧ (∀ j < 513, j ≠ k.val → j ≠ k.val + 1 → b.wire j = s.block.wire j))
  ∧ (∀ s (k : Fin 512), |(s.block.cell k).stepDelta| < 500 → Happens (.wireLearn k) s [] fun _ => True)

/-- R64, R74, R85, R86, R87: the sensing commands change the setting they name and answer with their table's data. -/
def Obligations.SensingCommandsSetWhatTheyName : Prop :=
  (∀ s src code, s.block.sys.mstate ∈ [MState.park, .run, .fault, .safe] → code ≤ 3 →
      Serves (.senseSetRate src code) s src 0x0301 true [.sense, .upd] .ok (leBytes 4 (multipleFrom (rateTicks code) (s.block.sys.now + msT))) fun b =>
        b.sense = { s.block.sense with rateCfg := code, pendingRate := some { rate := code, start := multipleFrom (rateTicks code) (s.block.sys.now + msT) } }
        ∧ s.block.storesSettings b)
  ∧ (∀ s src mode nReq, mode ≤ 1 → 1 ≤ nReq → nReq ≤ 4096 →
      Serves (.senseSetWindow src 0 mode nReq) s src 0x0302 true [.sense, .upd] .ok
        (leBytes 2 (windowLength (mode == 1) nReq (rateTicks s.block.sense.rate) s.block.carrierTicks).1
          ++ leBytes 4 (windowLength (mode == 1) nReq (rateTicks s.block.sense.rate) s.block.carrierTicks).2.1
          ++ leBytes 1 (b2n (windowLength (mode == 1) nReq (rateTicks s.block.sense.rate) s.block.carrierTicks).2.2)) fun b =>
        b.sense.win0.nReq = nReq ∧ b.sense.win0.locked = (mode == 1) ∧ b.sense.win0.pos = 0 ∧ b.sense.win0.startAt = s.block.sys.now + 1
        ∧ b.sense.win0.n = (windowLength (mode == 1) nReq (rateTicks s.block.sense.rate) s.block.carrierTicks).1
        ∧ b.sense.win1 = s.block.sense.win1 ∧ b.sense.cur.a0 = { sum := 0, n := 0 } ∧ b.sense.cur.a1 = s.block.sense.cur.a1 ∧ s.block.storesSettings b)
  ∧ (∀ s src mode nReq, mode ≤ 1 → 1 ≤ nReq → nReq ≤ 4096 →
      Serves (.senseSetWindow src 1 mode nReq) s src 0x0302 true [.sense, .upd] .ok
        (leBytes 2 (windowLength (mode == 1) nReq (rateTicks s.block.sense.rate) s.block.carrierTicks).1
          ++ leBytes 4 (windowLength (mode == 1) nReq (rateTicks s.block.sense.rate) s.block.carrierTicks).2.1
          ++ leBytes 1 (b2n (windowLength (mode == 1) nReq (rateTicks s.block.sense.rate) s.block.carrierTicks).2.2)) fun b =>
        b.sense.win1.nReq = nReq ∧ b.sense.win1.locked = (mode == 1) ∧ b.sense.win1.pos = 0 ∧ b.sense.win0 = s.block.sense.win0
        ∧ b.sense.cur.a1 = { sum := 0, n := 0 } ∧ b.sense.cur.a0 = s.block.sense.cur.a0 ∧ s.block.storesSettings b)
  ∧ (∀ s src mask mode, s.block.sys.mstate ≠ .boot → s.block.maskFitted mask = true → mode ≤ 1 →
      Serves (.senseSetShutter src mask mode) s src 0x0303 true [.sense, .upd] .ok (leBytes 4 (multipleFrom (rateTicks s.block.sense.rate) (s.block.sys.now + 10000))) fun b =>
        (∀ n < s.block.sense.segs.length, b.seg n = (if mask.testBit n then { s.block.seg n with
            pendingMode := some (mode == 1, multipleFrom (rateTicks s.block.sense.rate) (s.block.sys.now + 10000)) } else s.block.seg n)) ∧ s.block.storesSettings b)
  ∧ (∀ s src mask, s.block.maskFitted mask = true → s.block.refBusyMask.land mask = 0 → mask ≠ 0 → Begins (.senseRefCheck src mask) s src 0x0304 true [.sense] fun b =>
      b.sense.refJob = some { src := src, named := mask, done := 0, passed := 0, dis := 0, failed := false }
      ∧ ∀ n < s.block.sense.segs.length, b.seg n = (if mask.testBit n then { s.block.seg n with refBusy := true } else s.block.seg n))
  ∧ (∀ s src, Serves (.senseRefCheck src 0) s src 0x0304 true [] .ok (leBytes 2 0 ++ leBytes 2 0) fun _ => True)
  ∧ (∀ s src mask, s.block.maskFitted mask = true → Serves (.senseRelearn src mask) s src 0x0305 true [.sense] .ok [] fun b =>
      ∀ j < s.block.sense.wires.length, b.wire j = (if mask.testBit (j / 32) ∨ (j % 32 = 0 ∧ 0 < j ∧ mask.testBit (j / 32 - 1) = true)
        then { s.block.wire j with learned := false, overLim := false } else s.block.wire j))
  ∧ (∀ s src cell therm, cell < s.block.nCell → therm < s.block.nTherm → cell < s.block.sense.cells.length →
      Serves (.senseSetThMap src cell therm) s src 0x0306 true [.sense, .upd] .ok [] fun b =>
        b.cell cell = { s.block.cell cell with thIdx := therm } ∧ (∀ c < 512, c ≠ cell → b.cell c = s.block.cell c) ∧ s.block.storesSettings b)
  ∧ (∀ s src mask curve, s.block.maskFitted mask = true → curve ≤ 1 → Serves (.senseSetThCurve src mask curve) s src 0x0307 true [.sense, .upd] .ok [] fun b =>
      (∀ n < s.block.sense.segs.length, b.seg n = (if mask.testBit n then { s.block.seg n with curve := curve } else s.block.seg n)) ∧ s.block.storesSettings b)
  ∧ (∀ s src rsh, s.block.sys.mstate ≠ .run → 45000 ≤ rsh → rsh ≤ 55000 → Serves (.senseSetShunt src rsh) s src 0x0308 true [.sense, .upd] .ok [] fun b =>
      b.sense = { s.block.sense with rsh := rsh } ∧ s.block.storesSettings b)
  ∧ (∀ s src, Serves (.senseGetConfig src) s src 0x0309 false [] (s.block.tilesStatus [0x41]) (wordsBytes ((s.block.frontTile 0x41).take 8)) fun _ => True)

/-! ### Sense integrity: comparators, bark line, open-wire test (03_sense_integrity.md) -/

/-- R94, R95, R96, R100, R103, R319: a comparator's output passes its deglitch and trips its segment until it is released; an external bark makes the Latch execute SPS. -/
def Obligations.ComparatorsTripAndTheBarkLineActs : Prop :=
  (∀ s (c : Fin 512) ov, c.val < s.block.nCell → (s.block.cell c).pair = false → s.block.slotOver false c = none → segOf c < s.block.sense.segs.length →
      ((s.block.seg (segOf c)).crossing.any fun x => x.1 == compId c false && x.2.1 == ov) = false → Happens (.comparatorCrossing c ov false) s [.sense] fun b =>
        b.seg (segOf c) = { s.block.seg (segOf c) with crossing := (s.block.seg (segOf c)).crossing ++ [(compId c false, ov, s.block.sys.now)] }
        ∧ (∀ m : Fin 16, m.val ≠ segOf c → b.seg m = s.block.seg m) ∧ b.sense.cells = s.block.sense.cells)
  ∧ (∀ s (c : Fin 512) ov n slot, c.val < s.block.nCell → (s.block.cell c).pair = false → s.block.slotOver false c = some n → (s.block.seg n).owt = some slot →
      slot.held.contains (c.val, ov) = false → Happens (.comparatorCrossing c ov false) s [.sense] fun b =>
        (b.seg n).owt = some { slot with held := slot.held ++ [(c.val, ov)] } ∧ (b.seg n).crossing = (s.block.seg n).crossing)
  ∧ (∀ s (c : Fin 512) ov, c.val < s.block.nCell → s.block.pairEngaged c = true → segOf c < s.block.sense.segs.length →
      ((s.block.seg (segOf c)).crossing.any fun x => x.1 == compId c true && x.2.1 == ov) = false → Happens (.comparatorCrossing c ov true) s [.sense] fun b =>
        b.seg (segOf c) = { s.block.seg (segOf c) with crossing := (s.block.seg (segOf c)).crossing ++ [(compId c true, ov, s.block.sys.now)] })
  ∧ (∀ s (c : Fin 512) ov x, ((s.block.seg (segOf c)).crossing.find? fun y => y.1 == compId c false && y.2.1 == ov) = some x → s.block.slotOver true c = none →
      Happens (.comparatorDeglitched c ov false) s [.sys, .sense, .ring] fun b =>
        b.sys.now = max s.block.sys.now (x.2.2 + usT) ∧ ((b.seg (segOf c)).tripped.any fun y => y.1 == compId c false && y.2.1 == ov) = true
        ∧ b.ring.trips = insertIdx (segOf c) s.block.ring.trips ∧ b.ring.rungs = s.block.ring.rungs
        ∧ (b.seg (segOf c)).ovLat = (if ov then (s.block.seg (segOf c)).ovLat.lor (compMask (compId c false)) else (s.block.seg (segOf c)).ovLat)
        ∧ (b.seg (segOf c)).uvLat = (if ov then (s.block.seg (segOf c)).uvLat else (s.block.seg (segOf c)).uvLat.lor (compMask (compId c false)))
        ∧ ∀ m : Fin 16, m.val ≠ segOf c → b.seg m = s.block.seg m)
  ∧ (∀ s (c : Fin 512) ov pair, (∀ x ∈ (s.block.seg (segOf c)).tripped, x.1 = compId c pair ∧ x.2.1 = ov) →
      Happens (.comparatorRelease c ov pair) s [.sense, .ring, .leash, .latch] fun b =>
        (b.seg (segOf c)).tripped = [] ∧ (∀ x ∈ (b.seg (segOf c)).crossing, ¬(x.1 = compId c pair ∧ x.2.1 = ov)) ∧ segOf c ∉ b.ring.trips ∧ segOf c ∉ b.leash.tripsUp
        ∧ (3, segOf c) ∉ b.latch.causes ∧ (b.seg (segOf c)).ovLat = (s.block.seg (segOf c)).ovLat ∧ (b.seg (segOf c)).uvLat = (s.block.seg (segOf c)).uvLat
        ∧ ∀ m : Fin 16, m.val ≠ segOf c → (b.seg m).tripped = (s.block.seg m).tripped)
  ∧ (∀ s earlier, s.block.bark.drive = false → s.block.latch.resetting = none → s.block.latch.state = .armed → Happens (.externalBark earlier) s actedOn fun b =>
      b.bark.line = false ∧ b.bark.lowAt = some s.block.sys.now ∧ b.bark.falls = satAdd 65535 s.block.bark.falls 1 ∧ b.bark.extLat = true ∧ b.bark.drive = false
      ∧ s.block.hasActed b false 4 0)
  ∧ (∀ s earlier, s.block.bark.drive = false → s.block.latch.resetting = none → s.block.latch.state = .test ∨ s.block.latch.state = .lockout →
      Happens (.externalBark earlier) s [.bark] fun b =>
        b.bark = { s.block.bark with line := false, lowAt := some s.block.sys.now, falls := satAdd 65535 s.block.bark.falls 1, extLat := true })
  ∧ (∀ s, s.block.bark.drive = true → Happens (.externalBark false) s [] fun _ => True)

/-- R102, R103, R104, R105, R106, R107, R108: the slots of the open-wire test and what each result leads to.
Part of it rests on the model's own choice (log entry 20). -/
def Obligations.OpenWireTestJudgesEachWire : Prop :=
  (∀ s t, s.block.sense.owtNext = some t → Happens .owtCycleStart s [.sys, .sense] fun b =>
      b.sense.owtCycle = some (multipleFrom (rateTicks s.block.sense.rate) (max t s.block.sys.now)) ∧ b.sense.owtNext = none
      ∧ b.sys.now = max s.block.sys.now (multipleFrom (rateTicks s.block.sense.rate) (max t s.block.sys.now)) ∧ b.sense.segs = s.block.sense.segs)
  ∧ (∀ s, s.block.sense.owtNext = none → Happens .owtCycleStart s [.sys, .sense] fun b =>
      b.sense.owtCycle = some (multipleFrom (rateTicks s.block.sense.rate) (s.block.nextMultiple (100 * msT))) ∧ b.sense.segs = s.block.sense.segs)
  ∧ (∀ s (n : Fin 16) j, n.val < s.block.nSeg → j ≤ s.block.nCell → s.block.testSeg j = n.val → (s.block.seg n).owt = none → n.val < s.block.sense.segs.length →
      Happens (.owtSlotBegin n j) s [.sys, .sense] fun b =>
        b.seg n = { s.block.seg n with slotOpen := true, owt := some { wire := j, phase := 1, blanked := !pairless j, held := [], result := none } }
        ∧ (∀ t ∈ s.block.sense.owtCycle, s.block.slowTest = false → b.sys.now = max s.block.sys.now (t + 2 * s.block.testPlace j * rateTicks s.block.sense.rate - 1400))
        ∧ ∀ m : Fin 16, m ≠ n → b.seg m = s.block.seg m)
  ∧ (∀ s (n : Fin 16) o, (s.block.seg n).owt = some o → o.phase = 1 → Happens (.owtTestCurrentOn n) s [.sys, .sense] fun b =>
      b.sys.now = s.block.sys.now + 200 ∧ b.seg n = { s.block.seg n with owt := some { o with phase := 2 } })
  ∧ (∀ s (n : Fin 16) o, (s.block.seg n).owt = some o → o.phase = 2 → Happens (.owtTestCurrentOff n) s [.sys, .sense] fun b =>
      b.sys.now = s.block.sys.now + 1300 ∧ b.seg n = { s.block.seg n with owt := some { o with phase := 3 }, slotOpen := false })
  ∧ (∀ s (n : Fin 16) o rd, (s.block.seg n).owt = some o → o.phase = 3 → (s.block.classify o.wire rd).1 = 0 → s.block.sense.testWire = none → s.block.sense.clearOpen = none →
      o.wire < s.block.sense.wires.length → Happens (.owtClassify n rd) s [.sys, .sense] fun b =>
        b.sys.now = s.block.sys.now + 300 ∧ (b.seg n).owt = some { o with phase := 4, result := some 0 }
        ∧ b.wire o.wire = { s.block.wire o.wire with patterns := 0, susp := (s.block.wire o.wire).opened } ∧ ∀ j < 513, j ≠ o.wire → b.wire j = s.block.wire j)
  ∧ (∀ s (n : Fin 16) o rd, (s.block.seg n).owt = some o → o.phase = 3 → (s.block.classify o.wire rd).1 = 1 → s.block.sense.testWire = none → s.block.sense.clearOpen = none →
      o.wire < s.block.sense.wires.length → Happens (.owtClassify n rd) s [.sys, .sense] fun b =>
        (b.seg n).owt = some { o with phase := 4, result := some 1 } ∧ b.wire o.wire = { s.block.wire o.wire with patterns := 0, susp := true })
  ∧ (∀ s (n : Fin 16) o rd, (s.block.seg n).owt = some o → o.phase = 3 → (s.block.classify o.wire rd).1 = 2 → s.block.sense.testWire = none → s.block.sense.clearOpen = none →
      o.wire < s.block.sense.wires.length → o.wire ≠ 0 → o.wire ≠ s.block.nCell → pairless o.wire = false → s.block.pairHolds o.wire rd = true → s.block.sumsHold rd = true →
      (s.block.wire o.wire).patterns = 0 → (s.block.wire o.wire).opened = false → Happens (.owtClassify n rd) s [.sys, .sense] fun b =>
        (b.seg n).owt = some { o with phase := 4, result := some 2 } ∧ b.wire o.wire = { s.block.wire o.wire with patterns := 1, susp := true })
  ∧ (∀ s (n : Fin 16) o rd, (s.block.seg n).owt = some o → o.phase = 3 → (s.block.classify o.wire rd).1 = 2 → s.block.sense.testWire = none → s.block.sense.clearOpen = none →
      o.wire < s.block.sense.wires.length → o.wire ≠ 0 → o.wire ≠ s.block.nCell → pairless o.wire = false → s.block.pairHolds o.wire rd = true → s.block.sumsHold rd = true →
      (s.block.wire o.wire).patterns = 1 → (s.block.wire o.wire).opened = false → Happens (.owtClassify n rd) s ([.ring] ++ actedOn) fun b =>
        (b.wire o.wire).opened = true ∧ (b.wire o.wire).susp = true
        ∧ ((s.block.seg (segOf o.wire)).pairs.length < 2 → (s.block.cell o.wire).pair = false → (s.block.cell (o.wire - 1)).pair = false → o.wire < s.block.sense.cells.length →
            segOf o.wire < s.block.sense.segs.length → (b.cell o.wire).pair = true ∧ (b.cell (o.wire - 1)).pair = true))
  ∧ (∀ s (n : Fin 16) o rd, (s.block.seg n).owt = some o → o.phase = 3 → 2 ≤ (s.block.classify o.wire rd).1 → s.block.sense.testWire = none → s.block.sense.clearOpen = none →
      o.wire ≠ 0 → o.wire ≠ s.block.nCell → pairless o.wire = false → s.block.pairHolds o.wire rd = false → Happens (.owtClassify n rd) s controlled fun b =>
        s.block.raised b .cellPairAnomaly o.wire ∧ (b.wire o.wire).opened = (s.block.wire o.wire).opened)
  ∧ (∀ s (n : Fin 16) o rd i q, (s.block.seg n).owt = some o → o.phase = 3 → (s.block.classify o.wire rd).1 = 0 → s.block.sense.testWire = some (.session i q, o.wire) →
      s.block.sense.clearOpen = none → (s.block.entry? i q).isSome = true → Happens (.owtClassify n rd) s [.sys, .sense, .ix, .pwr] fun b =>
        b.sense.testWire = none ∧ b.answered (.session i q) .ok
          (leBytes 1 0 ++ leBytes 4 (s32Word (some (s.block.classify o.wire rd).2)).toNat ++ leBytes 4 (s32Word (if pairless o.wire then none else rd.pair)).toNat))
  ∧ (∀ s (n : Fin 16) o rd i q, (s.block.seg n).owt = some o → o.phase = 3 → (s.block.classify o.wire rd).1 = 0 → s.block.sense.testWire = none →
      s.block.sense.clearOpen = some (.session i q, o.wire, 1, true) → (s.block.entry? i q).isSome = true → o.wire < s.block.sense.wires.length →
      Happens (.owtClassify n rd) s ([.ring] ++ actedOn) fun b =>
        b.sense.clearOpen = none ∧ (b.wire o.wire).opened = false ∧ (b.wire o.wire).susp = false ∧ b.answered (.session i q) .ok [])
  ∧ (∀ s (n : Fin 16) o, (s.block.seg n).owt = some o → o.phase = 4 → o.result = some 2 → Happens (.owtRestoreOn n) s [.sys, .sense] fun b =>
      b.sys.now = s.block.sys.now + 100 ∧ b.seg n = { s.block.seg n with owt := some { o with phase := 5 } })
  ∧ (∀ s (n : Fin 16) o, (s.block.seg n).owt = some o → o.phase = 5 → Happens (.owtRestoreOff n) s [.sys, .sense] fun b =>
      b.sys.now = s.block.sys.now + 1500 ∧ b.seg n = { s.block.seg n with owt := some { o with phase := 6 } })
  ∧ (∀ s (n : Fin 16) o, (s.block.seg n).owt = some o → o.phase = 6 ∨ (o.phase = 4 ∧ o.result ≠ some 2) → o.held = [] → Happens (.owtBlankEnd n) s [.sys, .sense] fun b =>
      b.sys.now = s.block.sys.now + 100 ∧ b.seg n = { s.block.seg n with owt := none, owtCycles := (s.block.seg n).owtCycles
        + (if o.wire = 32 * n.val + (if n.val + 1 = s.block.nSeg then 32 else 31) then 1 else 0) })

/-- R108, R111, R115: the integrity commands. -/
def Obligations.IntegrityCommandsSetOrBeginWhatTheyName : Prop :=
  (∀ s src mode ms, mode ≤ 1 → 100 ≤ ms → ms ≤ 60000 → ms % 100 = 0 → Serves (.integSetLeashMode src mode ms) s src 0x0310 true [.leash, .upd] .ok [] fun b =>
      b.leash.lossMode = mode ∧ b.leash.broddaMs = ms ∧ b.leash.waiting = (if s.block.anyLane then s.block.leash.waiting
        ++ [{ tag := s.block.leash.nextTag, kind := .leashMode mode ms, sent := 1, carries := none }] else s.block.leash.waiting)
      ∧ b.leash.lanes = s.block.leash.lanes ∧ s.block.storesSettings b)
  ∧ (∀ s src wire, s.block.sys.mstate ≠ .boot → wire ≤ s.block.nCell → Begins (.integTestWire src wire) s src 0x0311 true [.sense] fun b =>
      b.sense = { s.block.sense with testWire := some (src, wire) })
  ∧ (∀ s src wire, wire ≤ s.block.nCell → (s.block.wire wire).opened = true → (s.block.seg (s.block.testSeg wire)).owt = none →
      Begins (.integClearOpen src wire) s src 0x0312 true [.sense] fun b => b.sense = { s.block.sense with clearOpen := some (src, wire, 3, true) })
  ∧ (∀ s src wire o, wire ≤ s.block.nCell → (s.block.wire wire).opened = true → (s.block.seg (s.block.testSeg wire)).owt = some o → o.wire = wire →
      Begins (.integClearOpen src wire) s src 0x0312 true [.sense] fun b => b.sense = { s.block.sense with clearOpen := some (src, wire, 4, true) })
  ∧ (∀ s src on, on ≤ 1 → Serves (.integSetBarkPullup src on) s src 0x0313 true [.bark, .upd] .ok [] fun b =>
      b.bark = { s.block.bark with pullUp := on == 1 } ∧ s.block.storesSettings b)

/-! ### Balancing (04_shuttle_balancing.md) -/

/-- R128, R130, R132, R133, R134, R135, R138, R139: decisions, targets, derating and faults of the elements.
Part of it rests on the model's own choice (log entries 4 and 45). -/
def Obligations.BalancingDecidesDeratesAndFails : Prop :=
  (∀ s t, s.block.bal.sent = some t → s.block.bal.stagedActive = false → Happens .targetsFrame s [.bal] fun b =>
      b.bal = { s.block.bal with sent := none, staged := t.1, stagedBridges := t.2, stagedActive := true, staggerNext := 0 })
  ∧ (∀ s t, s.block.bal.sent = some t → s.block.bal.stagedActive = true → Happens .targetsFrame s [.bal] fun b =>
      b.bal = { s.block.bal with sent := none, queued := some t })
  ∧ (∀ s, s.block.bal.clearing = none → s.block.bal.en = true → s.block.bal.disabling = none → s.block.sys.mstate = .park ∨ s.block.sys.mstate = .run → s.block.hinge = false →
      s.block.bal.cells.length = 512 → s.block.pwr.sdsCap = s.block.sdsOn → Happens .placementDecision s [.sys, .bal] fun b =>
        b.sys.now = s.block.nextMultiple 10000000 ∧ b.bal.decisions = (s.block.bal.decisions + 1) % 4294967296
        ∧ (∀ c < 512, (b.cellBal c).exclReason = s.block.exclusion c ∧ (s.block.exclusion c ≠ 0 → (b.cellBal c).dev = none ∧ (b.cellBal c).donor = false ∧ (b.cellBal c).receiver = false))
        ∧ (∀ y ∈ s.block.surpluses.1, (b.cellBal y.cell).dev = some (y.d / fxOne)
            ∧ ((b.cellBal y.cell).donor, (b.cellBal y.cell).receiver) = newRoles s.block.bal.policy y.d (s.block.cellBal y.cell))
        ∧ ∃ t ∈ b.bal.sent, ∀ x ∈ t.1, s.block.exclusion x.cell = 0 ∧ (x.bleed = true ∨ 0 < x.cur → s.block.noDraw x.cell = false)
            ∧ (x.bleed = false ∧ x.cur < 0 → s.block.noFeedV x.cell = false ∧ s.block.noFeedT x.cell = false))
  ∧ (∀ s, s.block.bal.clearing = none → s.block.bal.en = false ∨ (s.block.sys.mstate ≠ .park ∧ s.block.sys.mstate ≠ .run) ∨ s.block.hinge = true →
      Happens .placementDecision s [.sys, .bal] fun b =>
        b.sys.now = s.block.nextMultiple 10000000 ∧ b.bal.decisions = s.block.bal.decisions ∧ b.bal.sent = s.block.bal.sent ∧ b.bal.cells = s.block.bal.cells)
  ∧ (∀ s i q m t, s.block.bal.clearing = some (.session i q, m, t) → (s.block.entry? i q).isSome = true → t + secT ≤ s.block.nextMultiple 10000000 → s.block.bal.en = false →
      (∀ n < 16, ((s.block.segBal n).shuttles.any fun h => h.state == .outOfService) = false ∧ (s.block.segBal n).bridgeFault = false) →
      (∀ c < 512, (s.block.cellBal c).stuck = false) → Happens .placementDecision s [.sys, .bal, .ix, .pwr] fun b =>
        b.bal.clearing = none ∧ b.answered (.session i q) .ok (leBytes 2 (2 ^ s.block.nSeg - 1)))
  ∧ (∀ s (n : Fin 16) t, t < 8500 → (s.block.segBal n).overTemp = false → n.val < s.block.bal.segs.length → n.val < s.block.sense.segs.length →
      Happens (.dieTemperatureChange n t) s [.sense, .bal] fun b =>
        b.segBal n = { s.block.segBal n with kt := 65535, derating := false } ∧ b.seg n = { s.block.seg n with dieT := some t, twarn := false } ∧ b.bal.cells = s.block.bal.cells
        ∧ ∀ m : Fin 16, m ≠ n → b.segBal m = s.block.segBal m ∧ b.seg m = s.block.seg m)
  ∧ (∀ s (n : Fin 16) t, 8500 ≤ t → t < 10500 → (s.block.segBal n).overTemp = false → n.val < s.block.bal.segs.length → n.val < s.block.sense.segs.length →
      Happens (.dieTemperatureChange n t) s [.sense, .bal] fun b =>
        (b.segBal n).kt = min 65535 ((10500 - t) * 65536 / 2000).toNat ∧ (b.segBal n).derating = true ∧ (b.segBal n).overTemp = false
        ∧ b.seg n = { s.block.seg n with dieT := some t, twarn := decide (9500 ≤ t) || ((s.block.seg n).twarn && decide (9000 ≤ t)) }
        ∧ (∀ c < 512, segOf c = n → 10000 < t → (b.cellBal c).bleed = false) ∧ (t ≤ 10000 → b.bal.cells = s.block.bal.cells)
        ∧ ∀ m : Fin 16, m ≠ n → b.segBal m = s.block.segBal m ∧ b.seg m = s.block.seg m)
  ∧ (∀ s (n : Fin 16) t, 10500 ≤ t → n.val < s.block.bal.segs.length → n.val < s.block.sense.segs.length → Happens (.dieTemperatureChange n t) s [.sense, .bal] fun b =>
      (b.segBal n).kt = 0 ∧ (b.segBal n).overTemp = true ∧ (b.segBal n).bridge = 0 ∧ (∀ h ∈ (b.segBal n).shuttles, h.cur = 0) ∧ (∀ c < 512, segOf c = n → (b.cellBal c).bleed = false)
      ∧ (∀ m ∈ b.bal.manuals, m.seg ≠ n.val) ∧ (b.seg n).twarn = true ∧ (b.seg n).dieT = some t)
  ∧ (∀ s (n : Fin 16) (i : Fin 4), s.block.bal.clearing = none → (∀ m ∈ s.block.bal.manuals, m.seg ≠ n.val) → n.val < s.block.bal.segs.length → i.val < (s.block.segBal n).shuttles.length →
      Happens (.shuttleFault n i) s [.sense, .bal] fun b =>
        (b.segBal n).shuttles = (s.block.segBal n).shuttles.set i { state := .outOfService, cell := 0, cur := 0, runsThrough := false }
        ∧ (∀ h ∈ (s.block.segBal n).shuttles[i.val]?, h.state = .learning → (b.cell h.cell).learnp = false)
        ∧ ∀ m : Fin 16, m ≠ n → b.segBal m = s.block.segBal m)
  ∧ (∀ s (n : Fin 15), s.block.bal.clearing = none → n.val < s.block.bal.segs.length → Happens (.bridgeFault n) s [.bal] fun b =>
      b.segBal n = { s.block.segBal n with bridge := 0, bridgeOn := false, bridgeFault := true } ∧ b.bal.cells = s.block.bal.cells
      ∧ ∀ m : Fin 16, m.val ≠ n.val → b.segBal m = s.block.segBal m)
  ∧ (∀ s (c : Fin 512) d, s.block.bal.clearing = none → c.val < s.block.bal.cells.length → Happens (.bleedStuck c d) s [.bal] fun b =>
      b.cellBal c = { s.block.cellBal c with stuck := true, drain := d } ∧ b.bal.segs = s.block.bal.segs ∧ b.exclusion c = s.block.exclusion c
      ∧ ∀ k : Fin 512, k ≠ c → b.cellBal k = s.block.cellBal k)
  ∧ (∀ s (n : Fin 15) i q m t, s.block.bal.clearing = some (.session i q, m, t) → m.testBit n = true → s.block.sys.now ≤ t + secT → (s.block.entry? i q).isSome = true →
      Happens (.bridgeFault n) s [.bal, .ix, .pwr] fun b => b.bal.clearing = none ∧ b.answered (.session i q) .fault (leBytes 2 0))
  ∧ (∀ s (n : Fin 16) m, s.block.bal.manuals = [m] → m.seg = n.val → m.target.bleed = false → n.val < s.block.bal.segs.length → Happens (.balManualExpiry n) s [.sys, .bal] fun b =>
      b.sys.now = max s.block.sys.now m.endAt ∧ b.bal.manuals = [] ∧ b.bal.cells = s.block.bal.cells ∧ (b.segBal n).shuttles = modAt (s.block.segBal n).shuttles m.target.shuttle Shuttle.open_)
  ∧ (∀ s i q, s.block.bal.disabling = some (.session i q) → (s.block.entry? i q).isSome = true → s.block.bal.manuals = [] → Happens .balDisableDone s [.bal, .ix, .pwr] fun b =>
      b.bal.en = false ∧ b.bal.disabling = none ∧ (∀ c < 512, (b.cellBal c).bleed = false ∧ (b.cellBal c).donor = false ∧ (b.cellBal c).receiver = false)
      ∧ (∀ n < 16, (b.segBal n).bridge = 0 ∧ ∀ h ∈ (b.segBal n).shuttles, h.state = .running ∨ h.state = .learning → False) ∧ b.answered (.session i q) .ok [])

/-- R126, R127, R135, R137, R138, R140: the balancing commands. -/
def Obligations.BalancingCommandsSetWhatTheyName : Prop :=
  (∀ s src, Serves (.balEnable src 1) s src 0x0401 true [.bal, .upd] .ok [] fun b => b.bal = { s.block.bal with en := true } ∧ s.block.storesSettings b)
  ∧ (∀ s src, s.block.bal.en = true → Begins (.balEnable src 0) s src 0x0401 true [.bal, .upd] fun b =>
      b.bal = { s.block.bal with disabling := some src, sent := some ([], (List.range 15).map fun n => (n, 0)) } ∧ b.bal.en = true ∧ s.block.storesSettings b)
  ∧ (∀ s src, s.block.bal.en = false → Serves (.balEnable src 0) s src 0x0401 true [] .ok [] fun _ => True)
  ∧ (∀ s src goal mode, goal ≤ 2 → mode ≤ 2 → Serves (.balSetGoal src goal mode) s src 0x0402 true [.bal, .upd] .ok [] fun b =>
      b.bal = { s.block.bal with policy := { s.block.bal.policy with goal := goal, mode := mode } } ∧ s.block.storesSettings b)
  ∧ (∀ s src start stop brStart brStop, 10 ≤ start → start ≤ 1000000 → stop < start → 100 ≤ brStart → brStart ≤ 10000000 → brStop < brStart →
      Serves (.balSetThresh src start stop brStart brStop) s src 0x0403 true [.bal, .upd] .ok [] fun b =>
        b.bal = { s.block.bal with policy := { s.block.bal.policy with start := start, stop := stop, brStart := brStart, brStop := brStop } } ∧ s.block.storesSettings b)
  ∧ (∀ s src iSet iBr vMargin tFeedMin tMax maxBleed pwrMax, 100 ≤ iSet → iSet ≤ 2000 → iSet % 50 = 0 → 100 ≤ iBr → iBr ≤ 2000 → iBr % 50 = 0 → 20000 ≤ vMargin → vMargin ≤ 500000 →
      vMargin % 1000 = 0 → -2000 ≤ tFeedMin → tFeedMin ≤ 2500 → 3000 ≤ tMax → tMax ≤ 7000 → maxBleed ≤ 32 → 5 ≤ pwrMax → pwrMax ≤ 150 →
      Serves (.balSetLimits src iSet iBr vMargin tFeedMin tMax maxBleed pwrMax) s src 0x0404 true [.bal, .upd] .ok [] fun b =>
        b.bal = { s.block.bal with policy := { s.block.bal.policy with iSet := iSet, iBr := iBr, vMargin := vMargin, tFeedMin := tFeedMin, tMax := tMax, maxBleed := maxBleed,
                                                                       pwrMax := pwrMax } } ∧ s.block.storesSettings b)
  ∧ (∀ s src cell cur time i, s.block.sys.mstate = .park → cell < s.block.nCell → 100 ≤ |cur| → |cur| ≤ 2000 → cur % 50 = 0 → 1 ≤ time → time ≤ 3600 → s.block.exclusion cell = 0 →
      (s.block.bal.manuals.find? fun m => m.seg == segOf cell) = none → s.block.manualShuttle (segOf cell) = some i → (s.block.segBal (segOf cell)).overTemp = false →
      s.block.shuttleVolts cell = true → (if 0 < cur then s.block.noDraw cell else s.block.noFeedV cell || s.block.noFeedT cell) = false → segOf cell < s.block.bal.segs.length →
      Serves (.balManual src cell 0 cur time) s src 0x0405 true [.bal] .ok (leBytes 1 i) fun b =>
        b.bal.manuals = s.block.bal.manuals ++ [{ seg := segOf cell, target := { cell := cell, bleed := false, shuttle := i, cur := cur, manual := true },
                                                  endAt := s.block.sys.now + time * secT, charge := 0 }]
        ∧ (b.segBal (segOf cell)).shuttles = modAt (s.block.segBal (segOf cell)).shuttles i fun _ => { state := .manual, cell := cell, cur := cur, runsThrough := s.block.compensatedCell cell })
  ∧ (∀ s src cell cur time, s.block.sys.mstate = .park → cell < s.block.nCell → 100 ≤ cur → cur ≤ 2000 → cur % 50 = 0 → 1 ≤ time → time ≤ 3600 → s.block.exclusion cell = 0 →
      (s.block.bal.manuals.find? fun m => m.seg == segOf cell) = none → (s.block.segBal (segOf cell)).overTemp = false → s.block.noDraw cell = false → cell < s.block.bal.cells.length →
      Serves (.balManual src cell 1 cur time) s src 0x0405 true [.bal] .ok (leBytes 1 ((s.block.manualShuttle (segOf cell)).getD 0)) fun b =>
        b.cellBal cell = { s.block.cellBal cell with bleed := true } ∧ b.bal.segs = s.block.bal.segs ∧ b.bal.manuals.length = s.block.bal.manuals.length + 1)
  ∧ (∀ s src cell time m, s.block.sys.mstate = .park → cell < s.block.nCell → 1 ≤ time → time ≤ 3600 → s.block.bal.manuals = [m] → m.seg = segOf cell → m.target.cell = cell →
      m.target.bleed = true → cell < s.block.bal.cells.length → Serves (.balManual src cell 0 0 time) s src 0x0405 true [.bal] .ok (leBytes 1 m.target.shuttle) fun b =>
        b.bal.manuals = [] ∧ b.cellBal cell = { s.block.cellBal cell with bleed := false })
  ∧ (∀ s src mask, s.block.maskFitted mask = true → Begins (.balClearFault src mask) s src 0x0406 true [.bal] fun b =>
      b.bal.clearing = some (src, mask, s.block.sys.now) ∧ ∀ n < 16, mask.testBit n = true →
        (b.segBal n).bridgeFault = false ∧ (∀ h ∈ (b.segBal n).shuttles, h.state ≠ .outOfService) ∧ ∀ i < 32, (b.cellBal (32 * n + i)).stuck = false)
  ∧ (∀ s src, Serves (.balGetConfig src) s src 0x0407 false [] (s.block.tilesStatus [0x42]) (wordsBytes ((s.block.frontTile 0x42).take 9)) fun _ => True)

/-! ### Cell state filters (05_cell_state_filters.md) -/

/-- R146, R152, R156, R159, R161, R163, R164, R165, R166, R179: the filter step, rest observations, reference points and the loss of VALID.
Part of it rests on the model's own choice (log entry 6). -/
def Obligations.FiltersStepObserveAndLoseValidity : Prop :=
  (∀ s, s.block.sys.mstate ∈ [MState.park, .run, .fault, .safe] → s.block.flt.wakePending = false → s.block.seqsOk ≠ 0 →
      Happens .filterStep s [.sys, .flt] fun b =>
        b.sys.now = s.block.nextMultiple 1000000 ∧ b.flt.steps = s.block.flt.steps + 1 ∧ b.flt.lastStep = s.block.nextMultiple 1000000 % 4294967296 ∧ b.flt.slots = s.block.flt.slots
        ∧ b.flt.config = s.block.flt.config
        ∧ (∀ c < s.block.nCell, c < s.block.flt.cells.length → s.block.stepsNow c = false → b.cellFlt c = { s.block.cellFlt c with missed := (s.block.cellFlt c).missed + 1 })
        ∧ (∀ c < s.block.nCell, c < s.block.flt.cells.length → s.block.stepsNow c = true → s.block.slotOf c = none ∨ (s.block.cellFlt c).initialised = false →
            (b.cellFlt c).valid = false ∧ (b.cellFlt c).z = (s.block.cellFlt c).z ∧ (b.cellFlt c).nV = 0)
        ∧ (∀ c < s.block.nCell, c < s.block.flt.cells.length → s.block.stepsNow c = true → s.block.slotOf c ≠ none → (s.block.cellFlt c).initialised = true → (s.block.cellFlt c).nI = 0 →
            b.cellFlt c = { s.block.cellFlt c with skipped := true, missed := (s.block.cellFlt c).missed + 1, predRun := (s.block.cellFlt c).predRun + 1 })
        ∧ ∀ c < s.block.nCell, c < s.block.flt.cells.length → s.block.stepsNow c = true → s.block.slotOf c ≠ none → (s.block.cellFlt c).initialised = true → (s.block.cellFlt c).nI ≠ 0 →
            -fxOne ≤ (b.cellFlt c).h ∧ (b.cellFlt c).h ≤ fxOne ∧ -(fxOne / 20) ≤ (b.cellFlt c).z ∧ (b.cellFlt c).z ≤ fxOne + fxOne / 20 ∧ 0 ≤ (b.cellFlt c).r ∧ (b.cellFlt c).r ≤ fxOne
            ∧ ((b.cellFlt c).valid = true → (b.cellFlt c).sigma ≤ s.block.sigmaValid ∧ b.sys.now < (b.cellFlt c).tempAt + 60 * secT)
            ∧ (b.cellFlt c).pred = decide ((s.block.cellFlt c).nV = 0) ∧ (b.cellFlt c).nV = 0 ∧ (b.cellFlt c).nI = 0 ∧ (b.cellFlt c).missed = 0
            ∧ ((s.block.cellFlt c).nV = 0 → (b.cellFlt c).predRun = (s.block.cellFlt c).predRun + 1) ∧ ((b.cellFlt c).innov = true → (b.cellFlt c).innovRun = (s.block.cellFlt c).innovRun + 1))
  ∧ (∀ s, s.block.sys.mstate ∈ [MState.off, .boot, .hibernate] ∨ s.block.seqsOk = 0 → Happens .filterStep s [] fun _ => True)
  ∧ (∀ s (k : Fin 512) t x v zv, (s.block.cellFlt k).restAt = some t → (s.block.cellFlt k).restSeen = false → (s.block.cellFlt k).initialised = true → k.val < s.block.nCell →
      k.val < s.block.flt.cells.length → (s.block.cellFlt k).restV ≠ [] → 3 ≤ s.block.seqsOk → s.block.slotOf k = some x →
      v = (((s.block.cellFlt k).restV.take 100).foldl (· + ·) 0) / (((s.block.cellFlt k).restV.take 100).length : Int) →
      zv = x.ocvInv (v - fxMul (x.mAt (s.block.cellFlt k).z ((s.block.cellFlt k).temp.getD Config.firstTemperature)) (s.block.cellFlt k).h - (s.block.cellFlt k).vA - (s.block.cellFlt k).vB
        - fxMul (s.block.cellFlt k).rs ((s.block.stepCurrent k).getD 0)) ((s.block.cellFlt k).temp.getD Config.firstTemperature) →
      Happens (.restObservation k) s [.sys, .flt] fun b =>
        b.sys.now = max s.block.sys.now (t + 30 * secT) ∧ (b.cellFlt k).restSeen = true ∧ (∀ j : Fin 512, j ≠ k → b.cellFlt j = s.block.cellFlt j)
        ∧ (if (s.block.cellFlt k).temp.isSome = true ∧ (s.block.cellFlt k).tSub = false ∧ (s.block.cellFlt k).tClamp = false ∧ (s.block.cell k).degr = false
              ∧ x.ocvAt (frac16 x.zEmpty) ((s.block.cellFlt k).temp.getD Config.firstTemperature) + fxQ 20 1000 < v ∧ fxQ s.block.flt.config.anchDz 10000 ≤ |zv - (s.block.cellFlt k).z|
            then (b.cellFlt k).z = zv ∧ (b.cellFlt k).relearn = true ∧ ent (b.cellFlt k).p 0 0 = fxQ 1 10000 ∧ (b.cellFlt k).r = (s.block.cellFlt k).r
            else (b.cellFlt k).z = (s.block.cellFlt k).z ∧ (b.cellFlt k).p = (s.block.cellFlt k).p))
  ∧ (∀ s (k : Fin 512) t x, (s.block.cellFlt k).fullAt = some t → s.block.slotOf k = some x → (s.block.cellFlt k).fullSeen = false → (s.block.cell k).degr = false →
      (s.block.cellFlt k).initialised = true → (s.block.cellFlt k).lastRef = none → k.val < s.block.flt.cells.length → s.block.sys.now ≤ t + 60 * secT →
      Happens (.fullChargeEvent k) s [.sys, .flt] fun b =>
        b.sys.now = t + 60 * secT ∧ b.cellFlt k = { s.block.cellFlt k with fullSeen := true, skipped := false, lastRef := some { q := (s.block.cellFlt k).q, z := frac16 x.zFull, time := b.optime } }
        ∧ ∀ j : Fin 512, j ≠ k → b.cellFlt j = s.block.cellFlt j)
  ∧ (∀ s (k : Fin 512) t x p dq dz, (s.block.cellFlt k).fullAt = some t → s.block.slotOf k = some x → (s.block.cellFlt k).fullSeen = false → (s.block.cell k).degr = false →
      (s.block.cellFlt k).initialised = true → (s.block.cellFlt k).lastRef = some p → k.val < s.block.flt.cells.length → s.block.sys.now ≤ t + 60 * secT →
      dq = fxQ ((s.block.cellFlt k).q - p.q) 3600000 → dz = frac16 x.zFull - p.z → fxQ s.block.flt.config.capDzMin 10000 ≤ |dz| →
      s.block.log.opBoot + (t + 60 * secT) / msT ≤ p.time + 604800000 → (dq < 0) = (dz < 0) → dq ≠ 0 → fxI (8 * ((s.block.cellFlt k).cap : Int)) ≤ fxDiv dq dz * 10 →
      fxDiv dq dz * 10 ≤ fxI (12 * ((s.block.cellFlt k).cap : Int)) → (s.block.cellFlt k).skipped = false → Happens (.fullChargeEvent k) s [.sys, .flt] fun b =>
        (b.cellFlt k).cap = capStep (s.block.cellFlt k).cap
          (fxQ (min 100 (if (s.block.cellFlt k).relearn then 2 * s.block.flt.config.capGain else s.block.flt.config.capGain)) 100) (fxDiv dq dz)
        ∧ (b.cellFlt k).capNew = false ∧ (b.cellFlt k).relearn = false ∧ (b.cellFlt k).fullSeen = true)
  ∧ (∀ s (k : Fin 512), 100 ≤ (s.block.cellFlt k).predRun → k.val < s.block.flt.cells.length → Happens (.filterValidLost k) s [.flt] fun b =>
      b.cellFlt k = { s.block.cellFlt k with valid := false, cleared156 := true } ∧ ∀ j : Fin 512, j ≠ k → b.cellFlt j = s.block.cellFlt j)
  ∧ (∀ s (k : Fin 512), (s.block.cellFlt k).predRun < 100 → Happens (.filterValidLost k) s [] fun _ => True)
  ∧ (∀ s (k : Fin 512), 100 ≤ (s.block.cellFlt k).innovRun → k.val < s.block.flt.cells.length → Happens (.fltInnov k) s [.flt] fun b =>
      b.cellFlt k = { s.block.cellFlt k with innovRun := 0 })
  ∧ (∀ s (k : Fin 512), s.block.tempInput k = none → (s.block.cellFlt k).initialised = true → k.val < s.block.flt.cells.length → Happens (.tempSourceTimeout k) s [.sys, .flt] fun b =>
      b.sys.now = max s.block.sys.now ((s.block.cellFlt k).tempAt + 60 * secT) ∧ b.cellFlt k = { s.block.cellFlt k with valid := false }
      ∧ ∀ j : Fin 512, j ≠ k → b.cellFlt j = s.block.cellFlt j)

/-- R170, R173, R534: the learned values are saved to the copy not in force, one save at a time; a copy is in force from the moment it is complete. A wake current ends HIBERNATE. -/
def Obligations.LearnedValuesAreSaved : Prop :=
  (∀ s, s.block.flt.saving = none → Happens .saveInterval s [.sys, .flt] fun b =>
      ∃ v ∈ b.flt.saving, v.cause = 1 ∧ v.toB = s.block.flt.aInForce ∧ v.copy.cause = 1 ∧ v.copy.valid = true ∧ v.copy.cells = (List.range 512).map b.learnEntry
        ∧ v.copy.gen = (s.block.flt.inForce.elim 1 fun c => c.gen + 1) % 4294967296
        ∧ (if v.toB then b.flt.copyB.valid = false ∧ b.flt.copyA = s.block.flt.copyA else b.flt.copyA.valid = false ∧ b.flt.copyB = s.block.flt.copyB))
  ∧ (∀ s v, s.block.flt.saving = some v → s.block.flt.saveAgain = none → Happens .saveInterval s [.sys, .flt] fun b =>
      b.flt = { s.block.flt with saveAgain := some 1 } ∧ b.sys.now = max s.block.sys.now ((s.block.flt.lastSave + 900000 - s.block.log.opBoot) * msT))
  ∧ (∀ s t, s.block.flt.chgLong = true → s.block.flt.lowAt = some t → s.block.flt.saving = none → Happens .chargeEndDetected s [.sys, .flt] fun b =>
      b.sys.now = max s.block.sys.now (t + 30 * secT) ∧ b.flt.chgLong = false ∧ ∃ v ∈ b.flt.saving, v.cause = 2 ∧ v.toB = s.block.flt.aInForce)
  ∧ (∀ s v, s.block.flt.saving = some v → s.block.flt.saveSrcs = [] → s.block.flt.saveAgain = none → Happens (.saveDone true) s [.flt] fun b =>
      b.flt.saving = none ∧ (if v.toB then b.flt.copyB = v.copy ∧ b.flt.copyA = s.block.flt.copyA else b.flt.copyA = v.copy ∧ b.flt.copyB = s.block.flt.copyB)
      ∧ b.flt.saves = s.block.flt.saves + 1 ∧ b.flt.lastCause = v.cause ∧ b.flt.lastSave = s.block.optime % 4294967296)
  ∧ (∀ s v, s.block.flt.saving = some v → s.block.flt.saveSrcs = [] → s.block.flt.saveAgain = none → Happens (.saveDone false) s [.flt] fun b =>
      b.flt.saving = none ∧ b.flt.copyA = s.block.flt.copyA ∧ b.flt.copyB = s.block.flt.copyB ∧ b.flt.saves = s.block.flt.saves ∧ b.flt.lastSave = s.block.flt.lastSave)
  ∧ (∀ s v ok i q, s.block.flt.saving = some v → s.block.flt.saveSrcs = [(.session i q, false)] → s.block.flt.saveAgain = none → (s.block.entry? i q).isSome = true →
      Happens (.saveDone ok) s [.flt, .ix, .pwr] fun b =>
        b.flt.saving = none ∧ b.flt.saveSrcs = [] ∧ b.answered (.session i q) (if ok then .ok else .fault) [])
  ∧ (∀ s v c, s.block.flt.saving = some v → s.block.flt.saveSrcs = [] → s.block.flt.saveAgain = some c → Happens (.saveDone true) s [.flt] fun b =>
      b.flt.saveAgain = none ∧ ∃ w ∈ b.flt.saving, w.cause = c)
  ∧ (∀ s, s.block.sys.mstate = .hibernate → Happens .wakeCurrent s controlled fun b => b.sys.mstate = .park ∧ b.sys.prev = .hibernate)
  ∧ (∀ s, s.block.sys.mstate ≠ .hibernate → Happens .wakeCurrent s [] fun _ => True)

/-- R149, R150, R151, R172, R173, R175: the filter commands. -/
def Obligations.FilterCommandsSetWhatTheyName : Prop :=
  (∀ s src rateRpt anchDz capDzMin capGain sigmaValid tSrc, 5 ≤ rateRpt → rateRpt ≤ 500 → 50 ≤ anchDz → anchDz ≤ 2000 → 1000 ≤ capDzMin → capDzMin ≤ 9000 → 1 ≤ capGain → capGain ≤ 100 →
      100 ≤ sigmaValid → sigmaValid ≤ 2000 → tSrc ≤ 1 →
      Serves (.fltSetConfig src rateRpt anchDz capDzMin capGain sigmaValid tSrc) s src 0x0501 true [.flt, .upd] .ok [] fun b =>
        b.flt = { s.block.flt with config := { rateRpt := rateRpt, anchDz := anchDz, capDzMin := capDzMin, capGain := capGain, sigmaValid := sigmaValid, tSrc := tSrc } }
        ∧ s.block.storesSettings b)
  ∧ (∀ s src slot bytes, slot ≤ 3 → 1 ≤ bytes.length → bytes.length ≤ 1024 → (∀ x ∈ s.block.flt.staging, x.1 ≠ slot) →
      Serves (.fltSlotWrite src slot 0 bytes) s src 0x0502 true [.flt] .ok [] fun b =>
        b.flt = { s.block.flt with staging := some (slot, bytes.map some ++ List.replicate (slotLen - bytes.length) none) })
  ∧ (∀ s src slot offset bytes old, slot ≤ 3 → 1 ≤ bytes.length → bytes.length ≤ 1024 → offset + bytes.length ≤ slotLen → s.block.flt.staging = some (slot, old) → old.length = slotLen →
      Serves (.fltSlotWrite src slot offset bytes) s src 0x0502 true [.flt] .ok [] fun b =>
        b.flt = { s.block.flt with staging := some (slot, old.take offset ++ bytes.map some ++ old.drop (offset + bytes.length)) })
  ∧ (∀ s src slot bytes, slot ≤ 3 → s.block.sys.mstate ≠ .run ∨ s.block.slotUsed slot = false → s.block.flt.staging = some (slot, bytes) → slotCheck bytes = 0 →
      Serves (.fltSlotCommit src slot) s src 0x0503 true [.flt, .upd] .ok (leBytes 1 0 ++ leBytes 4 (parseSlot (bytes.map fun y => y.getD 0)).crc) fun b =>
        b.flt = { s.block.flt with staging := none, slots := modAt s.block.flt.slots slot fun _ => some (parseSlot (bytes.map fun y => y.getD 0)) } ∧ s.block.storesSettings b)
  ∧ (∀ s src slot bytes, slot ≤ 3 → s.block.sys.mstate ≠ .run ∨ s.block.slotUsed slot = false → s.block.flt.staging = some (slot, bytes) → slotCheck bytes ≠ 0 →
      Serves (.fltSlotCommit src slot) s src 0x0503 true [] .badParam (leBytes 1 (slotCheck bytes) ++ leBytes 4 0) fun _ => True)
  ∧ (∀ s src slot offset length x, slot ≤ 3 → 1 ≤ length → length ≤ 1024 → offset + length ≤ slotLen → s.block.flt.slots.getD slot none = some x →
      Serves (.fltSlotRead src slot offset length) s src 0x0504 false [] .ok ((x.bytes.drop offset).take length) fun _ => True)
  ∧ (∀ s src mask slot x, s.block.sys.mstate = .park → s.block.maskFitted mask = true → slot ≤ 3 → s.block.flt.slots.getD slot none = some x → s.block.flt.cells.length = 512 →
      s.block.flt.slotMap.length = 16 → Serves (.fltSetSlot src mask slot) s src 0x0505 true [.flt, .upd] .ok [] fun b =>
        (∀ n < 16, b.flt.slotMap.getD n 0 = if mask.testBit n then slot else s.block.flt.slotMap.getD n 0) ∧ s.block.storesSettings b
        ∧ ∀ c < 512, (mask.testBit (segOf c) = false → b.cellFlt c = s.block.cellFlt c)
            ∧ (c < s.block.nCell → mask.testBit (segOf c) = true → (b.cellFlt c).cap = x.capNom ∧ (b.cellFlt c).h = 0 ∧ (b.cellFlt c).vA = 0 ∧ (b.cellFlt c).vB = 0
                ∧ (b.cellFlt c).rs = fxQ x.rs0 1000000 ∧ (b.cellFlt c).capNew = true ∧ (b.cellFlt c).r = (s.block.cellFlt c).r))
  ∧ (∀ s src cell cap, cell < s.block.nCell → 1000 ≤ cap → cap ≤ 2000000 → cell < s.block.flt.cells.length →
      Serves (.fltSetCap src cell cap) s src 0x0506 true [.flt] .ok [] fun b =>
        b.cellFlt cell = { s.block.cellFlt cell with cap := cap, relearn := true, capNew := false } ∧ ∀ j : Fin 512, j.val ≠ cell → b.cellFlt j = s.block.cellFlt j)
  ∧ (∀ s src cell x, s.block.sys.mstate = .park → cell < s.block.nCell → s.block.slotOf cell = some x → cell < s.block.flt.cells.length →
      Serves (.fltResetCell src cell) s src 0x0507 true [.flt] .ok [] fun b =>
        (b.cellFlt cell).cap = x.capNom ∧ (b.cellFlt cell).rs = fxQ x.rs0 1000000 ∧ (b.cellFlt cell).h = 0 ∧ (b.cellFlt cell).vA = 0 ∧ (b.cellFlt cell).vB = 0
        ∧ (b.cellFlt cell).capNew = true ∧ ent (b.cellFlt cell).p 0 0 = fxQ 100 10000 ∧ (b.cellFlt cell).r = (s.block.cellFlt cell).r
        ∧ ∀ j : Fin 512, j.val ≠ cell → b.cellFlt j = s.block.cellFlt j)
  ∧ (∀ s src, s.block.sys.mstate ≠ .boot → s.block.flt.saving = none → Begins (.fltSaveNow src) s src 0x0508 true [.flt] fun b =>
      (∃ v ∈ b.flt.saving, v.cause = 7 ∧ v.toB = s.block.flt.aInForce) ∧ b.flt.saveSrcs = s.block.flt.saveSrcs ++ [(src, false)])
  ∧ (∀ s src, Serves (.fltGetConfig src) s src 0x0509 false [] (s.block.tilesStatus [0x44]) (wordsBytes ((s.block.frontTile 0x44).take 12)) fun _ => True)

/-! ### In-service impedance (06_in_service_impedance.md) -/

/-- R180, R181, R182, R183, R185, R186, R189, R190, R191, R199: jobs, the excitation, periods and bands.
Part of it rests on the model's own choice (log entries 6, 22, 23 and 25). -/
def Obligations.ImpedanceJobsExciteAndMeasure : Prop :=
  (∀ s j rest p ps, s.block.imp.job = none → s.block.imp.waiting = j :: rest → s.block.impOk = true → s.block.imp.set.bands s.block.sense.rate = p :: ps →
      Happens .impJobBegin s [.sys, .imp] fun b =>
        b.imp.job = some j ∧ b.imp.waiting = rest ∧ b.imp.begun = true ∧ b.imp.jobSet = s.block.imp.set ∧ b.imp.jobZts = s.block.imp.zts ∧ b.imp.band = p ∧ b.imp.bands = ps
        ∧ b.imp.skipped = s.block.imp.set.skipMask s.block.sense.rate ∧ b.imp.state = .settling ∧ b.imp.nPeriod = 0 ∧ b.imp.done = 0 ∧ b.imp.lfsr = 0xFFE
        ∧ b.imp.x = (s.block.imp.set.amp : Int) ∧ b.imp.cells = s.block.imp.cells ∧ b.imp.lastStart = some b.sys.now ∧ s.block.sys.now ≤ b.sys.now ∧ s.block.imp.dueAt + 100 * usT ≤ b.sys.now
        ∧ b.imp.perAt = b.sys.now ∧ b.imp.chipAt = b.sys.now + 2 ^ p * 2500)
  ∧ (∀ s, s.block.impOk = false → Happens .impJobBegin s [] fun _ => True)
  ∧ (∀ s, s.block.bandOn = true → s.block.imp.disabling = none → Happens .excitationChip s [.sys, .imp] fun b =>
      b.sys.now = max s.block.sys.now s.block.imp.chipAt ∧ b.imp.chipAt = s.block.imp.chipAt + 2 ^ s.block.imp.band * 2500
      ∧ b.imp.x = (if s.block.imp.lfsr / 2048 % 2 = 1 then (s.block.imp.jobSet.amp : Int) else -(s.block.imp.jobSet.amp : Int))
      ∧ b.imp.lfsr = (s.block.imp.lfsr * 2 + (s.block.imp.lfsr / 2048 + s.block.imp.lfsr / 32 + s.block.imp.lfsr / 8 + s.block.imp.lfsr) % 2) % 4096
      ∧ (s.block.hinge = true → b.imp.badPeriod = true)
      ∧ (s.block.hinge = false → (b.limitRef (b.cnv.iRef + b.imp.x)).2 = true → b.imp.x ≠ 0 → b.imp.clip = true ∧ b.imp.badPeriod = true))
  ∧ (∀ s d, s.block.bandOn = true → s.block.imp.disabling = some d → Happens .excitationChip s [.sys, .imp] fun b => b.imp = { s.block.imp with x := 0 })
  ∧ (∀ s, s.block.bandOn = true → s.block.imp.state ≠ .stopping → Happens .impedancePeriodEnd s [.sys, .imp] fun b =>
      b.sys.now = max s.block.sys.now (s.block.imp.perAt + 4095 * s.block.chipTicks) ∧ b.imp.perAt = s.block.imp.perAt + 4095 * s.block.chipTicks ∧ b.imp.nPeriod = s.block.imp.nPeriod + 1
      ∧ b.imp.nValid = s.block.imp.nValid + (if s.block.imp.jobSet.nSet ≤ s.block.imp.nPeriod ∧ s.block.periodValid = true then 1 else 0)
      ∧ b.imp.state = (if s.block.imp.nPeriod + 1 < s.block.imp.jobSet.nSet then .settling else .measuring)
      ∧ (s.block.imp.nPeriod < s.block.imp.jobSet.nSet ∨ s.block.periodValid = false → b.imp.sumI = s.block.imp.sumI ∧ ∀ x ∈ List.zip s.block.imp.acc b.imp.acc, x.2.sumV = x.1.sumV ∧ x.2.valid = x.1.valid)
      ∧ (∀ x ∈ List.zip s.block.imp.acc b.imp.acc, x.1.bad = true → x.2.sumV = x.1.sumV ∧ x.2.valid = x.1.valid) ∧ b.imp.cells = s.block.imp.cells)
  ∧ (∀ s, s.block.bandOn = true → s.block.imp.state ≠ .stopping → s.block.bandComplete = true → s.block.imp.bandDone = none → s.block.imp.bands = [] → Happens .impedanceBandEnd s [.imp] fun b =>
      b.imp.bandDone = some s.block.bandResult ∧ s.block.bandResult.last = true ∧ b.imp.x = 0 ∧ b.imp.lfsr = 0 ∧ b.imp.job = s.block.imp.job ∧ b.imp.cells = s.block.imp.cells)
  ∧ (∀ s p ps, s.block.bandOn = true → s.block.imp.state ≠ .stopping → s.block.bandComplete = true → s.block.imp.bandDone = none → s.block.imp.bands = p :: ps →
      Happens .impedanceBandEnd s [.imp] fun b =>
        b.imp.bandDone = some s.block.bandResult ∧ s.block.bandResult.last = false ∧ b.imp.x = 0 ∧ b.imp.lfsr = 0xFFF ∧ b.imp.band = p ∧ b.imp.bands = ps ∧ b.imp.nPeriod = 0
        ∧ b.imp.perAt = multipleFrom (rateTicks s.block.sense.rate) (s.block.imp.perAt + 100 * usT) ∧ b.imp.chipAt = b.imp.perAt)
  ∧ (∀ s, s.block.bandComplete = false → Happens .impedanceBandEnd s [] fun _ => True)
  ∧ (∀ s r, s.block.imp.bandDone = some r → r.written = true → r.handOver = false → r.retune = false → Happens .identHandover s [.sys, .imp] fun b =>
      b.imp = { s.block.imp with bandDone := none } ∧ b.sys.now = max s.block.sys.now (r.endAt + 6 * msT))
  ∧ (∀ s r, s.block.imp.bandDone = some r → r.written = true → r.handOver = true → r.retune = false → (s.block.cnv.trackJob = r.job → s.block.cnv.track.length = 8) →
      Happens .identHandover s [.sys, .imp, .cnv] fun b =>
      b.imp = { s.block.imp with bandDone := none } ∧ b.cnv.trackJob = r.job ∧ b.cnv.st = s.block.cnv.st
      ∧ (∀ k ∈ List.range 8, (k ∈ s.block.imp.jobSet.slotsOf r.p ∧ identSlot (s.block.imp.jobSet.reqs.getD k 0) = true → ∃ v ∈ b.cnv.track[k]?, v.isSome = true)
          ∧ (k ∉ s.block.imp.jobSet.slotsOf r.p → s.block.cnv.trackJob = r.job → b.cnv.track[k]? = s.block.cnv.track[k]?))
      ∧ ∀ x ∈ List.zip s.block.cnv.phases b.cnv.phases, if x.1.st = .unconfigured then x.2 = x.1 else x.2.identJob = r.job ∧ x.2.identV = r.link ∧ x.2.st = x.1.st ∧ x.2.comp = x.1.comp)
  ∧ (∀ s t, s.block.imp.nextDue = some t → 0 < s.block.imp.queue ∨ s.block.impOk = false → Happens .impPeriodicDue s [.sys, .imp] fun b =>
      b.sys.now = max s.block.sys.now t ∧ b.imp = { s.block.imp with nextDue := some (t + s.block.imp.interval * secT) })
  ∧ (∀ s t, s.block.imp.nextDue = some t → s.block.imp.queue = 0 → s.block.impOk = true → s.block.imp.set.bands s.block.sense.rate ≠ [] → Happens .impPeriodicDue s [.sys, .imp] fun b =>
      b.sys.now = max s.block.sys.now t ∧ b.imp.waiting = [s.block.imp.nextJob] ∧ b.imp.nextJob = s.block.imp.nextJob + 1
      ∧ b.imp.nextDue = some (t + s.block.imp.interval * secT) ∧ b.imp.dueAt = b.sys.now)
  ∧ (∀ s j i q, s.block.imp.disabling = some (.session i q) → s.block.imp.job = some j → s.block.imp.bandDone = none → s.block.imp.nPeriod = 0 → s.block.imp.waiting = [] →
      (s.block.entry? i q).isSome = true → Happens .impDisableDone s [.imp, .ix, .pwr] fun b =>
        b.imp.job = none ∧ b.imp.lastJob = j ∧ b.imp.lastStat = Status.aborted.code ∧ b.imp.state = .disabled ∧ b.imp.x = 0 ∧ b.imp.disabling = none ∧ b.imp.cells = s.block.imp.cells
        ∧ b.answered (.session i q) .ok [])
  ∧ (∀ s i q, s.block.imp.disabling = some (.session i q) → s.block.imp.job = none → (s.block.entry? i q).isSome = true → Happens .impDisableDone s [.imp, .ix, .pwr] fun b =>
      b.imp.waiting = [] ∧ b.imp.state = .disabled ∧ b.imp.x = 0 ∧ b.answered (.session i q) .ok [])

/-- R188, R189, R192: 5 ms after a band its results are written for the cells with enough valid periods, and the last band ends the job with OK.
Part of it rests on the model's own choice (log entries 6 and 24). -/
def Obligations.BandResultsEnterTheMap : Prop :=
  (∀ s r, s.block.imp.bandDone = some r → r.written = false → s.block.imp.job = some r.job → r.last = false → s.block.imp.cells.length = 512 → (∀ m ∈ s.block.imp.cells, m.z.length = 8) →
      s.block.imp.hslot ∉ s.block.imp.jobSet.slotsOf r.p → Happens .bandResultsWritten s [.sys, .imp] fun b =>
        b.sys.now = max s.block.sys.now (r.endAt + 5 * msT) ∧ b.imp.bandDone = some { r with written := true, cells := [] } ∧ b.imp.job = s.block.imp.job ∧ b.imp.state = s.block.imp.state
        ∧ (∀ c < 512, ∀ k < 8, k ∉ s.block.imp.jobSet.slotsOf r.p ∨ s.block.nCell ≤ c → (b.impCell c).z.getD k none = (s.block.impCell c).z.getD k none)
        ∧ (∀ c < s.block.nCell, ∀ j < (s.block.imp.jobSet.slotsOf r.p).length, 2 * ((r.cells.getD c (ImpAcc.empty (s.block.imp.jobSet.slotsOf r.p).length)).valid.getD j 0) < s.block.imp.jobSet.nPer →
            (b.impCell c).z.getD ((s.block.imp.jobSet.slotsOf r.p).getD j 0) none = (s.block.impCell c).z.getD ((s.block.imp.jobSet.slotsOf r.p).getD j 0) none)
        ∧ ∀ c < s.block.nCell, ∀ a ∈ r.cells[c]?, ∀ j < (s.block.imp.jobSet.slotsOf r.p).length, s.block.imp.jobSet.nPer ≤ 2 * a.valid.getD j 0 → 0 < a.valid.getD j 0 →
            (b.impCell c).job = r.job ∧ (b.impCell c).upd.testBit ((s.block.imp.jobSet.slotsOf r.p).getD j 0) = true
            ∧ (b.impCell c).low.testBit ((s.block.imp.jobSet.slotsOf r.p).getD j 0) = decide (a.valid.getD j 0 < s.block.imp.jobSet.nPer)
            ∧ (b.impCell c).z.getD ((s.block.imp.jobSet.slotsOf r.p).getD j 0) none
              = some (Cpx.ofFz ((zDiv (a.sumV.getD j Cpx.zero).fz (a.sumI.getD j Cpx.zero).fz).1 * 1000000 / 2048, (zDiv (a.sumV.getD j Cpx.zero).fz (a.sumI.getD j Cpx.zero).fz).2 * 1000000 / 2048)))
  ∧ (∀ s r, s.block.imp.bandDone = some r → r.written = false → s.block.imp.job = some r.job → r.last = true → Happens .bandResultsWritten s [.sys, .imp] fun b =>
      b.imp.job = none ∧ b.imp.lastJob = r.job ∧ b.imp.lastStat = 0 ∧ b.imp.lastOk = r.job ∧ b.imp.lastOkAt = some b.sys.now ∧ b.imp.x = 0 ∧ b.imp.state = (if s.block.imp.en then .idle else s.block.imp.state))

/-- R184, R190, R191, R193, R197, R202: the impedance commands.
Part of it rests on the model's own choice (log entry 25). -/
def Obligations.ImpedanceCommandsSetWhatTheyName : Prop :=
  (∀ s src reqs, reqs.length = 8 → (∀ f ∈ reqs, 100 ≤ f ∧ f ≤ 10000000) → reqs.Pairwise (· < ·) → (reqs.map freqCode).Nodup →
      Serves (.impSetFreqs src reqs) s src 0x0601 true [.imp, .upd] .ok (reqs.flatMap fun f => leBytes 4 (freqCode f)) fun b =>
        b.imp = { s.block.imp with set := { s.block.imp.set with reqs := reqs } } ∧ s.block.storesSettings b)
  ∧ (∀ s src amp nPer nSet, 2000 ≤ amp → amp ≤ 20000 → amp % 100 = 0 → 1 ≤ nPer → nPer ≤ 64 → 1 ≤ nSet → nSet ≤ 4 →
      Serves (.impSetExcitation src amp nPer nSet) s src 0x0602 true [.imp, .upd] .ok [] fun b =>
        b.imp = { s.block.imp with set := { s.block.imp.set with amp := amp, nPer := nPer, nSet := nSet } } ∧ s.block.storesSettings b)
  ∧ (∀ s src, s.block.impOk = true → s.block.imp.set.bands s.block.sense.rate ≠ [] → s.block.imp.queue < 4 →
      Serves (.impStart src) s src 0x0603 true [.imp] .ok (leBytes 4 s.block.imp.nextJob) fun b =>
        b.imp.waiting = s.block.imp.waiting ++ [s.block.imp.nextJob] ∧ b.imp.nextJob = s.block.imp.nextJob + 1 ∧ b.imp.job = s.block.imp.job ∧ b.imp.cells = s.block.imp.cells)
  ∧ (∀ s src, Serves (.impEnable src 1) s src 0x0604 true [.imp, .upd] .ok [] fun b =>
      b.imp = { s.block.imp with en := true, state := if s.block.imp.state = .disabled then .idle else s.block.imp.state } ∧ s.block.storesSettings b)
  ∧ (∀ s src j, s.block.imp.job = some j → Begins (.impEnable src 0) s src 0x0604 true [.imp, .upd] fun b =>
      b.imp = { s.block.imp with en := false, disabling := some src, state := .stopping } ∧ s.block.storesSettings b)
  ∧ (∀ s src, s.block.imp.job = none → Serves (.impEnable src 0) s src 0x0604 true [.imp, .upd] .ok [] fun b =>
      b.imp.en = false ∧ b.imp.state = .disabled ∧ b.imp.waiting = [] ∧ b.imp.disabling = none ∧ b.imp.cells = s.block.imp.cells)
  ∧ (∀ s src interval, 600 ≤ interval → interval ≤ 604800 → Serves (.impSetSchedule src interval) s src 0x0605 true [.imp, .upd] .ok [] fun b =>
      b.imp.interval = interval ∧ (∀ t ∈ s.block.imp.lastStart, b.imp.nextDue = some (max s.block.sys.now (t + interval * secT))) ∧ b.imp.waiting = s.block.imp.waiting ∧ s.block.storesSettings b)
  ∧ (∀ s src, Serves (.impSetSchedule src 0) s src 0x0605 true [.imp, .upd] .ok [] fun b => b.imp = { s.block.imp with interval := 0, nextDue := none } ∧ s.block.storesSettings b)
  ∧ (∀ s src slot rec, slot ≤ 3 → rec.length = 144 → ztCheck rec = 0 → Serves (.impZtWrite src slot rec) s src 0x0606 true [.imp, .upd] .ok (leBytes 1 0) fun b =>
      b.imp = { s.block.imp with zts := modAt s.block.imp.zts slot fun _ => some (parseZt rec) } ∧ s.block.storesSettings b)
  ∧ (∀ s src slot rec, slot ≤ 3 → rec.length = 144 → ztCheck rec ≠ 0 → Serves (.impZtWrite src slot rec) s src 0x0606 true [] .badParam (leBytes 1 (ztCheck rec)) fun _ => True)
  ∧ (∀ s src mask, s.block.okRecent = true → s.block.maskFitted mask = true → s.block.imp.cells.length = 512 →
      Serves (.impSetBaseline src mask) s src 0x0607 true [.imp] .ok
        (leBytes 2 ((List.range s.block.nCell).filter fun c => mask.testBit (segOf c) && decide ((s.block.impCell c).okZ ≠ [])).length) fun b =>
        ∀ c < 512, b.impCell c = if c < s.block.nCell ∧ mask.testBit (segOf c) = true ∧ (s.block.impCell c).okZ ≠ [] then
            { s.block.impCell c with base := (s.block.impCell c).okZ.map fun z => (entryUnits z).getD (0, 0), baseV := true, tBase := (s.block.impCell c).okT.getD Config.firstTemperature,
                                     bTime := s.block.optime % 4294967296 }
          else s.block.impCell c)
  ∧ (∀ s src hslot growWarn outWarn, hslot ≤ 7 → 16385 ≤ growWarn → growWarn ≤ 65535 → 100 ≤ outWarn → outWarn ≤ 10000 →
      Serves (.impSetHealth src hslot growWarn outWarn) s src 0x0608 true [.imp, .upd] .ok [] fun b =>
        b.imp = { s.block.imp with hslot := hslot, growWarn := growWarn, outWarn := outWarn } ∧ s.block.storesSettings b)
  ∧ (∀ s src cell, cell < s.block.nCell → (s.block.impCell cell).baseV = true →
      Serves (.impGetBaseline src cell) s src 0x0609 false [] .ok (wordsBytes ((List.range 8).map fun k => entryWord (some ((s.block.impCell cell).base.getD k (0, 0))))
        ++ leBytes 2 (s16Of (s.block.impCell cell).tBase) ++ leBytes 4 (s.block.impCell cell).bTime) fun _ => True)
  ∧ (∀ s src, Serves (.impGetConfig src) s src 0x060A false [] (s.block.tilesStatus [0x46]) (wordsBytes ((s.block.frontTile 0x46).take 14)) fun _ => True)

/-! ### String converter (07_string_converter_control.md) -/

/-- R209, R210, R211, R212, R213, R214, R215, R225, R229, R239: frames, roll-calls and the inputs of the GDUs move phases between their states. -/
def Obligations.PhasesMoveBetweenTheirStates : Prop :=
  (∀ s (k : Fin 8), (s.block.phase k).st ≠ .unconfigured → s.block.cnv.fibreOn = true → s.block.sys.mstate ≠ .off → s.block.sec.halted.getD (8 + k.val / 4) false = false →
      (s.block.phase k).rcOpen = false ∨ (s.block.phase k).rcMiss < 2 → k.val < s.block.cnv.phases.length → Happens (.rollcall k) s [.sys, .cnv] fun b =>
        s.block.sys.now < b.sys.now ∧ b.sys.now % 10000000 = 1250000 * k.val ∧ s.block.onlyPhase b k
        ∧ b.phase k = { s.block.phase k with rcMiss := if (s.block.phase k).rcOpen then (s.block.phase k).rcMiss + 1 else 0, rcOpen := true,
                                             rcGood := if (s.block.phase k).rcOpen then 0 else (s.block.phase k).rcGood, rcSeq := ((s.block.phase k).rcSeq + 1) % 256, rcAt := b.sys.now })
  ∧ (∀ s (k : Fin 8), s.block.cnv.fibreOn = true → s.block.sys.mstate ≠ .off → s.block.sec.halted.getD (8 + k.val / 4) false = false → (s.block.phase k).rcOpen = true →
      2 ≤ (s.block.phase k).rcMiss → (s.block.phase k).st.searching = true → (s.block.phase k).st ≠ .search → s.block.phaseToSpare = true → k.val < s.block.cnv.phases.length →
      Happens (.rollcall k) s [.sys, .cnv] fun b => (b.phase k).st = .search ∧ s.block.onlyPhase b k)
  ∧ (∀ s (k : Fin 8), (s.block.phase k).st ≠ .unconfigured → s.block.cnv.fibreOn = true → Happens (.downlinkFrame k) s [.sys, .cnv] fun b =>
      b.sys.now = s.block.nextMultiple usT ∧ b.cnv = { s.block.cnv with dnCount := (s.block.cnv.dnCount + 1) % 16 })
  ∧ (∀ s (k : Fin 8) f, f.crcOk = false ∨ s.block.cnv.fibreOn = false → Happens (.uplinkFrame k f) s [] fun _ => True)
  ∧ (∀ s (k : Fin 8) f, f.crcOk = true → s.block.cnv.fibreOn = true → (s.block.phase k).st = .unconfigured → k.val < s.block.cnv.phases.length → Happens (.uplinkFrame k f) s [.cnv] fun b =>
      b.phase k = { s.block.phase k with unexp := true } ∧ s.block.onlyPhase b k)
  ∧ (∀ s (k : Fin 8) f, f.crcOk = true → s.block.cnv.fibreOn = true → (s.block.phase k).st ≠ .unconfigured → s.block.cnv.st ≠ .precheck → k.val < s.block.cnv.phases.length →
      f.muxId ≠ 0 ∨ ((f.mux * 100 : Nat) : Int) ≤ s.block.vlinkMax → Happens (.uplinkFrame k f) s [.cnv] fun b =>
        (b.phase k).i = f.i * 100 ∧ (b.phase k).iSum = { sum := (s.block.phase k).iSum.sum + f.i * 100, n := (s.block.phase k).iSum.n + 1 } ∧ (b.phase k).upAt = s.block.sys.now
        ∧ (b.phase k).vLink = (if f.muxId = 0 then some ((f.mux * 100 : Nat) : Int) else (s.block.phase k).vLink) ∧ (b.phase k).overV = (if f.muxId = 0 then 0 else (s.block.phase k).overV)
        ∧ (b.phase k).tHs = (if f.muxId = 1 then some (toSigned 16 f.mux) else (s.block.phase k).tHs) ∧ (b.phase k).gateMv = (if f.muxId = 2 then f.mux else (s.block.phase k).gateMv)
        ∧ (b.phase k).thrSeen = (if f.muxId = 3 then f.mux else (s.block.phase k).thrSeen) ∧ ((b.phase k).otw, (b.phase k).uvlo, (b.phase k).desat, (b.phase k).armed, (b.phase k).gduReady)
          = (f.stat.testBit 4, f.stat.testBit 3, f.stat.testBit 2, f.stat.testBit 1, f.stat.testBit 0) ∧ (b.phase k).st = (s.block.phase k).st ∧ s.block.onlyPhase b k)
  ∧ (∀ s (k : Fin 8) f, f.crcOk = true → s.block.cnv.fibreOn = true → (s.block.phase k).st ≠ .unconfigured → f.muxId = 0 → s.block.vlinkMax < ((f.mux * 100 : Nat) : Int) →
      (s.block.phase k).overV = 1 → s.block.cnv.st ≠ .latched → k.val < s.block.cnv.phases.length → Happens (.uplinkFrame k f) s controlled fun b =>
        s.block.raised b .cnvLinkOv k ∧ b.cnv.linkOv = true ∧ b.cnv.st.modulates = false ∧ b.modPhases = [])
  ∧ (∀ s (k : Fin 8) seq g, s.block.hinge = false → s.block.cnv.fibreOn = true → (s.block.phase k).st = .search → (s.block.phase k).rcOpen = true → (s.block.phase k).rcSeq = seq →
      k.val < s.block.cnv.phases.length → Happens (.ident k seq g) s [.cnv] fun b =>
        (b.phase k).st = .ident ∧ (b.phase k).gdu = some g ∧ (b.phase k).rcGood = 1 ∧ (b.phase k).rcOpen = false ∧ (b.phase k).rcMiss = 0 ∧ (b.phase k).ack = none
        ∧ (b.phase k).thrSent = s.block.cnv.set.iFast / 100 % 65536 ∧ s.block.onlyPhase b k)
  ∧ (∀ s (k : Fin 8) seq g o, s.block.hinge = false → s.block.cnv.fibreOn = true → (s.block.phase k).st.searching = true → (s.block.phase k).st ≠ .search → (s.block.phase k).rcOpen = true →
      (s.block.phase k).rcSeq = seq → (s.block.phase k).gdu = some o → o.serial ≠ g.serial → s.block.phaseToSpare = true → k.val < s.block.cnv.phases.length →
      Happens (.ident k seq g) s [.cnv] fun b => (b.phase k).st = .search ∧ (b.phase k).gdu = some g ∧ s.block.onlyPhase b k)
  ∧ (∀ s (k : Fin 8) seq g o, s.block.cnv.fibreOn = true → (s.block.phase k).st.searching = true → (s.block.phase k).st ≠ .search → (s.block.phase k).rcOpen = true →
      (s.block.phase k).rcSeq = seq → (s.block.phase k).gdu = some o → o.serial = g.serial → (s.block.phase k).st ≠ .ident ∨ (s.block.phase k).rcGood < 2 ∨ s.block.identOk g = true →
      k.val < s.block.cnv.phases.length → Happens (.ident k seq g) s [.cnv] fun b =>
        b.phase k = { s.block.phase k with rcOpen := false, rcMiss := 0, rcGood := (s.block.phase k).rcGood + 1 } ∧ s.block.onlyPhase b k)
  ∧ (∀ s (k : Fin 8) thr, (s.block.phase k).st ≠ .unconfigured → thr = (s.block.phase k).thrSent → k.val < s.block.cnv.phases.length → Happens (.configAck k thr 0) s [.cnv] fun b =>
      (b.phase k).ack = some true ∧ (b.phase k).st = (s.block.phase k).st ∧ s.block.onlyPhase b k)
  ∧ (∀ s (k : Fin 8) thr, (s.block.phase k).st = .ident → s.block.phaseToSpare = true → k.val < s.block.cnv.phases.length → Happens (.configAck k thr 1) s [.cnv] fun b =>
      (b.phase k).st = .out ∧ (b.phase k).outr = 2 ∧ s.block.onlyPhase b k)
  ∧ (∀ s (k : Fin 8) t, (s.block.phase k).cfgAt = some t → s.block.phaseToSpare = true → k.val < s.block.cnv.phases.length → Happens (.configAckTimeout k) s [.sys, .cnv] fun b =>
      b.sys.now = max s.block.sys.now (t + 10 * msT) ∧ (b.phase k).st = .ident ∧ (b.phase k).cfgAt = none ∧ (b.phase k).rcGood = 0 ∧ (b.phase k).ack = none ∧ s.block.onlyPhase b k)
  ∧ (∀ s (k : Fin 8) g, (s.block.phase k).st = .ident → (s.block.phase k).gdu = some g → (s.block.phase k).ack = some true → 3 ≤ (s.block.phase k).rcGood → s.block.identOk g = true →
      s.block.hinge = false → s.block.cnv.st ≠ .regulate → s.block.cnv.st ≠ .precheck → k.val < s.block.cnv.phases.length → Happens (.phaseReady k) s [.cnv] fun b =>
        (b.phase k).st = .ready ∧ (b.phase k).rdy = true ∧ (b.phase k).comp.src = 0
        ∧ (b.phase k).comp.coef = coefBits (designReal s.block.cnv.set.tc (fcOf s.block.cnv.set.tc s.block.cnv.set.fcSet s.block.nfcMin) (fxQ g.lNom 10000000) 0) ∧ s.block.onlyPhase b k)
  ∧ (∀ s (k : Fin 8), (s.block.phase k).st.searching = true → (s.block.phase k).st ≠ .search → s.block.cnv.graceEnd = none → s.block.cnv.fibreOn = true → s.block.phaseToSpare = true →
      k.val < s.block.cnv.phases.length → Happens (.uplinkTimeout k) s [.sys, .cnv] fun b =>
        b.sys.now = max s.block.sys.now ((s.block.phase k).upAt + 10 * usT) ∧ (b.phase k).st = .search ∧ s.block.onlyPhase b k)
  ∧ (∀ s (k : Fin 8), (s.block.phase k).st.modulating = true → s.block.cnv.graceEnd = none → s.block.cnv.fibreOn = true → s.block.sys.mstate = .run → s.block.cnv.st.modulates = true →
      s.block.cnv.st ≠ .softstop → s.block.modPhases.length ≤ s.block.cnv.set.nMin → k.val < s.block.cnv.phases.length → Happens (.uplinkTimeout k) s controlled fun b =>
        s.block.raised b .cnvPhasesLow noArg ∧ (b.phase k).st = .search)
  ∧ (∀ s (k : Fin 8), (s.block.phase k).st = .ready ∨ (s.block.phase k).st.modulating = true → s.block.phaseToSpare = true → k.val < s.block.cnv.phases.length → Happens (.rdyLoss k) s [.cnv] fun b =>
      (b.phase k).rdy = false ∧ s.block.onlyPhase b k ∧ (if 2 ≤ ((s.block.phase k).rdyLosses.filter fun x => decide (s.block.sys.now < x + 60 * secT)).length
        then (b.phase k).st = .out ∧ (b.phase k).outr = 4 else (b.phase k).st = .ident ∧ (b.phase k).rcGood = 0 ∧ (b.phase k).ack = none))
  ∧ (∀ s (k : Fin 8), s.block.cnv.st.softStart = false → k.val < s.block.cnv.phases.length → Happens (.ocInput k true) s [.cnv] fun b =>
      (b.phase k).oc = true ∧ (b.phase k).ocDark = true ∧ (b.phase k).ocTrips = (if (s.block.phase k).ocThis then (s.block.phase k).ocTrips else satAdd 65535 (s.block.phase k).ocTrips 1)
      ∧ (b.phase k).st = (s.block.phase k).st ∧ s.block.onlyPhase b k)
  ∧ (∀ s (k : Fin 8), k.val < s.block.cnv.phases.length → Happens (.ocInput k false) s [.cnv] fun b => b.phase k = { s.block.phase k with oc := false } ∧ s.block.onlyPhase b k)
  ∧ (∀ s (k : Fin 8), (s.block.phase k).st = .hiccup → (s.block.phase k).oc = false → (s.block.phase k).rdy = true → k.val < s.block.cnv.phases.length →
      Happens (.phaseHiccupEnd k) s [.sys, .cnv] fun b =>
        b.sys.now = max s.block.sys.now ((s.block.phase k).hiccupAt.headD 0 + 20 * msT) ∧ s.block.onlyPhase b k
        ∧ (b.phase k).st = (if s.block.cnv.st = .regulate ∧ s.block.hinge = false then .joining else .ready))
  ∧ (∀ s (k : Fin 8) t, (s.block.phase k).st = .joining → (s.block.phase k).joinAt = some t → k.val < s.block.cnv.phases.length → Happens (.joinComplete k) s [.sys, .cnv] fun b =>
      b.sys.now = max s.block.sys.now (t + 100 * msT) ∧ (b.phase k).st = .active ∧ (b.phase k).joinAt = none ∧ s.block.onlyPhase b k)
  ∧ (∀ s t, s.block.cnv.graceEnd = some t → s.block.cnv.st.modulates = false → s.block.cnv.phases.length = 8 → Happens .wakeRollcallGraceEnd s [.sys, .cnv] fun b =>
      b.sys.now = max s.block.sys.now t ∧ b.cnv.graceEnd = none
      ∧ ∀ k < 8, (b.phase k).st = (if (s.block.phase k).st.searching = true ∧ (s.block.phase k).rcGood = 0 then .search else (s.block.phase k).st))

/-- R217, R218, R225, R229, R231, R232, R233, R235, R237, R259: the carrier, soft start, hand-over and soft stop. -/
def Obligations.CarrierLocksAndSoftStartRuns : Prop :=
  (∀ s, 0 < s.block.cnv.set.tc → s.block.cnv.phases.length = 8 → Happens .referencePeriodStart s [.sys, .cnv] fun b =>
      b.sys.now = max s.block.sys.now (if s.block.cnv.nextRef = 0 then s.block.nextMultiple s.block.cnv.set.tc else s.block.cnv.nextRef) ∧ b.cnv.lastRef = b.sys.now
      ∧ b.cnv.periods = s.block.cnv.periods + 1 ∧ (s.block.cnv.set.lockSrc = 0 → s.block.cnv.refSeen = false → b.cnv.nextRef % s.block.cnv.set.tc = 0 ∧ b.sys.now < b.cnv.nextRef)
      ∧ (s.block.cnv.refSeen = true → b.cnv.nextRef ≤ b.sys.now + s.block.cnv.set.tc + s.block.cnv.set.tc / 256 ∧ b.sys.now + s.block.cnv.set.tc ≤ b.cnv.nextRef + s.block.cnv.set.tc / 256)
      ∧ (∀ k < 8, (s.block.phase k).st.modulating = true → (b.phase k).trim = (s.block.phase k).trim
          - ((s.block.modPhases.map fun j => (s.block.phase j).trim).foldl (· + ·) 0) / (s.block.modPhases.length : Int) ∧ (b.phase k).q = (s.block.phase k).q)
      ∧ ∀ k < 8, (s.block.phase k).st.modulating = false → (b.phase k).trim = (s.block.phase k).trim ∧ (b.phase k).q = max 0 ((s.block.phase k).q
          - fxMul (fxMul (fxQ s.block.cnv.set.iPhCont 1000) (fxQ s.block.cnv.set.iPhCont 1000)) (fxQ s.block.cnv.set.tc secT)))
  ∧ (∀ s n, s.block.cnv.set.lockSrc = 2 → Happens (.syncInEdge n) s [.sys, .cnv] fun b =>
      b.sys.now = max s.block.sys.now n ∧ b.cnv = { s.block.cnv with syncRef := some (n - s.block.cnv.set.syncDly / 10), refSeen := true, syncMiss := 0 })
  ∧ (∀ s n, s.block.cnv.set.lockSrc ≠ 2 → Happens (.syncInEdge n) s [] fun _ => True)
  ∧ (∀ s, s.block.cnv.locked = false → 16 ≤ s.block.cnv.alignRun → s.block.cnv.set.lockSrc ≠ 0 → Happens .carrierLocked s [.cnv] fun b => b.cnv = { s.block.cnv with locked := true })
  ∧ (∀ s, s.block.cnv.set.lockSrc = 2 → 4 ≤ s.block.cnv.syncMiss → s.block.cnv.refSeen = true → Happens .carrierLockLost s [.cnv] fun b =>
      b.cnv = { s.block.cnv with locked := false, refSeen := false, alignRun := 0, syncMiss := 0 })
  ∧ (∀ s, s.block.cnv.set.lockSrc = 1 → s.block.ptpTicks = none → s.block.cnv.refSeen = true → Happens .carrierLockLost s [.cnv] fun b => b.cnv.locked = false ∧ b.cnv.refSeen = false)
  ∧ (∀ s t, s.block.cnv.xchkAt = some t → s.block.cnv.xchkNoted = false → Happens .cnvIsumXchk s [.sys, .cnv] fun b =>
      b.sys.now = max s.block.sys.now (t + 10 * msT) ∧ b.cnv = { s.block.cnv with xchkNoted := true })
  ∧ (∀ s, s.block.cnv.st = .precheck → s.block.precheck ≠ 0 → Happens .precheckTimeout s controlled fun b =>
      s.block.raised b .cnvPrecheckFail noArg ∧ b.cnv.st.modulates = false ∧ b.cnv.iRef = 0 ∧ b.modPhases = [])
  ∧ (∀ s, s.block.cnv.st = .precheck → s.block.precheck = 0 → s.block.cnv.parkSrc = none → s.block.cnv.vCmd = none → s.block.cnv.phases.length = 8 →
      Happens .precheckTimeout s [.sys, .cnv] fun b =>
        b.sys.now = max s.block.sys.now (s.block.cnv.preAt + 10 * msT) ∧ b.cnv.st = .prebias ∧ b.cnv.vRef = some (fxI (s.block.vLinkMv.getD 0)) ∧ b.cnv.vInt = 0
        ∧ b.cnv.vTgt = some (fxI (if s.block.cnv.set.vTarget = 0 then s.block.vLinkMv.getD 0 else s.block.cnv.set.vTarget)) ∧ b.cnv.slew = s.block.cnv.set.slewV
        ∧ ∀ k < 8, (b.phase k).st = (if (s.block.phase k).st = .ready then .active else (s.block.phase k).st) ∧ (b.phase k).trim = 0)
  ∧ (∀ s, s.block.cnv.st = .hiccup → s.block.cnv.phases.length = 8 → Happens .ssHiccupEnd s [.sys, .cnv] fun b =>
      b.sys.now = max s.block.sys.now (s.block.cnv.hicAt + 20 * msT) ∧ b.cnv.st = .prebias ∧ b.cnv.vRef = some (fxI (s.block.vLinkMv.getD 0)) ∧ b.readyPhases = [])
  ∧ (∀ s (k : Fin 8), s.block.cnv.st.softStart = true → (s.block.cnv.ssHics.filter fun h => decide (s.block.sys.now < h + 2 * secT)).length < 2 → Happens (.ocInput k true) s [.cnv] fun b =>
      b.cnv.st = .hiccup ∧ b.cnv.hicAt = s.block.sys.now ∧ b.cnv.iRef = 0 ∧ b.cnv.ssCount = satAdd 255 s.block.cnv.ssCount 1)
  ∧ (∀ s (k : Fin 8), s.block.cnv.st.softStart = true → 2 ≤ (s.block.cnv.ssHics.filter fun h => decide (s.block.sys.now < h + 2 * secT)).length → Happens (.ocInput k true) s controlled fun b =>
      b.cnv.st = .latched ∧ b.cnv.sslatch = true ∧ b.modPhases = [] ∧ s.block.raised b .softstartShort noArg)
  ∧ (∀ s, s.block.cnv.st = .precheck ∨ s.block.cnv.st.softStart = true ∨ s.block.cnv.st = .hiccup → Happens .softstartTimeout s controlled fun b =>
      s.block.raised b .softstartTimeout noArg ∧ b.cnv.st.modulates = false ∧ b.modPhases = [])
  ∧ (∀ s t, s.block.cnv.st = .settle → s.block.cnv.settleAt = some t → s.block.hinge = false → s.block.srcLost s.block.loop.src = false → s.block.cnv.phases.length = 8 →
      Happens .settleComplete s [.sys, .cnv] fun b =>
        b.sys.now = max s.block.sys.now (t + 20 * msT) ∧ b.cnv.st = .regulate ∧ b.cnv.handOver = some s.block.cnv.iRef ∧ b.cnv.settleAt = none ∧ b.cnv.iRef = s.block.cnv.iRef
        ∧ ∀ k < 8, (b.phase k).st = (if (s.block.phase k).st = .ready then .joining else (s.block.phase k).st))
  ∧ (∀ s t, s.block.cnv.st = .settle → s.block.cnv.settleAt = some t → s.block.hinge = true → Happens .settleComplete s [] fun _ => True)
  ∧ (∀ s t i q, s.block.cnv.st = .softstop → s.block.cnv.stopZeroAt = some t → s.block.cnv.parkSrc = some (.session i q) → s.block.sys.mstate = .run → s.block.hinge = false →
      (s.block.entry? i q).isSome = true → Happens .softstopEnd s controlled fun b =>
        b.cnv.st = .idle ∧ b.cnv.parkSrc = none ∧ b.cnv.iRef = 0 ∧ b.modPhases = [] ∧ b.sys.mstate = .park ∧ b.sys.prev = .run ∧ b.answered (.session i q) .ok [])

/-- R217, R219, R220, R221, R223, R225, R227, R228, R232, R235: period starts, compensator steps and retuning.
Part of it rests on the model's own choice (log entry 6). -/
def Obligations.PhasePeriodsStepTheCompensators : Prop :=
  (∀ s (k : Fin 8) v l, (s.block.phase k).st.modulating = true → s.block.cnv.st = .regulate → s.block.hinge = true ∨ s.block.cnv.handOver ≠ none → s.block.vStrMv = some v → s.block.vLinkMv = some l → s.block.cnv.vCmdDue = false →
      (s.block.phase k).ocRun < 7 → k.val < s.block.cnv.phases.length → Happens (.phasePeriodStart k) s [.sys, .cnv] fun b =>
        b.sys.now = max s.block.sys.now (s.block.nextPeriod k) ∧ (b.phase k).periodAt = some b.sys.now ∧ (b.phase k).iSum = { sum := 0, n := 0 } ∧ s.block.onlyPhase b k
        ∧ (b.phase k).duty = clampI (fxQ s.block.cnv.set.dMin 4294967296) (fxQ s.block.cnv.set.dMax 4294967296)
            (fxDiv (fxI v + (s.block.phase k).comp.u.getD 0 0 + (s.block.phase k).trim) (fxI l))
        ∧ (b.phase k).comp.u = (fxMul (b.phase k).duty (fxI l) - fxI v - (s.block.phase k).trim) :: (s.block.phase k).comp.u.drop 1
        ∧ (b.phase k).ocRun = (if (s.block.phase k).ocThis then (s.block.phase k).ocRun + 1 else 0) ∧ (b.phase k).ocDark = (s.block.phase k).oc)
  ∧ (∀ s (k : Fin 8), (s.block.phase k).st.modulating = true → s.block.cnv.st = .regulate → s.block.hinge = false → s.block.cnv.handOver = none → s.block.modPhases.head? = some k.val →
      (s.block.phase k).ocRun < 7 → k.val < s.block.cnv.phases.length → Happens (.phasePeriodStart k) s [.sys, .cnv] fun b =>
        b.cnv.iRef = (b.limitRef s.block.loopOut).1 ∧ b.cnv.clamped = (b.limitRef s.block.loopOut).2 ∧ (∀ j < 8, j ≠ k.val → b.phase j = s.block.phase j))
  ∧ (∀ s (k : Fin 8), (s.block.phase k).st.modulating = true → s.block.cnv.st = .softstop → s.block.modPhases.head? = some k.val → s.block.cnv.vCmdDue = false → k.val < s.block.cnv.phases.length →
      Happens (.phasePeriodStart k) s [.sys, .cnv] fun b =>
        b.cnv.iRef = (if 0 < s.block.cnv.iRef then max 0 (s.block.cnv.iRef - fxRound (fxMul (fxI (s.block.cnv.set.slewStop * 1000)) (fxQ s.block.cnv.set.tc secT)))
          else min 0 (s.block.cnv.iRef + fxRound (fxMul (fxI (s.block.cnv.set.slewStop * 1000)) (fxQ s.block.cnv.set.tc secT))))
        ∧ (b.cnv.stopZeroAt = none ↔ b.cnv.iRef ≠ 0))
  ∧ (∀ s (k : Fin 8), (s.block.phase k).st.modulating = true → s.block.cnv.st = .ramp → s.block.modPhases.head? = some k.val → s.block.cnv.vCmdDue = false → k.val < s.block.cnv.phases.length →
      Happens (.phasePeriodStart k) s [.sys, .cnv] fun b =>
        b.cnv.vRef = some (slewRef (s.block.cnv.vRef.getD 0) (s.block.cnv.vTgt.getD 0) (fxMul (fxI s.block.cnv.slew) (fxQ s.block.cnv.set.tc secT)))
        ∧ b.cnv.st = (if b.cnv.vRef = s.block.cnv.vTgt then .settle else .ramp))
  ∧ (∀ s (k : Fin 8), (s.block.phase k).st.modulating = true → s.block.cnv.st = .regulate → s.block.phaseToSpare = true → (s.block.phase k).ocThis = true → 7 ≤ (s.block.phase k).ocRun →
      k.val < s.block.cnv.phases.length → Happens (.phasePeriodStart k) s [.sys, .cnv] fun b =>
        s.block.onlyPhase b k ∧ (b.phase k).hiccups = satAdd 65535 (s.block.phase k).hiccups 1 ∧ (b.phase k).ocRun = 0
        ∧ (if 2 ≤ ((s.block.phase k).hiccupAt.filter fun x => decide (b.sys.now < x + 2 * secT)).length then (b.phase k).st = .out ∧ (b.phase k).outr = 3 else (b.phase k).st = .hiccup))
  ∧ (∀ s (k : Fin 8) t mean sum, (s.block.phase k).st.modulating = true → s.block.cnv.st.modulates = true → (s.block.phase k).periodAt = some t → k.val < s.block.cnv.phases.length →
      mean = (if (s.block.phase k).iSum.n = 0 then (s.block.phase k).i else divNear (s.block.phase k).iSum.sum (s.block.phase k).iSum.n) →
      sum = (s.block.modPhases.map fun j => if j = k.val then mean else (s.block.phase j).iMean).foldl (· + ·) 0 → s.block.hinge = true ∨ s.block.imp.x = 0 →
      Happens (.compensatorStep k) s [.sys, .cnv] fun b =>
        b.sys.now = max s.block.sys.now (t + s.block.cnv.set.tc) ∧ (b.phase k).iMean = mean ∧ (b.phase k).iSum = { sum := 0, n := 0 } ∧ b.cnv.iSum = sum ∧ b.cnv.iRef = s.block.cnv.iRef
        ∧ (b.phase k).comp.u.head? = some (compOut (s.block.phase k).comp ((b.phase k).comp.e.headD 0)) ∧ (b.phase k).comp.coef = (s.block.phase k).comp.coef
        ∧ (b.phase k).q = max 0 ((s.block.phase k).q + fxMul (fxMul (fxQ mean 1000) (fxQ mean 1000) - fxMul (fxQ s.block.cnv.set.iPhCont 1000) (fxQ s.block.cnv.set.iPhCont 1000))
            (fxQ s.block.cnv.set.tc secT)) ∧ (fxI s.block.cnv.set.i2tMax ≤ (b.phase k).q → b.cnv.foldback = true) ∧ (∀ j < 8, j ≠ k.val → b.phase j = s.block.phase j))
  ∧ (∀ s (k : Fin 8) x, (s.block.phase k).comp.staged = some x → s.block.hinge = false → k.val < s.block.cnv.phases.length → Happens (.retuneLatch k) s [.sys, .cnv] fun b =>
      b.sys.now = max s.block.sys.now x.due ∧ s.block.onlyPhase b k
      ∧ (b.phase k).comp = { (s.block.phase k).comp with coef := x.coef, fc := x.fc, src := 1, staged := none, retunes := satAdd 65535 (s.block.phase k).comp.retunes 1 })
  ∧ (∀ s (k : Fin 8), s.block.hinge = true → Happens (.retuneLatch k) s [] fun _ => True)
  ∧ (∀ s r (k : Fin 8), s.block.imp.bandDone = some r → r.written = true → r.handOver = false → r.retune = true → s.block.modPhases = [k.val] → (∀ j < 8, j ≠ k.val → (s.block.phase j).activeAll = false) →
      s.block.cnv.set.tuneEn = true → k.val < s.block.cnv.phases.length → Happens .identHandover s [.sys, .imp, .cnv] fun b =>
        s.block.onlyPhase b k ∧ (b.phase k).comp.coef = (s.block.phase k).comp.coef ∧ (b.phase k).comp.jobId = r.job
        ∧ (if (b.phase k).comp.rej = 0 then (∃ x ∈ (b.phase k).comp.staged, x.due = b.sys.now + msT ∧ s.block.lMin ≤ x.l ∧ x.l ≤ s.block.lMax
              ∧ ∀ i < 7, floorCoefLo s.block.floor i ≤ x.coef.getD i 0 ∧ x.coef.getD i 0 ≤ floorCoefHi s.block.floor i)
            else (b.phase k).comp.staged = (s.block.phase k).comp.staged))

/-- R214, R216, R224, R234, R240: the converter commands, within the limits of the Floor. -/
def Obligations.ConverterCommandsSetWhatTheyName : Prop :=
  (∀ s src tc lockSrc packIdx packSize syncDly, s.block.sys.mstate = .park → 2500 ≤ tc → tc ≤ 12500 → lockSrc ≤ 2 → packIdx ≤ 31 → packIdx < packSize → packSize ≤ 32 → syncDly ≤ 1000 →
      packSize = 1 ∨ lockSrc ≠ 0 → Serves (.cnvSetCarrier src tc lockSrc packIdx packSize syncDly) s src 0x0701 true [.sense, .cnv, .upd] .ok [] fun b =>
        b.cnv.set = { s.block.cnv.set with tc := tc, lockSrc := lockSrc, packIdx := packIdx, packSize := packSize, syncDly := syncDly } ∧ b.cnv.locked = false ∧ b.cnv.refSeen = false
        ∧ b.sense.rate = s.block.sense.rate ∧ s.block.storesSettings b)
  ∧ (∀ s src mask nMin, s.block.sys.mstate ≠ .run → mask ≤ 255 → 1 ≤ nMin → nMin ≤ 8 → nMin ≤ bits8 mask → s.block.cnv.phases.length = 8 →
      Serves (.cnvSetPhases src mask nMin) s src 0x0702 true [.cnv, .upd] .ok [] fun b =>
        b.cnv.set = { s.block.cnv.set with phMask := mask, nMin := nMin } ∧ s.block.storesSettings b ∧ ∀ k < 8, (b.phase k).st =
          (if mask.testBit k then (if (s.block.phase k).st = .unconfigured then .search else (s.block.phase k).st) else .unconfigured))
  ∧ (∀ s src deadTime dMin dMax trimMax shareGain, s.block.sys.mstate ≠ .run → 100 ≤ deadTime → deadTime ≤ 5000 → dMin ≤ 0x80000000 → 0x80000000 ≤ dMax → dMax ≤ 0xFFFFFFFF → dMin < dMax →
      trimMax ≤ 0x0CCCCCCD → 1 ≤ shareGain → shareGain ≤ 1000 → s.block.dtMin ≤ deadTime →
      Serves (.cnvSetModulation src deadTime dMin dMax trimMax shareGain) s src 0x0703 true [.cnv, .upd] .ok [] fun b => s.block.storesSettings b
        ∧ b.cnv = { s.block.cnv with set := { s.block.cnv.set with deadTime := deadTime, dMin := dMin, dMax := dMax, trimMax := trimMax, shareGain := shareGain } })
  ∧ (∀ s src chg dis cont i2t, chg ≤ 1250000 → dis ≤ 1250000 → 10000 ≤ cont → cont ≤ 1250000 → 20000 ≤ s.block.cnv.set.iFast → s.block.cnv.set.iFast ≤ 1000000 → 10000 ≤ i2t → i2t ≤ 100000000 →
      chg ≤ s.block.iFloor → dis ≤ s.block.iFloor → s.block.cnv.set.iFast ≤ s.block.iFastMax →
      Serves (.cnvSetLimits src chg dis cont s.block.cnv.set.iFast i2t) s src 0x0704 true [.cnv, .upd] .ok [] fun b => s.block.storesSettings b
        ∧ b.cnv = { s.block.cnv with set := { s.block.cnv.set with ilimChg := chg, ilimDis := dis, iPhCont := cont, i2tMax := i2t } })
  ∧ (∀ s src chg dis cont fast i2t, chg ≤ 1250000 → dis ≤ 1250000 → 10000 ≤ cont → cont ≤ 1250000 → 20000 ≤ fast → fast ≤ 1000000 → 10000 ≤ i2t → i2t ≤ 100000000 → chg ≤ s.block.iFloor →
      dis ≤ s.block.iFloor → fast ≤ s.block.iFastMax → fast ≠ s.block.cnv.set.iFast → s.block.cnv.phases.length = 8 →
      Serves (.cnvSetLimits src chg dis cont fast i2t) s src 0x0704 true [.cnv, .upd] .ok [] fun b =>
        b.cnv.set = { s.block.cnv.set with ilimChg := chg, ilimDis := dis, iPhCont := cont, iFast := fast, i2tMax := i2t } ∧ ∀ k < 8,
          if (s.block.phase k).gdu.isSome = true ∧ (s.block.phase k).st.searching = true then (b.phase k).thrSent = fast / 100 % 65536 ∧ (b.phase k).ack = none
            ∧ (s.block.sys.mstate = .run → (s.block.phase k).st ≠ .ident → (b.phase k).cfgAt = some s.block.sys.now) else b.phase k = s.block.phase k)
  ∧ (∀ s src chg dis cont fast i2t, chg ≤ 1250000 → dis ≤ 1250000 → 10000 ≤ cont → cont ≤ 1250000 → 20000 ≤ fast → fast ≤ 1000000 → 10000 ≤ i2t → i2t ≤ 100000000 →
      s.block.iFloor < chg ∨ s.block.iFloor < dis ∨ s.block.iFastMax < fast → s.block.settled = true → s.block.admits src 0x0704 true = true →
      Ends (.cnvSetLimits src chg dis cont fast i2t) s fun b => s.block.refused b src .denied ∧ b.cnv = s.block.cnv)
  ∧ (∀ s src vTarget slewV ilimSs ssTimeout kpv kiv slewStop, 1000 ≤ slewV → slewV ≤ 10000000 → 5000 ≤ ilimSs → ilimSs ≤ 200000 → 1000 ≤ ssTimeout → ssTimeout ≤ 600000 → 10 ≤ kpv →
      kpv ≤ 100000 → kiv ≤ 1000000 → 1000 ≤ slewStop → slewStop ≤ 1000000 → vTarget = 0 ∨ (500000 ≤ vTarget ∧ vTarget ≤ 3000000) → vTarget ≤ s.block.vlinkMax →
      Serves (.cnvSetSoftstart src vTarget slewV ilimSs ssTimeout kpv kiv slewStop) s src 0x0705 true [.cnv, .upd] .ok [] fun b => s.block.storesSettings b ∧ b.cnv = { s.block.cnv with
        set := { s.block.cnv.set with vTarget := vTarget, slewV := slewV, ilimSs := ilimSs, ssTimeout := ssTimeout, kpv := kpv, kiv := kiv, slewStop := slewStop } })
  ∧ (∀ s src target slew, s.block.cnv.st.softStart = true ∨ s.block.cnv.st = .hiccup → 1000 ≤ slew → slew ≤ 10000000 → target = 0 ∨ (500000 ≤ target ∧ target ≤ 3000000) →
      target ≤ s.block.vlinkMax → Serves (.cnvSetVtarget src target slew) s src 0x0706 true [.cnv] .ok (leBytes 4 (s32Word (s.block.cnv.vRef.map fxRound)).toNat) fun b =>
        b.cnv = { s.block.cnv with vCmd := some (target, slew), vCmdDue := decide (s.block.cnv.st ≠ .hiccup) })
  ∧ (∀ s src en fc, en ≤ 1 → 50000 ≤ fc → fc ≤ 5000000 → Serves (.cnvSetTuning src en fc) s src 0x0707 true [.cnv, .upd] .ok [] fun b => s.block.storesSettings b
      ∧ b.cnv = { s.block.cnv with set := { s.block.cnv.set with tuneEn := en == 1, fcSet := fc } })
  ∧ (∀ s src mask coef, s.block.sys.mstate ≠ .run → mask ≤ 255 → coef.length = 7 → (∀ i < 7, -2147483648 ≤ coef.getD i 0 ∧ coef.getD i 0 ≤ 2147483647
        ∧ floorCoefLo s.block.floor i ≤ coef.getD i 0 ∧ coef.getD i 0 ≤ floorCoefHi s.block.floor i) → s.block.cnv.phases.length = 8 →
      Serves (.cnvSetCoeffs src mask coef) s src 0x0708 true [.cnv, .upd] .ok (leBytes 1 mask) fun b => s.block.storesSettings b ∧ ∀ k < 8,
        b.phase k = if mask.testBit k then { s.block.phase k with comp := { (s.block.phase k).comp with coef := coef, src := 2, staged := none } } else s.block.phase k)
  ∧ (∀ s src phase, phase ≤ 7 → (s.block.phase phase).st ≠ .unconfigured → s.block.phaseToSpare = true → phase < s.block.cnv.phases.length →
      Serves (.cnvPhaseCtrl src phase 0) s src 0x0709 true [.cnv] .ok (leBytes 1 PhState.out.code) fun b => (b.phase phase).st = .out ∧ (b.phase phase).outr = 5 ∧ s.block.onlyPhase b phase)
  ∧ (∀ s src phase, phase ≤ 7 → (s.block.phase phase).st = .out → phase < s.block.cnv.phases.length →
      Serves (.cnvPhaseCtrl src phase 1) s src 0x0709 true [.cnv] .ok (leBytes 1 PhState.search.code) fun b => (b.phase phase).st = .search ∧ (b.phase phase).outr = 0 ∧ s.block.onlyPhase b phase)
  ∧ (∀ s src, Serves (.cnvGetConfig src) s src 0x070A false [] (s.block.tilesStatus [0x301, 0x302])
      (wordsBytes ((s.block.frontTile 0x301).take 10 ++ (s.block.frontTile 0x302).take 12)) fun _ => True)

/-! ### Dispatch and thermal loops (08_dispatch_and_thermal_loops.md) -/

/-- R248, R249, R250, R251, R252, R254, R257, R261, R262, R268: the loop cycle in automatic and manual operation, at the hand-over and in a Hinge hold.
Part of it rests on the model's own choice (log entry 6). -/
def Obligations.LoopCyclesFollowTheSetPoint : Prop :=
  (∀ s ain, s.block.sys.mstate = .off → Happens (.loopCycle ain) s [] fun _ => True)
  ∧ (∀ s ain, s.block.sys.mstate ≠ .off → s.block.hinge = true → Happens (.loopCycle ain) s [.sys, .loop] fun b =>
      b.sys.now = s.block.nextMultiple 10000 ∧ b.loop.held = true ∧ b.loop.u = s.block.loop.u ∧ b.loop.ig = s.block.loop.ig ∧ b.loop.spR = s.block.loop.spR
      ∧ b.loop.cycles = (s.block.loop.cycles + 1) % 4294967296 ∧ b.loop.sumN = 0 ∧ b.loop.am = s.block.loop.am ∧ b.loop.lmode = s.block.loop.lmode)
  ∧ (∀ s ain fb sp0 sp, s.block.sys.mstate ≠ .off → s.block.hinge = false → s.block.loop.am = false → s.block.loop.amDue = none → s.block.loop.modeDue = false → s.block.loop.srcDue = false →
      s.block.loop.preset = none → s.block.cnv.handOver = none → s.block.loop.src = 0 → s.block.srcLost 0 = false → s.block.loopFb = some fb → s.block.loop.spR = some sp0 →
      sp = slewRef sp0 ((s.block.delivered 0).getD 0) (fxQ ((s.block.loop.set.spRamp : Int) * s.block.loop.set.fullScale s.block.loop.lmode) 655360000) →
      Happens (.loopCycle ain) s [.sys, .loop] fun b =>
        b.sys.now = s.block.nextMultiple 10000 ∧ b.loop.spSrc = s.block.delivered 0 ∧ b.loop.spR = some sp ∧ b.loop.fb = some fb ∧ b.loop.ff = s.block.feedForward sp ∧ b.loop.held = false
        ∧ b.loop.p = (if s.block.loop.lmode = 2 then -1 else 1) * gainTerm s.block.loop.lmode (s.block.loop.set.gains.getD (2 * s.block.loop.lmode) 0) (sp - fb)
        ∧ b.loop.ig = clampI (b.loopLimits.1 - b.loop.ff - b.loop.p) (b.loopLimits.2 - b.loop.ff - b.loop.p) (s.block.loop.ig + (if s.block.loop.lmode = 2 then -1 else 1)
            * gainTerm s.block.loop.lmode (s.block.loop.set.gains.getD (2 * s.block.loop.lmode + 1) 0) (sp - fb) / 10000)
        ∧ b.loop.u = clampI b.loopLimits.1 b.loopLimits.2 (b.loop.ff + b.loop.p + b.loop.ig) ∧ b.loop.sumN = 0 ∧ b.loop.set = s.block.loop.set)
  ∧ (∀ s ain, s.block.sys.mstate ≠ .off → s.block.hinge = false → s.block.loop.am = false → s.block.loop.amDue = none → s.block.loop.modeDue = false → s.block.loop.srcDue = false →
      s.block.loop.preset = none → s.block.cnv.handOver = none → s.block.loop.src = 0 → s.block.srcLost 0 = false → s.block.loopFb = none → Happens (.loopCycle ain) s [.sys, .loop] fun b =>
        b.loop.u = s.block.loop.u ∧ b.loop.ig = s.block.loop.ig ∧ b.loop.fb = s.block.loop.fb)
  ∧ (∀ s ain, s.block.sys.mstate ≠ .off → s.block.hinge = false → s.block.loop.am = true → s.block.loop.amDue = none → s.block.loop.modeDue = false → s.block.cnv.handOver = none →
      Happens (.loopCycle ain) s [.sys, .loop] fun b =>
        b.loop.u = clampI b.loopLimits.1 b.loopLimits.2 (slewRef s.block.loop.manRef (fxI s.block.loop.manIref) (fxQ s.block.loop.set.manRamp 10000)) ∧ b.loop.manRef = b.loop.u
        ∧ b.loop.am = true ∧ b.loop.ig = s.block.loop.ig)
  ∧ (∀ s ain, s.block.sys.mstate ≠ .off → s.block.hinge = false → s.block.loop.am = false → s.block.loop.amDue = some true → s.block.loop.modeDue = false → s.block.loop.srcDue = false →
      s.block.cnv.handOver = none → s.block.loop.src = 0 → s.block.srcLost 0 = false → Happens (.loopCycle ain) s [.sys, .loop] fun b =>
        b.loop.am = true ∧ b.loop.amDue = none
        ∧ b.loop.u = clampI b.loopLimits.1 b.loopLimits.2 (slewRef s.block.loop.u (fxI s.block.loop.manIref) (fxQ s.block.loop.set.manRamp 10000)))
  ∧ (∀ s ain i, s.block.sys.mstate ≠ .off → s.block.hinge = false → s.block.loop.am = false → s.block.loop.amDue = none → s.block.loop.modeDue = false → s.block.loop.srcDue = false →
      s.block.cnv.handOver = some i → s.block.loop.src = 0 → s.block.srcLost 0 = false → Happens (.loopCycle ain) s [.sys, .loop, .cnv] fun b =>
        b.cnv = { s.block.cnv with handOver := none } ∧ b.loop.preset = none ∧ b.loop.presets = satAdd 65535 s.block.loop.presets 1 ∧ b.loop.p = 0
        ∧ b.loop.u = clampI b.loopLimits.1 b.loopLimits.2 (fxI i) ∧ b.loop.u = b.loop.ff + b.loop.ig)

/-- R253, R258, R259, R264: set-point sources are lost, the loss action follows in REGULATE, and sources return. -/
def Obligations.SourcesAreLostAndReturn : Prop :=
  (∀ s before after, s.block.sys.mstate ≠ .off → 1000000 < |after - before| → s.block.srcLost 1 = false → s.block.cnv.st ≠ .regulate → s.block.loop.sources.length = 4 →
      Happens (.ainOpenTest before after) s [.sys, .loop] fun b =>
        b.sys.now = s.block.nextMultiple (10 * msT) ∧ b.loop.ainOpen = true ∧ b.loop.ainMask = b.sys.now + 200 * usT ∧ b.srcLost 1 = true ∧ b.loop.losses = satAdd 65535 s.block.loop.losses 1
        ∧ ∀ j < 4, j ≠ 1 → b.srcLost j = s.block.srcLost j)
  ∧ (∀ s before after, s.block.sys.mstate ≠ .off → |after - before| ≤ 1000000 → Happens (.ainOpenTest before after) s [.sys, .loop] fun b =>
      b.loop = { s.block.loop with ainOpen := false, ainMask := b.sys.now + 200 * usT } ∧ b.sys.now = s.block.nextMultiple (10 * msT))
  ∧ (∀ s period high, s.block.sys.mstate ≠ .off → 0 < period → 90 * period ≤ secT → secT ≤ 11000 * period → period ≤ 20 * high → 20 * high ≤ 19 * period →
      Happens (.pulsePeriod period high) s [.loop] fun b =>
        b.loop.pulseAt = s.block.sys.now ∧ b.loop.pulseFreq = min 65535 (secT / period) ∧ b.loop.pulseDuty = fxQ high period ∧ b.loop.pulseBad = 0 ∧ b.srcLost 2 = s.block.srcLost 2
        ∧ b.loop.u = s.block.loop.u)
  ∧ (∀ s period high, s.block.sys.mstate ≠ .off → 0 < period → high ≤ period → secT < 90 * period ∨ 11000 * period < secT ∨ 20 * high < period ∨ 19 * period < 20 * high →
      2 ≤ s.block.loop.pulseBad → s.block.srcLost 2 = false → s.block.cnv.st ≠ .regulate → s.block.loop.sources.length = 4 → Happens (.pulsePeriod period high) s [.loop] fun b =>
        b.srcLost 2 = true ∧ b.loop.pulseDuty = s.block.loop.pulseDuty ∧ b.loop.losses = satAdd 65535 s.block.loop.losses 1)
  ∧ (∀ s, s.block.sys.mstate ≠ .off → s.block.srcLost 2 = false → s.block.cnv.st ≠ .regulate → s.block.loop.sources.length = 4 → Happens .pulseTimeout s [.sys, .loop] fun b =>
      b.sys.now = max s.block.sys.now (s.block.loop.pulseAt + 20 * msT) ∧ b.srcLost 2 = true ∧ b.loop.losses = satAdd 65535 s.block.loop.losses 1)
  ∧ (∀ s, s.block.loop.set.spTimeout ≠ 0 → s.block.srcLost 0 = false → s.block.sys.mstate ≠ .off → s.block.sys.mstate ≠ .boot → s.block.cnv.st ≠ .regulate → s.block.loop.sources.length = 4 →
      Happens .setpointTimeout s [.sys, .loop] fun b =>
        b.sys.now = max s.block.sys.now (s.block.loop.packetAt + s.block.loop.set.spTimeout * msT) ∧ b.srcLost 0 = true ∧ b.loop.packet = s.block.loop.packet)
  ∧ (∀ s, s.block.loop.set.spTimeout = 0 → Happens .setpointTimeout s [] fun _ => True)
  ∧ (∀ s, s.block.loop.set.spTimeout ≠ 0 → s.block.srcLost 0 = false → s.block.sys.mstate = .run → s.block.cnv.st = .regulate → s.block.hinge = false → s.block.loop.am = false →
      s.block.loop.srcDue = false → s.block.loop.src = 0 → s.block.loop.onFb = false → s.block.loop.sources.length = 4 → Happens .setpointTimeout s [.sys, .loop, .cnv] fun b =>
        b.srcLost 0 = true ∧ (s.block.loop.set.lossAct = 2 → b.loop.src = s.block.loop.set.fbSrc ∧ b.loop.onFb = true ∧ b.cnv = s.block.cnv)
        ∧ (s.block.loop.set.lossAct = 3 → b.cnv.st = .softstop ∧ b.cnv.parkSrc = none ∧ b.loop.src = 0) ∧ (s.block.loop.set.lossAct < 2 → b.cnv = s.block.cnv ∧ b.loop.src = 0))
  ∧ (∀ s t, s.block.loop.unlockAt = some t → s.block.ptpLock = false → s.block.srcLost 3 = false → s.block.cnv.st ≠ .regulate → s.block.loop.sources.length = 4 →
      Happens .schedHoldExpiry s [.sys, .loop] fun b => b.sys.now = max s.block.sys.now (t + s.block.loop.set.schedHold * secT) ∧ b.srcLost 3 = true)
  ∧ (∀ s (i : Fin 4) t, i.val ≠ 0 → (s.block.loop.sources.getD i { lost := false, okAt := none }).okAt = some t → s.block.srcLost i = true → s.block.loop.sources.length = 4 →
      Happens (.sourceReturn i) s [.sys, .loop] fun b =>
        b.sys.now = max s.block.sys.now (t + s.block.loop.set.spReturn * msT) ∧ b.loop = { s.block.loop with sources := s.block.loop.sources.set i { lost := false, okAt := none } })
  ∧ (∀ s, Happens (.sourceReturn 0) s [] fun _ => True)

/-- R265, R266, R267, R268, R269, R270, R271, R272, R273: the thermal loop, its outputs, and the louvres.
Part of it rests on the model's own choice (log entries 6 and 27). -/
def Obligations.ThermalOutputsAndLouvresRun : Prop :=
  (∀ s t0 t1, s.block.sys.mstate ∈ [MState.park, .run, .fault, .safe] → s.block.hinge = false → s.block.thm.fire = false → Happens (.thermalCycle t0 t1) s [.sys, .thm] fun b =>
      b.sys.now = s.block.nextMultiple 10000000 ∧ b.thm.cycles = (s.block.thm.cycles + 1) % 4294967296 ∧ b.thm.tCtrl = s.block.tempCtrl
      ∧ (∀ c ∈ s.block.tempCtrl, b.thm.tLost = false ∧ b.thm.noneAt = none ∧ b.thm.d = clampI 0 fxOne (fxQ (c - s.block.thm.tSet) 100 * (s.block.thm.kpT : Int) / 65536 + b.thm.ig)
          ∧ b.thm.ig = clampI (-(fxQ (c - s.block.thm.tSet) 100 * (s.block.thm.kpT : Int) / 65536)) (fxOne - fxQ (c - s.block.thm.tSet) 100 * (s.block.thm.kpT : Int) / 65536)
              (s.block.thm.ig + fxQ (c - s.block.thm.tSet) 100 * (s.block.thm.kiT : Int) / 655360))
      ∧ (s.block.tempCtrl = none → b.thm.d = s.block.thm.d ∧ b.thm.noneAt ≠ none)
      ∧ (∀ x ∈ List.zip s.block.thm.fps b.thm.fps, x.2.duty = b.outValue x.1.map ∧ x.2.map = x.1.map)
      ∧ (∀ x ∈ List.zip s.block.thm.lvs b.thm.lvs, x.1.learn = none → x.2 = { x.1 with tgt := frac16 (b.outValue x.1.map) })
      ∧ ∀ f ∈ b.thm.fps[0]?, f.rpm = rpmOf t0 f.ppr)
  ∧ (∀ s t0 t1, s.block.sys.mstate ≠ .off → s.block.hinge = true → s.block.thm.fire = false → Happens (.thermalCycle t0 t1) s [.sys, .thm] fun b =>
      b.thm.d = s.block.thm.d ∧ b.thm.ig = s.block.thm.ig ∧ b.thm.lvs = s.block.thm.lvs ∧ ∀ x ∈ List.zip s.block.thm.fps b.thm.fps, x.2.duty = x.1.duty)
  ∧ (∀ s t, s.block.thm.noneAt = some t → s.block.thm.tLost = false → s.block.hinge = false → s.block.thm.fire = false → s.block.sys.mstate ∈ [MState.park, .run, .fault, .safe] →
      Happens .thmTempLost s [.sys, .thm] fun b =>
        b.sys.now = max s.block.sys.now (t + 10 * secT) ∧ b.thm.tLost = true ∧ ∀ x ∈ List.zip s.block.thm.fps b.thm.fps, x.1.map.override = none → x.2.duty = x.1.map.at_ (frac16 s.block.thm.fsDemand))
  ∧ (∀ s (o : Fin 6) m v, s.block.outMap? o = some m → m.override = some v → Happens (.overrideExpiry o) s [.sys, .thm] fun b =>
      b.sys.now = max s.block.sys.now v.2 ∧ b.outMap? o = some { m with override := none } ∧ ∀ p < 6, p ≠ o.val → b.outMap? p = s.block.outMap? p)
  ∧ (∀ s (f : Fin 2) x t, s.block.thm.fps[f.val]? = some x → x.slowAt = some t → x.stall = false → Happens (.fpStall f) s [.sys, .thm] fun b =>
      b.sys.now = max s.block.sys.now (t + 5 * secT) ∧ b.thm.fps[f.val]? = some { x with stall := true } ∧ b.thm.lvs = s.block.thm.lvs)
  ∧ (∀ s (k : Fin 4) v uv ma, s.block.sys.mstate ≠ .off → s.block.thm.lvs[k.val]? = some v → v.st.dark = false → v.learn = none → Happens (.louvreCycle k uv ma) s [.sys, .thm] fun b =>
      b.sys.now = multipleFrom msT s.block.sys.now ∧ (∀ j < 4, j ≠ k.val → b.thm.lvs[j]? = s.block.thm.lvs[j]?) ∧ ∃ w ∈ b.thm.lvs[k.val]?, w.pos = v.place uv ∧ w.iMot = ma ∧ w.fbV = some uv
        ∧ (if |v.tgt - w.pos| * 10000 ≤ fxI v.db then w.u = 0 ∧ w.ig = 0 ∧ w.st = .inBand
            else w.ig = clampI (-(fxI v.umax)) (fxI v.umax) (v.ig + (v.tgt - w.pos) * 100 * (v.ki : Int) / 1000)
              ∧ w.u = clampI (-(fxI v.umax)) (fxI v.umax) ((v.tgt - w.pos) * 100 * (v.kp : Int) + w.ig + (if 0 < v.tgt - w.pos then 1 else -1) * v.fr w.pos)))
  ∧ (∀ s (k : Fin 4) v uv ma, s.block.sys.mstate ≠ .off → s.block.thm.lvs[k.val]? = some v → v.st.dark = true → Happens (.louvreCycle k uv ma) s [.sys, .thm] fun b =>
      ∃ w ∈ b.thm.lvs[k.val]?, w.u = 0 ∧ w.ig = 0 ∧ w.st = v.st ∧ w.pos = v.place uv)
  ∧ (∀ s (k : Fin 4) v w, s.block.thm.lvs[k.val]? = some v → v.watch = some w → Happens (.lvStall k) s [.sys, .thm] fun b =>
      b.sys.now = max s.block.sys.now (w.1 + 2 * secT) ∧ ∃ x ∈ b.thm.lvs[k.val]?, x.u = 0 ∧ x.offAt = b.sys.now ∧ x.stalls = b.sys.now :: v.stalls.filter (fun t => decide (b.sys.now < t + 600 * secT))
        ∧ x.st = (if 3 ≤ x.stalls.length then .stalled else .retry))
  ∧ (∀ s (k : Fin 4) v, s.block.thm.lvs[k.val]? = some v → Happens (.lvOvercurrent k) s [.thm] fun b =>
      ∃ x ∈ b.thm.lvs[k.val]?, x.u = 0 ∧ x.offAt = s.block.sys.now ∧ x.st = (if 3 ≤ x.stalls.length then .stalled else .retry) ∧ x.stalls.head? = some s.block.sys.now)
  ∧ (∀ s (k : Fin 4) v, s.block.thm.lvs[k.val]? = some v → v.st = .retry → v.learn = none → Happens (.lvRetry k) s [.sys, .thm] fun b =>
      b.sys.now = max s.block.sys.now (v.offAt + 30 * secT) ∧ b.thm.lvs[k.val]? = some { v with st := .off })
  ∧ (∀ s (k : Fin 4) v t, s.block.thm.lvs[k.val]? = some v → v.badAt = some t → v.st ≠ .fbLost → Happens (.lvFbLost k) s [.sys, .thm] fun b =>
      b.sys.now = max s.block.sys.now (t + 100 * msT) ∧ b.thm.lvs[k.val]? = some { v with st := if v.st = .stalled then .stalled else .fbLost, u := 0, ig := 0, watch := none })
  ∧ (∀ s (k : Fin 4) v t, s.block.thm.lvs[k.val]? = some v → v.goodAt = some t → v.st = .fbLost → Happens (.lvFbRestored k) s [.sys, .thm] fun b =>
      b.sys.now = max s.block.sys.now (t + secT) ∧ b.thm.lvs[k.val]? = some { v with st := .off })
  ∧ (∀ s (k : Fin 4) v l, s.block.thm.lvs[k.val]? = some v → v.learn = some l → (l.step v.db v.pos).2 = false → Happens (.lvLearnStep k) s [.sys, .thm] fun b =>
      b.sys.now = s.block.nextMultiple (20 * msT) ∧ b.thm.lvs[k.val]? = some { v with learn := some (l.step v.db v.pos).1 }
      ∧ (l.placing = false → (∀ r ∈ l.recent, 1000 * |v.pos - r| < 3 * fxOne) → (l.step v.db v.pos).1.drive = l.drive + 50))
  ∧ (∀ s (k : Fin 4) v l i q, s.block.thm.lvs[k.val]? = some v → v.learn = some l → (l.step v.db v.pos).2 = true → s.block.thm.learnSrc = some (.session i q, 2 ^ k.val, 0) →
      (∀ j < 4, j ≠ k.val → ∀ x ∈ s.block.thm.lvs[j]?, x.learn = none) → s.block.thm.lvs.length = 4 → (s.block.entry? i q).isSome = true → Happens (.lvLearnStep k) s [.sys, .thm, .upd, .ix, .pwr] fun b =>
        (∃ x ∈ b.thm.lvs[k.val]?, x.learn = none ∧ x.friction = (l.step v.db v.pos).1.table ∧ x.frSet = true ∧ x.u = 0 ∧ x.st = .off) ∧ b.thm.learnSrc = none
        ∧ b.answered (.session i q) .ok (leBytes 1 (2 ^ k.val)))
  ∧ (∀ s (k : Fin 4) v l i q, s.block.thm.lvs[k.val]? = some v → v.learn = some l → s.block.thm.learnSrc = some (.session i q, 2 ^ k.val, 0) →
      (∀ j < 4, j ≠ k.val → ∀ x ∈ s.block.thm.lvs[j]?, x.learn = none) → s.block.thm.lvs.length = 4 → (s.block.entry? i q).isSome = true → Happens (.lvLearnFail k) s [.sys, .thm, .ix, .pwr] fun b =>
        b.sys.now = max s.block.sys.now (l.begun + 600 * secT) ∧ (∃ x ∈ b.thm.lvs[k.val]?, x.learn = none ∧ x.friction = v.friction) ∧ b.thm.learnSrc = none
        ∧ b.answered (.session i q) .fault (leBytes 1 0))

/-- R254, R255, R258, R260, R262, R267, R271, R272, R275: the commands of the loop engine. -/
def Obligations.LoopCommandsSetWhatTheyName : Prop :=
  (∀ s src lmode ffEn, lmode ≤ 2 → ffEn ≤ 1 → Serves (.loopSetMode src lmode ffEn) s src 0x0801 true [.loop, .upd] .ok [] fun b => s.block.storesSettings b
      ∧ b.loop = { s.block.loop with set := { s.block.loop.set with lmode := lmode, ffEn := ffEn == 1 }, modeDue := true })
  ∧ (∀ s src source fbSrc lossAct, source ≤ 3 → fbSrc ≤ 3 → lossAct ≤ 3 → s.block.srcLost source = false →
      Serves (.loopSetSource src source fbSrc lossAct) s src 0x0802 true [.loop, .upd] .ok [] fun b => s.block.storesSettings b
        ∧ b.loop = { s.block.loop with set := { s.block.loop.set with src := source, fbSrc := fbSrc, lossAct := lossAct }, srcDue := true })
  ∧ (∀ s src source fbSrc lossAct, source ≤ 3 → fbSrc ≤ 3 → lossAct ≤ 3 → s.block.srcLost source = true → s.block.settled = true → s.block.admits src 0x0802 true = true →
      Ends (.loopSetSource src source fbSrc lossAct) s fun b => s.block.refused b src .badState ∧ b.loop = s.block.loop)
  ∧ (∀ s src value, s.block.loop.set.inRange s.block.loop.lmode value = true → s.block.loop.lmode ≠ 2 ∨ value ≤ s.block.vlinkMax → s.block.loop.sources.length = 4 →
      Serves (.loopSetpoint src value) s src 0x0803 true [.loop] .ok [] fun b => b.loop.packet = some value ∧ b.loop.packetAt = s.block.sys.now ∧ b.srcLost 0 = false
        ∧ b.loop.u = s.block.loop.u ∧ ∀ j < 4, j ≠ 0 → b.srcLost j = s.block.srcLost j)
  ∧ (∀ s src pmax imax vdcMid vdcSpan spRamp manRamp, 1000 ≤ pmax → pmax ≤ 2500000 → 1000 ≤ imax → imax ≤ 1250000 → 500000 ≤ vdcMid → vdcMid ≤ 3000000 → 1000 ≤ vdcSpan → vdcSpan ≤ 500000 →
      66 ≤ spRamp → spRamp ≤ 655360 → 1000 ≤ manRamp → manRamp ≤ 10000000 → imax ≤ s.block.iFloor → vdcMid + vdcSpan ≤ s.block.vlinkMax →
      Serves (.loopSetScale src pmax imax vdcMid vdcSpan spRamp manRamp) s src 0x0804 true [.loop, .upd] .ok [] fun b => s.block.storesSettings b ∧ b.loop = { s.block.loop with
        set := { s.block.loop.set with pmax := pmax, imax := imax, vdcMid := vdcMid, vdcSpan := vdcSpan, spRamp := spRamp, manRamp := manRamp } })
  ∧ (∀ s src mode kp ki, mode ≤ 2 → kp ≤ 10000000 → ki ≤ 100000000 → Serves (.loopSetGains src mode kp ki) s src 0x0805 true [.loop, .upd] .ok [] fun b => s.block.storesSettings b
      ∧ b.loop = { s.block.loop with set := { s.block.loop.set with gains := (s.block.loop.set.gains.set (2 * mode) kp).set (2 * mode + 1) ki } })
  ∧ (∀ s src spTimeout spReturn schedHold ainDb, spTimeout = 0 ∨ (100 ≤ spTimeout ∧ spTimeout ≤ 60000) → spReturn ≤ 60000 → schedHold ≤ 3600 → ainDb ≤ 250 →
      Serves (.loopSetTiming src spTimeout spReturn schedHold ainDb) s src 0x0806 true [.loop, .upd] .ok [] fun b => s.block.storesSettings b ∧ b.loop = { s.block.loop with
        packetAt := s.block.sys.now, set := { s.block.loop.set with spTimeout := spTimeout, spReturn := spReturn, schedHold := schedHold, ainDb := ainDb } })
  ∧ (∀ s src am iref, s.block.sys.mstate = .park ∨ s.block.sys.mstate = .run → am ≤ 1 → -2147483647 ≤ iref → iref ≤ 2147483647 →
      Serves (.loopManual src am iref) s src 0x0807 true [.loop] .ok [] fun b => b.loop = { s.block.loop with amDue := some (am == 1), manIref := iref })
  ∧ (∀ s src first count entries, 1 ≤ count → count ≤ 64 → first + count ≤ 256 → entries.length = 16 * count → s.block.loop.staged.length = 256 →
      Serves (.loopSchedWrite src first count entries) s src 0x0808 true [.loop] .ok [] fun b => b.loop.sched = s.block.loop.sched ∧ b.loop.set = s.block.loop.set
        ∧ ∀ i < 256, b.loop.staged[i]? = if first ≤ i ∧ i < first + count then some (some (parseEntry ((entries.drop (16 * (i - first))).take 16))) else s.block.loop.staged[i]?)
  ∧ (∀ s src count, 1 ≤ count → count ≤ 256 → schedCheck s.block.loop.set s.block.loop.staged count = 0 → Serves (.loopSchedCommit src count) s src 0x0809 true [.loop] .ok (leBytes 1 0) fun b =>
      b.loop = { s.block.loop with commit := some ((s.block.loop.staged.take count).filterMap id), staged := List.replicate 256 none })
  ∧ (∀ s src count, 1 ≤ count → count ≤ 256 → schedCheck s.block.loop.set s.block.loop.staged count ≠ 0 →
      Serves (.loopSchedCommit src count) s src 0x0809 true [] .badParam (leBytes 1 (schedCheck s.block.loop.set s.block.loop.staged count)) fun _ => True)
  ∧ (∀ s src, Serves (.loopGetConfig src) s src 0x0811 false [] (s.block.tilesStatus [0x401, 0x410])
      (wordsBytes ((s.block.frontTile 0x401).take 15 ++ ((s.block.frontTile 0x410).drop 1).take 6)) fun _ => True)

/-- R265, R267, R269, R270, R271, R272, R273, R275: the commands of the thermal loop, fans, pumps and louvres. -/
def Obligations.ThermalCommandsSetWhatTheyName : Prop :=
  (∀ s src tSel thIdx tSet kpT kiT fsDemand hibDemand, tSel ≤ 2 → thIdx < s.block.nTherm → -2000 ≤ tSet → tSet ≤ 8000 → kpT < 2 ^ 32 → kiT < 2 ^ 32 → fsDemand < 65536 → hibDemand < 65536 →
      Serves (.thmSetConfig src tSel thIdx tSet kpT kiT fsDemand hibDemand) s src 0x080A true [.thm, .upd] .ok [] fun b => s.block.storesSettings b ∧ b.thm = { s.block.thm with
        tSel := tSel, thIdx := thIdx, tSet := tSet, kpT := kpT, kiT := kiT, fsDemand := fsDemand, hibDemand := hibDemand })
  ∧ (∀ s src output dStart dFull outOff outMin outMax fire m, dFull < 65536 → dStart < dFull → outOff < 65536 → outMin < 65536 → outMax < 65536 → fire < 65536 → output ≤ 5 →
      s.block.outMap? output = some m → Serves (.thmSetMap src output dStart dFull outOff outMin outMax fire) s src 0x080B true [.thm, .upd] .ok [] fun b => s.block.storesSettings b
        ∧ b.outMap? output = some { m with dStart := dStart, dFull := dFull, outOff := outOff, outMin := outMin, outMax := outMax, fire := fire }
        ∧ ∀ p < 6, p ≠ output → b.outMap? p = s.block.outMap? p)
  ∧ (∀ s src output value time m, output ≤ 5 → value < 65536 → 1 ≤ time → time ≤ 3600 → s.block.fireDemand = false → s.block.outMap? output = some m →
      Serves (.thmOverride src output 1 value time) s src 0x080C true [.thm] .ok [] fun b => b.outMap? output = some { m with override := some (value, s.block.sys.now + time * secT) }
        ∧ (s.block.hinge = false → s.block.thm.fire = false → s.block.sys.mstate ≠ .boot → s.block.sys.mstate ≠ .hibernate → output < 2 → ∀ f ∈ b.thm.fps[output]?, f.duty = value))
  ∧ (∀ s src output value time m, output ≤ 5 → value < 65536 → s.block.fireDemand = false → s.block.outMap? output = some m →
      Serves (.thmOverride src output 0 value time) s src 0x080C true [.thm] .ok [] fun b => b.outMap? output = some { m with override := none })
  ∧ (∀ s src output inv ppr tachMin, output ≤ 1 → inv ≤ 1 → 1 ≤ ppr → ppr ≤ 4 → tachMin < 65536 → Serves (.fpSetConfig src output inv ppr tachMin) s src 0x080D true [.thm, .upd] .ok [] fun b =>
      b.thm = { s.block.thm with fps := modAt s.block.thm.fps output fun f => { f with inv := inv == 1, ppr := ppr, tachMin := tachMin } } ∧ s.block.storesSettings b)
  ∧ (∀ s src louvre fbLo fbHi kp ki db umax, louvre ≤ 3 → 0 ≤ fbLo → fbLo ≤ 10000000 → 0 ≤ fbHi → fbHi ≤ 10000000 → fbLo ≠ fbHi → kp < 65536 → ki < 65536 → db ≤ 1000 → 1000 ≤ umax → umax ≤ 10000 →
      Serves (.lvSetConfig src louvre fbLo fbHi kp ki db umax) s src 0x080E true [.thm, .upd] .ok [] fun b => s.block.storesSettings b
        ∧ b.thm = { s.block.thm with lvs := modAt s.block.thm.lvs louvre fun v => { v with fbLo := fbLo, fbHi := fbHi, kp := kp, ki := ki, db := db, umax := umax, stalls := [],
                                                                                           st := if v.st = .stalled ∨ v.st = .retry then .off else v.st } })
  ∧ (∀ s src louvre table, louvre ≤ 3 → table.length = 32 → (∀ x ∈ table, x < 65536) → Serves (.lvFrictionWrite src louvre table) s src 0x080F true [.thm, .upd] .ok [] fun b =>
      b.thm = { s.block.thm with lvs := modAt s.block.thm.lvs louvre fun v => { v with friction := table, frSet := true } } ∧ s.block.storesSettings b)
  ∧ (∀ s src mask, s.block.sys.mstate = .park → 1 ≤ mask → mask ≤ 15 → s.block.thm.lvs.length = 4 → Begins (.lvLearn src mask) s src 0x0810 true [.thm] fun b =>
      b.thm.learnSrc = some (src, mask, 0) ∧ b.thm.fps = s.block.thm.fps
      ∧ ∀ k < 4, if mask.testBit k then (∃ v ∈ b.thm.lvs[k]?, v.learn = some (Learn.start s.block.sys.now)) else b.thm.lvs[k]? = s.block.thm.lvs[k]?)

/-! ### The Latch: states and supply (09_safety_latch.md) -/

/-- R286, R287, R288, R303, R312, R566: the Latch rises in SELFTEST with every output off, passes to STARTUP, ARMED or ACTED as its conditions say, enters LOCKOUT on a
failed check, and records its action as its supply falls. -/
def Obligations.LatchStartsArmsAndLocksOut : Prop :=
  (∀ s, s.block.latch.powered = false → s.block.latch.muzzle = true → Happens .latPowerUp s [.latch] fun b =>
      b.latch.powered = true ∧ b.latch.state = .selftest ∧ b.latch.fn = .none ∧ b.latch.cause = 0 ∧ b.latch.causes = [] ∧ b.latch.muzzle = true
      ∧ (∀ o ∈ b.latch.outs, o.cmd = false ∧ o.hs = false ∧ o.ls = false) ∧ b.latch.seq = .idle ∧ b.latch.preDone = false ∧ b.latch.lockstep = true
      ∧ b.latch.answering = true ∧ b.latch.windows = [] ∧ b.latch.nonces = [] ∧ b.latch.resetting = none ∧ b.latch.proof = none
      ∧ (b.latch.copyA, b.latch.copyB, b.latch.okA, b.latch.okB, b.latch.pendingAct) =
          (s.block.latch.copyA, s.block.latch.copyB, s.block.latch.okA, s.block.latch.okB, s.block.latch.pendingAct)
      ∧ (b.latch.pwSet, b.latch.fails, b.latch.salt, b.latch.key, b.latch.lockUntil, b.latch.changes, b.latch.changeSeq, b.latch.head) =
          (s.block.latch.pwSet, s.block.latch.fails, s.block.latch.salt, s.block.latch.key, s.block.latch.lockUntil, s.block.latch.changes, s.block.latch.changeSeq,
            s.block.latch.head))
  ∧ (∀ s, s.block.latch.powered = true → s.block.latch.state = .selftest → s.block.latch.floorOk = true → s.block.latch.commitOpen = none → s.block.latch.causes = [] →
      s.block.bark.line = true ∨ s.block.bark.drive = true → Happens (.selftestDone true) s [.latch, .thm] fun b =>
        b.latch.state = .startup ∧ b.latch.muzzle = true ∧ b.latch.outs = s.block.latch.outs ∧ b.latch.acts = s.block.latch.acts ∧ b.latch.changes = s.block.latch.changes
        ∧ ∀ i < 8, ∀ x ∈ b.latch.inputs[i]?, (s.block.siOn i = false → x.st = .disabled) ∧ (s.block.siOn i = true → x.st ≠ .disabled))
  ∧ (∀ s d, s.block.latch.powered = true → s.block.latch.state = .selftest → s.block.latch.floorOk = true → s.block.latch.commitOpen = some d → s.block.latch.causes = [] →
      s.block.bark.line = true ∨ s.block.bark.drive = true → Happens (.selftestDone true) s [.latch, .thm] fun b =>
        b.latch.state = .startup ∧ b.latch.commitOpen = none ∧ s.block.logsChange b 0xFE 6 d)
  ∧ (∀ s ix, s.block.latch.powered = true → s.block.latch.state = .selftest → s.block.latch.floorOk = true → s.block.latch.commitOpen = none →
      s.block.latch.causes = [(3, ix)] → s.block.latch.resetting = none → s.block.bark.line = true ∨ s.block.bark.drive = true →
      Happens (.selftestDone true) s (.thm :: actedOn) fun b => s.block.hasActed b true 3 ix)
  ∧ (∀ s pass, s.block.latch.powered = true → s.block.latch.state = .selftest → s.block.latch.floorOk = false → s.block.latch.resetting = none →
      Happens (.selftestDone pass) s (.latch :: controlled) fun b => s.block.hasLockedOut b 18)
  ∧ (∀ s, s.block.latch.powered = true → s.block.latch.state = .selftest → s.block.latch.floorOk = true → s.block.latch.resetting = none →
      Happens (.selftestDone false) s (.latch :: controlled) fun b => s.block.hasLockedOut b 16)
  ∧ (∀ s, s.block.latch.powered = true → Happens (.latchSelfcheck true) s [.sys] fun b => b.sys.now = s.block.nextMultiple (100 * msT) ∧ b.latch = s.block.latch)
  ∧ (∀ s, s.block.latch.powered = true → s.block.latch.state ≠ .selftest → s.block.latch.state ≠ .lockout → s.block.latch.resetting = none →
      Happens (.latchSelfcheck false) s (.latch :: controlled) fun b => s.block.hasLockedOut b 16)
  ∧ (∀ s, s.block.latch.powered = true → s.block.latch.state ≠ .selftest → s.block.latch.state ≠ .lockout → s.block.latch.resetting = none →
      Happens .latchDisagree s (.latch :: controlled) fun b => s.block.hasLockedOut b 17)
  ∧ (∀ s, s.block.latch.powered = true → s.block.latch.state = .startup → s.block.openInputs = [] → s.block.latch.lockstep = true → s.block.latch.answering = true →
      s.block.latch.pendingAct = none → 3 < s.block.latch.outs.length → Happens .leadReadyRequest s ([.latch, .bark] ++ controlled) fun b =>
        b.latch.state = .armed ∧ b.latch.muzzle = false ∧ b.latch.causes = [] ∧ b.outSet 3 true = true ∧ (∀ n < 3, (b.latch.outs[n]?.map (·.cmd)) = s.block.latch.outs[n]?.map (·.cmd))
        ∧ b.bark.stuck = (s.block.bark.stuck || (!s.block.bark.line && !s.block.bark.drive)) ∧ b.bark.line = s.block.bark.line
        ∧ (s.block.sys.mstate = .boot → s.block.enginesLoaded = true → s.block.hinge = false → b.sys.mstate = .park)
        ∧ (s.block.sys.mstate ≠ .boot ∨ s.block.enginesLoaded = false → b.sys = s.block.sys))
  ∧ (∀ s i rest, s.block.latch.powered = true → s.block.latch.state = .startup → s.block.latch.resetting = none → s.block.openInputs = i :: rest →
      Happens .leadReadyRequest s actedOn fun b => s.block.hasActed b true 1 (i + 1) ∧ ∀ j ∈ rest, (1, j + 1) ∈ b.latch.causes)
  ∧ (∀ s, s.block.latch.powered = true → s.block.latch.state = .startup → s.block.latch.resetting = none → s.block.openInputs = [] → s.block.latch.lockstep = false →
      Happens .leadReadyRequest s actedOn fun b => s.block.hasActed b true 8 0)
  ∧ (∀ s, s.block.latch.powered = true → s.block.latch.state = .startup → s.block.latch.resetting = none → s.block.openInputs = [] → s.block.latch.lockstep = true →
      s.block.latch.answering = false → Happens .leadReadyRequest s actedOn fun b => s.block.hasActed b true 9 0)
  ∧ (∀ s ssi c, s.block.latch.powered = true → s.block.latch.state = .startup → s.block.latch.resetting = none → s.block.openInputs = [] → s.block.latch.lockstep = true →
      s.block.latch.answering = true → s.block.latch.pendingAct = some (ssi, c) → s.block.latch.causes = [] → s.block.latch.fn = .none →
      Happens .leadReadyRequest s actedOn fun b =>
        b.latch.state = .recovery ∧ b.latch.fn = (if ssi then .ssi else .sps) ∧ b.latch.cause = 15 ∧ b.latch.acts = s.block.latch.acts + 1 ∧ b.latch.muzzle = true
        ∧ b.leash.tripDown = true ∧ (ssi = true → b.bark.drive = true) ∧ (s.block.hinge = false → b.sys.mstate = .safe))
  ∧ (∀ s, s.block.latch.powered = true → s.block.latch.seq.closing = false → s.block.latch.state = .armed → Happens .latSupplyFall s ([.latch, .bark] ++ controlled) fun b =>
      b.latch.powered = false ∧ b.latch.pendingAct = s.block.latch.pendingAct ∧ b.latch.muzzle = true ∧ b.latch.preDone = false ∧ b.bark.drive = false
      ∧ (∀ o ∈ b.latch.outs, o.cmd = false ∧ o.hs = false ∧ o.ls = false ∧ o.rb = false) ∧ (b.cnv.st = .muzzled ∨ b.cnv.st = .latched) ∧ b.sys = s.block.sys)
  ∧ (∀ s, s.block.latch.powered = true → s.block.latch.seq.closing = false → s.block.latch.pendingAct = none →
      s.block.latch.state ∈ [LState.acted, .recovery, .test, .lockout] → Happens .latSupplyFall s ([.latch, .bark] ++ controlled) fun b =>
        b.latch.powered = false ∧ b.latch.pendingAct = some (decide (s.block.latch.fn ≠ .sps), s.block.latch.cause) ∧ b.bark.drive = false
        ∧ ∀ o ∈ b.latch.outs, o.cmd = false ∧ o.hs = false ∧ o.ls = false)

/-- R291, R293, R294, R300, R305, R309, R319: channels, filters, masks and pulse checks of the safety inputs, and the demand that an input makes by its function. -/
def Obligations.SafetyInputsDemandAndRelease : Prop :=
  (∀ s (i : Fin 8) (c : Fin 2) t x, s.block.latch.inputs[i.val]? = some x → s.block.latch.powered = true → (x.chan c).high = true → (x.chan c).maskEnd = none →
      s.block.latch.state ≠ .test → s.block.sys.mstate ≠ .hibernate → Happens (.siChannelChange i c false t) s [.sys, .latch] fun b =>
        b.sys.now = max s.block.sys.now t ∧ b.latch = { s.block.latch with inputs := b.latch.inputs } ∧ (∀ j < 8, j ≠ i.val → b.latch.inputs[j]? = s.block.latch.inputs[j]?)
        ∧ ∃ y ∈ b.latch.inputs[i.val]?, y.chan c = { x.chan c with high := false, lowAt := some b.sys.now, passes := 0 } ∧ y.chan (1 - c) = x.chan (1 - c)
          ∧ y.st = (if x.st = .discrepancy ∧ (x.chan (1 - c)).seenHigh = false then .demand else x.st) ∧ y.paired = (x.paired && decide (x.st = .released))
          ∧ y.demands = x.demands)
  ∧ (∀ s (i : Fin 8) (c : Fin 2) t x, s.block.latch.inputs[i.val]? = some x → s.block.latch.powered = true → (x.chan c).high = false → (x.chan c).maskEnd = none →
      x.st = .demand → (x.chan (1 - c)).seenHigh = false → s.block.sys.mstate ≠ .hibernate → Happens (.siChannelChange i c true t) s [.sys, .latch] fun b =>
        b.sys.now = max s.block.sys.now t ∧ b.latch = { s.block.latch with inputs := b.latch.inputs }
        ∧ ∃ y ∈ b.latch.inputs[i.val]?, y.chan c = { x.chan c with high := true, lowAt := none, roseAt := some b.sys.now, passes := 0, fails := 0 } ∧ y.st = .returning
          ∧ y.paired = false ∧ y.chan (1 - c) = x.chan (1 - c))
  ∧ (∀ s (i : Fin 8) (c : Fin 2) t x r, s.block.latch.inputs[i.val]? = some x → s.block.latch.powered = true → (x.chan c).high = false → (x.chan c).maskEnd = none →
      x.st = .demand ∨ x.st = .returning → (x.chan (1 - c)).seenHigh = true → (x.chan (1 - c)).roseAt = some r → max s.block.sys.now t ≤ r + s.block.siDisc i →
      s.block.siOn i = true → s.block.siSrc i 0 = 0 → s.block.siSrc i 1 = 0 → s.block.latch.state = .acted → s.block.latch.causes = [(1, i.val + 1)] →
      s.block.sys.mstate ≠ .hibernate → Happens (.siChannelChange i c true t) s [.sys, .latch, .thm] fun b =>
        b.latch.state = .recovery ∧ b.latch.causes = [] ∧ ∃ y ∈ b.latch.inputs[i.val]?, y.st = .released ∧ y.paired = true)
  ∧ (∀ s (i : Fin 8) (c : Fin 2) high t x e, s.block.latch.inputs[i.val]? = some x → s.block.latch.powered = true → (x.chan c).high ≠ high → (x.chan c).maskEnd = some e →
      Happens (.siChannelChange i c high t) s [.sys, .latch] fun b =>
        b.sys.now = max s.block.sys.now t ∧ b.latch = { s.block.latch with inputs := modAt s.block.latch.inputs i fun y => y.onChan c fun k => { k with high := high } })
  ∧ (∀ s (i : Fin 8) (c : Fin 2) t x, s.block.latch.inputs[i.val]? = some x → s.block.latch.powered = true → (x.chan c).high = true → (x.chan c).maskEnd = none →
      s.block.sys.mstate = .hibernate → s.block.hinge = false → Happens (.siChannelChange i c false t) s (.latch :: controlled) fun b =>
        b.sys.mstate = .park ∧ ∃ y ∈ b.latch.inputs[i.val]?, (y.chan c).lowAt = some b.sys.now)
  ∧ (∀ s (i : Fin 8) (c : Fin 2) x t, s.block.latch.inputs[i.val]? = some x → (x.chan c).lowAt = some t → x.st = .released → s.block.siFunc i = 1 ∨ s.block.siFunc i = 2 →
      s.block.latch.state = .armed → s.block.latch.resetting = none → Happens (.siDemand i c) s (.thm :: actedOn) fun b =>
        b.sys.now = max s.block.sys.now (max (t + s.block.siFilt i) ((x.chan c).maskEnd.getD 0)) ∧ s.block.hasActed b (s.block.siFunc i == 1) 1 (i + 1)
        ∧ ∃ y ∈ b.latch.inputs[i.val]?, y.st = .demand ∧ y.demands = satAdd 65535 x.demands 1)
  ∧ (∀ s (i : Fin 8) (c : Fin 2) x t, s.block.latch.inputs[i.val]? = some x → (x.chan c).lowAt = some t → x.st = .released → s.block.siFunc i = 3 →
      ((s.block.latch.outs.take 3).any fun o => o.cmd) = true ∨ s.block.sys.mstate = .run → s.block.latch.state = .armed → s.block.latch.resetting = none →
      Happens (.siDemand i c) s (.thm :: actedOn) fun b => s.block.hasActed b (s.block.siAct i == 1) 2 (i + 1))
  ∧ (∀ s (i : Fin 8) (c : Fin 2) x t, s.block.latch.inputs[i.val]? = some x → (x.chan c).lowAt = some t → x.st = .released → s.block.siFunc i = 3 →
      ((s.block.latch.outs.take 3).any fun o => o.cmd) = false → s.block.sys.mstate ≠ .run → s.block.latch.state = .armed →
      Happens (.siDemand i c) s [.sys, .latch, .thm] fun b => b.latch = { s.block.latch with inputs := b.latch.inputs } ∧ ∃ y ∈ b.latch.inputs[i.val]?, y.st = .demand)
  ∧ (∀ s (i : Fin 8) (c : Fin 2) x t, s.block.latch.inputs[i.val]? = some x → (x.chan c).lowAt = some t → x.st = .released → s.block.siOn i = true →
      s.block.latch.state = .startup ∨ s.block.latch.state = .test ∨ s.block.latch.state = .lockout →
      Happens (.siDemand i c) s [.sys, .latch, .thm] fun b =>
        b.latch = { s.block.latch with inputs := b.latch.inputs } ∧ ∃ y ∈ b.latch.inputs[i.val]?, y.st = .demand ∧ y.demands = satAdd 65535 x.demands 1)
  ∧ (∀ s (i : Fin 8) x, s.block.latch.inputs[i.val]? = some x → s.block.siOn i = true → x.st = .returning → (x.a.seenHigh != x.b.seenHigh) = true →
      s.block.latch.state ∈ [LState.startup, .acted, .recovery] → Happens (.siDiscrepancy i) s [.sys, .latch] fun b =>
        b.sys.now = max s.block.sys.now ((if x.a.seenHigh then x.a else x.b).roseAt.getD 0 + s.block.siDisc i)
        ∧ b.latch = { s.block.latch with inputs := modAt s.block.latch.inputs i fun y => { y with st := .discrepancy, paired := false } })
  ∧ (∀ s (i : Fin 8) x, s.block.latch.inputs[i.val]? = some x → s.block.siOn i = true → x.st = .returning → (x.a.seenHigh != x.b.seenHigh) = true →
      s.block.latch.state = .test → Happens (.siDiscrepancy i) s [.sys, .latch] fun b =>
        ∃ y ∈ b.latch.inputs[i.val]?, y.st = .discrepancy ∧ y.verdict = some false)
  ∧ (∀ s, s.block.latch.powered = true → Happens .tpFrame s [.sys, .latch] fun b =>
      b.sys.now = max s.block.sys.now (multipleFrom 1000000 s.block.sys.now)
      ∧ b.latch = { s.block.latch with frames := (s.block.latch.frames + 1) % 4294967296, tps := s.block.latch.tps.map fun t => { t with on := true } })
  ∧ (∀ s (n : Fin 4), s.block.latch.powered = true → Happens (.tpPulse n) s [.sys, .latch] fun b =>
      b.sys.now = max s.block.sys.now (multipleFrom 1000000 (s.block.sys.now - 250000 * n.val) + 250000 * n.val) ∧ b.latch = { s.block.latch with inputs := b.latch.inputs }
      ∧ ∀ i < 8, ∀ x ∈ s.block.latch.inputs[i]?, ∃ y ∈ b.latch.inputs[i]?, y.st = x.st ∧ ∀ c < 2, y.chan c =
          if s.block.siOn i = true ∧ s.block.siSrc i c = n.val + 1 then
            { x.chan c with maskEnd := some (multipleFrom 1000000 (s.block.sys.now - 250000 * n.val) + 250000 * n.val + 35000), checked := (x.chan c).high }
          else x.chan c)
  ∧ (∀ s (i : Fin 8) (c : Fin 2) x e, s.block.latch.inputs[i.val]? = some x → (x.chan c).maskEnd = some e → (x.chan c).checked = true → s.block.siOn i = true →
      s.block.siSrc i c ≠ 0 → x.st = .released → Happens (.pulseCheck i c true) s [.sys, .latch] fun b =>
        b.sys.now = max s.block.sys.now (e - 11000) ∧ ∃ y ∈ b.latch.inputs[i.val]?, y.chan c = { x.chan c with passes := (x.chan c).passes + 1, fails := 0, passed := true }
          ∧ y.st = x.st ∧ b.latch = { s.block.latch with inputs := b.latch.inputs })
  ∧ (∀ s (i : Fin 8) (c : Fin 2) x e, s.block.latch.inputs[i.val]? = some x → (x.chan c).maskEnd = some e → (x.chan c).checked = true → s.block.siOn i = true →
      s.block.siSrc i c ≠ 0 → x.st = .demand ∨ x.st = .returning → x.a.seenHigh = true → x.b.seenHigh = true → x.paired = true → s.block.tpsOk i = true →
      2 ≤ (x.chan c).passes → 3 ≤ (x.chan (1 - c)).passes → s.block.latch.state = .acted → s.block.latch.causes = [(1, i.val + 1)] →
      Happens (.pulseCheck i c true) s [.sys, .latch, .thm] fun b => b.latch.state = .recovery ∧ ∃ y ∈ b.latch.inputs[i.val]?, y.st = .released)
  ∧ (∀ s (i : Fin 8) (c : Fin 2) x e, s.block.latch.inputs[i.val]? = some x → (x.chan c).maskEnd = some e → (x.chan c).checked = true → s.block.siOn i = true →
      s.block.siSrc i c ≠ 0 → (x.chan c).fails = 0 → Happens (.pulseCheck i c false) s [.sys, .latch] fun b =>
        ∃ y ∈ b.latch.inputs[i.val]?, y.chan c = { x.chan c with passes := 0, fails := 1, passed := false } ∧ y.st = x.st ∧ b.latch = { s.block.latch with inputs := b.latch.inputs })
  ∧ (∀ s (i : Fin 8) (c : Fin 2) x e, s.block.latch.inputs[i.val]? = some x → (x.chan c).maskEnd = some e → (x.chan c).checked = true → s.block.siFunc i = 1 ∨ s.block.siFunc i = 2 →
      s.block.siSrc i c ≠ 0 → 1 ≤ (x.chan c).fails → x.st = .released → s.block.latch.state = .armed → s.block.latch.resetting = none →
      Happens (.pulseCheck i c false) s (.thm :: actedOn) fun b =>
        s.block.hasActed b (s.block.siFunc i == 1) 10 (i + 1) ∧ ∃ y ∈ b.latch.inputs[i.val]?, y.st = .pulseFault)
  ∧ (∀ s (i : Fin 8) (c : Fin 2) low x e, s.block.latch.inputs[i.val]? = some x → (x.chan c).maskEnd = some e → (x.chan c).checked = false → s.block.siOn i = true →
      s.block.siSrc i c ≠ 0 → Happens (.pulseCheck i c low) s [.sys, .latch] fun b =>
        b.latch = { s.block.latch with inputs := modAt s.block.latch.inputs i fun y => y.onChan c fun k => { k with passes := 0, fails := 0 } })
  ∧ (∀ s (i : Fin 8) (c : Fin 2) x e, s.block.latch.inputs[i.val]? = some x → (x.chan c).maskEnd = some e → (x.chan c).high = true → (x.chan c).lowAt = none →
      Happens (.siMaskEnd i c) s [.sys, .latch] fun b =>
        b.sys.now = max s.block.sys.now e ∧ b.latch = { s.block.latch with inputs := modAt s.block.latch.inputs i fun y => y.onChan c fun k => { k with maskEnd := none } })
  ∧ (∀ s (i : Fin 8) (c : Fin 2) x e, s.block.latch.inputs[i.val]? = some x → (x.chan c).maskEnd = some e → (x.chan c).high = false → (x.chan c).lowAt = none →
      s.block.sys.mstate ≠ .hibernate → Happens (.siMaskEnd i c) s [.sys, .latch] fun b =>
        ∃ y ∈ b.latch.inputs[i.val]?, (y.chan c).lowAt = some b.sys.now ∧ (y.chan c).maskEnd = none ∧ b.sys.now = max s.block.sys.now e
          ∧ (y.st = x.st ∨ (x.st = .discrepancy ∧ y.st = .demand)))
  ∧ (∀ s (i : Fin 8) (c : Fin 2) x e t, s.block.latch.inputs[i.val]? = some x → (x.chan c).maskEnd = some e → (x.chan c).high = false → (x.chan c).lowAt = some t →
      s.block.siFunc i = 1 ∨ s.block.siFunc i = 2 → x.st = .released → t + s.block.siFilt i ≤ max s.block.sys.now e → s.block.latch.state = .armed →
      s.block.latch.resetting = none → Happens (.siMaskEnd i c) s (.thm :: actedOn) fun b => s.block.hasActed b (s.block.siFunc i == 1) 1 (i + 1))
  ∧ (∀ s (i : Fin 8) (c : Fin 2) x e t, s.block.latch.inputs[i.val]? = some x → (x.chan c).maskEnd = some e → (x.chan c).high = false → (x.chan c).lowAt = some t →
      max s.block.sys.now e < t + s.block.siFilt i → Happens (.siMaskEnd i c) s [.sys, .latch] fun b =>
        b.latch = { s.block.latch with inputs := modAt s.block.latch.inputs i fun y => y.onChan c fun k => { k with maskEnd := none } })
  ∧ (∀ s (n : Fin 4) t, s.block.latch.tps[n.val]? = some t → t.fault = false → s.block.latch.powered = true → s.block.latch.state = .lockout →
      Happens (.tpFault n) s [.latch, .thm] fun b =>
        b.latch = { s.block.latch with inputs := b.latch.inputs, tps := modAt s.block.latch.tps n fun t => { t with fault := true } }
        ∧ ∀ i < 8, ∀ x ∈ s.block.latch.inputs[i]?, ∃ y ∈ b.latch.inputs[i]?,
            if s.block.siOn i = true ∧ (s.block.siSrc i 0 = n.val + 1 ∨ s.block.siSrc i 1 = n.val + 1) then y.st = .pulseFault else y = x)
  ∧ (∀ s (n : Fin 4) t (i : Fin 8) x, s.block.latch.tps[n.val]? = some t → t.fault = false → s.block.latch.powered = true → s.block.latch.inputs[i.val]? = some x →
      x.st = .released → s.block.siFunc i = 1 ∨ s.block.siFunc i = 2 → s.block.siSrc i 0 = n.val + 1 ∨ s.block.siSrc i 1 = n.val + 1 →
      (∀ j : Fin 8, j ≠ i → s.block.siOn j = false ∨ (s.block.siSrc j 0 ≠ n.val + 1 ∧ s.block.siSrc j 1 ≠ n.val + 1)) → s.block.latch.state = .armed →
      s.block.latch.resetting = none → Happens (.tpFault n) s (.thm :: actedOn) fun b =>
        s.block.hasActed b (s.block.siFunc i == 1) 10 (i + 1) ∧ (b.latch.tps[n.val]?.any fun t => t.fault) = true ∧ ∃ y ∈ b.latch.inputs[i.val]?, y.st = .pulseFault)
  ∧ (∀ s (n : Fin 4), Happens (.tpFaultClear n) s [.latch] fun b =>
      b.latch = { s.block.latch with tps := modAt s.block.latch.tps n fun t => { t with fault := false } })

/-- R296, R297, R298, R299, R320: mirrors, the close and the open sequence of the contactors, step by step and with the failure code of each, and the tests of the outputs. -/
def Obligations.ContactorsSequenceAndOutputsAreTested : Prop :=
  (∀ s (n : Fin 3) t x, s.block.latch.outs[n.val]? = some x → Happens (.sfbMirrorChange n true t) s [.sys, .latch] fun b =>
      b.sys.now = max s.block.sys.now t ∧ (13, n.val + 1) ∉ b.latch.causes ∧ (∃ y ∈ b.latch.outs[n.val]?, y.mirror = true ∧ y.weld = false ∧ y.cmd = x.cmd)
      ∧ b.latch.state = if s.block.latch.state = .acted ∧ b.latch.causes = [] then .recovery else s.block.latch.state)
  ∧ (∀ s (n : Fin 3) t x, s.block.latch.outs[n.val]? = some x → s.block.sfbEn n = true → s.block.latch.seq = .idle → x.cmd = false →
      Happens (.sfbMirrorChange n false t) s [.sys, .latch] fun b => b.latch.causes = s.block.latch.causes
        ∧ ∃ y ∈ b.latch.outs[n.val]?, y = { x with mirror := false, wrongAt := some (x.wrongAt.getD (max s.block.sys.now t)) })
  ∧ (∀ s (n : Fin 3) x t, s.block.latch.outs[n.val]? = some x → x.cmd = false → x.wrongAt = some t → s.block.latch.state = .armed → s.block.latch.resetting = none →
      Happens (.contactorWeld n) s actedOn fun b =>
        b.sys.now = max s.block.sys.now (t + 100 * msT) ∧ s.block.hasActed b true 13 (n + 1) ∧ ∃ y ∈ b.latch.outs[n.val]?, y.weld = true)
  ∧ (∀ s (n : Fin 3) x t, s.block.latch.outs[n.val]? = some x → x.cmd = true → x.wrongAt = some t → Happens (.contactorFailToClose n) s controlled fun b =>
      b.sys.now = max s.block.sys.now (t + 100 * msT) ∧ s.block.raised b .contactorFault (n + 1) ∧ b.latch = s.block.latch)
  ∧ (∀ s src, s.block.latch.state = .armed → s.block.sys.mstate = .park → s.block.doorsClosed = true → (∀ n < 3, s.block.mirrorClosed n = true) → 1 < s.block.latch.outs.length →
      Begins (.safeContactors src 1) s src 0x0902 true [.latch] fun b =>
        b.latch.seq = .so2Closing ∧ b.latch.seqAt = s.block.sys.now ∧ b.latch.seqSrc = some src ∧ b.outSet 1 true = true ∧ b.latch.preDone = s.block.latch.preDone
        ∧ b.latch.state = .armed ∧ ∀ n ∈ [0, 2, 3], (b.latch.outs[n]?.map fun x => (x.cmd, x.hs, x.ls)) = s.block.latch.outs[n]?.map fun x => (x.cmd, x.hs, x.ls))
  ∧ (∀ s src, s.block.sys.mstate = .park ∨ s.block.sys.mstate = .fault → 0 < s.block.latch.outs.length →
      Begins (.safeContactors src 0) s src 0x0902 true [.latch] fun b =>
        b.latch.seq = .opening ∧ b.latch.seqAt = s.block.sys.now ∧ b.latch.seqSrc = some src ∧ b.outSet 0 false = true ∧ b.latch.preDone = false
        ∧ ∀ n ∈ [1, 2, 3], (b.latch.outs[n]?.map fun x => (x.cmd, x.hs, x.ls)) = s.block.latch.outs[n]?.map fun x => (x.cmd, x.hs, x.ls))
  ∧ (∀ s, s.block.latch.seq = .so2Closing → s.block.mirrorOpen 1 = true → 2 < s.block.latch.outs.length → Happens .closeSeqSo3On s [.sys, .latch] fun b =>
      b.sys.now = max s.block.sys.now (s.block.latch.seqAt + 100 * msT) ∧ b.latch.seq = .precharging ∧ b.latch.so3At = b.sys.now ∧ b.outSet 2 true = true
      ∧ b.latch.seqSrc = s.block.latch.seqSrc)
  ∧ (∀ s, s.block.latch.seq = .so2Closing → s.block.mirrorOpen 1 = false → Happens .closeSeqSo3On s (.latch :: controlled) fun b => s.block.closeFailed b 2)
  ∧ (∀ s, s.block.latch.seq = .precharging → s.block.latch.peaked = true → Happens .closeSeqPeakCheck s [.sys] fun b =>
      b.sys.now = max s.block.sys.now (s.block.latch.seqAt + 300 * msT))
  ∧ (∀ s, s.block.latch.seq = .precharging → s.block.latch.peaked = false → Happens .closeSeqPeakCheck s (.latch :: controlled) fun b => s.block.closeFailed b 3)
  ∧ (∀ s t, s.block.latch.seq = .precharging → s.block.latch.lowSince = some t → s.block.latch.peaked = true → 0 < s.block.latch.outs.length →
      t + 100 * msT ≤ s.block.latch.so3At + s.block.latch.preTmax * msT → Happens .closeSeqSo1On s [.sys, .latch] fun b =>
        b.sys.now = max s.block.sys.now (t + 100 * msT) ∧ b.latch.seq = .so1Closing ∧ b.latch.so1At = b.sys.now ∧ b.outSet 0 true = true)
  ∧ (∀ s, s.block.latch.seq = .precharging → Happens .closeSeqPrechargeTimeout s (.latch :: controlled) fun b =>
      b.sys.now = max s.block.sys.now (s.block.latch.so3At + s.block.latch.preTmax * msT) ∧ s.block.closeFailed b 4)
  ∧ (∀ s, s.block.latch.seq = .so1Closing → s.block.mirrorOpen 0 = true → 2 < s.block.latch.outs.length → Happens .closeSeqSo3Off s [.sys, .latch] fun b =>
      b.sys.now = max s.block.sys.now (s.block.latch.so1At + 100 * msT) ∧ b.latch.seq = .so3Opening ∧ b.outSet 2 false = true)
  ∧ (∀ s, s.block.latch.seq = .so1Closing → s.block.mirrorOpen 0 = false → Happens .closeSeqSo3Off s (.latch :: controlled) fun b => s.block.closeFailed b 5)
  ∧ (∀ s src, s.block.latch.seq = .so3Opening → s.block.mirrorClosed 2 = true → s.block.latch.seqSrc = some src → s.block.holdsRequest src = true →
      Happens .closeSeqDone s (.sys :: .latch :: servedBy src) fun b =>
        b.sys.now = max s.block.sys.now (s.block.latch.so1At + 300 * msT) ∧ b.latch.seq = .idle ∧ b.latch.preDone = true ∧ b.latch.seqSrc = none ∧ b.answered src .ok [0#8]
        ∧ ∀ n < 3, (b.latch.outs[n]?.map (·.cmd)) = s.block.latch.outs[n]?.map (·.cmd))
  ∧ (∀ s, s.block.latch.seq = .so3Opening → s.block.mirrorClosed 2 = false → Happens .closeSeqDone s (.latch :: controlled) fun b => s.block.closeFailed b 6)
  ∧ (∀ s src, s.block.latch.seq = .opening → s.block.latch.seqSrc = some src → s.block.holdsRequest src = true → 1 < s.block.latch.outs.length →
      Happens .openSeqSo2Off s (.sys :: .latch :: servedBy src) fun b =>
        b.sys.now = max s.block.sys.now (s.block.latch.seqAt + 100 * msT) ∧ b.latch.seq = .idle ∧ b.latch.preDone = false ∧ b.outSet 1 false = true ∧ b.answered src .ok [0#8])
  ∧ (∀ s t, s.block.latch.powered = true → s.block.latch.testsOff = false → s.block.latch.actAt ≠ some (max s.block.sys.now t) → Happens (.soTestHigh t) s [.sys, .latch] fun b =>
      b.latch = { s.block.latch with testAt := max s.block.sys.now t, outs := s.block.latch.outs.map fun o =>
        if o.cmd then { o with inTest := some (true, max s.block.sys.now t), hs := false } else o })
  ∧ (∀ s t, s.block.latch.powered = true → s.block.latch.testsOff = false → s.block.latch.actAt = some (max s.block.sys.now t) → Happens (.soTestHigh t) s [.sys, .latch] fun b =>
      b.latch = { s.block.latch with testAt := max s.block.sys.now t, testsOff := true })
  ∧ (∀ s, s.block.latch.powered = true → s.block.latch.testsOff = false → s.block.latch.actAt ≠ some (max s.block.sys.now (s.block.latch.testAt + 500 * msT)) →
      Happens .soTestLow s [.sys, .latch] fun b =>
        b.latch = { s.block.latch with outs := s.block.latch.outs.map fun o =>
          if o.cmd then { o with inTest := some (false, max s.block.sys.now (s.block.latch.testAt + 500 * msT)), ls := false } else o })
  ∧ (∀ s (n : Fin 4) o x, s.block.latch.outs[n.val]? = some o → o.inTest = some x → Happens (.soReadbackFall n) s [.latch] fun b =>
      b.latch = { s.block.latch with outs := modAt s.block.latch.outs n fun o =>
        { o with inTest := none, hs := o.cmd, ls := o.cmd, rb := o.cmd, tests := satAdd 65535 o.tests 1 } })
  ∧ (∀ s (n : Fin 4) o x, s.block.latch.outs[n.val]? = some o → o.inTest = some x → s.block.latch.state ≠ .lockout → s.block.latch.resetting = none →
      Happens (.soTestFail n) s (.latch :: controlled) fun b =>
        b.sys.now = max s.block.sys.now (x.2 + 400 * usT) ∧ s.block.hasLockedOut b 12 ∧ ∃ y ∈ b.latch.outs[n.val]?, y.tfail = true ∧ y.inTest = none)
  ∧ (∀ s hs ls, s.block.latch.powered = true →
      (∀ n < 4, ∀ o ∈ s.block.latch.outs[n]?, o.inTest = none → (o.hs = true ∨ bitOf n hs = false) ∧ (o.ls = true ∨ bitOf n ls = false)) →
      Happens (.soMidpointCheck hs ls) s [] fun _ => True)
  ∧ (∀ s hs ls (n : Fin 4) o, s.block.latch.powered = true → s.block.latch.outs[n.val]? = some o → o.inTest = none →
      ((o.hs = false ∧ bitOf n hs = true) ∨ (o.ls = false ∧ bitOf n ls = true)) → s.block.latch.state ≠ .lockout → s.block.latch.resetting = none →
      Happens (.soMidpointCheck hs ls) s (.latch :: controlled) fun b => s.block.hasLockedOut b 12 ∧ ∃ y ∈ b.latch.outs[n.val]?, y.tfail = true)

/-- R301, R303, R304, R319: what SA and SB evaluate at the end of each block, what each check calls for, how Latch and engines supervise each other, and the isolation
monitor.
Part of it rests on the model's own choice (log entry 34). -/
def Obligations.SafetyChecksCallForTheirFunctions : Prop :=
  (∀ s seen, s.block.engineUp = false → Happens (.engineCheckBlock seen) s [.sys, .latch] fun b =>
      b.sys.now = max s.block.sys.now (multipleFrom 200000 s.block.sys.now) ∧ b.latch = { s.block.latch with blk := .empty })
  ∧ (∀ s seen, s.block.engineUp = true → s.block.cellsTripped = false → (∀ t ∈ s.block.hottest, t ≤ s.block.tCellMax) →
      (∀ i ∈ s.block.latch.blk.cur.mean?, |i| ≤ 1000 * s.block.iStrMax) → (∀ v ∈ s.block.latch.blk.volt.mean?, v ≤ s.block.vStrMax) →
      (s.block.isoEn && decide (2 ≤ s.block.latch.isoLow)) = false → s.block.unexecuted seen = [] → Happens (.engineCheckBlock seen) s [.sys, .latch] fun b =>
        b.latch = { s.block.latch with
          state := b.latch.state, causes := b.latch.causes, chk := b.latch.chk, blk := .empty, hotAt := none, overI := 0, spsAt := none, unexecAt := none }
        ∧ b.latch.causes = (s.block.latch.causes.filter fun c => !([(5, 1), (5, 2), (5, 3), (5, 4), (5, 5)].contains c)) ∧ (∀ k < 6, b.latch.chk[k]? = some false)
        ∧ b.latch.state = if s.block.latch.state = .acted ∧ b.latch.causes = [] then .recovery else s.block.latch.state)
  ∧ (∀ s seen, s.block.engineUp = true → s.block.cellsTripped = true → s.block.unexecuted seen = [] → s.block.latch.state = .armed → s.block.latch.resetting = none →
      Happens (.engineCheckBlock seen) s actedOn fun b => s.block.hasActed b true 5 1 ∧ b.latch.chk[1]? = some true)
  ∧ (∀ s seen t, s.block.engineUp = true → s.block.latch.hotAt = some t → t + secT ≤ multipleFrom 200000 s.block.sys.now → (∃ h ∈ s.block.hottest, s.block.tCellMax < h) →
      s.block.unexecuted seen = [] → s.block.latch.state = .armed → s.block.latch.resetting = none →
      Happens (.engineCheckBlock seen) s actedOn fun b => s.block.hasActed b true 5 2 ∧ b.latch.chk[2]? = some true)
  ∧ (∀ s seen, s.block.engineUp = true → s.block.latch.overI = 2 → (∃ i ∈ s.block.latch.blk.cur.mean?, 1000 * s.block.iStrMax < |i|) → s.block.cellsTripped = false →
      (∀ t ∈ s.block.hottest, t ≤ s.block.tCellMax) → (s.block.isoEn && decide (2 ≤ s.block.latch.isoLow)) = false → s.block.unexecuted seen = [] →
      s.block.latch.state = .armed → s.block.latch.resetting = none → s.block.latch.spsAt = none → Happens (.engineCheckBlock seen) s actedOn fun b =>
        s.block.hasActed b false 5 3 ∧ b.latch.overI = 3 ∧ b.latch.spsAt = some b.sys.now)
  ∧ (∀ s seen, s.block.engineUp = true → (∃ v ∈ s.block.latch.blk.volt.mean?, s.block.vStrMax < v) → s.block.cellsTripped = false →
      (∀ i ∈ s.block.latch.blk.cur.mean?, |i| ≤ 1000 * s.block.iStrMax) → (∀ t ∈ s.block.hottest, t ≤ s.block.tCellMax) →
      (s.block.isoEn && decide (2 ≤ s.block.latch.isoLow)) = false → s.block.unexecuted seen = [] → s.block.latch.state = .armed → s.block.latch.resetting = none →
      Happens (.engineCheckBlock seen) s actedOn fun b => s.block.hasActed b false 5 4)
  ∧ (∀ s seen, s.block.engineUp = true → s.block.isoEn = true → 2 ≤ s.block.latch.isoLow → s.block.unexecuted seen = [] → s.block.latch.state = .armed →
      s.block.latch.resetting = none → Happens (.engineCheckBlock seen) s actedOn fun b => s.block.hasActed b true 5 5 ∧ b.latch.chk[5]? = some true)
  ∧ (∀ s seen i rest t, s.block.engineUp = true → s.block.unexecuted seen = i :: rest → s.block.latch.unexecAt = some t → t + 200000 ≤ multipleFrom 200000 s.block.sys.now →
      s.block.siFunc i = 1 → s.block.latch.state = .armed → s.block.latch.resetting = none → Happens (.engineCheckBlock seen) s actedOn fun b =>
        b.latch.state = .lockout ∧ b.latch.fn = .ssi ∧ b.latch.muzzle = true ∧ (5, 0) ∈ b.latch.causes ∧ ∀ x ∈ b.latch.outs, x.cmd = false ∧ x.hs = false ∧ x.ls = false)
  ∧ (∀ s t, s.block.latch.spsAt = some t → 3 ≤ s.block.latch.overI → s.block.engineUp = true → s.block.latch.state = .acted → s.block.latch.fn = .sps →
      s.block.latch.resetting = none → Happens .stringCurrentEscalation s actedOn fun b =>
        b.sys.now = max s.block.sys.now (t + 50 * msT) ∧ s.block.hasActed b true 5 3)
  ∧ (∀ s t, s.block.latch.spsAt = some t → s.block.latch.overI < 3 → Happens .stringCurrentEscalation s [.sys] fun b => b.sys.now = max s.block.sys.now (t + 50 * msT))
  ∧ (∀ s, s.block.engineUp = true → 7 < s.block.latch.chk.length → Happens (.floorCrcCheck true) s [.sys, .latch] fun b =>
      b.sys.now = s.block.nextMultiple secT ∧ b.latch.chk = s.block.latch.chk.set 7 false ∧ b.latch.causes = (s.block.latch.causes.filter fun c => c != (5, 7))
      ∧ b.latch.state = if s.block.latch.state = .acted ∧ b.latch.causes = [] then .recovery else s.block.latch.state)
  ∧ (∀ s, s.block.engineUp = true → 7 < s.block.latch.chk.length → s.block.latch.state = .armed → s.block.latch.resetting = none →
      Happens (.floorCrcCheck false) s actedOn fun b => s.block.hasActed b true 5 7 ∧ b.latch.chk[7]? = some true)
  ∧ (∀ s, s.block.latch.powered = true → s.block.latch.answering = true → Happens (.latchChallenge true) s [.sys, .latch] fun b =>
      b.sys.now = s.block.nextMultiple msT ∧ b.latch = { s.block.latch with missRun := 0, goodRun := 0 })
  ∧ (∀ s, s.block.latch.powered = true → s.block.latch.answering = false → s.block.latch.goodRun = 999 → Happens (.latchChallenge true) s [.sys, .latch] fun b =>
      b.latch.answering = true ∧ (9, 0) ∉ b.latch.causes)
  ∧ (∀ s, s.block.latch.powered = true → s.block.latch.missRun = 0 → Happens (.latchChallenge false) s [.sys, .latch] fun b =>
      b.latch = { s.block.latch with missRun := 1, goodRun := 0, missed := (s.block.latch.missed + 1) % 4294967296 })
  ∧ (∀ s, s.block.latch.powered = true → 1 ≤ s.block.latch.missRun → s.block.latch.answering = true → s.block.latch.state = .armed → s.block.latch.resetting = none →
      Happens (.latchChallenge false) s (.sec :: actedOn) fun b =>
        s.block.hasActed b true 9 0 ∧ b.latch.answering = false ∧ b.latch.missed = (s.block.latch.missed + 1) % 4294967296)
  ∧ (∀ s, s.block.latch.powered = true → s.block.latch.state = .armed → s.block.latch.resetting = none → Happens .lockstepMismatch s (.sec :: actedOn) fun b =>
      s.block.hasActed b true 8 0 ∧ b.latch.lockstep = false ∧ b.latch.restartAt = some (s.block.sys.now + 200 * msT) ∧ ∀ o ∈ b.latch.outs, o.ls = false)
  ∧ (∀ s t, s.block.latch.restartAt = some t → Happens .lockstepRestored s [.sys, .latch] fun b =>
      b.sys.now = max s.block.sys.now (t + secT) ∧ b.latch.lockstep = true ∧ b.latch.restartAt = none ∧ b.latch.causes = (s.block.latch.causes.filter fun c => c != (8, 0))
      ∧ b.latch.state = if s.block.latch.state = .acted ∧ b.latch.causes = [] then .recovery else s.block.latch.state)
  ∧ (∀ s vp vn r, s.block.isoEn = true → s.block.latch.isoFirst = none → Happens (.isoAlternation vp vn r) s [.sys, .latch] fun b =>
      b.sys.now = s.block.nextMultiple (5 * secT)
      ∧ b.latch = { s.block.latch with isoPos := !s.block.latch.isoPos, vPos := some vp, vNeg := some vn, isoFirst := some (vp, vn) })
  ∧ (∀ s vp vn r p, s.block.isoEn = true → s.block.latch.isoFirst = some p → Happens (.isoAlternation vp vn r) s [.sys, .latch] fun b =>
      b.latch = { s.block.latch with
        isoPos := !s.block.latch.isoPos, vPos := some vp, vNeg := some vn, isoFirst := none, rIso := some r
        isoLow := if r < s.block.isoMin then s.block.latch.isoLow + 1 else 0, isoWarned := decide (r < s.block.isoWarnAt) })
  ∧ (∀ s vp vn r, s.block.isoEn = false → Happens (.isoAlternation vp vn r) s [.sys] fun b => b.sys.now = s.block.nextMultiple (5 * secT))

/-- R306, R307, R308, R100: a reset is denied with the number of its first failing condition, waits for the bark line, and takes effect as a whole; SRST requests or enables it.
Part of it rests on the model's own choice (log entry 33). -/
def Obligations.SafetyResetsAreGrantedOrDenied : Prop :=
  (∀ s src n, s.block.sys.mstate = .safe → s.block.rstMode = 0 → s.block.firstFailing true = some n →
      Serves (.safeReset src) s src 0x0901 true [.latch] .denied [BitVec.ofNat 8 n] fun b => b.latch = { s.block.latch with deny := n, resetting := none })
  ∧ (∀ s src, s.block.sys.mstate = .safe → s.block.rstMode = 1 → s.block.firstFailing true = none →
      Serves (.safeReset src) s src 0x0901 true [.latch] .denied [7#8] fun b => b.latch = { s.block.latch with deny := 7, resetting := none })
  ∧ (∀ s src, s.block.sys.mstate = .safe → s.block.rstMode = 0 ∨ (s.block.rstMode = 2 ∧ ∃ t ∈ s.block.latch.srstPress, s.block.sys.now ≤ t + 10 * secT) →
      s.block.firstFailing true = none → s.block.bark.drive = true → Begins (.safeReset src) s src 0x0901 true [.latch, .bark] fun b =>
        b.bark.drive = false ∧ b.bark.line = s.block.bark.line ∧ b.latch = { s.block.latch with resetting := some (some src, s.block.sys.now) })
  ∧ (∀ s src, s.block.sys.mstate = .safe → s.block.rstMode = 0 ∨ (s.block.rstMode = 2 ∧ ∃ t ∈ s.block.latch.srstPress, s.block.sys.now ≤ t + 10 * secT) →
      s.block.firstFailing true = none → s.block.bark.drive = false → 3 < s.block.latch.outs.length →
      Serves (.safeReset src) s src 0x0901 true actedOn .ok [0#8] fun b => s.block.safetyReset b)
  ∧ (∀ s t, s.block.latch.resetting = some (none, t) → Happens .barkReleaseTest s [.sys, .latch, .bark] fun b =>
      b.sys.now = max s.block.sys.now (t + msT) ∧ b.bark.drive = true ∧ b.bark.line = false ∧ b.latch.deny = 4 ∧ b.latch.resetting = none ∧ b.latch.state = s.block.latch.state)
  ∧ (∀ s src t, s.block.latch.resetting = some (some src, t) → s.block.holdsRequest src = true → Happens .barkReleaseTest s ([.sys, .latch, .bark] ++ servedBy src) fun b =>
      b.answered src .denied [4#8] ∧ b.bark.drive = true ∧ b.latch.deny = 4 ∧ b.latch.resetting = none)
  ∧ (∀ s, s.block.bark.drive = false → s.block.latch.resetting = none → Happens .barkLineReleased s [.latch, .bark] fun b =>
      b.bark = { s.block.bark with line := true, lowAt := none } ∧ b.latch.causes = (s.block.latch.causes.filter fun c => c != (4, 0))
      ∧ b.latch.state = if s.block.latch.state = .acted ∧ b.latch.causes = [] then .recovery else s.block.latch.state)
  ∧ (∀ s src t, s.block.bark.drive = false → s.block.latch.resetting = some (some src, t) → s.block.holdsRequest src = true → 3 < s.block.latch.outs.length →
      Happens .barkLineReleased s (actedOn ++ servedBy src) fun b => s.block.safetyReset b ∧ b.bark.line = true ∧ b.answered src .ok [0#8])
  ∧ (∀ s t, s.block.latch.powered = true → s.block.latch.srst = false → Happens (.srstRise t) s [.sys, .latch] fun b =>
      b.latch = { s.block.latch with srst := true, srstAt := max s.block.sys.now t, srstIgnored := false })
  ∧ (∀ s, s.block.latch.srst = true → s.block.latch.srstIgnored = false → Happens .srstStuck s [.sys, .latch] fun b =>
      b.sys.now = max s.block.sys.now (s.block.latch.srstAt + 5 * secT) ∧ b.latch = { s.block.latch with srstIgnored := true })
  ∧ (∀ s t, s.block.latch.srst = true →
      s.block.latch.srstIgnored = true ∨ max s.block.sys.now t - s.block.latch.srstAt < secT / 5 ∨ 5 * secT < max s.block.sys.now t - s.block.latch.srstAt ∨ s.block.rstMode = 0 →
      Happens (.srstFall t) s [.sys, .latch] fun b => b.latch = { s.block.latch with srst := false, srstIgnored := false })
  ∧ (∀ s t, s.block.latch.srst = true → s.block.latch.srstIgnored = false → secT / 5 ≤ max s.block.sys.now t - s.block.latch.srstAt →
      max s.block.sys.now t - s.block.latch.srstAt ≤ 5 * secT → s.block.rstMode = 2 → Happens (.srstFall t) s [.sys, .latch] fun b =>
        b.latch = { s.block.latch with srst := false, srstIgnored := false, srstPress := some (max s.block.sys.now t) })
  ∧ (∀ s t n, s.block.latch.srst = true → s.block.latch.srstIgnored = false → secT / 5 ≤ max s.block.sys.now t - s.block.latch.srstAt →
      max s.block.sys.now t - s.block.latch.srstAt ≤ 5 * secT → s.block.rstMode = 1 → s.block.firstFailing true = some n → Happens (.srstFall t) s [.sys, .latch] fun b =>
        b.latch = { s.block.latch with srst := false, srstIgnored := false, deny := n, resetting := none })
  ∧ (∀ s t, s.block.latch.srst = true → s.block.latch.srstIgnored = false → secT / 5 ≤ max s.block.sys.now t - s.block.latch.srstAt →
      max s.block.sys.now t - s.block.latch.srstAt ≤ 5 * secT → s.block.rstMode = 1 → s.block.firstFailing true = none → s.block.bark.drive = false →
      3 < s.block.latch.outs.length → Happens (.srstFall t) s actedOn fun b => s.block.safetyReset b ∧ b.latch.srst = false)

/-- R297, R309, R312 to R318, R320: proof test, nonce, authorisation and its lockout, password, Floor record, change log, precharge settings.
Part of it rests on the model's own choice (log entries 3 and 12). -/
def Obligations.AuthorityCommandsCheckAndLog : Prop :=
  (∀ s src cp, s.block.latch.state = .armed → s.block.sys.mstate = .park → s.block.contactorOn = false → s.block.windowOpen src = true → s.block.latch.resetting = none →
      Serves (.safeTest src 1 0 cp) s src 0x090A true actedOn .ok [] fun b =>
        b.latch.state = .test ∧ b.latch.fn = (if s.block.latch.fn = .ssi then .ssi else .sps) ∧ b.latch.acts = s.block.latch.acts + 1 ∧ b.sys.mstate = .safe
        ∧ b.latch.muzzle = true ∧ b.bark.drive = s.block.bark.drive
        ∧ b.latch.proof = some { begun := s.block.sys.now, comparators := false, passIn := 0, failIn := 0, compPass := 0, session := src.index })
  ∧ (∀ s src opt cp, opt ≤ 1 → s.block.latch.state = .acted ∨ s.block.latch.state = .recovery → s.block.windowOpen src = true →
      Serves (.safeTest src 1 opt cp) s src 0x090A true [.latch] .ok [] fun b =>
        b.latch.state = .test ∧ b.latch.acts = s.block.latch.acts ∧ (b.latch.proof.map (·.comparators)) = some (opt == 1) ∧ b.latch.outs = s.block.latch.outs
        ∧ ∀ x ∈ b.latch.inputs, x.verdict = none)
  ∧ (∀ s src opt cp, opt ≤ 1 → s.block.latch.state = .acted ∨ s.block.latch.state = .recovery → s.block.windowOpen src = false →
      Serves (.safeTest src 1 opt cp) s src 0x090A true [] .denied [] fun b => b.latch = s.block.latch)
  ∧ (∀ s src opt cp p, opt ≤ 1 → s.block.latch.state = .test → s.block.latch.proof = some p → p.comparators = true →
      Serves (.safeTest src 0 opt cp) s src 0x090A true [.latch] .ok
        (leBytes 1 (s.block.latch.verdicts true) ++ leBytes 1 (s.block.latch.verdicts false) ++ leBytes 2 (cp % 65536 % 2 ^ s.block.nSeg)) fun b =>
          b.latch.state = .recovery ∧ b.latch.proof = none ∧ s.block.logsChange b p.session 5
            (s.block.latch.verdicts true + 256 * s.block.latch.verdicts false + 65536 * (cp % 65536 % 2 ^ s.block.nSeg)))
  ∧ (∀ s cp p, s.block.latch.state = .test → s.block.latch.proof = some p → p.comparators = false → Happens (.safeTestTimeout cp) s [.sys, .latch] fun b =>
      b.sys.now = max s.block.sys.now (p.begun + 1800 * secT) ∧ b.latch.state = .recovery ∧ b.latch.proof = none
      ∧ s.block.logsChange b p.session 5 (s.block.latch.verdicts true + 256 * s.block.latch.verdicts false))
  ∧ (∀ s src, s.block.latch.pwSet = true → s.block.locked = false →
      Serves (.safeGetNonce src) s src 0x0904 true [.sys, .latch] .ok (s.block.latch.salt ++ leBytes 4 s.block.latch.iter ++ s.block.random16) fun b =>
        b.sys = { s.block.sys with drawn := b.sys.drawn } ∧ b.latch = { s.block.latch with
          windows := s.block.latch.windows.filter fun w => w.1 != src.index
          nonces := (src.index, s.block.random16, s.block.sys.now) :: s.block.latch.nonces.filter fun x => x.1 != src.index })
  ∧ (∀ s src, s.block.latch.pwSet = true → s.block.locked = true → Serves (.safeGetNonce src) s src 0x0904 true [] .busy [] fun _ => True)
  ∧ (∀ s src n t, s.block.latch.pwSet = true → s.block.locked = false → s.block.latch.nonces = [(src.index, n, t)] → s.block.sys.now < t + 60 * secT →
      Serves (.safeAuth src (hmac256 s.block.latch.key (n ++ leBytes 1 src.index))) s src 0x0905 true [.latch] .ok [] fun b =>
        b.latch = { s.block.latch with
          fails := 0, nonces := [], windows := (src.index, s.block.sys.now) :: s.block.latch.windows.filter fun w => w.1 != src.index })
  ∧ (∀ s src n t mac, s.block.latch.pwSet = true → s.block.locked = false → s.block.latch.nonces = [(src.index, n, t)] → s.block.sys.now < t + 60 * secT → mac.length = 32 →
      hmac256 s.block.latch.key (n ++ leBytes 1 src.index) ≠ mac → s.block.latch.fails < 4 → Serves (.safeAuth src mac) s src 0x0905 true [.latch] .denied [] fun b =>
        b.latch = { s.block.latch with fails := s.block.latch.fails + 1, nonces := [] })
  ∧ (∀ s src n t mac, s.block.latch.pwSet = true → s.block.locked = false → s.block.latch.nonces = [(src.index, n, t)] → s.block.sys.now < t + 60 * secT → mac.length = 32 →
      hmac256 s.block.latch.key (n ++ leBytes 1 src.index) ≠ mac → s.block.latch.fails = 4 → Serves (.safeAuth src mac) s src 0x0905 true [.latch] .denied [] fun b =>
        b.latch.fails = 5 ∧ b.latch.nonces = [] ∧ b.latch.lockEnd = some (s.block.sys.now + 60 * secT) ∧ s.block.logsChange b src.index 4 60)
  ∧ (∀ s src mac, s.block.latch.pwSet = true → s.block.locked = false → s.block.latch.nonces = [] → mac.length = 32 →
      Serves (.safeAuth src mac) s src 0x0905 true [] .badParam [] fun b => b.latch = s.block.latch)
  ∧ (∀ s src mac, s.block.latch.pwSet = true → s.block.locked = true → mac.length = 32 → Serves (.safeAuth src mac) s src 0x0905 true [] .busy [] fun b => b.latch = s.block.latch)
  ∧ (∀ s (i : Fin 4) t, s.block.latch.windows = [(i.val, t)] → Happens (.authWindowExpiry i) s [.sys, .latch] fun b =>
      b.sys.now = max s.block.sys.now (t + 60 * secT) ∧ b.latch = { s.block.latch with windows := [] })
  ∧ (∀ s t, s.block.latch.lockEnd = some t → Happens .authLockoutEnd s [.sys, .latch] fun b =>
      b.sys.now = max s.block.sys.now t ∧ b.latch = { s.block.latch with lockEnd := none })
  ∧ (∀ s src chars, 8 ≤ chars.length → chars.length ≤ 32 → (∀ c ∈ chars, 0x20 ≤ c.toNat ∧ c.toNat ≤ 0x7E) → s.block.latch.pwSet = false → s.block.sys.mstate = .park →
      s.block.latch.srst = true → Serves (.safeSetPassword src chars) s src 0x0906 true [.sys, .latch] .ok [] fun b =>
        b.latch.pwSet = true ∧ b.latch.iter = 100000 ∧ b.latch.salt = s.block.random16 ∧ b.latch.key = pbkdf2 chars s.block.random16 100000 ∧ s.block.logsChange b src.index 2 0)
  ∧ (∀ s src chars, 8 ≤ chars.length → chars.length ≤ 32 → (∀ c ∈ chars, 0x20 ≤ c.toNat ∧ c.toNat ≤ 0x7E) → s.block.latch.pwSet = true → s.block.windowOpen src = false →
      Serves (.safeSetPassword src chars) s src 0x0906 true [] .denied [] fun b => b.latch = s.block.latch)
  ∧ (∀ s src r how, r.length = 256 → (s.block.latch.state = .armed ∧ s.block.sys.mstate = .park) ∨ s.block.latch.state = .acted ∨ s.block.latch.state = .recovery →
      s.block.windowOpen src = false → Serves (.safeFloorWrite src r how) s src 0x0907 true [] .denied [] fun b => b.latch = s.block.latch)
  ∧ (∀ s src r how k st, r.length = 256 → (s.block.latch.state = .armed ∧ s.block.sys.mstate = .park) ∨ s.block.latch.state = .acted ∨ s.block.latch.state = .recovery →
      s.block.windowOpen src = true → s.block.floorCheck r = some (k, st) →
      Serves (.safeFloorWrite src r how) s src 0x0907 true [] st (leBytes 1 k ++ leBytes 4 (floorGen s.block.floor)) fun b => b.latch = s.block.latch)
  ∧ (∀ s src r, r.length = 256 → (s.block.latch.state = .armed ∧ s.block.sys.mstate = .park) ∨ s.block.latch.state = .acted ∨ s.block.latch.state = .recovery →
      s.block.windowOpen src = true → s.block.floorCheck r = none → floorGen s.block.floor < 4294967295 →
      Serves (.safeFloorWrite src r .written) s src 0x0907 true [.latch, .thm] .ok (leBytes 1 0 ++ leBytes 4 (floorGen r)) fun b =>
        (if s.block.latch.aInForce then b.latch.copyB = r ∧ b.latch.okB = true ∧ b.latch.copyA = s.block.latch.copyA
          else b.latch.copyA = r ∧ b.latch.okA = true ∧ b.latch.copyB = s.block.latch.copyB)
        ∧ b.floor = r ∧ s.block.logsChange b src.index 1 (floorDetail r s.block.floor))
  ∧ (∀ s src r, r.length = 256 → (s.block.latch.state = .armed ∧ s.block.sys.mstate = .park) ∨ s.block.latch.state = .acted ∨ s.block.latch.state = .recovery →
      s.block.windowOpen src = true → s.block.floorCheck r = none →
      Serves (.safeFloorWrite src r .failed) s src 0x0907 true [.latch] .fault (leBytes 1 0 ++ leBytes 4 (floorGen s.block.floor)) fun b =>
        b.floor = s.block.floor ∧ b.latch.changes = s.block.latch.changes ∧ (if s.block.latch.aInForce then b.latch.okB = false else b.latch.okA = false))
  ∧ (∀ s src r, r.length = 256 → (s.block.latch.state = .armed ∧ s.block.sys.mstate = .park) ∨ s.block.latch.state = .acted ∨ s.block.latch.state = .recovery →
      s.block.windowOpen src = true → s.block.floorCheck r = none → Begins (.safeFloorWrite src r .cutAfter) s src 0x0907 true [.latch] fun b =>
        b.latch.commitOpen = some (floorDetail r s.block.floor) ∧ b.latch.changes = s.block.latch.changes
        ∧ (if s.block.latch.aInForce then b.latch.copyB = r ∧ b.latch.okB = true else b.latch.copyA = r ∧ b.latch.okA = true))
  ∧ (∀ s src, Serves (.safeFloorRead src) s src 0x0908 false [] (if s.block.latch.floorOk then .ok else .fault) s.block.floor fun b => b.latch = s.block.latch)
  ∧ (∀ s src first count, 1 ≤ count → count ≤ 16 → Serves (.safeLogRead src first count) s src 0x0909 false [] .ok
      ((s.block.latch.changes.reverse.filter fun e => decide (first ≤ e.seq ∧ e.seq < first + count)).flatMap (·.bytes)) fun b => b.latch = s.block.latch)
  ∧ (∀ s src i t, 100 ≤ i → i ≤ 20000 → 500 ≤ t → t ≤ 30000 → s.block.sys.mstate = .park ∨ s.block.sys.mstate = .safe →
      Serves (.safeSetPrecharge src i t) s src 0x0903 true [.latch, .upd] .ok [] fun b =>
        b.latch = { s.block.latch with preI := i, preTmax := t } ∧ s.block.storesSettings b)

/-! ### Sessions and ownership (10_ixras_command_packets.md) -/

/-- R343, R333, R326, R339: the session and ownership commands complete with the status and the data of their table. -/
def Obligations.SessionCommandsAnswer : Prop :=
  (∀ s src, Serves (.sysPing src) s src 0x0103 false [] .ok
      (leBytes 4 s.block.img.epoch ++ leBytes 1 s.block.sys.mstate.code ++ leBytes 1 s.block.ownerByte) fun _ => True)
  ∧ (∀ s i seq, s.block.ix.owner = none →
      Serves (.sysTakeOwner (.session i seq)) s (.session i seq) 0x0104 false [.owner, .latch] .ok [] fun b => b.ix.owner = some i)
  ∧ (∀ s i j seq, s.block.ix.owner = some j →
      Serves (.sysTakeOwner (.session i seq)) s (.session i seq) 0x0104 false [] (if j = i then .ok else .busy) [] fun b => b.ix.owner = some j)
  ∧ (∀ s i seq, Serves (.sysReleaseOwner (.session i seq) 0xFF) s (.session i seq) 0x0105 true [.owner, .latch, .loop, .cnv] .ok [] fun b => b.ix.owner = none)
  ∧ (∀ s i seq target, target < 4 → target ≠ i → (s.block.session target).isOpen = true →
      Serves (.sysReleaseOwner (.session i seq) target) s (.session i seq) 0x0105 true [.owner, .latch] .ok [] fun b => b.ix.owner = some target)
  ∧ (∀ s i seq mtu, 576 ≤ mtu → mtu ≤ 9000 →
      Serves (.sysSetMtu (.session i seq) mtu) s (.session i seq) 0x0106 false [] .ok [] fun b =>
        (b.session i).mtu = mtu ∧ ∀ j < 4, j ≠ i → b.session j = s.block.session j)
  ∧ (∀ s i seq k mask e, s.block.resendable i k mask = some e → (s.block.session i).cache.length < 8 →
      Serves (.sysResend (.session i seq) k mask) s (.session i seq) 0x0107 false [] .ok (leBytes 1 (membersOf 16 mask).length) fun b =>
        ∃ r ∈ b.ix.tx, b.ix.tx = s.block.ix.tx ++ [{ sessionReply i k e.opcode e.status e.mtu e.data s.block with mask := mask }, r] ∧ r.seq = seq)

/-- R329, R331, R332, R336: a session opens at the lowest free index with a fresh tag, closes with its cache gone and its ownership given up; a running request's PEND packet; a
datagram fails at the first check it does not stand, and a request that stands them all is answered.
Part of it rests on the model's own choice (log entry 3). -/
def Obligations.SessionsOpenCloseAndDatagramsAreJudged : Prop :=
  (∀ s ip port seq timeout mtu i, s.block.sys.mstate ≠ .off → s.block.n0Up = true → s.block.upd.pauseAt = none → timeout ≤ 60 → 576 ≤ mtu → mtu ≤ 9000 →
      s.block.ix.sessions.length = 4 → ((List.range 4).find? fun j => !(s.block.session j).isOpen) = some i →
      Happens (.sysSessionOpen ip port seq timeout mtu) s [.sys, .ix] fun b =>
        (b.session i).isOpen = true ∧ (b.session i).ip = ip ∧ (b.session i).port = port ∧ (b.session i).mtu = mtu
        ∧ (b.session i).timeout = (if timeout = 0 then 10 else timeout) ∧ (b.session i).cache = []
        ∧ (b.session i).stag ≠ 0 ∧ (b.session i).stag ≠ (s.block.session i).stag ∧ (∀ j < 4, j ≠ i → b.session j = s.block.session j)
        ∧ ∃ r ∈ b.ix.tx, b.ix.tx = s.block.ix.tx ++ [r] ∧ r.session = i ∧ r.seq = seq ∧ r.status = 0 ∧ r.stag = (b.session i).stag)
  ∧ (∀ s ip port seq timeout mtu, s.block.sys.mstate ≠ .off → s.block.n0Up = true → s.block.upd.pauseAt = none → timeout ≤ 60 → 576 ≤ mtu → mtu ≤ 9000 →
      ((List.range 4).all fun j => (s.block.session j).isOpen) = true →
      Happens (.sysSessionOpen ip port seq timeout mtu) s [.ix] fun b =>
        b.ix.sessions = s.block.ix.sessions ∧ ∃ r ∈ b.ix.tx, b.ix.tx = s.block.ix.tx ++ [r] ∧ r.status = Status.busy.code ∧ r.data = [])
  ∧ (∀ s i seq, s.block.settled = true → s.block.admits (.session i seq) 0x0102 false = true →
      Ends (.sysSessionClose (.session i seq)) s fun b =>
        (b.session i).isOpen = false ∧ (b.session i).cache = [] ∧ b.ix.owner = (if s.block.ix.owner = some i then none else s.block.ix.owner)
        ∧ (∃ r ∈ b.ix.tx, b.ix.tx = s.block.ix.tx ++ [r] ∧ r.session = i ∧ r.seq = seq ∧ r.status = 0)
        ∧ s.block.changesOnly b ([.owner, .latch, .loop, .cnv, .sec] ++ served))
  ∧ (∀ s (i : Fin 4), (s.block.session i).isOpen = true →
      Happens (.sessionTimeout i) s [.sys, .ix, .owner, .latch, .loop, .cnv, .sec] fun b =>
        (b.session i).isOpen = false ∧ (b.session i).cache = [] ∧ b.ix.owner = (if s.block.ix.owner = some i.val then none else s.block.ix.owner))
  ∧ (∀ s (i : Fin 4) seq e, s.block.entry? i seq = some e → e.running = true → s.block.upd.pauseAt = none →
      Happens (.pendPacket i seq) s [.sys, .ix] fun b =>
        b.ix.sessions = s.block.ix.sessions ∧ b.ix.tx = s.block.ix.tx ++ [{ sessionReply i seq e.opcode 0 e.mtu [] s.block with pend := true }])
  ∧ (∀ s ip port p, s.block.sys.mstate ≠ .off → s.block.n0Up = true → s.block.upd.pauseAt = none →
      (wellFramed p = false ∨ bitOf 0 (leField p 1 1) = true ∨ bitOf 1 (leField p 1 1) = true) →
      Happens (.ixrasDatagram ip port p) s [.ix] fun b => b.ix = { s.block.ix with dropped := satAdd 65535 s.block.ix.dropped 1 })
  ∧ (∀ s ip port p, s.block.sys.mstate ≠ .off → s.block.n0Up = true → s.block.upd.pauseAt = none →
      wellFramed p = true → bitOf 0 (leField p 1 1) = false → bitOf 1 (leField p 1 1) = false → leField p 0 1 ≠ 1 →
      Happens (.ixrasDatagram ip port p) s [.ix] fun b =>
        b.ix.sessions = s.block.ix.sessions ∧ ∃ r ∈ b.ix.tx, b.ix.tx = s.block.ix.tx ++ [r] ∧ r.status = Status.badOpcode.code ∧ r.data = [])
  ∧ (∀ s ip port p, s.block.sys.mstate ≠ .off → s.block.n0Up = true → s.block.upd.pauseAt = none →
      wellFramed p = true → bitOf 0 (leField p 1 1) = false → bitOf 1 (leField p 1 1) = false → leField p 0 1 = 1 →
      (plainHeader p = false ∨ (¬(leField p 2 1 = 0xFF ∧ leField p 8 2 = 0x0101) ∧ s.block.fromSession ip port p = false)) →
      Happens (.ixrasDatagram ip port p) s [.ix] fun b =>
        b.ix.sessions = s.block.ix.sessions ∧ ∃ r ∈ b.ix.tx, b.ix.tx = s.block.ix.tx ++ [r] ∧ r.status = Status.badParam.code ∧ r.data = [])
  ∧ (∀ s ip port p, s.block.settled = true → s.block.sys.mstate ≠ .off → s.block.n0Up = true → s.block.paused = false →
      wellFramed p = true → bitOf 0 (leField p 1 1) = false → bitOf 1 (leField p 1 1) = false → leField p 0 1 = 1 → plainHeader p = true →
      leField p 2 1 ≠ 0xFF → s.block.fromSession ip port p = true → leField p 8 2 = 0x0103 → p.length = 20 →
      s.block.entry? (leField p 2 1) (leField p 6 2) = none → s.block.sessionFull (.session (leField p 2 1) (leField p 6 2)) = false →
      Ends (.ixrasDatagram ip port p) s fun b =>
        b.answered (.session (leField p 2 1) (leField p 6 2)) .ok
          (leBytes 4 s.block.img.epoch ++ leBytes 1 s.block.sys.mstate.code ++ leBytes 1 s.block.ownerByte)
        ∧ s.block.changesOnly b served)

/-- R344, R19, R20, R171: the state commands, accepted under their conditions, take the module to the state they name.
Part of it rests on the model's own choice (log entry 54). -/
def Obligations.StateCommandsChangeTheModuleState : Prop :=
  (∀ s src, s.block.runOk = true → Serves (.sysRun src) s src 0x0110 true controlled .ok [] fun b =>
      b.sys.mstate = .run ∧ b.sys.prev = .park ∧ b.sys.cause = 0x0106 ∧ b.cnv.st = .precheck)
  ∧ (∀ s src, s.block.sys.mstate = .park → Serves (.sysPark src) s src 0x0111 true [] .ok [] fun b => b.sys.mstate = .park)
  ∧ (∀ s src, s.block.sys.mstate = .run → s.block.cnv.st ∈ [CState.prebias, .ramp, .settle, .regulate, .hiccup] →
      Begins (.sysPark src) s src 0x0111 true [.cnv, .flt] fun b => b.sys.mstate = .run ∧ b.cnv.st = .softstop ∧ b.cnv.parkSrc = some src)
  ∧ (∀ s src, s.block.sys.mstate = .run → s.block.cnv.st = .precheck →
      Begins (.sysPark src) s src 0x0111 true [.cnv, .flt] fun b => b.sys.mstate = .run ∧ b.cnv.st = .precheck ∧ b.cnv.parkSrc = some src)
  ∧ (∀ s src, s.block.sys.mstate = .run → s.block.cnv.st = .muzzled ∨ s.block.cnv.st = .latched →
      Serves (.sysPark src) s src 0x0111 true [] .fault [] fun b => b.sys.mstate = .run)
  ∧ (∀ s src, s.block.sys.mstate = .park → s.block.cnv.st ≠ .latched → Serves (.sysHibernate src) s src 0x0112 true controlled .ok [] fun b =>
      b.sys.mstate = .hibernate ∧ b.cnv.st = .muzzled ∧ b.cnv.fibreOn = false ∧ b.flt.frozen = true
      ∧ b.sense.pendingRate = some { rate := 4, start := multipleFrom (rateTicks 4) (s.block.sys.now + msT) })
  ∧ (∀ s src, s.block.sys.mstate = .fault → s.block.presentCauses = [] → s.block.sys.faultAt ≠ some s.block.cycle →
      Serves (.sysFaultClear src) s src 0x0113 true controlled .ok (leBytes 1 0) fun b => b.sys.mstate = .park ∧ b.sys.faultCauses = [])
  ∧ (∀ s src, s.block.sys.mstate = .fault → s.block.presentCauses ≠ [] →
      Serves (.sysFaultClear src) s src 0x0113 true [.sys] .badState (leBytes 1 (min 255 s.block.presentCauses.length)) fun b => b.sys.mstate = .fault)
  ∧ (∀ s src, s.block.sys.mstate = .fault → s.block.presentCauses = [] → s.block.sys.faultAt = some s.block.cycle →
      Serves (.sysFaultClear src) s src 0x0113 true [.sys] .fault (leBytes 1 0) fun b => b.sys.mstate = .fault)
  ∧ (∀ s src, s.block.sys.mstate = .hibernate → Serves (.sysWake src) s src 0x0114 false controlled .ok (leBytes 1 1) fun b =>
      b.sys.mstate = .park ∧ b.cnv.fibreOn = true ∧ b.cnv.graceEnd = some (s.block.sys.now + 300 * msT)
      ∧ b.sense.pendingRate = some { rate := s.block.sense.rateCfg, start := multipleFrom (rateTicks s.block.sense.rateCfg) (s.block.sys.now + msT) })

/-- R329, checks 10 to 13, and R330: a new request of a host command that fails a check is refused with the status of the first check it fails, and has no effect. -/
def Obligations.RefusedAtTheFirstFailingCheck : Prop :=
  ∀ (i : Instr) (s : State) (src : Src) (rule : Block → HostRule), hostRule? i = some (src, rule) → s.block.settled = true →
    s.block.srcOpen src = true → s.block.acceptedEarlier src (rule s.block).opcode = false → s.block.unseen src = true →
    (s.block.sessionFull src = true → Ends i s fun b => s.block.refused b src .busy ∧ s.block.changesOnly b (servedBy src))
    ∧ (s.block.sessionFull src = false → ∀ st, checkRule src (rule s.block) s.block = some st →
        Ends i s fun b => s.block.refused b src st ∧ s.block.changesOnly b (servedBy src))
    ∧ ((rule s.block).owner = true → s.block.srcGranted src (rule s.block).opcode = true → s.block.owns src = false →
        checkRule src (rule s.block) s.block = some .notOwner)
    ∧ ((rule s.block).owner = true → s.block.srcGranted src (rule s.block).opcode = true → s.block.owns src = true →
        s.block.runningOpcodes.contains (rule s.block).opcode = true → checkRule src (rule s.block) s.block = some .busy)

/-! ### The state image and the Transom port (11_state_image_and_transom_port.md) -/

/-- R355, R357, R358, R369: at an epoch boundary the banks swap unless a Transom hold defers the swap; the copy makes the new back bank equal to the front bank in what was
written; the deferred swap follows the release, and TLATCH takes and gives up the hold. -/
def Obligations.BanksSwapAtTheBoundaryUnlessHeld : Prop :=
  (∀ s, s.block.sys.mstate ≠ .off → s.block.img.hold = none → Happens .epochBoundary s [.sys, .bank] fun b =>
      b.sys.now = s.block.nextMultiple msT ∧ b.img.front1 = (!s.block.img.front1) ∧ b.img.epoch = epochOf b.sys.now
      ∧ b.img.swaps = (s.block.img.swaps + 1) % 4294967296 ∧ b.img.written = [] ∧ b.img.deferred = none)
  ∧ (∀ s t, s.block.sys.mstate ≠ .off → s.block.img.hold = some t → Happens .epochBoundary s [.sys, .bank] fun b =>
      b.sys.now = s.block.nextMultiple msT
      ∧ b.bankPart = { s.block.bankPart with deferred := some (s.block.img.deferred.getD (s.block.nextMultiple msT)) })
  ∧ (∀ s, Happens .backCopyDone s [.bank] fun b =>
      b.img.copying = [] ∧ b.img.front1 = s.block.img.front1 ∧ b.img.front = s.block.img.front
      ∧ ∀ t ∈ s.block.img.copying, (bankGet s.block.img.front t).length = 15 → bankGet b.img.back t = bankGet s.block.img.front t)
  ∧ (∀ s due, s.block.img.deferred = some due → s.block.img.hold = none → s.block.batchOpen = false → s.block.sys.mstate ≠ .off →
      Happens .deferredSwap s [.bank] fun b =>
        b.img.front1 = (!s.block.img.front1) ∧ b.img.epoch = epochOf s.block.sys.now ∧ b.img.swaps = (s.block.img.swaps + 1) % 4294967296
        ∧ b.img.defers = satAdd 4294967295 s.block.img.defers 1 ∧ b.img.defMax = max s.block.img.defMax ((s.block.sys.now - due) / usT)
        ∧ b.img.deferred = none ∧ b.img.hold = (if s.block.img.tlatch then some s.block.sys.now else none))
  ∧ (∀ s, s.block.img.tlatch = false → s.block.portReady = true → s.block.img.deferred = none → Happens .tlatchRise s [.bank] fun b =>
      b.bankPart = { s.block.bankPart with tlatch := true, tlack := true, hold := some s.block.sys.now, holdLong := false })
  ∧ (∀ s d, s.block.img.tlatch = false → s.block.img.deferred = some d → Happens .tlatchRise s [.bank] fun b =>
      b.bankPart = { s.block.bankPart with tlatch := true })
  ∧ (∀ s, Happens .tlatchFall s [.bank] fun b => b.bankPart = { s.block.bankPart with tlatch := false, tlack := false, hold := none, holdLong := false })
  ∧ (∀ s t, s.block.img.hold = some t → s.block.img.holdLong = false → Happens .imgHoldLong s [.sys, .bank] fun b =>
      b.sys.now = max s.block.sys.now (t + 100 * msT) ∧ b.bankPart = { s.block.bankPart with holdLong := true })

/-- R353, R356, R366, R372, R345, R365: a tile is stored whole in the back bank and every other tile stays; the port and the image commands read the front bank; a failed
internal read counts, and the value last taken is used while it is no older than 100 ms. -/
def Obligations.TilesAreStoredWholeAndReadFromTheFrontBank : Prop :=
  (∀ s (t : Fin 16384) ws, policyBase ≤ t.val → Happens (.tileWrite t ws) s [.bank] fun b =>
      bankGet b.img.back t = pad15 ws ∧ b.img.front = s.block.img.front
      ∧ ∀ u < 16384, u ≠ t.val → bankGet b.img.back u = bankGet s.block.img.back u)
  ∧ (∀ s (t : Fin 16384) ws, t.val ≠ 0 → t.val ≠ 9 → t.val < policyBase → Happens (.tileWrite t ws) s [.bank] fun b =>
      bankGet b.img.back t = s.block.tileWords t ∧ b.img.front = s.block.img.front
      ∧ ∀ u < 16384, u ≠ t.val → bankGet b.img.back u = bankGet s.block.img.back u)
  ∧ (∀ s ws, Happens (.tileWrite 9 ws) s [.pwr, .supply, .bank] fun b =>
      b.pwr.meas = ((pad15 ws).drop 1).take 7 ∧ b.img.front = s.block.img.front)
  ∧ (∀ s (t : Fin 16384), t.val ≠ 0 → t.val < policyBase → Happens (.tileRefresh t) s [.bank] fun b =>
      bankGet b.img.back t = s.block.tileWords t ∧ b.img.front = s.block.img.front
      ∧ ∀ u < 16384, u ≠ t.val → bankGet b.img.back u = bankGet s.block.img.back u)
  ∧ (∀ s (t : Fin 16384) (h : Fin 32), Happens (.transomRead t h) s [.bank] fun b =>
      b.bankPart = { s.block.bankPart with td := (if s.block.sys.mstate = .off then none else
        if s.block.portReady then some (BitVec.ofNat 16 (leField (tileBytes (bankGet s.block.img.front t)) (2 * h.val) 2)) else some 0#16) })
  ∧ (∀ s (e : Fin 15) (t : Fin 16384), Happens (.tileReadInternal e t 0) s [.bank] fun b =>
      (e.val, t.val, s.block.sys.now, bankGet s.block.img.front t) ∈ b.img.taken ∧ b.img.chkFail = s.block.img.chkFail
      ∧ b.img.front = s.block.img.front ∧ b.img.back = s.block.img.back)
  ∧ (∀ s (e : Fin 15) (t : Fin 16384), Happens (.tileReadInternal e t 1) s [.bank] fun b =>
      (e.val, t.val, s.block.sys.now, bankGet s.block.img.front t) ∈ b.img.taken ∧ b.img.chkFail = satAdd 4294967295 s.block.img.chkFail 1
      ∧ b.img.lfTile = t.val ∧ b.img.lfBank = b2n s.block.img.front1 ∧ b.img.front = s.block.img.front ∧ b.img.back = s.block.img.back)
  ∧ (∀ s (e : Fin 15) (t : Fin 16384), Happens (.tileReadInternal e t 2) s [.bank] fun b =>
      b.img.chkFail = satAdd 4294967295 (satAdd 4294967295 s.block.img.chkFail 1) 1 ∧ b.img.lfTile = t.val
      ∧ (∀ x ∈ b.img.taken, x ∈ s.block.img.taken ∧ ((x.1 = e.val ∧ x.2.1 = t.val) → s.block.sys.now ≤ x.2.2.1 + 100 * msT))
      ∧ b.img.front = s.block.img.front ∧ b.img.back = s.block.img.back)
  ∧ (∀ s (t : Fin 16384) f t0, s.block.img.fault? t = some f → f.firstFail = some t0 → f.stuck = false →
      Happens (.imgTileStuck t) s [.sys, .bank] fun b =>
        b.sys.now = max s.block.sys.now (t0 + 200 * msT) ∧ b.img.stuck = satAdd 65535 s.block.img.stuck 1
        ∧ (∀ x ∈ b.img.faults, x.tile = t.val → x.stuck = true) ∧ b.img.front = s.block.img.front ∧ b.img.back = s.block.img.back)
  ∧ (∀ s src first count, 1 ≤ count → count ≤ 128 → first + count ≤ 16384 →
      Serves (.imgRead src first count 0 []) s src 0x0201 false [] .ok
        (leBytes 4 s.block.img.epoch ++ leBytes 1 (b2n s.block.img.front1) ++ leBytes 1 0 ++ leBytes 2 count ++ leBytes 16 0
          ++ (List.range count).flatMap fun i => tileBytes (bankGet s.block.img.front (first + i))) fun _ => True)
  ∧ (∀ s src tiles, 1 ≤ tiles.length → tiles.length ≤ 128 → (tiles.all fun t => decide (t < 16384)) = true →
      Serves (.imgReadList src tiles 0 []) s src 0x0202 false [] .ok
        (leBytes 4 s.block.img.epoch ++ leBytes 1 (b2n s.block.img.front1) ++ leBytes 1 0 ++ leBytes 2 tiles.length ++ leBytes 16 0
          ++ tiles.flatMap fun t => tileBytes (bankGet s.block.img.front t)) fun _ => True)
  ∧ (∀ s src tile, tile < 16384 →
      Serves (.imgReadList src [tile] 0 [0]) s src 0x0202 false [.bank] .tileCheck
        (leBytes 4 s.block.img.epoch ++ leBytes 1 (b2n s.block.img.front1) ++ leBytes 1 0 ++ leBytes 2 1 ++ leBytes 16 1
          ++ tileBytes (bankGet s.block.img.front tile)) fun b => b.img.chkFail = satAdd 4294967295 s.block.img.chkFail 1 ∧ b.img.lfTile = tile)

/-! ### Networks, time and partners (12_plant_networks_and_time.md) -/

/-- R375 to R379, R384, R401, R402: cages and LANs come and go, frames are answered, discarded or counted as duplicates, PRP tables age, and an address change takes effect.
Part of it rests on the model's own choice (log entry 39). -/
def Obligations.LansCarryAndDiscardFrames : Prop :=
  (∀ s (c : Fin 2) p su tx al lo, Happens (.sfpPoll c p su tx al lo) s [.sys, .net] fun b =>
      (s.block.net.cages[c.val]?.isSome = true → b.sys.now = max s.block.sys.now (multipleFrom secT s.block.sys.now))
      ∧ b.net = { s.block.net with cages := modAt s.block.net.cages c fun g => { g with present := p, fault := p && (!su || tx || al || lo), unusable := p && !su } })
  ∧ (∀ s (c : Fin 2) f t g, s.block.net.cages[c.val]? = some g → g.unusable = true ∨ s.block.n0Up = false → Happens (.ethFrame c f t) s [.sys] fun b =>
      b.sys.now = max s.block.sys.now t)
  ∧ (∀ s (c : Fin 2) f t g, s.block.net.cages[c.val]? = some g → g.unusable = false → s.block.n0Up = true →
      9030 < f.len ∨ s.block.vlanOk f = false ∨ (s.block.net.ip.mode = 1 ∧ c = 1 ∧ f.kind.splitOk = false) → Happens (.ethFrame c f t) s [.sys, .net] fun b =>
        b.net = { s.block.net with cages := modAt s.block.net.cages c fun g => { g with link := true }, rxDrop := (s.block.net.rxDrop + 1) % 4294967296 })
  ∧ (∀ s (c : Fin 2) f t g from_, s.block.net.cages[c.val]? = some g → g.unusable = false → s.block.n0Up = true → f.len ≤ 9030 → s.block.vlanOk f = true →
      s.block.net.ip.mode = 1 → f.kind = .arp s.block.net.ip.addr from_ → Happens (.ethFrame c f t) s [.sys, .net] fun b =>
        b.net = { s.block.net with cages := modAt s.block.net.cages c fun g => { g with link := true }, out := s.block.net.out ++ [.arpReply c from_] })
  ∧ (∀ s (c : Fin 2) f t g from_, s.block.net.cages[c.val]? = some g → g.unusable = false → s.block.n0Up = true → f.len ≤ 9030 → s.block.vlanOk f = true →
      s.block.net.ip.mode = 1 → f.kind = .echo s.block.net.ip.addr from_ → s.block.net.echoes.length < 64 → Happens (.ethFrame c f t) s [.sys, .net] fun b =>
        b.net = { s.block.net with
          cages := modAt s.block.net.cages c fun g => { g with link := true }, out := s.block.net.out ++ [.echoReply c from_]
          echoes := b.sys.now :: s.block.net.echoes.filter fun u => b.sys.now < u + secT })
  ∧ (∀ s (c : Fin 2) f t g n, s.block.net.cages[c.val]? = some g → g.unusable = false → s.block.n0Up = true → f.len ≤ 9030 → s.block.vlanOk f = true →
      s.block.net.ip.mode = 0 → f.kind = .igmp → f.rct = some (n, c.val) → (s.block.net.dups.find? fun d => d.mac == f.mac && d.seq == n) = none →
      Happens (.ethFrame c f t) s [.sys, .net] fun b =>
        b.net = { s.block.net with
          cages := modAt s.block.net.cages c fun g => { g with link := true, lastRct := some b.sys.now }, nodes := b.net.nodes
          dups := s.block.net.dups ++ [{ mac := f.mac, seq := n, onA := c.val == 0, onB := c.val == 1, count := b.sys.now }] }
        ∧ (s.block.net.nodes.length < 256 → b.net.nodes = insertKey f.mac b.sys.now s.block.net.nodes))
  ∧ (∀ s (c : Fin 2) f t g n d, s.block.net.cages[c.val]? = some g → g.unusable = false → s.block.n0Up = true → f.len ≤ 9030 → s.block.vlanOk f = true →
      s.block.net.ip.mode = 0 → f.kind ≠ .ptp → f.rct = some (n, c.val) → s.block.net.dups = [d] → d.mac = f.mac → d.seq = n → Happens (.ethFrame c f t) s [.sys, .net] fun b =>
        b.net.dupDisc = (s.block.net.dupDisc + 1) % 4294967296 ∧ b.net.dups = [{ d with onA := d.onA || c.val == 0, onB := d.onB || c.val == 1 }]
        ∧ b.net.out = s.block.net.out ∧ b.net.rxDrop = s.block.net.rxDrop ∧ b.net.echoes = s.block.net.echoes)
  ∧ (∀ s (c : Fin 2) f t g n l, s.block.net.cages[c.val]? = some g → g.unusable = false → s.block.n0Up = true → f.len ≤ 9030 → s.block.vlanOk f = true →
      s.block.net.ip.mode = 0 → f.kind = .supervision → f.rct = some (n, l) → l ≠ c.val → (s.block.net.dups.find? fun d => d.mac == f.mac && d.seq == n) = none →
      Happens (.ethFrame c f t) s [.sys, .net] fun b => b.net.wrongLan = (s.block.net.wrongLan + 1) % 4294967296 ∧ (b.net.cages.map (·.lastRct)) = s.block.net.cages.map (·.lastRct))
  ∧ (∀ s, s.block.net.ip.mode = 0 → s.block.n0Up = true → Happens .prpSupervision s [.sys, .net] fun b =>
      b.sys.now = max s.block.sys.now (multipleFrom (2 * secT) s.block.sys.now) ∧ b.net = { s.block.net with
        out := s.block.net.out ++ [.supervision 0 s.block.net.supSeq, .supervision 1 s.block.net.supSeq], supSeq := (s.block.net.supSeq + 1) % 65536 })
  ∧ (∀ s, s.block.net.ip.mode ≠ 0 ∨ s.block.n0Up = false → Happens .prpSupervision s [.sys] fun _ => True)
  ∧ (∀ s d rest, s.block.net.dups = d :: rest → Happens (.prpEntryExpiry false) s [.sys, .net] fun b =>
      b.sys.now = max s.block.sys.now (d.count + 400 * msT) ∧ b.net = { s.block.net with
        dups := rest
        uniqA := if d.onA && !d.onB then (s.block.net.uniqA + 1) % 4294967296 else s.block.net.uniqA
        uniqB := if d.onB && !d.onA then (s.block.net.uniqB + 1) % 4294967296 else s.block.net.uniqB })
  ∧ (∀ s t, minOf? (s.block.net.nodes.map (·.2)) = some t → Happens (.prpEntryExpiry true) s [.sys, .net] fun b =>
      b.sys.now = max s.block.sys.now (t + 60 * secT) ∧ b.net = { s.block.net with nodes := s.block.net.nodes.filter fun x => x.2 != t })
  ∧ (∀ s (c : Fin 2) t g o, s.block.net.cages[c.val]? = some g → s.block.net.cages[1 - c.val]? = some o → s.block.net.cages.length = 2 → g.up = true →
      Happens (.lanLinkLost c t) s [.sys, .net] fun b => b.sys.now = max s.block.sys.now (t + 10 * msT)
        ∧ b.net = { s.block.net with
            cages := modAt s.block.net.cages c fun g => { g with link := false, up := false }, allLost := s.block.net.allLost || !o.up })
  ∧ (∀ s (c : Fin 2) t g, s.block.net.cages[c.val]? = some g → g.up = false → Happens (.lanLinkLost c t) s [.sys, .net] fun b =>
      b.net = { s.block.net with cages := modAt s.block.net.cages c fun g => { g with link := false } })
  ∧ (∀ s (c : Fin 2) g o u, s.block.net.cages[c.val]? = some g → s.block.net.cages[1 - c.val]? = some o → s.block.net.cages.length = 2 → o.lastRct = some u → o.up = true →
      s.block.net.ip.mode = 0 → g.up = true → g.lastRct.getD 0 < u → Happens (.lanRctTimeout c) s [.sys, .net] fun b =>
        b.sys.now = max s.block.sys.now (g.lastRct.getD 0 + 6 * secT) ∧ b.net = { s.block.net with cages := modAt s.block.net.cages c fun g => { g with up := false } })
  ∧ (∀ s (c : Fin 2) t g, s.block.net.cages[c.val]? = some g → g.up = false → g.unusable = false → Happens (.lanReturn c t) s [.sys, .net] fun b =>
      b.sys.now = max s.block.sys.now t
      ∧ b.net = { s.block.net with cages := modAt s.block.net.cages c fun g => { g with link := true, up := true }, allLost := false })
  ∧ (∀ s x t, s.block.net.ipNext = some (x, t) → x.mode = s.block.net.ip.mode → Happens .ipChangeEffect s [.sys, .net] fun b =>
      b.sys.now = max s.block.sys.now t ∧ b.net = { s.block.net with ip := x, ipNext := none })
  ∧ (∀ s x t, s.block.net.ipNext = some (x, t) → x.mode ≠ s.block.net.ip.mode → (∀ q ∈ s.block.net.ptp.ports, q.ann = none) → Happens .ipChangeEffect s [.sys, .net] fun b =>
      b.net.ip = x ∧ b.net.ipNext = none ∧ b.net.ptp.slave = none ∧ ∀ p < 2, ∀ q ∈ b.net.ptp.ports[p]?, q.st = if b.portRuns p then .listening else .disabled)

/-- R380 to R386, R389, R430, R439: the ports' messages, the selection of a master, the measurement and the step of the clock, holdover, and transmit timestamps.
Part of it rests on the model's own choice (log entries 12 and 38). -/
def Obligations.PtpClockFollowsTheBestMaster : Prop :=
  (∀ s (p : Fin 2) dom eth m rx, s.block.portRuns p = false ∨ s.block.n0Up = false ∨ s.block.net.ptp.set.domain ≠ dom ∨ eth ≠ (s.block.net.ptp.set.profile == 1) →
      Happens (.ptpMessage p dom eth m rx) s [.sys] fun b => b.sys.now = max s.block.sys.now (rx / 10))
  ∧ (∀ s (p : Fin 2) a rx q o, s.block.portRuns p = true → s.block.n0Up = true → s.block.net.ptp.ports[p.val]? = some q → s.block.net.ptp.ports[1 - p.val]? = some o →
      o.ann = none → s.block.net.ptp.slave = none → s.block.net.ptp.set.slaveOnly = true ∨ a.better s.block.ownClock = true →
      Happens (.ptpMessage p s.block.net.ptp.set.domain (s.block.net.ptp.set.profile == 1) (.announce a) rx) s [.sys, .net] fun b =>
        b.sys.now = max s.block.sys.now (rx / 10) ∧ b.net.ptp.slave = some p.val ∧ b.net.ptp.gmId = a.gm ∧ b.net.ptp.gmClass = a.clockClass ∧ b.net.ptp.utc = a.utc
        ∧ b.net.ptp.gm = false ∧ ∃ r ∈ b.net.ptp.ports[p.val]?, r = { q with st := .uncalibrated, ann := some a, annAt := b.sys.now })
  ∧ (∀ s (p : Fin 2) a rx q o, s.block.portRuns p = true → s.block.n0Up = true → s.block.net.ptp.ports[p.val]? = some q → s.block.net.ptp.ports[1 - p.val]? = some o →
      o.ann = none → s.block.net.ptp.set.slaveOnly = false → a.better s.block.ownClock = false →
      Happens (.ptpMessage p s.block.net.ptp.set.domain (s.block.net.ptp.set.profile == 1) (.announce a) rx) s [.sys, .net] fun b =>
        b.net.ptp.slave = none ∧ b.net.ptp.gmId = Config.clockIdentity ∧ ∃ r ∈ b.net.ptp.ports[p.val]?, r.st = .master ∧ r.ann = some a)
  ∧ (∀ s (p : Fin 2) a n org cor rx q, s.block.portRuns p = true → s.block.n0Up = true → s.block.net.ptp.ports[p.val]? = some q → q.ann = some a →
      Happens (.ptpMessage p s.block.net.ptp.set.domain (s.block.net.ptp.set.profile == 1) (.sync a.sender n true org cor) rx) s [.sys, .net] fun b =>
        b.net = { s.block.net with ptp := { s.block.net.ptp with
          ports := modAt s.block.net.ptp.ports p fun q => { q with sync := some (a.sender, n, rx + s.block.net.ptp.offset - cor) } } })
  ∧ (∀ s (p : Fin 2) a sender n two org cor rx q, s.block.portRuns p = true → s.block.n0Up = true → s.block.net.ptp.ports[p.val]? = some q → q.ann = some a → a.sender ≠ sender →
      Happens (.ptpMessage p s.block.net.ptp.set.domain (s.block.net.ptp.set.profile == 1) (.sync sender n two org cor) rx) s [.sys] fun _ => True)
  ∧ (∀ s (p : Fin 2) sender n t org cor rx q, s.block.portRuns p = true → s.block.n0Up = true → s.block.net.ptp.ports[p.val]? = some q → q.sync = some (sender, n, t) →
      s.block.net.ptp.slave ≠ some p.val →
      Happens (.ptpMessage p s.block.net.ptp.set.domain (s.block.net.ptp.set.profile == 1) (.followUp sender n org cor) rx) s [.sys, .net] fun b =>
        b.net = { s.block.net with ptp := { s.block.net.ptp with ports := modAt s.block.net.ptp.ports p fun q =>
          { q with t1 := org + cor, t2 := t, syncSeen := true, syncAt := b.sys.now, sync := none, offset := some (t - (org + cor) - q.mpd) } } })
  ∧ (∀ s (p : Fin 2) a n org cor (rx : Nat) q (off : Int), s.block.portRuns p = true → s.block.n0Up = true → s.block.net.ptp.ports[p.val]? = some q → q.ann = some a → q.st = .slave →
      s.block.net.ptp.slave = some p.val → off = (rx : Int) + s.block.net.ptp.offset - cor - org - q.mpd → off.natAbs ≤ s.block.net.ptp.set.lockThr →
      s.block.net.ptp.set.stepThr = 0 ∨ off.natAbs ≤ s.block.net.ptp.set.stepThr → s.block.net.ptp.inRun < 15 →
      Happens (.ptpMessage p s.block.net.ptp.set.domain (s.block.net.ptp.set.profile == 1) (.sync a.sender n false org cor) rx) s [.sys, .net] fun b =>
        b.net.ptp.lastOffset = some off ∧ b.net.ptp.inRun = s.block.net.ptp.inRun + 1 ∧ b.net.ptp.outRun = 0 ∧ b.net.ptp.offset = s.block.net.ptp.offset
        ∧ b.net.ptp.locked = s.block.net.ptp.locked ∧ b.net.ptp.steps = s.block.net.ptp.steps
        ∧ |b.net.ptp.fadj - s.block.net.ptp.fadj| ≤ 10000 * ((b.sys.now - s.block.net.ptp.fadjAt : Nat) : Int) / secT
        ∧ ∃ r ∈ b.net.ptp.ports[p.val]?, r.st = .slave ∧ r.t1 = org ∧ r.offset = some off)
  ∧ (∀ s (p : Fin 2) a n org cor (rx : Nat) q (off : Int), s.block.portRuns p = true → s.block.n0Up = true → s.block.net.ptp.ports[p.val]? = some q → q.ann = some a → q.st = .uncalibrated →
      s.block.net.ptp.slave = some p.val → off = (rx : Int) + s.block.net.ptp.offset - cor - org - q.mpd → s.block.net.ptp.first = true → s.block.net.ptp.set.stepThr ≠ 0 →
      s.block.net.ptp.set.stepThr < off.natAbs →
      Happens (.ptpMessage p s.block.net.ptp.set.domain (s.block.net.ptp.set.profile == 1) (.sync a.sender n false org cor) rx) s [.sys, .net] fun b =>
        b.net.ptp.offset = s.block.net.ptp.offset - off ∧ b.net.ptp.steps = (s.block.net.ptp.steps + 1) % 4294967296 ∧ b.net.ptp.valid = true
        ∧ b.net.ptp.locked = false ∧ b.net.ptp.first = false ∧ b.net.ptp.lastStep = clampI (-2147483648) 2147483647 (-off))
  ∧ (∀ s (p : Fin 2) sender n rx q, s.block.portRuns p = true → s.block.n0Up = true → s.block.net.ptp.ports[p.val]? = some q → q.st = .master → s.block.net.ptp.set.profile = 0 →
      Happens (.ptpMessage p s.block.net.ptp.set.domain false (.delayReq sender n) rx) s [.sys, .net] fun b =>
        b.net = { s.block.net with out := s.block.net.out ++ [.ptp p 9 n] })
  ∧ (∀ s (p : Fin 2) n recv cor rx q t3, s.block.portRuns p = true → s.block.n0Up = true → s.block.net.ptp.ports[p.val]? = some q → q.reqOut = some n → q.reqTx = some t3 →
      q.syncSeen = true → s.block.net.ptp.set.profile = 0 →
      Happens (.ptpMessage p s.block.net.ptp.set.domain false (.delayResp n recv cor) rx) s [.sys, .net] fun b =>
        b.net = { s.block.net with ptp := { s.block.net.ptp with ports := modAt s.block.net.ptp.ports p fun q =>
          { q with mpd := max 0 (((q.t2 - q.t1) + (recv - cor - t3)) / 2), reqOut := none, reqTx := none } } })
  ∧ (∀ s (p : Fin 2) sender n rx, s.block.portRuns p = true → s.block.n0Up = true → p.val < s.block.net.ptp.ports.length → s.block.net.ptp.set.profile = 1 →
      Happens (.ptpMessage p s.block.net.ptp.set.domain true (.pdelayReq sender n) rx) s [.sys, .net] fun b =>
        b.net = { s.block.net with out := s.block.net.out ++ [.ptp p 3 n, .ptp p 10 n] })
  ∧ (∀ s (p : Fin 2) n recv cor rx q t3, s.block.portRuns p = true → s.block.n0Up = true → s.block.net.ptp.ports[p.val]? = some q → q.reqOut = some n → q.reqTx = some t3 →
      s.block.net.ptp.set.profile = 1 → Happens (.ptpMessage p s.block.net.ptp.set.domain true (.pdelayResp n false recv cor) rx) s [.sys, .net] fun b =>
        b.net = { s.block.net with ptp := { s.block.net.ptp with ports := modAt s.block.net.ptp.ports p fun q =>
          { q with mpd := max 0 ((rx + s.block.net.ptp.offset - t3 - cor) / 2), reqOut := none, reqTx := none } } })
  ∧ (∀ s (p : Fin 2) n org cor rx q t3 t4 t2, s.block.portRuns p = true → s.block.n0Up = true → s.block.net.ptp.ports[p.val]? = some q → q.reqOut = some n → q.reqTx = some t3 →
      q.pResp = some (t4, t2) → s.block.net.ptp.set.profile = 1 →
      Happens (.ptpMessage p s.block.net.ptp.set.domain true (.pdelayRespFollowUp n org cor) rx) s [.sys, .net] fun b =>
        b.net = { s.block.net with ptp := { s.block.net.ptp with ports := modAt s.block.net.ptp.ports p fun q =>
          { q with mpd := max 0 (((t4 - t3) - (org + cor - t2)) / 2), reqOut := none, reqTx := none, pResp := none } } })
  ∧ (∀ s (p : Fin 2) t q, s.block.portRuns p = true → s.block.n0Up = true → s.block.net.ptp.ports[p.val]? = some q → q.st = .slave ∨ q.st = .uncalibrated ∨ q.st = .passive →
      s.block.net.ptp.set.profile = 0 → Happens (.ptpTxTimer p 0 t) s [.sys, .net] fun b =>
        b.sys.now = max s.block.sys.now t ∧ b.net.out = s.block.net.out ++ [.ptp p 1 ((q.reqSeq + 1) % 65536)]
        ∧ b.net.ptp = { s.block.net.ptp with ports := modAt s.block.net.ptp.ports p fun q =>
          { q with reqSeq := (q.reqSeq + 1) % 65536, reqOut := some ((q.reqSeq + 1) % 65536), reqTx := none, pResp := none } })
  ∧ (∀ s (p : Fin 2) t q, s.block.portRuns p = true → s.block.n0Up = true → s.block.net.ptp.ports[p.val]? = some q → q.st = .master →
      Happens (.ptpTxTimer p 1 t) s [.sys, .net] fun b => b.net.out = s.block.net.out ++ [.ptp p 11 q.seqAnn]
        ∧ b.net.ptp = { s.block.net.ptp with ports := modAt s.block.net.ptp.ports p fun q => { q with seqAnn := (q.seqAnn + 1) % 65536 } })
  ∧ (∀ s (p : Fin 2) t q, s.block.portRuns p = true → s.block.n0Up = true → s.block.net.ptp.ports[p.val]? = some q → q.st = .master →
      Happens (.ptpTxTimer p 2 t) s [.sys, .net] fun b => b.net.out = s.block.net.out ++ [.ptp p 0 q.seqSync]
        ∧ b.net.ptp = { s.block.net.ptp with ports := modAt s.block.net.ptp.ports p fun q => { q with seqSync := (q.seqSync + 1) % 65536, syncOut := some q.seqSync } })
  ∧ (∀ s p q, s.block.net.ptp.slave = some p → s.block.net.ptp.ports[p]? = some q → Happens (.ptpSyncTimeout false) s [.sys, .net] fun b =>
      b.sys.now = max s.block.sys.now (q.syncAt + 3 * s.block.net.ptp.set.syncTicks) ∧ b.net.ptp.hold = true
      ∧ b.net.ptp.holdAt = (if s.block.net.ptp.hold then s.block.net.ptp.holdAt else b.sys.now) ∧ b.net.ptp.offset = s.block.net.ptp.offset
      ∧ ∃ r ∈ b.net.ptp.ports[p]?, r = { q with st := .uncalibrated, sync := none })
  ∧ (∀ s p q o, s.block.net.ptp.slave = some p → p < 2 → s.block.net.ptp.ports[p]? = some q → s.block.net.ptp.ports[1 - p]? = some o → o.ann = none →
      s.block.net.ptp.set.slaveOnly = true → Happens (.ptpSyncTimeout true) s [.sys, .net] fun b =>
        b.sys.now = max s.block.sys.now (q.annAt + 3 * s.block.net.ptp.set.annTicks) ∧ b.net.ptp.hold = true ∧ b.net.ptp.slave = none
        ∧ ∃ r ∈ b.net.ptp.ports[p]?, r.ann = none ∧ r.st = if s.block.portRuns p then .listening else .disabled)
  ∧ (∀ s, s.block.net.ptp.hold = true → s.block.net.ptp.locked = true → Happens .ptpHoldUnlock s [.sys, .net] fun b =>
      b.sys.now = max s.block.sys.now (s.block.net.ptp.holdAt + 5 * secT)
      ∧ b.net = { s.block.net with ptp := { s.block.net.ptp with locked := false, inRun := 0, outRun := 0 } })
  ∧ (∀ s (c : Fin 2) id ns g, s.block.net.ptp.queues[c.val]? = some g → g.entries.length < 8 → Happens (.txTimestamp c id 0 ns) s [.sys, .net] fun b =>
      b.sys.now = max s.block.sys.now (ns / 10)
      ∧ b.net = { s.block.net with ptp := { s.block.net.ptp with queues := modAt s.block.net.ptp.queues c fun g => { g with
          entries := g.entries ++ [{ id := id, port := c, ovfb := g.gap, sec := s.block.stampOf ns |>.1, ns := s.block.stampOf ns |>.2 }], gap := false } } })
  ∧ (∀ s (c : Fin 2) id ns g, s.block.net.ptp.queues[c.val]? = some g → 8 ≤ g.entries.length → Happens (.txTimestamp c id 0 ns) s [.sys, .net] fun b =>
      b.net = { s.block.net with ptp := { s.block.net.ptp with
        queues := modAt s.block.net.ptp.queues c fun g => { g with ovf := true, gap := true, lost := satAdd 65535 g.lost 1 } } })
  ∧ (∀ s (c : Fin 2) id ns g, s.block.net.ptp.queues[c.val]? = some g → g.entries.length < 8 → Happens (.txTimestamp c id 1 ns) s [.sys, .net] fun b =>
      b.net.ptp.ports = modAt s.block.net.ptp.ports c fun q => { q with reqTx := some (ns + s.block.net.ptp.offset) })
  ∧ (∀ s (c : Fin 2) id ns g q n, s.block.net.ptp.queues[c.val]? = some g → g.entries.length < 8 → s.block.net.ptp.ports[c.val]? = some q → q.syncOut = some n →
      Happens (.txTimestamp c id 2 ns) s [.sys, .net] fun b => b.net.out = s.block.net.out ++ [.ptp c 8 n])
  ∧ (∀ s (c : Fin 2) id (e : Fin 2) ns, (s.block.pe e).up = false → Happens (.txTimestamp c id ⟨3 + e.val, by omega⟩ ns) s [.sys, .net] fun b =>
      b.net = { s.block.net with ptp := { s.block.net.ptp with queues := modAt s.block.net.ptp.queues c fun g => { g with lost := satAdd 65535 g.lost 1 } } })
  ∧ (∀ s (c : Fin 2) id (e : Fin 2) ns g, (s.block.pe e).up = true → s.block.net.ptp.queues[c.val]? = some g → g.entries.length < 8 →
      Happens (.txTimestamp c id ⟨3 + e.val, by omega⟩ ns) s [.sys, .net, .engines] fun b => ∃ h ∈ b.net.ptp.queues[c.val]?, h.entries.length = g.entries.length + 1)
  ∧ (∀ s (c : Fin 2), Happens (.txtsRead c) s [.net] fun b =>
      b.net = { s.block.net with ptp := { s.block.net.ptp with
        queues := modAt s.block.net.ptp.queues c fun g => { g with entries := g.entries.tail, ovf := g.ovf && !(g.entries.tail == []) } } })

/-- R391 to R401, R404 to R406: transmit buffers, attempts and errors of the CAN FD controllers, reception and its queue, the partners, and the commands of the networks.
Part of it rests on the model's own choice (log entries 39 and 40). -/
def Obligations.CanControllersPartnersAndNetworkCommands : Prop :=
  (∀ s (k : Fin 2), Happens (.canSend k 2) s [] fun _ => True)
  ∧ (∀ s (k : Fin 2) (n : Fin 2) t, (s.block.can k).tbs[n.val]? = some t → k.val < s.block.net.cans.length → t.st ≠ 1 → (s.block.can k).on = true →
      (s.block.can k).set.mon = false → (s.block.can k).hbOnly = false → bitOf 30 t.frame.idw = false ∨ (s.block.can k).set.fd = true →
      Happens (.canSend k ⟨n.val, by omega⟩) s [.net] fun b =>
        b.can k = { s.block.can k with tbs := b.can k |>.tbs, txNow := b.can k |>.txNow } ∧ (∀ j : Fin 2, j ≠ k → b.can j = s.block.can j)
        ∧ ((b.can k).tbs[n.val]? = some { t with st := 1, abortReq := false }) ∧ (∀ m < 3, m ≠ n.val → (b.can k).tbs[m]? = (s.block.can k).tbs[m]?)
        ∧ ((s.block.can k).txNow = none → (s.block.can k).est ≠ 2 → (b.can k).txNow = ((s.block.can k).setBuf n 1).winner)
        ∧ ((s.block.can k).txNow.isSome = true ∨ (s.block.can k).est = 2 → (b.can k).txNow = (s.block.can k).txNow))
  ∧ (∀ s (k : Fin 2) (n : Fin 2) t, (s.block.can k).tbs[n.val]? = some t → k.val < s.block.net.cans.length → t.st ≠ 1 →
      (s.block.can k).on = false ∨ (s.block.can k).set.mon = true ∨ (s.block.can k).hbOnly = true ∨ (bitOf 30 t.frame.idw = true ∧ (s.block.can k).set.fd = false) →
      Happens (.canSend k ⟨n.val, by omega⟩) s [.net] fun b =>
        b.net = { s.block.net with cans := modAt s.block.net.cans k fun c => { c with tbs := modAt c.tbs n fun t => { t with st := 3, abortReq := false } } })
  ∧ (∀ s (k : Fin 2) (n : Fin 2) t, (s.block.can k).tbs[n.val]? = some t → t.st = 1 → (s.block.can k).txNow ≠ some n.val → k.val < s.block.net.cans.length →
      Happens (.canAbort k ⟨n.val, by omega⟩) s [.net] fun b =>
        b.net = { s.block.net with cans := modAt s.block.net.cans k fun c => { c with tbs := modAt c.tbs n fun t => { t with st := 3, abortReq := false } } })
  ∧ (∀ s (k : Fin 2) (n : Fin 2) t, (s.block.can k).tbs[n.val]? = some t → t.st = 1 → (s.block.can k).txNow = some n.val → k.val < s.block.net.cans.length →
      Happens (.canAbort k ⟨n.val, by omega⟩) s [.net] fun b =>
        b.net = { s.block.net with cans := modAt s.block.net.cans k fun c => { c with tbs := modAt c.tbs n fun t => { t with abortReq := true } } })
  ∧ (∀ s (k : Fin 2) t n x, (s.block.can k).txNow = some n → (s.block.can k).tbs[n]? = some x → (s.block.can k).disabling = none → k.val < s.block.net.cans.length →
      (s.block.can k).hbOnly = false → (s.block.can k).tec ≤ 127 → (s.block.can k).rec_ ≤ 127 → Happens (.canTxAttemptEnd k .ok t) s [.sys, .net] fun b =>
        b.sys.now = max s.block.sys.now t ∧ b.can k = { s.block.can k with
          tbs := modAt (s.block.can k).tbs n fun t => { t with st := 2, abortReq := false }, tec := (s.block.can k).tec - 1, ackRun := 0
          txOk := ((s.block.can k).txOk + 1) % 4294967296, est := 0, txNow := b.can k |>.txNow })
  ∧ (∀ s (k : Fin 2) t n x, (s.block.can k).txNow = some n → (s.block.can k).tbs[n]? = some x → (s.block.can k).disabling = none → k.val < s.block.net.cans.length →
      (s.block.can k).hbOnly = true → (s.block.can k).tec ≤ 127 → (s.block.can k).rec_ ≤ 127 → Happens (.canTxAttemptEnd k .ok t) s [.sys, .net] fun b =>
        (b.can k).hbOnly = false ∧ (b.can k).alone = false ∧ (b.can k).ackRun = 0 ∧ (b.can k).annDue = some (b.sys.now + 100 * msT))
  ∧ (∀ s (k : Fin 2) t n x, (s.block.can k).txNow = some n → (s.block.can k).tbs[n]? = some x → x.abortReq = false → (s.block.can k).disabling = none →
      k.val < s.block.net.cans.length → (s.block.can k).hbOnly = false → (s.block.can k).est = 0 → (s.block.can k).tec ≤ 119 → (s.block.can k).rec_ ≤ 127 →
      Happens (.canTxAttemptEnd k .noAck t) s [.sys, .net] fun b =>
        (b.can k).lec = 3 ∧ (b.can k).tec = (s.block.can k).tec + 8 ∧ (b.can k).ackRun = satAdd 65535 (s.block.can k).ackRun 1 ∧ (b.can k).tbs = (s.block.can k).tbs)
  ∧ (∀ s (k : Fin 2) t lec ack n x, (s.block.can k).txNow = some n → (s.block.can k).tbs[n]? = some x → (s.block.can k).disabling = none → k.val < s.block.net.cans.length →
      (s.block.can k).est ≠ 2 → 248 ≤ (s.block.can k).tec → Happens (.canTxAttemptEnd k (.err lec ack) t) s [.sys, .net] fun b =>
        (b.can k).est = 2 ∧ (b.can k).lec = lec.val ∧ (b.can k).busOffAt = some b.sys.now ∧ (b.can k).busOffs = satAdd 65535 (s.block.can k).busOffs 1 ∧ (b.can k).txNow = none)
  ∧ (∀ s (k : Fin 2) t n x src, (s.block.can k).txNow = some n → (s.block.can k).tbs[n]? = some x → (s.block.can k).disabling = some src → k.val < s.block.net.cans.length →
      (s.block.can k).hbOnly = false → s.block.holdsRequest src = true → Happens (.canTxAttemptEnd k .ok t) s ([.sys, .net] ++ servedBy src) fun b =>
        b.answered src .ok [] ∧ (b.can k).on = false ∧ (b.can k).disabling = none ∧ ∀ y ∈ (b.can k).tbs, y.st ≠ 1)
  ∧ (∀ s (k : Fin 2), k.val < s.block.net.cans.length → 64 ≤ (s.block.can k).ackRun → (s.block.can k).alone = false → Happens (.canAlone k) s [.net] fun b =>
      (b.can k).alone = true ∧ (b.can k).hbOnly = true ∧ (b.can k).alones = satAdd 65535 (s.block.can k).alones 1 ∧ ∀ y ∈ (b.can k).tbs, y.st ≠ 1)
  ∧ (∀ s (k : Fin 2) t, (s.block.can k).busOffAt = some t → Happens (.canBusoffRecovery k) s [.sys, .net] fun b =>
      b.sys.now = max s.block.sys.now (t + 100 * msT) ∧ b.net = { s.block.net with cans := modAt s.block.net.cans k fun c => { c with busOffAt := none } })
  ∧ (∀ s (k : Fin 2), (s.block.can k).est = 2 → (s.block.can k).busOffAt = none → k.val < s.block.net.cans.length → Happens (.canBusoffRecovered k) s [.net] fun b =>
      b.can k = { s.block.can k with est := 0, tec := 0, rec_ := 0, txNow := b.can k |>.txNow } ∧ ∀ j : Fin 2, j ≠ k → b.can j = s.block.can j)
  ∧ (∀ s (k : Fin 2) x, (s.block.can k).on = true → (s.block.can k).hbOnly = false → s.block.n0Up = true → k.val < s.block.net.cans.length →
      (s.block.can k).tbs[2]? = some x → x.st ≠ 1 → (s.block.can k).set.mon = false → Happens (.partnerHeartbeat k) s [.sys, .net] fun b =>
        b.sys.now = max s.block.sys.now ((s.block.can k).hbAt + (s.block.can k).set.hbPeriod * msT) ∧ (b.can k).hbAt = b.sys.now
        ∧ (b.can k).hbSeq = ((s.block.can k).hbSeq + 1) % 256
        ∧ ∃ y ∈ (b.can k).tbs[2]?, y.st = 1 ∧ y.frame.idw = 2 ^ 31 + ((s.block.can k).set.base + 256 + (s.block.can k).set.node) % 2 ^ 29
          ∧ y.frame.data.take 4 = leBytes 1 s.block.sys.mstate.code ++ leBytes 1 (s.block.can k).hbSeq ++ leBytes 2 0)
  ∧ (∀ s (k : Fin 2) x, (s.block.can k).on = true → (s.block.can k).hbOnly = true → s.block.n0Up = true → k.val < s.block.net.cans.length →
      (s.block.can k).tbs[2]? = some x → x.st ≠ 1 → (s.block.can k).set.mon = false → Happens (.hbonlyHeartbeat k) s [.sys, .net] fun b =>
        b.sys.now = max s.block.sys.now ((s.block.can k).hbAt + secT) ∧ (b.can k).hbSeq = ((s.block.can k).hbSeq + 1) % 256 ∧ ∃ y ∈ (b.can k).tbs[2]?, y.st = 1)
  ∧ (∀ s (k : Fin 2) x t, (s.block.can k).on = true → (s.block.can k).hbOnly = false → s.block.n0Up = true → k.val < s.block.net.cans.length →
      (s.block.can k).tbs[2]? = some x → x.st ≠ 1 → (s.block.can k).set.mon = false → (s.block.can k).annDue = some t → Happens (.partnerAnnounce k) s [.sys, .net] fun b =>
        b.sys.now = max s.block.sys.now (min t ((s.block.can k).annAt + 10 * secT)) ∧ (b.can k).annAt = b.sys.now ∧ (b.can k).annDue = none
        ∧ ∃ y ∈ (b.can k).tbs[2]?, y.st = 1 ∧ y.frame.idw = 2 ^ 31 + ((s.block.can k).set.base + (s.block.can k).set.node) % 2 ^ 29
          ∧ y.frame.data.take 8 = leBytes 1 1 ++ leBytes 1 ((s.block.can k).set.hbPeriod / 100) ++ leBytes 2 s.block.model ++ leBytes 4 s.block.serial32)
  ∧ (∀ s (k : Fin 2) f t, (s.block.can k).on = false ∨ (s.block.can k).est = 2 → Happens (.canFrameRx k f t) s [.sys] fun b => b.sys.now = max s.block.sys.now t)
  ∧ (∀ s (k : Fin 2) f t i, (s.block.can k).on = true → (s.block.can k).est ≠ 2 → k.val < s.block.net.cans.length → (s.block.can k).partnerFrame f = false →
      (s.block.can k).filter f = (1, i) → (s.block.can k).set.rqOwn ≠ 0 →
      ((s.block.can k).rqPut + 1024 - (s.block.can k).rqGet) % 1024 ≠ (s.block.can k).set.rqLen → Happens (.canFrameRx k f t) s [.sys, .net] fun b =>
        (b.can k).rxOk = ((s.block.can k).rxOk + 1) % 4294967296 ∧ (b.can k).rqPut = ((s.block.can k).rqPut + 1) % 1024
        ∧ ∃ e ∈ lookupKey (b.can k).rq1 ((s.block.can k).rqPut % (s.block.can k).set.rqLen), e.ts = t ∧ e.frame.idw = f.idw ∧ e.frame.data = f.data)
  ∧ (∀ s (k : Fin 2) f t i, (s.block.can k).on = true → (s.block.can k).est ≠ 2 → k.val < s.block.net.cans.length → (s.block.can k).partnerFrame f = false →
      (s.block.can k).filter f = (1, i) → (s.block.can k).set.rqOwn ≠ 0 →
      ((s.block.can k).rqPut + 1024 - (s.block.can k).rqGet) % 1024 = (s.block.can k).set.rqLen → Happens (.canFrameRx k f t) s [.sys, .net] fun b =>
        (b.can k).rq1 = (s.block.can k).rq1 ∧ (b.can k).rqPut = (s.block.can k).rqPut ∧ (b.can k).rqFull = true
        ∧ (b.can k).rxLost = satAdd 4294967295 (s.block.can k).rxLost 1)
  ∧ (∀ s (k : Fin 2) f t i, (s.block.can k).on = true → (s.block.can k).est ≠ 2 → k.val < s.block.net.cans.length → (s.block.can k).partnerFrame f = false →
      (s.block.can k).filter f = (0, i) → Happens (.canFrameRx k f t) s [.sys, .net] fun b => b.net = { s.block.net with
        cans := modAt s.block.net.cans k fun c => { c with rxOk := (c.rxOk + 1) % 4294967296, rec_ := c.rec_ - 1 } })
  ∧ (∀ s (k : Fin 2) f t, (s.block.can k).on = true → (s.block.can k).est ≠ 2 → k.val < s.block.net.cans.length → (s.block.can k).partnerFrame f = true → s.block.n0Up = false →
      (s.block.can k).rq0.length < 64 → Happens (.canFrameRx k f t) s [.sys, .net] fun b =>
        (b.can k).rq0 = (s.block.can k).rq0 ++ [f] ∧ b.net.partners = s.block.net.partners)
  ∧ (∀ s (k : Fin 2) f t node i, (s.block.can k).on = true → (s.block.can k).est ≠ 2 → k.val < s.block.net.cans.length → (s.block.can k).partnerFrame f = true →
      s.block.n0Up = true → f.idw % 2 ^ 29 - (s.block.can k).set.base = 256 + node → node < 256 → (∀ p ∈ s.block.net.partners, p.st = 0 ∨ p.node ≠ node) →
      s.block.freePartner = some i → Happens (.canFrameRx k f t) s [.sys, .net] fun b => b.net.partners = modAt s.block.net.partners i fun _ =>
        { Partner.empty with st := 1, node := node, hbAt := b.sys.now, seenA := k.val == 0, seenB := k.val == 1 })
  ∧ (∀ s (k : Fin 2) f t node i, (s.block.can k).on = true → (s.block.can k).est ≠ 2 → k.val < s.block.net.cans.length → (s.block.can k).partnerFrame f = true →
      s.block.n0Up = true → f.idw % 2 ^ 29 - (s.block.can k).set.base = node → node < 256 → (∀ p ∈ s.block.net.partners, p.st = 0 ∨ p.node ≠ node) →
      s.block.freePartner = some i → Happens (.canFrameRx k f t) s [.sys, .net] fun b =>
        b.net.partners = (modAt s.block.net.partners i fun _ => { Partner.empty with
          st := 2, node := node, kind := leField f.data 0 1 % 8, model := leField f.data 2 2, serial := leField f.data 4 4, hbPer := 100 * leField f.data 1 1
          hbAt := b.sys.now, seenA := k.val == 0, seenB := k.val == 1 })
        ∧ (b.can k).annDue = some (min (b.sys.now + 100 * msT) ((s.block.can k).annDue.getD (b.sys.now + 100 * msT))))
  ∧ (∀ s (k : Fin 2) f t node, (s.block.can k).on = true → (s.block.can k).est ≠ 2 → k.val < s.block.net.cans.length → (s.block.can k).partnerFrame f = true →
      s.block.n0Up = true → f.idw % 2 ^ 29 - (s.block.can k).set.base = 512 + node → node < 256 → s.block.sys.mstate = .hibernate → s.block.hinge = false →
      (s.block.can k).set.wakeEn = true → leField f.data 0 1 = 0xFF → leField f.data 1 1 = 1 → Happens (.canFrameRx k f t) s (.net :: controlled) fun b =>
        b.sys.mstate = .park ∧ b.net.partners = s.block.net.partners)
  ∧ (∀ s (k : Fin 2) v, (v % 1024 + 1024 - (s.block.can k).rqGet) % 1024 ≤ ((s.block.can k).rqPut + 1024 - (s.block.can k).rqGet) % 1024 →
      Happens (.canRqgetWrite k v) s [.net] fun b => b.net = { s.block.net with cans := modAt s.block.net.cans k fun c => { c with rqGet := v % 1024, rqFull := false } })
  ∧ (∀ s (k : Fin 2) v, ((s.block.can k).rqPut + 1024 - (s.block.can k).rqGet) % 1024 < (v % 1024 + 1024 - (s.block.can k).rqGet) % 1024 →
      Happens (.canRqgetWrite k v) s [] fun _ => True)
  ∧ (∀ s (i : Fin 40) p, s.block.net.partners[i.val]? = some p → p.st = 1 ∨ p.st = 2 → Happens (.partnerLost i) s [.sys, .net] fun b =>
      b.sys.now = max s.block.sys.now (p.hbAt + 3 * s.block.partnerPeriod p + 100 * msT)
      ∧ b.net = { s.block.net with partners := modAt s.block.net.partners i fun p => { p with st := 3, lostAt := b.sys.now } })
  ∧ (∀ s (i : Fin 40) p, s.block.net.partners[i.val]? = some p → p.st = 3 → Happens (.partnerEntryFree i) s [.sys, .net] fun b =>
      b.sys.now = max s.block.sys.now (p.lostAt + 60 * secT) ∧ b.net = { s.block.net with partners := modAt s.block.net.partners i fun _ => .empty })
  ∧ (∀ s src x, hostOk x.addr x.mask = true → x.gw < 2 ^ 32 → x.vlan ≤ 4094 → x.pcp ≤ 7 → x.mode ≤ 1 → x.mode ≠ 0 ∨ s.block.net.ptp.set.role ≠ 1 →
      Serves (.netSetIp src x) s src 0x0A01 true [.net, .upd] .ok [] fun b =>
        b.net = { s.block.net with ipNext := some (x, s.block.sys.now + 100 * msT) } ∧ s.block.storesSettings b)
  ∧ (∀ s src x, x.profile ≤ 1 → x.role ≤ 1 → x.domain ≤ 127 → x.prio1 ≤ 255 → x.prio2 ≤ 255 → -3 ≤ x.logSync → x.logSync ≤ 1 → 100 ≤ x.lockThr → x.lockThr ≤ 100000 →
      x.stepThr = 0 ∨ (1000 ≤ x.stepThr ∧ x.stepThr ≤ 1000000000) → x.role ≠ 1 ∨ s.block.net.ip.mode ≠ 0 →
      Serves (.netSetPtp src x) s src 0x0A02 true [.net, .upd] .ok [] fun b =>
        b.net.ptp.set = x ∧ b.net.ptp.slave = none ∧ b.net.ptp.locked = false ∧ b.net.ptp.offset = s.block.net.ptp.offset ∧ s.block.storesSettings b
        ∧ b.net.ptp.ports = (List.range 2).map fun p => PtpPort.fresh (if b.portRuns p then .listening else .disabled))
  ∧ (∀ s src sec ns utc, (∀ q ∈ s.block.net.ptp.ports, q.st ≠ .slave ∧ q.st ≠ .uncalibrated) → sec < 2 ^ 48 → ns < 1000000000 → -32768 ≤ utc → utc ≤ 32767 →
      Serves (.netSetTime src sec ns utc) s src 0x0A03 true [.net] .ok [] fun b =>
        b.ptpNs = (sec : Int) * 1000000000 + ns ∧ b.net.ptp.utc = utc ∧ b.net.ptp.valid = true ∧ b.net.ptp.steps = (s.block.net.ptp.steps + 1) % 4294967296
        ∧ b.net.ptp.locked = false)
  ∧ (∀ s src (k : Fin 2) x, x.ok = true → x.en = true → (s.block.can k).set.en = false → k.val < s.block.net.cans.length →
      Serves (.canSetConfig src k x) s src 0x0A04 true [.net, .upd] .ok [] fun b =>
        (b.can k).set = x ∧ (b.can k).on = true ∧ (b.can k).est = 0 ∧ (b.can k).rqPut = 0 ∧ (b.can k).rqGet = 0 ∧ (b.can k).annDue = some s.block.sys.now
        ∧ (∀ j : Fin 2, j ≠ k → b.can j = s.block.can j) ∧ s.block.storesSettings b)
  ∧ (∀ s src (k : Fin 2) x, x.ok = true → x.en = false → (s.block.can k).set.en = false → k.val < s.block.net.cans.length →
      Serves (.canSetConfig src k x) s src 0x0A04 true [.net, .upd] .ok [] fun b =>
        b.can k = { s.block.can k with set := x } ∧ s.block.storesSettings b)
  ∧ (∀ s src (k : Fin 2) x n, x.ok = true → x.en = false → (s.block.can k).set = { x with en := true } → k.val < s.block.net.cans.length → (s.block.can k).txNow = some n →
      Begins (.canSetConfig src k x) s src 0x0A04 true [.net, .upd] fun b => (b.can k).set = x ∧ (b.can k).disabling = some src ∧ (b.can k).on = (s.block.can k).on)
  ∧ (∀ s src (k : Fin 2) x, x.ok = true → x.en = false → (s.block.can k).set = { x with en := true } → k.val < s.block.net.cans.length → (s.block.can k).txNow = none →
      Serves (.canSetConfig src k x) s src 0x0A04 true [.net, .upd] .ok [] fun b => (b.can k).set = x ∧ (b.can k).on = false ∧ ∀ y ∈ (b.can k).tbs, y.st ≠ 1)
  ∧ (∀ s src (k : Fin 2) first len (els : List (Nat × Nat)), 1 ≤ els.length → els.length ≤ 64 → first + els.length ≤ 256 → len ≤ 256 → k.val < s.block.net.cans.length →
      (∀ e ∈ els, e.1 < 2 ^ 32 ∧ e.2 < 2 ^ 32 ∧ (bitsOf 31 29 e.2 = 0 ∨ bitsOf 31 29 e.2 = 2)) →
      Serves (.canFilterWrite src k first len els) s src 0x0A05 true [.net, .upd] .ok [] fun b =>
        b.can k = { s.block.can k with fltLen := len, filters := b.can k |>.filters } ∧ s.block.storesSettings b ∧ (b.can k).filters.length = (s.block.can k).filters.length
        ∧ ∀ i < 256, ∀ e ∈ (b.can k).filters[i]?, if first ≤ i ∧ i < first + els.length then els[i - first]? = some e else (s.block.can k).filters[i]? = some e)
  ∧ (∀ s src first n, 1 ≤ n → first + n ≤ 40 → Serves (.netGetPartners src first n) s src 0x0A06 false [] .ok
      (wordsBytes (((s.block.net.partners.drop first).take n).flatMap s.block.partnerWords)) fun b => b.net = s.block.net)
  ∧ (∀ s src, Serves (.netGetConfig src) s src 0x0A07 false [] (s.block.tilesStatus [0x50, 0x51, 0x52, 0x53])
      (wordsBytes ((s.block.frontTile 0x50).take 5 ++ (s.block.frontTile 0x51).take 1 ++ ((s.block.frontTile 0x51).drop 8).take 3 ++ (s.block.frontTile 0x52).take 6
        ++ (s.block.frontTile 0x53).take 6)) fun b => b.net = s.block.net)

/-! ### Policy engines (13_policy_engines.md, 00_scope.md) -/

/-- R408 to R412, R414, R416, R417, R436: starts, watchdog, restarts and holding, sleep and its ends, the latched reads of the local block, the region registers.
Part of it rests on the model's own choice (log entry 47). -/
def Obligations.PolicyEnginesStartSleepAndRestart : Prop :=
  (∀ s (p : Fin 2), (s.block.pe p).up = false → (s.block.pe p).held = false → s.block.sys.mstate ≠ .off → s.block.sys.mstate ≠ .boot → p.val < s.block.pol.engines.length →
      (s.block.imageOff s.block.sec.slot (7 + p.val)).isSome = true → s.block.policyFault p = none → Happens (.policyEngineStart p) s [.sys, .engines, .chans] fun b =>
        (b.pe p).up = true ∧ (b.pe p).loaded = true ∧ (b.pe p).pc = w32 (leField (s.block.descriptor s.block.sec.slot (7 + p.val)) 4 4)
        ∧ (b.pe p).regs = PolEngine.reset.regs ∧ (b.pe p).csr = PolEngine.reset.csr ∧ (b.pe p).starts = (s.block.pe p).starts + 1 ∧ (b.pe p).wdAt = s.block.sys.now
        ∧ (b.pe p).regions = regionsOf (s.block.descriptor s.block.sec.slot (7 + p.val)) ∧ (b.pe p).grant = leField (s.block.descriptor s.block.sec.slot (7 + p.val)) 8 2
        ∧ (b.pe p).wdper = leField (s.block.descriptor s.block.sec.slot (7 + p.val)) 12 2 ∧ b.sys = { s.block.sys with engSvc := s.block.sys.engSvc.set (13 + p.val) true }
        ∧ (b.pe (1 - p.val)).ram = (s.block.pe (1 - p.val)).ram
        ∧ ∀ c < 16, c < s.block.pol.chans.length → (leField (s.block.descriptor s.block.sec.slot (7 + p.val)) 10 2).testBit c = true →
            b.ch c = { DmaChan.reset with owner := some p.val })
  ∧ (∀ s (p : Fin 2) f, (s.block.pe p).up = false → (s.block.pe p).held = false → s.block.sys.mstate ≠ .off → s.block.sys.mstate ≠ .boot →
      (s.block.imageOff s.block.sec.slot (7 + p.val)).isSome = true → s.block.policyFault p = some f → Happens (.policyEngineStart p) s [.engines] fun b =>
        b.pol.engines = modAt s.block.pol.engines p fun e => { e with loaded := false, restartDue := none })
  ∧ (∀ s (p : Fin 2), (s.block.pe p).up = true ∨ (s.block.pe p).held = true ∨ s.block.sys.mstate = .boot → Happens (.policyEngineStart p) s [] fun _ => True)
  ∧ (∀ s (p : Fin 2), s.block.peRuns p = true → p.val < s.block.pol.engines.length →
      ((s.block.pe p).recent (max s.block.sys.now ((s.block.pe p).wdAt + (s.block.pe p).wdper * msT))).length < 2 →
      Happens (.polWatchdogExpiry p) s [.sys, .engines, .chans] fun b =>
        b.sys.now = max s.block.sys.now ((s.block.pe p).wdAt + (s.block.pe p).wdper * msT) ∧ b.sys.engSvc = s.block.sys.engSvc.set (13 + p.val) false ∧ b.engineDown p
        ∧ (b.pe p).restartDue = some 0 ∧ (b.pe p).held = (s.block.pe p).held ∧ (b.pe p).restarts.head? = some b.sys.now)
  ∧ (∀ s (p : Fin 2), s.block.peRuns p = true → p.val < s.block.pol.engines.length →
      2 ≤ ((s.block.pe p).recent (max s.block.sys.now ((s.block.pe p).wdAt + (s.block.pe p).wdper * msT))).length →
      Happens (.polWatchdogExpiry p) s [.sys, .engines, .chans] fun b => b.engineDown p ∧ (b.pe p).held = true ∧ (b.pe p).restartDue = none)
  ∧ (∀ s (p : Fin 2), s.block.peRuns p = true → (s.block.pe p).asleep = false → s.block.guardQueues p = [] → s.block.meip p = true ∨ s.block.mtip p = true →
      Happens (.wfi p) s [.engines] fun b => b.pol.engines = modAt s.block.pol.engines p fun e => { e with pc := e.pc + 4 })
  ∧ (∀ s (p : Fin 2), s.block.peRuns p = true → (s.block.pe p).asleep = false → s.block.guardQueues p = [] → s.block.meip p = false → s.block.mtip p = false →
      Happens (.wfi p) s [.engines] fun b => b.pol.engines = modAt s.block.pol.engines p fun e => { e with pc := e.pc + 4, asleep := true })
  ∧ (∀ s (p : Fin 2), s.block.peRuns p = true → (s.block.pe p).asleep = false → s.block.guardQueues p ≠ [] → p.val < s.block.pol.engines.length →
      Happens (.wfi p) s [.engines, .chans] fun b =>
        (b.pe p).pc = (s.block.pe p).pc + 4 ∧ (b.pe p).sleepRef = (s.block.pe p).sleepRef + 1 ∧ (b.pe p).asleep = false
        ∧ ∀ l ∈ s.block.guardQueues p, (b.cq l).mpend = 0 ∧ (b.cq l).oldest = none)
  ∧ (∀ s (p : Fin 2), s.block.peLive p = true → Happens (.mtimerInterrupt p) s [.sys, .engines] fun b =>
      b.sys.now = max s.block.sys.now (s.block.pe p).mtimecmp ∧ b.pol.engines = modAt s.block.pol.engines p fun e => { e with asleep := false })
  ∧ (∀ s (p : Fin 2), s.block.meip p = true → Happens (.interruptWake p) s [.engines] fun b => b.pol.engines = modAt s.block.pol.engines p fun e => { e with asleep := false })
  ∧ (∀ s (p : Fin 2), s.block.meip p = false → Happens (.interruptWake p) s [] fun _ => True)
  ∧ (∀ s (p : Fin 2), Happens (.wdogWrite p) s [.engines] fun b => b.pol.engines = modAt s.block.pol.engines p fun e => { e with wdAt := s.block.sys.now })
  ∧ (∀ s (p : Fin 2), Happens (.mtimeLoRead p) s [.engines] fun b =>
      b.pol.engines = modAt s.block.pol.engines p fun e => { e with mtimeHi := s.block.sys.now / 4294967296 % 4294967296 })
  ∧ (∀ s (p : Fin 2), Happens (.ptpSLoRead p) s [.engines] fun b => b.pol.engines = modAt s.block.pol.engines p fun e =>
      { e with ptpHi := b2n s.block.net.ptp.valid * 65536 + s.block.ptpTime.1 / 4294967296 % 65536, ptpNs := s.block.ptpTime.2 })
  ∧ (∀ s (p : Fin 2) (i : Fin 64) (v : Word), Happens (.regionWrite p i true v) s [.engines] fun b => b.pol.engines = modAt s.block.pol.engines p fun e => { e with
      regions := modAt e.regions i fun r => if r.lock then r else { r with pbase := v.toNat / 4096 * 4096, x := v.getLsbD 2, w := v.getLsbD 1, r := v.getLsbD 0 } })
  ∧ (∀ s (p : Fin 2) (i : Fin 64) (v : Word), Happens (.regionWrite p i false v) s [.engines] fun b => b.pol.engines = modAt s.block.pol.engines p fun e => { e with
      regions := modAt e.regions i fun r => if r.lock then r else { r with vbase := v.toNat / 4096 * 4096, size := v.toNat / 4 % 32, en := v.getLsbD 0 } })
  ∧ (∀ s (p : Fin 2), Happens (.rtuActiveClear p) s [.engines] fun b => b.pol.engines = modAt s.block.pol.engines p fun e => { e with active := false })

/-- R8, R412, R413, R415, R418, R420, R421, R422, R425: what one instruction of a policy engine does (the RISC-V standard's semantics are the model's choice, log entry 59), its
traps, register writes at physical addresses, tile staging and batches.
Part of it rests on the model's own choice (log entries 49 and 58). -/
def Obligations.PolicyInstructionsExecuteTrapAndStore : Prop :=
  (∀ s (p : Fin 2) n bad, s.block.peRuns p = false ∨ (s.block.pe p).asleep = true → Happens (.policyInstruction p n bad) s [] fun _ => True)
  ∧ (∀ s (p : Fin 2) n bad code, s.block.peRuns p = true → (s.block.pe p).asleep = false → s.block.irqDue p = some code → Happens (.policyInstruction p n bad) s [.engines] fun b =>
      b.pol.engines = modAt s.block.pol.engines p fun e => e.trapped true code 0)
  ∧ (∀ s (p : Fin 2) n bad w npc, s.block.peRuns p = true → (s.block.pe p).asleep = false → s.block.irqDue p = none → s.block.fetched p = some (w, npc) → w % 128 = 0x37 ∨ w % 128 = 0x17 →
      Happens (.policyInstruction p n bad) s [.engines] fun b => b.pol.engines = modAt s.block.pol.engines p fun e =>
        e.retired n (rvRd w) (if w % 128 = 0x37 then immU w else e.pc + immU w) npc)
  ∧ (∀ s (p : Fin 2) n bad w npc, s.block.peRuns p = true → (s.block.pe p).asleep = false → s.block.irqDue p = none → s.block.fetched p = some (w, npc) →
      w % 128 = 0x6F ∨ (w % 128 = 0x67 ∧ rvF3 w = 0) → Happens (.policyInstruction p n bad) s [.engines] fun b => b.pol.engines = modAt s.block.pol.engines p fun e =>
        e.retired n (rvRd w) npc (if w % 128 = 0x6F then e.pc + immJ w else (e.reg (rvRs1 w) + immI w) &&& 0xFFFFFFFE#32))
  ∧ (∀ s (p : Fin 2) n bad w npc t, s.block.peRuns p = true → (s.block.pe p).asleep = false → s.block.irqDue p = none → s.block.fetched p = some (w, npc) → w % 128 = 0x63 →
      rvBranch (rvF3 w) ((s.block.pe p).reg (rvRs1 w)) ((s.block.pe p).reg (rvRs2 w)) = some t → Happens (.policyInstruction p n bad) s [.engines] fun b =>
        b.pol.engines = modAt s.block.pol.engines p fun e => e.retired n 0 0#32 (if t then e.pc + immB w else npc))
  ∧ (∀ s (p : Fin 2) n bad w npc, s.block.peRuns p = true → (s.block.pe p).asleep = false → s.block.irqDue p = none → s.block.fetched p = some (w, npc) → w % 128 = 0x13 →
      rvF3 w ≠ 1 ∨ rvF7 w = 0 → rvF3 w ≠ 5 ∨ rvF7 w = 0 ∨ rvF7 w = 32 → Happens (.policyInstruction p n bad) s [.engines] fun b =>
        b.pol.engines = modAt s.block.pol.engines p fun e =>
          e.retired n (rvRd w) (rvAlu (rvF3 w) (rvF3 w == 5 && rvF7 w == 32) (e.reg (rvRs1 w)) (immI w)) npc)
  ∧ (∀ s (p : Fin 2) n bad w npc, s.block.peRuns p = true → (s.block.pe p).asleep = false → s.block.irqDue p = none → s.block.fetched p = some (w, npc) → w % 128 = 0x33 →
      rvF7 w = 0 ∨ rvF7 w = 1 ∨ (rvF7 w = 32 ∧ (rvF3 w = 0 ∨ rvF3 w = 5)) → Happens (.policyInstruction p n bad) s [.engines] fun b =>
        b.pol.engines = modAt s.block.pol.engines p fun e => e.retired n (rvRd w)
          (if rvF7 w = 1 then rvMul (rvF3 w) (e.reg (rvRs1 w)) (e.reg (rvRs2 w)) else rvAlu (rvF3 w) (rvF7 w == 32) (e.reg (rvRs1 w)) (e.reg (rvRs2 w))) npc)
  ∧ (∀ s (p : Fin 2) n bad w npc va x, s.block.peRuns p = true → (s.block.pe p).asleep = false → s.block.irqDue p = none → s.block.fetched p = some (w, npc) →
      w % 128 = 0x03 → rvF3 w = 2 → va = ((s.block.pe p).reg (rvRs1 w) + immI w).toNat → va % 4 = 0 → x = translate (s.block.pe p).regions 0 va 4 → x.cause = 0 →
      x.phys < 0x100000 → inRam x.phys 4 = true → Happens (.policyInstruction p n bad) s [.engines] fun b =>
        b.pol.engines = modAt s.block.pol.engines p fun e => e.retired n (rvRd w) (w32 (leNat (s.block.ramRead x.phys 4))) npc)
  ∧ (∀ s (p : Fin 2) n bad w npc va x, s.block.peRuns p = true → (s.block.pe p).asleep = false → s.block.irqDue p = none → s.block.fetched p = some (w, npc) →
      w % 128 = 0x23 → rvF3 w = 2 → va = ((s.block.pe p).reg (rvRs1 w) + immS w).toNat → va % 4 = 0 → x = translate (s.block.pe p).regions 1 va 4 → x.cause = 0 →
      x.phys < 0x100000 → inRam x.phys 4 = true → s.block.pol.engines.length = 2 → s.block.memoriesWf = true → Happens (.policyInstruction p n bad) s [.engines] fun b =>
        (b.pe p).pc = npc ∧ (b.pe p).regs = (s.block.pe p).regs ∧ b.ramRead x.phys 4 = leBytes 4 ((s.block.pe p).reg (rvRs2 w)).toNat
        ∧ (∀ q : Fin 2, (b.pe q).ram = if q.val = x.phys / ramSize then
            memWrite 0#8 (x.phys % ramSize) (leBytes 4 ((s.block.pe p).reg (rvRs2 w)).toNat) (s.block.pe q).ram else (s.block.pe q).ram)
        ∧ ∀ q : Fin 2, ∀ a ∈ (b.pe q).resv, a + 4 ≤ x.phys ∨ x.phys + 4 ≤ a)
  ∧ (∀ s (p : Fin 2) n bad w npc x, s.block.peRuns p = true → (s.block.pe p).asleep = false → s.block.irqDue p = none → s.block.fetched p = some (w, npc) →
      w % 128 = 0x2F → rvF3 w = 2 → bitsOf 31 27 w = 2 → rvRs2 w = 0 → ((s.block.pe p).reg (rvRs1 w)).toNat % 4 = 0 →
      x = translate (s.block.pe p).regions 0 ((s.block.pe p).reg (rvRs1 w)).toNat 4 → x.cause = 0 → inRam x.phys 4 = true →
      Happens (.policyInstruction p n bad) s [.engines] fun b => b.pol.engines = modAt s.block.pol.engines p fun e =>
        { e.retired n (rvRd w) (w32 (leNat (s.block.ramRead x.phys 4))) npc with resv := some x.phys })
  ∧ (∀ s (p : Fin 2) n bad w npc x, s.block.peRuns p = true → (s.block.pe p).asleep = false → s.block.irqDue p = none → s.block.fetched p = some (w, npc) →
      w % 128 = 0x2F → rvF3 w = 2 → bitsOf 31 27 w = 3 → ((s.block.pe p).reg (rvRs1 w)).toNat % 4 = 0 →
      x = translate (s.block.pe p).regions 1 ((s.block.pe p).reg (rvRs1 w)).toNat 4 → x.cause = 0 → inRam x.phys 4 = true → (s.block.pe p).resv ≠ some x.phys →
      Happens (.policyInstruction p n bad) s [.engines] fun b => b.pol.engines = modAt s.block.pol.engines p fun e => { e.retired n (rvRd w) 1#32 npc with resv := none })
  ∧ (∀ s (p : Fin 2) n bad w npc x, s.block.peRuns p = true → (s.block.pe p).asleep = false → s.block.irqDue p = none → s.block.fetched p = some (w, npc) →
      w % 128 = 0x2F → rvF3 w = 2 → bitsOf 31 27 w = 3 → ((s.block.pe p).reg (rvRs1 w)).toNat % 4 = 0 →
      x = translate (s.block.pe p).regions 1 ((s.block.pe p).reg (rvRs1 w)).toNat 4 → x.cause = 0 → inRam x.phys 4 = true → (s.block.pe p).resv = some x.phys →
      s.block.pol.engines.length = 2 → s.block.memoriesWf = true → Happens (.policyInstruction p n bad) s [.engines] fun b =>
        b.ramRead x.phys 4 = leBytes 4 ((s.block.pe p).reg (rvRs2 w)).toNat ∧ (b.pe p).reg (rvRd w) = 0#32 ∧ (b.pe p).resv = none ∧ (b.pe p).pc = npc)
  ∧ (∀ s (p : Fin 2) n bad w npc x v, s.block.peRuns p = true → (s.block.pe p).asleep = false → s.block.irqDue p = none → s.block.fetched p = some (w, npc) →
      w % 128 = 0x2F → rvF3 w = 2 → bitsOf 31 27 w ≠ 2 → bitsOf 31 27 w ≠ 3 → ((s.block.pe p).reg (rvRs1 w)).toNat % 4 = 0 →
      x = translate (s.block.pe p).regions 3 ((s.block.pe p).reg (rvRs1 w)).toNat 4 → x.cause = 0 → inRam x.phys 4 = true → s.block.pol.engines.length = 2 →
      rvAmo (bitsOf 31 27 w) (w32 (leNat (s.block.ramRead x.phys 4))) ((s.block.pe p).reg (rvRs2 w)) = some v → (s.block.pe p).regs.length = 31 → s.block.memoriesWf = true →
      Happens (.policyInstruction p n bad) s [.engines] fun b =>
        b.ramRead x.phys 4 = leBytes 4 v.toNat ∧ (b.pe p).pc = npc ∧ (rvRd w ≠ 0 → (b.pe p).reg (rvRd w) = w32 (leNat (s.block.ramRead x.phys 4))))
  ∧ (∀ s (p : Fin 2) n bad w npc, s.block.peRuns p = true → (s.block.pe p).asleep = false → s.block.irqDue p = none → s.block.fetched p = some (w, npc) →
      w % 128 = 0x73 → rvF3 w = 1 → bitsOf 31 20 w = 0x340 → Happens (.policyInstruction p n bad) s [.engines] fun b =>
        b.pol.engines = modAt s.block.pol.engines p fun e =>
          { e.retired n (rvRd w) e.csr.mscratch npc with csr := { e.csr.counted n with mscratch := e.reg (rvRs1 w) } })
  ∧ (∀ s (p : Fin 2) n bad npc, s.block.peRuns p = true → (s.block.pe p).asleep = false → s.block.irqDue p = none → s.block.fetched p = some (0x30200073, npc) →
      Happens (.policyInstruction p n bad) s [.engines] fun b => b.pol.engines = modAt s.block.pol.engines p fun e =>
        { e with pc := e.csr.mepc, csr := { e.csr.counted n with mie := e.csr.mpie, mpie := true } })
  ∧ (∀ s (p : Fin 2) n bad npc, s.block.peRuns p = true → (s.block.pe p).asleep = false → s.block.irqDue p = none → s.block.fetched p = some (0x00000073, npc) →
      Happens (.policyInstruction p n bad) s [.engines] fun b => b.pol.engines = modAt s.block.pol.engines p fun e => { e with csr := e.csr.cycled n }.trapped false 11 0)
  ∧ (∀ s (p : Fin 2) n bad w npc, s.block.peRuns p = true → (s.block.pe p).asleep = false → s.block.irqDue p = none → s.block.fetched p = some (w, npc) → w % 128 = 0x7F →
      s.block.vectorLoaded p = true → Happens (.policyInstruction p n bad) s [.engines] fun b => b.pol.engines = modAt s.block.pol.engines p fun e =>
        { e with csr := e.csr.cycled n }.trapped false 2 (if Config.illegalInMtval then w else 0))
  ∧ (∀ s (p : Fin 2) n bad x, s.block.peRuns p = true → (s.block.pe p).asleep = false → s.block.irqDue p = none →
      x = translate (s.block.pe p).regions 2 (s.block.pe p).pc.toNat 2 → x.cause = 2 → (s.block.pe p).active = false → Happens (.policyInstruction p n bad) s [.engines] fun b =>
        b.pol.engines = modAt s.block.pol.engines p fun e =>
          { e with
            csr := e.csr.cycled n, active := true, fcause := 2, facc := 2, fregion := x.region, fvaddr := e.pc.toNat, fpaddr := x.phys
            faults := satAdd 4294967295 e.faults 1 }.trapped false 1 e.pc.toNat)
  ∧ (∀ s (p : Fin 2) n bad x, s.block.peRuns p = true → (s.block.pe p).asleep = false → s.block.irqDue p = none → p.val < s.block.pol.engines.length →
      x = translate (s.block.pe p).regions 2 (s.block.pe p).pc.toNat 2 → x.cause ≠ 0 → (s.block.pe p).active = true → ((s.block.pe p).recent s.block.sys.now).length < 2 →
      Happens (.policyInstruction p n bad) s [.sys, .engines, .chans] fun b => b.engineDown p ∧ (b.pe p).restartDue = some 1 ∧ (b.pe p).fcause = x.cause)
  ∧ (∀ s (p : Fin 2) va v x off, s.block.peRuns p = true → x = translate (s.block.pe p).regions 1 va.toNat 4 → x.cause = 0 → physTarget x.phys = .imgWrite off → off % 4 = 0 →
      (s.block.pe p).stage = { tile := none, words := List.replicate 15 none } → off % 64 < 56 → Happens (.tileStageStore p va v) s [.engines] fun b =>
        b.pol.engines = modAt s.block.pol.engines p fun e =>
          { e with stage := { tile := some (off / 64), words := (List.replicate 15 none).set (off % 64 / 4) (some v) } })
  ∧ (∀ s (p : Fin 2) va v x off ws, s.block.peRuns p = true → x = translate (s.block.pe p).regions 1 va.toNat 4 → x.cause = 0 → physTarget x.phys = .imgWrite off → off % 4 = 0 →
      ws.length = 14 → (s.block.pe p).stage = { tile := some (off / 64), words := (ws.map some) ++ [none] } → off % 64 = 56 →
      Happens (.tileStageStore p va v) s [.engines, .bank] fun b =>
        b.img.back = bankPut (policyBase + off / 64) (ws ++ [v]) s.block.img.back ∧ b.img.front = s.block.img.front
        ∧ b.pol.engines = modAt s.block.pol.engines p fun e => { e with stage := .empty, twrites := satAdd 4294967295 e.twrites 1 })
  ∧ (∀ s (p : Fin 2) va v x off, s.block.peRuns p = true → x = translate (s.block.pe p).regions 1 va.toNat 4 → x.cause = 0 → physTarget x.phys = .imgWrite off → off % 64 = 60 →
      (s.block.pe p).active = false → Happens (.tileStageStore p va v) s [.engines] fun b => b.pol.engines = modAt s.block.pol.engines p fun e =>
        { e with
          stage := .empty, tpart := satAdd 4294967295 e.tpart 1, active := true, fcause := 4, facc := 1, fregion := x.region, fvaddr := va.toNat, fpaddr := x.phys
          faults := satAdd 4294967295 e.faults 1 }.trapped false 7 va.toNat)
  ∧ (∀ s (p : Fin 2) n, 1 ≤ n → n ≤ 50 → (s.block.pe p).bstat = 0 ∨ (s.block.pe p).bstat = 3 → Happens (.bopenWrite p n) s [.engines] fun b =>
      b.pol.engines = modAt s.block.pol.engines p fun e => { e with
        bLen := n, bAt := s.block.sys.now
        bstat := if s.block.sys.now + (n + 5) * usT ≤ s.block.nextMultiple msT ∧ s.block.img.copying = [] then 2 else 1 })
  ∧ (∀ s (p : Fin 2) n, n = 0 ∨ 50 < n ∨ (s.block.pe p).bstat = 1 ∨ (s.block.pe p).bstat = 2 → Happens (.bopenWrite p n) s [] fun _ => True)
  ∧ (∀ s (p : Fin 2), (s.block.pe p).bstat = 1 → s.block.img.copying = [] → Happens (.batchGrant p) s [.engines] fun b =>
      b.pol.engines = modAt s.block.pol.engines p fun e => { e with bstat := 2, bAt := s.block.sys.now })
  ∧ (∀ s (p : Fin 2), (s.block.pe p).bstat = 1 ∨ (s.block.pe p).bstat = 2 → Happens (.bcloseWrite p) s [.engines] fun b =>
      b.pol.engines = modAt s.block.pol.engines p fun e => { e with bstat := 0 })
  ∧ (∀ s (p : Fin 2), (s.block.pe p).bstat = 2 → Happens (.batchOverrun p) s [.sys, .engines] fun b =>
      b.sys.now = max s.block.sys.now ((s.block.pe p).bAt + (s.block.pe p).bLen * usT) ∧ b.pol.engines = modAt s.block.pol.engines p fun e => { e with bstat := 3 })
  ∧ (∀ s (p : Fin 2) a v, s.block.peLive p = false ∨ a.toNat % 4 ≠ 0 ∨ physTarget a.toNat = .nothing → Happens (.registerWrite p a v) s [] fun _ => True)
  ∧ (∀ s (p : Fin 2) v, s.block.peLive p = true → Happens (.registerWrite p 0x40000010#32 v) s [.engines] fun b => b.pol.engines = modAt s.block.pol.engines p fun e =>
      { e with mtimecmp := e.mtimecmp / 4294967296 * 4294967296 + v.toNat })
  ∧ (∀ s (p : Fin 2) v, s.block.peLive p = true → Happens (.registerWrite p 0x40001020#32 v) s [.routes] fun b => b.pol.en = v.toNat + s.block.pol.en / 2 ^ 32 * 2 ^ 32)
  ∧ (∀ s (p : Fin 2) v, s.block.peLive p = true → (s.block.pe p).ring.en = false → Happens (.registerWrite p 0x40004008#32 v) s [.engines] fun b =>
      b.pol.engines = modAt s.block.pol.engines p fun e => { e with ring := { e.ring with rbase := v.toNat } })
  ∧ (∀ s (p : Fin 2) v, s.block.peLive p = true → Happens (.registerWrite p 0x40005008#32 v) s [.engines] fun b =>
      b.pol.engines = modAt s.block.pol.engines p fun e => { e with port := { e.port with daddr := v.toNat } })
  ∧ (∀ s (p : Fin 2) (c : Fin 16) a v, s.block.peLive p = true → a.toNat = 0x40010008 + 256 * c.val → s.block.ownsCh p c = true → (s.block.ch c).st = .disabled →
      Happens (.registerWrite p a v) s [.chans] fun b => b.pol.chans = modAt s.block.pol.chans c fun x => { x with rbase := v.toNat })
  ∧ (∀ s (p : Fin 2) (c : Fin 16) a v, s.block.peLive p = true → a.toNat % 4 = 0 → 0x40010000 + 256 * c.val ≤ a.toNat → a.toNat < 0x40010100 + 256 * c.val →
      s.block.ownsCh p c = false → Happens (.registerWrite p a v) s [] fun _ => True)
  ∧ (∀ s (p : Fin 2) (k : Fin 2) a v, s.block.peLive p = true → a.toNat = 0x40020040 + 0x10000 * k.val → (s.block.can k).set.rqOwn = p.val + 1 →
      Happens (.registerWrite p a v) s [.net] fun b => b.net = { s.block.net with cans := modAt s.block.net.cans k fun c =>
        { c with tbs := modAt c.tbs 0 fun t => if t.st = 1 then t else { t with frame := { t.frame with idw := v.toNat } } } })

/-- R423 to R430: channels are enabled, disabled, resumed and pointed at work; the winning channel moves one burst or halts; completion queues take CQGET and signal. -/
def Obligations.DmaChannelsMoveBurstsAndQueuesSignal : Prop :=
  (∀ s (c : Fin 16), (s.block.ch c).owner.isSome = true → (s.block.ch c).st = .disabled → Happens (.dmaEnable c) s [.chans] fun b =>
      b.pol.chans = modAt s.block.pol.chans c fun x => { x with
        st := .idle, rput := 0, rget := 0, cur := none, cq := { x.cq with put := 0, get := 0, mpend := 0, oldest := none, full := false, waiting := [] } })
  ∧ (∀ s (c : Fin 16), (s.block.ch c).owner = none ∨ (s.block.ch c).st ≠ .disabled → Happens (.dmaEnable c) s [] fun _ => True)
  ∧ (∀ s (c : Fin 16), (s.block.ch c).st ≠ .disabled → (s.block.ch c).st ≠ .stopping → (s.block.ch c).cur = none → (s.block.ch c).rput = (s.block.ch c).rget →
      Happens (.dmaDisable c) s [.chans] fun b => b.pol.chans = modAt s.block.pol.chans c fun x => { x with st := .stopping })
  ∧ (∀ s (c : Fin 16) d, (s.block.ch c).st ≠ .disabled → (s.block.ch c).st ≠ .stopping → (s.block.ch c).cur = some d → (s.block.ch c).rput = (s.block.ch c).rget →
      (s.block.ch c).cq.waiting = [] → (s.block.ch c).cq.count < (s.block.ch c).cq.size → c.val < s.block.pol.chans.length →
      Happens (.dmaDisable c) s [.engines, .chans] fun b =>
        (b.ch c).st = .stopping ∧ (b.ch c).cur = none ∧ (b.ch c).cq.put = ((s.block.ch c).cq.put + 1) % 8192 ∧ ∀ j < 16, j ≠ c.val → b.ch j = s.block.ch j)
  ∧ (∀ s (c : Fin 16), (s.block.ch c).st = .stopping → (s.block.ch c).cq.waiting = [] → Happens (.dmaDisableDone c) s [.chans] fun b =>
      b.pol.chans = modAt s.block.pol.chans c fun x => { x with st := .disabled })
  ∧ (∀ s (c : Fin 16) v, (v % 8192 + 8192 - (s.block.ch c).rget) % 8192 ≤ (s.block.ch c).rsize → (s.block.ch c).st = .idle ∨ (s.block.ch c).st = .running →
      Happens (.dmaRputWrite c v) s [.chans] fun b => b.pol.chans = modAt s.block.pol.chans c fun x =>
        { x with rput := v % 8192, st := if x.cur.isNone && x.rget == v % 8192 then .idle else .running })
  ∧ (∀ s (c : Fin 16) v, (s.block.ch c).rsize < (v % 8192 + 8192 - (s.block.ch c).rget) % 8192 → Happens (.dmaRputWrite c v) s [] fun _ => True)
  ∧ (∀ s (c : Fin 16), (s.block.ch c).st = .halted → Happens (.dmaResume c) s [.chans] fun b => b.pol.chans = modAt s.block.pol.chans c fun x =>
      { x with cur := none, st := if x.rget == x.rput then .idle else .running })
  ∧ (∀ s (c : Fin 16), (s.block.ch c).st ≠ .halted → Happens (.dmaResume c) s [] fun _ => True)
  ∧ (∀ s bad, (∀ c < 16, s.block.chWorks c = false) → Happens (.dmaBurst bad) s [] fun _ => True)
  ∧ (∀ s bad (c : Fin 16) p d x y, (∀ j < 16, s.block.chWorks j = true → s.block.chRoom j = true) → s.block.winner = some c.val → (s.block.ch c).owner = some p →
      (s.block.ch c).cur = some d → d.tile = false → d.moved + d.burst < d.len → x = translate (s.block.pe p).regions 0 d.srcNow d.burst → x.cause = 0 →
      y = translate (s.block.pe p).regions 1 d.dstNow d.burst → y.cause = 0 → x.phys < 0x100000 → inRam x.phys d.burst = true → y.phys < 0x100000 → inRam y.phys d.burst = true →
      s.block.pol.engines.length = 2 → s.block.memoriesWf = true → c.val < s.block.pol.chans.length → Happens (.dmaBurst bad) s [.engines, .chans, .routes] fun b =>
        b.ramRead y.phys d.burst = s.block.ramRead x.phys d.burst ∧ b.ch c = { s.block.ch c with cur := some { d with moved := d.moved + d.burst } }
        ∧ (∀ j < 16, j ≠ c.val → b.ch j = s.block.ch j) ∧ b.pol.lastChan = c.val ∧ b.pol.timers = s.block.pol.timers ∧ b.pol.route = s.block.pol.route)
  ∧ (∀ s bad (c : Fin 16) p d x y, (∀ j < 16, s.block.chWorks j = true → s.block.chRoom j = true) → s.block.winner = some c.val → (s.block.ch c).owner = some p →
      (s.block.ch c).cur = some d → d.tile = false → d.len ≤ d.moved + d.burst → x = translate (s.block.pe p).regions 0 d.srcNow d.burst → x.cause = 0 →
      y = translate (s.block.pe p).regions 1 d.dstNow d.burst → y.cause = 0 → x.phys < 0x100000 → inRam x.phys d.burst = true → y.phys < 0x100000 → inRam y.phys d.burst = true →
      c.val < s.block.pol.chans.length → Happens (.dmaBurst bad) s [.engines, .chans, .routes] fun b =>
        (b.ch c).cur = none ∧ (b.ch c).cq.put = ((s.block.ch c).cq.put + 1) % 8192 ∧ (b.ch c).st = (if (s.block.ch c).rget = (s.block.ch c).rput then .idle else .running))
  ∧ (∀ s bad (c : Fin 16) p d x, (∀ j < 16, s.block.chWorks j = true → s.block.chRoom j = true) → s.block.winner = some c.val → (s.block.ch c).owner = some p →
      (s.block.ch c).cur = some d → x = translate (s.block.pe p).regions 0 d.srcNow d.burst → x.cause = 2 → c.val < s.block.pol.chans.length →
      Happens (.dmaBurst bad) s [.engines, .chans, .routes] fun b =>
        (b.ch c).st = .halted ∧ (b.ch c).cur = none ∧ (b.ch c).faddr = d.srcNow ∧ (b.ch c).fcause = 2 ∧ (b.ch c).facc = 0 ∧ (b.ch c).fregion = x.region
        ∧ (b.ch c).cq.put = ((s.block.ch c).cq.put + 1) % 8192 ∧ b.pol.pend.testBit (16 + c.val) = true)
  ∧ (∀ s bad (c : Fin 16), s.block.chWorks c = true → s.block.chRoom c = false → (∀ j < 16, j ≠ c.val → s.block.chWorks j = false) → c.val < s.block.pol.chans.length →
      Happens (.dmaBurst bad) s [.chans] fun b => b.ch c = { s.block.ch c with cq := { (s.block.ch c).cq with full := true } })
  ∧ (∀ s (q : Fin 20) v, (v % 8192 + 8192 - (s.block.cq (cqAt q)).get) % 8192 ≤ ((s.block.cq (cqAt q)).put + 8192 - (s.block.cq (cqAt q)).get) % 8192 →
      s.block.pol.engines.length = 2 → s.block.pol.chans.length = 16 → (∀ e ∈ s.block.pol.engines, e.ring.stopping = false) → (s.block.cq (cqAt q)).waiting = [] →
      Happens (.cqgetWrite q v) s [.engines, .chans] fun b =>
        b.cq (cqAt q) = { s.block.cq (cqAt q) with
          get := v % 8192
          full := (s.block.cq (cqAt q)).full && !decide (((s.block.cq (cqAt q)).put + 8192 - v % 8192) % 8192 < (s.block.cq (cqAt q)).size) })
  ∧ (∀ s (q : Fin 20) v, ((s.block.cq (cqAt q)).put + 8192 - (s.block.cq (cqAt q)).get) % 8192 < (v % 8192 + 8192 - (s.block.cq (cqAt q)).get) % 8192 →
      Happens (.cqgetWrite q v) s [] fun _ => True)
  ∧ (∀ s (q : Fin 20) t, (s.block.cq (cqAt q)).oldest = some t → (s.block.cq (cqAt q)).mtime ≠ 0 → (s.block.cq (cqAt q)).mpend ≠ 0 → s.block.pol.engines.length = 2 →
      s.block.pol.chans.length = 16 → Happens (.cqModerationTimeout q) s [.sys, .engines, .chans] fun b =>
        b.sys.now = max s.block.sys.now (t + (s.block.cq (cqAt q)).mtime * usT) ∧ b.cq (cqAt q) = { s.block.cq (cqAt q) with mpend := 0, oldest := none }
        ∧ b.pol.pend.testBit (cqAt q).irq = true)

/-- R431 to R435, R437, R438, R439, R440: sources, timers and routes of the interrupt controller, the service ring's entries, and the frame ports.
Part of it rests on the model's own choice (log entry 57). -/
def Obligations.InterruptsRingsAndFramePortsServeTheEngines : Prop :=
  (∀ s (p : Fin 2) (i : Fin 128), s.block.delivered_ p i = true → s.block.irqLevel i = false → Happens (.irqComplete p i) s [] fun b =>
      b.pol.pend.testBit i = false ∧ ∀ j < 128, j ≠ i.val → b.pol.pend.testBit j = s.block.pol.pend.testBit j)
  ∧ (∀ s (p : Fin 2) (i : Fin 128), s.block.delivered_ p i = true → s.block.irqLevel i = true → Happens (.irqComplete p i) s [] fun b => b.pol.pend.testBit i = true)
  ∧ (∀ s (p : Fin 2) (i : Fin 128), s.block.delivered_ p i = false → Happens (.irqComplete p i) s [] fun b => b.pol.pend = s.block.pol.pend)
  ∧ (∀ s (m : BitVec 8), Happens (.swisetWrite m) s [] fun b =>
      ∀ j < 128, b.pol.pend.testBit j = (s.block.pol.pend.testBit j || (decide (48 ≤ j ∧ j < 56) && m.getLsbD (j - 48))))
  ∧ (∀ s (t : Fin 8) (v : Word), Happens (.tperWrite t v) s [.routes] fun b =>
      b.pol.timers = (modAt s.block.pol.timers t fun _ => { per := v.toNat, start := s.block.sys.now }) ∧ b.pol.route = s.block.pol.route ∧ b.pol.en = s.block.pol.en)
  ∧ (∀ s (t : Fin 8) x, s.block.pol.timers[t.val]? = some x → x.per ≠ 0 → Happens (.timerExpiry t) s [.sys, .routes] fun b =>
      b.sys.now = max s.block.sys.now (x.start + x.per * usT) ∧ b.pol.pend.testBit (56 + t.val) = true
      ∧ b.pol.timers = modAt s.block.pol.timers t fun z => { z with start := x.start + x.per * usT })
  ∧ (∀ s (t : Fin 8) x, s.block.pol.timers[t.val]? = some x → x.per = 0 → Happens (.timerExpiry t) s [] fun b => b.pol.pend = s.block.pol.pend)
  ∧ (∀ s (i : Fin 128) p1, Happens (.routeWrite i p1) s [.routes] fun b =>
      b.pol.route.testBit i = p1 ∧ (∀ j < 128, j ≠ i.val → b.pol.route.testBit j = s.block.pol.route.testBit j) ∧ b.pol.pend = s.block.pol.pend
      ∧ b.pol.en = s.block.pol.en ∧ b.pol.timers = s.block.pol.timers)
  ∧ (∀ s (i : Fin 128), s.block.pol.pend.testBit i = false → Happens (.rdirClear i) s [] fun b => b.pol.rdir.testBit i = false ∧ b.pol.pend = s.block.pol.pend)
  ∧ (∀ s (p : Fin 2), s.block.sys.mstate ≠ .off → (s.block.pe p).ring.en = true → (s.block.pe p).ring.stopping = false → (s.block.pe p).ring.rput ≠ (s.block.pe p).ring.rget →
      s.block.paused = false → (s.block.pe p).ring.running.length < 8 → (s.block.pe p).ring.cq.size ≤ (s.block.pe p).ring.cq.count → Happens (.serviceEntry p) s [.engines] fun b =>
        b.pol.engines = modAt s.block.pol.engines p fun e => { e with ring := { e.ring with cq := { e.ring.cq with full := true } } })
  ∧ (∀ s (p : Fin 2) e, s.block.sys.mstate ≠ .off → (s.block.pe p).ring.en = true → (s.block.pe p).ring.stopping = false → (s.block.pe p).ring.rput ≠ (s.block.pe p).ring.rget →
      s.block.paused = false → (s.block.pe p).ring.running = [] → (s.block.pe p).ring.cq.waiting = [] → (s.block.pe p).ring.cq.count < (s.block.pe p).ring.cq.size →
      s.block.ringEntry p (s.block.pe p).ring.rget = some e → e.opcode = 0xFFFF → p.val < s.block.pol.engines.length → Happens (.serviceEntry p) s [.engines] fun b =>
        (b.pe p).ring.rget = ((s.block.pe p).ring.rget + 1) % 8192 ∧ (b.pe p).ring.running = [] ∧ (b.pe p).ring.cq.put = ((s.block.pe p).ring.cq.put + 1) % 8192)
  ∧ (∀ s (p : Fin 2) e, s.block.sys.mstate ≠ .off → (s.block.pe p).ring.en = true → (s.block.pe p).ring.stopping = false → (s.block.pe p).ring.rput ≠ (s.block.pe p).ring.rget →
      s.block.paused = false → (s.block.pe p).ring.running = [] → (s.block.pe p).ring.cq.waiting = [] → (s.block.pe p).ring.cq.count < (s.block.pe p).ring.cq.size →
      s.block.ringEntry p (s.block.pe p).ring.rget = some e → e.opcode = 0x0103 → e.length = 0 → s.block.granted p 0x0103 = true → 6 ≤ e.rcap → e.rcap < 65536 →
      s.block.vwritable p e.rply 6 = true → p.val < s.block.pol.engines.length → Happens (.serviceEntry p) s ([.engines] ++ served) fun b =>
        (b.pe p).ring.rget = ((s.block.pe p).ring.rget + 1) % 8192 ∧ (b.pe p).ring.running = [] ∧ (b.pe p).ring.cq.put = ((s.block.pe p).ring.cq.put + 1) % 8192)
  ∧ (∀ s (p : Fin 2), (s.block.pe p).ring.en = false ∨ (s.block.pe p).ring.rput = (s.block.pe p).ring.rget ∨ s.block.paused = true → Happens (.serviceEntry p) s [] fun _ => True)
  ∧ (∀ s (p : Fin 2), (s.block.pe p).port.busy = false → ((s.block.pe p).port.sends.filter fun t => decide (s.block.sys.now < t + secT)).length < 1000 →
      1 ≤ (s.block.pe p).port.flen → (s.block.pe p).port.flen ≤ 1472 → s.block.n0Up = true → Happens (.framePortSend p) s [.net, .engines] fun b =>
        b.net = { s.block.net with out := s.block.net.out ++ [.udp p (s.block.pe p).port.daddr (s.block.pe p).port.dport (memRead 0#8 (s.block.pe p).port.fbuf 0 (s.block.pe p).port.flen)
          (if (s.block.pe p).port.tsreq then some (s.block.pe p).port.fid else none)] }
        ∧ b.pol.engines = modAt s.block.pol.engines p fun e => { e with port := { e.port with
            sends := s.block.sys.now :: (s.block.pe p).port.sends.filter fun t => decide (s.block.sys.now < t + secT) } })
  ∧ (∀ s (p : Fin 2), (s.block.pe p).port.busy = true ∨ 1000 ≤ ((s.block.pe p).port.sends.filter fun t => decide (s.block.sys.now < t + secT)).length →
      Happens (.framePortSend p) s [.engines] fun b => b.pol.engines = modAt s.block.pol.engines p fun e =>
        { e with port := { e.port with refused := satAdd 65535 e.port.refused 1 } })

/-! ### Supplies, power failure and standby (14_power_and_standby.md, 01_architecture.md) -/

/-- R442, R445, R447, R448, R449, R459, R461, R525: feeds, string supply and hold-up change what they say; the power-fail warning stands until power returns or is lost, which
stops the converter; without a supply the Control Half forgets all but its stores, the Latch and what the segments keep. -/
def Obligations.SuppliesFailAndReturn : Prop :=
  (∀ s (n : Fin 2), s.block.feedOk n = true → s.block.feedOk (1 - n.val) = true → Happens (.feedAbsent n) s [.sys, .pwr, .supply] fun b =>
      b.feedOk n = false ∧ b.feedOk (1 - n.val) = true ∧ b.sys = { s.block.sys with takeovers := s.block.sys.takeovers + 1 })
  ∧ (∀ s (n : Fin 2), s.block.feedOk n = true → s.block.feedOk (1 - n.val) = false → ((List.range 4).all fun k => !s.block.tpRuns k) = true →
      Happens (.feedAbsent n) s [.pwr, .supply, .latch] fun b => b.feedOk n = false ∧ ∀ o ∈ b.latch.outs, o.rb = false)
  ∧ (∀ s (n : Fin 2), s.block.feedOk n = false → n.val < s.block.pwr.feeds.length → Happens (.feedPresent n) s [.pwr, .supply] fun b =>
      b.feedOk n = true ∧ b.feedOk (1 - n.val) = s.block.feedOk (1 - n.val))
  ∧ (∀ s (n : Fin 2), s.block.pwr.feeds[n.val]? = some { ok := true, low := false } → Happens (.feedLow n) s [.pwr, .supply] fun b =>
      b.pwr.feeds[n.val]? = some { ok := true, low := true } ∧ b.pwr.feeds[1 - n.val]? = s.block.pwr.feeds[1 - n.val]?)
  ∧ (∀ s high ok, s.block.pwr.hubOn = true → Happens (.sdsStart high ok) s [.pwr, .supply] fun b => b.pwr = { s.block.pwr with strHigh := high, sdsOk := high && ok })
  ∧ (∀ s, s.block.pwr.hubOn = false → Happens .hubStringStart s [.pwr, .supply] fun b => b.pwr = { s.block.pwr with hubOn := true, strHigh := true })
  ∧ (∀ s, s.block.sys.mstate ≠ .off → s.block.pfWarn = false → Happens .powerFailWarning s [.pwr, .supply] fun b =>
      b.pwr = { s.block.pwr with pfAt := some s.block.sys.now, lost := false, dips := satAdd 65535 s.block.pwr.dips 1 })
  ∧ (∀ s, s.block.pfWarn = true → s.block.upd.waiting = none → Happens .powerRestored s [.pwr, .supply] fun b => b.pwr = { s.block.pwr with pfAt := none, lost := false })
  ∧ (∀ s i q e off data, s.block.pfWarn = true → s.block.upd.waiting = some (.session i q, off, data) → s.block.entry? i q = some e → e.running = true →
      Happens .powerRestored s [.ix, .pwr, .supply, .upd] fun b =>
        b.pfWarn = false ∧ b.upd.waiting = none ∧ b.answered (.session i q) .ok [] ∧ b.upd.written = insertIdx (off / 1024) s.block.upd.written
        ∧ b.upd.flash = memWrite 0xFF#8 (slotBase s.block.inactive + off) data s.block.upd.flash)
  ∧ (∀ s t, s.block.pwr.pfAt = some t → s.block.pwr.lost = false → s.block.pwr.lossDue = false → s.block.hinge = false → s.block.upd.waiting = none →
      Happens .powerLost s ([.keep] ++ controlled) fun b =>
        b.sys.now = max s.block.sys.now (t + 20 * msT) ∧ b.pwr.lost = true ∧ b.pwr.losts = satAdd 65535 s.block.pwr.losts 1 ∧ s.block.raised b .powerLost noArg
        ∧ b.flt.saving.isSome = true ∧ (if s.block.log.nextWord = 0 then b.log.word0 else b.log.word1) =
            { optime := s.block.log.opBoot + max s.block.sys.now (t + 20 * msT) / msT, pcyc := s.block.log.pcyc, secured := true, valid := true })
  ∧ (∀ s t, s.block.pwr.pfAt = some t → s.block.pwr.lost = false → s.block.pwr.lossDue = false → s.block.hinge = true →
      Happens .powerLost s [.sys, .pwr, .supply] fun b => b.sys.now = max s.block.sys.now (t + 20 * msT) ∧ b.pwr = { s.block.pwr with lossDue := true })
  ∧ (∀ s torn, s.block.sys.mstate ≠ .off → Happens (.ctlShutdown torn) s
        [.sys, .ix, .leash, .sense, .bark, .bal, .flt, .latch, .cnv, .imp, .loop, .thm, .net, .pwr, .sec, .upd, .keep, .bank, .owner, .supply, .engines, .chans, .routes] fun b =>
      b.sys.mstate = .off ∧ b.sys.now = s.block.sys.now ∧ b.sys.variant = s.block.sys.variant ∧ b.sys.serial = s.block.sys.serial
      ∧ b.latch = { s.block.latch with windows := [], nonces := [] } ∧ b.bark.line = s.block.bark.line ∧ b.bark.drive = s.block.bark.drive
      ∧ b.upd.flash = s.block.upd.flash ∧ b.upd.recA = s.block.upd.recA ∧ b.upd.recB = s.block.upd.recB ∧ b.upd.setA0 = s.block.upd.setA0 ∧ b.upd.setA1 = s.block.upd.setA1
      ∧ b.upd.setB0 = s.block.upd.setB0 ∧ b.upd.setB1 = s.block.upd.setB1 ∧ b.sec.ksA = s.block.sec.ksA ∧ b.sec.ksB = s.block.sec.ksB ∧ b.sec.vmin = s.block.sec.vmin
      ∧ b.flt.copyA = s.block.flt.copyA ∧ b.flt.copyB = s.block.flt.copyB ∧ b.ix.sessions = State.reset.block.ix.sessions ∧ b.ix.owner = none ∧ b.log.fast = []
      ∧ (∀ r ∈ s.block.log.keepGen, r ∈ b.log.keepGen) ∧ ∀ r ∈ s.block.log.keepRes, r ∈ b.log.keepRes)
  ∧ (∀ s t, s.block.leash.silentAt = some t → s.block.sys.mstate = .off → s.block.pwr.hubOn = true → Happens .stackOff s [.sys, .leash, .ring, .sense, .bal, .pwr, .supply] fun b =>
      b.sys.now = max s.block.sys.now (t + 10 * secT) ∧ b.pwr = { s.block.pwr with hubOn := false, sdsOk := false } ∧ b.ring.rungs = s.block.ring.rungs
      ∧ (∀ c < 512, (b.cellBal c).bleed = false) ∧ ∀ n < 16, ∀ h ∈ (b.segBal n).shuttles, h.cur = 0)
  ∧ (∀ s present full, s.block.sys.mstate ≠ .off → Happens (.holdupTest present full) s [.pwr, .supply] fun b =>
      b.pwr = { s.block.pwr with holdup := present, holdup85 := full })

/-- R451, R453, R454, R455, R456, R457, R458, R461: checkpoints and self-tests are kept; a failure of Lead begins a hold under which control passes to Reserve and back.
Part of it rests on the model's own choice (log entry 34). -/
def Obligations.ReserveTakesOverUnderAHold : Prop :=
  (∀ s, s.block.sys.mstate ≠ .off → s.block.sec.released = true → s.block.hinge = false → Happens (.kennelCheckpoint true) s [.sys, .pwr, .supply] fun b =>
      b.sys.now = max s.block.sys.now s.block.nextCheckpoint ∧ b.pwr.ckSeq = (s.block.pwr.ckSeq + 1) % 4294967296 ∧ b.pwr.ckAt = some b.sys.now ∧ b.pwr.kenOk = true
      ∧ (if b.pwr.ckSeq % 2 = 0 then (b.pwr.slot0, b.pwr.slot1) = (some b.pwr.ckSeq, s.block.pwr.slot1) else (b.pwr.slot0, b.pwr.slot1) = (s.block.pwr.slot0, some b.pwr.ckSeq)))
  ∧ (∀ s, s.block.sys.mstate ≠ .off → s.block.sec.released = true → s.block.hinge = false → Happens (.kennelCheckpoint false) s [.sys, .pwr, .supply] fun b =>
      b.pwr.kenOk = false ∧ (if b.pwr.ckSeq % 2 = 0 then (b.pwr.slot0, b.pwr.slot1) = (none, s.block.pwr.slot1) else (b.pwr.slot0, b.pwr.slot1) = (s.block.pwr.slot0, none)))
  ∧ (∀ s ok, s.block.sys.mstate ≠ .off → s.block.sec.released = true → Happens (.takeoverMonitorTest ok) s [.pwr, .supply] fun b => b.pwr = { s.block.pwr with tmonOk := ok })
  ∧ (∀ s ok, s.block.sys.mstate ≠ .off → s.block.sec.released = true → s.block.pwr.resCtl = false → s.block.hinge = false →
      Happens (.reserveStandbyTest ok) s [.pwr, .supply] fun b => b.pwr = { s.block.pwr with resOk := ok, resTest := s.block.optime % 4294967296 })
  ∧ (∀ s, s.block.sys.mstate ≠ .off → s.block.sec.released = true → s.block.pwr.resCtl = false → s.block.engIn 0 = true → s.block.activating = false →
      s.block.sec.halted.getD 0 false = false → Happens .leadWatchdog s [.sys, .ix, .bal, .flt, .pwr, .supply, .upd, .engines] fun b =>
        b.engIn 0 = false ∧ b.pwr.leadOk = false ∧ b.pwr.tcause = 1 ∧ b.pwr.hcause = 1 ∧ b.pwr.hold = some (s.block.pwr.hold.getD s.block.sys.now) ∧ b.flt.saving = none
        ∧ b.sys.mstate = s.block.sys.mstate)
  ∧ (∀ s, s.block.sec.halted.getD 0 false = true → Happens .leadWatchdog s [] fun _ => True)
  ∧ (∀ s, s.block.sys.mstate ≠ .off → s.block.sec.released = true → s.block.pwr.resCtl = false → s.block.engIn 0 = true → s.block.activating = false →
      Happens .leadSelftestFail s [.sys, .ix, .bal, .flt, .pwr, .supply, .upd, .engines] fun b =>
        b.engIn 0 = false ∧ b.pwr.leadOk = false ∧ b.pwr.tcause = 2 ∧ b.pwr.hcause = 1 ∧ b.pwr.hold = some (s.block.pwr.hold.getD s.block.sys.now) ∧ b.flt.saving = none
        ∧ b.sys.mstate = s.block.sys.mstate)
  ∧ (∀ s, s.block.sys.mstate ≠ .off → s.block.sec.released = true → s.block.pwr.resCtl = false → s.block.engIn 0 = true → s.block.activating = false →
      Happens .leadDoubleFault s [.sys, .ix, .bal, .flt, .pwr, .supply, .upd, .engines] fun b =>
        b.engIn 0 = false ∧ b.pwr.leadOk = false ∧ b.pwr.tcause = 3 ∧ b.pwr.hcause = 1 ∧ b.pwr.hold = some (s.block.pwr.hold.getD s.block.sys.now) ∧ b.flt.saving = none
        ∧ b.sys.mstate = s.block.sys.mstate)
  ∧ (∀ s t, s.block.pwr.cleanAt = some t → s.block.pwr.resCtl = true → s.block.hinge = false → s.block.pwr.leadHeld = false →
      Happens .leadHandback s [.sys, .bal, .pwr, .supply] fun b =>
        b.sys.now = max s.block.sys.now (t + 60 * secT) ∧ b.pwr.hold = some b.sys.now ∧ b.pwr.hcause = 3 ∧ b.pwr.ckSeq = (s.block.pwr.ckSeq + 1) % 4294967296)
  ∧ (∀ s t, s.block.pwr.hold = some t → s.block.pwr.hcause = 1 → s.block.upd.pauseAt = none → s.block.pwr.resCtl = false → s.block.pwr.resOk = true → s.block.pwr.kenOk = true →
      s.block.pwr.stateDue = none → s.block.pwr.lossDue = false → s.block.waitingRequests = [] → s.block.ix.held = [] → s.block.latch.state.acting = false →
      Happens .hingeHoldEnd s [.sys, .ix, .owner, .flt, .cnv, .loop, .pwr, .supply] fun b =>
        b.sys.now = max s.block.sys.now (t + 400000) ∧ b.pwr.hold = none ∧ b.pwr.resCtl = true ∧ (1 < s.block.sys.engSvc.length → b.engIn 1 = true)
        ∧ b.pwr.leadFails = satAdd 65535 s.block.pwr.leadFails 1 ∧ b.sys.takeovers = s.block.sys.takeovers + 1 ∧ b.pwr.holdLen = (b.sys.now - t) / usT
        ∧ b.sys.mstate = s.block.sys.mstate)
  ∧ (∀ s t m c op, s.block.pwr.hold = some t → s.block.pwr.hcause = 1 → s.block.upd.pauseAt = none → s.block.pwr.resCtl = false → s.block.pwr.resOk = true →
      s.block.pwr.kenOk = true → s.block.pwr.stateDue = some (m, c, op) → s.block.latch.state.acting = false → s.block.pwr.lossDue = false → s.block.waitingRequests = [] →
      s.block.ix.held = [] → Happens .hingeHoldEnd s ([.owner] ++ controlled) fun b =>
        b.pwr.hold = none ∧ b.pwr.resCtl = true ∧ b.sys.mstate = m ∧ b.pwr.stateDue = none)
  ∧ (∀ s t a, s.block.pwr.hold = some t → s.block.pwr.hcause = 3 → s.block.upd.pauseAt = none → s.block.pwr.cleanAt = some a →
      s.block.pwr.stateDue = none → s.block.pwr.lossDue = false → s.block.waitingRequests = [] → s.block.ix.held = [] → s.block.latch.state.acting = false →
      Happens .hingeHoldEnd s [.sys, .ix, .owner, .flt, .cnv, .loop, .pwr, .supply] fun b =>
        b.sys.now = max s.block.sys.now (t + 200000) ∧ b.pwr.hold = none ∧ b.pwr.resCtl = false ∧ b.pwr.leadOk = true ∧ b.pwr.cleanAt = none ∧ b.engIn 1 = false
        ∧ b.pwr.handbacks = satAdd 65535 s.block.pwr.handbacks 1 ∧ b.sys.mstate = s.block.sys.mstate)
  ∧ (∀ s t, s.block.pwr.hold = some t → s.block.upd.pauseAt = none → s.block.pwr.stateDue = none → s.block.pwr.lossDue = false → s.block.waitingRequests = [] →
      s.block.ix.held = [] → s.block.latch.state.acting = false → Happens .hingeHoldLimit s ([.owner] ++ controlled) fun b =>
        b.sys.now = max s.block.sys.now (t + 200 * msT) ∧ b.pwr.hold = none ∧ b.pwr.hlimit = true ∧ b.pwr.resCtl = false ∧ b.pwr.leadOk = true
        ∧ (.supervisorLost, noArg) ∈ b.sys.faultCauses ∧ (s.block.sys.mstate ∈ [MState.boot, .park, .run, .hibernate] → b.sys.mstate = .fault))

/-- R60, R61, R459, R110, R158, R303, R453: a part that fails goes out of service and its backup takes over where it has one; a segment die, without one, takes the module to
FAULT; an engine that has restarted is back in service.
Part of it rests on the model's own choice (log entries 21 and 53). -/
def Obligations.FailedPartsHandOverToTheirBackups : Prop :=
  (∀ s (k : Fin 2), s.block.sys.mstate ≠ .off → (s.block.lane k).up = true → Happens (.partFault (.leashLane k)) s [.sys, .leash, .sense] fun b =>
      (b.lane k).up = false ∧ ∀ j : Fin 2, j ≠ k → b.lane j = s.block.lane j)
  ∧ (∀ s (r : Fin 17), s.block.sys.mstate ≠ .off → r.val ≤ s.block.nSeg → s.block.rungUp r = true → s.block.rungsDown = 0 →
      Happens (.partFault (.rung r)) s [.sys, .ring] fun b => b.rungUp r = false ∧ b.sys.takeovers = s.block.sys.takeovers + 1)
  ∧ (∀ s (n : Fin 16), s.block.sys.mstate ∈ [MState.boot, .park, .run, .hibernate] → s.block.hinge = false → n.val < s.block.nSeg →
      Happens (.partFault (.segmentDie n)) s controlled fun b => (b.seg n).present = false ∧ b.sys.mstate = .fault)
  ∧ (∀ s, s.block.sys.mstate ≠ .off → s.block.sense.isel2 = false → s.block.sense.iSecOk = true → Happens (.partFault .primaryCurrent) s [.sys, .sense] fun b =>
      b.sense = { s.block.sense with isel2 := true, iPriOk := false } ∧ b.sys.takeovers = s.block.sys.takeovers + 1)
  ∧ (∀ s, s.block.sys.mstate ≠ .off → s.block.sense.iSecOk = true → s.block.sense.iPriOk = true → Happens (.partFault .secondaryCurrent) s [.sys, .sense] fun b =>
      b.sense = { s.block.sense with iSecOk := false } ∧ b.sys.takeovers = s.block.sys.takeovers + 1)
  ∧ (∀ s, s.block.sys.mstate ≠ .off → s.block.sense.vsel2 = false → Happens (.partFault .divider) s [.sys, .sense] fun b =>
      b.sense = { s.block.sense with vsel2 := true, vDivOk := false } ∧ b.sys.takeovers = s.block.sys.takeovers + 1)
  ∧ (∀ s e, s.block.sys.mstate ≠ .off → e ∈ [Engine.f0, .f1, .f2, .f3] → s.block.engIn e.ctorIdx = true → s.block.activating = false →
      ([Engine.f0, .f1, .f2, .f3].any fun d => decide (d ≠ e) && s.block.engIn d.ctorIdx) = true → Happens (.partFault (.engine e)) s [.sys] fun b =>
        b.sys = { s.block.sys with engSvc := (s.block.sys.engSvc.set e.ctorIdx false), takeovers := s.block.sys.takeovers + 1 })
  ∧ (∀ s e, s.block.sys.mstate ≠ .off → e ∈ [Engine.f0, .f1, .f2, .f3] → s.block.engIn e.ctorIdx = true → s.block.activating = false →
      ([Engine.f0, .f1, .f2, .f3].any fun d => decide (d ≠ e) && s.block.engIn d.ctorIdx) = false → Happens (.partFault (.engine e)) s controlled fun b =>
        b.engIn e.ctorIdx = false ∧ s.block.raised b .fltAllSeqLost noArg)
  ∧ (∀ s e, s.block.sys.mstate ≠ .off → e ∈ [Engine.c0, .c1] → s.block.engIn e.ctorIdx = true → s.block.activating = false →
      Happens (.partFault (.engine e)) s [.sys] fun b =>
        b.sys = { s.block.sys with engSvc := (s.block.sys.engSvc.set e.ctorIdx false), takeovers := s.block.sys.takeovers + 1 })
  ∧ (∀ s e, s.block.sys.mstate ≠ .off → e ∈ [Engine.s0, .s1, .p0, .p1] → s.block.engIn e.ctorIdx = true → s.block.activating = false →
      Happens (.partFault (.engine e)) s [.sys, .imp, .engines, .chans] fun b => b.engIn e.ctorIdx = false)
  ∧ (∀ s, s.block.sys.mstate ≠ .off → s.block.engIn 12 = true → s.block.activating = false →
      (s.block.ix.owner.all fun i => decide (i < 4) && (s.block.session i).isOpen) = true → Happens (.partFault (.engine .n0)) s ([.owner, .latch, .sec, .net] ++ controlled) fun b =>
        b.engIn 12 = false ∧ b.ix.owner = none ∧ ∀ i < 4, (b.session i).isOpen = false)
  ∧ (∀ s e, s.block.sys.mstate ≠ .off → e ∈ [Engine.sa, .sb] → s.block.engIn e.ctorIdx = true → s.block.latch.powered = true → s.block.latch.state = .armed →
      Happens (.partFault (.engine e)) s ([.sec] ++ actedOn) fun b => b.latch.lockstep = false ∧ s.block.hasActed b true 8 0)
  ∧ (∀ s, s.block.sys.mstate ≠ .off → s.block.sec.released = true → s.block.pwr.resCtl = false → s.block.engIn 0 = true → s.block.activating = false →
      Happens (.partFault (.engine .lead)) s [.sys, .ix, .bal, .flt, .pwr, .supply, .upd, .engines] fun b =>
        b.engIn 0 = false ∧ b.pwr.leadOk = false ∧ b.pwr.hold.isSome = true)
  ∧ (∀ s, s.block.sys.mstate ≠ .off → s.block.pwr.resCtl = false → Happens (.partFault (.engine .reserve)) s [.pwr, .supply] fun b =>
      b.pwr = { s.block.pwr with resOk := false })
  ∧ (∀ s (n : Fin 2), s.block.sys.mstate ≠ .off → s.block.feedOk n = true → s.block.feedOk (1 - n.val) = true →
      Happens (.partFault (.feed n)) s [.sys, .pwr, .supply] fun b => b.feedOk n = false ∧ b.sys.takeovers = s.block.sys.takeovers + 1)
  ∧ (∀ s (n : Fin 2), s.block.sys.mstate ≠ .off → Happens (.partFault (.flashSlot n)) s [.sys] fun b =>
      b.sys = { s.block.sys with takeovers := s.block.sys.takeovers + 1 })
  ∧ (∀ s (n : Fin 2), s.block.sys.mstate ≠ .off → Happens (.partFault (.can n)) s [.sys, .net] fun b =>
      b.sys = { s.block.sys with takeovers := s.block.sys.takeovers + 1 } ∧ (b.net.cans[n.val]?.all fun c => !c.on) = true)
  ∧ (∀ s (n : Fin 2), s.block.sys.mstate ≠ .off → (s.block.net.cages.any fun g => g.up) = true →
      Happens (.partFault (.sfp n)) s [.sys, .net] fun b => (b.net.cages[n.val]?.all fun g => !g.up) = true)
  ∧ (∀ s, s.block.sys.mstate ≠ .off → s.block.pwr.sdsOk = true → Happens (.partFault .sds) s [.pwr, .supply] fun b => b.pwr = { s.block.pwr with sdsOk := false })
  ∧ (∀ s, s.block.sys.mstate ≠ .off → Happens (.partFault .kennel) s [.pwr, .supply] fun b => b.pwr = { s.block.pwr with kenOk := false })
  ∧ (∀ s, s.block.sys.mstate ≠ .off → Happens (.partFault .takeoverMonitor) s [.pwr, .supply] fun b => b.pwr = { s.block.pwr with tmonOk := false })
  ∧ (∀ s p, s.block.sys.mstate ≠ .off → s.block.log.fast = [] → p ∈ [(Part.feedDiode 0, Event.feedLost.code), (.feedDiode 1, Event.feedLost.code), (.holdupStore, Event.holdupLow.code),
        (.coreRegulator 0, Event.regFault.code), (.coreRegulator 1, Event.regFault.code), (.latRegulator 0, Event.regFault.code), (.latRegulator 1, Event.regFault.code)] →
      Happens (.partFault p.1) s [] fun b => ∃ r ∈ b.log.fast, r.code = p.2)
  ∧ (∀ s k, s.block.sys.mstate ≠ .off → s.block.log.fast = [] → Happens (.partFault (.hingeRegister k)) s [] fun b => ∃ r ∈ b.log.fast, r.code = Event.hingeFault.code ∧ r.arg0 = k)
  ∧ (∀ s e, s.block.sys.mstate ≠ .off → s.block.sec.released = true → e ∈ [Engine.f0, .f1, .f2, .f3, .c0, .c1, .s0, .s1] → s.block.engIn e.ctorIdx = false →
      Happens (.engineRestartDone e) s [.sys] fun b => b.sys = { s.block.sys with engSvc := (s.block.sys.engSvc.set e.ctorIdx true) })
  ∧ (∀ s e, s.block.sys.mstate ≠ .off → s.block.sec.released = true → e ∈ [Engine.sa, .sb] → s.block.latch.lockstep = false →
      Happens (.engineRestartDone e) s [.latch] fun b => b.latch = { s.block.latch with restartAt := some s.block.sys.now })
  ∧ (∀ s, s.block.sys.mstate ≠ .off → s.block.sec.released = true → s.block.pwr.resCtl = true → s.block.pwr.leadHeld = false → s.block.pwr.cleanAt = none →
      Happens (.engineRestartDone .lead) s [.pwr, .supply] fun b => b.pwr = { s.block.pwr with cleanAt := some s.block.sys.now, leadOk := true })

/-! ### Start, secure boot and debugging (00, 15_security_and_debug.md) -/

/-- R19, R470, R496, R524, R526: POWER_START takes Off to BOOT and selects the slot; Lead is released from the selected slot, else from the other, else not at all; the other
engines are loaded, and the module is in PARK once all are and the Latch is armed.
Part of it rests on the model's own choice (log entries 29 and 47). -/
def Obligations.ModuleStartsFromTheSelectedSlot : Prop :=
  (∀ s, s.block.sys.mstate = .off → s.block.latch.state.acting = false → s.block.upd.recA.valid = true ∨ s.block.upd.recB.valid = true →
      s.block.upd.record.trial = false → Happens .powerStart s [.sys, .pwr, .supply, .sec, .upd] fun b =>
        b.sys = { s.block.sys with mstate := .boot, now := 0 } ∧ b.pwr.hubOn = true ∧ b.sec.selSlot = s.block.upd.record.active ∧ b.sec.slot = s.block.upd.record.active
        ∧ b.upd = { s.block.upd with fellBack := false })
  ∧ (∀ s, s.block.sys.mstate = .off → s.block.latch.state.acting = false → s.block.upd.recA.valid = false → s.block.upd.recB.valid = false →
      Happens .powerStart s [.sys, .pwr, .supply, .sec, .upd] fun b =>
        b.sys.mstate = .boot ∧ b.sec.slot = 0 ∧ b.upd.record.valid = true ∧ b.upd.record.active = 0 ∧ b.upd.record.trial = false ∧ b.upd.fellBack = false)
  ∧ (∀ s, s.block.sys.mstate = .off → s.block.latch.state.acting = false → s.block.upd.recA.valid = true → s.block.upd.recB.valid = false →
      s.block.upd.recA.trial = true → s.block.upd.recA.gen < 4294967295 → Happens .powerStart s [.sys, .pwr, .supply, .sec, .upd] fun b =>
        b.sys.mstate = .boot ∧ b.upd.record.gen = s.block.upd.recA.gen + 1
        ∧ (s.block.upd.recA.tries < 3 → b.sec.slot = s.block.upd.recA.active ∧ b.upd.record.tries = s.block.upd.recA.tries + 1 ∧ b.upd.fellBack = false)
        ∧ (3 ≤ s.block.upd.recA.tries → b.sec.slot = s.block.upd.recA.prev ∧ b.upd.record.trial = false ∧ b.upd.record.active = s.block.upd.recA.prev ∧ b.upd.fellBack = true))
  ∧ (∀ s, s.block.sys.mstate = .off → s.block.latch.state.acting = true → s.block.hinge = false →
      Happens .powerStart s ([.sec, .upd] ++ controlled) fun b => b.sys.mstate = .safe)
  ∧ (∀ s, s.block.sys.mstate = .boot → s.block.sec.released = false → s.block.sec.dead = false → s.block.targetCode s.block.sec.selSlot 1 = 0 →
      Happens .leadRelease s [.sys, .sec, .pwr, .supply, .keep, .flt, .upd] fun b =>
        b.sec.released = true ∧ b.sec.slot = s.block.sec.selSlot ∧ b.sec.alt = false ∧ b.sec.releasedAt = s.block.sys.now ∧ b.pwr.leadOk = true
        ∧ b.engIn 0 = (!s.block.sys.engSvc.isEmpty) ∧ b.sys.mstate = .boot ∧ b.upd = s.block.upd
        ∧ (∀ w ∈ s.block.log.word, b.log.pcyc = w.pcyc + 1 ∧ b.log.opBoot = (if w.secured then w.optime else w.optime + 1000)))
  ∧ (∀ s, s.block.sys.mstate = .boot → s.block.sec.released = false → s.block.sec.dead = false → s.block.targetCode s.block.sec.selSlot 1 ≠ 0 →
      s.block.targetCode (1 - s.block.sec.selSlot) 1 = 0 → Happens .leadRelease s [.sys, .sec, .pwr, .supply, .keep, .flt, .upd] fun b =>
        b.sec.released = true ∧ b.sec.slot = 1 - s.block.sec.selSlot ∧ b.sec.alt = true ∧ b.sec.bootErr = s.block.targetCode s.block.sec.selSlot 1
        ∧ b.upd.record.active = 1 - s.block.sec.selSlot ∧ b.upd.record.trial = false)
  ∧ (∀ s, s.block.sys.mstate = .boot → s.block.sec.released = false → s.block.sec.dead = false → s.block.targetCode s.block.sec.selSlot 1 ≠ 0 →
      s.block.targetCode (1 - s.block.sec.selSlot) 1 ≠ 0 → Happens .leadRelease s [.sec] fun b =>
        b.sec = { s.block.sec with bootErr := s.block.targetCode (1 - s.block.sec.selSlot) 1, errTgt := 1, dead := true })
  ∧ (∀ s, s.block.sys.mstate = .boot → s.block.sec.released = true → s.block.sec.loaded = false → s.block.settled = true →
      Ends .engineLoadDone s fun b =>
        b.sec.loaded = (([2, 3, 4, 5, 6].all fun t => decide (s.block.targetCode s.block.sec.slot t = 0)))
        ∧ (b.sec.loaded = true → b.sys.mstate = (if s.block.latch.state = .armed ∧ s.block.hinge = false then .park else .boot)
            ∧ ∀ e, 2 ≤ e → e ≤ 12 → e < s.block.sys.engSvc.length → b.engIn e = true)
        ∧ (([3, 4, 5, 6].any fun t => decide (s.block.targetCode s.block.sec.slot t ≠ 0)) = true → s.block.hinge = false → b.sys.mstate = .fault)
        ∧ (s.block.targetCode s.block.sec.slot 2 ≠ 0 → b.latch.lockstep = false)
        ∧ b.upd.bver = s.block.slotBver s.block.sec.slot
        ∧ b.upd.ustate = (if s.block.upd.record.trial = true ∧ s.block.upd.record.active = s.block.sec.slot then 8 else 0)
        ∧ b.upd.confEnd = (if s.block.upd.record.trial = true ∧ s.block.upd.record.active = s.block.sec.slot then some (600 * secT) else none))

/-- R473, R474, R475, R476, R479: the debug port answers as the debug state lets it; an open state ends at its time, and the exit sequence restarts what was touched.
Part of it rests on the model's own choice (log entry 3). -/
def Obligations.DebugPortAnswersAsItsStateAllows : Prop :=
  (∀ s part op, s.block.sys.mstate = .off → Happens (.debugAccess part op) s [.sec] fun b => b.sec = { s.block.sec with answer := .nothing })
  ∧ (∀ s, s.block.sys.mstate ≠ .off → Happens (.debugAccess .tap .idcode) s [.sec] fun b => b.sec = { s.block.sec with answer := .value 0x0512A0B3 })
  ∧ (∀ s op, s.block.sys.mstate ≠ .off → Happens (.debugAccess .never op) s [.sec] fun b => b.sec = { s.block.sec with answer := .refused })
  ∧ (∀ s e op, s.block.sys.mstate ≠ .off → s.block.sec.dstate = 0 → Happens (.debugAccess (.engine e) op) s [.sec] fun b => b.sec = { s.block.sec with answer := .refused })
  ∧ (∀ s e op, s.block.sys.mstate ≠ .off → e = .reserve ∨ e = .sa ∨ e = .sb → Happens (.debugAccess (.engine e) op) s [.sec] fun b =>
      b.sec = { s.block.sec with answer := .refused })
  ∧ (∀ s part op, s.block.sys.mstate ≠ .off → s.block.sec.dstate ≠ 2 → part ∈ [DbgPart.image 0, .flash 0, .keepStore 0, .kennel 0, .registers 0] →
      Happens (.debugAccess part op) s [.sec] fun b => b.sec = { s.block.sec with answer := .refused })
  ∧ (∀ s, s.block.sys.mstate ≠ .off → s.block.sys.mstate ≠ .hibernate → s.block.sec.dstate ≠ 0 → Happens (.debugAccess (.engine .p1) .halt) s [.sec] fun b =>
      b.sec = { s.block.sec with answer := .done, touched := (s.block.sec.touched.set 14 true), halted := (s.block.sec.halted.set 14 true) })
  ∧ (∀ s, s.block.sys.mstate ≠ .off → s.block.sys.mstate ≠ .hibernate → s.block.sec.dstate ≠ 0 → Happens (.debugAccess (.engine .p0) .resume) s [.sec] fun b =>
      b.sec = { s.block.sec with answer := .done, halted := (s.block.sec.halted.set 13 false) })
  ∧ (∀ s n, s.block.sys.mstate ≠ .off → s.block.sys.mstate ≠ .hibernate → s.block.sec.dstate ≠ 0 → n < 32 →
      Happens (.debugAccess (.engine .p0) (.readReg n)) s [.sec] fun b => b.sec = { s.block.sec with answer := .value ((s.block.pe 0).reg n).toNat })
  ∧ (∀ s n v, s.block.sys.mstate ≠ .off → s.block.sys.mstate ≠ .hibernate → s.block.sec.dstate ≠ 0 → 1 ≤ n → n < 32 → (s.block.pe 0).regs.length = 31 → s.block.pol.engines ≠ [] →
      Happens (.debugAccess (.engine .p0) (.writeReg n v)) s [.sec, .engines] fun b =>
        (b.pe 0).reg n = w32 v ∧ b.sec.answer = .done ∧ b.sec.touched = s.block.sec.touched.set 13 true ∧ ∀ m < 32, m ≠ n → (b.pe 0).reg m = (s.block.pe 0).reg m)
  ∧ (∀ s op, s.block.sys.mstate = .hibernate → s.block.sec.dstate ≠ 0 → op ∈ [DbgOp.resume, .step, .readReg 3, .writeReg 3 4, .readMem 0, .writeMem 0 1] →
      Happens (.debugAccess (.engine .p0) op) s [.sec] fun b => b.sec = { s.block.sec with answer := .gated })
  ∧ (∀ s e, s.block.sys.mstate ≠ .off → s.block.sec.dstate = 2 → e ∈ [Engine.lead, .f0, .f1, .f2, .f3, .c0, .c1, .s0, .s1, .n0] →
      Happens (.debugAccess (.engine e) .halt) s [.sec] fun b =>
        b.sec = { s.block.sec with answer := .done, touched := (s.block.sec.touched.set e.ctorIdx true), halted := (s.block.sec.halted.set e.ctorIdx true) })
  ∧ (∀ s a x, s.block.sys.mstate ≠ .off → s.block.sec.dstate = 2 → Happens (.debugAccess (.flash a) (.readMem x)) s [.sec] fun b =>
      b.sec = { s.block.sec with answer := .value (leNat (memRead 0xFF#8 s.block.upd.flash a 4)) })
  ∧ (∀ s t, s.block.sec.openEnd = some t → s.block.sec.dstate ≠ 0 → Happens .debugOpenExpiry s [.sys, .sec] fun b =>
      b.sys.now = max s.block.sys.now t ∧ b.sec = { s.block.sec with dstate := 0, closing := true, openEnd := none, lastCause := 2 })
  ∧ (∀ s, s.block.sec.closing = true → maskOf s.block.sec.touched = 0 → Happens .debugCloseDone s [.sec] fun b =>
      b.sec = { s.block.sec with touched := List.replicate 15 false, halted := List.replicate 15 false, closing := false, fullCause := false })
  ∧ (∀ s, s.block.sec.closing = true → s.block.sec.dstate = 0 → s.block.sec.touched.getD 0 false = false → s.block.settled = true → Ends .debugCloseDone s fun b =>
      b.sec.touched = List.replicate 15 false ∧ b.sec.halted = List.replicate 15 false ∧ b.sec.closing = false ∧ b.sec.fullCause = false ∧ b.sec.dstate = 0)

/-- R476, R477, R478, R480, R481, R471, R472: the debug and key commands; a debug state opens, and a key is enrolled or revoked, only against a valid signature, or the
first key with the reset contact held.
Part of it rests on the model's own choice (log entries 3, 12, 52 and 61). -/
def Obligations.DebugAndKeyCommandsNeedSignatures : Prop :=
  (∀ s src, Serves (.secGetDebug src) s src 0x0D01 false [] .ok (wordsBytes ((s.block.frontTile 0x16).take 4)) fun _ => True)
  ∧ (∀ s src state, state = 1 ∨ state = 2 → s.block.sys.mstate ≠ .hibernate → s.block.sec.closing = false →
      Serves (.secDebugChallenge src state) s src 0x0D02 true [.sys, .sec] .ok (leBytes 1 state ++ s.block.random32 ++ s.block.serialBytes) fun b =>
        b.sec = { s.block.sec with nonce := some (src.index, state, s.block.random32, s.block.sys.now) } ∧ b.sys.drawn = s.block.sys.drawn + 4)
  ∧ (∀ s src minutes signer key sig, key.length = 96 → sig.length = 96 → s.block.sec.dstate ≠ 0 →
      Serves (.secDebugSet src 0 minutes signer key sig) s src 0x0D03 true [.sec] .ok [] fun b =>
        b.sec = { s.block.sec with dstate := 0, closing := true, openEnd := none, lastCause := 1 })
  ∧ (∀ s src minutes signer key sig n k, s.block.debugStateOk 1 = true → s.block.sec.dstate = 0 → key = List.replicate 96 0#8 → sig.length = 96 → 1 ≤ minutes → minutes ≤ 480 →
      signer ≤ 3 → s.block.nonceFor src 1 = some n → s.block.sec.store.keys.getD signer none = some k →
      ecdsaOk k sig (n ++ s.block.serialBytes ++ leBytes 1 1 ++ leBytes 2 minutes ++ leBytes 1 signer) = true →
      Serves (.secDebugSet src 1 minutes signer key sig) s src 0x0D03 true [.sec] .ok [] fun b =>
        b.sec = { s.block.sec with nonce := none, dstate := 1, openEnd := some (s.block.sys.now + minutes * 60 * secT), opens := s.block.sec.opens + 1 })
  ∧ (∀ s src minutes signer key sig n k, s.block.debugStateOk 1 = true → s.block.sec.dstate = 0 → key = List.replicate 96 0#8 → sig.length = 96 → 1 ≤ minutes → minutes ≤ 480 →
      signer ≤ 3 → s.block.nonceFor src 1 = some n → s.block.sec.store.keys.getD signer none = some k →
      ecdsaOk k sig (n ++ s.block.serialBytes ++ leBytes 1 1 ++ leBytes 2 minutes ++ leBytes 1 signer) = false →
      Serves (.secDebugSet src 1 minutes signer key sig) s src 0x0D03 true [.sec] .denied [] fun b =>
        b.sec = { s.block.sec with nonce := none, denies := satAdd 255 s.block.sec.denies 1 })
  ∧ (∀ s src minutes key sig n, s.block.sys.mstate = .park → s.block.hinge = false → s.block.latch.saOk = true → s.block.sec.closing = false → key.length = 96 →
      sig.length = 96 → 1 ≤ minutes → minutes ≤ 480 → s.block.nonceFor src 2 = some n → sha384 key = s.block.sec.dkh →
      ecdsaOk key sig (n ++ s.block.serialBytes ++ leBytes 1 2 ++ leBytes 2 minutes ++ leBytes 1 0xFF) = true →
      Serves (.secDebugSet src 2 minutes 0xFF key sig) s src 0x0D03 true ([.sec] ++ controlled) .ok [] fun b =>
        b.sec.dstate = 2 ∧ b.sec.openEnd = some (s.block.sys.now + minutes * 60 * secT) ∧ b.sec.fullCause = true ∧ b.sys.mstate = .fault
        ∧ (.debugFullOpen, noArg) ∈ b.sys.faultCauses)
  ∧ (∀ s src slot key, s.block.sys.mstate = .park → slot ≤ 3 → key.length = 96 → s.block.slotHeld slot = false → onP384 key = true →
      (s.block.sec.store.keys.all fun x => x.isNone) = true → s.block.latch.srst = true → s.block.sec.store.gen < 4294967295 →
      Serves (.secKeyEnroll src slot key 0xFF (List.replicate 96 0#8)) s src 0x0D04 true [.sec] .ok (leBytes 4 (s.block.sec.store.gen + 1)) fun b =>
        b.sec.store.gen = s.block.sec.store.gen + 1 ∧ b.sec.store.keys = s.block.sec.store.keys.set slot (some key))
  ∧ (∀ s src slot key signer sig, s.block.sys.mstate = .park → slot ≤ 3 → key.length = 96 → sig.length = 96 → s.block.slotHeld slot = false → onP384 key = true →
      (s.block.sec.store.keys.all fun x => x.isNone) = false → s.block.signedBy signer 1 slot key sig = true → s.block.sec.store.gen < 4294967295 →
      Serves (.secKeyEnroll src slot key signer sig) s src 0x0D04 true [.sec] .ok (leBytes 4 (s.block.sec.store.gen + 1)) fun b =>
        b.sec.store.gen = s.block.sec.store.gen + 1 ∧ b.sec.store.keys = s.block.sec.store.keys.set slot (some key))
  ∧ (∀ s src slot key signer sig, s.block.sys.mstate = .park → slot ≤ 3 → key.length = 96 → sig.length = 96 → s.block.slotHeld slot = false → onP384 key = true →
      (s.block.sec.store.keys.all fun x => x.isNone) = false → s.block.signedBy signer 1 slot key sig = false →
      Serves (.secKeyEnroll src slot key signer sig) s src 0x0D04 true [] .denied [] fun _ => True)
  ∧ (∀ s src slot signer sig, slot ≤ 3 → sig.length = 96 → s.block.slotHeld slot = true → s.block.signedBy signer 2 slot (List.replicate 96 0#8) sig = true →
      s.block.sec.store.gen < 4294967295 → Serves (.secKeyRevoke src slot signer sig) s src 0x0D05 true [.sec] .ok (leBytes 4 (s.block.sec.store.gen + 1)) fun b =>
        b.sec.store.gen = s.block.sec.store.gen + 1 ∧ b.sec.store.keys = s.block.sec.store.keys.set slot none)
  ∧ (∀ s src slot signer sig, slot ≤ 3 → sig.length = 96 → s.block.slotHeld slot = true → s.block.signedBy signer 2 slot (List.replicate 96 0#8) sig = false →
      Serves (.secKeyRevoke src slot signer sig) s src 0x0D05 true [] .denied [] fun _ => True)
  ∧ (∀ s src, Serves (.secKeyList src) s src 0x0D06 false [] .ok (leBytes 4 s.block.sec.store.gen ++ leBytes 4 s.block.sec.store.minP0 ++ leBytes 4 s.block.sec.store.minP1
      ++ (List.range 4).flatMap fun i => match s.block.sec.store.keys.getD i none with
        | some q => leBytes 1 1 ++ q
        | none => leBytes 1 0 ++ List.replicate 96 0#8) fun _ => True)

/-! ### Flash, firmware update and settings (16_firmware_update.md) -/

/-- R485, R486, R489 to R493: an update is begun by erasing the inactive slot, received block by block, and verified with the first code that applies. -/
def Obligations.UpdatesAreReceivedAndVerified : Prop :=
  (∀ s src length bcrc, s.block.upd.ustate = 0 ∨ s.block.upd.ustate = 5 → s.block.sys.mstate ≠ .boot → s.block.sys.mstate ≠ .hibernate → s.block.pwr.resCtl = false →
      s.block.sec.dstate = 0 → 2048 ≤ length → length ≤ 14680064 → Begins (.updBegin src length bcrc) s src 0x0B01 true [.upd] fun b =>
        b.upd.ustate = 1 ∧ b.upd.length = length ∧ b.upd.bcrc = bcrc ∧ b.upd.written = [] ∧ b.upd.src = some src ∧ b.upd.recA = s.block.upd.recA ∧ b.upd.recB = s.block.upd.recB
        ∧ b.upd.flash = memErase (slotBase s.block.inactive) (slotBase s.block.inactive + regionSize) s.block.upd.flash
        ∧ b.upd.copies s.block.inactive = (none, none) ∧ b.upd.setSchema = s.block.upd.setSchema ∧ b.upd.bver = s.block.upd.bver)
  ∧ (∀ s i q, s.block.upd.ustate = 1 → s.block.upd.src = some (.session i q) → (s.block.entry? i q).isSome = true → Happens (.updEraseDone true) s [.upd, .ix, .pwr] fun b =>
      b.answered (.session i q) .ok [] ∧ b.upd = { s.block.upd with ustate := 2, src := none })
  ∧ (∀ s src off data, s.block.upd.ustate = 2 → off % 1024 = 0 → 1 ≤ data.length → data.length ≤ 1024 → off + data.length ≤ s.block.upd.length →
      data.length = 1024 ∨ off + data.length = s.block.upd.length → s.block.upd.written.contains (off / 1024) = false → s.block.pfWarn = false →
      Serves (.updBlock src off data true) s src 0x0B02 true [.upd] .ok [] fun b =>
        b.upd = { s.block.upd with waiting := none, flash := memWrite 0xFF#8 (slotBase s.block.inactive + off) data s.block.upd.flash,
                                   written := insertIdx (off / 1024) s.block.upd.written })
  ∧ (∀ s src off data, s.block.upd.ustate = 2 → off % 1024 = 0 → 1 ≤ data.length → data.length ≤ 1024 → off + data.length ≤ s.block.upd.length →
      data.length = 1024 ∨ off + data.length = s.block.upd.length → s.block.upd.written.contains (off / 1024) = false → s.block.pfWarn = false →
      Serves (.updBlock src off data false) s src 0x0B02 true [.upd] .fault [] fun b =>
        (∀ k ∈ b.upd.written, k ∈ s.block.upd.written ∧ k / 4 ≠ off / 4096)
        ∧ b.upd.flash = memErase (slotBase s.block.inactive + 4096 * (off / 4096)) (slotBase s.block.inactive + 4096 * (off / 4096) + 4096) s.block.upd.flash)
  ∧ (∀ s src off data ok, s.block.upd.ustate = 2 → off % 1024 = 0 → 1 ≤ data.length → data.length ≤ 1024 → off + data.length ≤ s.block.upd.length →
      data.length = 1024 ∨ off + data.length = s.block.upd.length → s.block.upd.written.contains (off / 1024) = true →
      Serves (.updBlock src off data ok) s src 0x0B02 true [] (if s.block.flashAt s.block.inactive off data.length = data then .ok else .badParam) [] fun _ => True)
  ∧ (∀ s src off data ok, s.block.upd.ustate = 2 → off % 1024 = 0 → 1 ≤ data.length → data.length ≤ 1024 → off + data.length ≤ s.block.upd.length →
      data.length = 1024 ∨ off + data.length = s.block.upd.length → s.block.upd.written.contains (off / 1024) = false → s.block.pfWarn = true →
      Begins (.updBlock src off data ok) s src 0x0B02 true [.upd] fun b => b.upd = { s.block.upd with waiting := some (src, off, data) })
  ∧ (∀ s src, s.block.upd.ustate = 2 → s.block.upd.firstMiss = none → Begins (.updVerify src) s src 0x0B03 true [.upd] fun b =>
      b.upd = { s.block.upd with ustate := 3, src := some src })
  ∧ (∀ s i q, s.block.upd.ustate = 3 → s.block.upd.src = some (.session i q) → (s.block.entry? i q).isSome = true → Happens .updVerifyDone s [.upd, .ix, .pwr] fun b =>
      b.answered (.session i q) (if s.block.verifyResult.1 = 0 then .ok else if 3 ≤ s.block.verifyResult.1 ∧ s.block.verifyResult.1 ≤ 5 then .denied else .fault)
        (leBytes 1 s.block.verifyResult.1 ++ leBytes 1 s.block.verifyResult.2)
      ∧ b.upd.ustate = (if s.block.verifyResult.1 = 0 then 4 else 5) ∧ b.upd.lastErr = s.block.verifyResult.1 ∧ b.upd.src = none ∧ b.upd.flash = s.block.upd.flash
      ∧ (s.block.verifyResult.1 = 0 → b.upd.newBver = s.block.slotBver s.block.inactive ∧ b.upd.hashes = s.block.slotHashes s.block.inactive))
  ∧ (∀ s src, Serves (.updGetStatus src) s src 0x0B07 false [] .ok (wordsBytes ((s.block.frontTile 0x10).take 14)) fun _ => True)

/-- R497 to R503, R505, R506: a verified bundle is armed or activated under a pause and a hold, confirmed, aborted or reverted; settings are written to the copy not in force.
Part of it rests on the model's own choice (log entries 34, 50, 51 and 52). -/
def Obligations.BundlesAreActivatedConfirmedOrReverted : Prop :=
  (∀ s src, s.block.upd.ustate = 4 → s.block.liveOk = true → s.block.saifMatches = false → s.block.upd.record.gen < 4294967295 →
      Serves (.updActivate src) s src 0x0B04 true [.upd] .ok (leBytes 1 1) fun b =>
        b.upd.ustate = 9 ∧ b.upd.record.trial = true ∧ b.upd.record.active = s.block.inactive ∧ b.upd.record.prev = s.block.sec.slot ∧ b.upd.record.tries = 0)
  ∧ (∀ s src, s.block.upd.ustate = 4 → s.block.liveOk = true → s.block.saifMatches = true → s.block.stillGood s.block.inactive = true → s.block.upd.record.gen < 4294967295 →
      Begins (.updActivate src) s src 0x0B04 true [.upd] fun b =>
        b.upd.ustate = 6 ∧ b.upd.src = some src ∧ b.upd.reverting = false ∧ b.upd.record.trial = true ∧ b.upd.record.active = s.block.inactive
        ∧ b.upd.record.prev = s.block.sec.slot)
  ∧ (∀ s src, s.block.upd.ustate = 4 → s.block.liveOk = true → s.block.saifMatches = true → s.block.stillGood s.block.inactive = false →
      Serves (.updActivate src) s src 0x0B04 true [.upd] .fault [] fun b => b.upd = { s.block.upd with ustate := 5 })
  ∧ (∀ s, s.block.upd.ustate = 6 → s.block.hinge = false → s.block.upd.pauseAt = none → Happens .activationPause s [.sys, .bal, .pwr, .supply, .upd] fun b =>
      b.upd = { s.block.upd with ustate := 7, pauseAt := some s.block.sys.now } ∧ b.sys.now = s.block.sys.now + 40000 ∧ b.pwr.hold = some b.sys.now ∧ b.pwr.hcause = 2
      ∧ b.pwr.ckSeq = (s.block.pwr.ckSeq + 1) % 4294967296 ∧ b.paused = true)
  ∧ (∀ s t q i k, s.block.pwr.hold = some t → s.block.pwr.hcause = 2 → s.block.latch.state.acting = false → s.block.upd.pauseAt = some q → s.block.pwr.stateDue = none → s.block.pwr.lossDue = false →
      s.block.waitingRequests = [] → s.block.ix.held = [] → s.block.upd.src = some (.session i k) → (s.block.entry? i k).isSome = true → s.block.settled = true →
      Ends .hingeHoldEnd s fun b =>
        b.sys.now = max s.block.sys.now (q + 4100000) ∧ b.pwr.hold = none ∧ b.upd.pauseAt = none ∧ b.paused = false ∧ b.sec.slot = s.block.inactive
        ∧ b.upd.bver = s.block.slotBver s.block.inactive ∧ b.upd.ustate = (if s.block.upd.reverting then 0 else 8)
        ∧ b.upd.confEnd = (if s.block.upd.reverting then none else some (b.sys.now + 600 * secT)) ∧ b.answered (.session i k) .ok (leBytes 1 0))
  ∧ (∀ s src, s.block.upd.ustate = 8 → s.block.upd.record.gen < 4294967295 → Serves (.updConfirm src) s src 0x0B05 true [.upd, .sec] .ok [] fun b =>
      b.upd.ustate = 0 ∧ b.upd.confEnd = none ∧ b.upd.dflt = false ∧ b.upd.record.trial = false ∧ b.upd.record.active = s.block.sec.slot
      ∧ b.upd.record.gen = s.block.upd.record.gen + 1 ∧ (s.block.sec.vmin ≤ 64 → s.block.sec.vmin ≤ b.sec.vmin) ∧ s.block.sec.store.minP0 ≤ b.sec.store.minP0)
  ∧ (∀ s src, s.block.upd.ustate = 8 → s.block.upd.record.gen < 4294967295 → Serves (.updAbort src) s src 0x0B06 true [.upd] .ok [] fun b =>
      b.upd.ustate = 10 ∧ b.upd.confEnd = none ∧ b.upd.record.trial = false ∧ b.upd.record.active = s.block.upd.record.prev)
  ∧ (∀ s src, s.block.upd.ustate = 9 → s.block.upd.record.gen < 4294967295 → Serves (.updAbort src) s src 0x0B06 true [.upd] .ok [] fun b =>
      b.upd.ustate = 0 ∧ b.upd.record.trial = false ∧ b.upd.record.active = s.block.sec.slot)
  ∧ (∀ s src, 1 ≤ s.block.upd.ustate → s.block.upd.ustate ≤ 5 → s.block.upd.src = none → s.block.upd.waiting = none → Serves (.updAbort src) s src 0x0B06 true [.upd] .ok [] fun b =>
      b.upd = { s.block.upd with ustate := 0 })
  ∧ (∀ s t, s.block.upd.confEnd = some t → s.block.upd.ustate = 8 → s.block.upd.record.gen < 4294967295 → Happens .updConfirmTimeout s [.sys, .upd] fun b =>
      b.sys.now = max s.block.sys.now t ∧ b.upd.ustate = 10 ∧ b.upd.confEnd = none ∧ b.upd.record.trial = false ∧ b.upd.record.active = s.block.upd.record.prev)
  ∧ (∀ s t, s.block.upd.setDue = some t → s.block.sys.mstate ≠ .off → s.block.pfWarn = false → (∀ c ∈ s.block.upd.copyInForce s.block.sec.slot, c.gen < 4294967295) →
      Happens (.settingsWrite true) s [.sys, .upd] fun b =>
        b.upd.setDue = none ∧ b.upd.setAt = some b.sys.now ∧ (b.upd.copyInForce s.block.sec.slot).map (·.body) = some s.block.settings
        ∧ (b.upd.copyInForce s.block.sec.slot).map (·.gen) = some (((s.block.upd.copyInForce s.block.sec.slot).map fun c => c.gen + 1).getD 1)
        ∧ (b.upd.copyInForce s.block.sec.slot).map (·.origin) = some s.block.upd.setOrigin ∧ (s.block.sec.slot ≤ 1 → b.upd.copies (1 - s.block.sec.slot) = s.block.upd.copies (1 - s.block.sec.slot)))
  ∧ (∀ s t, s.block.upd.setDue = some t → s.block.sys.mstate ≠ .off → s.block.pfWarn = false → Happens (.settingsWrite false) s [.sys, .upd] fun b =>
      b.upd.setDue = none ∧ b.upd.copyInForce s.block.sec.slot = s.block.upd.copyInForce s.block.sec.slot ∧ b.upd.setGen = s.block.upd.setGen)
  ∧ (∀ s i q, s.block.upd.ustate = 1 → s.block.upd.src = some (.session i q) → (s.block.entry? i q).isSome = true → Happens (.updEraseDone false) s [.upd, .ix, .pwr] fun b =>
      b.answered (.session i q) .fault [] ∧ b.upd = { s.block.upd with ustate := 5, src := none })

/-! ### The event recorder and learned values (17_nonvolatile_data.md) -/

/-- R517, R518, R519: an event writes one Fast record with the next sequence number while the Fast log has room; one of severity Info, Warning or Fault also queues one Keep
record, a Trace event none.
Part of it rests on the model's own choice (log entry 8). -/
def Obligations.EventsWriteTheirRecords : Prop :=
  (∀ (e : Event) (arg0 : Nat) (data : List Nat) (b : Block), e.severity ≠ .safety → b.log.fast.length < 65536 →
      (note e arg0 data b).log.fast = b.log.fast ++ [{ seq := b.log.fHead, optime := b.optime, code := e.code, sev := e.severity, kept := decide (e.severity ≠ .trace), safOvf := false, src := e.source, arg0 := arg0, data := data.take 3 }] ∧ (note e arg0 data b).log.fHead = b.log.fHead + 1)
  ∧ (∀ (e : Event) (arg0 : Nat) (data : List Nat) (b : Block), e.severity ≠ .safety → e.severity ≠ .trace → b.log.queue.length < 256 →
      (note e arg0 data b).log.queue = b.log.queue ++ [{ seq := b.log.kHead, optime := b.optime, code := e.code, pcyc := b.log.pcyc, ptp := b.ptpStamp, sev := e.severity, resv := false, src := e.source, arg0 := arg0, data := data.take 6, crcOk := true }] ∧ (note e arg0 data b).log.kHead = b.log.kHead + 1)
  ∧ (∀ (e : Event) (arg0 : Nat) (data : List Nat) (b : Block), e.severity = .trace →
      (note e arg0 data b).log.queue = b.log.queue ∧ (note e arg0 data b).log.kHead = b.log.kHead)
  ∧ (∀ (e : Event) (arg0 : Nat) (data : List Nat) (b : Block), e.severity = .safety → b.log.reserveTaken < 1024 → b.log.queue.length < 256 →
      (note e arg0 data b).log.queue = b.log.queue ++ [{ seq := b.log.kHead, optime := b.optime, code := e.code, pcyc := b.log.pcyc, ptp := b.ptpStamp, sev := .safety, resv := true, src := e.source, arg0 := arg0, data := data.take 6, crcOk := true }] ∧ (note e arg0 data b).log.safeFull = b.log.safeFull)
  ∧ (∀ (e : Event) (arg0 : Nat) (data : List Nat) (b : Block), e.severity = .safety → 1024 ≤ b.log.reserveTaken →
      (note e arg0 data b).log.safeFull = true ∧ (note e arg0 data b).log.safOvfN = b.log.safOvfN + 1
      ∧ (note e arg0 data b).log.queue.length ≤ b.log.queue.length + 1)
  ∧ (∀ (e : Event) (arg0 : Nat) (data : List Nat) (b : Block), (note e arg0 data b).keepPart = b.keepPart ∧ (note e arg0 data b).sys = b.sys)

/-- R523, R525, R529, R531, R534: the recorder's writes and commands, and the end of a save.
Part of it rests on the model's own choice (log entry 3). -/
def Obligations.RecordsAreKeptReadAndNoted : Prop :=
  (∀ s (n : Fin 3) r rest, n.val < 2 → s.block.hinge = false → s.block.sys.mstate ≠ .off → s.block.log.queue = r :: rest → rest.length < 256 →
      Happens (.keepWrite n) s [.keep] fun b =>
        rest <+: b.log.queue ∧ (r.resv = true → r ∈ b.log.keepRes) ∧ (r.resv = false → s.block.log.keepGen.length < 15360 → r ∈ b.log.keepGen)
        ∧ ∀ x ∈ s.block.log.keepRes, x ∈ b.log.keepRes)
  ∧ (∀ s r rest, s.block.hinge = false → s.block.sys.mstate ≠ .off → s.block.log.queue = r :: rest → rest.length < 256 → Happens (.keepWrite 2) s [.sys] fun b =>
      rest <+: b.log.queue ∧ b.log.kDisc = satAdd 4294967295 s.block.log.kDisc 1 ∧ b.sys = { s.block.sys with drawn := s.block.sys.drawn + 1 })
  ∧ (∀ s, s.block.hinge = true → Happens (.keepWrite 0) s [] fun b => b.log = s.block.log)
  ∧ (∀ s, s.block.sys.mstate ≠ .off → s.block.sec.released = true → Happens .timeWordWrite s [.sys, .keep] fun b =>
      b.sys.now = s.block.nextMultiple secT
      ∧ (if s.block.log.nextWord = 0 then b.log.word0 else b.log.word1) = { optime := s.block.log.opBoot + b.sys.now / msT, pcyc := s.block.log.pcyc, secured := false, valid := true }
      ∧ (if s.block.log.nextWord = 0 then b.log.word1 = s.block.log.word1 else b.log.word0 = s.block.log.word0) ∧ b.log.nextWord = (if s.block.log.nextWord = 0 then 1 else 0))
  ∧ (∀ s src first count sev, 1 ≤ count → count ≤ 256 → sev ≤ 4 → Serves (.logReadFast src first count sev 0) s src 0x0C01 false [] .ok
      (logReply s.block.log.fHead s.block.log.fTail 0
        (((s.block.log.fast.filter fun r => decide (first ≤ r.seq) && decide (sev ≤ r.sev.rank)).take count).map FastRec.bytes)) fun b => b.log = s.block.log)
  ∧ (∀ s src first count sev area, 1 ≤ count → count ≤ 128 → sev ≤ 4 → area ≤ 2 → ((s.block.log.area area).all fun r => r.crcOk) = true →
      Serves (.logReadKeep src first count sev area 0) s src 0x0C02 false [] .ok
        (logReply s.block.log.kHead s.block.log.kTail 0
          ((((s.block.log.area area).filter fun r => decide (first ≤ r.seq) && decide (sev ≤ r.sev.rank)).take count).map KeepRec.bytes)) fun b => b.log = s.block.log)
  ∧ (∀ s src first count sev area, 1 ≤ count → count ≤ 128 → sev ≤ 4 → area ≤ 2 →
      (((((s.block.log.area area).filter fun r => decide (first ≤ r.seq) && decide (sev ≤ r.sev.rank)).take count).filter fun r => !r.crcOk) ≠ []) →
      Serves (.logReadKeep src first count sev area 0) s src 0x0C02 false [] .fault
        (logReply s.block.log.kHead s.block.log.kTail
          ((((s.block.log.area area).filter fun r => decide (first ≤ r.seq) && decide (sev ≤ r.sev.rank)).take count).filter fun r => !r.crcOk).length
          ((((((s.block.log.area area).filter fun r => decide (first ≤ r.seq) && decide (sev ≤ r.sev.rank)).take count).filter fun r => r.crcOk)).map KeepRec.bytes)) fun _ => True)
  ∧ (∀ s src, Serves (.logGetPointers src) s src 0x0C03 false [] .ok (wordsBytes (s.block.frontTile 0x18 ++ (s.block.frontTile 0x19).take 9)) fun b => b.log = s.block.log)
  ∧ (∀ s src sev text, sev ≤ 3 → text.length ≤ 24 → (text.all fun c => decide (0x20 ≤ c.toNat ∧ c.toNat ≤ 0x7E)) = true → s.block.log.fast.length < 65536 →
      Serves (.logWriteNote src sev text) s src 0x0C04 true [] .ok (leBytes 8 (if sev = 0 then 0 else s.block.log.kHead)) fun b =>
        ∃ r ∈ b.log.fast, r.seq = s.block.log.fHead ∧ r.code = Event.logNote.code ∧ r.sev = sevOf sev ∧ r.src = src.recCode
          ∧ r.data = (List.range 3).map fun i => leField text (4 * i) 4)
  ∧ (∀ s v, s.block.flt.saving = some v → s.block.flt.saveAgain = none → s.block.flt.saveSrcs = [] → Happens (.saveDone true) s [.flt] fun b =>
      b.flt.saving = none ∧ (if v.toB then b.flt.copyB = v.copy ∧ b.flt.copyA = s.block.flt.copyA else b.flt.copyA = v.copy ∧ b.flt.copyB = s.block.flt.copyB)
      ∧ b.flt.saves = s.block.flt.saves + 1 ∧ b.flt.lastCause = v.cause ∧ b.flt.cells = s.block.flt.cells)
  ∧ (∀ s v, s.block.flt.saving = some v → s.block.flt.saveAgain = none → s.block.flt.saveSrcs = [] → Happens (.saveDone false) s [.flt] fun b =>
      b.flt.saving = none ∧ b.flt.copyA = s.block.flt.copyA ∧ b.flt.copyB = s.block.flt.copyB ∧ b.flt.saves = s.block.flt.saves ∧ b.flt.cells = s.block.flt.cells)
  ∧ (∀ s v i q ok, s.block.flt.saving = some v → s.block.flt.saveAgain = none → s.block.flt.saveSrcs = [(.session i q, false)] → (s.block.entry? i q).isSome = true →
      Happens (.saveDone ok) s [.flt, .ix, .pwr] fun b => b.answered (.session i q) (if ok then .ok else .fault) [] ∧ b.flt.saving = none)
end

