-- ==== Sys2Proof/Laws/State.lean ====
section
/-! SUPPORT. What each updater of a part leaves and what it changes: one lemma per part per updater, true by rfl. -/

namespace Sys2Proof.Machine

@[simp] theorem Block.onSys_sys (f : SysPart → SysPart) (b : Block) : (b.onSys f).sys = f b.sys := rfl
@[simp] theorem Block.onSys_log (f : SysPart → SysPart) (b : Block) : (b.onSys f).log = b.log := rfl
@[simp] theorem Block.onSys_ix (f : SysPart → SysPart) (b : Block) : (b.onSys f).ix = b.ix := rfl
@[simp] theorem Block.onSys_img (f : SysPart → SysPart) (b : Block) : (b.onSys f).img = b.img := rfl
@[simp] theorem Block.onSys_leash (f : SysPart → SysPart) (b : Block) : (b.onSys f).leash = b.leash := rfl
@[simp] theorem Block.onSys_ring (f : SysPart → SysPart) (b : Block) : (b.onSys f).ring = b.ring := rfl
@[simp] theorem Block.onSys_sense (f : SysPart → SysPart) (b : Block) : (b.onSys f).sense = b.sense := rfl
@[simp] theorem Block.onSys_bark (f : SysPart → SysPart) (b : Block) : (b.onSys f).bark = b.bark := rfl
@[simp] theorem Block.onSys_bal (f : SysPart → SysPart) (b : Block) : (b.onSys f).bal = b.bal := rfl
@[simp] theorem Block.onSys_flt (f : SysPart → SysPart) (b : Block) : (b.onSys f).flt = b.flt := rfl
@[simp] theorem Block.onSys_latch (f : SysPart → SysPart) (b : Block) : (b.onSys f).latch = b.latch := rfl
@[simp] theorem Block.onSys_cnv (f : SysPart → SysPart) (b : Block) : (b.onSys f).cnv = b.cnv := rfl
@[simp] theorem Block.onSys_imp (f : SysPart → SysPart) (b : Block) : (b.onSys f).imp = b.imp := rfl
@[simp] theorem Block.onSys_loop (f : SysPart → SysPart) (b : Block) : (b.onSys f).loop = b.loop := rfl
@[simp] theorem Block.onSys_thm (f : SysPart → SysPart) (b : Block) : (b.onSys f).thm = b.thm := rfl
@[simp] theorem Block.onSys_net (f : SysPart → SysPart) (b : Block) : (b.onSys f).net = b.net := rfl
@[simp] theorem Block.onSys_pwr (f : SysPart → SysPart) (b : Block) : (b.onSys f).pwr = b.pwr := rfl
@[simp] theorem Block.onSys_sec (f : SysPart → SysPart) (b : Block) : (b.onSys f).sec = b.sec := rfl
@[simp] theorem Block.onSys_upd (f : SysPart → SysPart) (b : Block) : (b.onSys f).upd = b.upd := rfl
@[simp] theorem Block.onSys_pol (f : SysPart → SysPart) (b : Block) : (b.onSys f).pol = b.pol := rfl
@[simp] theorem Block.onLog_sys (f : LogPart → LogPart) (b : Block) : (b.onLog f).sys = b.sys := rfl
@[simp] theorem Block.onLog_log (f : LogPart → LogPart) (b : Block) : (b.onLog f).log = f b.log := rfl
@[simp] theorem Block.onLog_ix (f : LogPart → LogPart) (b : Block) : (b.onLog f).ix = b.ix := rfl
@[simp] theorem Block.onLog_img (f : LogPart → LogPart) (b : Block) : (b.onLog f).img = b.img := rfl
@[simp] theorem Block.onLog_leash (f : LogPart → LogPart) (b : Block) : (b.onLog f).leash = b.leash := rfl
@[simp] theorem Block.onLog_ring (f : LogPart → LogPart) (b : Block) : (b.onLog f).ring = b.ring := rfl
@[simp] theorem Block.onLog_sense (f : LogPart → LogPart) (b : Block) : (b.onLog f).sense = b.sense := rfl
@[simp] theorem Block.onLog_bark (f : LogPart → LogPart) (b : Block) : (b.onLog f).bark = b.bark := rfl
@[simp] theorem Block.onLog_bal (f : LogPart → LogPart) (b : Block) : (b.onLog f).bal = b.bal := rfl
@[simp] theorem Block.onLog_flt (f : LogPart → LogPart) (b : Block) : (b.onLog f).flt = b.flt := rfl
@[simp] theorem Block.onLog_latch (f : LogPart → LogPart) (b : Block) : (b.onLog f).latch = b.latch := rfl
@[simp] theorem Block.onLog_cnv (f : LogPart → LogPart) (b : Block) : (b.onLog f).cnv = b.cnv := rfl
@[simp] theorem Block.onLog_imp (f : LogPart → LogPart) (b : Block) : (b.onLog f).imp = b.imp := rfl
@[simp] theorem Block.onLog_loop (f : LogPart → LogPart) (b : Block) : (b.onLog f).loop = b.loop := rfl
@[simp] theorem Block.onLog_thm (f : LogPart → LogPart) (b : Block) : (b.onLog f).thm = b.thm := rfl
@[simp] theorem Block.onLog_net (f : LogPart → LogPart) (b : Block) : (b.onLog f).net = b.net := rfl
@[simp] theorem Block.onLog_pwr (f : LogPart → LogPart) (b : Block) : (b.onLog f).pwr = b.pwr := rfl
@[simp] theorem Block.onLog_sec (f : LogPart → LogPart) (b : Block) : (b.onLog f).sec = b.sec := rfl
@[simp] theorem Block.onLog_upd (f : LogPart → LogPart) (b : Block) : (b.onLog f).upd = b.upd := rfl
@[simp] theorem Block.onLog_pol (f : LogPart → LogPart) (b : Block) : (b.onLog f).pol = b.pol := rfl
@[simp] theorem Block.onIx_sys (f : IxPart → IxPart) (b : Block) : (b.onIx f).sys = b.sys := rfl
@[simp] theorem Block.onIx_log (f : IxPart → IxPart) (b : Block) : (b.onIx f).log = b.log := rfl
@[simp] theorem Block.onIx_ix (f : IxPart → IxPart) (b : Block) : (b.onIx f).ix = f b.ix := rfl
@[simp] theorem Block.onIx_img (f : IxPart → IxPart) (b : Block) : (b.onIx f).img = b.img := rfl
@[simp] theorem Block.onIx_leash (f : IxPart → IxPart) (b : Block) : (b.onIx f).leash = b.leash := rfl
@[simp] theorem Block.onIx_ring (f : IxPart → IxPart) (b : Block) : (b.onIx f).ring = b.ring := rfl
@[simp] theorem Block.onIx_sense (f : IxPart → IxPart) (b : Block) : (b.onIx f).sense = b.sense := rfl
@[simp] theorem Block.onIx_bark (f : IxPart → IxPart) (b : Block) : (b.onIx f).bark = b.bark := rfl
@[simp] theorem Block.onIx_bal (f : IxPart → IxPart) (b : Block) : (b.onIx f).bal = b.bal := rfl
@[simp] theorem Block.onIx_flt (f : IxPart → IxPart) (b : Block) : (b.onIx f).flt = b.flt := rfl
@[simp] theorem Block.onIx_latch (f : IxPart → IxPart) (b : Block) : (b.onIx f).latch = b.latch := rfl
@[simp] theorem Block.onIx_cnv (f : IxPart → IxPart) (b : Block) : (b.onIx f).cnv = b.cnv := rfl
@[simp] theorem Block.onIx_imp (f : IxPart → IxPart) (b : Block) : (b.onIx f).imp = b.imp := rfl
@[simp] theorem Block.onIx_loop (f : IxPart → IxPart) (b : Block) : (b.onIx f).loop = b.loop := rfl
@[simp] theorem Block.onIx_thm (f : IxPart → IxPart) (b : Block) : (b.onIx f).thm = b.thm := rfl
@[simp] theorem Block.onIx_net (f : IxPart → IxPart) (b : Block) : (b.onIx f).net = b.net := rfl
@[simp] theorem Block.onIx_pwr (f : IxPart → IxPart) (b : Block) : (b.onIx f).pwr = b.pwr := rfl
@[simp] theorem Block.onIx_sec (f : IxPart → IxPart) (b : Block) : (b.onIx f).sec = b.sec := rfl
@[simp] theorem Block.onIx_upd (f : IxPart → IxPart) (b : Block) : (b.onIx f).upd = b.upd := rfl
@[simp] theorem Block.onIx_pol (f : IxPart → IxPart) (b : Block) : (b.onIx f).pol = b.pol := rfl
@[simp] theorem Block.onImg_sys (f : ImgPart → ImgPart) (b : Block) : (b.onImg f).sys = b.sys := rfl
@[simp] theorem Block.onImg_log (f : ImgPart → ImgPart) (b : Block) : (b.onImg f).log = b.log := rfl
@[simp] theorem Block.onImg_ix (f : ImgPart → ImgPart) (b : Block) : (b.onImg f).ix = b.ix := rfl
@[simp] theorem Block.onImg_img (f : ImgPart → ImgPart) (b : Block) : (b.onImg f).img = f b.img := rfl
@[simp] theorem Block.onImg_leash (f : ImgPart → ImgPart) (b : Block) : (b.onImg f).leash = b.leash := rfl
@[simp] theorem Block.onImg_ring (f : ImgPart → ImgPart) (b : Block) : (b.onImg f).ring = b.ring := rfl
@[simp] theorem Block.onImg_sense (f : ImgPart → ImgPart) (b : Block) : (b.onImg f).sense = b.sense := rfl
@[simp] theorem Block.onImg_bark (f : ImgPart → ImgPart) (b : Block) : (b.onImg f).bark = b.bark := rfl
@[simp] theorem Block.onImg_bal (f : ImgPart → ImgPart) (b : Block) : (b.onImg f).bal = b.bal := rfl
@[simp] theorem Block.onImg_flt (f : ImgPart → ImgPart) (b : Block) : (b.onImg f).flt = b.flt := rfl
@[simp] theorem Block.onImg_latch (f : ImgPart → ImgPart) (b : Block) : (b.onImg f).latch = b.latch := rfl
@[simp] theorem Block.onImg_cnv (f : ImgPart → ImgPart) (b : Block) : (b.onImg f).cnv = b.cnv := rfl
@[simp] theorem Block.onImg_imp (f : ImgPart → ImgPart) (b : Block) : (b.onImg f).imp = b.imp := rfl
@[simp] theorem Block.onImg_loop (f : ImgPart → ImgPart) (b : Block) : (b.onImg f).loop = b.loop := rfl
@[simp] theorem Block.onImg_thm (f : ImgPart → ImgPart) (b : Block) : (b.onImg f).thm = b.thm := rfl
@[simp] theorem Block.onImg_net (f : ImgPart → ImgPart) (b : Block) : (b.onImg f).net = b.net := rfl
@[simp] theorem Block.onImg_pwr (f : ImgPart → ImgPart) (b : Block) : (b.onImg f).pwr = b.pwr := rfl
@[simp] theorem Block.onImg_sec (f : ImgPart → ImgPart) (b : Block) : (b.onImg f).sec = b.sec := rfl
@[simp] theorem Block.onImg_upd (f : ImgPart → ImgPart) (b : Block) : (b.onImg f).upd = b.upd := rfl
@[simp] theorem Block.onImg_pol (f : ImgPart → ImgPart) (b : Block) : (b.onImg f).pol = b.pol := rfl
@[simp] theorem Block.onLeash_sys (f : LeashPart → LeashPart) (b : Block) : (b.onLeash f).sys = b.sys := rfl
@[simp] theorem Block.onLeash_log (f : LeashPart → LeashPart) (b : Block) : (b.onLeash f).log = b.log := rfl
@[simp] theorem Block.onLeash_ix (f : LeashPart → LeashPart) (b : Block) : (b.onLeash f).ix = b.ix := rfl
@[simp] theorem Block.onLeash_img (f : LeashPart → LeashPart) (b : Block) : (b.onLeash f).img = b.img := rfl
@[simp] theorem Block.onLeash_leash (f : LeashPart → LeashPart) (b : Block) : (b.onLeash f).leash = f b.leash := rfl
@[simp] theorem Block.onLeash_ring (f : LeashPart → LeashPart) (b : Block) : (b.onLeash f).ring = b.ring := rfl
@[simp] theorem Block.onLeash_sense (f : LeashPart → LeashPart) (b : Block) : (b.onLeash f).sense = b.sense := rfl
@[simp] theorem Block.onLeash_bark (f : LeashPart → LeashPart) (b : Block) : (b.onLeash f).bark = b.bark := rfl
@[simp] theorem Block.onLeash_bal (f : LeashPart → LeashPart) (b : Block) : (b.onLeash f).bal = b.bal := rfl
@[simp] theorem Block.onLeash_flt (f : LeashPart → LeashPart) (b : Block) : (b.onLeash f).flt = b.flt := rfl
@[simp] theorem Block.onLeash_latch (f : LeashPart → LeashPart) (b : Block) : (b.onLeash f).latch = b.latch := rfl
@[simp] theorem Block.onLeash_cnv (f : LeashPart → LeashPart) (b : Block) : (b.onLeash f).cnv = b.cnv := rfl
@[simp] theorem Block.onLeash_imp (f : LeashPart → LeashPart) (b : Block) : (b.onLeash f).imp = b.imp := rfl
@[simp] theorem Block.onLeash_loop (f : LeashPart → LeashPart) (b : Block) : (b.onLeash f).loop = b.loop := rfl
@[simp] theorem Block.onLeash_thm (f : LeashPart → LeashPart) (b : Block) : (b.onLeash f).thm = b.thm := rfl
@[simp] theorem Block.onLeash_net (f : LeashPart → LeashPart) (b : Block) : (b.onLeash f).net = b.net := rfl
@[simp] theorem Block.onLeash_pwr (f : LeashPart → LeashPart) (b : Block) : (b.onLeash f).pwr = b.pwr := rfl
@[simp] theorem Block.onLeash_sec (f : LeashPart → LeashPart) (b : Block) : (b.onLeash f).sec = b.sec := rfl
@[simp] theorem Block.onLeash_upd (f : LeashPart → LeashPart) (b : Block) : (b.onLeash f).upd = b.upd := rfl
@[simp] theorem Block.onLeash_pol (f : LeashPart → LeashPart) (b : Block) : (b.onLeash f).pol = b.pol := rfl
@[simp] theorem Block.onRing_sys (f : RingPart → RingPart) (b : Block) : (b.onRing f).sys = b.sys := rfl
@[simp] theorem Block.onRing_log (f : RingPart → RingPart) (b : Block) : (b.onRing f).log = b.log := rfl
@[simp] theorem Block.onRing_ix (f : RingPart → RingPart) (b : Block) : (b.onRing f).ix = b.ix := rfl
@[simp] theorem Block.onRing_img (f : RingPart → RingPart) (b : Block) : (b.onRing f).img = b.img := rfl
@[simp] theorem Block.onRing_leash (f : RingPart → RingPart) (b : Block) : (b.onRing f).leash = b.leash := rfl
@[simp] theorem Block.onRing_ring (f : RingPart → RingPart) (b : Block) : (b.onRing f).ring = f b.ring := rfl
@[simp] theorem Block.onRing_sense (f : RingPart → RingPart) (b : Block) : (b.onRing f).sense = b.sense := rfl
@[simp] theorem Block.onRing_bark (f : RingPart → RingPart) (b : Block) : (b.onRing f).bark = b.bark := rfl
@[simp] theorem Block.onRing_bal (f : RingPart → RingPart) (b : Block) : (b.onRing f).bal = b.bal := rfl
@[simp] theorem Block.onRing_flt (f : RingPart → RingPart) (b : Block) : (b.onRing f).flt = b.flt := rfl
@[simp] theorem Block.onRing_latch (f : RingPart → RingPart) (b : Block) : (b.onRing f).latch = b.latch := rfl
@[simp] theorem Block.onRing_cnv (f : RingPart → RingPart) (b : Block) : (b.onRing f).cnv = b.cnv := rfl
@[simp] theorem Block.onRing_imp (f : RingPart → RingPart) (b : Block) : (b.onRing f).imp = b.imp := rfl
@[simp] theorem Block.onRing_loop (f : RingPart → RingPart) (b : Block) : (b.onRing f).loop = b.loop := rfl
@[simp] theorem Block.onRing_thm (f : RingPart → RingPart) (b : Block) : (b.onRing f).thm = b.thm := rfl
@[simp] theorem Block.onRing_net (f : RingPart → RingPart) (b : Block) : (b.onRing f).net = b.net := rfl
@[simp] theorem Block.onRing_pwr (f : RingPart → RingPart) (b : Block) : (b.onRing f).pwr = b.pwr := rfl
@[simp] theorem Block.onRing_sec (f : RingPart → RingPart) (b : Block) : (b.onRing f).sec = b.sec := rfl
@[simp] theorem Block.onRing_upd (f : RingPart → RingPart) (b : Block) : (b.onRing f).upd = b.upd := rfl
@[simp] theorem Block.onRing_pol (f : RingPart → RingPart) (b : Block) : (b.onRing f).pol = b.pol := rfl
@[simp] theorem Block.onSense_sys (f : SensePart → SensePart) (b : Block) : (b.onSense f).sys = b.sys := rfl
@[simp] theorem Block.onSense_log (f : SensePart → SensePart) (b : Block) : (b.onSense f).log = b.log := rfl
@[simp] theorem Block.onSense_ix (f : SensePart → SensePart) (b : Block) : (b.onSense f).ix = b.ix := rfl
@[simp] theorem Block.onSense_img (f : SensePart → SensePart) (b : Block) : (b.onSense f).img = b.img := rfl
@[simp] theorem Block.onSense_leash (f : SensePart → SensePart) (b : Block) : (b.onSense f).leash = b.leash := rfl
@[simp] theorem Block.onSense_ring (f : SensePart → SensePart) (b : Block) : (b.onSense f).ring = b.ring := rfl
@[simp] theorem Block.onSense_sense (f : SensePart → SensePart) (b : Block) : (b.onSense f).sense = f b.sense := rfl
@[simp] theorem Block.onSense_bark (f : SensePart → SensePart) (b : Block) : (b.onSense f).bark = b.bark := rfl
@[simp] theorem Block.onSense_bal (f : SensePart → SensePart) (b : Block) : (b.onSense f).bal = b.bal := rfl
@[simp] theorem Block.onSense_flt (f : SensePart → SensePart) (b : Block) : (b.onSense f).flt = b.flt := rfl
@[simp] theorem Block.onSense_latch (f : SensePart → SensePart) (b : Block) : (b.onSense f).latch = b.latch := rfl
@[simp] theorem Block.onSense_cnv (f : SensePart → SensePart) (b : Block) : (b.onSense f).cnv = b.cnv := rfl
@[simp] theorem Block.onSense_imp (f : SensePart → SensePart) (b : Block) : (b.onSense f).imp = b.imp := rfl
@[simp] theorem Block.onSense_loop (f : SensePart → SensePart) (b : Block) : (b.onSense f).loop = b.loop := rfl
@[simp] theorem Block.onSense_thm (f : SensePart → SensePart) (b : Block) : (b.onSense f).thm = b.thm := rfl
@[simp] theorem Block.onSense_net (f : SensePart → SensePart) (b : Block) : (b.onSense f).net = b.net := rfl
@[simp] theorem Block.onSense_pwr (f : SensePart → SensePart) (b : Block) : (b.onSense f).pwr = b.pwr := rfl
@[simp] theorem Block.onSense_sec (f : SensePart → SensePart) (b : Block) : (b.onSense f).sec = b.sec := rfl
@[simp] theorem Block.onSense_upd (f : SensePart → SensePart) (b : Block) : (b.onSense f).upd = b.upd := rfl
@[simp] theorem Block.onSense_pol (f : SensePart → SensePart) (b : Block) : (b.onSense f).pol = b.pol := rfl
@[simp] theorem Block.onBark_sys (f : BarkPart → BarkPart) (b : Block) : (b.onBark f).sys = b.sys := rfl
@[simp] theorem Block.onBark_log (f : BarkPart → BarkPart) (b : Block) : (b.onBark f).log = b.log := rfl
@[simp] theorem Block.onBark_ix (f : BarkPart → BarkPart) (b : Block) : (b.onBark f).ix = b.ix := rfl
@[simp] theorem Block.onBark_img (f : BarkPart → BarkPart) (b : Block) : (b.onBark f).img = b.img := rfl
@[simp] theorem Block.onBark_leash (f : BarkPart → BarkPart) (b : Block) : (b.onBark f).leash = b.leash := rfl
@[simp] theorem Block.onBark_ring (f : BarkPart → BarkPart) (b : Block) : (b.onBark f).ring = b.ring := rfl
@[simp] theorem Block.onBark_sense (f : BarkPart → BarkPart) (b : Block) : (b.onBark f).sense = b.sense := rfl
@[simp] theorem Block.onBark_bark (f : BarkPart → BarkPart) (b : Block) : (b.onBark f).bark = f b.bark := rfl
@[simp] theorem Block.onBark_bal (f : BarkPart → BarkPart) (b : Block) : (b.onBark f).bal = b.bal := rfl
@[simp] theorem Block.onBark_flt (f : BarkPart → BarkPart) (b : Block) : (b.onBark f).flt = b.flt := rfl
@[simp] theorem Block.onBark_latch (f : BarkPart → BarkPart) (b : Block) : (b.onBark f).latch = b.latch := rfl
@[simp] theorem Block.onBark_cnv (f : BarkPart → BarkPart) (b : Block) : (b.onBark f).cnv = b.cnv := rfl
@[simp] theorem Block.onBark_imp (f : BarkPart → BarkPart) (b : Block) : (b.onBark f).imp = b.imp := rfl
@[simp] theorem Block.onBark_loop (f : BarkPart → BarkPart) (b : Block) : (b.onBark f).loop = b.loop := rfl
@[simp] theorem Block.onBark_thm (f : BarkPart → BarkPart) (b : Block) : (b.onBark f).thm = b.thm := rfl
@[simp] theorem Block.onBark_net (f : BarkPart → BarkPart) (b : Block) : (b.onBark f).net = b.net := rfl
@[simp] theorem Block.onBark_pwr (f : BarkPart → BarkPart) (b : Block) : (b.onBark f).pwr = b.pwr := rfl
@[simp] theorem Block.onBark_sec (f : BarkPart → BarkPart) (b : Block) : (b.onBark f).sec = b.sec := rfl
@[simp] theorem Block.onBark_upd (f : BarkPart → BarkPart) (b : Block) : (b.onBark f).upd = b.upd := rfl
@[simp] theorem Block.onBark_pol (f : BarkPart → BarkPart) (b : Block) : (b.onBark f).pol = b.pol := rfl
@[simp] theorem Block.onBal_sys (f : BalPart → BalPart) (b : Block) : (b.onBal f).sys = b.sys := rfl
@[simp] theorem Block.onBal_log (f : BalPart → BalPart) (b : Block) : (b.onBal f).log = b.log := rfl
@[simp] theorem Block.onBal_ix (f : BalPart → BalPart) (b : Block) : (b.onBal f).ix = b.ix := rfl
@[simp] theorem Block.onBal_img (f : BalPart → BalPart) (b : Block) : (b.onBal f).img = b.img := rfl
@[simp] theorem Block.onBal_leash (f : BalPart → BalPart) (b : Block) : (b.onBal f).leash = b.leash := rfl
@[simp] theorem Block.onBal_ring (f : BalPart → BalPart) (b : Block) : (b.onBal f).ring = b.ring := rfl
@[simp] theorem Block.onBal_sense (f : BalPart → BalPart) (b : Block) : (b.onBal f).sense = b.sense := rfl
@[simp] theorem Block.onBal_bark (f : BalPart → BalPart) (b : Block) : (b.onBal f).bark = b.bark := rfl
@[simp] theorem Block.onBal_bal (f : BalPart → BalPart) (b : Block) : (b.onBal f).bal = f b.bal := rfl
@[simp] theorem Block.onBal_flt (f : BalPart → BalPart) (b : Block) : (b.onBal f).flt = b.flt := rfl
@[simp] theorem Block.onBal_latch (f : BalPart → BalPart) (b : Block) : (b.onBal f).latch = b.latch := rfl
@[simp] theorem Block.onBal_cnv (f : BalPart → BalPart) (b : Block) : (b.onBal f).cnv = b.cnv := rfl
@[simp] theorem Block.onBal_imp (f : BalPart → BalPart) (b : Block) : (b.onBal f).imp = b.imp := rfl
@[simp] theorem Block.onBal_loop (f : BalPart → BalPart) (b : Block) : (b.onBal f).loop = b.loop := rfl
@[simp] theorem Block.onBal_thm (f : BalPart → BalPart) (b : Block) : (b.onBal f).thm = b.thm := rfl
@[simp] theorem Block.onBal_net (f : BalPart → BalPart) (b : Block) : (b.onBal f).net = b.net := rfl
@[simp] theorem Block.onBal_pwr (f : BalPart → BalPart) (b : Block) : (b.onBal f).pwr = b.pwr := rfl
@[simp] theorem Block.onBal_sec (f : BalPart → BalPart) (b : Block) : (b.onBal f).sec = b.sec := rfl
@[simp] theorem Block.onBal_upd (f : BalPart → BalPart) (b : Block) : (b.onBal f).upd = b.upd := rfl
@[simp] theorem Block.onBal_pol (f : BalPart → BalPart) (b : Block) : (b.onBal f).pol = b.pol := rfl
@[simp] theorem Block.onFlt_sys (f : FltPart → FltPart) (b : Block) : (b.onFlt f).sys = b.sys := rfl
@[simp] theorem Block.onFlt_log (f : FltPart → FltPart) (b : Block) : (b.onFlt f).log = b.log := rfl
@[simp] theorem Block.onFlt_ix (f : FltPart → FltPart) (b : Block) : (b.onFlt f).ix = b.ix := rfl
@[simp] theorem Block.onFlt_img (f : FltPart → FltPart) (b : Block) : (b.onFlt f).img = b.img := rfl
@[simp] theorem Block.onFlt_leash (f : FltPart → FltPart) (b : Block) : (b.onFlt f).leash = b.leash := rfl
@[simp] theorem Block.onFlt_ring (f : FltPart → FltPart) (b : Block) : (b.onFlt f).ring = b.ring := rfl
@[simp] theorem Block.onFlt_sense (f : FltPart → FltPart) (b : Block) : (b.onFlt f).sense = b.sense := rfl
@[simp] theorem Block.onFlt_bark (f : FltPart → FltPart) (b : Block) : (b.onFlt f).bark = b.bark := rfl
@[simp] theorem Block.onFlt_bal (f : FltPart → FltPart) (b : Block) : (b.onFlt f).bal = b.bal := rfl
@[simp] theorem Block.onFlt_flt (f : FltPart → FltPart) (b : Block) : (b.onFlt f).flt = f b.flt := rfl
@[simp] theorem Block.onFlt_latch (f : FltPart → FltPart) (b : Block) : (b.onFlt f).latch = b.latch := rfl
@[simp] theorem Block.onFlt_cnv (f : FltPart → FltPart) (b : Block) : (b.onFlt f).cnv = b.cnv := rfl
@[simp] theorem Block.onFlt_imp (f : FltPart → FltPart) (b : Block) : (b.onFlt f).imp = b.imp := rfl
@[simp] theorem Block.onFlt_loop (f : FltPart → FltPart) (b : Block) : (b.onFlt f).loop = b.loop := rfl
@[simp] theorem Block.onFlt_thm (f : FltPart → FltPart) (b : Block) : (b.onFlt f).thm = b.thm := rfl
@[simp] theorem Block.onFlt_net (f : FltPart → FltPart) (b : Block) : (b.onFlt f).net = b.net := rfl
@[simp] theorem Block.onFlt_pwr (f : FltPart → FltPart) (b : Block) : (b.onFlt f).pwr = b.pwr := rfl
@[simp] theorem Block.onFlt_sec (f : FltPart → FltPart) (b : Block) : (b.onFlt f).sec = b.sec := rfl
@[simp] theorem Block.onFlt_upd (f : FltPart → FltPart) (b : Block) : (b.onFlt f).upd = b.upd := rfl
@[simp] theorem Block.onFlt_pol (f : FltPart → FltPart) (b : Block) : (b.onFlt f).pol = b.pol := rfl
@[simp] theorem Block.onLatch_sys (f : LatchPart → LatchPart) (b : Block) : (b.onLatch f).sys = b.sys := rfl
@[simp] theorem Block.onLatch_log (f : LatchPart → LatchPart) (b : Block) : (b.onLatch f).log = b.log := rfl
@[simp] theorem Block.onLatch_ix (f : LatchPart → LatchPart) (b : Block) : (b.onLatch f).ix = b.ix := rfl
@[simp] theorem Block.onLatch_img (f : LatchPart → LatchPart) (b : Block) : (b.onLatch f).img = b.img := rfl
@[simp] theorem Block.onLatch_leash (f : LatchPart → LatchPart) (b : Block) : (b.onLatch f).leash = b.leash := rfl
@[simp] theorem Block.onLatch_ring (f : LatchPart → LatchPart) (b : Block) : (b.onLatch f).ring = b.ring := rfl
@[simp] theorem Block.onLatch_sense (f : LatchPart → LatchPart) (b : Block) : (b.onLatch f).sense = b.sense := rfl
@[simp] theorem Block.onLatch_bark (f : LatchPart → LatchPart) (b : Block) : (b.onLatch f).bark = b.bark := rfl
@[simp] theorem Block.onLatch_bal (f : LatchPart → LatchPart) (b : Block) : (b.onLatch f).bal = b.bal := rfl
@[simp] theorem Block.onLatch_flt (f : LatchPart → LatchPart) (b : Block) : (b.onLatch f).flt = b.flt := rfl
@[simp] theorem Block.onLatch_latch (f : LatchPart → LatchPart) (b : Block) : (b.onLatch f).latch = f b.latch := rfl
@[simp] theorem Block.onLatch_cnv (f : LatchPart → LatchPart) (b : Block) : (b.onLatch f).cnv = b.cnv := rfl
@[simp] theorem Block.onLatch_imp (f : LatchPart → LatchPart) (b : Block) : (b.onLatch f).imp = b.imp := rfl
@[simp] theorem Block.onLatch_loop (f : LatchPart → LatchPart) (b : Block) : (b.onLatch f).loop = b.loop := rfl
@[simp] theorem Block.onLatch_thm (f : LatchPart → LatchPart) (b : Block) : (b.onLatch f).thm = b.thm := rfl
@[simp] theorem Block.onLatch_net (f : LatchPart → LatchPart) (b : Block) : (b.onLatch f).net = b.net := rfl
@[simp] theorem Block.onLatch_pwr (f : LatchPart → LatchPart) (b : Block) : (b.onLatch f).pwr = b.pwr := rfl
@[simp] theorem Block.onLatch_sec (f : LatchPart → LatchPart) (b : Block) : (b.onLatch f).sec = b.sec := rfl
@[simp] theorem Block.onLatch_upd (f : LatchPart → LatchPart) (b : Block) : (b.onLatch f).upd = b.upd := rfl
@[simp] theorem Block.onLatch_pol (f : LatchPart → LatchPart) (b : Block) : (b.onLatch f).pol = b.pol := rfl
@[simp] theorem Block.onCnv_sys (f : CnvPart → CnvPart) (b : Block) : (b.onCnv f).sys = b.sys := rfl
@[simp] theorem Block.onCnv_log (f : CnvPart → CnvPart) (b : Block) : (b.onCnv f).log = b.log := rfl
@[simp] theorem Block.onCnv_ix (f : CnvPart → CnvPart) (b : Block) : (b.onCnv f).ix = b.ix := rfl
@[simp] theorem Block.onCnv_img (f : CnvPart → CnvPart) (b : Block) : (b.onCnv f).img = b.img := rfl
@[simp] theorem Block.onCnv_leash (f : CnvPart → CnvPart) (b : Block) : (b.onCnv f).leash = b.leash := rfl
@[simp] theorem Block.onCnv_ring (f : CnvPart → CnvPart) (b : Block) : (b.onCnv f).ring = b.ring := rfl
@[simp] theorem Block.onCnv_sense (f : CnvPart → CnvPart) (b : Block) : (b.onCnv f).sense = b.sense := rfl
@[simp] theorem Block.onCnv_bark (f : CnvPart → CnvPart) (b : Block) : (b.onCnv f).bark = b.bark := rfl
@[simp] theorem Block.onCnv_bal (f : CnvPart → CnvPart) (b : Block) : (b.onCnv f).bal = b.bal := rfl
@[simp] theorem Block.onCnv_flt (f : CnvPart → CnvPart) (b : Block) : (b.onCnv f).flt = b.flt := rfl
@[simp] theorem Block.onCnv_latch (f : CnvPart → CnvPart) (b : Block) : (b.onCnv f).latch = b.latch := rfl
@[simp] theorem Block.onCnv_cnv (f : CnvPart → CnvPart) (b : Block) : (b.onCnv f).cnv = f b.cnv := rfl
@[simp] theorem Block.onCnv_imp (f : CnvPart → CnvPart) (b : Block) : (b.onCnv f).imp = b.imp := rfl
@[simp] theorem Block.onCnv_loop (f : CnvPart → CnvPart) (b : Block) : (b.onCnv f).loop = b.loop := rfl
@[simp] theorem Block.onCnv_thm (f : CnvPart → CnvPart) (b : Block) : (b.onCnv f).thm = b.thm := rfl
@[simp] theorem Block.onCnv_net (f : CnvPart → CnvPart) (b : Block) : (b.onCnv f).net = b.net := rfl
@[simp] theorem Block.onCnv_pwr (f : CnvPart → CnvPart) (b : Block) : (b.onCnv f).pwr = b.pwr := rfl
@[simp] theorem Block.onCnv_sec (f : CnvPart → CnvPart) (b : Block) : (b.onCnv f).sec = b.sec := rfl
@[simp] theorem Block.onCnv_upd (f : CnvPart → CnvPart) (b : Block) : (b.onCnv f).upd = b.upd := rfl
@[simp] theorem Block.onCnv_pol (f : CnvPart → CnvPart) (b : Block) : (b.onCnv f).pol = b.pol := rfl
@[simp] theorem Block.onImp_sys (f : ImpPart → ImpPart) (b : Block) : (b.onImp f).sys = b.sys := rfl
@[simp] theorem Block.onImp_log (f : ImpPart → ImpPart) (b : Block) : (b.onImp f).log = b.log := rfl
@[simp] theorem Block.onImp_ix (f : ImpPart → ImpPart) (b : Block) : (b.onImp f).ix = b.ix := rfl
@[simp] theorem Block.onImp_img (f : ImpPart → ImpPart) (b : Block) : (b.onImp f).img = b.img := rfl
@[simp] theorem Block.onImp_leash (f : ImpPart → ImpPart) (b : Block) : (b.onImp f).leash = b.leash := rfl
@[simp] theorem Block.onImp_ring (f : ImpPart → ImpPart) (b : Block) : (b.onImp f).ring = b.ring := rfl
@[simp] theorem Block.onImp_sense (f : ImpPart → ImpPart) (b : Block) : (b.onImp f).sense = b.sense := rfl
@[simp] theorem Block.onImp_bark (f : ImpPart → ImpPart) (b : Block) : (b.onImp f).bark = b.bark := rfl
@[simp] theorem Block.onImp_bal (f : ImpPart → ImpPart) (b : Block) : (b.onImp f).bal = b.bal := rfl
@[simp] theorem Block.onImp_flt (f : ImpPart → ImpPart) (b : Block) : (b.onImp f).flt = b.flt := rfl
@[simp] theorem Block.onImp_latch (f : ImpPart → ImpPart) (b : Block) : (b.onImp f).latch = b.latch := rfl
@[simp] theorem Block.onImp_cnv (f : ImpPart → ImpPart) (b : Block) : (b.onImp f).cnv = b.cnv := rfl
@[simp] theorem Block.onImp_imp (f : ImpPart → ImpPart) (b : Block) : (b.onImp f).imp = f b.imp := rfl
@[simp] theorem Block.onImp_loop (f : ImpPart → ImpPart) (b : Block) : (b.onImp f).loop = b.loop := rfl
@[simp] theorem Block.onImp_thm (f : ImpPart → ImpPart) (b : Block) : (b.onImp f).thm = b.thm := rfl
@[simp] theorem Block.onImp_net (f : ImpPart → ImpPart) (b : Block) : (b.onImp f).net = b.net := rfl
@[simp] theorem Block.onImp_pwr (f : ImpPart → ImpPart) (b : Block) : (b.onImp f).pwr = b.pwr := rfl
@[simp] theorem Block.onImp_sec (f : ImpPart → ImpPart) (b : Block) : (b.onImp f).sec = b.sec := rfl
@[simp] theorem Block.onImp_upd (f : ImpPart → ImpPart) (b : Block) : (b.onImp f).upd = b.upd := rfl
@[simp] theorem Block.onImp_pol (f : ImpPart → ImpPart) (b : Block) : (b.onImp f).pol = b.pol := rfl
@[simp] theorem Block.onLoop_sys (f : LoopPart → LoopPart) (b : Block) : (b.onLoop f).sys = b.sys := rfl
@[simp] theorem Block.onLoop_log (f : LoopPart → LoopPart) (b : Block) : (b.onLoop f).log = b.log := rfl
@[simp] theorem Block.onLoop_ix (f : LoopPart → LoopPart) (b : Block) : (b.onLoop f).ix = b.ix := rfl
@[simp] theorem Block.onLoop_img (f : LoopPart → LoopPart) (b : Block) : (b.onLoop f).img = b.img := rfl
@[simp] theorem Block.onLoop_leash (f : LoopPart → LoopPart) (b : Block) : (b.onLoop f).leash = b.leash := rfl
@[simp] theorem Block.onLoop_ring (f : LoopPart → LoopPart) (b : Block) : (b.onLoop f).ring = b.ring := rfl
@[simp] theorem Block.onLoop_sense (f : LoopPart → LoopPart) (b : Block) : (b.onLoop f).sense = b.sense := rfl
@[simp] theorem Block.onLoop_bark (f : LoopPart → LoopPart) (b : Block) : (b.onLoop f).bark = b.bark := rfl
@[simp] theorem Block.onLoop_bal (f : LoopPart → LoopPart) (b : Block) : (b.onLoop f).bal = b.bal := rfl
@[simp] theorem Block.onLoop_flt (f : LoopPart → LoopPart) (b : Block) : (b.onLoop f).flt = b.flt := rfl
@[simp] theorem Block.onLoop_latch (f : LoopPart → LoopPart) (b : Block) : (b.onLoop f).latch = b.latch := rfl
@[simp] theorem Block.onLoop_cnv (f : LoopPart → LoopPart) (b : Block) : (b.onLoop f).cnv = b.cnv := rfl
@[simp] theorem Block.onLoop_imp (f : LoopPart → LoopPart) (b : Block) : (b.onLoop f).imp = b.imp := rfl
@[simp] theorem Block.onLoop_loop (f : LoopPart → LoopPart) (b : Block) : (b.onLoop f).loop = f b.loop := rfl
@[simp] theorem Block.onLoop_thm (f : LoopPart → LoopPart) (b : Block) : (b.onLoop f).thm = b.thm := rfl
@[simp] theorem Block.onLoop_net (f : LoopPart → LoopPart) (b : Block) : (b.onLoop f).net = b.net := rfl
@[simp] theorem Block.onLoop_pwr (f : LoopPart → LoopPart) (b : Block) : (b.onLoop f).pwr = b.pwr := rfl
@[simp] theorem Block.onLoop_sec (f : LoopPart → LoopPart) (b : Block) : (b.onLoop f).sec = b.sec := rfl
@[simp] theorem Block.onLoop_upd (f : LoopPart → LoopPart) (b : Block) : (b.onLoop f).upd = b.upd := rfl
@[simp] theorem Block.onLoop_pol (f : LoopPart → LoopPart) (b : Block) : (b.onLoop f).pol = b.pol := rfl
@[simp] theorem Block.onThm_sys (f : ThmPart → ThmPart) (b : Block) : (b.onThm f).sys = b.sys := rfl
@[simp] theorem Block.onThm_log (f : ThmPart → ThmPart) (b : Block) : (b.onThm f).log = b.log := rfl
@[simp] theorem Block.onThm_ix (f : ThmPart → ThmPart) (b : Block) : (b.onThm f).ix = b.ix := rfl
@[simp] theorem Block.onThm_img (f : ThmPart → ThmPart) (b : Block) : (b.onThm f).img = b.img := rfl
@[simp] theorem Block.onThm_leash (f : ThmPart → ThmPart) (b : Block) : (b.onThm f).leash = b.leash := rfl
@[simp] theorem Block.onThm_ring (f : ThmPart → ThmPart) (b : Block) : (b.onThm f).ring = b.ring := rfl
@[simp] theorem Block.onThm_sense (f : ThmPart → ThmPart) (b : Block) : (b.onThm f).sense = b.sense := rfl
@[simp] theorem Block.onThm_bark (f : ThmPart → ThmPart) (b : Block) : (b.onThm f).bark = b.bark := rfl
@[simp] theorem Block.onThm_bal (f : ThmPart → ThmPart) (b : Block) : (b.onThm f).bal = b.bal := rfl
@[simp] theorem Block.onThm_flt (f : ThmPart → ThmPart) (b : Block) : (b.onThm f).flt = b.flt := rfl
@[simp] theorem Block.onThm_latch (f : ThmPart → ThmPart) (b : Block) : (b.onThm f).latch = b.latch := rfl
@[simp] theorem Block.onThm_cnv (f : ThmPart → ThmPart) (b : Block) : (b.onThm f).cnv = b.cnv := rfl
@[simp] theorem Block.onThm_imp (f : ThmPart → ThmPart) (b : Block) : (b.onThm f).imp = b.imp := rfl
@[simp] theorem Block.onThm_loop (f : ThmPart → ThmPart) (b : Block) : (b.onThm f).loop = b.loop := rfl
@[simp] theorem Block.onThm_thm (f : ThmPart → ThmPart) (b : Block) : (b.onThm f).thm = f b.thm := rfl
@[simp] theorem Block.onThm_net (f : ThmPart → ThmPart) (b : Block) : (b.onThm f).net = b.net := rfl
@[simp] theorem Block.onThm_pwr (f : ThmPart → ThmPart) (b : Block) : (b.onThm f).pwr = b.pwr := rfl
@[simp] theorem Block.onThm_sec (f : ThmPart → ThmPart) (b : Block) : (b.onThm f).sec = b.sec := rfl
@[simp] theorem Block.onThm_upd (f : ThmPart → ThmPart) (b : Block) : (b.onThm f).upd = b.upd := rfl
@[simp] theorem Block.onThm_pol (f : ThmPart → ThmPart) (b : Block) : (b.onThm f).pol = b.pol := rfl
@[simp] theorem Block.onNet_sys (f : NetPart → NetPart) (b : Block) : (b.onNet f).sys = b.sys := rfl
@[simp] theorem Block.onNet_log (f : NetPart → NetPart) (b : Block) : (b.onNet f).log = b.log := rfl
@[simp] theorem Block.onNet_ix (f : NetPart → NetPart) (b : Block) : (b.onNet f).ix = b.ix := rfl
@[simp] theorem Block.onNet_img (f : NetPart → NetPart) (b : Block) : (b.onNet f).img = b.img := rfl
@[simp] theorem Block.onNet_leash (f : NetPart → NetPart) (b : Block) : (b.onNet f).leash = b.leash := rfl
@[simp] theorem Block.onNet_ring (f : NetPart → NetPart) (b : Block) : (b.onNet f).ring = b.ring := rfl
@[simp] theorem Block.onNet_sense (f : NetPart → NetPart) (b : Block) : (b.onNet f).sense = b.sense := rfl
@[simp] theorem Block.onNet_bark (f : NetPart → NetPart) (b : Block) : (b.onNet f).bark = b.bark := rfl
@[simp] theorem Block.onNet_bal (f : NetPart → NetPart) (b : Block) : (b.onNet f).bal = b.bal := rfl
@[simp] theorem Block.onNet_flt (f : NetPart → NetPart) (b : Block) : (b.onNet f).flt = b.flt := rfl
@[simp] theorem Block.onNet_latch (f : NetPart → NetPart) (b : Block) : (b.onNet f).latch = b.latch := rfl
@[simp] theorem Block.onNet_cnv (f : NetPart → NetPart) (b : Block) : (b.onNet f).cnv = b.cnv := rfl
@[simp] theorem Block.onNet_imp (f : NetPart → NetPart) (b : Block) : (b.onNet f).imp = b.imp := rfl
@[simp] theorem Block.onNet_loop (f : NetPart → NetPart) (b : Block) : (b.onNet f).loop = b.loop := rfl
@[simp] theorem Block.onNet_thm (f : NetPart → NetPart) (b : Block) : (b.onNet f).thm = b.thm := rfl
@[simp] theorem Block.onNet_net (f : NetPart → NetPart) (b : Block) : (b.onNet f).net = f b.net := rfl
@[simp] theorem Block.onNet_pwr (f : NetPart → NetPart) (b : Block) : (b.onNet f).pwr = b.pwr := rfl
@[simp] theorem Block.onNet_sec (f : NetPart → NetPart) (b : Block) : (b.onNet f).sec = b.sec := rfl
@[simp] theorem Block.onNet_upd (f : NetPart → NetPart) (b : Block) : (b.onNet f).upd = b.upd := rfl
@[simp] theorem Block.onNet_pol (f : NetPart → NetPart) (b : Block) : (b.onNet f).pol = b.pol := rfl
@[simp] theorem Block.onPwr_sys (f : PwrPart → PwrPart) (b : Block) : (b.onPwr f).sys = b.sys := rfl
@[simp] theorem Block.onPwr_log (f : PwrPart → PwrPart) (b : Block) : (b.onPwr f).log = b.log := rfl
@[simp] theorem Block.onPwr_ix (f : PwrPart → PwrPart) (b : Block) : (b.onPwr f).ix = b.ix := rfl
@[simp] theorem Block.onPwr_img (f : PwrPart → PwrPart) (b : Block) : (b.onPwr f).img = b.img := rfl
@[simp] theorem Block.onPwr_leash (f : PwrPart → PwrPart) (b : Block) : (b.onPwr f).leash = b.leash := rfl
@[simp] theorem Block.onPwr_ring (f : PwrPart → PwrPart) (b : Block) : (b.onPwr f).ring = b.ring := rfl
@[simp] theorem Block.onPwr_sense (f : PwrPart → PwrPart) (b : Block) : (b.onPwr f).sense = b.sense := rfl
@[simp] theorem Block.onPwr_bark (f : PwrPart → PwrPart) (b : Block) : (b.onPwr f).bark = b.bark := rfl
@[simp] theorem Block.onPwr_bal (f : PwrPart → PwrPart) (b : Block) : (b.onPwr f).bal = b.bal := rfl
@[simp] theorem Block.onPwr_flt (f : PwrPart → PwrPart) (b : Block) : (b.onPwr f).flt = b.flt := rfl
@[simp] theorem Block.onPwr_latch (f : PwrPart → PwrPart) (b : Block) : (b.onPwr f).latch = b.latch := rfl
@[simp] theorem Block.onPwr_cnv (f : PwrPart → PwrPart) (b : Block) : (b.onPwr f).cnv = b.cnv := rfl
@[simp] theorem Block.onPwr_imp (f : PwrPart → PwrPart) (b : Block) : (b.onPwr f).imp = b.imp := rfl
@[simp] theorem Block.onPwr_loop (f : PwrPart → PwrPart) (b : Block) : (b.onPwr f).loop = b.loop := rfl
@[simp] theorem Block.onPwr_thm (f : PwrPart → PwrPart) (b : Block) : (b.onPwr f).thm = b.thm := rfl
@[simp] theorem Block.onPwr_net (f : PwrPart → PwrPart) (b : Block) : (b.onPwr f).net = b.net := rfl
@[simp] theorem Block.onPwr_pwr (f : PwrPart → PwrPart) (b : Block) : (b.onPwr f).pwr = f b.pwr := rfl
@[simp] theorem Block.onPwr_sec (f : PwrPart → PwrPart) (b : Block) : (b.onPwr f).sec = b.sec := rfl
@[simp] theorem Block.onPwr_upd (f : PwrPart → PwrPart) (b : Block) : (b.onPwr f).upd = b.upd := rfl
@[simp] theorem Block.onPwr_pol (f : PwrPart → PwrPart) (b : Block) : (b.onPwr f).pol = b.pol := rfl
@[simp] theorem Block.onSec_sys (f : SecPart → SecPart) (b : Block) : (b.onSec f).sys = b.sys := rfl
@[simp] theorem Block.onSec_log (f : SecPart → SecPart) (b : Block) : (b.onSec f).log = b.log := rfl
@[simp] theorem Block.onSec_ix (f : SecPart → SecPart) (b : Block) : (b.onSec f).ix = b.ix := rfl
@[simp] theorem Block.onSec_img (f : SecPart → SecPart) (b : Block) : (b.onSec f).img = b.img := rfl
@[simp] theorem Block.onSec_leash (f : SecPart → SecPart) (b : Block) : (b.onSec f).leash = b.leash := rfl
@[simp] theorem Block.onSec_ring (f : SecPart → SecPart) (b : Block) : (b.onSec f).ring = b.ring := rfl
@[simp] theorem Block.onSec_sense (f : SecPart → SecPart) (b : Block) : (b.onSec f).sense = b.sense := rfl
@[simp] theorem Block.onSec_bark (f : SecPart → SecPart) (b : Block) : (b.onSec f).bark = b.bark := rfl
@[simp] theorem Block.onSec_bal (f : SecPart → SecPart) (b : Block) : (b.onSec f).bal = b.bal := rfl
@[simp] theorem Block.onSec_flt (f : SecPart → SecPart) (b : Block) : (b.onSec f).flt = b.flt := rfl
@[simp] theorem Block.onSec_latch (f : SecPart → SecPart) (b : Block) : (b.onSec f).latch = b.latch := rfl
@[simp] theorem Block.onSec_cnv (f : SecPart → SecPart) (b : Block) : (b.onSec f).cnv = b.cnv := rfl
@[simp] theorem Block.onSec_imp (f : SecPart → SecPart) (b : Block) : (b.onSec f).imp = b.imp := rfl
@[simp] theorem Block.onSec_loop (f : SecPart → SecPart) (b : Block) : (b.onSec f).loop = b.loop := rfl
@[simp] theorem Block.onSec_thm (f : SecPart → SecPart) (b : Block) : (b.onSec f).thm = b.thm := rfl
@[simp] theorem Block.onSec_net (f : SecPart → SecPart) (b : Block) : (b.onSec f).net = b.net := rfl
@[simp] theorem Block.onSec_pwr (f : SecPart → SecPart) (b : Block) : (b.onSec f).pwr = b.pwr := rfl
@[simp] theorem Block.onSec_sec (f : SecPart → SecPart) (b : Block) : (b.onSec f).sec = f b.sec := rfl
@[simp] theorem Block.onSec_upd (f : SecPart → SecPart) (b : Block) : (b.onSec f).upd = b.upd := rfl
@[simp] theorem Block.onSec_pol (f : SecPart → SecPart) (b : Block) : (b.onSec f).pol = b.pol := rfl
@[simp] theorem Block.onUpd_sys (f : UpdPart → UpdPart) (b : Block) : (b.onUpd f).sys = b.sys := rfl
@[simp] theorem Block.onUpd_log (f : UpdPart → UpdPart) (b : Block) : (b.onUpd f).log = b.log := rfl
@[simp] theorem Block.onUpd_ix (f : UpdPart → UpdPart) (b : Block) : (b.onUpd f).ix = b.ix := rfl
@[simp] theorem Block.onUpd_img (f : UpdPart → UpdPart) (b : Block) : (b.onUpd f).img = b.img := rfl
@[simp] theorem Block.onUpd_leash (f : UpdPart → UpdPart) (b : Block) : (b.onUpd f).leash = b.leash := rfl
@[simp] theorem Block.onUpd_ring (f : UpdPart → UpdPart) (b : Block) : (b.onUpd f).ring = b.ring := rfl
@[simp] theorem Block.onUpd_sense (f : UpdPart → UpdPart) (b : Block) : (b.onUpd f).sense = b.sense := rfl
@[simp] theorem Block.onUpd_bark (f : UpdPart → UpdPart) (b : Block) : (b.onUpd f).bark = b.bark := rfl
@[simp] theorem Block.onUpd_bal (f : UpdPart → UpdPart) (b : Block) : (b.onUpd f).bal = b.bal := rfl
@[simp] theorem Block.onUpd_flt (f : UpdPart → UpdPart) (b : Block) : (b.onUpd f).flt = b.flt := rfl
@[simp] theorem Block.onUpd_latch (f : UpdPart → UpdPart) (b : Block) : (b.onUpd f).latch = b.latch := rfl
@[simp] theorem Block.onUpd_cnv (f : UpdPart → UpdPart) (b : Block) : (b.onUpd f).cnv = b.cnv := rfl
@[simp] theorem Block.onUpd_imp (f : UpdPart → UpdPart) (b : Block) : (b.onUpd f).imp = b.imp := rfl
@[simp] theorem Block.onUpd_loop (f : UpdPart → UpdPart) (b : Block) : (b.onUpd f).loop = b.loop := rfl
@[simp] theorem Block.onUpd_thm (f : UpdPart → UpdPart) (b : Block) : (b.onUpd f).thm = b.thm := rfl
@[simp] theorem Block.onUpd_net (f : UpdPart → UpdPart) (b : Block) : (b.onUpd f).net = b.net := rfl
@[simp] theorem Block.onUpd_pwr (f : UpdPart → UpdPart) (b : Block) : (b.onUpd f).pwr = b.pwr := rfl
@[simp] theorem Block.onUpd_sec (f : UpdPart → UpdPart) (b : Block) : (b.onUpd f).sec = b.sec := rfl
@[simp] theorem Block.onUpd_upd (f : UpdPart → UpdPart) (b : Block) : (b.onUpd f).upd = f b.upd := rfl
@[simp] theorem Block.onUpd_pol (f : UpdPart → UpdPart) (b : Block) : (b.onUpd f).pol = b.pol := rfl
@[simp] theorem Block.onPol_sys (f : PolPart → PolPart) (b : Block) : (b.onPol f).sys = b.sys := rfl
@[simp] theorem Block.onPol_log (f : PolPart → PolPart) (b : Block) : (b.onPol f).log = b.log := rfl
@[simp] theorem Block.onPol_ix (f : PolPart → PolPart) (b : Block) : (b.onPol f).ix = b.ix := rfl
@[simp] theorem Block.onPol_img (f : PolPart → PolPart) (b : Block) : (b.onPol f).img = b.img := rfl
@[simp] theorem Block.onPol_leash (f : PolPart → PolPart) (b : Block) : (b.onPol f).leash = b.leash := rfl
@[simp] theorem Block.onPol_ring (f : PolPart → PolPart) (b : Block) : (b.onPol f).ring = b.ring := rfl
@[simp] theorem Block.onPol_sense (f : PolPart → PolPart) (b : Block) : (b.onPol f).sense = b.sense := rfl
@[simp] theorem Block.onPol_bark (f : PolPart → PolPart) (b : Block) : (b.onPol f).bark = b.bark := rfl
@[simp] theorem Block.onPol_bal (f : PolPart → PolPart) (b : Block) : (b.onPol f).bal = b.bal := rfl
@[simp] theorem Block.onPol_flt (f : PolPart → PolPart) (b : Block) : (b.onPol f).flt = b.flt := rfl
@[simp] theorem Block.onPol_latch (f : PolPart → PolPart) (b : Block) : (b.onPol f).latch = b.latch := rfl
@[simp] theorem Block.onPol_cnv (f : PolPart → PolPart) (b : Block) : (b.onPol f).cnv = b.cnv := rfl
@[simp] theorem Block.onPol_imp (f : PolPart → PolPart) (b : Block) : (b.onPol f).imp = b.imp := rfl
@[simp] theorem Block.onPol_loop (f : PolPart → PolPart) (b : Block) : (b.onPol f).loop = b.loop := rfl
@[simp] theorem Block.onPol_thm (f : PolPart → PolPart) (b : Block) : (b.onPol f).thm = b.thm := rfl
@[simp] theorem Block.onPol_net (f : PolPart → PolPart) (b : Block) : (b.onPol f).net = b.net := rfl
@[simp] theorem Block.onPol_pwr (f : PolPart → PolPart) (b : Block) : (b.onPol f).pwr = b.pwr := rfl
@[simp] theorem Block.onPol_sec (f : PolPart → PolPart) (b : Block) : (b.onPol f).sec = b.sec := rfl
@[simp] theorem Block.onPol_upd (f : PolPart → PolPart) (b : Block) : (b.onPol f).upd = b.upd := rfl
@[simp] theorem Block.onPol_pol (f : PolPart → PolPart) (b : Block) : (b.onPol f).pol = f b.pol := rfl

end Sys2Proof.Machine
end

