-- ==== Sys2Proof/Laws/Frames.lean ====
section
/-! SUPPORT. What the shared operations of the service leave alone: per operation one equation over all these parts together, then one per part. -/

set_option Elab.async false

namespace Sys2Proof.Machine

/-- What every step of a fold keeps, the fold keeps. -/
theorem foldl_keeps {α β γ : Type} (g : β → γ) (f : β → α → β) (h : ∀ b x, g (f b x) = g b) (l : List α) (b : β) : g (l.foldl f b) = g b := by
  induction l generalizing b with
  | nil => rfl
  | cons x l ih => rw [List.foldl_cons, ih, h]

/-- The block but for what notices change. -/
def Block.unnoticed (b : Block) : Block := { b with log := .fresh, img := .fresh, pol := .fresh }

/-- The block but for what the service of a host command changes. -/
def Block.unserved (b : Block) : Block := { b with ix := .fresh, pwr := .fresh, log := .fresh, img := .fresh, pol := .fresh }

/-- The second is coarser. -/
theorem unserved_of_unnoticed {a b : Block} (h : a.unnoticed = b.unnoticed) : a.unserved = b.unserved := by
  have k := congrArg Block.unserved h
  exact k

theorem sys_of_unnoticed {a b : Block} (h : a.unnoticed = b.unnoticed) : a.sys = b.sys := by have k := congrArg Block.sys h; exact k
theorem ix_of_unnoticed {a b : Block} (h : a.unnoticed = b.unnoticed) : a.ix = b.ix := by have k := congrArg Block.ix h; exact k
theorem leash_of_unnoticed {a b : Block} (h : a.unnoticed = b.unnoticed) : a.leash = b.leash := by have k := congrArg Block.leash h; exact k
theorem ring_of_unnoticed {a b : Block} (h : a.unnoticed = b.unnoticed) : a.ring = b.ring := by have k := congrArg Block.ring h; exact k
theorem sense_of_unnoticed {a b : Block} (h : a.unnoticed = b.unnoticed) : a.sense = b.sense := by have k := congrArg Block.sense h; exact k
theorem bark_of_unnoticed {a b : Block} (h : a.unnoticed = b.unnoticed) : a.bark = b.bark := by have k := congrArg Block.bark h; exact k
theorem bal_of_unnoticed {a b : Block} (h : a.unnoticed = b.unnoticed) : a.bal = b.bal := by have k := congrArg Block.bal h; exact k
theorem flt_of_unnoticed {a b : Block} (h : a.unnoticed = b.unnoticed) : a.flt = b.flt := by have k := congrArg Block.flt h; exact k
theorem latch_of_unnoticed {a b : Block} (h : a.unnoticed = b.unnoticed) : a.latch = b.latch := by have k := congrArg Block.latch h; exact k
theorem cnv_of_unnoticed {a b : Block} (h : a.unnoticed = b.unnoticed) : a.cnv = b.cnv := by have k := congrArg Block.cnv h; exact k
theorem imp_of_unnoticed {a b : Block} (h : a.unnoticed = b.unnoticed) : a.imp = b.imp := by have k := congrArg Block.imp h; exact k
theorem loop_of_unnoticed {a b : Block} (h : a.unnoticed = b.unnoticed) : a.loop = b.loop := by have k := congrArg Block.loop h; exact k
theorem thm_of_unnoticed {a b : Block} (h : a.unnoticed = b.unnoticed) : a.thm = b.thm := by have k := congrArg Block.thm h; exact k
theorem net_of_unnoticed {a b : Block} (h : a.unnoticed = b.unnoticed) : a.net = b.net := by have k := congrArg Block.net h; exact k
theorem pwr_of_unnoticed {a b : Block} (h : a.unnoticed = b.unnoticed) : a.pwr = b.pwr := by have k := congrArg Block.pwr h; exact k
theorem sec_of_unnoticed {a b : Block} (h : a.unnoticed = b.unnoticed) : a.sec = b.sec := by have k := congrArg Block.sec h; exact k
theorem upd_of_unnoticed {a b : Block} (h : a.unnoticed = b.unnoticed) : a.upd = b.upd := by have k := congrArg Block.upd h; exact k
theorem sys_of_unserved {a b : Block} (h : a.unserved = b.unserved) : a.sys = b.sys := by have k := congrArg Block.sys h; exact k
theorem leash_of_unserved {a b : Block} (h : a.unserved = b.unserved) : a.leash = b.leash := by have k := congrArg Block.leash h; exact k
theorem ring_of_unserved {a b : Block} (h : a.unserved = b.unserved) : a.ring = b.ring := by have k := congrArg Block.ring h; exact k
theorem sense_of_unserved {a b : Block} (h : a.unserved = b.unserved) : a.sense = b.sense := by have k := congrArg Block.sense h; exact k
theorem bark_of_unserved {a b : Block} (h : a.unserved = b.unserved) : a.bark = b.bark := by have k := congrArg Block.bark h; exact k
theorem bal_of_unserved {a b : Block} (h : a.unserved = b.unserved) : a.bal = b.bal := by have k := congrArg Block.bal h; exact k
theorem flt_of_unserved {a b : Block} (h : a.unserved = b.unserved) : a.flt = b.flt := by have k := congrArg Block.flt h; exact k
theorem latch_of_unserved {a b : Block} (h : a.unserved = b.unserved) : a.latch = b.latch := by have k := congrArg Block.latch h; exact k
theorem cnv_of_unserved {a b : Block} (h : a.unserved = b.unserved) : a.cnv = b.cnv := by have k := congrArg Block.cnv h; exact k
theorem imp_of_unserved {a b : Block} (h : a.unserved = b.unserved) : a.imp = b.imp := by have k := congrArg Block.imp h; exact k
theorem loop_of_unserved {a b : Block} (h : a.unserved = b.unserved) : a.loop = b.loop := by have k := congrArg Block.loop h; exact k
theorem thm_of_unserved {a b : Block} (h : a.unserved = b.unserved) : a.thm = b.thm := by have k := congrArg Block.thm h; exact k
theorem net_of_unserved {a b : Block} (h : a.unserved = b.unserved) : a.net = b.net := by have k := congrArg Block.net h; exact k
theorem sec_of_unserved {a b : Block} (h : a.unserved = b.unserved) : a.sec = b.sec := by have k := congrArg Block.sec h; exact k
theorem upd_of_unserved {a b : Block} (h : a.unserved = b.unserved) : a.upd = b.upd := by have k := congrArg Block.upd h; exact k
theorem Block.touch_unnoticed (ts : List Nat) (b : Block) : (b.touch ts).unnoticed = b.unnoticed := rfl
theorem Block.touch_unserved (ts : List Nat) (b : Block) : (b.touch ts).unserved = b.unserved := unserved_of_unnoticed (Block.touch_unnoticed ..)
@[simp] theorem Block.touch_sys (ts : List Nat) (b : Block) : (b.touch ts).sys = b.sys := sys_of_unnoticed (Block.touch_unnoticed ..)
@[simp] theorem Block.touch_ix (ts : List Nat) (b : Block) : (b.touch ts).ix = b.ix := ix_of_unnoticed (Block.touch_unnoticed ..)
@[simp] theorem Block.touch_leash (ts : List Nat) (b : Block) : (b.touch ts).leash = b.leash := leash_of_unnoticed (Block.touch_unnoticed ..)
@[simp] theorem Block.touch_ring (ts : List Nat) (b : Block) : (b.touch ts).ring = b.ring := ring_of_unnoticed (Block.touch_unnoticed ..)
@[simp] theorem Block.touch_sense (ts : List Nat) (b : Block) : (b.touch ts).sense = b.sense := sense_of_unnoticed (Block.touch_unnoticed ..)
@[simp] theorem Block.touch_bark (ts : List Nat) (b : Block) : (b.touch ts).bark = b.bark := bark_of_unnoticed (Block.touch_unnoticed ..)
@[simp] theorem Block.touch_bal (ts : List Nat) (b : Block) : (b.touch ts).bal = b.bal := bal_of_unnoticed (Block.touch_unnoticed ..)
@[simp] theorem Block.touch_flt (ts : List Nat) (b : Block) : (b.touch ts).flt = b.flt := flt_of_unnoticed (Block.touch_unnoticed ..)
@[simp] theorem Block.touch_latch (ts : List Nat) (b : Block) : (b.touch ts).latch = b.latch := latch_of_unnoticed (Block.touch_unnoticed ..)
@[simp] theorem Block.touch_cnv (ts : List Nat) (b : Block) : (b.touch ts).cnv = b.cnv := cnv_of_unnoticed (Block.touch_unnoticed ..)
@[simp] theorem Block.touch_imp (ts : List Nat) (b : Block) : (b.touch ts).imp = b.imp := imp_of_unnoticed (Block.touch_unnoticed ..)
@[simp] theorem Block.touch_loop (ts : List Nat) (b : Block) : (b.touch ts).loop = b.loop := loop_of_unnoticed (Block.touch_unnoticed ..)
@[simp] theorem Block.touch_thm (ts : List Nat) (b : Block) : (b.touch ts).thm = b.thm := thm_of_unnoticed (Block.touch_unnoticed ..)
@[simp] theorem Block.touch_net (ts : List Nat) (b : Block) : (b.touch ts).net = b.net := net_of_unnoticed (Block.touch_unnoticed ..)
@[simp] theorem Block.touch_pwr (ts : List Nat) (b : Block) : (b.touch ts).pwr = b.pwr := pwr_of_unnoticed (Block.touch_unnoticed ..)
@[simp] theorem Block.touch_sec (ts : List Nat) (b : Block) : (b.touch ts).sec = b.sec := sec_of_unnoticed (Block.touch_unnoticed ..)
@[simp] theorem Block.touch_upd (ts : List Nat) (b : Block) : (b.touch ts).upd = b.upd := upd_of_unnoticed (Block.touch_unnoticed ..)

theorem putRecord_unnoticed (sev : Severity) (keep saf : Bool) (code src arg0 : Nat) (data : List Nat) (b : Block) : (putRecord sev keep saf code src arg0 data b).unnoticed = b.unnoticed := rfl
theorem putRecord_unserved (sev : Severity) (keep saf : Bool) (code src arg0 : Nat) (data : List Nat) (b : Block) : (putRecord sev keep saf code src arg0 data b).unserved = b.unserved := unserved_of_unnoticed (putRecord_unnoticed ..)
@[simp] theorem putRecord_sys (sev : Severity) (keep saf : Bool) (code src arg0 : Nat) (data : List Nat) (b : Block) : (putRecord sev keep saf code src arg0 data b).sys = b.sys := sys_of_unnoticed (putRecord_unnoticed ..)
@[simp] theorem putRecord_ix (sev : Severity) (keep saf : Bool) (code src arg0 : Nat) (data : List Nat) (b : Block) : (putRecord sev keep saf code src arg0 data b).ix = b.ix := ix_of_unnoticed (putRecord_unnoticed ..)
@[simp] theorem putRecord_leash (sev : Severity) (keep saf : Bool) (code src arg0 : Nat) (data : List Nat) (b : Block) : (putRecord sev keep saf code src arg0 data b).leash = b.leash := leash_of_unnoticed (putRecord_unnoticed ..)
@[simp] theorem putRecord_ring (sev : Severity) (keep saf : Bool) (code src arg0 : Nat) (data : List Nat) (b : Block) : (putRecord sev keep saf code src arg0 data b).ring = b.ring := ring_of_unnoticed (putRecord_unnoticed ..)
@[simp] theorem putRecord_sense (sev : Severity) (keep saf : Bool) (code src arg0 : Nat) (data : List Nat) (b : Block) : (putRecord sev keep saf code src arg0 data b).sense = b.sense := sense_of_unnoticed (putRecord_unnoticed ..)
@[simp] theorem putRecord_bark (sev : Severity) (keep saf : Bool) (code src arg0 : Nat) (data : List Nat) (b : Block) : (putRecord sev keep saf code src arg0 data b).bark = b.bark := bark_of_unnoticed (putRecord_unnoticed ..)
@[simp] theorem putRecord_bal (sev : Severity) (keep saf : Bool) (code src arg0 : Nat) (data : List Nat) (b : Block) : (putRecord sev keep saf code src arg0 data b).bal = b.bal := bal_of_unnoticed (putRecord_unnoticed ..)
@[simp] theorem putRecord_flt (sev : Severity) (keep saf : Bool) (code src arg0 : Nat) (data : List Nat) (b : Block) : (putRecord sev keep saf code src arg0 data b).flt = b.flt := flt_of_unnoticed (putRecord_unnoticed ..)
@[simp] theorem putRecord_latch (sev : Severity) (keep saf : Bool) (code src arg0 : Nat) (data : List Nat) (b : Block) : (putRecord sev keep saf code src arg0 data b).latch = b.latch := latch_of_unnoticed (putRecord_unnoticed ..)
@[simp] theorem putRecord_cnv (sev : Severity) (keep saf : Bool) (code src arg0 : Nat) (data : List Nat) (b : Block) : (putRecord sev keep saf code src arg0 data b).cnv = b.cnv := cnv_of_unnoticed (putRecord_unnoticed ..)
@[simp] theorem putRecord_imp (sev : Severity) (keep saf : Bool) (code src arg0 : Nat) (data : List Nat) (b : Block) : (putRecord sev keep saf code src arg0 data b).imp = b.imp := imp_of_unnoticed (putRecord_unnoticed ..)
@[simp] theorem putRecord_loop (sev : Severity) (keep saf : Bool) (code src arg0 : Nat) (data : List Nat) (b : Block) : (putRecord sev keep saf code src arg0 data b).loop = b.loop := loop_of_unnoticed (putRecord_unnoticed ..)
@[simp] theorem putRecord_thm (sev : Severity) (keep saf : Bool) (code src arg0 : Nat) (data : List Nat) (b : Block) : (putRecord sev keep saf code src arg0 data b).thm = b.thm := thm_of_unnoticed (putRecord_unnoticed ..)
@[simp] theorem putRecord_net (sev : Severity) (keep saf : Bool) (code src arg0 : Nat) (data : List Nat) (b : Block) : (putRecord sev keep saf code src arg0 data b).net = b.net := net_of_unnoticed (putRecord_unnoticed ..)
@[simp] theorem putRecord_pwr (sev : Severity) (keep saf : Bool) (code src arg0 : Nat) (data : List Nat) (b : Block) : (putRecord sev keep saf code src arg0 data b).pwr = b.pwr := pwr_of_unnoticed (putRecord_unnoticed ..)
@[simp] theorem putRecord_sec (sev : Severity) (keep saf : Bool) (code src arg0 : Nat) (data : List Nat) (b : Block) : (putRecord sev keep saf code src arg0 data b).sec = b.sec := sec_of_unnoticed (putRecord_unnoticed ..)
@[simp] theorem putRecord_upd (sev : Severity) (keep saf : Bool) (code src arg0 : Nat) (data : List Nat) (b : Block) : (putRecord sev keep saf code src arg0 data b).upd = b.upd := upd_of_unnoticed (putRecord_unnoticed ..)

theorem recordEvent_unnoticed (sev : Severity) (code src arg0 : Nat) (data : List Nat) (b : Block) : (recordEvent sev code src arg0 data b).unnoticed = b.unnoticed := by
  unfold recordEvent; split
  · rfl
  · split
    · rfl
    · dsimp only; split <;> rfl
  · rfl
theorem recordEvent_unserved (sev : Severity) (code src arg0 : Nat) (data : List Nat) (b : Block) : (recordEvent sev code src arg0 data b).unserved = b.unserved := unserved_of_unnoticed (recordEvent_unnoticed ..)
@[simp] theorem recordEvent_sys (sev : Severity) (code src arg0 : Nat) (data : List Nat) (b : Block) : (recordEvent sev code src arg0 data b).sys = b.sys := sys_of_unnoticed (recordEvent_unnoticed ..)
@[simp] theorem recordEvent_ix (sev : Severity) (code src arg0 : Nat) (data : List Nat) (b : Block) : (recordEvent sev code src arg0 data b).ix = b.ix := ix_of_unnoticed (recordEvent_unnoticed ..)
@[simp] theorem recordEvent_leash (sev : Severity) (code src arg0 : Nat) (data : List Nat) (b : Block) : (recordEvent sev code src arg0 data b).leash = b.leash := leash_of_unnoticed (recordEvent_unnoticed ..)
@[simp] theorem recordEvent_ring (sev : Severity) (code src arg0 : Nat) (data : List Nat) (b : Block) : (recordEvent sev code src arg0 data b).ring = b.ring := ring_of_unnoticed (recordEvent_unnoticed ..)
@[simp] theorem recordEvent_sense (sev : Severity) (code src arg0 : Nat) (data : List Nat) (b : Block) : (recordEvent sev code src arg0 data b).sense = b.sense := sense_of_unnoticed (recordEvent_unnoticed ..)
@[simp] theorem recordEvent_bark (sev : Severity) (code src arg0 : Nat) (data : List Nat) (b : Block) : (recordEvent sev code src arg0 data b).bark = b.bark := bark_of_unnoticed (recordEvent_unnoticed ..)
@[simp] theorem recordEvent_bal (sev : Severity) (code src arg0 : Nat) (data : List Nat) (b : Block) : (recordEvent sev code src arg0 data b).bal = b.bal := bal_of_unnoticed (recordEvent_unnoticed ..)
@[simp] theorem recordEvent_flt (sev : Severity) (code src arg0 : Nat) (data : List Nat) (b : Block) : (recordEvent sev code src arg0 data b).flt = b.flt := flt_of_unnoticed (recordEvent_unnoticed ..)
@[simp] theorem recordEvent_latch (sev : Severity) (code src arg0 : Nat) (data : List Nat) (b : Block) : (recordEvent sev code src arg0 data b).latch = b.latch := latch_of_unnoticed (recordEvent_unnoticed ..)
@[simp] theorem recordEvent_cnv (sev : Severity) (code src arg0 : Nat) (data : List Nat) (b : Block) : (recordEvent sev code src arg0 data b).cnv = b.cnv := cnv_of_unnoticed (recordEvent_unnoticed ..)
@[simp] theorem recordEvent_imp (sev : Severity) (code src arg0 : Nat) (data : List Nat) (b : Block) : (recordEvent sev code src arg0 data b).imp = b.imp := imp_of_unnoticed (recordEvent_unnoticed ..)
@[simp] theorem recordEvent_loop (sev : Severity) (code src arg0 : Nat) (data : List Nat) (b : Block) : (recordEvent sev code src arg0 data b).loop = b.loop := loop_of_unnoticed (recordEvent_unnoticed ..)
@[simp] theorem recordEvent_thm (sev : Severity) (code src arg0 : Nat) (data : List Nat) (b : Block) : (recordEvent sev code src arg0 data b).thm = b.thm := thm_of_unnoticed (recordEvent_unnoticed ..)
@[simp] theorem recordEvent_net (sev : Severity) (code src arg0 : Nat) (data : List Nat) (b : Block) : (recordEvent sev code src arg0 data b).net = b.net := net_of_unnoticed (recordEvent_unnoticed ..)
@[simp] theorem recordEvent_pwr (sev : Severity) (code src arg0 : Nat) (data : List Nat) (b : Block) : (recordEvent sev code src arg0 data b).pwr = b.pwr := pwr_of_unnoticed (recordEvent_unnoticed ..)
@[simp] theorem recordEvent_sec (sev : Severity) (code src arg0 : Nat) (data : List Nat) (b : Block) : (recordEvent sev code src arg0 data b).sec = b.sec := sec_of_unnoticed (recordEvent_unnoticed ..)
@[simp] theorem recordEvent_upd (sev : Severity) (code src arg0 : Nat) (data : List Nat) (b : Block) : (recordEvent sev code src arg0 data b).upd = b.upd := upd_of_unnoticed (recordEvent_unnoticed ..)

theorem note_unnoticed (e : Event) (arg0 : Nat) (data : List Nat) (b : Block) : (note e arg0 data b).unnoticed = b.unnoticed := recordEvent_unnoticed ..
theorem note_unserved (e : Event) (arg0 : Nat) (data : List Nat) (b : Block) : (note e arg0 data b).unserved = b.unserved := unserved_of_unnoticed (note_unnoticed ..)
@[simp] theorem note_sys (e : Event) (arg0 : Nat) (data : List Nat) (b : Block) : (note e arg0 data b).sys = b.sys := sys_of_unnoticed (note_unnoticed ..)
@[simp] theorem note_ix (e : Event) (arg0 : Nat) (data : List Nat) (b : Block) : (note e arg0 data b).ix = b.ix := ix_of_unnoticed (note_unnoticed ..)
@[simp] theorem note_leash (e : Event) (arg0 : Nat) (data : List Nat) (b : Block) : (note e arg0 data b).leash = b.leash := leash_of_unnoticed (note_unnoticed ..)
@[simp] theorem note_ring (e : Event) (arg0 : Nat) (data : List Nat) (b : Block) : (note e arg0 data b).ring = b.ring := ring_of_unnoticed (note_unnoticed ..)
@[simp] theorem note_sense (e : Event) (arg0 : Nat) (data : List Nat) (b : Block) : (note e arg0 data b).sense = b.sense := sense_of_unnoticed (note_unnoticed ..)
@[simp] theorem note_bark (e : Event) (arg0 : Nat) (data : List Nat) (b : Block) : (note e arg0 data b).bark = b.bark := bark_of_unnoticed (note_unnoticed ..)
@[simp] theorem note_bal (e : Event) (arg0 : Nat) (data : List Nat) (b : Block) : (note e arg0 data b).bal = b.bal := bal_of_unnoticed (note_unnoticed ..)
@[simp] theorem note_flt (e : Event) (arg0 : Nat) (data : List Nat) (b : Block) : (note e arg0 data b).flt = b.flt := flt_of_unnoticed (note_unnoticed ..)
@[simp] theorem note_latch (e : Event) (arg0 : Nat) (data : List Nat) (b : Block) : (note e arg0 data b).latch = b.latch := latch_of_unnoticed (note_unnoticed ..)
@[simp] theorem note_cnv (e : Event) (arg0 : Nat) (data : List Nat) (b : Block) : (note e arg0 data b).cnv = b.cnv := cnv_of_unnoticed (note_unnoticed ..)
@[simp] theorem note_imp (e : Event) (arg0 : Nat) (data : List Nat) (b : Block) : (note e arg0 data b).imp = b.imp := imp_of_unnoticed (note_unnoticed ..)
@[simp] theorem note_loop (e : Event) (arg0 : Nat) (data : List Nat) (b : Block) : (note e arg0 data b).loop = b.loop := loop_of_unnoticed (note_unnoticed ..)
@[simp] theorem note_thm (e : Event) (arg0 : Nat) (data : List Nat) (b : Block) : (note e arg0 data b).thm = b.thm := thm_of_unnoticed (note_unnoticed ..)
@[simp] theorem note_net (e : Event) (arg0 : Nat) (data : List Nat) (b : Block) : (note e arg0 data b).net = b.net := net_of_unnoticed (note_unnoticed ..)
@[simp] theorem note_pwr (e : Event) (arg0 : Nat) (data : List Nat) (b : Block) : (note e arg0 data b).pwr = b.pwr := pwr_of_unnoticed (note_unnoticed ..)
@[simp] theorem note_sec (e : Event) (arg0 : Nat) (data : List Nat) (b : Block) : (note e arg0 data b).sec = b.sec := sec_of_unnoticed (note_unnoticed ..)
@[simp] theorem note_upd (e : Event) (arg0 : Nat) (data : List Nat) (b : Block) : (note e arg0 data b).upd = b.upd := upd_of_unnoticed (note_unnoticed ..)

theorem onPe_unnoticed (p : Nat) (f : PolEngine → PolEngine) (b : Block) : (onPe p f b).unnoticed = b.unnoticed := rfl
theorem onPe_unserved (p : Nat) (f : PolEngine → PolEngine) (b : Block) : (onPe p f b).unserved = b.unserved := unserved_of_unnoticed (onPe_unnoticed ..)
@[simp] theorem onPe_sys (p : Nat) (f : PolEngine → PolEngine) (b : Block) : (onPe p f b).sys = b.sys := sys_of_unnoticed (onPe_unnoticed ..)
@[simp] theorem onPe_ix (p : Nat) (f : PolEngine → PolEngine) (b : Block) : (onPe p f b).ix = b.ix := ix_of_unnoticed (onPe_unnoticed ..)
@[simp] theorem onPe_leash (p : Nat) (f : PolEngine → PolEngine) (b : Block) : (onPe p f b).leash = b.leash := leash_of_unnoticed (onPe_unnoticed ..)
@[simp] theorem onPe_ring (p : Nat) (f : PolEngine → PolEngine) (b : Block) : (onPe p f b).ring = b.ring := ring_of_unnoticed (onPe_unnoticed ..)
@[simp] theorem onPe_sense (p : Nat) (f : PolEngine → PolEngine) (b : Block) : (onPe p f b).sense = b.sense := sense_of_unnoticed (onPe_unnoticed ..)
@[simp] theorem onPe_bark (p : Nat) (f : PolEngine → PolEngine) (b : Block) : (onPe p f b).bark = b.bark := bark_of_unnoticed (onPe_unnoticed ..)
@[simp] theorem onPe_bal (p : Nat) (f : PolEngine → PolEngine) (b : Block) : (onPe p f b).bal = b.bal := bal_of_unnoticed (onPe_unnoticed ..)
@[simp] theorem onPe_flt (p : Nat) (f : PolEngine → PolEngine) (b : Block) : (onPe p f b).flt = b.flt := flt_of_unnoticed (onPe_unnoticed ..)
@[simp] theorem onPe_latch (p : Nat) (f : PolEngine → PolEngine) (b : Block) : (onPe p f b).latch = b.latch := latch_of_unnoticed (onPe_unnoticed ..)
@[simp] theorem onPe_cnv (p : Nat) (f : PolEngine → PolEngine) (b : Block) : (onPe p f b).cnv = b.cnv := cnv_of_unnoticed (onPe_unnoticed ..)
@[simp] theorem onPe_imp (p : Nat) (f : PolEngine → PolEngine) (b : Block) : (onPe p f b).imp = b.imp := imp_of_unnoticed (onPe_unnoticed ..)
@[simp] theorem onPe_loop (p : Nat) (f : PolEngine → PolEngine) (b : Block) : (onPe p f b).loop = b.loop := loop_of_unnoticed (onPe_unnoticed ..)
@[simp] theorem onPe_thm (p : Nat) (f : PolEngine → PolEngine) (b : Block) : (onPe p f b).thm = b.thm := thm_of_unnoticed (onPe_unnoticed ..)
@[simp] theorem onPe_net (p : Nat) (f : PolEngine → PolEngine) (b : Block) : (onPe p f b).net = b.net := net_of_unnoticed (onPe_unnoticed ..)
@[simp] theorem onPe_pwr (p : Nat) (f : PolEngine → PolEngine) (b : Block) : (onPe p f b).pwr = b.pwr := pwr_of_unnoticed (onPe_unnoticed ..)
@[simp] theorem onPe_sec (p : Nat) (f : PolEngine → PolEngine) (b : Block) : (onPe p f b).sec = b.sec := sec_of_unnoticed (onPe_unnoticed ..)
@[simp] theorem onPe_upd (p : Nat) (f : PolEngine → PolEngine) (b : Block) : (onPe p f b).upd = b.upd := upd_of_unnoticed (onPe_unnoticed ..)

theorem onCh_unnoticed (p : Nat) (f : DmaChan → DmaChan) (b : Block) : (onCh p f b).unnoticed = b.unnoticed := rfl
theorem onCh_unserved (p : Nat) (f : DmaChan → DmaChan) (b : Block) : (onCh p f b).unserved = b.unserved := unserved_of_unnoticed (onCh_unnoticed ..)
@[simp] theorem onCh_sys (p : Nat) (f : DmaChan → DmaChan) (b : Block) : (onCh p f b).sys = b.sys := sys_of_unnoticed (onCh_unnoticed ..)
@[simp] theorem onCh_ix (p : Nat) (f : DmaChan → DmaChan) (b : Block) : (onCh p f b).ix = b.ix := ix_of_unnoticed (onCh_unnoticed ..)
@[simp] theorem onCh_leash (p : Nat) (f : DmaChan → DmaChan) (b : Block) : (onCh p f b).leash = b.leash := leash_of_unnoticed (onCh_unnoticed ..)
@[simp] theorem onCh_ring (p : Nat) (f : DmaChan → DmaChan) (b : Block) : (onCh p f b).ring = b.ring := ring_of_unnoticed (onCh_unnoticed ..)
@[simp] theorem onCh_sense (p : Nat) (f : DmaChan → DmaChan) (b : Block) : (onCh p f b).sense = b.sense := sense_of_unnoticed (onCh_unnoticed ..)
@[simp] theorem onCh_bark (p : Nat) (f : DmaChan → DmaChan) (b : Block) : (onCh p f b).bark = b.bark := bark_of_unnoticed (onCh_unnoticed ..)
@[simp] theorem onCh_bal (p : Nat) (f : DmaChan → DmaChan) (b : Block) : (onCh p f b).bal = b.bal := bal_of_unnoticed (onCh_unnoticed ..)
@[simp] theorem onCh_flt (p : Nat) (f : DmaChan → DmaChan) (b : Block) : (onCh p f b).flt = b.flt := flt_of_unnoticed (onCh_unnoticed ..)
@[simp] theorem onCh_latch (p : Nat) (f : DmaChan → DmaChan) (b : Block) : (onCh p f b).latch = b.latch := latch_of_unnoticed (onCh_unnoticed ..)
@[simp] theorem onCh_cnv (p : Nat) (f : DmaChan → DmaChan) (b : Block) : (onCh p f b).cnv = b.cnv := cnv_of_unnoticed (onCh_unnoticed ..)
@[simp] theorem onCh_imp (p : Nat) (f : DmaChan → DmaChan) (b : Block) : (onCh p f b).imp = b.imp := imp_of_unnoticed (onCh_unnoticed ..)
@[simp] theorem onCh_loop (p : Nat) (f : DmaChan → DmaChan) (b : Block) : (onCh p f b).loop = b.loop := loop_of_unnoticed (onCh_unnoticed ..)
@[simp] theorem onCh_thm (p : Nat) (f : DmaChan → DmaChan) (b : Block) : (onCh p f b).thm = b.thm := thm_of_unnoticed (onCh_unnoticed ..)
@[simp] theorem onCh_net (p : Nat) (f : DmaChan → DmaChan) (b : Block) : (onCh p f b).net = b.net := net_of_unnoticed (onCh_unnoticed ..)
@[simp] theorem onCh_pwr (p : Nat) (f : DmaChan → DmaChan) (b : Block) : (onCh p f b).pwr = b.pwr := pwr_of_unnoticed (onCh_unnoticed ..)
@[simp] theorem onCh_sec (p : Nat) (f : DmaChan → DmaChan) (b : Block) : (onCh p f b).sec = b.sec := sec_of_unnoticed (onCh_unnoticed ..)
@[simp] theorem onCh_upd (p : Nat) (f : DmaChan → DmaChan) (b : Block) : (onCh p f b).upd = b.upd := upd_of_unnoticed (onCh_unnoticed ..)

theorem onCq_unnoticed (l : CqLoc) (f : Cq → Cq) (b : Block) : (onCq l f b).unnoticed = b.unnoticed := by cases l <;> rfl
theorem onCq_unserved (l : CqLoc) (f : Cq → Cq) (b : Block) : (onCq l f b).unserved = b.unserved := unserved_of_unnoticed (onCq_unnoticed ..)
@[simp] theorem onCq_sys (l : CqLoc) (f : Cq → Cq) (b : Block) : (onCq l f b).sys = b.sys := sys_of_unnoticed (onCq_unnoticed ..)
@[simp] theorem onCq_ix (l : CqLoc) (f : Cq → Cq) (b : Block) : (onCq l f b).ix = b.ix := ix_of_unnoticed (onCq_unnoticed ..)
@[simp] theorem onCq_leash (l : CqLoc) (f : Cq → Cq) (b : Block) : (onCq l f b).leash = b.leash := leash_of_unnoticed (onCq_unnoticed ..)
@[simp] theorem onCq_ring (l : CqLoc) (f : Cq → Cq) (b : Block) : (onCq l f b).ring = b.ring := ring_of_unnoticed (onCq_unnoticed ..)
@[simp] theorem onCq_sense (l : CqLoc) (f : Cq → Cq) (b : Block) : (onCq l f b).sense = b.sense := sense_of_unnoticed (onCq_unnoticed ..)
@[simp] theorem onCq_bark (l : CqLoc) (f : Cq → Cq) (b : Block) : (onCq l f b).bark = b.bark := bark_of_unnoticed (onCq_unnoticed ..)
@[simp] theorem onCq_bal (l : CqLoc) (f : Cq → Cq) (b : Block) : (onCq l f b).bal = b.bal := bal_of_unnoticed (onCq_unnoticed ..)
@[simp] theorem onCq_flt (l : CqLoc) (f : Cq → Cq) (b : Block) : (onCq l f b).flt = b.flt := flt_of_unnoticed (onCq_unnoticed ..)
@[simp] theorem onCq_latch (l : CqLoc) (f : Cq → Cq) (b : Block) : (onCq l f b).latch = b.latch := latch_of_unnoticed (onCq_unnoticed ..)
@[simp] theorem onCq_cnv (l : CqLoc) (f : Cq → Cq) (b : Block) : (onCq l f b).cnv = b.cnv := cnv_of_unnoticed (onCq_unnoticed ..)
@[simp] theorem onCq_imp (l : CqLoc) (f : Cq → Cq) (b : Block) : (onCq l f b).imp = b.imp := imp_of_unnoticed (onCq_unnoticed ..)
@[simp] theorem onCq_loop (l : CqLoc) (f : Cq → Cq) (b : Block) : (onCq l f b).loop = b.loop := loop_of_unnoticed (onCq_unnoticed ..)
@[simp] theorem onCq_thm (l : CqLoc) (f : Cq → Cq) (b : Block) : (onCq l f b).thm = b.thm := thm_of_unnoticed (onCq_unnoticed ..)
@[simp] theorem onCq_net (l : CqLoc) (f : Cq → Cq) (b : Block) : (onCq l f b).net = b.net := net_of_unnoticed (onCq_unnoticed ..)
@[simp] theorem onCq_pwr (l : CqLoc) (f : Cq → Cq) (b : Block) : (onCq l f b).pwr = b.pwr := pwr_of_unnoticed (onCq_unnoticed ..)
@[simp] theorem onCq_sec (l : CqLoc) (f : Cq → Cq) (b : Block) : (onCq l f b).sec = b.sec := sec_of_unnoticed (onCq_unnoticed ..)
@[simp] theorem onCq_upd (l : CqLoc) (f : Cq → Cq) (b : Block) : (onCq l f b).upd = b.upd := upd_of_unnoticed (onCq_unnoticed ..)

theorem ramWrite_unnoticed (pa : Nat) (bs : List Byte) (b : Block) : (ramWrite pa bs b).unnoticed = b.unnoticed := rfl
theorem ramWrite_unserved (pa : Nat) (bs : List Byte) (b : Block) : (ramWrite pa bs b).unserved = b.unserved := unserved_of_unnoticed (ramWrite_unnoticed ..)
@[simp] theorem ramWrite_sys (pa : Nat) (bs : List Byte) (b : Block) : (ramWrite pa bs b).sys = b.sys := sys_of_unnoticed (ramWrite_unnoticed ..)
@[simp] theorem ramWrite_ix (pa : Nat) (bs : List Byte) (b : Block) : (ramWrite pa bs b).ix = b.ix := ix_of_unnoticed (ramWrite_unnoticed ..)
@[simp] theorem ramWrite_leash (pa : Nat) (bs : List Byte) (b : Block) : (ramWrite pa bs b).leash = b.leash := leash_of_unnoticed (ramWrite_unnoticed ..)
@[simp] theorem ramWrite_ring (pa : Nat) (bs : List Byte) (b : Block) : (ramWrite pa bs b).ring = b.ring := ring_of_unnoticed (ramWrite_unnoticed ..)
@[simp] theorem ramWrite_sense (pa : Nat) (bs : List Byte) (b : Block) : (ramWrite pa bs b).sense = b.sense := sense_of_unnoticed (ramWrite_unnoticed ..)
@[simp] theorem ramWrite_bark (pa : Nat) (bs : List Byte) (b : Block) : (ramWrite pa bs b).bark = b.bark := bark_of_unnoticed (ramWrite_unnoticed ..)
@[simp] theorem ramWrite_bal (pa : Nat) (bs : List Byte) (b : Block) : (ramWrite pa bs b).bal = b.bal := bal_of_unnoticed (ramWrite_unnoticed ..)
@[simp] theorem ramWrite_flt (pa : Nat) (bs : List Byte) (b : Block) : (ramWrite pa bs b).flt = b.flt := flt_of_unnoticed (ramWrite_unnoticed ..)
@[simp] theorem ramWrite_latch (pa : Nat) (bs : List Byte) (b : Block) : (ramWrite pa bs b).latch = b.latch := latch_of_unnoticed (ramWrite_unnoticed ..)
@[simp] theorem ramWrite_cnv (pa : Nat) (bs : List Byte) (b : Block) : (ramWrite pa bs b).cnv = b.cnv := cnv_of_unnoticed (ramWrite_unnoticed ..)
@[simp] theorem ramWrite_imp (pa : Nat) (bs : List Byte) (b : Block) : (ramWrite pa bs b).imp = b.imp := imp_of_unnoticed (ramWrite_unnoticed ..)
@[simp] theorem ramWrite_loop (pa : Nat) (bs : List Byte) (b : Block) : (ramWrite pa bs b).loop = b.loop := loop_of_unnoticed (ramWrite_unnoticed ..)
@[simp] theorem ramWrite_thm (pa : Nat) (bs : List Byte) (b : Block) : (ramWrite pa bs b).thm = b.thm := thm_of_unnoticed (ramWrite_unnoticed ..)
@[simp] theorem ramWrite_net (pa : Nat) (bs : List Byte) (b : Block) : (ramWrite pa bs b).net = b.net := net_of_unnoticed (ramWrite_unnoticed ..)
@[simp] theorem ramWrite_pwr (pa : Nat) (bs : List Byte) (b : Block) : (ramWrite pa bs b).pwr = b.pwr := pwr_of_unnoticed (ramWrite_unnoticed ..)
@[simp] theorem ramWrite_sec (pa : Nat) (bs : List Byte) (b : Block) : (ramWrite pa bs b).sec = b.sec := sec_of_unnoticed (ramWrite_unnoticed ..)
@[simp] theorem ramWrite_upd (pa : Nat) (bs : List Byte) (b : Block) : (ramWrite pa bs b).upd = b.upd := upd_of_unnoticed (ramWrite_unnoticed ..)

theorem vwrite_unnoticed (p va : Nat) (bs : List Byte) (b : Block) : (vwrite p va bs b).unnoticed = b.unnoticed := by unfold vwrite; split <;> rfl
theorem vwrite_unserved (p va : Nat) (bs : List Byte) (b : Block) : (vwrite p va bs b).unserved = b.unserved := unserved_of_unnoticed (vwrite_unnoticed ..)
@[simp] theorem vwrite_sys (p va : Nat) (bs : List Byte) (b : Block) : (vwrite p va bs b).sys = b.sys := sys_of_unnoticed (vwrite_unnoticed ..)
@[simp] theorem vwrite_ix (p va : Nat) (bs : List Byte) (b : Block) : (vwrite p va bs b).ix = b.ix := ix_of_unnoticed (vwrite_unnoticed ..)
@[simp] theorem vwrite_leash (p va : Nat) (bs : List Byte) (b : Block) : (vwrite p va bs b).leash = b.leash := leash_of_unnoticed (vwrite_unnoticed ..)
@[simp] theorem vwrite_ring (p va : Nat) (bs : List Byte) (b : Block) : (vwrite p va bs b).ring = b.ring := ring_of_unnoticed (vwrite_unnoticed ..)
@[simp] theorem vwrite_sense (p va : Nat) (bs : List Byte) (b : Block) : (vwrite p va bs b).sense = b.sense := sense_of_unnoticed (vwrite_unnoticed ..)
@[simp] theorem vwrite_bark (p va : Nat) (bs : List Byte) (b : Block) : (vwrite p va bs b).bark = b.bark := bark_of_unnoticed (vwrite_unnoticed ..)
@[simp] theorem vwrite_bal (p va : Nat) (bs : List Byte) (b : Block) : (vwrite p va bs b).bal = b.bal := bal_of_unnoticed (vwrite_unnoticed ..)
@[simp] theorem vwrite_flt (p va : Nat) (bs : List Byte) (b : Block) : (vwrite p va bs b).flt = b.flt := flt_of_unnoticed (vwrite_unnoticed ..)
@[simp] theorem vwrite_latch (p va : Nat) (bs : List Byte) (b : Block) : (vwrite p va bs b).latch = b.latch := latch_of_unnoticed (vwrite_unnoticed ..)
@[simp] theorem vwrite_cnv (p va : Nat) (bs : List Byte) (b : Block) : (vwrite p va bs b).cnv = b.cnv := cnv_of_unnoticed (vwrite_unnoticed ..)
@[simp] theorem vwrite_imp (p va : Nat) (bs : List Byte) (b : Block) : (vwrite p va bs b).imp = b.imp := imp_of_unnoticed (vwrite_unnoticed ..)
@[simp] theorem vwrite_loop (p va : Nat) (bs : List Byte) (b : Block) : (vwrite p va bs b).loop = b.loop := loop_of_unnoticed (vwrite_unnoticed ..)
@[simp] theorem vwrite_thm (p va : Nat) (bs : List Byte) (b : Block) : (vwrite p va bs b).thm = b.thm := thm_of_unnoticed (vwrite_unnoticed ..)
@[simp] theorem vwrite_net (p va : Nat) (bs : List Byte) (b : Block) : (vwrite p va bs b).net = b.net := net_of_unnoticed (vwrite_unnoticed ..)
@[simp] theorem vwrite_pwr (p va : Nat) (bs : List Byte) (b : Block) : (vwrite p va bs b).pwr = b.pwr := pwr_of_unnoticed (vwrite_unnoticed ..)
@[simp] theorem vwrite_sec (p va : Nat) (bs : List Byte) (b : Block) : (vwrite p va bs b).sec = b.sec := sec_of_unnoticed (vwrite_unnoticed ..)
@[simp] theorem vwrite_upd (p va : Nat) (bs : List Byte) (b : Block) : (vwrite p va bs b).upd = b.upd := upd_of_unnoticed (vwrite_unnoticed ..)

theorem redirectOne_unnoticed (s : Nat) (b : Block) : (redirectOne s b).unnoticed = b.unnoticed := by
  unfold redirectOne; split
  · split
    · rfl
    · rw [note_unnoticed]; rfl
  · rfl
theorem redirectOne_unserved (s : Nat) (b : Block) : (redirectOne s b).unserved = b.unserved := unserved_of_unnoticed (redirectOne_unnoticed ..)
@[simp] theorem redirectOne_sys (s : Nat) (b : Block) : (redirectOne s b).sys = b.sys := sys_of_unnoticed (redirectOne_unnoticed ..)
@[simp] theorem redirectOne_ix (s : Nat) (b : Block) : (redirectOne s b).ix = b.ix := ix_of_unnoticed (redirectOne_unnoticed ..)
@[simp] theorem redirectOne_leash (s : Nat) (b : Block) : (redirectOne s b).leash = b.leash := leash_of_unnoticed (redirectOne_unnoticed ..)
@[simp] theorem redirectOne_ring (s : Nat) (b : Block) : (redirectOne s b).ring = b.ring := ring_of_unnoticed (redirectOne_unnoticed ..)
@[simp] theorem redirectOne_sense (s : Nat) (b : Block) : (redirectOne s b).sense = b.sense := sense_of_unnoticed (redirectOne_unnoticed ..)
@[simp] theorem redirectOne_bark (s : Nat) (b : Block) : (redirectOne s b).bark = b.bark := bark_of_unnoticed (redirectOne_unnoticed ..)
@[simp] theorem redirectOne_bal (s : Nat) (b : Block) : (redirectOne s b).bal = b.bal := bal_of_unnoticed (redirectOne_unnoticed ..)
@[simp] theorem redirectOne_flt (s : Nat) (b : Block) : (redirectOne s b).flt = b.flt := flt_of_unnoticed (redirectOne_unnoticed ..)
@[simp] theorem redirectOne_latch (s : Nat) (b : Block) : (redirectOne s b).latch = b.latch := latch_of_unnoticed (redirectOne_unnoticed ..)
@[simp] theorem redirectOne_cnv (s : Nat) (b : Block) : (redirectOne s b).cnv = b.cnv := cnv_of_unnoticed (redirectOne_unnoticed ..)
@[simp] theorem redirectOne_imp (s : Nat) (b : Block) : (redirectOne s b).imp = b.imp := imp_of_unnoticed (redirectOne_unnoticed ..)
@[simp] theorem redirectOne_loop (s : Nat) (b : Block) : (redirectOne s b).loop = b.loop := loop_of_unnoticed (redirectOne_unnoticed ..)
@[simp] theorem redirectOne_thm (s : Nat) (b : Block) : (redirectOne s b).thm = b.thm := thm_of_unnoticed (redirectOne_unnoticed ..)
@[simp] theorem redirectOne_net (s : Nat) (b : Block) : (redirectOne s b).net = b.net := net_of_unnoticed (redirectOne_unnoticed ..)
@[simp] theorem redirectOne_pwr (s : Nat) (b : Block) : (redirectOne s b).pwr = b.pwr := pwr_of_unnoticed (redirectOne_unnoticed ..)
@[simp] theorem redirectOne_sec (s : Nat) (b : Block) : (redirectOne s b).sec = b.sec := sec_of_unnoticed (redirectOne_unnoticed ..)
@[simp] theorem redirectOne_upd (s : Nat) (b : Block) : (redirectOne s b).upd = b.upd := upd_of_unnoticed (redirectOne_unnoticed ..)

theorem redirectAll_unnoticed  (b : Block) : (redirectAll b).unnoticed = b.unnoticed := foldl_keeps Block.unnoticed _ (fun _ _ => redirectOne_unnoticed _ _) _ _
theorem redirectAll_unserved  (b : Block) : (redirectAll b).unserved = b.unserved := unserved_of_unnoticed (redirectAll_unnoticed ..)
@[simp] theorem redirectAll_sys  (b : Block) : (redirectAll b).sys = b.sys := sys_of_unnoticed (redirectAll_unnoticed ..)
@[simp] theorem redirectAll_ix  (b : Block) : (redirectAll b).ix = b.ix := ix_of_unnoticed (redirectAll_unnoticed ..)
@[simp] theorem redirectAll_leash  (b : Block) : (redirectAll b).leash = b.leash := leash_of_unnoticed (redirectAll_unnoticed ..)
@[simp] theorem redirectAll_ring  (b : Block) : (redirectAll b).ring = b.ring := ring_of_unnoticed (redirectAll_unnoticed ..)
@[simp] theorem redirectAll_sense  (b : Block) : (redirectAll b).sense = b.sense := sense_of_unnoticed (redirectAll_unnoticed ..)
@[simp] theorem redirectAll_bark  (b : Block) : (redirectAll b).bark = b.bark := bark_of_unnoticed (redirectAll_unnoticed ..)
@[simp] theorem redirectAll_bal  (b : Block) : (redirectAll b).bal = b.bal := bal_of_unnoticed (redirectAll_unnoticed ..)
@[simp] theorem redirectAll_flt  (b : Block) : (redirectAll b).flt = b.flt := flt_of_unnoticed (redirectAll_unnoticed ..)
@[simp] theorem redirectAll_latch  (b : Block) : (redirectAll b).latch = b.latch := latch_of_unnoticed (redirectAll_unnoticed ..)
@[simp] theorem redirectAll_cnv  (b : Block) : (redirectAll b).cnv = b.cnv := cnv_of_unnoticed (redirectAll_unnoticed ..)
@[simp] theorem redirectAll_imp  (b : Block) : (redirectAll b).imp = b.imp := imp_of_unnoticed (redirectAll_unnoticed ..)
@[simp] theorem redirectAll_loop  (b : Block) : (redirectAll b).loop = b.loop := loop_of_unnoticed (redirectAll_unnoticed ..)
@[simp] theorem redirectAll_thm  (b : Block) : (redirectAll b).thm = b.thm := thm_of_unnoticed (redirectAll_unnoticed ..)
@[simp] theorem redirectAll_net  (b : Block) : (redirectAll b).net = b.net := net_of_unnoticed (redirectAll_unnoticed ..)
@[simp] theorem redirectAll_pwr  (b : Block) : (redirectAll b).pwr = b.pwr := pwr_of_unnoticed (redirectAll_unnoticed ..)
@[simp] theorem redirectAll_sec  (b : Block) : (redirectAll b).sec = b.sec := sec_of_unnoticed (redirectAll_unnoticed ..)
@[simp] theorem redirectAll_upd  (b : Block) : (redirectAll b).upd = b.upd := upd_of_unnoticed (redirectAll_unnoticed ..)

theorem raiseIrq_unnoticed (s : Nat) (b : Block) : (raiseIrq s b).unnoticed = b.unnoticed := by unfold raiseIrq; rw [redirectOne_unnoticed]; rfl
theorem raiseIrq_unserved (s : Nat) (b : Block) : (raiseIrq s b).unserved = b.unserved := unserved_of_unnoticed (raiseIrq_unnoticed ..)
@[simp] theorem raiseIrq_sys (s : Nat) (b : Block) : (raiseIrq s b).sys = b.sys := sys_of_unnoticed (raiseIrq_unnoticed ..)
@[simp] theorem raiseIrq_ix (s : Nat) (b : Block) : (raiseIrq s b).ix = b.ix := ix_of_unnoticed (raiseIrq_unnoticed ..)
@[simp] theorem raiseIrq_leash (s : Nat) (b : Block) : (raiseIrq s b).leash = b.leash := leash_of_unnoticed (raiseIrq_unnoticed ..)
@[simp] theorem raiseIrq_ring (s : Nat) (b : Block) : (raiseIrq s b).ring = b.ring := ring_of_unnoticed (raiseIrq_unnoticed ..)
@[simp] theorem raiseIrq_sense (s : Nat) (b : Block) : (raiseIrq s b).sense = b.sense := sense_of_unnoticed (raiseIrq_unnoticed ..)
@[simp] theorem raiseIrq_bark (s : Nat) (b : Block) : (raiseIrq s b).bark = b.bark := bark_of_unnoticed (raiseIrq_unnoticed ..)
@[simp] theorem raiseIrq_bal (s : Nat) (b : Block) : (raiseIrq s b).bal = b.bal := bal_of_unnoticed (raiseIrq_unnoticed ..)
@[simp] theorem raiseIrq_flt (s : Nat) (b : Block) : (raiseIrq s b).flt = b.flt := flt_of_unnoticed (raiseIrq_unnoticed ..)
@[simp] theorem raiseIrq_latch (s : Nat) (b : Block) : (raiseIrq s b).latch = b.latch := latch_of_unnoticed (raiseIrq_unnoticed ..)
@[simp] theorem raiseIrq_cnv (s : Nat) (b : Block) : (raiseIrq s b).cnv = b.cnv := cnv_of_unnoticed (raiseIrq_unnoticed ..)
@[simp] theorem raiseIrq_imp (s : Nat) (b : Block) : (raiseIrq s b).imp = b.imp := imp_of_unnoticed (raiseIrq_unnoticed ..)
@[simp] theorem raiseIrq_loop (s : Nat) (b : Block) : (raiseIrq s b).loop = b.loop := loop_of_unnoticed (raiseIrq_unnoticed ..)
@[simp] theorem raiseIrq_thm (s : Nat) (b : Block) : (raiseIrq s b).thm = b.thm := thm_of_unnoticed (raiseIrq_unnoticed ..)
@[simp] theorem raiseIrq_net (s : Nat) (b : Block) : (raiseIrq s b).net = b.net := net_of_unnoticed (raiseIrq_unnoticed ..)
@[simp] theorem raiseIrq_pwr (s : Nat) (b : Block) : (raiseIrq s b).pwr = b.pwr := pwr_of_unnoticed (raiseIrq_unnoticed ..)
@[simp] theorem raiseIrq_sec (s : Nat) (b : Block) : (raiseIrq s b).sec = b.sec := sec_of_unnoticed (raiseIrq_unnoticed ..)
@[simp] theorem raiseIrq_upd (s : Nat) (b : Block) : (raiseIrq s b).upd = b.upd := upd_of_unnoticed (raiseIrq_unnoticed ..)

theorem irqWatch_unnoticed (o : Block) (b : Block) : (irqWatch o b).unnoticed = b.unnoticed := by
  have h := foldl_keeps Block.unnoticed (fun b s => raiseIrq s b) (fun _ _ => raiseIrq_unnoticed _ _) (irqEdges o b) b
  unfold irqWatch; dsimp only; split
  · exact h
  · rw [redirectAll_unnoticed]; exact h
theorem irqWatch_unserved (o : Block) (b : Block) : (irqWatch o b).unserved = b.unserved := unserved_of_unnoticed (irqWatch_unnoticed ..)
@[simp] theorem irqWatch_sys (o : Block) (b : Block) : (irqWatch o b).sys = b.sys := sys_of_unnoticed (irqWatch_unnoticed ..)
@[simp] theorem irqWatch_ix (o : Block) (b : Block) : (irqWatch o b).ix = b.ix := ix_of_unnoticed (irqWatch_unnoticed ..)
@[simp] theorem irqWatch_leash (o : Block) (b : Block) : (irqWatch o b).leash = b.leash := leash_of_unnoticed (irqWatch_unnoticed ..)
@[simp] theorem irqWatch_ring (o : Block) (b : Block) : (irqWatch o b).ring = b.ring := ring_of_unnoticed (irqWatch_unnoticed ..)
@[simp] theorem irqWatch_sense (o : Block) (b : Block) : (irqWatch o b).sense = b.sense := sense_of_unnoticed (irqWatch_unnoticed ..)
@[simp] theorem irqWatch_bark (o : Block) (b : Block) : (irqWatch o b).bark = b.bark := bark_of_unnoticed (irqWatch_unnoticed ..)
@[simp] theorem irqWatch_bal (o : Block) (b : Block) : (irqWatch o b).bal = b.bal := bal_of_unnoticed (irqWatch_unnoticed ..)
@[simp] theorem irqWatch_flt (o : Block) (b : Block) : (irqWatch o b).flt = b.flt := flt_of_unnoticed (irqWatch_unnoticed ..)
@[simp] theorem irqWatch_latch (o : Block) (b : Block) : (irqWatch o b).latch = b.latch := latch_of_unnoticed (irqWatch_unnoticed ..)
@[simp] theorem irqWatch_cnv (o : Block) (b : Block) : (irqWatch o b).cnv = b.cnv := cnv_of_unnoticed (irqWatch_unnoticed ..)
@[simp] theorem irqWatch_imp (o : Block) (b : Block) : (irqWatch o b).imp = b.imp := imp_of_unnoticed (irqWatch_unnoticed ..)
@[simp] theorem irqWatch_loop (o : Block) (b : Block) : (irqWatch o b).loop = b.loop := loop_of_unnoticed (irqWatch_unnoticed ..)
@[simp] theorem irqWatch_thm (o : Block) (b : Block) : (irqWatch o b).thm = b.thm := thm_of_unnoticed (irqWatch_unnoticed ..)
@[simp] theorem irqWatch_net (o : Block) (b : Block) : (irqWatch o b).net = b.net := net_of_unnoticed (irqWatch_unnoticed ..)
@[simp] theorem irqWatch_pwr (o : Block) (b : Block) : (irqWatch o b).pwr = b.pwr := pwr_of_unnoticed (irqWatch_unnoticed ..)
@[simp] theorem irqWatch_sec (o : Block) (b : Block) : (irqWatch o b).sec = b.sec := sec_of_unnoticed (irqWatch_unnoticed ..)
@[simp] theorem irqWatch_upd (o : Block) (b : Block) : (irqWatch o b).upd = b.upd := upd_of_unnoticed (irqWatch_unnoticed ..)

theorem signalCq_unnoticed (l : CqLoc) (b : Block) : (signalCq l b).unnoticed = b.unnoticed := by unfold signalCq; rw [raiseIrq_unnoticed, onCq_unnoticed]
theorem signalCq_unserved (l : CqLoc) (b : Block) : (signalCq l b).unserved = b.unserved := unserved_of_unnoticed (signalCq_unnoticed ..)
@[simp] theorem signalCq_sys (l : CqLoc) (b : Block) : (signalCq l b).sys = b.sys := sys_of_unnoticed (signalCq_unnoticed ..)
@[simp] theorem signalCq_ix (l : CqLoc) (b : Block) : (signalCq l b).ix = b.ix := ix_of_unnoticed (signalCq_unnoticed ..)
@[simp] theorem signalCq_leash (l : CqLoc) (b : Block) : (signalCq l b).leash = b.leash := leash_of_unnoticed (signalCq_unnoticed ..)
@[simp] theorem signalCq_ring (l : CqLoc) (b : Block) : (signalCq l b).ring = b.ring := ring_of_unnoticed (signalCq_unnoticed ..)
@[simp] theorem signalCq_sense (l : CqLoc) (b : Block) : (signalCq l b).sense = b.sense := sense_of_unnoticed (signalCq_unnoticed ..)
@[simp] theorem signalCq_bark (l : CqLoc) (b : Block) : (signalCq l b).bark = b.bark := bark_of_unnoticed (signalCq_unnoticed ..)
@[simp] theorem signalCq_bal (l : CqLoc) (b : Block) : (signalCq l b).bal = b.bal := bal_of_unnoticed (signalCq_unnoticed ..)
@[simp] theorem signalCq_flt (l : CqLoc) (b : Block) : (signalCq l b).flt = b.flt := flt_of_unnoticed (signalCq_unnoticed ..)
@[simp] theorem signalCq_latch (l : CqLoc) (b : Block) : (signalCq l b).latch = b.latch := latch_of_unnoticed (signalCq_unnoticed ..)
@[simp] theorem signalCq_cnv (l : CqLoc) (b : Block) : (signalCq l b).cnv = b.cnv := cnv_of_unnoticed (signalCq_unnoticed ..)
@[simp] theorem signalCq_imp (l : CqLoc) (b : Block) : (signalCq l b).imp = b.imp := imp_of_unnoticed (signalCq_unnoticed ..)
@[simp] theorem signalCq_loop (l : CqLoc) (b : Block) : (signalCq l b).loop = b.loop := loop_of_unnoticed (signalCq_unnoticed ..)
@[simp] theorem signalCq_thm (l : CqLoc) (b : Block) : (signalCq l b).thm = b.thm := thm_of_unnoticed (signalCq_unnoticed ..)
@[simp] theorem signalCq_net (l : CqLoc) (b : Block) : (signalCq l b).net = b.net := net_of_unnoticed (signalCq_unnoticed ..)
@[simp] theorem signalCq_pwr (l : CqLoc) (b : Block) : (signalCq l b).pwr = b.pwr := pwr_of_unnoticed (signalCq_unnoticed ..)
@[simp] theorem signalCq_sec (l : CqLoc) (b : Block) : (signalCq l b).sec = b.sec := sec_of_unnoticed (signalCq_unnoticed ..)
@[simp] theorem signalCq_upd (l : CqLoc) (b : Block) : (signalCq l b).upd = b.upd := upd_of_unnoticed (signalCq_unnoticed ..)

theorem putCq_unnoticed (l : CqLoc) (e : CqEntry) (b : Block) : (putCq l e b).unnoticed = b.unnoticed := by
  unfold putCq; dsimp only; split
  · rw [signalCq_unnoticed, onCq_unnoticed, vwrite_unnoticed]
  · rw [onCq_unnoticed, vwrite_unnoticed]
theorem putCq_unserved (l : CqLoc) (e : CqEntry) (b : Block) : (putCq l e b).unserved = b.unserved := unserved_of_unnoticed (putCq_unnoticed ..)
@[simp] theorem putCq_sys (l : CqLoc) (e : CqEntry) (b : Block) : (putCq l e b).sys = b.sys := sys_of_unnoticed (putCq_unnoticed ..)
@[simp] theorem putCq_ix (l : CqLoc) (e : CqEntry) (b : Block) : (putCq l e b).ix = b.ix := ix_of_unnoticed (putCq_unnoticed ..)
@[simp] theorem putCq_leash (l : CqLoc) (e : CqEntry) (b : Block) : (putCq l e b).leash = b.leash := leash_of_unnoticed (putCq_unnoticed ..)
@[simp] theorem putCq_ring (l : CqLoc) (e : CqEntry) (b : Block) : (putCq l e b).ring = b.ring := ring_of_unnoticed (putCq_unnoticed ..)
@[simp] theorem putCq_sense (l : CqLoc) (e : CqEntry) (b : Block) : (putCq l e b).sense = b.sense := sense_of_unnoticed (putCq_unnoticed ..)
@[simp] theorem putCq_bark (l : CqLoc) (e : CqEntry) (b : Block) : (putCq l e b).bark = b.bark := bark_of_unnoticed (putCq_unnoticed ..)
@[simp] theorem putCq_bal (l : CqLoc) (e : CqEntry) (b : Block) : (putCq l e b).bal = b.bal := bal_of_unnoticed (putCq_unnoticed ..)
@[simp] theorem putCq_flt (l : CqLoc) (e : CqEntry) (b : Block) : (putCq l e b).flt = b.flt := flt_of_unnoticed (putCq_unnoticed ..)
@[simp] theorem putCq_latch (l : CqLoc) (e : CqEntry) (b : Block) : (putCq l e b).latch = b.latch := latch_of_unnoticed (putCq_unnoticed ..)
@[simp] theorem putCq_cnv (l : CqLoc) (e : CqEntry) (b : Block) : (putCq l e b).cnv = b.cnv := cnv_of_unnoticed (putCq_unnoticed ..)
@[simp] theorem putCq_imp (l : CqLoc) (e : CqEntry) (b : Block) : (putCq l e b).imp = b.imp := imp_of_unnoticed (putCq_unnoticed ..)
@[simp] theorem putCq_loop (l : CqLoc) (e : CqEntry) (b : Block) : (putCq l e b).loop = b.loop := loop_of_unnoticed (putCq_unnoticed ..)
@[simp] theorem putCq_thm (l : CqLoc) (e : CqEntry) (b : Block) : (putCq l e b).thm = b.thm := thm_of_unnoticed (putCq_unnoticed ..)
@[simp] theorem putCq_net (l : CqLoc) (e : CqEntry) (b : Block) : (putCq l e b).net = b.net := net_of_unnoticed (putCq_unnoticed ..)
@[simp] theorem putCq_pwr (l : CqLoc) (e : CqEntry) (b : Block) : (putCq l e b).pwr = b.pwr := pwr_of_unnoticed (putCq_unnoticed ..)
@[simp] theorem putCq_sec (l : CqLoc) (e : CqEntry) (b : Block) : (putCq l e b).sec = b.sec := sec_of_unnoticed (putCq_unnoticed ..)
@[simp] theorem putCq_upd (l : CqLoc) (e : CqEntry) (b : Block) : (putCq l e b).upd = b.upd := upd_of_unnoticed (putCq_unnoticed ..)

theorem pushCq_unnoticed (l : CqLoc) (e : CqEntry) (b : Block) : (pushCq l e b).unnoticed = b.unnoticed := by
  unfold pushCq; dsimp only; split
  · rw [onCq_unnoticed]
  · rw [putCq_unnoticed]
theorem pushCq_unserved (l : CqLoc) (e : CqEntry) (b : Block) : (pushCq l e b).unserved = b.unserved := unserved_of_unnoticed (pushCq_unnoticed ..)
@[simp] theorem pushCq_sys (l : CqLoc) (e : CqEntry) (b : Block) : (pushCq l e b).sys = b.sys := sys_of_unnoticed (pushCq_unnoticed ..)
@[simp] theorem pushCq_ix (l : CqLoc) (e : CqEntry) (b : Block) : (pushCq l e b).ix = b.ix := ix_of_unnoticed (pushCq_unnoticed ..)
@[simp] theorem pushCq_leash (l : CqLoc) (e : CqEntry) (b : Block) : (pushCq l e b).leash = b.leash := leash_of_unnoticed (pushCq_unnoticed ..)
@[simp] theorem pushCq_ring (l : CqLoc) (e : CqEntry) (b : Block) : (pushCq l e b).ring = b.ring := ring_of_unnoticed (pushCq_unnoticed ..)
@[simp] theorem pushCq_sense (l : CqLoc) (e : CqEntry) (b : Block) : (pushCq l e b).sense = b.sense := sense_of_unnoticed (pushCq_unnoticed ..)
@[simp] theorem pushCq_bark (l : CqLoc) (e : CqEntry) (b : Block) : (pushCq l e b).bark = b.bark := bark_of_unnoticed (pushCq_unnoticed ..)
@[simp] theorem pushCq_bal (l : CqLoc) (e : CqEntry) (b : Block) : (pushCq l e b).bal = b.bal := bal_of_unnoticed (pushCq_unnoticed ..)
@[simp] theorem pushCq_flt (l : CqLoc) (e : CqEntry) (b : Block) : (pushCq l e b).flt = b.flt := flt_of_unnoticed (pushCq_unnoticed ..)
@[simp] theorem pushCq_latch (l : CqLoc) (e : CqEntry) (b : Block) : (pushCq l e b).latch = b.latch := latch_of_unnoticed (pushCq_unnoticed ..)
@[simp] theorem pushCq_cnv (l : CqLoc) (e : CqEntry) (b : Block) : (pushCq l e b).cnv = b.cnv := cnv_of_unnoticed (pushCq_unnoticed ..)
@[simp] theorem pushCq_imp (l : CqLoc) (e : CqEntry) (b : Block) : (pushCq l e b).imp = b.imp := imp_of_unnoticed (pushCq_unnoticed ..)
@[simp] theorem pushCq_loop (l : CqLoc) (e : CqEntry) (b : Block) : (pushCq l e b).loop = b.loop := loop_of_unnoticed (pushCq_unnoticed ..)
@[simp] theorem pushCq_thm (l : CqLoc) (e : CqEntry) (b : Block) : (pushCq l e b).thm = b.thm := thm_of_unnoticed (pushCq_unnoticed ..)
@[simp] theorem pushCq_net (l : CqLoc) (e : CqEntry) (b : Block) : (pushCq l e b).net = b.net := net_of_unnoticed (pushCq_unnoticed ..)
@[simp] theorem pushCq_pwr (l : CqLoc) (e : CqEntry) (b : Block) : (pushCq l e b).pwr = b.pwr := pwr_of_unnoticed (pushCq_unnoticed ..)
@[simp] theorem pushCq_sec (l : CqLoc) (e : CqEntry) (b : Block) : (pushCq l e b).sec = b.sec := sec_of_unnoticed (pushCq_unnoticed ..)
@[simp] theorem pushCq_upd (l : CqLoc) (e : CqEntry) (b : Block) : (pushCq l e b).upd = b.upd := upd_of_unnoticed (pushCq_unnoticed ..)

theorem drainRing_unnoticed (p : Nat) (b : Block) : (drainRing p b).unnoticed = b.unnoticed := by
  unfold drainRing; dsimp only; split
  · rfl
  · rw [onPe_unnoticed]; exact foldl_keeps Block.unnoticed _ (fun _ _ => pushCq_unnoticed _ _ _) _ _
theorem drainRing_unserved (p : Nat) (b : Block) : (drainRing p b).unserved = b.unserved := unserved_of_unnoticed (drainRing_unnoticed ..)
@[simp] theorem drainRing_sys (p : Nat) (b : Block) : (drainRing p b).sys = b.sys := sys_of_unnoticed (drainRing_unnoticed ..)
@[simp] theorem drainRing_ix (p : Nat) (b : Block) : (drainRing p b).ix = b.ix := ix_of_unnoticed (drainRing_unnoticed ..)
@[simp] theorem drainRing_leash (p : Nat) (b : Block) : (drainRing p b).leash = b.leash := leash_of_unnoticed (drainRing_unnoticed ..)
@[simp] theorem drainRing_ring (p : Nat) (b : Block) : (drainRing p b).ring = b.ring := ring_of_unnoticed (drainRing_unnoticed ..)
@[simp] theorem drainRing_sense (p : Nat) (b : Block) : (drainRing p b).sense = b.sense := sense_of_unnoticed (drainRing_unnoticed ..)
@[simp] theorem drainRing_bark (p : Nat) (b : Block) : (drainRing p b).bark = b.bark := bark_of_unnoticed (drainRing_unnoticed ..)
@[simp] theorem drainRing_bal (p : Nat) (b : Block) : (drainRing p b).bal = b.bal := bal_of_unnoticed (drainRing_unnoticed ..)
@[simp] theorem drainRing_flt (p : Nat) (b : Block) : (drainRing p b).flt = b.flt := flt_of_unnoticed (drainRing_unnoticed ..)
@[simp] theorem drainRing_latch (p : Nat) (b : Block) : (drainRing p b).latch = b.latch := latch_of_unnoticed (drainRing_unnoticed ..)
@[simp] theorem drainRing_cnv (p : Nat) (b : Block) : (drainRing p b).cnv = b.cnv := cnv_of_unnoticed (drainRing_unnoticed ..)
@[simp] theorem drainRing_imp (p : Nat) (b : Block) : (drainRing p b).imp = b.imp := imp_of_unnoticed (drainRing_unnoticed ..)
@[simp] theorem drainRing_loop (p : Nat) (b : Block) : (drainRing p b).loop = b.loop := loop_of_unnoticed (drainRing_unnoticed ..)
@[simp] theorem drainRing_thm (p : Nat) (b : Block) : (drainRing p b).thm = b.thm := thm_of_unnoticed (drainRing_unnoticed ..)
@[simp] theorem drainRing_net (p : Nat) (b : Block) : (drainRing p b).net = b.net := net_of_unnoticed (drainRing_unnoticed ..)
@[simp] theorem drainRing_pwr (p : Nat) (b : Block) : (drainRing p b).pwr = b.pwr := pwr_of_unnoticed (drainRing_unnoticed ..)
@[simp] theorem drainRing_sec (p : Nat) (b : Block) : (drainRing p b).sec = b.sec := sec_of_unnoticed (drainRing_unnoticed ..)
@[simp] theorem drainRing_upd (p : Nat) (b : Block) : (drainRing p b).upd = b.upd := upd_of_unnoticed (drainRing_unnoticed ..)

theorem finishRing_unnoticed (p k st : Nat) (data : List Byte) (b : Block) : (finishRing p k st data b).unnoticed = b.unnoticed := by
  unfold finishRing; split
  · rfl
  · dsimp only; rw [drainRing_unnoticed, pushCq_unnoticed, onPe_unnoticed]; split
    · rfl
    · rw [vwrite_unnoticed]
theorem finishRing_unserved (p k st : Nat) (data : List Byte) (b : Block) : (finishRing p k st data b).unserved = b.unserved := unserved_of_unnoticed (finishRing_unnoticed ..)
@[simp] theorem finishRing_sys (p k st : Nat) (data : List Byte) (b : Block) : (finishRing p k st data b).sys = b.sys := sys_of_unnoticed (finishRing_unnoticed ..)
@[simp] theorem finishRing_ix (p k st : Nat) (data : List Byte) (b : Block) : (finishRing p k st data b).ix = b.ix := ix_of_unnoticed (finishRing_unnoticed ..)
@[simp] theorem finishRing_leash (p k st : Nat) (data : List Byte) (b : Block) : (finishRing p k st data b).leash = b.leash := leash_of_unnoticed (finishRing_unnoticed ..)
@[simp] theorem finishRing_ring (p k st : Nat) (data : List Byte) (b : Block) : (finishRing p k st data b).ring = b.ring := ring_of_unnoticed (finishRing_unnoticed ..)
@[simp] theorem finishRing_sense (p k st : Nat) (data : List Byte) (b : Block) : (finishRing p k st data b).sense = b.sense := sense_of_unnoticed (finishRing_unnoticed ..)
@[simp] theorem finishRing_bark (p k st : Nat) (data : List Byte) (b : Block) : (finishRing p k st data b).bark = b.bark := bark_of_unnoticed (finishRing_unnoticed ..)
@[simp] theorem finishRing_bal (p k st : Nat) (data : List Byte) (b : Block) : (finishRing p k st data b).bal = b.bal := bal_of_unnoticed (finishRing_unnoticed ..)
@[simp] theorem finishRing_flt (p k st : Nat) (data : List Byte) (b : Block) : (finishRing p k st data b).flt = b.flt := flt_of_unnoticed (finishRing_unnoticed ..)
@[simp] theorem finishRing_latch (p k st : Nat) (data : List Byte) (b : Block) : (finishRing p k st data b).latch = b.latch := latch_of_unnoticed (finishRing_unnoticed ..)
@[simp] theorem finishRing_cnv (p k st : Nat) (data : List Byte) (b : Block) : (finishRing p k st data b).cnv = b.cnv := cnv_of_unnoticed (finishRing_unnoticed ..)
@[simp] theorem finishRing_imp (p k st : Nat) (data : List Byte) (b : Block) : (finishRing p k st data b).imp = b.imp := imp_of_unnoticed (finishRing_unnoticed ..)
@[simp] theorem finishRing_loop (p k st : Nat) (data : List Byte) (b : Block) : (finishRing p k st data b).loop = b.loop := loop_of_unnoticed (finishRing_unnoticed ..)
@[simp] theorem finishRing_thm (p k st : Nat) (data : List Byte) (b : Block) : (finishRing p k st data b).thm = b.thm := thm_of_unnoticed (finishRing_unnoticed ..)
@[simp] theorem finishRing_net (p k st : Nat) (data : List Byte) (b : Block) : (finishRing p k st data b).net = b.net := net_of_unnoticed (finishRing_unnoticed ..)
@[simp] theorem finishRing_pwr (p k st : Nat) (data : List Byte) (b : Block) : (finishRing p k st data b).pwr = b.pwr := pwr_of_unnoticed (finishRing_unnoticed ..)
@[simp] theorem finishRing_sec (p k st : Nat) (data : List Byte) (b : Block) : (finishRing p k st data b).sec = b.sec := sec_of_unnoticed (finishRing_unnoticed ..)
@[simp] theorem finishRing_upd (p k st : Nat) (data : List Byte) (b : Block) : (finishRing p k st data b).upd = b.upd := upd_of_unnoticed (finishRing_unnoticed ..)

theorem rejectRing_unnoticed (p k st addr : Nat) (b : Block) : (rejectRing p k st addr b).unnoticed = b.unnoticed := pushCq_unnoticed ..
theorem rejectRing_unserved (p k st addr : Nat) (b : Block) : (rejectRing p k st addr b).unserved = b.unserved := unserved_of_unnoticed (rejectRing_unnoticed ..)
@[simp] theorem rejectRing_sys (p k st addr : Nat) (b : Block) : (rejectRing p k st addr b).sys = b.sys := sys_of_unnoticed (rejectRing_unnoticed ..)
@[simp] theorem rejectRing_ix (p k st addr : Nat) (b : Block) : (rejectRing p k st addr b).ix = b.ix := ix_of_unnoticed (rejectRing_unnoticed ..)
@[simp] theorem rejectRing_leash (p k st addr : Nat) (b : Block) : (rejectRing p k st addr b).leash = b.leash := leash_of_unnoticed (rejectRing_unnoticed ..)
@[simp] theorem rejectRing_ring (p k st addr : Nat) (b : Block) : (rejectRing p k st addr b).ring = b.ring := ring_of_unnoticed (rejectRing_unnoticed ..)
@[simp] theorem rejectRing_sense (p k st addr : Nat) (b : Block) : (rejectRing p k st addr b).sense = b.sense := sense_of_unnoticed (rejectRing_unnoticed ..)
@[simp] theorem rejectRing_bark (p k st addr : Nat) (b : Block) : (rejectRing p k st addr b).bark = b.bark := bark_of_unnoticed (rejectRing_unnoticed ..)
@[simp] theorem rejectRing_bal (p k st addr : Nat) (b : Block) : (rejectRing p k st addr b).bal = b.bal := bal_of_unnoticed (rejectRing_unnoticed ..)
@[simp] theorem rejectRing_flt (p k st addr : Nat) (b : Block) : (rejectRing p k st addr b).flt = b.flt := flt_of_unnoticed (rejectRing_unnoticed ..)
@[simp] theorem rejectRing_latch (p k st addr : Nat) (b : Block) : (rejectRing p k st addr b).latch = b.latch := latch_of_unnoticed (rejectRing_unnoticed ..)
@[simp] theorem rejectRing_cnv (p k st addr : Nat) (b : Block) : (rejectRing p k st addr b).cnv = b.cnv := cnv_of_unnoticed (rejectRing_unnoticed ..)
@[simp] theorem rejectRing_imp (p k st addr : Nat) (b : Block) : (rejectRing p k st addr b).imp = b.imp := imp_of_unnoticed (rejectRing_unnoticed ..)
@[simp] theorem rejectRing_loop (p k st addr : Nat) (b : Block) : (rejectRing p k st addr b).loop = b.loop := loop_of_unnoticed (rejectRing_unnoticed ..)
@[simp] theorem rejectRing_thm (p k st addr : Nat) (b : Block) : (rejectRing p k st addr b).thm = b.thm := thm_of_unnoticed (rejectRing_unnoticed ..)
@[simp] theorem rejectRing_net (p k st addr : Nat) (b : Block) : (rejectRing p k st addr b).net = b.net := net_of_unnoticed (rejectRing_unnoticed ..)
@[simp] theorem rejectRing_pwr (p k st addr : Nat) (b : Block) : (rejectRing p k st addr b).pwr = b.pwr := pwr_of_unnoticed (rejectRing_unnoticed ..)
@[simp] theorem rejectRing_sec (p k st addr : Nat) (b : Block) : (rejectRing p k st addr b).sec = b.sec := sec_of_unnoticed (rejectRing_unnoticed ..)
@[simp] theorem rejectRing_upd (p k st addr : Nat) (b : Block) : (rejectRing p k st addr b).upd = b.upd := upd_of_unnoticed (rejectRing_unnoticed ..)

theorem passRing_unnoticed (p k : Nat) (b : Block) : (passRing p k b).unnoticed = b.unnoticed := rfl
theorem passRing_unserved (p k : Nat) (b : Block) : (passRing p k b).unserved = b.unserved := unserved_of_unnoticed (passRing_unnoticed ..)
@[simp] theorem passRing_sys (p k : Nat) (b : Block) : (passRing p k b).sys = b.sys := sys_of_unnoticed (passRing_unnoticed ..)
@[simp] theorem passRing_ix (p k : Nat) (b : Block) : (passRing p k b).ix = b.ix := ix_of_unnoticed (passRing_unnoticed ..)
@[simp] theorem passRing_leash (p k : Nat) (b : Block) : (passRing p k b).leash = b.leash := leash_of_unnoticed (passRing_unnoticed ..)
@[simp] theorem passRing_ring (p k : Nat) (b : Block) : (passRing p k b).ring = b.ring := ring_of_unnoticed (passRing_unnoticed ..)
@[simp] theorem passRing_sense (p k : Nat) (b : Block) : (passRing p k b).sense = b.sense := sense_of_unnoticed (passRing_unnoticed ..)
@[simp] theorem passRing_bark (p k : Nat) (b : Block) : (passRing p k b).bark = b.bark := bark_of_unnoticed (passRing_unnoticed ..)
@[simp] theorem passRing_bal (p k : Nat) (b : Block) : (passRing p k b).bal = b.bal := bal_of_unnoticed (passRing_unnoticed ..)
@[simp] theorem passRing_flt (p k : Nat) (b : Block) : (passRing p k b).flt = b.flt := flt_of_unnoticed (passRing_unnoticed ..)
@[simp] theorem passRing_latch (p k : Nat) (b : Block) : (passRing p k b).latch = b.latch := latch_of_unnoticed (passRing_unnoticed ..)
@[simp] theorem passRing_cnv (p k : Nat) (b : Block) : (passRing p k b).cnv = b.cnv := cnv_of_unnoticed (passRing_unnoticed ..)
@[simp] theorem passRing_imp (p k : Nat) (b : Block) : (passRing p k b).imp = b.imp := imp_of_unnoticed (passRing_unnoticed ..)
@[simp] theorem passRing_loop (p k : Nat) (b : Block) : (passRing p k b).loop = b.loop := loop_of_unnoticed (passRing_unnoticed ..)
@[simp] theorem passRing_thm (p k : Nat) (b : Block) : (passRing p k b).thm = b.thm := thm_of_unnoticed (passRing_unnoticed ..)
@[simp] theorem passRing_net (p k : Nat) (b : Block) : (passRing p k b).net = b.net := net_of_unnoticed (passRing_unnoticed ..)
@[simp] theorem passRing_pwr (p k : Nat) (b : Block) : (passRing p k b).pwr = b.pwr := pwr_of_unnoticed (passRing_unnoticed ..)
@[simp] theorem passRing_sec (p k : Nat) (b : Block) : (passRing p k b).sec = b.sec := sec_of_unnoticed (passRing_unnoticed ..)
@[simp] theorem passRing_upd (p k : Nat) (b : Block) : (passRing p k b).upd = b.upd := upd_of_unnoticed (passRing_unnoticed ..)

theorem sendReply_unserved (r : Reply) (b : Block) : (sendReply r b).unserved = b.unserved := rfl
@[simp] theorem sendReply_sys (r : Reply) (b : Block) : (sendReply r b).sys = b.sys := sys_of_unserved (sendReply_unserved ..)
@[simp] theorem sendReply_leash (r : Reply) (b : Block) : (sendReply r b).leash = b.leash := leash_of_unserved (sendReply_unserved ..)
@[simp] theorem sendReply_ring (r : Reply) (b : Block) : (sendReply r b).ring = b.ring := ring_of_unserved (sendReply_unserved ..)
@[simp] theorem sendReply_sense (r : Reply) (b : Block) : (sendReply r b).sense = b.sense := sense_of_unserved (sendReply_unserved ..)
@[simp] theorem sendReply_bark (r : Reply) (b : Block) : (sendReply r b).bark = b.bark := bark_of_unserved (sendReply_unserved ..)
@[simp] theorem sendReply_bal (r : Reply) (b : Block) : (sendReply r b).bal = b.bal := bal_of_unserved (sendReply_unserved ..)
@[simp] theorem sendReply_flt (r : Reply) (b : Block) : (sendReply r b).flt = b.flt := flt_of_unserved (sendReply_unserved ..)
@[simp] theorem sendReply_latch (r : Reply) (b : Block) : (sendReply r b).latch = b.latch := latch_of_unserved (sendReply_unserved ..)
@[simp] theorem sendReply_cnv (r : Reply) (b : Block) : (sendReply r b).cnv = b.cnv := cnv_of_unserved (sendReply_unserved ..)
@[simp] theorem sendReply_imp (r : Reply) (b : Block) : (sendReply r b).imp = b.imp := imp_of_unserved (sendReply_unserved ..)
@[simp] theorem sendReply_loop (r : Reply) (b : Block) : (sendReply r b).loop = b.loop := loop_of_unserved (sendReply_unserved ..)
@[simp] theorem sendReply_thm (r : Reply) (b : Block) : (sendReply r b).thm = b.thm := thm_of_unserved (sendReply_unserved ..)
@[simp] theorem sendReply_net (r : Reply) (b : Block) : (sendReply r b).net = b.net := net_of_unserved (sendReply_unserved ..)
@[simp] theorem sendReply_sec (r : Reply) (b : Block) : (sendReply r b).sec = b.sec := sec_of_unserved (sendReply_unserved ..)
@[simp] theorem sendReply_upd (r : Reply) (b : Block) : (sendReply r b).upd = b.upd := upd_of_unserved (sendReply_unserved ..)

theorem onEntry_unserved (i seq : Nat) (f : CacheEntry → CacheEntry) (b : Block) : (onEntry i seq f b).unserved = b.unserved := rfl
@[simp] theorem onEntry_sys (i seq : Nat) (f : CacheEntry → CacheEntry) (b : Block) : (onEntry i seq f b).sys = b.sys := sys_of_unserved (onEntry_unserved ..)
@[simp] theorem onEntry_leash (i seq : Nat) (f : CacheEntry → CacheEntry) (b : Block) : (onEntry i seq f b).leash = b.leash := leash_of_unserved (onEntry_unserved ..)
@[simp] theorem onEntry_ring (i seq : Nat) (f : CacheEntry → CacheEntry) (b : Block) : (onEntry i seq f b).ring = b.ring := ring_of_unserved (onEntry_unserved ..)
@[simp] theorem onEntry_sense (i seq : Nat) (f : CacheEntry → CacheEntry) (b : Block) : (onEntry i seq f b).sense = b.sense := sense_of_unserved (onEntry_unserved ..)
@[simp] theorem onEntry_bark (i seq : Nat) (f : CacheEntry → CacheEntry) (b : Block) : (onEntry i seq f b).bark = b.bark := bark_of_unserved (onEntry_unserved ..)
@[simp] theorem onEntry_bal (i seq : Nat) (f : CacheEntry → CacheEntry) (b : Block) : (onEntry i seq f b).bal = b.bal := bal_of_unserved (onEntry_unserved ..)
@[simp] theorem onEntry_flt (i seq : Nat) (f : CacheEntry → CacheEntry) (b : Block) : (onEntry i seq f b).flt = b.flt := flt_of_unserved (onEntry_unserved ..)
@[simp] theorem onEntry_latch (i seq : Nat) (f : CacheEntry → CacheEntry) (b : Block) : (onEntry i seq f b).latch = b.latch := latch_of_unserved (onEntry_unserved ..)
@[simp] theorem onEntry_cnv (i seq : Nat) (f : CacheEntry → CacheEntry) (b : Block) : (onEntry i seq f b).cnv = b.cnv := cnv_of_unserved (onEntry_unserved ..)
@[simp] theorem onEntry_imp (i seq : Nat) (f : CacheEntry → CacheEntry) (b : Block) : (onEntry i seq f b).imp = b.imp := imp_of_unserved (onEntry_unserved ..)
@[simp] theorem onEntry_loop (i seq : Nat) (f : CacheEntry → CacheEntry) (b : Block) : (onEntry i seq f b).loop = b.loop := loop_of_unserved (onEntry_unserved ..)
@[simp] theorem onEntry_thm (i seq : Nat) (f : CacheEntry → CacheEntry) (b : Block) : (onEntry i seq f b).thm = b.thm := thm_of_unserved (onEntry_unserved ..)
@[simp] theorem onEntry_net (i seq : Nat) (f : CacheEntry → CacheEntry) (b : Block) : (onEntry i seq f b).net = b.net := net_of_unserved (onEntry_unserved ..)
@[simp] theorem onEntry_sec (i seq : Nat) (f : CacheEntry → CacheEntry) (b : Block) : (onEntry i seq f b).sec = b.sec := sec_of_unserved (onEntry_unserved ..)
@[simp] theorem onEntry_upd (i seq : Nat) (f : CacheEntry → CacheEntry) (b : Block) : (onEntry i seq f b).upd = b.upd := upd_of_unserved (onEntry_unserved ..)

theorem journalStart_unserved (src : Src) (op : Nat) (b : Block) : (journalStart src op b).unserved = b.unserved := rfl
@[simp] theorem journalStart_sys (src : Src) (op : Nat) (b : Block) : (journalStart src op b).sys = b.sys := sys_of_unserved (journalStart_unserved ..)
@[simp] theorem journalStart_leash (src : Src) (op : Nat) (b : Block) : (journalStart src op b).leash = b.leash := leash_of_unserved (journalStart_unserved ..)
@[simp] theorem journalStart_ring (src : Src) (op : Nat) (b : Block) : (journalStart src op b).ring = b.ring := ring_of_unserved (journalStart_unserved ..)
@[simp] theorem journalStart_sense (src : Src) (op : Nat) (b : Block) : (journalStart src op b).sense = b.sense := sense_of_unserved (journalStart_unserved ..)
@[simp] theorem journalStart_bark (src : Src) (op : Nat) (b : Block) : (journalStart src op b).bark = b.bark := bark_of_unserved (journalStart_unserved ..)
@[simp] theorem journalStart_bal (src : Src) (op : Nat) (b : Block) : (journalStart src op b).bal = b.bal := bal_of_unserved (journalStart_unserved ..)
@[simp] theorem journalStart_flt (src : Src) (op : Nat) (b : Block) : (journalStart src op b).flt = b.flt := flt_of_unserved (journalStart_unserved ..)
@[simp] theorem journalStart_latch (src : Src) (op : Nat) (b : Block) : (journalStart src op b).latch = b.latch := latch_of_unserved (journalStart_unserved ..)
@[simp] theorem journalStart_cnv (src : Src) (op : Nat) (b : Block) : (journalStart src op b).cnv = b.cnv := cnv_of_unserved (journalStart_unserved ..)
@[simp] theorem journalStart_imp (src : Src) (op : Nat) (b : Block) : (journalStart src op b).imp = b.imp := imp_of_unserved (journalStart_unserved ..)
@[simp] theorem journalStart_loop (src : Src) (op : Nat) (b : Block) : (journalStart src op b).loop = b.loop := loop_of_unserved (journalStart_unserved ..)
@[simp] theorem journalStart_thm (src : Src) (op : Nat) (b : Block) : (journalStart src op b).thm = b.thm := thm_of_unserved (journalStart_unserved ..)
@[simp] theorem journalStart_net (src : Src) (op : Nat) (b : Block) : (journalStart src op b).net = b.net := net_of_unserved (journalStart_unserved ..)
@[simp] theorem journalStart_sec (src : Src) (op : Nat) (b : Block) : (journalStart src op b).sec = b.sec := sec_of_unserved (journalStart_unserved ..)
@[simp] theorem journalStart_upd (src : Src) (op : Nat) (b : Block) : (journalStart src op b).upd = b.upd := upd_of_unserved (journalStart_unserved ..)

theorem journalMark_unserved (src : Src) (b : Block) : (journalMark src b).unserved = b.unserved := rfl
@[simp] theorem journalMark_sys (src : Src) (b : Block) : (journalMark src b).sys = b.sys := sys_of_unserved (journalMark_unserved ..)
@[simp] theorem journalMark_leash (src : Src) (b : Block) : (journalMark src b).leash = b.leash := leash_of_unserved (journalMark_unserved ..)
@[simp] theorem journalMark_ring (src : Src) (b : Block) : (journalMark src b).ring = b.ring := ring_of_unserved (journalMark_unserved ..)
@[simp] theorem journalMark_sense (src : Src) (b : Block) : (journalMark src b).sense = b.sense := sense_of_unserved (journalMark_unserved ..)
@[simp] theorem journalMark_bark (src : Src) (b : Block) : (journalMark src b).bark = b.bark := bark_of_unserved (journalMark_unserved ..)
@[simp] theorem journalMark_bal (src : Src) (b : Block) : (journalMark src b).bal = b.bal := bal_of_unserved (journalMark_unserved ..)
@[simp] theorem journalMark_flt (src : Src) (b : Block) : (journalMark src b).flt = b.flt := flt_of_unserved (journalMark_unserved ..)
@[simp] theorem journalMark_latch (src : Src) (b : Block) : (journalMark src b).latch = b.latch := latch_of_unserved (journalMark_unserved ..)
@[simp] theorem journalMark_cnv (src : Src) (b : Block) : (journalMark src b).cnv = b.cnv := cnv_of_unserved (journalMark_unserved ..)
@[simp] theorem journalMark_imp (src : Src) (b : Block) : (journalMark src b).imp = b.imp := imp_of_unserved (journalMark_unserved ..)
@[simp] theorem journalMark_loop (src : Src) (b : Block) : (journalMark src b).loop = b.loop := loop_of_unserved (journalMark_unserved ..)
@[simp] theorem journalMark_thm (src : Src) (b : Block) : (journalMark src b).thm = b.thm := thm_of_unserved (journalMark_unserved ..)
@[simp] theorem journalMark_net (src : Src) (b : Block) : (journalMark src b).net = b.net := net_of_unserved (journalMark_unserved ..)
@[simp] theorem journalMark_sec (src : Src) (b : Block) : (journalMark src b).sec = b.sec := sec_of_unserved (journalMark_unserved ..)
@[simp] theorem journalMark_upd (src : Src) (b : Block) : (journalMark src b).upd = b.upd := upd_of_unserved (journalMark_unserved ..)

theorem complete_unserved (src : Src) (st : Status) (data : List Byte) (b : Block) : (complete src st data b).unserved = b.unserved := by
  unfold complete; dsimp only; split
  · split <;> rfl
  · rw [finishRing_unserved]; rfl
@[simp] theorem complete_sys (src : Src) (st : Status) (data : List Byte) (b : Block) : (complete src st data b).sys = b.sys := sys_of_unserved (complete_unserved ..)
@[simp] theorem complete_leash (src : Src) (st : Status) (data : List Byte) (b : Block) : (complete src st data b).leash = b.leash := leash_of_unserved (complete_unserved ..)
@[simp] theorem complete_ring (src : Src) (st : Status) (data : List Byte) (b : Block) : (complete src st data b).ring = b.ring := ring_of_unserved (complete_unserved ..)
@[simp] theorem complete_sense (src : Src) (st : Status) (data : List Byte) (b : Block) : (complete src st data b).sense = b.sense := sense_of_unserved (complete_unserved ..)
@[simp] theorem complete_bark (src : Src) (st : Status) (data : List Byte) (b : Block) : (complete src st data b).bark = b.bark := bark_of_unserved (complete_unserved ..)
@[simp] theorem complete_bal (src : Src) (st : Status) (data : List Byte) (b : Block) : (complete src st data b).bal = b.bal := bal_of_unserved (complete_unserved ..)
@[simp] theorem complete_flt (src : Src) (st : Status) (data : List Byte) (b : Block) : (complete src st data b).flt = b.flt := flt_of_unserved (complete_unserved ..)
@[simp] theorem complete_latch (src : Src) (st : Status) (data : List Byte) (b : Block) : (complete src st data b).latch = b.latch := latch_of_unserved (complete_unserved ..)
@[simp] theorem complete_cnv (src : Src) (st : Status) (data : List Byte) (b : Block) : (complete src st data b).cnv = b.cnv := cnv_of_unserved (complete_unserved ..)
@[simp] theorem complete_imp (src : Src) (st : Status) (data : List Byte) (b : Block) : (complete src st data b).imp = b.imp := imp_of_unserved (complete_unserved ..)
@[simp] theorem complete_loop (src : Src) (st : Status) (data : List Byte) (b : Block) : (complete src st data b).loop = b.loop := loop_of_unserved (complete_unserved ..)
@[simp] theorem complete_thm (src : Src) (st : Status) (data : List Byte) (b : Block) : (complete src st data b).thm = b.thm := thm_of_unserved (complete_unserved ..)
@[simp] theorem complete_net (src : Src) (st : Status) (data : List Byte) (b : Block) : (complete src st data b).net = b.net := net_of_unserved (complete_unserved ..)
@[simp] theorem complete_sec (src : Src) (st : Status) (data : List Byte) (b : Block) : (complete src st data b).sec = b.sec := sec_of_unserved (complete_unserved ..)
@[simp] theorem complete_upd (src : Src) (st : Status) (data : List Byte) (b : Block) : (complete src st data b).upd = b.upd := upd_of_unserved (complete_unserved ..)

theorem refuse_unserved (src : Src) (op : Nat) (st : Status) (b : Block) : (refuse src op st b).unserved = b.unserved := by
  unfold refuse; split
  · rfl
  · rw [rejectRing_unserved, passRing_unserved]
@[simp] theorem refuse_sys (src : Src) (op : Nat) (st : Status) (b : Block) : (refuse src op st b).sys = b.sys := sys_of_unserved (refuse_unserved ..)
@[simp] theorem refuse_leash (src : Src) (op : Nat) (st : Status) (b : Block) : (refuse src op st b).leash = b.leash := leash_of_unserved (refuse_unserved ..)
@[simp] theorem refuse_ring (src : Src) (op : Nat) (st : Status) (b : Block) : (refuse src op st b).ring = b.ring := ring_of_unserved (refuse_unserved ..)
@[simp] theorem refuse_sense (src : Src) (op : Nat) (st : Status) (b : Block) : (refuse src op st b).sense = b.sense := sense_of_unserved (refuse_unserved ..)
@[simp] theorem refuse_bark (src : Src) (op : Nat) (st : Status) (b : Block) : (refuse src op st b).bark = b.bark := bark_of_unserved (refuse_unserved ..)
@[simp] theorem refuse_bal (src : Src) (op : Nat) (st : Status) (b : Block) : (refuse src op st b).bal = b.bal := bal_of_unserved (refuse_unserved ..)
@[simp] theorem refuse_flt (src : Src) (op : Nat) (st : Status) (b : Block) : (refuse src op st b).flt = b.flt := flt_of_unserved (refuse_unserved ..)
@[simp] theorem refuse_latch (src : Src) (op : Nat) (st : Status) (b : Block) : (refuse src op st b).latch = b.latch := latch_of_unserved (refuse_unserved ..)
@[simp] theorem refuse_cnv (src : Src) (op : Nat) (st : Status) (b : Block) : (refuse src op st b).cnv = b.cnv := cnv_of_unserved (refuse_unserved ..)
@[simp] theorem refuse_imp (src : Src) (op : Nat) (st : Status) (b : Block) : (refuse src op st b).imp = b.imp := imp_of_unserved (refuse_unserved ..)
@[simp] theorem refuse_loop (src : Src) (op : Nat) (st : Status) (b : Block) : (refuse src op st b).loop = b.loop := loop_of_unserved (refuse_unserved ..)
@[simp] theorem refuse_thm (src : Src) (op : Nat) (st : Status) (b : Block) : (refuse src op st b).thm = b.thm := thm_of_unserved (refuse_unserved ..)
@[simp] theorem refuse_net (src : Src) (op : Nat) (st : Status) (b : Block) : (refuse src op st b).net = b.net := net_of_unserved (refuse_unserved ..)
@[simp] theorem refuse_sec (src : Src) (op : Nat) (st : Status) (b : Block) : (refuse src op st b).sec = b.sec := sec_of_unserved (refuse_unserved ..)
@[simp] theorem refuse_upd (src : Src) (op : Nat) (st : Status) (b : Block) : (refuse src op st b).upd = b.upd := upd_of_unserved (refuse_unserved ..)

theorem acceptRequest_unserved (src : Src) (op : Nat) (ps : List Byte) (started : Bool) (b : Block) : (acceptRequest src op ps started b).unserved = b.unserved := by cases src <;> rfl
@[simp] theorem acceptRequest_sys (src : Src) (op : Nat) (ps : List Byte) (started : Bool) (b : Block) : (acceptRequest src op ps started b).sys = b.sys := sys_of_unserved (acceptRequest_unserved ..)
@[simp] theorem acceptRequest_leash (src : Src) (op : Nat) (ps : List Byte) (started : Bool) (b : Block) : (acceptRequest src op ps started b).leash = b.leash := leash_of_unserved (acceptRequest_unserved ..)
@[simp] theorem acceptRequest_ring (src : Src) (op : Nat) (ps : List Byte) (started : Bool) (b : Block) : (acceptRequest src op ps started b).ring = b.ring := ring_of_unserved (acceptRequest_unserved ..)
@[simp] theorem acceptRequest_sense (src : Src) (op : Nat) (ps : List Byte) (started : Bool) (b : Block) : (acceptRequest src op ps started b).sense = b.sense := sense_of_unserved (acceptRequest_unserved ..)
@[simp] theorem acceptRequest_bark (src : Src) (op : Nat) (ps : List Byte) (started : Bool) (b : Block) : (acceptRequest src op ps started b).bark = b.bark := bark_of_unserved (acceptRequest_unserved ..)
@[simp] theorem acceptRequest_bal (src : Src) (op : Nat) (ps : List Byte) (started : Bool) (b : Block) : (acceptRequest src op ps started b).bal = b.bal := bal_of_unserved (acceptRequest_unserved ..)
@[simp] theorem acceptRequest_flt (src : Src) (op : Nat) (ps : List Byte) (started : Bool) (b : Block) : (acceptRequest src op ps started b).flt = b.flt := flt_of_unserved (acceptRequest_unserved ..)
@[simp] theorem acceptRequest_latch (src : Src) (op : Nat) (ps : List Byte) (started : Bool) (b : Block) : (acceptRequest src op ps started b).latch = b.latch := latch_of_unserved (acceptRequest_unserved ..)
@[simp] theorem acceptRequest_cnv (src : Src) (op : Nat) (ps : List Byte) (started : Bool) (b : Block) : (acceptRequest src op ps started b).cnv = b.cnv := cnv_of_unserved (acceptRequest_unserved ..)
@[simp] theorem acceptRequest_imp (src : Src) (op : Nat) (ps : List Byte) (started : Bool) (b : Block) : (acceptRequest src op ps started b).imp = b.imp := imp_of_unserved (acceptRequest_unserved ..)
@[simp] theorem acceptRequest_loop (src : Src) (op : Nat) (ps : List Byte) (started : Bool) (b : Block) : (acceptRequest src op ps started b).loop = b.loop := loop_of_unserved (acceptRequest_unserved ..)
@[simp] theorem acceptRequest_thm (src : Src) (op : Nat) (ps : List Byte) (started : Bool) (b : Block) : (acceptRequest src op ps started b).thm = b.thm := thm_of_unserved (acceptRequest_unserved ..)
@[simp] theorem acceptRequest_net (src : Src) (op : Nat) (ps : List Byte) (started : Bool) (b : Block) : (acceptRequest src op ps started b).net = b.net := net_of_unserved (acceptRequest_unserved ..)
@[simp] theorem acceptRequest_sec (src : Src) (op : Nat) (ps : List Byte) (started : Bool) (b : Block) : (acceptRequest src op ps started b).sec = b.sec := sec_of_unserved (acceptRequest_unserved ..)
@[simp] theorem acceptRequest_upd (src : Src) (op : Nat) (ps : List Byte) (started : Bool) (b : Block) : (acceptRequest src op ps started b).upd = b.upd := upd_of_unserved (acceptRequest_unserved ..)

theorem beginRequest_unserved (src : Src) (b : Block) : (beginRequest src b).unserved = b.unserved := by cases src <;> rfl
@[simp] theorem beginRequest_sys (src : Src) (b : Block) : (beginRequest src b).sys = b.sys := sys_of_unserved (beginRequest_unserved ..)
@[simp] theorem beginRequest_leash (src : Src) (b : Block) : (beginRequest src b).leash = b.leash := leash_of_unserved (beginRequest_unserved ..)
@[simp] theorem beginRequest_ring (src : Src) (b : Block) : (beginRequest src b).ring = b.ring := ring_of_unserved (beginRequest_unserved ..)
@[simp] theorem beginRequest_sense (src : Src) (b : Block) : (beginRequest src b).sense = b.sense := sense_of_unserved (beginRequest_unserved ..)
@[simp] theorem beginRequest_bark (src : Src) (b : Block) : (beginRequest src b).bark = b.bark := bark_of_unserved (beginRequest_unserved ..)
@[simp] theorem beginRequest_bal (src : Src) (b : Block) : (beginRequest src b).bal = b.bal := bal_of_unserved (beginRequest_unserved ..)
@[simp] theorem beginRequest_flt (src : Src) (b : Block) : (beginRequest src b).flt = b.flt := flt_of_unserved (beginRequest_unserved ..)
@[simp] theorem beginRequest_latch (src : Src) (b : Block) : (beginRequest src b).latch = b.latch := latch_of_unserved (beginRequest_unserved ..)
@[simp] theorem beginRequest_cnv (src : Src) (b : Block) : (beginRequest src b).cnv = b.cnv := cnv_of_unserved (beginRequest_unserved ..)
@[simp] theorem beginRequest_imp (src : Src) (b : Block) : (beginRequest src b).imp = b.imp := imp_of_unserved (beginRequest_unserved ..)
@[simp] theorem beginRequest_loop (src : Src) (b : Block) : (beginRequest src b).loop = b.loop := loop_of_unserved (beginRequest_unserved ..)
@[simp] theorem beginRequest_thm (src : Src) (b : Block) : (beginRequest src b).thm = b.thm := thm_of_unserved (beginRequest_unserved ..)
@[simp] theorem beginRequest_net (src : Src) (b : Block) : (beginRequest src b).net = b.net := net_of_unserved (beginRequest_unserved ..)
@[simp] theorem beginRequest_sec (src : Src) (b : Block) : (beginRequest src b).sec = b.sec := sec_of_unserved (beginRequest_unserved ..)
@[simp] theorem beginRequest_upd (src : Src) (b : Block) : (beginRequest src b).upd = b.upd := upd_of_unserved (beginRequest_unserved ..)

theorem sendPend_unserved (i seq : Nat) (b : Block) : (sendPend i seq b).unserved = b.unserved := by unfold sendPend; split <;> rfl
@[simp] theorem sendPend_sys (i seq : Nat) (b : Block) : (sendPend i seq b).sys = b.sys := sys_of_unserved (sendPend_unserved ..)
@[simp] theorem sendPend_leash (i seq : Nat) (b : Block) : (sendPend i seq b).leash = b.leash := leash_of_unserved (sendPend_unserved ..)
@[simp] theorem sendPend_ring (i seq : Nat) (b : Block) : (sendPend i seq b).ring = b.ring := ring_of_unserved (sendPend_unserved ..)
@[simp] theorem sendPend_sense (i seq : Nat) (b : Block) : (sendPend i seq b).sense = b.sense := sense_of_unserved (sendPend_unserved ..)
@[simp] theorem sendPend_bark (i seq : Nat) (b : Block) : (sendPend i seq b).bark = b.bark := bark_of_unserved (sendPend_unserved ..)
@[simp] theorem sendPend_bal (i seq : Nat) (b : Block) : (sendPend i seq b).bal = b.bal := bal_of_unserved (sendPend_unserved ..)
@[simp] theorem sendPend_flt (i seq : Nat) (b : Block) : (sendPend i seq b).flt = b.flt := flt_of_unserved (sendPend_unserved ..)
@[simp] theorem sendPend_latch (i seq : Nat) (b : Block) : (sendPend i seq b).latch = b.latch := latch_of_unserved (sendPend_unserved ..)
@[simp] theorem sendPend_cnv (i seq : Nat) (b : Block) : (sendPend i seq b).cnv = b.cnv := cnv_of_unserved (sendPend_unserved ..)
@[simp] theorem sendPend_imp (i seq : Nat) (b : Block) : (sendPend i seq b).imp = b.imp := imp_of_unserved (sendPend_unserved ..)
@[simp] theorem sendPend_loop (i seq : Nat) (b : Block) : (sendPend i seq b).loop = b.loop := loop_of_unserved (sendPend_unserved ..)
@[simp] theorem sendPend_thm (i seq : Nat) (b : Block) : (sendPend i seq b).thm = b.thm := thm_of_unserved (sendPend_unserved ..)
@[simp] theorem sendPend_net (i seq : Nat) (b : Block) : (sendPend i seq b).net = b.net := net_of_unserved (sendPend_unserved ..)
@[simp] theorem sendPend_sec (i seq : Nat) (b : Block) : (sendPend i seq b).sec = b.sec := sec_of_unserved (sendPend_unserved ..)
@[simp] theorem sendPend_upd (i seq : Nat) (b : Block) : (sendPend i seq b).upd = b.upd := upd_of_unserved (sendPend_unserved ..)

theorem duplicate_unserved (i seq op : Nat) (e : CacheEntry) (b : Block) : (duplicate i seq op e b).unserved = b.unserved := by
  unfold duplicate; split
  · rfl
  · split
    · rw [sendPend_unserved]
    · rfl
@[simp] theorem duplicate_sys (i seq op : Nat) (e : CacheEntry) (b : Block) : (duplicate i seq op e b).sys = b.sys := sys_of_unserved (duplicate_unserved ..)
@[simp] theorem duplicate_leash (i seq op : Nat) (e : CacheEntry) (b : Block) : (duplicate i seq op e b).leash = b.leash := leash_of_unserved (duplicate_unserved ..)
@[simp] theorem duplicate_ring (i seq op : Nat) (e : CacheEntry) (b : Block) : (duplicate i seq op e b).ring = b.ring := ring_of_unserved (duplicate_unserved ..)
@[simp] theorem duplicate_sense (i seq op : Nat) (e : CacheEntry) (b : Block) : (duplicate i seq op e b).sense = b.sense := sense_of_unserved (duplicate_unserved ..)
@[simp] theorem duplicate_bark (i seq op : Nat) (e : CacheEntry) (b : Block) : (duplicate i seq op e b).bark = b.bark := bark_of_unserved (duplicate_unserved ..)
@[simp] theorem duplicate_bal (i seq op : Nat) (e : CacheEntry) (b : Block) : (duplicate i seq op e b).bal = b.bal := bal_of_unserved (duplicate_unserved ..)
@[simp] theorem duplicate_flt (i seq op : Nat) (e : CacheEntry) (b : Block) : (duplicate i seq op e b).flt = b.flt := flt_of_unserved (duplicate_unserved ..)
@[simp] theorem duplicate_latch (i seq op : Nat) (e : CacheEntry) (b : Block) : (duplicate i seq op e b).latch = b.latch := latch_of_unserved (duplicate_unserved ..)
@[simp] theorem duplicate_cnv (i seq op : Nat) (e : CacheEntry) (b : Block) : (duplicate i seq op e b).cnv = b.cnv := cnv_of_unserved (duplicate_unserved ..)
@[simp] theorem duplicate_imp (i seq op : Nat) (e : CacheEntry) (b : Block) : (duplicate i seq op e b).imp = b.imp := imp_of_unserved (duplicate_unserved ..)
@[simp] theorem duplicate_loop (i seq op : Nat) (e : CacheEntry) (b : Block) : (duplicate i seq op e b).loop = b.loop := loop_of_unserved (duplicate_unserved ..)
@[simp] theorem duplicate_thm (i seq op : Nat) (e : CacheEntry) (b : Block) : (duplicate i seq op e b).thm = b.thm := thm_of_unserved (duplicate_unserved ..)
@[simp] theorem duplicate_net (i seq op : Nat) (e : CacheEntry) (b : Block) : (duplicate i seq op e b).net = b.net := net_of_unserved (duplicate_unserved ..)
@[simp] theorem duplicate_sec (i seq op : Nat) (e : CacheEntry) (b : Block) : (duplicate i seq op e b).sec = b.sec := sec_of_unserved (duplicate_unserved ..)
@[simp] theorem duplicate_upd (i seq op : Nat) (e : CacheEntry) (b : Block) : (duplicate i seq op e b).upd = b.upd := upd_of_unserved (duplicate_unserved ..)

@[simp] theorem Block.touch_log (ts : List Nat) (b : Block) : (b.touch ts).log = b.log := rfl
@[simp] theorem Block.touch_pol (ts : List Nat) (b : Block) : (b.touch ts).pol = b.pol := rfl
@[simp] theorem settingChanged_upd (b : Block) : (settingChanged b).upd = { b.upd with setDue := some (b.upd.setDue.getD (b.sys.now + 5 * secT)), setOrigin := 0 } := rfl
@[simp] theorem settingsDue_upd (b : Block) : (settingsDue b).upd = { b.upd with setDue := some (b.upd.setDue.getD (b.sys.now + 5 * secT)) } := rfl
@[simp] theorem Block.at_sys (t : Nat) (b : Block) : (b.at t).sys = { b.sys with now := max b.sys.now t } := rfl
@[simp] theorem Block.drew_sys (b : Block) : b.drew.sys = { b.sys with drawn := b.sys.drawn + 1 } := rfl

@[simp] theorem settingChanged_sys (b : Block) : (settingChanged b).sys = b.sys := rfl
@[simp] theorem settingsDue_sys (b : Block) : (settingsDue b).sys = b.sys := rfl
@[simp] theorem settingChanged_log (b : Block) : (settingChanged b).log = b.log := rfl
@[simp] theorem settingsDue_log (b : Block) : (settingsDue b).log = b.log := rfl
@[simp] theorem Block.at_log (t : Nat) (b : Block) : (b.at t).log = b.log := rfl
@[simp] theorem Block.drew_log (b : Block) : b.drew.log = b.log := rfl
@[simp] theorem settingChanged_ix (b : Block) : (settingChanged b).ix = b.ix := rfl
@[simp] theorem settingsDue_ix (b : Block) : (settingsDue b).ix = b.ix := rfl
@[simp] theorem Block.at_ix (t : Nat) (b : Block) : (b.at t).ix = b.ix := rfl
@[simp] theorem Block.drew_ix (b : Block) : b.drew.ix = b.ix := rfl
@[simp] theorem settingChanged_img (b : Block) : (settingChanged b).img = b.img := rfl
@[simp] theorem settingsDue_img (b : Block) : (settingsDue b).img = b.img := rfl
@[simp] theorem Block.at_img (t : Nat) (b : Block) : (b.at t).img = b.img := rfl
@[simp] theorem Block.drew_img (b : Block) : b.drew.img = b.img := rfl
@[simp] theorem settingChanged_leash (b : Block) : (settingChanged b).leash = b.leash := rfl
@[simp] theorem settingsDue_leash (b : Block) : (settingsDue b).leash = b.leash := rfl
@[simp] theorem Block.at_leash (t : Nat) (b : Block) : (b.at t).leash = b.leash := rfl
@[simp] theorem Block.drew_leash (b : Block) : b.drew.leash = b.leash := rfl
@[simp] theorem settingChanged_ring (b : Block) : (settingChanged b).ring = b.ring := rfl
@[simp] theorem settingsDue_ring (b : Block) : (settingsDue b).ring = b.ring := rfl
@[simp] theorem Block.at_ring (t : Nat) (b : Block) : (b.at t).ring = b.ring := rfl
@[simp] theorem Block.drew_ring (b : Block) : b.drew.ring = b.ring := rfl
@[simp] theorem settingChanged_sense (b : Block) : (settingChanged b).sense = b.sense := rfl
@[simp] theorem settingsDue_sense (b : Block) : (settingsDue b).sense = b.sense := rfl
@[simp] theorem Block.at_sense (t : Nat) (b : Block) : (b.at t).sense = b.sense := rfl
@[simp] theorem Block.drew_sense (b : Block) : b.drew.sense = b.sense := rfl
@[simp] theorem settingChanged_bark (b : Block) : (settingChanged b).bark = b.bark := rfl
@[simp] theorem settingsDue_bark (b : Block) : (settingsDue b).bark = b.bark := rfl
@[simp] theorem Block.at_bark (t : Nat) (b : Block) : (b.at t).bark = b.bark := rfl
@[simp] theorem Block.drew_bark (b : Block) : b.drew.bark = b.bark := rfl
@[simp] theorem settingChanged_bal (b : Block) : (settingChanged b).bal = b.bal := rfl
@[simp] theorem settingsDue_bal (b : Block) : (settingsDue b).bal = b.bal := rfl
@[simp] theorem Block.at_bal (t : Nat) (b : Block) : (b.at t).bal = b.bal := rfl
@[simp] theorem Block.drew_bal (b : Block) : b.drew.bal = b.bal := rfl
@[simp] theorem settingChanged_flt (b : Block) : (settingChanged b).flt = b.flt := rfl
@[simp] theorem settingsDue_flt (b : Block) : (settingsDue b).flt = b.flt := rfl
@[simp] theorem Block.at_flt (t : Nat) (b : Block) : (b.at t).flt = b.flt := rfl
@[simp] theorem Block.drew_flt (b : Block) : b.drew.flt = b.flt := rfl
@[simp] theorem settingChanged_latch (b : Block) : (settingChanged b).latch = b.latch := rfl
@[simp] theorem settingsDue_latch (b : Block) : (settingsDue b).latch = b.latch := rfl
@[simp] theorem Block.at_latch (t : Nat) (b : Block) : (b.at t).latch = b.latch := rfl
@[simp] theorem Block.drew_latch (b : Block) : b.drew.latch = b.latch := rfl
@[simp] theorem settingChanged_cnv (b : Block) : (settingChanged b).cnv = b.cnv := rfl
@[simp] theorem settingsDue_cnv (b : Block) : (settingsDue b).cnv = b.cnv := rfl
@[simp] theorem Block.at_cnv (t : Nat) (b : Block) : (b.at t).cnv = b.cnv := rfl
@[simp] theorem Block.drew_cnv (b : Block) : b.drew.cnv = b.cnv := rfl
@[simp] theorem settingChanged_imp (b : Block) : (settingChanged b).imp = b.imp := rfl
@[simp] theorem settingsDue_imp (b : Block) : (settingsDue b).imp = b.imp := rfl
@[simp] theorem Block.at_imp (t : Nat) (b : Block) : (b.at t).imp = b.imp := rfl
@[simp] theorem Block.drew_imp (b : Block) : b.drew.imp = b.imp := rfl
@[simp] theorem settingChanged_loop (b : Block) : (settingChanged b).loop = b.loop := rfl
@[simp] theorem settingsDue_loop (b : Block) : (settingsDue b).loop = b.loop := rfl
@[simp] theorem Block.at_loop (t : Nat) (b : Block) : (b.at t).loop = b.loop := rfl
@[simp] theorem Block.drew_loop (b : Block) : b.drew.loop = b.loop := rfl
@[simp] theorem settingChanged_thm (b : Block) : (settingChanged b).thm = b.thm := rfl
@[simp] theorem settingsDue_thm (b : Block) : (settingsDue b).thm = b.thm := rfl
@[simp] theorem Block.at_thm (t : Nat) (b : Block) : (b.at t).thm = b.thm := rfl
@[simp] theorem Block.drew_thm (b : Block) : b.drew.thm = b.thm := rfl
@[simp] theorem settingChanged_net (b : Block) : (settingChanged b).net = b.net := rfl
@[simp] theorem settingsDue_net (b : Block) : (settingsDue b).net = b.net := rfl
@[simp] theorem Block.at_net (t : Nat) (b : Block) : (b.at t).net = b.net := rfl
@[simp] theorem Block.drew_net (b : Block) : b.drew.net = b.net := rfl
@[simp] theorem settingChanged_pwr (b : Block) : (settingChanged b).pwr = b.pwr := rfl
@[simp] theorem settingsDue_pwr (b : Block) : (settingsDue b).pwr = b.pwr := rfl
@[simp] theorem Block.at_pwr (t : Nat) (b : Block) : (b.at t).pwr = b.pwr := rfl
@[simp] theorem Block.drew_pwr (b : Block) : b.drew.pwr = b.pwr := rfl
@[simp] theorem settingChanged_sec (b : Block) : (settingChanged b).sec = b.sec := rfl
@[simp] theorem settingsDue_sec (b : Block) : (settingsDue b).sec = b.sec := rfl
@[simp] theorem Block.at_sec (t : Nat) (b : Block) : (b.at t).sec = b.sec := rfl
@[simp] theorem Block.drew_sec (b : Block) : b.drew.sec = b.sec := rfl
@[simp] theorem Block.at_upd (t : Nat) (b : Block) : (b.at t).upd = b.upd := rfl
@[simp] theorem Block.drew_upd (b : Block) : b.drew.upd = b.upd := rfl
@[simp] theorem settingChanged_pol (b : Block) : (settingChanged b).pol = b.pol := rfl
@[simp] theorem settingsDue_pol (b : Block) : (settingsDue b).pol = b.pol := rfl
@[simp] theorem Block.at_pol (t : Nat) (b : Block) : (b.at t).pol = b.pol := rfl
@[simp] theorem Block.drew_pol (b : Block) : b.drew.pol = b.pol := rfl

end Sys2Proof.Machine
end

