-- ==== Sys2Proof/Laws/Settle.lean ====
section
/-! SUPPORT. In a settled block a command's effect is all that happens, but for the interrupt sources; an admitted request acts once. -/

set_option Elab.async false

namespace Sys2Proof.Machine

open Host

/-- What the interlock holds holds already. -/
theorem interlock_eq {b : Block} (h : b.safePath = true) : interlock b = b := by
  simp only [Block.safePath, Bool.and_eq_true, Bool.or_eq_true, Bool.not_eq_true', decide_eq_true_eq] at h
  obtain ⟨⟨h1, h2⟩, h3⟩ := h
  have e1 : lockMuzzle b = b := by
    unfold lockMuzzle; split
    · next h => rcases h1 with h1 | h1 <;> simp_all
    · rfl
  have e2 : lockState b = b := by
    unfold lockState; split
    · next h => rcases h3 with ((h3 | h3) | h3) | h3 <;> simp_all
    · rfl
  have e3 : lockGates b = b := by
    unfold lockGates; split
    · next h => rcases h2 with (h2 | h2) | h2 <;> simp_all
    · rfl
  simp [interlock, e1, e2, e3]

/-- No debug condition is due. -/
theorem debugWatch_eq {b : Block} (h1 : b.sec.fullDue = none) (h2 : b.sec.dstate ≠ 2 ∨ b.latch.saOk = true) : debugWatch b = b := by
  have e : resolveFullOpen b = b := by simp [resolveFullOpen, h1]
  unfold debugWatch; simp only [e]; split
  · next h => rcases h2 with h2 | h2 <;> simp_all
  · rfl

/-- The parts of `settled`. -/
theorem settled_iff {b : Block} : b.settled = true ↔ b.safePath = true ∧ b.sec.fullDue = none ∧ (b.sec.dstate ≠ 2 ∨ b.latch.saOk = true) := by
  simp [Block.settled, and_assoc]

/-- A command that leaves the block settled has its own effect and the interrupt sources sampled. -/
theorem effect_settled {f : Block → Block} {s : State} (h : (f s.block).settled = true) :
    effect f s = .next { s with block := irqWatch s.block (f s.block) } := by
  obtain ⟨h1, h2, h3⟩ := settled_iff.mp h
  simp [effect, debugWatch_eq h2 h3, interlock_eq h1]

/-- Two blocks that agree in what `settled` reads. -/
theorem settled_of_same {a b : Block} (hl : a.latch = b.latch) (hc : a.cnv.st = b.cnv.st) (hm : a.sys.mstate = b.sys.mstate) (hh : a.pwr.hold = b.pwr.hold)
    (hf : a.sec.fullDue = b.sec.fullDue) (hd : a.sec.dstate = b.sec.dstate) : a.settled = b.settled := by
  simp [Block.settled, Block.safePath, Block.hinge, hl, hc, hm, hh, hf, hd]

/-- Two blocks that agree in what `settled` reads, of the Latch its state, its muzzle and whether SA and SB stand. -/
theorem settled_of_keys {a b : Block} (hs : a.latch.state = b.latch.state) (hz : a.latch.muzzle = b.latch.muzzle) (hk : a.latch.saOk = b.latch.saOk)
    (hc : a.cnv.st = b.cnv.st) (hm : a.sys.mstate = b.sys.mstate) (hh : a.pwr.hold = b.pwr.hold) (hf : a.sec.fullDue = b.sec.fullDue)
    (hd : a.sec.dstate = b.sec.dstate) : a.settled = b.settled := by
  simp [Block.settled, Block.safePath, Block.hinge, hs, hz, hk, hc, hm, hh, hf, hd]

/-- Two blocks that agree in what `settled` reads, the gates apart, while the muzzle is released. -/
theorem settled_unmuzzled {a b : Block} (hl : a.latch = b.latch) (hm : a.sys.mstate = b.sys.mstate) (hh : a.pwr.hold = b.pwr.hold)
    (hf : a.sec.fullDue = b.sec.fullDue) (hd : a.sec.dstate = b.sec.dstate) (hz : b.latch.muzzle = false) : a.settled = b.settled := by
  simp [Block.settled, Block.safePath, Block.hinge, hl, hm, hh, hf, hd, hz]

/-- An admitted request whose state condition and parameters hold acts, journalled and accepted. -/
theorem host_admitted {src : Src} {rule : Block → HostRule} {b : Block} {op : Nat} {owner : Bool} (ha : b.admits src op owner = true) (ho : (rule b).opcode = op)
    (hw : (rule b).owner = owner) (hs : (rule b).stateOk = true) (hp : (rule b).param = none) :
    host src rule b = (rule b).act (journalStart src op (acceptRequest src op [] true b)) := by
  simp only [Block.admits, Bool.and_eq_true, Bool.or_eq_true, Bool.not_eq_true'] at ha
  obtain ⟨⟨⟨⟨⟨⟨a1, a2⟩, a3⟩, a4⟩, a5⟩, a6⟩, a7⟩ := ha
  have hc : checkRule src (rule b) b = none := by
    rcases a7 with a7 | ⟨a7, a8⟩
    · simp [checkRule, ho, hw, hs, hp, a6, a7]
    · have a9 : op ∉ b.runningOpcodes := by simpa using a8
      simp [checkRule, ho, hs, hp, a6, a7, a9]
  have hj : judgeRequest src (rule b) [] b = (rule b).act (journalStart src op (acceptRequest src op [] true b)) := by
    simp [judgeRequest, a5, hc, takeRequest, a2, ho]
  unfold host runHost
  simp only [a1, ho, a3]
  cases src with
  | session i seq =>
    have a4' : b.entry? i seq = none := by simpa [Block.unseen] using a4
    simp [a4', hj]
  | engine p k => simp [hj]

@[simp] theorem acceptRequest_pwr (src : Src) (op : Nat) (ps : List Byte) (st : Bool) (b : Block) : (acceptRequest src op ps st b).pwr = b.pwr := by cases src <;> rfl
@[simp] theorem journalStart_ix (src : Src) (op : Nat) (b : Block) : (journalStart src op b).ix = b.ix := rfl
@[simp] theorem journalStart_log (src : Src) (op : Nat) (b : Block) : (journalStart src op b).log = b.log := rfl
@[simp] theorem journalStart_img (src : Src) (op : Nat) (b : Block) : (journalStart src op b).img = b.img := rfl
@[simp] theorem journalStart_pol (src : Src) (op : Nat) (b : Block) : (journalStart src op b).pol = b.pol := rfl
@[simp] theorem acceptRequest_log (src : Src) (op : Nat) (ps : List Byte) (st : Bool) (b : Block) : (acceptRequest src op ps st b).log = b.log := by cases src <;> rfl
@[simp] theorem journalStart_hold (src : Src) (op : Nat) (b : Block) : (journalStart src op b).pwr.hold = b.pwr.hold := rfl
@[simp] theorem journalMark_hold (src : Src) (b : Block) : (journalMark src b).pwr.hold = b.pwr.hold := rfl
@[simp] theorem complete_hold (src : Src) (st : Status) (d : List Byte) (b : Block) : (complete src st d b).pwr.hold = b.pwr.hold := by
  unfold complete; dsimp only; split
  · split <;> rfl
  · rw [finishRing_pwr]; rfl
@[simp] theorem refuse_pwr (src : Src) (op : Nat) (st : Status) (b : Block) : (refuse src op st b).pwr = b.pwr := by
  cases src with
  | session i s => rfl
  | engine p k => show (rejectRing ..).pwr = _; rw [rejectRing_pwr, passRing_pwr]

end Sys2Proof.Machine
end

