-- ==== Sys2Proof/Laws/Service.lean ====
section
/-! SUPPORT. Completion of a request: its cache entry holds status and data; a ring holds it no more among its running commands. -/

set_option Elab.async false

namespace Sys2Proof.Machine

/-- The running commands of both rings. -/
def Block.runs (b : Block) : List (List RingCmd) := b.pol.engines.map fun e => e.ring.running

theorem runs_onPe (p : Nat) (f : PolEngine → PolEngine) (h : ∀ e, (f e).ring.running = e.ring.running) (b : Block) : (onPe p f b).runs = b.runs := by
  simp only [Block.runs, onPe, Block.onPol_pol, modAt]
  apply List.ext_getElem?; intro i
  simp only [List.getElem?_map, List.getElem?_modify]
  split <;> cases b.pol.engines[i]? <;> simp [h]

theorem runs_of_engines {a b : Block} (h : a.pol.engines = b.pol.engines) : a.runs = b.runs := by simp [Block.runs, h]

@[simp] theorem Block.touch_runs (ts : List Nat) (b : Block) : (b.touch ts).runs = b.runs := rfl
@[simp] theorem note_pol (e : Event) (a : Nat) (d : List Nat) (b : Block) : (note e a d b).pol = b.pol := by
  unfold note recordEvent; split
  · rfl
  · split
    · rfl
    · dsimp only; split <;> rfl
  · rfl
theorem note_runs (e : Event) (a : Nat) (d : List Nat) (b : Block) : (note e a d b).runs = b.runs := runs_of_engines (by simp)

@[simp] theorem ramWrite_runs (pa : Nat) (bs : List Byte) (b : Block) : (ramWrite pa bs b).runs = b.runs := by
  unfold ramWrite
  refine (runs_onPe _ _ ?_ _).trans ?_
  · intro e; rfl
  · simp [Block.runs, breakResv, Function.comp_def]

@[simp] theorem vwrite_runs (p va : Nat) (bs : List Byte) (b : Block) : (vwrite p va bs b).runs = b.runs := by
  unfold vwrite; split
  · rfl
  · exact ramWrite_runs ..

@[simp] theorem onCq_runs (l : CqLoc) (f : Cq → Cq) (b : Block) : (onCq l f b).runs = b.runs := by
  cases l with
  | chan c => rfl
  | ring p => refine runs_onPe _ _ ?_ _; intro e; rfl
  | port p => refine runs_onPe _ _ ?_ _; intro e; rfl

@[simp] theorem redirectOne_runs (s : Nat) (b : Block) : (redirectOne s b).runs = b.runs := by
  unfold redirectOne; split
  · split
    · rfl
    · rw [note_runs]; rfl
  · rfl

@[simp] theorem raiseIrq_runs (s : Nat) (b : Block) : (raiseIrq s b).runs = b.runs := by unfold raiseIrq; rw [redirectOne_runs]; rfl

@[simp] theorem irqWatch_runs (o b : Block) : (irqWatch o b).runs = b.runs := by
  have h := foldl_keeps Block.runs (fun b s => raiseIrq s b) (fun _ _ => raiseIrq_runs _ _) (irqEdges o b) b
  unfold irqWatch; dsimp only; split
  · exact h
  · rw [show (redirectAll _).runs = _ from foldl_keeps Block.runs _ (fun _ _ => redirectOne_runs _ _) _ _]; exact h

@[simp] theorem putCq_runs (l : CqLoc) (e : CqEntry) (b : Block) : (putCq l e b).runs = b.runs := by
  unfold putCq signalCq; dsimp only; split <;> simp

@[simp] theorem pushCq_runs (l : CqLoc) (e : CqEntry) (b : Block) : (pushCq l e b).runs = b.runs := by
  unfold pushCq; dsimp only; split <;> simp

@[simp] theorem drainRing_runs (p : Nat) (b : Block) : (drainRing p b).runs = b.runs := by
  unfold drainRing; dsimp only; split
  · rfl
  · refine (runs_onPe _ _ ?_ _).trans ?_
    · intro e; rfl
    · exact foldl_keeps Block.runs _ (fun _ _ => pushCq_runs _ _ _) _ _

/-- The running commands of one ring. -/
theorem running_of_runs {a b : Block} (h : a.runs = b.runs) (p : Nat) : (a.pe p).ring.running = (b.pe p).ring.running := by
  have k : (a.runs)[p]? = (b.runs)[p]? := by rw [h]
  simp only [Block.runs, List.getElem?_map] at k
  simp only [Block.pe, List.getD_eq_getElem?_getD]
  cases ha : a.pol.engines[p]? <;> cases hb : b.pol.engines[p]? <;> simp_all

/-- An engine after a change of it; a number beyond the engines stays one that is not there. -/
theorem pe_onPe (p : Nat) (f : PolEngine → PolEngine) (b : Block) : (onPe p f b).pe p = if p < b.pol.engines.length then f (b.pe p) else PolEngine.reset := by
  simp only [Block.pe, onPe, Block.onPol_pol, modAt, List.getD_eq_getElem?_getD, List.getElem?_modify, if_true]
  by_cases h : p < b.pol.engines.length
  · simp [h]
  · simp [h]

/-- A finished ring command runs no more. -/
theorem finishRing_gone (p k st : Nat) (d : List Byte) (b : Block) : ∀ c ∈ ((finishRing p k st d b).pe p).ring.running, c.index ≠ k := by
  intro c hc
  unfold finishRing at hc
  split at hc
  · next h =>
    intro he
    have := List.find?_eq_none.mp h c hc
    simp [he] at this
  · dsimp only at hc
    rw [running_of_runs (drainRing_runs ..), running_of_runs (pushCq_runs ..)] at hc
    have key : ∀ x : Block, c ∈ ((onPe p (fun e => { e with ring := { e.ring with running := e.ring.running.filter fun x => x.index != k } }) x).pe p).ring.running → c.index ≠ k := by
      intro x hx
      rw [pe_onPe] at hx
      by_cases hp : p < x.pol.engines.length
      · rw [if_pos hp] at hx
        have := (List.mem_filter.mp hx).2
        simpa using this
      · rw [if_neg hp] at hx
        exact absurd hx (by simp [PolEngine.reset, Ring.reset])
    exact key _ hc

/-- The entry that acceptance puts into the cache. -/
theorem acceptRequest_entry (i seq op : Nat) (ps : List Byte) (st : Bool) (b : Block) (h : i < b.ix.sessions.length) :
    ∃ e, (acceptRequest (.session i seq) op ps st b).entry? i seq = some e ∧ e.opcode = op := by
  refine ⟨{ seq := seq, opcode := op, params := ps, accepted := b.sys.now, mtu := (b.session i).mtu, running := true, started := st, status := 0, data := [] }, ?_, rfl⟩
  simp [acceptRequest, Block.entry?, Block.session, modAt, List.getD_eq_getElem?_getD, List.getElem?_eq_getElem h]

/-- A completed request of a session: its cache entry holds status and data (R335). -/
theorem complete_entry (i seq : Nat) (st : Status) (d : List Byte) (b : Block) (e : CacheEntry) (h : b.entry? i seq = some e) :
    (complete (.session i seq) st d b).entry? i seq = some { e with running := false, status := st.code, data := d } := by
  have hi : i < b.ix.sessions.length := by
    by_contra hn
    simp [Block.entry?, Block.session, List.getD_eq_getElem?_getD, List.getElem?_eq_none (Nat.le_of_not_lt hn), Session.closed] at h
  have hj : (journalMark (.session i seq) b).entry? i seq = some e := h
  simp only [complete, hj]
  simp only [Block.entry?, Block.session, List.getD_eq_getElem?_getD, List.getElem?_eq_getElem hi, Option.getD_some] at h
  simp only [Block.entry?, Block.session, sendReply, onEntry, Block.onIx_ix, Block.touch_ix, modAt, List.getD_eq_getElem?_getD, List.getElem?_modify, journalMark, Block.onPwr_ix,
    List.getElem?_eq_getElem hi, Option.map_eq_map, Option.map_some, if_true, Option.getD_some]
  rw [List.find?_map]
  have : ((fun e : CacheEntry => e.seq == seq) ∘ fun e => if e.seq = seq then { e with running := false, status := st.code, data := d } else e) = fun e => e.seq == seq := by
    funext x; simp only [Function.comp]; split <;> simp_all
  simp only [this, h, Option.map_some]
  have hs : e.seq = seq := by simpa using List.find?_some h
  simp [hs]

/-- A request that completes is answered: of a session whose cache holds it, or of a ring. -/
theorem complete_answered {src : Src} {st : Status} {d : List Byte} {b : Block} (h : ∀ i seq, src = .session i seq → ∃ e, b.entry? i seq = some e) :
    (complete src st d b).answered src st d := by
  cases src with
  | session i seq =>
    obtain ⟨e, he⟩ := h i seq rfl
    exact ⟨_, complete_entry i seq st d b e he, rfl, rfl, rfl⟩
  | engine p k => intro c hc; exact finishRing_gone p k _ _ _ c hc

/-- What later changes elsewhere leave of an answer. -/
theorem answered_of_same {a b : Block} {src : Src} {st : Status} {d : List Byte} (hx : a.ix = b.ix) (hr : a.runs = b.runs) (h : b.answered src st d) : a.answered src st d := by
  cases src with
  | session i seq =>
    obtain ⟨e, he, h⟩ := h
    exact ⟨e, by simpa [Block.entry?, Block.session, hx] using he, h⟩
  | engine p k => intro c hc; exact h c (by rwa [← running_of_runs hr])

/-- The cache of the requester's session holds an accepted request. -/
theorem accepted_entry {src : Src} {op : Nat} {owner : Bool} {b b' : Block} (ha : b.admits src op owner = true)
    (hx : b'.ix = (acceptRequest src op [] true b).ix) (i seq : Nat) (hs : src = .session i seq) : ∃ e, b'.entry? i seq = some e := by
  subst hs
  have hi : i < b.ix.sessions.length := by
    simp only [Block.admits, Bool.and_eq_true] at ha
    have : (b.session i).isOpen = true := ha.1.1.1.1.1.1
    by_contra hn
    simp [Block.session, List.getD_eq_getElem?_getD, List.getElem?_eq_none (Nat.le_of_not_lt hn), Session.closed] at this
  obtain ⟨e, he, _⟩ := acceptRequest_entry i seq op [] true b hi
  exact ⟨e, by simpa [Block.entry?, Block.session, hx] using he⟩

end Sys2Proof.Machine
end

