-- ==== Sys2Proof/Laws/Control.lean ====
section
/-! SUPPORT. What a change of module state, an event that stops the converter, the Latch's functions and the interlock leave alone. -/

set_option Elab.async false
set_option linter.unusedTactic false
set_option linter.unnecessarySeqFocus false

namespace Sys2Proof.Machine

/-- The block but for what a change of module state may touch. -/
def Block.uncontrolled (b : Block) : Block := { b with sys := .fresh, log := .fresh, ix := .fresh, img := .fresh, sense := .fresh, bal := .fresh, flt := .fresh, cnv := .fresh, imp := .fresh, loop := .fresh, pwr := .fresh, pol := .fresh }

/-- The block but for what a function of the Latch may touch as well. -/
def Block.unacted (b : Block) : Block := { b.uncontrolled with leash := .fresh, bark := .fresh, latch := .fresh }

theorem unacted_of_uncontrolled {a b : Block} (h : a.uncontrolled = b.uncontrolled) : a.unacted = b.unacted := by simp [Block.unacted, h]
theorem uncontrolled_of_unserved {a b : Block} (h : a.unserved = b.unserved) : a.uncontrolled = b.uncontrolled := by have k := congrArg Block.uncontrolled h; exact k

theorem leash_of_uncontrolled {a b : Block} (h : a.uncontrolled = b.uncontrolled) : a.leash = b.leash := by have k := congrArg Block.leash h; exact k
theorem ring_of_uncontrolled {a b : Block} (h : a.uncontrolled = b.uncontrolled) : a.ring = b.ring := by have k := congrArg Block.ring h; exact k
theorem bark_of_uncontrolled {a b : Block} (h : a.uncontrolled = b.uncontrolled) : a.bark = b.bark := by have k := congrArg Block.bark h; exact k
theorem latch_of_uncontrolled {a b : Block} (h : a.uncontrolled = b.uncontrolled) : a.latch = b.latch := by have k := congrArg Block.latch h; exact k
theorem thm_of_uncontrolled {a b : Block} (h : a.uncontrolled = b.uncontrolled) : a.thm = b.thm := by have k := congrArg Block.thm h; exact k
theorem net_of_uncontrolled {a b : Block} (h : a.uncontrolled = b.uncontrolled) : a.net = b.net := by have k := congrArg Block.net h; exact k
theorem sec_of_uncontrolled {a b : Block} (h : a.uncontrolled = b.uncontrolled) : a.sec = b.sec := by have k := congrArg Block.sec h; exact k
theorem upd_of_uncontrolled {a b : Block} (h : a.uncontrolled = b.uncontrolled) : a.upd = b.upd := by have k := congrArg Block.upd h; exact k
theorem ring_of_unacted {a b : Block} (h : a.unacted = b.unacted) : a.ring = b.ring := by have k := congrArg Block.ring h; exact k
theorem thm_of_unacted {a b : Block} (h : a.unacted = b.unacted) : a.thm = b.thm := by have k := congrArg Block.thm h; exact k
theorem net_of_unacted {a b : Block} (h : a.unacted = b.unacted) : a.net = b.net := by have k := congrArg Block.net h; exact k
theorem sec_of_unacted {a b : Block} (h : a.unacted = b.unacted) : a.sec = b.sec := by have k := congrArg Block.sec h; exact k
theorem upd_of_unacted {a b : Block} (h : a.unacted = b.unacted) : a.upd = b.upd := by have k := congrArg Block.upd h; exact k

@[simp] theorem onSys_uncontrolled (f : SysPart → SysPart) (b : Block) : (b.onSys f).uncontrolled = b.uncontrolled := rfl
@[simp] theorem onSys_unacted (f : SysPart → SysPart) (b : Block) : (b.onSys f).unacted = b.unacted := rfl
@[simp] theorem onLog_uncontrolled (f : LogPart → LogPart) (b : Block) : (b.onLog f).uncontrolled = b.uncontrolled := rfl
@[simp] theorem onLog_unacted (f : LogPart → LogPart) (b : Block) : (b.onLog f).unacted = b.unacted := rfl
@[simp] theorem onIx_uncontrolled (f : IxPart → IxPart) (b : Block) : (b.onIx f).uncontrolled = b.uncontrolled := rfl
@[simp] theorem onIx_unacted (f : IxPart → IxPart) (b : Block) : (b.onIx f).unacted = b.unacted := rfl
@[simp] theorem onImg_uncontrolled (f : ImgPart → ImgPart) (b : Block) : (b.onImg f).uncontrolled = b.uncontrolled := rfl
@[simp] theorem onImg_unacted (f : ImgPart → ImgPart) (b : Block) : (b.onImg f).unacted = b.unacted := rfl
@[simp] theorem onLeash_unacted (f : LeashPart → LeashPart) (b : Block) : (b.onLeash f).unacted = b.unacted := rfl
@[simp] theorem onSense_uncontrolled (f : SensePart → SensePart) (b : Block) : (b.onSense f).uncontrolled = b.uncontrolled := rfl
@[simp] theorem onSense_unacted (f : SensePart → SensePart) (b : Block) : (b.onSense f).unacted = b.unacted := rfl
@[simp] theorem onBark_unacted (f : BarkPart → BarkPart) (b : Block) : (b.onBark f).unacted = b.unacted := rfl
@[simp] theorem onBal_uncontrolled (f : BalPart → BalPart) (b : Block) : (b.onBal f).uncontrolled = b.uncontrolled := rfl
@[simp] theorem onBal_unacted (f : BalPart → BalPart) (b : Block) : (b.onBal f).unacted = b.unacted := rfl
@[simp] theorem onFlt_uncontrolled (f : FltPart → FltPart) (b : Block) : (b.onFlt f).uncontrolled = b.uncontrolled := rfl
@[simp] theorem onFlt_unacted (f : FltPart → FltPart) (b : Block) : (b.onFlt f).unacted = b.unacted := rfl
@[simp] theorem onLatch_unacted (f : LatchPart → LatchPart) (b : Block) : (b.onLatch f).unacted = b.unacted := rfl
@[simp] theorem onCnv_uncontrolled (f : CnvPart → CnvPart) (b : Block) : (b.onCnv f).uncontrolled = b.uncontrolled := rfl
@[simp] theorem onCnv_unacted (f : CnvPart → CnvPart) (b : Block) : (b.onCnv f).unacted = b.unacted := rfl
@[simp] theorem onImp_uncontrolled (f : ImpPart → ImpPart) (b : Block) : (b.onImp f).uncontrolled = b.uncontrolled := rfl
@[simp] theorem onImp_unacted (f : ImpPart → ImpPart) (b : Block) : (b.onImp f).unacted = b.unacted := rfl
@[simp] theorem onLoop_uncontrolled (f : LoopPart → LoopPart) (b : Block) : (b.onLoop f).uncontrolled = b.uncontrolled := rfl
@[simp] theorem onLoop_unacted (f : LoopPart → LoopPart) (b : Block) : (b.onLoop f).unacted = b.unacted := rfl
@[simp] theorem onPwr_uncontrolled (f : PwrPart → PwrPart) (b : Block) : (b.onPwr f).uncontrolled = b.uncontrolled := rfl
@[simp] theorem onPwr_unacted (f : PwrPart → PwrPart) (b : Block) : (b.onPwr f).unacted = b.unacted := rfl
@[simp] theorem onPol_uncontrolled (f : PolPart → PolPart) (b : Block) : (b.onPol f).uncontrolled = b.uncontrolled := rfl
@[simp] theorem onPol_unacted (f : PolPart → PolPart) (b : Block) : (b.onPol f).unacted = b.unacted := rfl
@[simp] theorem Block.touch_uncontrolled (ts : List Nat) (b : Block) : (b.touch ts).uncontrolled = b.uncontrolled := uncontrolled_of_unserved (Block.touch_unserved ..)
@[simp] theorem Block.touch_unacted (ts : List Nat) (b : Block) : (b.touch ts).unacted = b.unacted := unacted_of_uncontrolled (Block.touch_uncontrolled ..)
@[simp] theorem note_uncontrolled (e : Event) (arg0 : Nat) (data : List Nat) (b : Block) : (note e arg0 data b).uncontrolled = b.uncontrolled := uncontrolled_of_unserved (note_unserved ..)
@[simp] theorem note_unacted (e : Event) (arg0 : Nat) (data : List Nat) (b : Block) : (note e arg0 data b).unacted = b.unacted := unacted_of_uncontrolled (note_uncontrolled ..)
@[simp] theorem recordEvent_uncontrolled (sev : Severity) (code src arg0 : Nat) (data : List Nat) (b : Block) : (recordEvent sev code src arg0 data b).uncontrolled = b.uncontrolled := uncontrolled_of_unserved (recordEvent_unserved ..)
@[simp] theorem recordEvent_unacted (sev : Severity) (code src arg0 : Nat) (data : List Nat) (b : Block) : (recordEvent sev code src arg0 data b).unacted = b.unacted := unacted_of_uncontrolled (recordEvent_uncontrolled ..)
@[simp] theorem complete_uncontrolled (src : Src) (st : Status) (data : List Byte) (b : Block) : (complete src st data b).uncontrolled = b.uncontrolled := uncontrolled_of_unserved (complete_unserved ..)
@[simp] theorem complete_unacted (src : Src) (st : Status) (data : List Byte) (b : Block) : (complete src st data b).unacted = b.unacted := unacted_of_uncontrolled (complete_uncontrolled ..)
@[simp] theorem irqWatch_uncontrolled (o : Block) (b : Block) : (irqWatch o b).uncontrolled = b.uncontrolled := uncontrolled_of_unserved (irqWatch_unserved ..)
@[simp] theorem irqWatch_unacted (o : Block) (b : Block) : (irqWatch o b).unacted = b.unacted := unacted_of_uncontrolled (irqWatch_uncontrolled ..)

@[simp] theorem onSegBal_sys (n : Nat) (f : SegBal → SegBal) (b : Block) : (onSegBal n f b).sys = b.sys := rfl
@[simp] theorem onSegBal_log (n : Nat) (f : SegBal → SegBal) (b : Block) : (onSegBal n f b).log = b.log := rfl
@[simp] theorem onSegBal_ix (n : Nat) (f : SegBal → SegBal) (b : Block) : (onSegBal n f b).ix = b.ix := rfl
@[simp] theorem onSegBal_img (n : Nat) (f : SegBal → SegBal) (b : Block) : (onSegBal n f b).img = b.img := rfl
@[simp] theorem onSegBal_leash (n : Nat) (f : SegBal → SegBal) (b : Block) : (onSegBal n f b).leash = b.leash := rfl
@[simp] theorem onSegBal_ring (n : Nat) (f : SegBal → SegBal) (b : Block) : (onSegBal n f b).ring = b.ring := rfl
@[simp] theorem onSegBal_sense (n : Nat) (f : SegBal → SegBal) (b : Block) : (onSegBal n f b).sense = b.sense := rfl
@[simp] theorem onSegBal_bark (n : Nat) (f : SegBal → SegBal) (b : Block) : (onSegBal n f b).bark = b.bark := rfl
@[simp] theorem onSegBal_flt (n : Nat) (f : SegBal → SegBal) (b : Block) : (onSegBal n f b).flt = b.flt := rfl
@[simp] theorem onSegBal_latch (n : Nat) (f : SegBal → SegBal) (b : Block) : (onSegBal n f b).latch = b.latch := rfl
@[simp] theorem onSegBal_cnv (n : Nat) (f : SegBal → SegBal) (b : Block) : (onSegBal n f b).cnv = b.cnv := rfl
@[simp] theorem onSegBal_imp (n : Nat) (f : SegBal → SegBal) (b : Block) : (onSegBal n f b).imp = b.imp := rfl
@[simp] theorem onSegBal_loop (n : Nat) (f : SegBal → SegBal) (b : Block) : (onSegBal n f b).loop = b.loop := rfl
@[simp] theorem onSegBal_thm (n : Nat) (f : SegBal → SegBal) (b : Block) : (onSegBal n f b).thm = b.thm := rfl
@[simp] theorem onSegBal_net (n : Nat) (f : SegBal → SegBal) (b : Block) : (onSegBal n f b).net = b.net := rfl
@[simp] theorem onSegBal_pwr (n : Nat) (f : SegBal → SegBal) (b : Block) : (onSegBal n f b).pwr = b.pwr := rfl
@[simp] theorem onSegBal_sec (n : Nat) (f : SegBal → SegBal) (b : Block) : (onSegBal n f b).sec = b.sec := rfl
@[simp] theorem onSegBal_upd (n : Nat) (f : SegBal → SegBal) (b : Block) : (onSegBal n f b).upd = b.upd := rfl
@[simp] theorem onSegBal_pol (n : Nat) (f : SegBal → SegBal) (b : Block) : (onSegBal n f b).pol = b.pol := rfl
@[simp] theorem onSegBal_uncontrolled (n : Nat) (f : SegBal → SegBal) (b : Block) : (onSegBal n f b).uncontrolled = b.uncontrolled := rfl

@[simp] theorem onCellBal_sys (n : Nat) (f : CellBal → CellBal) (b : Block) : (onCellBal n f b).sys = b.sys := rfl
@[simp] theorem onCellBal_log (n : Nat) (f : CellBal → CellBal) (b : Block) : (onCellBal n f b).log = b.log := rfl
@[simp] theorem onCellBal_ix (n : Nat) (f : CellBal → CellBal) (b : Block) : (onCellBal n f b).ix = b.ix := rfl
@[simp] theorem onCellBal_img (n : Nat) (f : CellBal → CellBal) (b : Block) : (onCellBal n f b).img = b.img := rfl
@[simp] theorem onCellBal_leash (n : Nat) (f : CellBal → CellBal) (b : Block) : (onCellBal n f b).leash = b.leash := rfl
@[simp] theorem onCellBal_ring (n : Nat) (f : CellBal → CellBal) (b : Block) : (onCellBal n f b).ring = b.ring := rfl
@[simp] theorem onCellBal_sense (n : Nat) (f : CellBal → CellBal) (b : Block) : (onCellBal n f b).sense = b.sense := rfl
@[simp] theorem onCellBal_bark (n : Nat) (f : CellBal → CellBal) (b : Block) : (onCellBal n f b).bark = b.bark := rfl
@[simp] theorem onCellBal_flt (n : Nat) (f : CellBal → CellBal) (b : Block) : (onCellBal n f b).flt = b.flt := rfl
@[simp] theorem onCellBal_latch (n : Nat) (f : CellBal → CellBal) (b : Block) : (onCellBal n f b).latch = b.latch := rfl
@[simp] theorem onCellBal_cnv (n : Nat) (f : CellBal → CellBal) (b : Block) : (onCellBal n f b).cnv = b.cnv := rfl
@[simp] theorem onCellBal_imp (n : Nat) (f : CellBal → CellBal) (b : Block) : (onCellBal n f b).imp = b.imp := rfl
@[simp] theorem onCellBal_loop (n : Nat) (f : CellBal → CellBal) (b : Block) : (onCellBal n f b).loop = b.loop := rfl
@[simp] theorem onCellBal_thm (n : Nat) (f : CellBal → CellBal) (b : Block) : (onCellBal n f b).thm = b.thm := rfl
@[simp] theorem onCellBal_net (n : Nat) (f : CellBal → CellBal) (b : Block) : (onCellBal n f b).net = b.net := rfl
@[simp] theorem onCellBal_pwr (n : Nat) (f : CellBal → CellBal) (b : Block) : (onCellBal n f b).pwr = b.pwr := rfl
@[simp] theorem onCellBal_sec (n : Nat) (f : CellBal → CellBal) (b : Block) : (onCellBal n f b).sec = b.sec := rfl
@[simp] theorem onCellBal_upd (n : Nat) (f : CellBal → CellBal) (b : Block) : (onCellBal n f b).upd = b.upd := rfl
@[simp] theorem onCellBal_pol (n : Nat) (f : CellBal → CellBal) (b : Block) : (onCellBal n f b).pol = b.pol := rfl
@[simp] theorem onCellBal_uncontrolled (n : Nat) (f : CellBal → CellBal) (b : Block) : (onCellBal n f b).uncontrolled = b.uncontrolled := rfl

@[simp] theorem onPhase_sys (k : Nat) (f : Phase → Phase) (b : Block) : (onPhase k f b).sys = b.sys := rfl
@[simp] theorem onPhase_log (k : Nat) (f : Phase → Phase) (b : Block) : (onPhase k f b).log = b.log := rfl
@[simp] theorem onPhase_ix (k : Nat) (f : Phase → Phase) (b : Block) : (onPhase k f b).ix = b.ix := rfl
@[simp] theorem onPhase_img (k : Nat) (f : Phase → Phase) (b : Block) : (onPhase k f b).img = b.img := rfl
@[simp] theorem onPhase_leash (k : Nat) (f : Phase → Phase) (b : Block) : (onPhase k f b).leash = b.leash := rfl
@[simp] theorem onPhase_ring (k : Nat) (f : Phase → Phase) (b : Block) : (onPhase k f b).ring = b.ring := rfl
@[simp] theorem onPhase_sense (k : Nat) (f : Phase → Phase) (b : Block) : (onPhase k f b).sense = b.sense := rfl
@[simp] theorem onPhase_bark (k : Nat) (f : Phase → Phase) (b : Block) : (onPhase k f b).bark = b.bark := rfl
@[simp] theorem onPhase_bal (k : Nat) (f : Phase → Phase) (b : Block) : (onPhase k f b).bal = b.bal := rfl
@[simp] theorem onPhase_flt (k : Nat) (f : Phase → Phase) (b : Block) : (onPhase k f b).flt = b.flt := rfl
@[simp] theorem onPhase_latch (k : Nat) (f : Phase → Phase) (b : Block) : (onPhase k f b).latch = b.latch := rfl
@[simp] theorem onPhase_imp (k : Nat) (f : Phase → Phase) (b : Block) : (onPhase k f b).imp = b.imp := rfl
@[simp] theorem onPhase_loop (k : Nat) (f : Phase → Phase) (b : Block) : (onPhase k f b).loop = b.loop := rfl
@[simp] theorem onPhase_thm (k : Nat) (f : Phase → Phase) (b : Block) : (onPhase k f b).thm = b.thm := rfl
@[simp] theorem onPhase_net (k : Nat) (f : Phase → Phase) (b : Block) : (onPhase k f b).net = b.net := rfl
@[simp] theorem onPhase_pwr (k : Nat) (f : Phase → Phase) (b : Block) : (onPhase k f b).pwr = b.pwr := rfl
@[simp] theorem onPhase_sec (k : Nat) (f : Phase → Phase) (b : Block) : (onPhase k f b).sec = b.sec := rfl
@[simp] theorem onPhase_upd (k : Nat) (f : Phase → Phase) (b : Block) : (onPhase k f b).upd = b.upd := rfl
@[simp] theorem onPhase_pol (k : Nat) (f : Phase → Phase) (b : Block) : (onPhase k f b).pol = b.pol := rfl
@[simp] theorem onPhase_uncontrolled (k : Nat) (f : Phase → Phase) (b : Block) : (onPhase k f b).uncontrolled = b.uncontrolled := rfl

@[simp] theorem scheduleRate_sys (code : Nat) (b : Block) : (scheduleRate code b).sys = b.sys := rfl
@[simp] theorem scheduleRate_log (code : Nat) (b : Block) : (scheduleRate code b).log = b.log := rfl
@[simp] theorem scheduleRate_ix (code : Nat) (b : Block) : (scheduleRate code b).ix = b.ix := rfl
@[simp] theorem scheduleRate_img (code : Nat) (b : Block) : (scheduleRate code b).img = b.img := rfl
@[simp] theorem scheduleRate_leash (code : Nat) (b : Block) : (scheduleRate code b).leash = b.leash := rfl
@[simp] theorem scheduleRate_ring (code : Nat) (b : Block) : (scheduleRate code b).ring = b.ring := rfl
@[simp] theorem scheduleRate_bark (code : Nat) (b : Block) : (scheduleRate code b).bark = b.bark := rfl
@[simp] theorem scheduleRate_bal (code : Nat) (b : Block) : (scheduleRate code b).bal = b.bal := rfl
@[simp] theorem scheduleRate_flt (code : Nat) (b : Block) : (scheduleRate code b).flt = b.flt := rfl
@[simp] theorem scheduleRate_latch (code : Nat) (b : Block) : (scheduleRate code b).latch = b.latch := rfl
@[simp] theorem scheduleRate_cnv (code : Nat) (b : Block) : (scheduleRate code b).cnv = b.cnv := rfl
@[simp] theorem scheduleRate_imp (code : Nat) (b : Block) : (scheduleRate code b).imp = b.imp := rfl
@[simp] theorem scheduleRate_loop (code : Nat) (b : Block) : (scheduleRate code b).loop = b.loop := rfl
@[simp] theorem scheduleRate_thm (code : Nat) (b : Block) : (scheduleRate code b).thm = b.thm := rfl
@[simp] theorem scheduleRate_net (code : Nat) (b : Block) : (scheduleRate code b).net = b.net := rfl
@[simp] theorem scheduleRate_pwr (code : Nat) (b : Block) : (scheduleRate code b).pwr = b.pwr := rfl
@[simp] theorem scheduleRate_sec (code : Nat) (b : Block) : (scheduleRate code b).sec = b.sec := rfl
@[simp] theorem scheduleRate_upd (code : Nat) (b : Block) : (scheduleRate code b).upd = b.upd := rfl
@[simp] theorem scheduleRate_pol (code : Nat) (b : Block) : (scheduleRate code b).pol = b.pol := rfl
@[simp] theorem scheduleRate_uncontrolled (code : Nat) (b : Block) : (scheduleRate code b).uncontrolled = b.uncontrolled := rfl
@[simp] theorem scheduleRate_unacted (code : Nat) (b : Block) : (scheduleRate code b).unacted = b.unacted := unacted_of_uncontrolled (scheduleRate_uncontrolled ..)

@[simp] theorem accrue_sys  (b : Block) : (accrue b).sys = b.sys := rfl
@[simp] theorem accrue_log  (b : Block) : (accrue b).log = b.log := rfl
@[simp] theorem accrue_ix  (b : Block) : (accrue b).ix = b.ix := rfl
@[simp] theorem accrue_img  (b : Block) : (accrue b).img = b.img := rfl
@[simp] theorem accrue_leash  (b : Block) : (accrue b).leash = b.leash := rfl
@[simp] theorem accrue_ring  (b : Block) : (accrue b).ring = b.ring := rfl
@[simp] theorem accrue_sense  (b : Block) : (accrue b).sense = b.sense := rfl
@[simp] theorem accrue_bark  (b : Block) : (accrue b).bark = b.bark := rfl
@[simp] theorem accrue_flt  (b : Block) : (accrue b).flt = b.flt := rfl
@[simp] theorem accrue_latch  (b : Block) : (accrue b).latch = b.latch := rfl
@[simp] theorem accrue_cnv  (b : Block) : (accrue b).cnv = b.cnv := rfl
@[simp] theorem accrue_imp  (b : Block) : (accrue b).imp = b.imp := rfl
@[simp] theorem accrue_loop  (b : Block) : (accrue b).loop = b.loop := rfl
@[simp] theorem accrue_thm  (b : Block) : (accrue b).thm = b.thm := rfl
@[simp] theorem accrue_net  (b : Block) : (accrue b).net = b.net := rfl
@[simp] theorem accrue_pwr  (b : Block) : (accrue b).pwr = b.pwr := rfl
@[simp] theorem accrue_sec  (b : Block) : (accrue b).sec = b.sec := rfl
@[simp] theorem accrue_upd  (b : Block) : (accrue b).upd = b.upd := rfl
@[simp] theorem accrue_pol  (b : Block) : (accrue b).pol = b.pol := rfl
@[simp] theorem accrue_uncontrolled  (b : Block) : (accrue b).uncontrolled = b.uncontrolled := rfl
@[simp] theorem accrue_unacted  (b : Block) : (accrue b).unacted = b.unacted := unacted_of_uncontrolled (accrue_uncontrolled ..)

@[simp] theorem openElements_sys (p : Nat → Bool) (b : Block) : (openElements p b).sys = b.sys := rfl
@[simp] theorem openElements_log (p : Nat → Bool) (b : Block) : (openElements p b).log = b.log := rfl
@[simp] theorem openElements_ix (p : Nat → Bool) (b : Block) : (openElements p b).ix = b.ix := rfl
@[simp] theorem openElements_img (p : Nat → Bool) (b : Block) : (openElements p b).img = b.img := rfl
@[simp] theorem openElements_leash (p : Nat → Bool) (b : Block) : (openElements p b).leash = b.leash := rfl
@[simp] theorem openElements_ring (p : Nat → Bool) (b : Block) : (openElements p b).ring = b.ring := rfl
@[simp] theorem openElements_sense (p : Nat → Bool) (b : Block) : (openElements p b).sense = b.sense := rfl
@[simp] theorem openElements_bark (p : Nat → Bool) (b : Block) : (openElements p b).bark = b.bark := rfl
@[simp] theorem openElements_flt (p : Nat → Bool) (b : Block) : (openElements p b).flt = b.flt := rfl
@[simp] theorem openElements_latch (p : Nat → Bool) (b : Block) : (openElements p b).latch = b.latch := rfl
@[simp] theorem openElements_cnv (p : Nat → Bool) (b : Block) : (openElements p b).cnv = b.cnv := rfl
@[simp] theorem openElements_imp (p : Nat → Bool) (b : Block) : (openElements p b).imp = b.imp := rfl
@[simp] theorem openElements_loop (p : Nat → Bool) (b : Block) : (openElements p b).loop = b.loop := rfl
@[simp] theorem openElements_thm (p : Nat → Bool) (b : Block) : (openElements p b).thm = b.thm := rfl
@[simp] theorem openElements_net (p : Nat → Bool) (b : Block) : (openElements p b).net = b.net := rfl
@[simp] theorem openElements_pwr (p : Nat → Bool) (b : Block) : (openElements p b).pwr = b.pwr := rfl
@[simp] theorem openElements_sec (p : Nat → Bool) (b : Block) : (openElements p b).sec = b.sec := rfl
@[simp] theorem openElements_upd (p : Nat → Bool) (b : Block) : (openElements p b).upd = b.upd := rfl
@[simp] theorem openElements_pol (p : Nat → Bool) (b : Block) : (openElements p b).pol = b.pol := rfl
@[simp] theorem openElements_uncontrolled (p : Nat → Bool) (b : Block) : (openElements p b).uncontrolled = b.uncontrolled := rfl
@[simp] theorem openElements_unacted (p : Nat → Bool) (b : Block) : (openElements p b).unacted = b.unacted := unacted_of_uncontrolled (openElements_uncontrolled ..)

@[simp] theorem balStop_sys  (b : Block) : (balStop b).sys = b.sys := rfl
@[simp] theorem balStop_log  (b : Block) : (balStop b).log = b.log := rfl
@[simp] theorem balStop_ix  (b : Block) : (balStop b).ix = b.ix := rfl
@[simp] theorem balStop_img  (b : Block) : (balStop b).img = b.img := rfl
@[simp] theorem balStop_leash  (b : Block) : (balStop b).leash = b.leash := rfl
@[simp] theorem balStop_ring  (b : Block) : (balStop b).ring = b.ring := rfl
@[simp] theorem balStop_sense  (b : Block) : (balStop b).sense = b.sense := rfl
@[simp] theorem balStop_bark  (b : Block) : (balStop b).bark = b.bark := rfl
@[simp] theorem balStop_flt  (b : Block) : (balStop b).flt = b.flt := rfl
@[simp] theorem balStop_latch  (b : Block) : (balStop b).latch = b.latch := rfl
@[simp] theorem balStop_cnv  (b : Block) : (balStop b).cnv = b.cnv := rfl
@[simp] theorem balStop_imp  (b : Block) : (balStop b).imp = b.imp := rfl
@[simp] theorem balStop_loop  (b : Block) : (balStop b).loop = b.loop := rfl
@[simp] theorem balStop_thm  (b : Block) : (balStop b).thm = b.thm := rfl
@[simp] theorem balStop_net  (b : Block) : (balStop b).net = b.net := rfl
@[simp] theorem balStop_pwr  (b : Block) : (balStop b).pwr = b.pwr := rfl
@[simp] theorem balStop_sec  (b : Block) : (balStop b).sec = b.sec := rfl
@[simp] theorem balStop_upd  (b : Block) : (balStop b).upd = b.upd := rfl
@[simp] theorem balStop_pol  (b : Block) : (balStop b).pol = b.pol := rfl
@[simp] theorem balStop_uncontrolled  (b : Block) : (balStop b).uncontrolled = b.uncontrolled := rfl
@[simp] theorem balStop_unacted  (b : Block) : (balStop b).unacted = b.unacted := unacted_of_uncontrolled (balStop_uncontrolled ..)

@[simp] theorem endManual_sys (n : Nat) (b : Block) : (endManual n b).sys = b.sys := by unfold endManual; (repeat' split) <;> simp
@[simp] theorem endManual_ix (n : Nat) (b : Block) : (endManual n b).ix = b.ix := by unfold endManual; (repeat' split) <;> simp
@[simp] theorem endManual_leash (n : Nat) (b : Block) : (endManual n b).leash = b.leash := by unfold endManual; (repeat' split) <;> simp
@[simp] theorem endManual_ring (n : Nat) (b : Block) : (endManual n b).ring = b.ring := by unfold endManual; (repeat' split) <;> simp
@[simp] theorem endManual_sense (n : Nat) (b : Block) : (endManual n b).sense = b.sense := by unfold endManual; (repeat' split) <;> simp
@[simp] theorem endManual_bark (n : Nat) (b : Block) : (endManual n b).bark = b.bark := by unfold endManual; (repeat' split) <;> simp
@[simp] theorem endManual_flt (n : Nat) (b : Block) : (endManual n b).flt = b.flt := by unfold endManual; (repeat' split) <;> simp
@[simp] theorem endManual_latch (n : Nat) (b : Block) : (endManual n b).latch = b.latch := by unfold endManual; (repeat' split) <;> simp
@[simp] theorem endManual_cnv (n : Nat) (b : Block) : (endManual n b).cnv = b.cnv := by unfold endManual; (repeat' split) <;> simp
@[simp] theorem endManual_imp (n : Nat) (b : Block) : (endManual n b).imp = b.imp := by unfold endManual; (repeat' split) <;> simp
@[simp] theorem endManual_loop (n : Nat) (b : Block) : (endManual n b).loop = b.loop := by unfold endManual; (repeat' split) <;> simp
@[simp] theorem endManual_thm (n : Nat) (b : Block) : (endManual n b).thm = b.thm := by unfold endManual; (repeat' split) <;> simp
@[simp] theorem endManual_net (n : Nat) (b : Block) : (endManual n b).net = b.net := by unfold endManual; (repeat' split) <;> simp
@[simp] theorem endManual_pwr (n : Nat) (b : Block) : (endManual n b).pwr = b.pwr := by unfold endManual; (repeat' split) <;> simp
@[simp] theorem endManual_sec (n : Nat) (b : Block) : (endManual n b).sec = b.sec := by unfold endManual; (repeat' split) <;> simp
@[simp] theorem endManual_upd (n : Nat) (b : Block) : (endManual n b).upd = b.upd := by unfold endManual; (repeat' split) <;> simp
@[simp] theorem endManual_pol (n : Nat) (b : Block) : (endManual n b).pol = b.pol := by unfold endManual; (repeat' split) <;> simp
@[simp] theorem endManual_uncontrolled (n : Nat) (b : Block) : (endManual n b).uncontrolled = b.uncontrolled := by unfold endManual; (repeat' split) <;> simp
@[simp] theorem endManual_unacted (n : Nat) (b : Block) : (endManual n b).unacted = b.unacted := unacted_of_uncontrolled (endManual_uncontrolled ..)

@[simp] theorem endManuals_sys  (b : Block) : (endManuals b).sys = b.sys := by unfold endManuals; exact foldl_keeps Block.sys _ (fun _ _ => endManual_sys ..) _ _
@[simp] theorem endManuals_ix  (b : Block) : (endManuals b).ix = b.ix := by unfold endManuals; exact foldl_keeps Block.ix _ (fun _ _ => endManual_ix ..) _ _
@[simp] theorem endManuals_leash  (b : Block) : (endManuals b).leash = b.leash := by unfold endManuals; exact foldl_keeps Block.leash _ (fun _ _ => endManual_leash ..) _ _
@[simp] theorem endManuals_ring  (b : Block) : (endManuals b).ring = b.ring := by unfold endManuals; exact foldl_keeps Block.ring _ (fun _ _ => endManual_ring ..) _ _
@[simp] theorem endManuals_sense  (b : Block) : (endManuals b).sense = b.sense := by unfold endManuals; exact foldl_keeps Block.sense _ (fun _ _ => endManual_sense ..) _ _
@[simp] theorem endManuals_bark  (b : Block) : (endManuals b).bark = b.bark := by unfold endManuals; exact foldl_keeps Block.bark _ (fun _ _ => endManual_bark ..) _ _
@[simp] theorem endManuals_flt  (b : Block) : (endManuals b).flt = b.flt := by unfold endManuals; exact foldl_keeps Block.flt _ (fun _ _ => endManual_flt ..) _ _
@[simp] theorem endManuals_latch  (b : Block) : (endManuals b).latch = b.latch := by unfold endManuals; exact foldl_keeps Block.latch _ (fun _ _ => endManual_latch ..) _ _
@[simp] theorem endManuals_cnv  (b : Block) : (endManuals b).cnv = b.cnv := by unfold endManuals; exact foldl_keeps Block.cnv _ (fun _ _ => endManual_cnv ..) _ _
@[simp] theorem endManuals_imp  (b : Block) : (endManuals b).imp = b.imp := by unfold endManuals; exact foldl_keeps Block.imp _ (fun _ _ => endManual_imp ..) _ _
@[simp] theorem endManuals_loop  (b : Block) : (endManuals b).loop = b.loop := by unfold endManuals; exact foldl_keeps Block.loop _ (fun _ _ => endManual_loop ..) _ _
@[simp] theorem endManuals_thm  (b : Block) : (endManuals b).thm = b.thm := by unfold endManuals; exact foldl_keeps Block.thm _ (fun _ _ => endManual_thm ..) _ _
@[simp] theorem endManuals_net  (b : Block) : (endManuals b).net = b.net := by unfold endManuals; exact foldl_keeps Block.net _ (fun _ _ => endManual_net ..) _ _
@[simp] theorem endManuals_pwr  (b : Block) : (endManuals b).pwr = b.pwr := by unfold endManuals; exact foldl_keeps Block.pwr _ (fun _ _ => endManual_pwr ..) _ _
@[simp] theorem endManuals_sec  (b : Block) : (endManuals b).sec = b.sec := by unfold endManuals; exact foldl_keeps Block.sec _ (fun _ _ => endManual_sec ..) _ _
@[simp] theorem endManuals_upd  (b : Block) : (endManuals b).upd = b.upd := by unfold endManuals; exact foldl_keeps Block.upd _ (fun _ _ => endManual_upd ..) _ _
@[simp] theorem endManuals_pol  (b : Block) : (endManuals b).pol = b.pol := by unfold endManuals; exact foldl_keeps Block.pol _ (fun _ _ => endManual_pol ..) _ _
@[simp] theorem endManuals_uncontrolled  (b : Block) : (endManuals b).uncontrolled = b.uncontrolled := by unfold endManuals; exact foldl_keeps Block.uncontrolled _ (fun _ _ => endManual_uncontrolled ..) _ _
@[simp] theorem endManuals_unacted  (b : Block) : (endManuals b).unacted = b.unacted := unacted_of_uncontrolled (endManuals_uncontrolled ..)

@[simp] theorem balTrip_sys  (b : Block) : (balTrip b).sys = b.sys := by unfold balTrip; (repeat' split) <;> simp
@[simp] theorem balTrip_ix  (b : Block) : (balTrip b).ix = b.ix := by unfold balTrip; (repeat' split) <;> simp
@[simp] theorem balTrip_leash  (b : Block) : (balTrip b).leash = b.leash := by unfold balTrip; (repeat' split) <;> simp
@[simp] theorem balTrip_ring  (b : Block) : (balTrip b).ring = b.ring := by unfold balTrip; (repeat' split) <;> simp
@[simp] theorem balTrip_bark  (b : Block) : (balTrip b).bark = b.bark := by unfold balTrip; (repeat' split) <;> simp
@[simp] theorem balTrip_flt  (b : Block) : (balTrip b).flt = b.flt := by unfold balTrip; (repeat' split) <;> simp
@[simp] theorem balTrip_latch  (b : Block) : (balTrip b).latch = b.latch := by unfold balTrip; (repeat' split) <;> simp
@[simp] theorem balTrip_cnv  (b : Block) : (balTrip b).cnv = b.cnv := by unfold balTrip; (repeat' split) <;> simp
@[simp] theorem balTrip_imp  (b : Block) : (balTrip b).imp = b.imp := by unfold balTrip; (repeat' split) <;> simp
@[simp] theorem balTrip_loop  (b : Block) : (balTrip b).loop = b.loop := by unfold balTrip; (repeat' split) <;> simp
@[simp] theorem balTrip_thm  (b : Block) : (balTrip b).thm = b.thm := by unfold balTrip; (repeat' split) <;> simp
@[simp] theorem balTrip_net  (b : Block) : (balTrip b).net = b.net := by unfold balTrip; (repeat' split) <;> simp
@[simp] theorem balTrip_pwr  (b : Block) : (balTrip b).pwr = b.pwr := by unfold balTrip; (repeat' split) <;> simp
@[simp] theorem balTrip_sec  (b : Block) : (balTrip b).sec = b.sec := by unfold balTrip; (repeat' split) <;> simp
@[simp] theorem balTrip_upd  (b : Block) : (balTrip b).upd = b.upd := by unfold balTrip; (repeat' split) <;> simp
@[simp] theorem balTrip_pol  (b : Block) : (balTrip b).pol = b.pol := by unfold balTrip; (repeat' split) <;> simp
@[simp] theorem balTrip_uncontrolled  (b : Block) : (balTrip b).uncontrolled = b.uncontrolled := by unfold balTrip; (repeat' split) <;> simp
@[simp] theorem balTrip_unacted  (b : Block) : (balTrip b).unacted = b.unacted := unacted_of_uncontrolled (balTrip_uncontrolled ..)

@[simp] theorem startSave_sys (cause : Nat) (b : Block) : (startSave cause b).sys = b.sys := by unfold startSave; (repeat' split) <;> simp
@[simp] theorem startSave_log (cause : Nat) (b : Block) : (startSave cause b).log = b.log := by unfold startSave; (repeat' split) <;> simp
@[simp] theorem startSave_ix (cause : Nat) (b : Block) : (startSave cause b).ix = b.ix := by unfold startSave; (repeat' split) <;> simp
@[simp] theorem startSave_img (cause : Nat) (b : Block) : (startSave cause b).img = b.img := by unfold startSave; (repeat' split) <;> simp
@[simp] theorem startSave_leash (cause : Nat) (b : Block) : (startSave cause b).leash = b.leash := by unfold startSave; (repeat' split) <;> simp
@[simp] theorem startSave_ring (cause : Nat) (b : Block) : (startSave cause b).ring = b.ring := by unfold startSave; (repeat' split) <;> simp
@[simp] theorem startSave_sense (cause : Nat) (b : Block) : (startSave cause b).sense = b.sense := by unfold startSave; (repeat' split) <;> simp
@[simp] theorem startSave_bark (cause : Nat) (b : Block) : (startSave cause b).bark = b.bark := by unfold startSave; (repeat' split) <;> simp
@[simp] theorem startSave_bal (cause : Nat) (b : Block) : (startSave cause b).bal = b.bal := by unfold startSave; (repeat' split) <;> simp
@[simp] theorem startSave_latch (cause : Nat) (b : Block) : (startSave cause b).latch = b.latch := by unfold startSave; (repeat' split) <;> simp
@[simp] theorem startSave_cnv (cause : Nat) (b : Block) : (startSave cause b).cnv = b.cnv := by unfold startSave; (repeat' split) <;> simp
@[simp] theorem startSave_imp (cause : Nat) (b : Block) : (startSave cause b).imp = b.imp := by unfold startSave; (repeat' split) <;> simp
@[simp] theorem startSave_loop (cause : Nat) (b : Block) : (startSave cause b).loop = b.loop := by unfold startSave; (repeat' split) <;> simp
@[simp] theorem startSave_thm (cause : Nat) (b : Block) : (startSave cause b).thm = b.thm := by unfold startSave; (repeat' split) <;> simp
@[simp] theorem startSave_net (cause : Nat) (b : Block) : (startSave cause b).net = b.net := by unfold startSave; (repeat' split) <;> simp
@[simp] theorem startSave_pwr (cause : Nat) (b : Block) : (startSave cause b).pwr = b.pwr := by unfold startSave; (repeat' split) <;> simp
@[simp] theorem startSave_sec (cause : Nat) (b : Block) : (startSave cause b).sec = b.sec := by unfold startSave; (repeat' split) <;> simp
@[simp] theorem startSave_upd (cause : Nat) (b : Block) : (startSave cause b).upd = b.upd := by unfold startSave; (repeat' split) <;> simp
@[simp] theorem startSave_pol (cause : Nat) (b : Block) : (startSave cause b).pol = b.pol := by unfold startSave; (repeat' split) <;> simp
@[simp] theorem startSave_uncontrolled (cause : Nat) (b : Block) : (startSave cause b).uncontrolled = b.uncontrolled := by unfold startSave; (repeat' split) <;> simp
@[simp] theorem startSave_unacted (cause : Nat) (b : Block) : (startSave cause b).unacted = b.unacted := unacted_of_uncontrolled (startSave_uncontrolled ..)

@[simp] theorem setPhase_sys (k : Nat) (st : PhState) (b : Block) : (setPhase k st b).sys = b.sys := by unfold setPhase; (repeat' split) <;> simp
@[simp] theorem setPhase_ix (k : Nat) (st : PhState) (b : Block) : (setPhase k st b).ix = b.ix := by unfold setPhase; (repeat' split) <;> simp
@[simp] theorem setPhase_leash (k : Nat) (st : PhState) (b : Block) : (setPhase k st b).leash = b.leash := by unfold setPhase; (repeat' split) <;> simp
@[simp] theorem setPhase_ring (k : Nat) (st : PhState) (b : Block) : (setPhase k st b).ring = b.ring := by unfold setPhase; (repeat' split) <;> simp
@[simp] theorem setPhase_sense (k : Nat) (st : PhState) (b : Block) : (setPhase k st b).sense = b.sense := by unfold setPhase; (repeat' split) <;> simp
@[simp] theorem setPhase_bark (k : Nat) (st : PhState) (b : Block) : (setPhase k st b).bark = b.bark := by unfold setPhase; (repeat' split) <;> simp
@[simp] theorem setPhase_bal (k : Nat) (st : PhState) (b : Block) : (setPhase k st b).bal = b.bal := by unfold setPhase; (repeat' split) <;> simp
@[simp] theorem setPhase_flt (k : Nat) (st : PhState) (b : Block) : (setPhase k st b).flt = b.flt := by unfold setPhase; (repeat' split) <;> simp
@[simp] theorem setPhase_latch (k : Nat) (st : PhState) (b : Block) : (setPhase k st b).latch = b.latch := by unfold setPhase; (repeat' split) <;> simp
@[simp] theorem setPhase_imp (k : Nat) (st : PhState) (b : Block) : (setPhase k st b).imp = b.imp := by unfold setPhase; (repeat' split) <;> simp
@[simp] theorem setPhase_loop (k : Nat) (st : PhState) (b : Block) : (setPhase k st b).loop = b.loop := by unfold setPhase; (repeat' split) <;> simp
@[simp] theorem setPhase_thm (k : Nat) (st : PhState) (b : Block) : (setPhase k st b).thm = b.thm := by unfold setPhase; (repeat' split) <;> simp
@[simp] theorem setPhase_net (k : Nat) (st : PhState) (b : Block) : (setPhase k st b).net = b.net := by unfold setPhase; (repeat' split) <;> simp
@[simp] theorem setPhase_pwr (k : Nat) (st : PhState) (b : Block) : (setPhase k st b).pwr = b.pwr := by unfold setPhase; (repeat' split) <;> simp
@[simp] theorem setPhase_sec (k : Nat) (st : PhState) (b : Block) : (setPhase k st b).sec = b.sec := by unfold setPhase; (repeat' split) <;> simp
@[simp] theorem setPhase_upd (k : Nat) (st : PhState) (b : Block) : (setPhase k st b).upd = b.upd := by unfold setPhase; (repeat' split) <;> simp
@[simp] theorem setPhase_pol (k : Nat) (st : PhState) (b : Block) : (setPhase k st b).pol = b.pol := by unfold setPhase; (repeat' split) <;> simp
@[simp] theorem setPhase_uncontrolled (k : Nat) (st : PhState) (b : Block) : (setPhase k st b).uncontrolled = b.uncontrolled := by unfold setPhase; (repeat' split) <;> simp
@[simp] theorem setPhase_unacted (k : Nat) (st : PhState) (b : Block) : (setPhase k st b).unacted = b.unacted := unacted_of_uncontrolled (setPhase_uncontrolled ..)

@[simp] theorem phasesOff_sys  (b : Block) : (phasesOff b).sys = b.sys := by unfold phasesOff; exact foldl_keeps Block.sys _ (fun _ _ => setPhase_sys ..) _ _
@[simp] theorem phasesOff_ix  (b : Block) : (phasesOff b).ix = b.ix := by unfold phasesOff; exact foldl_keeps Block.ix _ (fun _ _ => setPhase_ix ..) _ _
@[simp] theorem phasesOff_leash  (b : Block) : (phasesOff b).leash = b.leash := by unfold phasesOff; exact foldl_keeps Block.leash _ (fun _ _ => setPhase_leash ..) _ _
@[simp] theorem phasesOff_ring  (b : Block) : (phasesOff b).ring = b.ring := by unfold phasesOff; exact foldl_keeps Block.ring _ (fun _ _ => setPhase_ring ..) _ _
@[simp] theorem phasesOff_sense  (b : Block) : (phasesOff b).sense = b.sense := by unfold phasesOff; exact foldl_keeps Block.sense _ (fun _ _ => setPhase_sense ..) _ _
@[simp] theorem phasesOff_bark  (b : Block) : (phasesOff b).bark = b.bark := by unfold phasesOff; exact foldl_keeps Block.bark _ (fun _ _ => setPhase_bark ..) _ _
@[simp] theorem phasesOff_bal  (b : Block) : (phasesOff b).bal = b.bal := by unfold phasesOff; exact foldl_keeps Block.bal _ (fun _ _ => setPhase_bal ..) _ _
@[simp] theorem phasesOff_flt  (b : Block) : (phasesOff b).flt = b.flt := by unfold phasesOff; exact foldl_keeps Block.flt _ (fun _ _ => setPhase_flt ..) _ _
@[simp] theorem phasesOff_latch  (b : Block) : (phasesOff b).latch = b.latch := by unfold phasesOff; exact foldl_keeps Block.latch _ (fun _ _ => setPhase_latch ..) _ _
@[simp] theorem phasesOff_imp  (b : Block) : (phasesOff b).imp = b.imp := by unfold phasesOff; exact foldl_keeps Block.imp _ (fun _ _ => setPhase_imp ..) _ _
@[simp] theorem phasesOff_loop  (b : Block) : (phasesOff b).loop = b.loop := by unfold phasesOff; exact foldl_keeps Block.loop _ (fun _ _ => setPhase_loop ..) _ _
@[simp] theorem phasesOff_thm  (b : Block) : (phasesOff b).thm = b.thm := by unfold phasesOff; exact foldl_keeps Block.thm _ (fun _ _ => setPhase_thm ..) _ _
@[simp] theorem phasesOff_net  (b : Block) : (phasesOff b).net = b.net := by unfold phasesOff; exact foldl_keeps Block.net _ (fun _ _ => setPhase_net ..) _ _
@[simp] theorem phasesOff_pwr  (b : Block) : (phasesOff b).pwr = b.pwr := by unfold phasesOff; exact foldl_keeps Block.pwr _ (fun _ _ => setPhase_pwr ..) _ _
@[simp] theorem phasesOff_sec  (b : Block) : (phasesOff b).sec = b.sec := by unfold phasesOff; exact foldl_keeps Block.sec _ (fun _ _ => setPhase_sec ..) _ _
@[simp] theorem phasesOff_upd  (b : Block) : (phasesOff b).upd = b.upd := by unfold phasesOff; exact foldl_keeps Block.upd _ (fun _ _ => setPhase_upd ..) _ _
@[simp] theorem phasesOff_pol  (b : Block) : (phasesOff b).pol = b.pol := by unfold phasesOff; exact foldl_keeps Block.pol _ (fun _ _ => setPhase_pol ..) _ _
@[simp] theorem phasesOff_uncontrolled  (b : Block) : (phasesOff b).uncontrolled = b.uncontrolled := by unfold phasesOff; exact foldl_keeps Block.uncontrolled _ (fun _ _ => setPhase_uncontrolled ..) _ _
@[simp] theorem phasesOff_unacted  (b : Block) : (phasesOff b).unacted = b.unacted := unacted_of_uncontrolled (phasesOff_uncontrolled ..)

@[simp] theorem cnvDark_sys (st : CState) (b : Block) : (cnvDark st b).sys = b.sys := by unfold cnvDark; (repeat' split) <;> simp
@[simp] theorem cnvDark_ix (st : CState) (b : Block) : (cnvDark st b).ix = b.ix := by unfold cnvDark; (repeat' split) <;> simp
@[simp] theorem cnvDark_leash (st : CState) (b : Block) : (cnvDark st b).leash = b.leash := by unfold cnvDark; (repeat' split) <;> simp
@[simp] theorem cnvDark_ring (st : CState) (b : Block) : (cnvDark st b).ring = b.ring := by unfold cnvDark; (repeat' split) <;> simp
@[simp] theorem cnvDark_sense (st : CState) (b : Block) : (cnvDark st b).sense = b.sense := by unfold cnvDark; (repeat' split) <;> simp
@[simp] theorem cnvDark_bark (st : CState) (b : Block) : (cnvDark st b).bark = b.bark := by unfold cnvDark; (repeat' split) <;> simp
@[simp] theorem cnvDark_bal (st : CState) (b : Block) : (cnvDark st b).bal = b.bal := by unfold cnvDark; (repeat' split) <;> simp
@[simp] theorem cnvDark_flt (st : CState) (b : Block) : (cnvDark st b).flt = b.flt := by unfold cnvDark; (repeat' split) <;> simp
@[simp] theorem cnvDark_latch (st : CState) (b : Block) : (cnvDark st b).latch = b.latch := by unfold cnvDark; (repeat' split) <;> simp
@[simp] theorem cnvDark_imp (st : CState) (b : Block) : (cnvDark st b).imp = b.imp := by unfold cnvDark; (repeat' split) <;> simp
@[simp] theorem cnvDark_loop (st : CState) (b : Block) : (cnvDark st b).loop = b.loop := by unfold cnvDark; (repeat' split) <;> simp
@[simp] theorem cnvDark_thm (st : CState) (b : Block) : (cnvDark st b).thm = b.thm := by unfold cnvDark; (repeat' split) <;> simp
@[simp] theorem cnvDark_net (st : CState) (b : Block) : (cnvDark st b).net = b.net := by unfold cnvDark; (repeat' split) <;> simp
@[simp] theorem cnvDark_pwr (st : CState) (b : Block) : (cnvDark st b).pwr = b.pwr := by unfold cnvDark; (repeat' split) <;> simp
@[simp] theorem cnvDark_sec (st : CState) (b : Block) : (cnvDark st b).sec = b.sec := by unfold cnvDark; (repeat' split) <;> simp
@[simp] theorem cnvDark_upd (st : CState) (b : Block) : (cnvDark st b).upd = b.upd := by unfold cnvDark; (repeat' split) <;> simp
@[simp] theorem cnvDark_pol (st : CState) (b : Block) : (cnvDark st b).pol = b.pol := by unfold cnvDark; (repeat' split) <;> simp
@[simp] theorem cnvDark_uncontrolled (st : CState) (b : Block) : (cnvDark st b).uncontrolled = b.uncontrolled := by unfold cnvDark; (repeat' split) <;> simp
@[simp] theorem cnvDark_unacted (st : CState) (b : Block) : (cnvDark st b).unacted = b.unacted := unacted_of_uncontrolled (cnvDark_uncontrolled ..)

@[simp] theorem cnvMuzzle_sys  (b : Block) : (cnvMuzzle b).sys = b.sys := by unfold cnvMuzzle; (repeat' split) <;> simp
@[simp] theorem cnvMuzzle_ix  (b : Block) : (cnvMuzzle b).ix = b.ix := by unfold cnvMuzzle; (repeat' split) <;> simp
@[simp] theorem cnvMuzzle_leash  (b : Block) : (cnvMuzzle b).leash = b.leash := by unfold cnvMuzzle; (repeat' split) <;> simp
@[simp] theorem cnvMuzzle_ring  (b : Block) : (cnvMuzzle b).ring = b.ring := by unfold cnvMuzzle; (repeat' split) <;> simp
@[simp] theorem cnvMuzzle_sense  (b : Block) : (cnvMuzzle b).sense = b.sense := by unfold cnvMuzzle; (repeat' split) <;> simp
@[simp] theorem cnvMuzzle_bark  (b : Block) : (cnvMuzzle b).bark = b.bark := by unfold cnvMuzzle; (repeat' split) <;> simp
@[simp] theorem cnvMuzzle_bal  (b : Block) : (cnvMuzzle b).bal = b.bal := by unfold cnvMuzzle; (repeat' split) <;> simp
@[simp] theorem cnvMuzzle_flt  (b : Block) : (cnvMuzzle b).flt = b.flt := by unfold cnvMuzzle; (repeat' split) <;> simp
@[simp] theorem cnvMuzzle_latch  (b : Block) : (cnvMuzzle b).latch = b.latch := by unfold cnvMuzzle; (repeat' split) <;> simp
@[simp] theorem cnvMuzzle_imp  (b : Block) : (cnvMuzzle b).imp = b.imp := by unfold cnvMuzzle; (repeat' split) <;> simp
@[simp] theorem cnvMuzzle_loop  (b : Block) : (cnvMuzzle b).loop = b.loop := by unfold cnvMuzzle; (repeat' split) <;> simp
@[simp] theorem cnvMuzzle_thm  (b : Block) : (cnvMuzzle b).thm = b.thm := by unfold cnvMuzzle; (repeat' split) <;> simp
@[simp] theorem cnvMuzzle_net  (b : Block) : (cnvMuzzle b).net = b.net := by unfold cnvMuzzle; (repeat' split) <;> simp
@[simp] theorem cnvMuzzle_pwr  (b : Block) : (cnvMuzzle b).pwr = b.pwr := by unfold cnvMuzzle; (repeat' split) <;> simp
@[simp] theorem cnvMuzzle_sec  (b : Block) : (cnvMuzzle b).sec = b.sec := by unfold cnvMuzzle; (repeat' split) <;> simp
@[simp] theorem cnvMuzzle_upd  (b : Block) : (cnvMuzzle b).upd = b.upd := by unfold cnvMuzzle; (repeat' split) <;> simp
@[simp] theorem cnvMuzzle_pol  (b : Block) : (cnvMuzzle b).pol = b.pol := by unfold cnvMuzzle; (repeat' split) <;> simp
@[simp] theorem cnvMuzzle_uncontrolled  (b : Block) : (cnvMuzzle b).uncontrolled = b.uncontrolled := by unfold cnvMuzzle; (repeat' split) <;> simp
@[simp] theorem cnvMuzzle_unacted  (b : Block) : (cnvMuzzle b).unacted = b.unacted := unacted_of_uncontrolled (cnvMuzzle_uncontrolled ..)

@[simp] theorem cnvToIdle_sys  (b : Block) : (cnvToIdle b).sys = b.sys := by unfold cnvToIdle; (repeat' split) <;> simp
@[simp] theorem cnvToIdle_ix  (b : Block) : (cnvToIdle b).ix = b.ix := by unfold cnvToIdle; (repeat' split) <;> simp
@[simp] theorem cnvToIdle_leash  (b : Block) : (cnvToIdle b).leash = b.leash := by unfold cnvToIdle; (repeat' split) <;> simp
@[simp] theorem cnvToIdle_ring  (b : Block) : (cnvToIdle b).ring = b.ring := by unfold cnvToIdle; (repeat' split) <;> simp
@[simp] theorem cnvToIdle_sense  (b : Block) : (cnvToIdle b).sense = b.sense := by unfold cnvToIdle; (repeat' split) <;> simp
@[simp] theorem cnvToIdle_bark  (b : Block) : (cnvToIdle b).bark = b.bark := by unfold cnvToIdle; (repeat' split) <;> simp
@[simp] theorem cnvToIdle_bal  (b : Block) : (cnvToIdle b).bal = b.bal := by unfold cnvToIdle; (repeat' split) <;> simp
@[simp] theorem cnvToIdle_flt  (b : Block) : (cnvToIdle b).flt = b.flt := by unfold cnvToIdle; (repeat' split) <;> simp
@[simp] theorem cnvToIdle_latch  (b : Block) : (cnvToIdle b).latch = b.latch := by unfold cnvToIdle; (repeat' split) <;> simp
@[simp] theorem cnvToIdle_imp  (b : Block) : (cnvToIdle b).imp = b.imp := by unfold cnvToIdle; (repeat' split) <;> simp
@[simp] theorem cnvToIdle_loop  (b : Block) : (cnvToIdle b).loop = b.loop := by unfold cnvToIdle; (repeat' split) <;> simp
@[simp] theorem cnvToIdle_thm  (b : Block) : (cnvToIdle b).thm = b.thm := by unfold cnvToIdle; (repeat' split) <;> simp
@[simp] theorem cnvToIdle_net  (b : Block) : (cnvToIdle b).net = b.net := by unfold cnvToIdle; (repeat' split) <;> simp
@[simp] theorem cnvToIdle_pwr  (b : Block) : (cnvToIdle b).pwr = b.pwr := by unfold cnvToIdle; (repeat' split) <;> simp
@[simp] theorem cnvToIdle_sec  (b : Block) : (cnvToIdle b).sec = b.sec := by unfold cnvToIdle; (repeat' split) <;> simp
@[simp] theorem cnvToIdle_upd  (b : Block) : (cnvToIdle b).upd = b.upd := by unfold cnvToIdle; (repeat' split) <;> simp
@[simp] theorem cnvToIdle_pol  (b : Block) : (cnvToIdle b).pol = b.pol := by unfold cnvToIdle; (repeat' split) <;> simp
@[simp] theorem cnvToIdle_uncontrolled  (b : Block) : (cnvToIdle b).uncontrolled = b.uncontrolled := by unfold cnvToIdle; (repeat' split) <;> simp
@[simp] theorem cnvToIdle_unacted  (b : Block) : (cnvToIdle b).unacted = b.unacted := unacted_of_uncontrolled (cnvToIdle_uncontrolled ..)

@[simp] theorem cnvPrecheck_sys  (b : Block) : (cnvPrecheck b).sys = b.sys := by unfold cnvPrecheck; (repeat' split) <;> simp
@[simp] theorem cnvPrecheck_ix  (b : Block) : (cnvPrecheck b).ix = b.ix := by unfold cnvPrecheck; (repeat' split) <;> simp
@[simp] theorem cnvPrecheck_leash  (b : Block) : (cnvPrecheck b).leash = b.leash := by unfold cnvPrecheck; (repeat' split) <;> simp
@[simp] theorem cnvPrecheck_ring  (b : Block) : (cnvPrecheck b).ring = b.ring := by unfold cnvPrecheck; (repeat' split) <;> simp
@[simp] theorem cnvPrecheck_sense  (b : Block) : (cnvPrecheck b).sense = b.sense := by unfold cnvPrecheck; (repeat' split) <;> simp
@[simp] theorem cnvPrecheck_bark  (b : Block) : (cnvPrecheck b).bark = b.bark := by unfold cnvPrecheck; (repeat' split) <;> simp
@[simp] theorem cnvPrecheck_bal  (b : Block) : (cnvPrecheck b).bal = b.bal := by unfold cnvPrecheck; (repeat' split) <;> simp
@[simp] theorem cnvPrecheck_flt  (b : Block) : (cnvPrecheck b).flt = b.flt := by unfold cnvPrecheck; (repeat' split) <;> simp
@[simp] theorem cnvPrecheck_latch  (b : Block) : (cnvPrecheck b).latch = b.latch := by unfold cnvPrecheck; (repeat' split) <;> simp
@[simp] theorem cnvPrecheck_imp  (b : Block) : (cnvPrecheck b).imp = b.imp := by unfold cnvPrecheck; (repeat' split) <;> simp
@[simp] theorem cnvPrecheck_loop  (b : Block) : (cnvPrecheck b).loop = b.loop := by unfold cnvPrecheck; (repeat' split) <;> simp
@[simp] theorem cnvPrecheck_thm  (b : Block) : (cnvPrecheck b).thm = b.thm := by unfold cnvPrecheck; (repeat' split) <;> simp
@[simp] theorem cnvPrecheck_net  (b : Block) : (cnvPrecheck b).net = b.net := by unfold cnvPrecheck; (repeat' split) <;> simp
@[simp] theorem cnvPrecheck_pwr  (b : Block) : (cnvPrecheck b).pwr = b.pwr := by unfold cnvPrecheck; (repeat' split) <;> simp
@[simp] theorem cnvPrecheck_sec  (b : Block) : (cnvPrecheck b).sec = b.sec := by unfold cnvPrecheck; (repeat' split) <;> simp
@[simp] theorem cnvPrecheck_upd  (b : Block) : (cnvPrecheck b).upd = b.upd := by unfold cnvPrecheck; (repeat' split) <;> simp
@[simp] theorem cnvPrecheck_pol  (b : Block) : (cnvPrecheck b).pol = b.pol := by unfold cnvPrecheck; (repeat' split) <;> simp
@[simp] theorem cnvPrecheck_uncontrolled  (b : Block) : (cnvPrecheck b).uncontrolled = b.uncontrolled := by unfold cnvPrecheck; (repeat' split) <;> simp
@[simp] theorem cnvPrecheck_unacted  (b : Block) : (cnvPrecheck b).unacted = b.unacted := unacted_of_uncontrolled (cnvPrecheck_uncontrolled ..)

@[simp] theorem endJob_sys (st : Status) (b : Block) : (endJob st b).sys = b.sys := by unfold endJob; (repeat' split) <;> simp
@[simp] theorem endJob_ix (st : Status) (b : Block) : (endJob st b).ix = b.ix := by unfold endJob; (repeat' split) <;> simp
@[simp] theorem endJob_leash (st : Status) (b : Block) : (endJob st b).leash = b.leash := by unfold endJob; (repeat' split) <;> simp
@[simp] theorem endJob_ring (st : Status) (b : Block) : (endJob st b).ring = b.ring := by unfold endJob; (repeat' split) <;> simp
@[simp] theorem endJob_sense (st : Status) (b : Block) : (endJob st b).sense = b.sense := by unfold endJob; (repeat' split) <;> simp
@[simp] theorem endJob_bark (st : Status) (b : Block) : (endJob st b).bark = b.bark := by unfold endJob; (repeat' split) <;> simp
@[simp] theorem endJob_bal (st : Status) (b : Block) : (endJob st b).bal = b.bal := by unfold endJob; (repeat' split) <;> simp
@[simp] theorem endJob_flt (st : Status) (b : Block) : (endJob st b).flt = b.flt := by unfold endJob; (repeat' split) <;> simp
@[simp] theorem endJob_latch (st : Status) (b : Block) : (endJob st b).latch = b.latch := by unfold endJob; (repeat' split) <;> simp
@[simp] theorem endJob_cnv (st : Status) (b : Block) : (endJob st b).cnv = b.cnv := by unfold endJob; (repeat' split) <;> simp
@[simp] theorem endJob_loop (st : Status) (b : Block) : (endJob st b).loop = b.loop := by unfold endJob; (repeat' split) <;> simp
@[simp] theorem endJob_thm (st : Status) (b : Block) : (endJob st b).thm = b.thm := by unfold endJob; (repeat' split) <;> simp
@[simp] theorem endJob_net (st : Status) (b : Block) : (endJob st b).net = b.net := by unfold endJob; (repeat' split) <;> simp
@[simp] theorem endJob_pwr (st : Status) (b : Block) : (endJob st b).pwr = b.pwr := by unfold endJob; (repeat' split) <;> simp
@[simp] theorem endJob_sec (st : Status) (b : Block) : (endJob st b).sec = b.sec := by unfold endJob; (repeat' split) <;> simp
@[simp] theorem endJob_upd (st : Status) (b : Block) : (endJob st b).upd = b.upd := by unfold endJob; (repeat' split) <;> simp
@[simp] theorem endJob_pol (st : Status) (b : Block) : (endJob st b).pol = b.pol := by unfold endJob; (repeat' split) <;> simp
@[simp] theorem endJob_uncontrolled (st : Status) (b : Block) : (endJob st b).uncontrolled = b.uncontrolled := by unfold endJob; (repeat' split) <;> simp
@[simp] theorem endJob_unacted (st : Status) (b : Block) : (endJob st b).unacted = b.unacted := unacted_of_uncontrolled (endJob_uncontrolled ..)

@[simp] theorem impStop_sys  (b : Block) : (impStop b).sys = b.sys := by unfold impStop; (repeat' split) <;> simp
@[simp] theorem impStop_ix  (b : Block) : (impStop b).ix = b.ix := by unfold impStop; (repeat' split) <;> simp
@[simp] theorem impStop_leash  (b : Block) : (impStop b).leash = b.leash := by unfold impStop; (repeat' split) <;> simp
@[simp] theorem impStop_ring  (b : Block) : (impStop b).ring = b.ring := by unfold impStop; (repeat' split) <;> simp
@[simp] theorem impStop_sense  (b : Block) : (impStop b).sense = b.sense := by unfold impStop; (repeat' split) <;> simp
@[simp] theorem impStop_bark  (b : Block) : (impStop b).bark = b.bark := by unfold impStop; (repeat' split) <;> simp
@[simp] theorem impStop_bal  (b : Block) : (impStop b).bal = b.bal := by unfold impStop; (repeat' split) <;> simp
@[simp] theorem impStop_flt  (b : Block) : (impStop b).flt = b.flt := by unfold impStop; (repeat' split) <;> simp
@[simp] theorem impStop_latch  (b : Block) : (impStop b).latch = b.latch := by unfold impStop; (repeat' split) <;> simp
@[simp] theorem impStop_cnv  (b : Block) : (impStop b).cnv = b.cnv := by unfold impStop; (repeat' split) <;> simp
@[simp] theorem impStop_loop  (b : Block) : (impStop b).loop = b.loop := by unfold impStop; (repeat' split) <;> simp
@[simp] theorem impStop_thm  (b : Block) : (impStop b).thm = b.thm := by unfold impStop; (repeat' split) <;> simp
@[simp] theorem impStop_net  (b : Block) : (impStop b).net = b.net := by unfold impStop; (repeat' split) <;> simp
@[simp] theorem impStop_pwr  (b : Block) : (impStop b).pwr = b.pwr := by unfold impStop; (repeat' split) <;> simp
@[simp] theorem impStop_sec  (b : Block) : (impStop b).sec = b.sec := by unfold impStop; (repeat' split) <;> simp
@[simp] theorem impStop_upd  (b : Block) : (impStop b).upd = b.upd := by unfold impStop; (repeat' split) <;> simp
@[simp] theorem impStop_pol  (b : Block) : (impStop b).pol = b.pol := by unfold impStop; (repeat' split) <;> simp
@[simp] theorem impStop_uncontrolled  (b : Block) : (impStop b).uncontrolled = b.uncontrolled := by unfold impStop; (repeat' split) <;> simp
@[simp] theorem impStop_unacted  (b : Block) : (impStop b).unacted = b.unacted := unacted_of_uncontrolled (impStop_uncontrolled ..)

@[simp] theorem clearRedirected_sys (p : Nat) (b : Block) : (clearRedirected p b).sys = b.sys := rfl
@[simp] theorem clearRedirected_log (p : Nat) (b : Block) : (clearRedirected p b).log = b.log := rfl
@[simp] theorem clearRedirected_ix (p : Nat) (b : Block) : (clearRedirected p b).ix = b.ix := rfl
@[simp] theorem clearRedirected_img (p : Nat) (b : Block) : (clearRedirected p b).img = b.img := rfl
@[simp] theorem clearRedirected_leash (p : Nat) (b : Block) : (clearRedirected p b).leash = b.leash := rfl
@[simp] theorem clearRedirected_ring (p : Nat) (b : Block) : (clearRedirected p b).ring = b.ring := rfl
@[simp] theorem clearRedirected_sense (p : Nat) (b : Block) : (clearRedirected p b).sense = b.sense := rfl
@[simp] theorem clearRedirected_bark (p : Nat) (b : Block) : (clearRedirected p b).bark = b.bark := rfl
@[simp] theorem clearRedirected_bal (p : Nat) (b : Block) : (clearRedirected p b).bal = b.bal := rfl
@[simp] theorem clearRedirected_flt (p : Nat) (b : Block) : (clearRedirected p b).flt = b.flt := rfl
@[simp] theorem clearRedirected_latch (p : Nat) (b : Block) : (clearRedirected p b).latch = b.latch := rfl
@[simp] theorem clearRedirected_cnv (p : Nat) (b : Block) : (clearRedirected p b).cnv = b.cnv := rfl
@[simp] theorem clearRedirected_imp (p : Nat) (b : Block) : (clearRedirected p b).imp = b.imp := rfl
@[simp] theorem clearRedirected_loop (p : Nat) (b : Block) : (clearRedirected p b).loop = b.loop := rfl
@[simp] theorem clearRedirected_thm (p : Nat) (b : Block) : (clearRedirected p b).thm = b.thm := rfl
@[simp] theorem clearRedirected_net (p : Nat) (b : Block) : (clearRedirected p b).net = b.net := rfl
@[simp] theorem clearRedirected_pwr (p : Nat) (b : Block) : (clearRedirected p b).pwr = b.pwr := rfl
@[simp] theorem clearRedirected_sec (p : Nat) (b : Block) : (clearRedirected p b).sec = b.sec := rfl
@[simp] theorem clearRedirected_upd (p : Nat) (b : Block) : (clearRedirected p b).upd = b.upd := rfl
@[simp] theorem clearRedirected_uncontrolled (p : Nat) (b : Block) : (clearRedirected p b).uncontrolled = b.uncontrolled := rfl
@[simp] theorem clearRedirected_unacted (p : Nat) (b : Block) : (clearRedirected p b).unacted = b.unacted := unacted_of_uncontrolled (clearRedirected_uncontrolled ..)

@[simp] theorem deferState_sys (m : MState) (cause : Nat) (op : List Nat) (b : Block) : (deferState m cause op b).sys = b.sys := rfl
@[simp] theorem deferState_log (m : MState) (cause : Nat) (op : List Nat) (b : Block) : (deferState m cause op b).log = b.log := rfl
@[simp] theorem deferState_ix (m : MState) (cause : Nat) (op : List Nat) (b : Block) : (deferState m cause op b).ix = b.ix := rfl
@[simp] theorem deferState_img (m : MState) (cause : Nat) (op : List Nat) (b : Block) : (deferState m cause op b).img = b.img := rfl
@[simp] theorem deferState_leash (m : MState) (cause : Nat) (op : List Nat) (b : Block) : (deferState m cause op b).leash = b.leash := rfl
@[simp] theorem deferState_ring (m : MState) (cause : Nat) (op : List Nat) (b : Block) : (deferState m cause op b).ring = b.ring := rfl
@[simp] theorem deferState_sense (m : MState) (cause : Nat) (op : List Nat) (b : Block) : (deferState m cause op b).sense = b.sense := rfl
@[simp] theorem deferState_bark (m : MState) (cause : Nat) (op : List Nat) (b : Block) : (deferState m cause op b).bark = b.bark := rfl
@[simp] theorem deferState_bal (m : MState) (cause : Nat) (op : List Nat) (b : Block) : (deferState m cause op b).bal = b.bal := rfl
@[simp] theorem deferState_flt (m : MState) (cause : Nat) (op : List Nat) (b : Block) : (deferState m cause op b).flt = b.flt := rfl
@[simp] theorem deferState_latch (m : MState) (cause : Nat) (op : List Nat) (b : Block) : (deferState m cause op b).latch = b.latch := rfl
@[simp] theorem deferState_cnv (m : MState) (cause : Nat) (op : List Nat) (b : Block) : (deferState m cause op b).cnv = b.cnv := rfl
@[simp] theorem deferState_imp (m : MState) (cause : Nat) (op : List Nat) (b : Block) : (deferState m cause op b).imp = b.imp := rfl
@[simp] theorem deferState_loop (m : MState) (cause : Nat) (op : List Nat) (b : Block) : (deferState m cause op b).loop = b.loop := rfl
@[simp] theorem deferState_thm (m : MState) (cause : Nat) (op : List Nat) (b : Block) : (deferState m cause op b).thm = b.thm := rfl
@[simp] theorem deferState_net (m : MState) (cause : Nat) (op : List Nat) (b : Block) : (deferState m cause op b).net = b.net := rfl
@[simp] theorem deferState_sec (m : MState) (cause : Nat) (op : List Nat) (b : Block) : (deferState m cause op b).sec = b.sec := rfl
@[simp] theorem deferState_upd (m : MState) (cause : Nat) (op : List Nat) (b : Block) : (deferState m cause op b).upd = b.upd := rfl
@[simp] theorem deferState_pol (m : MState) (cause : Nat) (op : List Nat) (b : Block) : (deferState m cause op b).pol = b.pol := rfl
@[simp] theorem deferState_uncontrolled (m : MState) (cause : Nat) (op : List Nat) (b : Block) : (deferState m cause op b).uncontrolled = b.uncontrolled := rfl
@[simp] theorem deferState_unacted (m : MState) (cause : Nat) (op : List Nat) (b : Block) : (deferState m cause op b).unacted = b.unacted := unacted_of_uncontrolled (deferState_uncontrolled ..)

@[simp] theorem takeover_ix (part backup : Nat) (b : Block) : (takeover part backup b).ix = b.ix := by unfold takeover; (repeat' split) <;> simp
@[simp] theorem takeover_leash (part backup : Nat) (b : Block) : (takeover part backup b).leash = b.leash := by unfold takeover; (repeat' split) <;> simp
@[simp] theorem takeover_ring (part backup : Nat) (b : Block) : (takeover part backup b).ring = b.ring := by unfold takeover; (repeat' split) <;> simp
@[simp] theorem takeover_sense (part backup : Nat) (b : Block) : (takeover part backup b).sense = b.sense := by unfold takeover; (repeat' split) <;> simp
@[simp] theorem takeover_bark (part backup : Nat) (b : Block) : (takeover part backup b).bark = b.bark := by unfold takeover; (repeat' split) <;> simp
@[simp] theorem takeover_bal (part backup : Nat) (b : Block) : (takeover part backup b).bal = b.bal := by unfold takeover; (repeat' split) <;> simp
@[simp] theorem takeover_flt (part backup : Nat) (b : Block) : (takeover part backup b).flt = b.flt := by unfold takeover; (repeat' split) <;> simp
@[simp] theorem takeover_latch (part backup : Nat) (b : Block) : (takeover part backup b).latch = b.latch := by unfold takeover; (repeat' split) <;> simp
@[simp] theorem takeover_cnv (part backup : Nat) (b : Block) : (takeover part backup b).cnv = b.cnv := by unfold takeover; (repeat' split) <;> simp
@[simp] theorem takeover_imp (part backup : Nat) (b : Block) : (takeover part backup b).imp = b.imp := by unfold takeover; (repeat' split) <;> simp
@[simp] theorem takeover_loop (part backup : Nat) (b : Block) : (takeover part backup b).loop = b.loop := by unfold takeover; (repeat' split) <;> simp
@[simp] theorem takeover_thm (part backup : Nat) (b : Block) : (takeover part backup b).thm = b.thm := by unfold takeover; (repeat' split) <;> simp
@[simp] theorem takeover_net (part backup : Nat) (b : Block) : (takeover part backup b).net = b.net := by unfold takeover; (repeat' split) <;> simp
@[simp] theorem takeover_pwr (part backup : Nat) (b : Block) : (takeover part backup b).pwr = b.pwr := by unfold takeover; (repeat' split) <;> simp
@[simp] theorem takeover_sec (part backup : Nat) (b : Block) : (takeover part backup b).sec = b.sec := by unfold takeover; (repeat' split) <;> simp
@[simp] theorem takeover_upd (part backup : Nat) (b : Block) : (takeover part backup b).upd = b.upd := by unfold takeover; (repeat' split) <;> simp
@[simp] theorem takeover_pol (part backup : Nat) (b : Block) : (takeover part backup b).pol = b.pol := by unfold takeover; (repeat' split) <;> simp
@[simp] theorem takeover_uncontrolled (part backup : Nat) (b : Block) : (takeover part backup b).uncontrolled = b.uncontrolled := by unfold takeover; (repeat' split) <;> simp
@[simp] theorem takeover_unacted (part backup : Nat) (b : Block) : (takeover part backup b).unacted = b.unacted := unacted_of_uncontrolled (takeover_uncontrolled ..)

@[simp] theorem retime_sys  (b : Block) : (retime b).sys = b.sys := rfl
@[simp] theorem retime_log  (b : Block) : (retime b).log = b.log := rfl
@[simp] theorem retime_ix  (b : Block) : (retime b).ix = b.ix := rfl
@[simp] theorem retime_img  (b : Block) : (retime b).img = b.img := rfl
@[simp] theorem retime_leash  (b : Block) : (retime b).leash = b.leash := rfl
@[simp] theorem retime_ring  (b : Block) : (retime b).ring = b.ring := rfl
@[simp] theorem retime_sense  (b : Block) : (retime b).sense = b.sense := rfl
@[simp] theorem retime_bark  (b : Block) : (retime b).bark = b.bark := rfl
@[simp] theorem retime_bal  (b : Block) : (retime b).bal = b.bal := rfl
@[simp] theorem retime_flt  (b : Block) : (retime b).flt = b.flt := rfl
@[simp] theorem retime_cnv  (b : Block) : (retime b).cnv = b.cnv := rfl
@[simp] theorem retime_imp  (b : Block) : (retime b).imp = b.imp := rfl
@[simp] theorem retime_loop  (b : Block) : (retime b).loop = b.loop := rfl
@[simp] theorem retime_thm  (b : Block) : (retime b).thm = b.thm := rfl
@[simp] theorem retime_net  (b : Block) : (retime b).net = b.net := rfl
@[simp] theorem retime_pwr  (b : Block) : (retime b).pwr = b.pwr := rfl
@[simp] theorem retime_sec  (b : Block) : (retime b).sec = b.sec := rfl
@[simp] theorem retime_upd  (b : Block) : (retime b).upd = b.upd := rfl
@[simp] theorem retime_pol  (b : Block) : (retime b).pol = b.pol := rfl
@[simp] theorem retime_unacted  (b : Block) : (retime b).unacted = b.unacted := rfl

@[simp] theorem onOut_sys (n : Nat) (f : SafeOut → SafeOut) (b : Block) : (onOut n f b).sys = b.sys := rfl
@[simp] theorem onOut_log (n : Nat) (f : SafeOut → SafeOut) (b : Block) : (onOut n f b).log = b.log := rfl
@[simp] theorem onOut_ix (n : Nat) (f : SafeOut → SafeOut) (b : Block) : (onOut n f b).ix = b.ix := rfl
@[simp] theorem onOut_img (n : Nat) (f : SafeOut → SafeOut) (b : Block) : (onOut n f b).img = b.img := rfl
@[simp] theorem onOut_leash (n : Nat) (f : SafeOut → SafeOut) (b : Block) : (onOut n f b).leash = b.leash := rfl
@[simp] theorem onOut_ring (n : Nat) (f : SafeOut → SafeOut) (b : Block) : (onOut n f b).ring = b.ring := rfl
@[simp] theorem onOut_sense (n : Nat) (f : SafeOut → SafeOut) (b : Block) : (onOut n f b).sense = b.sense := rfl
@[simp] theorem onOut_bark (n : Nat) (f : SafeOut → SafeOut) (b : Block) : (onOut n f b).bark = b.bark := rfl
@[simp] theorem onOut_bal (n : Nat) (f : SafeOut → SafeOut) (b : Block) : (onOut n f b).bal = b.bal := rfl
@[simp] theorem onOut_flt (n : Nat) (f : SafeOut → SafeOut) (b : Block) : (onOut n f b).flt = b.flt := rfl
@[simp] theorem onOut_cnv (n : Nat) (f : SafeOut → SafeOut) (b : Block) : (onOut n f b).cnv = b.cnv := rfl
@[simp] theorem onOut_imp (n : Nat) (f : SafeOut → SafeOut) (b : Block) : (onOut n f b).imp = b.imp := rfl
@[simp] theorem onOut_loop (n : Nat) (f : SafeOut → SafeOut) (b : Block) : (onOut n f b).loop = b.loop := rfl
@[simp] theorem onOut_thm (n : Nat) (f : SafeOut → SafeOut) (b : Block) : (onOut n f b).thm = b.thm := rfl
@[simp] theorem onOut_net (n : Nat) (f : SafeOut → SafeOut) (b : Block) : (onOut n f b).net = b.net := rfl
@[simp] theorem onOut_pwr (n : Nat) (f : SafeOut → SafeOut) (b : Block) : (onOut n f b).pwr = b.pwr := rfl
@[simp] theorem onOut_sec (n : Nat) (f : SafeOut → SafeOut) (b : Block) : (onOut n f b).sec = b.sec := rfl
@[simp] theorem onOut_upd (n : Nat) (f : SafeOut → SafeOut) (b : Block) : (onOut n f b).upd = b.upd := rfl
@[simp] theorem onOut_pol (n : Nat) (f : SafeOut → SafeOut) (b : Block) : (onOut n f b).pol = b.pol := rfl
@[simp] theorem onOut_unacted (n : Nat) (f : SafeOut → SafeOut) (b : Block) : (onOut n f b).unacted = b.unacted := rfl

@[simp] theorem contactorsOff_sys  (b : Block) : (contactorsOff b).sys = b.sys := rfl
@[simp] theorem contactorsOff_log  (b : Block) : (contactorsOff b).log = b.log := rfl
@[simp] theorem contactorsOff_ix  (b : Block) : (contactorsOff b).ix = b.ix := rfl
@[simp] theorem contactorsOff_img  (b : Block) : (contactorsOff b).img = b.img := rfl
@[simp] theorem contactorsOff_leash  (b : Block) : (contactorsOff b).leash = b.leash := rfl
@[simp] theorem contactorsOff_ring  (b : Block) : (contactorsOff b).ring = b.ring := rfl
@[simp] theorem contactorsOff_sense  (b : Block) : (contactorsOff b).sense = b.sense := rfl
@[simp] theorem contactorsOff_bark  (b : Block) : (contactorsOff b).bark = b.bark := rfl
@[simp] theorem contactorsOff_bal  (b : Block) : (contactorsOff b).bal = b.bal := rfl
@[simp] theorem contactorsOff_flt  (b : Block) : (contactorsOff b).flt = b.flt := rfl
@[simp] theorem contactorsOff_cnv  (b : Block) : (contactorsOff b).cnv = b.cnv := rfl
@[simp] theorem contactorsOff_imp  (b : Block) : (contactorsOff b).imp = b.imp := rfl
@[simp] theorem contactorsOff_loop  (b : Block) : (contactorsOff b).loop = b.loop := rfl
@[simp] theorem contactorsOff_thm  (b : Block) : (contactorsOff b).thm = b.thm := rfl
@[simp] theorem contactorsOff_net  (b : Block) : (contactorsOff b).net = b.net := rfl
@[simp] theorem contactorsOff_pwr  (b : Block) : (contactorsOff b).pwr = b.pwr := rfl
@[simp] theorem contactorsOff_sec  (b : Block) : (contactorsOff b).sec = b.sec := rfl
@[simp] theorem contactorsOff_upd  (b : Block) : (contactorsOff b).upd = b.upd := rfl
@[simp] theorem contactorsOff_pol  (b : Block) : (contactorsOff b).pol = b.pol := rfl
@[simp] theorem contactorsOff_unacted  (b : Block) : (contactorsOff b).unacted = b.unacted := rfl

@[simp] theorem driveBark_sys (on : Bool) (b : Block) : (driveBark on b).sys = b.sys := by unfold driveBark; (repeat' split) <;> simp
@[simp] theorem driveBark_ix (on : Bool) (b : Block) : (driveBark on b).ix = b.ix := by unfold driveBark; (repeat' split) <;> simp
@[simp] theorem driveBark_leash (on : Bool) (b : Block) : (driveBark on b).leash = b.leash := by unfold driveBark; (repeat' split) <;> simp
@[simp] theorem driveBark_ring (on : Bool) (b : Block) : (driveBark on b).ring = b.ring := by unfold driveBark; (repeat' split) <;> simp
@[simp] theorem driveBark_sense (on : Bool) (b : Block) : (driveBark on b).sense = b.sense := by unfold driveBark; (repeat' split) <;> simp
@[simp] theorem driveBark_bal (on : Bool) (b : Block) : (driveBark on b).bal = b.bal := by unfold driveBark; (repeat' split) <;> simp
@[simp] theorem driveBark_flt (on : Bool) (b : Block) : (driveBark on b).flt = b.flt := by unfold driveBark; (repeat' split) <;> simp
@[simp] theorem driveBark_cnv (on : Bool) (b : Block) : (driveBark on b).cnv = b.cnv := by unfold driveBark; (repeat' split) <;> simp
@[simp] theorem driveBark_imp (on : Bool) (b : Block) : (driveBark on b).imp = b.imp := by unfold driveBark; (repeat' split) <;> simp
@[simp] theorem driveBark_loop (on : Bool) (b : Block) : (driveBark on b).loop = b.loop := by unfold driveBark; (repeat' split) <;> simp
@[simp] theorem driveBark_thm (on : Bool) (b : Block) : (driveBark on b).thm = b.thm := by unfold driveBark; (repeat' split) <;> simp
@[simp] theorem driveBark_net (on : Bool) (b : Block) : (driveBark on b).net = b.net := by unfold driveBark; (repeat' split) <;> simp
@[simp] theorem driveBark_pwr (on : Bool) (b : Block) : (driveBark on b).pwr = b.pwr := by unfold driveBark; (repeat' split) <;> simp
@[simp] theorem driveBark_sec (on : Bool) (b : Block) : (driveBark on b).sec = b.sec := by unfold driveBark; (repeat' split) <;> simp
@[simp] theorem driveBark_upd (on : Bool) (b : Block) : (driveBark on b).upd = b.upd := by unfold driveBark; (repeat' split) <;> simp
@[simp] theorem driveBark_pol (on : Bool) (b : Block) : (driveBark on b).pol = b.pol := by unfold driveBark; (repeat' split) <;> simp
@[simp] theorem driveBark_unacted (on : Bool) (b : Block) : (driveBark on b).unacted = b.unacted := by unfold driveBark; (repeat' split) <;> simp

@[simp] theorem addCause_sys (cause ix : Nat) (b : Block) : (addCause cause ix b).sys = b.sys := rfl
@[simp] theorem addCause_log (cause ix : Nat) (b : Block) : (addCause cause ix b).log = b.log := rfl
@[simp] theorem addCause_ix (cause ix : Nat) (b : Block) : (addCause cause ix b).ix = b.ix := rfl
@[simp] theorem addCause_img (cause ix : Nat) (b : Block) : (addCause cause ix b).img = b.img := rfl
@[simp] theorem addCause_leash (cause ix : Nat) (b : Block) : (addCause cause ix b).leash = b.leash := rfl
@[simp] theorem addCause_ring (cause ix : Nat) (b : Block) : (addCause cause ix b).ring = b.ring := rfl
@[simp] theorem addCause_sense (cause ix : Nat) (b : Block) : (addCause cause ix b).sense = b.sense := rfl
@[simp] theorem addCause_bark (cause ix : Nat) (b : Block) : (addCause cause ix b).bark = b.bark := rfl
@[simp] theorem addCause_bal (cause ix : Nat) (b : Block) : (addCause cause ix b).bal = b.bal := rfl
@[simp] theorem addCause_flt (cause ix : Nat) (b : Block) : (addCause cause ix b).flt = b.flt := rfl
@[simp] theorem addCause_cnv (cause ix : Nat) (b : Block) : (addCause cause ix b).cnv = b.cnv := rfl
@[simp] theorem addCause_imp (cause ix : Nat) (b : Block) : (addCause cause ix b).imp = b.imp := rfl
@[simp] theorem addCause_loop (cause ix : Nat) (b : Block) : (addCause cause ix b).loop = b.loop := rfl
@[simp] theorem addCause_thm (cause ix : Nat) (b : Block) : (addCause cause ix b).thm = b.thm := rfl
@[simp] theorem addCause_net (cause ix : Nat) (b : Block) : (addCause cause ix b).net = b.net := rfl
@[simp] theorem addCause_pwr (cause ix : Nat) (b : Block) : (addCause cause ix b).pwr = b.pwr := rfl
@[simp] theorem addCause_sec (cause ix : Nat) (b : Block) : (addCause cause ix b).sec = b.sec := rfl
@[simp] theorem addCause_upd (cause ix : Nat) (b : Block) : (addCause cause ix b).upd = b.upd := rfl
@[simp] theorem addCause_pol (cause ix : Nat) (b : Block) : (addCause cause ix b).pol = b.pol := rfl
@[simp] theorem addCause_unacted (cause ix : Nat) (b : Block) : (addCause cause ix b).unacted = b.unacted := rfl

@[simp] theorem settleLatch_sys  (b : Block) : (settleLatch b).sys = b.sys := by unfold settleLatch; (repeat' split) <;> simp
@[simp] theorem settleLatch_ix  (b : Block) : (settleLatch b).ix = b.ix := by unfold settleLatch; (repeat' split) <;> simp
@[simp] theorem settleLatch_leash  (b : Block) : (settleLatch b).leash = b.leash := by unfold settleLatch; (repeat' split) <;> simp
@[simp] theorem settleLatch_ring  (b : Block) : (settleLatch b).ring = b.ring := by unfold settleLatch; (repeat' split) <;> simp
@[simp] theorem settleLatch_sense  (b : Block) : (settleLatch b).sense = b.sense := by unfold settleLatch; (repeat' split) <;> simp
@[simp] theorem settleLatch_bark  (b : Block) : (settleLatch b).bark = b.bark := by unfold settleLatch; (repeat' split) <;> simp
@[simp] theorem settleLatch_bal  (b : Block) : (settleLatch b).bal = b.bal := by unfold settleLatch; (repeat' split) <;> simp
@[simp] theorem settleLatch_flt  (b : Block) : (settleLatch b).flt = b.flt := by unfold settleLatch; (repeat' split) <;> simp
@[simp] theorem settleLatch_cnv  (b : Block) : (settleLatch b).cnv = b.cnv := by unfold settleLatch; (repeat' split) <;> simp
@[simp] theorem settleLatch_imp  (b : Block) : (settleLatch b).imp = b.imp := by unfold settleLatch; (repeat' split) <;> simp
@[simp] theorem settleLatch_loop  (b : Block) : (settleLatch b).loop = b.loop := by unfold settleLatch; (repeat' split) <;> simp
@[simp] theorem settleLatch_thm  (b : Block) : (settleLatch b).thm = b.thm := by unfold settleLatch; (repeat' split) <;> simp
@[simp] theorem settleLatch_net  (b : Block) : (settleLatch b).net = b.net := by unfold settleLatch; (repeat' split) <;> simp
@[simp] theorem settleLatch_pwr  (b : Block) : (settleLatch b).pwr = b.pwr := by unfold settleLatch; (repeat' split) <;> simp
@[simp] theorem settleLatch_sec  (b : Block) : (settleLatch b).sec = b.sec := by unfold settleLatch; (repeat' split) <;> simp
@[simp] theorem settleLatch_upd  (b : Block) : (settleLatch b).upd = b.upd := by unfold settleLatch; (repeat' split) <;> simp
@[simp] theorem settleLatch_pol  (b : Block) : (settleLatch b).pol = b.pol := by unfold settleLatch; (repeat' split) <;> simp
@[simp] theorem settleLatch_unacted  (b : Block) : (settleLatch b).unacted = b.unacted := by unfold settleLatch; (repeat' split) <;> simp

@[simp] theorem clearCause_sys (cause ix : Nat) (b : Block) : (clearCause cause ix b).sys = b.sys := by unfold clearCause; (repeat' split) <;> simp
@[simp] theorem clearCause_ix (cause ix : Nat) (b : Block) : (clearCause cause ix b).ix = b.ix := by unfold clearCause; (repeat' split) <;> simp
@[simp] theorem clearCause_leash (cause ix : Nat) (b : Block) : (clearCause cause ix b).leash = b.leash := by unfold clearCause; (repeat' split) <;> simp
@[simp] theorem clearCause_ring (cause ix : Nat) (b : Block) : (clearCause cause ix b).ring = b.ring := by unfold clearCause; (repeat' split) <;> simp
@[simp] theorem clearCause_sense (cause ix : Nat) (b : Block) : (clearCause cause ix b).sense = b.sense := by unfold clearCause; (repeat' split) <;> simp
@[simp] theorem clearCause_bark (cause ix : Nat) (b : Block) : (clearCause cause ix b).bark = b.bark := by unfold clearCause; (repeat' split) <;> simp
@[simp] theorem clearCause_bal (cause ix : Nat) (b : Block) : (clearCause cause ix b).bal = b.bal := by unfold clearCause; (repeat' split) <;> simp
@[simp] theorem clearCause_flt (cause ix : Nat) (b : Block) : (clearCause cause ix b).flt = b.flt := by unfold clearCause; (repeat' split) <;> simp
@[simp] theorem clearCause_cnv (cause ix : Nat) (b : Block) : (clearCause cause ix b).cnv = b.cnv := by unfold clearCause; (repeat' split) <;> simp
@[simp] theorem clearCause_imp (cause ix : Nat) (b : Block) : (clearCause cause ix b).imp = b.imp := by unfold clearCause; (repeat' split) <;> simp
@[simp] theorem clearCause_loop (cause ix : Nat) (b : Block) : (clearCause cause ix b).loop = b.loop := by unfold clearCause; (repeat' split) <;> simp
@[simp] theorem clearCause_thm (cause ix : Nat) (b : Block) : (clearCause cause ix b).thm = b.thm := by unfold clearCause; (repeat' split) <;> simp
@[simp] theorem clearCause_net (cause ix : Nat) (b : Block) : (clearCause cause ix b).net = b.net := by unfold clearCause; (repeat' split) <;> simp
@[simp] theorem clearCause_pwr (cause ix : Nat) (b : Block) : (clearCause cause ix b).pwr = b.pwr := by unfold clearCause; (repeat' split) <;> simp
@[simp] theorem clearCause_sec (cause ix : Nat) (b : Block) : (clearCause cause ix b).sec = b.sec := by unfold clearCause; (repeat' split) <;> simp
@[simp] theorem clearCause_upd (cause ix : Nat) (b : Block) : (clearCause cause ix b).upd = b.upd := by unfold clearCause; (repeat' split) <;> simp
@[simp] theorem clearCause_pol (cause ix : Nat) (b : Block) : (clearCause cause ix b).pol = b.pol := by unfold clearCause; (repeat' split) <;> simp
@[simp] theorem clearCause_unacted (cause ix : Nat) (b : Block) : (clearCause cause ix b).unacted = b.unacted := by unfold clearCause; (repeat' split) <;> simp

@[simp] theorem closeDebug_sys (cause : Nat) (b : Block) : (closeDebug cause b).sys = b.sys := by unfold closeDebug; (repeat' split) <;> simp
@[simp] theorem closeDebug_ix (cause : Nat) (b : Block) : (closeDebug cause b).ix = b.ix := by unfold closeDebug; (repeat' split) <;> simp
@[simp] theorem closeDebug_leash (cause : Nat) (b : Block) : (closeDebug cause b).leash = b.leash := by unfold closeDebug; (repeat' split) <;> simp
@[simp] theorem closeDebug_ring (cause : Nat) (b : Block) : (closeDebug cause b).ring = b.ring := by unfold closeDebug; (repeat' split) <;> simp
@[simp] theorem closeDebug_sense (cause : Nat) (b : Block) : (closeDebug cause b).sense = b.sense := by unfold closeDebug; (repeat' split) <;> simp
@[simp] theorem closeDebug_bark (cause : Nat) (b : Block) : (closeDebug cause b).bark = b.bark := by unfold closeDebug; (repeat' split) <;> simp
@[simp] theorem closeDebug_bal (cause : Nat) (b : Block) : (closeDebug cause b).bal = b.bal := by unfold closeDebug; (repeat' split) <;> simp
@[simp] theorem closeDebug_flt (cause : Nat) (b : Block) : (closeDebug cause b).flt = b.flt := by unfold closeDebug; (repeat' split) <;> simp
@[simp] theorem closeDebug_latch (cause : Nat) (b : Block) : (closeDebug cause b).latch = b.latch := by unfold closeDebug; (repeat' split) <;> simp
@[simp] theorem closeDebug_cnv (cause : Nat) (b : Block) : (closeDebug cause b).cnv = b.cnv := by unfold closeDebug; (repeat' split) <;> simp
@[simp] theorem closeDebug_imp (cause : Nat) (b : Block) : (closeDebug cause b).imp = b.imp := by unfold closeDebug; (repeat' split) <;> simp
@[simp] theorem closeDebug_loop (cause : Nat) (b : Block) : (closeDebug cause b).loop = b.loop := by unfold closeDebug; (repeat' split) <;> simp
@[simp] theorem closeDebug_thm (cause : Nat) (b : Block) : (closeDebug cause b).thm = b.thm := by unfold closeDebug; (repeat' split) <;> simp
@[simp] theorem closeDebug_net (cause : Nat) (b : Block) : (closeDebug cause b).net = b.net := by unfold closeDebug; (repeat' split) <;> simp
@[simp] theorem closeDebug_pwr (cause : Nat) (b : Block) : (closeDebug cause b).pwr = b.pwr := by unfold closeDebug; (repeat' split) <;> simp
@[simp] theorem closeDebug_upd (cause : Nat) (b : Block) : (closeDebug cause b).upd = b.upd := by unfold closeDebug; (repeat' split) <;> simp
@[simp] theorem closeDebug_pol (cause : Nat) (b : Block) : (closeDebug cause b).pol = b.pol := by unfold closeDebug; (repeat' split) <;> simp

@[simp] theorem hibernateExit_uncontrolled  (b : Block) : (hibernateExit b).uncontrolled = b.uncontrolled := by unfold hibernateExit; dsimp only; refine (foldl_keeps Block.uncontrolled _ (fun b q => by split <;> simp) _ _).trans ?_; simp
@[simp] theorem hibernateExit_unacted  (b : Block) : (hibernateExit b).unacted = b.unacted := unacted_of_uncontrolled (hibernateExit_uncontrolled ..)
@[simp] theorem hibernateExit_leash  (b : Block) : (hibernateExit b).leash = b.leash := leash_of_uncontrolled (hibernateExit_uncontrolled ..)
@[simp] theorem hibernateExit_ring  (b : Block) : (hibernateExit b).ring = b.ring := ring_of_uncontrolled (hibernateExit_uncontrolled ..)
@[simp] theorem hibernateExit_bark  (b : Block) : (hibernateExit b).bark = b.bark := bark_of_uncontrolled (hibernateExit_uncontrolled ..)
@[simp] theorem hibernateExit_latch  (b : Block) : (hibernateExit b).latch = b.latch := latch_of_uncontrolled (hibernateExit_uncontrolled ..)
@[simp] theorem hibernateExit_thm  (b : Block) : (hibernateExit b).thm = b.thm := thm_of_uncontrolled (hibernateExit_uncontrolled ..)
@[simp] theorem hibernateExit_net  (b : Block) : (hibernateExit b).net = b.net := net_of_uncontrolled (hibernateExit_uncontrolled ..)
@[simp] theorem hibernateExit_sec  (b : Block) : (hibernateExit b).sec = b.sec := sec_of_uncontrolled (hibernateExit_uncontrolled ..)
@[simp] theorem hibernateExit_upd  (b : Block) : (hibernateExit b).upd = b.upd := upd_of_uncontrolled (hibernateExit_uncontrolled ..)

@[simp] theorem leaveRun_uncontrolled (m : MState) (b : Block) : (leaveRun m b).uncontrolled = b.uncontrolled := by unfold leaveRun; dsimp only; (repeat' split) <;> simp
@[simp] theorem leaveRun_unacted (m : MState) (b : Block) : (leaveRun m b).unacted = b.unacted := unacted_of_uncontrolled (leaveRun_uncontrolled ..)
@[simp] theorem leaveRun_leash (m : MState) (b : Block) : (leaveRun m b).leash = b.leash := leash_of_uncontrolled (leaveRun_uncontrolled ..)
@[simp] theorem leaveRun_ring (m : MState) (b : Block) : (leaveRun m b).ring = b.ring := ring_of_uncontrolled (leaveRun_uncontrolled ..)
@[simp] theorem leaveRun_bark (m : MState) (b : Block) : (leaveRun m b).bark = b.bark := bark_of_uncontrolled (leaveRun_uncontrolled ..)
@[simp] theorem leaveRun_latch (m : MState) (b : Block) : (leaveRun m b).latch = b.latch := latch_of_uncontrolled (leaveRun_uncontrolled ..)
@[simp] theorem leaveRun_thm (m : MState) (b : Block) : (leaveRun m b).thm = b.thm := thm_of_uncontrolled (leaveRun_uncontrolled ..)
@[simp] theorem leaveRun_net (m : MState) (b : Block) : (leaveRun m b).net = b.net := net_of_uncontrolled (leaveRun_uncontrolled ..)
@[simp] theorem leaveRun_sec (m : MState) (b : Block) : (leaveRun m b).sec = b.sec := sec_of_uncontrolled (leaveRun_uncontrolled ..)
@[simp] theorem leaveRun_upd (m : MState) (b : Block) : (leaveRun m b).upd = b.upd := upd_of_uncontrolled (leaveRun_uncontrolled ..)

@[simp] theorem onEntry__uncontrolled (m : MState) (b : Block) : (onEntry_ m b).uncontrolled = b.uncontrolled := by unfold onEntry_; split <;> simp
@[simp] theorem onEntry__unacted (m : MState) (b : Block) : (onEntry_ m b).unacted = b.unacted := unacted_of_uncontrolled (onEntry__uncontrolled ..)
@[simp] theorem onEntry__leash (m : MState) (b : Block) : (onEntry_ m b).leash = b.leash := leash_of_uncontrolled (onEntry__uncontrolled ..)
@[simp] theorem onEntry__ring (m : MState) (b : Block) : (onEntry_ m b).ring = b.ring := ring_of_uncontrolled (onEntry__uncontrolled ..)
@[simp] theorem onEntry__bark (m : MState) (b : Block) : (onEntry_ m b).bark = b.bark := bark_of_uncontrolled (onEntry__uncontrolled ..)
@[simp] theorem onEntry__latch (m : MState) (b : Block) : (onEntry_ m b).latch = b.latch := latch_of_uncontrolled (onEntry__uncontrolled ..)
@[simp] theorem onEntry__thm (m : MState) (b : Block) : (onEntry_ m b).thm = b.thm := thm_of_uncontrolled (onEntry__uncontrolled ..)
@[simp] theorem onEntry__net (m : MState) (b : Block) : (onEntry_ m b).net = b.net := net_of_uncontrolled (onEntry__uncontrolled ..)
@[simp] theorem onEntry__sec (m : MState) (b : Block) : (onEntry_ m b).sec = b.sec := sec_of_uncontrolled (onEntry__uncontrolled ..)
@[simp] theorem onEntry__upd (m : MState) (b : Block) : (onEntry_ m b).upd = b.upd := upd_of_uncontrolled (onEntry__uncontrolled ..)

@[simp] theorem changeNow_uncontrolled (m : MState) (cause : Nat) (op : List Nat) (b : Block) : (changeNow m cause op b).uncontrolled = b.uncontrolled := by
  unfold changeNow; split
  · rfl
  · dsimp only; (repeat' split) <;> simp
@[simp] theorem changeNow_unacted (m : MState) (cause : Nat) (op : List Nat) (b : Block) : (changeNow m cause op b).unacted = b.unacted := unacted_of_uncontrolled (changeNow_uncontrolled ..)
@[simp] theorem changeNow_leash (m : MState) (cause : Nat) (op : List Nat) (b : Block) : (changeNow m cause op b).leash = b.leash := leash_of_uncontrolled (changeNow_uncontrolled ..)
@[simp] theorem changeNow_ring (m : MState) (cause : Nat) (op : List Nat) (b : Block) : (changeNow m cause op b).ring = b.ring := ring_of_uncontrolled (changeNow_uncontrolled ..)
@[simp] theorem changeNow_bark (m : MState) (cause : Nat) (op : List Nat) (b : Block) : (changeNow m cause op b).bark = b.bark := bark_of_uncontrolled (changeNow_uncontrolled ..)
@[simp] theorem changeNow_latch (m : MState) (cause : Nat) (op : List Nat) (b : Block) : (changeNow m cause op b).latch = b.latch := latch_of_uncontrolled (changeNow_uncontrolled ..)
@[simp] theorem changeNow_thm (m : MState) (cause : Nat) (op : List Nat) (b : Block) : (changeNow m cause op b).thm = b.thm := thm_of_uncontrolled (changeNow_uncontrolled ..)
@[simp] theorem changeNow_net (m : MState) (cause : Nat) (op : List Nat) (b : Block) : (changeNow m cause op b).net = b.net := net_of_uncontrolled (changeNow_uncontrolled ..)
@[simp] theorem changeNow_sec (m : MState) (cause : Nat) (op : List Nat) (b : Block) : (changeNow m cause op b).sec = b.sec := sec_of_uncontrolled (changeNow_uncontrolled ..)
@[simp] theorem changeNow_upd (m : MState) (cause : Nat) (op : List Nat) (b : Block) : (changeNow m cause op b).upd = b.upd := upd_of_uncontrolled (changeNow_uncontrolled ..)

@[simp] theorem changeState_uncontrolled (m : MState) (cause : Nat) (op : List Nat) (b : Block) : (changeState m cause op b).uncontrolled = b.uncontrolled := by unfold changeState; split <;> simp
@[simp] theorem changeState_unacted (m : MState) (cause : Nat) (op : List Nat) (b : Block) : (changeState m cause op b).unacted = b.unacted := unacted_of_uncontrolled (changeState_uncontrolled ..)
@[simp] theorem changeState_leash (m : MState) (cause : Nat) (op : List Nat) (b : Block) : (changeState m cause op b).leash = b.leash := leash_of_uncontrolled (changeState_uncontrolled ..)
@[simp] theorem changeState_ring (m : MState) (cause : Nat) (op : List Nat) (b : Block) : (changeState m cause op b).ring = b.ring := ring_of_uncontrolled (changeState_uncontrolled ..)
@[simp] theorem changeState_bark (m : MState) (cause : Nat) (op : List Nat) (b : Block) : (changeState m cause op b).bark = b.bark := bark_of_uncontrolled (changeState_uncontrolled ..)
@[simp] theorem changeState_latch (m : MState) (cause : Nat) (op : List Nat) (b : Block) : (changeState m cause op b).latch = b.latch := latch_of_uncontrolled (changeState_uncontrolled ..)
@[simp] theorem changeState_thm (m : MState) (cause : Nat) (op : List Nat) (b : Block) : (changeState m cause op b).thm = b.thm := thm_of_uncontrolled (changeState_uncontrolled ..)
@[simp] theorem changeState_net (m : MState) (cause : Nat) (op : List Nat) (b : Block) : (changeState m cause op b).net = b.net := net_of_uncontrolled (changeState_uncontrolled ..)
@[simp] theorem changeState_sec (m : MState) (cause : Nat) (op : List Nat) (b : Block) : (changeState m cause op b).sec = b.sec := sec_of_uncontrolled (changeState_uncontrolled ..)
@[simp] theorem changeState_upd (m : MState) (cause : Nat) (op : List Nat) (b : Block) : (changeState m cause op b).upd = b.upd := upd_of_uncontrolled (changeState_uncontrolled ..)

@[simp] theorem enterState_uncontrolled (m : MState) (cause : Nat) (b : Block) : (enterState m cause b).uncontrolled = b.uncontrolled := changeState_uncontrolled ..
@[simp] theorem enterState_unacted (m : MState) (cause : Nat) (b : Block) : (enterState m cause b).unacted = b.unacted := unacted_of_uncontrolled (enterState_uncontrolled ..)
@[simp] theorem enterState_leash (m : MState) (cause : Nat) (b : Block) : (enterState m cause b).leash = b.leash := leash_of_uncontrolled (enterState_uncontrolled ..)
@[simp] theorem enterState_ring (m : MState) (cause : Nat) (b : Block) : (enterState m cause b).ring = b.ring := ring_of_uncontrolled (enterState_uncontrolled ..)
@[simp] theorem enterState_bark (m : MState) (cause : Nat) (b : Block) : (enterState m cause b).bark = b.bark := bark_of_uncontrolled (enterState_uncontrolled ..)
@[simp] theorem enterState_latch (m : MState) (cause : Nat) (b : Block) : (enterState m cause b).latch = b.latch := latch_of_uncontrolled (enterState_uncontrolled ..)
@[simp] theorem enterState_thm (m : MState) (cause : Nat) (b : Block) : (enterState m cause b).thm = b.thm := thm_of_uncontrolled (enterState_uncontrolled ..)
@[simp] theorem enterState_net (m : MState) (cause : Nat) (b : Block) : (enterState m cause b).net = b.net := net_of_uncontrolled (enterState_uncontrolled ..)
@[simp] theorem enterState_sec (m : MState) (cause : Nat) (b : Block) : (enterState m cause b).sec = b.sec := sec_of_uncontrolled (enterState_uncontrolled ..)
@[simp] theorem enterState_upd (m : MState) (cause : Nat) (b : Block) : (enterState m cause b).upd = b.upd := upd_of_uncontrolled (enterState_uncontrolled ..)

@[simp] theorem enterByCommand_uncontrolled (m : MState) (opcode : Nat) (b : Block) : (enterByCommand m opcode b).uncontrolled = b.uncontrolled := changeState_uncontrolled ..
@[simp] theorem enterByCommand_unacted (m : MState) (opcode : Nat) (b : Block) : (enterByCommand m opcode b).unacted = b.unacted := unacted_of_uncontrolled (enterByCommand_uncontrolled ..)
@[simp] theorem enterByCommand_leash (m : MState) (opcode : Nat) (b : Block) : (enterByCommand m opcode b).leash = b.leash := leash_of_uncontrolled (enterByCommand_uncontrolled ..)
@[simp] theorem enterByCommand_ring (m : MState) (opcode : Nat) (b : Block) : (enterByCommand m opcode b).ring = b.ring := ring_of_uncontrolled (enterByCommand_uncontrolled ..)
@[simp] theorem enterByCommand_bark (m : MState) (opcode : Nat) (b : Block) : (enterByCommand m opcode b).bark = b.bark := bark_of_uncontrolled (enterByCommand_uncontrolled ..)
@[simp] theorem enterByCommand_latch (m : MState) (opcode : Nat) (b : Block) : (enterByCommand m opcode b).latch = b.latch := latch_of_uncontrolled (enterByCommand_uncontrolled ..)
@[simp] theorem enterByCommand_thm (m : MState) (opcode : Nat) (b : Block) : (enterByCommand m opcode b).thm = b.thm := thm_of_uncontrolled (enterByCommand_uncontrolled ..)
@[simp] theorem enterByCommand_net (m : MState) (opcode : Nat) (b : Block) : (enterByCommand m opcode b).net = b.net := net_of_uncontrolled (enterByCommand_uncontrolled ..)
@[simp] theorem enterByCommand_sec (m : MState) (opcode : Nat) (b : Block) : (enterByCommand m opcode b).sec = b.sec := sec_of_uncontrolled (enterByCommand_uncontrolled ..)
@[simp] theorem enterByCommand_upd (m : MState) (opcode : Nat) (b : Block) : (enterByCommand m opcode b).upd = b.upd := upd_of_uncontrolled (enterByCommand_uncontrolled ..)

@[simp] theorem raise_uncontrolled (e : Event) (arg0 : Nat) (data : List Nat) (b : Block) : (raise e arg0 data b).uncontrolled = b.uncontrolled := by
  unfold raise; dsimp only; split
  · simp
  · split <;> simp
@[simp] theorem raise_unacted (e : Event) (arg0 : Nat) (data : List Nat) (b : Block) : (raise e arg0 data b).unacted = b.unacted := unacted_of_uncontrolled (raise_uncontrolled ..)
@[simp] theorem raise_leash (e : Event) (arg0 : Nat) (data : List Nat) (b : Block) : (raise e arg0 data b).leash = b.leash := leash_of_uncontrolled (raise_uncontrolled ..)
@[simp] theorem raise_ring (e : Event) (arg0 : Nat) (data : List Nat) (b : Block) : (raise e arg0 data b).ring = b.ring := ring_of_uncontrolled (raise_uncontrolled ..)
@[simp] theorem raise_bark (e : Event) (arg0 : Nat) (data : List Nat) (b : Block) : (raise e arg0 data b).bark = b.bark := bark_of_uncontrolled (raise_uncontrolled ..)
@[simp] theorem raise_latch (e : Event) (arg0 : Nat) (data : List Nat) (b : Block) : (raise e arg0 data b).latch = b.latch := latch_of_uncontrolled (raise_uncontrolled ..)
@[simp] theorem raise_thm (e : Event) (arg0 : Nat) (data : List Nat) (b : Block) : (raise e arg0 data b).thm = b.thm := thm_of_uncontrolled (raise_uncontrolled ..)
@[simp] theorem raise_net (e : Event) (arg0 : Nat) (data : List Nat) (b : Block) : (raise e arg0 data b).net = b.net := net_of_uncontrolled (raise_uncontrolled ..)
@[simp] theorem raise_sec (e : Event) (arg0 : Nat) (data : List Nat) (b : Block) : (raise e arg0 data b).sec = b.sec := sec_of_uncontrolled (raise_uncontrolled ..)
@[simp] theorem raise_upd (e : Event) (arg0 : Nat) (data : List Nat) (b : Block) : (raise e arg0 data b).upd = b.upd := upd_of_uncontrolled (raise_uncontrolled ..)

@[simp] theorem failClose_unacted (code : Nat) (b : Block) : (failClose code b).unacted = b.unacted := by unfold failClose; dsimp only; rw [Block.touch_unacted]; split <;> simp
@[simp] theorem failClose_ring (code : Nat) (b : Block) : (failClose code b).ring = b.ring := ring_of_unacted (failClose_unacted ..)
@[simp] theorem failClose_thm (code : Nat) (b : Block) : (failClose code b).thm = b.thm := thm_of_unacted (failClose_unacted ..)
@[simp] theorem failClose_net (code : Nat) (b : Block) : (failClose code b).net = b.net := net_of_unacted (failClose_unacted ..)
@[simp] theorem failClose_sec (code : Nat) (b : Block) : (failClose code b).sec = b.sec := sec_of_unacted (failClose_unacted ..)
@[simp] theorem failClose_upd (code : Nat) (b : Block) : (failClose code b).upd = b.upd := upd_of_unacted (failClose_unacted ..)

@[simp] theorem abortSeq_unacted (ssi : Bool) (b : Block) : (abortSeq ssi b).unacted = b.unacted := by
  unfold abortSeq; split
  · simp
  · split
    · dsimp only; split <;> simp
    · rfl
@[simp] theorem abortSeq_ring (ssi : Bool) (b : Block) : (abortSeq ssi b).ring = b.ring := ring_of_unacted (abortSeq_unacted ..)
@[simp] theorem abortSeq_thm (ssi : Bool) (b : Block) : (abortSeq ssi b).thm = b.thm := thm_of_unacted (abortSeq_unacted ..)
@[simp] theorem abortSeq_net (ssi : Bool) (b : Block) : (abortSeq ssi b).net = b.net := net_of_unacted (abortSeq_unacted ..)
@[simp] theorem abortSeq_sec (ssi : Bool) (b : Block) : (abortSeq ssi b).sec = b.sec := sec_of_unacted (abortSeq_unacted ..)
@[simp] theorem abortSeq_upd (ssi : Bool) (b : Block) : (abortSeq ssi b).upd = b.upd := upd_of_unacted (abortSeq_unacted ..)

@[simp] theorem denyReset_unacted (src : Option Src) (cond : Nat) (b : Block) : (denyReset src cond b).unacted = b.unacted := by unfold denyReset; cases src <;> simp
@[simp] theorem denyReset_ring (src : Option Src) (cond : Nat) (b : Block) : (denyReset src cond b).ring = b.ring := ring_of_unacted (denyReset_unacted ..)
@[simp] theorem denyReset_thm (src : Option Src) (cond : Nat) (b : Block) : (denyReset src cond b).thm = b.thm := thm_of_unacted (denyReset_unacted ..)
@[simp] theorem denyReset_net (src : Option Src) (cond : Nat) (b : Block) : (denyReset src cond b).net = b.net := net_of_unacted (denyReset_unacted ..)
@[simp] theorem denyReset_sec (src : Option Src) (cond : Nat) (b : Block) : (denyReset src cond b).sec = b.sec := sec_of_unacted (denyReset_unacted ..)
@[simp] theorem denyReset_upd (src : Option Src) (cond : Nat) (b : Block) : (denyReset src cond b).upd = b.upd := upd_of_unacted (denyReset_unacted ..)

@[simp] theorem spoilReset_unacted (cause : Nat) (b : Block) : (spoilReset cause b).unacted = b.unacted := by unfold spoilReset; split <;> simp
@[simp] theorem spoilReset_ring (cause : Nat) (b : Block) : (spoilReset cause b).ring = b.ring := ring_of_unacted (spoilReset_unacted ..)
@[simp] theorem spoilReset_thm (cause : Nat) (b : Block) : (spoilReset cause b).thm = b.thm := thm_of_unacted (spoilReset_unacted ..)
@[simp] theorem spoilReset_net (cause : Nat) (b : Block) : (spoilReset cause b).net = b.net := net_of_unacted (spoilReset_unacted ..)
@[simp] theorem spoilReset_sec (cause : Nat) (b : Block) : (spoilReset cause b).sec = b.sec := sec_of_unacted (spoilReset_unacted ..)
@[simp] theorem spoilReset_upd (cause : Nat) (b : Block) : (spoilReset cause b).upd = b.upd := upd_of_unacted (spoilReset_unacted ..)

@[simp] theorem execFn_unacted (ssi : Bool) (cause ix : Nat) (next : LState) (b : Block) : (execFn ssi cause ix next b).unacted = b.unacted := by
  unfold execFn; dsimp only; rw [Block.touch_unacted, cnvMuzzle_unacted, abortSeq_unacted, enterState_unacted, note_unacted]; split <;> split <;> simp
@[simp] theorem execFn_ring (ssi : Bool) (cause ix : Nat) (next : LState) (b : Block) : (execFn ssi cause ix next b).ring = b.ring := ring_of_unacted (execFn_unacted ..)
@[simp] theorem execFn_thm (ssi : Bool) (cause ix : Nat) (next : LState) (b : Block) : (execFn ssi cause ix next b).thm = b.thm := thm_of_unacted (execFn_unacted ..)
@[simp] theorem execFn_net (ssi : Bool) (cause ix : Nat) (next : LState) (b : Block) : (execFn ssi cause ix next b).net = b.net := net_of_unacted (execFn_unacted ..)
@[simp] theorem execFn_sec (ssi : Bool) (cause ix : Nat) (next : LState) (b : Block) : (execFn ssi cause ix next b).sec = b.sec := sec_of_unacted (execFn_unacted ..)
@[simp] theorem execFn_upd (ssi : Bool) (cause ix : Nat) (next : LState) (b : Block) : (execFn ssi cause ix next b).upd = b.upd := upd_of_unacted (execFn_unacted ..)

@[simp] theorem demand_unacted (ssi : Bool) (cause ix : Nat) (b : Block) : (demand ssi cause ix b).unacted = b.unacted := by unfold demand; (repeat' split) <;> simp
@[simp] theorem demand_ring (ssi : Bool) (cause ix : Nat) (b : Block) : (demand ssi cause ix b).ring = b.ring := ring_of_unacted (demand_unacted ..)
@[simp] theorem demand_thm (ssi : Bool) (cause ix : Nat) (b : Block) : (demand ssi cause ix b).thm = b.thm := thm_of_unacted (demand_unacted ..)
@[simp] theorem demand_net (ssi : Bool) (cause ix : Nat) (b : Block) : (demand ssi cause ix b).net = b.net := net_of_unacted (demand_unacted ..)
@[simp] theorem demand_sec (ssi : Bool) (cause ix : Nat) (b : Block) : (demand ssi cause ix b).sec = b.sec := sec_of_unacted (demand_unacted ..)
@[simp] theorem demand_upd (ssi : Bool) (cause ix : Nat) (b : Block) : (demand ssi cause ix b).upd = b.upd := upd_of_unacted (demand_unacted ..)

@[simp] theorem demandSSI_unacted (cause ix : Nat) (b : Block) : (demandSSI cause ix b).unacted = b.unacted := demand_unacted ..
@[simp] theorem demandSSI_ring (cause ix : Nat) (b : Block) : (demandSSI cause ix b).ring = b.ring := ring_of_unacted (demandSSI_unacted ..)
@[simp] theorem demandSSI_thm (cause ix : Nat) (b : Block) : (demandSSI cause ix b).thm = b.thm := thm_of_unacted (demandSSI_unacted ..)
@[simp] theorem demandSSI_net (cause ix : Nat) (b : Block) : (demandSSI cause ix b).net = b.net := net_of_unacted (demandSSI_unacted ..)
@[simp] theorem demandSSI_sec (cause ix : Nat) (b : Block) : (demandSSI cause ix b).sec = b.sec := sec_of_unacted (demandSSI_unacted ..)
@[simp] theorem demandSSI_upd (cause ix : Nat) (b : Block) : (demandSSI cause ix b).upd = b.upd := upd_of_unacted (demandSSI_unacted ..)

@[simp] theorem demandSPS_unacted (cause ix : Nat) (b : Block) : (demandSPS cause ix b).unacted = b.unacted := demand_unacted ..
@[simp] theorem demandSPS_ring (cause ix : Nat) (b : Block) : (demandSPS cause ix b).ring = b.ring := ring_of_unacted (demandSPS_unacted ..)
@[simp] theorem demandSPS_thm (cause ix : Nat) (b : Block) : (demandSPS cause ix b).thm = b.thm := thm_of_unacted (demandSPS_unacted ..)
@[simp] theorem demandSPS_net (cause ix : Nat) (b : Block) : (demandSPS cause ix b).net = b.net := net_of_unacted (demandSPS_unacted ..)
@[simp] theorem demandSPS_sec (cause ix : Nat) (b : Block) : (demandSPS cause ix b).sec = b.sec := sec_of_unacted (demandSPS_unacted ..)
@[simp] theorem demandSPS_upd (cause ix : Nat) (b : Block) : (demandSPS cause ix b).upd = b.upd := upd_of_unacted (demandSPS_unacted ..)

@[simp] theorem lockout_unacted (cause : Nat) (b : Block) : (lockout cause b).unacted = b.unacted := by
  unfold lockout; split
  · rfl
  · simp
@[simp] theorem lockout_ring (cause : Nat) (b : Block) : (lockout cause b).ring = b.ring := ring_of_unacted (lockout_unacted ..)
@[simp] theorem lockout_thm (cause : Nat) (b : Block) : (lockout cause b).thm = b.thm := thm_of_unacted (lockout_unacted ..)
@[simp] theorem lockout_net (cause : Nat) (b : Block) : (lockout cause b).net = b.net := net_of_unacted (lockout_unacted ..)
@[simp] theorem lockout_sec (cause : Nat) (b : Block) : (lockout cause b).sec = b.sec := sec_of_unacted (lockout_unacted ..)
@[simp] theorem lockout_upd (cause : Nat) (b : Block) : (lockout cause b).upd = b.upd := upd_of_unacted (lockout_unacted ..)

@[simp] theorem lockMuzzle_unacted  (b : Block) : (lockMuzzle b).unacted = b.unacted := by unfold lockMuzzle; split <;> simp
@[simp] theorem lockMuzzle_ring  (b : Block) : (lockMuzzle b).ring = b.ring := ring_of_unacted (lockMuzzle_unacted ..)
@[simp] theorem lockMuzzle_thm  (b : Block) : (lockMuzzle b).thm = b.thm := thm_of_unacted (lockMuzzle_unacted ..)
@[simp] theorem lockMuzzle_net  (b : Block) : (lockMuzzle b).net = b.net := net_of_unacted (lockMuzzle_unacted ..)
@[simp] theorem lockMuzzle_sec  (b : Block) : (lockMuzzle b).sec = b.sec := sec_of_unacted (lockMuzzle_unacted ..)
@[simp] theorem lockMuzzle_upd  (b : Block) : (lockMuzzle b).upd = b.upd := upd_of_unacted (lockMuzzle_unacted ..)

@[simp] theorem lockGates_uncontrolled  (b : Block) : (lockGates b).uncontrolled = b.uncontrolled := by unfold lockGates; split <;> simp
@[simp] theorem lockGates_unacted  (b : Block) : (lockGates b).unacted = b.unacted := unacted_of_uncontrolled (lockGates_uncontrolled ..)
@[simp] theorem lockGates_leash  (b : Block) : (lockGates b).leash = b.leash := leash_of_uncontrolled (lockGates_uncontrolled ..)
@[simp] theorem lockGates_ring  (b : Block) : (lockGates b).ring = b.ring := ring_of_uncontrolled (lockGates_uncontrolled ..)
@[simp] theorem lockGates_bark  (b : Block) : (lockGates b).bark = b.bark := bark_of_uncontrolled (lockGates_uncontrolled ..)
@[simp] theorem lockGates_latch  (b : Block) : (lockGates b).latch = b.latch := latch_of_uncontrolled (lockGates_uncontrolled ..)
@[simp] theorem lockGates_thm  (b : Block) : (lockGates b).thm = b.thm := thm_of_uncontrolled (lockGates_uncontrolled ..)
@[simp] theorem lockGates_net  (b : Block) : (lockGates b).net = b.net := net_of_uncontrolled (lockGates_uncontrolled ..)
@[simp] theorem lockGates_sec  (b : Block) : (lockGates b).sec = b.sec := sec_of_uncontrolled (lockGates_uncontrolled ..)
@[simp] theorem lockGates_upd  (b : Block) : (lockGates b).upd = b.upd := upd_of_uncontrolled (lockGates_uncontrolled ..)

@[simp] theorem lockState_uncontrolled  (b : Block) : (lockState b).uncontrolled = b.uncontrolled := by unfold lockState; split <;> simp
@[simp] theorem lockState_unacted  (b : Block) : (lockState b).unacted = b.unacted := unacted_of_uncontrolled (lockState_uncontrolled ..)
@[simp] theorem lockState_leash  (b : Block) : (lockState b).leash = b.leash := leash_of_uncontrolled (lockState_uncontrolled ..)
@[simp] theorem lockState_ring  (b : Block) : (lockState b).ring = b.ring := ring_of_uncontrolled (lockState_uncontrolled ..)
@[simp] theorem lockState_bark  (b : Block) : (lockState b).bark = b.bark := bark_of_uncontrolled (lockState_uncontrolled ..)
@[simp] theorem lockState_latch  (b : Block) : (lockState b).latch = b.latch := latch_of_uncontrolled (lockState_uncontrolled ..)
@[simp] theorem lockState_thm  (b : Block) : (lockState b).thm = b.thm := thm_of_uncontrolled (lockState_uncontrolled ..)
@[simp] theorem lockState_net  (b : Block) : (lockState b).net = b.net := net_of_uncontrolled (lockState_uncontrolled ..)
@[simp] theorem lockState_sec  (b : Block) : (lockState b).sec = b.sec := sec_of_uncontrolled (lockState_uncontrolled ..)
@[simp] theorem lockState_upd  (b : Block) : (lockState b).upd = b.upd := upd_of_uncontrolled (lockState_uncontrolled ..)

@[simp] theorem interlock_unacted  (b : Block) : (interlock b).unacted = b.unacted := by simp [interlock]
@[simp] theorem interlock_ring  (b : Block) : (interlock b).ring = b.ring := ring_of_unacted (interlock_unacted ..)
@[simp] theorem interlock_thm  (b : Block) : (interlock b).thm = b.thm := thm_of_unacted (interlock_unacted ..)
@[simp] theorem interlock_net  (b : Block) : (interlock b).net = b.net := net_of_unacted (interlock_unacted ..)
@[simp] theorem interlock_sec  (b : Block) : (interlock b).sec = b.sec := sec_of_unacted (interlock_unacted ..)
@[simp] theorem interlock_upd  (b : Block) : (interlock b).upd = b.upd := upd_of_unacted (interlock_unacted ..)

@[simp] theorem accrue_en (b : Block) : (accrue b).bal.en = b.bal.en := rfl
@[simp] theorem accrue_policy (b : Block) : (accrue b).bal.policy = b.bal.policy := rfl
@[simp] theorem accrue_cells (b : Block) : (accrue b).bal.cells = b.bal.cells := rfl
@[simp] theorem accrue_staged (b : Block) : (accrue b).bal.staged = b.bal.staged := rfl
@[simp] theorem accrue_stagedBridges (b : Block) : (accrue b).bal.stagedBridges = b.bal.stagedBridges := rfl
@[simp] theorem accrue_stagedActive (b : Block) : (accrue b).bal.stagedActive = b.bal.stagedActive := rfl
@[simp] theorem accrue_queued (b : Block) : (accrue b).bal.queued = b.bal.queued := rfl
@[simp] theorem accrue_sent (b : Block) : (accrue b).bal.sent = b.bal.sent := rfl
@[simp] theorem accrue_disabling (b : Block) : (accrue b).bal.disabling = b.bal.disabling := rfl
@[simp] theorem accrue_clearing (b : Block) : (accrue b).bal.clearing = b.bal.clearing := rfl
@[simp] theorem accrue_openNext (b : Block) : (accrue b).bal.openNext = b.bal.openNext := rfl
@[simp] theorem accrue_decisions (b : Block) : (accrue b).bal.decisions = b.bal.decisions := rfl

end Sys2Proof.Machine
end

