-- ==== Sys2Proof/Laws/Latch.lean ====
section
/-! SUPPORT. What a function of the Latch leaves in the Latch, and what a change of module state leaves in the status of the module. -/

set_option Elab.async false

namespace Sys2Proof.Machine

/-- What names the function in force: state, function, muzzle, cause with its index, number of executions, and whether SA and SB are in lockstep and answer. -/
def LatchPart.core (l : LatchPart) : LState × SafeFn × Bool × Nat × Nat × Nat × Bool × Bool :=
  (l.state, l.fn, l.muzzle, l.cause, l.causeIx, l.acts, l.lockstep, l.answering)

theorem key_of_latch {a b : Block} (h : a.latch = b.latch) : a.latch.core = b.latch.core := by rw [h]

@[simp] theorem retime_key (b : Block) : (retime b).latch.core = b.latch.core := rfl
@[simp] theorem onOut_key (n : Nat) (f : SafeOut → SafeOut) (b : Block) : (onOut n f b).latch.core = b.latch.core := rfl
@[simp] theorem contactorsOff_key (b : Block) : (contactorsOff b).latch.core = b.latch.core := rfl
@[simp] theorem driveBark_key (on : Bool) (b : Block) : (driveBark on b).latch.core = b.latch.core := by unfold driveBark; dsimp only; split <;> rfl
@[simp] theorem addCause_key (cause ix : Nat) (b : Block) : (addCause cause ix b).latch.core = b.latch.core := rfl
@[simp] theorem denyReset_key (src : Option Src) (cond : Nat) (b : Block) : (denyReset src cond b).latch.core = b.latch.core := by
  unfold denyReset; cases src <;> simp [LatchPart.core]
@[simp] theorem spoilReset_key (cause : Nat) (b : Block) : (spoilReset cause b).latch.core = b.latch.core := by unfold spoilReset; split <;> simp
@[simp] theorem failClose_key (code : Nat) (b : Block) : (failClose code b).latch.core = b.latch.core := by
  unfold failClose; dsimp only; rw [Block.touch_latch]; split
  · rw [complete_latch, retime_key, raise_latch]; rfl
  · rw [retime_key, raise_latch]; rfl
@[simp] theorem abortSeq_key (ssi : Bool) (b : Block) : (abortSeq ssi b).latch.core = b.latch.core := by
  unfold abortSeq; split
  · simp
  · split
    · dsimp only; split
      · rw [complete_latch, retime_key]; rfl
      · rw [retime_key]; rfl
    · rfl

/-- A function executed: the state that follows it, SSI or SPS (SSI stays), the muzzle, the first cause, one execution more (R283, R286, R319). -/
theorem execFn_key (ssi : Bool) (cause ix : Nat) (next : LState) (b : Block) : (execFn ssi cause ix next b).latch.core =
    (next, if ssi then .ssi else if b.latch.fn = .ssi then .ssi else .sps, true, if b.latch.fn = .none then cause else b.latch.cause,
      if b.latch.fn = .none then ix else b.latch.causeIx, b.latch.acts + 1, b.latch.lockstep, b.latch.answering) := by
  have h := spoilReset_key cause b
  simp only [LatchPart.core, Prod.mk.injEq] at h
  obtain ⟨h1, h2, h3, h4, h5, h6, h7, h8⟩ := h
  have hk : ∀ c : Block, (cnvMuzzle (abortSeq ssi c)).latch.core = c.latch.core := fun c => by rw [key_of_latch (cnvMuzzle_latch _), abortSeq_key]
  have hd : ∀ (p : Bool) (c : Block), (if p = true then driveBark true c else c).latch.core = c.latch.core := fun p c => by split <;> simp
  have hl : ∀ (p : Bool) (c : Block), (if p = true then contactorsOff c else c).latch.core = c.latch.core := fun p c => by split <;> simp
  unfold execFn; dsimp only
  rw [Block.touch_latch, hk, key_of_latch (enterState_latch ..), key_of_latch (note_latch ..), hd, key_of_latch (Block.onLeash_latch ..), hl, onOut_key]
  simp [LatchPart.core, h2, h4, h5, h6, h7, h8]

/-- What the Latch's muzzle rule leaves of it: all but the muzzle, and that too in ARMED or where it stands. -/
theorem interlock_latch (b : Block) : (interlock b).latch = if b.latch.state ≠ .armed ∧ b.latch.muzzle = false then { b.latch with muzzle := true } else b.latch := by
  unfold interlock
  have hg : ∀ c : Block, (lockGates c).latch = c.latch := fun c => by unfold lockGates; split <;> simp
  have hs : ∀ c : Block, (lockState c).latch = c.latch := fun c => by unfold lockState; split <;> simp
  rw [hg, hs]; unfold lockMuzzle; split <;> simp_all

@[simp] theorem interlock_lstate (b : Block) : (interlock b).latch.state = b.latch.state := by rw [interlock_latch]; split <;> rfl
@[simp] theorem interlock_fn (b : Block) : (interlock b).latch.fn = b.latch.fn := by rw [interlock_latch]; split <;> rfl

/-- The muzzle as the rule wants it: the interlock changes nothing of the Latch. -/
theorem interlock_latch_eq {b : Block} (h : b.latch.state = .armed ∨ b.latch.muzzle = true) : (interlock b).latch = b.latch := by
  rw [interlock_latch]; split
  · next k => rcases h with h | h <;> simp_all
  · rfl

theorem safePath_muzzle {b : Block} (h : b.safePath = true) : b.latch.state = .armed ∨ b.latch.muzzle = true := by
  simp only [Block.safePath, Bool.and_eq_true, Bool.or_eq_true, decide_eq_true_eq] at h
  exact h.1.1

theorem interlock_uncontrolled {b : Block} (h : b.latch.state = .armed ∨ b.latch.muzzle = true) : (interlock b).uncontrolled = b.uncontrolled := by
  unfold interlock
  have hg : ∀ c : Block, (lockGates c).uncontrolled = c.uncontrolled := fun c => by unfold lockGates; split <;> simp
  have hs : ∀ c : Block, (lockState c).uncontrolled = c.uncontrolled := fun c => by unfold lockState; split <;> simp
  rw [hg, hs]; unfold lockMuzzle; split
  · next k => rcases h with h | h <;> simp_all
  · rfl

/-- What a change of state leaves in the status of the module: time, draws, the causes of FAULT. -/
def SysPart.core (y : SysPart) : SysPart := { y with mstate := .off, prev := .off, entryTime := 0, cause := 0, changes := 0 }

theorem skey_of_sys {a b : Block} (h : a.sys = b.sys) : a.sys.core = b.sys.core := by rw [h]

@[simp] theorem changeNow_skey (m : MState) (cause : Nat) (op : List Nat) (b : Block) : (changeNow m cause op b).sys.core = b.sys.core := by
  have ho : ∀ (x : MState) (c : Block), (onEntry_ x c).sys = c.sys := fun x c => by unfold onEntry_; split <;> simp
  have hh : ∀ c : Block, (hibernateExit c).sys = c.sys := fun c => by
    unfold hibernateExit; dsimp only; refine (foldl_keeps Block.sys _ (fun b q => by split <;> simp) _ _).trans ?_; simp
  have hl : ∀ (x : MState) (c : Block), (leaveRun x c).sys = c.sys := fun x c => by unfold leaveRun; dsimp only; (repeat' split) <;> simp
  unfold changeNow; split
  · rfl
  · dsimp only; rw [Block.touch_sys, ho]
    (repeat' split) <;> simp [hh, hl, SysPart.core]

/-- The state changed to. -/
theorem changeNow_mstate (m : MState) (cause : Nat) (op : List Nat) (b : Block) : (changeNow m cause op b).sys.mstate = m := by
  have ho : ∀ (x : MState) (c : Block), (onEntry_ x c).sys = c.sys := fun x c => by unfold onEntry_; split <;> simp
  have hh : ∀ c : Block, (hibernateExit c).sys = c.sys := fun c => by
    unfold hibernateExit; dsimp only; refine (foldl_keeps Block.sys _ (fun b q => by split <;> simp) _ _).trans ?_; simp
  have hl : ∀ (x : MState) (c : Block), (leaveRun x c).sys = c.sys := fun x c => by unfold leaveRun; dsimp only; (repeat' split) <;> simp
  unfold changeNow; split
  · assumption
  · dsimp only; rw [Block.touch_sys, ho]
    (repeat' split) <;> simp [hh, hl]

@[simp] theorem changeState_skey (m : MState) (cause : Nat) (op : List Nat) (b : Block) : (changeState m cause op b).sys.core = b.sys.core := by
  unfold changeState; split
  · rw [skey_of_sys (deferState_sys ..)]
  · simp
@[simp] theorem enterState_skey (m : MState) (cause : Nat) (b : Block) : (enterState m cause b).sys.core = b.sys.core := changeState_skey ..
@[simp] theorem interlock_skey (b : Block) : (interlock b).sys.core = b.sys.core := by
  unfold interlock
  have hg : ∀ c : Block, (lockGates c).sys = c.sys := fun c => by unfold lockGates; split <;> simp
  have hm : ∀ c : Block, (lockMuzzle c).sys = c.sys := fun c => by unfold lockMuzzle; split <;> simp
  rw [hg]; unfold lockState; split <;> simp [hm]

theorem now_of_skey {a b : Block} (h : a.sys.core = b.sys.core) : a.sys.now = b.sys.now := by have k := congrArg SysPart.now h; exact k
theorem causes_of_skey {a b : Block} (h : a.sys.core = b.sys.core) : a.sys.faultCauses = b.sys.faultCauses := by have k := congrArg SysPart.faultCauses h; exact k
@[simp] theorem interlock_now (b : Block) : (interlock b).sys.now = b.sys.now := now_of_skey (interlock_skey b)
@[simp] theorem interlock_causes (b : Block) : (interlock b).sys.faultCauses = b.sys.faultCauses := causes_of_skey (interlock_skey b)
@[simp] theorem enterState_now (m : MState) (cause : Nat) (b : Block) : (enterState m cause b).sys.now = b.sys.now := now_of_skey (enterState_skey ..)

/-- An event that stops the converter leaves time as it was and joins the causes of FAULT. -/
@[simp] theorem raise_now (e : Event) (a : Nat) (d : List Nat) (b : Block) : (raise e a d b).sys.now = b.sys.now := by
  unfold raise; dsimp only; split
  · simp
  · split <;> simp

theorem raise_causes (e : Event) (a : Nat) (d : List Nat) (b : Block) (h : e.stopsConverter = true) : (e, a) ∈ (raise e a d b).sys.faultCauses := by
  unfold raise; dsimp only; rw [if_neg (by simp [h])]
  have k : ∀ c : Block, (enterState .fault e.code c).sys.faultCauses = c.sys.faultCauses := fun c => causes_of_skey (enterState_skey ..)
  split
  · rw [k]; simp; split <;> simp_all
  · simp; split <;> simp_all

@[simp] theorem failClose_now (code : Nat) (b : Block) : (failClose code b).sys.now = b.sys.now := by
  unfold failClose; dsimp only; rw [Block.touch_sys]; split <;> simp
@[simp] theorem abortSeq_now (ssi : Bool) (b : Block) : (abortSeq ssi b).sys.now = b.sys.now := by
  unfold abortSeq; split
  · simp
  · split
    · dsimp only; split <;> simp
    · rfl
@[simp] theorem spoilReset_sys (cause : Nat) (b : Block) : (spoilReset cause b).sys = b.sys := by
  unfold spoilReset denyReset; split
  · dsimp only; rw [Block.touch_sys]; split <;> simp
  · rfl
@[simp] theorem execFn_now (ssi : Bool) (cause ix : Nat) (next : LState) (b : Block) : (execFn ssi cause ix next b).sys.now = b.sys.now := by
  unfold execFn; dsimp only
  rw [Block.touch_sys, cnvMuzzle_sys, abortSeq_now, enterState_now, note_sys]
  split <;> split <;> simp

/-- The Latch after a function, field by field. -/
@[simp] theorem execFn_state (ssi : Bool) (cause ix : Nat) (next : LState) (b : Block) : (execFn ssi cause ix next b).latch.state = next :=
  congrArg Prod.fst (execFn_key ssi cause ix next b)
@[simp] theorem execFn_fn (ssi : Bool) (cause ix : Nat) (next : LState) (b : Block) :
    (execFn ssi cause ix next b).latch.fn = if ssi then .ssi else if b.latch.fn = .ssi then .ssi else .sps :=
  congrArg (fun x => x.2.1) (execFn_key ssi cause ix next b)
@[simp] theorem execFn_muzzle (ssi : Bool) (cause ix : Nat) (next : LState) (b : Block) : (execFn ssi cause ix next b).latch.muzzle = true :=
  congrArg (fun x => x.2.2.1) (execFn_key ssi cause ix next b)
@[simp] theorem execFn_cause (ssi : Bool) (cause ix : Nat) (next : LState) (b : Block) :
    (execFn ssi cause ix next b).latch.cause = if b.latch.fn = .none then cause else b.latch.cause :=
  congrArg (fun x => x.2.2.2.1) (execFn_key ssi cause ix next b)
@[simp] theorem execFn_causeIx (ssi : Bool) (cause ix : Nat) (next : LState) (b : Block) :
    (execFn ssi cause ix next b).latch.causeIx = if b.latch.fn = .none then ix else b.latch.causeIx :=
  congrArg (fun x => x.2.2.2.2.1) (execFn_key ssi cause ix next b)
@[simp] theorem execFn_acts (ssi : Bool) (cause ix : Nat) (next : LState) (b : Block) : (execFn ssi cause ix next b).latch.acts = b.latch.acts + 1 :=
  congrArg (fun x => x.2.2.2.2.2.1) (execFn_key ssi cause ix next b)
@[simp] theorem execFn_saOk (ssi : Bool) (cause ix : Nat) (next : LState) (b : Block) : (execFn ssi cause ix next b).latch.saOk = b.latch.saOk := by
  have h1 := congrArg (fun x => x.2.2.2.2.2.2.1) (execFn_key ssi cause ix next b)
  have h2 := congrArg (fun x => x.2.2.2.2.2.2.2) (execFn_key ssi cause ix next b)
  simp only [LatchPart.core] at h1 h2
  simp [LatchPart.saOk, h1, h2]
@[simp] theorem addCause_state (cause ix : Nat) (b : Block) : (addCause cause ix b).latch.state = b.latch.state := rfl
@[simp] theorem addCause_fn (cause ix : Nat) (b : Block) : (addCause cause ix b).latch.fn = b.latch.fn := rfl
@[simp] theorem addCause_muzzle (cause ix : Nat) (b : Block) : (addCause cause ix b).latch.muzzle = b.latch.muzzle := rfl
@[simp] theorem addCause_saOk (cause ix : Nat) (b : Block) : (addCause cause ix b).latch.saOk = b.latch.saOk := rfl

end Sys2Proof.Machine
end

