-- ==== Sys2Proof/Laws/Pieces.lean ====
section
/-! SUPPORT. The pieces of a block that the recorder, the interrupt sources and the service of a request leave alone. -/

set_option Elab.async false

namespace Sys2Proof.Machine

/-- The block but for what notices and interrupt sources change. -/
def Block.quiet (b : Block) : Block :=
  { b with log := { LogPart.fresh with keepGen := b.log.keepGen, keepRes := b.log.keepRes, word0 := b.log.word0, word1 := b.log.word1 }, img := b.bankPart,
           pol := { b.pol with pend := 0, rdir := 0, redirected := 0 } }

/-- And but for what the service of a request changes. -/
def Block.calm (b : Block) : Block :=
  { b.quiet with ix := { IxPart.fresh with owner := b.ix.owner, held := b.ix.held }, pwr := b.supplyPart, pol := { b.quiet.pol with engines := [] } }

theorem calm_of_quiet {a b : Block} (h : a.quiet = b.quiet) : a.calm = b.calm := by
  have k := congrArg (fun c : Block => { c with ix := { IxPart.fresh with owner := c.ix.owner, held := c.ix.held }, pwr := c.supplyPart, pol := { c.pol with engines := [] } }) h
  exact k

theorem keepPart_of_quiet {a b : Block} (h : a.quiet = b.quiet) : a.keepPart = b.keepPart := by have k := congrArg (fun c : Block => c.keepPart) h; exact k
theorem keepPart_of_calm {a b : Block} (h : a.calm = b.calm) : a.keepPart = b.keepPart := by have k := congrArg (fun c : Block => c.keepPart) h; exact k
theorem bankPart_of_quiet {a b : Block} (h : a.quiet = b.quiet) : a.bankPart = b.bankPart := by have k := congrArg (fun c : Block => c.bankPart) h; exact k
theorem bankPart_of_calm {a b : Block} (h : a.calm = b.calm) : a.bankPart = b.bankPart := by have k := congrArg (fun c : Block => c.bankPart) h; exact k
theorem engines_of_quiet {a b : Block} (h : a.quiet = b.quiet) : a.pol.engines = b.pol.engines := by have k := congrArg (fun c : Block => c.pol.engines) h; exact k
theorem chans_of_quiet {a b : Block} (h : a.quiet = b.quiet) : a.pol.chans = b.pol.chans := by have k := congrArg (fun c : Block => c.pol.chans) h; exact k
theorem chans_of_calm {a b : Block} (h : a.calm = b.calm) : a.pol.chans = b.pol.chans := by have k := congrArg (fun c : Block => c.pol.chans) h; exact k
theorem routePart_of_quiet {a b : Block} (h : a.quiet = b.quiet) : a.routePart = b.routePart := by have k := congrArg (fun c : Block => c.routePart) h; exact k
theorem routePart_of_calm {a b : Block} (h : a.calm = b.calm) : a.routePart = b.routePart := by have k := congrArg (fun c : Block => c.routePart) h; exact k
theorem ownPart_of_quiet {a b : Block} (h : a.quiet = b.quiet) : a.ownPart = b.ownPart := by have k := congrArg (fun c : Block => c.ownPart) h; exact k
theorem ownPart_of_calm {a b : Block} (h : a.calm = b.calm) : a.ownPart = b.ownPart := by have k := congrArg (fun c : Block => c.ownPart) h; exact k
theorem supplyPart_of_quiet {a b : Block} (h : a.quiet = b.quiet) : a.supplyPart = b.supplyPart := by have k := congrArg (fun c : Block => c.supplyPart) h; exact k
theorem supplyPart_of_calm {a b : Block} (h : a.calm = b.calm) : a.supplyPart = b.supplyPart := by have k := congrArg (fun c : Block => c.supplyPart) h; exact k

theorem Block.touch_quiet (ts : List Nat) (b : Block) : (b.touch ts).quiet = b.quiet := rfl
@[simp] theorem Block.touch_keepPart (ts : List Nat) (b : Block) : (b.touch ts).keepPart = b.keepPart := keepPart_of_quiet (Block.touch_quiet ..)
@[simp] theorem Block.touch_bankPart (ts : List Nat) (b : Block) : (b.touch ts).bankPart = b.bankPart := bankPart_of_quiet (Block.touch_quiet ..)
@[simp] theorem Block.touch_routePart (ts : List Nat) (b : Block) : (b.touch ts).routePart = b.routePart := routePart_of_quiet (Block.touch_quiet ..)
@[simp] theorem Block.touch_ownPart (ts : List Nat) (b : Block) : (b.touch ts).ownPart = b.ownPart := ownPart_of_quiet (Block.touch_quiet ..)
@[simp] theorem Block.touch_supplyPart (ts : List Nat) (b : Block) : (b.touch ts).supplyPart = b.supplyPart := supplyPart_of_quiet (Block.touch_quiet ..)

theorem putRecord_quiet (sev : Severity) (keep saf : Bool) (code src arg0 : Nat) (data : List Nat) (b : Block) :
    (putRecord sev keep saf code src arg0 data b).quiet = b.quiet := by
  have hf : ∀ (r : FastRec) (b : Block), (b.onLog (putFast r)).quiet = b.quiet := fun r b => by
    unfold putFast Block.onLog Block.quiet; dsimp only; split
    · rfl
    · split <;> rfl
  have hk : ∀ (r : KeepRec) (b : Block), (b.onLog (putKeep r)).quiet = b.quiet := fun r b => by
    unfold putKeep Block.onLog Block.quiet; dsimp only; split
    · rfl
    · split <;> rfl
  unfold putRecord
  cases keep
  · exact (hf _ _).trans (Block.touch_quiet ..)
  · exact (hk _ (Block.onLog (putFast _) (b.touch _))).trans ((hf _ _).trans (Block.touch_quiet ([0x18, 0x800 + b.log.fHead % 1024] ++ [0xC00 + b.log.kHead % 1024]) b))
@[simp] theorem putRecord_keepPart (sev : Severity) (keep saf : Bool) (code src arg0 : Nat) (data : List Nat) (b : Block) : (putRecord sev keep saf code src arg0 data b).keepPart = b.keepPart := keepPart_of_quiet (putRecord_quiet ..)
@[simp] theorem putRecord_bankPart (sev : Severity) (keep saf : Bool) (code src arg0 : Nat) (data : List Nat) (b : Block) : (putRecord sev keep saf code src arg0 data b).bankPart = b.bankPart := bankPart_of_quiet (putRecord_quiet ..)
@[simp] theorem putRecord_engines (sev : Severity) (keep saf : Bool) (code src arg0 : Nat) (data : List Nat) (b : Block) : (putRecord sev keep saf code src arg0 data b).pol.engines = b.pol.engines := engines_of_quiet (putRecord_quiet ..)
@[simp] theorem putRecord_chans (sev : Severity) (keep saf : Bool) (code src arg0 : Nat) (data : List Nat) (b : Block) : (putRecord sev keep saf code src arg0 data b).pol.chans = b.pol.chans := chans_of_quiet (putRecord_quiet ..)
@[simp] theorem putRecord_routePart (sev : Severity) (keep saf : Bool) (code src arg0 : Nat) (data : List Nat) (b : Block) : (putRecord sev keep saf code src arg0 data b).routePart = b.routePart := routePart_of_quiet (putRecord_quiet ..)
@[simp] theorem putRecord_ownPart (sev : Severity) (keep saf : Bool) (code src arg0 : Nat) (data : List Nat) (b : Block) : (putRecord sev keep saf code src arg0 data b).ownPart = b.ownPart := ownPart_of_quiet (putRecord_quiet ..)
@[simp] theorem putRecord_supplyPart (sev : Severity) (keep saf : Bool) (code src arg0 : Nat) (data : List Nat) (b : Block) : (putRecord sev keep saf code src arg0 data b).supplyPart = b.supplyPart := supplyPart_of_quiet (putRecord_quiet ..)

theorem recordEvent_quiet (sev : Severity) (code src arg0 : Nat) (data : List Nat) (b : Block) : (recordEvent sev code src arg0 data b).quiet = b.quiet := by
  have hs : ∀ b : Block, (b.onLog fun g => { g with safOvfN := g.safOvfN + 1, safeFull := true }).quiet = b.quiet := fun _ => rfl
  unfold recordEvent; split
  · exact putRecord_quiet ..
  · split
    · exact putRecord_quiet ..
    · dsimp only; split
      · rw [hs, putRecord_quiet]
      · rw [putRecord_quiet, hs, putRecord_quiet]
  · exact putRecord_quiet ..
@[simp] theorem recordEvent_keepPart (sev : Severity) (code src arg0 : Nat) (data : List Nat) (b : Block) : (recordEvent sev code src arg0 data b).keepPart = b.keepPart := keepPart_of_quiet (recordEvent_quiet ..)
@[simp] theorem recordEvent_bankPart (sev : Severity) (code src arg0 : Nat) (data : List Nat) (b : Block) : (recordEvent sev code src arg0 data b).bankPart = b.bankPart := bankPart_of_quiet (recordEvent_quiet ..)
@[simp] theorem recordEvent_engines (sev : Severity) (code src arg0 : Nat) (data : List Nat) (b : Block) : (recordEvent sev code src arg0 data b).pol.engines = b.pol.engines := engines_of_quiet (recordEvent_quiet ..)
@[simp] theorem recordEvent_chans (sev : Severity) (code src arg0 : Nat) (data : List Nat) (b : Block) : (recordEvent sev code src arg0 data b).pol.chans = b.pol.chans := chans_of_quiet (recordEvent_quiet ..)
@[simp] theorem recordEvent_routePart (sev : Severity) (code src arg0 : Nat) (data : List Nat) (b : Block) : (recordEvent sev code src arg0 data b).routePart = b.routePart := routePart_of_quiet (recordEvent_quiet ..)
@[simp] theorem recordEvent_ownPart (sev : Severity) (code src arg0 : Nat) (data : List Nat) (b : Block) : (recordEvent sev code src arg0 data b).ownPart = b.ownPart := ownPart_of_quiet (recordEvent_quiet ..)
@[simp] theorem recordEvent_supplyPart (sev : Severity) (code src arg0 : Nat) (data : List Nat) (b : Block) : (recordEvent sev code src arg0 data b).supplyPart = b.supplyPart := supplyPart_of_quiet (recordEvent_quiet ..)

theorem note_quiet (e : Event) (arg0 : Nat) (data : List Nat) (b : Block) : (note e arg0 data b).quiet = b.quiet := recordEvent_quiet ..
@[simp] theorem note_keepPart (e : Event) (arg0 : Nat) (data : List Nat) (b : Block) : (note e arg0 data b).keepPart = b.keepPart := keepPart_of_quiet (note_quiet ..)
@[simp] theorem note_bankPart (e : Event) (arg0 : Nat) (data : List Nat) (b : Block) : (note e arg0 data b).bankPart = b.bankPart := bankPart_of_quiet (note_quiet ..)
@[simp] theorem note_engines (e : Event) (arg0 : Nat) (data : List Nat) (b : Block) : (note e arg0 data b).pol.engines = b.pol.engines := engines_of_quiet (note_quiet ..)
@[simp] theorem note_chans (e : Event) (arg0 : Nat) (data : List Nat) (b : Block) : (note e arg0 data b).pol.chans = b.pol.chans := chans_of_quiet (note_quiet ..)
@[simp] theorem note_routePart (e : Event) (arg0 : Nat) (data : List Nat) (b : Block) : (note e arg0 data b).routePart = b.routePart := routePart_of_quiet (note_quiet ..)
@[simp] theorem note_ownPart (e : Event) (arg0 : Nat) (data : List Nat) (b : Block) : (note e arg0 data b).ownPart = b.ownPart := ownPart_of_quiet (note_quiet ..)
@[simp] theorem note_supplyPart (e : Event) (arg0 : Nat) (data : List Nat) (b : Block) : (note e arg0 data b).supplyPart = b.supplyPart := supplyPart_of_quiet (note_quiet ..)

theorem redirectOne_quiet (s : Nat) (b : Block) : (redirectOne s b).quiet = b.quiet := by
  unfold redirectOne; split
  · split
    · rfl
    · rw [note_quiet]; rfl
  · rfl
@[simp] theorem redirectOne_keepPart (s : Nat) (b : Block) : (redirectOne s b).keepPart = b.keepPart := keepPart_of_quiet (redirectOne_quiet ..)
@[simp] theorem redirectOne_bankPart (s : Nat) (b : Block) : (redirectOne s b).bankPart = b.bankPart := bankPart_of_quiet (redirectOne_quiet ..)
@[simp] theorem redirectOne_engines (s : Nat) (b : Block) : (redirectOne s b).pol.engines = b.pol.engines := engines_of_quiet (redirectOne_quiet ..)
@[simp] theorem redirectOne_chans (s : Nat) (b : Block) : (redirectOne s b).pol.chans = b.pol.chans := chans_of_quiet (redirectOne_quiet ..)
@[simp] theorem redirectOne_routePart (s : Nat) (b : Block) : (redirectOne s b).routePart = b.routePart := routePart_of_quiet (redirectOne_quiet ..)
@[simp] theorem redirectOne_ownPart (s : Nat) (b : Block) : (redirectOne s b).ownPart = b.ownPart := ownPart_of_quiet (redirectOne_quiet ..)
@[simp] theorem redirectOne_supplyPart (s : Nat) (b : Block) : (redirectOne s b).supplyPart = b.supplyPart := supplyPart_of_quiet (redirectOne_quiet ..)

theorem redirectAll_quiet  (b : Block) : (redirectAll b).quiet = b.quiet := foldl_keeps Block.quiet _ (fun _ _ => redirectOne_quiet _ _) _ _
@[simp] theorem redirectAll_keepPart  (b : Block) : (redirectAll b).keepPart = b.keepPart := keepPart_of_quiet (redirectAll_quiet ..)
@[simp] theorem redirectAll_bankPart  (b : Block) : (redirectAll b).bankPart = b.bankPart := bankPart_of_quiet (redirectAll_quiet ..)
@[simp] theorem redirectAll_engines  (b : Block) : (redirectAll b).pol.engines = b.pol.engines := engines_of_quiet (redirectAll_quiet ..)
@[simp] theorem redirectAll_chans  (b : Block) : (redirectAll b).pol.chans = b.pol.chans := chans_of_quiet (redirectAll_quiet ..)
@[simp] theorem redirectAll_routePart  (b : Block) : (redirectAll b).routePart = b.routePart := routePart_of_quiet (redirectAll_quiet ..)
@[simp] theorem redirectAll_ownPart  (b : Block) : (redirectAll b).ownPart = b.ownPart := ownPart_of_quiet (redirectAll_quiet ..)
@[simp] theorem redirectAll_supplyPart  (b : Block) : (redirectAll b).supplyPart = b.supplyPart := supplyPart_of_quiet (redirectAll_quiet ..)

theorem raiseIrq_quiet (s : Nat) (b : Block) : (raiseIrq s b).quiet = b.quiet := by unfold raiseIrq; rw [redirectOne_quiet]; rfl
@[simp] theorem raiseIrq_keepPart (s : Nat) (b : Block) : (raiseIrq s b).keepPart = b.keepPart := keepPart_of_quiet (raiseIrq_quiet ..)
@[simp] theorem raiseIrq_bankPart (s : Nat) (b : Block) : (raiseIrq s b).bankPart = b.bankPart := bankPart_of_quiet (raiseIrq_quiet ..)
@[simp] theorem raiseIrq_engines (s : Nat) (b : Block) : (raiseIrq s b).pol.engines = b.pol.engines := engines_of_quiet (raiseIrq_quiet ..)
@[simp] theorem raiseIrq_chans (s : Nat) (b : Block) : (raiseIrq s b).pol.chans = b.pol.chans := chans_of_quiet (raiseIrq_quiet ..)
@[simp] theorem raiseIrq_routePart (s : Nat) (b : Block) : (raiseIrq s b).routePart = b.routePart := routePart_of_quiet (raiseIrq_quiet ..)
@[simp] theorem raiseIrq_ownPart (s : Nat) (b : Block) : (raiseIrq s b).ownPart = b.ownPart := ownPart_of_quiet (raiseIrq_quiet ..)
@[simp] theorem raiseIrq_supplyPart (s : Nat) (b : Block) : (raiseIrq s b).supplyPart = b.supplyPart := supplyPart_of_quiet (raiseIrq_quiet ..)

theorem irqWatch_quiet (o : Block) (b : Block) : (irqWatch o b).quiet = b.quiet := by
  have h := foldl_keeps Block.quiet (fun b s => raiseIrq s b) (fun _ _ => raiseIrq_quiet _ _) (irqEdges o b) b
  unfold irqWatch; dsimp only; split
  · exact h
  · rw [redirectAll_quiet]; exact h
@[simp] theorem irqWatch_keepPart (o : Block) (b : Block) : (irqWatch o b).keepPart = b.keepPart := keepPart_of_quiet (irqWatch_quiet ..)
@[simp] theorem irqWatch_bankPart (o : Block) (b : Block) : (irqWatch o b).bankPart = b.bankPart := bankPart_of_quiet (irqWatch_quiet ..)
@[simp] theorem irqWatch_engines (o : Block) (b : Block) : (irqWatch o b).pol.engines = b.pol.engines := engines_of_quiet (irqWatch_quiet ..)
@[simp] theorem irqWatch_chans (o : Block) (b : Block) : (irqWatch o b).pol.chans = b.pol.chans := chans_of_quiet (irqWatch_quiet ..)
@[simp] theorem irqWatch_routePart (o : Block) (b : Block) : (irqWatch o b).routePart = b.routePart := routePart_of_quiet (irqWatch_quiet ..)
@[simp] theorem irqWatch_ownPart (o : Block) (b : Block) : (irqWatch o b).ownPart = b.ownPart := ownPart_of_quiet (irqWatch_quiet ..)
@[simp] theorem irqWatch_supplyPart (o : Block) (b : Block) : (irqWatch o b).supplyPart = b.supplyPart := supplyPart_of_quiet (irqWatch_quiet ..)

theorem Block.touch_calm (ts : List Nat) (b : Block) : (b.touch ts).calm = b.calm := calm_of_quiet (Block.touch_quiet ..)

theorem raiseIrq_calm (s : Nat) (b : Block) : (raiseIrq s b).calm = b.calm := calm_of_quiet (raiseIrq_quiet ..)

theorem onPe_calm (p : Nat) (f : PolEngine → PolEngine) (b : Block) : (onPe p f b).calm = b.calm := rfl
@[simp] theorem onPe_keepPart (p : Nat) (f : PolEngine → PolEngine) (b : Block) : (onPe p f b).keepPart = b.keepPart := keepPart_of_calm (onPe_calm ..)
@[simp] theorem onPe_bankPart (p : Nat) (f : PolEngine → PolEngine) (b : Block) : (onPe p f b).bankPart = b.bankPart := bankPart_of_calm (onPe_calm ..)
@[simp] theorem onPe_chans (p : Nat) (f : PolEngine → PolEngine) (b : Block) : (onPe p f b).pol.chans = b.pol.chans := chans_of_calm (onPe_calm ..)
@[simp] theorem onPe_routePart (p : Nat) (f : PolEngine → PolEngine) (b : Block) : (onPe p f b).routePart = b.routePart := routePart_of_calm (onPe_calm ..)
@[simp] theorem onPe_ownPart (p : Nat) (f : PolEngine → PolEngine) (b : Block) : (onPe p f b).ownPart = b.ownPart := ownPart_of_calm (onPe_calm ..)
@[simp] theorem onPe_supplyPart (p : Nat) (f : PolEngine → PolEngine) (b : Block) : (onPe p f b).supplyPart = b.supplyPart := supplyPart_of_calm (onPe_calm ..)

theorem vwrite_calm (p va : Nat) (bs : List Byte) (b : Block) : (vwrite p va bs b).calm = b.calm := by unfold vwrite; split <;> rfl
@[simp] theorem vwrite_keepPart (p va : Nat) (bs : List Byte) (b : Block) : (vwrite p va bs b).keepPart = b.keepPart := keepPart_of_calm (vwrite_calm ..)
@[simp] theorem vwrite_bankPart (p va : Nat) (bs : List Byte) (b : Block) : (vwrite p va bs b).bankPart = b.bankPart := bankPart_of_calm (vwrite_calm ..)
@[simp] theorem vwrite_chans (p va : Nat) (bs : List Byte) (b : Block) : (vwrite p va bs b).pol.chans = b.pol.chans := chans_of_calm (vwrite_calm ..)
@[simp] theorem vwrite_routePart (p va : Nat) (bs : List Byte) (b : Block) : (vwrite p va bs b).routePart = b.routePart := routePart_of_calm (vwrite_calm ..)
@[simp] theorem vwrite_ownPart (p va : Nat) (bs : List Byte) (b : Block) : (vwrite p va bs b).ownPart = b.ownPart := ownPart_of_calm (vwrite_calm ..)
@[simp] theorem vwrite_supplyPart (p va : Nat) (bs : List Byte) (b : Block) : (vwrite p va bs b).supplyPart = b.supplyPart := supplyPart_of_calm (vwrite_calm ..)

theorem onCq_ring_calm (p : Nat) (f : Cq → Cq) (b : Block) : (onCq (.ring p) f b).calm = b.calm := rfl
@[simp] theorem onCq_ring_keepPart (p : Nat) (f : Cq → Cq) (b : Block) : (onCq (.ring p) f b).keepPart = b.keepPart := keepPart_of_calm (onCq_ring_calm ..)
@[simp] theorem onCq_ring_bankPart (p : Nat) (f : Cq → Cq) (b : Block) : (onCq (.ring p) f b).bankPart = b.bankPart := bankPart_of_calm (onCq_ring_calm ..)
@[simp] theorem onCq_ring_chans (p : Nat) (f : Cq → Cq) (b : Block) : (onCq (.ring p) f b).pol.chans = b.pol.chans := chans_of_calm (onCq_ring_calm ..)
@[simp] theorem onCq_ring_routePart (p : Nat) (f : Cq → Cq) (b : Block) : (onCq (.ring p) f b).routePart = b.routePart := routePart_of_calm (onCq_ring_calm ..)
@[simp] theorem onCq_ring_ownPart (p : Nat) (f : Cq → Cq) (b : Block) : (onCq (.ring p) f b).ownPart = b.ownPart := ownPart_of_calm (onCq_ring_calm ..)
@[simp] theorem onCq_ring_supplyPart (p : Nat) (f : Cq → Cq) (b : Block) : (onCq (.ring p) f b).supplyPart = b.supplyPart := supplyPart_of_calm (onCq_ring_calm ..)

theorem putCq_ring_calm (p : Nat) (e : CqEntry) (b : Block) : (putCq (.ring p) e b).calm = b.calm := by
  unfold putCq; dsimp only; split
  · unfold signalCq; rw [raiseIrq_calm, onCq_ring_calm, onCq_ring_calm, vwrite_calm]
  · rw [onCq_ring_calm, vwrite_calm]
@[simp] theorem putCq_ring_keepPart (p : Nat) (e : CqEntry) (b : Block) : (putCq (.ring p) e b).keepPart = b.keepPart := keepPart_of_calm (putCq_ring_calm ..)
@[simp] theorem putCq_ring_bankPart (p : Nat) (e : CqEntry) (b : Block) : (putCq (.ring p) e b).bankPart = b.bankPart := bankPart_of_calm (putCq_ring_calm ..)
@[simp] theorem putCq_ring_chans (p : Nat) (e : CqEntry) (b : Block) : (putCq (.ring p) e b).pol.chans = b.pol.chans := chans_of_calm (putCq_ring_calm ..)
@[simp] theorem putCq_ring_routePart (p : Nat) (e : CqEntry) (b : Block) : (putCq (.ring p) e b).routePart = b.routePart := routePart_of_calm (putCq_ring_calm ..)
@[simp] theorem putCq_ring_ownPart (p : Nat) (e : CqEntry) (b : Block) : (putCq (.ring p) e b).ownPart = b.ownPart := ownPart_of_calm (putCq_ring_calm ..)
@[simp] theorem putCq_ring_supplyPart (p : Nat) (e : CqEntry) (b : Block) : (putCq (.ring p) e b).supplyPart = b.supplyPart := supplyPart_of_calm (putCq_ring_calm ..)

theorem pushCq_ring_calm (p : Nat) (e : CqEntry) (b : Block) : (pushCq (.ring p) e b).calm = b.calm := by
  unfold pushCq; dsimp only; split
  · rw [onCq_ring_calm]
  · rw [putCq_ring_calm]
@[simp] theorem pushCq_ring_keepPart (p : Nat) (e : CqEntry) (b : Block) : (pushCq (.ring p) e b).keepPart = b.keepPart := keepPart_of_calm (pushCq_ring_calm ..)
@[simp] theorem pushCq_ring_bankPart (p : Nat) (e : CqEntry) (b : Block) : (pushCq (.ring p) e b).bankPart = b.bankPart := bankPart_of_calm (pushCq_ring_calm ..)
@[simp] theorem pushCq_ring_chans (p : Nat) (e : CqEntry) (b : Block) : (pushCq (.ring p) e b).pol.chans = b.pol.chans := chans_of_calm (pushCq_ring_calm ..)
@[simp] theorem pushCq_ring_routePart (p : Nat) (e : CqEntry) (b : Block) : (pushCq (.ring p) e b).routePart = b.routePart := routePart_of_calm (pushCq_ring_calm ..)
@[simp] theorem pushCq_ring_ownPart (p : Nat) (e : CqEntry) (b : Block) : (pushCq (.ring p) e b).ownPart = b.ownPart := ownPart_of_calm (pushCq_ring_calm ..)
@[simp] theorem pushCq_ring_supplyPart (p : Nat) (e : CqEntry) (b : Block) : (pushCq (.ring p) e b).supplyPart = b.supplyPart := supplyPart_of_calm (pushCq_ring_calm ..)

theorem drainRing_calm (p : Nat) (b : Block) : (drainRing p b).calm = b.calm := by
  unfold drainRing; dsimp only; split
  · rfl
  · rw [onPe_calm]; exact foldl_keeps Block.calm _ (fun _ _ => pushCq_ring_calm _ _ _) _ _
@[simp] theorem drainRing_keepPart (p : Nat) (b : Block) : (drainRing p b).keepPart = b.keepPart := keepPart_of_calm (drainRing_calm ..)
@[simp] theorem drainRing_bankPart (p : Nat) (b : Block) : (drainRing p b).bankPart = b.bankPart := bankPart_of_calm (drainRing_calm ..)
@[simp] theorem drainRing_chans (p : Nat) (b : Block) : (drainRing p b).pol.chans = b.pol.chans := chans_of_calm (drainRing_calm ..)
@[simp] theorem drainRing_routePart (p : Nat) (b : Block) : (drainRing p b).routePart = b.routePart := routePart_of_calm (drainRing_calm ..)
@[simp] theorem drainRing_ownPart (p : Nat) (b : Block) : (drainRing p b).ownPart = b.ownPart := ownPart_of_calm (drainRing_calm ..)
@[simp] theorem drainRing_supplyPart (p : Nat) (b : Block) : (drainRing p b).supplyPart = b.supplyPart := supplyPart_of_calm (drainRing_calm ..)

theorem finishRing_calm (p k st : Nat) (data : List Byte) (b : Block) : (finishRing p k st data b).calm = b.calm := by
  unfold finishRing; split
  · rfl
  · dsimp only; rw [drainRing_calm, pushCq_ring_calm, onPe_calm]; split
    · rfl
    · rw [vwrite_calm]
@[simp] theorem finishRing_keepPart (p k st : Nat) (data : List Byte) (b : Block) : (finishRing p k st data b).keepPart = b.keepPart := keepPart_of_calm (finishRing_calm ..)
@[simp] theorem finishRing_bankPart (p k st : Nat) (data : List Byte) (b : Block) : (finishRing p k st data b).bankPart = b.bankPart := bankPart_of_calm (finishRing_calm ..)
@[simp] theorem finishRing_chans (p k st : Nat) (data : List Byte) (b : Block) : (finishRing p k st data b).pol.chans = b.pol.chans := chans_of_calm (finishRing_calm ..)
@[simp] theorem finishRing_routePart (p k st : Nat) (data : List Byte) (b : Block) : (finishRing p k st data b).routePart = b.routePart := routePart_of_calm (finishRing_calm ..)
@[simp] theorem finishRing_ownPart (p k st : Nat) (data : List Byte) (b : Block) : (finishRing p k st data b).ownPart = b.ownPart := ownPart_of_calm (finishRing_calm ..)
@[simp] theorem finishRing_supplyPart (p k st : Nat) (data : List Byte) (b : Block) : (finishRing p k st data b).supplyPart = b.supplyPart := supplyPart_of_calm (finishRing_calm ..)

theorem rejectRing_calm (p k st addr : Nat) (b : Block) : (rejectRing p k st addr b).calm = b.calm := pushCq_ring_calm ..
@[simp] theorem rejectRing_keepPart (p k st addr : Nat) (b : Block) : (rejectRing p k st addr b).keepPart = b.keepPart := keepPart_of_calm (rejectRing_calm ..)
@[simp] theorem rejectRing_bankPart (p k st addr : Nat) (b : Block) : (rejectRing p k st addr b).bankPart = b.bankPart := bankPart_of_calm (rejectRing_calm ..)
@[simp] theorem rejectRing_chans (p k st addr : Nat) (b : Block) : (rejectRing p k st addr b).pol.chans = b.pol.chans := chans_of_calm (rejectRing_calm ..)
@[simp] theorem rejectRing_routePart (p k st addr : Nat) (b : Block) : (rejectRing p k st addr b).routePart = b.routePart := routePart_of_calm (rejectRing_calm ..)
@[simp] theorem rejectRing_ownPart (p k st addr : Nat) (b : Block) : (rejectRing p k st addr b).ownPart = b.ownPart := ownPart_of_calm (rejectRing_calm ..)
@[simp] theorem rejectRing_supplyPart (p k st addr : Nat) (b : Block) : (rejectRing p k st addr b).supplyPart = b.supplyPart := supplyPart_of_calm (rejectRing_calm ..)

theorem passRing_calm (p k : Nat) (b : Block) : (passRing p k b).calm = b.calm := rfl
@[simp] theorem passRing_keepPart (p k : Nat) (b : Block) : (passRing p k b).keepPart = b.keepPart := keepPart_of_calm (passRing_calm ..)
@[simp] theorem passRing_bankPart (p k : Nat) (b : Block) : (passRing p k b).bankPart = b.bankPart := bankPart_of_calm (passRing_calm ..)
@[simp] theorem passRing_chans (p k : Nat) (b : Block) : (passRing p k b).pol.chans = b.pol.chans := chans_of_calm (passRing_calm ..)
@[simp] theorem passRing_routePart (p k : Nat) (b : Block) : (passRing p k b).routePart = b.routePart := routePart_of_calm (passRing_calm ..)
@[simp] theorem passRing_ownPart (p k : Nat) (b : Block) : (passRing p k b).ownPart = b.ownPart := ownPart_of_calm (passRing_calm ..)
@[simp] theorem passRing_supplyPart (p k : Nat) (b : Block) : (passRing p k b).supplyPart = b.supplyPart := supplyPart_of_calm (passRing_calm ..)

theorem sendReply_calm (r : Reply) (b : Block) : (sendReply r b).calm = b.calm := rfl
@[simp] theorem sendReply_keepPart (r : Reply) (b : Block) : (sendReply r b).keepPart = b.keepPart := keepPart_of_calm (sendReply_calm ..)
@[simp] theorem sendReply_bankPart (r : Reply) (b : Block) : (sendReply r b).bankPart = b.bankPart := bankPart_of_calm (sendReply_calm ..)
@[simp] theorem sendReply_chans (r : Reply) (b : Block) : (sendReply r b).pol.chans = b.pol.chans := chans_of_calm (sendReply_calm ..)
@[simp] theorem sendReply_routePart (r : Reply) (b : Block) : (sendReply r b).routePart = b.routePart := routePart_of_calm (sendReply_calm ..)
@[simp] theorem sendReply_ownPart (r : Reply) (b : Block) : (sendReply r b).ownPart = b.ownPart := ownPart_of_calm (sendReply_calm ..)
@[simp] theorem sendReply_supplyPart (r : Reply) (b : Block) : (sendReply r b).supplyPart = b.supplyPart := supplyPart_of_calm (sendReply_calm ..)

theorem onEntry_calm (i seq : Nat) (f : CacheEntry → CacheEntry) (b : Block) : (onEntry i seq f b).calm = b.calm := rfl
@[simp] theorem onEntry_keepPart (i seq : Nat) (f : CacheEntry → CacheEntry) (b : Block) : (onEntry i seq f b).keepPart = b.keepPart := keepPart_of_calm (onEntry_calm ..)
@[simp] theorem onEntry_bankPart (i seq : Nat) (f : CacheEntry → CacheEntry) (b : Block) : (onEntry i seq f b).bankPart = b.bankPart := bankPart_of_calm (onEntry_calm ..)
@[simp] theorem onEntry_chans (i seq : Nat) (f : CacheEntry → CacheEntry) (b : Block) : (onEntry i seq f b).pol.chans = b.pol.chans := chans_of_calm (onEntry_calm ..)
@[simp] theorem onEntry_routePart (i seq : Nat) (f : CacheEntry → CacheEntry) (b : Block) : (onEntry i seq f b).routePart = b.routePart := routePart_of_calm (onEntry_calm ..)
@[simp] theorem onEntry_ownPart (i seq : Nat) (f : CacheEntry → CacheEntry) (b : Block) : (onEntry i seq f b).ownPart = b.ownPart := ownPart_of_calm (onEntry_calm ..)
@[simp] theorem onEntry_supplyPart (i seq : Nat) (f : CacheEntry → CacheEntry) (b : Block) : (onEntry i seq f b).supplyPart = b.supplyPart := supplyPart_of_calm (onEntry_calm ..)

theorem journalStart_calm (src : Src) (op : Nat) (b : Block) : (journalStart src op b).calm = b.calm := rfl
@[simp] theorem journalStart_keepPart (src : Src) (op : Nat) (b : Block) : (journalStart src op b).keepPart = b.keepPart := keepPart_of_calm (journalStart_calm ..)
@[simp] theorem journalStart_bankPart (src : Src) (op : Nat) (b : Block) : (journalStart src op b).bankPart = b.bankPart := bankPart_of_calm (journalStart_calm ..)
@[simp] theorem journalStart_chans (src : Src) (op : Nat) (b : Block) : (journalStart src op b).pol.chans = b.pol.chans := chans_of_calm (journalStart_calm ..)
@[simp] theorem journalStart_routePart (src : Src) (op : Nat) (b : Block) : (journalStart src op b).routePart = b.routePart := routePart_of_calm (journalStart_calm ..)
@[simp] theorem journalStart_ownPart (src : Src) (op : Nat) (b : Block) : (journalStart src op b).ownPart = b.ownPart := ownPart_of_calm (journalStart_calm ..)
@[simp] theorem journalStart_supplyPart (src : Src) (op : Nat) (b : Block) : (journalStart src op b).supplyPart = b.supplyPart := supplyPart_of_calm (journalStart_calm ..)

theorem journalMark_calm (src : Src) (b : Block) : (journalMark src b).calm = b.calm := rfl
@[simp] theorem journalMark_keepPart (src : Src) (b : Block) : (journalMark src b).keepPart = b.keepPart := keepPart_of_calm (journalMark_calm ..)
@[simp] theorem journalMark_bankPart (src : Src) (b : Block) : (journalMark src b).bankPart = b.bankPart := bankPart_of_calm (journalMark_calm ..)
@[simp] theorem journalMark_chans (src : Src) (b : Block) : (journalMark src b).pol.chans = b.pol.chans := chans_of_calm (journalMark_calm ..)
@[simp] theorem journalMark_routePart (src : Src) (b : Block) : (journalMark src b).routePart = b.routePart := routePart_of_calm (journalMark_calm ..)
@[simp] theorem journalMark_ownPart (src : Src) (b : Block) : (journalMark src b).ownPart = b.ownPart := ownPart_of_calm (journalMark_calm ..)
@[simp] theorem journalMark_supplyPart (src : Src) (b : Block) : (journalMark src b).supplyPart = b.supplyPart := supplyPart_of_calm (journalMark_calm ..)

theorem complete_calm (src : Src) (st : Status) (data : List Byte) (b : Block) : (complete src st data b).calm = b.calm := by
  unfold complete; dsimp only; split
  · split <;> rfl
  · rw [finishRing_calm]; rfl
@[simp] theorem complete_keepPart (src : Src) (st : Status) (data : List Byte) (b : Block) : (complete src st data b).keepPart = b.keepPart := keepPart_of_calm (complete_calm ..)
@[simp] theorem complete_bankPart (src : Src) (st : Status) (data : List Byte) (b : Block) : (complete src st data b).bankPart = b.bankPart := bankPart_of_calm (complete_calm ..)
@[simp] theorem complete_chans (src : Src) (st : Status) (data : List Byte) (b : Block) : (complete src st data b).pol.chans = b.pol.chans := chans_of_calm (complete_calm ..)
@[simp] theorem complete_routePart (src : Src) (st : Status) (data : List Byte) (b : Block) : (complete src st data b).routePart = b.routePart := routePart_of_calm (complete_calm ..)
@[simp] theorem complete_ownPart (src : Src) (st : Status) (data : List Byte) (b : Block) : (complete src st data b).ownPart = b.ownPart := ownPart_of_calm (complete_calm ..)
@[simp] theorem complete_supplyPart (src : Src) (st : Status) (data : List Byte) (b : Block) : (complete src st data b).supplyPart = b.supplyPart := supplyPart_of_calm (complete_calm ..)

theorem refuse_calm (src : Src) (op : Nat) (st : Status) (b : Block) : (refuse src op st b).calm = b.calm := by
  unfold refuse; split
  · rfl
  · rw [rejectRing_calm, passRing_calm]
@[simp] theorem refuse_keepPart (src : Src) (op : Nat) (st : Status) (b : Block) : (refuse src op st b).keepPart = b.keepPart := keepPart_of_calm (refuse_calm ..)
@[simp] theorem refuse_bankPart (src : Src) (op : Nat) (st : Status) (b : Block) : (refuse src op st b).bankPart = b.bankPart := bankPart_of_calm (refuse_calm ..)
@[simp] theorem refuse_chans (src : Src) (op : Nat) (st : Status) (b : Block) : (refuse src op st b).pol.chans = b.pol.chans := chans_of_calm (refuse_calm ..)
@[simp] theorem refuse_routePart (src : Src) (op : Nat) (st : Status) (b : Block) : (refuse src op st b).routePart = b.routePart := routePart_of_calm (refuse_calm ..)
@[simp] theorem refuse_ownPart (src : Src) (op : Nat) (st : Status) (b : Block) : (refuse src op st b).ownPart = b.ownPart := ownPart_of_calm (refuse_calm ..)
@[simp] theorem refuse_supplyPart (src : Src) (op : Nat) (st : Status) (b : Block) : (refuse src op st b).supplyPart = b.supplyPart := supplyPart_of_calm (refuse_calm ..)

theorem acceptRequest_calm (src : Src) (op : Nat) (ps : List Byte) (started : Bool) (b : Block) : (acceptRequest src op ps started b).calm = b.calm := by cases src <;> rfl
@[simp] theorem acceptRequest_keepPart (src : Src) (op : Nat) (ps : List Byte) (started : Bool) (b : Block) : (acceptRequest src op ps started b).keepPart = b.keepPart := keepPart_of_calm (acceptRequest_calm ..)
@[simp] theorem acceptRequest_bankPart (src : Src) (op : Nat) (ps : List Byte) (started : Bool) (b : Block) : (acceptRequest src op ps started b).bankPart = b.bankPart := bankPart_of_calm (acceptRequest_calm ..)
@[simp] theorem acceptRequest_chans (src : Src) (op : Nat) (ps : List Byte) (started : Bool) (b : Block) : (acceptRequest src op ps started b).pol.chans = b.pol.chans := chans_of_calm (acceptRequest_calm ..)
@[simp] theorem acceptRequest_routePart (src : Src) (op : Nat) (ps : List Byte) (started : Bool) (b : Block) : (acceptRequest src op ps started b).routePart = b.routePart := routePart_of_calm (acceptRequest_calm ..)
@[simp] theorem acceptRequest_ownPart (src : Src) (op : Nat) (ps : List Byte) (started : Bool) (b : Block) : (acceptRequest src op ps started b).ownPart = b.ownPart := ownPart_of_calm (acceptRequest_calm ..)
@[simp] theorem acceptRequest_supplyPart (src : Src) (op : Nat) (ps : List Byte) (started : Bool) (b : Block) : (acceptRequest src op ps started b).supplyPart = b.supplyPart := supplyPart_of_calm (acceptRequest_calm ..)

theorem beginRequest_calm (src : Src) (b : Block) : (beginRequest src b).calm = b.calm := by cases src <;> rfl
@[simp] theorem beginRequest_keepPart (src : Src) (b : Block) : (beginRequest src b).keepPart = b.keepPart := keepPart_of_calm (beginRequest_calm ..)
@[simp] theorem beginRequest_bankPart (src : Src) (b : Block) : (beginRequest src b).bankPart = b.bankPart := bankPart_of_calm (beginRequest_calm ..)
@[simp] theorem beginRequest_chans (src : Src) (b : Block) : (beginRequest src b).pol.chans = b.pol.chans := chans_of_calm (beginRequest_calm ..)
@[simp] theorem beginRequest_routePart (src : Src) (b : Block) : (beginRequest src b).routePart = b.routePart := routePart_of_calm (beginRequest_calm ..)
@[simp] theorem beginRequest_ownPart (src : Src) (b : Block) : (beginRequest src b).ownPart = b.ownPart := ownPart_of_calm (beginRequest_calm ..)
@[simp] theorem beginRequest_supplyPart (src : Src) (b : Block) : (beginRequest src b).supplyPart = b.supplyPart := supplyPart_of_calm (beginRequest_calm ..)

theorem sendPend_calm (i seq : Nat) (b : Block) : (sendPend i seq b).calm = b.calm := by unfold sendPend; split <;> rfl
@[simp] theorem sendPend_keepPart (i seq : Nat) (b : Block) : (sendPend i seq b).keepPart = b.keepPart := keepPart_of_calm (sendPend_calm ..)
@[simp] theorem sendPend_bankPart (i seq : Nat) (b : Block) : (sendPend i seq b).bankPart = b.bankPart := bankPart_of_calm (sendPend_calm ..)
@[simp] theorem sendPend_chans (i seq : Nat) (b : Block) : (sendPend i seq b).pol.chans = b.pol.chans := chans_of_calm (sendPend_calm ..)
@[simp] theorem sendPend_routePart (i seq : Nat) (b : Block) : (sendPend i seq b).routePart = b.routePart := routePart_of_calm (sendPend_calm ..)
@[simp] theorem sendPend_ownPart (i seq : Nat) (b : Block) : (sendPend i seq b).ownPart = b.ownPart := ownPart_of_calm (sendPend_calm ..)
@[simp] theorem sendPend_supplyPart (i seq : Nat) (b : Block) : (sendPend i seq b).supplyPart = b.supplyPart := supplyPart_of_calm (sendPend_calm ..)

theorem duplicate_calm (i seq op : Nat) (e : CacheEntry) (b : Block) : (duplicate i seq op e b).calm = b.calm := by
  unfold duplicate; split
  · rfl
  · split
    · rw [sendPend_calm]
    · rfl
@[simp] theorem duplicate_keepPart (i seq op : Nat) (e : CacheEntry) (b : Block) : (duplicate i seq op e b).keepPart = b.keepPart := keepPart_of_calm (duplicate_calm ..)
@[simp] theorem duplicate_bankPart (i seq op : Nat) (e : CacheEntry) (b : Block) : (duplicate i seq op e b).bankPart = b.bankPart := bankPart_of_calm (duplicate_calm ..)
@[simp] theorem duplicate_chans (i seq op : Nat) (e : CacheEntry) (b : Block) : (duplicate i seq op e b).pol.chans = b.pol.chans := chans_of_calm (duplicate_calm ..)
@[simp] theorem duplicate_routePart (i seq op : Nat) (e : CacheEntry) (b : Block) : (duplicate i seq op e b).routePart = b.routePart := routePart_of_calm (duplicate_calm ..)
@[simp] theorem duplicate_ownPart (i seq op : Nat) (e : CacheEntry) (b : Block) : (duplicate i seq op e b).ownPart = b.ownPart := ownPart_of_calm (duplicate_calm ..)
@[simp] theorem duplicate_supplyPart (i seq op : Nat) (e : CacheEntry) (b : Block) : (duplicate i seq op e b).supplyPart = b.supplyPart := supplyPart_of_calm (duplicate_calm ..)

@[simp] theorem sendReply_engines (r : Reply) (b : Block) : (sendReply r b).pol.engines = b.pol.engines := rfl
@[simp] theorem onEntry_engines (i seq : Nat) (f : CacheEntry → CacheEntry) (b : Block) : (onEntry i seq f b).pol.engines = b.pol.engines := rfl
@[simp] theorem journalStart_engines (src : Src) (op : Nat) (b : Block) : (journalStart src op b).pol.engines = b.pol.engines := rfl
@[simp] theorem journalMark_engines (src : Src) (b : Block) : (journalMark src b).pol.engines = b.pol.engines := rfl
@[simp] theorem complete_session_engines (i seq : Nat) (st : Status) (data : List Byte) (b : Block) : (complete (.session i seq) st data b).pol.engines = b.pol.engines := by
  unfold complete; dsimp only; split <;> rfl
@[simp] theorem refuse_session_engines (i seq op : Nat) (st : Status) (b : Block) : (refuse (.session i seq) op st b).pol.engines = b.pol.engines := rfl
@[simp] theorem acceptRequest_session_engines (i seq op : Nat) (ps : List Byte) (started : Bool) (b : Block) : (acceptRequest (.session i seq) op ps started b).pol.engines = b.pol.engines := rfl
@[simp] theorem beginRequest_session_engines (i seq : Nat) (b : Block) : (beginRequest (.session i seq) b).pol.engines = b.pol.engines := rfl
@[simp] theorem sendPend_engines (i seq : Nat) (b : Block) : (sendPend i seq b).pol.engines = b.pol.engines := by unfold sendPend; split <;> rfl
@[simp] theorem duplicate_engines (i seq op : Nat) (e : CacheEntry) (b : Block) : (duplicate i seq op e b).pol.engines = b.pol.engines := by
  unfold duplicate; split
  · rfl
  · split
    · rw [sendPend_engines]
    · rfl
@[simp] theorem Block.onSys_keepPart (f : SysPart → SysPart) (b : Block) : (b.onSys f).keepPart = b.keepPart := rfl
@[simp] theorem Block.onSys_bankPart (f : SysPart → SysPart) (b : Block) : (b.onSys f).bankPart = b.bankPart := rfl
@[simp] theorem Block.onSys_routePart (f : SysPart → SysPart) (b : Block) : (b.onSys f).routePart = b.routePart := rfl
@[simp] theorem Block.onSys_ownPart (f : SysPart → SysPart) (b : Block) : (b.onSys f).ownPart = b.ownPart := rfl
@[simp] theorem Block.onSys_supplyPart (f : SysPart → SysPart) (b : Block) : (b.onSys f).supplyPart = b.supplyPart := rfl
@[simp] theorem Block.onLog_bankPart (f : LogPart → LogPart) (b : Block) : (b.onLog f).bankPart = b.bankPart := rfl
@[simp] theorem Block.onLog_routePart (f : LogPart → LogPart) (b : Block) : (b.onLog f).routePart = b.routePart := rfl
@[simp] theorem Block.onLog_ownPart (f : LogPart → LogPart) (b : Block) : (b.onLog f).ownPart = b.ownPart := rfl
@[simp] theorem Block.onLog_supplyPart (f : LogPart → LogPart) (b : Block) : (b.onLog f).supplyPart = b.supplyPart := rfl
@[simp] theorem Block.onIx_keepPart (f : IxPart → IxPart) (b : Block) : (b.onIx f).keepPart = b.keepPart := rfl
@[simp] theorem Block.onIx_bankPart (f : IxPart → IxPart) (b : Block) : (b.onIx f).bankPart = b.bankPart := rfl
@[simp] theorem Block.onIx_routePart (f : IxPart → IxPart) (b : Block) : (b.onIx f).routePart = b.routePart := rfl
@[simp] theorem Block.onIx_supplyPart (f : IxPart → IxPart) (b : Block) : (b.onIx f).supplyPart = b.supplyPart := rfl
@[simp] theorem Block.onImg_keepPart (f : ImgPart → ImgPart) (b : Block) : (b.onImg f).keepPart = b.keepPart := rfl
@[simp] theorem Block.onImg_routePart (f : ImgPart → ImgPart) (b : Block) : (b.onImg f).routePart = b.routePart := rfl
@[simp] theorem Block.onImg_ownPart (f : ImgPart → ImgPart) (b : Block) : (b.onImg f).ownPart = b.ownPart := rfl
@[simp] theorem Block.onImg_supplyPart (f : ImgPart → ImgPart) (b : Block) : (b.onImg f).supplyPart = b.supplyPart := rfl
@[simp] theorem Block.onLeash_keepPart (f : LeashPart → LeashPart) (b : Block) : (b.onLeash f).keepPart = b.keepPart := rfl
@[simp] theorem Block.onLeash_bankPart (f : LeashPart → LeashPart) (b : Block) : (b.onLeash f).bankPart = b.bankPart := rfl
@[simp] theorem Block.onLeash_routePart (f : LeashPart → LeashPart) (b : Block) : (b.onLeash f).routePart = b.routePart := rfl
@[simp] theorem Block.onLeash_ownPart (f : LeashPart → LeashPart) (b : Block) : (b.onLeash f).ownPart = b.ownPart := rfl
@[simp] theorem Block.onLeash_supplyPart (f : LeashPart → LeashPart) (b : Block) : (b.onLeash f).supplyPart = b.supplyPart := rfl
@[simp] theorem Block.onRing_keepPart (f : RingPart → RingPart) (b : Block) : (b.onRing f).keepPart = b.keepPart := rfl
@[simp] theorem Block.onRing_bankPart (f : RingPart → RingPart) (b : Block) : (b.onRing f).bankPart = b.bankPart := rfl
@[simp] theorem Block.onRing_routePart (f : RingPart → RingPart) (b : Block) : (b.onRing f).routePart = b.routePart := rfl
@[simp] theorem Block.onRing_ownPart (f : RingPart → RingPart) (b : Block) : (b.onRing f).ownPart = b.ownPart := rfl
@[simp] theorem Block.onRing_supplyPart (f : RingPart → RingPart) (b : Block) : (b.onRing f).supplyPart = b.supplyPart := rfl
@[simp] theorem Block.onSense_keepPart (f : SensePart → SensePart) (b : Block) : (b.onSense f).keepPart = b.keepPart := rfl
@[simp] theorem Block.onSense_bankPart (f : SensePart → SensePart) (b : Block) : (b.onSense f).bankPart = b.bankPart := rfl
@[simp] theorem Block.onSense_routePart (f : SensePart → SensePart) (b : Block) : (b.onSense f).routePart = b.routePart := rfl
@[simp] theorem Block.onSense_ownPart (f : SensePart → SensePart) (b : Block) : (b.onSense f).ownPart = b.ownPart := rfl
@[simp] theorem Block.onSense_supplyPart (f : SensePart → SensePart) (b : Block) : (b.onSense f).supplyPart = b.supplyPart := rfl
@[simp] theorem Block.onBark_keepPart (f : BarkPart → BarkPart) (b : Block) : (b.onBark f).keepPart = b.keepPart := rfl
@[simp] theorem Block.onBark_bankPart (f : BarkPart → BarkPart) (b : Block) : (b.onBark f).bankPart = b.bankPart := rfl
@[simp] theorem Block.onBark_routePart (f : BarkPart → BarkPart) (b : Block) : (b.onBark f).routePart = b.routePart := rfl
@[simp] theorem Block.onBark_ownPart (f : BarkPart → BarkPart) (b : Block) : (b.onBark f).ownPart = b.ownPart := rfl
@[simp] theorem Block.onBark_supplyPart (f : BarkPart → BarkPart) (b : Block) : (b.onBark f).supplyPart = b.supplyPart := rfl
@[simp] theorem Block.onBal_keepPart (f : BalPart → BalPart) (b : Block) : (b.onBal f).keepPart = b.keepPart := rfl
@[simp] theorem Block.onBal_bankPart (f : BalPart → BalPart) (b : Block) : (b.onBal f).bankPart = b.bankPart := rfl
@[simp] theorem Block.onBal_routePart (f : BalPart → BalPart) (b : Block) : (b.onBal f).routePart = b.routePart := rfl
@[simp] theorem Block.onBal_ownPart (f : BalPart → BalPart) (b : Block) : (b.onBal f).ownPart = b.ownPart := rfl
@[simp] theorem Block.onBal_supplyPart (f : BalPart → BalPart) (b : Block) : (b.onBal f).supplyPart = b.supplyPart := rfl
@[simp] theorem Block.onFlt_keepPart (f : FltPart → FltPart) (b : Block) : (b.onFlt f).keepPart = b.keepPart := rfl
@[simp] theorem Block.onFlt_bankPart (f : FltPart → FltPart) (b : Block) : (b.onFlt f).bankPart = b.bankPart := rfl
@[simp] theorem Block.onFlt_routePart (f : FltPart → FltPart) (b : Block) : (b.onFlt f).routePart = b.routePart := rfl
@[simp] theorem Block.onFlt_ownPart (f : FltPart → FltPart) (b : Block) : (b.onFlt f).ownPart = b.ownPart := rfl
@[simp] theorem Block.onFlt_supplyPart (f : FltPart → FltPart) (b : Block) : (b.onFlt f).supplyPart = b.supplyPart := rfl
@[simp] theorem Block.onLatch_keepPart (f : LatchPart → LatchPart) (b : Block) : (b.onLatch f).keepPart = b.keepPart := rfl
@[simp] theorem Block.onLatch_bankPart (f : LatchPart → LatchPart) (b : Block) : (b.onLatch f).bankPart = b.bankPart := rfl
@[simp] theorem Block.onLatch_routePart (f : LatchPart → LatchPart) (b : Block) : (b.onLatch f).routePart = b.routePart := rfl
@[simp] theorem Block.onLatch_ownPart (f : LatchPart → LatchPart) (b : Block) : (b.onLatch f).ownPart = b.ownPart := rfl
@[simp] theorem Block.onLatch_supplyPart (f : LatchPart → LatchPart) (b : Block) : (b.onLatch f).supplyPart = b.supplyPart := rfl
@[simp] theorem Block.onCnv_keepPart (f : CnvPart → CnvPart) (b : Block) : (b.onCnv f).keepPart = b.keepPart := rfl
@[simp] theorem Block.onCnv_bankPart (f : CnvPart → CnvPart) (b : Block) : (b.onCnv f).bankPart = b.bankPart := rfl
@[simp] theorem Block.onCnv_routePart (f : CnvPart → CnvPart) (b : Block) : (b.onCnv f).routePart = b.routePart := rfl
@[simp] theorem Block.onCnv_ownPart (f : CnvPart → CnvPart) (b : Block) : (b.onCnv f).ownPart = b.ownPart := rfl
@[simp] theorem Block.onCnv_supplyPart (f : CnvPart → CnvPart) (b : Block) : (b.onCnv f).supplyPart = b.supplyPart := rfl
@[simp] theorem Block.onImp_keepPart (f : ImpPart → ImpPart) (b : Block) : (b.onImp f).keepPart = b.keepPart := rfl
@[simp] theorem Block.onImp_bankPart (f : ImpPart → ImpPart) (b : Block) : (b.onImp f).bankPart = b.bankPart := rfl
@[simp] theorem Block.onImp_routePart (f : ImpPart → ImpPart) (b : Block) : (b.onImp f).routePart = b.routePart := rfl
@[simp] theorem Block.onImp_ownPart (f : ImpPart → ImpPart) (b : Block) : (b.onImp f).ownPart = b.ownPart := rfl
@[simp] theorem Block.onImp_supplyPart (f : ImpPart → ImpPart) (b : Block) : (b.onImp f).supplyPart = b.supplyPart := rfl
@[simp] theorem Block.onLoop_keepPart (f : LoopPart → LoopPart) (b : Block) : (b.onLoop f).keepPart = b.keepPart := rfl
@[simp] theorem Block.onLoop_bankPart (f : LoopPart → LoopPart) (b : Block) : (b.onLoop f).bankPart = b.bankPart := rfl
@[simp] theorem Block.onLoop_routePart (f : LoopPart → LoopPart) (b : Block) : (b.onLoop f).routePart = b.routePart := rfl
@[simp] theorem Block.onLoop_ownPart (f : LoopPart → LoopPart) (b : Block) : (b.onLoop f).ownPart = b.ownPart := rfl
@[simp] theorem Block.onLoop_supplyPart (f : LoopPart → LoopPart) (b : Block) : (b.onLoop f).supplyPart = b.supplyPart := rfl
@[simp] theorem Block.onThm_keepPart (f : ThmPart → ThmPart) (b : Block) : (b.onThm f).keepPart = b.keepPart := rfl
@[simp] theorem Block.onThm_bankPart (f : ThmPart → ThmPart) (b : Block) : (b.onThm f).bankPart = b.bankPart := rfl
@[simp] theorem Block.onThm_routePart (f : ThmPart → ThmPart) (b : Block) : (b.onThm f).routePart = b.routePart := rfl
@[simp] theorem Block.onThm_ownPart (f : ThmPart → ThmPart) (b : Block) : (b.onThm f).ownPart = b.ownPart := rfl
@[simp] theorem Block.onThm_supplyPart (f : ThmPart → ThmPart) (b : Block) : (b.onThm f).supplyPart = b.supplyPart := rfl
@[simp] theorem Block.onNet_keepPart (f : NetPart → NetPart) (b : Block) : (b.onNet f).keepPart = b.keepPart := rfl
@[simp] theorem Block.onNet_bankPart (f : NetPart → NetPart) (b : Block) : (b.onNet f).bankPart = b.bankPart := rfl
@[simp] theorem Block.onNet_routePart (f : NetPart → NetPart) (b : Block) : (b.onNet f).routePart = b.routePart := rfl
@[simp] theorem Block.onNet_ownPart (f : NetPart → NetPart) (b : Block) : (b.onNet f).ownPart = b.ownPart := rfl
@[simp] theorem Block.onNet_supplyPart (f : NetPart → NetPart) (b : Block) : (b.onNet f).supplyPart = b.supplyPart := rfl
@[simp] theorem Block.onPwr_keepPart (f : PwrPart → PwrPart) (b : Block) : (b.onPwr f).keepPart = b.keepPart := rfl
@[simp] theorem Block.onPwr_bankPart (f : PwrPart → PwrPart) (b : Block) : (b.onPwr f).bankPart = b.bankPart := rfl
@[simp] theorem Block.onPwr_routePart (f : PwrPart → PwrPart) (b : Block) : (b.onPwr f).routePart = b.routePart := rfl
@[simp] theorem Block.onPwr_ownPart (f : PwrPart → PwrPart) (b : Block) : (b.onPwr f).ownPart = b.ownPart := rfl
@[simp] theorem Block.onSec_keepPart (f : SecPart → SecPart) (b : Block) : (b.onSec f).keepPart = b.keepPart := rfl
@[simp] theorem Block.onSec_bankPart (f : SecPart → SecPart) (b : Block) : (b.onSec f).bankPart = b.bankPart := rfl
@[simp] theorem Block.onSec_routePart (f : SecPart → SecPart) (b : Block) : (b.onSec f).routePart = b.routePart := rfl
@[simp] theorem Block.onSec_ownPart (f : SecPart → SecPart) (b : Block) : (b.onSec f).ownPart = b.ownPart := rfl
@[simp] theorem Block.onSec_supplyPart (f : SecPart → SecPart) (b : Block) : (b.onSec f).supplyPart = b.supplyPart := rfl
@[simp] theorem Block.onUpd_keepPart (f : UpdPart → UpdPart) (b : Block) : (b.onUpd f).keepPart = b.keepPart := rfl
@[simp] theorem Block.onUpd_bankPart (f : UpdPart → UpdPart) (b : Block) : (b.onUpd f).bankPart = b.bankPart := rfl
@[simp] theorem Block.onUpd_routePart (f : UpdPart → UpdPart) (b : Block) : (b.onUpd f).routePart = b.routePart := rfl
@[simp] theorem Block.onUpd_ownPart (f : UpdPart → UpdPart) (b : Block) : (b.onUpd f).ownPart = b.ownPart := rfl
@[simp] theorem Block.onUpd_supplyPart (f : UpdPart → UpdPart) (b : Block) : (b.onUpd f).supplyPart = b.supplyPart := rfl
@[simp] theorem Block.onPol_keepPart (f : PolPart → PolPart) (b : Block) : (b.onPol f).keepPart = b.keepPart := rfl
@[simp] theorem Block.onPol_bankPart (f : PolPart → PolPart) (b : Block) : (b.onPol f).bankPart = b.bankPart := rfl
@[simp] theorem Block.onPol_ownPart (f : PolPart → PolPart) (b : Block) : (b.onPol f).ownPart = b.ownPart := rfl
@[simp] theorem Block.onPol_supplyPart (f : PolPart → PolPart) (b : Block) : (b.onPol f).supplyPart = b.supplyPart := rfl
@[simp] theorem settingChanged_keepPart (b : Block) : (settingChanged b).keepPart = b.keepPart := rfl
@[simp] theorem settingChanged_bankPart (b : Block) : (settingChanged b).bankPart = b.bankPart := rfl
@[simp] theorem settingChanged_routePart (b : Block) : (settingChanged b).routePart = b.routePart := rfl
@[simp] theorem settingChanged_ownPart (b : Block) : (settingChanged b).ownPart = b.ownPart := rfl
@[simp] theorem settingChanged_supplyPart (b : Block) : (settingChanged b).supplyPart = b.supplyPart := rfl
@[simp] theorem settingsDue_keepPart (b : Block) : (settingsDue b).keepPart = b.keepPart := rfl
@[simp] theorem settingsDue_bankPart (b : Block) : (settingsDue b).bankPart = b.bankPart := rfl
@[simp] theorem settingsDue_routePart (b : Block) : (settingsDue b).routePart = b.routePart := rfl
@[simp] theorem settingsDue_ownPart (b : Block) : (settingsDue b).ownPart = b.ownPart := rfl
@[simp] theorem settingsDue_supplyPart (b : Block) : (settingsDue b).supplyPart = b.supplyPart := rfl
@[simp] theorem Block.at_keepPart (t : Nat) (b : Block) : (b.at t).keepPart = b.keepPart := rfl
@[simp] theorem Block.at_bankPart (t : Nat) (b : Block) : (b.at t).bankPart = b.bankPart := rfl
@[simp] theorem Block.at_routePart (t : Nat) (b : Block) : (b.at t).routePart = b.routePart := rfl
@[simp] theorem Block.at_ownPart (t : Nat) (b : Block) : (b.at t).ownPart = b.ownPart := rfl
@[simp] theorem Block.at_supplyPart (t : Nat) (b : Block) : (b.at t).supplyPart = b.supplyPart := rfl
@[simp] theorem Block.drew_keepPart (b : Block) : (b.drew).keepPart = b.keepPart := rfl
@[simp] theorem Block.drew_bankPart (b : Block) : (b.drew).bankPart = b.bankPart := rfl
@[simp] theorem Block.drew_routePart (b : Block) : (b.drew).routePart = b.routePart := rfl
@[simp] theorem Block.drew_ownPart (b : Block) : (b.drew).ownPart = b.ownPart := rfl
@[simp] theorem Block.drew_supplyPart (b : Block) : (b.drew).supplyPart = b.supplyPart := rfl

end Sys2Proof.Machine
end

