-- ==== Sys2Proof/Laws/Ends.lean ====
section
/-! SUPPORT. How a command's end is shown: its own effect, then the interrupt sources. -/

set_option Elab.async false

namespace Sys2Proof.Machine

/-- An event that leaves the block settled. -/
theorem ends_event {i : Instr} {s : State} {f : Block → Block} {P : Block → Prop} (hi : exec i s = effect f s) (hb : (f s.block).settled = true)
    (hP : P (irqWatch s.block (f s.block))) : Ends i s P :=
  ⟨_, hi.trans (effect_settled hb), rfl, hP⟩

/-- A module whose Latch has not acted: the interlock leaves its state. -/
theorem interlock_sys {b : Block} (h : b.latch.state.acting = false) : (interlock b).sys = b.sys := by
  unfold interlock
  have hg : ∀ c : Block, (lockGates c).sys = c.sys := fun c => by unfold lockGates; split <;> simp
  have hm : ∀ c : Block, (lockMuzzle c).sys = c.sys := fun c => by unfold lockMuzzle; split <;> simp
  have hl : (lockMuzzle b).latch.state = b.latch.state := by unfold lockMuzzle; split <;> simp
  have hs : lockState (lockMuzzle b) = lockMuzzle b := by unfold lockState; simp [hl, h]
  rw [hs, hg, hm]

theorem not_acting {b : Block} (h : b.settled = true) (hh : b.hinge = false) (hm : b.sys.mstate ∈ [MState.boot, .park, .run, .hibernate]) :
    b.latch.state.acting = false := by
  have h := (settled_iff.mp h).1
  simp only [Block.safePath, Bool.and_eq_true, Bool.or_eq_true, Bool.not_eq_true', decide_eq_true_eq] at h
  rcases h.2 with ((h | h) | h) | h
  · exact h
  · simp [h] at hh
  · simp [h] at hm
  · simp [h] at hm

theorem raise_mstate {e : Event} {a : Nat} {d : List Nat} {b : Block} (h : e.stopsConverter = true) (hh : b.hinge = false)
    (hm : b.sys.mstate ∈ [MState.boot, .park, .run, .hibernate]) : (raise e a d b).sys.mstate = .fault := by
  unfold raise; dsimp only; rw [if_neg (by simp [h]), if_pos]
  · unfold enterState changeState
    rw [if_neg, changeNow_mstate]
    simpa [Block.hinge] using hh
  · simpa using hm

/-- A command that changes the module's state or the Latch: what the interlock leaves of its effect. -/
theorem ends_controlled {i : Instr} {s : State} {f : Block → Block} {P : Block → Prop} (hi : exec i s = effect f s) (hset : s.block.settled = true)
    (hsec : (f s.block).sec = s.block.sec) (hsa : (f s.block).latch.saOk = s.block.latch.saOk)
    (hm : (f s.block).latch.state = .armed ∨ (f s.block).latch.muzzle = true)
    (hP : ∀ c : Block, c.uncontrolled = (f s.block).uncontrolled → c.sys.core = (f s.block).sys.core →
      ((f s.block).latch.state.acting = false → c.sys = (f s.block).sys) → P (irqWatch s.block c)) : Ends i s P := by
  obtain ⟨-, h2, h3⟩ := settled_iff.mp hset
  refine ⟨_, hi, rfl, ?_⟩
  rw [← hsec] at h2 h3; rw [← hsa] at h3
  dsimp only; rw [debugWatch_eq h2 h3]
  exact hP _ (interlock_uncontrolled hm) (interlock_skey _) interlock_sys

/-- An admitted request whose command leaves the block settled. -/
theorem ends_host {i : Instr} {s : State} {src : Src} {rule : Block → HostRule} {op : Nat} {owner : Bool} {P : Block → Prop}
    (hi : exec i s = effect (host src rule) s) (ha : s.block.admits src op owner = true) (ho : (rule s.block).opcode = op)
    (hw : (rule s.block).owner = owner) (hs : (rule s.block).stateOk = true) (hp : (rule s.block).param = none)
    (hb : ((rule s.block).act (journalStart src op (acceptRequest src op [] true s.block))).settled = true)
    (hP : P (irqWatch s.block ((rule s.block).act (journalStart src op (acceptRequest src op [] true s.block))))) : Ends i s P := by
  have e := host_admitted ha ho hw hs hp
  refine ends_event hi ?_ ?_
  · rw [e]; exact hb
  · rw [e]; exact hP

/-- Only the named parts change, part by part. -/
theorem changesOnly_iff (o b : Block) (l : List PartName) : o.changesOnly b l ↔ ∀ p, p ∈ l ∨ o.same b p := by
  unfold Block.changesOnly
  exact forall_congr' fun p => by by_cases h : p ∈ l <;> simp [h]

theorem answered_irqWatch {o b : Block} {src : Src} {st : Status} {d : List Byte} (h : b.answered src st d) : (irqWatch o b).answered src st d :=
  answered_of_same (irqWatch_ix ..) (irqWatch_runs ..) h

theorem answered_touch {ts : List Nat} {b : Block} {src : Src} {st : Status} {d : List Byte} (h : b.answered src st d) : (b.touch ts).answered src st d := by
  cases src <;> exact h

/-- A reply completes an admitted request, whatever else has happened to the block since its acceptance. -/
theorem answered_complete {src : Src} {st st' : Status} {d d' : List Byte} {op : Nat} {owner : Bool} {b b' : Block} (ha : b.admits src op owner = true)
    (hs : st' = st) (hd : d' = d) (hx : b'.ix = (acceptRequest src op [] true b).ix) : (complete src st' d' b').answered src st d := by
  subst hs; subst hd
  exact complete_answered fun i seq hs => accepted_entry ha hx i seq hs

/-- The banks of the image and the failed checks are not changed by the service of a command. -/
@[simp] theorem frontTile_touch (ts : List Nat) (t : Nat) (b : Block) : (b.touch ts).frontTile t = b.frontTile t := rfl
@[simp] theorem frontTile_journalStart (src : Src) (op t : Nat) (b : Block) : (journalStart src op b).frontTile t = b.frontTile t := rfl
@[simp] theorem frontTile_acceptRequest (src : Src) (op t : Nat) (ps : List Byte) (st : Bool) (b : Block) : (acceptRequest src op ps st b).frontTile t = b.frontTile t := by
  cases src <;> rfl
@[simp] theorem tilesStatus_journalStart (src : Src) (op : Nat) (ts : List Nat) (b : Block) : (journalStart src op b).tilesStatus ts = b.tilesStatus ts := rfl
@[simp] theorem tilesStatus_acceptRequest (src : Src) (op : Nat) (ts : List Nat) (ps : List Byte) (st : Bool) (b : Block) :
    (acceptRequest src op ps st b).tilesStatus ts = b.tilesStatus ts := by cases src <;> rfl

end Sys2Proof.Machine
end

