-- ==== Sys2Proof/Laws/Accept.lean ====
section
/-! SUPPORT. An accepted request leaves owner and epoch alone, and completes with the status and the data given. -/

namespace Sys2Proof.Machine
@[simp] theorem acceptRequest_owner (src : Src) (op : Nat) (ps : List Byte) (st : Bool) (b : Block) : (acceptRequest src op ps st b).ix.owner = b.ix.owner := by cases src <;> rfl
@[simp] theorem acceptRequest_ownerByte (src : Src) (op : Nat) (ps : List Byte) (st : Bool) (b : Block) : (acceptRequest src op ps st b).ownerByte = b.ownerByte := by cases src <;> rfl
@[simp] theorem journalStart_ownerByte (src : Src) (op : Nat) (b : Block) : (journalStart src op b).ownerByte = b.ownerByte := rfl
@[simp] theorem acceptRequest_epoch (src : Src) (op : Nat) (ps : List Byte) (st : Bool) (b : Block) : (acceptRequest src op ps st b).img.epoch = b.img.epoch := by cases src <;> rfl
@[simp] theorem touch_epoch (ts : List Nat) (b : Block) : (b.touch ts).img.epoch = b.img.epoch := rfl
@[simp] theorem complete_owner (src : Src) (st : Status) (d : List Byte) (b : Block) : (complete src st d b).ix.owner = b.ix.owner := by
  have := congrArg Prod.fst (complete_ownPart src st d b); exact this
theorem answered_complete_sessions {src : Src} {st st' : Status} {d d' : List Byte} {op : Nat} {owner : Bool} {b b' : Block} (ha : b.admits src op owner = true)
    (hs : st' = st) (hd : d' = d) (hx : b'.ix.sessions = (acceptRequest src op [] true b).ix.sessions) : (complete src st' d' b').answered src st d := by
  subst hs; subst hd
  refine complete_answered fun i seq h => ?_
  obtain ⟨e, he⟩ := accepted_entry ha rfl i seq h
  exact ⟨e, by simpa [Block.entry?, Block.session, hx] using he⟩
theorem answered_complete_entry {src : Src} {st st' : Status} {d d' : List Byte} {op : Nat} {owner : Bool} {b b' : Block} (ha : b.admits src op owner = true)
    (hs : st' = st) (hd : d' = d) (hx : ∀ i q, src = .session i q → b'.entry? i q = (acceptRequest src op [] true b).entry? i q) : (complete src st' d' b').answered src st d := by
  subst hs; subst hd
  refine complete_answered fun i seq h => ?_
  obtain ⟨e, he⟩ := accepted_entry ha rfl i seq h
  exact ⟨e, by rw [hx i seq h]; exact he⟩
end Sys2Proof.Machine
end

