-- ==== Sys2Proof/Laws/Bytes.lean ====
section
/-! SUPPORT. Laws of little-endian fields and of CRC-32C. -/

set_option Elab.async false

namespace Sys2Proof.Machine

/-- `n` little-endian bytes of a number. -/
@[simp] theorem leBytes_length (n v : Nat) : (leBytes n v).length = n := by
  induction n generalizing v <;> simp [leBytes, *]

/-- Bytes written little-endian read back as the number, modulo what the bytes can hold. -/
theorem leNat_leBytes (n v : Nat) : leNat (leBytes n v) = v % 256 ^ n := by
  induction n generalizing v with
  | zero => simp [leBytes, leNat, Nat.mod_one]
  | succ n ih =>
    have h : v % 256 ^ (n + 1) = v % 256 + 256 * (v / 256 % 256 ^ n) := by rw [pow_succ', Nat.mod_mul]
    simp [leBytes, leNat, ih, h]

/-- A field beyond a prefix is a field of the rest. -/
theorem leField_append (a b : List Byte) (o n : Nat) : leField (a ++ b) (a.length + o) n = leField b o n := by
  rw [leField, leField, ← List.drop_drop, List.drop_left]

/-- Word `i` of a table of little-endian words. -/
theorem leField_table (w : Nat) (l : List Nat) (b : List Byte) (i : Nat) (h : i < l.length) (hb : ∀ v ∈ l, v < 256 ^ w) :
    leField (l.flatMap (leBytes w) ++ b) (w * i) w = l.getD i 0 := by
  induction l generalizing i with
  | nil => simp at h
  | cons v l ih =>
    have hv := hb v (by simp)
    cases i with
    | zero => simp [leField, leNat_leBytes, Nat.mod_eq_of_lt hv]
    | succ i =>
      have := leField_append (leBytes w v) (l.flatMap (leBytes w) ++ b) (w * i) w
      rw [leBytes_length] at this
      rw [List.flatMap_cons, List.append_assoc, show w * (i + 1) = w + w * i by ring, this,
        ih i (by simpa using h) fun v hv => hb v (by simp [hv])]
      simp

/-- A CRC-32C has 32 bits. -/
theorem crc32c_lt (bs : List Byte) : crc32c bs < 2 ^ 32 := by
  have hb : ∀ x, x < 2 ^ 32 → crcBit 0x82F63B78 x < 2 ^ 32 := by
    intro x hx
    unfold crcBit
    split
    · exact Nat.xor_lt_two_pow (by omega) (by norm_num)
    · omega
  have hf : ∀ (bs : List Byte) x, x < 2 ^ 32 → bs.foldl (crcByte 0x82F63B78) x < 2 ^ 32 := by
    intro bs
    induction bs with
    | nil => intro x hx; exact hx
    | cons a l ih =>
      intro x hx
      apply ih
      unfold crcByte
      have : x.xor a.toNat < 2 ^ 32 := Nat.xor_lt_two_pow hx (by have := a.isLt; omega)
      exact hb _ <| hb _ <| hb _ <| hb _ <| hb _ <| hb _ <| hb _ <| hb _ this
  exact Nat.xor_lt_two_pow (hf bs _ (by norm_num)) (by norm_num)

end Sys2Proof.Machine
end

