-- ==== Sys2Proof/Laws/Mem.lean ====
section
/-! SUPPORT. The byte memories: every operation keeps the canonical form, a byte written is read back, and every other byte stays. -/

set_option Elab.async false

namespace Sys2Proof.Machine

variable {d v : Byte} {m : Mem} {lo hi a c : Nat}

theorem memWf_mono (h : memWf d hi m = true) (hl : lo ≤ hi) : memWf d lo m = true := by
  cases m with
  | nil => rfl
  | cons x t => obtain ⟨k, w⟩ := x; simp only [memWf, Bool.and_eq_true, decide_eq_true_eq] at h ⊢; exact ⟨⟨by omega, h.1.2⟩, h.2⟩

/-- Below its lowest address a memory reads as unlisted. -/
theorem memGet_below (h : memWf d lo m = true) (ha : a < lo) : memGet d m a = d := by
  cases m with
  | nil => rfl
  | cons x t =>
    obtain ⟨k, w⟩ := x
    simp only [memWf, Bool.and_eq_true, decide_eq_true_eq] at h
    simp only [memGet]; rw [if_pos (by omega)]

/-- A store keeps the canonical form. -/
theorem memWf_memPut (h : memWf d lo m = true) (ha : lo ≤ a) : memWf d lo (memPut d a v m) = true := by
  induction m generalizing lo with
  | nil => unfold memPut; split <;> simp [memWf, *]
  | cons x t ih =>
    obtain ⟨k, w⟩ := x
    simp only [memWf, Bool.and_eq_true, decide_eq_true_eq] at h
    unfold memPut
    split
    · split <;> simp only [memWf, Bool.and_eq_true, decide_eq_true_eq]
      · exact h
      · exact ⟨⟨ha, ‹_›⟩, ⟨by omega, h.1.2⟩, h.2⟩
    · split
      · subst a; split
        · exact memWf_mono h.2 (by omega)
        · simp only [memWf, Bool.and_eq_true, decide_eq_true_eq]; exact ⟨⟨ha, ‹_›⟩, h.2⟩
      · simp only [memWf, Bool.and_eq_true, decide_eq_true_eq]; exact ⟨h.1, ih h.2 (by omega)⟩

/-- The byte stored is read back and every other byte reads as before. -/
theorem memGet_memPut (h : memWf d lo m = true) : memGet d (memPut d a v m) c = if c = a then v else memGet d m c := by
  induction m generalizing lo with
  | nil =>
    unfold memPut; split
    · subst v; simp [memGet]
    · simp only [memGet]; split
      · rw [if_neg (by omega)]
      · rfl
  | cons x t ih =>
    obtain ⟨k, w⟩ := x
    simp only [memWf, Bool.and_eq_true, decide_eq_true_eq] at h
    unfold memPut
    split
    · split
      · subst v; split
        · subst c; simp only [memGet]; rw [if_pos ‹_›]
        · rfl
      · simp only [memGet]
        by_cases h1 : c < a
        · rw [if_pos h1, if_neg (by omega), if_pos (by omega)]
        · rw [if_neg h1]
    · split
      · subst a; split
        · subst v; simp only [memGet]
          by_cases h1 : c = k
          · subst c; rw [if_pos rfl]; exact memGet_below h.2 (by omega)
          · rw [if_neg h1]
            by_cases h2 : c < k
            · rw [if_pos h2]; exact memGet_below h.2 (by omega)
            · rw [if_neg h2, if_neg h1]
        · simp only [memGet]
          by_cases h1 : c = k
          · subst c; simp
          · simp [h1]
      · simp only [memGet, ih h.2]
        by_cases h1 : c < k
        · rw [if_pos h1, if_pos h1, if_neg (by omega)]
        · rw [if_neg h1, if_neg h1]
          by_cases h2 : c = k
          · rw [if_pos h2, if_pos h2, if_neg (by omega)]
          · rw [if_neg h2, if_neg h2]

/-- A store of bytes keeps the canonical form. -/
theorem memWf_memWrite {bs : List Byte} (h : memWf d lo m = true) (ha : lo ≤ a) : memWf d lo (memWrite d a bs m) = true := by
  induction bs generalizing a m with
  | nil => exact h
  | cons v vs ih => exact ih (memWf_memPut h ha) (by omega)

/-- Outside the bytes stored, a memory reads as before. -/
theorem memGet_memWrite_outside {bs : List Byte} (h : memWf d lo m = true) (ha : lo ≤ a) (hc : c < a ∨ a + bs.length ≤ c) :
    memGet d (memWrite d a bs m) c = memGet d m c := by
  induction bs generalizing a m with
  | nil => rfl
  | cons v vs ih =>
    simp only [List.length_cons] at hc
    unfold memWrite
    rw [ih (memWf_memPut h ha) (by omega) (by omega), memGet_memPut h, if_neg (by omega)]

/-- The bytes stored are read back. -/
theorem memGet_memWrite_inside {bs : List Byte} {i : Nat} (h : memWf d lo m = true) (ha : lo ≤ a) (hi : i < bs.length) :
    memGet d (memWrite d a bs m) (a + i) = bs[i] := by
  induction bs generalizing a m i with
  | nil => simp at hi
  | cons v vs ih =>
    unfold memWrite
    cases i with
    | zero => rw [memGet_memWrite_outside (memWf_memPut h ha) (by omega) (by omega), memGet_memPut h]; simp
    | succ i =>
      have := ih (a := a + 1) (m := memPut d a v m) (i := i) (memWf_memPut h ha) (by omega) (by simpa using hi)
      rw [show a + (i + 1) = a + 1 + i by omega, this]; simp

/-- Leaving entries out keeps the canonical form. -/
theorem memWf_filter {p : Host.Cell → Bool} (h : memWf d lo m = true) : memWf d lo (m.filter p) = true := by
  induction m generalizing lo with
  | nil => rfl
  | cons x t ih =>
    obtain ⟨k, w⟩ := x
    simp only [memWf, Bool.and_eq_true, decide_eq_true_eq] at h
    simp only [List.filter]
    split
    · simp only [memWf, Bool.and_eq_true, decide_eq_true_eq]; exact ⟨h.1, ih h.2⟩
    · exact memWf_mono (ih h.2) (by omega)

theorem memWf_memErase (h : memWf d lo m = true) : memWf d lo (memErase a c m) = true := memWf_filter h

/-- What an erase leaves. -/
theorem memGet_memErase (h : memWf d lo m = true) {e f : Nat} : memGet d (memErase e f m) c = if e ≤ c ∧ c < f then d else memGet d m c := by
  induction m generalizing lo with
  | nil => simp [memErase, memGet]
  | cons x t ih =>
    obtain ⟨k, w⟩ := x
    simp only [memWf, Bool.and_eq_true, decide_eq_true_eq] at h
    have ih := ih h.2
    unfold memErase at ih ⊢
    simp only [List.filter]
    by_cases hk : k < e ∨ f ≤ k
    · have hp : (decide (k < e) || decide (f ≤ k)) = true := by simpa using hk
      rw [hp]; simp only [memGet, ih]
      by_cases h1 : c < k
      · rw [if_pos h1, if_pos h1]; split <;> rfl
      · rw [if_neg h1, if_neg h1]
        by_cases h2 : c = k
        · rw [if_pos h2, if_pos h2, if_neg (by omega)]
        · rw [if_neg h2, if_neg h2]
    · have hp : (decide (k < e) || decide (f ≤ k)) = false := by simpa using hk
      rw [hp]; simp only [ih, memGet]
      by_cases h1 : c < k
      · rw [if_pos h1, memGet_below h.2 (by omega)]
      · rw [if_neg h1]
        by_cases h2 : c = k
        · have hc : e ≤ c ∧ c < f := by omega
          rw [if_pos h2, if_pos hc, if_pos hc]
        · rw [if_neg h2]

/-- Bytes read inside a stored string are those of the string. -/
theorem memRead_memWrite {d : Byte} {lo a o n : Nat} {m : Mem} {bs : List Byte} (h : memWf d lo m = true) (ha : lo ≤ a) (hn : o + n ≤ bs.length) :
    memRead d (memWrite d a bs m) (a + o) n = (bs.drop o).take n := by
  apply List.ext_getElem
  · simp [memRead]; omega
  · intro i h1 h2
    have hi : i < n := by simpa [memRead] using h1
    have := memGet_memWrite_inside h ha (show o + i < bs.length by omega)
    simp [memRead, Nat.add_assoc, this]

/-- Bytes read beside a stored string are as before. -/
theorem memRead_memWrite_outside {d : Byte} {lo a c n : Nat} {m : Mem} {bs : List Byte} (h : memWf d lo m = true) (ha : lo ≤ a) (hc : c + n ≤ a ∨ a + bs.length ≤ c) :
    memRead d (memWrite d a bs m) c n = memRead d m c n := by
  apply List.map_congr_left
  intro i hi
  rw [List.mem_range] at hi
  exact memGet_memWrite_outside h ha (by omega)

end Sys2Proof.Machine
end

