-- ==== Sys2Proof/WellFormed.lean ====
section
/-! DEFINITION. Well-formed commands: every operand lies in the field that carries it, every requester and every list has the shape its rule gives. The range
checks of a command's rule (R329 check 13) are the command's own and are made by its meaning. -/

namespace Sys2Proof

/-- Unsigned and signed fields by their width in bits (R11). -/
def u8 (n : Nat) : Bool := decide (n < 2 ^ 8)
def u16 (n : Nat) : Bool := decide (n < 2 ^ 16)
def u24 (n : Nat) : Bool := decide (n < 2 ^ 24)
def u32 (n : Nat) : Bool := decide (n < 2 ^ 32)
def u48 (n : Nat) : Bool := decide (n < 2 ^ 48)
def u64 (n : Nat) : Bool := decide (n < 2 ^ 64)
def s8 (v : Int) : Bool := decide (-(2 ^ 7) ≤ v ∧ v < 2 ^ 7)
def s16 (v : Int) : Bool := decide (-(2 ^ 15) ≤ v ∧ v < 2 ^ 15)
def s32 (v : Int) : Bool := decide (-(2 ^ 31) ≤ v ∧ v < 2 ^ 31)

namespace Machine

/-- A requester is one of four sessions with a u16 SEQ (R327), or one of two policy engines (R438). -/
def Src.wf : Src → Bool
  | .session i seq => decide (i < 4) && u16 seq
  | .engine p _ => decide (p < 2)

/-- A snapshot frame carries 24-bit words (R43, R44). -/
def Snapshot.wf (x : Snapshot) : Bool :=
  decide (x.cells.length ≤ 512 ∧ x.t2b.length ≤ 16 ∧ x.status.length ≤ 16) && x.cells.all u24 && x.t2b.all u24 && x.therm.all u24 && u24 x.pri && u24 x.sec && u24 x.strV && u24 x.iso
    && x.status.all u8 && u64 x.count && x.pairs.all fun p => decide (p.1 ≤ 512)

/-- An uplink frame and an IDENT message (R210, R211). -/
def Uplink.wf (x : Uplink) : Bool := u8 x.stat && s16 x.i && u8 x.muxId && u16 x.mux
def GduIdent.wf (x : GduIdent) : Bool := u16 x.vendor && u16 x.model && u32 x.serial && u16 x.iRated && u16 x.vMax && u16 x.lNom && u16 x.uLat && u16 x.firmware

/-- The readings of an open-wire test are within twice the string's range (R103). -/
def OwtReading.wf (x : OwtReading) : Bool :=
  s32 x.testNow && x.otherNow.all s32 && x.pair.all s32 && s32 x.dI && [x.othersSum, x.t2b, x.stringSum, x.divider, x.boundarySum, x.boundaryPrev].all fun v => decide (v.natAbs < 2 ^ 40)

/-- The parameters of NET_SET_IP, NET_SET_PTP and CAN_SET_CONFIG in their fields (R401). -/
def IpSet.wf (x : IpSet) : Bool := u32 x.addr && u32 x.mask && u32 x.gw && u16 x.vlan && u8 x.pcp && u8 x.mode
def PtpSet.wf (x : PtpSet) : Bool := u8 x.profile && u8 x.role && u8 x.domain && u8 x.prio1 && u8 x.prio2 && s8 x.logSync && u32 x.lockThr && u32 x.stepThr
def CanSet.wf (x : CanSet) : Bool := u32 x.nbt && u32 x.dbt && u8 x.node && u16 x.hbPeriod && u32 x.base && u8 x.rqOwn && u16 x.rqLen

/-- Frames of the networks (R377, R379, R383, R392). -/
def CanFrame.wf (x : CanFrame) : Bool := u32 x.idw && u32 x.ctlw && decide (x.data.length = 64)
def EthFrame.wf (x : EthFrame) : Bool := u48 x.mac && x.vlan.all (fun v => decide (v < 4096)) && x.rct.all (fun r => u16 r.1 && decide (r.2 < 2)) && u16 x.len
def PtpMsg.wf : PtpMsg → Bool
  | .announce a => u64 a.gm && u8 a.prio1 && u8 a.clockClass && u8 a.accuracy && u16 a.variance && u8 a.prio2 && u16 a.steps && s16 a.utc
  | .sync _ seq _ _ _ => u16 seq
  | .followUp _ seq _ _ => u16 seq
  | .delayReq _ seq => u16 seq
  | .delayResp seq _ _ => u16 seq
  | .pdelayReq _ seq => u16 seq
  | .pdelayResp seq _ _ _ => u16 seq
  | .pdelayRespFollowUp seq _ _ => u16 seq
  | .other => true

/-- A debug access names a 32-bit address and one of x0 to x31 or the program counter (R473). -/
def DbgPart.wf : DbgPart → Bool
  | .tap => true
  | .engine _ => true
  | .image a => u32 a
  | .flash a => u32 a
  | .keepStore a => u32 a
  | .kennel a => u32 a
  | .registers a => u32 a
  | .never => true
def DbgOp.wf : DbgOp → Bool
  | .idcode => true
  | .halt => true
  | .resume => true
  | .step => true
  | .readReg n => decide (n ≤ 32)
  | .writeReg n v => decide (n ≤ 32) && u32 v
  | .readMem a => u32 a
  | .writeMem a v => u32 a && u32 v

end Machine

/-- The command is well-formed. -/
def Instr.wf : Instr → Bool
  | .powerStart => true
  | .leadRelease => true
  | .engineLoadDone => true
  | .aperture count => u64 count
  | .shutterClose count => u64 count
  | .shutterOpen count => u64 count
  | .conversionComplete _ => true
  | .segmentFrame _ rung => decide (rung ≤ 16)
  | .snapshotFrameStart => true
  | .snapshotFrame frame => frame.wf
  | .syncSetDownstream => true
  | .syncSetUpstream => true
  | .syncSetReceived _ _ _ count roundTrip => u64 count && u32 roundTrip
  | .tripRepeat _ => true
  | .leashTrip _ source => u8 source
  | .laneViolationLimit _ => true
  | .laneSyncTimeout _ => true
  | .ldownSet _ _ => true
  | .frameAbort => true
  | .laneTrained _ => true
  | .laneHoldExpiry _ => true
  | .leashFrameTimeout tag => u8 tag
  | .hubCommandFrame tag => u8 tag
  | .replyFrame tag => u8 tag
  | .eventFrame payload => decide (payload.length ≤ 256)
  | .scheduleFrame rate start modes owt => decide (rate ≤ 4) && u64 start && (modes.all fun m => decide (m.1 < 16) && u64 m.2.2) && owt.all u64
  | .targetsFrame => true
  | .ringDelayMeasure down up => down.all u32 && up.all u32
  | .rungDown _ _ => true
  | .rungUp _ => true
  | .segmentIsolated _ => true
  | .leashSilent => true
  | .broddaTimeout => true
  | .leashLost => true
  | .leashLossSsi => true
  | .partFault _ => true
  | .engineRestartDone _ => true
  | .rateChangeEffect => true
  | .refCheckDue => true
  | .refCheckDone _ dev worst corr => s32 dev && u16 worst && (corr.all fun c => s32 c.1 && s32 c.2)
  | .senseChannelFault _ => true
  | .currentBothLost => true
  | .wireLearn _ => true
  | .comparatorCrossing _ _ _ => true
  | .comparatorDeglitched _ _ _ => true
  | .rungTrip _ _ _ => true
  | .externalBark _ => true
  | .owtCycleStart => true
  | .owtSlotBegin _ wire => decide (wire ≤ 512)
  | .owtTestCurrentOn _ => true
  | .owtTestCurrentOff _ => true
  | .owtClassify _ rd => rd.wf
  | .owtRestoreOn _ => true
  | .owtRestoreOff _ => true
  | .owtBlankEnd _ => true
  | .placementDecision => true
  | .dieTemperatureChange _ temp => s16 temp
  | .shuttleFault _ _ => true
  | .bridgeFault _ => true
  | .bleedStuck _ drain => s32 drain
  | .balManualExpiry _ => true
  | .balDisableDone => true
  | .filterStep => true
  | .restObservation _ => true
  | .fullChargeEvent _ => true
  | .filterValidLost _ => true
  | .fltInnov _ => true
  | .tempSourceTimeout _ => true
  | .saveInterval => true
  | .chargeEndDetected => true
  | .saveDone _ => true
  | .wakeCurrent => true
  | .impJobBegin => true
  | .excitationChip => true
  | .impedancePeriodEnd => true
  | .impedanceBandEnd => true
  | .bandResultsWritten => true
  | .identHandover => true
  | .retuneLatch _ => true
  | .impPeriodicDue => true
  | .impDisableDone => true
  | .rollcall _ => true
  | .downlinkFrame _ => true
  | .uplinkFrame _ frame => frame.wf
  | .ident _ seq gdu => u16 seq && gdu.wf
  | .configAck _ thr result => u16 thr && u8 result
  | .phaseReady _ => true
  | .uplinkTimeout _ => true
  | .rdyLoss _ => true
  | .ocInput _ _ => true
  | .phaseHiccupEnd _ => true
  | .joinComplete _ => true
  | .referencePeriodStart => true
  | .phasePeriodStart _ => true
  | .compensatorStep _ => true
  | .syncInEdge count => u64 count
  | .carrierLocked => true
  | .carrierLockLost => true
  | .cnvIsumXchk => true
  | .precheckTimeout => true
  | .settleComplete => true
  | .ssHiccupEnd => true
  | .softstartTimeout => true
  | .softstopEnd => true
  | .loopCycle ain => s32 ain
  | .ainOpenTest before after => s32 before && s32 after
  | .pulsePeriod period high => u32 period && u32 high
  | .pulseTimeout => true
  | .setpointTimeout => true
  | .schedHoldExpiry => true
  | .sourceReturn _ => true
  | .thermalCycle tach0 tach1 => u32 tach0 && u32 tach1
  | .thmTempLost => true
  | .overrideExpiry _ => true
  | .fpStall _ => true
  | .louvreCycle _ fb iMot => s32 fb && s32 iMot
  | .lvStall _ => true
  | .lvRetry _ => true
  | .lvOvercurrent _ => true
  | .lvFbLost _ => true
  | .lvFbRestored _ => true
  | .lvLearnStep _ => true
  | .lvLearnFail _ => true
  | .latPowerUp => true
  | .selftestDone _ => true
  | .latchSelfcheck _ => true
  | .leadReadyRequest => true
  | .latSupplyFall => true
  | .tpFrame => true
  | .tpPulse _ => true
  | .siMaskEnd _ _ => true
  | .pulseCheck _ _ _ => true
  | .siChannelChange _ _ _ count => u64 count
  | .siDemand _ _ => true
  | .siDiscrepancy _ => true
  | .tpFault _ => true
  | .tpFaultClear _ => true
  | .contactorWeld _ => true
  | .contactorFailToClose _ => true
  | .closeSeqSo3On => true
  | .closeSeqPeakCheck => true
  | .closeSeqSo1On => true
  | .closeSeqPrechargeTimeout => true
  | .closeSeqSo3Off => true
  | .closeSeqDone => true
  | .openSeqSo2Off => true
  | .soTestHigh count => u64 count
  | .soTestLow => true
  | .soReadbackFall _ => true
  | .soTestFail _ => true
  | .soMidpointCheck hsClosed lsClosed => decide (hsClosed < 16) && decide (lsClosed < 16)
  | .engineCheckBlock seen => u8 seen
  | .stringCurrentEscalation => true
  | .floorCrcCheck _ => true
  | .latchChallenge _ => true
  | .lockstepMismatch => true
  | .lockstepRestored => true
  | .latchDisagree => true
  | .isoAlternation vPos vNeg r => s32 vPos && s32 vNeg && u32 r
  | .srstFall count => u64 count
  | .srstStuck => true
  | .barkReleaseTest => true
  | .safeTestTimeout compPass => u16 compPass
  | .authWindowExpiry _ => true
  | .authLockoutEnd => true
  | .ixrasDatagram ip port payload => u32 ip && u16 port && decide (payload.length ≤ 1472)
  | .pendPacket _ seq => u16 seq
  | .sessionTimeout _ => true
  | .sysSessionOpen ip port seq timeout mtu => u32 ip && u16 port && u16 seq && u16 timeout && u16 mtu
  | .sysSessionClose src => src.wf
  | .sysPing src => src.wf
  | .sysTakeOwner src => src.wf
  | .sysReleaseOwner src target => src.wf && u8 target
  | .sysSetMtu src mtu => src.wf && u16 mtu
  | .sysResend src seq mask => src.wf && u16 seq && u16 mask
  | .sysRun src => src.wf
  | .sysPark src => src.wf
  | .sysHibernate src => src.wf
  | .sysFaultClear src => src.wf
  | .sysWake src => src.wf
  | .imgRead src first count reserved bad => src.wf && u16 first && u8 count && u8 reserved && (bad.all fun t => decide (t < 16384))
  | .imgReadList src tiles reserved bad => src.wf && decide (tiles.length ≤ 255) && tiles.all u16 && u8 reserved && (bad.all fun t => decide (t < 16384))
  | .senseSetRate src code => src.wf && u8 code
  | .senseSetWindow src window mode nReq => src.wf && u8 window && u8 mode && u16 nReq
  | .senseSetShutter src mask mode => src.wf && u16 mask && u8 mode
  | .senseRefCheck src mask => src.wf && u16 mask
  | .senseRelearn src mask => src.wf && u16 mask
  | .senseSetThMap src cell therm => src.wf && u16 cell && u8 therm
  | .senseSetThCurve src mask curve => src.wf && u16 mask && u8 curve
  | .senseSetShunt src rsh => src.wf && u32 rsh
  | .senseGetConfig src => src.wf
  | .integSetLeashMode src mode ms => src.wf && u8 mode && u32 ms
  | .integTestWire src wire => src.wf && u16 wire
  | .integClearOpen src wire => src.wf && u16 wire
  | .integSetBarkPullup src on => src.wf && u8 on
  | .balEnable src en => src.wf && u8 en
  | .balSetGoal src goal mode => src.wf && u8 goal && u8 mode
  | .balSetThresh src start stop brStart brStop => src.wf && u32 start && u32 stop && u32 brStart && u32 brStop
  | .balSetLimits src iSet iBr vMargin tFeedMin tMax maxBleed pwrMax => src.wf && u16 iSet && u16 iBr && u32 vMargin && s16 tFeedMin && s16 tMax && u8 maxBleed && u16 pwrMax
  | .balManual src cell element current time => src.wf && u16 cell && u8 element && s16 current && u16 time
  | .balClearFault src mask => src.wf && u16 mask
  | .balGetConfig src => src.wf
  | .fltSetConfig src rateRpt anchDz capDzMin capGain sigmaValid tSrc => src.wf && u16 rateRpt && u16 anchDz && u16 capDzMin && u8 capGain && u16 sigmaValid && u8 tSrc
  | .fltSlotWrite src slot offset bytes => src.wf && u8 slot && u16 offset && decide (bytes.length ≤ 1095)
  | .fltSlotCommit src slot => src.wf && u8 slot
  | .fltSlotRead src slot offset length => src.wf && u8 slot && u16 offset && u16 length
  | .fltSetSlot src mask slot => src.wf && u16 mask && u8 slot
  | .fltSetCap src cell cap => src.wf && u16 cell && u32 cap
  | .fltResetCell src cell => src.wf && u16 cell
  | .fltSaveNow src => src.wf
  | .fltGetConfig src => src.wf
  | .impSetFreqs src reqs => src.wf && decide (reqs.length = 8) && reqs.all u32
  | .impSetExcitation src amp nPer nSet => src.wf && u16 amp && u8 nPer && u8 nSet
  | .impStart src => src.wf
  | .impEnable src en => src.wf && u8 en
  | .impSetSchedule src interval => src.wf && u32 interval
  | .impZtWrite src slot rec => src.wf && u8 slot && decide (rec.length = 144)
  | .impSetBaseline src mask => src.wf && u16 mask
  | .impSetHealth src hslot growWarn outWarn => src.wf && u8 hslot && u16 growWarn && u16 outWarn
  | .impGetBaseline src cell => src.wf && u16 cell
  | .impGetConfig src => src.wf
  | .cnvSetCarrier src tc lockSrc packIdx packSize syncDly => src.wf && u32 tc && u8 lockSrc && u8 packIdx && u8 packSize && u16 syncDly
  | .cnvSetPhases src mask nMin => src.wf && u8 mask && u8 nMin
  | .cnvSetModulation src deadTime dMin dMax trimMax shareGain => src.wf && u16 deadTime && u32 dMin && u32 dMax && u32 trimMax && u16 shareGain
  | .cnvSetLimits src chg dis cont fast i2t => src.wf && u32 chg && u32 dis && u32 cont && u32 fast && u32 i2t
  | .cnvSetSoftstart src vTarget slewV ilimSs ssTimeout kpv kiv slewStop => src.wf && s32 vTarget && u32 slewV && u32 ilimSs && u32 ssTimeout && u32 kpv && u32 kiv && u32 slewStop
  | .cnvSetVtarget src target slew => src.wf && s32 target && u32 slew
  | .cnvSetTuning src en fc => src.wf && u8 en && u32 fc
  | .cnvSetCoeffs src mask coef => src.wf && u8 mask && decide (coef.length = 7) && coef.all s32
  | .cnvPhaseCtrl src phase action => src.wf && u8 phase && u8 action
  | .cnvGetConfig src => src.wf
  | .loopSetMode src lmode ffEn => src.wf && u8 lmode && u8 ffEn
  | .loopSetSource src source fbSrc lossAct => src.wf && u8 source && u8 fbSrc && u8 lossAct
  | .loopSetpoint src value => src.wf && s32 value
  | .loopSetScale src pmax imax vdcMid vdcSpan spRamp manRamp => src.wf && u32 pmax && u32 imax && s32 vdcMid && s32 vdcSpan && u32 spRamp && u32 manRamp
  | .loopSetGains src mode kp ki => src.wf && u8 mode && u32 kp && u32 ki
  | .loopSetTiming src spTimeout spReturn schedHold ainDb => src.wf && u16 spTimeout && u16 spReturn && u16 schedHold && u8 ainDb
  | .loopManual src am iref => src.wf && u8 am && s32 iref
  | .loopSchedWrite src first count entries => src.wf && u16 first && u8 count && decide (entries.length = 16 * count)
  | .loopSchedCommit src count => src.wf && u16 count
  | .thmSetConfig src tSel thIdx tSet kpT kiT fsDemand hibDemand => src.wf && u8 tSel && u8 thIdx && s16 tSet && u32 kpT && u32 kiT && u16 fsDemand && u16 hibDemand
  | .thmSetMap src output dStart dFull outOff outMin outMax fire => src.wf && u8 output && u16 dStart && u16 dFull && u16 outOff && u16 outMin && u16 outMax && u16 fire
  | .thmOverride src output set value time => src.wf && u8 output && u8 set && u16 value && u16 time
  | .fpSetConfig src output inv ppr tachMin => src.wf && u8 output && u8 inv && u8 ppr && u16 tachMin
  | .lvSetConfig src louvre fbLo fbHi kp ki db umax => src.wf && u8 louvre && s32 fbLo && s32 fbHi && u16 kp && u16 ki && u16 db && u16 umax
  | .lvFrictionWrite src louvre table => src.wf && u8 louvre && decide (table.length = 32) && table.all u16
  | .lvLearn src mask => src.wf && u8 mask
  | .loopGetConfig src => src.wf
  | .safeReset src => src.wf
  | .safeContactors src act => src.wf && u8 act
  | .safeSetPrecharge src preI preTmax => src.wf && u32 preI && u32 preTmax
  | .safeGetNonce src => src.wf
  | .safeAuth src mac => src.wf && decide (mac.length = 32)
  | .safeSetPassword src chars => src.wf && decide (chars.length ≤ 255)
  | .safeFloorWrite src record _ => src.wf && decide (record.length = 256)
  | .safeFloorRead src => src.wf
  | .safeLogRead src first count => src.wf && u32 first && u8 count
  | .safeTest src act opt compPass => src.wf && u8 act && u8 opt && u16 compPass
  | .epochBoundary => true
  | .backCopyDone => true
  | .deferredSwap => true
  | .tileWrite _ ws => decide (ws.length = 15)
  | .tileRefresh _ => true
  | .transomRead _ _ => true
  | .tlatchRise => true
  | .tlatchFall => true
  | .imgHoldLong => true
  | .tileReadInternal _ _ _ => true
  | .imgTileStuck _ => true
  | .sfpPoll _ _ _ _ _ _ => true
  | .ethFrame _ f count => f.wf && u64 count
  | .prpSupervision => true
  | .prpEntryExpiry _ => true
  | .lanLinkLost _ count => u64 count
  | .lanRctTimeout _ => true
  | .lanReturn _ count => u64 count
  | .ipChangeEffect => true
  | .ptpMessage _ domain _ msg rxNs => u8 domain && msg.wf && u64 rxNs
  | .ptpTxTimer _ _ count => u64 count
  | .ptpSyncTimeout _ => true
  | .ptpHoldUnlock => true
  | .txTimestamp _ id _ ns => u16 id && u64 ns
  | .txtsRead _ => true
  | .canFrameRx _ f ts => f.wf && u64 ts
  | .canTxAttemptEnd _ _ count => u64 count
  | .canAlone _ => true
  | .canBusoffRecovery _ => true
  | .hbonlyHeartbeat _ => true
  | .partnerHeartbeat _ => true
  | .partnerAnnounce _ => true
  | .partnerLost _ => true
  | .partnerEntryFree _ => true
  | .canSend _ _ => true
  | .canAbort _ _ => true
  | .canRqgetWrite _ value => u32 value
  | .netSetIp src x => src.wf && x.wf
  | .netSetPtp src x => src.wf && x.wf
  | .netSetTime src sec ns utc => src.wf && u48 sec && u32 ns && s16 utc
  | .canSetConfig src _ x => src.wf && x.wf
  | .canFilterWrite src _ first fltLen elems => src.wf && u16 first && u16 fltLen && (decide (elems.length ≤ 255) && elems.all fun e => u32 e.1 && u32 e.2)
  | .netGetPartners src first count => src.wf && u8 first && u8 count
  | .netGetConfig src => src.wf
  | .policyEngineStart _ => true
  | .policyInstruction _ cycles _ => u32 cycles
  | .wfi _ => true
  | .mtimerInterrupt _ => true
  | .interruptWake _ => true
  | .wdogWrite _ => true
  | .polWatchdogExpiry _ => true
  | .mtimeLoRead _ => true
  | .ptpSLoRead _ => true
  | .regionWrite _ _ _ _ => true
  | .rtuActiveClear _ => true
  | .tileStageStore _ _ _ => true
  | .bopenWrite _ len => u32 len
  | .batchGrant _ => true
  | .bcloseWrite _ => true
  | .batchOverrun _ => true
  | .dmaEnable _ => true
  | .dmaDisable _ => true
  | .dmaDisableDone _ => true
  | .dmaRputWrite _ value => u32 value
  | .dmaResume _ => true
  | .dmaBurst _ => true
  | .cqgetWrite _ value => u32 value
  | .cqModerationTimeout _ => true
  | .irqComplete _ _ => true
  | .swisetWrite _ => true
  | .tperWrite _ _ => true
  | .timerExpiry _ => true
  | .routeWrite _ _ => true
  | .rdirClear _ => true
  | .serviceEntry _ => true
  | .framePortSend _ => true
  | .registerWrite _ _ _ => true
  | .feedAbsent _ => true
  | .feedPresent _ => true
  | .feedLow _ => true
  | .sdsStart _ _ => true
  | .powerFailWarning => true
  | .powerRestored => true
  | .powerLost => true
  | .ctlShutdown _ => true
  | .stackOff => true
  | .holdupTest present full => u32 present && u32 full
  | .kennelCheckpoint _ => true
  | .leadWatchdog => true
  | .leadSelftestFail => true
  | .leadDoubleFault => true
  | .hingeHoldEnd => true
  | .hingeHoldLimit => true
  | .takeoverMonitorTest _ => true
  | .leadHandback => true
  | .reserveStandbyTest _ => true
  | .debugAccess part op => part.wf && op.wf
  | .debugOpenExpiry => true
  | .debugCloseDone => true
  | .secGetDebug src => src.wf
  | .secDebugChallenge src state => src.wf && u8 state
  | .secDebugSet src state minutes signer key sig => src.wf && u8 state && u16 minutes && u8 signer && decide (key.length = 96) && decide (sig.length = 96)
  | .secKeyEnroll src slot key signer sig => src.wf && u8 slot && decide (key.length = 96) && u8 signer && decide (sig.length = 96)
  | .secKeyRevoke src slot signer sig => src.wf && u8 slot && u8 signer && decide (sig.length = 96)
  | .secKeyList src => src.wf
  | .updBegin src length bcrc => src.wf && u32 length && u32 bcrc
  | .updEraseDone _ => true
  | .updBlock src off data _ => src.wf && u32 off && decide (data.length ≤ 1094)
  | .updVerify src => src.wf
  | .updActivate src => src.wf
  | .activationPause => true
  | .updConfirm src => src.wf
  | .updAbort src => src.wf
  | .updGetStatus src => src.wf
  | .updConfirmTimeout => true
  | .settingsWrite _ => true
  | .keepWrite _ => true
  | .timeWordWrite => true
  | .logReadFast src first count sev reserved => src.wf && u64 first && u16 count && u8 sev && u8 reserved
  | .logReadKeep src first count sev area reserved => src.wf && u64 first && u8 count && u8 sev && u8 area && u8 reserved
  | .logGetPointers src => src.wf
  | .logWriteNote src sev text => src.wf && u8 sev && decide (text.length ≤ 255)
  | .updVerifyDone => true
  | .configAckTimeout _ => true
  | .wakeRollcallGraceEnd => true
  | .canBusoffRecovered _ => true
  | .sfbMirrorChange _ _ count => u64 count
  | .comparatorRelease _ _ _ => true
  | .barkLineReleased => true
  | .srstRise count => u64 count
  | .hubStringStart => true

end Sys2Proof
end

