-- ==== Sys2Proof/Tests/Slice0.lean ====
section
/-! SUPPORT. A witness for every hypothesis of the obligations, clause by clause; terms that the well-formedness checks refuse; single steps and figures of the
specification. The states are small variations of one powered module in PARK. -/

set_option Elab.async false

open Sys2Proof Sys2Proof.Machine

namespace Sys2Proof.Slice0

/-- A state with its block changed. -/
def up (f : Block → Block) (s : State) : State := { s with block := f s.block }
def sess (i : Nat) : Session := { isOpen := true, stag := 7 + i, ip := 10 + i, port := 20, mtu := 1500, timeout := 10, lastHeard := 0, lastSeq := 4, cache := [] }
/-- A powered module in PARK with an armed Latch, two open sessions, the first of which owns it. -/
def park : State := State.reset |> up fun b =>
  let b := b.onSys fun y => { y with mstate := .park, prev := .boot, now := 123456789, engSvc := List.replicate 15 true }
  let b := b.onLatch fun l => { l with powered := true, state := .armed, muzzle := false, preDone := true, inputs := l.inputs.map fun x => { x with st := .released } }
  let b := b.onSec fun x => { x with loaded := true, released := true }
  let b := b.onCnv fun c => { c with st := .idle, fibreOn := true }
  let b := b.onPwr fun p => { p with hubOn := true }
  b.onIx fun x => { x with sessions := [sess 0, sess 1, Session.closed, Session.closed], owner := some 0 }
/-- The same module in RUN, HIBERNATE, FAULT, SAFE, BOOT, and in SAFE with the Latch in RECOVERY; an unpowered one; one in RUN under a Hinge hold; a smaller one. -/
def runS : State := up (fun b => (b.onSys fun y => { y with mstate := .run, prev := .park }).onCnv fun c => { c with st := .regulate }) park
def hib : State := up (fun b => (b.onSys fun y => { y with mstate := .hibernate, prev := .park }).onCnv fun c => { c with st := .muzzled, fibreOn := false }) park
def fault : State := up (fun b => (b.onSys fun y => { y with mstate := .fault, prev := .run }).onCnv fun c => { c with st := .muzzled }) park
def safe : State := up (fun b => ((b.onSys fun y => { y with mstate := .safe, prev := .run }).onCnv fun c => { c with st := .muzzled }).onLatch fun l =>
  { l with state := .acted, fn := .ssi, muzzle := true, cause := 1, causes := [(1, 1)] }) park
def boot : State := up (fun b => ((b.onSys fun y => { y with mstate := .boot, prev := .off }).onCnv fun c => { c with st := .muzzled }).onLatch fun l =>
  { l with state := .startup, muzzle := true }) park
def recov : State := up (fun b => b.onLatch fun l => { l with state := .recovery, causes := [] }) safe
def off : State := State.reset
def runH : State := up (fun b => b.onPwr fun p => { p with hold := some 123400000 }) runS
def s384 : State := up (fun b => b.onSys fun y => { y with variant := .s384as }) runS
/-- Requests of the owner and of the other session. -/
def S : Src := .session 0 5
def SN : Src := .session 1 9

/-- Flash with a bundle header at a slot's base and one image 1,024 bytes in. -/
def flashOf (n : Nat) (h i : List Byte) : Mem := memWrite 0xFF#8 (slotBase n + 1024) i (memWrite 0xFF#8 (slotBase n) h [])

theorem head_read (b : Block) (n : Nat) (h i : List Byte) (hb : b.upd.flash = flashOf n h i) (hh : h.length = 256) : b.flashAt n 0 256 = h := by
  have w := memWf_memWrite (d := 0xFF#8) (lo := 0) (a := slotBase n) (m := []) (bs := h) rfl (Nat.zero_le _)
  have r := memRead_memWrite (d := 0xFF#8) (lo := 0) (a := slotBase n) (o := 0) (n := 256) (m := []) (bs := h) rfl (Nat.zero_le _) (by omega)
  rw [Block.flashAt, hb, flashOf, memRead_memWrite_outside w (Nat.zero_le _) (by omega), r, List.drop_zero, List.take_of_length_le (by omega)]

theorem image_read (b : Block) (n o k : Nat) (h i : List Byte) (hb : b.upd.flash = flashOf n h i) (hk : o + k ≤ i.length) :
    b.flashAt n (1024 + o) k = (i.drop o).take k := by
  have w := memWf_memWrite (d := 0xFF#8) (lo := 0) (a := slotBase n) (m := []) (bs := h) rfl (Nat.zero_le _)
  rw [Block.flashAt, hb, flashOf, ← Nat.add_assoc, memRead_memWrite w (Nat.zero_le _) hk]

/-! ### Well-formedness: a term that each check refuses -/

def okSnap : Snapshot := {crcOk := true, seq := 1, count := 2, cells := [3], pri := 4, sec := 5, strV := 6, t2b := [7], therm := [8], iso := 9, status := [10], pairs := [(0, 11)]}
def okUp : Uplink := {crcOk := true, stat := 0, i := -300, muxId := 1, mux := 5}
def okGdu : GduIdent := {vendor := 1, model := 2, serial := 3, iRated := 4, vMax := 5, lNom := 100, uLat := 4, firmware := 1}
def okOwt : OwtReading := {testNow := 1, otherNow := none, otherRng := false, pair := none, dI := 0, othersSum := 1, t2b := 1, stringSum := 1, divider := 1, boundarySum := 1, boundaryPrev := 1}
def okIp : IpSet := {addr := 1, mask := 2, gw := 3, vlan := 4, pcp := 5, mode := 0}
def okPtp : PtpSet := {en := true, profile := 0, role := 0, domain := 0, prio1 := 1, prio2 := 2, slaveOnly := false, logSync := -3, lockThr := 5, stepThr := 6}
def okCan : CanFrame := {idw := 5, ctlw := 8, data := List.replicate 64 0}
def okEth : EthFrame := {mac := 9, vlan := some 5, rct := some (1, 0), len := 100, kind := .other}
def okAnn : Announce := {gm := 5, prio1 := 1, clockClass := 6, accuracy := 1, variance := 2, prio2 := 3, steps := 0, sender := 8, utc := 37}

/-- The terms below are refused for the one field that each changes: the terms they are made from are well-formed. -/
theorem test_wf_accepts : okSnap.wf = true ∧ okUp.wf = true ∧ okGdu.wf = true ∧ okOwt.wf = true ∧ okIp.wf = true ∧ okPtp.wf = true ∧ CanSet.reset.wf = true ∧ okCan.wf = true
    ∧ okEth.wf = true ∧ (PtpMsg.announce okAnn).wf = true ∧ (Instr.sysPing S).wf = true ∧ (Instr.debugAccess .tap (.readReg 32)).wf = true := by decide +kernel

theorem test_wf_refuses_sources : (Instr.sysPing (.session 4 0)).wf = false ∧ (Instr.sysPing (.session 0 65536)).wf = false ∧ (Instr.sysPing (.engine 2 0)).wf = false := by decide

theorem test_wf_refuses_fields : (Instr.shutterClose (2 ^ 64)).wf = false ∧ (Instr.segmentFrame 0 17).wf = false ∧ (Instr.leashTrip true 256).wf = false
    ∧ (Instr.safeLogRead S (2 ^ 32) 1).wf = false ∧ (Instr.integTestWire S 65536).wf = false ∧ (Instr.owtSlotBegin 0 513).wf = false
    ∧ (Instr.dieTemperatureChange 0 32768).wf = false ∧ (Instr.loopSetpoint S (-(2 ^ 31) - 1)).wf = false ∧ (Instr.netSetTime S (2 ^ 48) 0 0).wf = false
    ∧ (Instr.soMidpointCheck 16 0).wf = false ∧ (Instr.scheduleFrame 5 0 [] none).wf = false ∧ (Instr.imgRead S 0 0 0 [16384]).wf = false := by decide +kernel

theorem test_wf_refuses_lists : (Instr.eventFrame (List.replicate 257 0)).wf = false ∧ (Instr.ixrasDatagram 0 0 (List.replicate 1473 0)).wf = false
    ∧ (Instr.imgReadList S (List.replicate 256 0) 0 []).wf = false ∧ (Instr.fltSlotWrite S 0 0 (List.replicate 1096 0)).wf = false ∧ (Instr.impSetFreqs S [1]).wf = false
    ∧ (Instr.impZtWrite S 0 []).wf = false ∧ (Instr.cnvSetCoeffs S 1 [0]).wf = false ∧ (Instr.loopSchedWrite S 0 1 []).wf = false ∧ (Instr.lvFrictionWrite S 0 []).wf = false
    ∧ (Instr.safeAuth S []).wf = false ∧ (Instr.safeSetPassword S (List.replicate 256 0)).wf = false ∧ (Instr.safeFloorWrite S [] .written).wf = false
    ∧ (Instr.tileWrite 0 []).wf = false ∧ (Instr.updBlock S 0 (List.replicate 1095 0) true).wf = false := by decide +kernel

theorem test_wf_refuses_frames : ({okSnap with cells := List.replicate 513 0} : Snapshot).wf = false ∧ ({okSnap with strV := 2 ^ 24} : Snapshot).wf = false
    ∧ ({okSnap with pairs := [(513, 0)]} : Snapshot).wf = false ∧ ({okSnap with status := [256]} : Snapshot).wf = false ∧ ({okUp with i := -32769} : Uplink).wf = false
    ∧ ({okGdu with serial := 2 ^ 32} : GduIdent).wf = false ∧ ({okOwt with dI := 2 ^ 31} : OwtReading).wf = false ∧ ({okOwt with t2b := 2 ^ 40} : OwtReading).wf = false
    ∧ ({okCan with data := []} : CanFrame).wf = false ∧ ({okEth with vlan := some 4096} : EthFrame).wf = false ∧ ({okEth with rct := some (0, 2)} : EthFrame).wf = false
    ∧ ({okEth with mac := 2 ^ 48} : EthFrame).wf = false := by decide +kernel

theorem test_wf_refuses_settings : ({okIp with vlan := 65536} : IpSet).wf = false ∧ ({okPtp with logSync := 128} : PtpSet).wf = false ∧ ({CanSet.reset with node := 256} : CanSet).wf = false
    ∧ (PtpMsg.announce {okAnn with utc := 32768}).wf = false ∧ (PtpMsg.sync 0 65536 true 0 0).wf = false ∧ (PtpMsg.followUp 0 65536 0 0).wf = false ∧ (PtpMsg.delayReq 0 65536).wf = false
    ∧ (PtpMsg.delayResp 65536 0 0).wf = false ∧ (PtpMsg.pdelayReq 0 65536).wf = false ∧ (PtpMsg.pdelayResp 65536 true 0 0).wf = false
    ∧ (PtpMsg.pdelayRespFollowUp 65536 0 0).wf = false ∧ (DbgPart.flash (2 ^ 32)).wf = false ∧ (DbgOp.readReg 33).wf = false ∧ (DbgOp.writeReg 3 (2 ^ 32)).wf = false
    ∧ (DbgOp.writeMem (2 ^ 32) 0).wf = false := by decide

/-! ### Figures of the specification and of the standards it names -/

/-- The published check value of CRC-32C, of the nine digits (R352 names the code). -/
theorem test_crc32c_check_value : crc32c [0x31, 0x32, 0x33, 0x34, 0x35, 0x36, 0x37, 0x38, 0x39] = 0xE3069283 := by decide +kernel

/-- SHA-384 of the three letters abc begins CB00753F45A35E8B (FIPS 180-4's example). -/
theorem test_sha384_abc : (sha384 [0x61, 0x62, 0x63]).take 8 = [0xCB, 0x00, 0x75, 0x3F, 0x45, 0xA3, 0x5E, 0x8B] := by decide +kernel

/-- The generator of P-384 lies on the curve (FIPS 186). -/
theorem test_p384_generator : onP384 ((leBytes 48 p384Gx).reverse ++ (leBytes 48 p384Gy).reverse) = true := by decide +kernel

/-- The frequency codes of the reset sweep (chapter 06, worked example). -/
theorem test_reset_sweep_codes : [100, 1000, 10000, 40000, 160000, 500000, 2000000, 10000000].map freqCode
    = [0xB0000015, 0x8000001A, 0x40000010, 0x20000010, 0x00000010, 0x00000033, 0x000000CD, 0x00000400] := by decide +kernel

/-- No value, and saturation (R13). -/
theorem test_measurement_words : s32Word none = 0x80000000#32 ∧ s32Word (some (2 ^ 40)) = 0x7FFFFFFF#32 ∧ s32Word (some (-(2 ^ 40))) = 0x80000001#32
    ∧ s16Nat none = 0x8000 ∧ s16Nat (some 40000) = 0x7FFF ∧ s16Nat (some (-40000)) = 0x8001 := by decide

/-- No word spells a command: no row of the table gives bits. -/
theorem test_no_word_decodes : Sys2Proof.decodeTableWord 32 0 = none ∧ State.reset.withFetchWord 32 0 = State.reset := ⟨rfl, rfl⟩

/-! ### Single steps -/

/-- The first chip of a band: the register at 0xFFF puts out +A and becomes 0xFFE (R180). -/
theorem test_first_chip : ((chipStep (up (fun b => b.onImp fun i => { i with lfsr := 0xFFF, jobSet := { i.jobSet with amp := 20000 } }) runS).block).imp.lfsr = 0xFFE)
    ∧ (chipStep (up (fun b => b.onImp fun i => { i with lfsr := 0xFFF, jobSet := { i.jobSet with amp := 20000 } }) runS).block).imp.x = 20000 := by decide +kernel

/-- The block that a step from a state with one command waiting leaves. -/
def after (i : Instr) (s : State) : Option Block := match step { s with pending := [i] } with
  | .next t => some t.block
  | _ => none

/-- Supplies at reset start BOOT (R19, R20). -/
theorem test_power_start : (after .powerStart off).map (fun b => b.sys.mstate) = some .boot := by decide +kernel

/-- SYS_HIBERNATE from PARK (R20), and refused to a session that does not own the module (R333). -/
theorem test_hibernate : (after (.sysHibernate S) park).map (fun b => b.sys.mstate) = some .hibernate ∧ (after (.sysHibernate SN) park).map (fun b => b.sys.mstate) = some .park := by
  decide +kernel

/-- BAL_ENABLE by the owner, and the request's place in its session (R335). -/
theorem test_bal_enable : (after (.balEnable S 1) park).map (fun b => (b.bal.en, b.ix.owner, (b.session 0).lastSeq)) = some (true, some 0, 5) := by decide +kernel

/-- With no command waiting the time base counts while the module is powered, and only then (R36). -/
theorem test_idle_step : (match step park with
    | .next t => t.block.sys.now
    | _ => 0) = 123456790 ∧ step off = .next off := ⟨by decide +kernel, rfl⟩

/-! ### The hypotheses of the obligations are met -/

namespace W00
def pw (f : PwrPart → PwrPart) (s : State) := up (fun b => b.onPwr f) s
def ud (f : UpdPart → UpdPart) (s : State) := up (fun b => b.onUpd f) s
def lead (s : State) := pw (fun p => {p with hold := none, resCtl := false, resOk := true, kenOk := true, leadOk := true}) s
def rcd : KeepRec := {seq := 2000, optime := 5, code := 6, pcyc := 7, ptp := none, sev := .safety, resv := true, src := 3, arg0 := 3, data := [1,2], crcOk := true}
def lg (s : State) := up (fun b => b.onLog fun g => {g with queue := [rcd], keepRes := (List.range 895).map fun i => {rcd with seq := i + 1}, resHigh := false}) (pw (fun p => {p with hold := none}) s)
def hh (c : Nat) (s : State) := pw (fun p => {p with hold := some 123400000, hcause := c, resOk := true, kenOk := true, stateDue := none, lossDue := false, cleanAt := some 5}) s
/-- A state with one command waiting. -/
def asked (i : Instr) (s : State) : State := { s with pending := [i] }

theorem witness_StepRunsTheFrontCommand : (∃ b : Block, b.sys.mstate = .off) ∧ (∃ b : Block, b.sys.mstate ≠ .off) :=
  ⟨⟨off.block, by decide⟩, ⟨park.block, by decide⟩⟩

theorem witness_SafetyPathHoldsAfterEveryStep :
    (∃ s t : State, step s = .next t ∧ s.pending ≠ [] ∧ t.block.latch.state ≠ .armed)
    ∧ (∃ s t : State, step s = .next t ∧ s.pending = [] ∧ s.block.safePath = true ∧ t.block.latch.muzzle = true)
    ∧ (∃ s t : State, step s = .next t ∧ s.block.safePath = true ∧ t.block.latch.state.acting = true ∧ t.block.hinge = false ∧ t.block.sys.mstate ≠ .off) :=
  ⟨⟨asked .leadWatchdog boot, _, rfl, by decide, by decide +kernel⟩,
   ⟨boot, _, rfl, by decide, by decide +kernel, by decide +kernel⟩,
   ⟨safe, _, rfl, by decide +kernel, by decide +kernel, by decide +kernel, by decide +kernel⟩⟩

theorem witness_MemoriesStayCanonicalInEveryStep : ∃ s t : State, s.block.memoriesWf = true ∧ step s = .next t :=
  ⟨asked .powerStart off, _, by decide +kernel, rfl⟩

theorem witness_SafetyReserveIsNeverEmptied :
    (∃ s t : State, step s = .next t ∧ ∃ r ∈ s.block.log.keepRes, r.crcOk = true)
    ∧ (∃ (s : State) (fails : Fin 3) (r : KeepRec) (rest : List KeepRec), fails.val < 2 ∧ s.block.sys.mstate ≠ .off ∧ s.block.hinge = false ∧ s.block.log.queue = r :: rest ∧ r.resv = true
      ∧ s.block.log.keepRes.length = 895 ∧ s.block.log.resHigh = false ∧ s.block.log.fast.length < 65536 ∧ s.block.settled = true) :=
  ⟨⟨asked (.keepWrite 0) (lg park), _, rfl, {rcd with seq := 1}, by decide +kernel, rfl⟩, ⟨lg park, 1, rcd, [], by decide +kernel⟩⟩

theorem witness_ModuleStateFollowsItsTransitions :
    (∃ s t : State, step s = .next t ∧ s.block.nothingDeferred ∧ s.block.sec.fullDue = none ∧ s.block.sys.mstate ≠ .off ∧ t.block.sys.mstate = .hibernate)
    ∧ (∃ (s : State) (src : Src), s.block.settled = true ∧ s.block.admits src 0x0112 true = true ∧ s.block.sys.mstate = .run)
    ∧ (∃ s : State, ∃ i ∈ [Instr.leadWatchdog, .leadSelftestFail, .leadDoubleFault], s.block.settled = true ∧ s.block.pwr.resCtl = false ∧ s.block.activating = false)
    ∧ (∃ (s : State) (src : Src), s.block.settled = true ∧ s.block.admits src 0x0B04 true = true)
    ∧ (∃ s : State, s.block.settled = true ∧ s.block.upd.ustate = 6 ∧ s.block.hinge = false)
    ∧ (∃ s : State, s.block.settled = true ∧ s.block.pwr.hcause ≠ 0 ∧ s.block.pwr.stateDue = none ∧ s.block.pwr.lossDue = false ∧ s.block.waitingRequests = [] ∧ s.block.ix.held = []
      ∧ s.block.latch.state.acting = false) :=
  ⟨⟨asked (.sysHibernate S) park, _, rfl, by unfold Block.nothingDeferred; decide +kernel, by decide +kernel, by decide +kernel, by decide +kernel⟩,
   ⟨runS, S, by decide +kernel⟩,
   ⟨lead park, .leadWatchdog, by decide, by decide +kernel⟩,
   ⟨ud (fun u => {u with ustate := 4}) park, S, by decide +kernel⟩,
   ⟨ud (fun u => {u with ustate := 6}) park, by decide +kernel⟩,
   ⟨hh 1 park, by decide +kernel⟩⟩

end W00

namespace W01
def le (f : LeashPart → LeashPart) (s : State) := up (fun b => b.onLeash f) s
def ri (f : RingPart → RingPart) (s : State) := up (fun b => b.onRing f) s
def lanesUp (s : State) := le (fun l => {l with lanes := [{up := true, hold := none, downs := [], lastSync := 5}, {up := true, hold := none, downs := [1,2,3], lastSync := 6}]}) s
def lanesDn (s : State) := le (fun l => {l with lanes := [{up := false, hold := none, downs := [], lastSync := 5}, {up := false, hold := some 7, downs := [1,2,3], lastSync := 6}], lostAt := none}) s
def fr (n : Nat) (c : Option Src) (k : DownKind) : DownFrame := {tag := 9, kind := k, sent := n, carries := c}
def runEntry (s : State) := up (fun b => acceptRequest S 0x0310 [] true b) s
def snap (ok : Bool) : Snapshot := {seq := 77, count := 5000000000, crcOk := ok, status := [], cells := [], t2b := [], therm := [], pairs := [], strV := 0, pri := 131072, sec := 131072, iso := 0}
def ringUp (s : State) := ri (fun r => {r with rungs := List.replicate 17 true}) s

theorem witness_LanesCarrySyncSetsFailAndReturn :
    (∃ (s : State), s.block.anyLane = true ∧ s.block.settled = true)
    ∧ (∃ (s : State), s.block.anyLane = true ∧ s.block.settled = true)
    ∧ (∃ (s : State) (k : Fin 2), (s.block.lane k).up = true ∧ s.block.settled = true)
    ∧ (∃ (s : State) (k : Fin 2), (s.block.lane k).up = true ∧ s.block.settled = true)
    ∧ (∃ (s : State) (k : Fin 2), (s.block.lane k).up = true ∧ s.block.settled = true)
    ∧ (∃ (s : State) (k : Fin 2), (s.block.lane k).up = true ∧ s.block.settled = true)
    ∧ (∃ (s : State) (k : Fin 2), (s.block.lane k).up = true ∧ s.block.settled = true)
    ∧ (∃ (s : State) (k : Fin 2), (s.block.lane k).up = true ∧ s.block.settled = true)
    ∧ (∃ (s : State), s.block.settled = true)
    ∧ (∃ (s : State) (k : Fin 2), k.val < s.block.leash.lanes.length ∧ (s.block.lane k).up = false ∧ (s.block.lane k).hold = none ∧ s.block.settled = true)
    ∧ (∃ (s : State) (k : Fin 2) (t : Nat), (s.block.lane k).hold = some t ∧ s.block.settled = true) :=
  ⟨⟨(lanesUp park), by decide +kernel⟩,
   ⟨(lanesUp park), by decide +kernel⟩,
   ⟨(lanesUp park), 1, by decide +kernel⟩,
   ⟨(lanesUp park), 1, by decide +kernel⟩,
   ⟨(lanesUp park), 0, by decide +kernel⟩,
   ⟨(lanesUp park), 0, by decide +kernel⟩,
   ⟨(le (fun l => {l with inFlight := some {seq := 3, striped := true}}) (lanesUp park)), 0, by decide +kernel⟩,
   ⟨(lanesUp park), 0, by decide +kernel⟩,
   ⟨(lanesUp park), by decide +kernel⟩,
   ⟨(lanesDn park), 0, by decide +kernel⟩,
   ⟨(lanesDn park), 1, 7, by decide +kernel⟩⟩

theorem witness_LeashFramesAndTripsDoWhatTheyCarry :
    (∃ (s : State) (tag : Nat) (f : DownFrame), (s.block.leash.waiting.find? fun x => x.tag == tag) = some f ∧ f.sent < 4 ∧ s.block.settled = true)
    ∧ (∃ (s : State) (tag : Nat) (f : DownFrame), (s.block.leash.waiting.find? fun x => x.tag == tag) = some f ∧ 4 ≤ f.sent ∧ f.carries = none ∧ s.block.settled = true)
    ∧ (∃ (s : State) (tag : Nat) (f : DownFrame) (i : Nat) (q : Nat) (e : CacheEntry), (s.block.leash.waiting.find? fun x => x.tag == tag) = some f ∧ 4 ≤ f.sent ∧ f.carries = some (.session i q) ∧ s.block.entry? i q = some e ∧ e.running = true ∧ s.block.settled = true)
    ∧ (∃ (s : State) (tag : Nat) (f : DownFrame), (s.block.leash.waiting.find? fun x => x.tag == tag) = some f ∧ s.block.leash.hubTag ≠ some tag ∧ s.block.settled = true)
    ∧ (∃ (s : State) (tag : Nat), s.block.leash.hubTag = some tag ∧ s.block.settled = true)
    ∧ (∃ (s : State), s.block.settled = true)
    ∧ (∃ (s : State) (p : List Byte), p.length ≤ 256 ∧ s.block.settled = true)
    ∧ (∃ (s : State) (rate : Nat), rate ≤ 4 ∧ rate ≠ s.block.sense.rate ∧ s.block.settled = true)
    ∧ (∃ (s : State), s.block.anyLane = true ∧ s.block.settled = true)
    ∧ (∃ (s : State) (f : Snapshot), s.block.leash.inFlight.isSome = true ∧ s.block.sys.mstate ≠ .off ∧ f.crcOk = false ∧ s.block.settled = true)
    ∧ (∃ (s : State) (f : Snapshot), s.block.leash.inFlight.isSome = true ∧ s.block.sys.mstate ≠ .off ∧ f.crcOk = true ∧ s.block.settled = true)
    ∧ (∃ (s : State), s.block.leash.inFlight.isSome = true ∧ s.block.settled = true)
    ∧ (∃ (s : State), s.block.anyLane = true ∧ s.block.leash.tripDown = true ∧ s.block.settled = true)
    ∧ (∃ (s : State), s.block.anyLane = true ∧ s.block.leash.tripsUp ≠ [] ∧ s.block.settled = true)
    ∧ (∃ (s : State) (source : Nat), s.block.anyLane = true ∧ source ≤ 0x10 ∧ s.block.latch.state = .armed ∧ s.block.settled = true)
    ∧ (∃ (s : State), s.block.anyLane = true ∧ s.block.settled = true)
    ∧ (∃ (s : State) (source : Nat), 0x10 < source ∧ s.block.settled = true) :=
  ⟨⟨(le (fun l => {l with waiting := [fr 2 none .schedule]}) park), 9, (fr 2 none .schedule), by decide +kernel⟩,
   ⟨(le (fun l => {l with waiting := [fr 4 none .schedule]}) park), 9, (fr 4 none .schedule), by decide +kernel⟩,
   ⟨(runEntry (le (fun l => {l with waiting := [fr 4 (some S) .schedule]}) park)), 9, (fr 4 (some S) .schedule), 0, 5, (((runEntry park).block.entry? 0 5).getD {seq := 5, opcode := 0, params := [], accepted := 0, mtu := 0, running := true, started := true, status := 0, data := []}), by decide +kernel⟩,
   ⟨(le (fun l => {l with waiting := [fr 2 none (.leashMode 1 300)]}) park), 9, (fr 2 none (.leashMode 1 300)), by decide +kernel⟩,
   ⟨(le (fun l => {l with waiting := [fr 2 none .schedule], hubTag := some 9}) park), 9, by decide +kernel⟩,
   ⟨(le (fun l => {l with waiting := [fr 2 none .schedule]}) park), by decide +kernel⟩,
   ⟨park, [3], by decide +kernel⟩,
   ⟨park, 1, by decide +kernel⟩,
   ⟨(lanesUp park), by decide +kernel⟩,
   ⟨(le (fun l => {l with inFlight := some {seq := 3, striped := true}}) park), (snap false), by decide +kernel⟩,
   ⟨(le (fun l => {l with inFlight := some {seq := 3, striped := true}}) park), (snap true), by decide +kernel⟩,
   ⟨(le (fun l => {l with inFlight := some {seq := 3, striped := true}}) park), by decide +kernel⟩,
   ⟨(le (fun l => {l with tripDown := true}) (lanesUp park)), by decide +kernel⟩,
   ⟨(le (fun l => {l with tripsUp := [3]}) (lanesUp park)), by decide +kernel⟩,
   ⟨(lanesUp park), 16, by decide +kernel⟩,
   ⟨(lanesUp park), by decide +kernel⟩,
   ⟨(lanesUp park), 17, by decide +kernel⟩⟩

theorem witness_RingAndLeashLossesAreHandled :
    (∃ (s : State) (count : Nat), count % rateTicks s.block.sense.rate = 0 ∧ s.block.sys.now ≤ count ∧ s.block.settled = true)
    ∧ (∃ (s : State) (n : Fin 16), n.val < s.block.nSeg ∧ n.val < s.block.ring.segs.length ∧ s.block.settled = true)
    ∧ (∃ (s : State) (n : Fin 16) (r : Nat), n.val < s.block.nSeg ∧ (s.block.ringSeg n).converted = true ∧ (s.block.ringSeg n).arrived = false ∧ s.block.nextRung n = r ∧ s.block.rungUp r = true ∧ s.block.settled = true)
    ∧ (∃ (s : State) (n : Fin 16), s.block.ring.trips.contains n.val = true ∧ s.block.reaches n = true ∧ s.block.settled = true)
    ∧ (∃ (s : State), s.block.settled = true)
    ∧ (∃ (s : State), s.block.settled = true)
    ∧ (∃ (s : State) (r : Fin 17), r.val ≤ s.block.nSeg ∧ s.block.rungUp r = true ∧ s.block.rungsDown = 0 ∧ s.block.settled = true)
    ∧ (∃ (s : State) (r : Fin 17), r.val ≤ s.block.nSeg ∧ s.block.rungUp r = true ∧ 1 ≤ s.block.rungsDown ∧ s.block.latch.state = .armed ∧ s.block.settled = true)
    ∧ (∃ (s : State) (r : Fin 17), r.val ≤ s.block.nSeg ∧ s.block.rungUp r = false ∧ r.val < s.block.ring.rungs.length ∧ s.block.settled = true)
    ∧ (∃ (s : State) (n : Fin 16) (t : Nat), (s.block.ringSeg n).cutAt = some t ∧ s.block.settled = true)
    ∧ (∃ (s : State), s.block.leash.stack = .normal ∧ s.block.anyLane = false ∧ s.block.leash.hubMode ≠ 1 ∧ s.block.settled = true)
    ∧ (∃ (s : State), s.block.leash.stack = .normal ∧ s.block.anyLane = false ∧ s.block.leash.hubMode = 1 ∧ s.block.settled = true)
    ∧ (∃ (s : State) (t : Nat), s.block.leash.stack = .brodda ∧ s.block.leash.silentAt = some t ∧ s.block.leash.broddaStopped = false ∧ s.block.settled = true)
    ∧ (∃ (s : State), s.block.anyLane = false ∧ s.block.leash.lostAt = none ∧ s.block.settled = true)
    ∧ (∃ (s : State) (t : Nat), s.block.leash.lostAt = some t ∧ s.block.anyLane = false ∧ s.block.latch.state = .armed ∧ s.block.settled = true) :=
  ⟨⟨park, 100000000000, by decide +kernel⟩,
   ⟨park, 11, by decide +kernel⟩,
   ⟨(ringUp (ri (fun r => {r with segs := r.segs.map fun g => {g with converted := true}}) park)), 3, 3, by decide +kernel⟩,
   ⟨(ringUp (ri (fun r => {r with trips := [3]}) park)), 3, by decide +kernel⟩,
   ⟨(ringUp (ri (fun r => {r with trips := [3]}) park)), by decide +kernel⟩,
   ⟨(ringUp park), by decide +kernel⟩,
   ⟨(ringUp park), 4, by decide +kernel⟩,
   ⟨(ri (fun r => {r with rungs := modAt r.rungs 5 fun _ => false}) (ringUp park)), 4, by decide +kernel⟩,
   ⟨(ri (fun r => {r with rungs := modAt r.rungs 5 fun _ => false}) (ringUp park)), 5, by decide +kernel⟩,
   ⟨(ri (fun r => {r with segs := modAt r.segs 5 fun g => {g with cutAt := some 7}}) park), 5, 7, by decide +kernel⟩,
   ⟨(le (fun l => {l with stack := .normal, hubMode := 0}) (lanesDn park)), by decide +kernel⟩,
   ⟨(le (fun l => {l with stack := .normal, hubMode := 1}) (lanesDn park)), by decide +kernel⟩,
   ⟨(le (fun l => {l with stack := .brodda, silentAt := some 3, broddaStopped := false}) (lanesDn park)), 3, by decide +kernel⟩,
   ⟨(lanesDn park), by decide +kernel⟩,
   ⟨(le (fun l => {l with lostAt := some 7}) (lanesDn park)), 7, by decide +kernel⟩⟩

end W01

namespace W02
def sn (f : SensePart → SensePart) (s : State) := up (fun b => b.onSense f) s
def ba (f : BalPart → BalPart) (s : State) := up (fun b => b.onBal f) s
def busy (s : State) := up (fun b => onSeg 3 (fun g => {g with refBusy := true, dieT := some 77}) b) (sn (fun x => {x with refJob := none}) s)
def runEntry (s : State) := up (fun b => acceptRequest S 0x0304 [] true b) s
def rj : RefJob := {src := S, named := 8, done := 0, passed := 0, dis := 0, failed := false}
def hst (a c : Int) (k : Nat) (b : Block) : Block := onCell k (fun x => {x with hist := List.replicate 16 (some a), before := List.replicate 16 (some c)}) b
def stp (s : State) := up (fun b => onCell 40 (fun x => {x with stepDelta := -1000}) (hst (-2048000) 0 41 (hst (-2048000) 0 39 (hst 4096000 0 40 b)))) s

theorem witness_ApertureEventsAndChecksChangeTheSensing :
    (∃ (s : State), s.block.settled = true)
    ∧ (∃ (s : State), s.block.bal.openNext = false ∧ s.block.bal.stagedActive = false ∧ s.block.bal.stagedBridges = [] ∧ s.block.settled = true)
    ∧ (∃ (s : State), s.block.bal.openNext = true ∧ s.block.settled = true)
    ∧ (∃ (s : State), s.block.bal.openNext = false ∧ s.block.bal.stagedActive = true ∧ s.block.bal.staggerNext < 2 ∧ s.block.settled = true)
    ∧ (∃ (s : State) (p : Schedule), s.block.sense.pendingRate = some p ∧ s.block.settled = true)
    ∧ (∃ (s : State), s.block.sense.firstSnap = true ∧ ((List.range s.block.nSeg).all fun n => (s.block.seg n).dieT.isNone) = true ∧ s.block.settled = true)
    ∧ (∃ (s : State) (n : Fin 16) (dev : Int) (worst : Nat), (s.block.seg n).refBusy = true ∧ s.block.sense.refJob = none ∧ |dev| ≤ 150 ∧ worst ≤ 5000 ∧ s.block.settled = true)
    ∧ (∃ (s : State) (n : Fin 16) (dev : Int) (worst : Nat), (s.block.seg n).refBusy = true ∧ s.block.sense.refJob = none ∧ 150 < |dev| ∧ worst ≤ 5000 ∧ s.block.settled = true)
    ∧ (∃ (s : State) (n : Fin 16) (j : RefJob) (i : Nat) (q : Nat), (s.block.seg n).refBusy = true ∧ s.block.sense.refJob = some j ∧ j.src = .session i q ∧ (s.block.entry? i q).isSome = true ∧ j.named = 2 ^ n.val ∧ j.done = 0 ∧ j.passed = 0 ∧ j.dis = 0 ∧ j.failed = false ∧ s.block.settled = true)
    ∧ (∃ (s : State) (c : Fin 512) (t : Nat), (s.block.cell c).chfAt = some t ∧ (s.block.cell c).chfRaised = false ∧ s.block.settled = true)
    ∧ (∃ (s : State) (t : Nat), s.block.sense.bothLostAt = some t ∧ s.block.sense.bothLost = false ∧ s.block.settled = true)
    ∧ (∃ (s : State) (k : Fin 512) (lo : Int) (hi : Int) (own : Int), 2 ≤ k.val ∧ k.val + 2 < s.block.nCell ∧ 500 ≤ |(s.block.cell k).stepDelta| ∧ (∀ c ∈ [k.val - 2, k.val - 1, k.val + 1, k.val + 2], (s.block.cell c).stepDelta = 0) ∧ s.block.stepDv (k.val - 1) = some lo ∧ s.block.stepDv (k.val + 1) = some hi ∧ s.block.stepDv k = some own ∧ 0 ≤ -(ohmOf lo (-(s.block.cell k).stepDelta)) ∧ -(ohmOf lo (-(s.block.cell k).stepDelta)) ≤ 200000 ∧ 0 ≤ ohmOf hi (s.block.cell k).stepDelta ∧ ohmOf hi (s.block.cell k).stepDelta ≤ 200000 ∧ |own * 1000 + (s.block.cell k).stepDelta * (-(ohmOf lo (-(s.block.cell k).stepDelta)) + ohmOf hi (s.block.cell k).stepDelta + fxRound ((s.block.cellFlt k).rs * 1000000)) * 2048| ≤ 2000 * 1000 * 2048 ∧ k.val + 1 < s.block.sense.wires.length ∧ s.block.settled = true)
    ∧ (∃ (s : State) (k : Fin 512), |(s.block.cell k).stepDelta| < 500 ∧ s.block.settled = true) :=
  ⟨⟨park, by decide +kernel⟩,
   ⟨park, by decide +kernel⟩,
   ⟨(ba (fun x => {x with openNext := true, manuals := [{seg := 3, target := {cell := 99, bleed := true, shuttle := 0, cur := 0, manual := true}, endAt := 5, charge := 6}]}) park), by decide +kernel⟩,
   ⟨(ba (fun x => {x with openNext := false, stagedActive := true, staggerNext := 1, staged := [{cell := 1, bleed := true, shuttle := 0, cur := 0, manual := false}]}) park), by decide +kernel⟩,
   ⟨(sn (fun x => {x with pendingRate := some {rate := 2, start := 50000000000}}) park), {rate := 2, start := 50000000000}, by decide +kernel⟩,
   ⟨(sn (fun x => {x with firstSnap := true}) park), by decide +kernel⟩,
   ⟨(busy park), 3, 150, 5000, by decide +kernel⟩,
   ⟨(busy park), 3, (-151), 5000, by decide +kernel⟩,
   ⟨(sn (fun x => {x with refJob := some rj}) (busy (runEntry park))), 3, rj, 0, 5, by decide +kernel⟩,
   ⟨(up (onCell 7 fun x => {x with chfAt := some 5, chfRaised := false}) park), 7, 5, by decide +kernel⟩,
   ⟨(sn (fun x => {x with bothLostAt := some 5, bothLost := false}) park), 5, by decide +kernel⟩,
   ⟨(stp park), 40, (-2048000), (-2048000), 4096000, by decide +kernel⟩,
   ⟨park, 5, by decide +kernel⟩⟩

theorem witness_SensingCommandsSetWhatTheyName :
    (∃ (s : State) (src : Src) (code : Nat), s.block.sys.mstate ∈ [MState.park, .run, .fault, .safe] ∧ code ≤ 3 ∧ s.block.settled = true ∧ s.block.admits src 0x0301 true = true)
    ∧ (∃ (s : State) (src : Src) (mode : Nat) (nReq : Nat), mode ≤ 1 ∧ 1 ≤ nReq ∧ nReq ≤ 4096 ∧ s.block.settled = true ∧ s.block.admits src 0x0302 true = true)
    ∧ (∃ (s : State) (src : Src) (mode : Nat) (nReq : Nat), mode ≤ 1 ∧ 1 ≤ nReq ∧ nReq ≤ 4096 ∧ s.block.settled = true ∧ s.block.admits src 0x0302 true = true)
    ∧ (∃ (s : State) (src : Src) (mask : Nat) (mode : Nat), s.block.sys.mstate ≠ .boot ∧ s.block.maskFitted mask = true ∧ mode ≤ 1 ∧ s.block.settled = true ∧ s.block.admits src 0x0303 true = true)
    ∧ (∃ (s : State) (src : Src) (mask : Nat), s.block.maskFitted mask = true ∧ s.block.refBusyMask.land mask = 0 ∧ mask ≠ 0 ∧ s.block.settled = true ∧ s.block.admits src 0x0304 true = true)
    ∧ (∃ (s : State) (src : Src), s.block.settled = true ∧ s.block.admits src 0x0304 true = true)
    ∧ (∃ (s : State) (src : Src) (mask : Nat), s.block.maskFitted mask = true ∧ s.block.settled = true ∧ s.block.admits src 0x0305 true = true)
    ∧ (∃ (s : State) (src : Src) (cell : Nat) (therm : Nat), cell < s.block.nCell ∧ therm < s.block.nTherm ∧ cell < s.block.sense.cells.length ∧ s.block.settled = true ∧ s.block.admits src 0x0306 true = true)
    ∧ (∃ (s : State) (src : Src) (mask : Nat) (curve : Nat), s.block.maskFitted mask = true ∧ curve ≤ 1 ∧ s.block.settled = true ∧ s.block.admits src 0x0307 true = true)
    ∧ (∃ (s : State) (src : Src) (rsh : Nat), s.block.sys.mstate ≠ .run ∧ 45000 ≤ rsh ∧ rsh ≤ 55000 ∧ s.block.settled = true ∧ s.block.admits src 0x0308 true = true)
    ∧ (∃ (s : State) (src : Src), s.block.settled = true ∧ s.block.admits src 0x0309 false = true) :=
  ⟨⟨park, S, 3, by decide +kernel⟩,
   ⟨park, S, 1, 4096, by decide +kernel⟩,
   ⟨park, S, 1, 50, by decide +kernel⟩,
   ⟨park, S, 0xC01, 1, by decide +kernel⟩,
   ⟨park, S, 0xC01, by decide +kernel⟩,
   ⟨park, S, by decide +kernel⟩,
   ⟨park, S, 3, by decide +kernel⟩,
   ⟨park, S, 383, 95, by decide +kernel⟩,
   ⟨park, S, 5, 1, by decide +kernel⟩,
   ⟨park, S, 45000, by decide +kernel⟩,
   ⟨park, S, by decide +kernel⟩⟩

end W02

namespace W03
def sn (f : SensePart → SensePart) (s : State) := up (fun b => b.onSense f) s
def sg (n : Nat) (f : SegSense → SegSense) (s : State) := up (fun b => onSeg n f b) s
def bk (s : State) := up (fun b => (b.onBark fun k => {k with drive := false}).onLatch fun l => {l with resetting := none}) s
def ow (w p : Nat) (r : Option Nat) : OwtSlot := {wire := w, phase := p, blanked := true, held := [], result := r}
def runEntry (s : State) := up (fun b => acceptRequest S 0x0311 [] true b) s
def hst (v : Int) (s : State) := sn (fun x => {x with cells := x.cells.map fun c => {c with hist := [some (v * 2048)]}, testWire := none, clearOpen := none}) s
def rd (t o p : Int) (r : Bool) : OwtReading := {testNow := t, otherNow := some o, otherRng := r, pair := some p, dI := 0, othersSum := 0, t2b := p, stringSum := 0, divider := 0, boundarySum := 0, boundaryPrev := 0}
def slot (w p : Nat) (s : State) := sg 1 (fun g => {g with owt := some (ow w p none)}) (hst 3500000 s)

theorem witness_ComparatorsTripAndTheBarkLineActs :
    (∃ (s : State) (c : Fin 512) (ov : Bool), c.val < s.block.nCell ∧ (s.block.cell c).pair = false ∧ s.block.slotOver false c = none ∧ segOf c < s.block.sense.segs.length ∧ ((s.block.seg (segOf c)).crossing.any fun x => x.1 == compId c false && x.2.1 == ov) = false ∧ s.block.settled = true)
    ∧ (∃ (s : State) (c : Fin 512) (ov : Bool) (n : Nat) (slot : OwtSlot), c.val < s.block.nCell ∧ (s.block.cell c).pair = false ∧ s.block.slotOver false c = some n ∧ (s.block.seg n).owt = some slot ∧ slot.held.contains (c.val, ov) = false ∧ s.block.settled = true)
    ∧ (∃ (s : State) (c : Fin 512) (ov : Bool), c.val < s.block.nCell ∧ s.block.pairEngaged c = true ∧ segOf c < s.block.sense.segs.length ∧ ((s.block.seg (segOf c)).crossing.any fun x => x.1 == compId c true && x.2.1 == ov) = false ∧ s.block.settled = true)
    ∧ (∃ (s : State) (c : Fin 512) (ov : Bool) (x : Nat × Bool × Nat), ((s.block.seg (segOf c)).crossing.find? fun y => y.1 == compId c false && y.2.1 == ov) = some x ∧ s.block.slotOver true c = none ∧ s.block.settled = true)
    ∧ (∃ (s : State) (c : Fin 512) (ov : Bool) (pair : Bool), (∀ x ∈ (s.block.seg (segOf c)).tripped, x.1 = compId c pair ∧ x.2.1 = ov) ∧ s.block.settled = true)
    ∧ (∃ (s : State), s.block.bark.drive = false ∧ s.block.latch.resetting = none ∧ s.block.latch.state = .armed ∧ s.block.settled = true)
    ∧ (∃ (s : State), s.block.bark.drive = false ∧ s.block.latch.resetting = none ∧ ((s.block.latch.state = .test ∨ s.block.latch.state = .lockout)) ∧ s.block.settled = true)
    ∧ (∃ (s : State), s.block.bark.drive = true ∧ s.block.settled = true) :=
  ⟨⟨park, 383, true, by decide +kernel⟩,
   ⟨(sg 0 (fun g => {g with owt := some (ow 5 2 none)}) park), 5, true, 0, (ow 5 2 none), by decide +kernel⟩,
   ⟨(sg 0 (fun g => {g with owt := some (ow 5 2 none)}) park), 5, true, by decide +kernel⟩,
   ⟨(sg 1 (fun g => {g with crossing := [(3,false,200000000)]}) park), 35, false, (3,false,200000000), by decide +kernel⟩,
   ⟨(up (fun b => (b.onRing fun r => {r with trips := [1,5]}).onLeash fun l => {l with tripsUp := [1,0x10]}) (sg 1 (fun g => {g with crossing := [(3,false,200000000)], tripped := [(3,false,true)]}) park)), 35, false, false, by decide +kernel⟩,
   ⟨(bk park), by decide +kernel⟩,
   ⟨(up (fun b => b.onLatch fun l => {l with state := .lockout, muzzle := true}) (bk off)), by decide +kernel⟩,
   ⟨(up (fun b => b.onBark fun k => {k with drive := true}) park), by decide +kernel⟩⟩

theorem witness_OpenWireTestJudgesEachWire :
    (∃ (s : State) (t : Nat), s.block.sense.owtNext = some t ∧ s.block.settled = true)
    ∧ (∃ (s : State), s.block.sense.owtNext = none ∧ s.block.settled = true)
    ∧ (∃ (s : State) (n : Fin 16) (j : Nat), n.val < s.block.nSeg ∧ j ≤ s.block.nCell ∧ s.block.testSeg j = n.val ∧ (s.block.seg n).owt = none ∧ n.val < s.block.sense.segs.length ∧ s.block.settled = true)
    ∧ (∃ (s : State) (n : Fin 16) (o : OwtSlot), (s.block.seg n).owt = some o ∧ o.phase = 1 ∧ s.block.settled = true)
    ∧ (∃ (s : State) (n : Fin 16) (o : OwtSlot), (s.block.seg n).owt = some o ∧ o.phase = 2 ∧ s.block.settled = true)
    ∧ (∃ (s : State) (n : Fin 16) (o : OwtSlot) (rd : OwtReading), (s.block.seg n).owt = some o ∧ o.phase = 3 ∧ (s.block.classify o.wire rd).1 = 0 ∧ s.block.sense.testWire = none ∧ s.block.sense.clearOpen = none ∧ o.wire < s.block.sense.wires.length ∧ s.block.settled = true)
    ∧ (∃ (s : State) (n : Fin 16) (o : OwtSlot) (rd : OwtReading), (s.block.seg n).owt = some o ∧ o.phase = 3 ∧ (s.block.classify o.wire rd).1 = 1 ∧ s.block.sense.testWire = none ∧ s.block.sense.clearOpen = none ∧ o.wire < s.block.sense.wires.length ∧ s.block.settled = true)
    ∧ (∃ (s : State) (n : Fin 16) (o : OwtSlot) (rd : OwtReading), (s.block.seg n).owt = some o ∧ o.phase = 3 ∧ (s.block.classify o.wire rd).1 = 2 ∧ s.block.sense.testWire = none ∧ s.block.sense.clearOpen = none ∧ o.wire < s.block.sense.wires.length ∧ o.wire ≠ 0 ∧ o.wire ≠ s.block.nCell ∧ pairless o.wire = false ∧ s.block.pairHolds o.wire rd = true ∧ s.block.sumsHold rd = true ∧ (s.block.wire o.wire).patterns = 0 ∧ (s.block.wire o.wire).opened = false ∧ s.block.settled = true)
    ∧ (∃ (s : State) (n : Fin 16) (o : OwtSlot) (rd : OwtReading), (s.block.seg n).owt = some o ∧ o.phase = 3 ∧ (s.block.classify o.wire rd).1 = 2 ∧ s.block.sense.testWire = none ∧ s.block.sense.clearOpen = none ∧ o.wire < s.block.sense.wires.length ∧ o.wire ≠ 0 ∧ o.wire ≠ s.block.nCell ∧ pairless o.wire = false ∧ s.block.pairHolds o.wire rd = true ∧ s.block.sumsHold rd = true ∧ (s.block.wire o.wire).patterns = 1 ∧ (s.block.wire o.wire).opened = false ∧ s.block.settled = true)
    ∧ (∃ (s : State) (n : Fin 16) (o : OwtSlot) (rd : OwtReading), (s.block.seg n).owt = some o ∧ o.phase = 3 ∧ 2 ≤ (s.block.classify o.wire rd).1 ∧ s.block.sense.testWire = none ∧ s.block.sense.clearOpen = none ∧ o.wire ≠ 0 ∧ o.wire ≠ s.block.nCell ∧ pairless o.wire = false ∧ s.block.pairHolds o.wire rd = false ∧ s.block.settled = true)
    ∧ (∃ (s : State) (n : Fin 16) (o : OwtSlot) (rd : OwtReading) (i : Nat) (q : Nat), (s.block.seg n).owt = some o ∧ o.phase = 3 ∧ (s.block.classify o.wire rd).1 = 0 ∧ s.block.sense.testWire = some (.session i q, o.wire) ∧ s.block.sense.clearOpen = none ∧ (s.block.entry? i q).isSome = true ∧ s.block.settled = true)
    ∧ (∃ (s : State) (n : Fin 16) (o : OwtSlot) (rd : OwtReading) (i : Nat) (q : Nat), (s.block.seg n).owt = some o ∧ o.phase = 3 ∧ (s.block.classify o.wire rd).1 = 0 ∧ s.block.sense.testWire = none ∧ s.block.sense.clearOpen = some (.session i q, o.wire, 1, true) ∧ (s.block.entry? i q).isSome = true ∧ o.wire < s.block.sense.wires.length ∧ s.block.settled = true)
    ∧ (∃ (s : State) (n : Fin 16) (o : OwtSlot), (s.block.seg n).owt = some o ∧ o.phase = 4 ∧ o.result = some 2 ∧ s.block.settled = true)
    ∧ (∃ (s : State) (n : Fin 16) (o : OwtSlot), (s.block.seg n).owt = some o ∧ o.phase = 5 ∧ s.block.settled = true)
    ∧ (∃ (s : State) (n : Fin 16) (o : OwtSlot), (s.block.seg n).owt = some o ∧ ((o.phase = 6 ∨ (o.phase = 4 ∧ o.result ≠ some 2))) ∧ o.held = [] ∧ s.block.settled = true) :=
  ⟨⟨(sn (fun x => {x with owtNext := some 999999999}) park), 999999999, by decide +kernel⟩,
   ⟨(sn (fun x => {x with owtNext := none}) park), by decide +kernel⟩,
   ⟨park, 0, 0, by decide +kernel⟩,
   ⟨(sg 3 (fun g => {g with owt := some (ow 5 1 none)}) park), 3, (ow 5 1 none), by decide +kernel⟩,
   ⟨(sg 3 (fun g => {g with owt := some (ow 5 2 none)}) park), 3, (ow 5 2 none), by decide +kernel⟩,
   ⟨(slot 40 3 park), 1, (ow 40 3 none), (rd 3500000 3500000 7000000 false), by decide +kernel⟩,
   ⟨(slot 40 3 park), 1, (ow 40 3 none), (rd 3000000 3500000 7000000 false), by decide +kernel⟩,
   ⟨(slot 40 3 park), 1, (ow 40 3 none), (rd 50000 3500000 7000000 true), by decide +kernel⟩,
   ⟨(up (onWire 40 fun w => {w with patterns := 1}) (slot 40 3 park)), 1, (ow 40 3 none), (rd 50000 3500000 7000000 true), by decide +kernel⟩,
   ⟨(slot 40 3 park), 1, (ow 40 3 none), (rd 50000 3500000 7100000 true), by decide +kernel⟩,
   ⟨(sn (fun x => {x with testWire := some (S, 40)}) (slot 40 3 (runEntry park))), 1, (ow 40 3 none), (rd 3500000 3500000 7000000 false), 0, 5, by decide +kernel⟩,
   ⟨(up (onWire 40 fun w => {w with opened := true}) <| sg 1 (fun g => {g with pairs := [(40, none)], tripped := [(40, true, true)]}) <| sn (fun x => {x with clearOpen := some (S, 40, 1, true)}) (slot 40 3 (runEntry park))), 1, (ow 40 3 none), (rd 3500000 3500000 7000000 false), 0, 5, by decide +kernel⟩,
   ⟨(sg 3 (fun g => {g with owt := some (ow 5 4 (some 2))}) park), 3, (ow 5 4 (some 2)), by decide +kernel⟩,
   ⟨(sg 3 (fun g => {g with owt := some (ow 5 5 (some 2))}) park), 3, (ow 5 5 (some 2)), by decide +kernel⟩,
   ⟨(sg 11 (fun g => {g with owt := some (ow 383 4 (some 0))}) park), 11, (ow 383 4 (some 0)), by decide +kernel⟩⟩

theorem witness_IntegrityCommandsSetOrBeginWhatTheyName :
    (∃ (s : State) (src : Src) (mode : Nat) (ms : Nat), mode ≤ 1 ∧ 100 ≤ ms ∧ ms ≤ 60000 ∧ ms % 100 = 0 ∧ s.block.settled = true ∧ s.block.admits src 0x0310 true = true)
    ∧ (∃ (s : State) (src : Src) (wire : Nat), s.block.sys.mstate ≠ .boot ∧ wire ≤ s.block.nCell ∧ s.block.settled = true ∧ s.block.admits src 0x0311 true = true)
    ∧ (∃ (s : State) (src : Src) (wire : Nat), wire ≤ s.block.nCell ∧ (s.block.wire wire).opened = true ∧ (s.block.seg (s.block.testSeg wire)).owt = none ∧ s.block.settled = true ∧ s.block.admits src 0x0312 true = true)
    ∧ (∃ (s : State) (src : Src) (wire : Nat) (o : OwtSlot), wire ≤ s.block.nCell ∧ (s.block.wire wire).opened = true ∧ (s.block.seg (s.block.testSeg wire)).owt = some o ∧ o.wire = wire ∧ s.block.settled = true ∧ s.block.admits src 0x0312 true = true)
    ∧ (∃ (s : State) (src : Src) (on : Nat), on ≤ 1 ∧ s.block.settled = true ∧ s.block.admits src 0x0313 true = true) :=
  ⟨⟨(up (fun b => b.onLeash fun l => {l with lanes := [{up := true, hold := none, downs := [], lastSync := 5}]}) park), S, 1, 60000, by decide +kernel⟩,
   ⟨park, S, 384, by decide +kernel⟩,
   ⟨(up (onWire 40 fun w => {w with opened := true}) park), S, 40, by decide +kernel⟩,
   ⟨(up (onWire 40 fun w => {w with opened := true}) (slot 40 3 park)), S, 40, (ow 40 3 none), by decide +kernel⟩,
   ⟨park, S, 1, by decide +kernel⟩⟩

end W03

namespace W04
def ba (f : BalPart → BalPart) (s : State) := up (fun b => b.onBal f) s
def el (c : Nat) (z : Int) (v : Int) (s : State) := up (fun b => onCellFlt c (fun x => {x with valid := true, z := z, cap := 280000}) (onCell c (fun x => {x with chan := {x.chan with last := some (v*2048), w0 := some (v*2048)}, pair := false, thIdx := 0}) (b.onSense fun y => {y with therms := y.therms.map fun t => {t with temp := some 2500}}))) s
def cl (s : State) := ba (fun x => {x with clearing := none, manuals := []}) s
def two (s : State) := up (onSeg 0 fun g => {g with present := true}) (el 0 (fxOne*9/10) 3600000 (el 1 (fxOne*5/10) 3600000 (el 2 (fxOne*5/10) 3600000 (cl s))))
def man (n c : Nat) (bl : Bool) (i : Nat) : Manual := {seg := n, target := {cell := c, bleed := bl, shuttle := i, cur := 500, manual := true}, endAt := 999999999, charge := 7}
def runEntry (op : Nat) (s : State) := up (fun b => acceptRequest S op [] true b) s
def busyEl (s : State) := ba (fun x => {x with segs := x.segs.map fun g => {g with shuttles := [{state := .running, cell := 65, cur := 1500, runsThrough := false}, {state := .learning, cell := 66, cur := -1500, runsThrough := true}, Shuttle.reset, {state := .outOfService, cell := 0, cur := 0, runsThrough := false}], bridge := 1800, bridgeOn := true}, cells := x.cells.map fun y => {y with bleed := true}}) s

theorem witness_BalancingDecidesDeratesAndFails :
    (∃ (s : State) (t : List Target × List (Nat × Int)), s.block.bal.sent = some t ∧ s.block.bal.stagedActive = false ∧ s.block.settled = true)
    ∧ (∃ (s : State) (t : List Target × List (Nat × Int)), s.block.bal.sent = some t ∧ s.block.bal.stagedActive = true ∧ s.block.settled = true)
    ∧ (∃ (s : State), s.block.bal.clearing = none ∧ s.block.bal.en = true ∧ s.block.bal.disabling = none ∧ ((s.block.sys.mstate = .park ∨ s.block.sys.mstate = .run)) ∧ s.block.hinge = false ∧ s.block.bal.cells.length = 512 ∧ s.block.pwr.sdsCap = s.block.sdsOn ∧ s.block.settled = true)
    ∧ (∃ (s : State), s.block.bal.clearing = none ∧ ((s.block.bal.en = false ∨ (s.block.sys.mstate ≠ .park ∧ s.block.sys.mstate ≠ .run) ∨ s.block.hinge = true)) ∧ s.block.settled = true)
    ∧ (∃ (s : State) (i : Nat) (q : Nat) (m : Nat) (t : Nat), s.block.bal.clearing = some (.session i q, m, t) ∧ (s.block.entry? i q).isSome = true ∧ t + secT ≤ s.block.nextMultiple 10000000 ∧ s.block.bal.en = false ∧ (∀ n < 16, ((s.block.segBal n).shuttles.any fun h => h.state == .outOfService) = false ∧ (s.block.segBal n).bridgeFault = false) ∧ (∀ c < 512, (s.block.cellBal c).stuck = false) ∧ s.block.settled = true)
    ∧ (∃ (s : State) (n : Fin 16) (t : Int), t < 8500 ∧ (s.block.segBal n).overTemp = false ∧ n.val < s.block.bal.segs.length ∧ n.val < s.block.sense.segs.length ∧ s.block.settled = true)
    ∧ (∃ (s : State) (n : Fin 16) (t : Int), 8500 ≤ t ∧ t < 10500 ∧ (s.block.segBal n).overTemp = false ∧ n.val < s.block.bal.segs.length ∧ n.val < s.block.sense.segs.length ∧ s.block.settled = true)
    ∧ (∃ (s : State) (n : Fin 16) (t : Int), 10500 ≤ t ∧ n.val < s.block.bal.segs.length ∧ n.val < s.block.sense.segs.length ∧ s.block.settled = true)
    ∧ (∃ (s : State) (n : Fin 16) (i : Fin 4), s.block.bal.clearing = none ∧ (∀ m ∈ s.block.bal.manuals, m.seg ≠ n.val) ∧ n.val < s.block.bal.segs.length ∧ i.val < (s.block.segBal n).shuttles.length ∧ s.block.settled = true)
    ∧ (∃ (s : State) (n : Fin 15), s.block.bal.clearing = none ∧ n.val < s.block.bal.segs.length ∧ s.block.settled = true)
    ∧ (∃ (s : State) (c : Fin 512), s.block.bal.clearing = none ∧ c.val < s.block.bal.cells.length ∧ s.block.settled = true)
    ∧ (∃ (s : State) (n : Fin 15) (i : Nat) (q : Nat) (m : Nat) (t : Nat), s.block.bal.clearing = some (.session i q, m, t) ∧ m.testBit n = true ∧ s.block.sys.now ≤ t + secT ∧ (s.block.entry? i q).isSome = true ∧ s.block.settled = true)
    ∧ (∃ (s : State) (n : Fin 16) (m : Manual), s.block.bal.manuals = [m] ∧ m.seg = n.val ∧ m.target.bleed = false ∧ n.val < s.block.bal.segs.length ∧ s.block.settled = true)
    ∧ (∃ (s : State) (i : Nat) (q : Nat), s.block.bal.disabling = some (.session i q) ∧ (s.block.entry? i q).isSome = true ∧ s.block.bal.manuals = [] ∧ s.block.settled = true) :=
  ⟨⟨(ba (fun x => {x with stagedActive := false, sent := some ([{cell := 3, bleed := true, shuttle := 0, cur := 0, manual := false}], [(1, 500)])}) park), ([{cell := 3, bleed := true, shuttle := 0, cur := 0, manual := false}], [(1, 500)]), by decide +kernel⟩,
   ⟨(ba (fun x => {x with stagedActive := true, sent := some ([], [(1, 500)])}) park), ([], [(1, 500)]), by decide +kernel⟩,
   ⟨(ba (fun x => {x with en := true, disabling := none}) (two park)), by decide +kernel⟩,
   ⟨(ba (fun x => {x with en := false}) (two park)), by decide +kernel⟩,
   ⟨(ba (fun x => {x with en := false, clearing := some (S, 3, 0)}) (runEntry 0x0406 park)), 0, 5, 3, 0, by decide +kernel⟩,
   ⟨(busyEl (cl park)), 2, 8499, by decide +kernel⟩,
   ⟨(busyEl (cl park)), 2, 8500, by decide +kernel⟩,
   ⟨(ba (fun x => {x with manuals := [man 2 70 false 2]}) (busyEl (cl park))), 2, 10500, by decide +kernel⟩,
   ⟨(up (fun b => onCell 66 (fun x => {x with learnp := true}) b) (busyEl (cl park))), 2, 1, by decide +kernel⟩,
   ⟨(busyEl (cl park)), 14, by decide +kernel⟩,
   ⟨(busyEl (cl park)), 511, by decide +kernel⟩,
   ⟨(ba (fun x => {x with en := false, clearing := some (S, 3, 0)}) (runEntry 0x0406 (up (fun b => b.onSys fun y => {y with now := 99999999}) park))), 1, 0, 5, 3, 0, by decide +kernel⟩,
   ⟨(ba (fun x => {x with manuals := [man 2 70 false 2]}) (busyEl (cl park))), 2, (man 2 70 false 2), by decide +kernel⟩,
   ⟨(ba (fun x => {x with en := true, disabling := some S}) (busyEl (cl (runEntry 0x0401 park)))), 0, 5, by decide +kernel⟩⟩

theorem witness_BalancingCommandsSetWhatTheyName :
    (∃ (s : State) (src : Src), s.block.settled = true ∧ s.block.admits src 0x0401 true = true)
    ∧ (∃ (s : State) (src : Src), s.block.bal.en = true ∧ s.block.settled = true ∧ s.block.admits src 0x0401 true = true)
    ∧ (∃ (s : State) (src : Src), s.block.bal.en = false ∧ s.block.settled = true ∧ s.block.admits src 0x0401 true = true)
    ∧ (∃ (s : State) (src : Src) (goal : Nat) (mode : Nat), goal ≤ 2 ∧ mode ≤ 2 ∧ s.block.settled = true ∧ s.block.admits src 0x0402 true = true)
    ∧ (∃ (s : State) (src : Src) (start : Nat) (stop : Nat) (brStart : Nat) (brStop : Nat), 10 ≤ start ∧ start ≤ 1000000 ∧ stop < start ∧ 100 ≤ brStart ∧ brStart ≤ 10000000 ∧ brStop < brStart ∧ s.block.settled = true ∧ s.block.admits src 0x0403 true = true)
    ∧ (∃ (s : State) (src : Src) (iSet : Nat) (iBr : Nat) (vMargin : Nat) (tFeedMin : Int) (tMax : Int) (maxBleed : Nat) (pwrMax : Nat), 100 ≤ iSet ∧ iSet ≤ 2000 ∧ iSet % 50 = 0 ∧ 100 ≤ iBr ∧ iBr ≤ 2000 ∧ iBr % 50 = 0 ∧ 20000 ≤ vMargin ∧ vMargin ≤ 500000 ∧ vMargin % 1000 = 0 ∧ -2000 ≤ tFeedMin ∧ tFeedMin ≤ 2500 ∧ 3000 ≤ tMax ∧ tMax ≤ 7000 ∧ maxBleed ≤ 32 ∧ 5 ≤ pwrMax ∧ pwrMax ≤ 150 ∧ s.block.settled = true ∧ s.block.admits src 0x0404 true = true)
    ∧ (∃ (s : State) (src : Src) (cell : Nat) (cur : Int) (time : Nat) (i : Nat), s.block.sys.mstate = .park ∧ cell < s.block.nCell ∧ 100 ≤ |cur| ∧ |cur| ≤ 2000 ∧ cur % 50 = 0 ∧ 1 ≤ time ∧ time ≤ 3600 ∧ s.block.exclusion cell = 0 ∧ (s.block.bal.manuals.find? fun m => m.seg == segOf cell) = none ∧ s.block.manualShuttle (segOf cell) = some i ∧ (s.block.segBal (segOf cell)).overTemp = false ∧ s.block.shuttleVolts cell = true ∧ (if 0 < cur then s.block.noDraw cell else s.block.noFeedV cell || s.block.noFeedT cell) = false ∧ segOf cell < s.block.bal.segs.length ∧ s.block.settled = true ∧ s.block.admits src 0x0405 true = true)
    ∧ (∃ (s : State) (src : Src) (cell : Nat) (cur : Int) (time : Nat), s.block.sys.mstate = .park ∧ cell < s.block.nCell ∧ 100 ≤ cur ∧ cur ≤ 2000 ∧ cur % 50 = 0 ∧ 1 ≤ time ∧ time ≤ 3600 ∧ s.block.exclusion cell = 0 ∧ (s.block.bal.manuals.find? fun m => m.seg == segOf cell) = none ∧ (s.block.segBal (segOf cell)).overTemp = false ∧ s.block.noDraw cell = false ∧ cell < s.block.bal.cells.length ∧ s.block.settled = true ∧ s.block.admits src 0x0405 true = true)
    ∧ (∃ (s : State) (src : Src) (cell : Nat) (time : Nat) (m : Manual), s.block.sys.mstate = .park ∧ cell < s.block.nCell ∧ 1 ≤ time ∧ time ≤ 3600 ∧ s.block.bal.manuals = [m] ∧ m.seg = segOf cell ∧ m.target.cell = cell ∧ m.target.bleed = true ∧ cell < s.block.bal.cells.length ∧ s.block.settled = true ∧ s.block.admits src 0x0405 true = true)
    ∧ (∃ (s : State) (src : Src) (mask : Nat), s.block.maskFitted mask = true ∧ s.block.settled = true ∧ s.block.admits src 0x0406 true = true)
    ∧ (∃ (s : State) (src : Src), s.block.settled = true ∧ s.block.admits src 0x0407 false = true) :=
  ⟨⟨park, S, by decide +kernel⟩,
   ⟨(ba (fun x => {x with en := true}) park), S, by decide +kernel⟩,
   ⟨park, S, by decide +kernel⟩,
   ⟨park, S, 2, 1, by decide +kernel⟩,
   ⟨park, S, 10, 9, 100, 0, by decide +kernel⟩,
   ⟨park, S, 100, 2000, 20000, (-2000), 7000, 0, 150, by decide +kernel⟩,
   ⟨(two park), S, 1, (-2000), 3600, 0, by decide +kernel⟩,
   ⟨(two park), S, 2, 100, 1, by decide +kernel⟩,
   ⟨(ba (fun x => {x with manuals := [man 2 70 true 2]}) (busyEl (cl park))), S, 70, 1, (man 2 70 true 2), by decide +kernel⟩,
   ⟨(busyEl park), S, 0x801, by decide +kernel⟩,
   ⟨park, S, by decide +kernel⟩⟩

end W04

namespace W05
def fl (f : FltPart → FltPart) (s : State) := up (fun b => b.onFlt f) s
def runEntry (op : Nat) (s : State) := up (fun b => acceptRequest S op [] true b) s
/-- The words of a valid cell table (R148): OCV, hysteresis, RC entries. -/
def ocvW : List Nat := (List.range 909).map fun i => 3000000 + 10000 * (i % 101)
def mW : List Nat := List.replicate 909 500
def rcW : List Nat := (List.range 99).flatMap fun _ => [100, 200, 200, 200]
def headB : List Byte := leBytes 2 1 ++ leBytes 2 6312 ++ List.replicate 16 0 ++ leBytes 4 280000 ++ leBytes 4 300 ++ leBytes 2 65000 ++ leBytes 2 300 ++ leBytes 2 3000 ++ leBytes 2 62000 ++ leBytes 4 4200000 ++ ((List.range 9).flatMap fun t => leBytes 2 (1000 * t)) ++ leBytes 2 0
def rec0 : List Byte := headB ++ (ocvW.flatMap (leBytes 4) ++ (mW.flatMap (leBytes 2) ++ (rcW.flatMap (leBytes 2) ++ [0, 0])))
def rcd : List Byte := rec0 ++ leBytes 4 (crc32c rec0)
theorem rec_eq : rcd = headB ++ (ocvW.flatMap (leBytes 4) ++ (mW.flatMap (leBytes 2) ++ (rcW.flatMap (leBytes 2) ++ ([0, 0] ++ leBytes 4 (crc32c rec0))))) := by
  rw [rcd]
  generalize crc32c rec0 = c
  simp only [rec0, List.append_assoc]

theorem flat_length (w : Nat) (l : List Nat) : (l.flatMap (leBytes w)).length = w * l.length := by
  induction l with
  | nil => rfl
  | cons v l ih => simp [ih]; ring
theorem head_length : headB.length = 60 := by decide +kernel
theorem ocvW_length : ocvW.length = 909 := by simp [ocvW]
theorem mW_length : mW.length = 909 := List.length_replicate ..
theorem rcW_length : rcW.length = 396 := by decide +kernel
theorem rec0_length : rec0.length = 6308 := by
  simp only [rec0, List.length_append, flat_length, head_length, ocvW_length, mW_length, rcW_length]; rfl

theorem head_field (o n : Nat) (h : o + n ≤ 60) : leField rcd o n = leField headB o n := by
  have hl := head_length
  rw [leField, leField, rec_eq, List.drop_append_of_le_length (by omega), List.take_append_of_le_length (by simp; omega)]

theorem rec_ocv (i : Nat) (h : i < 909) : leField rcd (60 + 4 * i) 4 = ocvW.getD i 0 := by
  rw [rec_eq, ← head_length, leField_append]
  exact leField_table 4 ocvW _ i (by rw [ocvW_length]; exact h) (by decide +kernel)

theorem rec_tail (o n : Nat) : leField rcd (5514 + o) n = leField (rcW.flatMap (leBytes 2) ++ ([0, 0] ++ leBytes 4 (crc32c rec0))) o n := by
  have h1 : rcd = (headB ++ (ocvW.flatMap (leBytes 4) ++ mW.flatMap (leBytes 2))) ++ (rcW.flatMap (leBytes 2) ++ ([0, 0] ++ leBytes 4 (crc32c rec0))) := by
    simp only [rec_eq, List.append_assoc]
  have h2 : (headB ++ (ocvW.flatMap (leBytes 4) ++ mW.flatMap (leBytes 2))).length = 5514 := by
    simp only [List.length_append, flat_length, head_length, ocvW_length, mW_length]
  have := leField_append (headB ++ (ocvW.flatMap (leBytes 4) ++ mW.flatMap (leBytes 2))) (rcW.flatMap (leBytes 2) ++ ([0, 0] ++ leBytes 4 (crc32c rec0))) o n
  rw [h2] at this
  rw [h1, this]

theorem rec_rc (i : Nat) (h : i < 396) : leField rcd (5514 + 2 * i) 2 = rcW.getD i 0 := by
  rw [rec_tail]; exact leField_table 2 rcW _ i (by rw [rcW_length]; exact h) (by decide +kernel)

theorem rec_end (o n : Nat) : leField rcd (6306 + o) n = leField ([0, 0] ++ leBytes 4 (crc32c rec0)) o n := by
  have := leField_append (rcW.flatMap (leBytes 2)) ([0, 0] ++ leBytes 4 (crc32c rec0)) o n
  rw [flat_length, rcW_length] at this
  rw [show 6306 + o = 5514 + (2 * 396 + o) by omega, rec_tail, this]

theorem rec_crc : leField rcd 6308 4 = crc32c rec0 := by
  have := rec_end 2 4
  rw [show 6306 + 2 = 6308 from rfl] at this
  have h := leField_append [0, 0] (leBytes 4 (crc32c rec0)) 0 4
  rw [this]
  refine h.trans ?_
  rw [leField, List.drop_zero, List.take_of_length_le (by simp), leNat_leBytes]
  exact Nat.mod_eq_of_lt (crc32c_lt _)

/-- The table read out of the record. -/
theorem rec_parsed : (parseSlot rcd).ocv = ocvW ∧ (parseSlot rcd).rc = List.replicate 99 (100, 200, 200, 200) ∧ (parseSlot rcd).crc = crc32c rec0 := by
  refine ⟨?_, ?_, by simp only [parseSlot]; exact rec_crc⟩
  · apply List.ext_getElem
    · simp [parseSlot, ocvW_length]
    · intro i h1 h2
      have hi : i < 909 := by simpa [ocvW_length] using h2
      simp [parseSlot, rec_ocv i hi, List.getD_eq_getElem?_getD, List.getElem?_eq_getElem h2]
  · apply List.ext_getElem
    · simp only [parseSlot, List.length_map, List.length_range, List.length_replicate]
    · intro i h1 h2
      have hi : i < 99 := by rwa [List.length_replicate] at h2
      have hr : ∀ i < 99, (rcW.getD (4 * i) 0, rcW.getD (4 * i + 1) 0, rcW.getD (4 * i + 2) 0, rcW.getD (4 * i + 3) 0) = (100, 200, 200, 200) := by decide +kernel
      have e0 := rec_rc (4 * i) (by omega)
      have e1 := rec_rc (4 * i + 1) (by omega)
      have e2 := rec_rc (4 * i + 2) (by omega)
      have e3 := rec_rc (4 * i + 3) (by omega)
      rw [show 5514 + 2 * (4 * i) = 5514 + 8 * i by omega] at e0
      rw [show 5514 + 2 * (4 * i + 1) = 5516 + 8 * i by omega] at e1
      rw [show 5514 + 2 * (4 * i + 2) = 5518 + 8 * i by omega] at e2
      rw [show 5514 + 2 * (4 * i + 3) = 5520 + 8 * i by omega] at e3
      simp only [parseSlot, List.getElem_map, List.getElem_range, List.getElem_replicate, e0, e1, e2, e3]
      exact hr i hi

/-- The record passes every check of R149. -/
theorem rec_ok : slotCheck (rcd.map some) = 0 := by
  have hm : (rcd.map some).map (fun x : Option Byte => x.getD 0) = rcd := by simp
  have hl : rcd.length = 6312 := by rw [rcd, List.length_append, rec0_length, leBytes_length]
  have ht : rcd.take 6308 = rec0 := by rw [rcd, ← rec0_length, List.take_left]
  obtain ⟨ho, hr, hc⟩ := rec_parsed
  have he : leField rcd 6306 2 = 0 := by rw [show 6306 = 6306 + 0 from rfl, rec_end]; rfl
  have h1 : ((rcd.map some).length != slotLen || (rcd.map some).any Option.isNone) = false := by
    simp [hl, slotLen]
  have hh : (parseSlot rcd).capNom = 280000 ∧ (parseSlot rcd).rs0 = 300 ∧ (parseSlot rcd).etaChg = 65000 ∧ (parseSlot rcd).gamma = 300
      ∧ (parseSlot rcd).zEmpty = 3000 ∧ (parseSlot rcd).zFull = 62000 ∧ (parseSlot rcd).vFull = 4200000
      ∧ (parseSlot rcd).tGrid = (List.range 9).map fun t => (1000 * t : Int) := by
    simp only [parseSlot, leSigned]
    refine ⟨?_, ?_, ?_, ?_, ?_, ?_, ?_, ?_⟩
    all_goals first
      | (rw [head_field _ _ (by norm_num)]; decide +kernel)
      | skip
    have : ∀ t ∈ List.range 9, toSigned (8 * 2) (leField rcd (40 + 2 * t) 2) = (1000 * t : Int) := by
      intro t ht
      rw [List.mem_range] at ht
      rw [head_field _ _ (by omega)]
      revert t
      decide +kernel
    exact List.map_congr_left this
  obtain ⟨g1, g2, g3, g4, g5, g6, g7, g8⟩ := hh
  have f1 : leField rcd 0 2 = 1 ∧ leField rcd 2 2 = 6312 ∧ leField rcd 58 2 = 0 := by
    refine ⟨?_, ?_, ?_⟩ <;> (rw [head_field _ _ (by norm_num)]; decide +kernel)
  unfold slotCheck
  rw [h1, if_neg Bool.false_ne_true]
  simp only [hm, Slot.row, f1, he, ht, hc, g1, g2, g3, g4, g5, g6, g7, g8, ho, hr, slotLen, ne_eq, not_true_eq_false, if_false, or_self]
  decide +kernel

/-- A valid slot, as data. -/
def x0 : Slot := { name := List.replicate 16 0, capNom := 280000, rs0 := 300, etaChg := 65000, gamma := 300, zEmpty := 3000, zFull := 62000, vFull := 4200000, tGrid := (List.range 9).map fun t => (1000 * t : Int), ocv := (List.range 909).map fun i => 3000000 + 10000 * (i % 101), mHys := List.replicate 909 500, rc := List.replicate 99 (100, 200, 200, 200), crc := 0, bytes := rcd }
def withSlot (s : State) := fl (fun f => {f with slots := [some x0, none, none, none], slotMap := List.replicate 16 0, wakePending := false}) s
def cell (k : Nat) (f : CellFlt → CellFlt) (s : State) := up (onCellFlt k f) s
def ini (c : CellFlt) : CellFlt := {c with initialised := true, z := fxOne / 2, rs := fxQ 300 1000000, cap := 280000, p := initP 3, tempAt := 123456700, temp := some 2500, r := fxOne / 2}
def temps (s : State) := up (fun b => b.onSense fun y => {y with therms := y.therms.map fun t => {t with temp := some 2500}}) s
def tri (s : State) := temps (cell 0 ini (cell 1 (fun c => {ini c with nI := 10, sumI := 30000000, nV := 10, sumV := 10 * 3520000 * 2048}) (cell 2 (fun c => {ini c with nI := 10, sumI := -30000000}) (withSlot s))))
def sv : Saving := {toB := true, cause := 4, started := 5, copy := {valid := true, gen := 3, optime := 5, cause := 4, pcyc := 1, cells := []}}
def cov (k : Nat) (v : Int) (s : State) := cell k (fun c => {ini c with restAt := some 119999990, restSeen := false, tSub := false, tClamp := false, restV := List.replicate 100 (fxQ v 1000), nI := 10, sumI := 1000}) (withSlot s)
def zvOf (k : Nat) (v : Int) (s : State) : Fx := x0.ocvInv (fxQ v 1000 - fxMul (x0.mAt (fxOne/2) 2500) 0 - fxMul (fxQ 300 1000000) (((cov k v s).block.stepCurrent k).getD 0)) 2500
def full (l : Option RefPoint) (s : State) := cell 5 (fun c => {ini c with fullAt := some 120000000, fullSeen := false, lastRef := l, q := 200000 * 3600000, skipped := false}) (withSlot s)

theorem witness_FiltersStepObserveAndLoseValidity :
    (∃ (s : State), s.block.sys.mstate ∈ [MState.park, .run, .fault, .safe] ∧ s.block.flt.wakePending = false ∧ s.block.seqsOk ≠ 0 ∧ s.block.settled = true)
    ∧ (∃ (s : State), ((s.block.sys.mstate ∈ [MState.off, .boot, .hibernate] ∨ s.block.seqsOk = 0)) ∧ s.block.settled = true)
    ∧ (∃ (s : State) (k : Fin 512) (t : Nat) (x : Slot) (v : Int) (zv : Int), (s.block.cellFlt k).restAt = some t ∧ (s.block.cellFlt k).restSeen = false ∧ (s.block.cellFlt k).initialised = true ∧ k.val < s.block.nCell ∧ k.val < s.block.flt.cells.length ∧ (s.block.cellFlt k).restV ≠ [] ∧ 3 ≤ s.block.seqsOk ∧ s.block.slotOf k = some x ∧ v = (((s.block.cellFlt k).restV.take 100).foldl (· + ·) 0) / (((s.block.cellFlt k).restV.take 100).length : Int) ∧ zv = x.ocvInv (v - fxMul (x.mAt (s.block.cellFlt k).z ((s.block.cellFlt k).temp.getD Config.firstTemperature)) (s.block.cellFlt k).h - (s.block.cellFlt k).vA - (s.block.cellFlt k).vB - fxMul (s.block.cellFlt k).rs ((s.block.stepCurrent k).getD 0)) ((s.block.cellFlt k).temp.getD Config.firstTemperature) ∧ s.block.settled = true)
    ∧ (∃ (s : State) (k : Fin 512) (t : Nat) (x : Slot), (s.block.cellFlt k).fullAt = some t ∧ s.block.slotOf k = some x ∧ (s.block.cellFlt k).fullSeen = false ∧ (s.block.cell k).degr = false ∧ (s.block.cellFlt k).initialised = true ∧ (s.block.cellFlt k).lastRef = none ∧ k.val < s.block.flt.cells.length ∧ s.block.sys.now ≤ t + 60 * secT ∧ s.block.settled = true)
    ∧ (∃ (s : State) (k : Fin 512) (t : Nat) (x : Slot) (p : RefPoint) (dq : Fx) (dz : Fx), (s.block.cellFlt k).fullAt = some t ∧ s.block.slotOf k = some x ∧ (s.block.cellFlt k).fullSeen = false ∧ (s.block.cell k).degr = false ∧ (s.block.cellFlt k).initialised = true ∧ (s.block.cellFlt k).lastRef = some p ∧ k.val < s.block.flt.cells.length ∧ s.block.sys.now ≤ t + 60 * secT ∧ dq = fxQ ((s.block.cellFlt k).q - p.q) 3600000 ∧ dz = frac16 x.zFull - p.z ∧ fxQ s.block.flt.config.capDzMin 10000 ≤ |dz| ∧ s.block.log.opBoot + (t + 60 * secT) / msT ≤ p.time + 604800000 ∧ (dq < 0) = (dz < 0) ∧ dq ≠ 0 ∧ fxI (8 * ((s.block.cellFlt k).cap : Int)) ≤ fxDiv dq dz * 10 ∧ fxDiv dq dz * 10 ≤ fxI (12 * ((s.block.cellFlt k).cap : Int)) ∧ (s.block.cellFlt k).skipped = false ∧ s.block.settled = true)
    ∧ (∃ (s : State) (k : Fin 512), 100 ≤ (s.block.cellFlt k).predRun ∧ k.val < s.block.flt.cells.length ∧ s.block.settled = true)
    ∧ (∃ (s : State) (k : Fin 512), (s.block.cellFlt k).predRun < 100 ∧ s.block.settled = true)
    ∧ (∃ (s : State) (k : Fin 512), 100 ≤ (s.block.cellFlt k).innovRun ∧ k.val < s.block.flt.cells.length ∧ s.block.settled = true)
    ∧ (∃ (s : State) (k : Fin 512), s.block.tempInput k = none ∧ (s.block.cellFlt k).initialised = true ∧ k.val < s.block.flt.cells.length ∧ s.block.settled = true) :=
  ⟨⟨(tri park), by decide +kernel⟩,
   ⟨(up (fun b => b.onSys fun y => {y with engSvc := List.replicate 15 false}) park), by decide +kernel⟩,
   ⟨(cov 5 3800 park), 5, 119999990, x0, (fxQ 3800 1000), (zvOf 5 3800 park), by decide +kernel, by decide +kernel, by decide +kernel, by decide +kernel, by decide +kernel, by decide +kernel, by decide +kernel, rfl, by decide +kernel, by decide +kernel, by decide +kernel⟩,
   ⟨(full none park), 5, 120000000, x0, by decide +kernel, rfl, by decide +kernel, by decide +kernel, by decide +kernel, by decide +kernel, by decide +kernel, by decide +kernel, by decide +kernel⟩,
   ⟨(full (some {q := 0, z := frac16 62000 - fxQ 7 10, time := 0}) park), 5, 120000000, x0, {q := 0, z := frac16 62000 - fxQ 7 10, time := 0}, (fxQ (200000 * 3600000) 3600000), (fxQ 7 10), by decide +kernel, rfl, by decide +kernel, by decide +kernel, by decide +kernel, by decide +kernel, by decide +kernel, by decide +kernel, by decide +kernel, by decide +kernel, by decide +kernel, by decide +kernel, by decide +kernel, by decide +kernel, by decide +kernel, by decide +kernel, by decide +kernel, by decide +kernel⟩,
   ⟨(cell 5 (fun c => {c with predRun := 100, valid := true}) park), 5, by decide +kernel⟩,
   ⟨(cell 5 (fun c => {c with predRun := 99, valid := true}) park), 5, by decide +kernel⟩,
   ⟨(cell 5 (fun c => {c with innovRun := 100}) park), 5, by decide +kernel⟩,
   ⟨(up (fun b => b.onSense fun y => {y with therms := y.therms.map fun t => {t with temp := none}}) (cell 5 (fun c => {ini c with valid := true}) park)), 5, by decide +kernel⟩⟩

theorem witness_LearnedValuesAreSaved :
    (∃ (s : State), s.block.flt.saving = none ∧ s.block.settled = true)
    ∧ (∃ (s : State) (v : Saving), s.block.flt.saving = some v ∧ s.block.flt.saveAgain = none ∧ s.block.settled = true)
    ∧ (∃ (s : State) (t : Nat), s.block.flt.chgLong = true ∧ s.block.flt.lowAt = some t ∧ s.block.flt.saving = none ∧ s.block.settled = true)
    ∧ (∃ (s : State) (v : Saving), s.block.flt.saving = some v ∧ s.block.flt.saveSrcs = [] ∧ s.block.flt.saveAgain = none ∧ s.block.settled = true)
    ∧ (∃ (s : State) (v : Saving), s.block.flt.saving = some v ∧ s.block.flt.saveSrcs = [] ∧ s.block.flt.saveAgain = none ∧ s.block.settled = true)
    ∧ (∃ (s : State) (v : Saving) (i : Nat) (q : Nat), s.block.flt.saving = some v ∧ s.block.flt.saveSrcs = [(.session i q, false)] ∧ s.block.flt.saveAgain = none ∧ (s.block.entry? i q).isSome = true ∧ s.block.settled = true)
    ∧ (∃ (s : State) (v : Saving) (c : Nat), s.block.flt.saving = some v ∧ s.block.flt.saveSrcs = [] ∧ s.block.flt.saveAgain = some c ∧ s.block.settled = true)
    ∧ (∃ (s : State), s.block.sys.mstate = .hibernate ∧ s.block.settled = true)
    ∧ (∃ (s : State), s.block.sys.mstate ≠ .hibernate ∧ s.block.settled = true) :=
  ⟨⟨(fl (fun f => {f with saving := none, copyA := {f.copyA with valid := true, gen := 4}}) park), by decide +kernel⟩,
   ⟨(fl (fun f => {f with saving := some sv, saveAgain := none}) park), sv, by decide +kernel⟩,
   ⟨(fl (fun f => {f with saving := none, chgLong := true, lowAt := some 5}) park), 5, by decide +kernel⟩,
   ⟨(fl (fun f => {f with saving := some sv, saveAgain := none, saveSrcs := []}) park), sv, by decide +kernel⟩,
   ⟨(fl (fun f => {f with saving := some sv, saveAgain := none, saveSrcs := []}) park), sv, by decide +kernel⟩,
   ⟨(fl (fun f => {f with saving := some sv, saveAgain := none, saveSrcs := [(S, false)]}) (runEntry 0x0508 park)), sv, 0, 5, by decide +kernel⟩,
   ⟨(fl (fun f => {f with saving := some sv, saveAgain := some 3, saveSrcs := []}) park), sv, 3, by decide +kernel⟩,
   ⟨hib, by decide +kernel⟩,
   ⟨park, by decide +kernel⟩⟩

theorem witness_FilterCommandsSetWhatTheyName :
    (∃ (s : State) (src : Src) (rateRpt : Nat) (anchDz : Nat) (capDzMin : Nat) (capGain : Nat) (sigmaValid : Nat) (tSrc : Nat), 5 ≤ rateRpt ∧ rateRpt ≤ 500 ∧ 50 ≤ anchDz ∧ anchDz ≤ 2000 ∧ 1000 ≤ capDzMin ∧ capDzMin ≤ 9000 ∧ 1 ≤ capGain ∧ capGain ≤ 100 ∧ 100 ≤ sigmaValid ∧ sigmaValid ≤ 2000 ∧ tSrc ≤ 1 ∧ s.block.settled = true ∧ s.block.admits src 0x0501 true = true)
    ∧ (∃ (s : State) (src : Src) (slot : Nat) (bytes : List Byte), slot ≤ 3 ∧ 1 ≤ bytes.length ∧ bytes.length ≤ 1024 ∧ (∀ x ∈ s.block.flt.staging, x.1 ≠ slot) ∧ s.block.settled = true ∧ s.block.admits src 0x0502 true = true)
    ∧ (∃ (s : State) (src : Src) (slot : Nat) (offset : Nat) (bytes : List Byte) (old : List (Option Byte)), slot ≤ 3 ∧ 1 ≤ bytes.length ∧ bytes.length ≤ 1024 ∧ offset + bytes.length ≤ slotLen ∧ s.block.flt.staging = some (slot, old) ∧ old.length = slotLen ∧ s.block.settled = true ∧ s.block.admits src 0x0502 true = true)
    ∧ (∃ (s : State) (src : Src) (slot : Nat) (bytes : List (Option Byte)), slot ≤ 3 ∧ (s.block.sys.mstate ≠ .run ∨ s.block.slotUsed slot = false) ∧ s.block.flt.staging = some (slot, bytes) ∧ slotCheck bytes = 0 ∧ s.block.settled = true ∧ s.block.admits src 0x0503 true = true)
    ∧ (∃ (s : State) (src : Src) (slot : Nat) (bytes : List (Option Byte)), slot ≤ 3 ∧ ((s.block.sys.mstate ≠ .run ∨ s.block.slotUsed slot = false)) ∧ s.block.flt.staging = some (slot, bytes) ∧ slotCheck bytes ≠ 0 ∧ s.block.settled = true ∧ s.block.admits src 0x0503 true = true)
    ∧ (∃ (s : State) (src : Src) (slot : Nat) (offset : Nat) (length : Nat) (x : Slot), slot ≤ 3 ∧ 1 ≤ length ∧ length ≤ 1024 ∧ offset + length ≤ slotLen ∧ s.block.flt.slots.getD slot none = some x ∧ s.block.settled = true ∧ s.block.admits src 0x0504 false = true)
    ∧ (∃ (s : State) (src : Src) (mask : Nat) (slot : Nat) (x : Slot), s.block.sys.mstate = .park ∧ s.block.maskFitted mask = true ∧ slot ≤ 3 ∧ s.block.flt.slots.getD slot none = some x ∧ s.block.flt.cells.length = 512 ∧ s.block.flt.slotMap.length = 16 ∧ s.block.settled = true ∧ s.block.admits src 0x0505 true = true)
    ∧ (∃ (s : State) (src : Src) (cell : Nat) (cap : Nat), cell < s.block.nCell ∧ 1000 ≤ cap ∧ cap ≤ 2000000 ∧ cell < s.block.flt.cells.length ∧ s.block.settled = true ∧ s.block.admits src 0x0506 true = true)
    ∧ (∃ (s : State) (src : Src) (cell : Nat) (x : Slot), s.block.sys.mstate = .park ∧ cell < s.block.nCell ∧ s.block.slotOf cell = some x ∧ cell < s.block.flt.cells.length ∧ s.block.settled = true ∧ s.block.admits src 0x0507 true = true)
    ∧ (∃ (s : State) (src : Src), s.block.sys.mstate ≠ .boot ∧ s.block.flt.saving = none ∧ s.block.settled = true ∧ s.block.admits src 0x0508 true = true)
    ∧ (∃ (s : State) (src : Src), s.block.settled = true ∧ s.block.admits src 0x0509 false = true) :=
  ⟨⟨park, S, 5, 2000, 1000, 100, 100, 1, by decide +kernel⟩,
   ⟨park, S, 3, [1,2,3], by decide +kernel⟩,
   ⟨(fl (fun f => {f with staging := some (2, List.replicate 6312 none)}) park), S, 2, 6310, [1,2], (List.replicate 6312 none), by decide +kernel, by decide +kernel, by decide +kernel, by decide +kernel, rfl, List.length_replicate .., by decide +kernel, by decide +kernel⟩,
   ⟨fl (fun f => {f with staging := some (2, rcd.map some)}) park, S, 2, rcd.map some, by decide, .inl (by decide), rfl, rec_ok, by decide +kernel, by decide +kernel⟩,
   ⟨(fl (fun f => {f with staging := some (2, [none])}) park), S, 2, [none], by decide +kernel⟩,
   ⟨(withSlot park), S, 0, 6311, 1, x0, by decide +kernel, by decide +kernel, by decide +kernel, by decide +kernel, rfl, by decide +kernel, by decide +kernel⟩,
   ⟨(withSlot park), S, 0x801, 0, x0, by decide +kernel, by decide +kernel, by decide +kernel, rfl, by decide +kernel, by decide +kernel, by decide +kernel, by decide +kernel⟩,
   ⟨park, S, 383, 2000000, by decide +kernel⟩,
   ⟨(withSlot park), S, 383, x0, by decide +kernel, by decide +kernel, rfl, by decide +kernel, by decide +kernel, by decide +kernel⟩,
   ⟨(fl (fun f => {f with saving := none}) park), S, by decide +kernel⟩,
   ⟨park, S, by decide +kernel⟩⟩

end W05

namespace W06
def im (f : ImpPart → ImpPart) (s : State) := up (fun b => b.onImp f) s
def runEntry (op : Nat) (s : State) := up (fun b => acceptRequest S op [] true b) s
def reqs8 := [100, 1000, 10000, 40000, 160000, 500000, 2000000, 10000000]
def st0 : ImpSet := {reqs := reqs8, amp := 10000, nPer := 4, nSet := 1}
def wait (s : State) := im (fun i => {i with job := none, waiting := [7, 8], set := st0, en := true, dueAt := 100000000}) s
def on (p : Nat) (bs : List Nat) (k : Nat) (s : State) := im (fun i => {i with job := some 7, waiting := [], set := st0, jobSet := st0, en := true, lfsr := 0xAAA, band := p, bands := bs, nPeriod := k, nValid := k - 1, bandDone := none, disabling := none, state := .measuring, perAt := 120000000, chipAt := 124000000, badPeriod := false, acc := List.replicate 384 {ImpAcc.empty 4 with valid := [3,3,3,3], sumV := [{re := 5, im := 6}, Cpx.zero, Cpx.zero,Cpx.zero]}, accI := Series.empty 4, accX := Series.empty 4, accPh := List.replicate 8 (Series.empty 4, Series.empty 4)}) s
def doneB (w h l : Bool) (p : Nat) : BandDone := {p := p, endAt := 123000000, last := l, job := 7, handOver := h, retune := false, written := w, samples := 4095, nValid := 4, cells := List.replicate 384 {ImpAcc.empty 1 with valid := [3], sumV := [{re := 2048 * fxOne, im := 2048 * fxOne / 2}], sumI := [{re := fxOne * 3, im := 0}]}, sumI := [{re := fxOne, im := 5}], sumX := [{re := fxOne, im := 0}], sumPh := List.replicate 8 ([{re := fxOne, im := 0}], [{re := fxOne, im := 0}]), linkV := {sum := 3000000, n := 4}}
def dn (r : BandDone) (s : State) := im (fun i => {i with bandDone := some r}) (on 0 [] 5 s)
def zt0 : List Byte := leBytes 2 1 ++ leBytes 2 144 ++ leBytes 4 (2 * 268435456 + 16) ++ leBytes 1 2 ++ leBytes 3 0 ++ leBytes 4 1000 ++ leBytes 2 1000 ++ leBytes 2 0 ++ leBytes 4 2000 ++ leBytes 2 2000 ++ leBytes 2 0 ++ List.replicate 112 0
def zt := zt0 ++ leBytes 4 (crc32c zt0)

theorem witness_ImpedanceJobsExciteAndMeasure :
    (∃ (s : State) (j : Nat) (rest : List Nat) (p : Nat) (ps : List Nat), s.block.imp.job = none ∧ s.block.imp.waiting = j :: rest ∧ s.block.impOk = true ∧ s.block.imp.set.bands s.block.sense.rate = p :: ps ∧ s.block.settled = true)
    ∧ (∃ (s : State), s.block.impOk = false ∧ s.block.settled = true)
    ∧ (∃ (s : State), s.block.bandOn = true ∧ s.block.imp.disabling = none ∧ s.block.settled = true)
    ∧ (∃ (s : State) (d : Src), s.block.bandOn = true ∧ s.block.imp.disabling = some d ∧ s.block.settled = true)
    ∧ (∃ (s : State), s.block.bandOn = true ∧ s.block.imp.state ≠ .stopping ∧ s.block.settled = true)
    ∧ (∃ (s : State), s.block.bandOn = true ∧ s.block.imp.state ≠ .stopping ∧ s.block.bandComplete = true ∧ s.block.imp.bandDone = none ∧ s.block.imp.bands = [] ∧ s.block.settled = true)
    ∧ (∃ (s : State) (p : Nat) (ps : List Nat), s.block.bandOn = true ∧ s.block.imp.state ≠ .stopping ∧ s.block.bandComplete = true ∧ s.block.imp.bandDone = none ∧ s.block.imp.bands = p :: ps ∧ s.block.settled = true)
    ∧ (∃ (s : State), s.block.bandComplete = false ∧ s.block.settled = true)
    ∧ (∃ (s : State) (r : BandDone), s.block.imp.bandDone = some r ∧ r.written = true ∧ r.handOver = false ∧ r.retune = false ∧ s.block.settled = true)
    ∧ (∃ (s : State) (r : BandDone), s.block.imp.bandDone = some r ∧ r.written = true ∧ r.handOver = true ∧ r.retune = false ∧ (s.block.cnv.trackJob = r.job → s.block.cnv.track.length = 8) ∧ s.block.settled = true)
    ∧ (∃ (s : State) (t : Nat), s.block.imp.nextDue = some t ∧ ((0 < s.block.imp.queue ∨ s.block.impOk = false)) ∧ s.block.settled = true)
    ∧ (∃ (s : State) (t : Nat), s.block.imp.nextDue = some t ∧ s.block.imp.queue = 0 ∧ s.block.impOk = true ∧ s.block.imp.set.bands s.block.sense.rate ≠ [] ∧ s.block.settled = true)
    ∧ (∃ (s : State) (j : Nat) (i : Nat) (q : Nat), s.block.imp.disabling = some (.session i q) ∧ s.block.imp.job = some j ∧ s.block.imp.bandDone = none ∧ s.block.imp.nPeriod = 0 ∧ s.block.imp.waiting = [] ∧ (s.block.entry? i q).isSome = true ∧ s.block.settled = true)
    ∧ (∃ (s : State) (i : Nat) (q : Nat), s.block.imp.disabling = some (.session i q) ∧ s.block.imp.job = none ∧ (s.block.entry? i q).isSome = true ∧ s.block.settled = true) :=
  ⟨⟨(wait runS), 7, [8], 0, [2,4,8,11], by decide +kernel⟩,
   ⟨(wait park), by decide +kernel⟩,
   ⟨(on 2 [] 1 park), by decide +kernel⟩,
   ⟨(im (fun i => {i with disabling := some S}) (on 2 [] 1 park)), S, by decide +kernel⟩,
   ⟨(on 2 [] 0 park), by decide +kernel⟩,
   ⟨(on 0 [] 9 park), by decide +kernel⟩,
   ⟨(on 0 [2,4] 9 park), 2, [4], by decide +kernel⟩,
   ⟨(on 0 [2,4] 3 park), by decide +kernel⟩,
   ⟨(dn (doneB true false false 2) park), (doneB true false false 2), by decide +kernel⟩,
   ⟨(up (fun b => b.onCnv fun c => {c with phases := c.phases.mapIdx fun k p => if k = 1 then {p with st := .ready} else p}) (dn (doneB true true false 2) park)), (doneB true true false 2), by decide +kernel⟩,
   ⟨(im (fun i => {i with nextDue := some 999999999, interval := 600}) (on 0 [] 3 park)), 999999999, by decide +kernel⟩,
   ⟨(im (fun i => {i with waiting := [], nextDue := some 999999999, interval := 600}) (wait runS)), 999999999, by decide +kernel⟩,
   ⟨(im (fun i => {i with disabling := some S, state := .stopping, en := false}) (on 0 [] 0 (runEntry 0x0604 park))), 7, 0, 5, by decide +kernel⟩,
   ⟨(im (fun i => {i with disabling := some S, state := .stopping, en := false, waiting := [4,5], job := none}) (on 0 [] 0 (runEntry 0x0604 park))), 0, 5, by decide +kernel⟩⟩

theorem witness_BandResultsEnterTheMap :
    (∃ (s : State) (r : BandDone), s.block.imp.bandDone = some r ∧ r.written = false ∧ s.block.imp.job = some r.job ∧ r.last = false ∧ s.block.imp.cells.length = 512 ∧ (∀ m ∈ s.block.imp.cells, m.z.length = 8) ∧ s.block.imp.hslot ∉ s.block.imp.jobSet.slotsOf r.p ∧ s.block.settled = true)
    ∧ (∃ (s : State) (r : BandDone), s.block.imp.bandDone = some r ∧ r.written = false ∧ s.block.imp.job = some r.job ∧ r.last = true ∧ s.block.settled = true) :=
  ⟨⟨(im (fun i => {i with hslot := 5}) (dn (doneB false false false 2) park)), (doneB false false false 2), by decide +kernel⟩,
   ⟨(dn (doneB false false true 2) park), (doneB false false true 2), by decide +kernel⟩⟩

theorem witness_ImpedanceCommandsSetWhatTheyName :
    (∃ (s : State) (src : Src) (reqs : List Nat), reqs.length = 8 ∧ (∀ f ∈ reqs, 100 ≤ f ∧ f ≤ 10000000) ∧ reqs.Pairwise (· < ·) ∧ (reqs.map freqCode).Nodup ∧ s.block.settled = true ∧ s.block.admits src 0x0601 true = true)
    ∧ (∃ (s : State) (src : Src) (amp : Nat) (nPer : Nat) (nSet : Nat), 2000 ≤ amp ∧ amp ≤ 20000 ∧ amp % 100 = 0 ∧ 1 ≤ nPer ∧ nPer ≤ 64 ∧ 1 ≤ nSet ∧ nSet ≤ 4 ∧ s.block.settled = true ∧ s.block.admits src 0x0602 true = true)
    ∧ (∃ (s : State) (src : Src), s.block.impOk = true ∧ s.block.imp.set.bands s.block.sense.rate ≠ [] ∧ s.block.imp.queue < 4 ∧ s.block.settled = true ∧ s.block.admits src 0x0603 true = true)
    ∧ (∃ (s : State) (src : Src), s.block.settled = true ∧ s.block.admits src 0x0604 true = true)
    ∧ (∃ (s : State) (src : Src) (j : Nat), s.block.imp.job = some j ∧ s.block.settled = true ∧ s.block.admits src 0x0604 true = true)
    ∧ (∃ (s : State) (src : Src), s.block.imp.job = none ∧ s.block.settled = true ∧ s.block.admits src 0x0604 true = true)
    ∧ (∃ (s : State) (src : Src) (interval : Nat), 600 ≤ interval ∧ interval ≤ 604800 ∧ s.block.settled = true ∧ s.block.admits src 0x0605 true = true)
    ∧ (∃ (s : State) (src : Src), s.block.settled = true ∧ s.block.admits src 0x0605 true = true)
    ∧ (∃ (s : State) (src : Src) (slot : Nat) (rec : List Byte), slot ≤ 3 ∧ rec.length = 144 ∧ ztCheck rec = 0 ∧ s.block.settled = true ∧ s.block.admits src 0x0606 true = true)
    ∧ (∃ (s : State) (src : Src) (slot : Nat) (rec : List Byte), slot ≤ 3 ∧ rec.length = 144 ∧ ztCheck rec ≠ 0 ∧ s.block.settled = true ∧ s.block.admits src 0x0606 true = true)
    ∧ (∃ (s : State) (src : Src) (mask : Nat), s.block.okRecent = true ∧ s.block.maskFitted mask = true ∧ s.block.imp.cells.length = 512 ∧ s.block.settled = true ∧ s.block.admits src 0x0607 true = true)
    ∧ (∃ (s : State) (src : Src) (hslot : Nat) (growWarn : Nat) (outWarn : Nat), hslot ≤ 7 ∧ 16385 ≤ growWarn ∧ growWarn ≤ 65535 ∧ 100 ≤ outWarn ∧ outWarn ≤ 10000 ∧ s.block.settled = true ∧ s.block.admits src 0x0608 true = true)
    ∧ (∃ (s : State) (src : Src) (cell : Nat), cell < s.block.nCell ∧ (s.block.impCell cell).baseV = true ∧ s.block.settled = true ∧ s.block.admits src 0x0609 false = true)
    ∧ (∃ (s : State) (src : Src), s.block.settled = true ∧ s.block.admits src 0x060A false = true) :=
  ⟨⟨park, S, reqs8, by decide +kernel⟩,
   ⟨park, S, 2000, 64, 4, by decide +kernel⟩,
   ⟨(wait runS), S, by decide +kernel⟩,
   ⟨(im (fun i => {i with state := .disabled, en := false}) park), S, by decide +kernel⟩,
   ⟨(on 0 [] 3 park), S, 7, by decide +kernel⟩,
   ⟨(wait park), S, by decide +kernel⟩,
   ⟨(im (fun i => {i with lastStart := some 5}) park), S, 600, by decide +kernel⟩,
   ⟨park, S, by decide +kernel⟩,
   ⟨park, S, 3, zt, by decide +kernel⟩,
   ⟨park, S, 3, (zt0 ++ [0,0,0,0]), by decide +kernel⟩,
   ⟨(im (fun i => {i with lastOkAt := some 5, cells := modAt i.cells 40 fun m => {m with okZ := List.replicate 8 (some {re := 30 * fxOne, im := -4 * fxOne}), okT := some 2400}}) park), S, 6, by decide +kernel⟩,
   ⟨park, S, 7, 16385, 10000, by decide +kernel⟩,
   ⟨(im (fun i => {i with cells := modAt i.cells 40 fun m => {m with baseV := true, base := List.replicate 8 (7, -8)}}) park), S, 40, by decide +kernel⟩,
   ⟨park, S, by decide +kernel⟩⟩

end W06

namespace W07
def cn (f : CnvPart → CnvPart) (s : State) := up (fun b => b.onCnv f) s
def ph (k : Nat) (f : Phase → Phase) (s : State) := up (onPhase k f) s
def runEntry (op : Nat) (s : State) := up (fun b => acceptRequest S op [] true b) s
def gd (n : Nat) : GduIdent := {vendor := 1, model := 2, serial := n, iRated := 65535, vMax := 65535, lNom := 100, uLat := 4, firmware := 1}
def fr (s : State) := cn (fun c => {c with fibreOn := true, set := {c.set with nMin := 1}}) s
def act (ks : List Nat) (st : CState) (s : State) := cn (fun c => {c with st := st, vCmd := none, vCmdDue := false, phases := c.phases.mapIdx fun k p => if k ∈ ks then {p with st := .active, vLink := some 900000, iMean := 1000 * (k : Int), gdu := some (gd 7), periodAt := some 123456000, iSum := {sum := 7000, n := 2}, trim := 5, activeAll := true} else p}) (up (fun b => b.onSense fun y => {y with strV := {y.strV with last := some 700000000}}) (fr s))
def rdy (ks : List Nat) (s : State) := cn (fun c => {c with phases := c.phases.mapIdx fun k p => if k ∈ ks then {p with st := .ready, vLink := some 900000} else p}) s
def pre : State := rdy [1,3] (cn (fun c => {c with st := .precheck, preAt := 123450000, parkSrc := none, vCmd := none, set := {c.set with vTarget := 800000}}) (act [] .idle park))
theorem link_two (b : Block) (h : (((List.range 8).filter fun k => (b.phase k).st.modulating || decide ((b.phase k).st = .ready)).filterMap fun k => (b.phase k).vLink)
    = [900000, 900000]) : b.vLinkMv = some 900000 := by
  have m : ([900000, 900000] : List Int).mergeSort = [900000, 900000] := List.mergeSort_of_pairwise (by decide)
  unfold Block.vLinkMv
  rw [h]
  dsimp only
  rw [m]
  decide +kernel
theorem pre_link : pre.block.vLinkMv = some 900000 := link_two _ (by decide +kernel)
/-- Two READY phases and a link within bounds: every check of PRECHECK holds. -/
theorem pre_ok : pre.block.precheck = 0 := by
  unfold Block.precheck
  rw [pre_link]
  decide +kernel
def ulf (i m : Nat) : Uplink := {crcOk := true, stat := 0x15, i := -300, muxId := i, mux := m}
def rb : BandDone := {p := 2, endAt := 123000000, last := true, job := 7, handOver := false, retune := true, written := true, samples := 4095, nValid := 4, cells := [], sumI := [], sumX := [], sumPh := [], linkV := {sum := 3000000, n := 4}}
def st0 : ImpSet := {reqs := [100, 1000, 10000, 40000, 160000, 500000, 2000000, 10000000], amp := 10000, nPer := 4, nSet := 1}

theorem witness_PhasesMoveBetweenTheirStates :
    (∃ (s : State) (k : Fin 8), (s.block.phase k).st ≠ .unconfigured ∧ s.block.cnv.fibreOn = true ∧ s.block.sys.mstate ≠ .off ∧ s.block.sec.halted.getD (8 + k.val / 4) false = false ∧ ((s.block.phase k).rcOpen = false ∨ (s.block.phase k).rcMiss < 2) ∧ k.val < s.block.cnv.phases.length ∧ s.block.settled = true)
    ∧ (∃ (s : State) (k : Fin 8), s.block.cnv.fibreOn = true ∧ s.block.sys.mstate ≠ .off ∧ s.block.sec.halted.getD (8 + k.val / 4) false = false ∧ (s.block.phase k).rcOpen = true ∧ 2 ≤ (s.block.phase k).rcMiss ∧ (s.block.phase k).st.searching = true ∧ (s.block.phase k).st ≠ .search ∧ s.block.phaseToSpare = true ∧ k.val < s.block.cnv.phases.length ∧ s.block.settled = true)
    ∧ (∃ (s : State) (k : Fin 8), (s.block.phase k).st ≠ .unconfigured ∧ s.block.cnv.fibreOn = true ∧ s.block.settled = true)
    ∧ (∃ (s : State) (f : Uplink), ((f.crcOk = false ∨ s.block.cnv.fibreOn = false)) ∧ s.block.settled = true)
    ∧ (∃ (s : State) (k : Fin 8) (f : Uplink), f.crcOk = true ∧ s.block.cnv.fibreOn = true ∧ (s.block.phase k).st = .unconfigured ∧ k.val < s.block.cnv.phases.length ∧ s.block.settled = true)
    ∧ (∃ (s : State) (k : Fin 8) (f : Uplink), f.crcOk = true ∧ s.block.cnv.fibreOn = true ∧ (s.block.phase k).st ≠ .unconfigured ∧ s.block.cnv.st ≠ .precheck ∧ k.val < s.block.cnv.phases.length ∧ ((f.muxId ≠ 0 ∨ ((f.mux * 100 : Nat) : Int) ≤ s.block.vlinkMax)) ∧ s.block.settled = true)
    ∧ (∃ (s : State) (k : Fin 8) (f : Uplink), f.crcOk = true ∧ s.block.cnv.fibreOn = true ∧ (s.block.phase k).st ≠ .unconfigured ∧ f.muxId = 0 ∧ s.block.vlinkMax < ((f.mux * 100 : Nat) : Int) ∧ (s.block.phase k).overV = 1 ∧ s.block.cnv.st ≠ .latched ∧ k.val < s.block.cnv.phases.length ∧ s.block.settled = true)
    ∧ (∃ (s : State) (k : Fin 8) (seq : Nat), s.block.hinge = false ∧ s.block.cnv.fibreOn = true ∧ (s.block.phase k).st = .search ∧ (s.block.phase k).rcOpen = true ∧ (s.block.phase k).rcSeq = seq ∧ k.val < s.block.cnv.phases.length ∧ s.block.settled = true)
    ∧ (∃ (s : State) (k : Fin 8) (seq : Nat) (g : GduIdent) (o : GduIdent), s.block.hinge = false ∧ s.block.cnv.fibreOn = true ∧ (s.block.phase k).st.searching = true ∧ (s.block.phase k).st ≠ .search ∧ (s.block.phase k).rcOpen = true ∧ (s.block.phase k).rcSeq = seq ∧ (s.block.phase k).gdu = some o ∧ o.serial ≠ g.serial ∧ s.block.phaseToSpare = true ∧ k.val < s.block.cnv.phases.length ∧ s.block.settled = true)
    ∧ (∃ (s : State) (k : Fin 8) (seq : Nat) (g : GduIdent) (o : GduIdent), s.block.cnv.fibreOn = true ∧ (s.block.phase k).st.searching = true ∧ (s.block.phase k).st ≠ .search ∧ (s.block.phase k).rcOpen = true ∧ (s.block.phase k).rcSeq = seq ∧ (s.block.phase k).gdu = some o ∧ o.serial = g.serial ∧ ((s.block.phase k).st ≠ .ident ∨ (s.block.phase k).rcGood < 2 ∨ s.block.identOk g = true) ∧ k.val < s.block.cnv.phases.length ∧ s.block.settled = true)
    ∧ (∃ (s : State) (k : Fin 8) (thr : Nat), (s.block.phase k).st ≠ .unconfigured ∧ thr = (s.block.phase k).thrSent ∧ k.val < s.block.cnv.phases.length ∧ s.block.settled = true)
    ∧ (∃ (s : State) (k : Fin 8), (s.block.phase k).st = .ident ∧ s.block.phaseToSpare = true ∧ k.val < s.block.cnv.phases.length ∧ s.block.settled = true)
    ∧ (∃ (s : State) (k : Fin 8) (t : Nat), (s.block.phase k).cfgAt = some t ∧ s.block.phaseToSpare = true ∧ k.val < s.block.cnv.phases.length ∧ s.block.settled = true)
    ∧ (∃ (s : State) (k : Fin 8) (g : GduIdent), (s.block.phase k).st = .ident ∧ (s.block.phase k).gdu = some g ∧ (s.block.phase k).ack = some true ∧ 3 ≤ (s.block.phase k).rcGood ∧ s.block.identOk g = true ∧ s.block.hinge = false ∧ s.block.cnv.st ≠ .regulate ∧ s.block.cnv.st ≠ .precheck ∧ k.val < s.block.cnv.phases.length ∧ s.block.settled = true)
    ∧ (∃ (s : State) (k : Fin 8), (s.block.phase k).st.searching = true ∧ (s.block.phase k).st ≠ .search ∧ s.block.cnv.graceEnd = none ∧ s.block.cnv.fibreOn = true ∧ s.block.phaseToSpare = true ∧ k.val < s.block.cnv.phases.length ∧ s.block.settled = true)
    ∧ (∃ (s : State) (k : Fin 8), (s.block.phase k).st.modulating = true ∧ s.block.cnv.graceEnd = none ∧ s.block.cnv.fibreOn = true ∧ s.block.sys.mstate = .run ∧ s.block.cnv.st.modulates = true ∧ s.block.cnv.st ≠ .softstop ∧ s.block.modPhases.length ≤ s.block.cnv.set.nMin ∧ k.val < s.block.cnv.phases.length ∧ s.block.settled = true)
    ∧ (∃ (s : State) (k : Fin 8), ((s.block.phase k).st = .ready ∨ (s.block.phase k).st.modulating = true) ∧ s.block.phaseToSpare = true ∧ k.val < s.block.cnv.phases.length ∧ s.block.settled = true)
    ∧ (∃ (s : State) (k : Fin 8), s.block.cnv.st.softStart = false ∧ k.val < s.block.cnv.phases.length ∧ s.block.settled = true)
    ∧ (∃ (s : State) (k : Fin 8), k.val < s.block.cnv.phases.length ∧ s.block.settled = true)
    ∧ (∃ (s : State) (k : Fin 8), (s.block.phase k).st = .hiccup ∧ (s.block.phase k).oc = false ∧ (s.block.phase k).rdy = true ∧ k.val < s.block.cnv.phases.length ∧ s.block.settled = true)
    ∧ (∃ (s : State) (k : Fin 8) (t : Nat), (s.block.phase k).st = .joining ∧ (s.block.phase k).joinAt = some t ∧ k.val < s.block.cnv.phases.length ∧ s.block.settled = true)
    ∧ (∃ (s : State) (t : Nat), s.block.cnv.graceEnd = some t ∧ s.block.cnv.st.modulates = false ∧ s.block.cnv.phases.length = 8 ∧ s.block.settled = true) :=
  ⟨⟨(ph 7 (fun p => {p with st := .ident, rcOpen := true, rcMiss := 1, rcGood := 2}) (fr park)), 7, by decide +kernel⟩,
   ⟨(ph 7 (fun p => {p with st := .ready, rcOpen := true, rcMiss := 2}) (act [1,2] .regulate (fr park))), 7, by decide +kernel⟩,
   ⟨(ph 7 (fun p => {p with st := .ready}) (fr park)), 7, by decide +kernel⟩,
   ⟨park, {ulf 0 5 with crcOk := false}, by decide +kernel⟩,
   ⟨(ph 7 (fun p => {p with st := .unconfigured}) (fr park)), 7, (ulf 1 5), by decide +kernel⟩,
   ⟨(ph 7 (fun p => {p with st := .ready}) (fr park)), 7, (ulf 1 5), by decide +kernel⟩,
   ⟨(ph 7 (fun p => {p with st := .ready, overV := 1}) (act [1,2] .regulate (fr park))), 7, (ulf 0 40000), by decide +kernel⟩,
   ⟨(ph 3 (fun p => {p with st := .search, rcOpen := true, rcSeq := 9}) (fr park)), 3, 9, by decide +kernel⟩,
   ⟨(ph 3 (fun p => {p with st := .active, rcOpen := true, rcSeq := 9, gdu := some (gd 4)}) (act [1,2] .regulate (fr park))), 3, 9, (gd 5), (gd 4), by decide +kernel⟩,
   ⟨(ph 3 (fun p => {p with st := .ready, rcOpen := true, rcSeq := 9, gdu := some (gd 5)}) (fr park)), 3, 9, (gd 5), (gd 5), by decide +kernel⟩,
   ⟨(ph 3 (fun p => {p with st := .ident, thrSent := 77}) (fr park)), 3, 77, by decide +kernel⟩,
   ⟨(ph 3 (fun p => {p with st := .ident, thrSent := 77}) (fr park)), 3, by decide +kernel⟩,
   ⟨(ph 3 (fun p => {p with st := .ready, cfgAt := some 123450000}) (fr park)), 3, 123450000, by decide +kernel⟩,
   ⟨(ph 3 (fun p => {p with st := .ident, gdu := some {gd 5 with lNom := (park.block.lMin + 99) / 100}, ack := some true, rcGood := 3}) (fr park)), 3, {gd 5 with lNom := (park.block.lMin + 99) / 100}, by decide +kernel⟩,
   ⟨(ph 3 (fun p => {p with st := .hiccup}) (cn (fun c => {c with graceEnd := none}) (fr park))), 3, by decide +kernel⟩,
   ⟨(cn (fun c => {c with graceEnd := none}) (act [1] .regulate (fr runS))), 1, by decide +kernel⟩,
   ⟨(act [1,2] .regulate (fr park)), 1, by decide +kernel⟩,
   ⟨(act [1,2] .regulate (fr park)), 1, by decide +kernel⟩,
   ⟨(act [1,2] .regulate (fr park)), 1, by decide +kernel⟩,
   ⟨(ph 5 (fun p => {p with st := .hiccup, oc := false, rdy := true, hiccupAt := [123000000]}) (act [1,2] .regulate (fr park))), 5, by decide +kernel⟩,
   ⟨(ph 5 (fun p => {p with st := .joining, joinAt := some 123000000}) (act [1,2] .regulate (fr park))), 5, 123000000, by decide +kernel⟩,
   ⟨(ph 5 (fun p => {p with st := .ready, rcGood := 0}) (ph 4 (fun p => {p with st := .ready, rcGood := 2}) (cn (fun c => {c with graceEnd := some 130000000, st := .muzzled}) (fr park)))), 130000000, by decide +kernel⟩⟩

theorem witness_CarrierLocksAndSoftStartRuns :
    (∃ (s : State), 0 < s.block.cnv.set.tc ∧ s.block.cnv.phases.length = 8 ∧ s.block.settled = true)
    ∧ (∃ (s : State), s.block.cnv.set.lockSrc = 2 ∧ s.block.settled = true)
    ∧ (∃ (s : State), s.block.cnv.set.lockSrc ≠ 2 ∧ s.block.settled = true)
    ∧ (∃ (s : State), s.block.cnv.locked = false ∧ 16 ≤ s.block.cnv.alignRun ∧ s.block.cnv.set.lockSrc ≠ 0 ∧ s.block.settled = true)
    ∧ (∃ (s : State), s.block.cnv.set.lockSrc = 2 ∧ 4 ≤ s.block.cnv.syncMiss ∧ s.block.cnv.refSeen = true ∧ s.block.settled = true)
    ∧ (∃ (s : State), s.block.cnv.set.lockSrc = 1 ∧ s.block.ptpTicks = none ∧ s.block.cnv.refSeen = true ∧ s.block.settled = true)
    ∧ (∃ (s : State) (t : Nat), s.block.cnv.xchkAt = some t ∧ s.block.cnv.xchkNoted = false ∧ s.block.settled = true)
    ∧ (∃ (s : State), s.block.cnv.st = .precheck ∧ s.block.precheck ≠ 0 ∧ s.block.settled = true)
    ∧ (∃ (s : State), s.block.cnv.st = .precheck ∧ s.block.precheck = 0 ∧ s.block.cnv.parkSrc = none ∧ s.block.cnv.vCmd = none ∧ s.block.cnv.phases.length = 8 ∧ s.block.settled = true)
    ∧ (∃ (s : State), s.block.cnv.st = .hiccup ∧ s.block.cnv.phases.length = 8 ∧ s.block.settled = true)
    ∧ (∃ (s : State), s.block.cnv.st.softStart = true ∧ (s.block.cnv.ssHics.filter fun h => decide (s.block.sys.now < h + 2 * secT)).length < 2 ∧ s.block.settled = true)
    ∧ (∃ (s : State), s.block.cnv.st.softStart = true ∧ 2 ≤ (s.block.cnv.ssHics.filter fun h => decide (s.block.sys.now < h + 2 * secT)).length ∧ s.block.settled = true)
    ∧ (∃ (s : State), ((s.block.cnv.st = .precheck ∨ s.block.cnv.st.softStart = true ∨ s.block.cnv.st = .hiccup)) ∧ s.block.settled = true)
    ∧ (∃ (s : State) (t : Nat), s.block.cnv.st = .settle ∧ s.block.cnv.settleAt = some t ∧ s.block.hinge = false ∧ s.block.srcLost s.block.loop.src = false ∧ s.block.cnv.phases.length = 8 ∧ s.block.settled = true)
    ∧ (∃ (s : State) (t : Nat), s.block.cnv.st = .settle ∧ s.block.cnv.settleAt = some t ∧ s.block.hinge = true ∧ s.block.settled = true)
    ∧ (∃ (s : State) (t : Nat) (i : Nat) (q : Nat), s.block.cnv.st = .softstop ∧ s.block.cnv.stopZeroAt = some t ∧ s.block.cnv.parkSrc = some (.session i q) ∧ s.block.sys.mstate = .run ∧ s.block.hinge = false ∧ (s.block.entry? i q).isSome = true ∧ s.block.settled = true) :=
  ⟨⟨(act [1,2] .regulate park), by decide +kernel⟩,
   ⟨(cn (fun c => {c with set := {c.set with lockSrc := 2}}) park), by decide +kernel⟩,
   ⟨park, by decide +kernel⟩,
   ⟨(cn (fun c => {c with locked := false, alignRun := 16, set := {c.set with lockSrc := 2}}) park), by decide +kernel⟩,
   ⟨(cn (fun c => {c with refSeen := true, syncMiss := 4, set := {c.set with lockSrc := 2}}) park), by decide +kernel⟩,
   ⟨(cn (fun c => {c with refSeen := true, set := {c.set with lockSrc := 1}}) park), by decide +kernel⟩,
   ⟨(cn (fun c => {c with xchkAt := some 123450000, xchkNoted := false}) park), 123450000, by decide +kernel⟩,
   ⟨(cn (fun c => {c with st := .precheck, preAt := 123450000}) park), by decide +kernel⟩,
   ⟨pre, by decide +kernel, pre_ok, by decide +kernel, by decide +kernel, by decide +kernel, by decide +kernel⟩,
   ⟨(rdy [1,3] (act [] .hiccup park)), by decide +kernel⟩,
   ⟨(act [1,2] .ramp park), by decide +kernel⟩,
   ⟨(cn (fun c => {c with ssHics := [123000000, 122000000]}) (act [1,2] .ramp park)), by decide +kernel⟩,
   ⟨(act [1,2] .settle park), by decide +kernel⟩,
   ⟨(cn (fun c => {c with settleAt := some 123000000, iRef := 777}) (rdy [4] (act [1,2] .settle park))), 123000000, by decide +kernel⟩,
   ⟨(cn (fun c => {c with settleAt := some 123000000, iRef := 777}) (rdy [4] (act [1,2] .settle runH))), 123000000, by decide +kernel⟩,
   ⟨(cn (fun c => {c with stopZeroAt := some 123000000, iRef := 0, parkSrc := some S}) (act [1,2] .softstop (runEntry 0x0121 runS))), 123000000, 0, 5, by decide +kernel⟩⟩

theorem witness_PhasePeriodsStepTheCompensators :
    (∃ (s : State) (k : Fin 8) (v : Int) (l : Int), (s.block.phase k).st.modulating = true ∧ s.block.cnv.st = .regulate ∧ ((s.block.hinge = true ∨ s.block.cnv.handOver ≠ none)) ∧ s.block.vStrMv = some v ∧ s.block.vLinkMv = some l ∧ s.block.cnv.vCmdDue = false ∧ (s.block.phase k).ocRun < 7 ∧ k.val < s.block.cnv.phases.length ∧ s.block.settled = true)
    ∧ (∃ (s : State) (k : Fin 8), (s.block.phase k).st.modulating = true ∧ s.block.cnv.st = .regulate ∧ s.block.hinge = false ∧ s.block.cnv.handOver = none ∧ s.block.modPhases.head? = some k.val ∧ (s.block.phase k).ocRun < 7 ∧ k.val < s.block.cnv.phases.length ∧ s.block.settled = true)
    ∧ (∃ (s : State) (k : Fin 8), (s.block.phase k).st.modulating = true ∧ s.block.cnv.st = .softstop ∧ s.block.modPhases.head? = some k.val ∧ s.block.cnv.vCmdDue = false ∧ k.val < s.block.cnv.phases.length ∧ s.block.settled = true)
    ∧ (∃ (s : State) (k : Fin 8), (s.block.phase k).st.modulating = true ∧ s.block.cnv.st = .ramp ∧ s.block.modPhases.head? = some k.val ∧ s.block.cnv.vCmdDue = false ∧ k.val < s.block.cnv.phases.length ∧ s.block.settled = true)
    ∧ (∃ (s : State) (k : Fin 8), (s.block.phase k).st.modulating = true ∧ s.block.cnv.st = .regulate ∧ s.block.phaseToSpare = true ∧ (s.block.phase k).ocThis = true ∧ 7 ≤ (s.block.phase k).ocRun ∧ k.val < s.block.cnv.phases.length ∧ s.block.settled = true)
    ∧ (∃ (s : State) (k : Fin 8) (t : Nat) (mean : Int) (sum : Int), (s.block.phase k).st.modulating = true ∧ s.block.cnv.st.modulates = true ∧ (s.block.phase k).periodAt = some t ∧ k.val < s.block.cnv.phases.length ∧ mean = (if (s.block.phase k).iSum.n = 0 then (s.block.phase k).i else divNear (s.block.phase k).iSum.sum (s.block.phase k).iSum.n) ∧ sum = (s.block.modPhases.map fun j => if j = k.val then mean else (s.block.phase j).iMean).foldl (· + ·) 0 ∧ ((s.block.hinge = true ∨ s.block.imp.x = 0)) ∧ s.block.settled = true)
    ∧ (∃ (s : State) (k : Fin 8) (x : Staged), (s.block.phase k).comp.staged = some x ∧ s.block.hinge = false ∧ k.val < s.block.cnv.phases.length ∧ s.block.settled = true)
    ∧ (∃ (s : State), s.block.hinge = true ∧ s.block.settled = true)
    ∧ (∃ (s : State) (r : BandDone) (k : Fin 8), s.block.imp.bandDone = some r ∧ r.written = true ∧ r.handOver = false ∧ r.retune = true ∧ s.block.modPhases = [k.val] ∧ (∀ j < 8, j ≠ k.val → (s.block.phase j).activeAll = false) ∧ s.block.cnv.set.tuneEn = true ∧ k.val < s.block.cnv.phases.length ∧ s.block.settled = true) :=
  ⟨⟨(cn (fun c => {c with handOver := some 5}) (act [1,2] .regulate park)), 2, 700000, 900000, by decide +kernel, by decide +kernel, by decide +kernel, by decide +kernel, link_two _ (by decide +kernel), by decide +kernel, by decide +kernel, by decide +kernel, by decide +kernel⟩,
   ⟨(cn (fun c => {c with handOver := none}) (up (fun b => b.onLoop fun l => {l with u := fxI 33000}) (act [1,2] .regulate park))), 1, by decide +kernel⟩,
   ⟨(cn (fun c => {c with iRef := -44000, stopZeroAt := none}) (act [1,2] .softstop park)), 1, by decide +kernel⟩,
   ⟨(cn (fun c => {c with vRef := some (fxI 900000), vTgt := some (fxI 800000), slew := 1000}) (act [1,2] .ramp park)), 1, by decide +kernel⟩,
   ⟨(ph 1 (fun p => {p with ocThis := true, ocRun := 7, hiccupAt := [123000000]}) (act [1,2] .regulate park)), 1, by decide +kernel⟩,
   ⟨(up (fun b => b.onImp fun i => {i with x := 0}) (act [1,2] .regulate park)), 1, 123456000, 3500, 5500, by decide +kernel⟩,
   ⟨(ph 1 (fun p => {p with comp := {p.comp with staged := some {due := 123457000, coef := [1,2,3,4,5,6,7], l := 100, r := 5, fc := 60000, pm := 5000, gm := 900}}}) (act [1,2] .regulate park)), 1, {due := 123457000, coef := [1,2,3,4,5,6,7], l := 100, r := 5, fc := 60000, pm := 5000, gm := 900}, by decide +kernel⟩,
   ⟨(act [1,2] .regulate runH), by decide +kernel⟩,
   ⟨(ph 1 (fun p => {p with activeAll := true, ident := [none, none, none, some (9760, 24650), some (6140,98520), some (-29170,311800), none, none]}) (cn (fun c => {c with set := {c.set with tuneEn := true, fcSet := 100000}, phases := c.phases.map fun p => {p with activeAll := false}}) (up (fun b => b.onImp fun i => {i with job := none, jobSet := st0, bandDone := some rb}) (act [1] .regulate park)))), rb, 1, by decide +kernel⟩⟩

theorem witness_ConverterCommandsSetWhatTheyName :
    (∃ (s : State) (src : Src) (tc : Nat) (lockSrc : Nat) (packIdx : Nat) (packSize : Nat) (syncDly : Nat), s.block.sys.mstate = .park ∧ 2500 ≤ tc ∧ tc ≤ 12500 ∧ lockSrc ≤ 2 ∧ packIdx ≤ 31 ∧ packIdx < packSize ∧ packSize ≤ 32 ∧ syncDly ≤ 1000 ∧ ((packSize = 1 ∨ lockSrc ≠ 0)) ∧ s.block.settled = true ∧ s.block.admits src 0x0701 true = true)
    ∧ (∃ (s : State) (src : Src) (mask : Nat) (nMin : Nat), s.block.sys.mstate ≠ .run ∧ mask ≤ 255 ∧ 1 ≤ nMin ∧ nMin ≤ 8 ∧ nMin ≤ bits8 mask ∧ s.block.cnv.phases.length = 8 ∧ s.block.settled = true ∧ s.block.admits src 0x0702 true = true)
    ∧ (∃ (s : State) (src : Src) (deadTime : Nat) (dMin : Nat) (dMax : Nat) (trimMax : Nat) (shareGain : Nat), s.block.sys.mstate ≠ .run ∧ 100 ≤ deadTime ∧ deadTime ≤ 5000 ∧ dMin ≤ 0x80000000 ∧ 0x80000000 ≤ dMax ∧ dMax ≤ 0xFFFFFFFF ∧ dMin < dMax ∧ trimMax ≤ 0x0CCCCCCD ∧ 1 ≤ shareGain ∧ shareGain ≤ 1000 ∧ s.block.dtMin ≤ deadTime ∧ s.block.settled = true ∧ s.block.admits src 0x0703 true = true)
    ∧ (∃ (s : State) (src : Src) (chg : Nat) (dis : Nat) (cont : Nat) (i2t : Nat), chg ≤ 1250000 ∧ dis ≤ 1250000 ∧ 10000 ≤ cont ∧ cont ≤ 1250000 ∧ 20000 ≤ s.block.cnv.set.iFast ∧ s.block.cnv.set.iFast ≤ 1000000 ∧ 10000 ≤ i2t ∧ i2t ≤ 100000000 ∧ chg ≤ s.block.iFloor ∧ dis ≤ s.block.iFloor ∧ s.block.cnv.set.iFast ≤ s.block.iFastMax ∧ s.block.settled = true ∧ s.block.admits src 0x0704 true = true)
    ∧ (∃ (s : State) (src : Src) (chg : Nat) (dis : Nat) (cont : Nat) (fast : Nat) (i2t : Nat), chg ≤ 1250000 ∧ dis ≤ 1250000 ∧ 10000 ≤ cont ∧ cont ≤ 1250000 ∧ 20000 ≤ fast ∧ fast ≤ 1000000 ∧ 10000 ≤ i2t ∧ i2t ≤ 100000000 ∧ chg ≤ s.block.iFloor ∧ dis ≤ s.block.iFloor ∧ fast ≤ s.block.iFastMax ∧ fast ≠ s.block.cnv.set.iFast ∧ s.block.cnv.phases.length = 8 ∧ s.block.settled = true ∧ s.block.admits src 0x0704 true = true)
    ∧ (∃ (s : State) (src : Src) (chg : Nat) (dis : Nat) (cont : Nat) (fast : Nat) (i2t : Nat), chg ≤ 1250000 ∧ dis ≤ 1250000 ∧ 10000 ≤ cont ∧ cont ≤ 1250000 ∧ 20000 ≤ fast ∧ fast ≤ 1000000 ∧ 10000 ≤ i2t ∧ i2t ≤ 100000000 ∧ ((s.block.iFloor < chg ∨ s.block.iFloor < dis ∨ s.block.iFastMax < fast)) ∧ s.block.settled = true ∧ s.block.admits src 0x0704 true = true)
    ∧ (∃ (s : State) (src : Src) (vTarget : Int) (slewV : Nat) (ilimSs : Nat) (ssTimeout : Nat) (kpv : Nat) (kiv : Nat) (slewStop : Nat), 1000 ≤ slewV ∧ slewV ≤ 10000000 ∧ 5000 ≤ ilimSs ∧ ilimSs ≤ 200000 ∧ 1000 ≤ ssTimeout ∧ ssTimeout ≤ 600000 ∧ 10 ≤ kpv ∧ kpv ≤ 100000 ∧ kiv ≤ 1000000 ∧ 1000 ≤ slewStop ∧ slewStop ≤ 1000000 ∧ ((vTarget = 0 ∨ (500000 ≤ vTarget ∧ vTarget ≤ 3000000))) ∧ vTarget ≤ s.block.vlinkMax ∧ s.block.settled = true ∧ s.block.admits src 0x0705 true = true)
    ∧ (∃ (s : State) (src : Src) (target : Int) (slew : Nat), ((s.block.cnv.st.softStart = true ∨ s.block.cnv.st = .hiccup)) ∧ 1000 ≤ slew ∧ slew ≤ 10000000 ∧ ((target = 0 ∨ (500000 ≤ target ∧ target ≤ 3000000))) ∧ target ≤ s.block.vlinkMax ∧ s.block.settled = true ∧ s.block.admits src 0x0706 true = true)
    ∧ (∃ (s : State) (src : Src) (en : Nat) (fc : Nat), en ≤ 1 ∧ 50000 ≤ fc ∧ fc ≤ 5000000 ∧ s.block.settled = true ∧ s.block.admits src 0x0707 true = true)
    ∧ (∃ (s : State) (src : Src) (mask : Nat) (coef : List Int), s.block.sys.mstate ≠ .run ∧ mask ≤ 255 ∧ coef.length = 7 ∧ (∀ i < 7, -2147483648 ≤ coef.getD i 0 ∧ coef.getD i 0 ≤ 2147483647 ∧ floorCoefLo s.block.floor i ≤ coef.getD i 0 ∧ coef.getD i 0 ≤ floorCoefHi s.block.floor i) ∧ s.block.cnv.phases.length = 8 ∧ s.block.settled = true ∧ s.block.admits src 0x0708 true = true)
    ∧ (∃ (s : State) (src : Src) (phase : Nat), phase ≤ 7 ∧ (s.block.phase phase).st ≠ .unconfigured ∧ s.block.phaseToSpare = true ∧ phase < s.block.cnv.phases.length ∧ s.block.settled = true ∧ s.block.admits src 0x0709 true = true)
    ∧ (∃ (s : State) (src : Src) (phase : Nat), phase ≤ 7 ∧ (s.block.phase phase).st = .out ∧ phase < s.block.cnv.phases.length ∧ s.block.settled = true ∧ s.block.admits src 0x0709 true = true)
    ∧ (∃ (s : State) (src : Src), s.block.settled = true ∧ s.block.admits src 0x070A false = true) :=
  ⟨⟨park, S, 2500, 2, 31, 32, 1000, by decide +kernel⟩,
   ⟨(ph 0 (fun p => {p with st := .ready}) (ph 1 (fun p => {p with st := .ready}) park)), S, 0x82, 2, by decide +kernel⟩,
   ⟨park, S, (max 100 park.block.dtMin), 0, 0xFFFFFFFF, 0, 1000, by decide +kernel⟩,
   ⟨park, S, 0, 0, 10000, 10000, by decide +kernel⟩,
   ⟨(act [1,2] .idle park), S, 0, 0, 10000, 20000, 10000, by decide +kernel⟩,
   ⟨park, S, 1250000, 0, 10000, 500000, 10000, by decide +kernel⟩,
   ⟨park, S, 0, 1000, 5000, 1000, 10, 0, 1000, by decide +kernel⟩,
   ⟨(act [1,2] .ramp park), S, 0, 1000, by decide +kernel⟩,
   ⟨park, S, 1, 50000, by decide +kernel⟩,
   ⟨park, S, 3, ((List.range 7).map fun i => floorCoefLo park.block.floor i), by decide +kernel⟩,
   ⟨(ph 7 (fun p => {p with st := .ready}) (fr park)), S, 7, by decide +kernel⟩,
   ⟨(ph 7 (fun p => {p with st := .out}) (fr park)), S, 7, by decide +kernel⟩,
   ⟨park, S, by decide +kernel⟩⟩

end W07

namespace W08
def lo (f : LoopPart → LoopPart) (s : State) := up (fun b => b.onLoop f) s
def th (f : ThmPart → ThmPart) (s : State) := up (fun b => b.onThm f) s
def cn (f : CnvPart → CnvPart) (s : State) := up (fun b => b.onCnv f) s
def runEntry (op : Nat) (s : State) := up (fun b => acceptRequest S op [] true b) s
def nsrc : List Source := List.replicate 4 {lost := false, okAt := none}
def quiet (s : State) := cn (fun c => {c with handOver := none, phases := c.phases.mapIdx fun k p => if k < 2 then {p with st := .active} else p}) (lo (fun l => {l with am := false, amDue := none, modeDue := false, srcDue := false, preset := none, commit := none, src := 0, sources := nsrc, packet := some 2500, spR := some (fxI 1000), u := fxI 777, ig := fxI 55, sumN := 2, sumI := fxI 3000, sumP := fxI 2000, set := {l.set with gains := [100, 200, 300, 400, 500, 600], spRamp := 655360}}) s)
def reg (a : Nat) (s : State) := cn (fun c => {c with st := .regulate}) (lo (fun l => {l with set := {l.set with spTimeout := 1000, lossAct := a, fbSrc := 1}, onFb := false}) (quiet s))
def idl (s : State) := (lo (fun l => {l with set := {l.set with spTimeout := 1000}}) (quiet s))
def lv (k : Nat) (f : Louvre → Louvre) (s : State) := up (onLv k f) s
def lset (v : Louvre) : Louvre := {v with fbLo := 1000000, fbHi := 9000000, kp := 10, ki := 5, db := 50, umax := 9000, tgt := fxQ 7 10, st := .moving, learn := none, friction := List.replicate 32 3000}
def nofire (s : State) := th (fun t => {t with fire := false}) s
def temps (s : State) := up (fun b => b.onFlt fun f => {f with cells := f.cells.map fun c => {c with temp := some 3100}}) s
def lrn (k : Nat) (l : Learn) (s : State) := lv k (fun v => {lset v with learn := some l, pos := fxQ 0 1, st := .learning}) s
def l0 : Learn := {begun := 120000000, point := 0, up := false, placing := false, drive := 400, recent := [fxQ 5 100], ups := (List.range 31).map fun i => (i+1, 300), downs := (List.range 30).map fun i => (i+1, 200)}
def ent (t v : Nat) : List Byte := leBytes 6 t ++ leBytes 4 5 ++ leBytes 4 v ++ leBytes 1 0 ++ leBytes 1 0
def stg (s : State) := lo (fun l => {l with staged := [some (parseEntry (ent 5 1)), some (parseEntry (ent 6 2))] ++ List.replicate 254 none}) s

theorem witness_LoopCyclesFollowTheSetPoint :
    (∃ (s : State), s.block.sys.mstate = .off ∧ s.block.settled = true)
    ∧ (∃ (s : State), s.block.sys.mstate ≠ .off ∧ s.block.hinge = true ∧ s.block.settled = true)
    ∧ (∃ (s : State) (fb : Int) (sp0 : Fx) (sp : Fx), s.block.sys.mstate ≠ .off ∧ s.block.hinge = false ∧ s.block.loop.am = false ∧ s.block.loop.amDue = none ∧ s.block.loop.modeDue = false ∧ s.block.loop.srcDue = false ∧ s.block.loop.preset = none ∧ s.block.cnv.handOver = none ∧ s.block.loop.src = 0 ∧ s.block.srcLost 0 = false ∧ s.block.loopFb = some fb ∧ s.block.loop.spR = some sp0 ∧ sp = slewRef sp0 ((s.block.delivered 0).getD 0) (fxQ ((s.block.loop.set.spRamp : Int) * s.block.loop.set.fullScale s.block.loop.lmode) 655360000) ∧ s.block.settled = true)
    ∧ (∃ (s : State), s.block.sys.mstate ≠ .off ∧ s.block.hinge = false ∧ s.block.loop.am = false ∧ s.block.loop.amDue = none ∧ s.block.loop.modeDue = false ∧ s.block.loop.srcDue = false ∧ s.block.loop.preset = none ∧ s.block.cnv.handOver = none ∧ s.block.loop.src = 0 ∧ s.block.srcLost 0 = false ∧ s.block.loopFb = none ∧ s.block.settled = true)
    ∧ (∃ (s : State), s.block.sys.mstate ≠ .off ∧ s.block.hinge = false ∧ s.block.loop.am = true ∧ s.block.loop.amDue = none ∧ s.block.loop.modeDue = false ∧ s.block.cnv.handOver = none ∧ s.block.settled = true)
    ∧ (∃ (s : State), s.block.sys.mstate ≠ .off ∧ s.block.hinge = false ∧ s.block.loop.am = false ∧ s.block.loop.amDue = some true ∧ s.block.loop.modeDue = false ∧ s.block.loop.srcDue = false ∧ s.block.cnv.handOver = none ∧ s.block.loop.src = 0 ∧ s.block.srcLost 0 = false ∧ s.block.settled = true)
    ∧ (∃ (s : State) (i : Int), s.block.sys.mstate ≠ .off ∧ s.block.hinge = false ∧ s.block.loop.am = false ∧ s.block.loop.amDue = none ∧ s.block.loop.modeDue = false ∧ s.block.loop.srcDue = false ∧ s.block.cnv.handOver = some i ∧ s.block.loop.src = 0 ∧ s.block.srcLost 0 = false ∧ s.block.settled = true) :=
  ⟨⟨off, by decide +kernel⟩,
   ⟨(quiet runH), by decide +kernel⟩,
   ⟨(quiet park), ((quiet park).block.loopFb.getD 0), (fxI 1000), (slewRef (fxI 1000) (fxI 2500) (fxQ ((655360 : Int) * (quiet park).block.loop.set.fullScale (quiet park).block.loop.lmode) 655360000)), by decide +kernel⟩,
   ⟨(lo (fun l => {l with sumN := 0}) (quiet park)), by decide +kernel⟩,
   ⟨(lo (fun l => {l with am := true, manIref := 5000, manRef := fxI 44}) (quiet park)), by decide +kernel⟩,
   ⟨(lo (fun l => {l with amDue := some true, manIref := 5000, manRef := fxI 44}) (quiet park)), by decide +kernel⟩,
   ⟨(cn (fun c => {c with handOver := some (-3000)}) (quiet park)), (-3000), by decide +kernel⟩⟩

theorem witness_SourcesAreLostAndReturn :
    (∃ (s : State) (before : Int) (after : Int), s.block.sys.mstate ≠ .off ∧ 1000000 < |after - before| ∧ s.block.srcLost 1 = false ∧ s.block.cnv.st ≠ .regulate ∧ s.block.loop.sources.length = 4 ∧ s.block.settled = true)
    ∧ (∃ (s : State) (before : Int) (after : Int), s.block.sys.mstate ≠ .off ∧ |after - before| ≤ 1000000 ∧ s.block.settled = true)
    ∧ (∃ (s : State) (period : Nat) (high : Nat), s.block.sys.mstate ≠ .off ∧ 0 < period ∧ 90 * period ≤ secT ∧ secT ≤ 11000 * period ∧ period ≤ 20 * high ∧ 20 * high ≤ 19 * period ∧ s.block.settled = true)
    ∧ (∃ (s : State) (period : Nat) (high : Nat), s.block.sys.mstate ≠ .off ∧ 0 < period ∧ high ≤ period ∧ ((secT < 90 * period ∨ 11000 * period < secT ∨ 20 * high < period ∨ 19 * period < 20 * high)) ∧ 2 ≤ s.block.loop.pulseBad ∧ s.block.srcLost 2 = false ∧ s.block.cnv.st ≠ .regulate ∧ s.block.loop.sources.length = 4 ∧ s.block.settled = true)
    ∧ (∃ (s : State), s.block.sys.mstate ≠ .off ∧ s.block.srcLost 2 = false ∧ s.block.cnv.st ≠ .regulate ∧ s.block.loop.sources.length = 4 ∧ s.block.settled = true)
    ∧ (∃ (s : State), s.block.loop.set.spTimeout ≠ 0 ∧ s.block.srcLost 0 = false ∧ s.block.sys.mstate ≠ .off ∧ s.block.sys.mstate ≠ .boot ∧ s.block.cnv.st ≠ .regulate ∧ s.block.loop.sources.length = 4 ∧ s.block.settled = true)
    ∧ (∃ (s : State), s.block.loop.set.spTimeout = 0 ∧ s.block.settled = true)
    ∧ (∃ (s : State), s.block.loop.set.spTimeout ≠ 0 ∧ s.block.srcLost 0 = false ∧ s.block.sys.mstate = .run ∧ s.block.cnv.st = .regulate ∧ s.block.hinge = false ∧ s.block.loop.am = false ∧ s.block.loop.srcDue = false ∧ s.block.loop.src = 0 ∧ s.block.loop.onFb = false ∧ s.block.loop.sources.length = 4 ∧ s.block.settled = true)
    ∧ (∃ (s : State) (t : Nat), s.block.loop.unlockAt = some t ∧ s.block.ptpLock = false ∧ s.block.srcLost 3 = false ∧ s.block.cnv.st ≠ .regulate ∧ s.block.loop.sources.length = 4 ∧ s.block.settled = true)
    ∧ (∃ (s : State) (i : Fin 4) (t : Nat), i.val ≠ 0 ∧ (s.block.loop.sources.getD i { lost := false, okAt := none }).okAt = some t ∧ s.block.srcLost i = true ∧ s.block.loop.sources.length = 4 ∧ s.block.settled = true)
    ∧ (∃ (s : State), s.block.settled = true) :=
  ⟨⟨(idl park), 0, 1000001, by decide +kernel⟩,
   ⟨(reg 3 park), 0, 1000000, by decide +kernel⟩,
   ⟨(reg 3 park), 100000, 5000, by decide +kernel⟩,
   ⟨(lo (fun l => {l with pulseBad := 2}) (idl park)), 100000, 4999, by decide +kernel⟩,
   ⟨(idl park), by decide +kernel⟩,
   ⟨(idl park), by decide +kernel⟩,
   ⟨(lo (fun l => {l with set := {l.set with spTimeout := 0}}) park), by decide +kernel⟩,
   ⟨(reg 0 runS), by decide +kernel⟩,
   ⟨(lo (fun l => {l with unlockAt := some 123000000}) (idl park)), 123000000, by decide +kernel⟩,
   ⟨(lo (fun l => {l with sources := nsrc.set 2 {lost := true, okAt := some 123000000}}) (idl park)), 2, 123000000, by decide +kernel⟩,
   ⟨park, by decide +kernel⟩⟩

theorem witness_ThermalOutputsAndLouvresRun :
    (∃ (s : State), s.block.sys.mstate ∈ [MState.park, .run, .fault, .safe] ∧ s.block.hinge = false ∧ s.block.thm.fire = false ∧ s.block.settled = true)
    ∧ (∃ (s : State), s.block.sys.mstate ≠ .off ∧ s.block.hinge = true ∧ s.block.thm.fire = false ∧ s.block.settled = true)
    ∧ (∃ (s : State) (t : Nat), s.block.thm.noneAt = some t ∧ s.block.thm.tLost = false ∧ s.block.hinge = false ∧ s.block.thm.fire = false ∧ s.block.sys.mstate ∈ [MState.park, .run, .fault, .safe] ∧ s.block.settled = true)
    ∧ (∃ (s : State) (o : Fin 6) (m : OutMap) (v : Nat × Nat), s.block.outMap? o = some m ∧ m.override = some v ∧ s.block.settled = true)
    ∧ (∃ (s : State) (f : Fin 2) (x : FanPump) (t : Nat), s.block.thm.fps[f.val]? = some x ∧ x.slowAt = some t ∧ x.stall = false ∧ s.block.settled = true)
    ∧ (∃ (s : State) (k : Fin 4) (v : Louvre), s.block.sys.mstate ≠ .off ∧ s.block.thm.lvs[k.val]? = some v ∧ v.st.dark = false ∧ v.learn = none ∧ s.block.settled = true)
    ∧ (∃ (s : State) (k : Fin 4) (v : Louvre), s.block.sys.mstate ≠ .off ∧ s.block.thm.lvs[k.val]? = some v ∧ v.st.dark = true ∧ s.block.settled = true)
    ∧ (∃ (s : State) (k : Fin 4) (v : Louvre) (w : Nat × Int), s.block.thm.lvs[k.val]? = some v ∧ v.watch = some w ∧ s.block.settled = true)
    ∧ (∃ (s : State) (k : Fin 4) (v : Louvre), s.block.thm.lvs[k.val]? = some v ∧ s.block.settled = true)
    ∧ (∃ (s : State) (k : Fin 4) (v : Louvre), s.block.thm.lvs[k.val]? = some v ∧ v.st = .retry ∧ v.learn = none ∧ s.block.settled = true)
    ∧ (∃ (s : State) (k : Fin 4) (v : Louvre) (t : Nat), s.block.thm.lvs[k.val]? = some v ∧ v.badAt = some t ∧ v.st ≠ .fbLost ∧ s.block.settled = true)
    ∧ (∃ (s : State) (k : Fin 4) (v : Louvre) (t : Nat), s.block.thm.lvs[k.val]? = some v ∧ v.goodAt = some t ∧ v.st = .fbLost ∧ s.block.settled = true)
    ∧ (∃ (s : State) (k : Fin 4) (v : Louvre) (l : Learn), s.block.thm.lvs[k.val]? = some v ∧ v.learn = some l ∧ (l.step v.db v.pos).2 = false ∧ s.block.settled = true)
    ∧ (∃ (s : State) (k : Fin 4) (v : Louvre) (l : Learn) (i : Nat) (q : Nat), s.block.thm.lvs[k.val]? = some v ∧ v.learn = some l ∧ (l.step v.db v.pos).2 = true ∧ s.block.thm.learnSrc = some (.session i q, 2 ^ k.val, 0) ∧ (∀ j < 4, j ≠ k.val → ∀ x ∈ s.block.thm.lvs[j]?, x.learn = none) ∧ s.block.thm.lvs.length = 4 ∧ (s.block.entry? i q).isSome = true ∧ s.block.settled = true)
    ∧ (∃ (s : State) (k : Fin 4) (v : Louvre) (l : Learn) (i : Nat) (q : Nat), s.block.thm.lvs[k.val]? = some v ∧ v.learn = some l ∧ s.block.thm.learnSrc = some (.session i q, 2 ^ k.val, 0) ∧ (∀ j < 4, j ≠ k.val → ∀ x ∈ s.block.thm.lvs[j]?, x.learn = none) ∧ s.block.thm.lvs.length = 4 ∧ (s.block.entry? i q).isSome = true ∧ s.block.settled = true) :=
  ⟨⟨(nofire (temps park)), by decide +kernel⟩,
   ⟨(nofire (temps runH)), by decide +kernel⟩,
   ⟨(th (fun t => {t with fire := false, noneAt := some 123000000, tLost := false, fsDemand := 40000}) park), 123000000, by decide +kernel⟩,
   ⟨(up (onMap 3 fun m => {m with override := some (500, 123000000)}) park), 3, {((park.block.outMap? 3).getD Louvre.reset.map) with override := some (500, 123000000)}, (500, 123000000), by decide +kernel⟩,
   ⟨(up (onFp 1 fun f => {f with slowAt := some 123000000}) park), 1, {((park.block.thm.fps[1]?).getD FanPump.reset) with slowAt := some 123000000}, 123000000, by decide +kernel⟩,
   ⟨(lv 2 lset park), 2, (lset ((park.block.thm.lvs[2]?).getD Louvre.reset)), by decide +kernel⟩,
   ⟨(lv 2 (fun v => {lset v with st := .retry}) park), 2, {lset ((park.block.thm.lvs[2]?).getD Louvre.reset) with st := .retry}, by decide +kernel⟩,
   ⟨(lv 2 (fun v => {lset v with watch := some (123000000, 5), stalls := [122000000, 121000000]}) park), 2, {lset ((park.block.thm.lvs[2]?).getD Louvre.reset) with watch := some (123000000, 5), stalls := [122000000, 121000000]}, (123000000, 5), by decide +kernel⟩,
   ⟨(lv 2 lset park), 2, (lset ((park.block.thm.lvs[2]?).getD Louvre.reset)), by decide +kernel⟩,
   ⟨(lv 2 (fun v => {lset v with st := .retry}) park), 2, {lset ((park.block.thm.lvs[2]?).getD Louvre.reset) with st := .retry}, by decide +kernel⟩,
   ⟨(lv 2 (fun v => {lset v with badAt := some 5}) park), 2, {lset ((park.block.thm.lvs[2]?).getD Louvre.reset) with badAt := some 5}, 5, by decide +kernel⟩,
   ⟨(lv 2 (fun v => {lset v with st := .fbLost, goodAt := some 5}) park), 2, {lset ((park.block.thm.lvs[2]?).getD Louvre.reset) with st := .fbLost, goodAt := some 5}, 5, by decide +kernel⟩,
   ⟨(lrn 2 {l0 with point := 4, recent := [0]} park), 2, ((((lrn 2 {l0 with point := 4, recent := [0]} park).block.thm.lvs[2]?).getD Louvre.reset)), {l0 with point := 4, recent := [0]}, by decide +kernel⟩,
   ⟨(th (fun t => {t with learnSrc := some (S, 4, 0)}) (lrn 2 l0 (runEntry 0x0810 park))), 2, ((((lrn 2 l0 park).block.thm.lvs[2]?).getD Louvre.reset)), l0, 0, 5, by decide +kernel⟩,
   ⟨(th (fun t => {t with learnSrc := some (S, 4, 0)}) (lrn 2 l0 (runEntry 0x0810 park))), 2, ((((lrn 2 l0 park).block.thm.lvs[2]?).getD Louvre.reset)), l0, 0, 5, by decide +kernel⟩⟩

theorem witness_LoopCommandsSetWhatTheyName :
    (∃ (s : State) (src : Src) (lmode : Nat) (ffEn : Nat), lmode ≤ 2 ∧ ffEn ≤ 1 ∧ s.block.settled = true ∧ s.block.admits src 0x0801 true = true)
    ∧ (∃ (s : State) (src : Src) (source : Nat) (fbSrc : Nat) (lossAct : Nat), source ≤ 3 ∧ fbSrc ≤ 3 ∧ lossAct ≤ 3 ∧ s.block.srcLost source = false ∧ s.block.settled = true ∧ s.block.admits src 0x0802 true = true)
    ∧ (∃ (s : State) (src : Src) (source : Nat) (fbSrc : Nat) (lossAct : Nat), source ≤ 3 ∧ fbSrc ≤ 3 ∧ lossAct ≤ 3 ∧ s.block.srcLost source = true ∧ s.block.settled = true ∧ s.block.admits src 0x0802 true = true)
    ∧ (∃ (s : State) (src : Src) (value : Int), s.block.loop.set.inRange s.block.loop.lmode value = true ∧ ((s.block.loop.lmode ≠ 2 ∨ value ≤ s.block.vlinkMax)) ∧ s.block.loop.sources.length = 4 ∧ s.block.settled = true ∧ s.block.admits src 0x0803 true = true)
    ∧ (∃ (s : State) (src : Src) (pmax : Nat) (imax : Nat) (vdcMid : Int) (vdcSpan : Int) (spRamp : Nat) (manRamp : Nat), 1000 ≤ pmax ∧ pmax ≤ 2500000 ∧ 1000 ≤ imax ∧ imax ≤ 1250000 ∧ 500000 ≤ vdcMid ∧ vdcMid ≤ 3000000 ∧ 1000 ≤ vdcSpan ∧ vdcSpan ≤ 500000 ∧ 66 ≤ spRamp ∧ spRamp ≤ 655360 ∧ 1000 ≤ manRamp ∧ manRamp ≤ 10000000 ∧ imax ≤ s.block.iFloor ∧ vdcMid + vdcSpan ≤ s.block.vlinkMax ∧ s.block.settled = true ∧ s.block.admits src 0x0804 true = true)
    ∧ (∃ (s : State) (src : Src) (mode : Nat) (kp : Nat) (ki : Nat), mode ≤ 2 ∧ kp ≤ 10000000 ∧ ki ≤ 100000000 ∧ s.block.settled = true ∧ s.block.admits src 0x0805 true = true)
    ∧ (∃ (s : State) (src : Src) (spTimeout : Nat) (spReturn : Nat) (schedHold : Nat) (ainDb : Nat), ((spTimeout = 0 ∨ (100 ≤ spTimeout ∧ spTimeout ≤ 60000))) ∧ spReturn ≤ 60000 ∧ schedHold ≤ 3600 ∧ ainDb ≤ 250 ∧ s.block.settled = true ∧ s.block.admits src 0x0806 true = true)
    ∧ (∃ (s : State) (src : Src) (am : Nat) (iref : Int), ((s.block.sys.mstate = .park ∨ s.block.sys.mstate = .run)) ∧ am ≤ 1 ∧ -2147483647 ≤ iref ∧ iref ≤ 2147483647 ∧ s.block.settled = true ∧ s.block.admits src 0x0807 true = true)
    ∧ (∃ (s : State) (src : Src) (first : Nat) (count : Nat) (entries : List Byte), 1 ≤ count ∧ count ≤ 64 ∧ first + count ≤ 256 ∧ entries.length = 16 * count ∧ s.block.loop.staged.length = 256 ∧ s.block.settled = true ∧ s.block.admits src 0x0808 true = true)
    ∧ (∃ (s : State) (src : Src) (count : Nat), 1 ≤ count ∧ count ≤ 256 ∧ schedCheck s.block.loop.set s.block.loop.staged count = 0 ∧ s.block.settled = true ∧ s.block.admits src 0x0809 true = true)
    ∧ (∃ (s : State) (src : Src) (count : Nat), 1 ≤ count ∧ count ≤ 256 ∧ schedCheck s.block.loop.set s.block.loop.staged count ≠ 0 ∧ s.block.settled = true ∧ s.block.admits src 0x0809 true = true)
    ∧ (∃ (s : State) (src : Src), s.block.settled = true ∧ s.block.admits src 0x0811 false = true) :=
  ⟨⟨park, S, 2, 1, by decide +kernel⟩,
   ⟨(idl park), S, 3, 0, 3, by decide +kernel⟩,
   ⟨(lo (fun l => {l with sources := nsrc.set 2 {lost := true, okAt := none}}) park), S, 2, 0, 3, by decide +kernel⟩,
   ⟨(lo (fun l => {l with sources := nsrc.set 0 {lost := true, okAt := none}}) park), S, (-1000), by decide +kernel⟩,
   ⟨park, S, 1000, 1250000, 500000, 1000, 66, 10000000, by decide +kernel⟩,
   ⟨park, S, 2, 10000000, 100000000, by decide +kernel⟩,
   ⟨park, S, 100, 0, 3600, 250, by decide +kernel⟩,
   ⟨park, S, 1, (-2147483647), by decide +kernel⟩,
   ⟨park, S, 254, 2, (ent 5 1 ++ ent 6 2), by decide +kernel⟩,
   ⟨(stg park), S, 2, by decide +kernel⟩,
   ⟨(stg park), S, 3, by decide +kernel⟩,
   ⟨park, S, by decide +kernel⟩⟩

theorem witness_ThermalCommandsSetWhatTheyName :
    (∃ (s : State) (src : Src) (tSel : Nat) (thIdx : Nat) (tSet : Int) (kpT : Nat) (kiT : Nat) (fsDemand : Nat) (hibDemand : Nat), tSel ≤ 2 ∧ thIdx < s.block.nTherm ∧ -2000 ≤ tSet ∧ tSet ≤ 8000 ∧ kpT < 2 ^ 32 ∧ kiT < 2 ^ 32 ∧ fsDemand < 65536 ∧ hibDemand < 65536 ∧ s.block.settled = true ∧ s.block.admits src 0x080A true = true)
    ∧ (∃ (s : State) (src : Src) (output : Nat) (dStart : Nat) (dFull : Nat) (outOff : Nat) (outMin : Nat) (outMax : Nat) (fire : Nat) (m : OutMap), dFull < 65536 ∧ dStart < dFull ∧ outOff < 65536 ∧ outMin < 65536 ∧ outMax < 65536 ∧ fire < 65536 ∧ output ≤ 5 ∧ s.block.outMap? output = some m ∧ s.block.settled = true ∧ s.block.admits src 0x080B true = true)
    ∧ (∃ (s : State) (src : Src) (output : Nat) (value : Nat) (time : Nat) (m : OutMap), output ≤ 5 ∧ value < 65536 ∧ 1 ≤ time ∧ time ≤ 3600 ∧ s.block.fireDemand = false ∧ s.block.outMap? output = some m ∧ s.block.settled = true ∧ s.block.admits src 0x080C true = true)
    ∧ (∃ (s : State) (src : Src) (output : Nat) (value : Nat) (m : OutMap), output ≤ 5 ∧ value < 65536 ∧ s.block.fireDemand = false ∧ s.block.outMap? output = some m ∧ s.block.settled = true ∧ s.block.admits src 0x080C true = true)
    ∧ (∃ (s : State) (src : Src) (output : Nat) (inv : Nat) (ppr : Nat) (tachMin : Nat), output ≤ 1 ∧ inv ≤ 1 ∧ 1 ≤ ppr ∧ ppr ≤ 4 ∧ tachMin < 65536 ∧ s.block.settled = true ∧ s.block.admits src 0x080D true = true)
    ∧ (∃ (s : State) (src : Src) (louvre : Nat) (fbLo : Int) (fbHi : Int) (kp : Nat) (ki : Nat) (db : Nat) (umax : Nat), louvre ≤ 3 ∧ 0 ≤ fbLo ∧ fbLo ≤ 10000000 ∧ 0 ≤ fbHi ∧ fbHi ≤ 10000000 ∧ fbLo ≠ fbHi ∧ kp < 65536 ∧ ki < 65536 ∧ db ≤ 1000 ∧ 1000 ≤ umax ∧ umax ≤ 10000 ∧ s.block.settled = true ∧ s.block.admits src 0x080E true = true)
    ∧ (∃ (s : State) (src : Src) (louvre : Nat) (table : List Nat), louvre ≤ 3 ∧ table.length = 32 ∧ (∀ x ∈ table, x < 65536) ∧ s.block.settled = true ∧ s.block.admits src 0x080F true = true)
    ∧ (∃ (s : State) (src : Src) (mask : Nat), s.block.sys.mstate = .park ∧ 1 ≤ mask ∧ mask ≤ 15 ∧ s.block.thm.lvs.length = 4 ∧ s.block.settled = true ∧ s.block.admits src 0x0810 true = true) :=
  ⟨⟨park, S, 2, 5, (-2000), 65536, 1, 65535, 0, by decide +kernel⟩,
   ⟨park, S, 5, 0, 65535, 1, 2, 3, 4, ((park.block.outMap? 5).getD Louvre.reset.map), by decide +kernel⟩,
   ⟨(nofire park), S, 1, 500, 3600, ((park.block.outMap? 1).getD Louvre.reset.map), by decide +kernel⟩,
   ⟨park, S, 5, 500, ((park.block.outMap? 5).getD Louvre.reset.map), by decide +kernel⟩,
   ⟨park, S, 1, 1, 4, 0, by decide +kernel⟩,
   ⟨(lv 2 (fun v => {lset v with st := .retry}) park), S, 2, 9000000, 0, 5, 6, 1000, 1000, by decide +kernel⟩,
   ⟨park, S, 3, (List.replicate 32 65535), by decide +kernel⟩,
   ⟨park, S, 5, by decide +kernel⟩⟩

end W08

namespace W09
def la (f : LatchPart → LatchPart) (s : State) := up (fun b => b.onLatch f) s
def sy (f : SysPart → SysPart) (s : State) := up (fun b => b.onSys f) s
def bk (f : BarkPart → BarkPart) (s : State) := up (fun b => b.onBark f) s
def lines (s : State) := bk (fun k => {k with line := true, drive := false}) s
def st (x : LState) (s : State) := la (fun l => {l with powered := true, state := x, muzzle := decide (x ≠ .armed), causes := [], resetting := none, seq := .idle, pendingAct := none}) (lines s)
def ok (s : State) := la (fun l => {l with okA := true}) s
def inp (i : Nat) (f : SafeInput → SafeInput) (s : State) := la (fun l => {l with inputs := modAt l.inputs i f}) s
def hiC : SafeChan := {high := true, lowAt := none, maskEnd := none, checked := true, passed := true, fails := 0, passes := 5, roseAt := some 5}
def loC : SafeChan := {high := false, lowAt := none, maskEnd := none, checked := true, passed := true, fails := 0, passes := 5, roseAt := none}
def I (a b : SafeChan) (t : InState) : SafeInput := {a := a, b := b, st := t, paired := true, demands := 3, fellAt := none, fallOk := false, verdict := none}
def fl (i f src act : Nat) (s : State) := la (fun l => let r := (((floorNew.set (120+8*i) (BitVec.ofNat 8 f)).set (121+8*i) (BitVec.ofNat 8 src)).set (126+8*i) (BitVec.ofNat 8 act)); {l with copyA := r, okA := true, okB := false}) s
def flb (k v : Nat) (s : State) := la (fun l => {l with copyA := floorNew.set k (BitVec.ofNat 8 v), okA := true, okB := false}) s
def out (n : Nat) (f : SafeOut → SafeOut) (s : State) := la (fun l => {l with outs := modAt l.outs n f}) s
def held (s : State) := up (fun b => acceptRequest S 0x0902 [] true b) s
def sqn (q : SeqState) (s : State) := la (fun l => {l with seq := q, seqAt := 123456000, seqSrc := some S, so3At := 123456000, so1At := 123456000, peaked := true, lowSince := some 123457000}) (held s)
def mir (n : Nat) (m : Bool) (s : State) := la (fun l => {l with outs := modAt l.outs n fun o => {o with mirror := m}}) (flb 184 7 s)
def au (s : State) := la (fun l => {l with pwSet := true, windows := [(0, 123456000)], nonces := [], lockEnd := none, fails := 0}) s
def good (s : State) := la (fun l => {l with powered := true, lockstep := true, answering := true, blk := .empty, hotAt := none, overI := 0, unexecAt := none, spsAt := none, resetting := none}) s
def rec5 (s : State) := sy (fun y => {y with mstate := .safe}) (up (fun b => (b.onRing fun r => {r with rungs := List.replicate 17 true}).onLeash fun h => {h with tripsUp := []}) (up (fun b => b.onCnv fun c => {c with st := .muzzled}) (la (fun l => {l with state := .recovery, muzzle := true, lockstep := true, answering := true, chk := List.replicate 8 false, causes := [], inputs := l.inputs.map fun x => {x with st := .released}, outs := l.outs.map fun o => {o with mirror := true}}) (lines s))))
def chars : List Byte := List.replicate 8 0x41#8
def newFloor (s : State) : List Byte := let r := ((floorNew.take 4) ++ leBytes 4 (floorGen s.block.floor + 1) ++ (floorNew.drop 8)).take 252; r ++ leBytes 4 (crc32c r)

theorem witness_LatchStartsArmsAndLocksOut :
    (∃ (s : State), s.block.latch.powered = false ∧ s.block.latch.muzzle = true ∧ s.block.settled = true)
    ∧ (∃ (s : State), s.block.latch.powered = true ∧ s.block.latch.state = .selftest ∧ s.block.latch.floorOk = true ∧ s.block.latch.commitOpen = none ∧ s.block.latch.causes = [] ∧ ((s.block.bark.line = true ∨ s.block.bark.drive = true)) ∧ s.block.settled = true)
    ∧ (∃ (s : State) (d : Nat), s.block.latch.powered = true ∧ s.block.latch.state = .selftest ∧ s.block.latch.floorOk = true ∧ s.block.latch.commitOpen = some d ∧ s.block.latch.causes = [] ∧ ((s.block.bark.line = true ∨ s.block.bark.drive = true)) ∧ s.block.settled = true)
    ∧ (∃ (s : State) (ix : Nat), s.block.latch.powered = true ∧ s.block.latch.state = .selftest ∧ s.block.latch.floorOk = true ∧ s.block.latch.commitOpen = none ∧ s.block.latch.causes = [(3, ix)] ∧ s.block.latch.resetting = none ∧ ((s.block.bark.line = true ∨ s.block.bark.drive = true)) ∧ s.block.settled = true)
    ∧ (∃ (s : State), s.block.latch.powered = true ∧ s.block.latch.state = .selftest ∧ s.block.latch.floorOk = false ∧ s.block.latch.resetting = none ∧ s.block.settled = true)
    ∧ (∃ (s : State), s.block.latch.powered = true ∧ s.block.latch.state = .selftest ∧ s.block.latch.floorOk = true ∧ s.block.latch.resetting = none ∧ s.block.settled = true)
    ∧ (∃ (s : State), s.block.latch.powered = true ∧ s.block.settled = true)
    ∧ (∃ (s : State), s.block.latch.powered = true ∧ s.block.latch.state ≠ .selftest ∧ s.block.latch.state ≠ .lockout ∧ s.block.latch.resetting = none ∧ s.block.settled = true)
    ∧ (∃ (s : State), s.block.latch.powered = true ∧ s.block.latch.state ≠ .selftest ∧ s.block.latch.state ≠ .lockout ∧ s.block.latch.resetting = none ∧ s.block.settled = true)
    ∧ (∃ (s : State), s.block.latch.powered = true ∧ s.block.latch.state = .startup ∧ s.block.openInputs = [] ∧ s.block.latch.lockstep = true ∧ s.block.latch.answering = true ∧ s.block.latch.pendingAct = none ∧ 3 < s.block.latch.outs.length ∧ s.block.settled = true)
    ∧ (∃ (s : State) (i : Nat) (rest : List Nat), s.block.latch.powered = true ∧ s.block.latch.state = .startup ∧ s.block.latch.resetting = none ∧ s.block.openInputs = i :: rest ∧ s.block.settled = true)
    ∧ (∃ (s : State), s.block.latch.powered = true ∧ s.block.latch.state = .startup ∧ s.block.latch.resetting = none ∧ s.block.openInputs = [] ∧ s.block.latch.lockstep = false ∧ s.block.settled = true)
    ∧ (∃ (s : State), s.block.latch.powered = true ∧ s.block.latch.state = .startup ∧ s.block.latch.resetting = none ∧ s.block.openInputs = [] ∧ s.block.latch.lockstep = true ∧ s.block.latch.answering = false ∧ s.block.settled = true)
    ∧ (∃ (s : State) (ssi : Bool) (c : Nat), s.block.latch.powered = true ∧ s.block.latch.state = .startup ∧ s.block.latch.resetting = none ∧ s.block.openInputs = [] ∧ s.block.latch.lockstep = true ∧ s.block.latch.answering = true ∧ s.block.latch.pendingAct = some (ssi, c) ∧ s.block.latch.causes = [] ∧ s.block.latch.fn = .none ∧ s.block.settled = true)
    ∧ (∃ (s : State), s.block.latch.powered = true ∧ s.block.latch.seq.closing = false ∧ s.block.latch.state = .armed ∧ s.block.settled = true)
    ∧ (∃ (s : State), s.block.latch.powered = true ∧ s.block.latch.seq.closing = false ∧ s.block.latch.pendingAct = none ∧ s.block.latch.state ∈ [LState.acted, .recovery, .test, .lockout] ∧ s.block.settled = true) :=
  ⟨⟨(la (fun l => {l with powered := false, muzzle := true}) (up (fun b => b.onCnv fun c => {c with st := .muzzled}) park)), by decide +kernel⟩,
   ⟨(up (fun b => b.onCnv fun c => {c with st := .muzzled}) <| la (fun l => {l with commitOpen := none}) (ok (st .selftest park))), by decide +kernel⟩,
   ⟨(up (fun b => b.onCnv fun c => {c with st := .muzzled}) <| la (fun l => {l with commitOpen := some 5}) (ok (st .selftest park))), 5, by decide +kernel⟩,
   ⟨(up (fun b => b.onCnv fun c => {c with st := .muzzled}) <| la (fun l => {l with commitOpen := none, causes := [(3,4)]}) (ok (st .selftest park))), 4, by decide +kernel⟩,
   ⟨(up (fun b => b.onCnv fun c => {c with st := .muzzled}) <| la (fun l => {l with okA := false, okB := false}) (st .selftest park)), by decide +kernel⟩,
   ⟨(up (fun b => b.onCnv fun c => {c with st := .muzzled}) <| ok (st .selftest park)), by decide +kernel⟩,
   ⟨park, by decide +kernel⟩,
   ⟨park, by decide +kernel⟩,
   ⟨park, by decide +kernel⟩,
   ⟨(up (fun b => b.onCnv fun c => {c with st := .muzzled}) (st .startup park)), by decide +kernel⟩,
   ⟨(up (fun b => b.onCnv fun c => {c with st := .muzzled}) (inp 1 (fun x => {x with st := .demand}) <| inp 0 (fun x => {x with st := .demand}) <| fl 1 1 0x21 0 (st .startup park))), 0, [1], by decide +kernel⟩,
   ⟨(up (fun b => b.onCnv fun c => {c with st := .muzzled}) (la (fun l => {l with lockstep := false}) (st .startup park))), by decide +kernel⟩,
   ⟨(up (fun b => b.onCnv fun c => {c with st := .muzzled}) (la (fun l => {l with lockstep := true, answering := false}) (st .startup park))), by decide +kernel⟩,
   ⟨(up (fun b => b.onCnv fun c => {c with st := .muzzled}) (la (fun l => {l with pendingAct := some (true, 4), fn := .none}) (st .startup park))), true, 4, by decide +kernel⟩,
   ⟨park, by decide +kernel⟩,
   ⟨safe, by decide +kernel⟩⟩

theorem witness_SafetyInputsDemandAndRelease :
    (∃ (s : State) (i : Fin 8) (c : Fin 2) (x : SafeInput), s.block.latch.inputs[i.val]? = some x ∧ s.block.latch.powered = true ∧ (x.chan c).high = true ∧ (x.chan c).maskEnd = none ∧ s.block.latch.state ≠ .test ∧ s.block.sys.mstate ≠ .hibernate ∧ s.block.settled = true)
    ∧ (∃ (s : State) (i : Fin 8) (c : Fin 2) (x : SafeInput), s.block.latch.inputs[i.val]? = some x ∧ s.block.latch.powered = true ∧ (x.chan c).high = false ∧ (x.chan c).maskEnd = none ∧ x.st = .demand ∧ (x.chan (1 - c)).seenHigh = false ∧ s.block.sys.mstate ≠ .hibernate ∧ s.block.settled = true)
    ∧ (∃ (s : State) (i : Fin 8) (c : Fin 2) (t : Nat) (x : SafeInput) (r : Nat), s.block.latch.inputs[i.val]? = some x ∧ s.block.latch.powered = true ∧ (x.chan c).high = false ∧ (x.chan c).maskEnd = none ∧ ((x.st = .demand ∨ x.st = .returning)) ∧ (x.chan (1 - c)).seenHigh = true ∧ (x.chan (1 - c)).roseAt = some r ∧ max s.block.sys.now t ≤ r + s.block.siDisc i ∧ s.block.siOn i = true ∧ s.block.siSrc i 0 = 0 ∧ s.block.siSrc i 1 = 0 ∧ s.block.latch.state = .acted ∧ s.block.latch.causes = [(1, i.val + 1)] ∧ s.block.sys.mstate ≠ .hibernate ∧ s.block.settled = true)
    ∧ (∃ (s : State) (i : Fin 8) (c : Fin 2) (high : Bool) (x : SafeInput) (e : Nat), s.block.latch.inputs[i.val]? = some x ∧ s.block.latch.powered = true ∧ (x.chan c).high ≠ high ∧ (x.chan c).maskEnd = some e ∧ s.block.settled = true)
    ∧ (∃ (s : State) (i : Fin 8) (c : Fin 2) (x : SafeInput), s.block.latch.inputs[i.val]? = some x ∧ s.block.latch.powered = true ∧ (x.chan c).high = true ∧ (x.chan c).maskEnd = none ∧ s.block.sys.mstate = .hibernate ∧ s.block.hinge = false ∧ s.block.settled = true)
    ∧ (∃ (s : State) (i : Fin 8) (c : Fin 2) (x : SafeInput) (t : Nat), s.block.latch.inputs[i.val]? = some x ∧ (x.chan c).lowAt = some t ∧ x.st = .released ∧ ((s.block.siFunc i = 1 ∨ s.block.siFunc i = 2)) ∧ s.block.latch.state = .armed ∧ s.block.latch.resetting = none ∧ s.block.settled = true)
    ∧ (∃ (s : State) (i : Fin 8) (c : Fin 2) (x : SafeInput) (t : Nat), s.block.latch.inputs[i.val]? = some x ∧ (x.chan c).lowAt = some t ∧ x.st = .released ∧ s.block.siFunc i = 3 ∧ (((s.block.latch.outs.take 3).any fun o => o.cmd) = true ∨ s.block.sys.mstate = .run) ∧ s.block.latch.state = .armed ∧ s.block.latch.resetting = none ∧ s.block.settled = true)
    ∧ (∃ (s : State) (i : Fin 8) (c : Fin 2) (x : SafeInput) (t : Nat), s.block.latch.inputs[i.val]? = some x ∧ (x.chan c).lowAt = some t ∧ x.st = .released ∧ s.block.siFunc i = 3 ∧ ((s.block.latch.outs.take 3).any fun o => o.cmd) = false ∧ s.block.sys.mstate ≠ .run ∧ s.block.latch.state = .armed ∧ s.block.settled = true)
    ∧ (∃ (s : State) (i : Fin 8) (c : Fin 2) (x : SafeInput) (t : Nat), s.block.latch.inputs[i.val]? = some x ∧ (x.chan c).lowAt = some t ∧ x.st = .released ∧ s.block.siOn i = true ∧ ((s.block.latch.state = .startup ∨ s.block.latch.state = .test ∨ s.block.latch.state = .lockout)) ∧ s.block.settled = true)
    ∧ (∃ (s : State) (i : Fin 8) (x : SafeInput), s.block.latch.inputs[i.val]? = some x ∧ s.block.siOn i = true ∧ x.st = .returning ∧ (x.a.seenHigh != x.b.seenHigh) = true ∧ s.block.latch.state ∈ [LState.startup, .acted, .recovery] ∧ s.block.settled = true)
    ∧ (∃ (s : State) (i : Fin 8) (x : SafeInput), s.block.latch.inputs[i.val]? = some x ∧ s.block.siOn i = true ∧ x.st = .returning ∧ (x.a.seenHigh != x.b.seenHigh) = true ∧ s.block.latch.state = .test ∧ s.block.settled = true)
    ∧ (∃ (s : State), s.block.latch.powered = true ∧ s.block.settled = true)
    ∧ (∃ (s : State), s.block.latch.powered = true ∧ s.block.settled = true)
    ∧ (∃ (s : State) (i : Fin 8) (c : Fin 2) (x : SafeInput) (e : Nat), s.block.latch.inputs[i.val]? = some x ∧ (x.chan c).maskEnd = some e ∧ (x.chan c).checked = true ∧ s.block.siOn i = true ∧ s.block.siSrc i c ≠ 0 ∧ x.st = .released ∧ s.block.settled = true)
    ∧ (∃ (s : State) (i : Fin 8) (c : Fin 2) (x : SafeInput) (e : Nat), s.block.latch.inputs[i.val]? = some x ∧ (x.chan c).maskEnd = some e ∧ (x.chan c).checked = true ∧ s.block.siOn i = true ∧ s.block.siSrc i c ≠ 0 ∧ ((x.st = .demand ∨ x.st = .returning)) ∧ x.a.seenHigh = true ∧ x.b.seenHigh = true ∧ x.paired = true ∧ s.block.tpsOk i = true ∧ 2 ≤ (x.chan c).passes ∧ 3 ≤ (x.chan (1 - c)).passes ∧ s.block.latch.state = .acted ∧ s.block.latch.causes = [(1, i.val + 1)] ∧ s.block.settled = true)
    ∧ (∃ (s : State) (i : Fin 8) (c : Fin 2) (x : SafeInput) (e : Nat), s.block.latch.inputs[i.val]? = some x ∧ (x.chan c).maskEnd = some e ∧ (x.chan c).checked = true ∧ s.block.siOn i = true ∧ s.block.siSrc i c ≠ 0 ∧ (x.chan c).fails = 0 ∧ s.block.settled = true)
    ∧ (∃ (s : State) (i : Fin 8) (c : Fin 2) (x : SafeInput) (e : Nat), s.block.latch.inputs[i.val]? = some x ∧ (x.chan c).maskEnd = some e ∧ (x.chan c).checked = true ∧ ((s.block.siFunc i = 1 ∨ s.block.siFunc i = 2)) ∧ s.block.siSrc i c ≠ 0 ∧ 1 ≤ (x.chan c).fails ∧ x.st = .released ∧ s.block.latch.state = .armed ∧ s.block.latch.resetting = none ∧ s.block.settled = true)
    ∧ (∃ (s : State) (i : Fin 8) (c : Fin 2) (x : SafeInput) (e : Nat), s.block.latch.inputs[i.val]? = some x ∧ (x.chan c).maskEnd = some e ∧ (x.chan c).checked = false ∧ s.block.siOn i = true ∧ s.block.siSrc i c ≠ 0 ∧ s.block.settled = true)
    ∧ (∃ (s : State) (i : Fin 8) (c : Fin 2) (x : SafeInput) (e : Nat), s.block.latch.inputs[i.val]? = some x ∧ (x.chan c).maskEnd = some e ∧ (x.chan c).high = true ∧ (x.chan c).lowAt = none ∧ s.block.settled = true)
    ∧ (∃ (s : State) (i : Fin 8) (c : Fin 2) (x : SafeInput) (e : Nat), s.block.latch.inputs[i.val]? = some x ∧ (x.chan c).maskEnd = some e ∧ (x.chan c).high = false ∧ (x.chan c).lowAt = none ∧ s.block.sys.mstate ≠ .hibernate ∧ s.block.settled = true)
    ∧ (∃ (s : State) (i : Fin 8) (c : Fin 2) (x : SafeInput) (e : Nat) (t : Nat), s.block.latch.inputs[i.val]? = some x ∧ (x.chan c).maskEnd = some e ∧ (x.chan c).high = false ∧ (x.chan c).lowAt = some t ∧ ((s.block.siFunc i = 1 ∨ s.block.siFunc i = 2)) ∧ x.st = .released ∧ t + s.block.siFilt i ≤ max s.block.sys.now e ∧ s.block.latch.state = .armed ∧ s.block.latch.resetting = none ∧ s.block.settled = true)
    ∧ (∃ (s : State) (i : Fin 8) (c : Fin 2) (x : SafeInput) (e : Nat) (t : Nat), s.block.latch.inputs[i.val]? = some x ∧ (x.chan c).maskEnd = some e ∧ (x.chan c).high = false ∧ (x.chan c).lowAt = some t ∧ max s.block.sys.now e < t + s.block.siFilt i ∧ s.block.settled = true)
    ∧ (∃ (s : State) (n : Fin 4) (t : TestPulse), s.block.latch.tps[n.val]? = some t ∧ t.fault = false ∧ s.block.latch.powered = true ∧ s.block.latch.state = .lockout ∧ s.block.settled = true)
    ∧ (∃ (s : State) (n : Fin 4) (t : TestPulse) (i : Fin 8) (x : SafeInput), s.block.latch.tps[n.val]? = some t ∧ t.fault = false ∧ s.block.latch.powered = true ∧ s.block.latch.inputs[i.val]? = some x ∧ x.st = .released ∧ ((s.block.siFunc i = 1 ∨ s.block.siFunc i = 2)) ∧ ((s.block.siSrc i 0 = n.val + 1 ∨ s.block.siSrc i 1 = n.val + 1)) ∧ ((∀ j : Fin 8, j ≠ i → s.block.siOn j = false ∨ (s.block.siSrc j 0 ≠ n.val + 1 ∧ s.block.siSrc j 1 ≠ n.val + 1))) ∧ s.block.latch.state = .armed ∧ s.block.latch.resetting = none ∧ s.block.settled = true)
    ∧ (∃ (s : State), s.block.settled = true) :=
  ⟨⟨(inp 2 (fun _ => I hiC hiC .released) park), 2, 1, (I hiC hiC .released), by decide +kernel⟩,
   ⟨(inp 2 (fun _ => I loC loC .demand) park), 2, 1, (I loC loC .demand), by decide +kernel⟩,
   ⟨(inp 2 (fun _ => I {hiC with roseAt := some 123456700} loC .returning) (fl 2 1 0 0 <| la (fun l => {l with causes := [(1,3)]}) safe)), 2, 1, 123456800, (I {hiC with roseAt := some 123456700} loC .returning), 123456700, by decide +kernel⟩,
   ⟨(inp 2 (fun _ => I hiC {loC with maskEnd := some 5} .released) park), 2, 1, true, (I hiC {loC with maskEnd := some 5} .released), 5, by decide +kernel⟩,
   ⟨(inp 2 (fun _ => I hiC hiC .released) hib), 2, 1, (I hiC hiC .released), by decide +kernel⟩,
   ⟨(inp 0 (fun _ => I hiC {loC with lowAt := some 123456700} .released) park), 0, 1, (I hiC {loC with lowAt := some 123456700} .released), 123456700, by decide +kernel⟩,
   ⟨(out 0 (fun o => {o with cmd := true}) <| inp 3 (fun _ => I hiC {loC with lowAt := some 123456700} .released) (fl 3 3 0x21 2 park)), 3, 1, (I hiC {loC with lowAt := some 123456700} .released), 123456700, by decide +kernel⟩,
   ⟨(inp 3 (fun _ => I hiC {loC with lowAt := some 123456700} .released) (fl 3 3 0x21 2 park)), 3, 1, (I hiC {loC with lowAt := some 123456700} .released), 123456700, by decide +kernel⟩,
   ⟨(inp 3 (fun _ => I hiC {loC with lowAt := some 123456700} .released) (fl 3 3 0x21 2 (la (fun l => {l with state := .lockout, muzzle := true}) off))), 3, 1, (I hiC {loC with lowAt := some 123456700} .released), 123456700, by decide +kernel⟩,
   ⟨(inp 3 (fun _ => I hiC {loC with lowAt := some 123456700} .returning) (fl 3 3 0x21 2 boot)), 3, (I hiC {loC with lowAt := some 123456700} .returning), by decide +kernel⟩,
   ⟨(inp 3 (fun _ => I hiC {loC with lowAt := some 123456700} .returning) (fl 3 3 0x21 2 (la (fun l => {l with state := .test, muzzle := true}) off))), 3, (I hiC {loC with lowAt := some 123456700} .returning), by decide +kernel⟩,
   ⟨park, by decide +kernel⟩,
   ⟨park, by decide +kernel⟩,
   ⟨(inp 0 (fun _ => I {hiC with maskEnd := some 123456800} hiC .released) (fl 0 1 0x21 0 park)), 0, 0, (I {hiC with maskEnd := some 123456800} hiC .released), 123456800, by decide +kernel⟩,
   ⟨(inp 0 (fun _ => I {hiC with maskEnd := some 123456800} hiC .returning) (fl 0 1 0x21 0 (la (fun l => {l with causes := [(1,1)], tps := List.replicate 4 {on := true, fault := false}}) safe))), 0, 0, (I {hiC with maskEnd := some 123456800} hiC .returning), 123456800, by decide +kernel⟩,
   ⟨(inp 0 (fun _ => I {hiC with maskEnd := some 123456800} hiC .released) (fl 0 1 0x21 0 park)), 0, 0, (I {hiC with maskEnd := some 123456800} hiC .released), 123456800, by decide +kernel⟩,
   ⟨(inp 0 (fun _ => I {hiC with maskEnd := some 123456800, fails := 1} hiC .released) (fl 0 1 0x21 0 park)), 0, 0, (I {hiC with maskEnd := some 123456800, fails := 1} hiC .released), 123456800, by decide +kernel⟩,
   ⟨(inp 0 (fun _ => I {hiC with maskEnd := some 123456800, fails := 1, checked := false} hiC .released) (fl 0 1 0x21 0 park)), 0, 0, (I {hiC with maskEnd := some 123456800, fails := 1, checked := false} hiC .released), 123456800, by decide +kernel⟩,
   ⟨(inp 0 (fun _ => I {hiC with maskEnd := some 123456800} hiC .released) park), 0, 0, (I {hiC with maskEnd := some 123456800} hiC .released), 123456800, by decide +kernel⟩,
   ⟨(inp 0 (fun _ => I {loC with maskEnd := some 123456800} hiC .released) park), 0, 0, (I {loC with maskEnd := some 123456800} hiC .released), 123456800, by decide +kernel⟩,
   ⟨(inp 0 (fun _ => I {loC with maskEnd := some 123456800, lowAt := some 3} hiC .released) park), 0, 0, (I {loC with maskEnd := some 123456800, lowAt := some 3} hiC .released), 123456800, 3, by decide +kernel⟩,
   ⟨(inp 0 (fun _ => I {loC with maskEnd := some 123456800, lowAt := some 123456799} hiC .released) park), 0, 0, (I {loC with maskEnd := some 123456800, lowAt := some 123456799} hiC .released), 123456800, 123456799, by decide +kernel⟩,
   ⟨(la (fun l => {l with state := .lockout, muzzle := true}) (fl 0 1 0x21 0 safe)), 0, {on := false, fault := false}, by decide +kernel⟩,
   ⟨(inp 7 (fun _ => I hiC hiC .released) <| la (fun l => {l with tps := List.replicate 4 {on := true, fault := false}}) (la (fun l => {l with okA := true, okB := false, copyA := (((List.range 7).foldl (fun r i => r.set (120+8*i) 0#8) floorNew).set 176 1#8).set 177 0x43#8}) park)), 3, {on := true, fault := false}, 7, (I hiC hiC .released), by decide +kernel⟩,
   ⟨park, by decide +kernel⟩⟩

theorem witness_ContactorsSequenceAndOutputsAreTested :
    (∃ (s : State) (n : Fin 3) (x : SafeOut), s.block.latch.outs[n.val]? = some x ∧ s.block.settled = true)
    ∧ (∃ (s : State) (n : Fin 3) (x : SafeOut), s.block.latch.outs[n.val]? = some x ∧ s.block.sfbEn n = true ∧ s.block.latch.seq = .idle ∧ x.cmd = false ∧ s.block.settled = true)
    ∧ (∃ (s : State) (n : Fin 3) (x : SafeOut) (t : Nat), s.block.latch.outs[n.val]? = some x ∧ x.cmd = false ∧ x.wrongAt = some t ∧ s.block.latch.state = .armed ∧ s.block.latch.resetting = none ∧ s.block.settled = true)
    ∧ (∃ (s : State) (n : Fin 3) (x : SafeOut) (t : Nat), s.block.latch.outs[n.val]? = some x ∧ x.cmd = true ∧ x.wrongAt = some t ∧ s.block.settled = true)
    ∧ (∃ (s : State) (src : Src), s.block.latch.state = .armed ∧ s.block.sys.mstate = .park ∧ s.block.doorsClosed = true ∧ (∀ n < 3, s.block.mirrorClosed n = true) ∧ 1 < s.block.latch.outs.length ∧ s.block.settled = true ∧ s.block.admits src 0x0902 true = true)
    ∧ (∃ (s : State) (src : Src), ((s.block.sys.mstate = .park ∨ s.block.sys.mstate = .fault)) ∧ 0 < s.block.latch.outs.length ∧ s.block.settled = true ∧ s.block.admits src 0x0902 true = true)
    ∧ (∃ (s : State), s.block.latch.seq = .so2Closing ∧ s.block.mirrorOpen 1 = true ∧ 2 < s.block.latch.outs.length ∧ s.block.settled = true)
    ∧ (∃ (s : State), s.block.latch.seq = .so2Closing ∧ s.block.mirrorOpen 1 = false ∧ s.block.settled = true)
    ∧ (∃ (s : State), s.block.latch.seq = .precharging ∧ s.block.latch.peaked = true ∧ s.block.settled = true)
    ∧ (∃ (s : State), s.block.latch.seq = .precharging ∧ s.block.latch.peaked = false ∧ s.block.settled = true)
    ∧ (∃ (s : State) (t : Nat), s.block.latch.seq = .precharging ∧ s.block.latch.lowSince = some t ∧ s.block.latch.peaked = true ∧ 0 < s.block.latch.outs.length ∧ t + 100 * msT ≤ s.block.latch.so3At + s.block.latch.preTmax * msT ∧ s.block.settled = true)
    ∧ (∃ (s : State), s.block.latch.seq = .precharging ∧ s.block.settled = true)
    ∧ (∃ (s : State), s.block.latch.seq = .so1Closing ∧ s.block.mirrorOpen 0 = true ∧ 2 < s.block.latch.outs.length ∧ s.block.settled = true)
    ∧ (∃ (s : State), s.block.latch.seq = .so1Closing ∧ s.block.mirrorOpen 0 = false ∧ s.block.settled = true)
    ∧ (∃ (s : State) (src : Src), s.block.latch.seq = .so3Opening ∧ s.block.mirrorClosed 2 = true ∧ s.block.latch.seqSrc = some src ∧ s.block.holdsRequest src = true ∧ s.block.settled = true)
    ∧ (∃ (s : State), s.block.latch.seq = .so3Opening ∧ s.block.mirrorClosed 2 = false ∧ s.block.settled = true)
    ∧ (∃ (s : State) (src : Src), s.block.latch.seq = .opening ∧ s.block.latch.seqSrc = some src ∧ s.block.holdsRequest src = true ∧ 1 < s.block.latch.outs.length ∧ s.block.settled = true)
    ∧ (∃ (s : State) (t : Nat), s.block.latch.powered = true ∧ s.block.latch.testsOff = false ∧ s.block.latch.actAt ≠ some (max s.block.sys.now t) ∧ s.block.settled = true)
    ∧ (∃ (s : State) (t : Nat), s.block.latch.powered = true ∧ s.block.latch.testsOff = false ∧ s.block.latch.actAt = some (max s.block.sys.now t) ∧ s.block.settled = true)
    ∧ (∃ (s : State), s.block.latch.powered = true ∧ s.block.latch.testsOff = false ∧ s.block.latch.actAt ≠ some (max s.block.sys.now (s.block.latch.testAt + 500 * msT)) ∧ s.block.settled = true)
    ∧ (∃ (s : State) (n : Fin 4) (o : SafeOut) (x : Bool × Nat), s.block.latch.outs[n.val]? = some o ∧ o.inTest = some x ∧ s.block.settled = true)
    ∧ (∃ (s : State) (n : Fin 4) (o : SafeOut) (x : Bool × Nat), s.block.latch.outs[n.val]? = some o ∧ o.inTest = some x ∧ s.block.latch.state ≠ .lockout ∧ s.block.latch.resetting = none ∧ s.block.settled = true)
    ∧ (∃ (s : State) (hs : Nat) (ls : Nat), s.block.latch.powered = true ∧ ((∀ n < 4, ∀ o ∈ s.block.latch.outs[n]?, o.inTest = none → (o.hs = true ∨ bitOf n hs = false) ∧ (o.ls = true ∨ bitOf n ls = false))) ∧ s.block.settled = true)
    ∧ (∃ (s : State) (hs : Nat) (ls : Nat) (n : Fin 4) (o : SafeOut), s.block.latch.powered = true ∧ s.block.latch.outs[n.val]? = some o ∧ o.inTest = none ∧ (((o.hs = false ∧ bitOf n hs = true) ∨ (o.ls = false ∧ bitOf n ls = true))) ∧ s.block.latch.state ≠ .lockout ∧ s.block.latch.resetting = none ∧ s.block.settled = true) :=
  ⟨⟨(la (fun l => {l with causes := [(13,2)]}) park), 1, (park.block.latch.outs.getD 1 SafeOut.reset), by decide +kernel⟩,
   ⟨(mir 1 true park), 1, ((mir 1 true park).block.latch.outs.getD 1 SafeOut.reset), by decide +kernel⟩,
   ⟨(out 1 (fun _ => {SafeOut.reset with wrongAt := some 123456700}) park), 1, {SafeOut.reset with wrongAt := some 123456700}, 123456700, by decide +kernel⟩,
   ⟨(out 1 (fun _ => {SafeOut.reset with wrongAt := some 123456700, cmd := true}) park), 1, {SafeOut.reset with wrongAt := some 123456700, cmd := true}, 123456700, by decide +kernel⟩,
   ⟨park, S, by decide +kernel⟩,
   ⟨park, S, by decide +kernel⟩,
   ⟨(sqn .so2Closing (mir 1 false park)), by decide +kernel⟩,
   ⟨(sqn .so2Closing (mir 1 true park)), by decide +kernel⟩,
   ⟨(sqn .precharging park), by decide +kernel⟩,
   ⟨(la (fun l => {l with peaked := false}) (sqn .precharging park)), by decide +kernel⟩,
   ⟨(sqn .precharging park), 123457000, by decide +kernel⟩,
   ⟨(sqn .precharging park), by decide +kernel⟩,
   ⟨(sqn .so1Closing (mir 0 false park)), by decide +kernel⟩,
   ⟨(sqn .so1Closing (mir 0 true park)), by decide +kernel⟩,
   ⟨(sqn .so3Opening (mir 2 true park)), S, by decide +kernel⟩,
   ⟨(sqn .so3Opening (mir 2 false park)), by decide +kernel⟩,
   ⟨(sqn .opening park), S, by decide +kernel⟩,
   ⟨(out 3 (fun o => o.turnOn) park), 123456800, by decide +kernel⟩,
   ⟨(la (fun l => {l with actAt := some 123456800}) park), 123456800, by decide +kernel⟩,
   ⟨(out 3 (fun o => o.turnOn) park), by decide +kernel⟩,
   ⟨(out 3 (fun _ => {SafeOut.reset.turnOn with inTest := some (true, 5), hs := false}) park), 3, {SafeOut.reset.turnOn with inTest := some (true, 5), hs := false}, (true, 5), by decide +kernel⟩,
   ⟨(out 3 (fun _ => {SafeOut.reset.turnOn with inTest := some (true, 5), hs := false}) park), 3, {SafeOut.reset.turnOn with inTest := some (true, 5), hs := false}, (true, 5), by decide +kernel⟩,
   ⟨park, 0, 0, by decide +kernel⟩,
   ⟨(out 1 (fun _ => SafeOut.reset) park), 2, 15, 1, SafeOut.reset, by decide +kernel⟩⟩

theorem witness_SafetyChecksCallForTheirFunctions :
    (∃ (s : State), s.block.engineUp = false ∧ s.block.settled = true)
    ∧ (∃ (s : State) (seen : Nat), s.block.engineUp = true ∧ s.block.cellsTripped = false ∧ (∀ t ∈ s.block.hottest, t ≤ s.block.tCellMax) ∧ (∀ i ∈ s.block.latch.blk.cur.mean?, |i| ≤ 1000 * s.block.iStrMax) ∧ (∀ v ∈ s.block.latch.blk.volt.mean?, v ≤ s.block.vStrMax) ∧ (s.block.isoEn && decide (2 ≤ s.block.latch.isoLow)) = false ∧ s.block.unexecuted seen = [] ∧ s.block.settled = true)
    ∧ (∃ (s : State) (seen : Nat), s.block.engineUp = true ∧ s.block.cellsTripped = true ∧ s.block.unexecuted seen = [] ∧ s.block.latch.state = .armed ∧ s.block.latch.resetting = none ∧ s.block.settled = true)
    ∧ (∃ (s : State) (seen : Nat) (t : Nat), s.block.engineUp = true ∧ s.block.latch.hotAt = some t ∧ t + secT ≤ multipleFrom 200000 s.block.sys.now ∧ (∃ h ∈ s.block.hottest, s.block.tCellMax < h) ∧ s.block.unexecuted seen = [] ∧ s.block.latch.state = .armed ∧ s.block.latch.resetting = none ∧ s.block.settled = true)
    ∧ (∃ (s : State) (seen : Nat), s.block.engineUp = true ∧ s.block.latch.overI = 2 ∧ (∃ i ∈ s.block.latch.blk.cur.mean?, 1000 * s.block.iStrMax < |i|) ∧ s.block.cellsTripped = false ∧ (∀ t ∈ s.block.hottest, t ≤ s.block.tCellMax) ∧ (s.block.isoEn && decide (2 ≤ s.block.latch.isoLow)) = false ∧ s.block.unexecuted seen = [] ∧ s.block.latch.state = .armed ∧ s.block.latch.resetting = none ∧ s.block.latch.spsAt = none ∧ s.block.settled = true)
    ∧ (∃ (s : State) (seen : Nat), s.block.engineUp = true ∧ (∃ v ∈ s.block.latch.blk.volt.mean?, s.block.vStrMax < v) ∧ s.block.cellsTripped = false ∧ (∀ i ∈ s.block.latch.blk.cur.mean?, |i| ≤ 1000 * s.block.iStrMax) ∧ (∀ t ∈ s.block.hottest, t ≤ s.block.tCellMax) ∧ (s.block.isoEn && decide (2 ≤ s.block.latch.isoLow)) = false ∧ s.block.unexecuted seen = [] ∧ s.block.latch.state = .armed ∧ s.block.latch.resetting = none ∧ s.block.settled = true)
    ∧ (∃ (s : State) (seen : Nat), s.block.engineUp = true ∧ s.block.isoEn = true ∧ 2 ≤ s.block.latch.isoLow ∧ s.block.unexecuted seen = [] ∧ s.block.latch.state = .armed ∧ s.block.latch.resetting = none ∧ s.block.settled = true)
    ∧ (∃ (s : State) (seen : Nat) (i : Nat) (rest : List Nat) (t : Nat), s.block.engineUp = true ∧ s.block.unexecuted seen = i :: rest ∧ s.block.latch.unexecAt = some t ∧ t + 200000 ≤ multipleFrom 200000 s.block.sys.now ∧ s.block.siFunc i = 1 ∧ s.block.latch.state = .armed ∧ s.block.latch.resetting = none ∧ s.block.settled = true)
    ∧ (∃ (s : State) (t : Nat), s.block.latch.spsAt = some t ∧ 3 ≤ s.block.latch.overI ∧ s.block.engineUp = true ∧ s.block.latch.state = .acted ∧ s.block.latch.fn = .sps ∧ s.block.latch.resetting = none ∧ s.block.settled = true)
    ∧ (∃ (s : State) (t : Nat), s.block.latch.spsAt = some t ∧ s.block.latch.overI < 3 ∧ s.block.settled = true)
    ∧ (∃ (s : State), s.block.engineUp = true ∧ 7 < s.block.latch.chk.length ∧ s.block.settled = true)
    ∧ (∃ (s : State), s.block.engineUp = true ∧ 7 < s.block.latch.chk.length ∧ s.block.latch.state = .armed ∧ s.block.latch.resetting = none ∧ s.block.settled = true)
    ∧ (∃ (s : State), s.block.latch.powered = true ∧ s.block.latch.answering = true ∧ s.block.settled = true)
    ∧ (∃ (s : State), s.block.latch.powered = true ∧ s.block.latch.answering = false ∧ s.block.latch.goodRun = 999 ∧ s.block.settled = true)
    ∧ (∃ (s : State), s.block.latch.powered = true ∧ s.block.latch.missRun = 0 ∧ s.block.settled = true)
    ∧ (∃ (s : State), s.block.latch.powered = true ∧ 1 ≤ s.block.latch.missRun ∧ s.block.latch.answering = true ∧ s.block.latch.state = .armed ∧ s.block.latch.resetting = none ∧ s.block.settled = true)
    ∧ (∃ (s : State), s.block.latch.powered = true ∧ s.block.latch.state = .armed ∧ s.block.latch.resetting = none ∧ s.block.settled = true)
    ∧ (∃ (s : State) (t : Nat), s.block.latch.restartAt = some t ∧ s.block.settled = true)
    ∧ (∃ (s : State), s.block.isoEn = true ∧ s.block.latch.isoFirst = none ∧ s.block.settled = true)
    ∧ (∃ (s : State) (p : Int × Int), s.block.isoEn = true ∧ s.block.latch.isoFirst = some p ∧ s.block.settled = true)
    ∧ (∃ (s : State), s.block.isoEn = false ∧ s.block.settled = true) :=
  ⟨⟨(la (fun l => {l with lockstep := false}) park), by decide +kernel⟩,
   ⟨(good park), 0, by decide +kernel⟩,
   ⟨(la (fun l => {l with blk := {l.blk with cells := [{sum := 9000000000000, n := 1}]}}) <| good park), 0, by decide +kernel⟩,
   ⟨(la (fun l => {l with hotAt := some 3}) <| up (fun b => b.onSense fun x => {x with therms := modAt x.therms 0 fun t => {t with temp := some 9500}}) <| good park), 0, 3, by decide +kernel⟩,
   ⟨(la (fun l => {l with overI := 2, blk := {l.blk with cur := {sum := -9000000000000, n := 1}}}) <| good park), 0, by decide +kernel⟩,
   ⟨(la (fun l => {l with blk := {l.blk with volt := {sum := 9000000000000, n := 1}}}) <| good park), 0, by decide +kernel⟩,
   ⟨(flb 110 1 <| la (fun l => {l with isoLow := 2}) <| good park), 0, by decide +kernel⟩,
   ⟨(inp 0 (fun x => {x with st := .released}) <| la (fun l => {l with unexecAt := some 123200000}) <| good park), 1, 0, [], 123200000, by decide +kernel⟩,
   ⟨(la (fun l => {l with state := .acted, muzzle := true, fn := .sps, spsAt := some 123456000, overI := 3}) <| good off), 123456000, by decide +kernel⟩,
   ⟨(la (fun l => {l with spsAt := some 123456000, overI := 0}) <| good park), 123456000, by decide +kernel⟩,
   ⟨(la (fun l => {l with causes := [(5,7)]}) <| good park), by decide +kernel⟩,
   ⟨(good park), by decide +kernel⟩,
   ⟨(la (fun l => {l with missRun := 1}) park), by decide +kernel⟩,
   ⟨(la (fun l => {l with answering := false, goodRun := 999, causes := [(9,0)]}) park), by decide +kernel⟩,
   ⟨park, by decide +kernel⟩,
   ⟨(la (fun l => {l with missRun := 1}) park), by decide +kernel⟩,
   ⟨park, by decide +kernel⟩,
   ⟨(la (fun l => {l with restartAt := some 100, lockstep := false, causes := [(8,0)]}) park), 100, by decide +kernel⟩,
   ⟨(flb 110 1 park), by decide +kernel⟩,
   ⟨(la (fun l => {l with isoFirst := some (3,4)}) (flb 110 1 park)), (3,4), by decide +kernel⟩,
   ⟨(flb 110 0 park), by decide +kernel⟩⟩

theorem witness_SafetyResetsAreGrantedOrDenied :
    (∃ (s : State) (src : Src) (n : Nat), s.block.sys.mstate = .safe ∧ s.block.rstMode = 0 ∧ s.block.firstFailing true = some n ∧ s.block.settled = true ∧ s.block.admits src 0x0901 true = true)
    ∧ (∃ (s : State) (src : Src), s.block.sys.mstate = .safe ∧ s.block.rstMode = 1 ∧ s.block.firstFailing true = none ∧ s.block.settled = true ∧ s.block.admits src 0x0901 true = true)
    ∧ (∃ (s : State) (src : Src), s.block.sys.mstate = .safe ∧ ((s.block.rstMode = 0 ∨ (s.block.rstMode = 2 ∧ ∃ t ∈ s.block.latch.srstPress, s.block.sys.now ≤ t + 10 * secT))) ∧ s.block.firstFailing true = none ∧ s.block.bark.drive = true ∧ s.block.settled = true ∧ s.block.admits src 0x0901 true = true)
    ∧ (∃ (s : State) (src : Src), s.block.sys.mstate = .safe ∧ ((s.block.rstMode = 0 ∨ (s.block.rstMode = 2 ∧ ∃ t ∈ s.block.latch.srstPress, s.block.sys.now ≤ t + 10 * secT))) ∧ s.block.firstFailing true = none ∧ s.block.bark.drive = false ∧ 3 < s.block.latch.outs.length ∧ s.block.settled = true ∧ s.block.admits src 0x0901 true = true)
    ∧ (∃ (s : State) (t : Nat), s.block.latch.resetting = some (none, t) ∧ s.block.settled = true)
    ∧ (∃ (s : State) (src : Src) (t : Nat), s.block.latch.resetting = some (some src, t) ∧ s.block.holdsRequest src = true ∧ s.block.settled = true)
    ∧ (∃ (s : State), s.block.bark.drive = false ∧ s.block.latch.resetting = none ∧ s.block.settled = true)
    ∧ (∃ (s : State) (src : Src) (t : Nat), s.block.bark.drive = false ∧ s.block.latch.resetting = some (some src, t) ∧ s.block.holdsRequest src = true ∧ 3 < s.block.latch.outs.length ∧ s.block.settled = true)
    ∧ (∃ (s : State), s.block.latch.powered = true ∧ s.block.latch.srst = false ∧ s.block.settled = true)
    ∧ (∃ (s : State), s.block.latch.srst = true ∧ s.block.latch.srstIgnored = false ∧ s.block.settled = true)
    ∧ (∃ (s : State) (t : Nat), s.block.latch.srst = true ∧ ((s.block.latch.srstIgnored = true ∨ max s.block.sys.now t - s.block.latch.srstAt < secT / 5 ∨ 5 * secT < max s.block.sys.now t - s.block.latch.srstAt ∨ s.block.rstMode = 0)) ∧ s.block.settled = true)
    ∧ (∃ (s : State) (t : Nat), s.block.latch.srst = true ∧ s.block.latch.srstIgnored = false ∧ secT / 5 ≤ max s.block.sys.now t - s.block.latch.srstAt ∧ max s.block.sys.now t - s.block.latch.srstAt ≤ 5 * secT ∧ s.block.rstMode = 2 ∧ s.block.settled = true)
    ∧ (∃ (s : State) (t : Nat) (n : Nat), s.block.latch.srst = true ∧ s.block.latch.srstIgnored = false ∧ secT / 5 ≤ max s.block.sys.now t - s.block.latch.srstAt ∧ max s.block.sys.now t - s.block.latch.srstAt ≤ 5 * secT ∧ s.block.rstMode = 1 ∧ s.block.firstFailing true = some n ∧ s.block.settled = true)
    ∧ (∃ (s : State) (t : Nat), s.block.latch.srst = true ∧ s.block.latch.srstIgnored = false ∧ secT / 5 ≤ max s.block.sys.now t - s.block.latch.srstAt ∧ max s.block.sys.now t - s.block.latch.srstAt ≤ 5 * secT ∧ s.block.rstMode = 1 ∧ s.block.firstFailing true = none ∧ s.block.bark.drive = false ∧ 3 < s.block.latch.outs.length ∧ s.block.settled = true) :=
  ⟨⟨safe, S, 1, by decide +kernel⟩,
   ⟨(flb 111 1 (rec5 park)), S, by decide +kernel⟩,
   ⟨(bk (fun k => {k with drive := true, line := false}) <| flb 111 0 (rec5 park)), S, by decide +kernel⟩,
   ⟨(flb 111 0 (rec5 park)), S, by decide +kernel⟩,
   ⟨(la (fun l => {l with resetting := some (none, 123456700)}) park), 123456700, by decide +kernel⟩,
   ⟨(la (fun l => {l with resetting := some (some S, 123456700)}) (held park)), S, 123456700, by decide +kernel⟩,
   ⟨(lines (la (fun l => {l with causes := [(4,0)], resetting := none}) park)), by decide +kernel⟩,
   ⟨(la (fun l => {l with resetting := some (some S, 123456700)}) (held (rec5 park))), S, 123456700, by decide +kernel⟩,
   ⟨park, by decide +kernel⟩,
   ⟨(la (fun l => {l with srst := true, srstIgnored := false, srstAt := 5}) park), by decide +kernel⟩,
   ⟨(la (fun l => {l with srst := true, srstIgnored := false, srstAt := 123456000}) park), 123456800, by decide +kernel⟩,
   ⟨(flb 111 2 <| la (fun l => {l with srst := true, srstIgnored := false, srstAt := 100}) park), 123456800, by decide +kernel⟩,
   ⟨(flb 111 1 <| la (fun l => {l with srst := true, srstIgnored := false, srstAt := 100}) park), 123456800, 1, by decide +kernel⟩,
   ⟨(flb 111 1 <| la (fun l => {l with srst := true, srstIgnored := false, srstAt := 100}) (rec5 park)), 123456800, by decide +kernel⟩⟩

theorem witness_AuthorityCommandsCheckAndLog :
    (∃ (s : State) (src : Src), s.block.latch.state = .armed ∧ s.block.sys.mstate = .park ∧ s.block.contactorOn = false ∧ s.block.windowOpen src = true ∧ s.block.latch.resetting = none ∧ s.block.settled = true ∧ s.block.admits src 0x090A true = true)
    ∧ (∃ (s : State) (src : Src) (opt : Nat), opt ≤ 1 ∧ ((s.block.latch.state = .acted ∨ s.block.latch.state = .recovery)) ∧ s.block.windowOpen src = true ∧ s.block.settled = true ∧ s.block.admits src 0x090A true = true)
    ∧ (∃ (s : State) (src : Src) (opt : Nat), opt ≤ 1 ∧ ((s.block.latch.state = .acted ∨ s.block.latch.state = .recovery)) ∧ s.block.windowOpen src = false ∧ s.block.settled = true ∧ s.block.admits src 0x090A true = true)
    ∧ (∃ (s : State) (src : Src) (opt : Nat) (p : ProofTest), opt ≤ 1 ∧ s.block.latch.state = .test ∧ s.block.latch.proof = some p ∧ p.comparators = true ∧ s.block.settled = true ∧ s.block.admits src 0x090A true = true)
    ∧ (∃ (s : State) (p : ProofTest), s.block.latch.state = .test ∧ s.block.latch.proof = some p ∧ p.comparators = false ∧ s.block.settled = true)
    ∧ (∃ (s : State) (src : Src), s.block.latch.pwSet = true ∧ s.block.locked = false ∧ s.block.settled = true ∧ s.block.admits src 0x0904 true = true)
    ∧ (∃ (s : State) (src : Src), s.block.latch.pwSet = true ∧ s.block.locked = true ∧ s.block.settled = true ∧ s.block.admits src 0x0904 true = true)
    ∧ (∃ (s : State) (src : Src) (n : List Byte) (t : Nat), s.block.latch.pwSet = true ∧ s.block.locked = false ∧ s.block.latch.nonces = [(src.index, n, t)] ∧ s.block.sys.now < t + 60 * secT ∧ s.block.settled = true ∧ s.block.admits src 0x0905 true = true)
    ∧ (∃ (s : State) (src : Src) (n : List Byte) (t : Nat) (mac : List Byte), s.block.latch.pwSet = true ∧ s.block.locked = false ∧ s.block.latch.nonces = [(src.index, n, t)] ∧ s.block.sys.now < t + 60 * secT ∧ mac.length = 32 ∧ hmac256 s.block.latch.key (n ++ leBytes 1 src.index) ≠ mac ∧ s.block.latch.fails < 4 ∧ s.block.settled = true ∧ s.block.admits src 0x0905 true = true)
    ∧ (∃ (s : State) (src : Src) (n : List Byte) (t : Nat) (mac : List Byte), s.block.latch.pwSet = true ∧ s.block.locked = false ∧ s.block.latch.nonces = [(src.index, n, t)] ∧ s.block.sys.now < t + 60 * secT ∧ mac.length = 32 ∧ hmac256 s.block.latch.key (n ++ leBytes 1 src.index) ≠ mac ∧ s.block.latch.fails = 4 ∧ s.block.settled = true ∧ s.block.admits src 0x0905 true = true)
    ∧ (∃ (s : State) (src : Src) (mac : List Byte), s.block.latch.pwSet = true ∧ s.block.locked = false ∧ s.block.latch.nonces = [] ∧ mac.length = 32 ∧ s.block.settled = true ∧ s.block.admits src 0x0905 true = true)
    ∧ (∃ (s : State) (src : Src) (mac : List Byte), s.block.latch.pwSet = true ∧ s.block.locked = true ∧ mac.length = 32 ∧ s.block.settled = true ∧ s.block.admits src 0x0905 true = true)
    ∧ (∃ (s : State) (i : Fin 4) (t : Nat), s.block.latch.windows = [(i.val, t)] ∧ s.block.settled = true)
    ∧ (∃ (s : State) (t : Nat), s.block.latch.lockEnd = some t ∧ s.block.settled = true)
    ∧ (∃ (s : State) (src : Src) (chars : List Byte), 8 ≤ chars.length ∧ chars.length ≤ 32 ∧ (∀ c ∈ chars, 0x20 ≤ c.toNat ∧ c.toNat ≤ 0x7E) ∧ s.block.latch.pwSet = false ∧ s.block.sys.mstate = .park ∧ s.block.latch.srst = true ∧ s.block.settled = true ∧ s.block.admits src 0x0906 true = true)
    ∧ (∃ (s : State) (src : Src) (chars : List Byte), 8 ≤ chars.length ∧ chars.length ≤ 32 ∧ (∀ c ∈ chars, 0x20 ≤ c.toNat ∧ c.toNat ≤ 0x7E) ∧ s.block.latch.pwSet = true ∧ s.block.windowOpen src = false ∧ s.block.settled = true ∧ s.block.admits src 0x0906 true = true)
    ∧ (∃ (s : State) (src : Src) (r : List Byte), r.length = 256 ∧ ((s.block.latch.state = .armed ∧ s.block.sys.mstate = .park) ∨ s.block.latch.state = .acted ∨ s.block.latch.state = .recovery) ∧ s.block.windowOpen src = false ∧ s.block.settled = true ∧ s.block.admits src 0x0907 true = true)
    ∧ (∃ (s : State) (src : Src) (r : List Byte) (k : Nat) (st : Status), r.length = 256 ∧ ((s.block.latch.state = .armed ∧ s.block.sys.mstate = .park) ∨ s.block.latch.state = .acted ∨ s.block.latch.state = .recovery) ∧ s.block.windowOpen src = true ∧ s.block.floorCheck r = some (k, st) ∧ s.block.settled = true ∧ s.block.admits src 0x0907 true = true)
    ∧ (∃ (s : State) (src : Src) (r : List Byte), r.length = 256 ∧ ((s.block.latch.state = .armed ∧ s.block.sys.mstate = .park) ∨ s.block.latch.state = .acted ∨ s.block.latch.state = .recovery) ∧ s.block.windowOpen src = true ∧ s.block.floorCheck r = none ∧ floorGen s.block.floor < 4294967295 ∧ s.block.settled = true ∧ s.block.admits src 0x0907 true = true)
    ∧ (∃ (s : State) (src : Src) (r : List Byte), r.length = 256 ∧ ((s.block.latch.state = .armed ∧ s.block.sys.mstate = .park) ∨ s.block.latch.state = .acted ∨ s.block.latch.state = .recovery) ∧ s.block.windowOpen src = true ∧ s.block.floorCheck r = none ∧ s.block.settled = true ∧ s.block.admits src 0x0907 true = true)
    ∧ (∃ (s : State) (src : Src) (r : List Byte), r.length = 256 ∧ ((s.block.latch.state = .armed ∧ s.block.sys.mstate = .park) ∨ s.block.latch.state = .acted ∨ s.block.latch.state = .recovery) ∧ s.block.windowOpen src = true ∧ s.block.floorCheck r = none ∧ s.block.settled = true ∧ s.block.admits src 0x0907 true = true)
    ∧ (∃ (s : State) (src : Src), s.block.settled = true ∧ s.block.admits src 0x0908 false = true)
    ∧ (∃ (s : State) (src : Src) (count : Nat), 1 ≤ count ∧ count ≤ 16 ∧ s.block.settled = true ∧ s.block.admits src 0x0909 false = true)
    ∧ (∃ (s : State) (src : Src) (i : Nat) (t : Nat), 100 ≤ i ∧ i ≤ 20000 ∧ 500 ≤ t ∧ t ≤ 30000 ∧ ((s.block.sys.mstate = .park ∨ s.block.sys.mstate = .safe)) ∧ s.block.settled = true ∧ s.block.admits src 0x0903 true = true) :=
  ⟨⟨(au park), S, by decide +kernel⟩,
   ⟨(au safe), S, 1, by decide +kernel⟩,
   ⟨(la (fun l => {l with windows := []}) safe), S, 1, by decide +kernel⟩,
   ⟨(la (fun l => {l with state := .test, muzzle := true, proof := some {begun := 5, comparators := true, passIn := 0, failIn := 0, compPass := 0, session := 1}}) safe), S, 0, {begun := 5, comparators := true, passIn := 0, failIn := 0, compPass := 0, session := 1}, by decide +kernel⟩,
   ⟨(la (fun l => {l with state := .test, muzzle := true, proof := some {begun := 5, comparators := false, passIn := 0, failIn := 0, compPass := 0, session := 1}}) off), {begun := 5, comparators := false, passIn := 0, failIn := 0, compPass := 0, session := 1}, by decide +kernel⟩,
   ⟨(au park), S, by decide +kernel⟩,
   ⟨(la (fun l => {l with lockEnd := some 999999999}) (au park)), S, by decide +kernel⟩,
   ⟨(la (fun l => {l with nonces := [(0, [1#8,2#8], 123456000)]}) (au park)), S, [1#8,2#8], 123456000, by decide +kernel⟩,
   ⟨(la (fun l => {l with nonces := [(0, [1#8,2#8], 123456000)]}) (au park)), S, [1#8,2#8], 123456000, (List.replicate 32 0#8), by decide +kernel⟩,
   ⟨(la (fun l => {l with fails := 4, nonces := [(0, [1#8,2#8], 123456000)]}) (au park)), S, [1#8,2#8], 123456000, (List.replicate 32 0#8), by decide +kernel⟩,
   ⟨(au park), S, (List.replicate 32 0#8), by decide +kernel⟩,
   ⟨(la (fun l => {l with lockEnd := some 999999999}) (au park)), S, (List.replicate 32 0#8), by decide +kernel⟩,
   ⟨(au park), 0, 123456000, by decide +kernel⟩,
   ⟨(la (fun l => {l with lockEnd := some 999999999}) (au park)), 999999999, by decide +kernel⟩,
   ⟨(la (fun l => {l with pwSet := false, srst := true}) park), S, chars, by decide +kernel⟩,
   ⟨(la (fun l => {l with pwSet := true, windows := []}) park), S, chars, by decide +kernel⟩,
   ⟨(la (fun l => {l with windows := []}) park), S, (List.replicate 256 0#8), by decide +kernel⟩,
   ⟨(au park), S, (List.replicate 256 0#8), 1, .badParam, by decide +kernel⟩,
   ⟨(au park), S, (newFloor park), by decide +kernel⟩,
   ⟨(au park), S, (newFloor park), by decide +kernel⟩,
   ⟨(au park), S, (newFloor park), by decide +kernel⟩,
   ⟨park, S, by decide +kernel⟩,
   ⟨park, S, 16, by decide +kernel⟩,
   ⟨park, S, 100, 500, by decide +kernel⟩⟩

end W09

namespace W10
def ce (q : Nat) : CacheEntry := { seq := q, opcode := 0x0103, params := [], accepted := 5, mtu := 600, running := false, started := true, status := 0, data := [1#8,2#8] }
def pk (l : List Nat) : List Byte := let b := l.map (BitVec.ofNat 8); b ++ leBytes 4 (crc32c b)

theorem witness_SessionCommandsAnswer :
    (∃ (s : State) (src : Src), s.block.settled = true ∧ s.block.admits src 0x0103 false = true)
    ∧ (∃ (s : State) (i : Nat) (seq : Nat), s.block.ix.owner = none ∧ s.block.settled = true ∧ s.block.admits (.session i seq) 0x0104 false = true)
    ∧ (∃ (s : State) (i : Nat) (j : Nat) (seq : Nat), s.block.ix.owner = some j ∧ s.block.settled = true ∧ s.block.admits (.session i seq) 0x0104 false = true)
    ∧ (∃ (s : State) (i : Nat) (seq : Nat), s.block.settled = true ∧ s.block.admits (.session i seq) 0x0105 true = true)
    ∧ (∃ (s : State) (i : Nat) (seq : Nat) (target : Nat), target < 4 ∧ target ≠ i ∧ (s.block.session target).isOpen = true ∧ s.block.settled = true ∧ s.block.admits (.session i seq) 0x0105 true = true)
    ∧ (∃ (s : State) (i : Nat) (seq : Nat) (mtu : Nat), 576 ≤ mtu ∧ mtu ≤ 9000 ∧ s.block.settled = true ∧ s.block.admits (.session i seq) 0x0106 false = true)
    ∧ (∃ (s : State) (i : Nat) (seq : Nat) (k : Nat) (mask : Nat) (e : CacheEntry), s.block.resendable i k mask = some e ∧ (s.block.session i).cache.length < 8 ∧ s.block.settled = true ∧ s.block.admits (.session i seq) 0x0107 false = true) :=
  ⟨⟨park, S, by decide +kernel⟩,
   ⟨(up (fun b => b.onIx fun x => { x with owner := none }) park), 1, 9, by decide +kernel⟩,
   ⟨park, 1, 0, 9, by decide +kernel⟩,
   ⟨park, 0, 9, by decide +kernel⟩,
   ⟨park, 0, 9, 1, by decide +kernel⟩,
   ⟨park, 0, 9, 576, by decide +kernel⟩,
   ⟨(up (fun b => b.onIx fun x => { x with sessions := [{sess 0 with cache := [ce 3]}] ++ x.sessions.drop 1 }) park), 0, 9, 3, 1, (ce 3), by decide +kernel⟩⟩

theorem witness_SessionsOpenCloseAndDatagramsAreJudged :
    (∃ (s : State) (timeout : Nat) (mtu : Nat) (i : Nat), s.block.sys.mstate ≠ .off ∧ s.block.n0Up = true ∧ s.block.upd.pauseAt = none ∧ timeout ≤ 60 ∧ 576 ≤ mtu ∧ mtu ≤ 9000 ∧ s.block.ix.sessions.length = 4 ∧ ((List.range 4).find? fun j => !(s.block.session j).isOpen) = some i ∧ s.block.settled = true)
    ∧ (∃ (s : State) (timeout : Nat) (mtu : Nat), s.block.sys.mstate ≠ .off ∧ s.block.n0Up = true ∧ s.block.upd.pauseAt = none ∧ timeout ≤ 60 ∧ 576 ≤ mtu ∧ mtu ≤ 9000 ∧ ((List.range 4).all fun j => (s.block.session j).isOpen) = true ∧ s.block.settled = true)
    ∧ (∃ (s : State) (i : Nat) (seq : Nat), s.block.settled = true ∧ s.block.admits (.session i seq) 0x0102 false = true)
    ∧ (∃ (s : State) (i : Fin 4), (s.block.session i).isOpen = true ∧ s.block.settled = true)
    ∧ (∃ (s : State) (i : Fin 4) (seq : Nat) (e : CacheEntry), s.block.entry? i seq = some e ∧ e.running = true ∧ s.block.upd.pauseAt = none ∧ s.block.settled = true)
    ∧ (∃ (s : State) (p : List Byte), s.block.sys.mstate ≠ .off ∧ s.block.n0Up = true ∧ s.block.upd.pauseAt = none ∧ ((wellFramed p = false ∨ bitOf 0 (leField p 1 1) = true ∨ bitOf 1 (leField p 1 1) = true)) ∧ s.block.settled = true)
    ∧ (∃ (s : State) (p : List Byte), s.block.sys.mstate ≠ .off ∧ s.block.n0Up = true ∧ s.block.upd.pauseAt = none ∧ wellFramed p = true ∧ bitOf 0 (leField p 1 1) = false ∧ bitOf 1 (leField p 1 1) = false ∧ leField p 0 1 ≠ 1 ∧ s.block.settled = true)
    ∧ (∃ (s : State) (ip : Nat) (port : Nat) (p : List Byte), s.block.sys.mstate ≠ .off ∧ s.block.n0Up = true ∧ s.block.upd.pauseAt = none ∧ wellFramed p = true ∧ bitOf 0 (leField p 1 1) = false ∧ bitOf 1 (leField p 1 1) = false ∧ leField p 0 1 = 1 ∧ ((plainHeader p = false ∨ (¬(leField p 2 1 = 0xFF ∧ leField p 8 2 = 0x0101) ∧ s.block.fromSession ip port p = false))) ∧ s.block.settled = true)
    ∧ (∃ (s : State) (ip : Nat) (port : Nat) (p : List Byte), s.block.settled = true ∧ s.block.sys.mstate ≠ .off ∧ s.block.n0Up = true ∧ s.block.paused = false ∧ wellFramed p = true ∧ bitOf 0 (leField p 1 1) = false ∧ bitOf 1 (leField p 1 1) = false ∧ leField p 0 1 = 1 ∧ plainHeader p = true ∧ leField p 2 1 ≠ 0xFF ∧ s.block.fromSession ip port p = true ∧ leField p 8 2 = 0x0103 ∧ p.length = 20 ∧ s.block.entry? (leField p 2 1) (leField p 6 2) = none ∧ s.block.sessionFull (.session (leField p 2 1) (leField p 6 2)) = false) :=
  ⟨⟨park, 0, 9000, 2, by decide +kernel⟩,
   ⟨(up (fun b => b.onIx fun x => { x with sessions := [sess 0, sess 1, sess 2, sess 3]}) park), 60, 576, by decide +kernel⟩,
   ⟨park, 0, 9, by decide +kernel⟩,
   ⟨park, 0, by decide +kernel⟩,
   ⟨(up (fun b => b.onIx fun x => { x with sessions := [{sess 0 with cache := [{ce 3 with running := true}]}] ++ x.sessions.drop 1 }) park), 0, 3, {ce 3 with running := true}, by decide +kernel⟩,
   ⟨park, [1#8], by decide +kernel⟩,
   ⟨park, (pk [2,0,0,0,1,0,5,0,3,1,0,0,0,0,7,0]), by decide +kernel⟩,
   ⟨park, 1, 2, (pk [1,0,0,0,1,0,5,0,3,1,0,0,0,0,7,0]), by decide +kernel⟩,
   ⟨park, 10, 20, (pk [1,0,0,0,1,0,5,0,3,1,0,0,0,0,7,0]), by decide +kernel⟩⟩

theorem witness_StateCommandsChangeTheModuleState :
    (∃ (s : State) (src : Src), s.block.runOk = true ∧ s.block.settled = true ∧ s.block.admits src 0x0110 true = true)
    ∧ (∃ (s : State) (src : Src), s.block.sys.mstate = .park ∧ s.block.settled = true ∧ s.block.admits src 0x0111 true = true)
    ∧ (∃ (s : State) (src : Src), s.block.sys.mstate = .run ∧ s.block.cnv.st ∈ [CState.prebias, .ramp, .settle, .regulate, .hiccup] ∧ s.block.settled = true ∧ s.block.admits src 0x0111 true = true)
    ∧ (∃ (s : State) (src : Src), s.block.sys.mstate = .run ∧ s.block.cnv.st = .precheck ∧ s.block.settled = true ∧ s.block.admits src 0x0111 true = true)
    ∧ (∃ (s : State) (src : Src), s.block.sys.mstate = .run ∧ ((s.block.cnv.st = .muzzled ∨ s.block.cnv.st = .latched)) ∧ s.block.settled = true ∧ s.block.admits src 0x0111 true = true)
    ∧ (∃ (s : State) (src : Src), s.block.sys.mstate = .park ∧ s.block.cnv.st ≠ .latched ∧ s.block.settled = true ∧ s.block.admits src 0x0112 true = true)
    ∧ (∃ (s : State) (src : Src), s.block.sys.mstate = .fault ∧ s.block.presentCauses = [] ∧ s.block.sys.faultAt ≠ some s.block.cycle ∧ s.block.settled = true ∧ s.block.admits src 0x0113 true = true)
    ∧ (∃ (s : State) (src : Src), s.block.sys.mstate = .fault ∧ s.block.presentCauses ≠ [] ∧ s.block.settled = true ∧ s.block.admits src 0x0113 true = true)
    ∧ (∃ (s : State) (src : Src), s.block.sys.mstate = .fault ∧ s.block.presentCauses = [] ∧ s.block.sys.faultAt = some s.block.cycle ∧ s.block.settled = true ∧ s.block.admits src 0x0113 true = true)
    ∧ (∃ (s : State) (src : Src), s.block.sys.mstate = .hibernate ∧ s.block.settled = true ∧ s.block.admits src 0x0114 false = true) :=
  ⟨⟨park, S, by decide +kernel⟩,
   ⟨park, S, by decide +kernel⟩,
   ⟨runS, S, by decide +kernel⟩,
   ⟨(up (fun b => b.onCnv fun c => {c with st := .precheck}) runS), S, by decide +kernel⟩,
   ⟨(up (fun b => b.onCnv fun c => {c with st := .muzzled}) runS), S, by decide +kernel⟩,
   ⟨park, S, by decide +kernel⟩,
   ⟨fault, S, by decide +kernel⟩,
   ⟨(up (fun b => b.onSys fun y => {y with faultCauses := [(.currentBothLost, 0)]}) (up (fun b => b.onSense fun y => {y with bothLost := true}) fault)), S, by decide +kernel⟩,
   ⟨(up (fun b => b.onSys fun y => {y with faultAt := some (y.now/10000)}) fault), S, by decide +kernel⟩,
   ⟨hib, S, by decide +kernel⟩⟩

theorem witness_RefusedAtTheFirstFailingCheck :
    (∃ (i : Instr) (s : State) (src : Src) (rule : Block → HostRule), hostRule? i = some (src, rule) ∧ s.block.settled = true ∧ s.block.srcOpen src = true ∧ s.block.acceptedEarlier src (rule s.block).opcode = false ∧ s.block.unseen src = true ∧ s.block.sessionFull src = true)
    ∧ (∃ (i : Instr) (s : State) (src : Src) (rule : Block → HostRule), hostRule? i = some (src, rule) ∧ s.block.settled = true ∧ s.block.srcOpen src = true ∧ s.block.acceptedEarlier src (rule s.block).opcode = false ∧ s.block.unseen src = true ∧ s.block.sessionFull src = false ∧ ∃ st, checkRule src (rule s.block) s.block = some st)
    ∧ (∃ (i : Instr) (s : State) (src : Src) (rule : Block → HostRule), hostRule? i = some (src, rule) ∧ s.block.settled = true ∧ s.block.srcOpen src = true ∧ s.block.acceptedEarlier src (rule s.block).opcode = false ∧ s.block.unseen src = true ∧ (rule s.block).owner = true ∧ s.block.srcGranted src (rule s.block).opcode = true ∧ s.block.owns src = false)
    ∧ (∃ (i : Instr) (s : State) (src : Src) (rule : Block → HostRule), hostRule? i = some (src, rule) ∧ s.block.settled = true ∧ s.block.srcOpen src = true ∧ s.block.acceptedEarlier src (rule s.block).opcode = false ∧ s.block.unseen src = true ∧ (rule s.block).owner = true ∧ s.block.srcGranted src (rule s.block).opcode = true ∧ s.block.owns src = true ∧ s.block.runningOpcodes.contains (rule s.block).opcode = true) :=
  ⟨⟨.sysHibernate (S), up (fun b => b.onIx fun x => {x with sessions := [{sess 0 with cache := List.replicate 8 {seq := 4, opcode := 0x0111, params := [], accepted := 5, mtu := 1500, running := true, started := true, status := 0, data := []}}, sess 1, Session.closed, Session.closed]}) park, S, ruleSysHibernate (S), rfl, by decide +kernel⟩,
   ⟨.sysHibernate (S), runS, S, ruleSysHibernate (S), rfl, by decide +kernel, by decide +kernel, by decide +kernel, by decide +kernel, by decide +kernel, .badState, by decide +kernel⟩,
   ⟨.sysHibernate (SN), park, SN, ruleSysHibernate (SN), rfl, by decide +kernel⟩,
   ⟨.sysHibernate (S), up (fun b => acceptRequest (.session 0 4) 0x0112 [] true b) park, S, ruleSysHibernate (S), rfl, by decide +kernel⟩⟩

end W10

namespace W11
def im (f : ImgPart → ImgPart) (s : State) := up (fun b => b.onImg f) s

theorem witness_BanksSwapAtTheBoundaryUnlessHeld :
    (∃ (s : State), s.block.sys.mstate ≠ .off ∧ s.block.img.hold = none ∧ s.block.settled = true)
    ∧ (∃ (s : State) (t : Nat), s.block.sys.mstate ≠ .off ∧ s.block.img.hold = some t ∧ s.block.settled = true)
    ∧ (∃ (s : State), s.block.settled = true)
    ∧ (∃ (s : State) (due : Nat), s.block.img.deferred = some due ∧ s.block.img.hold = none ∧ s.block.batchOpen = false ∧ s.block.sys.mstate ≠ .off ∧ s.block.settled = true)
    ∧ (∃ (s : State), s.block.img.tlatch = false ∧ s.block.portReady = true ∧ s.block.img.deferred = none ∧ s.block.settled = true)
    ∧ (∃ (s : State) (d : Nat), s.block.img.tlatch = false ∧ s.block.img.deferred = some d ∧ s.block.settled = true)
    ∧ (∃ (s : State), s.block.settled = true)
    ∧ (∃ (s : State) (t : Nat), s.block.img.hold = some t ∧ s.block.img.holdLong = false ∧ s.block.settled = true) :=
  ⟨⟨park, by decide +kernel⟩,
   ⟨(im (fun g => {g with hold := some 5}) park), 5, by decide +kernel⟩,
   ⟨(im (fun g => {g with copying := [0x18,0x1000], bank0 := [(0x18, List.replicate 15 3#32)], bank1 := [(0x1000, List.replicate 15 9#32)]}) park), by decide +kernel⟩,
   ⟨(im (fun g => {g with deferred := some 123400000, tlatch := true}) park), 123400000, by decide +kernel⟩,
   ⟨park, by decide +kernel⟩,
   ⟨(im (fun g => {g with deferred := some 5}) park), 5, by decide +kernel⟩,
   ⟨(im (fun g => {g with tlatch := true, tlack := true, hold := some 7}) park), by decide +kernel⟩,
   ⟨(im (fun g => {g with hold := some 120000000}) park), 120000000, by decide +kernel⟩⟩

theorem witness_TilesAreStoredWholeAndReadFromTheFrontBank :
    (∃ (s : State) (t : Fin 16384), policyBase ≤ t.val ∧ s.block.settled = true)
    ∧ (∃ (s : State) (t : Fin 16384), t.val ≠ 0 ∧ t.val ≠ 9 ∧ t.val < policyBase ∧ s.block.settled = true)
    ∧ (∃ (s : State), s.block.settled = true)
    ∧ (∃ (s : State) (t : Fin 16384), t.val ≠ 0 ∧ t.val < policyBase ∧ s.block.settled = true)
    ∧ (∃ (s : State), s.block.settled = true)
    ∧ (∃ (s : State), s.block.settled = true)
    ∧ (∃ (s : State), s.block.settled = true)
    ∧ (∃ (s : State), s.block.settled = true)
    ∧ (∃ (s : State) (t : Fin 16384) (f : TileFault) (t0 : Nat), s.block.img.fault? t = some f ∧ f.firstFail = some t0 ∧ f.stuck = false ∧ s.block.settled = true)
    ∧ (∃ (s : State) (src : Src) (first : Nat) (count : Nat), 1 ≤ count ∧ count ≤ 128 ∧ first + count ≤ 16384 ∧ s.block.settled = true ∧ s.block.admits src 0x0201 false = true)
    ∧ (∃ (s : State) (src : Src) (tiles : List Nat), 1 ≤ tiles.length ∧ tiles.length ≤ 128 ∧ (tiles.all fun t => decide (t < 16384)) = true ∧ s.block.settled = true ∧ s.block.admits src 0x0202 false = true)
    ∧ (∃ (s : State) (src : Src) (tile : Nat), tile < 16384 ∧ s.block.settled = true ∧ s.block.admits src 0x0202 false = true) :=
  ⟨⟨park, 0x1000, by decide +kernel⟩,
   ⟨park, 0x5, by decide +kernel⟩,
   ⟨park, by decide +kernel⟩,
   ⟨park, 0x100, by decide +kernel⟩,
   ⟨park, by decide +kernel⟩,
   ⟨park, by decide +kernel⟩,
   ⟨park, by decide +kernel⟩,
   ⟨(im (fun g => {g with taken := [(3,5,0,[]),(3,6,0,[]),(3,5,123456000,[])]}) park), by decide +kernel⟩,
   ⟨(im (fun g => {g with faults := [{tile := 5, firstFail := some 120000000, lastEvent := 120000000, stuck := false}]}) park), 5, {tile := 5, firstFail := some 120000000, lastEvent := 120000000, stuck := false}, 120000000, by decide +kernel⟩,
   ⟨park, S, 0, 1, by decide +kernel⟩,
   ⟨park, S, [5,16383], by decide +kernel⟩,
   ⟨park, S, 16383, by decide +kernel⟩⟩

end W11

namespace W12
def nt (f : NetPart → NetPart) (s : State) := up (fun b => b.onNet f) s
def sy (f : SysPart → SysPart) (s : State) := up (fun b => b.onSys f) s
def n0 (s : State) := up (fun b => b.onSec fun x => {x with halted := []}) (sy (fun y => {y with engSvc := List.replicate 15 true}) s)
def g0 : Cage := {present := true, fault := false, unusable := false, link := true, up := true, lastRct := some 5}
def g1 : Cage := {present := true, fault := false, unusable := false, link := true, up := true, lastRct := some 50}
def net (m : Nat) (s : State) := nt (fun n => {n with cages := [g0, g1], ip := {n.ip with addr := 77, mode := m}, dups := [], nodes := [], echoes := []}) (n0 s)
def fr (k : EthKind) (r : Option (Nat × Nat)) : EthFrame := {mac := 9, vlan := none, rct := r, len := 100, kind := k}
def dd : DupEntry := {mac := 9, seq := 3, onA := true, onB := false, count := 44}
def ann (p : Nat) : Announce := {gm := 5, prio1 := p, clockClass := 6, accuracy := 1, variance := 2, prio2 := 3, steps := 0, sender := 8, utc := 37}
/-- An announcement of priority 200 from five steps away is no better than the module's own clock of priority 128, whatever the module's identity is. -/
theorem worse (g p u : Nat) : ({ann 200 with steps := 5} : Announce).better { gm := g, prio1 := 128, clockClass := 248, accuracy := 0xFE, variance := 0xFFFF, prio2 := p, steps := 0, sender := g, utc := u } = false := by
  unfold Announce.better ann
  split
  · rfl
  · simp [List.cons_lt_cons_iff]
def pt (st : PtpState) (a : Option Announce) : PtpPort := {PtpPort.fresh st with ann := a, t1 := 3, t2 := 10, mpd := 4, syncSeen := true, reqOut := some 6, reqTx := some 90, pResp := some (100, 95), sync := some (8, 3, 700), seqAnn := 65535, seqSync := 12, syncOut := some 11, reqSeq := 9}
def ptp (prof : Nat) (sl : Option Nat) (q : PtpPort) (s : State) := nt (fun n => {n with ptp := {n.ptp with set := {n.ptp.set with en := true, profile := prof, domain := 4, role := 0, prio1 := 128, stepThr := 100000, lockThr := 1000}, slave := sl, ports := [q, PtpPort.fresh .listening], offset := 0, queues := [{entries := [], ovf := false, lost := 0, gap := true},{entries := [], ovf := false, lost := 0, gap := true}]}}) (net 0 s)
def canS : CanSet := {CanSet.reset with en := true, node := 7, rqOwn := 1, rqLen := 4}
def cs (f : CanCtl → CanCtl) (s : State) := nt (fun n => {n with cans := modAt n.cans 1 fun c => f {c with on := true, est := 0, tec := 8, rec_ := 3, hbOnly := false, disabling := none, set := canS, tbs := List.replicate 3 CanBuf.empty, txNow := none, filters := [(0x40000005, 0x40000005)] ++ c.filters.drop 1, fltLen := 1}}) (net 0 s)
def tx (st : Nat) (ab : Bool) : CanBuf := {frame := {idw := 5, ctlw := 8, data := []}, st := st, abortReq := ab}
def sending (n : Nat) (f : CanCtl → CanCtl) (s : State) := cs (fun c => f {c with tbs := [tx 1 false, tx 0 false, tx 1 false], txNow := some n}) s
def rxf (id : Nat) (x : Bool) (d : List Byte) : CanFrame := {idw := id + (if x then 2^31 else 0), ctlw := 8, data := d}
def held (s : State) := up (fun b => acceptRequest S 0x0A04 [] true b) s
def noP (s : State) := nt (fun n => {n with partners := n.partners.map fun _ => Partner.empty}) s
def part (st : Nat) (s : State) := nt (fun n => {n with partners := modAt n.partners 3 fun p => {p with st := st, node := 9, hbAt := 5, lostAt := 6}}) s
def pp (st : Nat) (s : State) : Partner := ((part st s).block.net.partners.getD 3 Partner.empty)

theorem witness_LansCarryAndDiscardFrames :
    (∃ (s : State), s.block.settled = true)
    ∧ (∃ (s : State) (c : Fin 2) (g : Cage), s.block.net.cages[c.val]? = some g ∧ ((g.unusable = true ∨ s.block.n0Up = false)) ∧ s.block.settled = true)
    ∧ (∃ (s : State) (c : Fin 2) (f : EthFrame) (g : Cage), s.block.net.cages[c.val]? = some g ∧ g.unusable = false ∧ s.block.n0Up = true ∧ ((9030 < f.len ∨ s.block.vlanOk f = false ∨ (s.block.net.ip.mode = 1 ∧ c = 1 ∧ f.kind.splitOk = false))) ∧ s.block.settled = true)
    ∧ (∃ (s : State) (c : Fin 2) (f : EthFrame) (g : Cage) (from_ : Nat), s.block.net.cages[c.val]? = some g ∧ g.unusable = false ∧ s.block.n0Up = true ∧ f.len ≤ 9030 ∧ s.block.vlanOk f = true ∧ s.block.net.ip.mode = 1 ∧ f.kind = .arp s.block.net.ip.addr from_ ∧ s.block.settled = true)
    ∧ (∃ (s : State) (c : Fin 2) (f : EthFrame) (g : Cage) (from_ : Nat), s.block.net.cages[c.val]? = some g ∧ g.unusable = false ∧ s.block.n0Up = true ∧ f.len ≤ 9030 ∧ s.block.vlanOk f = true ∧ s.block.net.ip.mode = 1 ∧ f.kind = .echo s.block.net.ip.addr from_ ∧ s.block.net.echoes.length < 64 ∧ s.block.settled = true)
    ∧ (∃ (s : State) (c : Fin 2) (f : EthFrame) (g : Cage) (n : Nat), s.block.net.cages[c.val]? = some g ∧ g.unusable = false ∧ s.block.n0Up = true ∧ f.len ≤ 9030 ∧ s.block.vlanOk f = true ∧ s.block.net.ip.mode = 0 ∧ f.kind = .igmp ∧ f.rct = some (n, c.val) ∧ (s.block.net.dups.find? fun d => d.mac == f.mac && d.seq == n) = none ∧ s.block.settled = true)
    ∧ (∃ (s : State) (c : Fin 2) (f : EthFrame) (g : Cage) (n : Nat) (d : DupEntry), s.block.net.cages[c.val]? = some g ∧ g.unusable = false ∧ s.block.n0Up = true ∧ f.len ≤ 9030 ∧ s.block.vlanOk f = true ∧ s.block.net.ip.mode = 0 ∧ f.kind ≠ .ptp ∧ f.rct = some (n, c.val) ∧ s.block.net.dups = [d] ∧ d.mac = f.mac ∧ d.seq = n ∧ s.block.settled = true)
    ∧ (∃ (s : State) (c : Fin 2) (f : EthFrame) (g : Cage) (n : Nat) (l : Nat), s.block.net.cages[c.val]? = some g ∧ g.unusable = false ∧ s.block.n0Up = true ∧ f.len ≤ 9030 ∧ s.block.vlanOk f = true ∧ s.block.net.ip.mode = 0 ∧ f.kind = .supervision ∧ f.rct = some (n, l) ∧ l ≠ c.val ∧ (s.block.net.dups.find? fun d => d.mac == f.mac && d.seq == n) = none ∧ s.block.settled = true)
    ∧ (∃ (s : State), s.block.net.ip.mode = 0 ∧ s.block.n0Up = true ∧ s.block.settled = true)
    ∧ (∃ (s : State), ((s.block.net.ip.mode ≠ 0 ∨ s.block.n0Up = false)) ∧ s.block.settled = true)
    ∧ (∃ (s : State) (d : DupEntry) (rest : List DupEntry), s.block.net.dups = d :: rest ∧ s.block.settled = true)
    ∧ (∃ (s : State) (t : Nat), minOf? (s.block.net.nodes.map (·.2)) = some t ∧ s.block.settled = true)
    ∧ (∃ (s : State) (c : Fin 2) (g : Cage) (o : Cage), s.block.net.cages[c.val]? = some g ∧ s.block.net.cages[1 - c.val]? = some o ∧ s.block.net.cages.length = 2 ∧ g.up = true ∧ s.block.settled = true)
    ∧ (∃ (s : State) (c : Fin 2) (g : Cage), s.block.net.cages[c.val]? = some g ∧ g.up = false ∧ s.block.settled = true)
    ∧ (∃ (s : State) (c : Fin 2) (g : Cage) (o : Cage) (u : Nat), s.block.net.cages[c.val]? = some g ∧ s.block.net.cages[1 - c.val]? = some o ∧ s.block.net.cages.length = 2 ∧ o.lastRct = some u ∧ o.up = true ∧ s.block.net.ip.mode = 0 ∧ g.up = true ∧ g.lastRct.getD 0 < u ∧ s.block.settled = true)
    ∧ (∃ (s : State) (c : Fin 2) (g : Cage), s.block.net.cages[c.val]? = some g ∧ g.up = false ∧ g.unusable = false ∧ s.block.settled = true)
    ∧ (∃ (s : State) (x : IpSet) (t : Nat), s.block.net.ipNext = some (x, t) ∧ x.mode = s.block.net.ip.mode ∧ s.block.settled = true)
    ∧ (∃ (s : State) (x : IpSet) (t : Nat), s.block.net.ipNext = some (x, t) ∧ x.mode ≠ s.block.net.ip.mode ∧ (∀ q ∈ s.block.net.ptp.ports, q.ann = none) ∧ s.block.settled = true) :=
  ⟨⟨park, by decide +kernel⟩,
   ⟨(nt (fun n => {n with cages := [{g0 with unusable := true}, g1]}) (net 0 park)), 0, {g0 with unusable := true}, by decide +kernel⟩,
   ⟨(net 0 park), 0, {fr .other none with vlan := some 4095}, g0, by decide +kernel⟩,
   ⟨(net 1 park), 1, (fr (.arp 77 3) none), g1, 3, by decide +kernel⟩,
   ⟨(net 1 park), 1, (fr (.echo 77 3) none), g1, 3, by decide +kernel⟩,
   ⟨(net 0 park), 1, (fr .igmp (some (3, 1))), g1, 3, by decide +kernel⟩,
   ⟨(nt (fun n => {n with dups := [dd]}) (net 0 park)), 1, (fr .other (some (3, 1))), g1, 3, dd, by decide +kernel⟩,
   ⟨(net 0 park), 1, (fr .supervision (some (3, 0))), g1, 3, 0, by decide +kernel⟩,
   ⟨(net 0 park), by decide +kernel⟩,
   ⟨(net 1 park), by decide +kernel⟩,
   ⟨(nt (fun n => {n with dups := [dd]}) (net 0 park)), dd, [], by decide +kernel⟩,
   ⟨(nt (fun n => {n with nodes := [(4, 55), (5, 44)]}) (net 0 park)), 44, by decide +kernel⟩,
   ⟨(net 0 park), 1, g1, g0, by decide +kernel⟩,
   ⟨(nt (fun n => {n with cages := [{g0 with up := false}, g1]}) (net 0 park)), 0, {g0 with up := false}, by decide +kernel⟩,
   ⟨(net 0 park), 0, g0, g1, 50, by decide +kernel⟩,
   ⟨(nt (fun n => {n with cages := [{g0 with up := false}, g1]}) (net 0 park)), 0, {g0 with up := false}, by decide +kernel⟩,
   ⟨(nt (fun n => {n with ipNext := some (n.ip, 88)}) park), park.block.net.ip, 88, by decide +kernel⟩,
   ⟨(nt (fun n => {n with ipNext := some ({n.ip with mode := 1 - n.ip.mode}, 88)}) park), {park.block.net.ip with mode := 1 - park.block.net.ip.mode}, 88, by decide +kernel⟩⟩

theorem witness_PtpClockFollowsTheBestMaster :
    (∃ (s : State) (p : Fin 2) (dom : Nat) (eth : Bool), ((s.block.portRuns p = false ∨ s.block.n0Up = false ∨ s.block.net.ptp.set.domain ≠ dom ∨ eth ≠ (s.block.net.ptp.set.profile == 1))) ∧ s.block.settled = true)
    ∧ (∃ (s : State) (p : Fin 2) (a : Announce) (q : PtpPort) (o : PtpPort), s.block.portRuns p = true ∧ s.block.n0Up = true ∧ s.block.net.ptp.ports[p.val]? = some q ∧ s.block.net.ptp.ports[1 - p.val]? = some o ∧ o.ann = none ∧ s.block.net.ptp.slave = none ∧ ((s.block.net.ptp.set.slaveOnly = true ∨ a.better s.block.ownClock = true)) ∧ s.block.settled = true)
    ∧ (∃ (s : State) (p : Fin 2) (a : Announce) (q : PtpPort) (o : PtpPort), s.block.portRuns p = true ∧ s.block.n0Up = true ∧ s.block.net.ptp.ports[p.val]? = some q ∧ s.block.net.ptp.ports[1 - p.val]? = some o ∧ o.ann = none ∧ s.block.net.ptp.set.slaveOnly = false ∧ a.better s.block.ownClock = false ∧ s.block.settled = true)
    ∧ (∃ (s : State) (p : Fin 2) (a : Announce) (q : PtpPort), s.block.portRuns p = true ∧ s.block.n0Up = true ∧ s.block.net.ptp.ports[p.val]? = some q ∧ q.ann = some a ∧ s.block.settled = true)
    ∧ (∃ (s : State) (p : Fin 2) (a : Announce) (sender : Nat) (q : PtpPort), s.block.portRuns p = true ∧ s.block.n0Up = true ∧ s.block.net.ptp.ports[p.val]? = some q ∧ q.ann = some a ∧ a.sender ≠ sender ∧ s.block.settled = true)
    ∧ (∃ (s : State) (p : Fin 2) (sender : Nat) (n : Nat) (t : Int) (q : PtpPort), s.block.portRuns p = true ∧ s.block.n0Up = true ∧ s.block.net.ptp.ports[p.val]? = some q ∧ q.sync = some (sender, n, t) ∧ s.block.net.ptp.slave ≠ some p.val ∧ s.block.settled = true)
    ∧ (∃ (s : State) (p : Fin 2) (a : Announce) (org : Int) (cor : Int) (rx : Nat) (q : PtpPort) (off : Int), s.block.portRuns p = true ∧ s.block.n0Up = true ∧ s.block.net.ptp.ports[p.val]? = some q ∧ q.ann = some a ∧ q.st = .slave ∧ s.block.net.ptp.slave = some p.val ∧ off = (rx : Int) + s.block.net.ptp.offset - cor - org - q.mpd ∧ off.natAbs ≤ s.block.net.ptp.set.lockThr ∧ ((s.block.net.ptp.set.stepThr = 0 ∨ off.natAbs ≤ s.block.net.ptp.set.stepThr)) ∧ s.block.net.ptp.inRun < 15 ∧ s.block.settled = true)
    ∧ (∃ (s : State) (p : Fin 2) (a : Announce) (org : Int) (cor : Int) (rx : Nat) (q : PtpPort) (off : Int), s.block.portRuns p = true ∧ s.block.n0Up = true ∧ s.block.net.ptp.ports[p.val]? = some q ∧ q.ann = some a ∧ q.st = .uncalibrated ∧ s.block.net.ptp.slave = some p.val ∧ off = (rx : Int) + s.block.net.ptp.offset - cor - org - q.mpd ∧ s.block.net.ptp.first = true ∧ s.block.net.ptp.set.stepThr ≠ 0 ∧ s.block.net.ptp.set.stepThr < off.natAbs ∧ s.block.settled = true)
    ∧ (∃ (s : State) (p : Fin 2) (q : PtpPort), s.block.portRuns p = true ∧ s.block.n0Up = true ∧ s.block.net.ptp.ports[p.val]? = some q ∧ q.st = .master ∧ s.block.net.ptp.set.profile = 0 ∧ s.block.settled = true)
    ∧ (∃ (s : State) (p : Fin 2) (n : Nat) (q : PtpPort) (t3 : Int), s.block.portRuns p = true ∧ s.block.n0Up = true ∧ s.block.net.ptp.ports[p.val]? = some q ∧ q.reqOut = some n ∧ q.reqTx = some t3 ∧ q.syncSeen = true ∧ s.block.net.ptp.set.profile = 0 ∧ s.block.settled = true)
    ∧ (∃ (s : State) (p : Fin 2), s.block.portRuns p = true ∧ s.block.n0Up = true ∧ p.val < s.block.net.ptp.ports.length ∧ s.block.net.ptp.set.profile = 1 ∧ s.block.settled = true)
    ∧ (∃ (s : State) (p : Fin 2) (n : Nat) (q : PtpPort) (t3 : Int), s.block.portRuns p = true ∧ s.block.n0Up = true ∧ s.block.net.ptp.ports[p.val]? = some q ∧ q.reqOut = some n ∧ q.reqTx = some t3 ∧ s.block.net.ptp.set.profile = 1 ∧ s.block.settled = true)
    ∧ (∃ (s : State) (p : Fin 2) (n : Nat) (q : PtpPort) (t3 : Int) (t4 : Int) (t2 : Int), s.block.portRuns p = true ∧ s.block.n0Up = true ∧ s.block.net.ptp.ports[p.val]? = some q ∧ q.reqOut = some n ∧ q.reqTx = some t3 ∧ q.pResp = some (t4, t2) ∧ s.block.net.ptp.set.profile = 1 ∧ s.block.settled = true)
    ∧ (∃ (s : State) (p : Fin 2) (q : PtpPort), s.block.portRuns p = true ∧ s.block.n0Up = true ∧ s.block.net.ptp.ports[p.val]? = some q ∧ ((q.st = .slave ∨ q.st = .uncalibrated ∨ q.st = .passive)) ∧ s.block.net.ptp.set.profile = 0 ∧ s.block.settled = true)
    ∧ (∃ (s : State) (p : Fin 2) (q : PtpPort), s.block.portRuns p = true ∧ s.block.n0Up = true ∧ s.block.net.ptp.ports[p.val]? = some q ∧ q.st = .master ∧ s.block.settled = true)
    ∧ (∃ (s : State) (p : Fin 2) (q : PtpPort), s.block.portRuns p = true ∧ s.block.n0Up = true ∧ s.block.net.ptp.ports[p.val]? = some q ∧ q.st = .master ∧ s.block.settled = true)
    ∧ (∃ (s : State) (p : Nat) (q : PtpPort), s.block.net.ptp.slave = some p ∧ s.block.net.ptp.ports[p]? = some q ∧ s.block.settled = true)
    ∧ (∃ (s : State) (p : Nat) (q : PtpPort) (o : PtpPort), s.block.net.ptp.slave = some p ∧ p < 2 ∧ s.block.net.ptp.ports[p]? = some q ∧ s.block.net.ptp.ports[1 - p]? = some o ∧ o.ann = none ∧ s.block.net.ptp.set.slaveOnly = true ∧ s.block.settled = true)
    ∧ (∃ (s : State), s.block.net.ptp.hold = true ∧ s.block.net.ptp.locked = true ∧ s.block.settled = true)
    ∧ (∃ (s : State) (c : Fin 2) (g : TsQueue), s.block.net.ptp.queues[c.val]? = some g ∧ g.entries.length < 8 ∧ s.block.settled = true)
    ∧ (∃ (s : State) (c : Fin 2) (g : TsQueue), s.block.net.ptp.queues[c.val]? = some g ∧ 8 ≤ g.entries.length ∧ s.block.settled = true)
    ∧ (∃ (s : State) (c : Fin 2) (g : TsQueue), s.block.net.ptp.queues[c.val]? = some g ∧ g.entries.length < 8 ∧ s.block.settled = true)
    ∧ (∃ (s : State) (c : Fin 2) (g : TsQueue) (q : PtpPort) (n : Nat), s.block.net.ptp.queues[c.val]? = some g ∧ g.entries.length < 8 ∧ s.block.net.ptp.ports[c.val]? = some q ∧ q.syncOut = some n ∧ s.block.settled = true)
    ∧ (∃ (s : State) (e : Fin 2), (s.block.pe e).up = false ∧ s.block.settled = true)
    ∧ (∃ (s : State) (c : Fin 2) (e : Fin 2) (g : TsQueue), (s.block.pe e).up = true ∧ s.block.net.ptp.queues[c.val]? = some g ∧ g.entries.length < 8 ∧ s.block.settled = true)
    ∧ (∃ (s : State), s.block.settled = true) :=
  ⟨⟨park, 0, 5, true, by decide +kernel⟩,
   ⟨(ptp 0 none (pt .listening none) park), 0, (ann 1), (pt .listening none), (PtpPort.fresh .listening), by decide +kernel⟩,
   ⟨(nt (fun n => {n with ptp := {n.ptp with set := {n.ptp.set with slaveOnly := false}}}) (ptp 0 none (pt .listening none) park)), 0, {ann 200 with steps := 5}, (pt .listening none), (PtpPort.fresh .listening), by decide +kernel, by decide +kernel, by decide +kernel, by decide +kernel, by decide +kernel, by decide +kernel, worse _ _ _, by decide +kernel⟩,
   ⟨(ptp 0 none (pt .slave (some (ann 1))) park), 0, (ann 1), (pt .slave (some (ann 1))), by decide +kernel⟩,
   ⟨(ptp 0 none (pt .slave (some (ann 1))) park), 0, (ann 1), 99, (pt .slave (some (ann 1))), by decide +kernel⟩,
   ⟨(ptp 0 none (pt .slave (some (ann 1))) park), 0, 8, 3, 700, (pt .slave (some (ann 1))), by decide +kernel⟩,
   ⟨(nt (fun n => {n with ptp := {n.ptp with inRun := 3}}) (ptp 0 (some 0) (pt .slave (some (ann 1))) park)), 0, (ann 1), 3999999900, 60, 4000000000, (pt .slave (some (ann 1))), 36, by decide +kernel⟩,
   ⟨(nt (fun n => {n with ptp := {n.ptp with first := true}}) (ptp 0 (some 0) (pt .uncalibrated (some (ann 1))) park)), 0, (ann 1), 3999000000, 60, 4000000000, (pt .uncalibrated (some (ann 1))), 999936, by decide +kernel⟩,
   ⟨(ptp 0 none (pt .master none) park), 0, (pt .master none), by decide +kernel⟩,
   ⟨(ptp 0 none (pt .slave none) park), 0, 6, (pt .slave none), 90, by decide +kernel⟩,
   ⟨(ptp 1 none (pt .slave none) park), 0, by decide +kernel⟩,
   ⟨(ptp 1 none (pt .slave none) park), 0, 6, (pt .slave none), 90, by decide +kernel⟩,
   ⟨(ptp 1 none (pt .slave none) park), 0, 6, (pt .slave none), 90, 100, 95, by decide +kernel⟩,
   ⟨(ptp 0 none (pt .slave none) park), 0, (pt .slave none), by decide +kernel⟩,
   ⟨(ptp 0 none (pt .master none) park), 0, (pt .master none), by decide +kernel⟩,
   ⟨(ptp 0 none (pt .master none) park), 0, (pt .master none), by decide +kernel⟩,
   ⟨(ptp 0 (some 0) (pt .slave none) park), 0, (pt .slave none), by decide +kernel⟩,
   ⟨(nt (fun n => {n with ptp := {n.ptp with set := {n.ptp.set with slaveOnly := true}}}) (ptp 0 (some 0) (pt .slave (some (ann 1))) park)), 0, (pt .slave (some (ann 1))), (PtpPort.fresh .listening), by decide +kernel⟩,
   ⟨(nt (fun n => {n with ptp := {n.ptp with hold := true, locked := true, holdAt := 99}}) park), by decide +kernel⟩,
   ⟨(ptp 0 none (pt .slave none) park), 0, {entries := [], ovf := false, lost := 0, gap := true}, by decide +kernel⟩,
   ⟨(nt (fun n => {n with ptp := {n.ptp with queues := [{entries := List.replicate 8 {id := 1, port := 0, ovfb := false, sec := 3, ns := 4}, ovf := false, lost := 0, gap := false}]}}) (ptp 0 none (pt .slave none) park)), 0, {entries := List.replicate 8 {id := 1, port := 0, ovfb := false, sec := 3, ns := 4}, ovf := false, lost := 0, gap := false}, by decide +kernel⟩,
   ⟨(ptp 0 none (pt .slave none) park), 0, {entries := [], ovf := false, lost := 0, gap := true}, by decide +kernel⟩,
   ⟨(ptp 0 none (pt .slave none) park), 0, {entries := [], ovf := false, lost := 0, gap := true}, (pt .slave none), 11, by decide +kernel⟩,
   ⟨(up (fun b => onPe 1 (fun e => {e with up := false}) b) (ptp 0 none (pt .slave none) park)), 1, by decide +kernel⟩,
   ⟨(up (fun b => onPe 1 (fun e => {e with up := true}) b) (ptp 0 none (pt .slave none) park)), 0, 1, {entries := [], ovf := false, lost := 0, gap := true}, by decide +kernel⟩,
   ⟨(ptp 0 none (pt .slave none) park), by decide +kernel⟩⟩

theorem witness_CanControllersPartnersAndNetworkCommands :
    (∃ (s : State), s.block.settled = true)
    ∧ (∃ (s : State) (k : Fin 2) (n : Fin 2) (t : CanBuf), (s.block.can k).tbs[n.val]? = some t ∧ k.val < s.block.net.cans.length ∧ t.st ≠ 1 ∧ (s.block.can k).on = true ∧ (s.block.can k).set.mon = false ∧ (s.block.can k).hbOnly = false ∧ ((bitOf 30 t.frame.idw = false ∨ (s.block.can k).set.fd = true)) ∧ s.block.settled = true)
    ∧ (∃ (s : State) (k : Fin 2) (n : Fin 2) (t : CanBuf), (s.block.can k).tbs[n.val]? = some t ∧ k.val < s.block.net.cans.length ∧ t.st ≠ 1 ∧ ((s.block.can k).on = false ∨ (s.block.can k).set.mon = true ∨ (s.block.can k).hbOnly = true ∨ (bitOf 30 t.frame.idw = true ∧ (s.block.can k).set.fd = false)) ∧ s.block.settled = true)
    ∧ (∃ (s : State) (k : Fin 2) (n : Fin 2) (t : CanBuf), (s.block.can k).tbs[n.val]? = some t ∧ t.st = 1 ∧ (s.block.can k).txNow ≠ some n.val ∧ k.val < s.block.net.cans.length ∧ s.block.settled = true)
    ∧ (∃ (s : State) (k : Fin 2) (n : Fin 2) (t : CanBuf), (s.block.can k).tbs[n.val]? = some t ∧ t.st = 1 ∧ (s.block.can k).txNow = some n.val ∧ k.val < s.block.net.cans.length ∧ s.block.settled = true)
    ∧ (∃ (s : State) (k : Fin 2) (n : Nat) (x : CanBuf), (s.block.can k).txNow = some n ∧ (s.block.can k).tbs[n]? = some x ∧ (s.block.can k).disabling = none ∧ k.val < s.block.net.cans.length ∧ (s.block.can k).hbOnly = false ∧ (s.block.can k).tec ≤ 127 ∧ (s.block.can k).rec_ ≤ 127 ∧ s.block.settled = true)
    ∧ (∃ (s : State) (k : Fin 2) (n : Nat) (x : CanBuf), (s.block.can k).txNow = some n ∧ (s.block.can k).tbs[n]? = some x ∧ (s.block.can k).disabling = none ∧ k.val < s.block.net.cans.length ∧ (s.block.can k).hbOnly = true ∧ (s.block.can k).tec ≤ 127 ∧ (s.block.can k).rec_ ≤ 127 ∧ s.block.settled = true)
    ∧ (∃ (s : State) (k : Fin 2) (n : Nat) (x : CanBuf), (s.block.can k).txNow = some n ∧ (s.block.can k).tbs[n]? = some x ∧ x.abortReq = false ∧ (s.block.can k).disabling = none ∧ k.val < s.block.net.cans.length ∧ (s.block.can k).hbOnly = false ∧ (s.block.can k).est = 0 ∧ (s.block.can k).tec ≤ 119 ∧ (s.block.can k).rec_ ≤ 127 ∧ s.block.settled = true)
    ∧ (∃ (s : State) (k : Fin 2) (n : Nat) (x : CanBuf), (s.block.can k).txNow = some n ∧ (s.block.can k).tbs[n]? = some x ∧ (s.block.can k).disabling = none ∧ k.val < s.block.net.cans.length ∧ (s.block.can k).est ≠ 2 ∧ 248 ≤ (s.block.can k).tec ∧ s.block.settled = true)
    ∧ (∃ (s : State) (k : Fin 2) (n : Nat) (x : CanBuf) (src : Src), (s.block.can k).txNow = some n ∧ (s.block.can k).tbs[n]? = some x ∧ (s.block.can k).disabling = some src ∧ k.val < s.block.net.cans.length ∧ (s.block.can k).hbOnly = false ∧ s.block.holdsRequest src = true ∧ s.block.settled = true)
    ∧ (∃ (s : State) (k : Fin 2), k.val < s.block.net.cans.length ∧ 64 ≤ (s.block.can k).ackRun ∧ (s.block.can k).alone = false ∧ s.block.settled = true)
    ∧ (∃ (s : State) (k : Fin 2) (t : Nat), (s.block.can k).busOffAt = some t ∧ s.block.settled = true)
    ∧ (∃ (s : State) (k : Fin 2), (s.block.can k).est = 2 ∧ (s.block.can k).busOffAt = none ∧ k.val < s.block.net.cans.length ∧ s.block.settled = true)
    ∧ (∃ (s : State) (k : Fin 2) (x : CanBuf), (s.block.can k).on = true ∧ (s.block.can k).hbOnly = false ∧ s.block.n0Up = true ∧ k.val < s.block.net.cans.length ∧ (s.block.can k).tbs[2]? = some x ∧ x.st ≠ 1 ∧ (s.block.can k).set.mon = false ∧ s.block.settled = true)
    ∧ (∃ (s : State) (k : Fin 2) (x : CanBuf), (s.block.can k).on = true ∧ (s.block.can k).hbOnly = true ∧ s.block.n0Up = true ∧ k.val < s.block.net.cans.length ∧ (s.block.can k).tbs[2]? = some x ∧ x.st ≠ 1 ∧ (s.block.can k).set.mon = false ∧ s.block.settled = true)
    ∧ (∃ (s : State) (k : Fin 2) (x : CanBuf) (t : Nat), (s.block.can k).on = true ∧ (s.block.can k).hbOnly = false ∧ s.block.n0Up = true ∧ k.val < s.block.net.cans.length ∧ (s.block.can k).tbs[2]? = some x ∧ x.st ≠ 1 ∧ (s.block.can k).set.mon = false ∧ (s.block.can k).annDue = some t ∧ s.block.settled = true)
    ∧ (∃ (s : State) (k : Fin 2), ((s.block.can k).on = false ∨ (s.block.can k).est = 2) ∧ s.block.settled = true)
    ∧ (∃ (s : State) (k : Fin 2) (f : CanFrame) (i : Nat), (s.block.can k).on = true ∧ (s.block.can k).est ≠ 2 ∧ k.val < s.block.net.cans.length ∧ (s.block.can k).partnerFrame f = false ∧ (s.block.can k).filter f = (1, i) ∧ (s.block.can k).set.rqOwn ≠ 0 ∧ ((s.block.can k).rqPut + 1024 - (s.block.can k).rqGet) % 1024 ≠ (s.block.can k).set.rqLen ∧ s.block.settled = true)
    ∧ (∃ (s : State) (k : Fin 2) (f : CanFrame) (i : Nat), (s.block.can k).on = true ∧ (s.block.can k).est ≠ 2 ∧ k.val < s.block.net.cans.length ∧ (s.block.can k).partnerFrame f = false ∧ (s.block.can k).filter f = (1, i) ∧ (s.block.can k).set.rqOwn ≠ 0 ∧ ((s.block.can k).rqPut + 1024 - (s.block.can k).rqGet) % 1024 = (s.block.can k).set.rqLen ∧ s.block.settled = true)
    ∧ (∃ (s : State) (k : Fin 2) (f : CanFrame) (i : Nat), (s.block.can k).on = true ∧ (s.block.can k).est ≠ 2 ∧ k.val < s.block.net.cans.length ∧ (s.block.can k).partnerFrame f = false ∧ (s.block.can k).filter f = (0, i) ∧ s.block.settled = true)
    ∧ (∃ (s : State) (k : Fin 2) (f : CanFrame), (s.block.can k).on = true ∧ (s.block.can k).est ≠ 2 ∧ k.val < s.block.net.cans.length ∧ (s.block.can k).partnerFrame f = true ∧ s.block.n0Up = false ∧ (s.block.can k).rq0.length < 64 ∧ s.block.settled = true)
    ∧ (∃ (s : State) (k : Fin 2) (f : CanFrame) (node : Nat) (i : Nat), (s.block.can k).on = true ∧ (s.block.can k).est ≠ 2 ∧ k.val < s.block.net.cans.length ∧ (s.block.can k).partnerFrame f = true ∧ s.block.n0Up = true ∧ f.idw % 2 ^ 29 - (s.block.can k).set.base = 256 + node ∧ node < 256 ∧ ((∀ p ∈ s.block.net.partners, p.st = 0 ∨ p.node ≠ node)) ∧ s.block.freePartner = some i ∧ s.block.settled = true)
    ∧ (∃ (s : State) (k : Fin 2) (f : CanFrame) (node : Nat) (i : Nat), (s.block.can k).on = true ∧ (s.block.can k).est ≠ 2 ∧ k.val < s.block.net.cans.length ∧ (s.block.can k).partnerFrame f = true ∧ s.block.n0Up = true ∧ f.idw % 2 ^ 29 - (s.block.can k).set.base = node ∧ node < 256 ∧ ((∀ p ∈ s.block.net.partners, p.st = 0 ∨ p.node ≠ node)) ∧ s.block.freePartner = some i ∧ s.block.settled = true)
    ∧ (∃ (s : State) (k : Fin 2) (f : CanFrame) (node : Nat), (s.block.can k).on = true ∧ (s.block.can k).est ≠ 2 ∧ k.val < s.block.net.cans.length ∧ (s.block.can k).partnerFrame f = true ∧ s.block.n0Up = true ∧ f.idw % 2 ^ 29 - (s.block.can k).set.base = 512 + node ∧ node < 256 ∧ s.block.sys.mstate = .hibernate ∧ s.block.hinge = false ∧ (s.block.can k).set.wakeEn = true ∧ leField f.data 0 1 = 0xFF ∧ leField f.data 1 1 = 1 ∧ s.block.settled = true)
    ∧ (∃ (s : State) (k : Fin 2) (v : Nat), (v % 1024 + 1024 - (s.block.can k).rqGet) % 1024 ≤ ((s.block.can k).rqPut + 1024 - (s.block.can k).rqGet) % 1024 ∧ s.block.settled = true)
    ∧ (∃ (s : State) (k : Fin 2) (v : Nat), ((s.block.can k).rqPut + 1024 - (s.block.can k).rqGet) % 1024 < (v % 1024 + 1024 - (s.block.can k).rqGet) % 1024 ∧ s.block.settled = true)
    ∧ (∃ (s : State) (i : Fin 40) (p : Partner), s.block.net.partners[i.val]? = some p ∧ ((p.st = 1 ∨ p.st = 2)) ∧ s.block.settled = true)
    ∧ (∃ (s : State) (i : Fin 40) (p : Partner), s.block.net.partners[i.val]? = some p ∧ p.st = 3 ∧ s.block.settled = true)
    ∧ (∃ (s : State) (src : Src) (x : IpSet), hostOk x.addr x.mask = true ∧ x.gw < 2 ^ 32 ∧ x.vlan ≤ 4094 ∧ x.pcp ≤ 7 ∧ x.mode ≤ 1 ∧ ((x.mode ≠ 0 ∨ s.block.net.ptp.set.role ≠ 1)) ∧ s.block.settled = true ∧ s.block.admits src 0x0A01 true = true)
    ∧ (∃ (s : State) (src : Src) (x : PtpSet), x.profile ≤ 1 ∧ x.role ≤ 1 ∧ x.domain ≤ 127 ∧ x.prio1 ≤ 255 ∧ x.prio2 ≤ 255 ∧ -3 ≤ x.logSync ∧ x.logSync ≤ 1 ∧ 100 ≤ x.lockThr ∧ x.lockThr ≤ 100000 ∧ ((x.stepThr = 0 ∨ (1000 ≤ x.stepThr ∧ x.stepThr ≤ 1000000000))) ∧ ((x.role ≠ 1 ∨ s.block.net.ip.mode ≠ 0)) ∧ s.block.settled = true ∧ s.block.admits src 0x0A02 true = true)
    ∧ (∃ (s : State) (src : Src) (sec : Nat) (ns : Nat) (utc : Int), (∀ q ∈ s.block.net.ptp.ports, q.st ≠ .slave ∧ q.st ≠ .uncalibrated) ∧ sec < 2 ^ 48 ∧ ns < 1000000000 ∧ -32768 ≤ utc ∧ utc ≤ 32767 ∧ s.block.settled = true ∧ s.block.admits src 0x0A03 true = true)
    ∧ (∃ (s : State) (src : Src) (k : Fin 2) (x : CanSet), x.ok = true ∧ x.en = true ∧ (s.block.can k).set.en = false ∧ k.val < s.block.net.cans.length ∧ s.block.settled = true ∧ s.block.admits src 0x0A04 true = true)
    ∧ (∃ (s : State) (src : Src) (k : Fin 2) (x : CanSet), x.ok = true ∧ x.en = false ∧ (s.block.can k).set.en = false ∧ k.val < s.block.net.cans.length ∧ s.block.settled = true ∧ s.block.admits src 0x0A04 true = true)
    ∧ (∃ (s : State) (src : Src) (k : Fin 2) (x : CanSet) (n : Nat), x.ok = true ∧ x.en = false ∧ (s.block.can k).set = { x with en := true } ∧ k.val < s.block.net.cans.length ∧ (s.block.can k).txNow = some n ∧ s.block.settled = true ∧ s.block.admits src 0x0A04 true = true)
    ∧ (∃ (s : State) (src : Src) (k : Fin 2) (x : CanSet), x.ok = true ∧ x.en = false ∧ (s.block.can k).set = { x with en := true } ∧ k.val < s.block.net.cans.length ∧ (s.block.can k).txNow = none ∧ s.block.settled = true ∧ s.block.admits src 0x0A04 true = true)
    ∧ (∃ (s : State) (src : Src) (k : Fin 2) (first : Nat) (len : Nat) (els : List (Nat × Nat)), 1 ≤ els.length ∧ els.length ≤ 64 ∧ first + els.length ≤ 256 ∧ len ≤ 256 ∧ k.val < s.block.net.cans.length ∧ ((∀ e ∈ els, e.1 < 2 ^ 32 ∧ e.2 < 2 ^ 32 ∧ (bitsOf 31 29 e.2 = 0 ∨ bitsOf 31 29 e.2 = 2))) ∧ s.block.settled = true ∧ s.block.admits src 0x0A05 true = true)
    ∧ (∃ (s : State) (src : Src) (first : Nat) (n : Nat), 1 ≤ n ∧ first + n ≤ 40 ∧ s.block.settled = true ∧ s.block.admits src 0x0A06 false = true)
    ∧ (∃ (s : State) (src : Src), s.block.settled = true ∧ s.block.admits src 0x0A07 false = true) :=
  ⟨⟨park, by decide +kernel⟩,
   ⟨(cs id park), 1, 1, CanBuf.empty, by decide +kernel⟩,
   ⟨(cs (fun c => {c with hbOnly := true}) park), 1, 1, CanBuf.empty, by decide +kernel⟩,
   ⟨(sending 2 id park), 1, 0, (tx 1 false), by decide +kernel⟩,
   ⟨(sending 0 id park), 1, 0, (tx 1 false), by decide +kernel⟩,
   ⟨(sending 0 id park), 1, 0, (tx 1 false), by decide +kernel⟩,
   ⟨(sending 2 (fun c => {c with hbOnly := true, alone := true}) park), 1, 2, (tx 1 false), by decide +kernel⟩,
   ⟨(sending 2 id park), 1, 2, (tx 1 false), by decide +kernel⟩,
   ⟨(sending 2 (fun c => {c with tec := 250}) park), 1, 2, (tx 1 false), by decide +kernel⟩,
   ⟨(held (sending 2 (fun c => {c with disabling := some S}) park)), 1, 2, (tx 1 false), S, by decide +kernel⟩,
   ⟨(sending 2 (fun c => {c with ackRun := 64, alone := false}) park), 1, by decide +kernel⟩,
   ⟨(cs (fun c => {c with busOffAt := some 123456799}) park), 1, 123456799, by decide +kernel⟩,
   ⟨(sending 2 (fun c => {c with est := 2, busOffAt := none}) park), 1, by decide +kernel⟩,
   ⟨(cs id park), 1, CanBuf.empty, by decide +kernel⟩,
   ⟨(cs (fun c => {c with hbOnly := true}) park), 1, CanBuf.empty, by decide +kernel⟩,
   ⟨(cs (fun c => {c with annDue := some 5}) park), 1, CanBuf.empty, 5, by decide +kernel⟩,
   ⟨(cs (fun c => {c with on := false}) park), 1, by decide +kernel⟩,
   ⟨(cs id park), 1, (rxf 5 false [1#8]), 0, by decide +kernel⟩,
   ⟨(cs (fun c => {c with rqPut := 3, rqGet := 1023}) park), 1, (rxf 5 false [1#8]), 0, by decide +kernel⟩,
   ⟨(cs id park), 1, (rxf 6 false [1#8]), 0x1FF, by decide +kernel⟩,
   ⟨(sy (fun y => {y with engSvc := List.replicate 15 false}) (cs id park)), 1, (rxf 0x1E500109 true [1#8]), by decide +kernel⟩,
   ⟨(noP (cs id park)), 1, (rxf 0x1E500109 true [1#8]), 9, 0, by decide +kernel⟩,
   ⟨(noP (cs id park)), 1, (rxf 0x1E500009 true (List.replicate 8 1#8)), 9, 0, by decide +kernel⟩,
   ⟨(noP (cs id hib)), 1, (rxf 0x1E500209 true [0xFF#8, 1#8]), 9, by decide +kernel⟩,
   ⟨(cs (fun c => {c with rqPut := 3, rqGet := 1}) park), 1, 1026, by decide +kernel⟩,
   ⟨(cs (fun c => {c with rqPut := 3, rqGet := 1}) park), 1, 4, by decide +kernel⟩,
   ⟨(part 2 park), 3, (pp 2 park), by decide +kernel⟩,
   ⟨(part 3 park), 3, (pp 3 park), by decide +kernel⟩,
   ⟨park, S, {addr := 0x0A000005, mask := 0xFFFFFF00, gw := 0, vlan := 0, pcp := 0, mode := 1}, by decide +kernel⟩,
   ⟨park, S, {park.block.net.ptp.set with en := true, role := 0, stepThr := 0}, by decide +kernel⟩,
   ⟨park, S, 1000, 5, 37, by decide +kernel⟩,
   ⟨(cs (fun c => {c with set := {canS with en := false}}) park), S, 1, canS, by decide +kernel⟩,
   ⟨(cs (fun c => {c with set := {canS with en := false}}) park), S, 1, {canS with en := false, node := 8}, by decide +kernel⟩,
   ⟨(sending 2 id park), S, 1, {canS with en := false}, 2, by decide +kernel⟩,
   ⟨(cs id park), S, 1, {canS with en := false}, by decide +kernel⟩,
   ⟨(cs id park), S, 1, 255, 256, [(5, 0x40000005)], by decide +kernel⟩,
   ⟨park, S, 39, 1, by decide +kernel⟩,
   ⟨park, S, by decide +kernel⟩⟩

end W12

namespace W13
def Q : List Byte := (leBytes 96 354437242072002134449187735563487656751099462580555493141143486688559462843495823070208423651194795472691610570769275998398587988558101323287215997509427075475733174940939328229172667866979514401954728108776801596496837313305042449)
def imgP : List Byte := (leBytes 848 38042050613383017857849772890041455991318817010297185602255971150389008689740497934499740098001947385979698622291795825697045986067571655307891013677241277553746259280717641896881228693800785337648843936627311417548723838040693056359110718787984972145090166656498665658600580971671133452000669374100314985978595931760337788031956643599815803958323458636620632257939541712564036620265739680870076924136966973274100829079683345073798114651861900354826682465337821334072349041696440468088143235843736004141274079317321553887338857187975573627653266261946851492708180561594780244273719060829500637067104148989245722275603598827867206552094056857001974297778457571759096239550764803665450855484121907093178977620415813395509917134230863553826431136089021012851933600012975814247681045708270403806309644022325763540400304642752118340959026858847654349261728825773261563524161028788940597177951496800650020761649869822399170934942653386271210565400151252238681068382869763900844591160506293184365096421613724158473513556907454825468994707969916036455614928802346850188455862506309628450326044377278575294532238550525859121127605878357240189263585546946785693433879153999532429142161288344183812224032341909733211383759995500795553610603070361186358211535746979645998002085467173526749067887507150056778910108954752503816450874737804761330647604298683362361940322540536398169296864830723300423599086001360360367500993676901011655093988535501902526806858657724108250612720510574845989647400252306625780344161140706887704648602140069054105619056734233481715697111451409762206364409969241155235442229968820759375689525673558369711750594051610139844731323672041519607722415359654748643296203843784736321281555403451183488264905634909651285907528415417010204420447999086092760749057138890074964293075984293014103376143379095639736435942365532478703467821079561249606076716562713567528308444411032413708073611263790035973113034268508549842838779864286700294960313292930347122868423528981430851057870065367054561914955133758058314540617836103171550174861389)
def headP : List Byte := (leBytes 256 1811317006970190743955526265112817104795493693741172817609488525600276201457316712604850434915434496)
def se (f : SecPart → SecPart) (s : State) := up (fun b => b.onSec f) s
def sy (f : SysPart → SysPart) (s : State) := up (fun b => b.onSys f) s
def pe (p : Nat) (f : PolEngine → PolEngine) (s : State) := up (fun b => onPe p f b) s
def ch (c : Nat) (f : DmaChan → DmaChan) (s : State) := up (fun b => onCh c f b) s
def po (f : PolPart → PolPart) (s : State) := up (fun b => b.onPol f) s
def fl (s : State) := se (fun x => {x with slot := 0, ksA := {x.ksA with valid := true, keys := [some Q, none, none, none], minP1 := 0}, ksB := {x.ksB with valid := false}}) (up (fun b => b.onUpd fun u => {u with flash := flashOf 0 headP imgP}) s)
theorem imgP_length : imgP.length = 848 := leBytes_length ..
/-- The signed policy image of P1 in flash passes every check of R466. -/
theorem p1_code (b : Block) (hb : b.upd.flash = flashOf 0 headP imgP) (hs : b.sec = (fl park).block.sec) :
    b.imageOff 0 8 = some 1024 ∧ b.targetCode 0 8 = 0 := by
  have h1 := head_read b 0 headP imgP hb (leBytes_length ..)
  have i1 := image_read b 0 0 256 headP imgP hb (by rw [imgP_length]; omega)
  have i2 := image_read b 0 256 592 headP imgP hb (by rw [imgP_length])
  have off : b.imageOff 0 8 = some 1024 := by
    unfold Block.imageOff Block.bundleHead
    rw [h1]
    decide +kernel
  have bl : b.imageBodyLen 0 1024 = 592 := by
    unfold Block.imageBodyLen
    rw [i1]
    decide +kernel
  have ld : b.imageLoad 0 1024 = 64 := by
    have i3 := image_read b 0 256 4 headP imgP hb (by rw [imgP_length]; omega)
    unfold Block.imageLoad
    rw [i3]
    decide +kernel
  refine ⟨off, ?_⟩
  unfold Block.targetCode
  rw [off]
  dsimp only
  unfold Block.imageCode Block.imageBody Block.opKey Block.minSvn
  rw [bl, ld, i1, i2, hs]
  decide +kernel
/-- Its descriptor passes the checks of R408 up to the channels of the other engine. -/
theorem p1_fault (b : Block) (hb : b.upd.flash = flashOf 0 headP imgP) (hs : b.sec = (fl park).block.sec) :
    b.policyFault 1 = descriptorFault ((imgP.drop 256).take 528) 1 (if (b.pe 0).loaded then (b.pe 0).dmaMask else 0) := by
  obtain ⟨off, code⟩ := p1_code b hb hs
  have i2 := image_read b 0 256 528 headP imgP hb (by rw [imgP_length]; omega)
  have sl : b.sec.slot = 0 := by rw [hs]; rfl
  unfold Block.policyFault policyTarget
  simp only [sl, show 7 + 1 = 8 from rfl, show 1 - 1 = 0 from rfl, code]
  unfold Block.descriptor
  rw [off]
  show descriptorFault (b.flashAt 0 (1024 + 256) 528) 1 _ = _
  rw [i2]
theorem p1_off (b : Block) (hb : b.upd.flash = flashOf 0 headP imgP) (hs : b.sec = (fl park).block.sec) (p : Fin 2) (hp : p = 1) :
    (b.imageOff b.sec.slot (7 + p.val)).isSome = true := by
  subst hp
  rw [show 7 + (1 : Fin 2).val = 8 from rfl, show b.sec.slot = 0 by rw [hs]; rfl, (p1_code b hb hs).1]
  rfl
def good : State := fl park
theorem good_flash : good.block.upd.flash = flashOf 0 headP imgP := by simp only [good, fl, se, up, Block.onUpd, Block.onSec]
def bad : State := pe 0 (fun e => {e with loaded := true, dmaMask := 4}) (fl park)
theorem bad_flash : bad.block.upd.flash = flashOf 0 headP imgP := by simp only [bad, fl, se, pe, up, onPe, Block.onPol, Block.onUpd, Block.onSec]
theorem good_sec : good.block.sec = (fl park).block.sec := by rw [good]
theorem bad_sec : bad.block.sec = (fl park).block.sec := by rw [bad, pe]; rfl
theorem good_fault (p : Fin 2) (hp : p = 1) : good.block.policyFault p = none := by
  subst hp
  rw [show ((1 : Fin 2) : Nat) = 1 from rfl, p1_fault good.block good_flash good_sec]
  decide +kernel
theorem bad_fault (p : Fin 2) (hp : p = 1) : bad.block.policyFault p = some 10 := by
  subst hp
  rw [show ((1 : Fin 2) : Nat) = 1 from rfl, p1_fault bad.block bad_flash bad_sec]
  decide +kernel

def live (s : State) := se (fun x => {x with halted := []}) (pe 1 (fun e => {e with up := true, asleep := false, held := false, restarts := [], wdper := 500, wdAt := 123400000, active := false}) s)
def idr : Region := {vbase := 0, size := 20, lock := false, en := true, pbase := 0, x := true, w := true, r := true}
def imr : Region := {vbase := 0x10000000, size := 21, lock := true, en := true, pbase := 0x10000000, x := false, w := true, r := true}
def code (w : Nat) (s : State) := pe 1 (fun e => {e with pc := 0x80000#32, regions := [idr, imr], ram := memWrite 0#8 0 (leBytes 4 w) (memWrite 0#8 16 (leBytes 4 0xAABBCCDD) []), regs := [0x80010#32, 0x12345678#32] ++ List.replicate 29 7#32, load := 64, csr := {e.csr with mie := false, mtvec := 0x80000#32, mpie := true, mepc := 0x80020#32, mscratch := 9#32}}) (live s)
def own (c : Nat) (f : DmaChan → DmaChan) (s : State) := ch c (fun x => f {x with owner := some 1, st := .running, rsize := 4, cq := {x.cq with size := 4, base := 0x80100, waiting := [], put := 0, get := 0}}) (code 0 s)
def dsc (src dst len mv : Nat) : DmaDesc := {index := 1, src := src, dst := dst, len := len, tag := 5, tile := false, dstFix := false, srcFix := false, moved := mv}
def brx (d : DmaDesc) (s : State) := own 2 (fun x => {x with cur := some d}) s
def rg (f : Ring → Ring) (s : State) := pe 1 (fun e => {e with grant := 0xFFFF, ring := f {e.ring with en := true, stopping := false, rsize := 4, rbase := 0x80200, rput := 1, rget := 0, running := [], cq := {e.ring.cq with size := 4, base := 0x80300, put := 0, get := 0, waiting := []}}}) (code 0 s)
def ent (op len cap : Nat) (s : State) := pe 1 (fun e => {e with ram := memWrite 0#8 0x200 (leBytes 2 op ++ leBytes 2 len ++ leBytes 4 0x80400 ++ leBytes 4 0x80500 ++ leBytes 2 77 ++ leBytes 2 cap) e.ram}) (rg id s)
def RE (op len cap : Nat) : RingEntry := {length := len, opcode := op, req := 0x80400, rply := 0x80500, rcap := cap, tag := 77}

theorem witness_PolicyEnginesStartSleepAndRestart :
    (∃ (s : State) (p : Fin 2), (s.block.pe p).up = false ∧ (s.block.pe p).held = false ∧ s.block.sys.mstate ≠ .off ∧ s.block.sys.mstate ≠ .boot ∧ p.val < s.block.pol.engines.length ∧ (s.block.imageOff s.block.sec.slot (7 + p.val)).isSome = true ∧ s.block.policyFault p = none ∧ s.block.settled = true)
    ∧ (∃ (s : State) (p : Fin 2) (f : Nat), (s.block.pe p).up = false ∧ (s.block.pe p).held = false ∧ s.block.sys.mstate ≠ .off ∧ s.block.sys.mstate ≠ .boot ∧ (s.block.imageOff s.block.sec.slot (7 + p.val)).isSome = true ∧ s.block.policyFault p = some f ∧ s.block.settled = true)
    ∧ (∃ (s : State) (p : Fin 2), ((s.block.pe p).up = true ∨ (s.block.pe p).held = true ∨ s.block.sys.mstate = .boot) ∧ s.block.settled = true)
    ∧ (∃ (s : State) (p : Fin 2), s.block.peRuns p = true ∧ p.val < s.block.pol.engines.length ∧ ((s.block.pe p).recent (max s.block.sys.now ((s.block.pe p).wdAt + (s.block.pe p).wdper * msT))).length < 2 ∧ s.block.settled = true)
    ∧ (∃ (s : State) (p : Fin 2), s.block.peRuns p = true ∧ p.val < s.block.pol.engines.length ∧ 2 ≤ ((s.block.pe p).recent (max s.block.sys.now ((s.block.pe p).wdAt + (s.block.pe p).wdper * msT))).length ∧ s.block.settled = true)
    ∧ (∃ (s : State) (p : Fin 2), s.block.peRuns p = true ∧ (s.block.pe p).asleep = false ∧ s.block.guardQueues p = [] ∧ ((s.block.meip p = true ∨ s.block.mtip p = true)) ∧ s.block.settled = true)
    ∧ (∃ (s : State) (p : Fin 2), s.block.peRuns p = true ∧ (s.block.pe p).asleep = false ∧ s.block.guardQueues p = [] ∧ s.block.meip p = false ∧ s.block.mtip p = false ∧ s.block.settled = true)
    ∧ (∃ (s : State) (p : Fin 2), s.block.peRuns p = true ∧ (s.block.pe p).asleep = false ∧ s.block.guardQueues p ≠ [] ∧ p.val < s.block.pol.engines.length ∧ s.block.settled = true)
    ∧ (∃ (s : State) (p : Fin 2), s.block.peLive p = true ∧ s.block.settled = true)
    ∧ (∃ (s : State) (p : Fin 2), s.block.meip p = true ∧ s.block.settled = true)
    ∧ (∃ (s : State) (p : Fin 2), s.block.meip p = false ∧ s.block.settled = true)
    ∧ (∃ (s : State), s.block.settled = true)
    ∧ (∃ (s : State), s.block.settled = true)
    ∧ (∃ (s : State), s.block.settled = true)
    ∧ (∃ (s : State), s.block.settled = true)
    ∧ (∃ (s : State), s.block.settled = true)
    ∧ (∃ (s : State), s.block.settled = true) :=
  ⟨⟨good, 1, by decide +kernel, by decide +kernel, by decide +kernel, by decide +kernel, by decide +kernel, p1_off _ good_flash good_sec _ rfl, good_fault _ rfl, by decide +kernel⟩,
   ⟨bad, 1, 10, by decide +kernel, by decide +kernel, by decide +kernel, by decide +kernel, p1_off _ bad_flash bad_sec _ rfl, bad_fault _ rfl, by decide +kernel⟩,
   ⟨(live park), 1, by decide +kernel⟩,
   ⟨(live park), 1, by decide +kernel⟩,
   ⟨(pe 1 (fun e => {e with restarts := [123400000, 123300000]}) (live park)), 1, by decide +kernel⟩,
   ⟨(pe 1 (fun e => {e with mtimecmp := 5}) (live park)), 1, by decide +kernel⟩,
   ⟨(pe 1 (fun e => {e with mtimecmp := 2^63}) (live park)), 1, by decide +kernel⟩,
   ⟨(po (fun x => {x with en := 8, route := 8}) (own 3 (fun x => {x with cq := {x.cq with mpend := 2, oldest := some 4}}) (live park))), 1, by decide +kernel⟩,
   ⟨(pe 1 (fun e => {e with mtimecmp := 123456999, asleep := true}) (live park)), 1, by decide +kernel⟩,
   ⟨(po (fun x => {x with en := 8, route := 8, pend := 8}) (live park)), 1, by decide +kernel⟩,
   ⟨(po (fun x => {x with en := 0, route := 8, pend := 8}) (live park)), 1, by decide +kernel⟩,
   ⟨park, by decide +kernel⟩,
   ⟨park, by decide +kernel⟩,
   ⟨park, by decide +kernel⟩,
   ⟨(code 0 park), by decide +kernel⟩,
   ⟨(code 0 park), by decide +kernel⟩,
   ⟨park, by decide +kernel⟩⟩

theorem witness_PolicyInstructionsExecuteTrapAndStore :
    (∃ (s : State) (p : Fin 2), ((s.block.peRuns p = false ∨ (s.block.pe p).asleep = true)) ∧ s.block.settled = true)
    ∧ (∃ (s : State) (p : Fin 2) (code : Nat), s.block.peRuns p = true ∧ (s.block.pe p).asleep = false ∧ s.block.irqDue p = some code ∧ s.block.settled = true)
    ∧ (∃ (s : State) (p : Fin 2) (w : Nat) (npc : Word), s.block.peRuns p = true ∧ (s.block.pe p).asleep = false ∧ s.block.irqDue p = none ∧ s.block.fetched p = some (w, npc) ∧ ((w % 128 = 0x37 ∨ w % 128 = 0x17)) ∧ s.block.settled = true)
    ∧ (∃ (s : State) (p : Fin 2) (w : Nat) (npc : Word), s.block.peRuns p = true ∧ (s.block.pe p).asleep = false ∧ s.block.irqDue p = none ∧ s.block.fetched p = some (w, npc) ∧ ((w % 128 = 0x6F ∨ (w % 128 = 0x67 ∧ rvF3 w = 0))) ∧ s.block.settled = true)
    ∧ (∃ (s : State) (p : Fin 2) (w : Nat) (npc : Word) (t : Bool), s.block.peRuns p = true ∧ (s.block.pe p).asleep = false ∧ s.block.irqDue p = none ∧ s.block.fetched p = some (w, npc) ∧ w % 128 = 0x63 ∧ rvBranch (rvF3 w) ((s.block.pe p).reg (rvRs1 w)) ((s.block.pe p).reg (rvRs2 w)) = some t ∧ s.block.settled = true)
    ∧ (∃ (s : State) (p : Fin 2) (w : Nat) (npc : Word), s.block.peRuns p = true ∧ (s.block.pe p).asleep = false ∧ s.block.irqDue p = none ∧ s.block.fetched p = some (w, npc) ∧ w % 128 = 0x13 ∧ ((rvF3 w ≠ 1 ∨ rvF7 w = 0)) ∧ ((rvF3 w ≠ 5 ∨ rvF7 w = 0 ∨ rvF7 w = 32)) ∧ s.block.settled = true)
    ∧ (∃ (s : State) (p : Fin 2) (w : Nat) (npc : Word), s.block.peRuns p = true ∧ (s.block.pe p).asleep = false ∧ s.block.irqDue p = none ∧ s.block.fetched p = some (w, npc) ∧ w % 128 = 0x33 ∧ ((rvF7 w = 0 ∨ rvF7 w = 1 ∨ (rvF7 w = 32 ∧ (rvF3 w = 0 ∨ rvF3 w = 5)))) ∧ s.block.settled = true)
    ∧ (∃ (s : State) (p : Fin 2) (w : Nat) (npc : Word) (va : Nat) (x : Xlat), s.block.peRuns p = true ∧ (s.block.pe p).asleep = false ∧ s.block.irqDue p = none ∧ s.block.fetched p = some (w, npc) ∧ w % 128 = 0x03 ∧ rvF3 w = 2 ∧ va = ((s.block.pe p).reg (rvRs1 w) + immI w).toNat ∧ va % 4 = 0 ∧ x = translate (s.block.pe p).regions 0 va 4 ∧ x.cause = 0 ∧ x.phys < 0x100000 ∧ inRam x.phys 4 = true ∧ s.block.settled = true)
    ∧ (∃ (s : State) (p : Fin 2) (w : Nat) (npc : Word) (va : Nat) (x : Xlat), s.block.peRuns p = true ∧ (s.block.pe p).asleep = false ∧ s.block.irqDue p = none ∧ s.block.fetched p = some (w, npc) ∧ w % 128 = 0x23 ∧ rvF3 w = 2 ∧ va = ((s.block.pe p).reg (rvRs1 w) + immS w).toNat ∧ va % 4 = 0 ∧ x = translate (s.block.pe p).regions 1 va 4 ∧ x.cause = 0 ∧ x.phys < 0x100000 ∧ inRam x.phys 4 = true ∧ s.block.pol.engines.length = 2 ∧ s.block.memoriesWf = true ∧ s.block.settled = true)
    ∧ (∃ (s : State) (p : Fin 2) (w : Nat) (npc : Word) (x : Xlat), s.block.peRuns p = true ∧ (s.block.pe p).asleep = false ∧ s.block.irqDue p = none ∧ s.block.fetched p = some (w, npc) ∧ w % 128 = 0x2F ∧ rvF3 w = 2 ∧ bitsOf 31 27 w = 2 ∧ rvRs2 w = 0 ∧ ((s.block.pe p).reg (rvRs1 w)).toNat % 4 = 0 ∧ x = translate (s.block.pe p).regions 0 ((s.block.pe p).reg (rvRs1 w)).toNat 4 ∧ x.cause = 0 ∧ inRam x.phys 4 = true ∧ s.block.settled = true)
    ∧ (∃ (s : State) (p : Fin 2) (w : Nat) (npc : Word) (x : Xlat), s.block.peRuns p = true ∧ (s.block.pe p).asleep = false ∧ s.block.irqDue p = none ∧ s.block.fetched p = some (w, npc) ∧ w % 128 = 0x2F ∧ rvF3 w = 2 ∧ bitsOf 31 27 w = 3 ∧ ((s.block.pe p).reg (rvRs1 w)).toNat % 4 = 0 ∧ x = translate (s.block.pe p).regions 1 ((s.block.pe p).reg (rvRs1 w)).toNat 4 ∧ x.cause = 0 ∧ inRam x.phys 4 = true ∧ (s.block.pe p).resv ≠ some x.phys ∧ s.block.settled = true)
    ∧ (∃ (s : State) (p : Fin 2) (w : Nat) (npc : Word) (x : Xlat), s.block.peRuns p = true ∧ (s.block.pe p).asleep = false ∧ s.block.irqDue p = none ∧ s.block.fetched p = some (w, npc) ∧ w % 128 = 0x2F ∧ rvF3 w = 2 ∧ bitsOf 31 27 w = 3 ∧ ((s.block.pe p).reg (rvRs1 w)).toNat % 4 = 0 ∧ x = translate (s.block.pe p).regions 1 ((s.block.pe p).reg (rvRs1 w)).toNat 4 ∧ x.cause = 0 ∧ inRam x.phys 4 = true ∧ (s.block.pe p).resv = some x.phys ∧ s.block.pol.engines.length = 2 ∧ s.block.memoriesWf = true ∧ s.block.settled = true)
    ∧ (∃ (s : State) (p : Fin 2) (w : Nat) (npc : Word) (x : Xlat) (v : Word), s.block.peRuns p = true ∧ (s.block.pe p).asleep = false ∧ s.block.irqDue p = none ∧ s.block.fetched p = some (w, npc) ∧ w % 128 = 0x2F ∧ rvF3 w = 2 ∧ bitsOf 31 27 w ≠ 2 ∧ bitsOf 31 27 w ≠ 3 ∧ ((s.block.pe p).reg (rvRs1 w)).toNat % 4 = 0 ∧ x = translate (s.block.pe p).regions 3 ((s.block.pe p).reg (rvRs1 w)).toNat 4 ∧ x.cause = 0 ∧ inRam x.phys 4 = true ∧ s.block.pol.engines.length = 2 ∧ rvAmo (bitsOf 31 27 w) (w32 (leNat (s.block.ramRead x.phys 4))) ((s.block.pe p).reg (rvRs2 w)) = some v ∧ (s.block.pe p).regs.length = 31 ∧ s.block.memoriesWf = true ∧ s.block.settled = true)
    ∧ (∃ (s : State) (p : Fin 2) (w : Nat) (npc : Word), s.block.peRuns p = true ∧ (s.block.pe p).asleep = false ∧ s.block.irqDue p = none ∧ s.block.fetched p = some (w, npc) ∧ w % 128 = 0x73 ∧ rvF3 w = 1 ∧ bitsOf 31 20 w = 0x340 ∧ s.block.settled = true)
    ∧ (∃ (s : State) (p : Fin 2) (npc : Word), s.block.peRuns p = true ∧ (s.block.pe p).asleep = false ∧ s.block.irqDue p = none ∧ s.block.fetched p = some (0x30200073, npc) ∧ s.block.settled = true)
    ∧ (∃ (s : State) (p : Fin 2) (npc : Word), s.block.peRuns p = true ∧ (s.block.pe p).asleep = false ∧ s.block.irqDue p = none ∧ s.block.fetched p = some (0x00000073, npc) ∧ s.block.settled = true)
    ∧ (∃ (s : State) (p : Fin 2) (w : Nat) (npc : Word), s.block.peRuns p = true ∧ (s.block.pe p).asleep = false ∧ s.block.irqDue p = none ∧ s.block.fetched p = some (w, npc) ∧ w % 128 = 0x7F ∧ s.block.vectorLoaded p = true ∧ s.block.settled = true)
    ∧ (∃ (s : State) (p : Fin 2) (x : Xlat), s.block.peRuns p = true ∧ (s.block.pe p).asleep = false ∧ s.block.irqDue p = none ∧ x = translate (s.block.pe p).regions 2 (s.block.pe p).pc.toNat 2 ∧ x.cause = 2 ∧ (s.block.pe p).active = false ∧ s.block.settled = true)
    ∧ (∃ (s : State) (p : Fin 2) (x : Xlat), s.block.peRuns p = true ∧ (s.block.pe p).asleep = false ∧ s.block.irqDue p = none ∧ p.val < s.block.pol.engines.length ∧ x = translate (s.block.pe p).regions 2 (s.block.pe p).pc.toNat 2 ∧ x.cause ≠ 0 ∧ (s.block.pe p).active = true ∧ ((s.block.pe p).recent s.block.sys.now).length < 2 ∧ s.block.settled = true)
    ∧ (∃ (s : State) (p : Fin 2) (va : Word) (x : Xlat) (off : Nat), s.block.peRuns p = true ∧ x = translate (s.block.pe p).regions 1 va.toNat 4 ∧ x.cause = 0 ∧ physTarget x.phys = .imgWrite off ∧ off % 4 = 0 ∧ (s.block.pe p).stage = { tile := none, words := List.replicate 15 none } ∧ off % 64 < 56 ∧ s.block.settled = true)
    ∧ (∃ (s : State) (p : Fin 2) (va : Word) (x : Xlat) (off : Nat) (ws : TileData), s.block.peRuns p = true ∧ x = translate (s.block.pe p).regions 1 va.toNat 4 ∧ x.cause = 0 ∧ physTarget x.phys = .imgWrite off ∧ off % 4 = 0 ∧ ws.length = 14 ∧ (s.block.pe p).stage = { tile := some (off / 64), words := (ws.map some) ++ [none] } ∧ off % 64 = 56 ∧ s.block.settled = true)
    ∧ (∃ (s : State) (p : Fin 2) (va : Word) (x : Xlat) (off : Nat), s.block.peRuns p = true ∧ x = translate (s.block.pe p).regions 1 va.toNat 4 ∧ x.cause = 0 ∧ physTarget x.phys = .imgWrite off ∧ off % 64 = 60 ∧ (s.block.pe p).active = false ∧ s.block.settled = true)
    ∧ (∃ (s : State) (p : Fin 2) (n : Nat), 1 ≤ n ∧ n ≤ 50 ∧ ((s.block.pe p).bstat = 0 ∨ (s.block.pe p).bstat = 3) ∧ s.block.settled = true)
    ∧ (∃ (s : State) (p : Fin 2) (n : Nat), ((n = 0 ∨ 50 < n ∨ (s.block.pe p).bstat = 1 ∨ (s.block.pe p).bstat = 2)) ∧ s.block.settled = true)
    ∧ (∃ (s : State) (p : Fin 2), (s.block.pe p).bstat = 1 ∧ s.block.img.copying = [] ∧ s.block.settled = true)
    ∧ (∃ (s : State) (p : Fin 2), ((s.block.pe p).bstat = 1 ∨ (s.block.pe p).bstat = 2) ∧ s.block.settled = true)
    ∧ (∃ (s : State) (p : Fin 2), (s.block.pe p).bstat = 2 ∧ s.block.settled = true)
    ∧ (∃ (s : State) (p : Fin 2) (a : Word), ((s.block.peLive p = false ∨ a.toNat % 4 ≠ 0 ∨ physTarget a.toNat = .nothing)) ∧ s.block.settled = true)
    ∧ (∃ (s : State) (p : Fin 2), s.block.peLive p = true ∧ s.block.settled = true)
    ∧ (∃ (s : State) (p : Fin 2), s.block.peLive p = true ∧ s.block.settled = true)
    ∧ (∃ (s : State) (p : Fin 2), s.block.peLive p = true ∧ (s.block.pe p).ring.en = false ∧ s.block.settled = true)
    ∧ (∃ (s : State) (p : Fin 2), s.block.peLive p = true ∧ s.block.settled = true)
    ∧ (∃ (s : State) (p : Fin 2) (c : Fin 16) (a : Word), s.block.peLive p = true ∧ a.toNat = 0x40010008 + 256 * c.val ∧ s.block.ownsCh p c = true ∧ (s.block.ch c).st = .disabled ∧ s.block.settled = true)
    ∧ (∃ (s : State) (p : Fin 2) (c : Fin 16) (a : Word), s.block.peLive p = true ∧ a.toNat % 4 = 0 ∧ 0x40010000 + 256 * c.val ≤ a.toNat ∧ a.toNat < 0x40010100 + 256 * c.val ∧ s.block.ownsCh p c = false ∧ s.block.settled = true)
    ∧ (∃ (s : State) (p : Fin 2) (k : Fin 2) (a : Word), s.block.peLive p = true ∧ a.toNat = 0x40020040 + 0x10000 * k.val ∧ (s.block.can k).set.rqOwn = p.val + 1 ∧ s.block.settled = true) :=
  ⟨⟨park, 0, by decide +kernel⟩,
   ⟨(pe 1 (fun e => {e with mtimecmp := 5, csr := {e.csr with mie := true, mtie := true, mtvec := 0x101#32}}) (live park)), 1, 7, by decide +kernel⟩,
   ⟨(code 0x123451B7 park), 1, 0x123451B7, 0x80004#32, by decide +kernel⟩,
   ⟨(code 0x010001EF park), 1, 0x010001EF, 0x80004#32, by decide +kernel⟩,
   ⟨(code 0x00209463 park), 1, 0x00209463, 0x80004#32, true, by decide +kernel⟩,
   ⟨(code 0xFFF08193 park), 1, 0xFFF08193, 0x80004#32, by decide +kernel⟩,
   ⟨(code 0x402081B3 park), 1, 0x402081B3, 0x80004#32, by decide +kernel⟩,
   ⟨(code 0x0000A183 park), 1, 0x0000A183, 0x80004#32, 0x80010, {cause := 0, region := 0, phys := 0x80010}, by decide +kernel⟩,
   ⟨(code 0x0020A223 park), 1, 0x0020A223, 0x80004#32, 0x80014, {cause := 0, region := 0, phys := 0x80014}, by decide +kernel⟩,
   ⟨(code 0x1000A1AF park), 1, 0x1000A1AF, 0x80004#32, {cause := 0, region := 0, phys := 0x80010}, by decide +kernel⟩,
   ⟨(code 0x1820A1AF park), 1, 0x1820A1AF, 0x80004#32, {cause := 0, region := 0, phys := 0x80010}, by decide +kernel⟩,
   ⟨(pe 1 (fun e => {e with resv := some 0x80010}) (code 0x1820A1AF park)), 1, 0x1820A1AF, 0x80004#32, {cause := 0, region := 0, phys := 0x80010}, by decide +kernel⟩,
   ⟨(code 0x0020A1AF park), 1, 0x0020A1AF, 0x80004#32, {cause := 0, region := 0, phys := 0x80010}, (0xAABBCCDD#32 + 0x12345678#32), by decide +kernel⟩,
   ⟨(code 0x340091F3 park), 1, 0x340091F3, 0x80004#32, by decide +kernel⟩,
   ⟨(code 0x30200073 park), 1, 0x80004#32, by decide +kernel⟩,
   ⟨(code 0x00000073 park), 1, 0x80004#32, by decide +kernel⟩,
   ⟨(code 0x0000007F park), 1, 0x0000007F, 0x80004#32, by decide +kernel⟩,
   ⟨(pe 1 (fun e => {e with pc := 0x10000000#32}) (code 0 park)), 1, {cause := 2, region := 1, phys := 0x10000000}, by decide +kernel⟩,
   ⟨(pe 1 (fun e => {e with active := true, pc := 0x10000000#32}) (code 0 park)), 1, {cause := 2, region := 1, phys := 0x10000000}, by decide +kernel⟩,
   ⟨(pe 1 (fun e => {e with stage := .empty}) (code 0 park)), 1, 0x10100084#32, {cause := 0, region := 1, phys := 0x10100084}, 0x84, by decide +kernel⟩,
   ⟨(pe 1 (fun e => {e with stage := {tile := some 2, words := (List.replicate 14 (some 3#32)) ++ [none]}}) (code 0 park)), 1, 0x101000B8#32, {cause := 0, region := 1, phys := 0x101000B8}, 0xB8, (List.replicate 14 3#32), by decide +kernel⟩,
   ⟨(code 0 park), 1, 0x101000BC#32, {cause := 0, region := 1, phys := 0x101000BC}, 0xBC, by decide +kernel⟩,
   ⟨(pe 1 (fun e => {e with bstat := 3}) park), 1, 50, by decide +kernel⟩,
   ⟨park, 1, 51, by decide +kernel⟩,
   ⟨(up (fun b => b.onImg fun g => {g with copying := []}) (pe 1 (fun e => {e with bstat := 1}) park)), 1, by decide +kernel⟩,
   ⟨(pe 1 (fun e => {e with bstat := 2}) park), 1, by decide +kernel⟩,
   ⟨(pe 1 (fun e => {e with bstat := 2, bAt := 123456700, bLen := 9}) park), 1, by decide +kernel⟩,
   ⟨(live park), 1, 0x50000000#32, by decide +kernel⟩,
   ⟨(live park), 1, by decide +kernel⟩,
   ⟨(live park), 1, by decide +kernel⟩,
   ⟨(live park), 1, by decide +kernel⟩,
   ⟨(live park), 1, by decide +kernel⟩,
   ⟨(own 2 (fun x => {x with st := .disabled}) park), 1, 2, 0x40010208#32, by decide +kernel⟩,
   ⟨(ch 2 (fun x => {x with owner := none}) (live park)), 1, 2, 0x40010210#32, by decide +kernel⟩,
   ⟨(up (fun b => onCan 1 (fun c => {c with set := {c.set with rqOwn := 2}}) b) (live park)), 1, 1, 0x40030040#32, by decide +kernel⟩⟩

theorem witness_DmaChannelsMoveBurstsAndQueuesSignal :
    (∃ (s : State) (c : Fin 16), (s.block.ch c).owner.isSome = true ∧ (s.block.ch c).st = .disabled ∧ s.block.settled = true)
    ∧ (∃ (s : State) (c : Fin 16), ((s.block.ch c).owner = none ∨ (s.block.ch c).st ≠ .disabled) ∧ s.block.settled = true)
    ∧ (∃ (s : State) (c : Fin 16), (s.block.ch c).st ≠ .disabled ∧ (s.block.ch c).st ≠ .stopping ∧ (s.block.ch c).cur = none ∧ (s.block.ch c).rput = (s.block.ch c).rget ∧ s.block.settled = true)
    ∧ (∃ (s : State) (c : Fin 16) (d : DmaDesc), (s.block.ch c).st ≠ .disabled ∧ (s.block.ch c).st ≠ .stopping ∧ (s.block.ch c).cur = some d ∧ (s.block.ch c).rput = (s.block.ch c).rget ∧ (s.block.ch c).cq.waiting = [] ∧ (s.block.ch c).cq.count < (s.block.ch c).cq.size ∧ c.val < s.block.pol.chans.length ∧ s.block.settled = true)
    ∧ (∃ (s : State) (c : Fin 16), (s.block.ch c).st = .stopping ∧ (s.block.ch c).cq.waiting = [] ∧ s.block.settled = true)
    ∧ (∃ (s : State) (c : Fin 16) (v : Nat), (v % 8192 + 8192 - (s.block.ch c).rget) % 8192 ≤ (s.block.ch c).rsize ∧ ((s.block.ch c).st = .idle ∨ (s.block.ch c).st = .running) ∧ s.block.settled = true)
    ∧ (∃ (s : State) (c : Fin 16) (v : Nat), (s.block.ch c).rsize < (v % 8192 + 8192 - (s.block.ch c).rget) % 8192 ∧ s.block.settled = true)
    ∧ (∃ (s : State) (c : Fin 16), (s.block.ch c).st = .halted ∧ s.block.settled = true)
    ∧ (∃ (s : State) (c : Fin 16), (s.block.ch c).st ≠ .halted ∧ s.block.settled = true)
    ∧ (∃ (s : State), (∀ c < 16, s.block.chWorks c = false) ∧ s.block.settled = true)
    ∧ (∃ (s : State) (c : Fin 16) (p : Nat) (d : DmaDesc) (x : Xlat) (y : Xlat), (∀ j < 16, s.block.chWorks j = true → s.block.chRoom j = true) ∧ s.block.winner = some c.val ∧ (s.block.ch c).owner = some p ∧ (s.block.ch c).cur = some d ∧ d.tile = false ∧ d.moved + d.burst < d.len ∧ x = translate (s.block.pe p).regions 0 d.srcNow d.burst ∧ x.cause = 0 ∧ y = translate (s.block.pe p).regions 1 d.dstNow d.burst ∧ y.cause = 0 ∧ x.phys < 0x100000 ∧ inRam x.phys d.burst = true ∧ y.phys < 0x100000 ∧ inRam y.phys d.burst = true ∧ s.block.pol.engines.length = 2 ∧ s.block.memoriesWf = true ∧ c.val < s.block.pol.chans.length ∧ s.block.settled = true)
    ∧ (∃ (s : State) (c : Fin 16) (p : Nat) (d : DmaDesc) (x : Xlat) (y : Xlat), (∀ j < 16, s.block.chWorks j = true → s.block.chRoom j = true) ∧ s.block.winner = some c.val ∧ (s.block.ch c).owner = some p ∧ (s.block.ch c).cur = some d ∧ d.tile = false ∧ d.len ≤ d.moved + d.burst ∧ x = translate (s.block.pe p).regions 0 d.srcNow d.burst ∧ x.cause = 0 ∧ y = translate (s.block.pe p).regions 1 d.dstNow d.burst ∧ y.cause = 0 ∧ x.phys < 0x100000 ∧ inRam x.phys d.burst = true ∧ y.phys < 0x100000 ∧ inRam y.phys d.burst = true ∧ c.val < s.block.pol.chans.length ∧ s.block.settled = true)
    ∧ (∃ (s : State) (c : Fin 16) (p : Nat) (d : DmaDesc) (x : Xlat), (∀ j < 16, s.block.chWorks j = true → s.block.chRoom j = true) ∧ s.block.winner = some c.val ∧ (s.block.ch c).owner = some p ∧ (s.block.ch c).cur = some d ∧ x = translate (s.block.pe p).regions 0 d.srcNow d.burst ∧ x.cause = 2 ∧ c.val < s.block.pol.chans.length ∧ s.block.settled = true)
    ∧ (∃ (s : State) (c : Fin 16), s.block.chWorks c = true ∧ s.block.chRoom c = false ∧ (∀ j < 16, j ≠ c.val → s.block.chWorks j = false) ∧ c.val < s.block.pol.chans.length ∧ s.block.settled = true)
    ∧ (∃ (s : State) (q : Fin 20) (v : Nat), (v % 8192 + 8192 - (s.block.cq (cqAt q)).get) % 8192 ≤ ((s.block.cq (cqAt q)).put + 8192 - (s.block.cq (cqAt q)).get) % 8192 ∧ s.block.pol.engines.length = 2 ∧ s.block.pol.chans.length = 16 ∧ (∀ e ∈ s.block.pol.engines, e.ring.stopping = false) ∧ (s.block.cq (cqAt q)).waiting = [] ∧ s.block.settled = true)
    ∧ (∃ (s : State) (q : Fin 20) (v : Nat), ((s.block.cq (cqAt q)).put + 8192 - (s.block.cq (cqAt q)).get) % 8192 < (v % 8192 + 8192 - (s.block.cq (cqAt q)).get) % 8192 ∧ s.block.settled = true)
    ∧ (∃ (s : State) (q : Fin 20) (t : Nat), (s.block.cq (cqAt q)).oldest = some t ∧ (s.block.cq (cqAt q)).mtime ≠ 0 ∧ (s.block.cq (cqAt q)).mpend ≠ 0 ∧ s.block.pol.engines.length = 2 ∧ s.block.pol.chans.length = 16 ∧ s.block.settled = true) :=
  ⟨⟨(own 2 (fun x => {x with st := .disabled, rput := 4}) park), 2, by decide +kernel⟩,
   ⟨park, 2, by decide +kernel⟩,
   ⟨(own 2 id park), 2, by decide +kernel⟩,
   ⟨(own 2 (fun x => {x with cur := some (dsc 0x80010 0x80700 16 4)}) park), 2, (dsc 0x80010 0x80700 16 4), by decide +kernel⟩,
   ⟨(own 2 (fun x => {x with st := .stopping}) park), 2, by decide +kernel⟩,
   ⟨(own 2 id park), 2, 4, by decide +kernel⟩,
   ⟨(own 2 id park), 2, 5, by decide +kernel⟩,
   ⟨(own 2 (fun x => {x with st := .halted, rput := 1}) park), 2, by decide +kernel⟩,
   ⟨park, 2, by decide +kernel⟩,
   ⟨park, by decide +kernel⟩,
   ⟨(brx (dsc 0x8000C 0x807F0 100 0) park), 2, 1, (dsc 0x8000C 0x807F0 100 0), {cause := 0, region := 0, phys := 0x8000C}, {cause := 0, region := 0, phys := 0x807F0}, by decide +kernel⟩,
   ⟨(brx (dsc 0x8000C 0x00700 10 0) park), 2, 1, (dsc 0x8000C 0x00700 10 0), {cause := 0, region := 0, phys := 0x8000C}, {cause := 0, region := 0, phys := 0x00700}, by decide +kernel⟩,
   ⟨(pe 1 (fun e => {e with regions := e.regions.map fun r => {r with r := false}}) (brx (dsc 0x8000C 0x00700 10 0) park)), 2, 1, (dsc 0x8000C 0x00700 10 0), {cause := 2, region := 0, phys := 0x8000C}, by decide +kernel⟩,
   ⟨(own 2 (fun x => {x with cq := {x.cq with put := 4}}) park), 2, by decide +kernel⟩,
   ⟨(own 2 (fun x => {x with cq := {x.cq with put := 4, full := true}}) park), 2, 1, by decide +kernel⟩,
   ⟨(own 2 id park), 2, 1, by decide +kernel⟩,
   ⟨(own 2 (fun x => {x with cq := {x.cq with mpend := 1, oldest := some 123456700, mtime := 6}}) park), 2, 123456700, by decide +kernel⟩⟩

theorem witness_InterruptsRingsAndFramePortsServeTheEngines :
    (∃ (s : State) (p : Fin 2) (i : Fin 128), s.block.delivered_ p i = true ∧ s.block.irqLevel i = false ∧ s.block.settled = true)
    ∧ (∃ (s : State) (p : Fin 2) (i : Fin 128), s.block.delivered_ p i = true ∧ s.block.irqLevel i = true ∧ s.block.settled = true)
    ∧ (∃ (s : State) (p : Fin 2) (i : Fin 128), s.block.delivered_ p i = false ∧ s.block.settled = true)
    ∧ (∃ (s : State), s.block.settled = true)
    ∧ (∃ (s : State), s.block.settled = true)
    ∧ (∃ (s : State) (t : Fin 8) (x : PolTimer), s.block.pol.timers[t.val]? = some x ∧ x.per ≠ 0 ∧ s.block.settled = true)
    ∧ (∃ (s : State) (t : Fin 8) (x : PolTimer), s.block.pol.timers[t.val]? = some x ∧ x.per = 0 ∧ s.block.settled = true)
    ∧ (∃ (s : State), s.block.settled = true)
    ∧ (∃ (s : State) (i : Fin 128), s.block.pol.pend.testBit i = false ∧ s.block.settled = true)
    ∧ (∃ (s : State) (p : Fin 2), s.block.sys.mstate ≠ .off ∧ (s.block.pe p).ring.en = true ∧ (s.block.pe p).ring.stopping = false ∧ (s.block.pe p).ring.rput ≠ (s.block.pe p).ring.rget ∧ s.block.paused = false ∧ (s.block.pe p).ring.running.length < 8 ∧ (s.block.pe p).ring.cq.size ≤ (s.block.pe p).ring.cq.count ∧ s.block.settled = true)
    ∧ (∃ (s : State) (p : Fin 2) (e : RingEntry), s.block.sys.mstate ≠ .off ∧ (s.block.pe p).ring.en = true ∧ (s.block.pe p).ring.stopping = false ∧ (s.block.pe p).ring.rput ≠ (s.block.pe p).ring.rget ∧ s.block.paused = false ∧ (s.block.pe p).ring.running = [] ∧ (s.block.pe p).ring.cq.waiting = [] ∧ (s.block.pe p).ring.cq.count < (s.block.pe p).ring.cq.size ∧ s.block.ringEntry p (s.block.pe p).ring.rget = some e ∧ e.opcode = 0xFFFF ∧ p.val < s.block.pol.engines.length ∧ s.block.settled = true)
    ∧ (∃ (s : State) (p : Fin 2) (e : RingEntry), s.block.sys.mstate ≠ .off ∧ (s.block.pe p).ring.en = true ∧ (s.block.pe p).ring.stopping = false ∧ (s.block.pe p).ring.rput ≠ (s.block.pe p).ring.rget ∧ s.block.paused = false ∧ (s.block.pe p).ring.running = [] ∧ (s.block.pe p).ring.cq.waiting = [] ∧ (s.block.pe p).ring.cq.count < (s.block.pe p).ring.cq.size ∧ s.block.ringEntry p (s.block.pe p).ring.rget = some e ∧ e.opcode = 0x0103 ∧ e.length = 0 ∧ s.block.granted p 0x0103 = true ∧ 6 ≤ e.rcap ∧ e.rcap < 65536 ∧ s.block.vwritable p e.rply 6 = true ∧ p.val < s.block.pol.engines.length ∧ s.block.settled = true)
    ∧ (∃ (s : State) (p : Fin 2), ((s.block.pe p).ring.en = false ∨ (s.block.pe p).ring.rput = (s.block.pe p).ring.rget ∨ s.block.paused = true) ∧ s.block.settled = true)
    ∧ (∃ (s : State) (p : Fin 2), (s.block.pe p).port.busy = false ∧ ((s.block.pe p).port.sends.filter fun t => decide (s.block.sys.now < t + secT)).length < 1000 ∧ 1 ≤ (s.block.pe p).port.flen ∧ (s.block.pe p).port.flen ≤ 1472 ∧ s.block.n0Up = true ∧ s.block.settled = true)
    ∧ (∃ (s : State) (p : Fin 2), ((s.block.pe p).port.busy = true ∨ 1000 ≤ ((s.block.pe p).port.sends.filter fun t => decide (s.block.sys.now < t + secT)).length) ∧ s.block.settled = true) :=
  ⟨⟨(po (fun x => {x with pend := 24, en := 8, route := 8}) (live park)), 1, 3, by decide +kernel⟩,
   ⟨(up (fun b => onCan 0 (fun c => {c with rqPut := 3, rqGet := 1}) b) (po (fun x => {x with pend := 2^36, en := 2^36, route := 2^36}) (live park))), 1, 36, by decide +kernel⟩,
   ⟨(po (fun x => {x with pend := 24, en := 8, route := 0}) (live park)), 1, 3, by decide +kernel⟩,
   ⟨park, by decide +kernel⟩,
   ⟨park, by decide +kernel⟩,
   ⟨(po (fun x => {x with timers := List.replicate 8 {per := 8, start := 123456700}}) park), 7, {per := 8, start := 123456700}, by decide +kernel⟩,
   ⟨(po (fun x => {x with timers := List.replicate 8 {per := 0, start := 123456700}}) park), 7, {per := 0, start := 123456700}, by decide +kernel⟩,
   ⟨(po (fun x => {x with pend := 2^50, en := 2^50}) park), by decide +kernel⟩,
   ⟨(po (fun x => {x with rdir := 2^50}) park), 50, by decide +kernel⟩,
   ⟨(rg (fun r => {r with cq := {r.cq with put := 4}}) park), 1, by decide +kernel⟩,
   ⟨(ent 0xFFFF 0 0 park), 1, (RE 0xFFFF 0 0), by decide +kernel⟩,
   ⟨(ent 0x0103 0 6 park), 1, (RE 0x0103 0 6), by decide +kernel⟩,
   ⟨(rg (fun r => {r with en := false}) park), 1, by decide +kernel⟩,
   ⟨(pe 1 (fun e => {e with port := {e.port with busy := false, sends := [5, 123456000], flen := 20, tsreq := true}}) (se (fun x => {x with halted := []}) (sy (fun y => {y with engSvc := List.replicate 15 true}) park))), 1, by decide +kernel⟩,
   ⟨(pe 1 (fun e => {e with port := {e.port with busy := true}}) park), 1, by decide +kernel⟩⟩

end W13

namespace W14
def pw (f : PwrPart → PwrPart) (s : State) := up (fun b => b.onPwr f) s
def se (f : SecPart → SecPart) (s : State) := up (fun b => b.onSec f) s
def sy (f : SysPart → SysPart) (s : State) := up (fun b => b.onSys f) s
def la (f : LatchPart → LatchPart) (s : State) := up (fun b => b.onLatch f) s
def ud (f : UpdPart → UpdPart) (s : State) := up (fun b => b.onUpd f) s
def lanesUp (s : State) := up (fun b => b.onLeash fun l => {l with lanes := [{up := true, hold := none, downs := [], lastSync := 5}, {up := true, hold := none, downs := [1,2,3], lastSync := 6}]}) s
def ringUp (s : State) := up (fun b => b.onRing fun r => {r with rungs := List.replicate 17 true}) s
def feeds (a c : Bool) (s : State) := pw (fun p => {p with feeds := [{ok := a, low := false},{ok := c, low := false}]}) s
def runEntry (s : State) := up (fun b => acceptRequest S 0x0B02 [] true b) s
def noFloor (s : State) := la (fun l => {l with copyA := List.replicate 256 0#8, copyB := List.replicate 256 0#8}) s
def ent : CacheEntry := {seq := 5, opcode := 0, params := [], accepted := 0, mtu := 0, running := true, started := true, status := 0, data := []}
def rel (s : State) := se (fun x => {x with released := true, halted := []}) (pw (fun p => {p with resCtl := false, hold := none, resOk := true, kenOk := true, stateDue := none, lossDue := false}) s)
def relH (s : State) := pw (fun p => {p with hold := some 123400000, hcause := 1, resOk := true, kenOk := true}) (rel s)
def svOff (s : State) := sy (fun y => {y with engSvc := List.replicate 15 false}) (rel s)

theorem witness_SuppliesFailAndReturn :
    (∃ (s : State) (n : Fin 2), s.block.feedOk n = true ∧ s.block.feedOk (1 - n.val) = true ∧ s.block.settled = true)
    ∧ (∃ (s : State) (n : Fin 2), s.block.feedOk n = true ∧ s.block.feedOk (1 - n.val) = false ∧ ((List.range 4).all fun k => !s.block.tpRuns k) = true ∧ s.block.settled = true)
    ∧ (∃ (s : State) (n : Fin 2), s.block.feedOk n = false ∧ n.val < s.block.pwr.feeds.length ∧ s.block.settled = true)
    ∧ (∃ (s : State) (n : Fin 2), s.block.pwr.feeds[n.val]? = some { ok := true, low := false } ∧ s.block.settled = true)
    ∧ (∃ (s : State), s.block.pwr.hubOn = true ∧ s.block.settled = true)
    ∧ (∃ (s : State), s.block.pwr.hubOn = false ∧ s.block.settled = true)
    ∧ (∃ (s : State), s.block.sys.mstate ≠ .off ∧ s.block.pfWarn = false ∧ s.block.settled = true)
    ∧ (∃ (s : State), s.block.pfWarn = true ∧ s.block.upd.waiting = none ∧ s.block.settled = true)
    ∧ (∃ (s : State) (i : Nat) (q : Nat) (e : CacheEntry) (off : Nat) (data : List Byte), s.block.pfWarn = true ∧ s.block.upd.waiting = some (.session i q, off, data) ∧ s.block.entry? i q = some e ∧ e.running = true ∧ s.block.settled = true)
    ∧ (∃ (s : State) (t : Nat), s.block.pwr.pfAt = some t ∧ s.block.pwr.lost = false ∧ s.block.pwr.lossDue = false ∧ s.block.hinge = false ∧ s.block.upd.waiting = none ∧ s.block.settled = true)
    ∧ (∃ (s : State) (t : Nat), s.block.pwr.pfAt = some t ∧ s.block.pwr.lost = false ∧ s.block.pwr.lossDue = false ∧ s.block.hinge = true ∧ s.block.settled = true)
    ∧ (∃ (s : State), s.block.sys.mstate ≠ .off ∧ s.block.settled = true)
    ∧ (∃ (s : State) (t : Nat), s.block.leash.silentAt = some t ∧ s.block.sys.mstate = .off ∧ s.block.pwr.hubOn = true ∧ s.block.settled = true)
    ∧ (∃ (s : State), s.block.sys.mstate ≠ .off ∧ s.block.settled = true) :=
  ⟨⟨(feeds true true park), 1, by decide +kernel⟩,
   ⟨(noFloor (feeds true false park)), 0, by decide +kernel⟩,
   ⟨(feeds true false park), 1, by decide +kernel⟩,
   ⟨(feeds true false park), 0, by decide +kernel⟩,
   ⟨(pw (fun p => {p with hubOn := true}) park), by decide +kernel⟩,
   ⟨(pw (fun p => {p with hubOn := false}) park), by decide +kernel⟩,
   ⟨park, by decide +kernel⟩,
   ⟨(pw (fun p => {p with pfAt := some 3}) park), by decide +kernel⟩,
   ⟨(ud (fun u => {u with waiting := some (S, 1024, [3#8])}) (runEntry (pw (fun p => {p with pfAt := some 3}) park))), 0, 5, (((runEntry park).block.entry? 0 5).getD ent), 1024, [3#8], by decide +kernel⟩,
   ⟨(pw (fun p => {p with pfAt := some 3}) park), 3, by decide +kernel⟩,
   ⟨(pw (fun p => {p with pfAt := some 3}) runH), 3, by decide +kernel⟩,
   ⟨park, by decide +kernel⟩,
   ⟨(up (fun b => b.onLeash fun l => {l with silentAt := some 4}) (pw (fun p => {p with hubOn := true}) off)), 4, by decide +kernel⟩,
   ⟨park, by decide +kernel⟩⟩

theorem witness_ReserveTakesOverUnderAHold :
    (∃ (s : State), s.block.sys.mstate ≠ .off ∧ s.block.sec.released = true ∧ s.block.hinge = false ∧ s.block.settled = true)
    ∧ (∃ (s : State), s.block.sys.mstate ≠ .off ∧ s.block.sec.released = true ∧ s.block.hinge = false ∧ s.block.settled = true)
    ∧ (∃ (s : State), s.block.sys.mstate ≠ .off ∧ s.block.sec.released = true ∧ s.block.settled = true)
    ∧ (∃ (s : State), s.block.sys.mstate ≠ .off ∧ s.block.sec.released = true ∧ s.block.pwr.resCtl = false ∧ s.block.hinge = false ∧ s.block.settled = true)
    ∧ (∃ (s : State), s.block.sys.mstate ≠ .off ∧ s.block.sec.released = true ∧ s.block.pwr.resCtl = false ∧ s.block.engIn 0 = true ∧ s.block.activating = false ∧ s.block.sec.halted.getD 0 false = false ∧ s.block.settled = true)
    ∧ (∃ (s : State), s.block.sec.halted.getD 0 false = true ∧ s.block.settled = true)
    ∧ (∃ (s : State), s.block.sys.mstate ≠ .off ∧ s.block.sec.released = true ∧ s.block.pwr.resCtl = false ∧ s.block.engIn 0 = true ∧ s.block.activating = false ∧ s.block.settled = true)
    ∧ (∃ (s : State), s.block.sys.mstate ≠ .off ∧ s.block.sec.released = true ∧ s.block.pwr.resCtl = false ∧ s.block.engIn 0 = true ∧ s.block.activating = false ∧ s.block.settled = true)
    ∧ (∃ (s : State) (t : Nat), s.block.pwr.cleanAt = some t ∧ s.block.pwr.resCtl = true ∧ s.block.hinge = false ∧ s.block.pwr.leadHeld = false ∧ s.block.settled = true)
    ∧ (∃ (s : State) (t : Nat), s.block.pwr.hold = some t ∧ s.block.pwr.hcause = 1 ∧ s.block.upd.pauseAt = none ∧ s.block.pwr.resCtl = false ∧ s.block.pwr.resOk = true ∧ s.block.pwr.kenOk = true ∧ s.block.pwr.stateDue = none ∧ s.block.pwr.lossDue = false ∧ s.block.waitingRequests = [] ∧ s.block.ix.held = [] ∧ s.block.latch.state.acting = false ∧ s.block.settled = true)
    ∧ (∃ (s : State) (t : Nat) (m : MState) (c : Nat) (op : List Nat), s.block.pwr.hold = some t ∧ s.block.pwr.hcause = 1 ∧ s.block.upd.pauseAt = none ∧ s.block.pwr.resCtl = false ∧ s.block.pwr.resOk = true ∧ s.block.pwr.kenOk = true ∧ s.block.pwr.stateDue = some (m, c, op) ∧ s.block.latch.state.acting = false ∧ s.block.pwr.lossDue = false ∧ s.block.waitingRequests = [] ∧ s.block.ix.held = [] ∧ s.block.settled = true)
    ∧ (∃ (s : State) (t : Nat) (a : Nat), s.block.pwr.hold = some t ∧ s.block.pwr.hcause = 3 ∧ s.block.upd.pauseAt = none ∧ s.block.pwr.cleanAt = some a ∧ s.block.pwr.stateDue = none ∧ s.block.pwr.lossDue = false ∧ s.block.waitingRequests = [] ∧ s.block.ix.held = [] ∧ s.block.latch.state.acting = false ∧ s.block.settled = true)
    ∧ (∃ (s : State) (t : Nat), s.block.pwr.hold = some t ∧ s.block.upd.pauseAt = none ∧ s.block.pwr.stateDue = none ∧ s.block.pwr.lossDue = false ∧ s.block.waitingRequests = [] ∧ s.block.ix.held = [] ∧ s.block.latch.state.acting = false ∧ s.block.settled = true) :=
  ⟨⟨(rel park), by decide +kernel⟩,
   ⟨(rel park), by decide +kernel⟩,
   ⟨(rel park), by decide +kernel⟩,
   ⟨(rel park), by decide +kernel⟩,
   ⟨(up (startSave 2) (rel park)), by decide +kernel⟩,
   ⟨(se (fun x => {x with halted := [true]}) (rel park)), by decide +kernel⟩,
   ⟨(rel park), by decide +kernel⟩,
   ⟨(relH park), by decide +kernel⟩,
   ⟨(pw (fun p => {p with resCtl := true, cleanAt := some 7, leadHeld := false}) (rel park)), 7, by decide +kernel⟩,
   ⟨(relH park), 123400000, by decide +kernel⟩,
   ⟨(pw (fun p => {p with stateDue := some (.fault, 3, [])}) (relH park)), 123400000, .fault, 3, [], by decide +kernel⟩,
   ⟨(pw (fun p => {p with hcause := 3, resCtl := true, cleanAt := some 8}) (relH park)), 123400000, 8, by decide +kernel⟩,
   ⟨(relH park), 123400000, by decide +kernel⟩⟩

theorem witness_FailedPartsHandOverToTheirBackups :
    (∃ (s : State) (k : Fin 2), s.block.sys.mstate ≠ .off ∧ (s.block.lane k).up = true ∧ s.block.settled = true)
    ∧ (∃ (s : State) (r : Fin 17), s.block.sys.mstate ≠ .off ∧ r.val ≤ s.block.nSeg ∧ s.block.rungUp r = true ∧ s.block.rungsDown = 0 ∧ s.block.settled = true)
    ∧ (∃ (s : State) (n : Fin 16), s.block.sys.mstate ∈ [MState.boot, .park, .run, .hibernate] ∧ s.block.hinge = false ∧ n.val < s.block.nSeg ∧ s.block.settled = true)
    ∧ (∃ (s : State), s.block.sys.mstate ≠ .off ∧ s.block.sense.isel2 = false ∧ s.block.sense.iSecOk = true ∧ s.block.settled = true)
    ∧ (∃ (s : State), s.block.sys.mstate ≠ .off ∧ s.block.sense.iSecOk = true ∧ s.block.sense.iPriOk = true ∧ s.block.settled = true)
    ∧ (∃ (s : State), s.block.sys.mstate ≠ .off ∧ s.block.sense.vsel2 = false ∧ s.block.settled = true)
    ∧ (∃ (s : State) (e : Engine), s.block.sys.mstate ≠ .off ∧ e ∈ [Engine.f0, .f1, .f2, .f3] ∧ s.block.engIn e.ctorIdx = true ∧ s.block.activating = false ∧ ([Engine.f0, .f1, .f2, .f3].any fun d => decide (d ≠ e) && s.block.engIn d.ctorIdx) = true ∧ s.block.settled = true)
    ∧ (∃ (s : State) (e : Engine), s.block.sys.mstate ≠ .off ∧ e ∈ [Engine.f0, .f1, .f2, .f3] ∧ s.block.engIn e.ctorIdx = true ∧ s.block.activating = false ∧ ([Engine.f0, .f1, .f2, .f3].any fun d => decide (d ≠ e) && s.block.engIn d.ctorIdx) = false ∧ s.block.settled = true)
    ∧ (∃ (s : State) (e : Engine), s.block.sys.mstate ≠ .off ∧ e ∈ [Engine.c0, .c1] ∧ s.block.engIn e.ctorIdx = true ∧ s.block.activating = false ∧ s.block.settled = true)
    ∧ (∃ (s : State) (e : Engine), s.block.sys.mstate ≠ .off ∧ e ∈ [Engine.s0, .s1, .p0, .p1] ∧ s.block.engIn e.ctorIdx = true ∧ s.block.activating = false ∧ s.block.settled = true)
    ∧ (∃ (s : State), s.block.sys.mstate ≠ .off ∧ s.block.engIn 12 = true ∧ s.block.activating = false ∧ (s.block.ix.owner.all fun i => decide (i < 4) && (s.block.session i).isOpen) = true ∧ s.block.settled = true)
    ∧ (∃ (s : State) (e : Engine), s.block.sys.mstate ≠ .off ∧ e ∈ [Engine.sa, .sb] ∧ s.block.engIn e.ctorIdx = true ∧ s.block.latch.powered = true ∧ s.block.latch.state = .armed ∧ s.block.settled = true)
    ∧ (∃ (s : State), s.block.sys.mstate ≠ .off ∧ s.block.sec.released = true ∧ s.block.pwr.resCtl = false ∧ s.block.engIn 0 = true ∧ s.block.activating = false ∧ s.block.settled = true)
    ∧ (∃ (s : State), s.block.sys.mstate ≠ .off ∧ s.block.pwr.resCtl = false ∧ s.block.settled = true)
    ∧ (∃ (s : State) (n : Fin 2), s.block.sys.mstate ≠ .off ∧ s.block.feedOk n = true ∧ s.block.feedOk (1 - n.val) = true ∧ s.block.settled = true)
    ∧ (∃ (s : State), s.block.sys.mstate ≠ .off ∧ s.block.settled = true)
    ∧ (∃ (s : State), s.block.sys.mstate ≠ .off ∧ s.block.settled = true)
    ∧ (∃ (s : State), s.block.sys.mstate ≠ .off ∧ (s.block.net.cages.any fun g => g.up) = true ∧ s.block.settled = true)
    ∧ (∃ (s : State), s.block.sys.mstate ≠ .off ∧ s.block.pwr.sdsOk = true ∧ s.block.settled = true)
    ∧ (∃ (s : State), s.block.sys.mstate ≠ .off ∧ s.block.settled = true)
    ∧ (∃ (s : State), s.block.sys.mstate ≠ .off ∧ s.block.settled = true)
    ∧ (∃ (s : State) (p : Part × Nat), s.block.sys.mstate ≠ .off ∧ s.block.log.fast = [] ∧ p ∈ [(Part.feedDiode 0, Event.feedLost.code), (.feedDiode 1, Event.feedLost.code), (.holdupStore, Event.holdupLow.code), (.coreRegulator 0, Event.regFault.code), (.coreRegulator 1, Event.regFault.code), (.latRegulator 0, Event.regFault.code), (.latRegulator 1, Event.regFault.code)] ∧ s.block.settled = true)
    ∧ (∃ (s : State), s.block.sys.mstate ≠ .off ∧ s.block.log.fast = [] ∧ s.block.settled = true)
    ∧ (∃ (s : State) (e : Engine), s.block.sys.mstate ≠ .off ∧ s.block.sec.released = true ∧ e ∈ [Engine.f0, .f1, .f2, .f3, .c0, .c1, .s0, .s1] ∧ s.block.engIn e.ctorIdx = false ∧ s.block.settled = true)
    ∧ (∃ (s : State) (e : Engine), s.block.sys.mstate ≠ .off ∧ s.block.sec.released = true ∧ e ∈ [Engine.sa, .sb] ∧ s.block.latch.lockstep = false ∧ s.block.settled = true)
    ∧ (∃ (s : State), s.block.sys.mstate ≠ .off ∧ s.block.sec.released = true ∧ s.block.pwr.resCtl = true ∧ s.block.pwr.leadHeld = false ∧ s.block.pwr.cleanAt = none ∧ s.block.settled = true) :=
  ⟨⟨(lanesUp park), 0, by decide +kernel⟩,
   ⟨(ringUp park), 3, by decide +kernel⟩,
   ⟨park, 3, by decide +kernel⟩,
   ⟨(up (fun b => b.onSense fun x => {x with isel2 := false, iSecOk := true}) park), by decide +kernel⟩,
   ⟨(up (fun b => b.onSense fun x => {x with iPriOk := true, iSecOk := true}) park), by decide +kernel⟩,
   ⟨(up (fun b => b.onSense fun x => {x with vsel2 := false}) park), by decide +kernel⟩,
   ⟨park, .f2, by decide +kernel⟩,
   ⟨(sy (fun y => {y with engSvc := (List.replicate 15 false).set 6 true}) park), .f2, by decide +kernel⟩,
   ⟨park, .c1, by decide +kernel⟩,
   ⟨park, .s0, by decide +kernel⟩,
   ⟨park, by decide +kernel⟩,
   ⟨park, .sb, by decide +kernel⟩,
   ⟨(rel park), by decide +kernel⟩,
   ⟨(rel park), by decide +kernel⟩,
   ⟨(feeds true true park), 1, by decide +kernel⟩,
   ⟨park, by decide +kernel⟩,
   ⟨park, by decide +kernel⟩,
   ⟨(up (fun b => b.onNet fun n => {n with cages := n.cages.map fun g => {g with up := true}}) park), by decide +kernel⟩,
   ⟨(pw (fun p => {p with sdsOk := true}) park), by decide +kernel⟩,
   ⟨park, by decide +kernel⟩,
   ⟨park, by decide +kernel⟩,
   ⟨(up (fun b => b.onLog fun g => {g with fast := []}) park), (.coreRegulator 1, Event.regFault.code), by decide +kernel⟩,
   ⟨(up (fun b => b.onLog fun g => {g with fast := []}) park), by decide +kernel⟩,
   ⟨(svOff park), .c0, by decide +kernel⟩,
   ⟨(la (fun l => {l with lockstep := false}) (rel park)), .sa, by decide +kernel⟩,
   ⟨(pw (fun p => {p with resCtl := true, leadHeld := false, cleanAt := none}) (rel park)), by decide +kernel⟩⟩

end W14

namespace W15
def zf (s : State) := up (fun b => b.onUpd fun u => {u with flash := [(28, 0#8), (0x100001C, 0#8)]}) s
def se (f : SecPart → SecPart) (s : State) := up (fun b => b.onSec f) s
def la (f : LatchPart → LatchPart) (s : State) := up (fun b => b.onLatch f) s
def ud (f : UpdPart → UpdPart) (s : State) := up (fun b => b.onUpd f) s
def rA (t : Bool) (n : Nat) (s : State) := ud (fun u => {u with recA := {valid := true, gen := 4, active := 1, trial := t, prev := 0, tries := n, abver := 0, pbver := 0, actTime := 0}, recB := {valid := false, gen := 9, active := 1, trial := t, prev := 0, tries := n, abver := 0, pbver := 0, actTime := 0}}) s
def acted (s : State) := la (fun l => {l with powered := true, state := .acted, muzzle := true, causes := [(1,1)]}) s
def dbg (n : Nat) (s : State) := se (fun x => {x with dstate := n, openEnd := some 5}) (la (fun l => {l with lockstep := true, answering := true}) s)
def K : List Byte := (leBytes 48 0xaa87ca22be8b05378eb1c71ef320ad746e1d3b628ba79b9859f741e082542a385502f25dbf55296c3a545e3872760ab7).reverse ++ (leBytes 48 0x3617de4a96262c6f5d9e98bf9292dc29f8f41dbd289a147ce9da3113b5f0b8c00a60b1ce1d7e819d7a431d7c90ea0e5f).reverse
def Z96 : List Byte := List.replicate 96 0#8
def keyed (s : State) := se (fun x => {x with closing := false, dstate := 0, ksA := {x.ksA with valid := true, keys := [some K, none, none, none]}, nonce := some (0, 1, [1#8], 1000)}) s
def boot0 (s : State) := se (fun x => {x with released := false, dead := false, loaded := false}) s
def boot1 (s : State) := se (fun x => {x with released := true, dead := false, loaded := false}) s
def Q : List Byte := (leBytes 96 354437242072002134449187735563487656751099462580555493141143486688559462843495823070208423651194795472691610570769275998398587988558101323287215997509427075475733174940939328229172667866979514401954728108776801596496837313305042449)
def sig1 : List Byte := (leBytes 96 1209434742032871629980655899124020885602684709584840575105481283707073416583159769664046719372456504617006696818416881927660953252607765597166474894036334158052520752424668851276524853041872122397003254011617487370174087473489853480)
def sig2 : List Byte := (leBytes 96 1306518690555688639297441751325718526115135942034092227601496697024518901137903553402688926784277390029256068178940118804677789750595076187292156142557817231644839844764631037238735861121482788565101708169296294327544411752085929000)
def sigE : List Byte := (leBytes 96 716436638236925710229817991117472316264446978367133434240646885236374119028003810753031835812934267537689246385247032538257798317080802116598128173899085768668426377960036491695122310191470655029862886956612636966345825724219079720)
def sigR : List Byte := (leBytes 96 1135932673825496448841614535388460948725418447351973714733243358598754665705718349695494946015939097167190419132260227758958993807785615440693134028322710718901813992577513672936789272408402580959715190608502143636324738766487764008)
def imgB : List Byte := (leBytes 256 46216626701436212476273182164864931557992648563035833112652600017881468492874131451199053935676526881020132794376876102714889755803798723865319329736611580026341491960357127381392092921145388548882992422704046719487830850823194000702157220981562520876676337626692486574773058752090890461853986728531380611806010800564445486229059684632297275721833478679179422828190814930727809075021854104593642970019128316233156594992323238189768382869129840066642749584699410816477056384465844345340233274286316008655100379286165470637050200240702445645)
def headB : List Byte := (leBytes 256 546812681705011975176862870435781039582727619610973562445867003876862639846901303903201487541501952)
def keyQ (s : State) := se (fun x => {x with closing := false, dstate := 0, dkh := sha384 Q, ksB := {x.ksB with valid := false}, ksA := {x.ksA with valid := true, gen := 0, keys := [some Q, none, none, none]}}) s
def nz (n : Nat) (s : State) := se (fun x => {x with nonce := some (0, n, [1#8], s.block.sys.now)}) (keyQ s)
/-- A start from a slot with a signed image of the Lead, the other one erased. -/
def imgAt (n : Nat) (s : State) := up (fun b => (b.onSec fun x => {x with vkh := sha384 Q, selSlot := 0}).onUpd fun u => {u with flash := flashOf n headB imgB}) (boot0 s)
theorem img_flash (n : Nat) : (imgAt n boot).block.upd.flash = flashOf n headB imgB := by simp only [imgAt, up, Block.onUpd]
theorem img_sec (n : Nat) : (imgAt n boot).block.sec = (imgAt 0 boot).block.sec := by simp only [imgAt, up, Block.onUpd, Block.onSec]
/-- The signed image of the Lead passes every check of R466. -/
theorem lead_code (n : Nat) : (imgAt n boot).block.targetCode n 1 = 0 := by
  have hb := img_flash n
  have h1 := head_read _ n headB imgB hb (leBytes_length ..)
  have il : imgB.length = 256 := leBytes_length ..
  have i1 := image_read _ n 0 256 headB imgB hb (by rw [il])
  have i2 := image_read _ n 256 0 headB imgB hb (by rw [il])
  have off : (imgAt n boot).block.imageOff n 1 = some 1024 := by
    unfold Block.imageOff Block.bundleHead
    rw [h1]
    decide +kernel
  have bl : (imgAt n boot).block.imageBodyLen n 1024 = 0 := by
    unfold Block.imageBodyLen
    rw [i1]
    decide +kernel
  unfold Block.targetCode
  rw [off]
  dsimp only
  unfold Block.imageCode Block.imageBody Block.opKey Block.minSvn
  rw [bl, i1, i2, img_sec]
  simp only [show decide ((7 : Nat) ≤ 1) = false from rfl, Bool.false_and, Bool.or_false]
  decide +kernel
theorem lead_ok (n : Nat) (hn : n = 0) : (imgAt n boot).block.targetCode (imgAt n boot).block.sec.selSlot 1 = 0 := by
  subst hn
  rw [show (imgAt 0 boot).block.sec.selSlot = 0 from rfl]
  exact lead_code 0
theorem lead_other : (imgAt 1 boot).block.targetCode (imgAt 1 boot).block.sec.selSlot 1 ≠ 0 ∧ (imgAt 1 boot).block.targetCode (1 - (imgAt 1 boot).block.sec.selSlot) 1 = 0 := by
  rw [show (imgAt 1 boot).block.sec.selSlot = 0 from rfl]
  exact ⟨by decide +kernel, lead_code 1⟩


theorem witness_ModuleStartsFromTheSelectedSlot :
    (∃ (s : State), s.block.sys.mstate = .off ∧ s.block.latch.state.acting = false ∧ ((s.block.upd.recA.valid = true ∨ s.block.upd.recB.valid = true)) ∧ s.block.upd.record.trial = false ∧ s.block.settled = true)
    ∧ (∃ (s : State), s.block.sys.mstate = .off ∧ s.block.latch.state.acting = false ∧ s.block.upd.recA.valid = false ∧ s.block.upd.recB.valid = false ∧ s.block.settled = true)
    ∧ (∃ (s : State), s.block.sys.mstate = .off ∧ s.block.latch.state.acting = false ∧ s.block.upd.recA.valid = true ∧ s.block.upd.recB.valid = false ∧ s.block.upd.recA.trial = true ∧ s.block.upd.recA.gen < 4294967295 ∧ s.block.settled = true)
    ∧ (∃ (s : State), s.block.sys.mstate = .off ∧ s.block.latch.state.acting = true ∧ s.block.hinge = false ∧ s.block.settled = true)
    ∧ (∃ (s : State), s.block.sys.mstate = .boot ∧ s.block.sec.released = false ∧ s.block.sec.dead = false ∧ s.block.targetCode s.block.sec.selSlot 1 = 0 ∧ s.block.settled = true)
    ∧ (∃ (s : State), s.block.sys.mstate = .boot ∧ s.block.sec.released = false ∧ s.block.sec.dead = false ∧ s.block.targetCode s.block.sec.selSlot 1 ≠ 0 ∧ s.block.targetCode (1 - s.block.sec.selSlot) 1 = 0 ∧ s.block.settled = true)
    ∧ (∃ (s : State), s.block.sys.mstate = .boot ∧ s.block.sec.released = false ∧ s.block.sec.dead = false ∧ s.block.targetCode s.block.sec.selSlot 1 ≠ 0 ∧ s.block.targetCode (1 - s.block.sec.selSlot) 1 ≠ 0 ∧ s.block.settled = true)
    ∧ (∃ (s : State), s.block.sys.mstate = .boot ∧ s.block.sec.released = true ∧ s.block.sec.loaded = false ∧ s.block.settled = true) :=
  ⟨⟨(rA false 0 off), by decide +kernel⟩,
   ⟨(ud (fun u => {u with recA := {u.recA with valid := false}, recB := {u.recB with valid := false}}) off), by decide +kernel⟩,
   ⟨(rA true 0 off), by decide +kernel⟩,
   ⟨(acted off), by decide +kernel⟩,
   ⟨(imgAt 0 boot), by decide +kernel, by decide +kernel, by decide +kernel, lead_ok 0 rfl, by decide +kernel⟩,
   ⟨(imgAt 1 boot), by decide +kernel, by decide +kernel, by decide +kernel, lead_other.1, lead_other.2, by decide +kernel⟩,
   ⟨(boot0 boot), by decide +kernel⟩,
   ⟨(zf <| boot1 boot), by decide +kernel⟩⟩

theorem witness_DebugPortAnswersAsItsStateAllows :
    (∃ (s : State), s.block.sys.mstate = .off ∧ s.block.settled = true)
    ∧ (∃ (s : State), s.block.sys.mstate ≠ .off ∧ s.block.settled = true)
    ∧ (∃ (s : State), s.block.sys.mstate ≠ .off ∧ s.block.settled = true)
    ∧ (∃ (s : State), s.block.sys.mstate ≠ .off ∧ s.block.sec.dstate = 0 ∧ s.block.settled = true)
    ∧ (∃ (s : State) (e : Engine), s.block.sys.mstate ≠ .off ∧ ((e = .reserve ∨ e = .sa ∨ e = .sb)) ∧ s.block.settled = true)
    ∧ (∃ (s : State) (part : DbgPart), s.block.sys.mstate ≠ .off ∧ s.block.sec.dstate ≠ 2 ∧ part ∈ [DbgPart.image 0, .flash 0, .keepStore 0, .kennel 0, .registers 0] ∧ s.block.settled = true)
    ∧ (∃ (s : State), s.block.sys.mstate ≠ .off ∧ s.block.sys.mstate ≠ .hibernate ∧ s.block.sec.dstate ≠ 0 ∧ s.block.settled = true)
    ∧ (∃ (s : State), s.block.sys.mstate ≠ .off ∧ s.block.sys.mstate ≠ .hibernate ∧ s.block.sec.dstate ≠ 0 ∧ s.block.settled = true)
    ∧ (∃ (s : State) (n : Nat), s.block.sys.mstate ≠ .off ∧ s.block.sys.mstate ≠ .hibernate ∧ s.block.sec.dstate ≠ 0 ∧ n < 32 ∧ s.block.settled = true)
    ∧ (∃ (s : State) (n : Nat), s.block.sys.mstate ≠ .off ∧ s.block.sys.mstate ≠ .hibernate ∧ s.block.sec.dstate ≠ 0 ∧ 1 ≤ n ∧ n < 32 ∧ (s.block.pe 0).regs.length = 31 ∧ s.block.pol.engines ≠ [] ∧ s.block.settled = true)
    ∧ (∃ (s : State) (op : DbgOp), s.block.sys.mstate = .hibernate ∧ s.block.sec.dstate ≠ 0 ∧ op ∈ [DbgOp.resume, .step, .readReg 3, .writeReg 3 4, .readMem 0, .writeMem 0 1] ∧ s.block.settled = true)
    ∧ (∃ (s : State) (e : Engine), s.block.sys.mstate ≠ .off ∧ s.block.sec.dstate = 2 ∧ e ∈ [Engine.lead, .f0, .f1, .f2, .f3, .c0, .c1, .s0, .s1, .n0] ∧ s.block.settled = true)
    ∧ (∃ (s : State), s.block.sys.mstate ≠ .off ∧ s.block.sec.dstate = 2 ∧ s.block.settled = true)
    ∧ (∃ (s : State) (t : Nat), s.block.sec.openEnd = some t ∧ s.block.sec.dstate ≠ 0 ∧ s.block.settled = true)
    ∧ (∃ (s : State), s.block.sec.closing = true ∧ maskOf s.block.sec.touched = 0 ∧ s.block.settled = true)
    ∧ (∃ (s : State), s.block.sec.closing = true ∧ s.block.sec.dstate = 0 ∧ s.block.sec.touched.getD 0 false = false ∧ s.block.settled = true) :=
  ⟨⟨off, by decide +kernel⟩,
   ⟨park, by decide +kernel⟩,
   ⟨park, by decide +kernel⟩,
   ⟨park, by decide +kernel⟩,
   ⟨(dbg 2 park), .sa, by decide +kernel⟩,
   ⟨(dbg 1 park), (.flash 0), by decide +kernel⟩,
   ⟨(dbg 1 park), by decide +kernel⟩,
   ⟨(dbg 1 park), by decide +kernel⟩,
   ⟨(dbg 1 park), 0, by decide +kernel⟩,
   ⟨(dbg 1 park), 31, by decide +kernel⟩,
   ⟨(dbg 1 hib), .step, by decide +kernel⟩,
   ⟨(dbg 2 park), .f2, by decide +kernel⟩,
   ⟨(dbg 2 park), by decide +kernel⟩,
   ⟨(dbg 2 park), 5, by decide +kernel⟩,
   ⟨(se (fun x => {x with closing := true}) park), by decide +kernel⟩,
   ⟨(se (fun x => {x with closing := true, dstate := 0, touched := [false, false,false,false,true,false,false,false,true,false,false,false,true,true,true]}) park), by decide +kernel⟩⟩

theorem witness_DebugAndKeyCommandsNeedSignatures :
    (∃ (s : State) (src : Src), s.block.settled = true ∧ s.block.admits src 0x0D01 false = true)
    ∧ (∃ (s : State) (src : Src) (state : Nat), ((state = 1 ∨ state = 2)) ∧ s.block.sys.mstate ≠ .hibernate ∧ s.block.sec.closing = false ∧ s.block.settled = true ∧ s.block.admits src 0x0D02 true = true)
    ∧ (∃ (s : State) (src : Src) (key : List Byte) (sig : List Byte), key.length = 96 ∧ sig.length = 96 ∧ s.block.sec.dstate ≠ 0 ∧ s.block.settled = true ∧ s.block.admits src 0x0D03 true = true)
    ∧ (∃ (s : State) (src : Src) (minutes : Nat) (signer : Nat) (key : List (BitVec 8)) (sig : List Byte) (n : List Byte) (k : List Byte), s.block.debugStateOk 1 = true ∧ s.block.sec.dstate = 0 ∧ key = List.replicate 96 0#8 ∧ sig.length = 96 ∧ 1 ≤ minutes ∧ minutes ≤ 480 ∧ signer ≤ 3 ∧ s.block.nonceFor src 1 = some n ∧ s.block.sec.store.keys.getD signer none = some k ∧ ecdsaOk k sig (n ++ s.block.serialBytes ++ leBytes 1 1 ++ leBytes 2 minutes ++ leBytes 1 signer) = true ∧ s.block.settled = true ∧ s.block.admits src 0x0D03 true = true)
    ∧ (∃ (s : State) (src : Src) (minutes : Nat) (signer : Nat) (key : List (BitVec 8)) (sig : List Byte) (n : List Byte) (k : List Byte), s.block.debugStateOk 1 = true ∧ s.block.sec.dstate = 0 ∧ key = List.replicate 96 0#8 ∧ sig.length = 96 ∧ 1 ≤ minutes ∧ minutes ≤ 480 ∧ signer ≤ 3 ∧ s.block.nonceFor src 1 = some n ∧ s.block.sec.store.keys.getD signer none = some k ∧ ecdsaOk k sig (n ++ s.block.serialBytes ++ leBytes 1 1 ++ leBytes 2 minutes ++ leBytes 1 signer) = false ∧ s.block.settled = true ∧ s.block.admits src 0x0D03 true = true)
    ∧ (∃ (s : State) (src : Src) (minutes : Nat) (key : List Byte) (sig : List Byte) (n : List Byte), s.block.sys.mstate = .park ∧ s.block.hinge = false ∧ s.block.latch.saOk = true ∧ s.block.sec.closing = false ∧ key.length = 96 ∧ sig.length = 96 ∧ 1 ≤ minutes ∧ minutes ≤ 480 ∧ s.block.nonceFor src 2 = some n ∧ sha384 key = s.block.sec.dkh ∧ ecdsaOk key sig (n ++ s.block.serialBytes ++ leBytes 1 2 ++ leBytes 2 minutes ++ leBytes 1 0xFF) = true ∧ s.block.settled = true ∧ s.block.admits src 0x0D03 true = true)
    ∧ (∃ (s : State) (src : Src) (slot : Nat) (key : List Byte), s.block.sys.mstate = .park ∧ slot ≤ 3 ∧ key.length = 96 ∧ s.block.slotHeld slot = false ∧ onP384 key = true ∧ (s.block.sec.store.keys.all fun x => x.isNone) = true ∧ s.block.latch.srst = true ∧ s.block.sec.store.gen < 4294967295 ∧ s.block.settled = true ∧ s.block.admits src 0x0D04 true = true)
    ∧ (∃ (s : State) (src : Src) (slot : Nat) (key : List Byte) (signer : Nat) (sig : List Byte), s.block.sys.mstate = .park ∧ slot ≤ 3 ∧ key.length = 96 ∧ sig.length = 96 ∧ s.block.slotHeld slot = false ∧ onP384 key = true ∧ (s.block.sec.store.keys.all fun x => x.isNone) = false ∧ s.block.signedBy signer 1 slot key sig = true ∧ s.block.sec.store.gen < 4294967295 ∧ s.block.settled = true ∧ s.block.admits src 0x0D04 true = true)
    ∧ (∃ (s : State) (src : Src) (slot : Nat) (key : List Byte) (signer : Nat) (sig : List Byte), s.block.sys.mstate = .park ∧ slot ≤ 3 ∧ key.length = 96 ∧ sig.length = 96 ∧ s.block.slotHeld slot = false ∧ onP384 key = true ∧ (s.block.sec.store.keys.all fun x => x.isNone) = false ∧ s.block.signedBy signer 1 slot key sig = false ∧ s.block.settled = true ∧ s.block.admits src 0x0D04 true = true)
    ∧ (∃ (s : State) (src : Src) (slot : Nat) (signer : Nat) (sig : List Byte), slot ≤ 3 ∧ sig.length = 96 ∧ s.block.slotHeld slot = true ∧ s.block.signedBy signer 2 slot (List.replicate 96 0#8) sig = true ∧ s.block.sec.store.gen < 4294967295 ∧ s.block.settled = true ∧ s.block.admits src 0x0D05 true = true)
    ∧ (∃ (s : State) (src : Src) (slot : Nat) (signer : Nat) (sig : List Byte), slot ≤ 3 ∧ sig.length = 96 ∧ s.block.slotHeld slot = true ∧ s.block.signedBy signer 2 slot (List.replicate 96 0#8) sig = false ∧ s.block.settled = true ∧ s.block.admits src 0x0D05 true = true)
    ∧ (∃ (s : State) (src : Src), s.block.settled = true ∧ s.block.admits src 0x0D06 false = true) :=
  ⟨⟨park, S, by decide +kernel⟩,
   ⟨park, S, 2, by decide +kernel⟩,
   ⟨(dbg 1 park), S, Z96, Z96, by decide +kernel⟩,
   ⟨(nz 1 park), S, 10, 0, Z96, sig1, [1#8], Q, by decide +kernel⟩,
   ⟨(keyed park), S, 10, 0, Z96, Z96, [1#8], K, by decide +kernel⟩,
   ⟨(nz 2 park), S, 10, Q, sig2, [1#8], by decide +kernel⟩,
   ⟨(se (fun x => {x with ksA := KeyStore.fresh, ksB := KeyStore.fresh}) (la (fun l => {l with srst := true}) park)), S, 3, K, by decide +kernel⟩,
   ⟨(keyQ park), S, 3, Q, 0, sigE, by decide +kernel⟩,
   ⟨(keyed park), S, 3, K, 0, Z96, by decide +kernel⟩,
   ⟨(keyQ park), S, 0, 0, sigR, by decide +kernel⟩,
   ⟨(keyed park), S, 0, 0, Z96, by decide +kernel⟩,
   ⟨(keyed park), S, by decide +kernel⟩⟩

end W15

namespace W16
def pw (f : PwrPart → PwrPart) (s : State) := up (fun b => b.onPwr f) s
def se (f : SecPart → SecPart) (s : State) := up (fun b => b.onSec f) s
def ud (f : UpdPart → UpdPart) (s : State) := up (fun b => b.onUpd f) s
def zf (s : State) := ud (fun u => {u with flash := [(28, 0#8), (0x100001C, 0#8)]}) s
def runEntry (s : State) := up (fun b => acceptRequest S 0x0B02 [] true b) s
def u2 (s : State) := zf (ud (fun u => {u with ustate := 2, length := 5000, written := [1,2]}) (pw (fun p => {p with resCtl := false, resOk := true, kenOk := true}) (se (fun x => {x with dstate := 0, closing := false}) s)))
def u4 (x : Nat) (s : State) := ud (fun u => {u with ustate := x, saifRun := 0, setSchema := 0}) (u2 s)
def cp (g : Nat) (b : Block) : Option SetCopy := some {valid := true, schema := 1, gen := g, wbver := 1, origin := 0, dflt := false, body := b.settings}
def pause (s : State) := pw (fun p => {p with hold := some 123400000, hcause := 2, stateDue := none, lossDue := false}) (ud (fun u => {u with pauseAt := some 123360000, src := some S, ustate := 7}) (u4 7 (runEntry s)))

theorem witness_UpdatesAreReceivedAndVerified :
    (∃ (s : State) (src : Src) (length : Nat), ((s.block.upd.ustate = 0 ∨ s.block.upd.ustate = 5)) ∧ s.block.sys.mstate ≠ .boot ∧ s.block.sys.mstate ≠ .hibernate ∧ s.block.pwr.resCtl = false ∧ s.block.sec.dstate = 0 ∧ 2048 ≤ length ∧ length ≤ 14680064 ∧ s.block.settled = true ∧ s.block.admits src 0x0B01 true = true)
    ∧ (∃ (s : State) (i : Nat) (q : Nat), s.block.upd.ustate = 1 ∧ s.block.upd.src = some (.session i q) ∧ (s.block.entry? i q).isSome = true ∧ s.block.settled = true)
    ∧ (∃ (s : State) (src : Src) (off : Nat) (data : List Byte), s.block.upd.ustate = 2 ∧ off % 1024 = 0 ∧ 1 ≤ data.length ∧ data.length ≤ 1024 ∧ off + data.length ≤ s.block.upd.length ∧ ((data.length = 1024 ∨ off + data.length = s.block.upd.length)) ∧ s.block.upd.written.contains (off / 1024) = false ∧ s.block.pfWarn = false ∧ s.block.settled = true ∧ s.block.admits src 0x0B02 true = true)
    ∧ (∃ (s : State) (src : Src) (off : Nat) (data : List Byte), s.block.upd.ustate = 2 ∧ off % 1024 = 0 ∧ 1 ≤ data.length ∧ data.length ≤ 1024 ∧ off + data.length ≤ s.block.upd.length ∧ ((data.length = 1024 ∨ off + data.length = s.block.upd.length)) ∧ s.block.upd.written.contains (off / 1024) = false ∧ s.block.pfWarn = false ∧ s.block.settled = true ∧ s.block.admits src 0x0B02 true = true)
    ∧ (∃ (s : State) (src : Src) (off : Nat) (data : List Byte), s.block.upd.ustate = 2 ∧ off % 1024 = 0 ∧ 1 ≤ data.length ∧ data.length ≤ 1024 ∧ off + data.length ≤ s.block.upd.length ∧ ((data.length = 1024 ∨ off + data.length = s.block.upd.length)) ∧ s.block.upd.written.contains (off / 1024) = true ∧ s.block.settled = true ∧ s.block.admits src 0x0B02 true = true)
    ∧ (∃ (s : State) (src : Src) (off : Nat) (data : List Byte), s.block.upd.ustate = 2 ∧ off % 1024 = 0 ∧ 1 ≤ data.length ∧ data.length ≤ 1024 ∧ off + data.length ≤ s.block.upd.length ∧ ((data.length = 1024 ∨ off + data.length = s.block.upd.length)) ∧ s.block.upd.written.contains (off / 1024) = false ∧ s.block.pfWarn = true ∧ s.block.settled = true ∧ s.block.admits src 0x0B02 true = true)
    ∧ (∃ (s : State) (src : Src), s.block.upd.ustate = 2 ∧ s.block.upd.firstMiss = none ∧ s.block.settled = true ∧ s.block.admits src 0x0B03 true = true)
    ∧ (∃ (s : State) (i : Nat) (q : Nat), s.block.upd.ustate = 3 ∧ s.block.upd.src = some (.session i q) ∧ (s.block.entry? i q).isSome = true ∧ s.block.settled = true)
    ∧ (∃ (s : State) (src : Src), s.block.settled = true ∧ s.block.admits src 0x0B07 false = true) :=
  ⟨⟨(ud (fun u => {u with ustate := 5, setA0 := cp 3 park.block, setB1 := cp 4 park.block}) (u2 park)), S, 2048, by decide +kernel⟩,
   ⟨(ud (fun u => {u with ustate := 1, src := some S}) (runEntry park)), 0, 5, by decide +kernel⟩,
   ⟨(u2 park), S, 4096, (List.replicate 904 1#8), by decide +kernel⟩,
   ⟨(u2 park), S, 3072, (List.replicate 1024 1#8), by decide +kernel⟩,
   ⟨(u2 park), S, 1024, (List.replicate 1024 0xFF#8), by decide +kernel⟩,
   ⟨(pw (fun p => {p with pfAt := some 4}) (u2 park)), S, 3072, (List.replicate 1024 1#8), by decide +kernel⟩,
   ⟨(ud (fun u => {u with length := 1500, written := [0,1]}) (u2 park)), S, by decide +kernel⟩,
   ⟨(ud (fun u => {u with ustate := 3, length := 1500, src := some S}) (u2 (runEntry park))), 0, 5, by decide +kernel⟩,
   ⟨park, S, by decide +kernel⟩⟩

theorem witness_BundlesAreActivatedConfirmedOrReverted :
    (∃ (s : State) (src : Src), s.block.upd.ustate = 4 ∧ s.block.liveOk = true ∧ s.block.saifMatches = false ∧ s.block.upd.record.gen < 4294967295 ∧ s.block.settled = true ∧ s.block.admits src 0x0B04 true = true)
    ∧ (∃ (s : State) (src : Src), s.block.upd.ustate = 4 ∧ s.block.liveOk = true ∧ s.block.saifMatches = true ∧ s.block.stillGood s.block.inactive = true ∧ s.block.upd.record.gen < 4294967295 ∧ s.block.settled = true ∧ s.block.admits src 0x0B04 true = true)
    ∧ (∃ (s : State) (src : Src), s.block.upd.ustate = 4 ∧ s.block.liveOk = true ∧ s.block.saifMatches = true ∧ s.block.stillGood s.block.inactive = false ∧ s.block.settled = true ∧ s.block.admits src 0x0B04 true = true)
    ∧ (∃ (s : State), s.block.upd.ustate = 6 ∧ s.block.hinge = false ∧ s.block.upd.pauseAt = none ∧ s.block.settled = true)
    ∧ (∃ (s : State) (t : Nat) (q : Nat) (i : Nat) (k : Nat), s.block.pwr.hold = some t ∧ s.block.pwr.hcause = 2 ∧ s.block.latch.state.acting = false ∧ s.block.upd.pauseAt = some q ∧ s.block.pwr.stateDue = none ∧ s.block.pwr.lossDue = false ∧ s.block.waitingRequests = [] ∧ s.block.ix.held = [] ∧ s.block.upd.src = some (.session i k) ∧ (s.block.entry? i k).isSome = true ∧ s.block.settled = true)
    ∧ (∃ (s : State) (src : Src), s.block.upd.ustate = 8 ∧ s.block.upd.record.gen < 4294967295 ∧ s.block.settled = true ∧ s.block.admits src 0x0B05 true = true)
    ∧ (∃ (s : State) (src : Src), s.block.upd.ustate = 8 ∧ s.block.upd.record.gen < 4294967295 ∧ s.block.settled = true ∧ s.block.admits src 0x0B06 true = true)
    ∧ (∃ (s : State) (src : Src), s.block.upd.ustate = 9 ∧ s.block.upd.record.gen < 4294967295 ∧ s.block.settled = true ∧ s.block.admits src 0x0B06 true = true)
    ∧ (∃ (s : State) (src : Src), 1 ≤ s.block.upd.ustate ∧ s.block.upd.ustate ≤ 5 ∧ s.block.upd.src = none ∧ s.block.upd.waiting = none ∧ s.block.settled = true ∧ s.block.admits src 0x0B06 true = true)
    ∧ (∃ (s : State) (t : Nat), s.block.upd.confEnd = some t ∧ s.block.upd.ustate = 8 ∧ s.block.upd.record.gen < 4294967295 ∧ s.block.settled = true)
    ∧ (∃ (s : State) (t : Nat), s.block.upd.setDue = some t ∧ s.block.sys.mstate ≠ .off ∧ s.block.pfWarn = false ∧ (∀ c ∈ s.block.upd.copyInForce s.block.sec.slot, c.gen < 4294967295) ∧ s.block.settled = true)
    ∧ (∃ (s : State) (t : Nat), s.block.upd.setDue = some t ∧ s.block.sys.mstate ≠ .off ∧ s.block.pfWarn = false ∧ s.block.settled = true)
    ∧ (∃ (s : State) (i q : Nat), s.block.upd.ustate = 1 ∧ s.block.upd.src = some (.session i q) ∧ (s.block.entry? i q).isSome = true ∧ s.block.settled = true) :=
  ⟨⟨(ud (fun u => {u with saifRun := 5}) (u4 4 park)), S, by decide +kernel⟩,
   ⟨(u4 4 park), S, by decide +kernel⟩,
   ⟨(ud (fun u => {u with flash := memWrite 0xFF#8 (0x1000000+28) [1#8, 0, 0, 0, 1] (memWrite 0xFF#8 28 [1#8, 0, 0, 0, 1] u.flash)}) (u4 4 park)), S, by decide +kernel⟩,
   ⟨(u4 6 park), by decide +kernel⟩,
   ⟨(pause park), 123400000, 123360000, 0, 5, by decide +kernel⟩,
   ⟨(ud (fun u => {u with dflt := true}) (u4 8 park)), S, by decide +kernel⟩,
   ⟨(u4 8 park), S, by decide +kernel⟩,
   ⟨(u4 9 park), S, by decide +kernel⟩,
   ⟨(u4 3 park), S, by decide +kernel⟩,
   ⟨(ud (fun u => {u with confEnd := some 9}) (u4 8 park)), 9, by decide +kernel⟩,
   ⟨(ud (fun u => {u with setDue := some 9}) park), 9, by decide +kernel⟩,
   ⟨(ud (fun u => {u with setDue := some 9, setA0 := cp 3 park.block, setA1 := cp 4 park.block}) park), 9, by decide +kernel⟩,
   ⟨ud (fun u => {u with ustate := 1, src := some S}) (runEntry park), 0, 5, by decide +kernel⟩⟩

end W16

namespace W17
def lg (f : LogPart → LogPart) (s : State) := up (fun b => b.onLog f) s
def runEntry (s : State) := up (fun b => acceptRequest S 0x0B02 [] true b) s
def kr (n : Nat) (r ok : Bool) : KeepRec := {seq := n, optime := 5, code := 6, pcyc := 7, ptp := none, sev := .safety, resv := r, src := 3, arg0 := 3, data := [1,2], crcOk := ok}
def fl (f : FltPart → FltPart) (s : State) := up (fun b => b.onFlt f) s
def sv0 : Saving := {toB := true, cause := 4, started := 5, copy := {valid := true, gen := 3, optime := 5, cause := 4, pcyc := 1, cells := []}}
def sv (s : State) := fl (fun f => {f with saving := some sv0, saveAgain := none, saveSrcs := []}) s
def svd (_ : State) : Saving := sv0

theorem witness_EventsWriteTheirRecords :
    (∃ (e : Event) (b : Block), e.severity ≠ .safety ∧ b.log.fast.length < 65536)
    ∧ (∃ (e : Event) (b : Block), e.severity ≠ .safety ∧ e.severity ≠ .trace ∧ b.log.queue.length < 256)
    ∧ (∃ e : Event, e.severity = .trace)
    ∧ (∃ (e : Event) (b : Block), e.severity = .safety ∧ b.log.reserveTaken < 1024 ∧ b.log.queue.length < 256)
    ∧ (∃ (e : Event) (b : Block), e.severity = .safety ∧ 1024 ≤ b.log.reserveTaken)
    ∧ (∃ b : Block, b.log.reserveTaken ≤ 1024) :=
  ⟨⟨.leashLaneDown, park.block, by decide +kernel⟩,
   ⟨.leashLaneDown, park.block, by decide +kernel⟩,
   ⟨.fltSave, by decide⟩,
   ⟨.safeSsi, park.block, by decide +kernel⟩,
   ⟨.safeSsi, (lg (fun g => {g with keepRes := List.replicate 1024 (kr 1 true true)}) park).block, by decide +kernel⟩,
   ⟨park.block, by decide +kernel⟩⟩

theorem witness_RecordsAreKeptReadAndNoted :
    (∃ (s : State) (n : Fin 3) (r : KeepRec) (rest : List KeepRec), n.val < 2 ∧ s.block.hinge = false ∧ s.block.sys.mstate ≠ .off ∧ s.block.log.queue = r :: rest ∧ rest.length < 256 ∧ s.block.settled = true)
    ∧ (∃ (s : State) (r : KeepRec) (rest : List KeepRec), s.block.hinge = false ∧ s.block.sys.mstate ≠ .off ∧ s.block.log.queue = r :: rest ∧ rest.length < 256 ∧ s.block.settled = true)
    ∧ (∃ (s : State), s.block.hinge = true ∧ s.block.settled = true)
    ∧ (∃ (s : State), s.block.sys.mstate ≠ .off ∧ s.block.sec.released = true ∧ s.block.settled = true)
    ∧ (∃ (s : State) (src : Src) (count : Nat) (sev : Nat), 1 ≤ count ∧ count ≤ 256 ∧ sev ≤ 4 ∧ s.block.settled = true ∧ s.block.admits src 0x0C01 false = true)
    ∧ (∃ (s : State) (src : Src) (count : Nat) (sev : Nat) (area : Nat), 1 ≤ count ∧ count ≤ 128 ∧ sev ≤ 4 ∧ area ≤ 2 ∧ ((s.block.log.area area).all fun r => r.crcOk) = true ∧ s.block.settled = true ∧ s.block.admits src 0x0C02 false = true)
    ∧ (∃ (s : State) (src : Src) (first : Nat) (count : Nat) (sev : Nat) (area : Nat), 1 ≤ count ∧ count ≤ 128 ∧ sev ≤ 4 ∧ area ≤ 2 ∧ (((((s.block.log.area area).filter fun r => decide (first ≤ r.seq) && decide (sev ≤ r.sev.rank)).take count).filter fun r => !r.crcOk) ≠ []) ∧ s.block.settled = true ∧ s.block.admits src 0x0C02 false = true)
    ∧ (∃ (s : State) (src : Src), s.block.settled = true ∧ s.block.admits src 0x0C03 false = true)
    ∧ (∃ (s : State) (src : Src) (sev : Nat) (text : List Byte), sev ≤ 3 ∧ text.length ≤ 24 ∧ (text.all fun c => decide (0x20 ≤ c.toNat ∧ c.toNat ≤ 0x7E)) = true ∧ s.block.log.fast.length < 65536 ∧ s.block.settled = true ∧ s.block.admits src 0x0C04 true = true)
    ∧ (∃ (s : State) (v : Saving), s.block.flt.saving = some v ∧ s.block.flt.saveAgain = none ∧ s.block.flt.saveSrcs = [] ∧ s.block.settled = true)
    ∧ (∃ (s : State) (v : Saving), s.block.flt.saving = some v ∧ s.block.flt.saveAgain = none ∧ s.block.flt.saveSrcs = [] ∧ s.block.settled = true)
    ∧ (∃ (s : State) (v : Saving) (i : Nat) (q : Nat), s.block.flt.saving = some v ∧ s.block.flt.saveAgain = none ∧ s.block.flt.saveSrcs = [(.session i q, false)] ∧ (s.block.entry? i q).isSome = true ∧ s.block.settled = true) :=
  ⟨⟨(lg (fun g => {g with queue := [kr 5 true true, kr 6 false true]}) park), 1, (kr 5 true true), [kr 6 false true], by decide +kernel⟩,
   ⟨(lg (fun g => {g with queue := [kr 6 false true]}) park), (kr 6 false true), [], by decide +kernel⟩,
   ⟨(lg (fun g => {g with queue := [kr 6 false true]}) runH), by decide +kernel⟩,
   ⟨(up (fun b => b.onSec fun x => {x with released := true}) park), by decide +kernel⟩,
   ⟨park, S, 256, 0, by decide +kernel⟩,
   ⟨(lg (fun g => {g with keepGen := [kr 6 false true, kr 9 false true], keepRes := [kr 7 true true]}) park), S, 128, 4, 0, by decide +kernel⟩,
   ⟨(lg (fun g => {g with keepGen := [kr 6 false true, kr 9 false false], keepRes := [kr 7 true true]}) park), S, 0, 128, 4, 0, by decide +kernel⟩,
   ⟨park, S, by decide +kernel⟩,
   ⟨park, S, 3, [0x41#8, 0x42#8], by decide +kernel⟩,
   ⟨(sv park), (svd park), by decide +kernel⟩,
   ⟨(sv park), (svd park), by decide +kernel⟩,
   ⟨(fl (fun f => {f with saveSrcs := [(S, false)]}) (sv (runEntry park))), (svd (runEntry park)), 0, 5, by decide +kernel⟩⟩

end W17

end Sys2Proof.Slice0
end

namespace Sys2Proof.Machine

/-! ### The interlock of the safety path (R19, R231, R236, R286) -/

/-- Every command is an effect on the block, under the wrapper that keeps the interlock. -/
theorem exec_eq_effect (i : Instr) (s : State) : ∃ f, exec i s = effect f s := by
  cases i <;> exact ⟨_, rfl⟩

/-- The three parts of the interlock of the safety path: muzzle, gates, module state. -/
theorem safePath_iff {b : Block} : b.safePath = true ↔
    (b.latch.state = .armed ∨ b.latch.muzzle = true) ∧ (b.latch.muzzle = true → b.cnv.st = .muzzled ∨ b.cnv.st = .latched)
      ∧ (b.latch.state.acting = true → b.hinge = false → b.sys.mstate = .safe ∨ b.sys.mstate = .off) := by
  simp only [Block.safePath, Bool.and_eq_true, Bool.or_eq_true, Bool.not_eq_true', decide_eq_true_eq]
  cases b.latch.muzzle <;> cases b.latch.state.acting <;> cases b.hinge <;> simp

/-- What `safePath` reads is all that it depends on. -/
theorem safePath_of_same {a b : Block} (hl : a.latch = b.latch) (hc : a.cnv = b.cnv) (hp : a.pwr = b.pwr) (hm : a.sys.mstate = b.sys.mstate) :
    a.safePath = b.safePath := by
  simp [Block.safePath, Block.hinge, hl, hc, hp, hm]

theorem lockMuzzle_muzzles (b : Block) : (lockMuzzle b).latch.state = .armed ∨ (lockMuzzle b).latch.muzzle = true := by
  unfold lockMuzzle
  split
  · exact .inr (by simp)
  · next h => by_contra hn; simp_all

theorem enterState_mstate {m : MState} {cause : Nat} {b : Block} (hh : b.hinge = false) : (enterState m cause b).sys.mstate = m := by
  rw [enterState, changeState, if_neg (by simp [hh]), changeNow_mstate]

theorem lockState_safe (b : Block) (ha : (lockState b).latch.state.acting = true) (hh : (lockState b).hinge = false) :
    (lockState b).sys.mstate = .safe ∨ (lockState b).sys.mstate = .off := by
  by_cases h : b.latch.state.acting = true ∧ b.hinge = false ∧ b.sys.mstate ≠ .safe ∧ b.sys.mstate ≠ .off
  · exact .inl (by rw [lockState, if_pos h, enterState_mstate h.2.1])
  · rw [lockState, if_neg h] at *
    by_contra hn
    exact h ⟨ha, hh, not_or.mp hn⟩

@[simp] theorem lockGates_sys (b : Block) : (lockGates b).sys = b.sys := by unfold lockGates; split <;> simp
@[simp] theorem lockGates_pwr (b : Block) : (lockGates b).pwr = b.pwr := by unfold lockGates; split <;> simp

theorem cnvDark_st (st : CState) (b : Block) : (cnvDark st b).cnv.st = st := by
  have hp (k : Nat) (f : Phase → Phase) (b : Block) : (onPhase k f b).cnv.st = b.cnv.st := rfl
  have hs (k : Nat) (x : PhState) (b : Block) : (setPhase k x b).cnv.st = b.cnv.st := by
    unfold setPhase; split
    · rfl
    · dsimp only; split <;> simp [hp]
  have hf (b : Block) : (phasesOff b).cnv.st = b.cnv.st := foldl_keeps (fun b : Block => b.cnv.st) _ (fun _ _ => hs ..) _ _
  simp [cnvDark, hf]

theorem lockGates_dark (b : Block) (h : (lockGates b).latch.muzzle = true) : (lockGates b).cnv.st = .muzzled ∨ (lockGates b).cnv.st = .latched := by
  rw [lockGates_latch] at h
  unfold lockGates
  split
  · exact .inl (cnvDark_st ..)
  · next hn => by_contra hc; simp_all

/-- The interlock puts the safety path in force, whatever it finds: muzzle, then module state, then gates. -/
theorem interlock_safePath (b : Block) : (interlock b).safePath = true := by
  unfold interlock
  refine safePath_iff.mpr ⟨?_, lockGates_dark _, ?_⟩
  · rw [lockGates_latch, lockState_latch]
    exact lockMuzzle_muzzles b
  · rw [Block.hinge, lockGates_latch, lockGates_pwr, lockGates_sys]
    exact lockState_safe _

theorem effect_safePath (f : Block → Block) {s t : State} (h : effect f s = .next t) : t.block.safePath = true := by
  cases h
  exact (safePath_of_same (irqWatch_latch ..) (irqWatch_cnv ..) (irqWatch_pwr ..) (by rw [irqWatch_sys])).trans (interlock_safePath _)

/-- A command, whatever it found, or a tick of a block whose interlock stands, leaves the interlock in force. -/
theorem step_safePath {s t : State} (h : step s = .next t) (hs : s.pending ≠ [] ∨ s.block.safePath = true) : t.block.safePath = true := by
  unfold step at h
  split at h
  · next hp =>
    have hb : s.block.safePath = true := by simpa [hp] using hs
    cases h
    dsimp only
    unfold tick
    split
    · exact hb
    · exact (safePath_of_same rfl rfl rfl rfl).trans hb
  · next i rest _ =>
    obtain ⟨f, hf⟩ := exec_eq_effect i { s with pending := rest }
    exact effect_safePath f (hf.symm.trans h)

/-- Settles O3: the wrapper of every command ends in the interlock, and the rest reads off what the interlock holds. -/
theorem safetyPathHoldsAfterEveryStep : Obligations.SafetyPathHoldsAfterEveryStep := by
  intro s t hstep hs
  have hb := step_safePath hstep hs
  obtain ⟨hmuzzle, hgates, hstate⟩ := safePath_iff.mp hb
  refine ⟨hb, fun hna => hmuzzle.resolve_left hna, fun hm => ?_, fun ha hh hoff => (hstate ha hh).resolve_right hoff⟩
  rcases hgates hm with h | h <;> rw [h] <;> rfl

/-- Settles O2: the state after reset is a closed term, and each value is its own. -/
theorem resetIsOffEmptyAndSafe : Obligations.ResetIsOffEmptyAndSafe := by
  unfold Obligations.ResetIsOffEmptyAndSafe
  decide +kernel

end Sys2Proof.Machine

namespace Sys2Proof.Machine
open Slice0

/-! ### The start of the module (R469, R470, R495) -/

/-- The check of an image reads the flash and the words of the boot ROM, nothing else. -/
theorem targetCode_of_same {a b : Block} (hf : a.upd.flash = b.upd.flash) (hs : a.sec = b.sec) (slot target : Nat) :
    a.targetCode slot target = b.targetCode slot target := by
  have hr : a.flashAt = b.flashAt := by funext n o k; rw [Block.flashAt, Block.flashAt, hf]
  have ho : a.imageOff slot target = b.imageOff slot target := by simp only [Block.imageOff, Block.bundleHead, hr]
  have hc (off : Nat) : a.imageCode slot off target = b.imageCode slot off target := by
    unfold Block.imageCode Block.imageBody Block.imageBodyLen Block.imageLoad Block.opKey Block.minSvn
    rw [hr, hs]
  simp only [Block.targetCode, ho, hc]

/-- A confirmed record is made and written from the update part alone. -/
theorem writeConfirmed_of_same {a b : Block} (h : a.upd = b.upd) (slot : Nat) :
    (writeRecord (confirmedRecord slot a) a).upd = (writeRecord (confirmedRecord slot b) b).upd := by
  simp only [writeRecord, confirmedRecord, Block.slotBver, Block.bundleHead, Block.flashAt, Block.touch_upd, Block.onUpd_upd, h]

@[simp] theorem writeRecord_sec (r : SlotRec) (b : Block) : (writeRecord r b).sec = b.sec := rfl
@[simp] theorem writeWord_sec (secured : Bool) (b : Block) : (writeWord secured b).sec = b.sec := rfl
@[simp] theorem writeWord_upd (secured : Bool) (b : Block) : (writeWord secured b).upd = b.upd := rfl
@[simp] theorem scanKeep_sec (b : Block) : (scanKeep b).sec = b.sec := rfl
@[simp] theorem scanKeep_upd (b : Block) : (scanKeep b).upd = b.upd := rfl
@[simp] theorem setSvc_sec (e : Nat) (up : Bool) (b : Block) : (setSvc e up b).sec = b.sec := rfl
@[simp] theorem setSvc_upd (e : Nat) (up : Bool) (b : Block) : (setSvc e up b).upd = b.upd := rfl
@[simp] theorem resumeTime_sec (b : Block) : (resumeTime b).sec = b.sec := by simp [resumeTime]
@[simp] theorem resumeTime_upd (b : Block) : (resumeTime b).upd = b.upd := by simp [resumeTime]

/-- A Lead released from the other slot leaves a confirmed record that names it (R470). -/
theorem releaseLead_alt_upd (slot : Nat) (b : Block) : (releaseLead slot true b).upd = (writeRecord (confirmedRecord slot b) b).upd := by
  unfold releaseLead
  dsimp only
  rw [Block.touch_upd, if_pos rfl, note_upd]
  exact writeConfirmed_of_same (by split <;> simp) slot

/-- The release of Lead leaves the debug port's state. -/
theorem releaseLead_debug (slot : Nat) (alt : Bool) (b : Block) :
    (releaseLead slot alt b).sec.fullDue = b.sec.fullDue ∧ (releaseLead slot alt b).sec.dstate = b.sec.dstate := by
  unfold releaseLead
  dsimp only
  constructor <;> (repeat' split) <;> simp

/-- With a bad image in the selected slot and a good one in the other, Lead is released from the other (R470). -/
theorem doLeadRelease_other {b : Block} (hm : b.sys.mstate = .boot) (hr : b.sec.released = false) (hd : b.sec.dead = false)
    (h0 : b.targetCode b.sec.selSlot 1 ≠ 0) (h1 : b.targetCode (1 - b.sec.selSlot) 1 = 0) :
    doLeadRelease b = releaseLead (1 - b.sec.selSlot) true (b.onSec fun s => { s with bootErr := b.targetCode b.sec.selSlot 1, errTgt := 1 }) := by
  simp [doLeadRelease, hm, hr, hd, h0, h1]

/-- Where no debug condition is due, what a command leaves of the update part is its own effect. -/
theorem effect_upd {f : Block → Block} {s t : State} (h : effect f s = .next t) (hf : (f s.block).sec.fullDue = none) (hd : (f s.block).sec.dstate ≠ 2) :
    t.block.upd = (f s.block).upd := by
  cases h
  simp [debugWatch_eq hf (.inl hd)]

/-- A record of slot A with the highest GEN there is, not confirmed. -/
def lastRecord : SlotRec := { valid := true, gen := 4294967295, active := 0, trial := true, prev := 0, tries := 0, abver := 0, pbver := 0, actTime := 0 }

/-- A module in BOOT whose selected slot A is erased, with a signed image of the Lead in slot B; the record in force is the last before GEN starts at 0 again. -/
def wrapped : State := up (fun b => b.onUpd fun u => { u with recA := lastRecord, recB := { lastRecord with valid := false } }) (W15.imgAt 1 boot)

theorem wrapped_settled : wrapped.block.settled = true := by decide +kernel

theorem wrapped_code (slot : Nat) : wrapped.block.targetCode slot 1 = (W15.imgAt 1 boot).block.targetCode slot 1 := by
  refine targetCode_of_same ?_ ?_ slot 1 <;> simp only [wrapped, up, Block.onUpd_upd, Block.onUpd_sec]

/-- The record that a confirmation writes over the last GEN has GEN 0 and is not the one in force (R495). -/
theorem record_after_lastRecord {b : Block} (ha : b.upd.recA = lastRecord) (hb : b.upd.recB.valid = false) (r : SlotRec) :
    (writeRecord r b).upd.record = lastRecord := by
  simp [writeRecord, UpdPart.record, UpdPart.recAInForce, ha, hb, lastRecord]

/-- Refutes O54: the GEN of the record in force is at its highest value, so the record that the release of Lead from the other slot writes has GEN 0 (R495) and the
old record, which names the erased slot and is not confirmed, stays in force. -/
theorem not_moduleStartsFromTheSelectedSlot : ¬ Obligations.ModuleStartsFromTheSelectedSlot := by
  rintro ⟨-, -, -, -, -, hother, -⟩
  have hsel : wrapped.block.sec.selSlot = (W15.imgAt 1 boot).block.sec.selSlot := by simp only [wrapped, up, Block.onUpd_sec]
  obtain ⟨hbad, hgood⟩ := W15.lead_other
  rw [← wrapped_code, ← hsel] at hbad hgood
  obtain ⟨t, ht, -, ⟨-, -, -, -, -, htrial⟩, -⟩ := hother wrapped rfl rfl rfl hbad hgood wrapped_settled
  have hrun := doLeadRelease_other (b := wrapped.block) rfl rfl rfl hbad hgood
  obtain ⟨hfull, hstate⟩ := releaseLead_debug (1 - wrapped.block.sec.selSlot) true
    (wrapped.block.onSec fun s => { s with bootErr := wrapped.block.targetCode wrapped.block.sec.selSlot 1, errTgt := 1 })
  have hupd := effect_upd (f := doLeadRelease) ht (by rw [hrun, hfull]; rfl) (by rw [hrun, hstate]; decide)
  rw [hupd, hrun, releaseLead_alt_upd, record_after_lastRecord rfl rfl] at htrial
  cases htrial

end Sys2Proof.Machine

namespace Sys2Proof.Machine

/-! ### Policy engines: one engine changed, the others kept (R412, R413) -/

theorem onPe_onPe (p : Nat) (f g : PolEngine → PolEngine) (b : Block) : onPe p f (onPe p g b) = onPe p (fun e => f (g e)) b := by
  simp only [onPe, Block.onPol, modAt, List.modify_modify_eq]
  rfl

/-- Two changes of an engine that agree on the engine in its place. -/
theorem onPe_congr {p : Nat} {f g : PolEngine → PolEngine} {b : Block} (h : f (b.pe p) = g (b.pe p)) : onPe p f b = onPe p g b := by
  have hl : modAt b.pol.engines p f = modAt b.pol.engines p g := by
    refine List.ext_getElem? fun i => ?_
    by_cases hi : p = i
    · subst hi
      cases he : b.pol.engines[p]? with
      | none => simp [modAt, he]
      | some e =>
        have hp : b.pe p = e := by simp [Block.pe, he]
        simp [modAt, he, ← hp, h]
    · simp [modAt, hi]
  simp only [onPe, Block.onPol, hl]

/-- An engine of the module after the change of one of them. -/
theorem pe_onPe_of_lt {q : Nat} (p : Nat) (f : PolEngine → PolEngine) {b : Block} (hq : q < b.pol.engines.length) :
    (onPe p f b).pe q = if p = q then f (b.pe q) else b.pe q := by
  simp only [Block.pe, onPe, Block.onPol_pol, modAt, List.getD_eq_getElem?_getD, List.getElem?_modify, List.getElem?_eq_getElem hq]
  split <;> rfl

@[simp] theorem onPe_engines_length (p : Nat) (f : PolEngine → PolEngine) (b : Block) : (onPe p f b).pol.engines.length = b.pol.engines.length := by
  simp [onPe, modAt]

/-- What a change of one engine leaves of a field that the change leaves. -/
theorem pe_onPe_field {α : Type} (g : PolEngine → α) {p : Nat} {f : PolEngine → PolEngine} (h : ∀ e, g (f e) = g e) (q : Nat) (b : Block) :
    g ((onPe p f b).pe q) = g (b.pe q) := by
  by_cases hq : q < b.pol.engines.length
  · rw [pe_onPe_of_lt p f hq]
    split
    · exact h _
    · rfl
  · have hn (c : Block) (hc : ¬ q < c.pol.engines.length) : c.pe q = PolEngine.reset := by
      simp [Block.pe, List.getD_eq_getElem?_getD, List.getElem?_eq_none (Nat.le_of_not_lt hc)]
    rw [hn b hq, hn _ (by simpa using hq)]

/-! ### How an event's end is shown: its effect keeps the interlock, has the property and touches the named parts -/

theorem Block.same_trans {a b c : Block} {q : PartName} (h : a.same b q) (k : b.same c q) : a.same c q := by
  cases q <;> exact Eq.trans k h

/-- The interrupt sources touch nothing but what notices change. -/
theorem irqWatch_same (o b : Block) {q : PartName} (hq : q ∉ noticed) : b.same (irqWatch o b) q := by
  cases q <;> simp_all [Block.same, noticed]

/-- An event whose effect leaves a settled block settled. -/
theorem happens_event {i : Instr} {s : State} {f : Block → Block} {l : List PartName} {P : Block → Prop} (hi : exec i s = effect f s)
    (hset : (f s.block).settled = s.block.settled) (hframe : ∀ q, q ∉ l → q ∉ noticed → s.block.same (f s.block) q)
    (hP : P (irqWatch s.block (f s.block))) : Happens i s l P := fun h =>
  ends_event hi (hset.trans h) ⟨hP, fun q hq => by
    rw [List.mem_append, not_or] at hq
    exact Block.same_trans (hframe q hq.1 hq.2) (irqWatch_same _ _ hq.2)⟩

/-- A command that leaves the block. -/
theorem happens_nothing {i : Instr} {s : State} {f : Block → Block} (hi : exec i s = effect f s) (hf : f s.block = s.block) :
    Happens i s [] fun _ => True :=
  happens_event hi (by rw [hf]) (fun q _ _ => by rw [hf]; cases q <;> rfl) trivial

/-- A command that changes one policy engine. -/
theorem happens_onPe {i : Instr} {s : State} {f : Block → Block} {p : Nat} {g : PolEngine → PolEngine} (hi : exec i s = effect f s) (hf : f s.block = onPe p g s.block) :
    Happens i s [.engines] fun b => b.pol.engines = modAt s.block.pol.engines p g := by
  refine happens_event hi (by rw [hf]; rfl) (fun q hq hn => ?_) (by rw [hf, irqWatch_engines]; rfl)
  rw [hf]
  cases q <;> simp_all [Block.same, noticed]

end Sys2Proof.Machine

namespace Sys2Proof.Machine

/-! ### One instruction (R412, R413, R415; log entry 59) -/

section
variable {p n w : Nat} {bad : Bool} {npc : Word} {b : Block}

theorem rvCycles_eq (p n : Nat) (b : Block) : rvCycles p n b = onPe p (fun e => { e with csr := e.csr.cycled n }) b := rfl

theorem takeTrap_eq (p : Nat) (irq : Bool) (code tval : Nat) (b : Block) : takeTrap p irq code tval b = onPe p (PolEngine.trapped irq code tval) b := rfl

/-- Passing cycles change the cycle counter alone. -/
theorem pe_rvCycles (p n q : Nat) (b : Block) : ∃ c, (rvCycles p n b).pe q = { b.pe q with csr := { (b.pe q).csr with mcycle := c } } := by
  by_cases hq : q < b.pol.engines.length
  · rw [rvCycles_eq, pe_onPe_of_lt _ _ hq]
    split <;> exact ⟨_, rfl⟩
  · have hn (c : Block) (hc : ¬ q < c.pol.engines.length) : c.pe q = PolEngine.reset := by
      simp [Block.pe, List.getD_eq_getElem?_getD, List.getElem?_eq_none (Nat.le_of_not_lt hc)]
    rw [hn b hq, hn (rvCycles p n b) (by simpa [rvCycles_eq] using hq)]
    exact ⟨_, rfl⟩

@[simp] theorem rvCycles_regs (p n q : Nat) (b : Block) : ((rvCycles p n b).pe q).regs = (b.pe q).regs := by obtain ⟨c, h⟩ := pe_rvCycles p n q b; rw [h]
@[simp] theorem rvCycles_pc (p n q : Nat) (b : Block) : ((rvCycles p n b).pe q).pc = (b.pe q).pc := by obtain ⟨c, h⟩ := pe_rvCycles p n q b; rw [h]
@[simp] theorem rvCycles_regions (p n q : Nat) (b : Block) : ((rvCycles p n b).pe q).regions = (b.pe q).regions := by obtain ⟨c, h⟩ := pe_rvCycles p n q b; rw [h]
@[simp] theorem rvCycles_ram (p n q : Nat) (b : Block) : ((rvCycles p n b).pe q).ram = (b.pe q).ram := by obtain ⟨c, h⟩ := pe_rvCycles p n q b; rw [h]
@[simp] theorem rvCycles_resv (p n q : Nat) (b : Block) : ((rvCycles p n b).pe q).resv = (b.pe q).resv := by obtain ⟨c, h⟩ := pe_rvCycles p n q b; rw [h]
@[simp] theorem rvCycles_active (p n q : Nat) (b : Block) : ((rvCycles p n b).pe q).active = (b.pe q).active := by obtain ⟨c, h⟩ := pe_rvCycles p n q b; rw [h]
@[simp] theorem rvCycles_load (p n q : Nat) (b : Block) : ((rvCycles p n b).pe q).load = (b.pe q).load := by obtain ⟨c, h⟩ := pe_rvCycles p n q b; rw [h]
@[simp] theorem rvCycles_mtvec (p n q : Nat) (b : Block) : ((rvCycles p n b).pe q).csr.mtvec = (b.pe q).csr.mtvec := by obtain ⟨c, h⟩ := pe_rvCycles p n q b; rw [h]
@[simp] theorem rvCycles_reg (p n q r : Nat) (b : Block) : ((rvCycles p n b).pe q).reg r = (b.pe q).reg r := by simp [PolEngine.reg]
@[simp] theorem rvCycles_ramRead (p n pa k : Nat) (b : Block) : (rvCycles p n b).ramRead pa k = b.ramRead pa k := by simp [Block.ramRead]
@[simp] theorem rvCycles_vectorLoaded (p n q : Nat) (b : Block) : (rvCycles p n b).vectorLoaded q = b.vectorLoaded q := by
  simp [Block.vectorLoaded, Csrs.vector]

/-- Retirement after the cycles of the instruction. -/
theorem retire_rvCycles (p n rd : Nat) (v npc : Word) (b : Block) : retire p rd v npc (rvCycles p n b) = onPe p (PolEngine.retired n rd v npc) b := by
  rw [rvCycles_eq, retire, onPe_onPe]
  congr 1
  funext e
  simp only [PolEngine.retired, PolEngine.setReg]
  split <;> rfl

/-- The value of a fetch, and that it leaves the block. -/
theorem fetchHalf_done {p va h : Nat} {b c : Block} (hf : fetchHalf p va b = .done h c) :
    (translate (b.pe p).regions 2 va 2).cause = 0 ∧ inRam (translate (b.pe p).regions 2 va 2).phys 2 = true ∧ (translate (b.pe p).regions 2 va 2).phys / ramSize = p
      ∧ h = leNat (b.ramRead (translate (b.pe p).regions 2 va 2).phys 2) := by
  unfold fetchHalf at hf
  dsimp only at hf
  split at hf
  · unfold Xlat.refuse at hf; split at hf <;> cases hf
  · next hc =>
    split at hf
    · next hr => cases hf; exact ⟨by omega, hr.1, hr.2, rfl⟩
    · cases hf

/-- The fetch sees the engine's regions and its RAM. -/
theorem fetchHalf_rvCycles {p va h : Nat} {b c : Block} (n : Nat) (hf : fetchHalf p va b = .done h c) : fetchHalf p va (rvCycles p n b) = .done h (rvCycles p n b) := by
  obtain ⟨hc, hr, hp, rfl⟩ := fetchHalf_done hf
  simp [fetchHalf, hc, hr, hp]

/-- What the fetched instruction of an engine is, and that it executes with the next address. -/
theorem rvStep_of_fetched (hf : b.fetched p = some (w, npc)) : rvStep p bad (rvCycles p n b) = rvExec p w bad npc (rvCycles p n b) := by
  unfold Block.fetched at hf
  split at hf
  · next h c hh =>
    have h1 := fetchHalf_rvCycles n hh
    unfold rvStep
    simp only [rvCycles_pc, h1]
    split at hf
    · next hq =>
      simp only [Option.map_eq_some_iff, Prod.mk.injEq] at hf
      obtain ⟨w', hw, rfl, rfl⟩ := hf
      simp [hq, hw]
    · next hq =>
      split at hf
      · next h2 c2 hh2 =>
        cases hf
        rw [if_neg hq, fetchHalf_rvCycles n hh2]
      · cases hf
  · cases hf

/-- A running engine with no interrupt due executes the instruction at its program counter. -/
theorem doPolicyInstruction_step (hr : b.peRuns p = true) (hs : (b.pe p).asleep = false) (hi : b.irqDue p = none) :
    doPolicyInstruction p n bad b = rvStep p bad (rvCycles p n b) := by
  simp [doPolicyInstruction, hr, hs, hi]

theorem doPolicyInstruction_fetched (hr : b.peRuns p = true) (hs : (b.pe p).asleep = false) (hi : b.irqDue p = none) (hf : b.fetched p = some (w, npc)) :
    doPolicyInstruction p n bad b = rvExec p w bad npc (rvCycles p n b) :=
  (doPolicyInstruction_step hr hs hi).trans (rvStep_of_fetched hf)

end

end Sys2Proof.Machine

namespace Sys2Proof.Machine

/-! ### The instructions that change registers and control state of the engine alone -/

section
variable {s : State} {p : Fin 2} {n w : Nat} {bad : Bool} {npc : Word}

/-- An engine that stands at an instruction: it runs, is awake, has no interrupt due and fetches the instruction. -/
structure Block.standsAt (b : Block) (p w : Nat) (npc : Word) : Prop where
  runs : b.peRuns p = true
  awake : (b.pe p).asleep = false
  quiet : b.irqDue p = none
  fetched : b.fetched p = some (w, npc)

theorem Block.standsAt.step {b : Block} {p : Nat} (h : b.standsAt p w npc) (n : Nat) (bad : Bool) :
    doPolicyInstruction p n bad b = rvExec p w bad npc (rvCycles p n b) :=
  doPolicyInstruction_fetched h.runs h.awake h.quiet h.fetched

/-- An instruction that changes its engine alone. -/
theorem happens_instr {g : PolEngine → PolEngine} (h : s.block.standsAt p w npc) (he : rvExec p w bad npc (rvCycles p n s.block) = onPe p g s.block) :
    Happens (.policyInstruction p n bad) s [.engines] fun b => b.pol.engines = modAt s.block.pol.engines p g :=
  happens_onPe rfl ((h.step n bad).trans he)

/-- An instruction that retires with a value and a next program counter. -/
theorem happens_retire {rd : Nat} {v pc' : PolEngine → Word} (h : s.block.standsAt p w npc)
    (he : rvExec p w bad npc (rvCycles p n s.block) = retire p rd (v (s.block.pe p)) (pc' (s.block.pe p)) (rvCycles p n s.block)) :
    Happens (.policyInstruction p n bad) s [.engines] fun b => b.pol.engines = modAt s.block.pol.engines p fun e => e.retired n rd (v e) (pc' e) :=
  happens_instr h (he.trans ((retire_rvCycles ..).trans (onPe_congr rfl)))

theorem policyInstruction_idle (h : s.block.peRuns p = false ∨ (s.block.pe p).asleep = true) : Happens (.policyInstruction p n bad) s [] fun _ => True :=
  happens_nothing rfl (if_pos h)

theorem policyInstruction_interrupt {code : Nat} (hr : s.block.peRuns p = true) (ha : (s.block.pe p).asleep = false) (hi : s.block.irqDue p = some code) :
    Happens (.policyInstruction p n bad) s [.engines] fun b => b.pol.engines = modAt s.block.pol.engines p fun e => e.trapped true code 0 :=
  happens_onPe rfl (by simp [doPolicyInstruction, hr, ha, hi, takeTrap_eq])

theorem policyInstruction_upper (h : s.block.standsAt p w npc) (hw : w % 128 = 0x37 ∨ w % 128 = 0x17) :
    Happens (.policyInstruction p n bad) s [.engines] fun b => b.pol.engines = modAt s.block.pol.engines p fun e =>
      e.retired n (rvRd w) (if w % 128 = 0x37 then immU w else e.pc + immU w) npc := by
  refine happens_retire h ?_
  rcases hw with hw | hw <;> simp [rvExec, hw]

theorem policyInstruction_jump (h : s.block.standsAt p w npc) (hw : w % 128 = 0x6F ∨ (w % 128 = 0x67 ∧ rvF3 w = 0)) :
    Happens (.policyInstruction p n bad) s [.engines] fun b => b.pol.engines = modAt s.block.pol.engines p fun e =>
      e.retired n (rvRd w) npc (if w % 128 = 0x6F then e.pc + immJ w else (e.reg (rvRs1 w) + immI w) &&& 0xFFFFFFFE#32) := by
  refine happens_retire h ?_
  rcases hw with hw | ⟨hw, hf⟩
  · simp [rvExec, hw]
  · simp [rvExec, hw, hf]

theorem policyInstruction_branch {t : Bool} (h : s.block.standsAt p w npc) (hw : w % 128 = 0x63)
    (ht : rvBranch (rvF3 w) ((s.block.pe p).reg (rvRs1 w)) ((s.block.pe p).reg (rvRs2 w)) = some t) :
    Happens (.policyInstruction p n bad) s [.engines] fun b =>
      b.pol.engines = modAt s.block.pol.engines p fun e => e.retired n 0 0#32 (if t then e.pc + immB w else npc) :=
  happens_retire h (by simp [rvExec, hw, ht])

theorem policyInstruction_opImm (h : s.block.standsAt p w npc) (hw : w % 128 = 0x13) (h1 : rvF3 w ≠ 1 ∨ rvF7 w = 0) (h5 : rvF3 w ≠ 5 ∨ rvF7 w = 0 ∨ rvF7 w = 32) :
    Happens (.policyInstruction p n bad) s [.engines] fun b => b.pol.engines = modAt s.block.pol.engines p fun e =>
      e.retired n (rvRd w) (rvAlu (rvF3 w) (rvF3 w == 5 && rvF7 w == 32) (e.reg (rvRs1 w)) (immI w)) npc := by
  have hok : ¬ ((rvF3 w = 1 ∧ rvF7 w ≠ 0) ∨ (rvF3 w = 5 ∧ rvF7 w ≠ 0 ∧ rvF7 w ≠ 32)) := by omega
  have halt : decide (rvF3 w = 5 ∧ rvF7 w = 32) = (rvF3 w == 5 && rvF7 w == 32) := by simp [Bool.decide_and]; rfl
  refine happens_retire h ?_
  simp only [rvExec, hw, if_neg hok, halt, rvCycles_reg]

theorem policyInstruction_op (h : s.block.standsAt p w npc) (hw : w % 128 = 0x33) (h7 : rvF7 w = 0 ∨ rvF7 w = 1 ∨ (rvF7 w = 32 ∧ (rvF3 w = 0 ∨ rvF3 w = 5))) :
    Happens (.policyInstruction p n bad) s [.engines] fun b => b.pol.engines = modAt s.block.pol.engines p fun e => e.retired n (rvRd w)
      (if rvF7 w = 1 then rvMul (rvF3 w) (e.reg (rvRs1 w)) (e.reg (rvRs2 w)) else rvAlu (rvF3 w) (rvF7 w == 32) (e.reg (rvRs1 w)) (e.reg (rvRs2 w))) npc := by
  refine happens_retire h ?_
  rcases h7 with h7 | h7 | ⟨h7, h3⟩
  · simp [rvExec, hw, h7]
  · simp [rvExec, hw, h7]
  · simp [rvExec, hw, h7, h3]

theorem policyInstruction_csrrwMscratch (h : s.block.standsAt p w npc) (hw : w % 128 = 0x73) (h3 : rvF3 w = 1) (hc : bitsOf 31 20 w = 0x340) :
    Happens (.policyInstruction p n bad) s [.engines] fun b => b.pol.engines = modAt s.block.pol.engines p fun e =>
      { e.retired n (rvRd w) e.csr.mscratch npc with csr := { e.csr.counted n with mscratch := e.reg (rvRs1 w) } } := by
  obtain ⟨c, hcyc⟩ := pe_rvCycles p n p s.block
  have hread : (rvCycles p n s.block).csrRead p 0x340 = some (s.block.pe p).csr.mscratch := by simp [Block.csrRead, hcyc]
  have he : rvExec p w bad npc (rvCycles p n s.block) = onPe p (fun e => { e with csr := e.csr.write 0x340 ((s.block.pe p).reg (rvRs1 w)) })
      (retire p (rvRd w) (s.block.pe p).csr.mscratch npc (rvCycles p n s.block)) := by
    simp [rvExec, hw, rvSystem, h3, rvCsr, hc, hread]
  refine happens_instr h (he.trans ?_)
  rw [retire_rvCycles, onPe_onPe]
  exact onPe_congr (by simp [PolEngine.retired, Csrs.write])

theorem policyInstruction_mret (h : s.block.standsAt p 0x30200073 npc) :
    Happens (.policyInstruction p n bad) s [.engines] fun b => b.pol.engines = modAt s.block.pol.engines p fun e =>
      { e with pc := e.csr.mepc, csr := { e.csr.counted n with mie := e.csr.mpie, mpie := true } } := by
  obtain ⟨c, hcyc⟩ := pe_rvCycles p n p s.block
  refine happens_instr h ?_
  have he : rvExec p 0x30200073 bad npc (rvCycles p n s.block) = rvMret p (rvCycles p n s.block) := rfl
  rw [he, rvMret, retire_rvCycles, onPe_onPe]
  exact onPe_congr (by simp [PolEngine.retired, PolEngine.setReg, hcyc, Csrs.counted, Csrs.cycled])

/-- A trap after the cycles of the instruction. -/
theorem takeTrap_rvCycles (p n code tval : Nat) (b : Block) :
    takeTrap p false code tval (rvCycles p n b) = onPe p (fun e => { e with csr := e.csr.cycled n }.trapped false code tval) b := by
  rw [takeTrap_eq, rvCycles_eq, onPe_onPe]

theorem policyInstruction_ecall (h : s.block.standsAt p 0x00000073 npc) :
    Happens (.policyInstruction p n bad) s [.engines] fun b => b.pol.engines = modAt s.block.pol.engines p fun e => { e with csr := e.csr.cycled n }.trapped false 11 0 :=
  happens_instr h (Eq.trans rfl (takeTrap_rvCycles ..))

theorem policyInstruction_illegal (h : s.block.standsAt p w npc) (hw : w % 128 = 0x7F) (hv : s.block.vectorLoaded p = true) :
    Happens (.policyInstruction p n bad) s [.engines] fun b => b.pol.engines = modAt s.block.pol.engines p fun e =>
      { e with csr := e.csr.cycled n }.trapped false 2 (if Config.illegalInMtval then w else 0) := by
  refine happens_instr h ?_
  have he : rvExec p w bad npc (rvCycles p n s.block) = illegal p w (rvCycles p n s.block) := by simp [rvExec, hw]
  rw [he, illegal, rvCycles_vectorLoaded, if_pos hv, takeTrap_rvCycles]

end

end Sys2Proof.Machine

namespace Sys2Proof.Machine

/-! ### The instructions that read and write local RAM (R412, R413; log entries 58 and 59) -/

section
variable {s : State} {p : Fin 2} {n w : Nat} {bad : Bool} {npc : Word}

theorem physTarget_ram {pa : Nat} (h : pa < 0x100000) : physTarget pa = .ram (pa / ramSize) := by simp [physTarget, h]

theorem loadAt_ram {p acc va : Nat} {bad : Bool} {b : Block} (hc : (translate (b.pe p).regions acc va 4).cause = 0) (hp : (translate (b.pe p).regions acc va 4).phys < 0x100000)
    (hr : inRam (translate (b.pe p).regions acc va 4).phys 4 = true) (ha : va % 4 = 0) :
    loadAt p acc va 4 bad b = .done (leNat (b.ramRead (translate (b.pe p).regions acc va 4).phys 4)) b := by
  simp [loadAt, hc, physTarget_ram hp, hr, ha]

theorem storeAt_ram {p acc va v : Nat} {b : Block} (hc : (translate (b.pe p).regions acc va 4).cause = 0) (hp : (translate (b.pe p).regions acc va 4).phys < 0x100000)
    (hr : inRam (translate (b.pe p).regions acc va 4).phys 4 = true) (ha : va % 4 = 0) :
    storeAt p acc va 4 v b = .done 0 (ramWrite (translate (b.pe p).regions acc va 4).phys (leBytes 4 v) b) := by
  simp [storeAt, hc, physTarget_ram hp, hr, ha]

theorem policyInstruction_load {va : Nat} {x : Xlat} (h : s.block.standsAt p w npc) (hw : w % 128 = 0x03) (h3 : rvF3 w = 2)
    (hva : va = ((s.block.pe p).reg (rvRs1 w) + immI w).toNat) (ha : va % 4 = 0) (hx : x = translate (s.block.pe p).regions 0 va 4) (hc : x.cause = 0)
    (hp : x.phys < 0x100000) (hr : inRam x.phys 4 = true) :
    Happens (.policyInstruction p n bad) s [.engines] fun b =>
      b.pol.engines = modAt s.block.pol.engines p fun e => e.retired n (rvRd w) (w32 (leNat (s.block.ramRead x.phys 4))) npc := by
  subst hx hva
  refine happens_retire h ?_
  have hl := loadAt_ram (bad := bad) (b := rvCycles p n s.block) (p := p) (acc := 0) (va := ((s.block.pe p).reg (rvRs1 w) + immI w).toNat)
    (by simpa using hc) (by simpa using hp) (by simpa using hr) ha
  simp only [rvCycles_regions, rvCycles_ramRead] at hl
  simp only [rvExec, hw, rvLoad, h3, rvCycles_reg, hl]

/-! #### A write to local RAM: the RAMs, the reservations, and the rest of the engines -/

/-- What a write of `len` bytes at `pa` leaves of an engine's reservation. -/
def PolEngine.breaks (pa len : Nat) (e : PolEngine) : PolEngine := { e with resv := e.resv.filter fun a => decide (a + 4 ≤ pa) || decide (pa + len ≤ a) }

theorem pe_breakResv (pa len q : Nat) (b : Block) : (breakResv pa len b).pe q = (b.pe q).breaks pa len := by
  simp only [Block.pe, breakResv, Block.onPol_pol, List.getD_eq_getElem?_getD, List.getElem?_map]
  cases b.pol.engines[q]? <;> rfl

@[simp] theorem breakResv_engines_length (pa len : Nat) (b : Block) : (breakResv pa len b).pol.engines.length = b.pol.engines.length := by
  simp [breakResv]

@[simp] theorem ramWrite_engines_length (pa : Nat) (bs : List Byte) (b : Block) : (ramWrite pa bs b).pol.engines.length = b.pol.engines.length := by
  simp [ramWrite]

/-- An engine after a write: its RAM where the address lies in it, its reservation. -/
theorem pe_ramWrite {pa q : Nat} {bs : List Byte} {b : Block} (hq : q < b.pol.engines.length) :
    (ramWrite pa bs b).pe q = { (b.pe q).breaks pa bs.length with
      ram := if q = pa / ramSize then memWrite 0#8 (pa % ramSize) bs (b.pe q).ram else (b.pe q).ram } := by
  rw [ramWrite, pe_onPe_of_lt _ _ (by simpa using hq), pe_breakResv]
  by_cases h : pa / ramSize = q
  · rw [if_pos h, if_pos h.symm]; rfl
  · rw [if_neg h, if_neg (Ne.symm h)]; rfl

theorem inRam_engine {pa : Nat} (h : inRam pa 4 = true) : pa < 0x100000 ∧ pa % ramSize + 4 ≤ ramSize := by
  obtain ⟨h1, h2⟩ := Bool.and_eq_true_iff.mp h
  replace h1 := of_decide_eq_true h1
  replace h2 := of_decide_eq_true h2
  simp only [ramSize] at *
  omega

theorem ramWf_of_memoriesWf {b : Block} {q : Nat} (h : b.memoriesWf = true) : memWf 0#8 0 (b.pe q).ram = true := by
  obtain ⟨_, he⟩ := Bool.and_eq_true_iff.mp h
  rw [Block.pe, List.getD_eq_getElem?_getD]
  cases hq : b.pol.engines[q]? with
  | none => rfl
  | some e => exact (Bool.and_eq_true_iff.mp (List.all_eq_true.mp he e (List.mem_of_getElem? hq))).1

/-- A word read after it was written. -/
theorem ramRead_of_ram {pa v : Nat} {b c : Block} (hwf : memWf 0#8 0 (b.pe (pa / ramSize)).ram = true)
    (hram : (c.pe (pa / ramSize)).ram = memWrite 0#8 (pa % ramSize) (leBytes 4 v) (b.pe (pa / ramSize)).ram) : c.ramRead pa 4 = leBytes 4 v := by
  have h := memRead_memWrite (o := 0) (n := 4) (bs := leBytes 4 v) hwf (Nat.zero_le (pa % ramSize)) (by simp)
  rw [Block.ramRead, hram]
  simpa [List.take_of_length_le] using h

/-- The block but for its policy engines. -/
def Block.beside (b : Block) : Block := b.onPol fun x => { x with engines := [] }

@[simp] theorem onPe_beside (p : Nat) (f : PolEngine → PolEngine) (b : Block) : (onPe p f b).beside = b.beside := rfl
@[simp] theorem ramWrite_beside (pa : Nat) (bs : List Byte) (b : Block) : (ramWrite pa bs b).beside = b.beside := rfl

theorem same_beside (b c : Block) {q : PartName} (hq : q ∉ [PartName.engines]) (hn : q ∉ noticed) : b.same c.beside q = b.same c q := by
  cases q
  case engines | log | img | pol => simp [noticed] at hq hn
  all_goals rfl

theorem same_of_beside {b c : Block} (h : c.beside = b.beside) {q : PartName} (hq : q ∉ [PartName.engines]) (hn : q ∉ noticed) : b.same c q := by
  rw [← same_beside b c hq hn, h, same_beside b b hq hn]
  cases q <;> rfl

theorem irqWatch_pe (o b : Block) (q : Nat) : (irqWatch o b).pe q = b.pe q := by simp [Block.pe]
theorem irqWatch_ramRead (o b : Block) (pa k : Nat) : (irqWatch o b).ramRead pa k = b.ramRead pa k := by simp [Block.ramRead, irqWatch_pe]

/-- An event that changes policy engines alone. -/
theorem happens_engines {i : Instr} {f : Block → Block} {c : Block} {P : Block → Prop} (hi : exec i s = effect f s) (hf : f s.block = c) (hb : c.beside = s.block.beside)
    (hP : P (irqWatch s.block c)) : Happens i s [.engines] P := by
  subst hf
  exact happens_event hi (congrArg Block.settled hb : (f s.block).beside.settled = s.block.beside.settled) (fun q hq hn => same_of_beside hb hq hn) hP

/-- What a retired instruction that wrote local RAM leaves of the engines. -/
theorem pe_retire_ramWrite {n p rd pa q : Nat} {v npc : Word} {bs : List Byte} {b : Block} (hl : b.pol.engines.length = 2) (hq : q < 2) :
    ∃ e : PolEngine, (retire p rd v npc (ramWrite pa bs (rvCycles p n b))).pe q = e ∧ e.ram = (if q = pa / ramSize then memWrite 0#8 (pa % ramSize) bs (b.pe q).ram else (b.pe q).ram)
      ∧ e.resv = (b.pe q).resv.filter (fun a => decide (a + 4 ≤ pa) || decide (pa + bs.length ≤ a)) ∧ (q = p → e.pc = npc ∧ e.regs = ((b.pe q).setReg rd v).regs) := by
  refine ⟨_, rfl, ?_⟩
  have hq' : q < (ramWrite pa bs (rvCycles p n b)).pol.engines.length := by simpa [rvCycles_eq, hl] using hq
  have hr : q < (rvCycles p n b).pol.engines.length := by simpa [rvCycles_eq, hl] using hq
  rw [retire, pe_onPe_of_lt _ _ hq', pe_ramWrite hr]
  by_cases hpq : p = q
  · subst hpq
    simp [PolEngine.breaks, PolEngine.setReg]
    split <;> simp
  · simp [hpq, PolEngine.breaks, Ne.symm hpq]

end

end Sys2Proof.Machine

namespace Sys2Proof.Machine

/-! ### Stores and atomic accesses (R412, R413; log entries 58 and 59) -/

section
variable {s : State} {p : Fin 2} {n w : Nat} {bad : Bool} {npc : Word}

/-- What an instruction that writes a word of local RAM and retires leaves. -/
structure Block.wrote (o b : Block) (p pa v rd : Nat) (u npc : Word) : Prop where
  pc : (b.pe p).pc = npc
  regs : (b.pe p).regs = ((o.pe p).setReg rd u).regs
  read : b.ramRead pa 4 = leBytes 4 v
  ram : ∀ q < 2, (b.pe q).ram = if q = pa / ramSize then memWrite 0#8 (pa % ramSize) (leBytes 4 v) (o.pe q).ram else (o.pe q).ram
  resv : ∀ q < 2, ∀ a ∈ (b.pe q).resv, a + 4 ≤ pa ∨ pa + 4 ≤ a

theorem wrote_retire_ramWrite {n p rd pa v : Nat} {u npc : Word} {b : Block} (hp : p < 2) (hr : inRam pa 4 = true) (hl : b.pol.engines.length = 2) (hm : b.memoriesWf = true) :
    b.wrote (retire p rd u npc (ramWrite pa (leBytes 4 v) (rvCycles p n b))) p pa v rd u npc := by
  have hpe {q : Nat} (hq : q < 2) := pe_retire_ramWrite (n := n) (p := p) (rd := rd) (v := u) (npc := npc) (pa := pa) (bs := leBytes 4 v) hl hq
  have hq : pa / ramSize < 2 := by
    have := inRam_engine hr
    simp only [ramSize]
    omega
  obtain ⟨e, he, -, -, hself⟩ := hpe hp
  obtain ⟨hpc, hregs⟩ := hself rfl
  obtain ⟨e', he', hram, -, -⟩ := hpe hq
  rw [if_pos rfl] at hram
  refine ⟨he ▸ hpc, he ▸ hregs, ramRead_of_ram (ramWf_of_memoriesWf hm) (he' ▸ hram), fun q hq => ?_, fun q hq a ha => ?_⟩
  · obtain ⟨e, he, hram, -, -⟩ := hpe hq
    rw [he, hram]
  · obtain ⟨e, he, -, hresv, -⟩ := hpe hq
    rw [he, hresv, Option.mem_filter_iff] at ha
    simpa using ha.2

/-- The reservation and the retirement of an instruction are set in either order. -/
theorem retire_setResv (p rd : Nat) (v npc : Word) (r : Option Nat) (b : Block) :
    retire p rd v npc (onPe p (fun e => { e with resv := r }) b) = onPe p (fun e => { e with resv := r }) (retire p rd v npc b) := by
  rw [retire, retire, onPe_onPe, onPe_onPe]
  congr 1
  funext e
  simp only [PolEngine.setReg]
  split <;> rfl

theorem reg_of_regs {e f : PolEngine} (h : e.regs = f.regs) (r : Nat) : e.reg r = f.reg r := by rw [PolEngine.reg, PolEngine.reg, h]

/-- A register written with 0 reads 0, also x0 and one that is not there. -/
theorem reg_setReg_zero (r : Nat) (e : PolEngine) : (e.setReg r 0#32).reg r = 0#32 := by
  by_cases h : r = 0
  · simp [PolEngine.reg, h]
  · simp only [PolEngine.reg, PolEngine.setReg, if_neg h, List.getD_eq_getElem?_getD, List.getElem?_set_self']
    cases e.regs[r - 1]? <;> rfl

theorem reg_setReg_same {r : Nat} {v : Word} {e : PolEngine} (h0 : r ≠ 0) (hr : r - 1 < e.regs.length) : (e.setReg r v).reg r = v := by
  simp [PolEngine.reg, PolEngine.setReg, h0, hr]

theorem Block.wrote.watched {o b : Block} {p pa v rd : Nat} {u npc : Word} (h : o.wrote b p pa v rd u npc) : o.wrote (irqWatch o b) p pa v rd u npc := by
  constructor <;> simp only [irqWatch_pe, irqWatch_ramRead]
  exacts [h.pc, h.regs, h.read, h.ram, h.resv]

/-- Engines whose reservation alone is changed. -/
theorem Block.wrote.dropResv {o b : Block} {p pa v rd : Nat} {u npc : Word} (hl : b.pol.engines.length = 2) (h : o.wrote b p pa v rd u npc) :
    o.wrote (onPe p (fun e => { e with resv := none }) b) p pa v rd u npc := by
  have hf {α : Type} (g : PolEngine → α) (hg : ∀ e : PolEngine, g { e with resv := none } = g e) (q : Nat) := pe_onPe_field g (p := p) hg q b
  refine ⟨(hf PolEngine.pc (fun _ => rfl) p).trans h.pc, (hf PolEngine.regs (fun _ => rfl) p).trans h.regs, ?_, fun q hq => (hf PolEngine.ram (fun _ => rfl) q).trans (h.ram q hq),
    fun q hq a ha => ?_⟩
  · rw [Block.ramRead, hf PolEngine.ram (fun _ => rfl)]
    exact h.read
  · rw [pe_onPe_of_lt _ _ (hl ▸ hq)] at ha
    split at ha
    · cases ha
    · exact h.resv q hq a ha

/-- A weaker property of the block that an event leaves. -/
theorem Happens.mono {i : Instr} {l : List PartName} {P Q : Block → Prop} (h : Happens i s l P) (hPQ : ∀ b, P b → Q b) : Happens i s l Q := fun hs => by
  obtain ⟨t, ht, hm, hP, hc⟩ := h hs
  exact ⟨t, ht, hm, hPQ _ hP, hc⟩

/-- An instruction that writes a word of local RAM and retires. -/
theorem happens_writes {rd pa v : Nat} {u : Word} (h : s.block.standsAt p w npc)
    (he : rvExec p w bad npc (rvCycles p n s.block) = retire p rd u npc (ramWrite pa (leBytes 4 v) (rvCycles p n s.block)))
    (hr : inRam pa 4 = true) (hl : s.block.pol.engines.length = 2) (hm : s.block.memoriesWf = true) :
    Happens (.policyInstruction p n bad) s [.engines] fun b => s.block.wrote b p pa v rd u npc :=
  happens_engines rfl ((h.step n bad).trans he) (by simp [retire, rvCycles_eq]) (wrote_retire_ramWrite p.isLt hr hl hm).watched

theorem policyInstruction_store {va : Nat} {x : Xlat} (h : s.block.standsAt p w npc) (hw : w % 128 = 0x23) (h3 : rvF3 w = 2)
    (hva : va = ((s.block.pe p).reg (rvRs1 w) + immS w).toNat) (ha : va % 4 = 0) (hx : x = translate (s.block.pe p).regions 1 va 4) (hc : x.cause = 0)
    (hp : x.phys < 0x100000) (hr : inRam x.phys 4 = true) (hl : s.block.pol.engines.length = 2) (hm : s.block.memoriesWf = true) :
    Happens (.policyInstruction p n bad) s [.engines] fun b =>
      (b.pe p).pc = npc ∧ (b.pe p).regs = (s.block.pe p).regs ∧ b.ramRead x.phys 4 = leBytes 4 ((s.block.pe p).reg (rvRs2 w)).toNat
      ∧ (∀ q : Fin 2, (b.pe q).ram = if q.val = x.phys / ramSize then
          memWrite 0#8 (x.phys % ramSize) (leBytes 4 ((s.block.pe p).reg (rvRs2 w)).toNat) (s.block.pe q).ram else (s.block.pe q).ram)
      ∧ ∀ q : Fin 2, ∀ a ∈ (b.pe q).resv, a + 4 ≤ x.phys ∨ x.phys + 4 ≤ a := by
  have hs := storeAt_ram (b := rvCycles p n s.block) (p := p) (acc := 1) (va := va) (v := ((s.block.pe p).reg (rvRs2 w)).toNat)
  simp only [rvCycles_regions, ← hx] at hs
  have he : rvExec p w bad npc (rvCycles p n s.block) = retire p 0 0#32 npc (ramWrite x.phys (leBytes 4 ((s.block.pe p).reg (rvRs2 w)).toNat) (rvCycles p n s.block)) := by
    simp only [rvExec, hw, rvStore, h3, rvCycles_reg, ← hva, hs hc hp hr ha]
  exact (happens_writes h he hr hl hm).mono fun b hb => ⟨hb.pc, hb.regs, hb.read, fun q => hb.ram q q.isLt, fun q => hb.resv q q.isLt⟩

/-- Whether an AMO is one the engine has does not depend on its operands. -/
theorem rvAmo_ne_none {f5 : Nat} {a c v : Word} (h : rvAmo f5 a c = some v) (a' c' : Word) : rvAmo f5 a' c' ≠ none := by
  unfold rvAmo at h ⊢
  split at h <;> simp at h ⊢

section
variable {x : Xlat} (h : s.block.standsAt p w npc) (hw : w % 128 = 0x2F) (h3 : rvF3 w = 2) (ha : ((s.block.pe p).reg (rvRs1 w)).toNat % 4 = 0)
  (hc : x.cause = 0) (hr : inRam x.phys 4 = true)

include h hw h3 ha hc hr

theorem policyInstruction_lr (h5 : bitsOf 31 27 w = 2) (h2 : rvRs2 w = 0) (hx : x = translate (s.block.pe p).regions 0 ((s.block.pe p).reg (rvRs1 w)).toNat 4) :
    Happens (.policyInstruction p n bad) s [.engines] fun b => b.pol.engines = modAt s.block.pol.engines p fun e =>
      { e.retired n (rvRd w) (w32 (leNat (s.block.ramRead x.phys 4))) npc with resv := some x.phys } := by
  subst hx
  have he : rvExec p w bad npc (rvCycles p n s.block) = retire p (rvRd w) (w32 (leNat (s.block.ramRead (translate (s.block.pe p).regions 0 ((s.block.pe p).reg (rvRs1 w)).toNat 4).phys 4))) npc
      (onPe p (fun e => { e with resv := some (translate (s.block.pe p).regions 0 ((s.block.pe p).reg (rvRs1 w)).toNat 4).phys }) (rvCycles p n s.block)) := by
    simp [rvExec, hw, rvAtomic, h3, h5, h2, ha, hc, hr]
  refine happens_instr h (he.trans ?_)
  rw [retire_setResv, retire_rvCycles, onPe_onPe]

theorem policyInstruction_scFails (h5 : bitsOf 31 27 w = 3) (hx : x = translate (s.block.pe p).regions 1 ((s.block.pe p).reg (rvRs1 w)).toNat 4)
    (hv : (s.block.pe p).resv ≠ some x.phys) :
    Happens (.policyInstruction p n bad) s [.engines] fun b => b.pol.engines = modAt s.block.pol.engines p fun e => { e.retired n (rvRd w) 1#32 npc with resv := none } := by
  subst hx
  have he : rvExec p w bad npc (rvCycles p n s.block) = retire p (rvRd w) 1#32 npc (onPe p (fun e => { e with resv := none }) (rvCycles p n s.block)) := by
    simp [rvExec, hw, rvAtomic, h3, h5, ha, hc, hr, hv]
  refine happens_instr h (he.trans ?_)
  rw [retire_setResv, retire_rvCycles, onPe_onPe]

theorem policyInstruction_scStores (h5 : bitsOf 31 27 w = 3) (hx : x = translate (s.block.pe p).regions 1 ((s.block.pe p).reg (rvRs1 w)).toNat 4)
    (hv : (s.block.pe p).resv = some x.phys) (hl : s.block.pol.engines.length = 2) (hm : s.block.memoriesWf = true) :
    Happens (.policyInstruction p n bad) s [.engines] fun b =>
      b.ramRead x.phys 4 = leBytes 4 ((s.block.pe p).reg (rvRs2 w)).toNat ∧ (b.pe p).reg (rvRd w) = 0#32 ∧ (b.pe p).resv = none ∧ (b.pe p).pc = npc := by
  have he : rvExec p w bad npc (rvCycles p n s.block) = onPe p (fun e => { e with resv := none })
      (retire p (rvRd w) 0#32 npc (ramWrite x.phys (leBytes 4 ((s.block.pe p).reg (rvRs2 w)).toNat) (rvCycles p n s.block))) := by
    subst hx
    simp [rvExec, hw, rvAtomic, h3, h5, ha, hc, hr, hv, retire_setResv]
  have hwr := wrote_retire_ramWrite (n := n) (p := p) (rd := rvRd w) (v := ((s.block.pe p).reg (rvRs2 w)).toNat) (u := 0#32) (npc := npc) p.isLt hr hl hm
  have hlen : (retire p (rvRd w) 0#32 npc (ramWrite x.phys (leBytes 4 ((s.block.pe p).reg (rvRs2 w)).toNat) (rvCycles p n s.block))).pol.engines.length = 2 := by
    simp [retire, rvCycles_eq, hl]
  refine happens_engines rfl ((h.step n bad).trans he) (by simp [retire, rvCycles_eq]) ?_
  simp only [irqWatch_pe, irqWatch_ramRead]
  refine ⟨(hwr.dropResv hlen).read, ?_, ?_, (hwr.dropResv hlen).pc⟩
  · rw [reg_of_regs (hwr.dropResv hlen).regs, reg_setReg_zero]
  · rw [pe_onPe_of_lt _ _ (by rw [hlen]; exact p.isLt), if_pos rfl]

theorem policyInstruction_amo {v : Word} (h2 : bitsOf 31 27 w ≠ 2) (h5 : bitsOf 31 27 w ≠ 3) (hx : x = translate (s.block.pe p).regions 3 ((s.block.pe p).reg (rvRs1 w)).toNat 4)
    (hl : s.block.pol.engines.length = 2) (hv : rvAmo (bitsOf 31 27 w) (w32 (leNat (s.block.ramRead x.phys 4))) ((s.block.pe p).reg (rvRs2 w)) = some v)
    (h31 : (s.block.pe p).regs.length = 31) (hm : s.block.memoriesWf = true) :
    Happens (.policyInstruction p n bad) s [.engines] fun b =>
      b.ramRead x.phys 4 = leBytes 4 v.toNat ∧ (b.pe p).pc = npc ∧ (rvRd w ≠ 0 → (b.pe p).reg (rvRd w) = w32 (leNat (s.block.ramRead x.phys 4))) := by
  have hdef := rvAmo_ne_none hv 0#32 0#32
  have he : rvExec p w bad npc (rvCycles p n s.block) =
      retire p (rvRd w) (w32 (leNat (s.block.ramRead x.phys 4))) npc (ramWrite x.phys (leBytes 4 v.toNat) (rvCycles p n s.block)) := by
    subst hx
    simp [rvExec, hw, rvAtomic, h3, h5, h2, ha, hc, hr, hv, hdef]
  refine (happens_writes h he hr hl hm).mono fun b hb => ⟨hb.read, hb.pc, fun hrd => ?_⟩
  rw [reg_of_regs hb.regs, reg_setReg_same hrd]
  have : rvRd w < 32 := Nat.mod_lt _ (by decide)
  omega

end

end

end Sys2Proof.Machine

namespace Sys2Proof.Machine

/-! ### Completion queues: what a completion leaves of the engines and channels (R427 to R430) -/

/-- The block but for engines, channels, ENGSVC, and what notices change. -/
def Block.apart (b : Block) : Block :=
  { b.quiet with sys := { b.sys with engSvc := [] }, pol := { b.quiet.pol with engines := [], chans := [] } }

theorem apart_of_quiet {a b : Block} (h : a.quiet = b.quiet) : a.apart = b.apart :=
  congrArg (fun c : Block => { c with sys := { c.sys with engSvc := [] }, pol := { c.pol with engines := [], chans := [] } }) h

theorem settled_of_apart {a b : Block} (h : a.apart = b.apart) : a.settled = b.settled :=
  (congrArg Block.settled h : a.apart.settled = b.apart.settled)

/-- What completions leave of an engine: its service, sleep, fault record, restart and the state of its ring. -/
def PolEngine.standing (e : PolEngine) : Bool × Bool × Nat × Option Nat × List Nat × Bool × Bool :=
  (e.up, e.asleep, e.fcause, e.restartDue, e.restarts, e.ring.en, e.ring.stopping)

/-- What completions leave of a channel. -/
def DmaChan.standing (x : DmaChan) : Option Nat × DmaState := (x.owner, x.st)

/-- The second block differs from the first by written completions. -/
structure Block.completing (a b : Block) : Prop where
  length : b.pol.engines.length = a.pol.engines.length
  apart : b.apart = a.apart
  engine : ∀ q, (b.pe q).standing = (a.pe q).standing
  resv : ∀ q, (a.pe q).resv = none → (b.pe q).resv = none
  chan : ∀ c, (b.ch c).standing = (a.ch c).standing

theorem Block.completing.refl (b : Block) : b.completing b := ⟨rfl, rfl, fun _ => rfl, fun _ h => h, fun _ => rfl⟩

theorem Block.completing.trans {a b c : Block} (h : a.completing b) (k : b.completing c) : a.completing c :=
  ⟨k.length.trans h.length, k.apart.trans h.apart, fun q => (k.engine q).trans (h.engine q), fun q hq => k.resv q (h.resv q hq), fun c => (k.chan c).trans (h.chan c)⟩

theorem completing_foldl {α : Type} {f : Block → α → Block} (h : ∀ (b : Block) x, b.completing (f b x)) (l : List α) (b : Block) : b.completing (l.foldl f b) := by
  induction l generalizing b with
  | nil => exact .refl b
  | cons x l ih => exact (h b x).trans (ih _)

theorem completing_of_quiet {a b : Block} (h : b.quiet = a.quiet) : a.completing b := by
  have he : b.pol.engines = a.pol.engines := engines_of_quiet h
  have hc : b.pol.chans = a.pol.chans := chans_of_quiet h
  exact ⟨congrArg List.length he, apart_of_quiet h, fun q => by simp only [Block.pe, he], fun q hq => by simpa only [Block.pe, he] using hq, fun c => by simp only [Block.ch, hc]⟩

/-- A field of a channel that a change leaves. -/
theorem ch_onCh_field {α : Type} (g : DmaChan → α) {c : Nat} {f : DmaChan → DmaChan} (h : ∀ x, g (f x) = g x) (d : Nat) (b : Block) : g ((onCh c f b).ch d) = g (b.ch d) := by
  simp only [Block.ch, onCh, Block.onPol_pol, modAt, List.getD_eq_getElem?_getD, List.getElem?_modify]
  cases b.pol.chans[d]? with
  | none => rfl
  | some x =>
    by_cases hcd : c = d
    · simp [hcd, h]
    · simp [hcd]

theorem completing_onPe {p : Nat} {f : PolEngine → PolEngine} (hs : ∀ e, (f e).standing = e.standing) (hr : ∀ e, (f e).resv = e.resv) (b : Block) :
    b.completing (onPe p f b) :=
  ⟨onPe_engines_length .., rfl, fun q => pe_onPe_field _ hs q b, fun q hq => (pe_onPe_field _ hr q b).trans hq, fun _ => rfl⟩

theorem completing_onCh {c : Nat} {f : DmaChan → DmaChan} (hs : ∀ x, (f x).standing = x.standing) (b : Block) : b.completing (onCh c f b) :=
  ⟨rfl, rfl, fun _ => rfl, fun _ hq => hq, fun d => ch_onCh_field _ hs d b⟩

theorem completing_ramWrite (pa : Nat) (bs : List Byte) (b : Block) : b.completing (ramWrite pa bs b) := by
  have hb : b.completing (breakResv pa bs.length b) :=
    ⟨breakResv_engines_length .., rfl, fun q => by rw [pe_breakResv]; rfl, fun q hq => by rw [pe_breakResv, PolEngine.breaks, hq]; rfl, fun _ => rfl⟩
  exact hb.trans (completing_onPe (by exact fun _ => rfl) (by exact fun _ => rfl) _)

theorem completing_vwrite (p va : Nat) (bs : List Byte) (b : Block) : b.completing (vwrite p va bs b) := by
  unfold vwrite
  split
  · exact .refl b
  · exact completing_ramWrite ..

theorem completing_onCq (l : CqLoc) (f : Cq → Cq) (b : Block) : b.completing (onCq l f b) := by
  cases l with
  | chan c => exact completing_onCh (by exact fun _ => rfl) b
  | ring p => exact completing_onPe (by exact fun _ => rfl) (by exact fun _ => rfl) b
  | port p => exact completing_onPe (by exact fun _ => rfl) (by exact fun _ => rfl) b

theorem completing_signalCq (l : CqLoc) (b : Block) : b.completing (signalCq l b) :=
  (completing_onCq l _ b).trans (completing_of_quiet (raiseIrq_quiet ..))

theorem completing_putCq (l : CqLoc) (e : CqEntry) (b : Block) : b.completing (putCq l e b) := by
  have h := (completing_vwrite (b.cqEngine l) ((b.cq l).base + 16 * ((b.cq l).put % max 1 (b.cq l).size)) (e.bytes (b.cq l)) b).trans
    (completing_onCq l (fun q => { q with put := (q.put + 1) % 8192, mpend := q.mpend + 1, oldest := some (q.oldest.getD b.sys.now) }) _)
  unfold putCq
  dsimp only
  split
  · exact h.trans (completing_signalCq ..)
  · exact h

theorem completing_pushCq (l : CqLoc) (e : CqEntry) (b : Block) : b.completing (pushCq l e b) := by
  unfold pushCq
  dsimp only
  split
  · exact completing_onCq ..
  · exact completing_putCq ..

/-! ### Channels and rings that are disabled (R430) -/

def DmaChan.down (x : DmaChan) : Prop := x.st = .disabled ∨ x.st = .stopping

/-- What a disabled channel leaves: the engines and the owners stand, no channel comes back, and it is down itself. -/
structure Block.downs (a b : Block) (l : List Nat) : Prop where
  length : b.pol.engines.length = a.pol.engines.length
  apart : b.apart = a.apart
  engine : ∀ q, (b.pe q).standing = (a.pe q).standing
  resv : ∀ q, (a.pe q).resv = none → (b.pe q).resv = none
  owner : ∀ c, (b.ch c).owner = (a.ch c).owner
  still : ∀ c, (a.ch c).down → (b.ch c).down
  down : ∀ c ∈ l, (b.ch c).down

theorem Block.completing.downs {a b : Block} (h : a.completing b) : a.downs b [] :=
  ⟨h.length, h.apart, h.engine, h.resv, fun c => congrArg Prod.fst (h.chan c), fun c hc => by
    have hst : (b.ch c).st = (a.ch c).st := congrArg Prod.snd (h.chan c)
    rwa [DmaChan.down, hst], fun _ h => nomatch h⟩

theorem Block.downs.trans {a b c : Block} {l m : List Nat} (h : a.downs b l) (k : b.downs c m) : a.downs c (l ++ m) :=
  ⟨k.length.trans h.length, k.apart.trans h.apart, fun q => (k.engine q).trans (h.engine q), fun q hq => k.resv q (h.resv q hq), fun c => (k.owner c).trans (h.owner c),
    fun c hc => k.still c (h.still c hc), fun c hc => (List.mem_append.mp hc).elim (fun hl => k.still c (h.down c hl)) (k.down c)⟩

theorem downs_stop (c : Nat) (b : Block) : b.downs (onCh c (fun x => { x with st := .stopping, cur := none }) b) [c] := by
  have hst (d : Nat) : ((onCh c (fun x => { x with st := .stopping, cur := none }) b).ch d).down ∨ (c ≠ d ∧ (onCh c (fun x => { x with st := .stopping, cur := none }) b).ch d = b.ch d) := by
    simp only [Block.ch, onCh, Block.onPol_pol, modAt, List.getD_eq_getElem?_getD, List.getElem?_modify]
    cases b.pol.chans[d]? with
    | none => exact .inl (.inl rfl)
    | some x =>
      by_cases hcd : c = d
      · exact .inl (by simp [hcd, DmaChan.down])
      · exact .inr ⟨hcd, by simp [hcd]⟩
  refine ⟨rfl, rfl, fun _ => rfl, fun _ hq => hq, fun d => ch_onCh_field DmaChan.owner (by exact fun _ => rfl) d b, fun d hd => ?_, fun d hd => ?_⟩
  · rcases hst d with h | ⟨-, h⟩
    · exact h
    · rwa [h]
  · rcases hst d with h | ⟨hne, -⟩
    · exact h
    · exact absurd (List.mem_singleton.mp hd).symm hne

theorem downs_disableCh (c : Nat) (b : Block) : b.downs (disableCh c b) [c] := by
  unfold disableCh
  dsimp only
  split
  · next h => exact ⟨rfl, rfl, fun _ => rfl, fun _ hq => hq, fun _ => rfl, fun _ hd => hd, fun d hd => List.mem_singleton.mp hd ▸ h⟩
  · refine (downs_stop c b).trans (Block.completing.downs (.trans (.trans ?_ (completing_foldl (fun _ _ => completing_pushCq ..) _ _)) (completing_onCh (by exact fun _ => rfl) _)))
    split
    · exact completing_pushCq ..
    · exact .refl _

theorem downs_disableChs (l : List Nat) (b : Block) : b.downs (l.foldl (fun b c => disableCh c b) b) l := by
  induction l generalizing b with
  | nil => exact (Block.completing.refl b).downs
  | cons c l ih => exact (downs_disableCh c b).trans (ih _)

end Sys2Proof.Machine

namespace Sys2Proof.Machine

/-! ### An engine that goes down (R411, R418, R430) -/

/-- What a ring that is disabled leaves of an engine: its service, sleep, fault record and restart. -/
def PolEngine.service (e : PolEngine) : Bool × Bool × Nat × Option Nat × List Nat := (e.up, e.asleep, e.fcause, e.restartDue, e.restarts)

theorem service_of_standing {e f : PolEngine} (h : e.standing = f.standing) : e.service = f.service := by
  simp only [PolEngine.standing, PolEngine.service, Prod.mk.injEq] at h ⊢
  tauto

theorem stopping_of_standing {e f : PolEngine} (h : e.standing = f.standing) : e.ring.stopping = f.ring.stopping := by
  simp only [PolEngine.standing, Prod.mk.injEq] at h
  tauto

/-- The ring is disabled or on its way there. -/
def PolEngine.ringDown (e : PolEngine) : Prop := e.ring.en = false ∨ e.ring.stopping = true

/-- What stopping the ring of engine `p` leaves. -/
structure Block.ringStops (a b : Block) (p : Nat) : Prop where
  length : b.pol.engines.length = a.pol.engines.length
  apart : b.apart = a.apart
  service : ∀ q, (b.pe q).service = (a.pe q).service
  resv : ∀ q, (a.pe q).resv = none → (b.pe q).resv = none
  chan : ∀ c, (b.ch c).standing = (a.ch c).standing
  down : (b.pe p).ringDown

theorem pe_onPe_cases (p : Nat) (f : PolEngine → PolEngine) (q : Nat) (b : Block) : (onPe p f b).pe q = b.pe q ∨ (onPe p f b).pe q = f (b.pe q) := by
  by_cases hq : q < b.pol.engines.length
  · rw [pe_onPe_of_lt _ _ hq]
    split
    · exact .inr rfl
    · exact .inl rfl
  · have hn (c : Block) (hc : ¬ q < c.pol.engines.length) : c.pe q = PolEngine.reset := by
      simp [Block.pe, List.getD_eq_getElem?_getD, List.getElem?_eq_none (Nat.le_of_not_lt hc)]
    exact .inl (by rw [hn b hq, hn _ (by simpa using hq)])

theorem ringStops_drainRing {p : Nat} {b : Block} (h : (b.pe p).ring.stopping = true) : b.ringStops (drainRing p b) p := by
  unfold drainRing
  dsimp only
  split
  · exact ⟨rfl, rfl, fun _ => rfl, fun _ hq => hq, fun _ => rfl, .inr h⟩
  · set c := (List.range _).foldl _ b with hc
    have hcc : b.completing c := completing_foldl (fun _ _ => completing_pushCq ..) _ _
    refine ⟨(onPe_engines_length ..).trans hcc.length, hcc.apart, fun q => ?_, fun q hq => ?_, hcc.chan, ?_⟩
    · exact (pe_onPe_field PolEngine.service (by exact fun _ => rfl) q c).trans (service_of_standing (hcc.engine q))
    · exact (pe_onPe_field PolEngine.resv (by exact fun _ => rfl) q c).trans (hcc.resv q hq)
    · rcases pe_onPe_cases p _ p c with he | he
      · rw [he]
        exact .inr ((stopping_of_standing (hcc.engine p)).trans h)
      · rw [he]
        cases hw : (c.pe p).ring.cq.waiting == []
        · exact .inr (by simp)
        · exact .inl (by simp)

theorem ringStops_disableRing {p : Nat} {b : Block} (hp : p < b.pol.engines.length) : b.ringStops (disableRing p b) p := by
  unfold disableRing
  split
  · set c := onRing_ p (fun r => { r with stopping := true }) b with hc
    have hs : (c.pe p).ring.stopping = true := by rw [hc, onRing_, pe_onPe_of_lt _ _ hp, if_pos rfl]
    have hd := ringStops_drainRing hs
    exact ⟨hd.length.trans (onPe_engines_length ..), hd.apart, fun q => (hd.service q).trans (pe_onPe_field PolEngine.service (by exact fun _ => rfl) q b),
      fun q hq => hd.resv q ((pe_onPe_field PolEngine.resv (by exact fun _ => rfl) q b).trans hq), hd.chan, hd.down⟩
  · next he => exact ⟨rfl, rfl, fun _ => rfl, fun _ hq => hq, fun _ => rfl, .inl (by simpa using he)⟩

theorem setSvc_apart (e : Nat) (up : Bool) (b : Block) : (setSvc e up b).apart = b.apart := rfl
theorem setSvc_pe (e : Nat) (up : Bool) (b : Block) (q : Nat) : (setSvc e up b).pe q = b.pe q := rfl

/-- An engine that is stopped is out of service, awake, without a reservation, and its channels and its ring are down. -/
theorem stopPolicy_engineDown {p : Nat} {b : Block} (hp : p < b.pol.engines.length) :
    (stopPolicy p b).engineDown p ∧ (stopPolicy p b).pol.engines.length = b.pol.engines.length ∧ (stopPolicy p b).apart = b.apart ∧ ((stopPolicy p b).pe p).fcause = (b.pe p).fcause := by
  set b1 := onPe p (fun e => { e with up := false, asleep := false, resv := none }) (setSvc (svcOf p) false b) with hb1
  set mine := (List.range 16).filter fun c => decide ((b1.ch c).owner = some p) with hmine
  set b2 := mine.foldl (fun b c => disableCh c b) b1 with hb2
  have hp1 : p < b1.pol.engines.length := by simpa [hb1, setSvc] using hp
  have hpe : b1.pe p = { b.pe p with up := false, asleep := false, resv := none } := by
    rw [hb1, pe_onPe_of_lt _ _ (show p < (setSvc (svcOf p) false b).pol.engines.length from hp), if_pos rfl, setSvc_pe]
  have h2 : b1.downs b2 mine := downs_disableChs mine b1
  have h3 : b2.ringStops (stopPolicy p b) p := ringStops_disableRing (h2.length ▸ hp1)
  have hs : ((stopPolicy p b).pe p).service = (b1.pe p).service := (h3.service p).trans (service_of_standing (h2.engine p))
  have hc (c : Nat) : ((stopPolicy p b).ch c).standing = (b2.ch c).standing := h3.chan c
  simp only [PolEngine.service, Prod.mk.injEq, hpe] at hs
  obtain ⟨hup, hsleep, hf, -, -⟩ := hs
  refine ⟨⟨hup, hsleep, h3.resv p (h2.resv p (by rw [hpe])), h3.down, fun c hlt ho => ?_⟩, h3.length.trans (h2.length.trans (onPe_engines_length ..)),
    h3.apart.trans (h2.apart.trans rfl), hf⟩
  obtain ⟨howner, hst⟩ := Prod.mk.inj (hc c)
  have hmem : c ∈ mine := by
    rw [howner, h2.owner c] at ho
    simp [hmine, hlt, ho]
  rw [hst]
  exact h2.down c hmem

theorem note_pe (e : Event) (arg0 : Nat) (data : List Nat) (b : Block) (q : Nat) : (note e arg0 data b).pe q = b.pe q := by simp [Block.pe]
theorem note_ch (e : Event) (arg0 : Nat) (data : List Nat) (b : Block) (c : Nat) : (note e arg0 data b).ch c = b.ch c := by simp [Block.ch]

/-- What is said of an engine that is down reads its own place and the channels. -/
theorem engineDown_of_same {a b : Block} {p : Nat} (h : a.engineDown p) (hup : (b.pe p).up = (a.pe p).up) (hs : (b.pe p).asleep = (a.pe p).asleep) (hr : (b.pe p).resv = (a.pe p).resv)
    (hg : (b.pe p).ring = (a.pe p).ring) (hc : ∀ c, b.ch c = a.ch c) : b.engineDown p := by
  obtain ⟨h1, h2, h3, h4, h5⟩ := h
  exact ⟨hup.trans h1, hs.trans h2, hr.trans h3, hg ▸ h4, fun c hlt ho => by rw [hc] at ho ⊢; exact h5 c hlt ho⟩

/-- With fewer than two restarts in 10 min an engine that goes down awaits its restart (R411). -/
theorem policyDown_restarts {p cause : Nat} {b : Block} (hp : p < b.pol.engines.length) (hr : ((b.pe p).recent b.sys.now).length < 2) :
    (policyDown p cause b).engineDown p ∧ ((policyDown p cause b).pe p).restartDue = some cause ∧ ((policyDown p cause b).pe p).fcause = (b.pe p).fcause
      ∧ (policyDown p cause b).apart = b.apart := by
  obtain ⟨hd, hl, ha, hf⟩ := stopPolicy_engineDown hp
  have heq : policyDown p cause b = note .polRestart p [cause]
      (onPe p (fun e => { e with restarts := b.sys.now :: (b.pe p).recent b.sys.now, restartDue := some cause }) (stopPolicy p b)) := by
    rw [policyDown, if_neg (by omega), onPe_onPe]
  have hpe : (policyDown p cause b).pe p = { (stopPolicy p b).pe p with restarts := b.sys.now :: (b.pe p).recent b.sys.now, restartDue := some cause } := by
    rw [heq, note_pe, pe_onPe_of_lt _ _ (hl ▸ hp), if_pos rfl]
  have hch (c : Nat) : (policyDown p cause b).ch c = (stopPolicy p b).ch c := by rw [heq, note_ch]; rfl
  exact ⟨engineDown_of_same hd (by rw [hpe]) (by rw [hpe]) (by rw [hpe]) (by rw [hpe]) hch, by rw [hpe], by rw [hpe]; exact hf,
    by rw [heq]; exact (apart_of_quiet (note_quiet ..)).trans ha⟩

/-! ### Refused accesses (R418) -/

/-- A refusal gives its cause, and its region and address where a region covers the access. -/
theorem refuse_eq (x : Xlat) (b : Block) : ∃ r pa, x.refuse b = .refused x.cause r pa b ∧ (x.cause ≠ 1 → r = x.region ∧ pa = x.phys) := by
  unfold Xlat.refuse
  split
  · next h => exact ⟨0, 0, by rw [h], fun hn => absurd h hn⟩
  · exact ⟨x.region, x.phys, rfl, fun _ => ⟨rfl, rfl⟩⟩

/-- The record of a refused access. -/
def PolEngine.records (cause acc region va pa : Nat) (e : PolEngine) : PolEngine :=
  { e with fcause := cause, facc := acc, fregion := region, fvaddr := va, fpaddr := pa, faults := satAdd 4294967295 e.faults 1 }

theorem rtuFault_traps {p cause acc region va pa : Nat} {b : Block} (h : (b.pe p).active = false) :
    rtuFault p cause acc region va pa b = onPe p (fun e => { e.records cause acc region va pa with active := true }.trapped false (accessCause acc) va) b := by
  rw [rtuFault, if_neg (by simp [h]), takeTrap_eq, onPe_onPe, onPe_onPe]
  rfl

theorem rtuFault_doubleFault {p cause acc region va pa : Nat} {b : Block} (h : (b.pe p).active = true) :
    rtuFault p cause acc region va pa b = policyDown p 1 (note .polDoubleFault p [va, cause] (onPe p (PolEngine.records cause acc region va pa) b)) := by
  rw [rtuFault, if_pos h]
  rfl

/-! ### A refused fetch (R413, R418) -/

theorem irqWatch_ch (o b : Block) (c : Nat) : (irqWatch o b).ch c = b.ch c := by simp [Block.ch]

theorem same_apart (b c : Block) {q : PartName} (hq : q ∉ [PartName.sys, .engines, .chans]) (hn : q ∉ noticed) : b.same c.apart q = b.same c q := by
  cases q
  case sys | engines | chans | log | img | pol => simp [noticed] at hq hn
  all_goals rfl

theorem same_of_apart {b c : Block} (h : c.apart = b.apart) {q : PartName} (hq : q ∉ [PartName.sys, .engines, .chans]) (hn : q ∉ noticed) : b.same c q := by
  rw [← same_apart b c hq hn, h, same_apart b b hq hn]
  cases q <;> rfl

section
variable {s : State} {p : Fin 2} {n : Nat} {bad : Bool} {x : Xlat}
  (hrun : s.block.peRuns p = true) (ha : (s.block.pe p).asleep = false) (hi : s.block.irqDue p = none) (hx : x = translate (s.block.pe p).regions 2 (s.block.pe p).pc.toNat 2)

include hrun ha hi hx

/-- A fetch that the RTU refuses ends as a refused access of the engine. -/
theorem doPolicyInstruction_refused (hc : x.cause ≠ 0) : ∃ r pa, (x.cause ≠ 1 → r = x.region ∧ pa = x.phys) ∧
    doPolicyInstruction p n bad s.block = rtuFault p x.cause 2 r (s.block.pe p).pc.toNat pa (rvCycles p n s.block) := by
  obtain ⟨r, pa, hr, hrp⟩ := refuse_eq x (rvCycles p n s.block)
  have hf : fetchHalf p (s.block.pe p).pc.toNat (rvCycles p n s.block) = .refused x.cause r pa (rvCycles p n s.block) := by
    simp only [fetchHalf, rvCycles_regions, ← hx, if_pos hc, hr]
  refine ⟨r, pa, hrp, ?_⟩
  rw [doPolicyInstruction_step hrun ha hi, rvStep]
  simp only [rvCycles_pc, hf, accessTrap]

theorem policyInstruction_fetchFault (hc : x.cause = 2) (hact : (s.block.pe p).active = false) :
    Happens (.policyInstruction p n bad) s [.engines] fun b => b.pol.engines = modAt s.block.pol.engines p fun e =>
      { e with
        csr := e.csr.cycled n, active := true, fcause := 2, facc := 2, fregion := x.region, fvaddr := e.pc.toNat, fpaddr := x.phys
        faults := satAdd 4294967295 e.faults 1 }.trapped false 1 e.pc.toNat := by
  obtain ⟨r, pa, hrp, he⟩ := doPolicyInstruction_refused (n := n) (bad := bad) hrun ha hi hx (by omega)
  obtain ⟨rfl, rfl⟩ := hrp (by omega)
  refine happens_onPe rfl (he.trans ?_)
  rw [rtuFault_traps (by simpa using hact), rvCycles_eq, onPe_onPe, hc]
  exact onPe_congr rfl

theorem policyInstruction_doubleFault (hp : p.val < s.block.pol.engines.length) (hc : x.cause ≠ 0) (hact : (s.block.pe p).active = true)
    (hr : ((s.block.pe p).recent s.block.sys.now).length < 2) :
    Happens (.policyInstruction p n bad) s [.sys, .engines, .chans] fun b => b.engineDown p ∧ (b.pe p).restartDue = some 1 ∧ (b.pe p).fcause = x.cause := by
  obtain ⟨r, pa, -, he⟩ := doPolicyInstruction_refused (n := n) (bad := bad) hrun ha hi hx hc
  rw [rtuFault_doubleFault (by simpa using hact)] at he
  set c := note .polDoubleFault p [(s.block.pe p).pc.toNat, x.cause] (onPe p (PolEngine.records x.cause 2 r (s.block.pe p).pc.toNat pa) (rvCycles p n s.block)) with hcd
  have hpe : c.pe p = PolEngine.records x.cause 2 r (s.block.pe p).pc.toNat pa ((rvCycles p n s.block).pe p) := by
    rw [hcd, note_pe, pe_onPe_of_lt _ _ (by simpa [rvCycles_eq] using hp), if_pos rfl]
  have hrec : (c.pe p).recent c.sys.now = (s.block.pe p).recent s.block.sys.now := by
    obtain ⟨k, hk⟩ := pe_rvCycles p n p s.block
    rw [hpe, hk, hcd, note_sys]
    rfl
  have hca : c.apart = s.block.apart := (apart_of_quiet (note_quiet ..)).trans rfl
  obtain ⟨hd, hres, hf, hap⟩ := policyDown_restarts (cause := 1) (p := p) (b := c) (by simpa [hcd, rvCycles_eq] using hp) (by rwa [hrec])
  refine happens_event (f := doPolicyInstruction p n bad) rfl (by rw [he]; exact settled_of_apart (hap.trans hca))
    (fun q hq hn => by rw [he]; exact same_of_apart (hap.trans hca) hq hn) ?_
  rw [he]
  simp only [irqWatch_pe]
  refine ⟨engineDown_of_same hd ?_ ?_ ?_ ?_ ?_, hres, ?_⟩
  any_goals simp only [irqWatch_pe]
  · exact irqWatch_ch _ _
  · rw [hf, hpe]
    rfl

end

end Sys2Proof.Machine

namespace Sys2Proof.Machine

/-! ### Tile staging (R420, R422) -/

theorem storeTile_back (t : Nat) (ws : TileData) (b : Block) : (storeTile t ws b).img.back = bankPut t ws b.img.back := by
  simp only [storeTile, Block.onImg, ImgPart.setBack]
  split <;> simp_all [ImgPart.back]

theorem storeTile_front (t : Nat) (ws : TileData) (b : Block) : (storeTile t ws b).img.front = b.img.front := by
  simp only [storeTile, Block.onImg, ImgPart.setBack]
  split <;> simp_all [ImgPart.front]

theorem irqWatch_back (o b : Block) : (irqWatch o b).img.back = b.img.back :=
  (congrArg ImgPart.back (irqWatch_bankPart o b) : (irqWatch o b).bankPart.back = b.bankPart.back)
theorem irqWatch_front (o b : Block) : (irqWatch o b).img.front = b.img.front :=
  (congrArg ImgPart.front (irqWatch_bankPart o b) : (irqWatch o b).bankPart.front = b.bankPart.front)

section
variable {s : State} {p : Fin 2} {va v : Word} {x : Xlat} {off : Nat}
  (hrun : s.block.peRuns p = true) (hx : x = translate (s.block.pe p).regions 1 va.toNat 4) (hc : x.cause = 0) (ht : physTarget x.phys = .imgWrite off)

include hrun hx hc ht

theorem doTileStageStore_eq : doTileStageStore p va.toNat v s.block = accessTrap p 1 va.toNat (storeAt p 1 va.toNat 4 v.toNat s.block) s.block := by
  subst hx
  simp [doTileStageStore, ht, hrun, hc]

theorem doTileStageStore_of_staged {c : Block} (ha : off % 4 = 0) (hs : stageEngine p off v s.block = some c) : doTileStageStore p va.toNat v s.block = c := by
  rw [doTileStageStore_eq hrun hx hc ht]
  subst hx
  simp [storeAt, hc, ht, ha, w32, hs, accessTrap]

theorem doTileStageStore_of_refused (ha : off % 4 = 0) (hs : stageEngine p off v s.block = none) : doTileStageStore p va.toNat v s.block =
    rtuFault p 4 1 x.region va.toNat x.phys (countPart p (onPe p (fun e => { e with stage := .empty }) s.block)) := by
  rw [doTileStageStore_eq hrun hx hc ht]
  subst hx
  simp [storeAt, hc, ht, ha, w32, hs, accessTrap]

theorem tileStageStore_held (ha : off % 4 = 0) (hst : (s.block.pe p).stage = { tile := none, words := List.replicate 15 none }) (hlow : off % 64 < 56) :
    Happens (.tileStageStore p va v) s [.engines] fun b => b.pol.engines = modAt s.block.pol.engines p fun e =>
      { e with stage := { tile := some (off / 64), words := (List.replicate 15 none).set (off % 64 / 4) (some v) } } := by
  have h14 : off % 64 / 4 ≠ 14 := by omega
  have h15 : off % 64 / 4 ≠ 15 := by omega
  exact happens_onPe rfl (doTileStageStore_of_staged hrun hx hc ht ha (by simp [stageEngine, hst, Stage.store, h14, h15]))

theorem tileStageStore_refused (h60 : off % 64 = 60) (hact : (s.block.pe p).active = false) :
    Happens (.tileStageStore p va v) s [.engines] fun b => b.pol.engines = modAt s.block.pol.engines p fun e =>
      { e with
        stage := .empty, tpart := satAdd 4294967295 e.tpart 1, active := true, fcause := 4, facc := 1, fregion := x.region, fvaddr := va.toNat, fpaddr := x.phys
        faults := satAdd 4294967295 e.faults 1 }.trapped false 7 va.toNat := by
  have h := doTileStageStore_of_refused (v := v) hrun hx hc ht (by omega) (by simp [stageEngine, Stage.store, h60])
  refine happens_onPe rfl (h.trans ?_)
  have hpe : ((countPart p (onPe p (fun e => { e with stage := .empty }) s.block)).pe p).active = false :=
    (pe_onPe_field PolEngine.active (by exact fun _ => rfl) _ _).trans ((pe_onPe_field PolEngine.active (by exact fun _ => rfl) _ _).trans hact)
  rw [rtuFault_traps hpe, countPart, onPe_onPe, onPe_onPe]
  rfl

theorem tileStageStore_commit {ws : List Word} (ha : off % 4 = 0) (hl : ws.length = 14)
    (hst : (s.block.pe p).stage = { tile := some (off / 64), words := (ws.map some) ++ [none] }) (h56 : off % 64 = 56) :
    Happens (.tileStageStore p va v) s [.engines, .bank] fun b =>
      b.img.back = bankPut (policyBase + off / 64) (ws ++ [v]) s.block.img.back ∧ b.img.front = s.block.img.front
      ∧ b.pol.engines = modAt s.block.pol.engines p fun e => { e with stage := .empty, twrites := satAdd 4294967295 e.twrites 1 } := by
  have hset : ((ws.map some) ++ [none]).set 14 (some v) = (ws ++ [v]).map some := by
    rw [List.set_append_right _ _ (by simp [hl])]
    simp [hl]
  have hany : ((ws.map some) ++ [none]).any Option.isSome = true := by
    cases ws with
    | nil => simp at hl
    | cons w ws => simp
  have hstore : (s.block.pe p).stage.store (off / 64) (off % 64 / 4) v = .commit (ws ++ [v]) := by
    simp [hst, Stage.store, h56, hany, hset, Function.comp_def]
  have h := doTileStageStore_of_staged (v := v) hrun hx hc ht ha (by rw [stageEngine, hstore])
  refine happens_event (f := doTileStageStore p va.toNat v) rfl (by rw [h]; rfl) (fun q hq hn => ?_) ?_
  · rw [h]
    cases q
    case engines | bank | log | img | pol => simp [noticed] at hq hn
    all_goals rfl
  · rw [h, irqWatch_back, irqWatch_front, irqWatch_engines, storeTile_back, storeTile_front]
    refine ⟨rfl, rfl, ?_⟩
    have he := onPe_onPe p (fun e => { e with twrites := satAdd 4294967295 e.twrites 1 }) (fun e => { e with stage := .empty }) s.block
    exact congrArg (fun b : Block => b.pol.engines) he

end

end Sys2Proof.Machine

namespace Sys2Proof.Machine

theorem same_quiet (b c : Block) {q : PartName} (hn : q ∉ noticed) : b.same c.quiet q = b.same c q := by
  cases q
  case log | img | pol => simp [noticed] at hn
  all_goals rfl

theorem same_of_quiet {b c : Block} (h : c.quiet = b.quiet) {q : PartName} (hn : q ∉ noticed) : b.same c q := by
  rw [← same_quiet b c hn, h, same_quiet b b hn]
  cases q <;> rfl

/-! ### The physical map (R413) -/

theorem physTarget_block {pa : Nat} (h1 : 0x40000000 ≤ pa) (h2 : pa < 0x40006000) : physTarget pa = .block ((pa - 0x40000000) / 4096) (pa % 4096) := by
  unfold physTarget
  rw [if_neg (by omega), if_neg (by omega), if_neg (by omega), if_pos (by omega)]

theorem physTarget_dma {c pa : Nat} (hc : c < 16) (h1 : 0x40010000 + 256 * c ≤ pa) (h2 : pa < 0x40010100 + 256 * c) : physTarget pa = .dma c (pa % 256) := by
  have hd : (pa - 0x40010000) / 256 = c := by omega
  unfold physTarget
  rw [if_neg (by omega), if_neg (by omega), if_neg (by omega), if_neg (by omega), if_pos (by omega), hd]

theorem physTarget_can {k pa : Nat} (hk : k < 2) (h1 : 0x40020000 + 0x10000 * k ≤ pa) (h2 : pa < 0x40030000 + 0x10000 * k) : physTarget pa = .can k (pa % 0x10000) := by
  unfold physTarget
  rw [if_neg (by omega), if_neg (by omega), if_neg (by omega), if_neg (by omega), if_neg (by omega)]
  obtain rfl | rfl : k = 0 ∨ k = 1 := by omega
  · rw [if_pos (by omega), show pa - 0x40020000 = pa % 0x10000 by omega]
  · rw [if_neg (by omega), if_pos (by omega), show pa - 0x40030000 = pa % 0x10000 by omega]

theorem happens_onCh {s : State} {i : Instr} {f : Block → Block} {c : Nat} {g : DmaChan → DmaChan} (hi : exec i s = effect f s) (hf : f s.block = onCh c g s.block) :
    Happens i s [.chans] fun b => b.pol.chans = modAt s.block.pol.chans c g := by
  refine happens_event hi (by rw [hf]; rfl) (fun q hq hn => ?_) (by rw [hf, irqWatch_chans]; rfl)
  rw [hf]
  cases q
  case chans | log | img | pol => simp [noticed] at hq hn
  all_goals rfl

theorem irqWatch_en (o b : Block) : (irqWatch o b).pol.en = b.pol.en := congrArg Prod.fst (irqWatch_routePart o b)

/-- A command that changes the enabled sources. -/
theorem happens_onEn {s : State} {i : Instr} {f : Block → Block} {g : Nat → Nat} (hi : exec i s = effect f s) (hf : f s.block = s.block.onPol fun x => { x with en := g x.en }) :
    Happens i s [.routes] fun b => b.pol.en = g s.block.pol.en := by
  refine happens_event hi (by rw [hf]; rfl) (fun q hq hn => ?_) (by rw [hf, irqWatch_en]; rfl)
  rw [hf]
  cases q
  case routes | log | img | pol => simp [noticed] at hq hn
  all_goals rfl

/-! ### Batches (R421, R422) -/

section
variable {s : State} {p : Fin 2} {n : Nat}

theorem bopenWrite_opens (h0 : 1 ≤ n) (hn : n ≤ 50) (hs : (s.block.pe p).bstat = 0 ∨ (s.block.pe p).bstat = 3) :
    Happens (.bopenWrite p n) s [.engines] fun b => b.pol.engines = modAt s.block.pol.engines p fun e => { e with
      bLen := n, bAt := s.block.sys.now
      bstat := if s.block.sys.now + (n + 5) * usT ≤ s.block.nextMultiple msT ∧ s.block.img.copying = [] then 2 else 1 } := by
  have hgo : ¬ (n = 0 ∨ 50 < n ∨ (s.block.pe p).bstat = 1 ∨ (s.block.pe p).bstat = 2) := by omega
  refine happens_onPe (f := doBopenWrite p n) rfl ?_
  simp only [doBopenWrite, if_neg hgo, Block.batchFits, Bool.and_eq_true, decide_eq_true_eq]

theorem bopenWrite_ignored (h : n = 0 ∨ 50 < n ∨ (s.block.pe p).bstat = 1 ∨ (s.block.pe p).bstat = 2) : Happens (.bopenWrite p n) s [] fun _ => True :=
  happens_nothing (f := doBopenWrite p n) rfl (if_pos h)

theorem batchGrant_grants (h : (s.block.pe p).bstat = 1) (hc : s.block.img.copying = []) :
    Happens (.batchGrant p) s [.engines] fun b => b.pol.engines = modAt s.block.pol.engines p fun e => { e with bstat := 2, bAt := s.block.sys.now } :=
  happens_onPe (f := doBatchGrant p) rfl (if_pos ⟨h, hc⟩)

theorem bcloseWrite_closes (h : (s.block.pe p).bstat = 1 ∨ (s.block.pe p).bstat = 2) :
    Happens (.bcloseWrite p) s [.engines] fun b => b.pol.engines = modAt s.block.pol.engines p fun e => { e with bstat := 0 } :=
  happens_onPe (f := doBcloseWrite p) rfl (if_pos h)

theorem batchOverrun_ends (h : (s.block.pe p).bstat = 2) : Happens (.batchOverrun p) s [.sys, .engines] fun b =>
    b.sys.now = max s.block.sys.now ((s.block.pe p).bAt + (s.block.pe p).bLen * usT) ∧ b.pol.engines = modAt s.block.pol.engines p fun e => { e with bstat := 3 } := by
  have hd : doBatchOverrun p s.block = note .polBatchOverrun p [] (onPe p (fun e => { e with bstat := 3 }) (s.block.at ((s.block.pe p).bAt + (s.block.pe p).bLen * usT))) :=
    if_pos h
  refine happens_event (f := doBatchOverrun p) rfl (by rw [hd]; exact (settled_of_apart (apart_of_quiet (note_quiet ..))).trans rfl) (fun q hq hn => ?_) ?_
  · rw [hd]
    refine Block.same_trans ?_ (same_of_quiet (note_quiet ..) hn)
    cases q
    case sys | engines | log | img | pol => simp [noticed] at hq hn
    all_goals rfl
  · rw [hd, irqWatch_sys, irqWatch_engines, note_sys, note_engines]
    exact ⟨rfl, rfl⟩

/-! ### Register writes at physical addresses (R8, R413) -/

theorem registerWrite_ignored {a v : Word} (h : s.block.peLive p = false ∨ a.toNat % 4 ≠ 0 ∨ physTarget a.toNat = .nothing) :
    Happens (.registerWrite p a v) s [] fun _ => True := by
  refine happens_nothing (f := doRegisterWrite p a.toNat v.toNat) rfl ?_
  unfold doRegisterWrite
  split
  · rfl
  · next hn =>
    have ht : physTarget a.toNat = .nothing := by tauto
    rw [ht]
    rfl

variable {a v : Word} (hl : s.block.peLive p = true)

include hl

/-- An engine in service writes a register at an aligned address. -/
theorem doRegisterWrite_eq (ha : a.toNat % 4 = 0) : doRegisterWrite p a.toNat v.toNat s.block = (writeReg p (physTarget a.toNat) v.toNat s.block).getD s.block :=
  if_neg (by simp [hl, ha])

theorem registerWrite_mtimecmp : Happens (.registerWrite p 0x40000010#32 v) s [.engines] fun b => b.pol.engines = modAt s.block.pol.engines p fun e =>
    { e with mtimecmp := e.mtimecmp / 4294967296 * 4294967296 + v.toNat } :=
  happens_onPe (f := doRegisterWrite p (0x40000010#32).toNat v.toNat) rfl ((doRegisterWrite_eq hl rfl).trans rfl)

theorem registerWrite_ringBase (hr : (s.block.pe p).ring.en = false) : Happens (.registerWrite p 0x40004008#32 v) s [.engines] fun b =>
    b.pol.engines = modAt s.block.pol.engines p fun e => { e with ring := { e.ring with rbase := v.toNat } } := by
  have hw : writeRing p 8 v.toNat s.block = onPe p (fun e => { e with ring := { e.ring with rbase := v.toNat } }) s.block := by
    simp [writeRing, hr, onRing_]
  exact happens_onPe (f := doRegisterWrite p (0x40004008#32).toNat v.toNat) rfl ((doRegisterWrite_eq hl rfl).trans hw)

theorem registerWrite_portAddr : Happens (.registerWrite p 0x40005008#32 v) s [.engines] fun b =>
    b.pol.engines = modAt s.block.pol.engines p fun e => { e with port := { e.port with daddr := v.toNat } } :=
  happens_onPe (f := doRegisterWrite p (0x40005008#32).toNat v.toNat) rfl ((doRegisterWrite_eq hl rfl).trans rfl)

theorem registerWrite_enable : Happens (.registerWrite p 0x40001020#32 v) s [.routes] fun b => b.pol.en = v.toNat + s.block.pol.en / 2 ^ 32 * 2 ^ 32 := by
  refine happens_onEn (f := doRegisterWrite p (0x40001020#32).toNat v.toNat) (g := fun n => v.toNat + n / 2 ^ 32 * 2 ^ 32) rfl ?_
  rw [doRegisterWrite_eq hl rfl, physTarget_block (by decide) (by decide)]
  simp [writeReg, writeIntc, Nat.mod_one]

theorem registerWrite_chanBase {c : Fin 16} (ha : a.toNat = 0x40010008 + 256 * c.val) (ho : s.block.ownsCh p c = true) (hs : (s.block.ch c).st = .disabled) :
    Happens (.registerWrite p a v) s [.chans] fun b => b.pol.chans = modAt s.block.pol.chans c fun x => { x with rbase := v.toNat } := by
  refine happens_onCh (f := doRegisterWrite p a.toNat v.toNat) rfl ?_
  have hm : a.toNat % 256 = 8 := by omega
  rw [doRegisterWrite_eq hl (by omega), physTarget_dma c.isLt (by omega) (by omega), hm]
  simp [writeReg, ho, writeCh, hs]

theorem registerWrite_chanForeign {c : Fin 16} (ha : a.toNat % 4 = 0) (h1 : 0x40010000 + 256 * c.val ≤ a.toNat) (h2 : a.toNat < 0x40010100 + 256 * c.val)
    (ho : s.block.ownsCh p c = false) : Happens (.registerWrite p a v) s [] fun _ => True := by
  refine happens_nothing (f := doRegisterWrite p a.toNat v.toNat) rfl ?_
  rw [doRegisterWrite_eq hl ha, physTarget_dma c.isLt h1 h2]
  simp [writeReg, ho]

theorem registerWrite_canBuffer {k : Fin 2} (ha : a.toNat = 0x40020040 + 0x10000 * k.val) (ho : (s.block.can k).set.rqOwn = p.val + 1) :
    Happens (.registerWrite p a v) s [.net] fun b => b.net = { s.block.net with cans := modAt s.block.net.cans k fun c =>
      { c with tbs := modAt c.tbs 0 fun t => if t.st = 1 then t else { t with frame := { t.frame with idw := v.toNat } } } } := by
  have hm : a.toNat % 0x10000 = 0x40 := by omega
  have hw : doRegisterWrite p a.toNat v.toNat s.block = writeTb k 0 0 v.toNat s.block := by
    rw [doRegisterWrite_eq hl (by omega), physTarget_can k.isLt (by omega) (by omega), hm]
    simp [writeReg, Block.canOwned, ho, writeCan]
  refine happens_event (f := doRegisterWrite p a.toNat v.toNat) rfl (by rw [hw]; rfl) (fun q hq hn => ?_) ?_
  · rw [hw]
    refine Block.same_trans ?_ (same_of_quiet (Block.touch_quiet ..) hn)
    cases q
    case net | log | img | pol => simp [noticed] at hq hn
    all_goals rfl
  · rw [hw, irqWatch_net]
    rfl

end

end Sys2Proof.Machine

namespace Sys2Proof.Machine

/-- Settles O48: each clause is the lemma above for its instruction, trap, store or register. -/
theorem policyInstructionsExecuteTrapAndStore : Obligations.PolicyInstructionsExecuteTrapAndStore := by
  unfold Obligations.PolicyInstructionsExecuteTrapAndStore
  exact ⟨fun _ _ _ _ h => policyInstruction_idle h,
    fun _ _ _ _ _ hr ha hi => policyInstruction_interrupt hr ha hi,
    fun _ _ _ _ _ _ hr ha hi hf => policyInstruction_upper ⟨hr, ha, hi, hf⟩,
    fun _ _ _ _ _ _ hr ha hi hf => policyInstruction_jump ⟨hr, ha, hi, hf⟩,
    fun _ _ _ _ _ _ _ hr ha hi hf => policyInstruction_branch ⟨hr, ha, hi, hf⟩,
    fun _ _ _ _ _ _ hr ha hi hf => policyInstruction_opImm ⟨hr, ha, hi, hf⟩,
    fun _ _ _ _ _ _ hr ha hi hf => policyInstruction_op ⟨hr, ha, hi, hf⟩,
    fun _ _ _ _ _ _ _ _ hr ha hi hf => policyInstruction_load ⟨hr, ha, hi, hf⟩,
    fun _ _ _ _ _ _ _ _ hr ha hi hf => policyInstruction_store ⟨hr, ha, hi, hf⟩,
    fun _ _ _ _ _ _ _ hr ha hi hf hw h3 h5 h2 hal hx hc hram => policyInstruction_lr ⟨hr, ha, hi, hf⟩ hw h3 hal hc hram h5 h2 hx,
    fun _ _ _ _ _ _ _ hr ha hi hf hw h3 h5 hal hx hc hram => policyInstruction_scFails ⟨hr, ha, hi, hf⟩ hw h3 hal hc hram h5 hx,
    fun _ _ _ _ _ _ _ hr ha hi hf hw h3 h5 hal hx hc hram => policyInstruction_scStores ⟨hr, ha, hi, hf⟩ hw h3 hal hc hram h5 hx,
    fun _ _ _ _ _ _ _ _ hr ha hi hf hw h3 h2 h5 hal hx hc hram => policyInstruction_amo ⟨hr, ha, hi, hf⟩ hw h3 hal hc hram h2 h5 hx,
    fun _ _ _ _ _ _ hr ha hi hf => policyInstruction_csrrwMscratch ⟨hr, ha, hi, hf⟩,
    fun _ _ _ _ _ hr ha hi hf => policyInstruction_mret ⟨hr, ha, hi, hf⟩,
    fun _ _ _ _ _ hr ha hi hf => policyInstruction_ecall ⟨hr, ha, hi, hf⟩,
    fun _ _ _ _ _ _ hr ha hi hf => policyInstruction_illegal ⟨hr, ha, hi, hf⟩,
    fun _ _ _ _ _ hr ha hi hx => policyInstruction_fetchFault hr ha hi hx,
    fun _ _ _ _ _ hr ha hi hp hx => policyInstruction_doubleFault hr ha hi hx hp,
    fun _ _ _ _ _ _ hr hx hc ht => tileStageStore_held hr hx hc ht,
    fun _ _ _ _ _ _ _ hr hx hc ht => tileStageStore_commit hr hx hc ht,
    fun _ _ _ _ _ _ hr hx hc ht => tileStageStore_refused hr hx hc ht,
    fun _ _ _ => bopenWrite_opens,
    fun _ _ _ => bopenWrite_ignored,
    fun _ _ => batchGrant_grants,
    fun _ _ => bcloseWrite_closes,
    fun _ _ => batchOverrun_ends,
    fun _ _ _ _ => registerWrite_ignored,
    fun _ _ _ hl => registerWrite_mtimecmp hl,
    fun _ _ _ hl => registerWrite_enable hl,
    fun _ _ _ hl => registerWrite_ringBase hl,
    fun _ _ _ hl => registerWrite_portAddr hl,
    fun _ _ _ _ _ hl => registerWrite_chanBase hl,
    fun _ _ _ _ _ hl => registerWrite_chanForeign hl,
    fun _ _ _ _ _ hl => registerWrite_canBuffer hl⟩

end Sys2Proof.Machine


namespace Sys2Proof.Machine

/-! ### Where a module state may sink without a command for it (R19) -/

/-- Where a module state may sink to without a command for it: nowhere, to SAFE, or to FAULT from the states that FAULT is entered from (R19). -/
def MState.sinks (o n : MState) : Prop := n = o ∨ n = .safe ∨ (n = .fault ∧ (o = .boot ∨ o = .park ∨ o = .run ∨ o = .hibernate))

theorem MState.sinks.refl (o : MState) : o.sinks o := .inl rfl

theorem MState.sinks.trans {a b c : MState} (h : a.sinks b) (k : b.sinks c) : a.sinks c := by
  unfold MState.sinks at *
  rcases h with rfl | rfl | ⟨rfl, h⟩
  · exact k
  · rcases k with rfl | rfl | ⟨rfl, k⟩ <;> simp_all
  · rcases k with rfl | rfl | ⟨rfl, k⟩ <;> simp_all

@[simp] theorem ite_mstate (c : Prop) [Decidable c] (a b : Block) : (if c then a else b).sys.mstate = if c then a.sys.mstate else b.sys.mstate := by
  split <;> rfl

theorem mstate_ite {m : MState} {c : Prop} [Decidable c] {a b : Block} (ha : a.sys.mstate = m) (hb : b.sys.mstate = m) : (if c then a else b).sys.mstate = m := by
  split
  · exact ha
  · exact hb

@[simp] theorem foldl_mstate {α : Type} (f : Block → α → Block) (h : ∀ b x, (f b x).sys.mstate = b.sys.mstate) (l : List α) (b : Block) :
    (l.foldl f b).sys.mstate = b.sys.mstate :=
  foldl_keeps (fun b : Block => b.sys.mstate) f h l b

theorem MState.sinks.safe (o : MState) : o.sinks .safe := .inr (.inl rfl)

/-- FAULT is entered from four states; what has sunk there already may stay. -/
theorem MState.sinks.fault {o n : MState} (h : o.sinks n) (hn : n = .boot ∨ n = .park ∨ n = .run ∨ n = .hibernate) : o.sinks .fault :=
  h.trans (.inr (.inr ⟨rfl, hn⟩))

/-- A state change takes place at once, or waits for the end of a hold (R455). -/
theorem changeState_mstate (m : MState) (cause : Nat) (op : List Nat) (b : Block) :
    (changeState m cause op b).sys.mstate = if b.hinge = true then b.sys.mstate else m := by
  rw [changeState]
  split
  · rw [deferState_sys]
  · exact changeNow_mstate ..

theorem changeState_sinks {o m : MState} (cause : Nat) (op : List Nat) {b : Block} (h : o.sinks b.sys.mstate) (hm : o.sinks m) :
    o.sinks (changeState m cause op b).sys.mstate := by
  rw [changeState_mstate]
  split
  · exact h
  · exact hm

@[simp] theorem enterState_safe_sinks {o : MState} (cause : Nat) {b : Block} (h : o.sinks b.sys.mstate) : o.sinks (enterState .safe cause b).sys.mstate :=
  changeState_sinks cause [] h (.safe o)

@[simp] theorem raise_sinks {o : MState} (e : Event) (arg0 : Nat) (data : List Nat) {b : Block} (h : o.sinks b.sys.mstate) : o.sinks (raise e arg0 data b).sys.mstate := by
  unfold raise
  dsimp only
  split
  · simpa using h
  · split
    · next hs => exact changeState_sinks _ _ (by simpa using h) (.fault h (by simpa using hs))
    · simpa using h

/-- A fold of commands that sink sinks. -/
theorem foldl_sinks {α : Type} {o : MState} {f : Block → α → Block} (h : ∀ (b : Block) x, o.sinks b.sys.mstate → o.sinks (f b x).sys.mstate) (l : List α) {b : Block}
    (hb : o.sinks b.sys.mstate) : o.sinks (l.foldl f b).sys.mstate := by
  induction l generalizing b with
  | nil => exact hb
  | cons x l ih => exact ih (h b x hb)

end Sys2Proof.Machine

namespace Sys2Proof.Machine

/-! ### What each function leaves of the module state

One lemma per function of the model, callees first: `f_mstate` where `f` leaves the module state, `f_sinks` where it may take the module to SAFE or to FAULT (R19). -/

@[simp] theorem lockGates_mstate (b : Block) : (lockGates b).sys.mstate = b.sys.mstate := by simp [lockGates]
@[simp] theorem breakResv_mstate (pa n : ℕ) (b : Block) : (breakResv pa n b).sys.mstate = b.sys.mstate := by simp [breakResv]
@[simp] theorem leaveRun_mstate (m : MState) (b : Block) : (leaveRun m b).sys.mstate = b.sys.mstate := by
  unfold leaveRun
  dsimp only
  split <;> simp
@[simp] theorem hibernateExit_mstate (b : Block) : (hibernateExit b).sys.mstate = b.sys.mstate := by simp [hibernateExit]
@[simp] theorem onEntry__mstate (m : MState) (b : Block) : (onEntry_ m b).sys.mstate = b.sys.mstate := by
  unfold onEntry_
  split <;> simp
@[simp] theorem lockState_sinks {o : MState} {b : Block} (h : o.sinks b.sys.mstate) : o.sinks (lockState b).sys.mstate := by
  unfold lockState
  split <;> simp [h]
@[simp] theorem lockMuzzle_mstate (b : Block) : (lockMuzzle b).sys.mstate = b.sys.mstate := by simp [lockMuzzle]
@[simp] theorem enterFullOpen_sinks {o : MState} (src : Src) (minutes : Nat) {b : Block} (h : o.sinks b.sys.mstate) : o.sinks (enterFullOpen src minutes b).sys.mstate := by
  simpa [enterFullOpen] using raise_sinks .debugFullOpen noArg [] (by simpa using h)
@[simp] theorem resolveFullOpen_sinks {o : MState} {b : Block} (h : o.sinks b.sys.mstate) : o.sinks (resolveFullOpen b).sys.mstate := by
  unfold resolveFullOpen
  repeat' split
  all_goals simp [h]
@[simp] theorem debugWatch_sinks {o : MState} {b : Block} (h : o.sinks b.sys.mstate) : o.sinks (debugWatch b).sys.mstate := by simp [debugWatch, h]
@[simp] theorem checkpoint_mstate (ok : Bool) (b : Block) : (checkpoint ok b).sys.mstate = b.sys.mstate := by simp [checkpoint]
@[simp] theorem startHold_mstate (cause : ℕ) (b : Block) : (startHold cause b).sys.mstate = b.sys.mstate := by simp [startHold]
@[simp] theorem doActivationPause_mstate (b : Block) : (doActivationPause b).sys.mstate = b.sys.mstate := by simp [doActivationPause]
@[simp] theorem onSource_mstate (i : ℕ) (f : Source → Source) (b : Block) : (onSource i f b).sys.mstate = b.sys.mstate := by simp [onSource]
@[simp] theorem startSoftstop_mstate (src : Option Src) (cause : ℕ × List ℕ) (b : Block) : (startSoftstop src cause b).sys.mstate = b.sys.mstate := by
  simp [startSoftstop]
@[simp] theorem lossAction_mstate (b : Block) : (lossAction b).sys.mstate = b.sys.mstate := by
  unfold lossAction
  dsimp only
  repeat' split
  all_goals simp
@[simp] theorem loseSource_mstate (i : ℕ) (b : Block) : (loseSource i b).sys.mstate = b.sys.mstate := by simp [loseSource]
@[simp] theorem doAinOpenTest_mstate (before after : ℤ) (b : Block) : (doAinOpenTest before after b).sys.mstate = b.sys.mstate := by simp [doAinOpenTest]
@[simp] theorem impLatch_mstate (count : ℕ) (b : Block) : (impLatch count b).sys.mstate = b.sys.mstate := by simp [impLatch]
@[simp] theorem doAperture_mstate (count : ℕ) (b : Block) : (doAperture count b).sys.mstate = b.sys.mstate := by simp [doAperture]
@[simp] theorem doAuthLockoutEnd_mstate (b : Block) : (doAuthLockoutEnd b).sys.mstate = b.sys.mstate := by
  unfold doAuthLockoutEnd
  split <;> simp
@[simp] theorem closeWindow_mstate (i : ℕ) (b : Block) : (closeWindow i b).sys.mstate = b.sys.mstate := by simp [closeWindow]
@[simp] theorem doAuthWindowExpiry_mstate (i : ℕ) (b : Block) : (doAuthWindowExpiry i b).sys.mstate = b.sys.mstate := by
  unfold doAuthWindowExpiry
  split <;> simp
@[simp] theorem copyBack_mstate (b : Block) : (copyBack b).sys.mstate = b.sys.mstate := by simp [copyBack]
@[simp] theorem doBackCopyDone_mstate (b : Block) : (doBackCopyDone b).sys.mstate = b.sys.mstate := by simp [doBackCopyDone]
@[simp] theorem ruleBalClearFault_mstate (src : Src) (mask : ℕ) (b blk : Block) : ((ruleBalClearFault src mask b).act blk).sys.mstate = blk.sys.mstate := by
  simp [ruleBalClearFault]
@[simp] theorem openPlacement_mstate (b : Block) : (openPlacement b).sys.mstate = b.sys.mstate := by simp [openPlacement]
@[simp] theorem doBalDisableDone_mstate (b : Block) : (doBalDisableDone b).sys.mstate = b.sys.mstate := by
  unfold doBalDisableDone
  split <;> simp
@[simp] theorem ruleBalEnable_mstate (src : Src) (en : ℕ) (b blk : Block) : ((ruleBalEnable src en b).act blk).sys.mstate = blk.sys.mstate := by simp [ruleBalEnable]
@[simp] theorem replyTile_mstate (src : Src) (t n : ℕ) (b : Block) : (replyTile src t n b).sys.mstate = b.sys.mstate := by simp [replyTile]
@[simp] theorem ruleBalGetConfig_mstate (src : Src) (b blk : Block) : ((ruleBalGetConfig src b).act blk).sys.mstate = blk.sys.mstate := by simp [ruleBalGetConfig]
@[simp] theorem ruleBalManual_mstate (src : Src) (cell element : ℕ) (current : ℤ) (time : ℕ) (b blk : Block) :
    ((ruleBalManual src cell element current time b).act blk).sys.mstate = blk.sys.mstate := by
  unfold ruleBalManual
  dsimp only
  repeat' split
  all_goals simp
@[simp] theorem doBalManualExpiry_mstate (n : ℕ) (b : Block) : (doBalManualExpiry n b).sys.mstate = b.sys.mstate := by
  unfold doBalManualExpiry
  split <;> simp
@[simp] theorem ruleBalSetGoal_mstate (src : Src) (goal mode : ℕ) (b blk : Block) : ((ruleBalSetGoal src goal mode b).act blk).sys.mstate = blk.sys.mstate := by
  simp [ruleBalSetGoal]
@[simp] theorem ruleBalSetLimits_mstate (src : Src) (iSet iBr vMargin : ℕ) (tFeedMin tMax : ℤ) (maxBleed pwrMax : ℕ) (b blk : Block) :
    ((ruleBalSetLimits src iSet iBr vMargin tFeedMin tMax maxBleed pwrMax b).act blk).sys.mstate = blk.sys.mstate := by
  simp [ruleBalSetLimits]
@[simp] theorem ruleBalSetThresh_mstate (src : Src) (start stop : ℕ) (brStart brStop : ℕ) (b blk : Block) :
    ((ruleBalSetThresh src start stop brStart brStop b).act blk).sys.mstate = blk.sys.mstate := by
  simp [ruleBalSetThresh]
@[simp] theorem healthEvents_mstate (c : ℕ) (b : Block) : (healthEvents c b).sys.mstate = b.sys.mstate := by simp [healthEvents]
@[simp] theorem writeBand_mstate (r : BandDone) (b : Block) : (writeBand r b).sys.mstate = b.sys.mstate := by
  unfold writeBand
  extract_lets x slots h b1 done fits learned b2 b3 meds b5 b4
  have h2 : b2.sys = b.sys := (Block.onImp_sys _ b1).trans (Block.onImp_sys _ b)
  clear_value b2
  have h3 : b3.sys.mstate = b2.sys.mstate := mstate_ite (by rw [note_sys]) rfl
  clear_value b3 meds
  have h5 : b5.sys.mstate = b3.sys.mstate := congrArg SysPart.mstate (Block.onImp_sys _ b3)
  clear_value b5
  have h4 : b4.sys.mstate = b3.sys.mstate := mstate_ite ((foldl_mstate (fun b c => healthEvents c b) (fun b c => healthEvents_mstate c b) (List.range b.nCell) b5).trans h5) rfl
  rw [Block.touch_sys, h4, h3, h2]
@[simp] theorem keepOk_mstate (j : ℕ) (b : Block) : (keepOk j b).sys.mstate = b.sys.mstate := by simp [keepOk]
@[simp] theorem doBandResultsWritten_mstate (b : Block) : (doBandResultsWritten b).sys.mstate = b.sys.mstate := by
  unfold doBandResultsWritten
  split
  · rfl
  · split
    · rfl
    · next r _ _ =>
      extract_lets b1 b2
      have h1 : b1.sys.mstate = b.sys.mstate := (writeBand_mstate r _).trans (by rw [Block.at_sys])
      clear_value b1
      have h2 : b2.sys = b1.sys := Block.onImp_sys _ _
      clear_value b2
      split
      · rw [Block.onImp_sys, endJob_sys, keepOk_mstate, h2, h1]
      · rw [h2, h1]
@[simp] theorem denyReset_mstate (src : Option Src) (cond : ℕ) (b : Block) : (denyReset src cond b).sys.mstate = b.sys.mstate := by
  unfold denyReset
  split <;> simp
@[simp] theorem doBarkReleaseTest_mstate (b : Block) : (doBarkReleaseTest b).sys.mstate = b.sys.mstate := by
  unfold doBarkReleaseTest
  split <;> simp
@[simp] theorem doBatchGrant_mstate (p : ℕ) (b : Block) : (doBatchGrant p b).sys.mstate = b.sys.mstate := by simp [doBatchGrant]
@[simp] theorem doBatchOverrun_mstate (p : ℕ) (b : Block) : (doBatchOverrun p b).sys.mstate = b.sys.mstate := by simp [doBatchOverrun]
@[simp] theorem doBcloseWrite_mstate (p : ℕ) (b : Block) : (doBcloseWrite p b).sys.mstate = b.sys.mstate := by simp [doBcloseWrite]
@[simp] theorem failClearing_mstate (n : ℕ) (b : Block) : (failClearing n b).sys.mstate = b.sys.mstate := by
  unfold failClearing
  split <;> simp
@[simp] theorem doBleedStuck_mstate (c : ℕ) (drain : ℤ) (b : Block) : (doBleedStuck c drain b).sys.mstate = b.sys.mstate := by simp [doBleedStuck]
@[simp] theorem doBopenWrite_mstate (p n : ℕ) (b : Block) : (doBopenWrite p n b).sys.mstate = b.sys.mstate := by simp [doBopenWrite]
@[simp] theorem doBridgeFault_mstate (n : ℕ) (b : Block) : (doBridgeFault n b).sys.mstate = b.sys.mstate := by simp [doBridgeFault]
@[simp] theorem doBroddaTimeout_mstate (b : Block) : (doBroddaTimeout b).sys.mstate = b.sys.mstate := by
  unfold doBroddaTimeout
  split <;> simp
@[simp] theorem onCan_mstate (k : ℕ) (f : CanCtl → CanCtl) (b : Block) : (onCan k f b).sys.mstate = b.sys.mstate := by simp [onCan]
@[simp] theorem doCanAbort_mstate (k n : ℕ) (b : Block) : (doCanAbort k n b).sys.mstate = b.sys.mstate := by simp [doCanAbort]
@[simp] theorem doCanAlone_mstate (k : ℕ) (b : Block) : (doCanAlone k b).sys.mstate = b.sys.mstate := by simp [doCanAlone]
@[simp] theorem doCanBusoffRecovered_mstate (k : ℕ) (b : Block) : (doCanBusoffRecovered k b).sys.mstate = b.sys.mstate := by simp [doCanBusoffRecovered]
@[simp] theorem doCanBusoffRecovery_mstate (k : ℕ) (b : Block) : (doCanBusoffRecovery k b).sys.mstate = b.sys.mstate := by
  unfold doCanBusoffRecovery
  split <;> simp
@[simp] theorem ruleCanFilterWrite_mstate (src : Src) (k : Fin 2) (first fltLen : ℕ) (elems : List (ℕ × ℕ)) (b blk : Block) :
    ((ruleCanFilterWrite src k first fltLen elems b).act blk).sys.mstate = blk.sys.mstate := by
  simp [ruleCanFilterWrite]
@[simp] theorem onPartner_mstate (p : ℕ) (f : Partner → Partner) (b : Block) : (onPartner p f b).sys.mstate = b.sys.mstate := by simp [onPartner]
@[simp] theorem oweAnnounce_mstate (k : ℕ) (b : Block) : (oweAnnounce k b).sys.mstate = b.sys.mstate := by simp [oweAnnounce]
@[simp] theorem takeAnnounce_mstate (k node : ℕ) (d : List Byte) (b : Block) : (takeAnnounce k node d b).sys.mstate = b.sys.mstate := by
  unfold takeAnnounce
  dsimp only
  repeat' split
  all_goals simp
@[simp] theorem takeHeartbeat_mstate (k node : ℕ) (b : Block) : (takeHeartbeat k node b).sys.mstate = b.sys.mstate := by
  unfold takeHeartbeat
  repeat' split
  all_goals simp
@[simp] theorem noteWake_mstate (cond : ℕ) (b : Block) : (noteWake cond b).sys.mstate = b.sys.mstate := by simp [noteWake]
@[simp] theorem storeRq1_mstate (k fidx : ℕ) (f : CanFrame) (ts : ℕ) (b : Block) : (storeRq1 k fidx f ts b).sys.mstate = b.sys.mstate := by simp [storeRq1]
@[simp] theorem doCanRqgetWrite_mstate (k value : ℕ) (b : Block) : (doCanRqgetWrite k value b).sys.mstate = b.sys.mstate := by simp [doCanRqgetWrite]
@[simp] theorem doCanSend_mstate (k n : ℕ) (b : Block) : (doCanSend k n b).sys.mstate = b.sys.mstate := by simp [doCanSend]
@[simp] theorem startCan_mstate (k : ℕ) (b : Block) : (startCan k b).sys.mstate = b.sys.mstate := by simp [startCan]
@[simp] theorem finishCanDisable_mstate (k : ℕ) (b : Block) : (finishCanDisable k b).sys.mstate = b.sys.mstate := by
  unfold finishCanDisable
  split <;> simp
@[simp] theorem ruleCanSetConfig_mstate (src : Src) (k : Fin 2) (x2 : CanSet) (b blk : Block) : ((ruleCanSetConfig src k x2 b).act blk).sys.mstate = blk.sys.mstate := by
  simp [ruleCanSetConfig]
@[simp] theorem ackSeen_mstate (k : ℕ) (b : Block) : (ackSeen k b).sys.mstate = b.sys.mstate := by simp [ackSeen]
@[simp] theorem judgeErrors_mstate (k : ℕ) (b : Block) : (judgeErrors k b).sys.mstate = b.sys.mstate := by simp [judgeErrors]
@[simp] theorem doCanTxAttemptEnd_mstate (k : ℕ) (r : CanResult) (count : ℕ) (b : Block) : (doCanTxAttemptEnd k r count b).sys.mstate = b.sys.mstate := by
  unfold doCanTxAttemptEnd
  dsimp only
  repeat' split
  all_goals simp
@[simp] theorem doCarrierLockLost_mstate (b : Block) : (doCarrierLockLost b).sys.mstate = b.sys.mstate := by simp [doCarrierLockLost]
@[simp] theorem doCarrierLocked_mstate (b : Block) : (doCarrierLocked b).sys.mstate = b.sys.mstate := by simp [doCarrierLocked]
@[simp] theorem doChargeEndDetected_mstate (b : Block) : (doChargeEndDetected b).sys.mstate = b.sys.mstate := by
  unfold doChargeEndDetected
  split <;> simp
@[simp] theorem toSeq_mstate (q : SeqState) (b : Block) : (toSeq q b).sys.mstate = b.sys.mstate := by simp [toSeq]
@[simp] theorem failClose_sinks {o : MState} (code : Nat) {b : Block} (h : o.sinks b.sys.mstate) : o.sinks (failClose code b).sys.mstate := by
  have hr := raise_sinks .contactorFault noArg [code] (b := (contactorsOff b).onLatch fun l => { l with seq := .idle, seqFail := code, seqSrc := none }) (by simpa using h)
  unfold failClose
  dsimp only
  split <;> simpa using hr
@[simp] theorem doCloseSeqDone_sinks {o : MState} {b : Block} (h : o.sinks b.sys.mstate) : o.sinks (doCloseSeqDone b).sys.mstate := by
  unfold doCloseSeqDone
  dsimp only
  split
  · exact h
  · split
    · split <;> simpa using h
    · exact failClose_sinks _ (by simpa using h)
@[simp] theorem doCloseSeqPeakCheck_sinks {o : MState} {b : Block} (h : o.sinks b.sys.mstate) : o.sinks (doCloseSeqPeakCheck b).sys.mstate := by
  unfold doCloseSeqPeakCheck
  dsimp only
  split
  · exact h
  · split
    · simpa using h
    · exact failClose_sinks _ (by simpa using h)
@[simp] theorem doCloseSeqPrechargeTimeout_sinks {o : MState} {b : Block} (h : o.sinks b.sys.mstate) : o.sinks (doCloseSeqPrechargeTimeout b).sys.mstate := by
  unfold doCloseSeqPrechargeTimeout
  split
  · exact h
  · exact failClose_sinks _ (by simpa using h)
@[simp] theorem doCloseSeqSo1On_mstate (b : Block) : (doCloseSeqSo1On b).sys.mstate = b.sys.mstate := by
  unfold doCloseSeqSo1On
  split <;> simp
@[simp] theorem doCloseSeqSo3Off_sinks {o : MState} {b : Block} (h : o.sinks b.sys.mstate) : o.sinks (doCloseSeqSo3Off b).sys.mstate := by
  unfold doCloseSeqSo3Off
  dsimp only
  split
  · exact h
  · split
    · simpa using h
    · exact failClose_sinks _ (by simpa using h)
@[simp] theorem doCloseSeqSo3On_sinks {o : MState} {b : Block} (h : o.sinks b.sys.mstate) : o.sinks (doCloseSeqSo3On b).sys.mstate := by
  unfold doCloseSeqSo3On
  dsimp only
  split
  · exact h
  · split
    · simpa using h
    · exact failClose_sinks _ (by simpa using h)
@[simp] theorem ruleCnvGetConfig_mstate (src : Src) (b blk : Block) : ((ruleCnvGetConfig src b).act blk).sys.mstate = blk.sys.mstate := by simp [ruleCnvGetConfig]
@[simp] theorem doCnvIsumXchk_mstate (b : Block) : (doCnvIsumXchk b).sys.mstate = b.sys.mstate := by
  unfold doCnvIsumXchk
  split <;> simp
@[simp] theorem checkLow_sinks {o : MState} {b : Block} (h : o.sinks b.sys.mstate) : o.sinks (checkLow b).sys.mstate := by
  unfold checkLow
  split <;> simp [h]
@[simp] theorem phaseOut_sinks {o : MState} (k reason : ℕ) {b : Block} (h : o.sinks b.sys.mstate) : o.sinks (phaseOut k reason b).sys.mstate := by simp [phaseOut, h]
@[simp] theorem restartWindows_mstate (startAt tc : ℕ) (b : Block) : (restartWindows startAt tc b).sys.mstate = b.sys.mstate := by simp [restartWindows]
@[simp] theorem noteLock_mstate (k : ℕ) (w : Window) (b : Block) : (noteLock k w b).sys.mstate = b.sys.mstate := by simp [noteLock]
@[simp] theorem ruleCnvSetCarrier_mstate (src : Src) (tc lockSrc : ℕ) (packIdx packSize syncDly : ℕ) (b blk : Block) :
    ((ruleCnvSetCarrier src tc lockSrc packIdx packSize syncDly b).act blk).sys.mstate = blk.sys.mstate := by
  simp [ruleCnvSetCarrier]
@[simp] theorem ruleCnvSetCoeffs_mstate (src : Src) (mask : Nat) (coef : List Int) (b blk : Block) : ((ruleCnvSetCoeffs src mask coef b).act blk).sys.mstate = blk.sys.mstate := by
  have hf (l : List Nat) (f : Phase → Phase) : (l.foldl (fun b k => onPhase k f b) blk).sys.mstate = blk.sys.mstate := foldl_mstate _ (fun _ _ => by simp) _ _
  simp [ruleCnvSetCoeffs, hf]
@[simp] theorem sendConfig_mstate (k : ℕ) (b : Block) : (sendConfig k b).sys.mstate = b.sys.mstate := by simp [sendConfig]
@[simp] theorem resendConfig_mstate (b : Block) : (resendConfig b).sys.mstate = b.sys.mstate := by simp [resendConfig]
@[simp] theorem ruleCnvSetLimits_mstate (src : Src) (chg dis : ℕ) (cont fast i2t : ℕ) (b blk : Block) :
    ((ruleCnvSetLimits src chg dis cont fast i2t b).act blk).sys.mstate = blk.sys.mstate := by
  simp [ruleCnvSetLimits]
@[simp] theorem ruleCnvSetModulation_mstate (src : Src) (deadTime dMin : ℕ) (dMax trimMax shareGain : ℕ) (b blk : Block) :
    ((ruleCnvSetModulation src deadTime dMin dMax trimMax shareGain b).act blk).sys.mstate = blk.sys.mstate := by
  simp [ruleCnvSetModulation]
@[simp] theorem applyMask_mstate (mask : ℕ) (b : Block) : (applyMask mask b).sys.mstate = b.sys.mstate := by simp [applyMask]
@[simp] theorem ruleCnvSetPhases_mstate (src : Src) (mask nMin : ℕ) (b blk : Block) : ((ruleCnvSetPhases src mask nMin b).act blk).sys.mstate = blk.sys.mstate := by
  simp [ruleCnvSetPhases]
@[simp] theorem ruleCnvSetSoftstart_mstate (src : Src) (vTarget : ℤ) (slewV ilimSs : ℕ) (ssTimeout kpv : ℕ) (kiv slewStop : ℕ) (b blk : Block) :
    ((ruleCnvSetSoftstart src vTarget slewV ilimSs ssTimeout kpv kiv slewStop b).act blk).sys.mstate = blk.sys.mstate := by
  simp [ruleCnvSetSoftstart]
@[simp] theorem ruleCnvSetTuning_mstate (src : Src) (en fc : ℕ) (b blk : Block) : ((ruleCnvSetTuning src en fc b).act blk).sys.mstate = blk.sys.mstate := by
  simp [ruleCnvSetTuning]
@[simp] theorem ruleCnvSetVtarget_mstate (src : Src) (target : ℤ) (slew : ℕ) (b blk : Block) : ((ruleCnvSetVtarget src target slew b).act blk).sys.mstate = blk.sys.mstate := by
  simp [ruleCnvSetVtarget]
@[simp] theorem onSeg_mstate (n : ℕ) (f : SegSense → SegSense) (b : Block) : (onSeg n f b).sys.mstate = b.sys.mstate := by simp [onSeg]
@[simp] theorem crossNow_mstate (c : ℕ) (ov pair : Bool) (b : Block) : (crossNow c ov pair b).sys.mstate = b.sys.mstate := by simp [crossNow]
@[simp] theorem holdIn_mstate (n c : ℕ) (ov : Bool) (b : Block) : (holdIn n c ov b).sys.mstate = b.sys.mstate := by simp [holdIn]
@[simp] theorem doComparatorCrossing_mstate (c : ℕ) (ov pair : Bool) (b : Block) : (doComparatorCrossing c ov pair b).sys.mstate = b.sys.mstate := by
  unfold doComparatorCrossing
  repeat' split
  all_goals simp
@[simp] theorem passTrip_mstate (n id : ℕ) (ov : Bool) (b : Block) : (passTrip n id ov b).sys.mstate = b.sys.mstate := by simp [passTrip]
@[simp] theorem doComparatorDeglitched_mstate (c : ℕ) (ov pair : Bool) (b : Block) : (doComparatorDeglitched c ov pair b).sys.mstate = b.sys.mstate := by
  unfold doComparatorDeglitched
  dsimp only
  repeat' split
  all_goals simp
@[simp] theorem dropTrips_mstate (n : ℕ) (b : Block) : (dropTrips n b).sys.mstate = b.sys.mstate := by simp [dropTrips]
@[simp] theorem doComparatorRelease_mstate (c : ℕ) (ov pair : Bool) (b : Block) : (doComparatorRelease c ov pair b).sys.mstate = b.sys.mstate := by
  simp [doComparatorRelease]
@[simp] theorem xchkTrack_mstate (b : Block) : (xchkTrack b).sys.mstate = b.sys.mstate := by simp [xchkTrack]
@[simp] theorem foldCheck_mstate (b : Block) : (foldCheck b).sys.mstate = b.sys.mstate := by simp [foldCheck]
@[simp] theorem markClip_mstate (b : Block) : (markClip b).sys.mstate = b.sys.mstate := by simp [markClip]
@[simp] theorem doCompensatorStep_mstate (k : ℕ) (b : Block) : (doCompensatorStep k b).sys.mstate = b.sys.mstate := by simp [doCompensatorStep]
@[simp] theorem doConfigAck_sinks {o : MState} (k thr result : ℕ) {b : Block} (h : o.sinks b.sys.mstate) : o.sinks (doConfigAck k thr result b).sys.mstate := by
  unfold doConfigAck
  dsimp only
  repeat' split
  all_goals simp [h]
@[simp] theorem doConfigAckTimeout_sinks {o : MState} (k : ℕ) {b : Block} (h : o.sinks b.sys.mstate) : o.sinks (doConfigAckTimeout k b).sys.mstate := by
  unfold doConfigAckTimeout
  split <;> simp [h]
@[simp] theorem doContactorFailToClose_sinks {o : MState} (n : Nat) {b : Block} (h : o.sinks b.sys.mstate) : o.sinks (doContactorFailToClose n b).sys.mstate := by
  unfold doContactorFailToClose
  split
  · exact h
  · simpa using raise_sinks .contactorFault (n + 1) [] (by simpa using h)
@[simp] theorem abortSeq_sinks {o : MState} (ssi : Bool) {b : Block} (h : o.sinks b.sys.mstate) : o.sinks (abortSeq ssi b).sys.mstate := by
  unfold abortSeq
  dsimp only
  repeat' split
  all_goals simp [h]
@[simp] theorem execFn_sinks {o : MState} (ssi : Bool) (cause ix : ℕ) (next : LState) {b : Block} (h : o.sinks b.sys.mstate) : o.sinks (execFn ssi cause ix next b).sys.mstate := by
  simp [execFn, h]
@[simp] theorem demand_sinks {o : MState} (ssi : Bool) (cause ix : Nat) {b : Block} (h : o.sinks b.sys.mstate) : o.sinks (demand ssi cause ix b).sys.mstate := by
  have hf (ssi : Bool) (next : LState) : o.sinks (execFn ssi cause ix next (addCause cause ix b)).sys.mstate := execFn_sinks _ _ _ _ (by simpa using h)
  unfold demand
  repeat' split
  all_goals simp [h, hf]
@[simp] theorem demandSSI_sinks {o : MState} (cause ix : ℕ) {b : Block} (h : o.sinks b.sys.mstate) : o.sinks (demandSSI cause ix b).sys.mstate := by simp [demandSSI, h]
@[simp] theorem doContactorWeld_sinks {o : MState} (n : ℕ) {b : Block} (h : o.sinks b.sys.mstate) : o.sinks (doContactorWeld n b).sys.mstate := by
  unfold doContactorWeld
  split <;> simp [h]
@[simp] theorem doConversionComplete_mstate (n : ℕ) (b : Block) : (doConversionComplete n b).sys.mstate = b.sys.mstate := by simp [doConversionComplete]
@[simp] theorem doCqModerationTimeout_mstate (q : ℕ) (b : Block) : (doCqModerationTimeout q b).sys.mstate = b.sys.mstate := by
  unfold doCqModerationTimeout
  dsimp only
  split <;> simp
@[simp] theorem dmaDisabled_mstate (c : ℕ) (b : Block) : (dmaDisabled c b).sys.mstate = b.sys.mstate := by simp [dmaDisabled]
@[simp] theorem settleQueue_mstate (l : CqLoc) (b : Block) : (settleQueue l b).sys.mstate = b.sys.mstate := by
  unfold settleQueue
  split <;> simp
@[simp] theorem flushCq_mstate (l : CqLoc) (n : Nat) (b : Block) : (flushCq l n b).sys.mstate = b.sys.mstate := by
  induction n generalizing b with
  | zero => rfl
  | succ n ih =>
    unfold flushCq
    dsimp only
    split
    · split <;> simp
    · split <;> simp [ih]
@[simp] theorem writeCqGet_mstate (l : CqLoc) (v : ℕ) (b : Block) : (writeCqGet l v b).sys.mstate = b.sys.mstate := by simp [writeCqGet]
@[simp] theorem doCqgetWrite_mstate (q value : ℕ) (b : Block) : (doCqgetWrite q value b).sys.mstate = b.sys.mstate := by simp [doCqgetWrite]
@[simp] theorem doCurrentBothLost_sinks {o : MState} {b : Block} (h : o.sinks b.sys.mstate) : o.sinks (doCurrentBothLost b).sys.mstate := by
  unfold doCurrentBothLost
  split
  · split
    · exact h
    · exact raise_sinks _ _ _ (by simpa using h)
  · exact h
@[simp] theorem answer_mstate (a : DbgAnswer) (b : Block) : (answer a b).sys.mstate = b.sys.mstate := by simp [answer]
@[simp] theorem setHalted_mstate (i : ℕ) (h1 : Bool) (b : Block) : (setHalted i h1 b).sys.mstate = b.sys.mstate := by simp [setHalted]
@[simp] theorem touchEngine_mstate (i : ℕ) (b : Block) : (touchEngine i b).sys.mstate = b.sys.mstate := by simp [touchEngine]
@[simp] theorem retire_mstate (p rd : ℕ) (v : Word) (npc : Word) (b : Block) : (retire p rd v npc b).sys.mstate = b.sys.mstate := by simp [retire]
@[simp] theorem takeTrap_mstate (p : ℕ) (irq : Bool) (code tval : ℕ) (b : Block) : (takeTrap p irq code tval b).sys.mstate = b.sys.mstate := by simp [takeTrap]
@[simp] theorem setSvc_mstate (e : ℕ) (up : Bool) (b : Block) : (setSvc e up b).sys.mstate = b.sys.mstate := by simp [setSvc]
@[simp] theorem onRing__mstate (p : ℕ) (f : Machine.Ring → Machine.Ring) (b : Block) : (onRing_ p f b).sys.mstate = b.sys.mstate := by simp [onRing_]
@[simp] theorem disableRing_mstate (p : ℕ) (b : Block) : (disableRing p b).sys.mstate = b.sys.mstate := by simp [disableRing]
@[simp] theorem disableCh_mstate (c : ℕ) (b : Block) : (disableCh c b).sys.mstate = b.sys.mstate := by
  unfold disableCh
  dsimp only
  repeat' split
  all_goals simp
@[simp] theorem stopPolicy_mstate (p : ℕ) (b : Block) : (stopPolicy p b).sys.mstate = b.sys.mstate := by simp [stopPolicy]
@[simp] theorem policyDown_mstate (p cause : ℕ) (b : Block) : (policyDown p cause b).sys.mstate = b.sys.mstate := by simp [policyDown]
@[simp] theorem illegal_mstate (p w : ℕ) (b : Block) : (illegal p w b).sys.mstate = b.sys.mstate := by simp [illegal]
@[simp] theorem putFault_mstate (f : TileFault) (b : Block) : (putFault f b).sys.mstate = b.sys.mstate := by simp [putFault]
@[simp] theorem tileFails_mstate (t : ℕ) (b : Block) : (tileFails t b).sys.mstate = b.sys.mstate := by
  unfold tileFails
  split <;> simp
@[simp] theorem doMtimeLoRead_mstate (p : ℕ) (b : Block) : (doMtimeLoRead p b).sys.mstate = b.sys.mstate := by simp [doMtimeLoRead]
@[simp] theorem doPtpSLoRead_mstate (p : ℕ) (b : Block) : (doPtpSLoRead p b).sys.mstate = b.sys.mstate := by simp [doPtpSLoRead]
theorem readReg_mstate {p : Nat} {t : PhysTarget} {b : Block} {r : Nat × Block} (h : readReg p t b = some r) : r.2.sys.mstate = b.sys.mstate := by
  have hl (p off : Nat) : (readLocal p off b).2.sys.mstate = b.sys.mstate := by
    unfold readLocal
    dsimp only
    split <;> simp
  unfold readReg at h
  split at h
  case h_1 => cases h; exact hl ..
  case h_8 => split at h <;> cases h; rfl
  all_goals cases h
  all_goals rfl
/-- An access leaves the module state where it stands. -/
def Access.stays (m : MState) : Access → Prop
  | .done _ b => b.sys.mstate = m
  | .refused _ _ _ b => b.sys.mstate = m
  | .misaligned => True

theorem refuse_stays (x : Xlat) (b : Block) : (x.refuse b).stays b.sys.mstate := by
  unfold Xlat.refuse
  split <;> rfl

theorem loadAt_stays (p acc va w : Nat) (bad : Bool) (b : Block) : (loadAt p acc va w bad b).stays b.sys.mstate := by
  unfold loadAt
  dsimp only
  split
  · exact refuse_stays ..
  · split
    · repeat' split
      all_goals simp [Access.stays]
    · repeat' split
      all_goals simp [Access.stays]
    · rfl
    · split
      · rfl
      · next hr =>
        split
        · exact readReg_mstate hr
        · rfl
@[simp] theorem rtuFault_mstate (p cause : ℕ) (acc region : ℕ) (va pa : ℕ) (b : Block) : (rtuFault p cause acc region va pa b).sys.mstate = b.sys.mstate := by
  simp [rtuFault]
theorem accessTrap_mstate {p acc va : Nat} {a : Access} {b : Block} (h : a.stays b.sys.mstate) : (accessTrap p acc va a b).sys.mstate = b.sys.mstate := by
  cases a with
  | done v b1 => exact h
  | refused c r pa b1 => exact (rtuFault_mstate ..).trans h
  | misaligned => simp [accessTrap]
/-- A load or a store ends in retirement or in a trap. -/
theorem rvLoad_mstate (p w : Nat) (bad : Bool) (npc : Word) (b : Block) : (rvLoad p w bad npc b).sys.mstate = b.sys.mstate := by
  have hgo (n rd va : Nat) (ext : Nat → Word) : (match loadAt p 0 va n bad b with
      | .done v b1 => retire p rd (ext v) npc b1
      | a => accessTrap p 0 va a b).sys.mstate = b.sys.mstate := by
    have hs := loadAt_stays p 0 va n bad b
    split
    · next h => simpa [h, Access.stays] using hs
    · exact accessTrap_mstate hs
  unfold rvLoad
  dsimp only
  split
  case h_6 => exact illegal_mstate ..
  all_goals exact hgo ..
@[simp] theorem storeTile_mstate (t : ℕ) (ws : TileData) (b : Block) : (storeTile t ws b).sys.mstate = b.sys.mstate := by simp [storeTile]
@[simp] theorem countCommit_mstate (p : ℕ) (b : Block) : (countCommit p b).sys.mstate = b.sys.mstate := by simp [countCommit]
theorem stageEngine_mstate {p off : Nat} {v : Word} {b c : Block} (h : stageEngine p off v b = some c) : c.sys.mstate = b.sys.mstate := by
  unfold stageEngine at h
  split at h <;> cases h <;> simp
@[simp] theorem countPart_mstate (p : ℕ) (b : Block) : (countPart p b).sys.mstate = b.sys.mstate := by simp [countPart]
@[simp] theorem doWdogWrite_mstate (p : ℕ) (b : Block) : (doWdogWrite p b).sys.mstate = b.sys.mstate := by simp [doWdogWrite]
@[simp] theorem writeLocal_mstate (p off v : ℕ) (b : Block) : (writeLocal p off v b).sys.mstate = b.sys.mstate := by
  unfold writeLocal
  split <;> simp
@[simp] theorem doIrqComplete_mstate (p s : ℕ) (b : Block) : (doIrqComplete p s b).sys.mstate = b.sys.mstate := by simp [doIrqComplete]
@[simp] theorem doSwisetWrite_mstate (mask : ℕ) (b : Block) : (doSwisetWrite mask b).sys.mstate = b.sys.mstate := by simp [doSwisetWrite]
@[simp] theorem doTperWrite_mstate (t per : ℕ) (b : Block) : (doTperWrite t per b).sys.mstate = b.sys.mstate := by simp [doTperWrite]
@[simp] theorem doRouteWrite_mstate (s : ℕ) (p1 : Bool) (b : Block) : (doRouteWrite s p1 b).sys.mstate = b.sys.mstate := by simp [doRouteWrite]
@[simp] theorem doRdirClear_mstate (s : ℕ) (b : Block) : (doRdirClear s b).sys.mstate = b.sys.mstate := by simp [doRdirClear]
@[simp] theorem writeIntc_mstate (p off v : ℕ) (b : Block) : (writeIntc p off v b).sys.mstate = b.sys.mstate := by simp [writeIntc]
@[simp] theorem writeRegion_mstate (p i : ℕ) (hi : Bool) (v : ℕ) (b : Block) : (writeRegion p i hi v b).sys.mstate = b.sys.mstate := by simp [writeRegion]
@[simp] theorem doRtuActiveClear_mstate (p : ℕ) (b : Block) : (doRtuActiveClear p b).sys.mstate = b.sys.mstate := by simp [doRtuActiveClear]
@[simp] theorem writeRtu_mstate (p off v : ℕ) (b : Block) : (writeRtu p off v b).sys.mstate = b.sys.mstate := by simp [writeRtu]
@[simp] theorem writeImgCtl_mstate (p off v : ℕ) (b : Block) : (writeImgCtl p off v b).sys.mstate = b.sys.mstate := by
  unfold writeImgCtl
  split <;> simp
@[simp] theorem writeCqReg_mstate (l : CqLoc) (off v : ℕ) (disabled : Bool) (b : Block) : (writeCqReg l off v disabled b).sys.mstate = b.sys.mstate := by
  unfold writeCqReg
  split <;> simp
@[simp] theorem writeRing_mstate (p off v : ℕ) (b : Block) : (writeRing p off v b).sys.mstate = b.sys.mstate := by
  unfold writeRing
  split <;> simp
@[simp] theorem onPort__mstate (p : ℕ) (f : FramePort → FramePort) (b : Block) : (onPort_ p f b).sys.mstate = b.sys.mstate := by simp [onPort_]
@[simp] theorem sendNet_mstate (o0 : NetOut) (b : Block) : (sendNet o0 b).sys.mstate = b.sys.mstate := by simp [sendNet]
@[simp] theorem sendFrame_mstate (p : ℕ) (b : Block) : (sendFrame p b).sys.mstate = b.sys.mstate := by simp [sendFrame]
@[simp] theorem writePort_mstate (p off v : ℕ) (b : Block) : (writePort p off v b).sys.mstate = b.sys.mstate := by
  unfold writePort
  repeat' split
  all_goals simp
@[simp] theorem enableCh_mstate (c : ℕ) (b : Block) : (enableCh c b).sys.mstate = b.sys.mstate := by simp [enableCh]
@[simp] theorem resumeCh_mstate (c : ℕ) (b : Block) : (resumeCh c b).sys.mstate = b.sys.mstate := by simp [resumeCh]
@[simp] theorem writeRput_mstate (c v : ℕ) (b : Block) : (writeRput c v b).sys.mstate = b.sys.mstate := by simp [writeRput]
@[simp] theorem writeCh_mstate (c off v : ℕ) (b : Block) : (writeCh c off v b).sys.mstate = b.sys.mstate := by
  unfold writeCh
  split <;> simp
@[simp] theorem writeTb_mstate (k n : ℕ) (off v : ℕ) (b : Block) : (writeTb k n off v b).sys.mstate = b.sys.mstate := by simp [writeTb]
@[simp] theorem writeCan_mstate (k off v : ℕ) (b : Block) : (writeCan k off v b).sys.mstate = b.sys.mstate := by
  unfold writeCan
  repeat' split
  all_goals simp
theorem writeReg_mstate {p v : Nat} {t : PhysTarget} {b c : Block} (h : writeReg p t v b = some c) : c.sys.mstate = b.sys.mstate := by
  unfold writeReg at h
  split at h
  case h_8 => split at h <;> cases h; simp
  all_goals cases h
  all_goals simp

theorem writeReg_getD_mstate (p v : Nat) (t : PhysTarget) (b : Block) : ((writeReg p t v b).getD b).sys.mstate = b.sys.mstate := by
  cases h : writeReg p t v b with
  | none => rfl
  | some c => exact writeReg_mstate h
theorem storeAt_stays (p acc va w v : Nat) (b : Block) : (storeAt p acc va w v b).stays b.sys.mstate := by
  unfold storeAt
  dsimp only
  split
  · exact refuse_stays ..
  · split
    · repeat' split
      all_goals simp [Access.stays]
    · rfl
    · split
      · rfl
      · split
        · next hs => exact stageEngine_mstate hs
        · simp [Access.stays]
    · split
      · rfl
      · split
        · exact writeReg_getD_mstate ..
        · rfl
theorem rvStore_mstate (p w : Nat) (npc : Word) (b : Block) : (rvStore p w npc b).sys.mstate = b.sys.mstate := by
  have hgo (n v va : Nat) : (match storeAt p 1 va n v b with
      | .done _ b1 => retire p 0 0#32 npc b1
      | a => accessTrap p 1 va a b).sys.mstate = b.sys.mstate := by
    have hs := storeAt_stays p 1 va n v b
    split
    · next h => simpa [h, Access.stays] using hs
    · exact accessTrap_mstate hs
  unfold rvStore
  dsimp only
  split
  case h_4 => exact illegal_mstate ..
  all_goals exact hgo ..
theorem rvAtomic_mstate (p w : Nat) (npc : Word) (b : Block) : (rvAtomic p w npc b).sys.mstate = b.sys.mstate := by
  unfold rvAtomic
  extract_lets e f5 va src acc x old ok b1
  have h1 : b1.sys.mstate = b.sys.mstate := by
    simp only [b1]
    split
    · rw [ramWrite_sys]
    · rfl
  split
  · simp
  · split
    · exact accessTrap_mstate trivial
    · split
      · exact accessTrap_mstate (refuse_stays ..)
      · split
        · exact accessTrap_mstate rfl
        · split
          · simp
          · split
            · simpa using h1
            · split <;> simp
@[simp] theorem rvMret_mstate (p : ℕ) (b : Block) : (rvMret p b).sys.mstate = b.sys.mstate := by simp [rvMret]
@[simp] theorem doWfi_mstate (p : ℕ) (b : Block) : (doWfi p b).sys.mstate = b.sys.mstate := by
  unfold doWfi
  repeat' split
  all_goals simp
@[simp] theorem rvCsr_mstate (p w : ℕ) (npc : Word) (b : Block) : (rvCsr p w npc b).sys.mstate = b.sys.mstate := by
  unfold rvCsr
  dsimp only
  split <;> simp
@[simp] theorem rvSystem_mstate (p w : ℕ) (npc : Word) (b : Block) : (rvSystem p w npc b).sys.mstate = b.sys.mstate := by
  unfold rvSystem
  repeat' split
  all_goals simp
@[simp] theorem rvExec_mstate (p w : Nat) (bad : Bool) (npc : Word) (b : Block) : (rvExec p w bad npc b).sys.mstate = b.sys.mstate := by
  unfold rvExec
  dsimp only
  split
  case h_6 => exact rvLoad_mstate ..
  case h_7 => exact rvStore_mstate ..
  case h_11 => exact rvAtomic_mstate ..
  all_goals repeat' split
  all_goals simp
theorem fetchHalf_stays (p va : Nat) (b : Block) : (fetchHalf p va b).stays b.sys.mstate := by
  unfold fetchHalf
  dsimp only
  split
  · exact refuse_stays ..
  · split <;> rfl

@[simp] theorem rvStep_mstate (p : Nat) (bad : Bool) (b : Block) : (rvStep p bad b).sys.mstate = b.sys.mstate := by
  unfold rvStep
  dsimp only
  split
  · split
    · split <;> simp
    · split
      · simp
      · exact accessTrap_mstate (fetchHalf_stays ..)
  · exact accessTrap_mstate (fetchHalf_stays ..)
@[simp] theorem debugPolicy_mstate (p : Nat) (op : DbgOp) (b : Block) : (debugPolicy p op b).sys.mstate = b.sys.mstate := by
  have hl (a : Nat) := loadAt_stays p 0 a 4 false b
  have hs (a v : Nat) := storeAt_stays p 1 a 4 v b
  unfold debugPolicy
  dsimp only
  cases op with
  | readMem a =>
    have := hl a
    dsimp only
    repeat' split
    all_goals simp_all [Access.stays]
  | writeMem a v =>
    have := hs a v
    dsimp only
    repeat' split
    all_goals simp_all [Access.stays]
  | _ => simp
@[simp] theorem answerOpen_mstate (b : Block) : (answerOpen b).sys.mstate = b.sys.mstate := by simp [answerOpen]
@[simp] theorem debugVendor_mstate (i : ℕ) (op : DbgOp) (b : Block) : (debugVendor i op b).sys.mstate = b.sys.mstate := by
  unfold debugVendor
  split <;> simp
@[simp] theorem debugRead_mstate (part : DbgPart) (op : DbgOp) (b : Block) : (debugRead part op b).sys.mstate = b.sys.mstate := by
  unfold debugRead
  split <;> simp
@[simp] theorem doDebugAccess_mstate (part : DbgPart) (op : DbgOp) (b : Block) : (doDebugAccess part op b).sys.mstate = b.sys.mstate := by
  unfold doDebugAccess
  repeat' split
  all_goals simp
@[simp] theorem releasePolicy_mstate (p : ℕ) (b : Block) : (releasePolicy p b).sys.mstate = b.sys.mstate := by simp [releasePolicy]
@[simp] theorem loadPolicy_mstate (p : ℕ) (b : Block) : (loadPolicy p b).sys.mstate = b.sys.mstate := by simp [loadPolicy]
@[simp] theorem startPolicy_mstate (p : ℕ) (b : Block) : (startPolicy p b).sys.mstate = b.sys.mstate := by
  unfold startPolicy
  repeat' split
  all_goals simp
@[simp] theorem reserveFailure_mstate (b : Block) : (reserveFailure b).sys.mstate = b.sys.mstate := by simp [reserveFailure]
@[simp] theorem writeRecord_mstate (r : SlotRec) (b : Block) : (writeRecord r b).sys.mstate = b.sys.mstate := by simp [writeRecord]
@[simp] theorem endUpdate_mstate (st : Status) (data : List Byte) (b : Block) : (endUpdate st data b).sys.mstate = b.sys.mstate := by
  unfold endUpdate
  split <;> simp
@[simp] theorem abandonActivation_mstate (engine : ℕ) (b : Block) : (abandonActivation engine b).sys.mstate = b.sys.mstate := by simp [abandonActivation]
@[simp] theorem failBlock_mstate (src : Src) (off : ℕ) (b : Block) : (failBlock src off b).sys.mstate = b.sys.mstate := by simp [failBlock]
@[simp] theorem cutBlock_mstate (b : Block) : (cutBlock b).sys.mstate = b.sys.mstate := by
  unfold cutBlock
  split <;> simp
@[simp] theorem cutUpdate_mstate (b : Block) : (cutUpdate b).sys.mstate = b.sys.mstate := by simp [cutUpdate]
@[simp] theorem cutSave_mstate (b : Block) : (cutSave b).sys.mstate = b.sys.mstate := by
  unfold cutSave
  split <;> simp
@[simp] theorem failLead_mstate (cause : ℕ) (b : Block) : (failLead cause b).sys.mstate = b.sys.mstate := by simp [failLead]
@[simp] theorem returnFails_mstate (b : Block) : (returnFails b).sys.mstate = b.sys.mstate := by simp [returnFails]
@[simp] theorem leadFailure_mstate (cause : ℕ) (b : Block) : (leadFailure cause b).sys.mstate = b.sys.mstate := by simp [leadFailure]
@[simp] theorem lowSidesOff_mstate (b : Block) : (lowSidesOff b).sys.mstate = b.sys.mstate := by simp [lowSidesOff]
@[simp] theorem doLockstepMismatch_sinks {o : MState} {b : Block} (h : o.sinks b.sys.mstate) : o.sinks (doLockstepMismatch b).sys.mstate := by
  unfold doLockstepMismatch
  split <;> simp [h]
@[simp] theorem takeover_mstate (part backup : ℕ) (b : Block) : (takeover part backup b).sys.mstate = b.sys.mstate := by simp [takeover]
@[simp] theorem loseSequencer_sinks {o : MState} (n : ℕ) {b : Block} (h : o.sinks b.sys.mstate) : o.sinks (loseSequencer n b).sys.mstate := by
  unfold loseSequencer
  dsimp only
  split <;> simp [h]
@[simp] theorem loseSpectral_mstate (n : ℕ) (b : Block) : (loseSpectral n b).sys.mstate = b.sys.mstate := by simp [loseSpectral]
@[simp] theorem setOwner_mstate (o0 : Option ℕ) (b : Block) : (setOwner o0 b).sys.mstate = b.sys.mstate := by
  unfold setOwner
  repeat' split
  all_goals simp
@[simp] theorem closeSession_mstate (i : ℕ) (b : Block) : (closeSession i b).sys.mstate = b.sys.mstate := by simp [closeSession]
@[simp] theorem onPtp_mstate (f : PtpPart → PtpPart) (b : Block) : (onPtp f b).sys.mstate = b.sys.mstate := by simp [onPtp]
@[simp] theorem setHold_mstate (b : Block) : (setHold b).sys.mstate = b.sys.mstate := by simp [setHold]
@[simp] theorem loseNetwork_mstate (b : Block) : (loseNetwork b).sys.mstate = b.sys.mstate := by simp [loseNetwork]
@[simp] theorem engineDown_sinks {o : MState} (e : Engine) {b : Block} (h : o.sinks b.sys.mstate) : o.sinks (engineDown e b).sys.mstate := by
  unfold engineDown
  dsimp only
  repeat' split
  all_goals simp [h]
@[simp] theorem doDebugOpenExpiry_mstate (b : Block) : (doDebugOpenExpiry b).sys.mstate = b.sys.mstate := by
  unfold doDebugOpenExpiry
  split <;> simp
@[simp] theorem publish_mstate (t : ℕ) (b : Block) : (publish t b).sys.mstate = b.sys.mstate := by simp [publish]
@[simp] theorem swapBanks_mstate (epoch : ℕ) (held : Bool) (b : Block) : (swapBanks epoch held b).sys.mstate = b.sys.mstate := by simp [swapBanks]
@[simp] theorem beginHold_mstate (b : Block) : (beginHold b).sys.mstate = b.sys.mstate := by simp [beginHold]
@[simp] theorem doDeferredSwap_mstate (b : Block) : (doDeferredSwap b).sys.mstate = b.sys.mstate := by
  unfold doDeferredSwap
  split <;> simp
@[simp] theorem doDieTemperatureChange_mstate (n : ℕ) (t : ℤ) (b : Block) : (doDieTemperatureChange n t b).sys.mstate = b.sys.mstate := by simp [doDieTemperatureChange]
theorem burstRead_mstate {p va n : Nat} {bad : Bool} {b b1 : Block} {k r : Nat} (h : burstRead p va n bad b = .error (k, r, b1)) : b1.sys.mstate = b.sys.mstate := by
  unfold burstRead at h
  dsimp only at h
  repeat' split at h
  all_goals cases h
  all_goals simp
@[simp] theorem haltCh_mstate (c index : ℕ) (tag moved : ℕ) (va cause : ℕ) (acc region : ℕ) (b : Block) : (haltCh c index tag moved va cause acc region b).sys.mstate = b.sys.mstate := by
  simp [haltCh]
theorem stageBurst_mstate {p c : Nat} {l : List Word} : ∀ {off : Nat} {b d : Block}, stageBurst p c off l b = some d → d.sys.mstate = b.sys.mstate := by
  induction l with
  | nil => intro off b d h; cases h; rfl
  | cons v l ih =>
    intro off b d h
    unfold stageBurst at h
    split at h
    · simpa using ih h
    · simpa using ih h
    · cases h
/-- The block that a burst's write leaves, carried out or refused. -/
def Side.block (x : Side Block) : Block := match x with
  | .error e => e.2.2
  | .ok b => b

theorem burstWrite_mstate (p c va : Nat) (tile : Bool) (bs : List Byte) (b : Block) : (Side.block (burstWrite p c va tile bs b)).sys.mstate = b.sys.mstate := by
  unfold burstWrite
  dsimp only
  split
  · rfl
  · split
    · split
      · rfl
      · split
        · exact congrArg _ (ramWrite_sys ..)
        · rfl
    · split
      · split
        · exact (storeTile_mstate ..).trans (countCommit_mstate ..)
        · rfl
      · split
        · rfl
        · split
          · next h => exact stageBurst_mstate h
          · simp [Side.block]
    · split
      · rfl
      · split
        · rfl
        · exact foldl_mstate _ (fun _ _ => by simp) _ _
    · rfl
@[simp] theorem finishDesc_mstate (c : ℕ) (e : CqEntry) (b : Block) : (finishDesc c e b).sys.mstate = b.sys.mstate := by simp [finishDesc]
@[simp] theorem runBurst_mstate (p c : Nat) (d : DmaDesc) (bad : Bool) (b : Block) : (runBurst p c d bad b).sys.mstate = b.sys.mstate := by
  have hw := burstWrite_mstate p c d.dstNow d.tile
  unfold runBurst
  split
  · next h => simpa using burstRead_mstate h
  · next bs _ =>
    specialize hw bs b
    split
    · next h => simpa [h, Side.block] using hw
    · next h =>
      rw [h] at hw
      dsimp only
      split <;> simpa [Side.block] using hw
@[simp] theorem takeDesc_mstate (p c : ℕ) (bad : Bool) (b : Block) : (takeDesc p c bad b).sys.mstate = b.sys.mstate := by
  unfold takeDesc
  dsimp only
  repeat' split
  all_goals simp
@[simp] theorem doDmaBurst_mstate (bad : Bool) (b : Block) : (doDmaBurst bad b).sys.mstate = b.sys.mstate := by
  unfold doDmaBurst
  dsimp only
  repeat' split
  all_goals simp
@[simp] theorem doDmaDisable_mstate (c : ℕ) (b : Block) : (doDmaDisable c b).sys.mstate = b.sys.mstate := by simp [doDmaDisable]
@[simp] theorem doDmaDisableDone_mstate (c : ℕ) (b : Block) : (doDmaDisableDone c b).sys.mstate = b.sys.mstate := by simp [doDmaDisableDone]
@[simp] theorem doDmaEnable_mstate (c : ℕ) (b : Block) : (doDmaEnable c b).sys.mstate = b.sys.mstate := by simp [doDmaEnable]
@[simp] theorem doDmaResume_mstate (c : ℕ) (b : Block) : (doDmaResume c b).sys.mstate = b.sys.mstate := by simp [doDmaResume]
@[simp] theorem doDmaRputWrite_mstate (c value : ℕ) (b : Block) : (doDmaRputWrite c value b).sys.mstate = b.sys.mstate := by simp [doDmaRputWrite]
@[simp] theorem doDownlinkFrame_mstate (k : ℕ) (b : Block) : (doDownlinkFrame k b).sys.mstate = b.sys.mstate := by simp [doDownlinkFrame]
@[simp] theorem blockCounts_mstate (b : Block) : (blockCounts b).sys.mstate = b.sys.mstate := by simp [blockCounts]
@[simp] theorem demandSPS_sinks {o : MState} (cause ix : ℕ) {b : Block} (h : o.sinks b.sys.mstate) : o.sinks (demandSPS cause ix b).sys.mstate := by simp [demandSPS, h]
@[simp] theorem actChecks_sinks {o : MState} {b : Block} (h : o.sinks b.sys.mstate) : o.sinks (actChecks b).sys.mstate := by
  have hs (i : Nat) {b : Block} (hb : o.sinks b.sys.mstate) : o.sinks (if b.checkNow i then demandSSI 5 i b else clearCause 5 i b).sys.mstate := by
    split
    · exact demandSSI_sinks _ _ hb
    · simpa using hb
  have hp (i : Nat) {b : Block} (hb : o.sinks b.sys.mstate) : o.sinks (if b.checkNow i then demandSPS 5 i b else clearCause 5 i b).sys.mstate := by
    split
    · exact demandSPS_sinks _ _ hb
    · simpa using hb
  unfold actChecks
  extract_lets b1 b2
  have h1 : o.sinks b1.sys.mstate := foldl_sinks (fun _ i hb => hs i hb) _ h
  have h2 : o.sinks b2.sys.mstate := foldl_sinks (fun _ i hb => hp i hb) _ h1
  exact h2
@[simp] theorem lockout_sinks {o : MState} (cause : ℕ) {b : Block} (h : o.sinks b.sys.mstate) : o.sinks (lockout cause b).sys.mstate := by
  unfold lockout
  split <;> simp [h]
@[simp] theorem actUnexecuted_sinks {o : MState} (i : ℕ) {b : Block} (h : o.sinks b.sys.mstate) : o.sinks (actUnexecuted i b).sys.mstate := by simp [actUnexecuted, h]
@[simp] theorem doEngineCheckBlock_sinks {o : MState} (seen : ℕ) {b : Block} (h : o.sinks b.sys.mstate) : o.sinks (doEngineCheckBlock seen b).sys.mstate := by
  unfold doEngineCheckBlock
  dsimp only
  repeat' split
  all_goals simp [h]
@[simp] theorem checkPolicy_mstate (p : ℕ) (b : Block) : (checkPolicy p b).sys.mstate = b.sys.mstate := by
  unfold checkPolicy
  repeat' split
  all_goals simp
@[simp] theorem setLocked_mstate (on : Bool) (b : Block) : (setLocked on b).sys.mstate = b.sys.mstate := by simp [setLocked]
@[simp] theorem restartPtp_mstate (b : Block) : (restartPtp b).sys.mstate = b.sys.mstate := by simp [restartPtp]
@[simp] theorem takePlant_mstate (s : Settings) (b : Block) : (takePlant s b).sys.mstate = b.sys.mstate := by simp [takePlant]
@[simp] theorem takeLoops_mstate (s : Settings) (b : Block) : (takeLoops s b).sys.mstate = b.sys.mstate := by simp [takeLoops]
@[simp] theorem takeSensing_mstate (s : Settings) (b : Block) : (takeSensing s b).sys.mstate = b.sys.mstate := by simp [takeSensing]
@[simp] theorem takeSettings_mstate (s : Settings) (b : Block) : (takeSettings s b).sys.mstate = b.sys.mstate := by simp [takeSettings]
@[simp] theorem settingsTake_mstate (live : Bool) (slot s : ℕ) (m within_ : ℕ) (b : Block) : (settingsTake live slot s m within_ b).sys.mstate = b.sys.mstate := by
  simp [settingsTake]
@[simp] theorem takeBundle_mstate (slot : ℕ) (b : Block) : (takeBundle slot b).sys.mstate = b.sys.mstate := by simp [takeBundle]
@[simp] theorem doEpochBoundary_mstate (b : Block) : (doEpochBoundary b).sys.mstate = b.sys.mstate := by
  unfold doEpochBoundary
  dsimp only
  repeat' split
  all_goals simp
@[simp] theorem onCage_mstate (c : ℕ) (f : Cage → Cage) (b : Block) : (onCage c f b).sys.mstate = b.sys.mstate := by simp [onCage]
@[simp] theorem dropFrame_mstate (b : Block) : (dropFrame b).sys.mstate = b.sys.mstate := by simp [dropFrame]
@[simp] theorem dispatchFrame_mstate (c : ℕ) (f : EthFrame) (b : Block) : (dispatchFrame c f b).sys.mstate = b.sys.mstate := by
  unfold dispatchFrame
  split <;> simp
@[simp] theorem prpReceive_mstate (c : ℕ) (f : EthFrame) (b : Block) : (prpReceive c f b).sys.mstate = b.sys.mstate := by
  unfold prpReceive
  dsimp only
  repeat' split
  all_goals simp
@[simp] theorem doEthFrame_mstate (c : ℕ) (f : EthFrame) (count : ℕ) (b : Block) : (doEthFrame c f count b).sys.mstate = b.sys.mstate := by
  unfold doEthFrame
  dsimp only
  split <;> simp
@[simp] theorem doEventFrame_mstate (payload : List Byte) (b : Block) : (doEventFrame payload b).sys.mstate = b.sys.mstate := by simp [doEventFrame]
@[simp] theorem chipStep_mstate (b : Block) : (chipStep b).sys.mstate = b.sys.mstate := by simp [chipStep]
@[simp] theorem doExcitationChip_mstate (b : Block) : (doExcitationChip b).sys.mstate = b.sys.mstate := by simp [doExcitationChip]
@[simp] theorem doExternalBark_sinks {o : MState} (earlier : Bool) {b : Block} (h : o.sinks b.sys.mstate) : o.sinks (doExternalBark earlier b).sys.mstate := by
  unfold doExternalBark
  repeat' split
  all_goals simp [h]
@[simp] theorem onFeed_mstate (n : ℕ) (f : Feed → Feed) (b : Block) : (onFeed n f b).sys.mstate = b.sys.mstate := by simp [onFeed]
@[simp] theorem onInput_mstate (i : ℕ) (f : SafeInput → SafeInput) (b : Block) : (onInput i f b).sys.mstate = b.sys.mstate := by simp [onInput]
@[simp] theorem driveOutputs_mstate (b : Block) : (driveOutputs b).sys.mstate = b.sys.mstate := by simp [driveOutputs]
@[simp] theorem onFp_mstate (f : ℕ) (g : FanPump → FanPump) (b : Block) : (onFp f g b).sys.mstate = b.sys.mstate := by simp [onFp]
@[simp] theorem onLv_mstate (k : ℕ) (g : Louvre → Louvre) (b : Block) : (onLv k g b).sys.mstate = b.sys.mstate := by simp [onLv]
@[simp] theorem onMap_mstate (o0 : ℕ) (g : OutMap → OutMap) (b : Block) : (onMap o0 g b).sys.mstate = b.sys.mstate := by simp [onMap]
@[simp] theorem clearOverrides_mstate (b : Block) : (clearOverrides b).sys.mstate = b.sys.mstate := by simp [clearOverrides]
@[simp] theorem followFire_mstate (b : Block) : (followFire b).sys.mstate = b.sys.mstate := by simp [followFire]
@[simp] theorem actInput_sinks {o : MState} (i code : ℕ) {b : Block} (h : o.sinks b.sys.mstate) : o.sinks (actInput i code b).sys.mstate := by
  unfold actInput
  repeat' split
  all_goals simp [h]
@[simp] theorem makeDemand_sinks {o : MState} (i code chan : ℕ) {b : Block} (h : o.sinks b.sys.mstate) : o.sinks (makeDemand i code chan b).sys.mstate := by
  unfold makeDemand
  dsimp only
  repeat' split
  all_goals simp [h]
@[simp] theorem tpDemands_sinks {o : MState} (n : Nat) {b : Block} (h : o.sinks b.sys.mstate) : o.sinks (tpDemands n b).sys.mstate := by
  unfold tpDemands
  refine foldl_sinks (fun b i hb => ?_) _ h
  repeat' split
  all_goals simp [hb]
@[simp] theorem doTpFault_sinks {o : MState} (n : ℕ) {b : Block} (h : o.sinks b.sys.mstate) : o.sinks (doTpFault n b).sys.mstate := by
  unfold doTpFault
  repeat' split
  all_goals simp [h]
@[simp] theorem loseOutputs_sinks {o : MState} {b : Block} (h : o.sinks b.sys.mstate) : o.sinks (loseOutputs b).sys.mstate :=
  foldl_sinks (fun _ _ hb => doTpFault_sinks _ hb) _ (by simpa using h)
@[simp] theorem doFeedAbsent_sinks {o : MState} (n : ℕ) {b : Block} (h : o.sinks b.sys.mstate) : o.sinks (doFeedAbsent n b).sys.mstate := by
  unfold doFeedAbsent
  dsimp only
  repeat' split
  all_goals simp [h]
@[simp] theorem doFeedLow_mstate (n : ℕ) (b : Block) : (doFeedLow n b).sys.mstate = b.sys.mstate := by
  unfold doFeedLow
  split <;> simp
@[simp] theorem doFeedPresent_mstate (n : ℕ) (b : Block) : (doFeedPresent n b).sys.mstate = b.sys.mstate := by simp [doFeedPresent]
@[simp] theorem noteStep_mstate (old : List CellFlt) (b : Block) (c : ℕ) : (noteStep old b c).sys.mstate = b.sys.mstate := by simp [noteStep]
@[simp] theorem onCellFlt_mstate (c : ℕ) (f : CellFlt → CellFlt) (b : Block) : (onCellFlt c f b).sys.mstate = b.sys.mstate := by simp [onCellFlt]
@[simp] theorem refPoint_mstate (k : ℕ) (z : Fx) (anchored : Bool) (b : Block) : (refPoint k z anchored b).sys.mstate = b.sys.mstate := by
  unfold refPoint
  dsimp only
  split <;> simp
@[simp] theorem restObserve_mstate (k : ℕ) (v : Fx) (b : Block) : (restObserve k v b).sys.mstate = b.sys.mstate := by
  unfold restObserve
  split <;> simp
@[simp] theorem wakeObserve_mstate (b : Block) : (wakeObserve b).sys.mstate = b.sys.mstate := by
  refine foldl_mstate _ (fun b k => ?_) _ _
  split
  · split <;> simp
  · rfl
@[simp] theorem trackString_mstate (b : Block) : (trackString b).sys.mstate = b.sys.mstate := by
  unfold trackString
  dsimp only
  split <;> simp
@[simp] theorem stringFigures_mstate (t : Fx) (b : Block) : (stringFigures t b).sys.mstate = b.sys.mstate := by simp [stringFigures]
@[simp] theorem doFilterStep_mstate (b : Block) : (doFilterStep b).sys.mstate = b.sys.mstate := by simp [doFilterStep]
@[simp] theorem clearValid_mstate (k : ℕ) (f : CellFlt → CellFlt) (b : Block) : (clearValid k f b).sys.mstate = b.sys.mstate := by simp [clearValid]
@[simp] theorem doFilterValidLost_mstate (k : ℕ) (b : Block) : (doFilterValidLost k b).sys.mstate = b.sys.mstate := by simp [doFilterValidLost]
@[simp] theorem doFloorCrcCheck_sinks {o : MState} (ok : Bool) {b : Block} (h : o.sinks b.sys.mstate) : o.sinks (doFloorCrcCheck ok b).sys.mstate := by
  unfold doFloorCrcCheck
  dsimp only
  repeat' split
  all_goals simp [h]
@[simp] theorem ruleFltGetConfig_mstate (src : Src) (b blk : Block) : ((ruleFltGetConfig src b).act blk).sys.mstate = blk.sys.mstate := by simp [ruleFltGetConfig]
@[simp] theorem doFltInnov_mstate (k : ℕ) (b : Block) : (doFltInnov k b).sys.mstate = b.sys.mstate := by simp [doFltInnov]
@[simp] theorem resetCell_mstate (k : ℕ) (b : Block) : (resetCell k b).sys.mstate = b.sys.mstate := by
  unfold resetCell
  split <;> simp
@[simp] theorem ruleFltResetCell_mstate (src : Src) (cell : ℕ) (b blk : Block) : ((ruleFltResetCell src cell b).act blk).sys.mstate = blk.sys.mstate := by
  simp [ruleFltResetCell]
@[simp] theorem ruleFltSaveNow_mstate (src : Src) (b blk : Block) : ((ruleFltSaveNow src b).act blk).sys.mstate = blk.sys.mstate := by simp [ruleFltSaveNow]
@[simp] theorem ruleFltSetCap_mstate (src : Src) (cell cap : ℕ) (b blk : Block) : ((ruleFltSetCap src cell cap b).act blk).sys.mstate = blk.sys.mstate := by
  simp [ruleFltSetCap]
@[simp] theorem ruleFltSetConfig_mstate (src : Src) (rateRpt anchDz : ℕ) (capDzMin capGain : ℕ) (sigmaValid tSrc : ℕ) (b blk : Block) :
    ((ruleFltSetConfig src rateRpt anchDz capDzMin capGain sigmaValid tSrc b).act blk).sys.mstate = blk.sys.mstate := by
  simp [ruleFltSetConfig]
@[simp] theorem ruleFltSetSlot_mstate (src : Src) (mask slot : ℕ) (b blk : Block) : ((ruleFltSetSlot src mask slot b).act blk).sys.mstate = blk.sys.mstate := by
  simp [ruleFltSetSlot]
@[simp] theorem ruleFltSlotCommit_mstate (src : Src) (slot : ℕ) (b blk : Block) : ((ruleFltSlotCommit src slot b).act blk).sys.mstate = blk.sys.mstate := by
  simp [ruleFltSlotCommit]
@[simp] theorem ruleFltSlotRead_mstate (src : Src) (slot offset length : ℕ) (b blk : Block) : ((ruleFltSlotRead src slot offset length b).act blk).sys.mstate = blk.sys.mstate := by
  unfold ruleFltSlotRead
  dsimp only
  split <;> simp
@[simp] theorem ruleFltSlotWrite_mstate (src : Src) (slot offset : ℕ) (bytes : List Byte) (b blk : Block) :
    ((ruleFltSlotWrite src slot offset bytes b).act blk).sys.mstate = blk.sys.mstate := by simp [ruleFltSlotWrite]
@[simp] theorem ruleFpSetConfig_mstate (src : Src) (output inv : ℕ) (ppr tachMin : ℕ) (b blk : Block) :
    ((ruleFpSetConfig src output inv ppr tachMin b).act blk).sys.mstate = blk.sys.mstate := by
  simp [ruleFpSetConfig]
@[simp] theorem doFpStall_mstate (f : ℕ) (b : Block) : (doFpStall f b).sys.mstate = b.sys.mstate := by
  unfold doFpStall
  repeat' split
  all_goals simp
@[simp] theorem voltageCross_mstate (b : Block) : (voltageCross b).sys.mstate = b.sys.mstate := by
  unfold voltageCross
  split <;> simp
@[simp] theorem currentCross_mstate (b : Block) : (currentCross b).sys.mstate = b.sys.mstate := by
  unfold currentCross
  split <;> simp
@[simp] theorem segSums_mstate (b : Block) : (segSums b).sys.mstate = b.sys.mstate := by simp [segSums]
@[simp] theorem w0Ended_mstate (b : Block) : (w0Ended b).sys.mstate = b.sys.mstate := by simp [w0Ended]
@[simp] theorem missSnapshot_mstate (b : Block) : (missSnapshot b).sys.mstate = b.sys.mstate := by simp [missSnapshot]
@[simp] theorem doFrameAbort_mstate (b : Block) : (doFrameAbort b).sys.mstate = b.sys.mstate := by simp [doFrameAbort]
@[simp] theorem doFramePortSend_mstate (p : ℕ) (b : Block) : (doFramePortSend p b).sys.mstate = b.sys.mstate := by simp [doFramePortSend]
@[simp] theorem doFullChargeEvent_mstate (k : ℕ) (b : Block) : (doFullChargeEvent k b).sys.mstate = b.sys.mstate := by
  unfold doFullChargeEvent
  dsimp only
  split <;> simp
@[simp] theorem sendPartner_mstate (k type : ℕ) (data : List Byte) (b : Block) : (sendPartner k type data b).sys.mstate = b.sys.mstate := by simp [sendPartner]
@[simp] theorem sendHeartbeat_mstate (k : ℕ) (b : Block) : (sendHeartbeat k b).sys.mstate = b.sys.mstate := by simp [sendHeartbeat]
@[simp] theorem doHbonlyHeartbeat_mstate (k : ℕ) (b : Block) : (doHbonlyHeartbeat k b).sys.mstate = b.sys.mstate := by simp [doHbonlyHeartbeat]
@[simp] theorem rawReply_mstate (ip port : ℕ) (p : List Byte) (st : Status) (b : Block) : (rawReply ip port p st b).sys.mstate = b.sys.mstate := by simp [rawReply]
@[simp] theorem doSysSessionOpen_mstate (ip port : ℕ) (seq timeout mtu : ℕ) (b : Block) : (doSysSessionOpen ip port seq timeout mtu b).sys.mstate = b.sys.mstate := by
  unfold doSysSessionOpen
  repeat' split
  all_goals simp
@[simp] theorem ruleSysSessionClose_mstate (src : Src) (b blk : Block) : ((ruleSysSessionClose src b).act blk).sys.mstate = blk.sys.mstate := by
  simp [ruleSysSessionClose]
@[simp] theorem ruleSysPing_mstate (src : Src) (b blk : Block) : ((ruleSysPing src b).act blk).sys.mstate = blk.sys.mstate := by simp [ruleSysPing]
@[simp] theorem ruleSysTakeOwner_mstate (src : Src) (b blk : Block) : ((ruleSysTakeOwner src b).act blk).sys.mstate = blk.sys.mstate := by
  unfold ruleSysTakeOwner
  dsimp only
  split <;> simp
@[simp] theorem ruleSysReleaseOwner_mstate (src : Src) (target : ℕ) (b blk : Block) : ((ruleSysReleaseOwner src target b).act blk).sys.mstate = blk.sys.mstate := by
  simp [ruleSysReleaseOwner]
@[simp] theorem ruleSysSetMtu_mstate (src : Src) (mtu : ℕ) (b blk : Block) : ((ruleSysSetMtu src mtu b).act blk).sys.mstate = blk.sys.mstate := by simp [ruleSysSetMtu]
@[simp] theorem ruleSysResend_mstate (src : Src) (seq mask : ℕ) (b blk : Block) : ((ruleSysResend src seq mask b).act blk).sys.mstate = blk.sys.mstate := by
  unfold ruleSysResend
  dsimp only
  split <;> simp
@[simp] theorem parkCommand_mstate (src : Option Src) (opcode : ℕ) (b : Block) : (parkCommand src opcode b).sys.mstate = b.sys.mstate := by
  unfold parkCommand
  dsimp only
  split <;> simp
@[simp] theorem ruleSysPark_mstate (src : Src) (b blk : Block) : ((ruleSysPark src b).act blk).sys.mstate = blk.sys.mstate := by simp [ruleSysPark]
@[simp] theorem readReply_mstate (src : Src) (tiles : List ℕ) (bad : List ℕ) (b : Block) : (readReply src tiles bad b).sys.mstate = b.sys.mstate := by simp [readReply]
@[simp] theorem ruleImgRead_mstate (src : Src) (first count reserved : ℕ) (bad : List ℕ) (b blk : Block) :
    ((ruleImgRead src first count reserved bad b).act blk).sys.mstate = blk.sys.mstate := by
  simp [ruleImgRead]
@[simp] theorem ruleImgReadList_mstate (src : Src) (tiles : List ℕ) (reserved : ℕ) (bad : List ℕ) (b blk : Block) :
    ((ruleImgReadList src tiles reserved bad b).act blk).sys.mstate = blk.sys.mstate := by
  simp [ruleImgReadList]
@[simp] theorem ruleSenseSetRate_mstate (src : Src) (code : ℕ) (b blk : Block) : ((ruleSenseSetRate src code b).act blk).sys.mstate = blk.sys.mstate := by
  simp [ruleSenseSetRate]
@[simp] theorem ruleSenseSetWindow_mstate (src : Src) (window mode nReq : ℕ) (b blk : Block) : ((ruleSenseSetWindow src window mode nReq b).act blk).sys.mstate = blk.sys.mstate := by
  simp [ruleSenseSetWindow]
@[simp] theorem ruleSenseSetShutter_mstate (src : Src) (mask mode : ℕ) (b blk : Block) : ((ruleSenseSetShutter src mask mode b).act blk).sys.mstate = blk.sys.mstate := by
  simp [ruleSenseSetShutter]
@[simp] theorem ruleSenseRefCheck_mstate (src : Src) (mask : ℕ) (b blk : Block) : ((ruleSenseRefCheck src mask b).act blk).sys.mstate = blk.sys.mstate := by
  simp [ruleSenseRefCheck]
@[simp] theorem ruleSenseRelearn_mstate (src : Src) (mask : ℕ) (b blk : Block) : ((ruleSenseRelearn src mask b).act blk).sys.mstate = blk.sys.mstate := by
  simp [ruleSenseRelearn]
@[simp] theorem onCell_mstate (c : ℕ) (f : CellSense → CellSense) (b : Block) : (onCell c f b).sys.mstate = b.sys.mstate := by simp [onCell]
@[simp] theorem ruleSenseSetThMap_mstate (src : Src) (cell therm : ℕ) (b blk : Block) : ((ruleSenseSetThMap src cell therm b).act blk).sys.mstate = blk.sys.mstate := by
  simp [ruleSenseSetThMap]
@[simp] theorem ruleSenseSetThCurve_mstate (src : Src) (mask curve : ℕ) (b blk : Block) : ((ruleSenseSetThCurve src mask curve b).act blk).sys.mstate = blk.sys.mstate := by
  simp [ruleSenseSetThCurve]
@[simp] theorem ruleSenseSetShunt_mstate (src : Src) (rsh : ℕ) (b blk : Block) : ((ruleSenseSetShunt src rsh b).act blk).sys.mstate = blk.sys.mstate := by
  simp [ruleSenseSetShunt]
@[simp] theorem ruleSenseGetConfig_mstate (src : Src) (b blk : Block) : ((ruleSenseGetConfig src b).act blk).sys.mstate = blk.sys.mstate := by simp [ruleSenseGetConfig]
@[simp] theorem sendDown_mstate (kind : DownKind) (carries : Option Src) (b : Block) : (sendDown kind carries b).sys.mstate = b.sys.mstate := by simp [sendDown]
@[simp] theorem ruleIntegSetLeashMode_mstate (src : Src) (mode ms : ℕ) (b blk : Block) : ((ruleIntegSetLeashMode src mode ms b).act blk).sys.mstate = blk.sys.mstate := by
  simp [ruleIntegSetLeashMode]
@[simp] theorem ruleIntegTestWire_mstate (src : Src) (wire : ℕ) (b blk : Block) : ((ruleIntegTestWire src wire b).act blk).sys.mstate = blk.sys.mstate := by
  simp [ruleIntegTestWire]
@[simp] theorem ruleIntegClearOpen_mstate (src : Src) (wire : ℕ) (b blk : Block) : ((ruleIntegClearOpen src wire b).act blk).sys.mstate = blk.sys.mstate := by
  simp [ruleIntegClearOpen]
@[simp] theorem ruleIntegSetBarkPullup_mstate (src : Src) (on : ℕ) (b blk : Block) : ((ruleIntegSetBarkPullup src on b).act blk).sys.mstate = blk.sys.mstate := by
  simp [ruleIntegSetBarkPullup]
@[simp] theorem ruleImpSetFreqs_mstate (src : Src) (reqs : List ℕ) (b blk : Block) : ((ruleImpSetFreqs src reqs b).act blk).sys.mstate = blk.sys.mstate := by
  simp [ruleImpSetFreqs]
@[simp] theorem ruleImpSetExcitation_mstate (src : Src) (amp nPer nSet : ℕ) (b blk : Block) : ((ruleImpSetExcitation src amp nPer nSet b).act blk).sys.mstate = blk.sys.mstate := by
  simp [ruleImpSetExcitation]
@[simp] theorem queueJob_mstate (b : Block) : (queueJob b).sys.mstate = b.sys.mstate := by simp [queueJob]
@[simp] theorem ruleImpStart_mstate (src : Src) (b blk : Block) : ((ruleImpStart src b).act blk).sys.mstate = blk.sys.mstate := by simp [ruleImpStart]
@[simp] theorem abortWaiting_mstate (b : Block) : (abortWaiting b).sys.mstate = b.sys.mstate := by simp [abortWaiting]
@[simp] theorem finishDisable_mstate (b : Block) : (finishDisable b).sys.mstate = b.sys.mstate := by
  have hd := doBandResultsWritten_mstate b
  unfold finishDisable
  extract_lets b0 r r1 b1 b2
  have h1 : b1.sys.mstate = b.sys.mstate := by
    simp only [b1]
    split
    · refine mstate_ite ?_ hd
      rw [endJob_sys]
      exact mstate_ite ((writeBand_mstate ..).trans hd) hd
    · rfl
  have h2 : b2.sys.mstate = b1.sys.mstate := by rw [Block.onImp_sys, abortWaiting_mstate]
  rw [Block.touch_sys]
  split
  · rw [complete_sys, h2, h1]
  · rw [h2, h1]
@[simp] theorem ruleImpEnable_mstate (src : Src) (en : Nat) (b blk : Block) : ((ruleImpEnable src en b).act blk).sys.mstate = blk.sys.mstate := by
  unfold ruleImpEnable
  dsimp only
  split
  · simp
  · split
    · simp
    · rw [finishDisable_mstate, settingChanged_sys, Block.onImp_sys]
@[simp] theorem ruleImpSetSchedule_mstate (src : Src) (interval : ℕ) (b blk : Block) : ((ruleImpSetSchedule src interval b).act blk).sys.mstate = blk.sys.mstate := by
  simp [ruleImpSetSchedule]
@[simp] theorem ruleImpZtWrite_mstate (src : Src) (slot : ℕ) (rec : List Byte) (b blk : Block) : ((ruleImpZtWrite src slot rec b).act blk).sys.mstate = blk.sys.mstate := by
  simp [ruleImpZtWrite]
@[simp] theorem ruleImpSetBaseline_mstate (src : Src) (mask : Nat) (b blk : Block) : ((ruleImpSetBaseline src mask b).act blk).sys.mstate = blk.sys.mstate := by
  have hc : (captureBase mask blk).1.sys.mstate = blk.sys.mstate := rfl
  simp [ruleImpSetBaseline, hc]
@[simp] theorem ruleImpSetHealth_mstate (src : Src) (hslot growWarn outWarn : ℕ) (b blk : Block) : ((ruleImpSetHealth src hslot growWarn outWarn b).act blk).sys.mstate = blk.sys.mstate := by
  simp [ruleImpSetHealth]
@[simp] theorem ruleImpGetBaseline_mstate (src : Src) (cell : ℕ) (b blk : Block) : ((ruleImpGetBaseline src cell b).act blk).sys.mstate = blk.sys.mstate := by
  simp [ruleImpGetBaseline]
@[simp] theorem ruleImpGetConfig_mstate (src : Src) (b blk : Block) : ((ruleImpGetConfig src b).act blk).sys.mstate = blk.sys.mstate := by simp [ruleImpGetConfig]
@[simp] theorem ruleLoopSetMode_mstate (src : Src) (lmode ffEn : ℕ) (b blk : Block) : ((ruleLoopSetMode src lmode ffEn b).act blk).sys.mstate = blk.sys.mstate := by
  simp [ruleLoopSetMode]
@[simp] theorem ruleLoopSetSource_mstate (src : Src) (source fbSrc lossAct : ℕ) (b blk : Block) : ((ruleLoopSetSource src source fbSrc lossAct b).act blk).sys.mstate = blk.sys.mstate := by
  simp [ruleLoopSetSource]
@[simp] theorem returnSource_mstate (i : ℕ) (b : Block) : (returnSource i b).sys.mstate = b.sys.mstate := by simp [returnSource]
@[simp] theorem ruleLoopSetpoint_mstate (src : Src) (value : ℤ) (b blk : Block) : ((ruleLoopSetpoint src value b).act blk).sys.mstate = blk.sys.mstate := by
  simp [ruleLoopSetpoint]
@[simp] theorem ruleLoopSetScale_mstate (src : Src) (pmax imax : ℕ) (vdcMid vdcSpan : ℤ) (spRamp manRamp : ℕ) (b blk : Block) :
    ((ruleLoopSetScale src pmax imax vdcMid vdcSpan spRamp manRamp b).act blk).sys.mstate = blk.sys.mstate := by
  simp [ruleLoopSetScale]
@[simp] theorem ruleLoopSetGains_mstate (src : Src) (mode kp ki : ℕ) (b blk : Block) : ((ruleLoopSetGains src mode kp ki b).act blk).sys.mstate = blk.sys.mstate := by
  simp [ruleLoopSetGains]
@[simp] theorem ruleLoopSetTiming_mstate (src : Src) (spTimeout spReturn : ℕ) (schedHold ainDb : ℕ) (b blk : Block) :
    ((ruleLoopSetTiming src spTimeout spReturn schedHold ainDb b).act blk).sys.mstate = blk.sys.mstate := by
  simp [ruleLoopSetTiming]
@[simp] theorem ruleLoopManual_mstate (src : Src) (am : ℕ) (iref : ℤ) (b blk : Block) : ((ruleLoopManual src am iref b).act blk).sys.mstate = blk.sys.mstate := by
  simp [ruleLoopManual]
@[simp] theorem ruleLoopSchedWrite_mstate (src : Src) (first count : ℕ) (entries : List Byte) (b blk : Block) :
    ((ruleLoopSchedWrite src first count entries b).act blk).sys.mstate = blk.sys.mstate := by
  simp [ruleLoopSchedWrite]
@[simp] theorem ruleLoopSchedCommit_mstate (src : Src) (count : Nat) (b blk : Block) : ((ruleLoopSchedCommit src count b).act blk).sys.mstate = blk.sys.mstate := by
  unfold ruleLoopSchedCommit
  dsimp only
  split
  · simp
  · rw [Block.touch_sys, complete_sys, note_sys, Block.onLoop_sys]
@[simp] theorem ruleThmSetConfig_mstate (src : Src) (tSel thIdx : ℕ) (tSet : ℤ) (kpT kiT : ℕ) (fsDemand hibDemand : ℕ) (b blk : Block) :
    ((ruleThmSetConfig src tSel thIdx tSet kpT kiT fsDemand hibDemand b).act blk).sys.mstate = blk.sys.mstate := by
  simp [ruleThmSetConfig]
@[simp] theorem ruleThmSetMap_mstate (src : Src) (output dStart : ℕ) (dFull outOff : ℕ) (outMin outMax fire : ℕ) (b blk : Block) :
    ((ruleThmSetMap src output dStart dFull outOff outMin outMax fire b).act blk).sys.mstate = blk.sys.mstate := by
  simp [ruleThmSetMap]
@[simp] theorem setOverride_mstate (output set : ℕ) (value time : ℕ) (b : Block) : (setOverride output set value time b).sys.mstate = b.sys.mstate := by
  simp [setOverride]
@[simp] theorem ruleThmOverride_mstate (src : Src) (output set : ℕ) (value time : ℕ) (b blk : Block) :
    ((ruleThmOverride src output set value time b).act blk).sys.mstate = blk.sys.mstate := by
  simp [ruleThmOverride]
@[simp] theorem ruleLvSetConfig_mstate (src : Src) (louvre : ℕ) (fbLo fbHi : ℤ) (kp ki : ℕ) (db umax : ℕ) (b blk : Block) :
    ((ruleLvSetConfig src louvre fbLo fbHi kp ki db umax b).act blk).sys.mstate = blk.sys.mstate := by
  simp [ruleLvSetConfig]
@[simp] theorem ruleLvFrictionWrite_mstate (src : Src) (louvre : ℕ) (table : List ℕ) (b blk : Block) : ((ruleLvFrictionWrite src louvre table b).act blk).sys.mstate = blk.sys.mstate := by
  simp [ruleLvFrictionWrite]
@[simp] theorem closeLearn_mstate (b : Block) : (closeLearn b).sys.mstate = b.sys.mstate := by
  unfold closeLearn
  split <;> simp
@[simp] theorem ruleLvLearn_mstate (src : Src) (mask : ℕ) (b blk : Block) : ((ruleLvLearn src mask b).act blk).sys.mstate = blk.sys.mstate := by simp [ruleLvLearn]
@[simp] theorem ruleLoopGetConfig_mstate (src : Src) (b blk : Block) : ((ruleLoopGetConfig src b).act blk).sys.mstate = blk.sys.mstate := by simp [ruleLoopGetConfig]
@[simp] theorem startClose_mstate (src : Src) (b : Block) : (startClose src b).sys.mstate = b.sys.mstate := by simp [startClose]
@[simp] theorem startOpen_mstate (src : Src) (b : Block) : (startOpen src b).sys.mstate = b.sys.mstate := by simp [startOpen]
@[simp] theorem ruleSafeContactors_mstate (src : Src) (act : ℕ) (b blk : Block) : ((ruleSafeContactors src act b).act blk).sys.mstate = blk.sys.mstate := by
  simp [ruleSafeContactors]
@[simp] theorem ruleSafeSetPrecharge_mstate (src : Src) (preI preTmax : ℕ) (b blk : Block) : ((ruleSafeSetPrecharge src preI preTmax b).act blk).sys.mstate = blk.sys.mstate := by
  simp [ruleSafeSetPrecharge]
@[simp] theorem ruleSafeGetNonce_mstate (src : Src) (b blk : Block) : ((ruleSafeGetNonce src b).act blk).sys.mstate = blk.sys.mstate := by simp [ruleSafeGetNonce]
@[simp] theorem appendChange_mstate (src kind detail : ℕ) (b : Block) : (appendChange src kind detail b).sys.mstate = b.sys.mstate := by simp [appendChange]
@[simp] theorem authFailed_mstate (src : Src) (b : Block) : (authFailed src b).sys.mstate = b.sys.mstate := by simp [authFailed]
@[simp] theorem ruleSafeAuth_mstate (src : Src) (mac : List Byte) (b blk : Block) : ((ruleSafeAuth src mac b).act blk).sys.mstate = blk.sys.mstate := by
  unfold ruleSafeAuth
  dsimp only
  repeat' split
  all_goals simp
@[simp] theorem ruleSafeSetPassword_mstate (src : Src) (chars : List Byte) (b blk : Block) : ((ruleSafeSetPassword src chars b).act blk).sys.mstate = blk.sys.mstate := by
  simp [ruleSafeSetPassword]
@[simp] theorem reloadInputs_mstate (b : Block) : (reloadInputs b).sys.mstate = b.sys.mstate := by simp [reloadInputs]
@[simp] theorem reloadFloor_mstate (b : Block) : (reloadFloor b).sys.mstate = b.sys.mstate := by simp [reloadFloor]
@[simp] theorem storeFloor_mstate (r : List Byte) (ok : Bool) (b : Block) : (storeFloor r ok b).sys.mstate = b.sys.mstate := by simp [storeFloor]
@[simp] theorem commitFloor_mstate (src : Src) (r : List Byte) (how : FloorOutcome) (b : Block) : (commitFloor src r how b).sys.mstate = b.sys.mstate := by
  unfold commitFloor
  split <;> simp
@[simp] theorem ruleSafeFloorWrite_mstate (src : Src) (record : List Byte) (how : FloorOutcome) (b blk : Block) :
    ((ruleSafeFloorWrite src record how b).act blk).sys.mstate = blk.sys.mstate := by
  unfold ruleSafeFloorWrite
  dsimp only
  repeat' split
  all_goals simp
@[simp] theorem ruleSafeFloorRead_mstate (src : Src) (b blk : Block) : ((ruleSafeFloorRead src b).act blk).sys.mstate = blk.sys.mstate := by simp [ruleSafeFloorRead]
@[simp] theorem ruleSafeLogRead_mstate (src : Src) (first count : ℕ) (b blk : Block) : ((ruleSafeLogRead src first count b).act blk).sys.mstate = blk.sys.mstate := by
  simp [ruleSafeLogRead]
theorem endProof_mstate (compPass : Nat) (b : Block) : (endProof compPass b).1.sys.mstate = b.sys.mstate := by simp [endProof]
@[simp] theorem beginProof_sinks {o : MState} (comparators : Bool) (src : Src) {b : Block} (h : o.sinks b.sys.mstate) : o.sinks (beginProof comparators src b).sys.mstate := by
  unfold beginProof
  split <;> simp [h]
@[simp] theorem ruleNetSetIp_mstate (src : Src) (x1 : IpSet) (b blk : Block) : ((ruleNetSetIp src x1 b).act blk).sys.mstate = blk.sys.mstate := by simp [ruleNetSetIp]
@[simp] theorem ruleNetSetPtp_mstate (src : Src) (x1 : PtpSet) (b blk : Block) : ((ruleNetSetPtp src x1 b).act blk).sys.mstate = blk.sys.mstate := by simp [ruleNetSetPtp]
@[simp] theorem judgeGm_mstate (b : Block) : (judgeGm b).sys.mstate = b.sys.mstate := by simp [judgeGm]
@[simp] theorem ptpStep_mstate (d : ℤ) (b : Block) : (ptpStep d b).sys.mstate = b.sys.mstate := by simp [ptpStep]
@[simp] theorem ruleNetSetTime_mstate (src : Src) (sec ns : ℕ) (utc : ℤ) (b blk : Block) : ((ruleNetSetTime src sec ns utc b).act blk).sys.mstate = blk.sys.mstate := by
  simp [ruleNetSetTime]
@[simp] theorem ruleNetGetPartners_mstate (src : Src) (first count : ℕ) (b blk : Block) : ((ruleNetGetPartners src first count b).act blk).sys.mstate = blk.sys.mstate := by
  simp [ruleNetGetPartners]
@[simp] theorem ruleNetGetConfig_mstate (src : Src) (b blk : Block) : ((ruleNetGetConfig src b).act blk).sys.mstate = blk.sys.mstate := by simp [ruleNetGetConfig]
@[simp] theorem putCopy_mstate (slot : ℕ) (zero : Bool) (c : Option SetCopy) (b : Block) : (putCopy slot zero c b).sys.mstate = b.sys.mstate := by simp [putCopy]
@[simp] theorem ruleUpdBegin_mstate (src : Src) (length bcrc : ℕ) (b blk : Block) : ((ruleUpdBegin src length bcrc b).act blk).sys.mstate = blk.sys.mstate := by
  simp [ruleUpdBegin]
@[simp] theorem programBlock_mstate (src : Src) (off : ℕ) (data : List Byte) (ok : Bool) (b : Block) : (programBlock src off data ok b).sys.mstate = b.sys.mstate := by
  simp [programBlock]
@[simp] theorem ruleUpdBlock_mstate (src : Src) (off : ℕ) (data : List Byte) (ok : Bool) (b blk : Block) : ((ruleUpdBlock src off data ok b).act blk).sys.mstate = blk.sys.mstate := by
  simp [ruleUpdBlock]
@[simp] theorem ruleUpdVerify_mstate (src : Src) (b blk : Block) : ((ruleUpdVerify src b).act blk).sys.mstate = blk.sys.mstate := by simp [ruleUpdVerify]
@[simp] theorem ruleUpdActivate_mstate (src : Src) (b blk : Block) : ((ruleUpdActivate src b).act blk).sys.mstate = blk.sys.mstate := by simp [ruleUpdActivate]
@[simp] theorem writeStore_mstate (f : KeyStore → KeyStore) (b : Block) : (writeStore f b).sys.mstate = b.sys.mstate := by simp [writeStore]
@[simp] theorem raiseMinima_mstate (b : Block) : (raiseMinima b).sys.mstate = b.sys.mstate := by simp [raiseMinima]
@[simp] theorem ruleUpdConfirm_mstate (src : Src) (b blk : Block) : ((ruleUpdConfirm src b).act blk).sys.mstate = blk.sys.mstate := by simp [ruleUpdConfirm]
@[simp] theorem revertTrial_mstate (b : Block) : (revertTrial b).sys.mstate = b.sys.mstate := by simp [revertTrial]
@[simp] theorem ruleUpdAbort_mstate (src : Src) (b blk : Block) : ((ruleUpdAbort src b).act blk).sys.mstate = blk.sys.mstate := by
  unfold ruleUpdAbort
  dsimp only
  repeat' split
  all_goals simp
@[simp] theorem ruleUpdGetStatus_mstate (src : Src) (b blk : Block) : ((ruleUpdGetStatus src b).act blk).sys.mstate = blk.sys.mstate := by simp [ruleUpdGetStatus]
@[simp] theorem ruleLogReadFast_mstate (src : Src) (first count : ℕ) (sev reserved : ℕ) (b blk : Block) :
    ((ruleLogReadFast src first count sev reserved b).act blk).sys.mstate = blk.sys.mstate := by
  simp [ruleLogReadFast]
@[simp] theorem ruleLogReadKeep_mstate (src : Src) (first count : ℕ) (sev area reserved : ℕ) (b blk : Block) :
    ((ruleLogReadKeep src first count sev area reserved b).act blk).sys.mstate = blk.sys.mstate := by
  simp [ruleLogReadKeep]
@[simp] theorem ruleLogGetPointers_mstate (src : Src) (b blk : Block) : ((ruleLogGetPointers src b).act blk).sys.mstate = blk.sys.mstate := by simp [ruleLogGetPointers]
@[simp] theorem ruleLogWriteNote_mstate (src : Src) (sev : ℕ) (text : List Byte) (b blk : Block) : ((ruleLogWriteNote src sev text b).act blk).sys.mstate = blk.sys.mstate := by
  simp [ruleLogWriteNote]
@[simp] theorem ruleSecGetDebug_mstate (src : Src) (b blk : Block) : ((ruleSecGetDebug src b).act blk).sys.mstate = blk.sys.mstate := by simp [ruleSecGetDebug]
@[simp] theorem ruleSecDebugChallenge_mstate (src : Src) (state : ℕ) (b blk : Block) : ((ruleSecDebugChallenge src state b).act blk).sys.mstate = blk.sys.mstate := by
  simp [ruleSecDebugChallenge]
@[simp] theorem openDebug_sinks {o : MState} (src : Src) (state minutes signer : ℕ) (key : List Byte) (sig : List Byte) {b : Block} (h : o.sinks b.sys.mstate) :
    o.sinks (openDebug src state minutes signer key sig b).sys.mstate := by
  unfold openDebug
  dsimp only
  repeat' split
  all_goals simp [h]
@[simp] theorem ruleSecKeyEnroll_mstate (src : Src) (slot : ℕ) (key : List Byte) (signer : ℕ) (sig : List Byte) (b blk : Block) :
    ((ruleSecKeyEnroll src slot key signer sig b).act blk).sys.mstate = blk.sys.mstate := by
  simp [ruleSecKeyEnroll]
@[simp] theorem ruleSecKeyRevoke_mstate (src : Src) (slot signer : ℕ) (sig : List Byte) (b blk : Block) : ((ruleSecKeyRevoke src slot signer sig b).act blk).sys.mstate = blk.sys.mstate := by
  simp [ruleSecKeyRevoke]
@[simp] theorem ruleSecKeyList_mstate (src : Src) (b blk : Block) : ((ruleSecKeyList src b).act blk).sys.mstate = blk.sys.mstate := by simp [ruleSecKeyList]
@[simp] theorem writeWord_mstate (secured : Bool) (b : Block) : (writeWord secured b).sys.mstate = b.sys.mstate := by simp [writeWord]
@[simp] theorem aheadOfQueue_mstate (code : ℕ) (b : Block) : (aheadOfQueue code b).sys.mstate = b.sys.mstate := by simp [aheadOfQueue]
@[simp] theorem losePower_sinks {o : MState} {b : Block} (h : o.sinks b.sys.mstate) : o.sinks (losePower b).sys.mstate := by simp [losePower, h]
@[simp] theorem joinPhase_mstate (k : ℕ) (b : Block) : (joinPhase k b).sys.mstate = b.sys.mstate := by
  unfold joinPhase
  split <;> simp
@[simp] theorem admitPhases_mstate (b : Block) : (admitPhases b).sys.mstate = b.sys.mstate := by simp [admitPhases]
@[simp] theorem closeHold_mstate (b : Block) : (closeHold b).sys.mstate = b.sys.mstate := by
  unfold closeHold
  split <;> simp
@[simp] theorem movePolicy_mstate (p : ℕ) (b : Block) : (movePolicy p b).sys.mstate = b.sys.mstate := by simp [movePolicy]
@[simp] theorem finishActivation_mstate (b : Block) : (finishActivation b).sys.mstate = b.sys.mstate := by
  unfold finishActivation
  split <;> simp
@[simp] theorem doHoldupTest_mstate (present full : ℕ) (b : Block) : (doHoldupTest present full b).sys.mstate = b.sys.mstate := by simp [doHoldupTest]
@[simp] theorem doHubCommandFrame_mstate (tag : ℕ) (b : Block) : (doHubCommandFrame tag b).sys.mstate = b.sys.mstate := by
  unfold doHubCommandFrame
  split <;> simp
@[simp] theorem doHubStringStart_mstate (b : Block) : (doHubStringStart b).sys.mstate = b.sys.mstate := by simp [doHubStringStart]
@[simp] theorem dropPhase_sinks {o : MState} (k : ℕ) (st : PhState) {b : Block} (h : o.sinks b.sys.mstate) : o.sinks (dropPhase k st b).sys.mstate := by
  simp [dropPhase, h]
@[simp] theorem doIdent_sinks {o : MState} (k seq : Nat) (g : GduIdent) {b : Block} (h : o.sinks b.sys.mstate) : o.sinks (doIdent k seq g b).sys.mstate := by
  unfold doIdent
  extract_lets p b1 old b2
  have h1 : o.sinks b1.sys.mstate := h
  have h2 : o.sinks b2.sys.mstate := h
  split
  · exact h
  · split
    · split
      · exact h1
      · simpa using h1
    · exact h1
    · split
      · split
        · exact h1
        · exact dropPhase_sinks _ _ (by simpa using h1)
      · split
        · exact phaseOut_sinks _ _ h2
        · exact h2
@[simp] theorem handPoints_mstate (r : BandDone) (b : Block) : (handPoints r b).sys.mstate = b.sys.mstate := by simp [handPoints]
@[simp] theorem retunePhase_mstate (job : ℕ) (freqs : List Fx) (k : ℕ) (b : Block) : (retunePhase job freqs k b).sys.mstate = b.sys.mstate := by simp [retunePhase]
@[simp] theorem retune_mstate (job : ℕ) (freqs : List Fx) (b : Block) : (retune job freqs b).sys.mstate = b.sys.mstate := by simp [retune]
@[simp] theorem doIdentHandover_mstate (b : Block) : (doIdentHandover b).sys.mstate = b.sys.mstate := by
  unfold doIdentHandover
  split <;> simp
@[simp] theorem doImgHoldLong_mstate (b : Block) : (doImgHoldLong b).sys.mstate = b.sys.mstate := by
  unfold doImgHoldLong
  split <;> simp
@[simp] theorem doImgTileStuck_mstate (t : ℕ) (b : Block) : (doImgTileStuck t b).sys.mstate = b.sys.mstate := by
  unfold doImgTileStuck
  repeat' split
  all_goals simp
@[simp] theorem doImpDisableDone_mstate (b : Block) : (doImpDisableDone b).sys.mstate = b.sys.mstate := by simp [doImpDisableDone]
@[simp] theorem beginBand_mstate (t : ℕ) (b : Block) : (beginBand t b).sys.mstate = b.sys.mstate := by
  unfold beginBand
  split <;> simp
@[simp] theorem doImpJobBegin_mstate (b : Block) : (doImpJobBegin b).sys.mstate = b.sys.mstate := by
  unfold doImpJobBegin
  dsimp only
  repeat' split
  all_goals simp
@[simp] theorem doImpPeriodicDue_mstate (b : Block) : (doImpPeriodicDue b).sys.mstate = b.sys.mstate := by
  unfold doImpPeriodicDue
  split <;> simp
@[simp] theorem doImpedanceBandEnd_mstate (b : Block) : (doImpedanceBandEnd b).sys.mstate = b.sys.mstate := by
  unfold doImpedanceBandEnd
  dsimp only
  repeat' split
  all_goals simp
@[simp] theorem doImpedancePeriodEnd_mstate (b : Block) : (doImpedancePeriodEnd b).sys.mstate = b.sys.mstate := by simp [doImpedancePeriodEnd]
@[simp] theorem doInterruptWake_mstate (p : ℕ) (b : Block) : (doInterruptWake p b).sys.mstate = b.sys.mstate := by simp [doInterruptWake]
@[simp] theorem setPorts_mstate (st : ℕ → PtpState) (b : Block) : (setPorts st b).sys.mstate = b.sys.mstate := by simp [setPorts]
@[simp] theorem setGm_mstate (a : Announce) (b : Block) : (setGm a b).sys.mstate = b.sys.mstate := by simp [setGm]
@[simp] theorem selectMaster_mstate (fresh alone : Bool) (b : Block) : (selectMaster fresh alone b).sys.mstate = b.sys.mstate := by
  unfold selectMaster
  split <;> simp
@[simp] theorem doIpChangeEffect_mstate (b : Block) : (doIpChangeEffect b).sys.mstate = b.sys.mstate := by
  unfold doIpChangeEffect
  split <;> simp
@[simp] theorem doIsoAlternation_mstate (vPos vNeg : ℤ) (r : ℕ) (b : Block) : (doIsoAlternation vPos vNeg r b).sys.mstate = b.sys.mstate := by
  unfold doIsoAlternation
  dsimp only
  repeat' split
  all_goals simp
@[simp] theorem doJoinComplete_mstate (k : ℕ) (b : Block) : (doJoinComplete k b).sys.mstate = b.sys.mstate := by
  unfold doJoinComplete
  split <;> simp
@[simp] theorem watchReserve_mstate (b : Block) : (watchReserve b).sys.mstate = b.sys.mstate := by simp [watchReserve]
@[simp] theorem doKeepWrite_mstate (fails : ℕ) (b : Block) : (doKeepWrite fails b).sys.mstate = b.sys.mstate := by
  unfold doKeepWrite
  repeat' split
  all_goals simp
@[simp] theorem doKennelCheckpoint_mstate (ok : Bool) (b : Block) : (doKennelCheckpoint ok b).sys.mstate = b.sys.mstate := by simp [doKennelCheckpoint]
@[simp] theorem lanLeave_mstate (c : ℕ) (b : Block) : (lanLeave c b).sys.mstate = b.sys.mstate := by
  unfold lanLeave
  split <;> simp
@[simp] theorem doLanLinkLost_mstate (c count : ℕ) (b : Block) : (doLanLinkLost c count b).sys.mstate = b.sys.mstate := by simp [doLanLinkLost]
@[simp] theorem doLanRctTimeout_mstate (c : ℕ) (b : Block) : (doLanRctTimeout c b).sys.mstate = b.sys.mstate := by
  unfold doLanRctTimeout
  repeat' split
  all_goals simp
@[simp] theorem doLanReturn_mstate (c count : ℕ) (b : Block) : (doLanReturn c count b).sys.mstate = b.sys.mstate := by
  unfold doLanReturn
  split <;> simp
@[simp] theorem onLane_mstate (k : ℕ) (f : Lane → Lane) (b : Block) : (onLane k f b).sys.mstate = b.sys.mstate := by simp [onLane]
@[simp] theorem doLaneHoldExpiry_mstate (k : ℕ) (b : Block) : (doLaneHoldExpiry k b).sys.mstate = b.sys.mstate := by
  unfold doLaneHoldExpiry
  split <;> simp
@[simp] theorem laneDown_mstate (k : ℕ) (b : Block) : (laneDown k b).sys.mstate = b.sys.mstate := by
  unfold laneDown
  dsimp only
  repeat' split
  all_goals simp
@[simp] theorem doLaneSyncTimeout_mstate (k : ℕ) (b : Block) : (doLaneSyncTimeout k b).sys.mstate = b.sys.mstate := by simp [doLaneSyncTimeout]
@[simp] theorem leashBack_mstate (b : Block) : (leashBack b).sys.mstate = b.sys.mstate := by simp [leashBack]
@[simp] theorem doLaneTrained_mstate (k : ℕ) (b : Block) : (doLaneTrained k b).sys.mstate = b.sys.mstate := by simp [doLaneTrained]
@[simp] theorem doLatPowerUp_mstate (b : Block) : (doLatPowerUp b).sys.mstate = b.sys.mstate := by simp [doLatPowerUp]
@[simp] theorem doLatSupplyFall_sinks {o : MState} {b : Block} (h : o.sinks b.sys.mstate) : o.sinks (doLatSupplyFall b).sys.mstate := by
  unfold doLatSupplyFall
  repeat' split
  all_goals simp [h]
@[simp] theorem doLatchChallenge_sinks {o : MState} (answered : Bool) {b : Block} (h : o.sinks b.sys.mstate) : o.sinks (doLatchChallenge answered b).sys.mstate := by
  unfold doLatchChallenge
  dsimp only
  repeat' split
  all_goals simp [h]
@[simp] theorem doLatchDisagree_sinks {o : MState} {b : Block} (h : o.sinks b.sys.mstate) : o.sinks (doLatchDisagree b).sys.mstate := by
  unfold doLatchDisagree
  split <;> simp [h]
@[simp] theorem doLatchSelfcheck_sinks {o : MState} (pass : Bool) {b : Block} (h : o.sinks b.sys.mstate) : o.sinks (doLatchSelfcheck pass b).sys.mstate := by
  unfold doLatchSelfcheck
  dsimp only
  split
  · exact h
  · split
    · simpa using h
    · exact lockout_sinks _ (by simpa using h)
@[simp] theorem doLdownSet_mstate (k : ℕ) (crcOk : Bool) (b : Block) : (doLdownSet k crcOk b).sys.mstate = b.sys.mstate := by simp [doLdownSet]
@[simp] theorem doLeadDoubleFault_mstate (b : Block) : (doLeadDoubleFault b).sys.mstate = b.sys.mstate := by simp [doLeadDoubleFault]
@[simp] theorem doLeadHandback_mstate (b : Block) : (doLeadHandback b).sys.mstate = b.sys.mstate := by
  unfold doLeadHandback
  split <;> simp
@[simp] theorem resumeTime_mstate (b : Block) : (resumeTime b).sys.mstate = b.sys.mstate := by simp [resumeTime]
@[simp] theorem scanKeep_mstate (b : Block) : (scanKeep b).sys.mstate = b.sys.mstate := by simp [scanKeep]
@[simp] theorem releaseLead_mstate (slot : ℕ) (alt : Bool) (b : Block) : (releaseLead slot alt b).sys.mstate = b.sys.mstate := by
  unfold releaseLead
  dsimp only
  repeat' split
  all_goals simp
@[simp] theorem doLeadRelease_mstate (b : Block) : (doLeadRelease b).sys.mstate = b.sys.mstate := by simp [doLeadRelease]
@[simp] theorem doLeadSelftestFail_mstate (b : Block) : (doLeadSelftestFail b).sys.mstate = b.sys.mstate := by simp [doLeadSelftestFail]
@[simp] theorem doLeadWatchdog_mstate (b : Block) : (doLeadWatchdog b).sys.mstate = b.sys.mstate := by simp [doLeadWatchdog]
@[simp] theorem doLeashFrameTimeout_mstate (tag : ℕ) (b : Block) : (doLeashFrameTimeout tag b).sys.mstate = b.sys.mstate := by
  unfold doLeashFrameTimeout
  repeat' split
  all_goals simp
@[simp] theorem doLeashLossSsi_sinks {o : MState} {b : Block} (h : o.sinks b.sys.mstate) : o.sinks (doLeashLossSsi b).sys.mstate := by
  unfold doLeashLossSsi
  split
  · split
    · exact h
    · exact demandSSI_sinks _ _ (by simpa using h)
  · exact h
@[simp] theorem doLeashLost_sinks {o : MState} {b : Block} (h : o.sinks b.sys.mstate) : o.sinks (doLeashLost b).sys.mstate := by
  unfold doLeashLost
  dsimp only
  split
  · exact h
  · simpa using raise_sinks .leashLost noArg [] (by simpa using h)
@[simp] theorem doLeashSilent_mstate (b : Block) : (doLeashSilent b).sys.mstate = b.sys.mstate := by simp [doLeashSilent]
@[simp] theorem nameTrips_mstate (n : ℕ) (b : Block) : (nameTrips n b).sys.mstate = b.sys.mstate := by simp [nameTrips]
@[simp] theorem doLeashTrip_sinks {o : MState} (down : Bool) (source : ℕ) {b : Block} (h : o.sinks b.sys.mstate) : o.sinks (doLeashTrip down source b).sys.mstate := by
  unfold doLeashTrip
  repeat' split
  all_goals simp [h]
@[simp] theorem doLockstepRestored_mstate (b : Block) : (doLockstepRestored b).sys.mstate = b.sys.mstate := by
  unfold doLockstepRestored
  split <;> simp
@[simp] theorem trackSource_mstate (i : ℕ) (ok : Bool) (b : Block) : (trackSource i ok b).sys.mstate = b.sys.mstate := by simp [trackSource]
@[simp] theorem schedStep_mstate (t : ℤ) (b : Block) : (schedStep t b).sys.mstate = b.sys.mstate := by
  unfold schedStep
  dsimp only
  repeat' split
  all_goals simp
@[simp] theorem loopInputs_mstate (ain : ℤ) (b : Block) : (loopInputs ain b).sys.mstate = b.sys.mstate := by simp [loopInputs]
@[simp] theorem takeHandOver_mstate (b : Block) : (takeHandOver b).sys.mstate = b.sys.mstate := by
  unfold takeHandOver
  split <;> simp
@[simp] theorem loopChanges_mstate (b : Block) : (loopChanges b).sys.mstate = b.sys.mstate := by
  unfold loopChanges
  dsimp only
  split <;> simp
@[simp] theorem manualStep_mstate (b : Block) : (manualStep b).sys.mstate = b.sys.mstate := by simp [manualStep]
@[simp] theorem makePreset_mstate (code : ℕ) (u0 : Fx) (b : Block) : (makePreset code u0 b).sys.mstate = b.sys.mstate := by simp [makePreset]
@[simp] theorem autoStep_mstate (b : Block) : (autoStep b).sys.mstate = b.sys.mstate := by
  unfold autoStep
  dsimp only
  split <;> simp
@[simp] theorem doLoopCycle_mstate (ain : ℤ) (b : Block) : (doLoopCycle ain b).sys.mstate = b.sys.mstate := by
  unfold doLoopCycle
  dsimp only
  repeat' split
  all_goals simp
@[simp] theorem doLouvreCycle_mstate (k : ℕ) (fb iMot : ℤ) (b : Block) : (doLouvreCycle k fb iMot b).sys.mstate = b.sys.mstate := by simp [doLouvreCycle]
@[simp] theorem doLvFbLost_mstate (k : ℕ) (b : Block) : (doLvFbLost k b).sys.mstate = b.sys.mstate := by
  unfold doLvFbLost
  repeat' split
  all_goals simp
@[simp] theorem doLvFbRestored_mstate (k : ℕ) (b : Block) : (doLvFbRestored k b).sys.mstate = b.sys.mstate := by
  unfold doLvFbRestored
  repeat' split
  all_goals simp
@[simp] theorem failLearn_mstate (k : ℕ) (b : Block) : (failLearn k b).sys.mstate = b.sys.mstate := by
  unfold failLearn
  repeat' split
  all_goals simp
@[simp] theorem doLvLearnFail_mstate (k : ℕ) (b : Block) : (doLvLearnFail k b).sys.mstate = b.sys.mstate := by
  unfold doLvLearnFail
  split <;> simp
@[simp] theorem doLvLearnStep_mstate (k : ℕ) (b : Block) : (doLvLearnStep k b).sys.mstate = b.sys.mstate := by
  unfold doLvLearnStep
  repeat' split
  all_goals simp
@[simp] theorem stallLouvre_mstate (k : ℕ) (b : Block) : (stallLouvre k b).sys.mstate = b.sys.mstate := by simp [stallLouvre]
@[simp] theorem doLvOvercurrent_mstate (k : ℕ) (b : Block) : (doLvOvercurrent k b).sys.mstate = b.sys.mstate := by
  unfold doLvOvercurrent
  split <;> simp
@[simp] theorem doLvRetry_mstate (k : ℕ) (b : Block) : (doLvRetry k b).sys.mstate = b.sys.mstate := by
  unfold doLvRetry
  split <;> simp
@[simp] theorem doLvStall_mstate (k : ℕ) (b : Block) : (doLvStall k b).sys.mstate = b.sys.mstate := by
  unfold doLvStall
  split <;> simp
@[simp] theorem doMtimerInterrupt_mstate (p : ℕ) (b : Block) : (doMtimerInterrupt p b).sys.mstate = b.sys.mstate := by simp [doMtimerInterrupt]
@[simp] theorem softStartOc_sinks {o : MState} {b : Block} (h : o.sinks b.sys.mstate) : o.sinks (softStartOc b).sys.mstate := by
  unfold softStartOc
  dsimp only
  split <;> simp [h]
@[simp] theorem doOcInput_sinks {o : MState} (k : ℕ) (lit : Bool) {b : Block} (h : o.sinks b.sys.mstate) : o.sinks (doOcInput k lit b).sys.mstate := by
  unfold doOcInput
  repeat' split
  all_goals simp [h]
@[simp] theorem doOpenSeqSo2Off_mstate (b : Block) : (doOpenSeqSo2Off b).sys.mstate = b.sys.mstate := by
  unfold doOpenSeqSo2Off
  dsimp only
  repeat' split
  all_goals simp
@[simp] theorem doOverrideExpiry_mstate (o0 : ℕ) (b : Block) : (doOverrideExpiry o0 b).sys.mstate = b.sys.mstate := by
  unfold doOverrideExpiry
  split <;> simp
@[simp] theorem doOwtBlankEnd_mstate (n : ℕ) (b : Block) : (doOwtBlankEnd n b).sys.mstate = b.sys.mstate := by
  unfold doOwtBlankEnd
  split <;> simp
@[simp] theorem onWire_mstate (j : ℕ) (f : Wire → Wire) (b : Block) : (onWire j f b).sys.mstate = b.sys.mstate := by simp [onWire]
@[simp] theorem clearReport_mstate (j : ℕ) (b : Block) : (clearReport j b).sys.mstate = b.sys.mstate := by simp [clearReport]
@[simp] theorem answerClear_mstate (j res : ℕ) (b : Block) : (answerClear j res b).sys.mstate = b.sys.mstate := by
  unfold answerClear
  split <;> simp
@[simp] theorem answerTest_mstate (j res : ℕ) (dT : ℤ) (rd : OwtReading) (b : Block) : (answerTest j res dT rd b).sys.mstate = b.sys.mstate := by
  unfold answerTest
  split <;> simp
@[simp] theorem countSums_mstate (n : ℕ) (ok : Bool) (b : Block) : (countSums n ok b).sys.mstate = b.sys.mstate := by simp [countSums]
@[simp] theorem pairMode_mstate (j : ℕ) (v : Option ℤ) (b : Block) : (pairMode j v b).sys.mstate = b.sys.mstate := by simp [pairMode]
@[simp] theorem reportOpen_sinks {o : MState} (j : ℕ) (v : Option ℤ) {b : Block} (h : o.sinks b.sys.mstate) : o.sinks (reportOpen j v b).sys.mstate := by
  unfold reportOpen
  dsimp only
  repeat' split
  all_goals simp [h]
@[simp] theorem countPattern_sinks {o : MState} (j : ℕ) (v : Option ℤ) {b : Block} (h : o.sinks b.sys.mstate) : o.sinks (countPattern j v b).sys.mstate := by
  unfold countPattern
  dsimp only
  repeat' split
  all_goals simp [h]
@[simp] theorem notJudged_mstate (j : ℕ) (b : Block) : (notJudged j b).sys.mstate = b.sys.mstate := by simp [notJudged]
@[simp] theorem judge_sinks {o : MState} (j res : ℕ) (dT : ℤ) (rd : OwtReading) {b : Block} (h : o.sinks b.sys.mstate) : o.sinks (judge j res dT rd b).sys.mstate := by
  unfold judge
  dsimp only
  repeat' split
  all_goals simp [h]
@[simp] theorem doOwtClassify_sinks {o : MState} (n : ℕ) (rd : OwtReading) {b : Block} (h : o.sinks b.sys.mstate) : o.sinks (doOwtClassify n rd b).sys.mstate := by
  unfold doOwtClassify
  repeat' split
  all_goals simp [h]
@[simp] theorem doOwtCycleStart_mstate (b : Block) : (doOwtCycleStart b).sys.mstate = b.sys.mstate := by simp [doOwtCycleStart]
@[simp] theorem owtPhase_mstate (n want next : ℕ) (f : SegSense → SegSense) (ticks : ℕ) (b : Block) : (owtPhase n want next f ticks b).sys.mstate = b.sys.mstate := by
  unfold owtPhase
  split <;> simp
@[simp] theorem doOwtRestoreOff_mstate (n : ℕ) (b : Block) : (doOwtRestoreOff n b).sys.mstate = b.sys.mstate := by simp [doOwtRestoreOff]
@[simp] theorem doOwtRestoreOn_mstate (n : ℕ) (b : Block) : (doOwtRestoreOn n b).sys.mstate = b.sys.mstate := by
  unfold doOwtRestoreOn
  split <;> simp
@[simp] theorem doOwtSlotBegin_mstate (n j : ℕ) (b : Block) : (doOwtSlotBegin n j b).sys.mstate = b.sys.mstate := by
  unfold doOwtSlotBegin
  repeat' split
  all_goals simp
@[simp] theorem doOwtTestCurrentOff_mstate (n : ℕ) (b : Block) : (doOwtTestCurrentOff n b).sys.mstate = b.sys.mstate := by simp [doOwtTestCurrentOff]
@[simp] theorem doOwtTestCurrentOn_mstate (n : ℕ) (b : Block) : (doOwtTestCurrentOn n b).sys.mstate = b.sys.mstate := by simp [doOwtTestCurrentOn]
@[simp] theorem doRungDown_sinks {o : MState} (r : ℕ) (lost : Option (Fin 16)) {b : Block} (h : o.sinks b.sys.mstate) : o.sinks (doRungDown r lost b).sys.mstate := by
  unfold doRungDown
  dsimp only
  repeat' split
  all_goals simp [h]
/-- A failed die takes the module to FAULT, from the states that FAULT is entered from (R60). -/
theorem loseDie_sinks {o : MState} (n : Nat) {b : Block} (hoff : b.sys.mstate ≠ .off) (h : o.sinks b.sys.mstate) : o.sinks (loseDie n b).sys.mstate := by
  unfold loseDie
  dsimp only
  split
  · exact h
  · split
    · simpa using h
    · next hn =>
      refine changeState_sinks _ _ (by simpa using h) (.fault h ?_)
      simp only [Block.touch_sys, Block.onSense_sys, not_or] at hn
      revert hn hoff
      cases b.sys.mstate <;> simp
@[simp] theorem losePrimary_mstate (b : Block) : (losePrimary b).sys.mstate = b.sys.mstate := by simp [losePrimary]
@[simp] theorem loseSecondary_mstate (b : Block) : (loseSecondary b).sys.mstate = b.sys.mstate := by simp [loseSecondary]
@[simp] theorem loseDivider_mstate (b : Block) : (loseDivider b).sys.mstate = b.sys.mstate := by simp [loseDivider]
@[simp] theorem loseCage_mstate (c : ℕ) (b : Block) : (loseCage c b).sys.mstate = b.sys.mstate := by simp [loseCage]
@[simp] theorem loseCan_mstate (k : ℕ) (b : Block) : (loseCan k b).sys.mstate = b.sys.mstate := by simp [loseCan]
@[simp] theorem doPartFault_sinks {o : MState} (p : Machine.Part) {b : Block} (h : o.sinks b.sys.mstate) : o.sinks (doPartFault p b).sys.mstate := by
  unfold doPartFault
  split
  · exact h
  · next hoff =>
    cases p
    case segmentDie n => exact loseDie_sinks n hoff h
    case sds => dsimp only; split <;> simp [h]
    all_goals simp [h]
@[simp] theorem doPartnerAnnounce_mstate (k : ℕ) (b : Block) : (doPartnerAnnounce k b).sys.mstate = b.sys.mstate := by simp [doPartnerAnnounce]
@[simp] theorem doPartnerEntryFree_mstate (i : ℕ) (b : Block) : (doPartnerEntryFree i b).sys.mstate = b.sys.mstate := by
  unfold doPartnerEntryFree
  split <;> simp
@[simp] theorem doPartnerHeartbeat_mstate (k : ℕ) (b : Block) : (doPartnerHeartbeat k b).sys.mstate = b.sys.mstate := by simp [doPartnerHeartbeat]
@[simp] theorem doPartnerLost_mstate (i : ℕ) (b : Block) : (doPartnerLost i b).sys.mstate = b.sys.mstate := by
  unfold doPartnerLost
  split <;> simp
@[simp] theorem doPendPacket_mstate (i seq : ℕ) (b : Block) : (doPendPacket i seq b).sys.mstate = b.sys.mstate := by
  unfold doPendPacket
  split <;> simp
@[simp] theorem doPhaseHiccupEnd_mstate (k : ℕ) (b : Block) : (doPhaseHiccupEnd k b).sys.mstate = b.sys.mstate := by simp [doPhaseHiccupEnd]
@[simp] theorem countOc_sinks {o : MState} (k : Nat) {b : Block} (h : o.sinks b.sys.mstate) : o.sinks (countOc k b).sys.mstate := by
  unfold countOc
  extract_lets p t run b1 recent b2
  have h2 : b2.sys.mstate = b.sys.mstate := by simp [b2, b1]
  split
  · exact h
  · split
    · exact phaseOut_sinks _ _ (by rwa [h2])
    · exact dropPhase_sinks _ _ (by simpa [h2] using h)
@[simp] theorem voltageLoop_mstate (b : Block) : (voltageLoop b).sys.mstate = b.sys.mstate := by
  unfold voltageLoop
  split <;> simp
@[simp] theorem sequencer_mstate (b : Block) : (sequencer b).sys.mstate = b.sys.mstate := by
  unfold sequencer
  dsimp only
  repeat' split
  all_goals simp
@[simp] theorem setDuty_mstate (k : ℕ) (b : Block) : (setDuty k b).sys.mstate = b.sys.mstate := by
  unfold setDuty
  split <;> simp
@[simp] theorem doPhasePeriodStart_sinks {o : MState} (k : Nat) {b : Block} (h : o.sinks b.sys.mstate) : o.sinks (doPhasePeriodStart k b).sys.mstate := by
  have hc : o.sinks (countOc k (b.at (b.nextPeriod k))).sys.mstate := countOc_sinks _ (by simpa using h)
  unfold doPhasePeriodStart
  dsimp only
  repeat' split
  all_goals simp [h, hc]
@[simp] theorem enterPrebias_mstate (b : Block) : (enterPrebias b).sys.mstate = b.sys.mstate := by simp [enterPrebias]
@[simp] theorem leavePrecheck_mstate (b : Block) : (leavePrecheck b).sys.mstate = b.sys.mstate := by simp [leavePrecheck]
@[simp] theorem tryPrecheck_mstate (b : Block) : (tryPrecheck b).sys.mstate = b.sys.mstate := by simp [tryPrecheck]
@[simp] theorem designNominal_mstate (k : ℕ) (b : Block) : (designNominal k b).sys.mstate = b.sys.mstate := by simp [designNominal]
@[simp] theorem doPhaseReady_mstate (k : ℕ) (b : Block) : (doPhaseReady k b).sys.mstate = b.sys.mstate := by
  unfold doPhaseReady
  dsimp only
  split <;> simp
@[simp] theorem balClearDue_mstate (b : Block) : (balClearDue b).sys.mstate = b.sys.mstate := by
  unfold balClearDue
  split <;> simp
@[simp] theorem decide__mstate (b : Block) : (decide_ b).sys.mstate = b.sys.mstate := by simp [decide_]
@[simp] theorem doPlacementDecision_mstate (b : Block) : (doPlacementDecision b).sys.mstate = b.sys.mstate := by simp [doPlacementDecision]
@[simp] theorem doPolWatchdogExpiry_mstate (p : ℕ) (b : Block) : (doPolWatchdogExpiry p b).sys.mstate = b.sys.mstate := by simp [doPolWatchdogExpiry]
@[simp] theorem doPolicyEngineStart_mstate (p : ℕ) (b : Block) : (doPolicyEngineStart p b).sys.mstate = b.sys.mstate := by simp [doPolicyEngineStart]
@[simp] theorem rvCycles_mstate (p n : ℕ) (b : Block) : (rvCycles p n b).sys.mstate = b.sys.mstate := by simp [rvCycles]
@[simp] theorem doPolicyInstruction_mstate (p cycles : ℕ) (bad : Bool) (b : Block) : (doPolicyInstruction p cycles bad b).sys.mstate = b.sys.mstate := by
  unfold doPolicyInstruction
  repeat' split
  all_goals simp
@[simp] theorem doPowerFailWarning_mstate (b : Block) : (doPowerFailWarning b).sys.mstate = b.sys.mstate := by simp [doPowerFailWarning]
@[simp] theorem doPowerLost_sinks {o : MState} {b : Block} (h : o.sinks b.sys.mstate) : o.sinks (doPowerLost b).sys.mstate := by
  unfold doPowerLost
  dsimp only
  split
  · split
    · exact h
    · split
      · simpa using h
      · exact losePower_sinks (by simpa using h)
  · exact h
@[simp] theorem resumeBlock_mstate (b : Block) : (resumeBlock b).sys.mstate = b.sys.mstate := by
  unfold resumeBlock
  split <;> simp
@[simp] theorem doPowerRestored_mstate (b : Block) : (doPowerRestored b).sys.mstate = b.sys.mstate := by simp [doPowerRestored]
@[simp] theorem chooseSlot_mstate (b : Block) : (chooseSlot b).sys.mstate = b.sys.mstate := by simp [chooseSlot]
@[simp] theorem doPrecheckTimeout_sinks {o : MState} {b : Block} (h : o.sinks b.sys.mstate) : o.sinks (doPrecheckTimeout b).sys.mstate := by
  unfold doPrecheckTimeout
  dsimp only
  repeat' split
  all_goals simp [h]
@[simp] theorem doPrpEntryExpiry_mstate (node : Bool) (b : Block) : (doPrpEntryExpiry node b).sys.mstate = b.sys.mstate := by
  unfold doPrpEntryExpiry
  repeat' split
  all_goals simp
@[simp] theorem doPrpSupervision_mstate (b : Block) : (doPrpSupervision b).sys.mstate = b.sys.mstate := by
  unfold doPrpSupervision
  dsimp only
  split <;> simp
@[simp] theorem doPtpHoldUnlock_mstate (b : Block) : (doPtpHoldUnlock b).sys.mstate = b.sys.mstate := by simp [doPtpHoldUnlock]
@[simp] theorem onPort_mstate (p : ℕ) (f : PtpPort → PtpPort) (b : Block) : (onPort p f b).sys.mstate = b.sys.mstate := by simp [onPort]
@[simp] theorem steer_mstate (b : Block) : (steer b).sys.mstate = b.sys.mstate := by simp [steer]
@[simp] theorem reachSlave_mstate (p : ℕ) (b : Block) : (reachSlave p b).sys.mstate = b.sys.mstate := by simp [reachSlave]
@[simp] theorem measureSlave_mstate (p : ℕ) (off : ℤ) (b : Block) : (measureSlave p off b).sys.mstate = b.sys.mstate := by simp [measureSlave]
@[simp] theorem ptpMeasure_mstate (p : ℕ) (b : Block) : (ptpMeasure p b).sys.mstate = b.sys.mstate := by
  unfold ptpMeasure
  split <;> simp
@[simp] theorem takePtp_mstate (p : ℕ) (msg : PtpMsg) (rx : ℤ) (b : Block) : (takePtp p msg rx b).sys.mstate = b.sys.mstate := by
  unfold takePtp
  repeat' split
  all_goals simp
@[simp] theorem doPtpMessage_mstate (p domain : ℕ) (ether : Bool) (msg : PtpMsg) (rxNs : ℕ) (b : Block) : (doPtpMessage p domain ether msg rxNs b).sys.mstate = b.sys.mstate := by
  simp [doPtpMessage]
@[simp] theorem doPtpSyncTimeout_mstate (announce : Bool) (b : Block) : (doPtpSyncTimeout announce b).sys.mstate = b.sys.mstate := by
  unfold doPtpSyncTimeout
  dsimp only
  repeat' split
  all_goals simp
@[simp] theorem doPtpTxTimer_mstate (p what count : ℕ) (b : Block) : (doPtpTxTimer p what count b).sys.mstate = b.sys.mstate := by
  unfold doPtpTxTimer
  dsimp only
  split <;> simp
@[simp] theorem onChan_mstate (i c : ℕ) (f : SafeChan → SafeChan) (b : Block) : (onChan i c f b).sys.mstate = b.sys.mstate := by simp [onChan]
@[simp] theorem clearInputCauses_mstate (i : ℕ) (b : Block) : (clearInputCauses i b).sys.mstate = b.sys.mstate := by simp [clearInputCauses]
@[simp] theorem tryRelease_mstate (i : ℕ) (b : Block) : (tryRelease i b).sys.mstate = b.sys.mstate := by
  unfold tryRelease
  split <;> simp
@[simp] theorem doPulseCheck_sinks {o : MState} (i c : ℕ) (low : Bool) {b : Block} (h : o.sinks b.sys.mstate) : o.sinks (doPulseCheck i c low b).sys.mstate := by
  unfold doPulseCheck
  dsimp only
  repeat' split
  all_goals simp [h]
@[simp] theorem doPulsePeriod_mstate (period high : ℕ) (b : Block) : (doPulsePeriod period high b).sys.mstate = b.sys.mstate := by simp [doPulsePeriod]
@[simp] theorem doPulseTimeout_mstate (b : Block) : (doPulseTimeout b).sys.mstate = b.sys.mstate := by simp [doPulseTimeout]
@[simp] theorem doRateChangeEffect_mstate (b : Block) : (doRateChangeEffect b).sys.mstate = b.sys.mstate := by
  unfold doRateChangeEffect
  split <;> simp
@[simp] theorem doRdyLoss_sinks {o : MState} (k : ℕ) {b : Block} (h : o.sinks b.sys.mstate) : o.sinks (doRdyLoss k b).sys.mstate := by
  unfold doRdyLoss
  dsimp only
  repeat' split
  all_goals simp [h]
@[simp] theorem doRefCheckDone_mstate (n : ℕ) (dev : ℤ) (worst : ℕ) (corr : List (ℤ × ℤ)) (b : Block) : (doRefCheckDone n dev worst corr b).sys.mstate = b.sys.mstate := by
  unfold doRefCheckDone
  repeat' split
  all_goals simp
@[simp] theorem doRefCheckDue_mstate (b : Block) : (doRefCheckDue b).sys.mstate = b.sys.mstate := by simp [doRefCheckDue]
@[simp] theorem doReferencePeriodStart_mstate (b : Block) : (doReferencePeriodStart b).sys.mstate = b.sys.mstate := by simp [doReferencePeriodStart]
@[simp] theorem doRegionWrite_mstate (p i : ℕ) (hi : Bool) (v : Word) (b : Block) : (doRegionWrite p i hi v b).sys.mstate = b.sys.mstate := by simp [doRegionWrite]
@[simp] theorem doRegisterWrite_mstate (p pa v : Nat) (b : Block) : (doRegisterWrite p pa v b).sys.mstate = b.sys.mstate := by
  unfold doRegisterWrite
  split
  · rfl
  · exact writeReg_getD_mstate ..
@[simp] theorem doReplyFrame_mstate (tag : ℕ) (b : Block) : (doReplyFrame tag b).sys.mstate = b.sys.mstate := by simp [doReplyFrame]
@[simp] theorem doReserveStandbyTest_mstate (ok : Bool) (b : Block) : (doReserveStandbyTest ok b).sys.mstate = b.sys.mstate := by simp [doReserveStandbyTest]
@[simp] theorem doRestObservation_mstate (k : ℕ) (b : Block) : (doRestObservation k b).sys.mstate = b.sys.mstate := by
  unfold doRestObservation
  dsimp only
  split <;> simp
@[simp] theorem doRetuneLatch_mstate (k : ℕ) (b : Block) : (doRetuneLatch k b).sys.mstate = b.sys.mstate := by
  unfold doRetuneLatch
  split <;> simp
@[simp] theorem doRingDelayMeasure_mstate (down : List ℕ) (up : List ℕ) (b : Block) : (doRingDelayMeasure down up b).sys.mstate = b.sys.mstate := by
  simp [doRingDelayMeasure]
@[simp] theorem doRollcall_sinks {o : MState} (k : Nat) {b : Block} (h : o.sinks b.sys.mstate) : o.sinks (doRollcall k b).sys.mstate := by
  have hd (c : Block) (hc : c.sys.mstate = b.sys.mstate) : o.sinks (dropPhase k .search c).sys.mstate := dropPhase_sinks _ _ (by rwa [hc])
  unfold doRollcall
  extract_lets p at_ miss b1
  split
  · exact h
  · split
    · exact h
    · split
      · exact hd _ rfl
      · exact h
@[simp] theorem doRungTrip_mstate (n : ℕ) (atHub lost : Bool) (b : Block) : (doRungTrip n atHub lost b).sys.mstate = b.sys.mstate := by simp [doRungTrip]
@[simp] theorem doRungUp_mstate (r : ℕ) (b : Block) : (doRungUp r b).sys.mstate = b.sys.mstate := by simp [doRungUp]
@[simp] theorem doSafeTestTimeout_mstate (compPass : Nat) (b : Block) : (doSafeTestTimeout compPass b).sys.mstate = b.sys.mstate := by
  unfold doSafeTestTimeout
  split
  · rfl
  · split
    · simp [endProof_mstate]
    · rfl
@[simp] theorem doSaveDone_mstate (ok : Bool) (b : Block) : (doSaveDone ok b).sys.mstate = b.sys.mstate := by
  unfold doSaveDone
  repeat' split
  all_goals simp
@[simp] theorem doSaveInterval_mstate (b : Block) : (doSaveInterval b).sys.mstate = b.sys.mstate := by simp [doSaveInterval]
@[simp] theorem doSchedHoldExpiry_mstate (b : Block) : (doSchedHoldExpiry b).sys.mstate = b.sys.mstate := by
  unfold doSchedHoldExpiry
  split <;> simp
@[simp] theorem doScheduleFrame_mstate (rate start : ℕ) (modes : List (ℕ × Bool × ℕ)) (owt : Option ℕ) (b : Block) : (doScheduleFrame rate start modes owt b).sys.mstate = b.sys.mstate := by
  simp [doScheduleFrame]
@[simp] theorem doSdsStart_mstate (high ok : Bool) (b : Block) : (doSdsStart high ok b).sys.mstate = b.sys.mstate := by simp [doSdsStart]
@[simp] theorem doSegmentFrame_mstate (n r : ℕ) (b : Block) : (doSegmentFrame n r b).sys.mstate = b.sys.mstate := by simp [doSegmentFrame]
@[simp] theorem doSegmentIsolated_mstate (n : ℕ) (b : Block) : (doSegmentIsolated n b).sys.mstate = b.sys.mstate := by
  unfold doSegmentIsolated
  split <;> simp
@[simp] theorem doSelftestDone_sinks {o : MState} (pass : Bool) {b : Block} (h : o.sinks b.sys.mstate) : o.sinks (doSelftestDone pass b).sys.mstate := by
  have hf (l : List (Nat × Nat)) {b : Block} (hb : o.sinks b.sys.mstate) : o.sinks (l.foldl (fun b c => demand (heldSsi c.1 c.2) c.1 c.2 b) b).sys.mstate :=
    foldl_sinks (fun b x hb => demand_sinks _ _ _ hb) l hb
  unfold doSelftestDone
  extract_lets b0 held b1 b2
  have h0 : o.sinks b0.sys.mstate := by
    simp only [b0]
    split <;> simpa using h
  have h2 : o.sinks b2.sys.mstate := hf _ (by simpa [b1] using h0)
  split
  · exact h
  · split
    · exact lockout_sinks _ h
    · split
      · exact lockout_sinks _ h
      · split
        · exact demandSPS_sinks _ _ (by simpa using h2)
        · exact h2
@[simp] theorem doSenseChannelFault_sinks {o : MState} (c : ℕ) {b : Block} (h : o.sinks b.sys.mstate) : o.sinks (doSenseChannelFault c b).sys.mstate := by
  unfold doSenseChannelFault
  repeat' split
  all_goals simp [h]
@[simp] theorem doSessionTimeout_mstate (i : ℕ) (b : Block) : (doSessionTimeout i b).sys.mstate = b.sys.mstate := by simp [doSessionTimeout]
@[simp] theorem doSetpointTimeout_mstate (b : Block) : (doSetpointTimeout b).sys.mstate = b.sys.mstate := by simp [doSetpointTimeout]
@[simp] theorem doSettingsWrite_mstate (ok : Bool) (b : Block) : (doSettingsWrite ok b).sys.mstate = b.sys.mstate := by
  unfold doSettingsWrite
  split <;> simp
@[simp] theorem doSettleComplete_mstate (b : Block) : (doSettleComplete b).sys.mstate = b.sys.mstate := by
  unfold doSettleComplete
  split <;> simp
@[simp] theorem doSfbMirrorChange_mstate (n : ℕ) (closed : Bool) (count : ℕ) (b : Block) : (doSfbMirrorChange n closed count b).sys.mstate = b.sys.mstate := by
  simp [doSfbMirrorChange]
@[simp] theorem doSfpPoll_mstate (c : ℕ) (present supported : Bool) (txFault alarm los : Bool) (b : Block) :
    (doSfpPoll c present supported txFault alarm los b).sys.mstate = b.sys.mstate := by
  unfold doSfpPoll
  split <;> simp
@[simp] theorem doShutterClose_mstate (count : ℕ) (b : Block) : (doShutterClose count b).sys.mstate = b.sys.mstate := by simp [doShutterClose]
@[simp] theorem applyBridges_mstate (b : Block) : (applyBridges b).sys.mstate = b.sys.mstate := by
  unfold applyBridges
  dsimp only
  rw [Block.onBal_sys]
  exact foldl_mstate _ (fun _ _ => by simp) _ _
@[simp] theorem stepCell_mstate (c : ℕ) (delta : ℤ) (learn shuttle : Bool) (b : Block) : (stepCell c delta learn shuttle b).sys.mstate = b.sys.mstate := by
  simp [stepCell]
@[simp] theorem applyCell_mstate (c : ℕ) (t : Option Target) (b : Block) : (applyCell c t b).sys.mstate = b.sys.mstate := by
  unfold applyCell
  dsimp only
  repeat' split
  all_goals simp
@[simp] theorem stageTargets_mstate (t : List Target × List (ℕ × ℤ)) (b : Block) : (stageTargets t b).sys.mstate = b.sys.mstate := by simp [stageTargets]
@[simp] theorem balShutterOpen_mstate (b : Block) : (balShutterOpen b).sys.mstate = b.sys.mstate := by
  unfold balShutterOpen
  dsimp only
  repeat' split
  all_goals simp
@[simp] theorem doShutterOpen_mstate (count : ℕ) (b : Block) : (doShutterOpen count b).sys.mstate = b.sys.mstate := by simp [doShutterOpen]
@[simp] theorem doShuttleFault_mstate (n i : ℕ) (b : Block) : (doShuttleFault n i b).sys.mstate = b.sys.mstate := by simp [doShuttleFault]
@[simp] theorem chanRise_mstate (i c : ℕ) (b : Block) : (chanRise i c b).sys.mstate = b.sys.mstate := by simp [chanRise]
@[simp] theorem chanFall_mstate (i c : ℕ) (b : Block) : (chanFall i c b).sys.mstate = b.sys.mstate := by simp [chanFall]
@[simp] theorem doSiDemand_sinks {o : MState} (i c : Nat) {b : Block} (h : o.sinks b.sys.mstate) : o.sinks (doSiDemand i c b).sys.mstate := by
  unfold doSiDemand
  split
  · exact h
  · split
    · exact h
    · split
      · exact makeDemand_sinks _ _ _ (by simpa using h)
      · exact h
@[simp] theorem doSiDiscrepancy_mstate (i : ℕ) (b : Block) : (doSiDiscrepancy i b).sys.mstate = b.sys.mstate := by
  unfold doSiDiscrepancy
  split <;> simp
@[simp] theorem hibernateTake_mstate (b : Block) : (hibernateTake b).sys.mstate = b.sys.mstate := by
  unfold hibernateTake
  split <;> simp
@[simp] theorem fltTake_mstate (b : Block) : (fltTake b).sys.mstate = b.sys.mstate := by simp [fltTake]
@[simp] theorem prechargeTake_mstate (b : Block) : (prechargeTake b).sys.mstate = b.sys.mstate := by
  unfold prechargeTake
  repeat' split
  all_goals simp
@[simp] theorem blockTake_mstate (b : Block) : (blockTake b).sys.mstate = b.sys.mstate := by simp [blockTake]
@[simp] theorem loopTake_mstate (count : ℕ) (b : Block) : (loopTake count b).sys.mstate = b.sys.mstate := by
  unfold loopTake
  split <;> simp
@[simp] theorem impQuiet_mstate (b : Block) : (impQuiet b).sys.mstate = b.sys.mstate := by simp [impQuiet]
@[simp] theorem impSample_mstate (count : ℕ) (b : Block) : (impSample count b).sys.mstate = b.sys.mstate := by simp [impSample]
@[simp] theorem impTake_mstate (count : ℕ) (b : Block) : (impTake count b).sys.mstate = b.sys.mstate := by simp [impTake]
@[simp] theorem distribute_mstate (count : ℕ) (b : Block) : (distribute count b).sys.mstate = b.sys.mstate := by simp [distribute]
@[simp] theorem learnedInit_mstate (b : Block) : (learnedInit b).sys.mstate = b.sys.mstate := by
  unfold learnedInit
  dsimp only
  split <;> simp
@[simp] theorem initAtW1_mstate (w1Ended : Bool) (b : Block) : (initAtW1 w1Ended b).sys.mstate = b.sys.mstate := by simp [initAtW1]
@[simp] theorem takeTherm_mstate (t w : ℕ) (b : Block) : (takeTherm t w b).sys.mstate = b.sys.mstate := by simp [takeTherm]
@[simp] theorem noteRanges_mstate (f : Snapshot) (old : List CellSense) (b : Block) : (noteRanges f old b).sys.mstate = b.sys.mstate := by simp [noteRanges]
@[simp] theorem storeSnapshot_mstate (f : Snapshot) (b : Block) : (storeSnapshot f b).sys.mstate = b.sys.mstate := by simp [storeSnapshot]
@[simp] theorem doSnapshotFrame_mstate (f : Snapshot) (b : Block) : (doSnapshotFrame f b).sys.mstate = b.sys.mstate := by simp [doSnapshotFrame]
@[simp] theorem doSnapshotFrameStart_mstate (b : Block) : (doSnapshotFrameStart b).sys.mstate = b.sys.mstate := by simp [doSnapshotFrameStart]
@[simp] theorem failTest_sinks {o : MState} (n : ℕ) {b : Block} (h : o.sinks b.sys.mstate) : o.sinks (failTest n b).sys.mstate := by simp [failTest, h]
@[simp] theorem doSoMidpointCheck_sinks {o : MState} (hsClosed lsClosed : Nat) {b : Block} (h : o.sinks b.sys.mstate) : o.sinks (doSoMidpointCheck hsClosed lsClosed b).sys.mstate := by
  unfold doSoMidpointCheck
  split
  · exact h
  · exact foldl_sinks (fun _ _ hb => failTest_sinks _ hb) _ h
@[simp] theorem doSoReadbackFall_mstate (n : ℕ) (b : Block) : (doSoReadbackFall n b).sys.mstate = b.sys.mstate := by
  unfold doSoReadbackFall
  split <;> simp
@[simp] theorem doSoTestFail_sinks {o : MState} (n : Nat) {b : Block} (h : o.sinks b.sys.mstate) : o.sinks (doSoTestFail n b).sys.mstate := by
  unfold doSoTestFail
  split
  · exact h
  · split
    · exact h
    · exact failTest_sinks _ (by simpa using h)
@[simp] theorem beginTest_mstate (high : Bool) (b : Block) : (beginTest high b).sys.mstate = b.sys.mstate := by simp [beginTest]
@[simp] theorem dueTest_mstate (high : Bool) (b : Block) : (dueTest high b).sys.mstate = b.sys.mstate := by simp [dueTest]
@[simp] theorem doSoTestHigh_mstate (count : ℕ) (b : Block) : (doSoTestHigh count b).sys.mstate = b.sys.mstate := by simp [doSoTestHigh]
@[simp] theorem doSoTestLow_mstate (b : Block) : (doSoTestLow b).sys.mstate = b.sys.mstate := by simp [doSoTestLow]
@[simp] theorem doSoftstartTimeout_sinks {o : MState} {b : Block} (h : o.sinks b.sys.mstate) : o.sinks (doSoftstartTimeout b).sys.mstate := by
  unfold doSoftstartTimeout
  split <;> simp [h]
@[simp] theorem doSourceReturn_mstate (i : ℕ) (b : Block) : (doSourceReturn i b).sys.mstate = b.sys.mstate := by
  unfold doSourceReturn
  split <;> simp
@[simp] theorem doSrstRise_mstate (count : ℕ) (b : Block) : (doSrstRise count b).sys.mstate = b.sys.mstate := by
  unfold doSrstRise
  dsimp only
  split <;> simp
@[simp] theorem doSrstStuck_mstate (b : Block) : (doSrstStuck b).sys.mstate = b.sys.mstate := by simp [doSrstStuck]
@[simp] theorem doSsHiccupEnd_mstate (b : Block) : (doSsHiccupEnd b).sys.mstate = b.sys.mstate := by simp [doSsHiccupEnd]
@[simp] theorem doStackOff_mstate (b : Block) : (doStackOff b).sys.mstate = b.sys.mstate := by
  unfold doStackOff
  split <;> simp
@[simp] theorem doStringCurrentEscalation_sinks {o : MState} {b : Block} (h : o.sinks b.sys.mstate) : o.sinks (doStringCurrentEscalation b).sys.mstate := by
  unfold doStringCurrentEscalation
  dsimp only
  split
  · exact h
  · split
    · exact demandSSI_sinks _ _ (by simpa using h)
    · simpa using h
@[simp] theorem doSyncInEdge_mstate (count : ℕ) (b : Block) : (doSyncInEdge count b).sys.mstate = b.sys.mstate := by simp [doSyncInEdge]
@[simp] theorem doSyncSetDownstream_mstate (b : Block) : (doSyncSetDownstream b).sys.mstate = b.sys.mstate := by simp [doSyncSetDownstream]
@[simp] theorem doSyncSetReceived_mstate (atHub : Bool) (k : ℕ) (echo : Bool) (count roundTrip : ℕ) (b : Block) :
    (doSyncSetReceived atHub k echo count roundTrip b).sys.mstate = b.sys.mstate := by
  simp [doSyncSetReceived]
@[simp] theorem doSyncSetUpstream_mstate (b : Block) : (doSyncSetUpstream b).sys.mstate = b.sys.mstate := by simp [doSyncSetUpstream]
@[simp] theorem doTakeoverMonitorTest_mstate (ok : Bool) (b : Block) : (doTakeoverMonitorTest ok b).sys.mstate = b.sys.mstate := by simp [doTakeoverMonitorTest]
@[simp] theorem doTargetsFrame_mstate (b : Block) : (doTargetsFrame b).sys.mstate = b.sys.mstate := by
  unfold doTargetsFrame
  split <;> simp
@[simp] theorem doTempSourceTimeout_mstate (k : ℕ) (b : Block) : (doTempSourceTimeout k b).sys.mstate = b.sys.mstate := by simp [doTempSourceTimeout]
@[simp] theorem thermalPi_mstate (b : Block) : (thermalPi b).sys.mstate = b.sys.mstate := by
  unfold thermalPi
  dsimp only
  split <;> simp
@[simp] theorem doThermalCycle_mstate (tach0 tach1 : ℕ) (b : Block) : (doThermalCycle tach0 tach1 b).sys.mstate = b.sys.mstate := by simp [doThermalCycle]
@[simp] theorem doThmTempLost_mstate (b : Block) : (doThmTempLost b).sys.mstate = b.sys.mstate := by
  unfold doThmTempLost
  split <;> simp
@[simp] theorem tilePasses_mstate (t : ℕ) (b : Block) : (tilePasses t b).sys.mstate = b.sys.mstate := by
  unfold tilePasses
  split <;> simp
@[simp] theorem doTileReadInternal_mstate (e t fails : ℕ) (b : Block) : (doTileReadInternal e t fails b).sys.mstate = b.sys.mstate := by simp [doTileReadInternal]
@[simp] theorem doTileRefresh_mstate (t : ℕ) (b : Block) : (doTileRefresh t b).sys.mstate = b.sys.mstate := by simp [doTileRefresh]
@[simp] theorem doTileStageStore_mstate (p va : Nat) (v : Word) (b : Block) : (doTileStageStore p va v b).sys.mstate = b.sys.mstate := by
  unfold doTileStageStore
  dsimp only
  split
  · split
    · exact accessTrap_mstate (storeAt_stays ..)
    · rfl
  · rfl
@[simp] theorem takeMeasures_mstate (ws : List Word) (b : Block) : (takeMeasures ws b).sys.mstate = b.sys.mstate := by simp [takeMeasures]
@[simp] theorem doTileWrite_mstate (t : ℕ) (ws : List Word) (b : Block) : (doTileWrite t ws b).sys.mstate = b.sys.mstate := by simp [doTileWrite]
@[simp] theorem doTimeWordWrite_mstate (b : Block) : (doTimeWordWrite b).sys.mstate = b.sys.mstate := by simp [doTimeWordWrite]
@[simp] theorem doTimerExpiry_mstate (t : ℕ) (b : Block) : (doTimerExpiry t b).sys.mstate = b.sys.mstate := by
  unfold doTimerExpiry
  split <;> simp
@[simp] theorem doTlatchFall_mstate (b : Block) : (doTlatchFall b).sys.mstate = b.sys.mstate := by simp [doTlatchFall]
@[simp] theorem doTlatchRise_mstate (b : Block) : (doTlatchRise b).sys.mstate = b.sys.mstate := by simp [doTlatchRise]
@[simp] theorem doTpFaultClear_mstate (n : ℕ) (b : Block) : (doTpFaultClear n b).sys.mstate = b.sys.mstate := by simp [doTpFaultClear]
@[simp] theorem doTpFrame_mstate (b : Block) : (doTpFrame b).sys.mstate = b.sys.mstate := by simp [doTpFrame]
theorem onSourced_mstate (n : Nat) {f : Nat → Nat → Block → Block} (hf : ∀ i c b, (f i c b).sys.mstate = b.sys.mstate) (b : Block) :
    (onSourced n f b).sys.mstate = b.sys.mstate := by
  have hc (i : Nat) (b : Block) (c : Nat) : (if b.siOn i && b.siSrc i c == n + 1 then f i c b else b).sys.mstate = b.sys.mstate := by
    split
    · exact hf ..
    · rfl
  unfold onSourced
  rw [foldl_mstate]
  intro b i
  rw [foldl_mstate]
  exact hc i
@[simp] theorem doTpPulse_mstate (n : Nat) (b : Block) : (doTpPulse n b).sys.mstate = b.sys.mstate := by
  unfold doTpPulse
  dsimp only
  split
  · rfl
  · exact (onSourced_mstate n (by exact fun _ _ _ => rfl) _).trans rfl
@[simp] theorem doTransomRead_mstate (t h1 : ℕ) (b : Block) : (doTransomRead t h1 b).sys.mstate = b.sys.mstate := by simp [doTransomRead]
@[simp] theorem doTripRepeat_mstate (down : Bool) (b : Block) : (doTripRepeat down b).sys.mstate = b.sys.mstate := by simp [doTripRepeat]
@[simp] theorem stampQueue_mstate (c id : ℕ) (t : ℕ × ℕ) (b : Block) : (stampQueue c id t b).sys.mstate = b.sys.mstate := by
  unfold stampQueue
  split <;> simp
@[simp] theorem doTxTimestamp_mstate (c id : ℕ) (own ns : ℕ) (b : Block) : (doTxTimestamp c id own ns b).sys.mstate = b.sys.mstate := by
  unfold doTxTimestamp
  dsimp only
  repeat' split
  all_goals simp
@[simp] theorem doTxtsRead_mstate (c : ℕ) (b : Block) : (doTxtsRead c b).sys.mstate = b.sys.mstate := by simp [doTxtsRead]
@[simp] theorem doUpdConfirmTimeout_mstate (b : Block) : (doUpdConfirmTimeout b).sys.mstate = b.sys.mstate := by
  unfold doUpdConfirmTimeout
  split <;> simp
@[simp] theorem doUpdEraseDone_mstate (ok : Bool) (b : Block) : (doUpdEraseDone ok b).sys.mstate = b.sys.mstate := by simp [doUpdEraseDone]
@[simp] theorem doUpdVerifyDone_mstate (b : Block) : (doUpdVerifyDone b).sys.mstate = b.sys.mstate := by simp [doUpdVerifyDone]
@[simp] theorem doUplinkFrame_sinks {o : MState} (k : ℕ) (f : Uplink) {b : Block} (h : o.sinks b.sys.mstate) : o.sinks (doUplinkFrame k f b).sys.mstate := by
  unfold doUplinkFrame
  dsimp only
  repeat' split
  all_goals simp [h]
@[simp] theorem doUplinkTimeout_sinks {o : MState} (k : Nat) {b : Block} (h : o.sinks b.sys.mstate) : o.sinks (doUplinkTimeout k b).sys.mstate := by
  unfold doUplinkTimeout
  dsimp only
  split
  · exact h
  · exact dropPhase_sinks _ _ (by simpa using h)
@[simp] theorem doWakeRollcallGraceEnd_sinks {o : MState} {b : Block} (h : o.sinks b.sys.mstate) : o.sinks (doWakeRollcallGraceEnd b).sys.mstate := by
  unfold doWakeRollcallGraceEnd
  split
  · exact h
  · exact foldl_sinks (fun _ _ hb => dropPhase_sinks _ _ hb) _ (by simpa using h)
@[simp] theorem doWireLearn_mstate (k : Nat) (b : Block) : (doWireLearn k b).sys.mstate = b.sys.mstate := by
  unfold doWireLearn
  extract_lets x d stepped still dvOf rs kk known low high own low' high' r1 r2 pred agrees put b1 n b2 b3
  have hp (j : Nat) (r : Option Int) (b : Block) : (put j r b).sys.mstate = b.sys.mstate := by
    simp only [put]
    split
    · rfl
    · split
      · rw [Block.onSense_sys, note_sys, onWire_mstate]
      · rw [onWire_mstate]
  clear_value put
  have h1 : b1.sys.mstate = b.sys.mstate := (hp ..).trans (hp ..)
  clear_value b1
  have h2 : b2.sys.mstate = b1.sys.mstate := by rw [onCell_mstate, onSeg_mstate]
  clear_value b2
  have h3 : b3.sys = b2.sys := onSegBal_sys ..
  clear_value b3 agrees low' high'
  split
  · rfl
  · split
    · rfl
    · split
      · rw [note_sys]
      · rw [Block.touch_sys, h3, h2, h1]
end Sys2Proof.Machine

namespace Sys2Proof.Machine

/-- What clause 1 of the obligation says of the module state before a step and after it. -/
def MState.follows (o n : MState) : Prop := o.mayPass n = true ∧ (n = .hibernate → o = .hibernate ∨ o = .park)

/-- The module may pass from one state to the other, and on to wherever it may sink from there. -/
def MState.goes (o n : MState) : Prop := ∀ m, n.sinks m → o.follows m

theorem MState.goes.follows {o n : MState} (h : o.goes n) : o.follows n := h n (.refl n)

theorem MState.goes.sinks {o n m : MState} (h : o.goes n) (k : n.sinks m) : o.goes m := fun x hx => h x (k.trans hx)

theorem MState.sinks.goes {o n : MState} (h : o.sinks n) : o.goes n := fun m hm => by
  rcases h.trans hm with rfl | rfl | ⟨rfl, h⟩
  · exact ⟨by cases m <;> rfl, fun e => .inl e⟩
  · exact ⟨by cases o <;> rfl, nofun⟩
  · exact ⟨by rcases h with rfl | rfl | rfl | rfl <;> rfl, nofun⟩

theorem MState.goes_of_eq {o n : MState} (h : n = o) : o.goes n := (h ▸ MState.sinks.refl o : o.sinks n).goes

/-- PARK is entered from every powered state; from SAFE the module does not pass on to FAULT (R19). -/
theorem MState.goes_park {o : MState} (hoff : o ≠ .off) (hsafe : o ≠ .safe) : o.goes .park := by
  rintro m (rfl | rfl | ⟨rfl, -⟩) <;> cases o <;> simp_all [MState.follows, MState.mayPass]

theorem MState.goes_run : MState.park.goes .run := by
  rintro m (rfl | rfl | ⟨rfl, -⟩) <;> simp [MState.follows, MState.mayPass]

theorem MState.goes_hibernate : MState.park.goes .hibernate := by
  rintro m (rfl | rfl | ⟨rfl, -⟩) <;> simp [MState.follows, MState.mayPass]

theorem MState.goes_off (o : MState) : o.goes .off := by
  rintro m (rfl | rfl | ⟨rfl, h⟩)
  · exact ⟨by cases o <;> rfl, nofun⟩
  · exact ⟨by cases o <;> rfl, nofun⟩
  · simp at h

/-- Where a command's effect may leave the module: a state it may pass to and sink from, or PARK from SAFE while no Full-Open waits, which nothing takes to FAULT in the same step. -/
def Block.lands (o : MState) (b : Block) : Prop := o.goes b.sys.mstate ∨ o = .safe ∧ b.sys.mstate = .park ∧ b.sec.fullDue = none

theorem MState.sinks.lands {o : MState} {b : Block} (h : o.sinks b.sys.mstate) : b.lands o := .inl h.goes

theorem Block.lands_of_eq {o : MState} {b : Block} (h : b.sys.mstate = o) : b.lands o := .inl (MState.goes_of_eq h)

/-- A change to PARK from a powered state, with no Full-Open waiting. -/
theorem Block.lands_park {o : MState} {b : Block} (hoff : o ≠ .off) (h : b.sys.mstate = .park) (hd : b.sec.fullDue = none) : b.lands o := by
  by_cases hs : o = .safe
  · exact .inr ⟨hs, h, hd⟩
  · exact .inl (h ▸ MState.goes_park hoff hs)

/-- What reads as the same module state and the same waiting Full-Open lands alike. -/
theorem Block.lands.congr {o : MState} {b c : Block} (h : b.lands o) (hm : c.sys.mstate = b.sys.mstate) (hs : c.sec.fullDue = b.sec.fullDue) : c.lands o := by
  unfold Block.lands at *
  rwa [hm, hs]

/-- The interlock takes the module to SAFE, or leaves its state. -/
theorem interlock_mstate_or (b : Block) : (interlock b).sys.mstate = b.sys.mstate ∨ (interlock b).sys.mstate = .safe := by
  unfold interlock lockState
  rw [lockGates_mstate]
  split
  · unfold enterState
    rw [changeState_mstate]
    split
    · exact .inl (by simp)
    · exact .inr rfl
  · exact .inl (by simp)

theorem debugWatch_mstate_of_none {b : Block} (h : b.sec.fullDue = none) : (debugWatch b).sys.mstate = b.sys.mstate := by
  unfold debugWatch resolveFullOpen
  rw [h]
  dsimp only
  split
  · rfl
  · rfl

/-- Where a command's effect lands, the command with its hardware's sequel may pass (R19). -/
theorem Block.lands.follows {o : MState} {b : Block} (s : Block) (h : b.lands o) : o.follows (irqWatch s (interlock (debugWatch b))).sys.mstate := by
  rw [irqWatch_sys]
  rcases h with h | ⟨rfl, hp, hd⟩
  · have hw : b.sys.mstate.sinks (debugWatch b).sys.mstate := debugWatch_sinks (.refl _)
    rcases interlock_mstate_or (debugWatch b) with e | e <;> rw [e]
    · exact h _ hw
    · exact h _ (.safe _)
  · rcases interlock_mstate_or (debugWatch b) with e | e <;> rw [e]
    · rw [debugWatch_mstate_of_none hd, hp]
      exact ⟨rfl, nofun⟩
    · exact ⟨rfl, nofun⟩

/-! ### Waking from HIBERNATE -/

/-- Where a module may be after an input, a frame or an engine that may wake it: where it sinks, or as from PARK if it was in HIBERNATE (R22). -/
def MState.stirs (o n : MState) : Prop := o.sinks n ∨ o = .hibernate ∧ MState.park.sinks n

theorem MState.stirs.refl (o : MState) : o.stirs o := .inl (.refl o)

theorem MState.stirs.goes {o n : MState} (h : o.stirs n) : o.goes n := by
  rcases h with h | ⟨rfl, h⟩
  · exact h.goes
  · exact (MState.goes_park (by simp) (by simp)).sinks h

theorem MState.stirs.sinks {o n m : MState} (h : o.stirs n) (k : n.sinks m) : o.stirs m := by
  rcases h with h | ⟨e, h⟩
  · exact .inl (h.trans k)
  · exact .inr ⟨e, h.trans k⟩

theorem MState.stirs.park {o : MState} (h : o.stirs .hibernate) : o.stirs .park := by
  rcases h with (h | h | ⟨h, -⟩) | ⟨-, h | h | ⟨h, -⟩⟩
  · exact .inr ⟨h.symm, .refl _⟩
  all_goals cases h

end Sys2Proof.Machine

namespace Sys2Proof.Machine

/-! ### Commands that wake the module (R22) -/

/-- A command that wakes stirs: it enters PARK from HIBERNATE, or leaves the state. -/
theorem enterState_park_stirs {o : MState} (cause : Nat) {b c : Block} (h : o.stirs b.sys.mstate) (hib : b.sys.mstate = .hibernate)
    (hc : c.sys.mstate = b.sys.mstate) : o.stirs (enterState .park cause c).sys.mstate := by
  unfold enterState
  rw [changeState_mstate, hc]
  split
  · exact h
  · exact (hib ▸ h).park

theorem wakeByInput_stirs {o : MState} {b : Block} (h : o.stirs b.sys.mstate) : o.stirs (wakeByInput b).sys.mstate := by
  unfold wakeByInput
  split
  · next hb => exact enterState_park_stirs _ h hb (noteWake_mstate ..)
  · exact h

theorem doWakeCurrent_stirs {o : MState} {b : Block} (h : o.stirs b.sys.mstate) : o.stirs (doWakeCurrent b).sys.mstate := by
  unfold doWakeCurrent
  split
  · next hb => exact enterState_park_stirs _ h hb (noteWake_mstate ..)
  · exact h

theorem doSiChannelChange_stirs {o : MState} (i c : Nat) (high : Bool) (count : Nat) {b : Block} (h : o.stirs b.sys.mstate) :
    o.stirs (doSiChannelChange i c high count b).sys.mstate := by
  unfold doSiChannelChange
  extract_lets b1 b2
  have h1 : o.stirs b1.sys.mstate := h
  have h2 : o.stirs b2.sys.mstate := by
    simp only [b2]
    rwa [onChan_mstate]
  clear_value b2 b1
  split
  · exact h1
  · dsimp only
    split
    · exact h1
    · split
      · exact h2
      · split
        · rw [chanRise_mstate]
          exact wakeByInput_stirs h2
        · rw [chanFall_mstate]
          exact wakeByInput_stirs h2

theorem doSiMaskEnd_stirs {o : MState} (i c : Nat) {b : Block} (h : o.stirs b.sys.mstate) : o.stirs (doSiMaskEnd i c b).sys.mstate := by
  unfold doSiMaskEnd
  split
  · exact h
  · dsimp only
    split
    · exact h
    · next e _ =>
      have h1 (f) : o.stirs (onChan i c f (b.at e)).sys.mstate := by
        rw [onChan_mstate]
        exact h
      split
      · split
        · rw [chanRise_mstate]
          exact wakeByInput_stirs (h1 _)
        · exact h1 _
      · split
        · rw [chanFall_mstate]
          exact wakeByInput_stirs (h1 _)
        · split
          · exact (h1 _).sinks (makeDemand_sinks _ _ _ (.refl _))
          · exact h1 _

theorem takeWake_stirs {o : MState} (k : Nat) (d : List Byte) {b : Block} (h : o.stirs b.sys.mstate) : o.stirs (takeWake k d b).sys.mstate := by
  unfold takeWake
  dsimp only
  split
  · next hb => exact enterState_park_stirs _ h hb.1 (noteWake_mstate ..)
  · exact h

theorem takePartner_stirs {o : MState} (k : Nat) (f : CanFrame) {b : Block} (h : o.stirs b.sys.mstate) : o.stirs (takePartner k f b).sys.mstate := by
  unfold takePartner
  dsimp only
  split
  · rwa [takeAnnounce_mstate]
  · rwa [takeHeartbeat_mstate]
  · exact takeWake_stirs k _ h
  · exact h

theorem doCanFrameRx_stirs {o : MState} (k : Nat) (f : CanFrame) (ts : Nat) {b : Block} (h : o.stirs b.sys.mstate) :
    o.stirs (doCanFrameRx k f ts b).sys.mstate := by
  unfold doCanFrameRx
  extract_lets b0 b1 c m
  have h0 : o.stirs b0.sys.mstate := h
  have h1 : o.stirs b1.sys.mstate := by
    simp only [b1]
    rwa [onCan_mstate]
  clear_value m c b1 b0
  split
  · exact h0
  · split
    · split
      · exact takePartner_stirs k f h1
      · rwa [onCan_mstate]
    · split
      · rwa [storeRq1_mstate]
      · exact h1

theorem foldl_stirs {α : Type} {o : MState} {f : Block → α → Block} (h : ∀ (b : Block) x, o.stirs b.sys.mstate → o.stirs (f b x).sys.mstate) (l : List α) {b : Block}
    (hb : o.stirs b.sys.mstate) : o.stirs (l.foldl f b).sys.mstate := by
  induction l generalizing b with
  | nil => exact hb
  | cons x l ih => exact ih (h b x hb)

theorem drainPartners_stirs {o : MState} (k : Nat) {b : Block} (h : o.stirs b.sys.mstate) : o.stirs (drainPartners k b).sys.mstate :=
  foldl_stirs (fun _ f hb => takePartner_stirs k f hb) _ (by rwa [onCan_mstate])

/-- An engine that comes up stirs: N0 takes the partner frames that waited (R392). -/
theorem engineUp_stirs {o : MState} (e : Engine) {b : Block} (h : o.stirs b.sys.mstate) : o.stirs (engineUp e b).sys.mstate := by
  unfold engineUp
  cases e
  case n0 =>
    dsimp only
    split
    · exact h
    · exact drainPartners_stirs 1 (drainPartners_stirs 0 (by rwa [setSvc_mstate]))
  all_goals
    dsimp only
    repeat' split
    all_goals simpa using h

theorem restartTouched_stirs {o : MState} (i : Nat) {b : Block} (h : o.stirs b.sys.mstate) : o.stirs (restartTouched i b).sys.mstate := by
  unfold restartTouched
  split
  · exact h
  · split
    · split
      · rwa [startPolicy_mstate, stopPolicy_mstate]
      · exact h
    · exact engineUp_stirs _ (h.sinks (engineDown_sinks _ (by rw [setHalted_mstate]; exact .refl _)))

theorem doDebugCloseDone_stirs {o : MState} {b : Block} (h : o.stirs b.sys.mstate) : o.stirs (doDebugCloseDone b).sys.mstate := by
  unfold doDebugCloseDone
  split
  · exact h
  · extract_lets mask b1 b2
    have h1 : o.stirs b1.sys.mstate := foldl_stirs (fun _ i hb => restartTouched_stirs i hb) _ h
    clear_value b1
    simpa [b2] using h1

theorem doEngineRestartDone_stirs {o : MState} (e : Engine) {b : Block} (h : o.stirs b.sys.mstate) : o.stirs (doEngineRestartDone e b).sys.mstate := by
  unfold doEngineRestartDone
  split
  · exact h
  · exact engineUp_stirs e h

/-! ### Boot (R19, R470) -/

theorem bootToPark_goes {o : MState} {b : Block} (h : o.sinks b.sys.mstate) : o.goes (bootToPark b).sys.mstate := by
  unfold bootToPark enterState
  split
  · next hb =>
    rw [changeState_mstate]
    split
    · exact h.goes
    · rw [hb.1] at h
      rcases h with rfl | h | ⟨h, -⟩
      · exact MState.goes_park (by simp) (by simp)
      all_goals cases h
  · exact h.goes

theorem doLeadReadyRequest_goes (b : Block) : b.sys.mstate.goes (doLeadReadyRequest b).sys.mstate := by
  unfold doLeadReadyRequest
  extract_lets b0
  have h0 : b.sys.mstate.sinks b0.sys.mstate := by
    simp only [b0]
    split <;> exact .refl _
  clear_value b0
  split
  · exact h0.goes
  · split
    · exact (execFn_sinks _ _ _ _ (foldl_sinks (fun _ _ hb => by simpa using hb) _ h0)).goes
    · split
      · exact (execFn_sinks _ _ _ _ (by simpa using h0)).goes
      · split
        · exact (execFn_sinks _ _ _ _ (by simpa using h0)).goes
        · split
          · rw [settleLatch_sys]
            exact (execFn_sinks _ _ _ _ h0).goes
          · exact bootToPark_goes (by simpa using h0)

theorem loadTarget_sinks {o : MState} (t : Nat) {b : Block} (h : o.sinks b.sys.mstate) : o.sinks (loadTarget t b).sys.mstate := by
  unfold loadTarget
  dsimp only
  split
  · rwa [foldl_mstate _ (fun b e => setSvc_mstate e true b)]
  · split
    · simpa using h
    · exact raise_sinks _ _ _ (by simpa using h)

theorem doEngineLoadDone_goes (b : Block) : b.sys.mstate.goes (doEngineLoadDone b).sys.mstate := by
  unfold doEngineLoadDone
  split
  · exact MState.goes_of_eq rfl
  · extract_lets slot bad trial b1 b2 b3 b4 b5 rec b6 b7
    have hl (l : List Nat) : b.sys.mstate.sinks (l.foldl (fun b t => loadTarget t b) b).sys.mstate := foldl_sinks (fun _ t hb => loadTarget_sinks t hb) l (.refl _)
    have h1 : b.sys.mstate.sinks b1.sys.mstate := by
      simp only [b1]
      exact hl _
    clear_value b1
    have h2 : b2.sys.mstate = b1.sys.mstate := by simp [b2]
    clear_value b2
    have h3 : b3.sys.mstate = b2.sys.mstate := by simp [b3]
    clear_value b3
    have h4 : b4.sys.mstate = b3.sys.mstate := by simp [b4]
    clear_value b4
    have h5 : b5.sys.mstate = b4.sys.mstate := by simp [b5]
    clear_value rec b5
    have h6 : b6.sys.mstate = b5.sys.mstate := mstate_ite (by simp) rfl
    clear_value b6
    have h7 : b7.sys.mstate = b6.sys.mstate := mstate_ite (by simp) rfl
    clear_value b7
    exact bootToPark_goes (by rwa [h7, h6, h5, h4, h3, h2])

theorem doPowerStart_of_ne_off {b : Block} (h : b.sys.mstate ≠ .off) : doPowerStart b = b := by
  unfold doPowerStart
  rw [if_pos h]

theorem doCtlShutdown_goes {o : MState} (torn : Bool) {b : Block} (h : o = b.sys.mstate) : o.goes (doCtlShutdown torn b).sys.mstate := by
  unfold doCtlShutdown
  split
  · exact MState.goes_of_eq h.symm
  · exact MState.goes_off o

/-! ### The end of RUN, and a reset (R234, R306) -/

/-- A change of state that lands: at once to PARK from a powered state, or deferred. -/
theorem changeState_park_lands {o : MState} (cause : Nat) (op : List Nat) {b : Block} (hoff : o ≠ .off) (h : o.sinks b.sys.mstate) (hd : b.sec.fullDue = none) :
    (changeState .park cause op b).lands o := by
  by_cases hh : b.hinge = true
  · exact MState.sinks.lands (by rwa [changeState_mstate, if_pos hh])
  · exact Block.lands_park hoff (by rw [changeState_mstate, if_neg hh]) (by rwa [changeState_sec])

theorem endSoftstop_lands {o : MState} {b : Block} (hoff : o ≠ .off) (h : o.sinks b.sys.mstate) (hd : b.sec.fullDue = none) : (endSoftstop b).lands o := by
  unfold endSoftstop
  extract_lets src b1 b2
  have h2 : b2.lands o := changeState_park_lands _ _ hoff (by simpa [b1] using h) (by simpa [b1] using hd)
  clear_value b2 src
  cases src
  · exact h2
  · exact h2.congr (by simp) (by simp)

theorem doSoftstopEnd_lands {b : Block} (hoff : b.sys.mstate ≠ .off) (hd : b.sec.fullDue = none) : (doSoftstopEnd b).lands b.sys.mstate := by
  unfold doSoftstopEnd
  split
  · split
    · exact endSoftstop_lands hoff (.refl _) hd
    · exact endSoftstop_lands hoff (.refl _) hd
  · exact Block.lands_of_eq rfl

theorem applyReset_lands {o : MState} (src : Option Src) {b : Block} (hoff : o ≠ .off) (h : o.sinks b.sys.mstate) (hd : b.sec.fullDue = none) :
    (applyReset src b).lands o := by
  unfold applyReset
  extract_lets b1 b2 b3 b4 b5 b6
  have h5 : o.sinks b5.sys.mstate := by simpa [b5, b4, b3, b2, b1] using h
  have d5 : b5.sec.fullDue = none := by simpa [b5, b4, b3, b2, b1] using hd
  clear_value b5
  have h6 : b6.lands o := by
    simp only [b6]
    split
    · split
      · exact changeState_park_lands _ _ hoff h5 d5
      · exact changeState_park_lands _ _ hoff h5 d5
    · exact h5.lands
  clear_value b6
  split
  · exact h6.congr (by simp) (by simp)
  · exact h6.congr (by simp) (by simp)

theorem tryReset_lands {o : MState} (src : Option Src) (ok : Bool) {b : Block} (hoff : o ≠ .off) (h : o.sinks b.sys.mstate) (hd : b.sec.fullDue = none) :
    (tryReset src ok b).lands o := by
  unfold tryReset
  split
  · exact MState.sinks.lands (by rwa [denyReset_mstate])
  · split
    · exact MState.sinks.lands (by simpa using h)
    · exact applyReset_lands src hoff h hd

theorem doBarkLineReleased_lands {b : Block} (hoff : b.sys.mstate ≠ .off) (hd : b.sec.fullDue = none) : (doBarkLineReleased b).lands b.sys.mstate := by
  unfold doBarkLineReleased
  split
  · exact Block.lands_of_eq rfl
  · extract_lets b1
    have h1 : b1.sys.mstate = b.sys.mstate := by simp [b1]
    have d1 : b1.sec.fullDue = none := by simpa [b1] using hd
    clear_value b1
    split
    · exact applyReset_lands _ hoff (h1 ▸ .refl _) d1
    · exact Block.lands_of_eq h1

theorem doSrstFall_lands (count : Nat) {b : Block} (hoff : b.sys.mstate ≠ .off) (hd : b.sec.fullDue = none) : (doSrstFall count b).lands b.sys.mstate := by
  unfold doSrstFall
  extract_lets b1 held b2
  have h1 : b1.sys.mstate = b.sys.mstate := rfl
  have d1 : b1.sec.fullDue = none := hd
  have h2 : b2.sys.mstate = b.sys.mstate := by simpa [b2] using h1
  have d2 : b2.sec.fullDue = none := by simpa [b2] using d1
  clear_value b2 held b1
  split
  · exact Block.lands_of_eq h1
  · split
    · exact Block.lands_of_eq h2
    · split
      · exact tryReset_lands none true hoff (h2 ▸ .refl _) d2
      · split
        · exact Block.lands_of_eq h2
        · exact Block.lands_of_eq h2

end Sys2Proof.Machine

namespace Sys2Proof.Machine

/-! ### Host commands (R329, R343) -/

/-- Once its state check has passed, a host command lands: said of every block in the module state `o`, with no Full-Open waiting. -/
def HostRule.Lands (o : MState) (r : HostRule) : Prop :=
  r.stateOk = true → ∀ b : Block, b.sys.mstate = o → b.sec.fullDue = none → (r.act b).lands o

theorem HostRule.Lands.of_mstate {o : MState} {r : HostRule} (h : ∀ b : Block, (r.act b).sys.mstate = b.sys.mstate) : r.Lands o :=
  fun _ b hb _ => Block.lands_of_eq ((h b).trans hb)

theorem HostRule.Lands.of_sinks {o : MState} {r : HostRule} (h : ∀ b : Block, b.sys.mstate.sinks (r.act b).sys.mstate) : r.Lands o :=
  fun _ b hb _ => MState.sinks.lands (hb ▸ h b)

/-- A state change on request lands where the table lets the module pass. -/
theorem enterByCommand_goes {o m : MState} (op : Nat) {b : Block} (hb : b.sys.mstate = o) (h : o.goes m) : o.goes (enterByCommand m op b).sys.mstate := by
  unfold enterByCommand
  rw [changeState_mstate]
  split
  · exact MState.goes_of_eq hb
  · exact h

theorem ruleSysRun_lands (src : Src) (b : Block) : (ruleSysRun src b).Lands b.sys.mstate := by
  intro hok blk hb _
  have hp : b.sys.mstate = .park := by
    simp only [ruleSysRun, Block.runOk, Bool.and_eq_true, decide_eq_true_eq] at hok
    exact hok.1.1.1.1.1.1
  left
  simp only [ruleSysRun, complete_sys]
  exact enterByCommand_goes _ hb (hp ▸ MState.goes_run)

theorem ruleSysHibernate_lands (src : Src) (b : Block) : (ruleSysHibernate src b).Lands b.sys.mstate := by
  intro hok blk hb _
  have hp : b.sys.mstate = .park := by simpa [ruleSysHibernate] using hok
  left
  simp only [ruleSysHibernate, complete_sys]
  exact enterByCommand_goes _ hb (hp ▸ MState.goes_hibernate)

theorem ruleSysFaultClear_lands (src : Src) (b : Block) : (ruleSysFaultClear src b).Lands b.sys.mstate := by
  intro hok blk hb _
  have hf : b.sys.mstate = .fault := by simpa [ruleSysFaultClear] using hok
  left
  simp only [ruleSysFaultClear]
  split
  · simpa using MState.goes_of_eq hb
  · split
    · simpa using MState.goes_of_eq hb
    · rw [complete_sys]
      exact enterByCommand_goes _ (by simpa using hb) (hf ▸ MState.goes_park (by simp) (by simp))

theorem ruleSysWake_lands (src : Src) (b : Block) : (ruleSysWake src b).Lands b.sys.mstate := by
  intro hok blk hb _
  have hh : b.sys.mstate = .hibernate := by simpa [ruleSysWake] using hok
  left
  simp only [ruleSysWake, complete_sys]
  exact enterByCommand_goes _ (by rwa [noteWake_mstate]) (hh ▸ MState.goes_park (by simp) (by simp))

theorem ruleSafeReset_lands (src : Src) (b : Block) : (ruleSafeReset src b).Lands b.sys.mstate := by
  intro hok blk hb hd
  have hs : b.sys.mstate = .safe := by simpa [ruleSafeReset] using hok
  exact tryReset_lands _ _ (by simp [hs]) (hb ▸ .refl _) hd

theorem ruleSafeTest_lands {o : MState} (src : Src) (act opt compPass : Nat) (b : Block) : (ruleSafeTest src act opt compPass b).Lands o := by
  refine .of_sinks fun blk => ?_
  simp only [ruleSafeTest]
  split
  · rw [complete_sys, endProof_mstate]
    exact .refl _
  · split
    · rw [complete_sys]
      exact beginProof_sinks _ _ (.refl _)
    · rw [complete_sys]
      exact .refl _

theorem ruleCnvPhaseCtrl_lands {o : MState} (src : Src) (phase action : Nat) (b : Block) : (ruleCnvPhaseCtrl src phase action b).Lands o := by
  refine .of_sinks fun blk => ?_
  simp only [ruleCnvPhaseCtrl, Block.touch_sys, complete_sys]
  split
  · exact phaseOut_sinks _ _ (.refl _)
  · rw [setPhase_sys, onPhase_sys]
    exact .refl _

theorem ruleSecDebugSet_lands {o : MState} (src : Src) (state minutes signer : Nat) (key sig : List Byte) (b : Block) :
    (ruleSecDebugSet src state minutes signer key sig b).Lands o := by
  refine .of_sinks fun blk => ?_
  simp only [ruleSecDebugSet]
  split
  · rw [complete_sys]
    split <;> exact .refl _
  · split
    · rw [complete_sys]
      exact .refl _
    · exact openDebug_sinks _ _ _ _ _ _ (.refl _)

/-! ### The requests that an opcode spells (R343) -/

@[simp] theorem within_act (ok : Bool) (r : HostRule) : (within ok r).act = r.act := rfl

/-- Every request of a list lands, whatever block its command is judged in. -/
def RequestsLand (l : List Request) : Prop := ∀ r ∈ l, ∀ b : Block, b.sys.mstate ≠ .off → (r.rule b).Lands b.sys.mstate

theorem RequestsLand.of_mstate {l : List Request} (h : ∀ r ∈ l, ∀ b blk, ((r.rule b).act blk).sys.mstate = blk.sys.mstate) : RequestsLand l :=
  fun r hr b _ => .of_mstate (h r hr b)

theorem requestsLand_cons {r : Request} {l : List Request} : RequestsLand (r :: l) ↔ (∀ b : Block, b.sys.mstate ≠ .off → (r.rule b).Lands b.sys.mstate) ∧ RequestsLand l :=
  List.forall_mem_cons

theorem requestsLand_nil : RequestsLand [] := nofun

theorem imgRequests_land (src : Src) (d : List Byte) : RequestsLand (imgRequests src d) := .of_mstate (by simp [imgRequests])
theorem senseRequests_land (src : Src) (d : List Byte) : RequestsLand (senseRequests src d) := .of_mstate (by simp [senseRequests])
theorem balRequests_land (src : Src) (d : List Byte) : RequestsLand (balRequests src d) := .of_mstate (by simp [balRequests])
theorem fltRequests_land (src : Src) (d : List Byte) : RequestsLand (fltRequests src d) := .of_mstate (by simp [fltRequests])
theorem impRequests_land (src : Src) (d : List Byte) : RequestsLand (impRequests src d) := .of_mstate (by simp [impRequests])
theorem loopRequests_land (src : Src) (d : List Byte) : RequestsLand (loopRequests src d) := .of_mstate (by simp [loopRequests])
theorem netRequests_land (src : Src) (d : List Byte) : RequestsLand (netRequests src d) := .of_mstate (by simp [netRequests])
theorem updRequests_land (src : Src) (d : List Byte) : RequestsLand (updRequests src d) := .of_mstate (by simp [updRequests])
theorem logRequests_land (src : Src) (d : List Byte) : RequestsLand (logRequests src d) := .of_mstate (by simp [logRequests])

theorem sysRequests_land (src : Src) (d : List Byte) : RequestsLand (sysRequests src d) := by
  simp only [sysRequests, requestsLand_cons]
  refine ⟨?_, ?_, ?_, ?_, ?_, ?_, ?_, fun b _ => ruleSysRun_lands src b, ?_, fun b _ => ruleSysHibernate_lands src b, fun b _ => ruleSysFaultClear_lands src b,
    fun b _ => ruleSysWake_lands src b, requestsLand_nil⟩
  all_goals exact fun b _ => .of_mstate (by simp)

theorem cnvRequests_land (src : Src) (d : List Byte) : RequestsLand (cnvRequests src d) := by
  simp only [cnvRequests, requestsLand_cons]
  refine ⟨?_, ?_, ?_, ?_, ?_, ?_, ?_, ?_, fun b _ => ruleCnvPhaseCtrl_lands src _ _ b, ?_, requestsLand_nil⟩
  all_goals exact fun b _ => .of_mstate (by simp)

theorem safeRequests_land (src : Src) (d : List Byte) : RequestsLand (safeRequests src d) := by
  simp only [safeRequests, requestsLand_cons]
  refine ⟨fun b _ => ruleSafeReset_lands src b, ?_, ?_, ?_, ?_, ?_, ?_, ?_, ?_, fun b _ => ruleSafeTest_lands src _ _ _ b, requestsLand_nil⟩
  all_goals exact fun b _ => .of_mstate (by simp)

theorem secRequests_land (src : Src) (d : List Byte) : RequestsLand (secRequests src d) := by
  simp only [secRequests, requestsLand_cons]
  refine ⟨?_, ?_, fun b _ => ruleSecDebugSet_lands src _ _ _ _ _ b, ?_, ?_, ?_, requestsLand_nil⟩
  all_goals exact fun b _ => .of_mstate (by simp)

theorem requestsOf_land (src : Src) (d : List Byte) (group : Nat) : RequestsLand (requestsOf src d group) := by
  unfold requestsOf
  split
  · exact sysRequests_land src d
  · exact imgRequests_land src d
  · exact senseRequests_land src d
  · exact balRequests_land src d
  · exact fltRequests_land src d
  · exact impRequests_land src d
  · exact cnvRequests_land src d
  · exact loopRequests_land src d
  · exact safeRequests_land src d
  · exact netRequests_land src d
  · exact updRequests_land src d
  · exact logRequests_land src d
  · exact secRequests_land src d
  · exact requestsLand_nil

/-- The command of a request that an opcode and its data spell lands. -/
theorem requestOf_lands {src : Src} {op : Nat} {d : List Byte} {r : Request} (h : requestOf src op d = some r) {b : Block} (hoff : b.sys.mstate ≠ .off) :
    (r.rule b).Lands b.sys.mstate :=
  requestsOf_land src d _ r (List.mem_of_find?_eq_some h) b hoff

/-! ### Judging a request (R329, R330, R341) -/

theorem stateOk_of_checkRule {src : Src} {r : HostRule} {b : Block} (h : checkRule src r b = none) : r.stateOk = true := by
  by_contra hn
  rw [Bool.not_eq_true] at hn
  unfold checkRule at h
  rw [hn] at h
  repeat' split at h
  all_goals simp_all

/-- A request whose command passed its checks lands, at once or in wait for the end of a pause. -/
theorem takeRequest_lands {o : MState} (src : Src) {r : HostRule} (params : List Byte) {b : Block} (hr : r.Lands o) (hok : r.stateOk = true) (hb : b.sys.mstate = o)
    (hd : b.sec.fullDue = none) : (takeRequest src r params b).lands o := by
  unfold takeRequest
  dsimp only
  split
  · exact Block.lands_of_eq (by simpa using hb)
  · exact hr hok _ (by simpa using hb) (by simpa using hd)

theorem judgeRequest_lands {o : MState} (src : Src) {r : HostRule} (params : List Byte) {b : Block} (hr : r.Lands o) (hb : b.sys.mstate = o)
    (hd : b.sec.fullDue = none) : (judgeRequest src r params b).lands o := by
  unfold judgeRequest
  split
  · exact Block.lands_of_eq (by simpa using hb)
  · split
    · exact Block.lands_of_eq (by simpa using hb)
    · next hc => exact takeRequest_lands src params hr (stateOk_of_checkRule hc) hb hd

theorem judgeSession_lands (i seq op : Nat) (d : List Byte) {b : Block} (hoff : b.sys.mstate ≠ .off) (hd : b.sec.fullDue = none) :
    (judgeSession i seq op d b).lands b.sys.mstate := by
  unfold judgeSession
  extract_lets b1 src
  have h1 : b1.sys.mstate = b.sys.mstate := rfl
  have d1 : b1.sec.fullDue = none := hd
  clear_value b1 src
  split
  · exact Block.lands_of_eq (by simpa using h1)
  · split
    · exact Block.lands_of_eq (by simpa using h1)
    · split
      · exact Block.lands_of_eq (by simpa using h1)
      · next r hr =>
        split
        · exact Block.lands_of_eq (by simpa using h1)
        · exact judgeRequest_lands src d (h1 ▸ requestOf_lands hr (h1 ▸ hoff)) h1 d1

theorem takeDatagram_lands (ip port : Nat) (p : List Byte) {b : Block} (hoff : b.sys.mstate ≠ .off) (hd : b.sec.fullDue = none) :
    (takeDatagram ip port p b).lands b.sys.mstate := by
  unfold takeDatagram
  extract_lets dropped op d
  split
  · exact Block.lands_of_eq rfl
  · split
    · exact Block.lands_of_eq rfl
    · split
      · exact Block.lands_of_eq (by simp)
      · split
        · exact Block.lands_of_eq (by simp)
        · split
          · split
            · exact Block.lands_of_eq (by simp)
            · exact Block.lands_of_eq (by simp)
          · split
            · exact Block.lands_of_eq (by simp)
            · exact judgeSession_lands _ _ _ _ hoff hd

theorem doIxrasDatagram_lands (ip port : Nat) (p : List Byte) {b : Block} (hd : b.sec.fullDue = none) : (doIxrasDatagram ip port p b).lands b.sys.mstate := by
  unfold doIxrasDatagram
  split
  · exact Block.lands_of_eq rfl
  · next hb =>
    split
    · exact Block.lands_of_eq rfl
    · exact takeDatagram_lands ip port p (fun h => hb (.inl h)) hd

theorem judgeEntry_lands (p k : Nat) {b : Block} (hoff : b.sys.mstate ≠ .off) (hd : b.sec.fullDue = none) : (judgeEntry p k b).lands b.sys.mstate := by
  unfold judgeEntry
  extract_lets src reject
  have hrej (st : Status) (addr : Nat) : (reject st addr).lands b.sys.mstate := Block.lands_of_eq (by simp [reject])
  clear_value reject
  split
  · exact hrej ..
  · split
    · exact hrej ..
    · split
      · exact hrej ..
      · split
        · exact hrej ..
        · split
          · exact hrej ..
          · next r hr =>
            split
            · exact hrej ..
            · split
              · exact hrej ..
              · next hc =>
                split
                · exact hrej ..
                · split
                  · exact hrej ..
                  · exact takeRequest_lands src _ (requestOf_lands hr hoff) (stateOk_of_checkRule hc) rfl hd

theorem doServiceEntry_lands (p : Nat) {b : Block} (hd : b.sec.fullDue = none) : (doServiceEntry p b).lands b.sys.mstate := by
  unfold doServiceEntry
  dsimp only
  split
  · exact Block.lands_of_eq rfl
  · next hb =>
    split
    · exact Block.lands_of_eq rfl
    · exact judgeEntry_lands p _ (fun h => hb (.inl h)) hd

/-! ### A command from a host (R341) -/

theorem mem_putInOrder {x y : Nat × Src × Nat × List Byte} {l : List (Nat × Src × Nat × List Byte)} : y ∈ putInOrder x l ↔ y = x ∨ y ∈ l := by
  induction l with
  | nil => simp [putInOrder]
  | cons z l ih =>
    unfold putInOrder
    split
    · simp
    · simp only [List.mem_cons, ih]
      tauto

theorem mem_foldr_putInOrder {y : Nat × Src × Nat × List Byte} {l : List (Nat × Src × Nat × List Byte)} : y ∈ l.foldr putInOrder [] ↔ y ∈ l := by
  induction l with
  | nil => simp
  | cons x l ih => rw [List.foldr_cons, mem_putInOrder, ih, List.mem_cons]

theorem foldr_putInOrder_eq_nil {l : List (Nat × Src × Nat × List Byte)} : l.foldr putInOrder [] = [] ↔ l = [] := by
  rw [List.eq_nil_iff_forall_not_mem, List.eq_nil_iff_forall_not_mem]
  simp only [mem_foldr_putInOrder]

theorem forall_mem_zipIdx_fst {α : Type} {l : List α} {p : α → Prop} : (∀ x ∈ l.zipIdx, p x.1) ↔ ∀ a ∈ l, p a :=
  List.forall_mem_zipIdx'.trans List.forall_mem_iff_getElem.symm

/-- Nothing waits to start when no entry of a cache runs unstarted and no command of a ring does. -/
theorem waitingRequests_eq_nil {b : Block} : b.waitingRequests = [] ↔
    (∀ n ∈ b.ix.sessions, ∀ e ∈ n.cache, e.running = true → e.started = true) ∧ ∀ e ∈ b.pol.engines, ∀ c ∈ e.ring.running, c.started = true := by
  unfold Block.waitingRequests
  rw [foldr_putInOrder_eq_nil, List.append_eq_nil_iff, List.flatMap_eq_nil_iff, List.flatMap_eq_nil_iff]
  simp only [List.map_eq_nil_iff, List.filter_eq_nil_iff, List.mem_reverse]
  refine and_congr ((forall_mem_zipIdx_fst (p := fun n : Session => ∀ e ∈ n.cache, ¬(e.running && !e.started) = true)).trans ?_)
    ((forall_mem_zipIdx_fst (p := fun e : PolEngine => ∀ c ∈ e.ring.running, ¬(!c.started) = true)).trans ?_)
  · simp
  · simp

/-- A request waits that was accepted and has not started: with none waiting, none was accepted earlier. -/
theorem acceptedEarlier_eq_false {b : Block} (h : b.waitingRequests = []) (src : Src) (op : Nat) : b.acceptedEarlier src op = false := by
  obtain ⟨hs, hp⟩ := waitingRequests_eq_nil.mp h
  cases src with
  | session i seq =>
    unfold Block.acceptedEarlier
    dsimp only
    split
    · next e he =>
      have hm : e ∈ (b.session i).cache := List.mem_of_find?_eq_some he
      have hi : ∀ e ∈ (b.session i).cache, e.running = true → e.started = true := by
        unfold Block.session
        rw [List.getD_eq_getElem?_getD]
        cases hx : b.ix.sessions[i]? with
        | none => simp [Session.closed]
        | some n => exact hs n (List.mem_of_getElem? hx)
      have := hi e hm
      cases hr : e.running <;> simp_all
    · rfl
  | engine p k =>
    unfold Block.acceptedEarlier
    have hr : ∀ c ∈ (b.pe p).ring.running, c.started = true := by
      unfold Block.pe
      rw [List.getD_eq_getElem?_getD]
      cases hx : b.pol.engines[p]? with
      | none => simp [PolEngine.reset, Ring.reset]
      | some e => exact hp e (List.mem_of_getElem? hx)
    simp only [List.any_eq_false]
    intro c hc
    simp [hr c hc]

theorem runHost_lands {o : MState} (src : Src) {r : HostRule} {b : Block} (hr : r.Lands o) (hb : b.sys.mstate = o) (hd : b.sec.fullDue = none)
    (hw : b.waitingRequests = []) : (runHost src r b).lands o := by
  unfold runHost
  rw [acceptedEarlier_eq_false hw]
  split
  · exact Block.lands_of_eq (by simpa using hb)
  · rw [if_neg (by simp)]
    split
    · split
      · exact Block.lands_of_eq (by simpa using hb)
      · exact judgeRequest_lands _ _ hr hb hd
    · exact judgeRequest_lands _ _ hr hb hd

/-- A host command lands when its rule does. -/
theorem host_lands (src : Src) {rule : Block → HostRule} {b : Block} (hr : (rule b).Lands b.sys.mstate) (hd : b.sec.fullDue = none) (hw : b.waitingRequests = []) :
    (host src rule b).lands b.sys.mstate :=
  runHost_lands src hr rfl hd hw

end Sys2Proof.Machine

namespace Sys2Proof.Machine

/-- A host command keeps the module state when its rule does, whatever became of its checks. -/
@[simp] theorem host_mstate (src : Src) {rule : Block → HostRule} {b : Block} (h : ∀ blk : Block, ((rule b).act blk).sys.mstate = blk.sys.mstate) :
    (host src rule b).sys.mstate = b.sys.mstate := by
  have ht (params : List Byte) : (takeRequest src (rule b) params b).sys.mstate = b.sys.mstate := by
    unfold takeRequest
    dsimp only
    split
    · simp
    · simp [h]
  have hj (params : List Byte) : (judgeRequest src (rule b) params b).sys.mstate = b.sys.mstate := by
    unfold judgeRequest
    split
    · simp
    · split
      · simp
      · exact ht params
  unfold host runHost
  split
  · simp
  · split
    · split
      · rfl
      · simp [h]
    · split
      · split
        · simp
        · exact hj _
      · exact hj _

/-- Without a hold, its end and its limit are nothing (R454). -/
theorem doHingeHoldEnd_of_no_hold {b : Block} (h : b.pwr.hold = none) : doHingeHoldEnd b = b := by
  unfold doHingeHoldEnd
  rw [h]

theorem doHingeHoldLimit_of_no_hold {b : Block} (h : b.pwr.hold = none) : doHingeHoldLimit b = b := by
  unfold doHingeHoldLimit
  rw [h]

/-- Every command lands in a state that the table lets the module pass to: most leave the module state, some sink, a few wake the module, end BOOT, end RUN or reset the Latch (R19). -/
theorem exec_lands (i : Instr) (s : State) (hoff : s.block.sys.mstate ≠ .off) (hh : s.block.pwr.hold = none) (hw : s.block.waitingRequests = [])
    (hd : s.block.sec.fullDue = none) : ∃ f, exec i s = effect f s ∧ (f s.block).lands s.block.sys.mstate := by
  cases i
  case powerStart => exact ⟨_, rfl, Block.lands_of_eq (by rw [doPowerStart_of_ne_off hoff])⟩
  case engineLoadDone => exact ⟨_, rfl, .inl (doEngineLoadDone_goes _)⟩
  case leadReadyRequest => exact ⟨_, rfl, .inl (doLeadReadyRequest_goes _)⟩
  case engineRestartDone e => exact ⟨_, rfl, .inl (doEngineRestartDone_stirs e (.refl _)).goes⟩
  case debugCloseDone => exact ⟨_, rfl, .inl (doDebugCloseDone_stirs (.refl _)).goes⟩
  case wakeCurrent => exact ⟨_, rfl, .inl (doWakeCurrent_stirs (.refl _)).goes⟩
  case siMaskEnd i c => exact ⟨_, rfl, .inl (doSiMaskEnd_stirs _ _ (.refl _)).goes⟩
  case siChannelChange i c high count => exact ⟨_, rfl, .inl (doSiChannelChange_stirs _ _ high count (.refl _)).goes⟩
  case canFrameRx k f ts => exact ⟨_, rfl, .inl (doCanFrameRx_stirs _ f ts (.refl _)).goes⟩
  case softstopEnd => exact ⟨_, rfl, doSoftstopEnd_lands hoff hd⟩
  case srstFall count => exact ⟨_, rfl, doSrstFall_lands count hoff hd⟩
  case barkLineReleased => exact ⟨_, rfl, doBarkLineReleased_lands hoff hd⟩
  case ixrasDatagram ip port p => exact ⟨_, rfl, doIxrasDatagram_lands _ _ p hd⟩
  case serviceEntry p => exact ⟨_, rfl, doServiceEntry_lands _ hd⟩
  case ctlShutdown torn => exact ⟨_, rfl, .inl (doCtlShutdown_goes torn rfl)⟩
  case hingeHoldEnd => exact ⟨_, rfl, Block.lands_of_eq (by rw [doHingeHoldEnd_of_no_hold hh])⟩
  case hingeHoldLimit => exact ⟨_, rfl, Block.lands_of_eq (by rw [doHingeHoldLimit_of_no_hold hh])⟩
  case sysRun src => exact ⟨_, rfl, host_lands src (ruleSysRun_lands src _) hd hw⟩
  case sysHibernate src => exact ⟨_, rfl, host_lands src (ruleSysHibernate_lands src _) hd hw⟩
  case sysFaultClear src => exact ⟨_, rfl, host_lands src (ruleSysFaultClear_lands src _) hd hw⟩
  case sysWake src => exact ⟨_, rfl, host_lands src (ruleSysWake_lands src _) hd hw⟩
  case safeReset src => exact ⟨_, rfl, host_lands src (ruleSafeReset_lands src _) hd hw⟩
  case safeTest src act opt pass => exact ⟨_, rfl, host_lands src (ruleSafeTest_lands src _ _ _ _) hd hw⟩
  case cnvPhaseCtrl src phase action => exact ⟨_, rfl, host_lands src (ruleCnvPhaseCtrl_lands src _ _ _) hd hw⟩
  case secDebugSet src state minutes signer key sig => exact ⟨_, rfl, host_lands src (ruleSecDebugSet_lands src _ _ _ _ _ _) hd hw⟩
  case leashTrip | rungDown | leashLost | leashLossSsi | partFault | senseChannelFault | currentBothLost | externalBark | owtClassify | rollcall |
      uplinkFrame | ident | configAck | uplinkTimeout | rdyLoss | ocInput | phasePeriodStart | precheckTimeout | softstartTimeout | selftestDone |
      latchSelfcheck | latSupplyFall | pulseCheck | siDemand | tpFault | contactorWeld | contactorFailToClose | closeSeqSo3On | closeSeqPeakCheck |
      closeSeqPrechargeTimeout | closeSeqSo3Off | closeSeqDone | soTestFail | soMidpointCheck | engineCheckBlock | stringCurrentEscalation |
      floorCrcCheck | latchChallenge | lockstepMismatch | latchDisagree | feedAbsent | powerLost | configAckTimeout | wakeRollcallGraceEnd =>
    exact ⟨_, rfl, MState.sinks.lands (by simp [MState.sinks.refl])⟩
  all_goals exact ⟨_, rfl, Block.lands_of_eq (by simp)⟩

/-- The table of R19 as a step keeps it: clause 1 of `ModuleStateFollowsItsTransitions`. -/
theorem step_follows {s t : State} (h : step s = .next t) (hn : s.block.nothingDeferred) (hd : s.block.sec.fullDue = none) (hoff : s.block.sys.mstate ≠ .off) :
    s.block.sys.mstate.follows t.block.sys.mstate := by
  obtain ⟨hh, -, -, hw, -⟩ := hn
  unfold step at h
  split at h
  · cases h
    refine (MState.goes_of_eq ?_).follows
    unfold tick
    split <;> rfl
  · next i rest _ =>
    obtain ⟨f, hf, hl⟩ := exec_lands i { s with pending := rest } hoff hh hw hd
    rw [hf] at h
    cases h
    exact hl.follows s.block

end Sys2Proof.Machine

namespace Sys2Proof.Machine

/-! ### What follows a command whose effect leaves the module state (R19, R286, R477) -/

/-- Nothing in the block makes the hardware change the module state after a command: no Full-Open waits, and a Latch that has acted is obeyed already, or a hold defers it. -/
def Block.rests (b : Block) : Prop :=
  b.sec.fullDue = none ∧ (b.latch.state.acting = true → b.hinge = false → b.sys.mstate = .safe ∨ b.sys.mstate = .off)

theorem rests_of_settled {b : Block} (h : b.settled = true) : b.rests := by
  obtain ⟨h1, h2, -⟩ := settled_iff.mp h
  refine ⟨h2, ?_⟩
  simp only [Block.safePath, Bool.and_eq_true, Bool.or_eq_true, Bool.not_eq_true', decide_eq_true_eq] at h1
  intro ha hh
  rcases h1.2 with ((h1 | h1) | h1) | h1
  · simp_all
  · simp_all
  · exact .inl h1
  · exact .inr h1

theorem lockState_mstate_of_rests {b : Block} (h : b.latch.state.acting = true → b.hinge = false → b.sys.mstate = .safe ∨ b.sys.mstate = .off) :
    (lockState b).sys.mstate = b.sys.mstate := by
  unfold lockState
  split
  · next hb =>
    obtain ⟨ha, hh, h1, h2⟩ := hb
    exact absurd (h ha hh) (by simp [h1, h2])
  · rfl

theorem lockMuzzle_state (b : Block) : (lockMuzzle b).latch.state = b.latch.state := by
  unfold lockMuzzle
  split <;> rfl

theorem lockMuzzle_hinge (b : Block) : (lockMuzzle b).hinge = b.hinge := by
  unfold lockMuzzle
  split <;> rfl

/-- A block at rest keeps its module state through the sequel of a command. -/
theorem sequel_mstate (s : Block) {b : Block} (h : b.rests) : (irqWatch s (interlock (debugWatch b))).sys.mstate = b.sys.mstate := by
  obtain ⟨hd, hl⟩ := h
  have hw : (debugWatch b).sys = b.sys ∧ (debugWatch b).latch = b.latch ∧ (debugWatch b).pwr = b.pwr := by
    unfold debugWatch resolveFullOpen
    rw [hd]
    dsimp only
    split
    · exact ⟨rfl, rfl, rfl⟩
    · exact ⟨rfl, rfl, rfl⟩
  obtain ⟨hs, hla, hp⟩ := hw
  rw [irqWatch_sys, interlock, lockGates_mstate, lockState_mstate_of_rests, lockMuzzle_mstate, hs]
  rw [lockMuzzle_state, lockMuzzle_hinge, lockMuzzle_mstate, hs, hla, Block.hinge, hp]
  exact hl

/-- A command whose effect leaves the block at rest ends in the module state of its effect. -/
theorem ends_rests {i : Instr} {s : State} {f : Block → Block} {m : MState} (hi : exec i s = effect f s) (hr : (f s.block).rests) (hm : (f s.block).sys.mstate = m) :
    Ends i s fun b => b.sys.mstate = m :=
  ⟨_, hi, rfl, (sequel_mstate s.block hr).trans hm⟩

/-- What reads as the same waiting Full-Open, Latch state, hold and module state rests alike. -/
theorem Block.rests.congr {a b : Block} (h : a.rests) (hs : b.sec.fullDue = a.sec.fullDue) (hl : b.latch.state = a.latch.state) (hp : b.pwr.hold = a.pwr.hold)
    (hm : b.sys.mstate = a.sys.mstate) : b.rests := by
  unfold Block.rests Block.hinge at *
  rwa [hs, hl, hp, hm]

/-- In a hold the module state waits. -/
theorem rests_of_hinge {b : Block} (hd : b.sec.fullDue = none) (hh : b.hinge = true) : b.rests := ⟨hd, fun _ hn => by simp [hh] at hn⟩

/-! ### A takeover by Reserve (R451, R455) -/

theorem startHold_hinge (cause : Nat) (b : Block) : (startHold cause b).hinge = true := by
  unfold startHold
  split
  · next h => exact h
  · rfl

theorem startHold_sec (cause : Nat) (b : Block) : (startHold cause b).sec = b.sec := by
  unfold startHold
  split
  · rfl
  · rfl

theorem cutSave_hinge (b : Block) : (cutSave b).hinge = b.hinge := by
  unfold cutSave
  split
  · unfold Block.hinge
    rw [foldl_keeps (fun b : Block => b.pwr.hold.isSome) _ (fun b src => congrArg _ (complete_hold ..))]
    rfl
  · rfl

theorem cutSave_sec (b : Block) : (cutSave b).sec = b.sec := by
  unfold cutSave
  split
  · exact foldl_keeps Block.sec _ (fun b src => complete_sec ..) _ _
  · rfl

theorem endUpdate_sec (st : Status) (data : List Byte) (b : Block) : (endUpdate st data b).sec = b.sec := by
  unfold endUpdate
  split
  · exact complete_sec ..
  · rfl

theorem endUpdate_hold (st : Status) (data : List Byte) (b : Block) : (endUpdate st data b).pwr.hold = b.pwr.hold := by
  unfold endUpdate
  split
  · exact complete_hold ..
  · rfl

theorem failBlock_sec (src : Src) (off : Nat) (b : Block) : (failBlock src off b).sec = b.sec := by simp [failBlock]
theorem failBlock_hold (src : Src) (off : Nat) (b : Block) : (failBlock src off b).pwr.hold = b.pwr.hold := by simp [failBlock, complete_hold]

theorem cutBlock_sec (b : Block) : (cutBlock b).sec = b.sec := by
  unfold cutBlock
  split
  · exact failBlock_sec ..
  · rfl

theorem cutBlock_hold (b : Block) : (cutBlock b).pwr.hold = b.pwr.hold := by
  unfold cutBlock
  split
  · exact failBlock_hold ..
  · rfl

theorem cutUpdate_sec (b : Block) : (cutUpdate b).sec = b.sec := by
  unfold cutUpdate
  dsimp only
  rw [cutBlock_sec]
  split
  · rw [Block.touch_sec, endUpdate_sec, Block.onUpd_sec]
  · rfl

theorem cutUpdate_hold (b : Block) : (cutUpdate b).pwr.hold = b.pwr.hold := by
  unfold cutUpdate
  dsimp only
  rw [cutBlock_hold]
  split
  · rw [Block.touch_pwr, endUpdate_hold, Block.onUpd_pwr]
  · rfl

/-- A takeover starts a hold and leaves a waiting Full-Open alone. -/
theorem failLead_rests (cause : Nat) {b : Block} (ha : b.activating = false) (hd : b.sec.fullDue = none) : (failLead cause b).rests := by
  unfold failLead
  rw [ha]
  refine rests_of_hinge ?_ ?_
  · rw [cutUpdate_sec, cutSave_sec, startHold_sec]
    exact hd
  · rw [Block.hinge, cutUpdate_hold, ← Block.hinge, cutSave_hinge, startHold_hinge]

/-- Any failure of Lead leaves the block at rest, while Reserve is not in control. -/
theorem leadFailure_rests (cause : Nat) {b : Block} (hs : b.settled = true) (hc : b.pwr.resCtl = false) (ha : b.activating = false) : (leadFailure cause b).rests := by
  have hr := rests_of_settled hs
  unfold leadFailure
  split
  · exact hr
  · rw [hc]
    split
    · next h => simp at h
    · split
      · exact failLead_rests cause ha hr.1
      · exact hr

theorem doLeadWatchdog_rests {b : Block} (hs : b.settled = true) (hc : b.pwr.resCtl = false) (ha : b.activating = false) : (doLeadWatchdog b).rests := by
  unfold doLeadWatchdog
  split
  · exact rests_of_settled hs
  · exact leadFailure_rests 1 hs hc ha

/-! ### An activation's command and its pause (R497, R498) -/

theorem ruleUpdActivate_rests (src : Src) (b : Block) {c : Block} (hc : c.rests) : ((ruleUpdActivate src b).act c).rests := by
  refine hc.congr ?_ ?_ ?_ (ruleUpdActivate_mstate ..)
  all_goals
    simp only [ruleUpdActivate]
    split
    · simp [complete_hold, writeRecord]
    · split
      · split <;> simp [writeRecord]
      · simp [complete_hold]

end Sys2Proof.Machine

namespace Sys2Proof.Machine

theorem checkpoint_sec (ok : Bool) (b : Block) : (checkpoint ok b).sec = b.sec := by
  unfold checkpoint
  dsimp only
  split
  · rfl
  · exact note_sec ..

theorem doActivationPause_rests {b : Block} (h : b.rests) : (doActivationPause b).rests := by
  unfold doActivationPause
  split
  · exact h
  · refine rests_of_hinge ?_ (startHold_hinge ..)
    rw [Block.touch_sec, startHold_sec, Block.at_sec, checkpoint_sec, Block.onUpd_sec]
    exact h.1

/-- A host command leaves the block at rest when its rule does. -/
theorem host_rests (src : Src) {rule : Block → HostRule} {b : Block} (hb : b.rests) (h : ∀ c : Block, c.rests → ((rule b).act c).rests) : (host src rule b).rests := by
  have hrefuse (st : Status) : (refuse src (rule b).opcode st b).rests := hb.congr (by simp) (by simp) (by simp) (by simp)
  have hdup (i seq op : Nat) (e : CacheEntry) : (duplicate i seq op e b).rests := by
    refine hb.congr (by simp) (by simp) ?_ (by simp)
    unfold duplicate sendPend
    (repeat' split) <;> rfl
  have hj : (judgeRequest src (rule b) [] b).rests := by
    unfold judgeRequest takeRequest
    split
    · exact hrefuse _
    · split
      · exact hrefuse _
      · have ha (st : Bool) : (acceptRequest src (rule b).opcode [] st b).rests := hb.congr (by simp) (by simp) (by simp) (by simp)
        dsimp only
        split
        · exact ha _
        · exact h _ ((ha !b.paused).congr (by simp) (by simp) (by simp) (by simp))
  unfold host runHost
  split
  · exact hrefuse _
  · split
    · split
      · exact hb
      · refine h _ (hb.congr (by simp) (by simp) ?_ (by simp))
        unfold beginRequest
        split <;> rfl
    · split
      · split
        · exact hdup ..
        · exact hj
      · exact hj

/-! ### A command in the wrong state (R329, R338) -/

/-- An admitted request whose state condition fails is refused with BAD_STATE. -/
theorem host_badState {src : Src} {rule : Block → HostRule} {b : Block} {op : Nat} {owner : Bool} (ha : b.admits src op owner = true) (ho : (rule b).opcode = op)
    (hw : (rule b).owner = owner) (hs : (rule b).stateOk = false) : host src rule b = refuse src op .badState b := by
  simp only [Block.admits, Bool.and_eq_true, Bool.or_eq_true, Bool.not_eq_true'] at ha
  obtain ⟨⟨⟨⟨⟨⟨hopen, -⟩, hearly⟩, hnew⟩, hroom⟩, hgrant⟩, hown⟩ := ha
  have hc : checkRule src (rule b) b = some .badState := by
    rcases hown with hown | ⟨hown, hfree⟩
    · simp [checkRule, ho, hw, hs, hgrant, hown]
    · have hfree : op ∉ b.runningOpcodes := by simpa using hfree
      simp [checkRule, ho, hs, hgrant, hown, hfree]
  have hj : judgeRequest src (rule b) [] b = refuse src op .badState b := by simp [judgeRequest, hroom, hc, ho]
  unfold host runHost
  simp only [hopen, ho, hearly]
  cases src with
  | session i seq =>
    have hnew : b.entry? i seq = none := by simpa [Block.unseen] using hnew
    simp [hnew, hj]
  | engine p k => simp [hj]

/-- What a refusal hands to the network, or leaves of the ring's running commands. -/
theorem refuse_refused (src : Src) (op : Nat) (st : Status) (o b : Block) : b.refused (irqWatch o (refuse src op st b)) src st := by
  cases src with
  | session i seq =>
    refine ⟨sessionReply i seq op st.code (b.session i).mtu [] b, ?_, rfl, rfl, rfl, rfl⟩
    rw [irqWatch_ix]
    rfl
  | engine p k =>
    refine (running_of_runs ((irqWatch_runs ..).trans ((pushCq_runs ..).trans (runs_onPe _ _ ?_ _))) p)
    intro e
    dsimp only
    split <;> rfl

theorem refuse_settled (src : Src) (op : Nat) (st : Status) (b : Block) : (refuse src op st b).settled = b.settled :=
  settled_of_same (by simp) (by simp) (by simp) (by simp) (by simp) (by simp)

end Sys2Proof.Machine

namespace Sys2Proof.Machine

/-! ### What the end of a hold leaves waiting (R455) -/

/-- What the end of a hold reads, and the sequel of a command: what was deferred, the datagrams held, a waiting Full-Open, the Latch's state. -/
def Block.due (b : Block) : Option (MState × Nat × List Nat) × Bool × List (Nat × Nat × List Byte) × Option (Src × Nat) × LState :=
  (b.pwr.stateDue, b.pwr.lossDue, b.ix.held, b.sec.fullDue, b.latch.state)

/-- The second block owes no more than the first: the same is due, and no request has come to wait for its start. -/
structure Block.eases (a b : Block) : Prop where
  due : b.due = a.due
  waits : a.waitingRequests = [] → b.waitingRequests = []

theorem Block.eases.refl (a : Block) : a.eases a := ⟨rfl, id⟩

theorem Block.eases.trans {a b c : Block} (h : a.eases b) (k : b.eases c) : a.eases c := ⟨k.due.trans h.due, k.waits ∘ h.waits⟩

/-- The same, said from the later step. -/
theorem Block.eases.after {a b c : Block} (k : b.eases c) (h : a.eases b) : a.eases c := h.trans k

theorem foldl_eases {α : Type} {f : Block → α → Block} (h : ∀ (b : Block) x, b.eases (f b x)) (l : List α) (b : Block) : b.eases (l.foldl f b) := by
  induction l generalizing b with
  | nil => exact .refl b
  | cons x l ih => exact (h b x).trans (ih _)

/-- The sessions and the ring commands decide what waits: whoever leaves the sessions leaves what waits if each of the ring's commands in the end had started or was there before. -/
theorem waits_of_rings {a b : Block} (hs : b.ix.sessions = a.ix.sessions)
    (hr : ∀ e ∈ b.pol.engines, ∀ c ∈ e.ring.running, c.started = true ∨ ∃ e' ∈ a.pol.engines, c ∈ e'.ring.running) (h : a.waitingRequests = []) : b.waitingRequests = [] := by
  obtain ⟨h1, h2⟩ := waitingRequests_eq_nil.mp h
  refine waitingRequests_eq_nil.mpr ⟨hs ▸ h1, fun e he c hc => ?_⟩
  rcases hr e he c hc with hst | ⟨e', he', hc'⟩
  · exact hst
  · exact h2 e' he' c hc'

theorem waits_of_runs {a b : Block} (hs : b.ix.sessions = a.ix.sessions) (hr : b.runs = a.runs) (h : a.waitingRequests = []) : b.waitingRequests = [] := by
  refine waits_of_rings hs (fun e he c hc => .inr ?_) h
  have hm : e.ring.running ∈ a.runs := hr ▸ List.mem_map_of_mem he
  obtain ⟨e', he', heq⟩ := List.mem_map.mp hm
  exact ⟨e', he', heq ▸ hc⟩

/-- Whoever leaves the parts that are read leaves what is due and what waits. -/
theorem eases_of_parts {a b : Block} (hp : b.pwr = a.pwr) (hi : b.ix = a.ix) (hs : b.sec = a.sec) (hl : b.latch = a.latch) (hr : b.runs = a.runs) : a.eases b :=
  ⟨by simp only [Block.due, hp, hi, hs, hl], waits_of_runs (by rw [hi]) hr⟩

theorem touch_eases (ts : List Nat) (b : Block) : b.eases (b.touch ts) := ⟨rfl, id⟩
theorem onUpd_eases (f : UpdPart → UpdPart) (b : Block) : b.eases (b.onUpd f) := ⟨rfl, id⟩
theorem setSvc_eases (e : Nat) (up : Bool) (b : Block) : b.eases (setSvc e up b) := ⟨rfl, id⟩

theorem note_eases (e : Event) (arg0 : Nat) (data : List Nat) (b : Block) : b.eases (note e arg0 data b) :=
  eases_of_parts (by simp) (by simp) (by simp) (by simp) (note_runs ..)

theorem pushCq_eases (l : CqLoc) (e : CqEntry) (b : Block) : b.eases (pushCq l e b) := eases_of_parts (by simp) (by simp) (by simp) (by simp) (by simp)

theorem vwrite_eases (p va : Nat) (bs : List Byte) (b : Block) : b.eases (vwrite p va bs b) := eases_of_parts (by simp) (by simp) (by simp) (by simp) (by simp)

theorem drainRing_eases (p : Nat) (b : Block) : b.eases (drainRing p b) := eases_of_parts (by simp) (by simp) (by simp) (by simp) (by simp)

/-- What stands in a list with one place changed stood there, or is what the change makes of what stood there. -/
theorem mem_of_mem_modAt {α : Type} {l : List α} {n : Nat} {f : α → α} {x : α} (h : x ∈ modAt l n f) : x ∈ l ∨ ∃ y, y ∈ l ∧ f y = x := by
  obtain ⟨i, hi⟩ := List.mem_iff_getElem?.mp h
  rw [modAt, List.getElem?_modify] at hi
  obtain ⟨y, hy, rfl⟩ := Option.map_eq_some_iff.mp hi
  have hm := List.mem_of_getElem? hy
  split
  · exact .inr ⟨y, hm, rfl⟩
  · exact .inl hm

/-- A change of an engine that leaves its ring's commands, or some of them. -/
theorem onPe_eases (p : Nat) {f : PolEngine → PolEngine} (h : ∀ e, (f e).ring.running ⊆ e.ring.running) (b : Block) : b.eases (onPe p f b) := by
  refine ⟨rfl, waits_of_rings rfl fun e he c hc => .inr ?_⟩
  simp only [onPe, Block.onPol_pol] at he
  rcases mem_of_mem_modAt he with he | ⟨e', he', rfl⟩
  · exact ⟨e, he, hc⟩
  · exact ⟨e', he', h e' hc⟩

/-- A request that completes waits no more (R335, R438). -/
theorem complete_eases (src : Src) (st : Status) (data : List Byte) (b : Block) : b.eases (complete src st data b) := by
  refine ⟨?_, ?_⟩
  · have hp := complete_supplyPart src st data b
    have ho := complete_ownPart src st data b
    have h1 := congrArg PwrPart.stateDue hp
    have h2 := congrArg PwrPart.lossDue hp
    have h3 := congrArg Prod.snd ho
    simp only [Block.supplyPart, Block.ownPart] at h1 h2 h3
    simp only [Block.due, h1, h2, h3, complete_sec, complete_latch]
  · cases src with
    | session i seq =>
      intro h
      obtain ⟨h1, h2⟩ := waitingRequests_eq_nil.mp h
      refine waitingRequests_eq_nil.mpr ⟨?_, by rwa [complete_session_engines]⟩
      unfold complete
      dsimp only
      split
      · intro n hn e he hrun
        rcases mem_of_mem_modAt hn with hn | ⟨m, hm, rfl⟩
        · exact h1 n hn e he hrun
        · obtain ⟨e', he', rfl⟩ := List.mem_map.mp he
          split at hrun
          · simp at hrun
          · next hne =>
            rw [if_neg hne]
            exact h1 m hm e' he' hrun
      · exact h1
    | engine p k =>
      unfold complete
      dsimp only
      unfold finishRing
      split
      · exact id
      · dsimp only
        refine ((Block.eases.trans ?_ (onPe_eases p (fun _ _ hc => List.mem_of_mem_filter hc) _)).trans ((pushCq_eases ..).trans (drainRing_eases ..))).waits
        split
        · exact ⟨rfl, id⟩
        · exact (vwrite_eases ..).after ⟨rfl, id⟩

theorem endUpdate_eases (st : Status) (data : List Byte) (b : Block) : b.eases (endUpdate st data b) := by
  unfold endUpdate
  split
  · exact (complete_eases ..).after ⟨rfl, id⟩
  · exact .refl b

/-! ### The activation's end (R499) -/

theorem disableCh_eases (c : Nat) (b : Block) : b.eases (disableCh c b) := by
  unfold disableCh
  dsimp only
  split
  · exact .refl b
  · refine .trans (.trans ?_ (foldl_eases (fun b i => pushCq_eases _ _ b) _ _)) ⟨rfl, id⟩
    split
    · exact (pushCq_eases ..).after ⟨rfl, id⟩
    · exact ⟨rfl, id⟩

theorem disableRing_eases (p : Nat) (b : Block) : b.eases (disableRing p b) := by
  unfold disableRing
  split
  · exact (onPe_eases p (by exact fun _ _ h => h) b).trans (drainRing_eases ..)
  · exact .refl b

theorem stopPolicy_eases (p : Nat) (b : Block) : b.eases (stopPolicy p b) := by
  have h1 : b.eases (onPe p (fun e => { e with up := false, asleep := false, resv := none }) (setSvc (svcOf p) false b)) :=
    (onPe_eases p (by exact fun _ _ h => h) (setSvc (svcOf p) false b)).after ⟨rfl, id⟩
  exact (h1.trans (foldl_eases (fun b c => disableCh_eases c b) _ _)).trans (disableRing_eases ..)

theorem releasePolicy_eases (p : Nat) (b : Block) : b.eases (releasePolicy p b) := by
  unfold releasePolicy
  extract_lets starts b1
  have h1 : b.eases b1 := onPe_eases p (by exact fun _ _ h => h) b
  clear_value b1
  exact h1.trans ((note_eases ..).after ⟨rfl, id⟩)

/-- An engine that is loaded has no command of its ring running. -/
theorem loadPolicy_eases (p : Nat) (b : Block) : b.eases (loadPolicy p b) := by
  have h (f : PolEngine → PolEngine) (hf : ∀ e, (f e).ring.running = []) : b.eases (onPe p f b) := onPe_eases p (fun e c hc => by rw [hf] at hc; cases hc) b
  exact (h _ (by exact fun _ => rfl)).trans ⟨rfl, id⟩

theorem startPolicy_eases (p : Nat) (b : Block) : b.eases (startPolicy p b) := by
  unfold startPolicy
  split
  · exact onPe_eases p (by exact fun _ _ h => h) b
  · split
    · exact (onPe_eases p (by exact fun _ _ h => h) b).trans (note_eases ..)
    · refine ((releasePolicy_eases p _).after (loadPolicy_eases p _)).after ⟨rfl, waits_of_runs rfl ?_⟩
      simp [Block.runs]

theorem movePolicy_eases (p : Nat) (b : Block) : b.eases (movePolicy p b) := by
  have h1 : b.eases (if (b.pe p).up = true then stopPolicy p b else b) := by
    split
    · exact stopPolicy_eases p b
    · exact .refl b
  have hs (has : Bool) (c : Block) : c.eases (c.onSec fun s => if p = 0 then { s with p0Img := has } else { s with p1Img := has }) := by
    refine ⟨?_, id⟩
    simp only [Block.due, Block.onSec_pwr, Block.onSec_ix, Block.onSec_latch, Block.onSec_sec]
    split <;> rfl
  unfold movePolicy
  dsimp only
  split
  · exact (h1.trans (hs ..)).trans (startPolicy_eases ..)
  · exact (h1.trans (hs ..)).trans (onPe_eases p (by exact fun _ _ h => h) _)

theorem setPhase_eases (k : Nat) (st : PhState) (b : Block) : b.eases (setPhase k st b) :=
  eases_of_parts (by simp) (by simp) (by simp) (by simp) (runs_of_engines (by simp))

theorem applyMask_eases (mask : Nat) (b : Block) : b.eases (applyMask mask b) := by
  refine foldl_eases (fun b k => ?_) _ b
  split
  · split
    · exact (setPhase_eases ..).after ⟨rfl, id⟩
    · exact .refl b
  · split
    · exact .refl b
    · exact setPhase_eases ..

theorem restartPtp_eases (b : Block) : b.eases (restartPtp b) := by
  have h : b.eases (setLocked false b) := by
    unfold setLocked
    split
    · exact .refl b
    · exact (note_eases ..).after ⟨rfl, id⟩
  exact h.trans ⟨rfl, id⟩

theorem takePlant_eases (s : Settings) (b : Block) : b.eases (takePlant s b) := by
  unfold takePlant
  extract_lets b1 b2 b3 b4 b5
  have h1 : b.eases b1 := ⟨rfl, id⟩
  clear_value b1
  have h2 : b1.eases b2 := applyMask_eases ..
  clear_value b2
  have h3 : b2.eases b3 := ⟨rfl, id⟩
  clear_value b3
  have h4 : b3.eases b4 := ⟨rfl, id⟩
  clear_value b4
  have h5 : b4.eases b5 := by
    refine foldl_eases (fun b k => ?_) _ b4
    split
    · exact ⟨rfl, id⟩
    · split
      · exact ⟨rfl, id⟩
      · exact .refl b
  clear_value b5
  have h : b.eases b5 := (((h1.trans h2).trans h3).trans h4).trans h5
  split
  · exact h
  · exact h.trans ((restartPtp_eases ..).after ⟨rfl, id⟩)

/-- Settings that are taken touch the measuring, balancing, converting, thermal and network parts, and two settings of the Latch (R524). -/
theorem takeSettings_eases (s : Settings) (b : Block) : b.eases (takeSettings s b) := by
  have h1 : b.eases (takeSensing s b) :=
    eases_of_parts (by simp [takeSensing]) (by simp [takeSensing]) (by simp [takeSensing]) (by simp [takeSensing]) (runs_of_engines (by simp [takeSensing]))
  have h2 : (takeSensing s b).eases (takeLoops s (takeSensing s b)) :=
    eases_of_parts (by simp [takeLoops]) (by simp [takeLoops]) (by simp [takeLoops]) (by simp [takeLoops]) (runs_of_engines (by simp [takeLoops]))
  have h3 : b.eases (takePlant s (takeLoops s (takeSensing s b))) := (h1.trans h2).trans (takePlant_eases s _)
  exact h3.trans (touch_eases _ _)

theorem settingsTake_eases (live : Bool) (slot s m within_ : Nat) (b : Block) : b.eases (settingsTake live slot s m within_ b) := by
  unfold settingsTake
  extract_lets own t b1
  have h1 : b.eases b1 := (takeSettings_eases t.body b).trans (onUpd_eases _ _)
  clear_value b1
  split
  · exact h1
  · split
    · exact h1.trans (note_eases ..)
    · exact h1.trans (note_eases ..)

theorem finishActivation_eases (b : Block) : b.eases (finishActivation b) := by
  unfold finishActivation
  split
  · exact .refl b
  · extract_lets slot oldSa new b1 b2 b2' b3 rev len b4
    have h1 : b.eases b1 := ⟨rfl, id⟩
    clear_value b1
    have h2 : b1.eases b2 := (settingsTake_eases ..).after ⟨rfl, id⟩
    clear_value b2
    have h2' : b2.eases b2' := foldl_eases (fun b p => onPe_eases p (by exact fun _ _ h => h) b) _ _
    clear_value b2'
    have hf (l : List Nat) (c : Block) : c.eases (l.foldl (fun b i => setSvc (4 + i) true b) c) := foldl_eases (fun b i => setSvc_eases (4 + i) true b) l c
    have h3 : b2'.eases b3 := ((hf _ b2').trans (movePolicy_eases 0 _)).trans (movePolicy_eases 1 _)
    clear_value b3
    have h4 : b3.eases b4 := ⟨rfl, id⟩
    clear_value b4
    exact ((((h1.trans h2).trans h2').trans h3).trans h4).trans (((note_eases ..).trans (endUpdate_eases ..)).trans ⟨rfl, id⟩)

end Sys2Proof.Machine

namespace Sys2Proof.Machine

/-! ### The end of a hold in which nothing waited (R455) -/

theorem closeHold_eases (b : Block) : b.eases (closeHold b) := by
  unfold closeHold
  split
  · exact ⟨rfl, id⟩
  · exact .refl b

/-- Control passes without a change of the module state, and nothing more comes due (R455, R457). -/
theorem passControl_keeps {b c : Block} (h : passControl b = some c) : b.eases c ∧ c.sys.mstate = b.sys.mstate := by
  have hc := closeHold_eases b
  have hm := closeHold_mstate b
  unfold passControl at h
  dsimp only at h
  split at h
  · split at h
    · cases h
      exact ⟨(note_eases ..).after (hc.trans ⟨rfl, id⟩), by simp⟩
    · cases h
      exact ⟨hc.trans ⟨rfl, id⟩, by simp⟩
  · split at h
    · split at h
      · cases h
      · cases h
        exact ⟨(note_eases ..).after (hc.trans ⟨rfl, id⟩), by simp⟩
    · split at h
      · cases h
      · cases h
        exact ⟨(note_eases ..).after (hc.trans ⟨rfl, id⟩), by simp⟩

theorem joinPhase_eases (k : Nat) (b : Block) : b.eases (joinPhase k b) := by
  unfold joinPhase
  dsimp only
  refine (setPhase_eases ..).after ?_
  split <;> exact ⟨rfl, id⟩

theorem admitPhases_eases (b : Block) : b.eases (admitPhases b) := by
  unfold admitPhases
  split
  · exact foldl_eases (fun b k => joinPhase_eases k b) _ b
  · exact .refl b

theorem startSave_eases (cause : Nat) (b : Block) : b.eases (startSave cause b) := by
  unfold startSave
  split
  · exact ⟨rfl, id⟩
  · exact ⟨rfl, id⟩

/-- With no state change and no loss of power deferred, the end of a hold starts a save that waited and lets the phases join. -/
theorem afterHold_keeps {b : Block} (hs : b.pwr.stateDue = none) (hl : b.pwr.lossDue = false) : b.eases (afterHold b) ∧ (afterHold b).sys.mstate = b.sys.mstate := by
  unfold afterHold
  rw [hs, hl]
  extract_lets b1 b2 b3 b4 b5
  have h1 : b.eases b1 := ⟨by simp only [Block.due, b1, Block.onPwr_pwr, Block.onPwr_ix, Block.onPwr_sec, Block.onPwr_latch, hs], id⟩
  have m1 : b1.sys.mstate = b.sys.mstate := rfl
  have h3 : b.eases b3 ∧ b3.sys.mstate = b.sys.mstate := ⟨h1, m1⟩
  have h4 : b3.eases b4 ∧ b4.sys.mstate = b3.sys.mstate := by
    simp only [b4]
    split
    · split
      · exact ⟨startSave_eases _ _, by rw [startSave_sys]⟩
      · exact ⟨.refl _, rfl⟩
    · exact ⟨.refl _, rfl⟩
  have h5 : b4.eases b5 ∧ b5.sys.mstate = b4.sys.mstate := by
    simp only [b5]
    split
    · exact ⟨⟨rfl, id⟩, rfl⟩
    · exact ⟨.refl _, rfl⟩
  exact ⟨((h3.1.trans h4.1).trans h5.1).trans (admitPhases_eases b5), by rw [admitPhases_mstate, h5.2, h4.2, h3.2]⟩

theorem startWaiting_of_none {b : Block} (h : b.waitingRequests = []) : startWaiting b = b := by
  unfold startWaiting
  rw [h]
  split <;> rfl

theorem releaseHeld_of_none {b : Block} (h : b.ix.held = []) : releaseHeld b = b := by
  unfold releaseHeld
  rw [h]
  split
  · rfl
  · change (b.onIx fun x => { x with held := [] }) = b
    unfold Block.onIx
    rw [← h]

/-- What is due, of a block in which nothing waits for the end of a hold and the Latch has not acted. -/
def Block.clear (b : Block) : Prop :=
  b.pwr.stateDue = none ∧ b.pwr.lossDue = false ∧ b.ix.held = [] ∧ b.sec.fullDue = none ∧ b.latch.state.acting = false ∧ b.waitingRequests = []

theorem Block.clear.eases {a b : Block} (h : a.clear) (k : a.eases b) : b.clear := by
  obtain ⟨h1, h2, h3, h4, h5, h6⟩ := h
  have hd := k.due
  simp only [Block.due, Prod.mk.injEq] at hd
  obtain ⟨d1, d2, d3, d4, d5⟩ := hd
  exact ⟨d1.trans h1, d2.trans h2, d3.trans h3, d4.trans h4, by rwa [d5], k.waits h6⟩

theorem Block.clear.rests {b : Block} (h : b.clear) : b.rests := by
  obtain ⟨-, -, -, hd, ha, -⟩ := h
  exact ⟨hd, fun hn => by simp [ha] at hn⟩

/-- The service that resumes leaves a block in which nothing waited at rest, in its module state. -/
theorem resumeService_keeps {b : Block} (h : b.clear) : (resumeService b).rests ∧ (resumeService b).sys.mstate = b.sys.mstate := by
  obtain ⟨hs, hl, -⟩ := id h
  obtain ⟨he, hm⟩ := afterHold_keeps hs hl
  have hc := h.eases he
  obtain ⟨-, -, hh, -, -, hw⟩ := id hc
  unfold resumeService
  rw [startWaiting_of_none hw, releaseHeld_of_none hh]
  exact ⟨hc.rests, hm⟩

theorem doHingeHoldEnd_keeps {b : Block} (h : b.clear) : (doHingeHoldEnd b).rests ∧ (doHingeHoldEnd b).sys.mstate = b.sys.mstate := by
  unfold doHingeHoldEnd
  split
  · exact ⟨h.rests, rfl⟩
  · next t _ =>
    extract_lets b1
    have h1 : b.eases b1 := ⟨rfl, id⟩
    have m1 : b1.sys.mstate = b.sys.mstate := rfl
    clear_value b1
    split
    · have hr := resumeService_keeps (((h.eases h1).eases (finishActivation_eases b1)).eases (closeHold_eases _))
      rwa [closeHold_mstate, finishActivation_mstate, m1] at hr
    · split
      · exact ⟨h.rests, rfl⟩
      · next c hc =>
        obtain ⟨he, hm⟩ := passControl_keeps hc
        have hr := resumeService_keeps (((h.eases h1).eases he).eases (finishActivation_eases c))
        rwa [finishActivation_mstate, hm, m1] at hr

/-! ### The obligation -/

/-- SYS_HIBERNATE in RUN is refused with BAD_STATE, and the module stays in RUN (R20). -/
theorem sysHibernate_in_run {s : State} {src : Src} (hs : s.block.settled = true) (ha : s.block.admits src 0x0112 true = true) (hr : s.block.sys.mstate = .run) :
    Ends (.sysHibernate src) s fun b => s.block.refused b src .badState ∧ b.sys.mstate = .run := by
  have hact : host src (ruleSysHibernate src) s.block = refuse src 0x0112 .badState s.block :=
    host_badState ha rfl rfl (by simp [ruleSysHibernate, hr])
  have hset : (host src (ruleSysHibernate src) s.block).settled = true := by rw [hact, refuse_settled, hs]
  refine ⟨_, effect_settled (s := s) hset, rfl, ?_, ?_⟩
  · dsimp only
    rw [hact]
    exact refuse_refused ..
  · dsimp only
    rw [hact, irqWatch_sys, refuse_sys, hr]

/-- A takeover by Reserve leaves the module state (R20, R451). -/
theorem lead_failure_mstate {s : State} {i : Instr} (hi : i ∈ [Instr.leadWatchdog, .leadSelftestFail, .leadDoubleFault]) (hs : s.block.settled = true)
    (hc : s.block.pwr.resCtl = false) (ha : s.block.activating = false) : Ends i s fun b => b.sys.mstate = s.block.sys.mstate := by
  simp only [List.mem_cons, List.not_mem_nil, or_false] at hi
  rcases hi with rfl | rfl | rfl
  · exact ends_rests rfl (doLeadWatchdog_rests hs hc ha) (doLeadWatchdog_mstate ..)
  · exact ends_rests rfl (leadFailure_rests 2 hs hc ha) (doLeadSelftestFail_mstate ..)
  · exact ends_rests rfl (leadFailure_rests 3 hs hc ha) (doLeadDoubleFault_mstate ..)

/-- Settles O6: every command's effect is shown to land in a state of R19's table, most by leaving the module state; the commands of a takeover and an activation leave it. -/
theorem moduleStateFollowsItsTransitions : Obligations.ModuleStateFollowsItsTransitions := by
  unfold Obligations.ModuleStateFollowsItsTransitions
  refine ⟨fun s t h hn hd hoff => step_follows h hn hd hoff, fun s src => sysHibernate_in_run, fun s i hi => lead_failure_mstate hi, fun s src hs _ => ?_, fun s hs _ _ => ?_,
    fun s hs _ hsd hl hw hh ha => ?_⟩
  · exact ends_rests rfl (host_rests src (rests_of_settled hs) fun c hc => ruleUpdActivate_rests src _ hc) (host_mstate src fun c => ruleUpdActivate_mstate src _ c)
  · exact ends_rests rfl (doActivationPause_rests (rests_of_settled hs)) (doActivationPause_mstate _)
  · obtain ⟨hr, hm⟩ := doHingeHoldEnd_keeps ⟨hsd, hl, hh, (rests_of_settled hs).1, ha, hw⟩
    exact ends_rests rfl hr hm

end Sys2Proof.Machine

namespace Sys2Proof.Machine

/-! ### A step as the command at the front of the queue (R36; log entry 62) -/

theorem exec_ends (i : Instr) (s : State) : ∃ t : State, exec i s = .next t ∧ t.pending = s.pending := by
  obtain ⟨f, hf⟩ := exec_eq_effect i s
  exact ⟨_, hf, rfl⟩

/-- Settles O1: a step with a command in the queue is the command's wrapped effect; an empty queue ticks a powered module; the decoder knows no word. -/
theorem stepRunsTheFrontCommand : Obligations.StepRunsTheFrontCommand := by
  unfold Obligations.StepRunsTheFrontCommand
  refine ⟨fun c q b => rfl, exec_ends, fun b hoff => ?_, fun b hon => ?_, fun s nbits w => ⟨rfl, rfl⟩⟩
  · simp [step, tick, hoff]
  · simp [step, tick, hon, Block.onSys]

/-! ### What an operation may touch: every part but the named ones and what notices change is as it was -/

/-- Nothing but the named parts and what notices change has changed. -/
def Block.touches (o b : Block) (l : List PartName) : Prop := ∀ q, q ∉ l → q ∉ noticed → o.same b q

theorem Block.same_symm {o b : Block} {q : PartName} (h : o.same b q) : b.same o q := by
  cases q <;> exact Eq.symm h

@[simp] theorem touches_refl (o : Block) (l : List PartName) : o.touches o l := fun q _ _ => by cases q <;> rfl

theorem Block.touches.trans {a b c : Block} {l : List PartName} (h : a.touches b l) (k : b.touches c l) : a.touches c l :=
  fun q hq hn => Block.same_trans (h q hq hn) (k q hq hn)

theorem Block.touches.mono {a b : Block} {l m : List PartName} (h : a.touches b l) (hlm : l ⊆ m) : a.touches b m :=
  fun q hq hn => h q (fun hm => hq (hlm hm)) hn

/-- An operation that touches the named parts alone keeps what may be touched. -/
theorem touches_congr {a b : Block} {l m : List PartName} (h : a.touches b m) (hml : m ⊆ l) (o : Block) : o.touches b l ↔ o.touches a l :=
  ⟨fun k => k.trans fun q hq hn => Block.same_symm (h.mono hml q hq hn), fun k => k.trans (h.mono hml)⟩

theorem touches_of_quiet {a b : Block} (h : b.quiet = a.quiet) : a.touches b [] := fun _ _ hn => same_of_quiet h hn

theorem changesOnly_of_touches {o b : Block} {l : List PartName} (h : o.touches b l) : o.changesOnly b (l ++ noticed) := fun q hq => by
  rw [List.mem_append, not_or] at hq
  exact h q hq.1 hq.2
end Sys2Proof.Machine

namespace Sys2Proof.Machine

/-! ### A change of one part touches that part alone -/

@[simp] theorem touches_onSys {l : List PartName} (hl : .sys ∈ l) (o b : Block) (f : SysPart → SysPart) : o.touches (b.onSys f) l ↔ o.touches b l :=
  touches_congr (m := [.sys]) (fun q hq _ => by cases q <;> simp_all [Block.same]) (by simpa using hl) o
@[simp] theorem touches_onLeash {l : List PartName} (hl : .leash ∈ l) (o b : Block) (f : LeashPart → LeashPart) : o.touches (b.onLeash f) l ↔ o.touches b l :=
  touches_congr (m := [.leash]) (fun q hq _ => by cases q <;> simp_all [Block.same]) (by simpa using hl) o
@[simp] theorem touches_onRing {l : List PartName} (hl : .ring ∈ l) (o b : Block) (f : RingPart → RingPart) : o.touches (b.onRing f) l ↔ o.touches b l :=
  touches_congr (m := [.ring]) (fun q hq _ => by cases q <;> simp_all [Block.same]) (by simpa using hl) o
@[simp] theorem touches_onSense {l : List PartName} (hl : .sense ∈ l) (o b : Block) (f : SensePart → SensePart) : o.touches (b.onSense f) l ↔ o.touches b l :=
  touches_congr (m := [.sense]) (fun q hq _ => by cases q <;> simp_all [Block.same]) (by simpa using hl) o
@[simp] theorem touches_onBark {l : List PartName} (hl : .bark ∈ l) (o b : Block) (f : BarkPart → BarkPart) : o.touches (b.onBark f) l ↔ o.touches b l :=
  touches_congr (m := [.bark]) (fun q hq _ => by cases q <;> simp_all [Block.same]) (by simpa using hl) o
@[simp] theorem touches_onBal {l : List PartName} (hl : .bal ∈ l) (o b : Block) (f : BalPart → BalPart) : o.touches (b.onBal f) l ↔ o.touches b l :=
  touches_congr (m := [.bal]) (fun q hq _ => by cases q <;> simp_all [Block.same]) (by simpa using hl) o
@[simp] theorem touches_onFlt {l : List PartName} (hl : .flt ∈ l) (o b : Block) (f : FltPart → FltPart) : o.touches (b.onFlt f) l ↔ o.touches b l :=
  touches_congr (m := [.flt]) (fun q hq _ => by cases q <;> simp_all [Block.same]) (by simpa using hl) o
@[simp] theorem touches_onLatch {l : List PartName} (hl : .latch ∈ l) (o b : Block) (f : LatchPart → LatchPart) : o.touches (b.onLatch f) l ↔ o.touches b l :=
  touches_congr (m := [.latch]) (fun q hq _ => by cases q <;> simp_all [Block.same]) (by simpa using hl) o
@[simp] theorem touches_onCnv {l : List PartName} (hl : .cnv ∈ l) (o b : Block) (f : CnvPart → CnvPart) : o.touches (b.onCnv f) l ↔ o.touches b l :=
  touches_congr (m := [.cnv]) (fun q hq _ => by cases q <;> simp_all [Block.same]) (by simpa using hl) o
@[simp] theorem touches_onImp {l : List PartName} (hl : .imp ∈ l) (o b : Block) (f : ImpPart → ImpPart) : o.touches (b.onImp f) l ↔ o.touches b l :=
  touches_congr (m := [.imp]) (fun q hq _ => by cases q <;> simp_all [Block.same]) (by simpa using hl) o
@[simp] theorem touches_onLoop {l : List PartName} (hl : .loop ∈ l) (o b : Block) (f : LoopPart → LoopPart) : o.touches (b.onLoop f) l ↔ o.touches b l :=
  touches_congr (m := [.loop]) (fun q hq _ => by cases q <;> simp_all [Block.same]) (by simpa using hl) o
@[simp] theorem touches_onNet {l : List PartName} (hl : .net ∈ l) (o b : Block) (f : NetPart → NetPart) : o.touches (b.onNet f) l ↔ o.touches b l :=
  touches_congr (m := [.net]) (fun q hq _ => by cases q <;> simp_all [Block.same]) (by simpa using hl) o
@[simp] theorem touches_onSec {l : List PartName} (hl : .sec ∈ l) (o b : Block) (f : SecPart → SecPart) : o.touches (b.onSec f) l ↔ o.touches b l :=
  touches_congr (m := [.sec]) (fun q hq _ => by cases q <;> simp_all [Block.same]) (by simpa using hl) o
@[simp] theorem touches_onUpd {l : List PartName} (hl : .upd ∈ l) (o b : Block) (f : UpdPart → UpdPart) : o.touches (b.onUpd f) l ↔ o.touches b l :=
  touches_congr (m := [.upd]) (fun q hq _ => by cases q <;> simp_all [Block.same]) (by simpa using hl) o
@[simp] theorem touches_onIx {l : List PartName} (hl : .ix ∈ l) (hw : .owner ∈ l) (o b : Block) (f : IxPart → IxPart) : o.touches (b.onIx f) l ↔ o.touches b l :=
  touches_congr (m := [.ix, .owner]) (fun q hq _ => by cases q <;> simp_all [Block.same]) (by simp [hl, hw]) o
@[simp] theorem touches_onPwr {l : List PartName} (hl : .pwr ∈ l) (hs : .supply ∈ l) (o b : Block) (f : PwrPart → PwrPart) : o.touches (b.onPwr f) l ↔ o.touches b l :=
  touches_congr (m := [.pwr, .supply]) (fun q hq _ => by cases q <;> simp_all [Block.same]) (by simp [hl, hs]) o

/-- An operation that changes nothing but the recorder's own, the tiles to be written and the pending bits. -/
theorem touches_quiet {a b : Block} (h : b.quiet = a.quiet) (o : Block) (l : List PartName) : o.touches b l ↔ o.touches a l :=
  touches_congr (touches_of_quiet h) (by simp) o

@[simp] theorem touches_touch (o b : Block) (l : List PartName) (ts : List Nat) : o.touches (b.touch ts) l ↔ o.touches b l := touches_quiet (Block.touch_quiet ..) o l
@[simp] theorem touches_note (o b : Block) (l : List PartName) (e : Event) (a : Nat) (d : List Nat) : o.touches (note e a d b) l ↔ o.touches b l :=
  touches_quiet (note_quiet ..) o l
@[simp] theorem touches_recordEvent (o b : Block) (l : List PartName) (sev : Severity) (code src a : Nat) (d : List Nat) :
    o.touches (recordEvent sev code src a d b) l ↔ o.touches b l := touches_quiet (recordEvent_quiet ..) o l
@[simp] theorem touches_irqWatch (o b : Block) (l : List PartName) (a : Block) : o.touches (irqWatch a b) l ↔ o.touches b l := touches_quiet (irqWatch_quiet ..) o l
@[simp] theorem touches_at {l : List PartName} (hl : .sys ∈ l) (o b : Block) (t : Nat) : o.touches (b.at t) l ↔ o.touches b l := touches_onSys hl o b _
@[simp] theorem touches_takeover {l : List PartName} (hl : .sys ∈ l) (o b : Block) (p k : Nat) : o.touches (takeover p k b) l ↔ o.touches b l := by
  simp [takeover, hl]

@[simp] theorem touches_ite (o a b : Block) (l : List PartName) (p : Prop) [Decidable p] :
    o.touches (if p then a else b) l ↔ if p then o.touches a l else o.touches b l := by split <;> rfl

theorem touches_foldl {α : Type} {f : Block → α → Block} {l : List PartName} (h : ∀ (o b : Block) x, o.touches (f b x) l ↔ o.touches b l) (xs : List α) (o b : Block) :
    o.touches (xs.foldl f b) l ↔ o.touches b l := by
  induction xs generalizing b with
  | nil => rfl
  | cons x xs ih => rw [List.foldl_cons, ih, h]

/-! ### How an event's end is shown: its effect touches the named parts, keeps the interlock and has the property -/

/-- An event whose effect keeps a settled block settled. -/
theorem happens_touching {i : Instr} {s : State} {f : Block → Block} {l : List PartName} {P : Block → Prop} (hi : exec i s = effect f s)
    (ht : s.block.touches (f s.block) l) (hset : s.block.settled = true → (f s.block).settled = true) (hP : P (irqWatch s.block (f s.block))) : Happens i s l P := fun h =>
  ends_event hi (hset h) ⟨hP, changesOnly_of_touches (by simpa using ht)⟩

/-- What `settled` reads stands in these parts; of the status of the module it reads the state alone. -/
theorem settled_of_touches {o b : Block} {l : List PartName} (h : o.touches b l) (hm : b.sys.mstate = o.sys.mstate)
    (hl : .latch ∉ l ∧ .cnv ∉ l ∧ .pwr ∉ l ∧ .sec ∉ l) : b.settled = o.settled := by
  obtain ⟨hlatch, hcnv, hpwr, hsec⟩ := hl
  have el : b.latch = o.latch := h .latch hlatch (by decide)
  have ec : b.cnv = o.cnv := h .cnv hcnv (by decide)
  have ep : b.pwr = o.pwr := h .pwr hpwr (by decide)
  have es : b.sec = o.sec := h .sec hsec (by decide)
  exact settled_of_same el (by rw [ec]) hm (by rw [ep]) (by rw [es]) (by rw [es])

@[simp] theorem touch_settled (ts : List Nat) (b : Block) : (b.touch ts).settled = b.settled := settled_of_touches (l := []) (by simp) (by simp) (by decide)
@[simp] theorem note_settled (e : Event) (a : Nat) (d : List Nat) (b : Block) : (note e a d b).settled = b.settled :=
  settled_of_touches (l := []) (by simp) (by simp) (by decide)

/-- An event that leaves the Latch, the converter, the supplies, the debug port and the module state. -/
theorem happens_plain {i : Instr} {s : State} {f : Block → Block} {l : List PartName} {P : Block → Prop} (hi : exec i s = effect f s)
    (ht : s.block.touches (f s.block) l) (hm : (f s.block).sys.mstate = s.block.sys.mstate)
    (hP : P (irqWatch s.block (f s.block))) (hl : .latch ∉ l ∧ .cnv ∉ l ∧ .pwr ∉ l ∧ .sec ∉ l := by decide) : Happens i s l P :=
  happens_touching hi ht (fun h => (settled_of_touches ht hm hl).trans h) hP

/-! ### One element of a list changed -/

theorem getD_modAt_self {α : Type} {l : List α} {k : Nat} {f : α → α} {d : α} (h : k < l.length) : (modAt l k f).getD k d = f (l.getD k d) := by
  simp [modAt, List.getD_eq_getElem?_getD, List.getElem?_eq_getElem h]

theorem getD_modAt_ne {α : Type} {l : List α} {k j : Nat} {f : α → α} {d : α} (h : j ≠ k) : (modAt l k f).getD j d = l.getD j d := by
  simp [modAt, List.getD_eq_getElem?_getD, h.symm]

theorem getD_mapIdx {α β : Type} {l : List α} {f : Nat → α → β} {n : Nat} {d : α} {e : β} (h : n < l.length) : (l.mapIdx f).getD n e = f n (l.getD n d) := by
  simp [List.getD_eq_getElem?_getD, List.getElem?_eq_getElem h]

/-- An element that differs from the default stands in the list. -/
theorem lt_length_of_getD {α : Type} {l : List α} {n : Nat} {d : α} (h : l.getD n d ≠ d) : n < l.length := by
  by_contra hn
  exact h (List.getD_eq_default _ _ (Nat.le_of_not_lt hn))

theorem mem_of_getD {α : Type} {l : List α} {n : Nat} {d : α} (h : n < l.length) : l.getD n d ∈ l := by
  simp [List.getD_eq_getElem?_getD, List.getElem?_eq_getElem h]

end Sys2Proof.Machine

namespace Sys2Proof.Machine

/-! ### The leash: what its operations touch and leave (R46, R48, R59, R287) -/

@[simp] theorem touches_onLane {l : List PartName} (hl : .leash ∈ l) (o b : Block) (k : Nat) (f : Lane → Lane) : o.touches (onLane k f b) l ↔ o.touches b l :=
  touches_onLeash hl ..

@[simp] theorem touches_sendDown {l : List PartName} (hl : .leash ∈ l) (o b : Block) (kind : DownKind) (src : Option Src) :
    o.touches (sendDown kind src b) l ↔ o.touches b l := by
  unfold sendDown
  split
  · rfl
  · exact touches_onLeash hl ..

@[simp] theorem touches_currentCross {l : List PartName} (hl : .sense ∈ l) (o b : Block) : o.touches (currentCross b) l ↔ o.touches b l := by
  unfold currentCross
  split <;> simp [hl]

@[simp] theorem touches_voltageCross {l : List PartName} (hl : .sense ∈ l) (o b : Block) : o.touches (voltageCross b) l ↔ o.touches b l := by
  unfold voltageCross
  split <;> simp [hl]

@[simp] theorem touches_w0Ended {l : List PartName} (hl : .sense ∈ l) (o b : Block) : o.touches (w0Ended b) l ↔ o.touches b l := by
  simp [w0Ended, segSums, hl]

@[simp] theorem touches_missSnapshot {l : List PartName} (hs : .sense ∈ l) (hl : .leash ∈ l) (o b : Block) : o.touches (missSnapshot b) l ↔ o.touches b l := by
  simp [missSnapshot, hs, hl]

@[simp] theorem w0Ended_leash (b : Block) : (w0Ended b).leash = b.leash := (touches_w0Ended (l := [.sense]) (by simp) b b).mpr (touches_refl _ _) .leash (by decide) (by decide)

/-- A snapshot that is missed is counted and no longer in flight. -/
@[simp] theorem missSnapshot_leash (b : Block) : (missSnapshot b).leash = { b.leash with inFlight := none, missed := satAdd 255 b.leash.missed 1 } := by
  unfold missSnapshot
  dsimp only
  split <;> simp

/-! #### Lanes -/

theorem irqWatch_lane (o b : Block) (k : Nat) : (irqWatch o b).lane k = b.lane k := by simp [Block.lane]

theorem lane_onLane_self {k : Nat} {f : Lane → Lane} {b : Block} (h : k < b.leash.lanes.length) : (onLane k f b).lane k = f (b.lane k) := getD_modAt_self h
theorem lane_onLane_ne {k j : Nat} {f : Lane → Lane} {b : Block} (h : j ≠ k) : (onLane k f b).lane j = b.lane j := getD_modAt_ne h

theorem lane_of_lanes {a b : Block} (h : a.leash.lanes = b.leash.lanes) (k : Nat) : a.lane k = b.lane k := by rw [Block.lane, Block.lane, h]

/-- A lane that is up stands in the list. -/
theorem lane_lt_of_up {b : Block} {k : Nat} (h : (b.lane k).up = true) : k < b.leash.lanes.length :=
  lt_length_of_getD (d := { up := false, hold := none, downs := [], lastSync := 0 }) fun hd => by rw [Block.lane, hd] at h; cases h

theorem lane_lt_of_hold {b : Block} {k t : Nat} (h : (b.lane k).hold = some t) : k < b.leash.lanes.length :=
  lt_length_of_getD (d := { up := false, hold := none, downs := [], lastSync := 0 }) fun hd => by rw [Block.lane, hd] at h; cases h

theorem anyLane_of_up {b : Block} {k : Nat} (h : (b.lane k).up = true) : b.anyLane = true :=
  List.any_eq_true.mpr ⟨b.lane k, mem_of_getD (lane_lt_of_up h), h⟩

/-- What a lane becomes that is declared down at a count: held at the fourth time within 60 s (R49). -/
def Lane.fallen (now : Nat) (downs : List Nat) (l : Lane) : Lane :=
  let recent := now :: downs.filter fun d => decide (now < d + 60 * secT)
  { l with up := false, hold := if 4 ≤ recent.length then some now else none, downs := if 4 ≤ recent.length then [] else recent }

/-- What the leash becomes when lane `k` is declared down: the lane, the count of losses, and a striped frame in flight missed (R49, R51). -/
def Block.leashFallen (b : Block) (k : Nat) : LeashPart :=
  let l := { b.leash with lanes := modAt b.leash.lanes k (Lane.fallen b.sys.now (b.lane k).downs), flaps := satAdd 255 b.leash.flaps 1 }
  if (b.leash.inFlight.any fun f => f.striped) = true then { l with inFlight := none, missed := satAdd 255 b.leash.missed 1 } else l

theorem laneDown_leash {b : Block} {k : Nat} (h : (b.lane k).up = true) : (laneDown k b).leash = b.leashFallen k := by
  unfold laneDown
  extract_lets now recent held b1 b2 b3 b4 b5
  have h4 : b4.leash = { b.leash with lanes := modAt b.leash.lanes k (Lane.fallen b.sys.now (b.lane k).downs), flaps := satAdd 255 b.leash.flaps 1 } := by
    simp only [b4, apply_ite Block.leash, b3, note_leash, ite_self, b2, b1, onLane, Block.onLeash_leash, held, decide_eq_true_eq]
    rfl
  have h5 : b5.leash = b.leashFallen k := by
    simp only [b5, Block.leashFallen]
    cases hi : b.leash.inFlight with
    | none => simp [hi, h4]
    | some f =>
      simp only [hi, apply_ite Block.leash, missSnapshot_leash, h4]
      rfl
  rw [if_neg (by simp [h]), Block.touch_leash, apply_ite Block.leash, takeover_leash, ite_self, h5]

@[simp] theorem touches_laneDown {l : List PartName} (hy : .sys ∈ l) (hs : .sense ∈ l) (hl : .leash ∈ l) (o b : Block) (k : Nat) :
    o.touches (laneDown k b) l ↔ o.touches b l := by
  unfold laneDown
  dsimp only
  split
  · rfl
  · split
    · split <;> simp [hy, hs, hl]
    · simp [hy, hl]



/-! #### A cause that clears (R287) -/

@[simp] theorem touches_settleLatch {l : List PartName} (hl : .latch ∈ l) (o b : Block) : o.touches (settleLatch b) l ↔ o.touches b l := by
  simp [settleLatch, hl]

@[simp] theorem touches_clearCause {l : List PartName} (hl : .latch ∈ l) (o b : Block) (c ix : Nat) : o.touches (clearCause c ix b) l ↔ o.touches b l := by
  simp [clearCause, hl]

theorem clearCause_causes (c ix : Nat) (b : Block) : (clearCause c ix b).latch.causes = b.latch.causes.filter fun x => x != (c, ix) := by
  unfold clearCause settleLatch
  split <;> simp

theorem clearCause_gone (c ix : Nat) (b : Block) : (c, ix) ∉ (clearCause c ix b).latch.causes := by simp [clearCause_causes]

/-- ACTED and RECOVERY keep the same interlock. -/
theorem clearCause_settled (c ix : Nat) {b : Block} (h : b.settled = true) : (clearCause c ix b).settled = true := by
  unfold clearCause settleLatch
  split
  · next ha =>
    have hacted : b.latch.state = .acted := ha.1
    obtain ⟨hp, hd, hk⟩ := settled_iff.mp h
    obtain ⟨hm, hg, hs⟩ := safePath_iff.mp hp
    exact settled_iff.mpr ⟨safePath_iff.mpr ⟨.inr (hm.resolve_left (by simp [hacted])), hg, fun _ hh => hs (by rw [hacted]; rfl) hh⟩, hd, hk⟩
  · exact h

end Sys2Proof.Machine

namespace Sys2Proof.Machine

/-! ### Sync sets and lanes (R36, R37, R48, R49, R113; log entry 4) -/

section
variable {s : State} {k : Fin 2}

theorem syncSetDownstream_happens (h : s.block.anyLane = true) : Happens .syncSetDownstream s [.sys, .leash] fun b =>
    b.sys.now = s.block.nextMultiple 1000 ∧ b.leash = { s.block.leash with syncsSent := s.block.leash.syncsSent + 1 } := by
  have hf : doSyncSetDownstream s.block = (s.block.at (s.block.nextMultiple 1000)).onLeash fun l => { l with syncsSent := l.syncsSent + 1 } := by simp [doSyncSetDownstream, h]
  refine happens_plain (f := doSyncSetDownstream) rfl (by simp [hf]) (by simp) ⟨?_, by simp [hf]⟩
  have hlt : s.block.sys.now ≤ s.block.nextMultiple 1000 := by unfold Block.nextMultiple; omega
  simp [hf, hlt]

theorem syncSetUpstream_happens (h : s.block.anyLane = true) : Happens .syncSetUpstream s [.sys, .leash] fun b =>
    b.sys.now % 1000 = 500 ∧ s.block.sys.now < b.sys.now ∧ b.sys.now ≤ s.block.sys.now + 1000 ∧ b.leash = { s.block.leash with echoDue := none } := by
  let due := multipleFrom 1000 (s.block.sys.now + 1 - min (s.block.sys.now + 1) 500) + 500
  have hf : doSyncSetUpstream s.block = (s.block.at due).onLeash fun l => { l with echoDue := none } := by simp [doSyncSetUpstream, h, due]
  have hdue : due % 1000 = 500 ∧ s.block.sys.now < due ∧ due ≤ s.block.sys.now + 1000 := by simp only [due, multipleFrom]; omega
  have hnow : (doSyncSetUpstream s.block).sys.now = due := by
    rw [hf, Block.onLeash_sys, Block.at_sys]
    exact max_eq_right hdue.2.1.le
  refine happens_plain (f := doSyncSetUpstream) rfl (by simp [hf]) (by simp) ?_
  rw [irqWatch_sys, irqWatch_leash, hnow, hf]
  exact ⟨hdue.1, hdue.2.1, hdue.2.2, rfl⟩

theorem syncSet_lane (h : (s.block.lane k).up = true) : ((onLane k (fun l => { l with lastSync := s.block.sys.now }) s.block).lane k).lastSync = s.block.sys.now := by
  rw [lane_onLane_self (lane_lt_of_up h)]

theorem syncSetReceived_atHub {echo : Bool} {count rt : Nat} (h : (s.block.lane k).up = true) : Happens (.syncSetReceived true k echo count rt) s [.leash] fun b =>
    (b.lane k).lastSync = s.block.sys.now ∧ b.leash.aligned = true ∧ b.leash.syncsHeard = s.block.leash.syncsHeard + 1
      ∧ b.leash.echoDue = (if (s.block.leash.syncsHeard + 1) % 100000 = 0 then some count else s.block.leash.echoDue) := by
  refine happens_plain (f := doSyncSetReceived true k echo count rt) rfl (by simp [doSyncSetReceived]) (by simp) ?_
  rw [irqWatch_lane, irqWatch_leash, doSyncSetReceived, if_neg (by simp [h])]
  exact ⟨syncSet_lane h, rfl, rfl, rfl⟩

theorem syncSetReceived_plain {count rt : Nat} (h : (s.block.lane k).up = true) : Happens (.syncSetReceived false k false count rt) s [.leash] fun b =>
    (b.lane k).lastSync = s.block.sys.now ∧ b.leash.delay = s.block.leash.delay ∧ b.leash.waiting = s.block.leash.waiting := by
  refine happens_plain (f := doSyncSetReceived false k false count rt) rfl (by simp [doSyncSetReceived]) (by simp) ?_
  rw [irqWatch_lane, irqWatch_leash, doSyncSetReceived, if_neg (by simp [h])]
  exact ⟨syncSet_lane h, rfl, rfl⟩

theorem sendDown_leash {b : Block} (kind : DownKind) (src : Option Src) (h : b.anyLane = true) : (sendDown kind src b).leash =
    { b.leash with nextTag := (b.leash.nextTag + 1) % 256, waiting := b.leash.waiting ++ [{ tag := b.leash.nextTag, kind := kind, sent := 1, carries := src }] } := by
  simp [sendDown, h]

theorem anyLane_of_lanes {a b : Block} (h : a.leash.lanes = b.leash.lanes) : a.anyLane = b.anyLane := by rw [Block.anyLane, Block.anyLane, h]

theorem syncSetReceived_echo {count rt : Nat} (h : (s.block.lane k).up = true) : Happens (.syncSetReceived false k true count rt) s [.leash] fun b =>
    (b.lane k).lastSync = s.block.sys.now ∧ b.leash.delay = (rt - Config.hubTurnaround) / 2 ∧ b.leash.delayKnown = true
      ∧ b.leash.waiting = s.block.leash.waiting
          ++ [{ tag := s.block.leash.nextTag, kind := .delayResult ((rt - Config.hubTurnaround) / 2), sent := 1, carries := none }] := by
  have hf : (doSyncSetReceived false k true count rt s.block).leash =
      { s.block.leash with
        lanes := modAt s.block.leash.lanes k fun l => { l with lastSync := s.block.sys.now }
        delay := (rt - Config.hubTurnaround) / 2
        delayKnown := true
        nextTag := (s.block.leash.nextTag + 1) % 256
        waiting := s.block.leash.waiting ++ [{ tag := s.block.leash.nextTag, kind := .delayResult ((rt - Config.hubTurnaround) / 2), sent := 1, carries := none }] } := by
    have hup : ((onLane k (fun l => { l with lastSync := s.block.sys.now }) s.block).lane k).up = true := by rw [lane_onLane_self (lane_lt_of_up h), h]
    unfold doSyncSetReceived
    extract_lets b1 d old step b2 b3
    have hb3 : b3.leash = b2.leash := by simp only [b3, apply_ite Block.leash, note_leash, ite_self]
    rw [if_neg (by simp [h]), if_neg (by simp), if_neg (by simp), Block.touch_leash,
      sendDown_leash _ _ ((anyLane_of_lanes (by rw [hb3]; rfl)).trans (anyLane_of_up hup)), hb3]
    rfl
  refine happens_plain (f := doSyncSetReceived false k true count rt) rfl (by simp [doSyncSetReceived]) (by simp) ?_
  rw [irqWatch_lane, irqWatch_leash, hf]
  refine ⟨?_, rfl, rfl, rfl⟩
  rw [lane_of_lanes (b := onLane k (fun l => { l with lastSync := s.block.sys.now }) s.block) (by rw [hf]; rfl)]
  exact syncSet_lane h

/-- The lane that is declared down, the other one, and the counts. -/
structure Block.dropsLane (o b : Block) (k : Nat) : Prop where
  lane : b.lane k = (o.lane k).fallen o.sys.now (o.lane k).downs
  other : ∀ j ≠ k, b.lane j = o.lane j
  flaps : b.leash.flaps = satAdd 255 o.leash.flaps 1
  missed : b.leash.missed = if (o.leash.inFlight.any fun f => f.striped) = true then satAdd 255 o.leash.missed 1 else o.leash.missed

theorem laneDown_dropsLane {b : Block} {k : Nat} (h : (b.lane k).up = true) : b.dropsLane (laneDown k b) k := by
  have hl := laneDown_leash h
  have hlanes : (laneDown k b).leash.lanes = (onLane k (Lane.fallen b.sys.now (b.lane k).downs) b).leash.lanes := by
    rw [hl, Block.leashFallen]
    split <;> rfl
  refine ⟨?_, fun j hj => ?_, ?_, ?_⟩
  · rw [lane_of_lanes hlanes, lane_onLane_self (lane_lt_of_up h)]
  · rw [lane_of_lanes hlanes, lane_onLane_ne hj]
  · rw [hl, Block.leashFallen]
    split <;> rfl
  · rw [hl, Block.leashFallen]
    split <;> rfl

theorem Block.dropsLane.watched {o a b : Block} {k : Nat} (h : o.dropsLane b k) : o.dropsLane (irqWatch a b) k :=
  ⟨by rw [irqWatch_lane, h.lane], fun j hj => by rw [irqWatch_lane, h.other j hj], by rw [irqWatch_leash, h.flaps], by rw [irqWatch_leash, h.missed]⟩

theorem Block.dropsLane.down {o b : Block} (h : o.dropsLane b k) : (b.lane k).up = false ∧ (∀ j : Fin 2, j ≠ k → b.lane j = o.lane j) ∧ b.leash.flaps = satAdd 255 o.leash.flaps 1 :=
  ⟨by rw [h.lane]; rfl, fun j hj => h.other j (Fin.val_ne_of_ne hj), h.flaps⟩

/-- The hold-down at the fourth time within 60 s. -/
theorem fallen_hold (now : Nat) (downs : List Nat) (l : Lane) :
    (Lane.fallen now downs l).hold = if 3 ≤ (downs.filter fun d => decide (now < d + 60 * secT)).length then some now else none := by
  simp [Lane.fallen]

theorem laneViolationLimit_happens (h : (s.block.lane k).up = true) : Happens (.laneViolationLimit k) s [.sys, .leash, .sense] fun b =>
    (b.lane k).up = false ∧ (∀ j : Fin 2, j ≠ k → b.lane j = s.block.lane j) ∧ b.leash.flaps = satAdd 255 s.block.leash.flaps 1
      ∧ b.leash.missed = (if (s.block.leash.inFlight.any fun f => f.striped) = true then satAdd 255 s.block.leash.missed 1 else s.block.leash.missed)
      ∧ (b.lane k).hold = (if 3 ≤ ((s.block.lane k).downs.filter fun d => decide (s.block.sys.now < d + 60 * secT)).length then some s.block.sys.now else none) := by
  have hd : s.block.dropsLane (irqWatch s.block (laneDown k s.block)) k := (laneDown_dropsLane h).watched
  obtain ⟨hup, hother, hflaps⟩ := hd.down
  exact happens_plain (f := laneDown k) rfl (by simp) (by simp) ⟨hup, hother, hflaps, hd.missed, by rw [hd.lane, fallen_hold]⟩

@[simp] theorem missSnapshot_sys (b : Block) : (missSnapshot b).sys = b.sys :=
  (touches_missSnapshot (l := [.sense, .leash]) (by decide) (by decide) b b).mpr (touches_refl _ _) .sys (by decide) (by decide)

@[simp] theorem takeover_sys (p k : Nat) (b : Block) : (takeover p k b).sys = { b.sys with takeovers := b.sys.takeovers + 1 } := by simp [takeover]

theorem laneDown_now (k : Nat) (b : Block) : (laneDown k b).sys.now = b.sys.now := by
  unfold laneDown
  extract_lets now recent held b1 b2 b3 b4 b5
  have h4 : b4.sys = b.sys := by simp only [b4, apply_ite Block.sys, b3, note_sys, ite_self, b2, b1, onLane, Block.onLeash_sys]
  have h5 : b5.sys = b.sys := by
    simp only [b5]
    split
    · rw [apply_ite Block.sys, missSnapshot_sys, ite_self, h4]
    · exact h4
  rw [apply_ite Block.sys, Block.touch_sys, apply_ite Block.sys, takeover_sys, h5]
  split
  · rfl
  · split <;> rfl

theorem laneSyncTimeout_happens (h : (s.block.lane k).up = true) : Happens (.laneSyncTimeout k) s [.sys, .leash, .sense] fun b =>
    b.sys.now = max s.block.sys.now ((s.block.lane k).lastSync + 30 * usT) ∧ (b.lane k).up = false ∧ (∀ j : Fin 2, j ≠ k → b.lane j = s.block.lane j)
      ∧ b.leash.flaps = satAdd 255 s.block.leash.flaps 1 := by
  let b := s.block.at ((s.block.lane k).lastSync + 30 * usT)
  have hf : doLaneSyncTimeout k s.block = laneDown k b := by rw [doLaneSyncTimeout, if_neg (by simp [h])]
  have hd : b.dropsLane (irqWatch s.block (laneDown k b)) k := (laneDown_dropsLane (b := b) h).watched
  refine happens_plain (f := doLaneSyncTimeout k) rfl (by simp [hf, b]) (by simp) ?_
  rw [hf]
  exact ⟨by rw [irqWatch_sys, laneDown_now]; rfl, hd.down⟩

theorem ldownSet_happens (h : (s.block.lane k).up = true) : Happens (.ldownSet k true) s [.sys, .leash, .sense] fun b =>
    (b.lane k).up = false ∧ (∀ j : Fin 2, j ≠ k → b.lane j = s.block.lane j) ∧ b.leash.flaps = satAdd 255 s.block.leash.flaps 1 :=
  happens_plain (f := laneDown k) rfl (by simp) (by simp) (laneDown_dropsLane h).watched.down

theorem laneHoldExpiry_happens {t : Nat} (h : (s.block.lane k).hold = some t) : Happens (.laneHoldExpiry k) s [.sys, .leash] fun b =>
    b.sys.now = max s.block.sys.now (t + 600 * secT) ∧ b.lane k = { s.block.lane k with hold := none } ∧ ∀ j : Fin 2, j ≠ k → b.lane j = s.block.lane j := by
  have hf : doLaneHoldExpiry k s.block = (onLane k (fun l => { l with hold := none }) (s.block.at (t + 600 * secT))).touch [8] := by simp [doLaneHoldExpiry, h]
  refine happens_plain (f := doLaneHoldExpiry k) rfl (by simp [hf]) (by simp) ?_
  rw [hf, irqWatch_sys]
  refine ⟨rfl, ?_, fun j hj => ?_⟩
  · rw [irqWatch_lane]
    exact lane_onLane_self (b := s.block.at _) (lane_lt_of_hold h)
  · rw [irqWatch_lane]
    exact lane_onLane_ne (b := s.block.at _) (Fin.val_ne_of_ne hj)

/-! #### The leash comes back (R49, R111, R113) -/

@[simp] theorem touches_leashBack {l : List PartName} (hl : .leash ∈ l) (hc : .latch ∈ l) (o b : Block) : o.touches (leashBack b) l ↔ o.touches b l := by
  simp [leashBack, hl, hc]

theorem leashBack_settled {b : Block} (h : b.settled = true) : (leashBack b).settled = true := by
  unfold leashBack
  refine clearCause_settled _ _ ?_
  refine Eq.trans (settled_of_touches (o := b) (l := [.leash]) ?_ ?_ (by decide)) h
  · simp 
  · simp

theorem sendDown_fields (kind : DownKind) (src : Option Src) (b : Block) : ∃ tag waiting, (sendDown kind src b).leash = { b.leash with nextTag := tag, waiting := waiting } := by
  unfold sendDown
  split
  · exact ⟨_, _, rfl⟩
  · exact ⟨_, _, rfl⟩

/-- What comes back to the leash with a lane, but for the frames that go out with it. -/
theorem leashBack_leash (b : Block) : ∃ tag waiting, (leashBack b).leash = { b.leash with
    hubMode := b.leash.lossMode, hubBrodda := b.leash.broddaMs, stack := .normal, silentAt := none, broddaStopped := false, lostAt := none, nextTag := tag, waiting := waiting } := by
  have hclear (x : Block) : (clearCause 6 0 x).leash = x.leash :=
    (touches_clearCause (l := [.latch]) (by decide) x x 6 0).mpr (touches_refl _ _) .leash (by decide) (by decide)
  unfold leashBack
  extract_lets was ms restored b1 b2 b3
  obtain ⟨t1, w1, h1⟩ := sendDown_fields (.leashMode b.leash.lossMode b.leash.broddaMs) none b1
  obtain ⟨t2, w2, h2⟩ := sendDown_fields .schedule none (sendDown (.leashMode b.leash.lossMode b.leash.broddaMs) none b1)
  have h3 : b3.leash = b2.leash := by simp only [b3, apply_ite Block.leash, note_leash, ite_self]
  refine ⟨t2, w2, ?_⟩
  rw [hclear, h3, h2, h1]
  rfl

theorem laneTrained_happens (hk : k.val < s.block.leash.lanes.length) (hup : (s.block.lane k).up = false) (hhold : (s.block.lane k).hold = none) :
    Happens (.laneTrained k) s [.leash, .latch] fun b =>
      (b.lane k).up = true ∧ (b.lane k).lastSync = s.block.sys.now ∧ (∀ j : Fin 2, j ≠ k → b.lane j = s.block.lane j)
      ∧ b.leash.hubMode = s.block.leash.lossMode ∧ b.leash.hubBrodda = s.block.leash.broddaMs ∧ b.leash.stack = .normal ∧ b.leash.lostAt = none
      ∧ (6, 0) ∉ b.latch.causes := by
  let b1 := note .leashLaneUp k [] (onLane k (fun l => { l with up := true, lastSync := s.block.sys.now }) s.block)
  have hf : doLaneTrained k s.block = (leashBack b1).touch (8 :: integTiles) := by rw [doLaneTrained, if_neg (by simp [hup, hhold])]
  obtain ⟨tag, waiting, hl⟩ := leashBack_leash b1
  have hlane (j : Nat) : (leashBack b1).lane j = (onLane k (fun l => { l with up := true, lastSync := s.block.sys.now }) s.block).lane j :=
    lane_of_lanes (by rw [hl, note_leash]) j
  have hb1 : b1.settled = s.block.settled := settled_of_touches (l := [.leash]) (by simp [b1]) (by simp [b1, onLane]) (by decide)
  refine happens_touching (f := doLaneTrained k) rfl (by simp [hf, b1]) (fun h => ?_) ?_
  · rw [hf, touch_settled]
    exact leashBack_settled (hb1.trans h)
  · have hgone : (6, 0) ∉ ((leashBack b1).touch (8 :: integTiles)).latch.causes := by
      rw [Block.touch_latch, leashBack]
      exact clearCause_gone 6 0 _
    have hself := lane_onLane_self (f := fun l => { l with up := true, lastSync := s.block.sys.now }) hk
    have htouch (j : Nat) : ((leashBack b1).touch (8 :: integTiles)).lane j = _ := (lane_of_lanes (by rw [Block.touch_leash]) j).trans (hlane j)
    rw [hf, irqWatch_leash, irqWatch_lane, irqWatch_latch, htouch, hself, Block.touch_leash, hl, note_leash]
    exact ⟨rfl, rfl, fun j hj => by rw [irqWatch_lane, htouch, lane_onLane_ne (Fin.val_ne_of_ne hj)], rfl, rfl, rfl, rfl, hgone⟩

end

/-- Settles O7: each command's clause by its own lemma above. -/
theorem lanesCarrySyncSetsFailAndReturn : Obligations.LanesCarrySyncSetsFailAndReturn := by
  unfold Obligations.LanesCarrySyncSetsFailAndReturn
  exact ⟨fun _ => syncSetDownstream_happens, fun _ => syncSetUpstream_happens, fun _ _ _ _ _ => syncSetReceived_atHub, fun _ _ _ _ => syncSetReceived_plain,
    fun _ _ _ _ => syncSetReceived_echo, fun _ _ => laneViolationLimit_happens, fun _ _ => laneSyncTimeout_happens, fun _ _ => ldownSet_happens,
    fun _ _ => happens_nothing (f := id) rfl rfl, fun _ _ => laneTrained_happens, fun _ _ _ => laneHoldExpiry_happens⟩

end Sys2Proof.Machine

namespace Sys2Proof.Machine

/-! ### The control of the module: what its operations touch (R19, R231, R283, R297, R319) -/

section
variable {l : List PartName}

@[simp] theorem touches_setPhase (hl : .cnv ∈ l) (o b : Block) (k : Nat) (st : PhState) : o.touches (setPhase k st b) l ↔ o.touches b l := by
  unfold setPhase onPhase
  split
  · rfl
  · simp [hl]

@[simp] theorem touches_phasesOff (hl : .cnv ∈ l) (o b : Block) : o.touches (phasesOff b) l ↔ o.touches b l :=
  touches_foldl (fun o b k => touches_setPhase hl o b k .ready) _ o b

@[simp] theorem touches_cnvDark (hl : .cnv ∈ l) (o b : Block) (st : CState) : o.touches (cnvDark st b) l ↔ o.touches b l := by simp [cnvDark, hl]
@[simp] theorem touches_cnvMuzzle (hl : .cnv ∈ l) (o b : Block) : o.touches (cnvMuzzle b) l ↔ o.touches b l := by simp [cnvMuzzle, hl]
@[simp] theorem touches_cnvToIdle (hl : .cnv ∈ l) (o b : Block) : o.touches (cnvToIdle b) l ↔ o.touches b l := by simp [cnvToIdle, hl]
@[simp] theorem touches_cnvPrecheck (hl : .cnv ∈ l) (o b : Block) : o.touches (cnvPrecheck b) l ↔ o.touches b l := by simp [cnvPrecheck, hl]

@[simp] theorem touches_endJob (hl : .imp ∈ l) (o b : Block) (st : Status) : o.touches (endJob st b) l ↔ o.touches b l := by
  unfold endJob
  split
  · rfl
  · simp [hl]

@[simp] theorem touches_impStop (hl : .imp ∈ l) (o b : Block) : o.touches (impStop b) l ↔ o.touches b l := by simp [impStop, hl]
@[simp] theorem touches_scheduleRate (hl : .sense ∈ l) (o b : Block) (code : Nat) : o.touches (scheduleRate code b) l ↔ o.touches b l := touches_onSense hl ..
@[simp] theorem touches_balStop (hl : .bal ∈ l) (o b : Block) : o.touches (balStop b) l ↔ o.touches b l := touches_onBal hl ..

@[simp] theorem touches_endManual (hl : .bal ∈ l) (o b : Block) (n : Nat) : o.touches (endManual n b) l ↔ o.touches b l := by
  unfold endManual onCellBal onSegBal
  split
  · rfl
  · simp [hl]

@[simp] theorem touches_endManuals (hl : .bal ∈ l) (o b : Block) : o.touches (endManuals b) l ↔ o.touches b l :=
  touches_foldl (fun o b n => touches_endManual hl o b n) _ o b

@[simp] theorem touches_startSave (hl : .flt ∈ l) (o b : Block) (cause : Nat) : o.touches (startSave cause b) l ↔ o.touches b l := by
  unfold startSave
  split
  · exact touches_onFlt hl ..
  · exact touches_onFlt hl ..

@[simp] theorem touches_complete (hx : .ix ∈ l) (hp : .pwr ∈ l) (he : .engines ∈ l) (o b : Block) (src : Src) (st : Status) (d : List Byte) :
    o.touches (complete src st d b) l ↔ o.touches b l :=
  touches_congr (m := [.ix, .pwr, .engines]) (fun q hq hn => by cases q <;> simp_all [Block.same, noticed]) (by simp [hx, hp, he]) o

/-- A request of a session leaves the policy engines. -/
@[simp] theorem touches_complete_session (hx : .ix ∈ l) (hp : .pwr ∈ l) (o b : Block) (i seq : Nat) (st : Status) (d : List Byte) :
    o.touches (complete (.session i seq) st d b) l ↔ o.touches b l :=
  touches_congr (m := [.ix, .pwr]) (fun q hq hn => by cases q <;> simp_all [Block.same, noticed]) (by simp [hx, hp]) o

/-- The parts that a change of module state may touch. -/
theorem controlled_subset : controlled ⊆ l ↔ PartName.engines ∈ l ∧ PartName.sys ∈ l ∧ PartName.ix ∈ l ∧ PartName.sense ∈ l ∧ PartName.bal ∈ l ∧ PartName.flt ∈ l
    ∧ PartName.cnv ∈ l ∧ PartName.imp ∈ l ∧ PartName.loop ∈ l ∧ PartName.pwr ∈ l ∧ PartName.supply ∈ l ∧ PartName.log ∈ l ∧ PartName.img ∈ l ∧ PartName.pol ∈ l := by
  simp [controlled]

@[simp] theorem touches_clearRedirected (o b : Block) (p : Nat) : o.touches (clearRedirected p b) l ↔ o.touches b l :=
  touches_quiet (a := b) (b := clearRedirected p b) rfl o l

@[simp] theorem touches_hibernateExit (hl : controlled ⊆ l) (o b : Block) : o.touches (hibernateExit b) l ↔ o.touches b l := by
  unfold hibernateExit
  refine (touches_foldl (fun o b p => ?_) _ o _).trans ?_
  · simp
  · simp [controlled_subset.mp hl]

@[simp] theorem touches_leaveRun (hl : controlled ⊆ l) (o b : Block) (m : MState) : o.touches (leaveRun m b) l ↔ o.touches b l := by
  unfold leaveRun
  dsimp only
  split
  · simp [controlled_subset.mp hl]
  · simp [controlled_subset.mp hl]

@[simp] theorem touches_onEntry_ (hl : controlled ⊆ l) (o b : Block) (m : MState) : o.touches (onEntry_ m b) l ↔ o.touches b l := by
  cases m <;> simp [onEntry_, controlled_subset.mp hl]

@[simp] theorem touches_changeNow (hl : controlled ⊆ l) (o b : Block) (m : MState) (cause : Nat) (op : List Nat) : o.touches (changeNow m cause op b) l ↔ o.touches b l := by
  simp [changeNow, hl, controlled_subset.mp hl]

@[simp] theorem touches_deferState (hl : controlled ⊆ l) (o b : Block) (m : MState) (cause : Nat) (op : List Nat) : o.touches (deferState m cause op b) l ↔ o.touches b l := by
  simp [deferState, controlled_subset.mp hl]

@[simp] theorem touches_enterState (hl : controlled ⊆ l) (o b : Block) (m : MState) (cause : Nat) : o.touches (enterState m cause b) l ↔ o.touches b l := by
  simp [enterState, changeState, hl]

@[simp] theorem touches_raise (hl : controlled ⊆ l) (o b : Block) (e : Event) (a : Nat) (d : List Nat) : o.touches (raise e a d b) l ↔ o.touches b l := by
  simp [raise, hl, controlled_subset.mp hl]

/-! #### The Latch -/

@[simp] theorem touches_retime (ht : .latch ∈ l) (o b : Block) : o.touches (retime b) l ↔ o.touches b l := touches_onLatch ht ..
@[simp] theorem touches_onOut (ht : .latch ∈ l) (o b : Block) (n : Nat) (f : SafeOut → SafeOut) : o.touches (onOut n f b) l ↔ o.touches b l := by simp [onOut, ht]
@[simp] theorem touches_contactorsOff (ht : .latch ∈ l) (o b : Block) : o.touches (contactorsOff b) l ↔ o.touches b l := by simp [contactorsOff, ht]
@[simp] theorem touches_addCause (ht : .latch ∈ l) (o b : Block) (cause ix : Nat) : o.touches (addCause cause ix b) l ↔ o.touches b l := touches_onLatch ht ..

@[simp] theorem touches_failClose (hl : controlled ⊆ l) (ht : .latch ∈ l) (o b : Block) (code : Nat) : o.touches (failClose code b) l ↔ o.touches b l := by
  unfold failClose
  dsimp only
  split <;> simp [hl, ht, controlled_subset.mp hl]

@[simp] theorem touches_abortSeq (hl : controlled ⊆ l) (ht : .latch ∈ l) (o b : Block) (ssi : Bool) : o.touches (abortSeq ssi b) l ↔ o.touches b l := by
  unfold abortSeq
  dsimp only
  split
  · exact touches_failClose hl ht ..
  · split
    · split <;> simp [ht, controlled_subset.mp hl]
    · rfl

@[simp] theorem touches_driveBark (hk : .bark ∈ l) (ht : .latch ∈ l) (o b : Block) (on : Bool) : o.touches (driveBark on b) l ↔ o.touches b l := by
  simp [driveBark, hk, ht]

@[simp] theorem touches_spoilReset (hl : controlled ⊆ l) (ht : .latch ∈ l) (o b : Block) (cause : Nat) : o.touches (spoilReset cause b) l ↔ o.touches b l := by
  unfold spoilReset denyReset
  split
  · split <;> simp [ht, controlled_subset.mp hl]
  · rfl

/-- The parts that a function of the Latch may touch. -/
theorem actedOn_subset : actedOn ⊆ l ↔ PartName.latch ∈ l ∧ PartName.leash ∈ l ∧ PartName.bark ∈ l ∧ controlled ⊆ l := by simp [actedOn]

@[simp] theorem touches_execFn (hl : actedOn ⊆ l) (o b : Block) (ssi : Bool) (cause ix : Nat) (next : LState) :
    o.touches (execFn ssi cause ix next b) l ↔ o.touches b l := by
  obtain ⟨ht, hh, hk, hc⟩ := actedOn_subset.mp hl
  simp [execFn, ht, hh, hk, hc, controlled_subset.mp hc]

@[simp] theorem touches_demand (hl : actedOn ⊆ l) (o b : Block) (ssi : Bool) (cause ix : Nat) : o.touches (demand ssi cause ix b) l ↔ o.touches b l := by
  obtain ⟨ht, hh, hk, hc⟩ := actedOn_subset.mp hl
  unfold demand
  cases b.latch.state <;> simp [hl, ht, hk]

end
end Sys2Proof.Machine

namespace Sys2Proof.Machine

/-! ### A change of module state and an event that stops the converter keep the interlock (R19, R231, R286) -/

/-- The converter is MUZZLED or LATCHED: no phase modulates. -/
def Block.dark (b : Block) : Prop := b.cnv.st = .muzzled ∨ b.cnv.st = .latched

theorem dark_of_cnv {a b : Block} (h : a.cnv = b.cnv) : a.dark ↔ b.dark := by rw [Block.dark, Block.dark, h]

/-- While a phase may modulate no muzzle stands, so a change of the converter and of what the interlock does not read keeps the interlock. -/
theorem settled_of_lit {b c : Block} {l : List PartName} (h : b.settled = true) (hd : ¬b.dark) (ht : b.touches c l) (hm : c.sys.mstate = b.sys.mstate)
    (hl : .latch ∉ l ∧ .pwr ∉ l ∧ .sec ∉ l) : c.settled = true := by
  obtain ⟨hlatch, hpwr, hsec⟩ := hl
  obtain ⟨hp, -, -⟩ := settled_iff.mp h
  obtain ⟨-, hz, -⟩ := safePath_iff.mp hp
  have hz : b.latch.muzzle = false := by
    by_contra hm
    exact hd (hz (by simpa using hm))
  have el : c.latch = b.latch := ht .latch hlatch (by decide)
  have ep : c.pwr = b.pwr := ht .pwr hpwr (by decide)
  have es : c.sec = b.sec := ht .sec hsec (by decide)
  exact (settled_unmuzzled el hm (by rw [ep]) (by rw [es]) (by rw [es]) hz).trans h

theorem not_dark_of_st {b : Block} {st : CState} (h : b.cnv.st = st) (hm : st ≠ .muzzled) (hl : st ≠ .latched) : ¬b.dark := by
  rw [Block.dark, h]
  exact not_or.mpr ⟨hm, hl⟩

theorem cnvMuzzle_dark (b : Block) : (cnvMuzzle b).dark := by
  unfold cnvMuzzle
  split
  · next h => exact .inr h
  · exact .inl (cnvDark_st .muzzled b)

theorem onEntry_fault_dark (b : Block) : (onEntry_ .fault b).dark := (dark_of_cnv (by rw [onEntry_, startSave_cnv])).mpr (cnvMuzzle_dark (balStop b))

@[simp] theorem hibernateExit_hold (b : Block) : (hibernateExit b).pwr.hold = b.pwr.hold := by
  unfold hibernateExit
  exact foldl_keeps (fun b : Block => b.pwr.hold) _ (fun b p => by split <;> rfl) _ _

@[simp] theorem leaveRun_hold (m : MState) (b : Block) : (leaveRun m b).pwr.hold = b.pwr.hold := by
  unfold leaveRun
  dsimp only
  split
  · split <;> simp
  · simp

@[simp] theorem onEntry_pwr (m : MState) (b : Block) : (onEntry_ m b).pwr = b.pwr := by cases m <;> simp [onEntry_]

@[simp] theorem changeNow_hold (m : MState) (cause : Nat) (op : List Nat) (b : Block) : (changeNow m cause op b).pwr.hold = b.pwr.hold := by
  simp [changeNow, apply_ite Block.pwr, apply_ite PwrPart.hold]

@[simp] theorem enterState_hold (m : MState) (cause : Nat) (b : Block) : (enterState m cause b).pwr.hold = b.pwr.hold := by
  simp [enterState, changeState, deferState, apply_ite Block.pwr, apply_ite PwrPart.hold]

@[simp] theorem raise_hold (e : Event) (a : Nat) (d : List Nat) (b : Block) : (raise e a d b).pwr.hold = b.pwr.hold := by
  simp [raise, apply_ite Block.pwr, apply_ite PwrPart.hold]

/-- A module that goes to FAULT is dark. -/
theorem enterState_fault_settled {b : Block} (cause : Nat) (h : b.settled = true) (hm : b.sys.mstate ∈ [MState.boot, .park, .run, .hibernate]) :
    (enterState .fault cause b).settled = true := by
  by_cases hh : b.hinge = true
  · rw [enterState, changeState, if_pos hh]
    exact (settled_of_same (by simp [deferState]) (by simp [deferState]) (by simp [deferState]) (by simp [deferState]) (by simp [deferState]) (by simp [deferState])).trans h
  · have hh : b.hinge = false := by simpa using hh
    have ha := not_acting h hh hm
    obtain ⟨hp, hd, hk⟩ := settled_iff.mp h
    obtain ⟨hz, -, -⟩ := safePath_iff.mp hp
    have hne : b.sys.mstate ≠ .fault := fun e => by simp [e] at hm
    have hdark : (enterState .fault cause b).dark := by
      rw [enterState, changeState, if_neg (by simp [hh]), changeNow, if_neg hne]
      exact (dark_of_cnv (Block.touch_cnv ..)).mpr (onEntry_fault_dark _)
    exact settled_iff.mpr ⟨safePath_iff.mpr ⟨by simpa using hz, fun _ => hdark, fun hacts => by simp [ha] at hacts⟩, by simpa using hd, by simpa using hk⟩

theorem raise_settled (e : Event) (a : Nat) (d : List Nat) {b : Block} (h : b.settled = true) : (raise e a d b).settled = true := by
  unfold raise
  extract_lets b1 b2
  have h1 : b1.settled = true := by simpa [b1] using h
  have h2 : b2.settled = true := (settled_of_same rfl rfl rfl rfl rfl rfl).trans h1
  split
  · exact h1
  · split
    · next hm => exact enterState_fault_settled _ h2 (by simpa using hm)
    · exact h2

theorem raise_raised (e : Event) (a : Nat) (d : List Nat) {o b : Block} (he : e.stopsConverter = true) (hh : b.hinge = o.hinge) (hm : b.sys.mstate = o.sys.mstate) :
    o.raised (raise e a d b) e a :=
  ⟨raise_causes e a d b he, fun hn hs => raise_mstate he (hh.trans hn) (hm ▸ hs)⟩

/-! ### A function of the Latch (R283, R297, R319) -/

theorem raise_mstate_safe (e : Event) (a : Nat) (d : List Nat) {b : Block} (h : b.sys.mstate = .safe) : (raise e a d b).sys.mstate = .safe := by
  simp [raise, h, apply_ite Block.sys, apply_ite SysPart.mstate]

/-- Output `n` is not commanded on and its switches are open. -/
def Block.outOff (b : Block) (n : Nat) : Prop := (b.latch.outs[n]?.all fun x => !x.cmd && !x.hs && !x.ls) = true

theorem outOff_of_latch {a b : Block} (h : a.latch = b.latch) {n : Nat} : a.outOff n ↔ b.outOff n := by rw [Block.outOff, Block.outOff, h]

@[simp] theorem retime_outOff (b : Block) (n : Nat) : (retime b).outOff n ↔ b.outOff n := by
  simp only [Block.outOff, retime, Block.onLatch_latch, List.getElem?_mapIdx]
  cases b.latch.outs[n]? <;> simp

theorem onOut_off_outOff (b : Block) (n : Nat) : (onOut n SafeOut.off b).outOff n := by
  rw [onOut, retime_outOff]
  simp only [Block.outOff, Block.onLatch_latch, modAt, List.getElem?_modify]
  cases b.latch.outs[n]? <;> simp [SafeOut.off]

/-- SO1 to SO3 are off; SO4 stays as it was. -/
theorem contactorsOff_outOff {b : Block} {n : Nat} (h : n < 3 ∨ b.outOff n) : (contactorsOff b).outOff n := by
  rw [contactorsOff, retime_outOff]
  simp only [Block.outOff, Block.onLatch_latch, List.getElem?_mapIdx] at h ⊢
  cases hn : b.latch.outs[n]? with
  | none => simp
  | some x =>
    by_cases h3 : n < 3
    · simp [h3, SafeOut.off]
    · simpa [h3, hn] using h

/-- What the end of a sequence keeps of a function: the outputs that are off, the causes present, the trip, the bark line, the hold, and SAFE. -/
structure Block.keepsFn (o b : Block) : Prop where
  outs : ∀ n, o.outOff n → b.outOff n
  causes : b.latch.causes = o.latch.causes
  leash : b.leash = o.leash
  bark : b.bark = o.bark
  hold : b.pwr.hold = o.pwr.hold
  safe : o.sys.mstate = .safe → b.sys.mstate = .safe

theorem Block.keepsFn.trans {a b c : Block} (h : a.keepsFn b) (k : b.keepsFn c) : a.keepsFn c :=
  ⟨fun n hn => k.outs n (h.outs n hn), k.causes.trans h.causes, k.leash.trans h.leash, k.bark.trans h.bark, k.hold.trans h.hold, fun hs => k.safe (h.safe hs)⟩

/-- Whatever leaves the Latch, the leash, the bark line, the hold and SAFE. -/
theorem keepsFn_of_latch {o b : Block} (hl : b.latch = o.latch) (hh : b.leash = o.leash) (hk : b.bark = o.bark) (hp : b.pwr.hold = o.pwr.hold)
    (hs : o.sys.mstate = .safe → b.sys.mstate = .safe) : o.keepsFn b :=
  ⟨fun _ hn => (outOff_of_latch hl).mpr hn, by rw [hl], hh, hk, hp, hs⟩

theorem complete_keepsFn (src : Src) (st : Status) (d : List Byte) (b : Block) : b.keepsFn (complete src st d b) :=
  keepsFn_of_latch (complete_latch ..) (complete_leash ..) (complete_bark ..) (complete_hold ..) fun h => by rw [complete_sys, h]

theorem raise_keepsFn (e : Event) (a : Nat) (d : List Nat) (b : Block) : b.keepsFn (raise e a d b) :=
  keepsFn_of_latch (raise_latch ..) (raise_leash ..) (raise_bark ..) (raise_hold ..) fun h => raise_mstate_safe e a d h

theorem touch_keepsFn (ts : List Nat) (b : Block) : b.keepsFn (b.touch ts) := keepsFn_of_latch rfl rfl rfl rfl id

theorem retime_keepsFn (b : Block) : b.keepsFn (retime b) := ⟨fun n hn => (retime_outOff b n).mpr hn, rfl, rfl, rfl, rfl, id⟩

theorem contactorsOff_keepsFn (b : Block) : b.keepsFn (contactorsOff b) := ⟨fun _ hn => contactorsOff_outOff (.inr hn), rfl, rfl, rfl, rfl, id⟩

/-- A change of the running sequence in the Latch. -/
theorem onSeq_keepsFn {f : LatchPart → LatchPart} (ho : ∀ l, (f l).outs = l.outs) (hc : ∀ l, (f l).causes = l.causes) (b : Block) : b.keepsFn (b.onLatch f) :=
  ⟨fun n hn => by rwa [Block.outOff, Block.onLatch_latch, ho], hc b.latch, rfl, rfl, rfl, id⟩

theorem failClose_keepsFn (code : Nat) (b : Block) : b.keepsFn (failClose code b) := by
  unfold failClose
  extract_lets src b1 b2
  have h1 : b.keepsFn b1 := (contactorsOff_keepsFn b).trans
    (onSeq_keepsFn (f := fun l => { l with seq := .idle, seqFail := code, seqSrc := none }) (fun _ => rfl) (fun _ => rfl) _)
  have h2 : b.keepsFn (retime b2) := (h1.trans (raise_keepsFn ..)).trans (retime_keepsFn _)
  refine Block.keepsFn.trans ?_ (touch_keepsFn ..)
  clear_value src
  cases src with
  | some s => exact h2.trans (complete_keepsFn ..)
  | none => exact h2

theorem abortSeq_keepsFn (ssi : Bool) (b : Block) : b.keepsFn (abortSeq ssi b) := by
  have hself : b.keepsFn b := keepsFn_of_latch rfl rfl rfl rfl id
  unfold abortSeq
  split
  · exact failClose_keepsFn 7 b
  · split
    · extract_lets src b1
      have h1 : b.keepsFn (retime b1) :=
        (onSeq_keepsFn (f := fun l => { l with seq := .idle, seqSrc := none }) (fun _ => rfl) (fun _ => rfl) b).trans (retime_keepsFn _)
      clear_value src
      cases src with
      | some s => exact h1.trans (complete_keepsFn ..)
      | none => exact h1
    · exact hself

@[simp] theorem spoilReset_causes (cause : Nat) (b : Block) : (spoilReset cause b).latch.causes = b.latch.causes := by
  unfold spoilReset denyReset
  split
  · dsimp only
    rw [Block.touch_latch]
    split <;> simp
  · rfl

@[simp] theorem spoilReset_hold (cause : Nat) (b : Block) : (spoilReset cause b).pwr.hold = b.pwr.hold := by
  unfold spoilReset denyReset
  split
  · dsimp only
    rw [Block.touch_pwr]
    split <;> simp
  · rfl

/-- What a function has done before the sequence ends and the converter goes dark. -/
structure Block.actsFn (o b : Block) (cause ix : Nat) : Prop where
  outs : ∀ n < 4, b.outOff n
  cause : (cause, ix) ∈ b.latch.causes
  trip : b.leash.tripDown = true
  drive : b.bark.drive = true
  hold : b.pwr.hold = o.pwr.hold
  safe : o.hinge = false → b.sys.mstate = .safe

theorem Block.actsFn.keep {o a b : Block} {cause ix : Nat} (h : o.actsFn a cause ix) (k : a.keepsFn b) : o.actsFn b cause ix :=
  ⟨fun n hn => k.outs n (h.outs n hn), k.causes ▸ h.cause, k.leash ▸ h.trip, k.bark ▸ h.drive, k.hold.trans h.hold, fun hh => k.safe (h.safe hh)⟩

theorem cnvMuzzle_keepsFn (b : Block) : b.keepsFn (cnvMuzzle b) :=
  keepsFn_of_latch (cnvMuzzle_latch _) (cnvMuzzle_leash _) (cnvMuzzle_bark _) (by rw [cnvMuzzle_pwr]) fun h => by rw [cnvMuzzle_sys, h]

/-- SSI, executed for a cause other than the external bark, whose level the drive hides. -/
theorem execFn_ssi_actsFn {b : Block} {cause ix : Nat} (hc : cause ≠ 4) (hm : (cause, ix) ∈ b.latch.causes) : b.actsFn (execFn true cause ix .acted b) cause ix := by
  unfold execFn
  extract_lets b' t b1 b2 b3 b4 b5 e b6
  have hout4 : ∀ n < 4, b4.outOff n := fun n hn => (outOff_of_latch (a := b4) (b := b3) rfl).mpr (contactorsOff_outOff (by
    rcases Nat.lt_succ_iff_lt_or_eq.mp hn with h | rfl
    · exact .inl h
    · exact .inr (onOut_off_outOff b1 3)))
  have hcauses : b5.latch.causes = b.latch.causes.filter fun c => c != (4, 0) := congrArg (List.filter fun c => c != (4, 0)) (spoilReset_causes cause b)
  have hhold : b5.pwr.hold = b.pwr.hold := spoilReset_hold cause b
  have h5 : ∀ n < 4, b5.outOff n := hout4
  have h6 : b.actsFn b6 cause ix := by
    refine ⟨fun n hn => (outOff_of_latch ((enterState_latch ..).trans (note_latch ..))).mpr (h5 n hn), ?_, ?_, ?_, ?_, fun hh => enterState_mstate ?_⟩
    · rw [enterState_latch, note_latch, hcauses]
      exact List.mem_filter.mpr ⟨hm, by simp [hc]⟩
    · rw [enterState_leash, note_leash]
      rfl
    · rw [enterState_bark, note_bark]
      rfl
    · rw [enterState_hold, note_pwr, hhold]
    · rwa [Block.hinge, note_pwr, hhold]
  exact h6.keep (((abortSeq_keepsFn true b6).trans (cnvMuzzle_keepsFn _)).trans (touch_keepsFn ..))

theorem execFn_dark (ssi : Bool) (cause ix : Nat) (next : LState) (b : Block) : (execFn ssi cause ix next b).dark :=
  (dark_of_cnv (Block.touch_cnv ..)).mpr (cnvMuzzle_dark _)

theorem execFn_ssi_hasActed {b : Block} {cause ix : Nat} (hc : cause ≠ 4) (hm : (cause, ix) ∈ b.latch.causes) :
    b.hasActed (execFn true cause ix .acted b) true cause ix := by
  have h := execFn_ssi_actsFn hc hm
  exact ⟨execFn_state .., execFn_muzzle .., h.cause, execFn_acts .., by simp, h.trip, fun _ => h.drive, fun n hn _ => h.outs n hn, execFn_dark .., h.safe⟩

theorem addCause_mem (cause ix : Nat) (b : Block) : (cause, ix) ∈ (addCause cause ix b).latch.causes := by
  simp only [addCause, Block.onLatch_latch]
  split
  · next h => simpa using h
  · simp

/-- `hasActed` reads of the block before its function, the executions, the hold. -/
theorem Block.hasActed.of_before {o a b : Block} {ssi : Bool} {cause ix : Nat} (h : a.hasActed b ssi cause ix) (hf : a.latch.fn = o.latch.fn)
    (ha : a.latch.acts = o.latch.acts) (hp : a.pwr.hold = o.pwr.hold) : o.hasActed b ssi cause ix := by
  simpa only [Block.hasActed, Block.hinge, hf, ha, hp] using h

theorem demandSSI_of_armed {b : Block} (cause ix : Nat) (ha : b.latch.state = .armed) : demandSSI cause ix b = execFn true cause ix .acted (addCause cause ix b) := by
  rw [demandSSI, demand, ha]

theorem demandSSI_hasActed {b : Block} {cause ix : Nat} (hc : cause ≠ 4) (ha : b.latch.state = .armed) : b.hasActed (demandSSI cause ix b) true cause ix := by
  rw [demandSSI_of_armed cause ix ha]
  exact (execFn_ssi_hasActed hc (addCause_mem cause ix b)).of_before rfl rfl rfl

theorem Block.hasActed.watched {o b : Block} {ssi : Bool} {cause ix : Nat} (h : o.hasActed b ssi cause ix) (a : Block) : o.hasActed (irqWatch a b) ssi cause ix := by
  simpa only [Block.hasActed, irqWatch_latch, irqWatch_leash, irqWatch_bark, irqWatch_cnv, irqWatch_sys] using h

theorem Block.hasActed.touched {o b : Block} {ssi : Bool} {cause ix : Nat} (h : o.hasActed b ssi cause ix) (ts : List Nat) : o.hasActed (b.touch ts) ssi cause ix := h

theorem safePath_of_hasActed {o b : Block} {ssi : Bool} {cause ix : Nat} (h : o.hasActed b ssi cause ix) (hh : b.pwr.hold = o.pwr.hold) : b.safePath = true := by
  obtain ⟨-, hm, -, -, -, -, -, -, hdark, hsafe⟩ := h
  exact safePath_iff.mpr ⟨.inr hm, fun _ => hdark, fun _ hn => .inl (hsafe (by rwa [Block.hinge, ← hh]))⟩

/-- A block in which a function has just been executed is settled; the debug port is as it was. -/
theorem settled_of_hasActed {o b : Block} {ssi : Bool} {cause ix : Nat} (h : o.hasActed b ssi cause ix) (hh : b.pwr.hold = o.pwr.hold)
    (hd : b.sec.fullDue = none) (hk : b.sec.dstate ≠ 2 ∨ b.latch.saOk = true) : b.settled = true :=
  settled_iff.mpr ⟨safePath_of_hasActed h hh, hd, hk⟩

/-- What SSI from ARMED leaves of the block: the hold, the debug port, whether SA and SB answer in lockstep. -/
theorem demandSSI_rest {b : Block} {cause ix : Nat} (hc : cause ≠ 4) (ha : b.latch.state = .armed) :
    (demandSSI cause ix b).pwr.hold = b.pwr.hold ∧ (demandSSI cause ix b).sec = b.sec ∧ (demandSSI cause ix b).latch.saOk = b.latch.saOk := by
  have hhold := (execFn_ssi_actsFn hc (addCause_mem cause ix b)).hold
  rw [demandSSI_of_armed cause ix ha, execFn_sec, execFn_saOk, hhold]
  exact ⟨rfl, rfl, rfl⟩

theorem demandSSI_settled {b : Block} {cause ix : Nat} (hc : cause ≠ 4) (ha : b.latch.state = .armed) (h : b.settled = true) : (demandSSI cause ix b).settled = true := by
  obtain ⟨hp, hs, hk⟩ := demandSSI_rest (ix := ix) hc ha
  obtain ⟨-, hd, ho⟩ := settled_iff.mp h
  exact settled_of_hasActed (demandSSI_hasActed hc ha) hp (by rwa [hs]) (by rwa [hs, hk])

end Sys2Proof.Machine

namespace Sys2Proof.Machine

/-! ### Elements that open, and the end of the manual targets (R111, R121, R136, R138) -/

theorem openElements_bleed {p : Nat → Bool} {c : Nat} (b : Block) (h : p (segOf c) = true) : ((openElements p b).cellBal c).bleed = false := by
  by_cases hc : c < b.bal.cells.length
  · have e : (openElements p b).cellBal c = _ := getD_mapIdx (d := CellBal.reset) hc
    rw [e, if_pos h]
  · have e : (openElements p b).cellBal c = CellBal.reset := List.getD_eq_default _ _ (by simpa [openElements] using hc)
    rw [e]
    rfl

/-- The shuttles of a segment: all open where it is chosen. -/
theorem openElements_shuttles (p : Nat → Bool) (b : Block) (n : Nat) :
    ((openElements p b).segBal n).shuttles = if p n = true then (b.segBal n).shuttles.map Shuttle.open_ else (b.segBal n).shuttles := by
  by_cases hn : n < b.bal.segs.length
  · have e : (openElements p b).segBal n = _ := getD_mapIdx (d := SegBal.reset) hn
    rw [e]
    dsimp only
    split <;> split <;> rfl
  · have e : (openElements p b).segBal n = SegBal.reset := List.getD_eq_default _ _ (by simpa [openElements] using hn)
    have e' : b.segBal n = SegBal.reset := List.getD_eq_default _ _ (by simpa using hn)
    rw [e, e']
    split <;> rfl

theorem cur_open (h : Shuttle) : h.open_.cur = 0 := by
  unfold Shuttle.open_
  split <;> rfl

theorem openElements_cur {p : Nat → Bool} {n : Nat} (b : Block) (h : p n = true) : ∀ x ∈ ((openElements p b).segBal n).shuttles, x.cur = 0 := by
  rw [openElements_shuttles, if_pos h]
  intro x hx
  obtain ⟨y, -, rfl⟩ := List.mem_map.mp hx
  exact cur_open y

theorem endManual_manuals (n : Nat) (b : Block) : (endManual n b).bal.manuals = b.bal.manuals.filter fun x => x.seg != n := by
  unfold endManual
  split
  · next h =>
    refine (List.filter_eq_self.mpr fun x hx => ?_).symm
    simpa using List.find?_eq_none.mp h x hx
  · dsimp only
    rw [Block.touch_bal, note_bal]
    split <;> rfl

theorem foldl_endManual_manuals (ns : List Nat) (b : Block) :
    (ns.foldl (fun b n => endManual n b) b).bal.manuals = b.bal.manuals.filter fun x => !ns.contains x.seg := by
  induction ns generalizing b with
  | nil => simp
  | cons n ns ih =>
    rw [List.foldl_cons, ih, endManual_manuals, List.filter_filter]
    refine List.filter_congr fun x _ => ?_
    simp [Bool.and_comm, bne, beq_eq_decide]

theorem endManuals_manuals (b : Block) : (endManuals b).bal.manuals = [] := by
  rw [endManuals, foldl_endManual_manuals]
  refine List.filter_eq_nil_iff.mpr fun x hx => ?_
  simpa using ⟨x, hx, rfl⟩

theorem segBal_of_bal {a b : Block} (h : a.bal = b.bal) (n : Nat) : a.segBal n = b.segBal n := by rw [Block.segBal, Block.segBal, h]
theorem cellBal_of_bal {a b : Block} (h : a.bal = b.bal) (c : Nat) : a.cellBal c = b.cellBal c := by rw [Block.cellBal, Block.cellBal, h]

/-- No manual target is left and every bleed switch and shuttle is open. -/
def Block.halted (b : Block) : Prop :=
  b.bal.manuals = [] ∧ (∀ c < 512, (b.cellBal c).bleed = false) ∧ ∀ n < 16, ∀ h ∈ (b.segBal n).shuttles, h.cur = 0

theorem halted_of_bal {a b : Block} (h : a.bal = b.bal) : a.halted ↔ b.halted := by simp only [Block.halted, Block.cellBal, Block.segBal, h]

theorem openElements_halted (b : Block) : (openElements (fun _ => true) (endManuals b)).halted :=
  ⟨endManuals_manuals b, fun _ _ => openElements_bleed _ rfl, fun _ _ => openElements_cur _ rfl⟩

@[simp] theorem touches_openElements {l : List PartName} (hl : .bal ∈ l) (o b : Block) (p : Nat → Bool) : o.touches (openElements p b) l ↔ o.touches b l :=
  touches_onBal hl ..

end Sys2Proof.Machine

namespace Sys2Proof.Machine

/-! ### The rung ring (R27, R28, R30, R95, R109, R110) -/

theorem irqWatch_ringSeg (a b : Block) (n : Nat) : (irqWatch a b).ringSeg n = b.ringSeg n := by simp [Block.ringSeg]
theorem ringSeg_of_ring {a b : Block} (h : a.ring = b.ring) (n : Nat) : a.ringSeg n = b.ringSeg n := by rw [Block.ringSeg, Block.ringSeg, h]

@[simp] theorem touches_impLatch {l : List PartName} (hl : .imp ∈ l) (o b : Block) (count : Nat) : o.touches (impLatch count b) l ↔ o.touches b l := by simp [impLatch, hl]

section
variable {s : State}

/-- A shutter mode that names this aperture or an earlier one takes effect (R81). -/
def SegSense.moded (count : Nat) (g : SegSense) : SegSense :=
  match g.pendingMode with
  | some (m, t) => if t ≤ count then { g with compensated := m, pendingMode := none } else g
  | none => g

theorem moded_due {count : Nat} {g : SegSense} {x : Bool × Nat} (hx : x ∈ g.pendingMode) (h : x.2 ≤ count) :
    (g.moded count).compensated = x.1 ∧ (g.moded count).pendingMode = none := by
  have e : g.pendingMode = some (x.1, x.2) := by simpa using hx
  rw [SegSense.moded, e]
  dsimp only
  rw [if_pos h]
  exact ⟨rfl, rfl⟩

theorem getD_map_lt {α β : Type} {l : List α} {f : α → β} {n : Nat} {d : α} {e : β} (h : n < l.length) : (l.map f).getD n e = f (l.getD n d) := by
  simp [List.getD_eq_getElem?_getD, List.getElem?_eq_getElem h]

theorem aperture_happens {count : Nat} (hc : count % rateTicks s.block.sense.rate = 0) (hn : s.block.sys.now ≤ count) :
    Happens (.aperture count) s [.sys, .sense, .bal, .ring, .imp] fun b =>
      b.sys.now = count ∧ (∀ g ∈ b.ring.segs, g.converted = false ∧ g.arrived = false ∧ g.framePos = none ∧ g.stale = false) ∧ b.ring.rungs = s.block.ring.rungs
      ∧ ∀ n < 16, n < s.block.sense.segs.length → ∀ x ∈ (s.block.seg n).pendingMode, x.2 ≤ count →
          (b.seg n).compensated = x.1 ∧ (b.seg n).pendingMode = none := by
  have hrun : ¬(count % rateTicks s.block.sense.rate ≠ 0 ∨ count < s.block.sys.now) := by omega
  have hnow : (doAperture count s.block).sys.now = count := by
    rw [doAperture, if_neg hrun]
    simpa [impLatch, apply_ite Block.sys] using hn
  have hring : (doAperture count s.block).ring =
      { s.block.ring with segs := s.block.ring.segs.map fun g => { g with converted := false, framePos := none, arrived := false, stale := false } } := by
    rw [doAperture, if_neg hrun]
    simp [impLatch, apply_ite Block.ring]
  have hsegs : (doAperture count s.block).sense.segs = s.block.sense.segs.map (SegSense.moded count) := by
    rw [doAperture, if_neg hrun]
    simp only [impLatch, apply_ite Block.sense, Block.touch_sense, Block.onImp_sense, Block.onRing_sense, Block.onBal_sense, Block.onSense_sense, Block.at_sense, ite_self]
    exact List.map_congr_left fun g _ => rfl
  refine happens_plain (f := doAperture count) rfl ?_ ?_ ?_
  · rw [doAperture, if_neg hrun]
    simp
  · rw [doAperture, if_neg hrun]
    simp [impLatch, apply_ite Block.sys]
  · rw [irqWatch_sys, irqWatch_ring, hnow, hring]
    refine ⟨rfl, fun g hg => ?_, rfl, fun n _ hlen x hx hdue => ?_⟩
    · obtain ⟨y, -, rfl⟩ := List.mem_map.mp hg
      exact ⟨rfl, rfl, rfl, rfl⟩
    · have hseg : (irqWatch s.block (doAperture count s.block)).seg n = (s.block.seg n).moded count := by
        rw [Block.seg, irqWatch_sense, hsegs]
        exact getD_map_lt hlen
      rw [hseg]
      exact moded_due hx hdue

/-- One segment of the ring changed. -/
theorem ringSeg_modAt_self {b : Block} {n : Nat} {f : RingSeg → RingSeg} (h : n < b.ring.segs.length) :
    (b.onRing fun x => { x with segs := modAt x.segs n f }).ringSeg n = f (b.ringSeg n) := getD_modAt_self h
theorem ringSeg_modAt_ne {b : Block} {n m : Nat} {f : RingSeg → RingSeg} (h : m ≠ n) :
    (b.onRing fun x => { x with segs := modAt x.segs n f }).ringSeg m = b.ringSeg m := getD_modAt_ne h

theorem conversionComplete_happens {n : Fin 16} (hn : n.val < s.block.nSeg) (hl : n.val < s.block.ring.segs.length) : Happens (.conversionComplete n) s [.ring] fun b =>
    b.ringSeg n = { s.block.ringSeg n with converted := true, framePos := none } ∧ b.ring.rungs = s.block.ring.rungs
      ∧ ∀ m : Fin 16, m ≠ n → b.ringSeg m = s.block.ringSeg m := by
  have hf : doConversionComplete n s.block = s.block.onRing fun r => { r with segs := modAt r.segs n fun g => { g with converted := true, framePos := none } } := by
    rw [doConversionComplete, if_neg (by omega)]
  refine happens_plain (f := doConversionComplete n) rfl (by simp [hf]) (by simp [hf]) ?_
  rw [hf, irqWatch_ringSeg, irqWatch_ring, ringSeg_modAt_self hl]
  exact ⟨rfl, rfl, fun m hm => by rw [irqWatch_ringSeg, ringSeg_modAt_ne (Fin.val_ne_of_ne hm)]⟩

theorem segmentFrame_happens {n : Fin 16} {r : Nat} (hn : n.val < s.block.nSeg) (hc : (s.block.ringSeg n).converted = true) (ha : (s.block.ringSeg n).arrived = false)
    (hr : s.block.nextRung n = r) (hu : s.block.rungUp r = true) : Happens (.segmentFrame n r) s [.ring] fun b =>
      b.ringSeg n = { s.block.ringSeg n with framePos := some r, arrived := decide (r = 0 ∨ r = s.block.nSeg) } ∧ b.ring.rungs = s.block.ring.rungs
        ∧ ∀ m : Fin 16, m ≠ n → b.ringSeg m = s.block.ringSeg m := by
  have hl : n.val < s.block.ring.segs.length := lt_length_of_getD (d := RingSeg.reset) fun hd => by rw [Block.ringSeg, hd] at hc; cases hc
  have hf : doSegmentFrame n r s.block = s.block.onRing fun x => { x with
      segs := modAt x.segs n fun g => { g with framePos := some r, arrived := decide (r = 0 ∨ r = s.block.nSeg) } } := by
    rw [doSegmentFrame, if_neg (by simp [hn, hc, ha, hr, hu])]
  refine happens_plain (f := doSegmentFrame n r) rfl (by simp [hf]) (by simp [hf]) ?_
  rw [hf, irqWatch_ringSeg, irqWatch_ring, ringSeg_modAt_self hl]
  exact ⟨rfl, rfl, fun m hm => by rw [irqWatch_ringSeg, ringSeg_modAt_ne (Fin.val_ne_of_ne hm)]⟩

theorem rungTrip_happens {n : Fin 16} {lost : Bool} (ht : s.block.ring.trips.contains n.val = true) (hr : s.block.reaches n = true) : Happens (.rungTrip n true lost) s [.leash] fun b =>
    b.leash = { s.block.leash with tripsUp := insertIdx (if lost then 0x10 else n.val) s.block.leash.tripsUp } := by
  have hf : doRungTrip n true lost s.block = s.block.onLeash fun l => { l with tripsUp := insertIdx (if lost then 0x10 else n) l.tripsUp } := by
    rw [doRungTrip, if_neg (by rw [ht, hr]; decide)]
  exact happens_plain (f := doRungTrip n true lost) rfl (by simp [hf]) (by simp [hf]) (by simp [hf])

theorem rungTrip_happens_nothing {n : Fin 16} {lost : Bool} : Happens (.rungTrip n false lost) s [] fun _ => True :=
  happens_nothing (f := doRungTrip n false lost) rfl (by simp [doRungTrip])

theorem ringDelayMeasure_happens {down up : List Nat} : Happens (.ringDelayMeasure down up) s [.sys, .ring] fun b =>
    b.sys.now = s.block.nextMultiple secT ∧ b.ring.rungs = s.block.ring.rungs
      ∧ ∀ n < s.block.nSeg, n < s.block.ring.segs.length →
          (s.block.wayDown n = true → n < down.length → (b.ringSeg n).delayDown = down.getD n 0)
          ∧ (s.block.wayUp n = true → n < up.length → (b.ringSeg n).delayUp = up.getD n 0) := by
  refine happens_plain (f := doRingDelayMeasure down up) rfl (by simp [doRingDelayMeasure]) (by simp [doRingDelayMeasure]) ?_
  have hlt : s.block.sys.now ≤ s.block.nextMultiple secT := by unfold Block.nextMultiple secT; omega
  refine ⟨by simp [doRingDelayMeasure, hlt], by simp [doRingDelayMeasure], fun n hn hl => ?_⟩
  have hseg : (irqWatch s.block (doRingDelayMeasure down up s.block)).ringSeg n = _ := (irqWatch_ringSeg ..).trans (getD_mapIdx (d := RingSeg.reset) hl)
  rw [hseg, if_neg (by omega)]
  refine ⟨fun hw hd => ?_, fun hw hu => ?_⟩
  · simp [hw, hd]
  · simp [hw, hu]

end
end Sys2Proof.Machine

namespace Sys2Proof.Machine

/-! ### Rungs that go down and come back (R27, R61, R109, R110) -/

theorem nSeg_of_variant {a b : Block} (h : a.sys.variant = b.sys.variant) : a.nSeg = b.nSeg := by rw [Block.nSeg, Block.nSeg, h]

/-- The count of rungs down reads the rungs and the number of segments. -/
theorem rungsDown_of_rungs {a b : Block} (h : a.ring.rungs = b.ring.rungs) (hn : a.nSeg = b.nSeg) : a.rungsDown = b.rungsDown := by
  have hu : a.rungUp = b.rungUp := by funext r; rw [Block.rungUp, Block.rungUp, h]
  rw [Block.rungsDown, Block.rungsDown, hu, hn]

theorem rungUp_of_rungs {a b : Block} (h : a.ring.rungs = b.ring.rungs) (r : Nat) : a.rungUp r = b.rungUp r := by rw [Block.rungUp, Block.rungUp, h]

/-- A rung set up or down. -/
def Block.setRung (b : Block) (r : Nat) (up : Bool) : Block := b.onRing fun x => { x with rungs := modAt x.rungs r fun _ => up }

theorem setRung_self {b : Block} {r : Nat} {up : Bool} (h : r < b.ring.rungs.length) : (b.setRung r up).rungUp r = up := getD_modAt_self h
theorem setRung_ne {b : Block} {r q : Nat} {up : Bool} (h : q ≠ r) : (b.setRung r up).rungUp q = b.rungUp q := getD_modAt_ne h

theorem rung_lt_of_up {b : Block} {r : Nat} (h : b.rungUp r = true) : r < b.ring.rungs.length :=
  lt_length_of_getD (d := false) fun hd => by rw [Block.rungUp, hd] at h; cases h

/-- One element more satisfies the predicate. -/
theorem length_filter_range_insert {p q : Nat → Bool} {r n : Nat} (hr : r < n) (hp : p r = false) (hq : q r = true) (he : ∀ i ≠ r, q i = p i) :
    ((List.range n).filter q).length = ((List.range n).filter p).length + 1 := by
  have hcount : ∀ m, ((List.range m).filter q).length = ((List.range m).filter p).length + if r < m then 1 else 0 := fun m => by
    induction m with
    | zero => rfl
    | succ m ih =>
      rw [List.range_succ, List.filter_append, List.filter_append, List.length_append, List.length_append, ih]
      rcases eq_or_ne m r with rfl | hm
      · simp [hp, hq]
      · have hlt : r < m + 1 ↔ r < m := by omega
        simp only [hlt, List.filter_singleton, he m hm]
        omega
  rw [hcount n, if_pos hr]

theorem setRung_rungsDown {b : Block} {r : Nat} (hr : r ≤ b.nSeg) (hu : b.rungUp r = true) : (b.setRung r false).rungsDown = b.rungsDown + 1 := by
  refine length_filter_range_insert (Nat.lt_succ_of_le hr) ?_ ?_ fun i hi => ?_
  · rw [hu]; rfl
  · rw [setRung_self (rung_lt_of_up hu)]; rfl
  · rw [setRung_ne hi]

/-- The ring after a rung is declared down: the frame on it lost, the segments cut off timed. -/
def Block.rungFallen (b : Block) (r : Nat) (lost : Option (Fin 16)) : Block :=
  let b1 := b.setRung r false
  let b2 := match lost with
    | some n => b1.onRing fun x => { x with segs := modAt x.segs n fun g => { g with converted := false, stale := true } }
    | none => b1
  b2.onRing fun x => { x with
    segs := x.segs.mapIdx fun n g => if decide (n < b.nSeg) && b2.cutOff n && g.cutAt.isNone then { g with cutAt := some b.sys.now } else g }

section
variable {s : State}

@[simp] theorem rungFallen_sys (b : Block) (r : Nat) (lost : Option (Fin 16)) : (b.rungFallen r lost).sys = b.sys := by cases lost <;> rfl
@[simp] theorem rungFallen_rungs (b : Block) (r : Nat) (lost : Option (Fin 16)) : (b.rungFallen r lost).ring.rungs = (b.setRung r false).ring.rungs := by cases lost <;> rfl
@[simp] theorem rungFallen_split (b : Block) (r : Nat) (lost : Option (Fin 16)) : (b.rungFallen r lost).ring.split = b.ring.split := by cases lost <;> rfl
@[simp] theorem touches_rungFallen {l : List PartName} (hl : .ring ∈ l) (o b : Block) (r : Nat) (lost : Option (Fin 16)) :
    o.touches (b.rungFallen r lost) l ↔ o.touches b l := by
  cases lost <;> simp [Block.rungFallen, Block.setRung, hl]

theorem rungFallen_rungsDown {b : Block} {r : Nat} (lost : Option (Fin 16)) (hr : r ≤ b.nSeg) (hu : b.rungUp r = true) : (b.rungFallen r lost).rungsDown = b.rungsDown + 1 := by
  rw [← setRung_rungsDown hr hu]
  exact rungsDown_of_rungs (rungFallen_rungs ..) (nSeg_of_variant (by rw [rungFallen_sys]; rfl))

/-- The rung that is declared down is down and no other one changes. -/
theorem rungFallen_rungUp {b c : Block} {r : Nat} {lost : Option (Fin 16)} (hu : b.rungUp r = true) (hc : c.ring.rungs = (b.rungFallen r lost).ring.rungs) :
    c.rungUp r = false ∧ ∀ q ≠ r, c.rungUp q = b.rungUp q := by
  have h := hc.trans (rungFallen_rungs b r lost)
  exact ⟨(rungUp_of_rungs h r).trans (setRung_self (rung_lt_of_up hu)), fun q hq => (rungUp_of_rungs h q).trans (setRung_ne hq)⟩

/-- RUNG_DOWN by its steps: the ring, the record, the takeover by the closed ring, the split. -/
theorem doRungDown_eq {b : Block} {r : Nat} (lost : Option (Fin 16)) (hr : r ≤ b.nSeg) (hu : b.rungUp r = true) :
    doRungDown r lost b =
      (let b3 := b.rungFallen r lost
       let b4 := note .ringRungDown r [] b3
       let b5 := if b3.rungsDown = 1 then takeover (partCode 2 r) (partCode 2 17) b4 else b4
       let s1 := b5.onRing fun x => { x with split := true }
       if 2 ≤ b3.rungsDown then demandSSI 7 0 (if b5.ring.split then s1 else note .ringSplit noArg [] s1) else b5).touch (8 :: integTiles) := by
  rw [doRungDown, if_neg (by simp [hu, hr])]
  cases lost <;> rfl

/-- The first rung down: its backup takes over. -/
theorem doRungDown_first {b : Block} {r : Nat} (lost : Option (Fin 16)) (hr : r ≤ b.nSeg) (hu : b.rungUp r = true) (h0 : b.rungsDown = 0) :
    doRungDown r lost b = (takeover (partCode 2 r) (partCode 2 17) (note .ringRungDown r [] (b.rungFallen r lost))).touch (8 :: integTiles) := by
  have h1 : (b.rungFallen r lost).rungsDown = 1 := by rw [rungFallen_rungsDown lost hr hu, h0]
  rw [doRungDown_eq lost hr hu]
  dsimp only
  rw [h1, if_neg (by decide), if_pos rfl]

/-- The ring as the demand of a split finds it. -/
def Block.rungSplit (b : Block) (r : Nat) (lost : Option (Fin 16)) : Block :=
  let s1 := (note .ringRungDown r [] (b.rungFallen r lost)).onRing fun x => { x with split := true }
  if b.ring.split then s1 else note .ringSplit noArg [] s1

@[simp] theorem rungSplit_ring (b : Block) (r : Nat) (lost : Option (Fin 16)) : (b.rungSplit r lost).ring = { (b.rungFallen r lost).ring with split := true } := by
  simp [Block.rungSplit, apply_ite Block.ring]
@[simp] theorem rungSplit_sys (b : Block) (r : Nat) (lost : Option (Fin 16)) : (b.rungSplit r lost).sys = b.sys := by simp [Block.rungSplit, apply_ite Block.sys]
@[simp] theorem touches_rungSplit {l : List PartName} (hl : .ring ∈ l) (o b : Block) (r : Nat) (lost : Option (Fin 16)) :
    o.touches (b.rungSplit r lost) l ↔ o.touches b l := by
  simp [Block.rungSplit, hl]

/-- A further rung down splits the ring, on which SA and SB demand SSI. -/
theorem doRungDown_split {b : Block} {r : Nat} (lost : Option (Fin 16)) (hr : r ≤ b.nSeg) (hu : b.rungUp r = true) (h1 : 1 ≤ b.rungsDown) :
    doRungDown r lost b = (demandSSI 7 0 (b.rungSplit r lost)).touch (8 :: integTiles) := by
  have h2 : (b.rungFallen r lost).rungsDown = b.rungsDown + 1 := rungFallen_rungsDown lost hr hu
  have hs : (note .ringRungDown r [] (b.rungFallen r lost)).ring.split = b.ring.split := by rw [note_ring, rungFallen_split]
  rw [doRungDown_eq lost hr hu]
  dsimp only
  rw [h2, if_pos (by omega), if_neg (show ¬b.rungsDown + 1 = 1 by omega), hs]
  rfl

theorem rungDown_happens {r : Fin 17} {lost : Option (Fin 16)} (hr : r.val ≤ s.block.nSeg) (hu : s.block.rungUp r = true) (h0 : s.block.rungsDown = 0) :
    Happens (.rungDown r lost) s [.sys, .ring] fun b =>
      b.rungUp r = false ∧ (∀ q : Fin 17, q ≠ r → b.rungUp q = s.block.rungUp q) ∧ b.ring.split = s.block.ring.split
      ∧ b.sys = { s.block.sys with takeovers := s.block.sys.takeovers + 1 } := by
  have hf := doRungDown_first lost hr hu h0
  have hring : (irqWatch s.block (doRungDown r lost s.block)).ring = (s.block.rungFallen r lost).ring := by
    rw [irqWatch_ring, hf, Block.touch_ring, takeover_ring, note_ring]
  have hsys : (doRungDown r lost s.block).sys = { s.block.sys with takeovers := s.block.sys.takeovers + 1 } := by
    rw [hf, Block.touch_sys, takeover_sys, note_sys, rungFallen_sys]
  obtain ⟨hdown, hother⟩ := rungFallen_rungUp (lost := lost) hu (congrArg RingPart.rungs hring)
  refine happens_plain (f := doRungDown r lost) rfl (by simp [hf]) (by rw [hsys]) ⟨hdown, fun q hq => hother q (Fin.val_ne_of_ne hq), ?_, ?_⟩
  · rw [hring, rungFallen_split]
  · rw [irqWatch_sys, hsys]

theorem rungDown_happens_split {r : Fin 17} {lost : Option (Fin 16)} (hr : r.val ≤ s.block.nSeg) (hu : s.block.rungUp r = true) (h1 : 1 ≤ s.block.rungsDown)
    (ha : s.block.latch.state = .armed) : Happens (.rungDown r lost) s ([.ring] ++ actedOn) fun b =>
      b.rungUp r = false ∧ b.ring.split = true ∧ s.block.hasActed b true 7 0 := by
  let x := s.block.rungSplit r lost
  have hx : s.block.touches x [.ring] := (touches_rungSplit (by decide) ..).mpr (touches_refl _ _)
  have hlatch : x.latch = s.block.latch := hx .latch (by decide) (by decide)
  have hpwr : x.pwr = s.block.pwr := hx .pwr (by decide) (by decide)
  have hf : doRungDown r lost s.block = (demandSSI 7 0 x).touch (8 :: integTiles) := doRungDown_split lost hr hu h1
  have hring : (irqWatch s.block (doRungDown r lost s.block)).ring = { (s.block.rungFallen r lost).ring with split := true } := by
    rw [irqWatch_ring, hf, Block.touch_ring, demandSSI, demand_ring, rungSplit_ring]
  refine happens_touching (f := doRungDown r lost) rfl ?_ (fun h => ?_) ⟨?_, by rw [hring], ?_⟩
  · rw [hf, touches_touch, demandSSI, touches_demand (by decide)]
    exact hx.mono (by decide)
  · rw [hf, touch_settled]
    exact demandSSI_settled (by decide) (by rw [hlatch, ha]) ((settled_of_touches hx (by rw [rungSplit_sys]) (by decide)).trans h)
  · exact (rungFallen_rungUp (lost := lost) hu (by rw [hring])).1
  · rw [hf]
    exact (((demandSSI_hasActed (by decide) (by rw [hlatch, ha])).of_before (by rw [hlatch]) (by rw [hlatch]) (by rw [hpwr])).touched _).watched _

end
end Sys2Proof.Machine

namespace Sys2Proof.Machine

/-! ### Rungs that come back and segments that are cut off (R109, R110) -/

section
variable {s : State}

/-- The ring after a rung comes back: the split judged again, the segments that are no longer cut off. -/
def Block.rungRisen (b : Block) (r : Nat) : Block :=
  let b1 := b.setRung r true
  b1.onRing fun x => { x with
    split := decide (2 ≤ b1.rungsDown)
    segs := x.segs.mapIdx fun n g => if b1.cutOff n then g else { g with cutAt := none, isolated := false } }

/-- RUNG_UP by its steps. -/
theorem doRungUp_eq {b : Block} {r : Nat} (hr : r ≤ b.nSeg) (hu : b.rungUp r = false) :
    doRungUp r b = (if (b.rungRisen r).ring.split then note .ringRungUp r [] (b.rungRisen r) else clearCause 7 0 (note .ringRungUp r [] (b.rungRisen r))).touch (8 :: integTiles) := by
  rw [doRungUp, if_neg (by simp [hu, hr])]
  rfl

@[simp] theorem touches_rungRisen {l : List PartName} (hl : .ring ∈ l) (o b : Block) (r : Nat) : o.touches (b.rungRisen r) l ↔ o.touches b l := by
  simp only [Block.rungRisen, Block.setRung, touches_onRing hl]

theorem doRungUp_ring {b : Block} {r : Nat} (hr : r ≤ b.nSeg) (hu : b.rungUp r = false) : (doRungUp r b).ring = (b.rungRisen r).ring := by
  rw [doRungUp_eq hr hu, Block.touch_ring, apply_ite Block.ring, clearCause_ring, note_ring, ite_self]

theorem rungUp_happens {r : Fin 17} (hr : r.val ≤ s.block.nSeg) (hu : s.block.rungUp r = false) (hl : r.val < s.block.ring.rungs.length) :
    Happens (.rungUp r) s [.ring, .latch] fun b =>
      b.rungUp r = true ∧ (∀ q : Fin 17, q ≠ r → b.rungUp q = s.block.rungUp q) ∧ b.ring.split = decide (2 ≤ b.rungsDown)
      ∧ (b.ring.split = false → (7, 0) ∉ b.latch.causes) ∧ (b.ring.split = true → b.latch = s.block.latch) := by
  have hf := doRungUp_eq hr hu
  have hring : (irqWatch s.block (doRungUp r s.block)).ring = (s.block.rungRisen r).ring := (irqWatch_ring ..).trans (doRungUp_ring hr hu)
  have hrungs : (irqWatch s.block (doRungUp r s.block)).ring.rungs = (s.block.setRung r true).ring.rungs := by rw [hring]; rfl
  have hnote : (note .ringRungUp r [] (s.block.rungRisen r)).settled = s.block.settled := by
    rw [note_settled]
    exact settled_of_touches (l := [.ring]) (by simp) rfl (by decide)
  have hsys : (doRungUp r s.block).sys = s.block.sys := by
    rw [hf, Block.touch_sys, apply_ite Block.sys, clearCause_sys, note_sys, ite_self]
    rfl
  refine happens_touching (f := doRungUp r) rfl ?_ (fun h => ?_) ⟨?_, fun q hq => ?_, ?_, fun hs => ?_, fun hs => ?_⟩
  · rw [hf, touches_touch]
    split <;> simp
  · rw [hf, touch_settled]
    split
    · exact hnote.trans h
    · exact clearCause_settled _ _ (hnote.trans h)
  · exact (rungUp_of_rungs hrungs r).trans (setRung_self hl)
  · exact (rungUp_of_rungs hrungs q).trans (setRung_ne (Fin.val_ne_of_ne hq))
  · rw [rungsDown_of_rungs hrungs (nSeg_of_variant (by rw [irqWatch_sys, hsys]; rfl)), hring]
    rfl
  · rw [hring] at hs
    rw [irqWatch_latch, hf, hs, Block.touch_latch]
    exact clearCause_gone 7 0 _
  · rw [hring] at hs
    rw [irqWatch_latch, hf, hs, Block.touch_latch, if_pos rfl, note_latch]
    rfl

theorem segmentIsolated_happens {n : Fin 16} {t : Nat} (hcut : (s.block.ringSeg n).cutAt = some t) : Happens (.segmentIsolated n) s [.sys, .ring, .bal] fun b =>
    b.sys.now = max s.block.sys.now (t + 50 * msT) ∧ (b.ringSeg n).isolated = true ∧ (∀ c < 512, segOf c = n → (b.cellBal c).bleed = false)
      ∧ (∀ h ∈ (b.segBal n).shuttles, h.cur = 0) ∧ ∀ m : Fin 16, m ≠ n → (b.segBal m).shuttles = (s.block.segBal m).shuttles := by
  have hl : n.val < s.block.ring.segs.length := lt_length_of_getD (d := RingSeg.reset) fun hd => by rw [Block.ringSeg, hd] at hcut; cases hcut
  let b1 := (s.block.at (t + 50 * msT)).onRing fun x => { x with segs := modAt x.segs n fun g => { g with isolated := true } }
  have hf : doSegmentIsolated n s.block = (openElements (· == n.val) b1).touch (integTiles ++ balTiles) := by simp [doSegmentIsolated, hcut, b1]
  have hseg (m : Nat) : (irqWatch s.block (doSegmentIsolated n s.block)).segBal m = (openElements (· == n.val) b1).segBal m :=
    segBal_of_bal (by rw [irqWatch_bal, hf, Block.touch_bal]) m
  refine happens_plain (f := doSegmentIsolated n) rfl (by simp [hf, b1]) (by simp [hf, b1]) ⟨?_, ?_, fun c _ hc => ?_, ?_, fun m hm => ?_⟩
  · simp [hf, b1]
  · rw [irqWatch_ringSeg, ringSeg_of_ring (b := b1) (by rw [hf, Block.touch_ring, openElements_ring]),
      ringSeg_modAt_self (b := s.block.at (t + 50 * msT)) hl]
  · rw [cellBal_of_bal (b := openElements (· == n.val) b1) (by rw [irqWatch_bal, hf, Block.touch_bal])]
    exact openElements_bleed b1 (by simp [hc])
  · rw [hseg]
    exact openElements_cur b1 (by simp)
  · rw [hseg, openElements_shuttles, if_neg (by simpa using Fin.val_ne_of_ne hm)]
    rfl

/-! ### Loss of the leash (R111, R112) -/

/-- What the Stack Half does at 50 ms of silence. -/
def Block.silent (b : Block) (mode : StackMode) : Block :=
  let b1 := b.at ((b.leash.lanes.map (·.lastSync)).foldl max 0 + 50 * msT)
  b1.onLeash fun l => { l with stack := mode, silentAt := some b1.sys.now, broddaStopped := false }

theorem leashSilent_sleeps (hs : s.block.leash.stack = .normal) (hl : s.block.anyLane = false) (hm : s.block.leash.hubMode ≠ 1) :
    Happens .leashSilent s [.sys, .leash, .bal] fun b =>
      b.leash.stack = .sleep ∧ b.leash.silentAt = some b.sys.now ∧ s.block.sys.now ≤ b.sys.now ∧ b.bal.manuals = []
      ∧ (∀ c < 512, (b.cellBal c).bleed = false) ∧ ∀ n < 16, ∀ h ∈ (b.segBal n).shuttles, h.cur = 0 := by
  let b2 := s.block.silent .sleep
  have hf : doLeashSilent s.block = (openElements (fun _ => true) (endManuals (balStop b2))).touch (integTiles ++ balTiles) := by
    simp [doLeashSilent, hs, hl, hm, b2, Block.silent]
  have hbal : (irqWatch s.block (doLeashSilent s.block)).bal = (openElements (fun _ => true) (endManuals (balStop b2))).bal := by rw [irqWatch_bal, hf, Block.touch_bal]
  refine happens_plain (f := doLeashSilent) rfl (by simp [hf, b2, Block.silent]) (by simp [hf, b2, Block.silent]) ⟨?_, ?_, ?_, ?_⟩
  · simp [hf, b2, Block.silent]
  · simp [hf, b2, Block.silent]
  · simp [hf, b2, Block.silent]
  · exact (halted_of_bal hbal).mpr (openElements_halted _)

theorem leashSilent_brodda (hs : s.block.leash.stack = .normal) (hl : s.block.anyLane = false) (hm : s.block.leash.hubMode = 1) :
    Happens .leashSilent s [.sys, .leash] fun b => b.leash.stack = .brodda ∧ b.leash.silentAt = some b.sys.now ∧ b.leash.broddaStopped = false := by
  have hf : doLeashSilent s.block = (s.block.silent .brodda).touch (integTiles ++ balTiles) := by simp [doLeashSilent, hs, hl, hm, Block.silent]
  exact happens_plain (f := doLeashSilent) rfl (by simp [hf, Block.silent]) (by simp [hf, Block.silent]) (by simp [hf, Block.silent])

theorem broddaTimeout_happens {t : Nat} (hs : s.block.leash.stack = .brodda) (hl : s.block.leash.silentAt = some t) (hb : s.block.leash.broddaStopped = false) :
    Happens .broddaTimeout s [.sys, .leash, .bal] fun b =>
      b.sys.now = max s.block.sys.now (t + s.block.leash.hubBrodda * msT) ∧ b.leash = { s.block.leash with broddaStopped := true } ∧ b.bal.manuals = []
      ∧ (∀ c < 512, (b.cellBal c).bleed = false) ∧ ∀ n < 16, ∀ h ∈ (b.segBal n).shuttles, h.cur = 0 := by
  let b1 := (s.block.at (t + s.block.leash.hubBrodda * msT)).onLeash fun l => { l with broddaStopped := true }
  have hf : doBroddaTimeout s.block = (openElements (fun _ => true) (endManuals (balStop b1))).touch balTiles := by simp [doBroddaTimeout, hs, hl, hb, b1]
  have hbal : (irqWatch s.block (doBroddaTimeout s.block)).bal = (openElements (fun _ => true) (endManuals (balStop b1))).bal := by rw [irqWatch_bal, hf, Block.touch_bal]
  refine happens_plain (f := doBroddaTimeout) rfl (by simp [hf, b1]) (by simp [hf, b1]) ⟨?_, ?_, ?_⟩
  · simp [hf, b1]
  · simp [hf, b1]
  · exact (halted_of_bal hbal).mpr (openElements_halted _)

theorem leashLost_happens (hl : s.block.anyLane = false) (hlost : s.block.leash.lostAt = none) : Happens .leashLost s ([.leash] ++ controlled) fun b =>
    b.sys.now = max s.block.sys.now (s.block.leash.lastStored + msT) ∧ b.leash = { s.block.leash with lostAt := some b.sys.now }
      ∧ s.block.raised b .leashLost noArg := by
  let b1 := s.block.at (s.block.leash.lastStored + msT)
  let b2 := b1.onLeash fun l => { l with lostAt := some b1.sys.now }
  have hf : doLeashLost s.block = (raise .leashLost noArg [] b2).touch [8] := by simp [doLeashLost, hl, hlost, b1, b2]
  have hnow : (doLeashLost s.block).sys.now = b1.sys.now := by rw [hf, Block.touch_sys, raise_now]; rfl
  have hraised : s.block.raised (raise .leashLost noArg [] b2) .leashLost noArg := raise_raised _ _ _ rfl rfl rfl
  refine happens_touching (f := doLeashLost) rfl ?_ (fun h => ?_) ⟨?_, ?_, ?_⟩
  · rw [hf, touches_touch, touches_raise (by decide)]
    simp [b2, b1, controlled]
  · rw [hf, touch_settled]
    exact raise_settled _ _ _ ((settled_of_touches (l := [.sys, .leash]) (by simp [b2, b1]) rfl (by decide)).trans h)
  · rw [irqWatch_sys, hnow]
    rfl
  · rw [irqWatch_leash, irqWatch_sys, hnow, hf, Block.touch_leash, raise_leash]
    rfl
  · rw [Block.raised, irqWatch_sys, hf, Block.touch_sys]
    exact hraised

theorem leashLossSsi_happens {t : Nat} (hlost : s.block.leash.lostAt = some t) (hl : s.block.anyLane = false) (ha : s.block.latch.state = .armed) :
    Happens .leashLossSsi s actedOn fun b => b.sys.now = max s.block.sys.now (t + 50 * msT) ∧ s.block.hasActed b true 6 0 := by
  let x := s.block.at (t + 50 * msT)
  have hf : doLeashLossSsi s.block = demandSSI 6 0 x := by simp [doLeashLossSsi, hlost, hl, x]
  refine happens_touching (f := doLeashLossSsi) rfl ?_ (fun h => ?_) ⟨?_, ?_⟩
  · rw [hf, demandSSI, touches_demand (by decide)]
    simp [x, actedOn, controlled]
  · rw [hf]
    exact demandSSI_settled (by decide) ha ((settled_of_touches (l := [.sys]) (by simp [x]) rfl (by decide)).trans h)
  · rw [irqWatch_sys, hf, demandSSI_of_armed (b := x) 6 0 ha, execFn_now]
    rfl
  · rw [hf]
    exact ((demandSSI_hasActed (b := x) (by decide) ha).of_before rfl rfl rfl).watched _

end

/-- Settles O9: each command's clause by its own lemma above. -/
theorem ringAndLeashLossesAreHandled : Obligations.RingAndLeashLossesAreHandled := by
  unfold Obligations.RingAndLeashLossesAreHandled
  exact ⟨fun _ _ => aperture_happens, fun _ _ => conversionComplete_happens, fun _ _ _ => segmentFrame_happens, fun _ _ _ => rungTrip_happens,
    fun _ _ _ => rungTrip_happens_nothing, fun _ _ _ => ringDelayMeasure_happens, fun _ _ _ => rungDown_happens, fun _ _ _ => rungDown_happens_split,
    fun _ _ => rungUp_happens, fun _ _ _ => segmentIsolated_happens, fun _ => leashSilent_sleeps, fun _ => leashSilent_brodda, fun _ _ => broddaTimeout_happens,
    fun _ => leashLost_happens, fun _ _ => leashLossSsi_happens⟩

end Sys2Proof.Machine

namespace Sys2Proof.Machine

/-! ### Frames of the leash (R38, R46, R47, R53) -/

section
variable {s : State} {tag : Nat} {f : DownFrame}

theorem leashFrameTimeout_repeats (hf : (s.block.leash.waiting.find? fun x => x.tag == tag) = some f) (h4 : f.sent < 4) : Happens (.leashFrameTimeout tag) s [.sys, .leash] fun b =>
    b.sys.now = s.block.sys.now + 50 * usT
      ∧ b.leash = { s.block.leash with waiting := (s.block.leash.waiting.map fun g => if g.tag = tag then { g with sent := g.sent + 1 } else g) } := by
  have he : doLeashFrameTimeout tag s.block = (s.block.at (s.block.sys.now + 50 * usT)).onLeash fun l => { l with
      waiting := l.waiting.map fun g => if g.tag = tag then { g with sent := g.sent + 1 } else g } := by simp [doLeashFrameTimeout, hf, h4]
  exact happens_plain (f := doLeashFrameTimeout tag) rfl (by simp [he]) (by simp [he]) ⟨by simp [he], by simp [he]⟩

/-- The frame that is given up, at its fourth failure. -/
def Block.leashGivenUp (b : Block) (tag : Nat) : Block :=
  note .leashCmdFail noArg [tag] ((b.at (b.sys.now + 50 * usT)).onLeash fun l => { l with waiting := l.waiting.filter fun g => g.tag != tag })

@[simp] theorem leashGivenUp_leash (b : Block) (tag : Nat) :
    (b.leashGivenUp tag).leash = { b.leash with waiting := (b.leash.waiting.filter fun g => g.tag != tag) } := by simp [Block.leashGivenUp]

theorem leashGivenUp_touches (b : Block) (tag : Nat) : b.touches (b.leashGivenUp tag) [.sys, .leash] := by simp [Block.leashGivenUp]

theorem leashFrameTimeout_gives_up (hf : (s.block.leash.waiting.find? fun x => x.tag == tag) = some f) (h4 : 4 ≤ f.sent) (hc : f.carries = none) :
    Happens (.leashFrameTimeout tag) s [.sys, .leash] fun b => b.leash = { s.block.leash with waiting := (s.block.leash.waiting.filter fun g => g.tag != tag) } := by
  have he : doLeashFrameTimeout tag s.block = s.block.leashGivenUp tag := by simp [doLeashFrameTimeout, hf, Nat.not_lt.mpr h4, hc, Block.leashGivenUp]
  exact happens_plain (f := doLeashFrameTimeout tag) rfl (he ▸ leashGivenUp_touches _ _) (by simp [he, Block.leashGivenUp]) (by simp [he])

theorem complete_settled (src : Src) (st : Status) (d : List Byte) (b : Block) : (complete src st d b).settled = b.settled :=
  settled_of_same (complete_latch ..) (by rw [complete_cnv]) (by rw [complete_sys]) (complete_hold ..) (by rw [complete_sec]) (by rw [complete_sec])

theorem leashFrameTimeout_fails_command {i q : Nat} {e : CacheEntry} (hf : (s.block.leash.waiting.find? fun x => x.tag == tag) = some f) (h4 : 4 ≤ f.sent)
    (hc : f.carries = some (.session i q)) (hq : s.block.entry? i q = some e) : Happens (.leashFrameTimeout tag) s [.sys, .leash, .ix, .pwr] fun b =>
      b.answered (.session i q) .fault [] ∧ b.leash = { s.block.leash with waiting := (s.block.leash.waiting.filter fun g => g.tag != tag) } := by
  let x := s.block.leashGivenUp tag
  have hx : s.block.touches x [.sys, .leash] := leashGivenUp_touches _ _
  have he : doLeashFrameTimeout tag s.block = complete (.session i q) .fault [] x := by simp [doLeashFrameTimeout, hf, Nat.not_lt.mpr h4, hc, x, Block.leashGivenUp]
  have hix : x.ix = s.block.ix := hx .ix (by decide) (by decide)
  have hentry : x.entry? i q = some e := by rw [← hq, Block.entry?, Block.entry?, Block.session, Block.session, hix]
  refine happens_touching (f := doLeashFrameTimeout tag) rfl ?_ (fun h => ?_) ⟨?_, ?_⟩
  · rw [he, touches_complete_session (by decide) (by decide)]
    exact hx.mono (by decide)
  · rw [he, complete_settled]
    exact (settled_of_touches hx (by simp [x, Block.leashGivenUp]) (by decide)).trans h
  · rw [he]
    refine answered_irqWatch ?_
    exact complete_answered fun i' q' hs => by cases hs; exact ⟨e, hentry⟩
  · rw [irqWatch_leash, he, complete_leash]
    simp [x]

/-- What the hub takes from a command frame. -/
def DownKind.taken (tag : Nat) (l : LeashPart) : DownKind → LeashPart
  | .delayResult ns => { l with hubTag := some tag, hubDelay := ns }
  | .leashMode mode ms => { l with hubTag := some tag, hubMode := mode, hubBrodda := ms }
  | .schedule => { l with hubTag := some tag }
  | .targets => { l with hubTag := some tag }

theorem hubCommandFrame_happens (hf : (s.block.leash.waiting.find? fun x => x.tag == tag) = some f) (ht : s.block.leash.hubTag ≠ some tag) :
    Happens (.hubCommandFrame tag) s [.leash] fun b =>
      b.leash.hubTag = some tag ∧ b.leash.waiting = s.block.leash.waiting ∧ b.leash.hubDelay = (match f.kind with
        | .delayResult ns => ns
        | _ => s.block.leash.hubDelay) ∧ (b.leash.hubMode, b.leash.hubBrodda) = (match f.kind with
        | .leashMode mode ms => (mode, ms)
        | _ => (s.block.leash.hubMode, s.block.leash.hubBrodda)) := by
  have he : doHubCommandFrame tag s.block = s.block.onLeash fun l => f.kind.taken tag l := by
    simp only [doHubCommandFrame, hf, if_neg ht]
    cases f.kind <;> rfl
  refine happens_plain (f := doHubCommandFrame tag) rfl (by simp [he]) (by simp [he]) ?_
  rw [irqWatch_leash, he, Block.onLeash_leash]
  cases f.kind <;> exact ⟨rfl, rfl, rfl, rfl⟩

theorem hubCommandFrame_once (ht : s.block.leash.hubTag = some tag) : Happens (.hubCommandFrame tag) s [] fun _ => True := by
  refine happens_nothing (f := doHubCommandFrame tag) rfl ?_
  unfold doHubCommandFrame
  split
  · rfl
  · rw [if_pos ht]

theorem replyFrame_happens : Happens (.replyFrame tag) s [.leash] fun b =>
    b.leash = { s.block.leash with waiting := (s.block.leash.waiting.filter fun f => f.tag != tag) } :=
  happens_plain (f := doReplyFrame tag) rfl (by simp [doReplyFrame]) (by simp [doReplyFrame]) (by simp [doReplyFrame])

theorem eventFrame_happens {p : List Byte} (hp : p.length ≤ 256) : Happens (.eventFrame p) s [.leash] fun b => b.leash = { s.block.leash with lastEvent := p } :=
  happens_plain (f := doEventFrame p) rfl (by simp [doEventFrame]) (by simp [doEventFrame]) (by simp [doEventFrame, List.take_of_length_le hp])

theorem scheduleFrame_happens {rate start : Nat} {modes : List (Nat × Bool × Nat)} {owt : Option Nat} (hr : rate ≤ 4) (hne : rate ≠ s.block.sense.rate) :
    Happens (.scheduleFrame rate start modes owt) s [.sense] fun b =>
      b.sense.pendingRate = some { rate := rate, start := multipleFrom (rateTicks rate) start } ∧ b.sense.owtNext = owt.or s.block.sense.owtNext
      ∧ b.sense.rate = s.block.sense.rate ∧ b.sense.cells = s.block.sense.cells ∧ b.sense.wires = s.block.sense.wires
      ∧ ∀ n < 16, n < s.block.sense.segs.length → (b.seg n).pendingMode = ((modes.find? fun m => m.1 == n).map fun m => m.2).or (s.block.seg n).pendingMode := by
  refine happens_plain (f := doScheduleFrame rate start modes owt) rfl (by simp [doScheduleFrame]) (by simp [doScheduleFrame]) ⟨?_, ?_, ?_, ?_, ?_, fun n _ hl => ?_⟩
  · simp [doScheduleFrame, hr, hne]
  · rw [irqWatch_sense]
    cases owt <;> simp [doScheduleFrame]
  · simp [doScheduleFrame]
  · simp [doScheduleFrame]
  · simp [doScheduleFrame]
  · rw [Block.seg, irqWatch_sense]
    refine (congrArg SegSense.pendingMode (getD_mapIdx (d := SegSense.reset) hl)).trans ?_
    cases modes.find? fun m => m.1 == n <;> rfl

theorem snapshotFrameStart_happens (hl : s.block.anyLane = true) : Happens .snapshotFrameStart s [.sys, .ring, .leash] fun b =>
    b.leash.inFlight = some { seq := s.block.leash.snapSeq, striped := (s.block.leash.lanes.all fun x => x.up) } ∧ b.leash.snapSeq = (s.block.leash.snapSeq + 1) % 65536
      ∧ ∀ n < s.block.ring.segs.length, (b.ringSeg n).stale = (decide (n < s.block.nSeg) && !(s.block.ringSeg n).arrived) := by
  let ta := rateTicks s.block.sense.rate
  let t := s.block.sys.now / ta * ta + (if (!((List.range (s.block.nSeg + 1)).all s.block.rungUp)) = true then 2550 else 1500)
  have he : doSnapshotFrameStart s.block =
      ((s.block.at t).onRing fun x => { x with segs := x.segs.mapIdx fun n g => { g with stale := decide (n < s.block.nSeg) && !g.arrived } }).onLeash fun l => { l with
        inFlight := some { seq := l.snapSeq, striped := l.lanes.all fun x => x.up }, snapSeq := (l.snapSeq + 1) % 65536 } := by
    rw [doSnapshotFrameStart]
    exact if_neg (by simpa [Block.anyLane] using hl)
  refine happens_plain (f := doSnapshotFrameStart) rfl (by simp [he]) (by simp [he]) ⟨?_, ?_, fun n hn => ?_⟩
  · simp [he]
  · simp [he]
  · rw [irqWatch_ringSeg, he]
    exact congrArg RingSeg.stale (getD_mapIdx (d := RingSeg.reset) hn)

theorem tripRepeat_down (hl : s.block.anyLane = true) (ht : s.block.leash.tripDown = true) : Happens (.tripRepeat true) s [.sys] fun b =>
    b.sys = { s.block.sys with now := s.block.sys.now + usT } := by
  have he : doTripRepeat true s.block = s.block.at (s.block.sys.now + usT) := by simp [doTripRepeat, hl, ht]
  exact happens_plain (f := doTripRepeat true) rfl (by simp [he]) (by simp [he]) (by simp [he, Block.at])

theorem tripRepeat_up (hl : s.block.anyLane = true) (ht : s.block.leash.tripsUp ≠ []) : Happens (.tripRepeat false) s [.sys] fun b =>
    b.sys = { s.block.sys with now := s.block.sys.now + usT } := by
  have he : doTripRepeat false s.block = s.block.at (s.block.sys.now + usT) := by simp [doTripRepeat, hl, ht]
  exact happens_plain (f := doTripRepeat false) rfl (by simp [he]) (by simp [he]) (by simp [he, Block.at])

end
end Sys2Proof.Machine

namespace Sys2Proof.Machine

/-! ### A snapshot: what it leaves of the cells, and whom it reaches (R58, R59) -/

/-- What a snapshot writes once and no later step of its reception changes. -/
def SensePart.taken (x : SensePart) : Nat × Nat × List CellSense := (x.seq, x.apCount, x.cells)

@[simp] theorem currentCross_taken (b : Block) : (currentCross b).sense.taken = b.sense.taken := by
  unfold currentCross
  split
  · split
    · rfl
    · extract_lets bad n b1
      rw [apply_ite Block.sense, note_sense, ite_self]
      rfl
  · rfl

@[simp] theorem voltageCross_taken (b : Block) : (voltageCross b).sense.taken = b.sense.taken := by
  unfold voltageCross
  split
  · split
    · rfl
    · extract_lets bad n b1
      rw [apply_ite Block.sense, note_sense, ite_self]
      rfl
  · rfl

@[simp] theorem w0Ended_taken (b : Block) : (w0Ended b).sense.taken = b.sense.taken := by
  rw [w0Ended, voltageCross_taken, currentCross_taken]
  rfl

@[simp] theorem takeTherm_taken (t w : Nat) (b : Block) : (takeTherm t w b).sense.taken = b.sense.taken := by
  simp [takeTherm, apply_ite Block.sense, SensePart.taken]

@[simp] theorem noteRanges_sense (f : Snapshot) (old : List CellSense) (b : Block) : (noteRanges f old b).sense = b.sense :=
  foldl_keeps Block.sense _ (fun _ _ => note_sense ..) _ _

section
variable {l : List PartName}

@[simp] theorem touches_takeTherm (hl : .sense ∈ l) (o b : Block) (t w : Nat) : o.touches (takeTherm t w b) l ↔ o.touches b l := by simp [takeTherm, hl]

@[simp] theorem touches_noteRanges (o b : Block) (f : Snapshot) (old : List CellSense) : o.touches (noteRanges f old b) l ↔ o.touches b l :=
  touches_foldl (fun _ _ _ => touches_note ..) _ o b

/-- The block with the samples of a snapshot, before its frame is done. -/
theorem storeSnapshot_eq (f : Snapshot) (b : Block) : ∃ x : Block, b.touches x [.sys, .sense]
    ∧ x.sense.taken = (f.seq, f.count % 4294967296, b.sense.cells.mapIdx fun c y =>
        if c < b.nCell then takeCell (b.sense.win0.phase f.count b.sense.held) (b.sense.win1.phase f.count b.sense.held) f b c y else y)
    ∧ storeSnapshot f b = (x.onLeash fun l => { l with inFlight := none, lastStored := b.sys.now }).touch senseTiles := by
  unfold storeSnapshot
  extract_lets held p0 p1 priBad secBad pri sec cur sv pwr oldCells b1 b2 b3 b4a b4b b4 b5 b6
  have ht1 : b.touches b1 [.sys, .sense] := by simp [b1]
  have ht2 : b.touches b2 [.sys, .sense] := (touches_foldl (fun o b i => touches_takeTherm (by decide) o b _ _) _ b b1).mpr ht1
  have ht5 : b.touches b5 [.sys, .sense] := by simp [b5, b4, b4b, b4a, b3, ht2]
  have hs2 : b2.sense.taken = b1.sense.taken := foldl_keeps (fun b : Block => b.sense.taken) _ (fun b i => takeTherm_taken ..) _ _
  have hs5 : b5.sense.taken = b2.sense.taken := by
    have h4 : b4.sense = b2.sense := by simp only [b4, b4b, b4a, b3, apply_ite Block.sense, takeover_sense, note_sense, noteRanges_sense, ite_self]
    rw [← h4]
    simp only [b5]
    split
    · exact w0Ended_taken b4
    · rfl
  exact ⟨b5, ht5, hs5.trans hs2, rfl⟩

end
end Sys2Proof.Machine

namespace Sys2Proof.Machine

section
variable {l : List PartName}

/-! #### The users of a stored snapshot (R58) -/

@[simp] theorem touches_fltTake (hl : .flt ∈ l) (o b : Block) : o.touches (fltTake b) l ↔ o.touches b l := touches_onFlt hl ..

@[simp] theorem touches_hibernateTake (hl : .flt ∈ l) (o b : Block) : o.touches (hibernateTake b) l ↔ o.touches b l := by
  unfold hibernateTake
  split
  · rfl
  · exact touches_onFlt hl ..

@[simp] theorem touches_impTake (hl : .imp ∈ l) (o b : Block) (count : Nat) : o.touches (impTake count b) l ↔ o.touches b l := by
  unfold impTake impQuiet impSample
  dsimp only
  rw [touches_onImp hl]
  split
  · rfl
  · exact touches_onImp hl ..

@[simp] theorem touches_loopTake (hl : .loop ∈ l) (o b : Block) (count : Nat) : o.touches (loopTake count b) l ↔ o.touches b l := by
  unfold loopTake
  split
  · exact touches_onLoop hl ..
  · rfl

@[simp] theorem touches_blockTake (hl : .latch ∈ l) (o b : Block) : o.touches (blockTake b) l ↔ o.touches b l := touches_onLatch hl ..

@[simp] theorem touches_prechargeTake (hl : .latch ∈ l) (o b : Block) : o.touches (prechargeTake b) l ↔ o.touches b l := by
  unfold prechargeTake
  split
  · rfl
  · split
    · exact touches_onLatch hl ..
    · exact (touches_touch ..).trans (touches_onLatch hl ..)

@[simp] theorem touches_enterPrebias (hl : .cnv ∈ l) (o b : Block) : o.touches (enterPrebias b) l ↔ o.touches b l := by
  unfold enterPrebias
  dsimp only
  rw [touches_touch, touches_onCnv hl]
  exact touches_foldl (fun o b k => (touches_note ..).trans (touches_setPhase hl ..)) _ o b

@[simp] theorem touches_tryPrecheck (hl : .cnv ∈ l) (o b : Block) : o.touches (tryPrecheck b) l ↔ o.touches b l := by
  simp [tryPrecheck, leavePrecheck, startSoftstop, hl]

@[simp] theorem touches_learnedInit (hf : .flt ∈ l) (hi : .imp ∈ l) (o b : Block) : o.touches (learnedInit b) l ↔ o.touches b l := by
  unfold learnedInit
  dsimp only
  rw [touches_touch]
  split
  · simp [hf]
  · rw [touches_onImp hi]
    simp [hf]

@[simp] theorem touches_initAtW1 (hf : .flt ∈ l) (hi : .imp ∈ l) (o b : Block) (ended : Bool) : o.touches (initAtW1 ended b) l ↔ o.touches b l := by
  simp [initAtW1, hf, hi]

end

theorem distribute_touches (count : Nat) (b : Block) : b.touches (distribute count b) [.flt, .imp, .loop, .latch, .cnv] := by simp [distribute]

/-! #### The interlock through a snapshot -/

theorem blockTake_settled (b : Block) : (blockTake b).settled = b.settled := settled_of_keys rfl rfl rfl rfl rfl rfl rfl rfl

theorem prechargeTake_settled (b : Block) : (prechargeTake b).settled = b.settled := by
  unfold prechargeTake
  split
  · rfl
  · split
    · exact settled_of_keys rfl rfl rfl rfl rfl rfl rfl rfl
    · rw [touch_settled]
      exact settled_of_keys rfl rfl rfl rfl rfl rfl rfl rfl

/-- PRECHECK is left for PREBIAS only while no muzzle stands. -/
theorem tryPrecheck_settled {b : Block} (h : b.settled = true) : (tryPrecheck b).settled = true := by
  by_cases hc : b.cnv.st = .precheck ∧ b.precheck = 0
  · exact settled_of_lit (l := [.cnv]) h (not_dark_of_st hc.1 (by decide) (by decide)) (by simp) (by simp) (by decide)
  · rwa [tryPrecheck, if_neg hc]

theorem distribute_settled (count : Nat) {b : Block} (h : b.settled = true) : (distribute count b).settled = true := by
  unfold distribute
  refine tryPrecheck_settled ?_
  rw [prechargeTake_settled, blockTake_settled]
  refine (settled_of_touches (o := b) (l := [.flt, .imp, .loop]) (by simp) ?_ (by decide)).trans h
  simp [apply_ite Block.sys, apply_ite SysPart.mstate]

theorem initAtW1_settled (ended : Bool) (b : Block) : (initAtW1 ended b).settled = b.settled := settled_of_touches (l := [.flt, .imp]) (by simp) (by simp) (by decide)

end Sys2Proof.Machine

namespace Sys2Proof.Machine

/-! #### A snapshot that is stored, or recorded as missing -/

theorem take_last (p0 p1 : WinPhase) (v : Option Int) (c : Chan) : (c.take p0 p1 v).last = c.last := by
  unfold Chan.take
  dsimp only
  (repeat' split) <;> rfl

/-- A snapshot that is missed leaves the number and the cells' latest readings. -/
theorem missSnapshot_taken (b : Block) : (missSnapshot b).sense.seq = b.sense.seq ∧ ∀ c, ((missSnapshot b).cell c).chan.last = (b.cell c).chan.last := by
  let p0 := b.sense.win0.phase (b.sense.apCount + rateTicks b.sense.rate) b.sense.held
  let p1 := b.sense.win1.phase (b.sense.apCount + rateTicks b.sense.rate) b.sense.held
  have h : (missSnapshot b).sense.taken = (b.sense.seq, b.sense.apCount, b.sense.cells.map fun c => { c with chan := c.chan.take p0 p1 none }) := by
    unfold missSnapshot
    extract_lets c q0 q1 b1 b2 b3
    rw [Block.touch_sense, note_sense]
    simp only [b3]
    split
    · exact w0Ended_taken b2
    · rfl
  refine ⟨congrArg Prod.fst h, fun c => ?_⟩
  have hcells : (missSnapshot b).sense.cells = _ := congrArg (fun x => x.2.2) h
  rw [Block.cell, Block.cell, hcells]
  by_cases hc : c < b.sense.cells.length
  · rw [getD_map_lt (d := CellSense.reset c) hc]
    exact take_last ..
  · rw [List.getD_eq_default _ _ (by simpa using hc), List.getD_eq_default _ _ (by simpa using hc)]

section
variable {s : State} {f : Snapshot}

theorem snapshotFrame_missed (hi : s.block.leash.inFlight.isSome = true) (hm : s.block.sys.mstate ≠ .off) (hc : f.crcOk = false) :
    Happens (.snapshotFrame f) s [.leash, .sense] fun b =>
      b.leash = { s.block.leash with inFlight := none, missed := satAdd 255 s.block.leash.missed 1 }
      ∧ b.sense.seq = s.block.sense.seq ∧ ∀ c < 512, (b.cell c).chan.last = (s.block.cell c).chan.last := by
  have he : doSnapshotFrame f s.block = missSnapshot s.block := by
    rw [doSnapshotFrame, if_neg (by simp [hm, Option.isSome_iff_ne_none.mp hi]), if_pos (by simp [hc])]
  obtain ⟨hseq, hlast⟩ := missSnapshot_taken s.block
  refine happens_plain (f := doSnapshotFrame f) rfl (by simp [he]) (by simp [he]) ⟨by simp [he], by rw [irqWatch_sense, he, hseq], fun c _ => ?_⟩
  rw [Block.cell, irqWatch_sense, he]
  exact hlast c

theorem frameAbort_happens (hi : s.block.leash.inFlight.isSome = true) : Happens .frameAbort s [.leash, .sense] fun b =>
    b.leash = { s.block.leash with inFlight := none, missed := satAdd 255 s.block.leash.missed 1 } ∧ b.sense.seq = s.block.sense.seq := by
  have he : doFrameAbort s.block = missSnapshot s.block := by rw [doFrameAbort, if_pos hi]
  exact happens_plain (f := doFrameAbort) rfl (by simp [he]) (by simp [he]) ⟨by simp [he], by rw [irqWatch_sense, he, (missSnapshot_taken s.block).1]⟩

/-- What a cell's sample leaves of the frame's word. -/
theorem takeCell_marks (p0 p1 : WinPhase) (f : Snapshot) (b : Block) (c : Nat) (x : CellSense) :
    (takeCell p0 p1 f b c x).seq = f.seq ∧ (takeCell p0 p1 f b c x).chf = chfOf (f.cells.getD c 0) := by
  unfold takeCell
  dsimp only
  split <;> exact ⟨rfl, rfl⟩

theorem snapshotFrame_stored (hi : s.block.leash.inFlight.isSome = true) (hm : s.block.sys.mstate ≠ .off) (hc : f.crcOk = true) :
    Happens (.snapshotFrame f) s actedOn fun b =>
      b.leash.inFlight = none ∧ b.leash.lastStored = s.block.sys.now ∧ b.leash.missed = s.block.leash.missed ∧ b.sense.seq = f.seq
        ∧ b.sense.apCount = f.count % 4294967296 ∧ ∀ c < s.block.nCell, c < s.block.sense.cells.length → (b.cell c).seq = f.seq ∧ (b.cell c).chf = chfOf (f.cells.getD c 0) := by
  let p1 := s.block.sense.win1.phase f.count s.block.sense.held
  let y := storeSnapshot f s.block
  let z := initAtW1 (p1.run && p1.last) y
  have he : doSnapshotFrame f s.block = distribute f.count z := by
    rw [doSnapshotFrame, if_neg (by simp [hm, Option.isSome_iff_ne_none.mp hi]), if_neg (by simp [hc])]
  obtain ⟨x, htx, hx, hy⟩ := storeSnapshot_eq f s.block
  have hty : s.block.touches y [.sys, .sense, .leash] := by
    simp only [y, hy]
    rw [touches_touch, touches_onLeash (by decide)]
    exact htx.mono (by decide)
  have htz : y.touches (distribute f.count z) [.flt, .imp, .loop, .latch, .cnv] :=
    Block.touches.trans (b := z) (by simp [z]) (distribute_touches f.count z)
  have hleash : (irqWatch s.block (doSnapshotFrame f s.block)).leash = { s.block.leash with inFlight := none, lastStored := s.block.sys.now } := by
    have hl : x.leash = s.block.leash := htx .leash (by decide) (by decide)
    have hl' : (distribute f.count z).leash = y.leash := htz .leash (by decide) (by decide)
    have hl'' : y.leash = { x.leash with inFlight := none, lastStored := s.block.sys.now } := by simp [y, hy]
    rw [irqWatch_leash, he, hl', hl'', hl]
  have hsense : (irqWatch s.block (doSnapshotFrame f s.block)).sense.taken = x.sense.taken := by
    have hl' : (distribute f.count z).sense = y.sense := htz .sense (by decide) (by decide)
    have hl'' : y.sense = x.sense := by simp [y, hy]
    rw [irqWatch_sense, he, hl', hl'']
  rw [hx] at hsense
  simp only [SensePart.taken, Prod.mk.injEq] at hsense
  obtain ⟨hseq, hcount, hcells⟩ := hsense
  refine happens_touching (f := doSnapshotFrame f) rfl ?_ (fun h => ?_) ⟨by rw [hleash], by rw [hleash], by rw [hleash], hseq, hcount, fun c hn hl => ?_⟩
  · rw [he]
    exact (hty.mono (by decide)).trans (htz.mono (by decide))
  · rw [he]
    refine distribute_settled _ ((initAtW1_settled _ y).trans ((settled_of_touches hty ?_ (by decide)).trans h))
    exact storeSnapshot_mstate f s.block
  · rw [Block.cell, hcells, getD_mapIdx (d := CellSense.reset c) hl, if_pos hn]
    exact takeCell_marks ..

/-! ### Trips on the leash (R40, R41, R86, R121) -/

@[simp] theorem touches_nameTrips {l : List PartName} (hl : .sense ∈ l) (o b : Block) (n : Nat) : o.touches (nameTrips n b) l ↔ o.touches b l := by
  unfold nameTrips onSeg
  dsimp only
  rw [touches_onSense hl]
  exact touches_foldl (fun _ _ _ => touches_note ..) _ o b

theorem leashTrip_up {source : Nat} (hl : s.block.anyLane = true) (hs : source ≤ 0x10) (ha : s.block.latch.state = .armed) :
    Happens (.leashTrip false source) s actedOn fun b => s.block.hasActed b true 3 source := by
  let x := if source < 16 then nameTrips source s.block else (List.range 16).foldl (fun b n => nameTrips n b) s.block
  have he : doLeashTrip false source s.block = demandSSI 3 source x := by
    rw [doLeashTrip, if_neg (by simp [hl]), if_neg (by decide), if_neg (by omega)]
  have hx : s.block.touches x [.sense] := by
    rw [touches_ite]
    split
    · simp
    · exact (touches_foldl (fun o b n => touches_nameTrips (by decide) o b n) _ _ _).mpr (touches_refl _ _)
  have hm : x.sys.mstate = s.block.sys.mstate := congrArg SysPart.mstate (hx .sys (by decide) (by decide))
  have hlatch : x.latch = s.block.latch := hx .latch (by decide) (by decide)
  have hpwr : x.pwr = s.block.pwr := hx .pwr (by decide) (by decide)
  refine happens_touching (f := doLeashTrip false source) rfl ?_ (fun h => ?_) ?_
  · rw [he, demandSSI, touches_demand (by decide)]
    exact hx.mono (by decide)
  · rw [he]
    exact demandSSI_settled (by decide) (by rw [hlatch, ha]) ((settled_of_touches hx hm (by decide)).trans h)
  · rw [he]
    exact ((demandSSI_hasActed (by decide) (by rw [hlatch, ha])).of_before (by rw [hlatch]) (by rw [hlatch]) (by rw [hpwr])).watched _

theorem leashTrip_reserved {source : Nat} (hs : 0x10 < source) : Happens (.leashTrip false source) s [] fun _ => True := by
  refine happens_nothing (f := doLeashTrip false source) rfl ?_
  simp [doLeashTrip, hs]

theorem endManual_staged (n : Nat) (b : Block) : (endManual n b).bal.staged = b.bal.staged := by
  unfold endManual
  split
  · rfl
  · dsimp only
    rw [Block.touch_bal, note_bal]
    split <;> rfl

theorem balTrip_halted (b : Block) : (balTrip b).halted ∧ (balTrip b).bal.staged = [] := by
  have hbal : (balTrip b).bal = (openElements (fun _ => true) (endManuals (balStop b))).bal := by
    rw [balTrip, Block.touch_bal]
    rfl
  refine ⟨(halted_of_bal hbal).mpr (openElements_halted _), ?_⟩
  rw [hbal]
  exact foldl_keeps (fun b : Block => b.bal.staged) _ (fun b n => endManual_staged n b) _ _

theorem touches_balTrip (b : Block) : b.touches (balTrip b) [.bal, .sense] := by simp [balTrip]

theorem leashTrip_down (hl : s.block.anyLane = true) : Happens (.leashTrip true 0x80) s [.bal, .sense] fun b =>
    b.bal.manuals = [] ∧ b.bal.staged = [] ∧ (∀ c < 512, (b.cellBal c).bleed = false) ∧ ∀ n < 16, ∀ h ∈ (b.segBal n).shuttles, h.cur = 0 := by
  have he : doLeashTrip true 0x80 s.block = balTrip s.block := by rw [doLeashTrip, if_neg (by simp [hl]), if_pos rfl, if_pos rfl]
  have hbal : (irqWatch s.block (doLeashTrip true 0x80 s.block)).bal = (balTrip s.block).bal := by rw [irqWatch_bal, he]
  obtain ⟨hh, hstaged⟩ := balTrip_halted s.block
  obtain ⟨hman, hcells, hsegs⟩ := (halted_of_bal hbal).mpr hh
  exact happens_plain (f := doLeashTrip true 0x80) rfl (he ▸ touches_balTrip _) (by rw [he, balTrip_sys]) ⟨hman, by rw [hbal, hstaged], hcells, hsegs⟩

end

/-- Settles O8: each command's clause by its own lemma above. -/
theorem leashFramesAndTripsDoWhatTheyCarry : Obligations.LeashFramesAndTripsDoWhatTheyCarry := by
  unfold Obligations.LeashFramesAndTripsDoWhatTheyCarry
  exact ⟨fun _ _ _ => leashFrameTimeout_repeats, fun _ _ _ => leashFrameTimeout_gives_up, fun _ _ _ _ _ _ hf h4 hc hq _ => leashFrameTimeout_fails_command hf h4 hc hq,
    fun _ _ _ => hubCommandFrame_happens, fun _ _ => hubCommandFrame_once, fun _ _ => replyFrame_happens, fun _ _ => eventFrame_happens,
    fun _ _ _ _ _ => scheduleFrame_happens, fun _ => snapshotFrameStart_happens, fun _ _ => snapshotFrame_missed, fun _ _ => snapshotFrame_stored,
    fun _ => frameAbort_happens, fun _ => tripRepeat_down, fun _ => tripRepeat_up, fun _ _ => leashTrip_up, fun _ => leashTrip_down, fun _ _ => leashTrip_reserved⟩

end Sys2Proof.Machine

namespace Sys2Proof.Machine

/-! ### Parts that fail: those with a command of their own, and the channels of the hub (R60, R61, R71, R72) -/

/-- Two commands with the same effect on the block do the same. -/
theorem happens_as {i j : Instr} {s : State} {f g : Block → Block} {l : List PartName} {P : Block → Prop} (hi : exec i s = effect f s) (hj : exec j s = effect g s)
    (he : f s.block = g s.block) (h : Happens j s l P) : Happens i s l P := by
  have hij : exec i s = exec j s := by rw [hi, hj, effect, effect, he]
  intro hs
  obtain ⟨t, ht, hrest⟩ := h hs
  exact ⟨t, hij.trans ht, hrest⟩

/-- What `settled` reads of the supplies is the hold. -/
theorem settled_of_hold {o b : Block} {l : List PartName} (h : o.touches b l) (hm : b.sys.mstate = o.sys.mstate) (hh : b.pwr.hold = o.pwr.hold)
    (hl : .latch ∉ l ∧ .cnv ∉ l ∧ .sec ∉ l) : b.settled = o.settled := by
  obtain ⟨hlatch, hcnv, hsec⟩ := hl
  have el : b.latch = o.latch := h .latch hlatch (by decide)
  have ec : b.cnv = o.cnv := h .cnv hcnv (by decide)
  have es : b.sec = o.sec := h .sec hsec (by decide)
  exact settled_of_same el (by rw [ec]) hm hh (by rw [es]) (by rw [es])

section
variable {s : State}

/-- The fault of a part while the module is powered: what the part's failure does. -/
theorem happens_fault {p : Part} {f : Block → Block} {l : List PartName} {P : Block → Prop} (hon : s.block.sys.mstate ≠ .off)
    (hf : ∀ b : Block, b.sys.mstate ≠ .off → doPartFault p b = f b) (ht : s.block.touches (f s.block) l) (hset : s.block.settled = true → (f s.block).settled = true)
    (hP : P (irqWatch s.block (f s.block))) : Happens (.partFault p) s l P := by
  have he := hf s.block hon
  exact happens_touching (f := doPartFault p) rfl (by rwa [he]) (by rwa [he]) (by rwa [he])

theorem partFault_leashLane {k : Fin 2} (hon : s.block.sys.mstate ≠ .off) (h : (s.block.lane k).up = true) : Happens (.partFault (.leashLane k)) s [.sys, .leash, .sense] fun b =>
    (b.lane k).up = false ∧ ∀ j : Fin 2, j ≠ k → b.lane j = s.block.lane j :=
  (happens_as (f := doPartFault (.leashLane k)) (g := laneDown k) rfl rfl (if_neg hon) (laneViolationLimit_happens h)).mono fun _ hb => ⟨hb.1, hb.2.1⟩

theorem partFault_rung {r : Fin 17} (hon : s.block.sys.mstate ≠ .off) (hr : r.val ≤ s.block.nSeg) (hu : s.block.rungUp r = true) (h0 : s.block.rungsDown = 0) :
    Happens (.partFault (.rung r)) s [.sys, .ring] fun b => b.rungUp r = false ∧ b.sys.takeovers = s.block.sys.takeovers + 1 := by
  refine (happens_as (f := doPartFault (.rung r)) (g := doRungDown r none) rfl rfl (if_neg hon) (rungDown_happens hr hu h0)).mono fun b hb => ?_
  obtain ⟨hdown, -, -, hsys⟩ := hb
  exact ⟨hdown, by rw [hsys]⟩

theorem partFault_primaryCurrent (hon : s.block.sys.mstate ≠ .off) (h1 : s.block.sense.isel2 = false) (h2 : s.block.sense.iSecOk = true) :
    Happens (.partFault .primaryCurrent) s [.sys, .sense] fun b =>
      b.sense = { s.block.sense with isel2 := true, iPriOk := false } ∧ b.sys.takeovers = s.block.sys.takeovers + 1 := by
  have he : losePrimary s.block = (takeover (partCode 4 0) (partCode 5 0) (note .currentChLost noArg [1]
      (s.block.onSense fun x => { x with isel2 := true, iPriOk := false }))).touch senseTiles := by simp [losePrimary, h1, h2]
  have ht : s.block.touches (losePrimary s.block) [.sys, .sense] := by simp [he]
  exact happens_fault (f := losePrimary) hon (fun b hb => if_neg hb) ht (fun h => (settled_of_touches ht (by simp [he]) (by decide)).trans h) ⟨by simp [he], by simp [he]⟩

theorem partFault_secondaryCurrent (hon : s.block.sys.mstate ≠ .off) (h1 : s.block.sense.iSecOk = true) (h2 : s.block.sense.iPriOk = true) :
    Happens (.partFault .secondaryCurrent) s [.sys, .sense] fun b =>
      b.sense = { s.block.sense with iSecOk := false } ∧ b.sys.takeovers = s.block.sys.takeovers + 1 := by
  have he : loseSecondary s.block = takeover (partCode 5 0) (partCode 4 0) ((s.block.onSense fun x => { x with iSecOk := false }).touch senseTiles) := by
    simp [loseSecondary, h1, h2]
  have ht : s.block.touches (loseSecondary s.block) [.sys, .sense] := by simp [he]
  exact happens_fault (f := loseSecondary) hon (fun b hb => if_neg hb) ht (fun h => (settled_of_touches ht (by simp [he]) (by decide)).trans h) ⟨by simp [he], by simp [he]⟩

theorem partFault_divider (hon : s.block.sys.mstate ≠ .off) (h1 : s.block.sense.vsel2 = false) : Happens (.partFault .divider) s [.sys, .sense] fun b =>
    b.sense = { s.block.sense with vsel2 := true, vDivOk := false } ∧ b.sys.takeovers = s.block.sys.takeovers + 1 := by
  have he : loseDivider s.block = (takeover (partCode 6 0) (partCode 3 0) (s.block.onSense fun x => { x with vsel2 := true, vDivOk := false })).touch senseTiles := by
    simp [loseDivider, h1]
  have ht : s.block.touches (loseDivider s.block) [.sys, .sense] := by simp [he]
  exact happens_fault (f := loseDivider) hon (fun b hb => if_neg hb) ht (fun h => (settled_of_touches ht (by simp [he]) (by decide)).trans h) ⟨by simp [he], by simp [he]⟩

/-! ### A segment die (R60; log entry 53) -/

theorem hibernateExit_segs (b : Block) : (hibernateExit b).sense.segs = b.sense.segs := by
  unfold hibernateExit
  refine (foldl_keeps (fun b : Block => b.sense.segs) _ (fun b p => ?_) _ _).trans rfl
  split <;> rfl

theorem onEntry_segs (m : MState) (b : Block) : (onEntry_ m b).sense.segs = b.sense.segs := by cases m <;> simp [onEntry_, scheduleRate]

theorem leaveRun_segs (m : MState) (b : Block) : (leaveRun m b).sense.segs = b.sense.segs := by
  unfold leaveRun
  dsimp only
  split
  · split <;> simp
  · simp

theorem enterState_segs (m : MState) (cause : Nat) (b : Block) : (enterState m cause b).sense.segs = b.sense.segs := by
  simp [enterState, changeState, changeNow, deferState, apply_ite Block.sense, apply_ite SensePart.segs, hibernateExit_segs, onEntry_segs, leaveRun_segs]

theorem partFault_segmentDie {n : Fin 16} (hm : s.block.sys.mstate ∈ [MState.boot, .park, .run, .hibernate]) (hh : s.block.hinge = false) (hn : n.val < s.block.nSeg) :
    Happens (.partFault (.segmentDie n)) s controlled fun b => (b.seg n).present = false ∧ b.sys.mstate = .fault := by
  let b1 := (s.block.onSense fun x => { x with segs := modAt x.segs n fun g => { g with present := false } }).touch senseTiles
  have hon : s.block.sys.mstate ≠ .off := fun e => by simp [e] at hm
  have he : loseDie n s.block = enterState .fault Event.backupTakeover.code b1 := by
    have hns : ¬(b1.sys.mstate = .safe ∨ b1.sys.mstate = .fault) := fun e => by rcases e with e | e <;> simp [b1] at e <;> simp [e] at hm
    rw [loseDie, if_neg (by omega)]
    exact if_neg hns
  have h1 : b1.settled = s.block.settled := settled_of_touches (l := [.sense]) (by simp [b1]) (by simp [b1]) (by decide)
  have hseg : ((irqWatch s.block (loseDie n s.block)).seg n).present = false := by
    rw [Block.seg, irqWatch_sense, he, enterState_segs, Block.touch_sense]
    by_cases hl : n.val < s.block.sense.segs.length
    · exact congrArg SegSense.present (getD_modAt_self hl)
    · exact congrArg SegSense.present (List.getD_eq_default _ _ (by simpa [modAt] using hl))
  refine happens_fault (f := loseDie n) hon (fun b hb => if_neg hb) ?_ (fun h => ?_) ⟨hseg, ?_⟩
  · rw [he, touches_enterState (by decide)]
    simp [b1, controlled]
  · rw [he]
    exact enterState_fault_settled _ (h1.trans h) (by simpa [b1] using hm)
  · rw [irqWatch_sys, he]
    exact enterState_mstate (by simpa [b1, Block.hinge] using hh)

/-! ### The supplies, the standby, the flash and the fibres (R60, R61) -/

theorem partFault_flashSlot {n : Fin 2} (hon : s.block.sys.mstate ≠ .off) : Happens (.partFault (.flashSlot n)) s [.sys] fun b =>
    b.sys = { s.block.sys with takeovers := s.block.sys.takeovers + 1 } := by
  have ht : s.block.touches (takeover (partCode 16 n) (partCode 16 (1 - n)) s.block) [.sys] := by simp
  exact happens_fault (f := takeover (partCode 16 n) (partCode 16 (1 - n))) hon (fun b hb => if_neg hb) ht
    (fun h => (settled_of_touches ht (by simp) (by decide)).trans h) (by simp)

/-- A part of the supplies out of order, its record written. -/
theorem happens_supply {p : Part} {f : Block → Block} {g : PwrPart → PwrPart} {e : Event} (hon : s.block.sys.mstate ≠ .off) (hf : ∀ b : Block, b.sys.mstate ≠ .off → doPartFault p b = f b)
    (he : f s.block = note e noArg [] ((s.block.onPwr g).touch supplyTiles)) (hg : (g s.block.pwr).hold = s.block.pwr.hold) :
    Happens (.partFault p) s [.pwr, .supply] fun b => b.pwr = g s.block.pwr := by
  have ht : s.block.touches (f s.block) [.pwr, .supply] := by simp [he]
  exact happens_fault (f := f) hon hf ht (fun h => (settled_of_hold ht (by simp [he]) (by simp [he, hg]) (by decide)).trans h) (by simp [he])

theorem partFault_sds (hon : s.block.sys.mstate ≠ .off) (h : s.block.pwr.sdsOk = true) : Happens (.partFault .sds) s [.pwr, .supply] fun b =>
    b.pwr = { s.block.pwr with sdsOk := false } :=
  happens_supply (f := doPartFault .sds) (g := fun p => { p with sdsOk := false }) (e := .sdsFault) hon (fun _ _ => rfl) (by simp [doPartFault, hon, h]) rfl

theorem partFault_kennel (hon : s.block.sys.mstate ≠ .off) : Happens (.partFault .kennel) s [.pwr, .supply] fun b => b.pwr = { s.block.pwr with kenOk := false } :=
  happens_supply (f := doPartFault .kennel) (g := fun p => { p with kenOk := false }) (e := .kennelFault) hon (fun _ _ => rfl) (by simp [doPartFault, hon]) rfl

theorem partFault_takeoverMonitor (hon : s.block.sys.mstate ≠ .off) : Happens (.partFault .takeoverMonitor) s [.pwr, .supply] fun b =>
    b.pwr = { s.block.pwr with tmonOk := false } :=
  happens_supply (f := doPartFault .takeoverMonitor) (g := fun p => { p with tmonOk := false }) (e := .takeoverMonFault) hon (fun _ _ => rfl) (by simp [doPartFault, hon]) rfl

theorem partFault_reserve (hon : s.block.sys.mstate ≠ .off) (hc : s.block.pwr.resCtl = false) : Happens (.partFault (.engine .reserve)) s [.pwr, .supply] fun b =>
    b.pwr = { s.block.pwr with resOk := false } :=
  happens_supply (f := doPartFault (.engine .reserve)) (g := fun p => { p with resOk := false }) (e := .reserveFault) hon (fun _ _ => rfl)
    (by simp [doPartFault, hon, engineDown, reserveFailure, hc]) rfl

theorem feedOk_onFeed_self (n : Nat) (b : Block) : (onFeed n (fun _ => { ok := false, low := false }) b).feedOk n = false := by
  simp only [Block.feedOk, onFeed, Block.touch_pwr, Block.onPwr_pwr, modAt, List.getElem?_modify]
  cases b.pwr.feeds[n]? <;> simp

theorem feedOk_onFeed_ne {n m : Nat} (h : m ≠ n) (f : Feed → Feed) (b : Block) : (onFeed n f b).feedOk m = b.feedOk m := by
  simp [Block.feedOk, onFeed, modAt, h.symm]

theorem partFault_feed {n : Fin 2} (hon : s.block.sys.mstate ≠ .off) (h1 : s.block.feedOk n = true) (h2 : s.block.feedOk (1 - n.val) = true) :
    Happens (.partFault (.feed n)) s [.sys, .pwr, .supply] fun b => b.feedOk n = false ∧ b.sys.takeovers = s.block.sys.takeovers + 1 := by
  let b1 := onFeed n (fun _ => { ok := false, low := false }) s.block
  have hother : (note .feedLost n [] b1).feedOk (1 - n) = true := by
    rw [Block.feedOk, note_pwr]
    exact (feedOk_onFeed_ne (by omega) _ _).trans h2
  have he : doFeedAbsent n s.block = takeover (partCode 15 n) (partCode 15 (1 - n)) (note .feedLost n [] b1) := by
    rw [doFeedAbsent, if_neg (by simp [h1])]
    exact if_pos hother
  have ht : s.block.touches (doFeedAbsent n s.block) [.sys, .pwr, .supply] := by simp [he, b1, onFeed]
  refine happens_fault (f := doFeedAbsent n) hon (fun b hb => if_neg hb) ht (fun h => (settled_of_hold ht (by simp [he, b1, onFeed]) (by simp [he, b1, onFeed]) (by decide)).trans h) ⟨?_, ?_⟩
  · rw [Block.feedOk, irqWatch_pwr, he, takeover_pwr, note_pwr]
    exact feedOk_onFeed_self n s.block
  · simp [he, b1, onFeed]

theorem partFault_can {n : Fin 2} (hon : s.block.sys.mstate ≠ .off) : Happens (.partFault (.can n)) s [.sys, .net] fun b =>
    b.sys = { s.block.sys with takeovers := s.block.sys.takeovers + 1 } ∧ (b.net.cans[n.val]?.all fun c => !c.on) = true := by
  have ht : s.block.touches (loseCan n s.block) [.sys, .net] := by simp [loseCan, onCan]
  refine happens_fault (f := loseCan n) hon (fun b hb => if_neg hb) ht (fun h => (settled_of_touches ht (by simp [loseCan]) (by decide)).trans h) ⟨by simp [loseCan, onCan], ?_⟩
  rw [irqWatch_net, loseCan, takeover_net, onCan, Block.touch_net]
  simp only [Block.onNet_net, modAt, List.getElem?_modify]
  cases s.block.net.cans[n.val]? <;> simp

theorem onCage_down (c : Nat) (b : Block) : ((onCage c (fun g => { g with up := false }) b).net.cages[c]?.all fun g => !g.up) = true := by
  rw [onCage, Block.touch_net]
  simp only [Block.onNet_net, modAt, List.getElem?_modify]
  cases b.net.cages[c]? <;> simp

/-- A cage that has left is up no more. -/
theorem lanLeave_down (c : Nat) (b : Block) : ((lanLeave c b).net.cages[c]?.all fun g => !g.up) = true := by
  unfold lanLeave
  cases hc : b.net.cages[c]? with
  | none => simp [hc]
  | some g =>
    dsimp only
    split
    · next hup => simp [hc, hup]
    · have hn (x : Block) (h : x.net.cages = (onCage c (fun g => { g with up := false }) b).net.cages) : (x.net.cages[c]?.all fun g => !g.up) = true := by
        rw [h, onCage_down]
      split
      · exact hn _ (by rw [note_net])
      · exact hn _ (by rw [note_net, Block.touch_net, Block.onNet_net, note_net])

@[simp] theorem touches_lanLeave {l : List PartName} (hl : .net ∈ l) (o b : Block) (c : Nat) : o.touches (lanLeave c b) l ↔ o.touches b l := by
  unfold lanLeave onCage
  split
  · rfl
  · simp [hl]

theorem partFault_sfp {n : Fin 2} (hon : s.block.sys.mstate ≠ .off) : Happens (.partFault (.sfp n)) s [.sys, .net] fun b =>
    (b.net.cages[n.val]?.all fun g => !g.up) = true := by
  let b1 := doLanLinkLost n (s.block.sys.now - 10 * msT) s.block
  have h1 : s.block.touches b1 [.sys, .net] := by simp [b1, doLanLinkLost, onCage]
  have he : loseCage n s.block = b1 ∨ loseCage n s.block = takeover (partCode 17 n) (partCode 17 (1 - n)) b1 := by
    unfold loseCage
    extract_lets was
    split
    · exact .inr rfl
    · exact .inl rfl
  have ht : s.block.touches (loseCage n s.block) [.sys, .net] := by rcases he with he | he <;> simp [he, h1]
  have hm : (loseCage n s.block).sys.mstate = s.block.sys.mstate := by rcases he with he | he <;> simp [he, b1]
  have hnet : (loseCage n s.block).net = b1.net := by rcases he with he | he <;> simp [he]
  refine happens_fault (f := loseCage n) hon (fun b hb => if_neg hb) ht (fun h => (settled_of_touches ht hm (by decide)).trans h) ?_
  rw [irqWatch_net, hnet]
  exact lanLeave_down ..

end
end Sys2Proof.Machine

namespace Sys2Proof.Machine

/-! ### Engines that go out of service (R60, R61, R158, R186) -/

@[simp] theorem touches_setSvc {l : List PartName} (hl : .sys ∈ l) (o b : Block) (e : Nat) (up : Bool) : o.touches (setSvc e up b) l ↔ o.touches b l := by simp [setSvc, hl]

@[simp] theorem setSvc_sys (e : Nat) (up : Bool) (b : Block) : (setSvc e up b).sys = { b.sys with engSvc := b.sys.engSvc.set e up } := rfl

theorem engIn_of_engSvc {a b : Block} (h : a.sys.engSvc = b.sys.engSvc) (e : Nat) : a.engIn e = b.engIn e := by rw [Block.engIn, Block.engIn, h]

@[simp] theorem touch_engIn (ts : List Nat) (b : Block) (e : Nat) : (b.touch ts).engIn e = b.engIn e := rfl

theorem engIn_setSvc_self (e : Nat) (b : Block) : (setSvc e false b).engIn e = false := by
  simp only [Block.engIn, setSvc_sys, List.getD_eq_getElem?_getD, List.getElem?_set, if_true]
  split <;> rfl

theorem engIn_setSvc_ne {e d : Nat} (h : d ≠ e) (up : Bool) (b : Block) : (setSvc e up b).engIn d = b.engIn d := by
  simp [Block.engIn, List.getD_eq_getElem?_getD, h.symm]

theorem raise_engSvc (e : Event) (a : Nat) (d : List Nat) (b : Block) : (raise e a d b).sys.engSvc = b.sys.engSvc := by
  have hcore (m : MState) (c : Nat) (x : Block) : (enterState m c x).sys.engSvc = x.sys.engSvc := by
    have k := congrArg SysPart.engSvc (enterState_skey m c x)
    exact k
  simp [raise, apply_ite Block.sys, apply_ite SysPart.engSvc, hcore]

section
variable {s : State}

/-- The filter sequencers by their numbers. -/
theorem sequencer_of_mem {e : Engine} (he : e ∈ [Engine.f0, .f1, .f2, .f3]) : ∃ n < 4, e.ctorIdx = 4 + n
    ∧ (∀ b : Block, b.engIn (4 + n) = true → b.activating = false → engineDown e b = loseSequencer n b)
    ∧ ∀ svc : Nat → Bool, ([Engine.f0, .f1, .f2, .f3].any fun d => decide (d ≠ e) && svc d.ctorIdx) = (List.range 4).any fun i => decide (i ≠ n) && svc (4 + i) := by
  simp only [List.mem_cons, List.not_mem_nil, or_false] at he
  rcases he with rfl | rfl | rfl | rfl
  · exact ⟨0, by decide, rfl, fun b h1 h2 => by simp [engineDown, Engine.ctorIdx, h1, h2], fun svc => by simp [List.range_succ, Engine.ctorIdx]⟩
  · exact ⟨1, by decide, rfl, fun b h1 h2 => by simp [engineDown, Engine.ctorIdx, h1, h2], fun svc => by simp [List.range_succ, Engine.ctorIdx]⟩
  · exact ⟨2, by decide, rfl, fun b h1 h2 => by simp [engineDown, Engine.ctorIdx, h1, h2], fun svc => by simp [List.range_succ, Engine.ctorIdx]⟩
  · exact ⟨3, by decide, rfl, fun b h1 h2 => by simp [engineDown, Engine.ctorIdx, h1, h2], fun svc => by simp [List.range_succ, Engine.ctorIdx]⟩

/-- The engine that stands in for sequencer `n`, if any. -/
theorem loseSequencer_cases {n : Nat} (b : Block) :
    (∃ i, loseSequencer n b = note .fltSeqTakeover n [i] (takeover (partCode 10 n) (partCode 10 i) ((setSvc (4 + n) false b).touch [0x40])))
      ∧ ((List.range 4).any fun i => decide (i ≠ n) && b.engIn (4 + i)) = true
    ∨ loseSequencer n b = raise .fltAllSeqLost noArg [] ((setSvc (4 + n) false b).touch [0x40])
      ∧ ((List.range 4).any fun i => decide (i ≠ n) && b.engIn (4 + i)) = false := by
  have hsvc (i : Nat) : ((setSvc (4 + n) false b).touch [0x40]).engIn (4 + i) = (decide (i ≠ n) && b.engIn (4 + i)) := by
    rcases eq_or_ne i n with rfl | h
    · rw [touch_engIn, engIn_setSvc_self]
      simp
    · rw [touch_engIn, engIn_setSvc_ne (by omega)]
      simp [h]
  unfold loseSequencer
  simp only [hsvc]
  cases hf : (List.range 4).find? fun i => decide (i ≠ n) && b.engIn (4 + i) with
  | some i =>
    have hp := List.find?_some hf
    exact .inl ⟨⟨i, rfl⟩, List.any_eq_true.mpr ⟨i, List.mem_of_find?_eq_some hf, hp⟩⟩
  | none => exact .inr ⟨rfl, List.any_eq_false.mpr (List.find?_eq_none.mp hf)⟩

theorem partFault_sequencer {e : Engine} (hon : s.block.sys.mstate ≠ .off) (he : e ∈ [Engine.f0, .f1, .f2, .f3]) (hin : s.block.engIn e.ctorIdx = true)
    (ha : s.block.activating = false) (ho : ([Engine.f0, .f1, .f2, .f3].any fun d => decide (d ≠ e) && s.block.engIn d.ctorIdx) = true) :
    Happens (.partFault (.engine e)) s [.sys] fun b =>
      b.sys = { s.block.sys with engSvc := (s.block.sys.engSvc.set e.ctorIdx false), takeovers := s.block.sys.takeovers + 1 } := by
  obtain ⟨n, -, hix, hdown, hany⟩ := sequencer_of_mem he
  rw [hix] at hin ⊢
  rw [hany s.block.engIn] at ho
  have hl := hdown s.block hin ha
  obtain ⟨⟨i, hi⟩, -⟩ | ⟨-, hno⟩ := loseSequencer_cases (n := n) s.block
  · have ht : s.block.touches (engineDown e s.block) [.sys] := by simp [hl, hi]
    exact happens_fault (f := engineDown e) hon (fun b hb => if_neg hb) ht (fun h => (settled_of_touches ht (by simp [hl, hi]) (by decide)).trans h) (by simp [hl, hi])
  · rw [ho] at hno
    cases hno

theorem partFault_lastSequencer {e : Engine} (hon : s.block.sys.mstate ≠ .off) (he : e ∈ [Engine.f0, .f1, .f2, .f3]) (hin : s.block.engIn e.ctorIdx = true)
    (ha : s.block.activating = false) (ho : ([Engine.f0, .f1, .f2, .f3].any fun d => decide (d ≠ e) && s.block.engIn d.ctorIdx) = false) :
    Happens (.partFault (.engine e)) s controlled fun b => b.engIn e.ctorIdx = false ∧ s.block.raised b .fltAllSeqLost noArg := by
  obtain ⟨n, -, hix, hdown, hany⟩ := sequencer_of_mem he
  rw [hix] at hin ⊢
  rw [hany s.block.engIn] at ho
  have hl := hdown s.block hin ha
  obtain ⟨-, hno⟩ | ⟨hr, -⟩ := loseSequencer_cases (n := n) s.block
  · rw [ho] at hno
    cases hno
  · let b1 := (setSvc (4 + n) false s.block).touch [0x40]
    have h1 : b1.settled = s.block.settled := settled_of_touches (l := [.sys]) (by simp [b1]) rfl (by decide)
    have hraised : s.block.raised (raise .fltAllSeqLost noArg [] b1) .fltAllSeqLost noArg := raise_raised _ _ _ rfl rfl rfl
    refine happens_fault (f := engineDown e) hon (fun b hb => if_neg hb) ?_ (fun h => ?_) ⟨?_, ?_⟩
    · rw [hl, hr, touches_raise (by decide)]
      simp [controlled]
    · rw [hl, hr]
      exact raise_settled _ _ _ (h1.trans h)
    · rw [hl, hr, engIn_of_engSvc (b := setSvc (4 + n) false s.block) (by rw [irqWatch_sys, raise_engSvc]; rfl)]
      exact engIn_setSvc_self ..
    · rw [Block.raised, irqWatch_sys, hl, hr]
      exact hraised

theorem partFault_converter {e : Engine} (hon : s.block.sys.mstate ≠ .off) (he : e ∈ [Engine.c0, .c1]) (hin : s.block.engIn e.ctorIdx = true)
    (ha : s.block.activating = false) : Happens (.partFault (.engine e)) s [.sys] fun b =>
      b.sys = { s.block.sys with engSvc := (s.block.sys.engSvc.set e.ctorIdx false), takeovers := s.block.sys.takeovers + 1 } := by
  have hl : ∃ p q, engineDown e s.block = takeover p q (setSvc e.ctorIdx false s.block) := by
    simp only [List.mem_cons, List.not_mem_nil, or_false] at he
    rcases he with rfl | rfl
    · have h8 : s.block.engIn 8 = true := hin
      exact ⟨partCode 11 0, partCode 11 1, by simp [engineDown, Engine.ctorIdx, h8, ha]⟩
    · have h9 : s.block.engIn 9 = true := hin
      exact ⟨partCode 11 1, partCode 11 0, by simp [engineDown, Engine.ctorIdx, h9, ha]⟩
  obtain ⟨p, q, hl⟩ := hl
  have ht : s.block.touches (engineDown e s.block) [.sys] := by simp [hl]
  exact happens_fault (f := engineDown e) hon (fun b hb => if_neg hb) ht (fun h => (settled_of_touches ht (by simp [hl]) (by decide)).trans h) (by simp [hl])

/-! #### Spectral and policy engines (R186, R411) -/

theorem touches_of_apart {b c : Block} (h : c.apart = b.apart) : b.touches c [.sys, .engines, .chans] := fun _ hq hn => same_of_apart h hq hn

theorem loseSpectral_out (n : Nat) (b : Block) : b.touches (loseSpectral n b) [.sys, .imp] ∧ (loseSpectral n b).engIn (10 + n) = false
    ∧ (loseSpectral n b).sys.mstate = b.sys.mstate := by
  let b1 := (setSvc (10 + n) false b).onImp fun i => { i with badPeriod := i.badPeriod || i.job.isSome }
  have hsvc : (loseSpectral n b).sys.engSvc = (setSvc (10 + n) false b).sys.engSvc := by
    simp [loseSpectral, apply_ite Block.sys, apply_ite SysPart.engSvc]
  refine ⟨?_, ?_, by simp⟩
  · simp [loseSpectral]
  · rw [engIn_of_engSvc hsvc]
    exact engIn_setSvc_self ..

theorem disableCh_sys (c : Nat) (b : Block) : (disableCh c b).sys = b.sys := by
  have hq (n : Nat) (f : Block → Nat → CqEntry) (l : CqLoc) (x : Block) : ((List.range n).foldl (fun b i => pushCq l (f b i) b) x).sys = x.sys :=
    foldl_keeps Block.sys _ (fun b i => pushCq_sys ..) _ _
  unfold disableCh
  dsimp only
  split
  · rfl
  · rw [onCh_sys, hq]
    split
    · rw [pushCq_sys, onCh_sys]
    · rw [onCh_sys]

theorem stopPolicy_sys (p : Nat) (b : Block) : (stopPolicy p b).sys = (setSvc (svcOf p) false b).sys := by
  have hring (x : Block) : (disableRing p x).sys = x.sys := by
    unfold disableRing onRing_
    split
    · rw [drainRing_sys, onPe_sys]
    · rfl
  unfold stopPolicy
  dsimp only
  rw [hring, foldl_keeps Block.sys _ (fun b c => disableCh_sys c b), onPe_sys]

theorem stopPolicy_apart (p : Nat) (b : Block) : (stopPolicy p b).apart = b.apart := by
  by_cases hp : p < b.pol.engines.length
  · obtain ⟨-, -, h, -⟩ := stopPolicy_engineDown hp
    exact h
  · let b1 := onPe p (fun e => { e with up := false, asleep := false, resv := none }) (setSvc (svcOf p) false b)
    let mine := (List.range 16).filter fun c => decide ((b1.ch c).owner = some p)
    have h2 : b1.downs (mine.foldl (fun b c => disableCh c b) b1) mine := downs_disableChs mine b1
    have hlen : ¬p < (mine.foldl (fun b c => disableCh c b) b1).pol.engines.length := by
      rw [h2.length, onPe_engines_length]
      exact hp
    have hpe : (mine.foldl (fun b c => disableCh c b) b1).pe p = PolEngine.reset := List.getD_eq_default _ _ (Nat.le_of_not_lt hlen)
    have hs : stopPolicy p b = mine.foldl (fun b c => disableCh c b) b1 := by
      refine if_neg ?_
      rw [hpe]
      decide
    rw [hs, h2.apart]
    rfl

@[simp] theorem touches_onPe {l : List PartName} (hl : .engines ∈ l) (o b : Block) (p : Nat) (f : PolEngine → PolEngine) : o.touches (onPe p f b) l ↔ o.touches b l :=
  touches_congr (m := [.engines]) (fun q hq hn => by cases q <;> simp_all [Block.same, noticed]) (by simpa using hl) o

theorem policyDown_out (p cause : Nat) (b : Block) : b.touches (policyDown p cause b) [.sys, .engines, .chans] ∧ (policyDown p cause b).engIn (13 + p) = false := by
  have hstop : b.touches (stopPolicy p b) [.sys, .engines, .chans] := touches_of_apart (stopPolicy_apart p b)
  have hsys : (policyDown p cause b).sys = (setSvc (13 + p) false b).sys := by
    unfold policyDown
    dsimp only
    simp only [apply_ite Block.sys, note_sys, onPe_sys, ite_self]
    exact stopPolicy_sys p b
  refine ⟨by simp [policyDown, hstop], ?_⟩
  rw [engIn_of_engSvc (b := setSvc (13 + p) false b) (by rw [hsys])]
  exact engIn_setSvc_self ..

theorem partFault_spectralOrPolicy {e : Engine} (hon : s.block.sys.mstate ≠ .off) (he : e ∈ [Engine.s0, .s1, .p0, .p1]) (hin : s.block.engIn e.ctorIdx = true)
    (ha : s.block.activating = false) : Happens (.partFault (.engine e)) s [.sys, .imp, .engines, .chans] fun b => b.engIn e.ctorIdx = false := by
  have hl : s.block.touches (engineDown e s.block) [.sys, .imp, .engines, .chans] ∧ (engineDown e s.block).engIn e.ctorIdx = false
      ∧ (engineDown e s.block).sys.mstate = s.block.sys.mstate := by
    simp only [List.mem_cons, List.not_mem_nil, or_false] at he
    have hspec (n : Nat) (h : engineDown e s.block = loseSpectral n s.block) (hix : e.ctorIdx = 10 + n) : s.block.touches (engineDown e s.block) [.sys, .imp, .engines, .chans]
        ∧ (engineDown e s.block).engIn e.ctorIdx = false ∧ (engineDown e s.block).sys.mstate = s.block.sys.mstate := by
      obtain ⟨ht, hout, hm⟩ := loseSpectral_out n s.block
      rw [h, hix]
      exact ⟨ht.mono (by decide), hout, hm⟩
    have hpol (n : Nat) (k q : Nat) (h : engineDown e s.block = takeover k q (policyDown n 0 s.block)) (hix : e.ctorIdx = 13 + n) :
        s.block.touches (engineDown e s.block) [.sys, .imp, .engines, .chans] ∧ (engineDown e s.block).engIn e.ctorIdx = false
        ∧ (engineDown e s.block).sys.mstate = s.block.sys.mstate := by
      obtain ⟨ht, hout⟩ := policyDown_out n 0 s.block
      rw [h, hix, touches_takeover (by decide)]
      exact ⟨ht.mono (by decide), (engIn_of_engSvc (by rw [takeover_sys]) _).trans hout, by simp⟩
    rcases he with rfl | rfl | rfl | rfl
    · have h10 : s.block.engIn 10 = true := hin
      exact hspec 0 (by simp [engineDown, Engine.ctorIdx, h10, ha]) rfl
    · have h11 : s.block.engIn 11 = true := hin
      exact hspec 1 (by simp [engineDown, Engine.ctorIdx, h11, ha]) rfl
    · have h13 : s.block.engIn 13 = true := hin
      exact hpol 0 (partCode 14 0) (partCode 7 0) (by simp [engineDown, Engine.ctorIdx, h13, ha]) rfl
    · have h14 : s.block.engIn 14 = true := hin
      exact hpol 1 (partCode 14 1) (partCode 7 0) (by simp [engineDown, Engine.ctorIdx, h14, ha]) rfl
  obtain ⟨ht, hout, hm⟩ := hl
  exact happens_fault (f := engineDown e) hon (fun b hb => if_neg hb) ht (fun h => (settled_of_touches ht hm (by decide)).trans h)
    ((engIn_of_engSvc (by rw [irqWatch_sys]) _).trans hout)

end
end Sys2Proof.Machine

namespace Sys2Proof.Machine

/-! ### N0 goes out of service (R259, R333, R406) -/

section
variable {l : List PartName}

@[simp] theorem touches_onSource (hl : .loop ∈ l) (o b : Block) (i : Nat) (f : Source → Source) : o.touches (onSource i f b) l ↔ o.touches b l := touches_onLoop hl ..

@[simp] theorem touches_lossAction (hl : .loop ∈ l) (hc : .cnv ∈ l) (o b : Block) : o.touches (lossAction b) l ↔ o.touches b l := by
  unfold lossAction startSoftstop
  dsimp only
  split
  · rfl
  · split <;> simp [hl, hc]

@[simp] theorem touches_loseSource (hl : .loop ∈ l) (hc : .cnv ∈ l) (o b : Block) (i : Nat) : o.touches (loseSource i b) l ↔ o.touches b l := by
  unfold loseSource
  split <;> simp [hl, hc]

@[simp] theorem touches_closeWindow (hl : .latch ∈ l) (o b : Block) (i : Nat) : o.touches (closeWindow i b) l ↔ o.touches b l := by simp [closeWindow, hl]

@[simp] theorem touches_setOwner (hx : .ix ∈ l) (hw : .owner ∈ l) (ht : .latch ∈ l) (hl : .loop ∈ l) (hc : .cnv ∈ l) (o b : Block) (w : Option Nat) :
    o.touches (setOwner w b) l ↔ o.touches b l := by
  unfold setOwner
  dsimp only
  split
  · rfl
  · rw [touches_touch, touches_ite, touches_loseSource hl hc, ite_self]
    split <;> simp [hx, hw, ht]

@[simp] theorem touches_closeSession (hx : .ix ∈ l) (hw : .owner ∈ l) (ht : .latch ∈ l) (hs : .sec ∈ l) (hl : .loop ∈ l) (hc : .cnv ∈ l) (o b : Block) (i : Nat) :
    o.touches (closeSession i b) l ↔ o.touches b l := by
  unfold closeSession
  split
  · rfl
  · simp [hx, hw, ht, hs, hl, hc]

@[simp] theorem touches_setHold (hn : .net ∈ l) (o b : Block) : o.touches (setHold b) l ↔ o.touches b l := by simp [setHold, onPtp, hn]

end

/-- A source lost takes the converter out of REGULATE at most, where no muzzle stands. -/
theorem lossAction_settled {b : Block} (h : b.settled = true) : (lossAction b).settled = true := by
  by_cases hr : b.cnv.st = .regulate
  · exact settled_of_lit (l := [.loop, .cnv]) h (not_dark_of_st hr (by decide) (by decide)) (by simp) (by simp) (by decide)
  · rwa [lossAction, if_pos (.inl hr)]

theorem loseSource_settled (i : Nat) {b : Block} (h : b.settled = true) : (loseSource i b).settled = true := by
  unfold loseSource
  split
  · exact (settled_of_touches (l := [.loop]) (by simp) (by simp) (by decide)).trans h
  · extract_lets b1
    rw [touch_settled]
    exact lossAction_settled ((settled_of_touches (o := b) (l := [.loop]) (by simp [b1]) (by simp [b1]) (by decide)).trans h)

theorem closeWindow_settled (i : Nat) (b : Block) : (closeWindow i b).settled = b.settled := by
  rw [closeWindow, touch_settled]
  exact settled_of_keys rfl rfl rfl rfl rfl rfl rfl rfl

theorem onIx_settled (f : IxPart → IxPart) (b : Block) : (b.onIx f).settled = b.settled := settled_of_same rfl rfl rfl rfl rfl rfl

theorem setOwner_settled (w : Option Nat) {b : Block} (h : b.settled = true) : (setOwner w b).settled = true := by
  unfold setOwner
  split
  · exact h
  · extract_lets b1 b2
    have h1 : b1.settled = true := by rwa [note_settled, onIx_settled]
    have h2 : b2.settled = true := by
      simp only [b2]
      split
      · rwa [closeWindow_settled]
      · exact h1
    rw [touch_settled]
    split
    · exact loseSource_settled 0 h2
    · exact h2

theorem closeSession_settled (i : Nat) {b : Block} (h : b.settled = true) : (closeSession i b).settled = true := by
  unfold closeSession
  split
  · exact h
  · extract_lets closed b1 b2 b3 b4
    have h1 : b1.settled = true := by rwa [note_settled, onIx_settled]
    have h2 : b2.settled = true := by
      simp only [b2]
      split
      · exact setOwner_settled none h1
      · exact h1
    have h4 : b4.settled = b2.settled := (settled_of_keys rfl rfl rfl rfl rfl rfl rfl rfl : b4.settled = (closeWindow i b2).settled).trans (closeWindow_settled i b2)
    rw [touch_settled, h4]
    exact h2

theorem loseSource_ix (i : Nat) (b : Block) : (loseSource i b).ix = b.ix :=
  (touches_loseSource (l := [.loop, .cnv]) (by decide) (by decide) b b i).mpr (touches_refl _ _) .ix (by decide) (by decide)

theorem setOwner_ix (w : Option Nat) (b : Block) : (setOwner w b).ix = { b.ix with owner := w } := by
  unfold setOwner
  split
  · next h => rw [← h]
  · extract_lets b1 b2
    have h2 : b2.ix = b1.ix := by
      simp only [b2]
      split <;> rfl
    rw [Block.touch_ix, apply_ite Block.ix, loseSource_ix, ite_self, h2, note_ix]
    rfl

/-- The sessions and the owner after a session is closed. -/
theorem closeSession_ix {i : Nat} {b : Block} (h : (b.session i).isOpen = true) : (closeSession i b).ix =
    { b.ix with sessions := modAt b.ix.sessions i fun n => { Session.closed with stag := n.stag }, owner := if b.ix.owner = some i then none else b.ix.owner } := by
  unfold closeSession
  rw [if_neg (by simp [h])]
  extract_lets closed b1 b2 b3 b4
  have h1 : b1.ix = { b.ix with sessions := modAt b.ix.sessions i fun n => { Session.closed with stag := n.stag } } := note_ix ..
  have h4 : b4.ix = b2.ix := rfl
  rw [Block.touch_ix, h4]
  simp only [b2]
  split
  · rw [setOwner_ix, h1]
  · rw [h1]

/-- After a session is closed it is not open, the others are as they were, and it does not own control. -/
theorem closeSession_session_ne {i j : Nat} (hj : j ≠ i) (b : Block) : (closeSession i b).session j = b.session j := by
  by_cases h : (b.session i).isOpen = true
  · rw [Block.session, closeSession_ix h]
    exact getD_modAt_ne hj
  · rw [closeSession, if_pos (by simpa using h)]

theorem closeSession_isOpen (i : Nat) (b : Block) : ((closeSession i b).session i).isOpen = false := by
  by_cases h : (b.session i).isOpen = true
  · have hl : i < b.ix.sessions.length := lt_length_of_getD (d := Session.closed) fun hd => by rw [Block.session, hd] at h; cases h
    rw [Block.session, closeSession_ix h]
    exact congrArg Session.isOpen (getD_modAt_self hl)
  · rw [closeSession, if_pos (by simpa using h)]
    simpa using h

theorem closeSession_owner {i k : Nat} {b : Block} (h : (closeSession i b).ix.owner = some k) : b.ix.owner = some k ∧ (k = i → (b.session i).isOpen = false) := by
  by_cases ho : (b.session i).isOpen = true
  · rw [closeSession_ix ho] at h
    dsimp only at h
    split at h
    · cases h
    · next hn => exact ⟨h, fun e => absurd (e ▸ h) hn⟩
  · rw [closeSession, if_pos (by simpa using ho)] at h
    exact ⟨h, fun _ => by simpa using ho⟩

/-- Several sessions closed one after the other. -/
theorem foldl_closeSession_isOpen (l : List Nat) (b : Block) {j : Nat} (h : j ∈ l ∨ (b.session j).isOpen = false) :
    ((l.foldl (fun b i => closeSession i b) b).session j).isOpen = false := by
  induction l generalizing b with
  | nil => exact h.resolve_left (by simp)
  | cons i l ih =>
    refine ih _ ?_
    rcases eq_or_ne j i with rfl | hj
    · exact .inr (closeSession_isOpen ..)
    · rw [closeSession_session_ne hj]
      exact h.imp_left fun hm => (List.mem_cons.mp hm).resolve_left hj

theorem foldl_closeSession_owner (l : List Nat) (b : Block) {k : Nat} (h : (l.foldl (fun b i => closeSession i b) b).ix.owner = some k) :
    b.ix.owner = some k ∧ (k ∈ l → (b.session k).isOpen = false) := by
  induction l generalizing b with
  | nil => exact ⟨h, fun hm => absurd hm (by simp)⟩
  | cons i l ih =>
    obtain ⟨hown, hin⟩ := ih _ h
    obtain ⟨hown', hi⟩ := closeSession_owner hown
    refine ⟨hown', fun hm => ?_⟩
    rcases eq_or_ne k i with rfl | hk
    · exact hi rfl
    · rw [← closeSession_session_ne hk]
      exact hin ((List.mem_cons.mp hm).resolve_left hk)

theorem foldl_closeSession_settled (l : List Nat) {b : Block} (h : b.settled = true) : (l.foldl (fun b i => closeSession i b) b).settled = true := by
  induction l generalizing b with
  | nil => exact h
  | cons i l ih => exact ih (closeSession_settled i h)

section
variable {s : State}

theorem partFault_network (hon : s.block.sys.mstate ≠ .off) (hin : s.block.engIn 12 = true) (ha : s.block.activating = false)
    (hown : (s.block.ix.owner.all fun i => decide (i < 4) && (s.block.session i).isOpen) = true) :
    Happens (.partFault (.engine .n0)) s ([.owner, .latch, .sec, .net] ++ controlled) fun b =>
      b.engIn 12 = false ∧ b.ix.owner = none ∧ ∀ i < 4, (b.session i).isOpen = false := by
  let b1 := takeover (partCode 13 0) (partCode 7 0) (setSvc 12 false s.block)
  let b2 := (List.range 4).foldl (fun b i => closeSession i b) b1
  have hl : engineDown .n0 s.block = setHold (loseSource 0 b2) := by simp [engineDown, Engine.ctorIdx, hin, ha, loseNetwork, b1, b2]
  have h1 : s.block.touches b1 [.sys] := by simp [b1]
  have h2 : b1.touches b2 [.ix, .owner, .latch, .sec, .loop, .cnv] :=
    (touches_foldl (fun o b i => touches_closeSession (by decide) (by decide) (by decide) (by decide) (by decide) (by decide) o b i) _ _ _).mpr (touches_refl _ _)
  have h3 : b2.touches (engineDown .n0 s.block) [.loop, .cnv, .net] := by simp [hl]
  have hs1 : b1.settled = s.block.settled := settled_of_touches h1 (by simp [b1]) (by decide)
  have hsys : (engineDown .n0 s.block).sys = b1.sys := (h3 .sys (by decide) (by decide) : _ = b2.sys).trans (h2 .sys (by decide) (by decide))
  have hix : (irqWatch s.block (engineDown .n0 s.block)).ix = b2.ix := (irqWatch_ix ..).trans (h3 .ix (by decide) (by decide))
  have hsess (j : Nat) : b1.session j = s.block.session j := by
    have hx : b1.ix = s.block.ix := h1 .ix (by decide) (by decide)
    rw [Block.session, Block.session, hx]
  refine happens_fault (f := engineDown .n0) hon (fun b hb => if_neg hb) ?_ (fun h => ?_) ⟨?_, ?_, fun i hi => ?_⟩
  · exact ((h1.mono (by decide)).trans (h2.mono (by decide))).trans (h3.mono (by decide))
  · rw [hl]
    have hset2 : b2.settled = true := foldl_closeSession_settled (List.range 4) (hs1.trans h)
    exact (settled_of_touches (o := loseSource 0 b2) (l := [.net]) (by simp) (by simp) (by decide)).trans (loseSource_settled 0 hset2)
  · rw [engIn_of_engSvc (b := setSvc 12 false s.block) (by rw [irqWatch_sys, hsys]; simp [b1])]
    exact engIn_setSvc_self ..
  · rw [hix]
    by_contra hne
    obtain ⟨k, hk⟩ := Option.ne_none_iff_exists'.mp hne
    obtain ⟨hk1, hclosed⟩ := foldl_closeSession_owner (List.range 4) b1 hk
    have hk1 : s.block.ix.owner = some k := (congrArg IxPart.owner (h1 .ix (by decide) (by decide) : b1.ix = s.block.ix)).symm.trans hk1
    rw [hk1] at hown
    simp only [Option.all_some, Bool.and_eq_true, decide_eq_true_eq] at hown
    have := hclosed (List.mem_range.mpr hown.1)
    rw [hsess, hown.2] at this
    cases this
  · rw [Block.session, hix]
    exact foldl_closeSession_isOpen (List.range 4) b1 (.inl (List.mem_range.mpr hi))

end
end Sys2Proof.Machine

namespace Sys2Proof.Machine

/-! ### SA and SB out of lockstep (R303, R478) -/

/-- An event after which an open debug state may end by itself: the Latch is safe, and what is claimed does not read the debug port. -/
theorem happens_debugWatched {i : Instr} {s : State} {f : Block → Block} {l : List PartName} {P : Block → Prop} (hi : exec i s = effect f s) (hsec : .sec ∈ l)
    (ht : s.block.touches (f s.block) l) (hd : (f s.block).sec = s.block.sec) (hsafe : (f s.block).safePath = true)
    (hP : ∀ c : Block, (f s.block).touches c [.sec] → P (irqWatch s.block c)) : Happens i s l P := by
  intro hs
  obtain ⟨-, hdue, -⟩ := settled_iff.mp hs
  have hres : resolveFullOpen (f s.block) = f s.block := by simp [resolveFullOpen, hd, hdue]
  have hw : (f s.block).touches (debugWatch (f s.block)) [.sec] ∧ (debugWatch (f s.block)).safePath = true := by
    unfold debugWatch
    simp only [hres]
    split
    · refine ⟨by simp [closeDebug], (safePath_of_same ?_ ?_ ?_ ?_).trans hsafe⟩
      · simp [closeDebug]
      · simp [closeDebug]
      · simp [closeDebug]
      · simp [closeDebug]
    · exact ⟨touches_refl _ _, hsafe⟩
  have he : exec i s = .next { s with block := irqWatch s.block (debugWatch (f s.block)) } := by rw [hi, effect, interlock_eq hw.2]
  refine ⟨_, he, rfl, hP _ hw.1, changesOnly_of_touches ?_⟩
  rw [touches_irqWatch]
  exact ht.trans (hw.1.mono (by simpa using hsec))

section
variable {s : State}

/-- The block that SA and SB leave to the demand when they part. -/
def Block.parted (b : Block) : Block :=
  note .lockstepLost noArg [] ((lowSidesOff b).onLatch fun l => { l with lockstep := false, restartAt := some (b.sys.now + 200 * msT) })

theorem execFn_lockstep (ssi : Bool) (cause ix : Nat) (next : LState) (b : Block) : (execFn ssi cause ix next b).latch.lockstep = b.latch.lockstep := by
  have k := execFn_key ssi cause ix next b
  simp only [LatchPart.core, Prod.mk.injEq] at k
  obtain ⟨-, -, -, -, -, -, h, -⟩ := k
  exact h

theorem partFault_safety {e : Engine} (hon : s.block.sys.mstate ≠ .off) (he : e ∈ [Engine.sa, .sb]) (hin : s.block.engIn e.ctorIdx = true)
    (hp : s.block.latch.powered = true) (ha : s.block.latch.state = .armed) : Happens (.partFault (.engine e)) s ([.sec] ++ actedOn) fun b =>
      b.latch.lockstep = false ∧ s.block.hasActed b true 8 0 := by
  let x := s.block.parted
  have hl : doPartFault (.engine e) s.block = (demandSSI 8 0 x).touch checkTiles := by
    simp only [List.mem_cons, List.not_mem_nil, or_false] at he
    rcases he with rfl | rfl
    · have h2 : s.block.engIn 2 = true := hin
      simp [doPartFault, hon, engineDown, Engine.ctorIdx, h2, doLockstepMismatch, hp, x, Block.parted]
    · have h3 : s.block.engIn 3 = true := hin
      simp [doPartFault, hon, engineDown, Engine.ctorIdx, h3, doLockstepMismatch, hp, x, Block.parted]
  have hx : s.block.touches x [.latch] := by simp [x, Block.parted, lowSidesOff]
  have hlatch : x.latch = { s.block.latch with outs := (s.block.latch.outs.map fun o => { o with ls := false }), lockstep := false, restartAt := some (s.block.sys.now + 200 * msT) } :=
    note_latch ..
  have hpwr : x.pwr = s.block.pwr := hx .pwr (by decide) (by decide)
  have hax : x.latch.state = .armed := by rw [hlatch, ← ha]
  obtain ⟨hhold, hsec, -⟩ := demandSSI_rest (cause := 8) (ix := 0) (by decide) hax
  have hacted : s.block.hasActed (doPartFault (.engine e) s.block) true 8 0 := by
    rw [hl]
    exact ((demandSSI_hasActed (by decide) hax).of_before (by rw [hlatch]) (by rw [hlatch]) (by rw [hpwr])).touched _
  have hlock : (doPartFault (.engine e) s.block).latch.lockstep = false := by
    rw [hl, Block.touch_latch, demandSSI_of_armed 8 0 hax, execFn_lockstep]
    exact congrArg LatchPart.lockstep hlatch
  refine happens_debugWatched (f := doPartFault (.engine e)) rfl (by decide) ?_ ?_ ?_ fun c hc => ?_
  · rw [hl, touches_touch, demandSSI, touches_demand (by decide)]
    exact hx.mono (by decide)
  · rw [hl, Block.touch_sec, hsec]
    exact hx .sec (by decide) (by decide)
  · refine safePath_of_hasActed hacted ?_
    rw [hl, Block.touch_pwr, hhold, hpwr]
  · have el : c.latch = _ := hc .latch (by decide) (by decide)
    have eh : c.leash = _ := hc .leash (by decide) (by decide)
    have ek : c.bark = _ := hc .bark (by decide) (by decide)
    have ec : c.cnv = _ := hc .cnv (by decide) (by decide)
    have ey : c.sys = _ := hc .sys (by decide) (by decide)
    refine ⟨by rw [irqWatch_latch, el, hlock], Block.hasActed.watched ?_ _⟩
    simpa only [Block.hasActed, el, eh, ek, ec, ey] using hacted

/-! ### Lead fails (R453, R454) -/

@[simp] theorem touches_startHold {l : List PartName} (hb : .bal ∈ l) (hp : .pwr ∈ l) (hs : .supply ∈ l) (o b : Block) (cause : Nat) : o.touches (startHold cause b) l ↔ o.touches b l := by
  unfold startHold
  split <;> simp [hb, hp, hs]

@[simp] theorem touches_cutSave {l : List PartName} (hx : .ix ∈ l) (hf : .flt ∈ l) (hp : .pwr ∈ l) (hs : .supply ∈ l) (he : .engines ∈ l) (o b : Block) :
    o.touches (cutSave b) l ↔ o.touches b l := by
  unfold cutSave
  split
  · exact (touches_foldl (fun o b src => touches_complete hx hp he o b src _ _) _ o _).trans (by simp [hf, hp, hs])
  · rfl

@[simp] theorem touches_endUpdate {l : List PartName} (hx : .ix ∈ l) (hu : .upd ∈ l) (hp : .pwr ∈ l) (he : .engines ∈ l) (o b : Block) (st : Status) (d : List Byte) :
    o.touches (endUpdate st d b) l ↔ o.touches b l := by
  unfold endUpdate
  split <;> simp [hx, hu, hp, he]

@[simp] theorem touches_cutBlock {l : List PartName} (hx : .ix ∈ l) (hu : .upd ∈ l) (hp : .pwr ∈ l) (he : .engines ∈ l) (o b : Block) :
    o.touches (cutBlock b) l ↔ o.touches b l := by
  unfold cutBlock failBlock
  split <;> simp [hx, hu, hp, he]

@[simp] theorem touches_cutUpdate {l : List PartName} (hx : .ix ∈ l) (hu : .upd ∈ l) (hp : .pwr ∈ l) (he : .engines ∈ l) (o b : Block) :
    o.touches (cutUpdate b) l ↔ o.touches b l := by
  simp [cutUpdate, hx, hu, hp, he]

theorem leadOk_of_supply {a b : Block} (h : a.supplyPart = b.supplyPart) : a.pwr.leadOk = b.pwr.leadOk := by
  have k := congrArg PwrPart.leadOk h
  exact k

theorem complete_leadOk (src : Src) (st : Status) (d : List Byte) (b : Block) : (complete src st d b).pwr.leadOk = b.pwr.leadOk := leadOk_of_supply (complete_supplyPart ..)

/-- Once a hold has begun the interlock reads the muzzle and the gates alone. -/
theorem settled_of_hinge {o b : Block} {l : List PartName} (h : o.settled = true) (ht : o.touches b l) (hh : b.hinge = true) (hl : .latch ∉ l ∧ .cnv ∉ l ∧ .sec ∉ l) :
    b.settled = true := by
  obtain ⟨hlatch, hcnv, hsec⟩ := hl
  have el : b.latch = o.latch := ht .latch hlatch (by decide)
  have ec : b.cnv = o.cnv := ht .cnv hcnv (by decide)
  have es : b.sec = o.sec := ht .sec hsec (by decide)
  obtain ⟨hp, hd, hk⟩ := settled_iff.mp h
  obtain ⟨hz, hg, -⟩ := safePath_iff.mp hp
  exact settled_iff.mpr ⟨safePath_iff.mpr ⟨by rwa [el], by rwa [el, ec], fun _ hn => by simp [hh] at hn⟩, by rwa [es], by rwa [es, el]⟩

theorem failLead_leadOk {b : Block} (cause : Nat) (ha : b.activating = false) : (failLead cause b).pwr.leadOk = false := by
  have hend (st : Status) (d : List Byte) (x : Block) : (endUpdate st d x).pwr.leadOk = x.pwr.leadOk := by
    unfold endUpdate
    split
    · exact complete_leadOk ..
    · rfl
  have hblock (x : Block) : (cutBlock x).pwr.leadOk = x.pwr.leadOk := by
    unfold cutBlock failBlock
    split
    · rw [Block.touch_pwr, complete_leadOk, note_pwr]
      rfl
    · rfl
  have hupd (x : Block) : (cutUpdate x).pwr.leadOk = x.pwr.leadOk := by
    unfold cutUpdate
    dsimp only
    rw [hblock]
    split
    · rw [Block.touch_pwr, hend]
      rfl
    · rfl
  have hsave (x : Block) : (cutSave x).pwr.leadOk = x.pwr.leadOk := by
    unfold cutSave
    split
    · exact (foldl_keeps (fun b : Block => b.pwr.leadOk) _ (fun b src => complete_leadOk ..) _ _).trans rfl
    · rfl
  have hhold (x : Block) : (startHold 1 x).pwr.leadOk = x.pwr.leadOk := by
    unfold startHold
    split <;> rfl
  rw [failLead, ha, hupd, hsave, hhold]
  rfl

theorem partFault_lead (hon : s.block.sys.mstate ≠ .off) (hr : s.block.sec.released = true) (hc : s.block.pwr.resCtl = false) (hin : s.block.engIn 0 = true)
    (ha : s.block.activating = false) : Happens (.partFault (.engine .lead)) s [.sys, .ix, .bal, .flt, .pwr, .supply, .upd, .engines] fun b =>
      b.engIn 0 = false ∧ b.pwr.leadOk = false ∧ b.pwr.hold.isSome = true := by
  have hl : engineDown .lead s.block = failLead 1 s.block := by simp [engineDown, Engine.ctorIdx, hin, ha, leadFailure, hon, hr, hc]
  let b1 := setSvc 0 false (s.block.onPwr fun p => { p with leadOk := false, tcause := 1 })
  have hf : failLead 1 s.block = cutUpdate (cutSave (startHold 1 b1)) := by simp [failLead, ha, b1]
  have ht : s.block.touches (failLead 1 s.block) [.sys, .ix, .bal, .flt, .pwr, .supply, .upd, .engines] := by simp [hf, b1]
  have hh : (failLead 1 s.block).hinge = true := by rw [hf, Block.hinge, cutUpdate_hold, ← Block.hinge, cutSave_hinge, startHold_hinge]
  have hrest : b1.touches (failLead 1 s.block) [.ix, .bal, .flt, .pwr, .supply, .upd, .engines] := by simp [hf]
  have hsys : (failLead 1 s.block).sys = b1.sys := hrest .sys (by decide) (by decide)
  refine happens_fault (f := engineDown .lead) hon (fun b hb => if_neg hb) (by rwa [hl]) (fun h => ?_) ⟨?_, ?_, ?_⟩
  · rw [hl]
    exact settled_of_hinge h ht hh (by decide)
  · rw [hl, engIn_of_engSvc (b := b1) (by rw [irqWatch_sys, hsys])]
    exact engIn_setSvc_self ..
  · rw [hl, irqWatch_pwr]
    exact failLead_leadOk 1 ha
  · rw [hl, irqWatch_pwr]
    exact hh

end
end Sys2Proof.Machine

namespace Sys2Proof.Machine

/-! ### The record of a fault outlives the sampling of the interrupt sources (R433, R435, R517, R519) -/

/-- A Fast log that is not full takes a record at its end. -/
theorem putFast_fast {r : FastRec} {g : LogPart} (h : g.fast.length < 65536) : (putFast r g).fast = g.fast ++ [r] := by
  unfold putFast
  dsimp only
  rw [if_pos (show g.fast.length < fastSlots from h)]

theorem putKeep_fast (r : KeepRec) (g : LogPart) : (putKeep r g).fast = g.fast := by
  unfold putKeep
  dsimp only
  split
  · rfl
  · split <;> rfl

theorem putRecord_fast {sev : Severity} {keep saf : Bool} {code src arg0 : Nat} {data : List Nat} {b : Block} (h : b.log.fast.length < 65536) :
    ∃ r : FastRec, (putRecord sev keep saf code src arg0 data b).log.fast = b.log.fast ++ [r] ∧ r.code = code ∧ r.arg0 = arg0 := by
  refine ⟨{ seq := b.log.fHead, optime := b.optime, code := code, sev := sev, kept := keep, safOvf := saf, src := src, arg0 := arg0, data := data.take 3 }, ?_, rfl, rfl⟩
  unfold putRecord
  dsimp only
  rw [Block.onLog_log]
  split
  · rw [putKeep_fast]
    exact putFast_fast h
  · exact putFast_fast h

/-- An event below the Safety severity writes one Fast record. -/
theorem note_fast {e : Event} {a : Nat} {d : List Nat} {b : Block} (hs : e.severity ≠ .safety) (h : b.log.fast.length < 65536) :
    ∃ r : FastRec, (note e a d b).log.fast = b.log.fast ++ [r] ∧ r.code = e.code ∧ r.arg0 = a := by
  unfold note recordEvent
  split
  · exact putRecord_fast h
  · next hsev => exact absurd hsev hs
  · exact putRecord_fast h

/-- At most `k` Fast records have joined, and none has left. -/
def Block.appends (a b : Block) (k : Nat) : Prop := ∃ l, b.log.fast = a.log.fast ++ l ∧ l.length ≤ k

theorem Block.appends.trans {a b c : Block} {j k : Nat} (h : a.appends b j) (h' : b.appends c k) : a.appends c (j + k) := by
  obtain ⟨l, hl, hj⟩ := h
  obtain ⟨m, hm, hk⟩ := h'
  exact ⟨l ++ m, by rw [hm, hl, List.append_assoc], by rw [List.length_append]; omega⟩

theorem Block.appends.length {a b : Block} {k : Nat} (h : a.appends b k) : b.log.fast.length ≤ a.log.fast.length + k := by
  obtain ⟨l, hl, hk⟩ := h
  rw [hl, List.length_append]
  omega

theorem redirectOne_appends {b : Block} (n : Nat) (h : b.log.fast.length < 65536) : b.appends (redirectOne n b) 1 := by
  unfold redirectOne
  split
  · split
    · exact ⟨[], by simp, by simp⟩
    · obtain ⟨r, hr, -, -⟩ := note_fast (e := .polIrqRedirect) (a := noArg) (d := [n, b.routeOf n])
        (b := b.onPol fun x => { x with rdir := setBit x.rdir n, redirected := setBit x.redirected n }) (by decide) h
      exact ⟨[r], hr, by simp⟩
  · exact ⟨[], by simp, by simp⟩

theorem raiseIrq_appends {b : Block} (n : Nat) (h : b.log.fast.length < 65536) : b.appends (raiseIrq n b) 1 :=
  redirectOne_appends (b := b.onPol fun x => { x with pend := setBit x.pend n }) n h

theorem foldl_appends {f : Block → Nat → Block} (hf : ∀ (b : Block) (n : Nat), b.log.fast.length < 65536 → b.appends (f b n) 1) (l : List Nat) (b : Block)
    (h : b.log.fast.length + l.length ≤ 65536) : b.appends (l.foldl f b) l.length := by
  induction l generalizing b with
  | nil => exact ⟨[], by simp, by simp⟩
  | cons n l ih =>
    rw [List.length_cons] at h
    have h1 := hf b n (by omega)
    have h2 := ih (f b n) (by have := h1.length; omega)
    rw [List.foldl_cons, List.length_cons, Nat.add_comm]
    exact h1.trans h2

theorem length_ite_le {p : Prop} [Decidable p] (n : Nat) : (if p then [n] else []).length ≤ 1 := by split <;> simp

/-- At most twelve sources rise at one step. -/
theorem irqEdges_length (o n : Block) : (irqEdges o n).length ≤ 12 := by
  have hbus (k : Nat) : ((if n.rqLevel k && !o.rqLevel k then [36 + 3 * k] else []) ++ (if tbEdge o n k then [37 + 3 * k] else [])
      ++ (if estEdge o n k then [38 + 3 * k] else [])).length ≤ 3 := by
    have h1 := length_ite_le (p := (n.rqLevel k && !o.rqLevel k) = true) (36 + 3 * k)
    have h2 := length_ite_le (p := tbEdge o n k = true) (37 + 3 * k)
    have h3 := length_ite_le (p := estEdge o n k = true) (38 + 3 * k)
    rw [List.length_append, List.length_append]
    omega
  have h0 := hbus 0
  have h1 := hbus 1
  have h2 := length_ite_le (p := o.img.swaps ≠ n.img.swaps) 42
  have h3 := List.length_filter_le (fun p => decide ((n.pe p).bstat = 2 ∧ (o.pe p).bstat ≠ 2)) (List.range 2)
  have h4 := length_ite_le (p := o.flt.steps ≠ n.flt.steps) 45
  have h5 := length_ite_le (p := o.bal.decisions ≠ n.bal.decisions) 46
  have h6 := length_ite_le (p := o.sys.mstate ≠ n.sys.mstate ∨ o.latch.state ≠ n.latch.state) 47
  rw [List.length_range] at h3
  unfold irqEdges
  simp only [List.length_append, List.length_map, show List.range 2 = [0, 1] from rfl, List.flatMap_cons, List.flatMap_nil, List.length_nil] at *
  omega

/-- A record in a Fast log that is almost empty stays there. -/
theorem mem_irqWatch_fast {o b : Block} {r : FastRec} (h : b.log.fast.length ≤ 1) (hr : r ∈ b.log.fast) : r ∈ (irqWatch o b).log.fast := by
  let c := (irqEdges o b).foldl (fun b s => raiseIrq s b) b
  have he := irqEdges_length o b
  have h1 : b.appends c _ := foldl_appends (fun b n => raiseIrq_appends n) (irqEdges o b) b (by omega)
  have h2 : c.appends (redirectAll c) 64 := foldl_appends (fun b n => redirectOne_appends n) (List.range 64) c (by have := h1.length; rw [List.length_range]; omega)
  have hc : r ∈ c.log.fast := by
    obtain ⟨l, hl, -⟩ := h1
    exact hl ▸ List.mem_append_left l hr
  unfold irqWatch
  dsimp only
  split
  · exact hc
  · obtain ⟨l, hl, -⟩ := h2
    exact hl ▸ List.mem_append_left l hc

section
variable {s : State}

/-- A fault that is recorded and nothing else. -/
theorem happens_noted {p : Part} {e : Event} {n : Nat} (hon : s.block.sys.mstate ≠ .off) (hf : ∀ b : Block, b.sys.mstate ≠ .off → doPartFault p b = note e n [] b)
    (hs : e.severity ≠ .safety) (hl : s.block.log.fast = []) : Happens (.partFault p) s [] fun b => ∃ r ∈ b.log.fast, r.code = e.code ∧ r.arg0 = n := by
  obtain ⟨r, hr, hcode, harg⟩ := note_fast (a := n) (d := []) (b := s.block) hs (by simp [hl])
  rw [hl, List.nil_append] at hr
  exact happens_fault (f := note e n []) hon hf (by simp) (fun h => (note_settled ..).trans h) ⟨r, mem_irqWatch_fast (by simp [hr]) (by simp [hr]), hcode, harg⟩

theorem partFault_hingeRegister {k : Nat} (hon : s.block.sys.mstate ≠ .off) (hl : s.block.log.fast = []) : Happens (.partFault (.hingeRegister k)) s [] fun b =>
    ∃ r ∈ b.log.fast, r.code = Event.hingeFault.code ∧ r.arg0 = k :=
  happens_noted (e := .hingeFault) hon (fun b hb => if_neg hb) (by decide) hl

theorem partFault_recorded {p : Part × Nat} (hon : s.block.sys.mstate ≠ .off) (hl : s.block.log.fast = [])
    (hp : p ∈ [(Part.feedDiode 0, Event.feedLost.code), (.feedDiode 1, Event.feedLost.code), (.holdupStore, Event.holdupLow.code),
        (.coreRegulator 0, Event.regFault.code), (.coreRegulator 1, Event.regFault.code), (.latRegulator 0, Event.regFault.code), (.latRegulator 1, Event.regFault.code)]) :
    Happens (.partFault p.1) s [] fun b => ∃ r ∈ b.log.fast, r.code = p.2 := by
  have hn (q : Part) (e : Event) (n : Nat) (hf : ∀ b : Block, b.sys.mstate ≠ .off → doPartFault q b = note e n [] b) (hs : e.severity ≠ .safety) :
      Happens (.partFault q) s [] fun b => ∃ r ∈ b.log.fast, r.code = e.code :=
    (happens_noted hon hf hs hl).mono fun _ hb => by
      obtain ⟨r, hr, hcode, -⟩ := hb
      exact ⟨r, hr, hcode⟩
  simp only [List.mem_cons, List.not_mem_nil, or_false] at hp
  rcases hp with rfl | rfl | rfl | rfl | rfl | rfl | rfl
  · exact hn (.feedDiode 0) .feedLost 0 (fun b hb => if_neg hb) (by decide)
  · exact hn (.feedDiode 1) .feedLost 1 (fun b hb => if_neg hb) (by decide)
  · exact hn .holdupStore .holdupLow noArg (fun b hb => if_neg hb) (by decide)
  · exact hn (.coreRegulator 0) .regFault 0 (fun b hb => if_neg hb) (by decide)
  · exact hn (.coreRegulator 1) .regFault 1 (fun b hb => if_neg hb) (by decide)
  · exact hn (.latRegulator 0) .regFault 2 (fun b hb => if_neg hb) (by decide)
  · exact hn (.latRegulator 1) .regFault 3 (fun b hb => if_neg hb) (by decide)

/-! ### Engines that have restarted (R60, R303, R457) -/

/-- The return of an engine to a module that is powered and whose Lead is released. -/
theorem happens_restart {e : Engine} {l : List PartName} {P : Block → Prop} (hon : s.block.sys.mstate ≠ .off) (hr : s.block.sec.released = true)
    (ht : s.block.touches (engineUp e s.block) l) (hset : s.block.settled = true → (engineUp e s.block).settled = true) (hP : P (irqWatch s.block (engineUp e s.block))) :
    Happens (.engineRestartDone e) s l P := by
  have he : doEngineRestartDone e s.block = engineUp e s.block := if_neg (by simp [hon, hr])
  exact happens_touching (f := doEngineRestartDone e) rfl (by rwa [he]) (by rwa [he]) (by rwa [he])

theorem engineUp_plain {e : Engine} (he : e ∈ [Engine.f0, .f1, .f2, .f3, .c0, .c1, .s0, .s1]) (b : Block) :
    engineUp e b = if b.engIn e.ctorIdx then b else (setSvc e.ctorIdx true b).touch [0x40, 0x45] := by
  simp only [List.mem_cons, List.not_mem_nil, or_false] at he
  rcases he with rfl | rfl | rfl | rfl | rfl | rfl | rfl | rfl <;> rfl

theorem engineRestartDone_plain {e : Engine} (hon : s.block.sys.mstate ≠ .off) (hr : s.block.sec.released = true)
    (he : e ∈ [Engine.f0, .f1, .f2, .f3, .c0, .c1, .s0, .s1]) (hin : s.block.engIn e.ctorIdx = false) : Happens (.engineRestartDone e) s [.sys] fun b =>
      b.sys = { s.block.sys with engSvc := (s.block.sys.engSvc.set e.ctorIdx true) } := by
  have hl : engineUp e s.block = (setSvc e.ctorIdx true s.block).touch [0x40, 0x45] := by rw [engineUp_plain he, if_neg (by simp [hin])]
  have ht : s.block.touches (engineUp e s.block) [.sys] := by simp [hl]
  exact happens_restart hon hr ht (fun h => (settled_of_touches ht (by simp [hl]) (by decide)).trans h) (by simp [hl])

theorem engineRestartDone_safety {e : Engine} (hon : s.block.sys.mstate ≠ .off) (hr : s.block.sec.released = true) (he : e ∈ [Engine.sa, .sb])
    (hlock : s.block.latch.lockstep = false) : Happens (.engineRestartDone e) s [.latch] fun b => b.latch = { s.block.latch with restartAt := some s.block.sys.now } := by
  have hl : engineUp e s.block = s.block.onLatch fun l => { l with restartAt := some s.block.sys.now } := by
    simp only [List.mem_cons, List.not_mem_nil, or_false] at he
    rcases he with rfl | rfl
    · simp [engineUp, hlock]
    · simp [engineUp, hlock]
  have hset : (engineUp e s.block).settled = s.block.settled := by
    rw [hl]
    exact settled_of_keys rfl rfl rfl rfl rfl rfl rfl rfl
  exact happens_restart hon hr (by simp [hl]) (fun h => hset.trans h) (by simp [hl])

theorem engineRestartDone_lead (hon : s.block.sys.mstate ≠ .off) (hr : s.block.sec.released = true) (hc : s.block.pwr.resCtl = true) (hh : s.block.pwr.leadHeld = false)
    (ha : s.block.pwr.cleanAt = none) : Happens (.engineRestartDone .lead) s [.pwr, .supply] fun b =>
      b.pwr = { s.block.pwr with cleanAt := some s.block.sys.now, leadOk := true } := by
  have hl : engineUp .lead s.block = (s.block.onPwr fun p => { p with cleanAt := some s.block.sys.now, leadOk := true }).touch supplyTiles := by
    simp [engineUp, hc, hh, ha]
  have ht : s.block.touches (engineUp .lead s.block) [.pwr, .supply] := by simp [hl]
  exact happens_restart hon hr ht (fun h => (settled_of_hold ht (by simp [hl]) (by simp [hl]) (by decide)).trans h) (by simp [hl])

end

/-- Settles O53: each part's clause by its own lemma above. -/
theorem failedPartsHandOverToTheirBackups : Obligations.FailedPartsHandOverToTheirBackups := by
  unfold Obligations.FailedPartsHandOverToTheirBackups
  exact ⟨fun _ _ => partFault_leashLane, fun _ _ => partFault_rung, fun _ _ => partFault_segmentDie, fun _ => partFault_primaryCurrent, fun _ => partFault_secondaryCurrent,
    fun _ => partFault_divider, fun _ _ => partFault_sequencer, fun _ _ => partFault_lastSequencer, fun _ _ => partFault_converter, fun _ _ => partFault_spectralOrPolicy,
    fun _ => partFault_network, fun _ _ => partFault_safety, fun _ => partFault_lead, fun _ => partFault_reserve, fun _ _ => partFault_feed, fun _ _ => partFault_flashSlot,
    fun _ _ => partFault_can, fun _ _ hon _ => partFault_sfp hon, fun _ => partFault_sds, fun _ => partFault_kennel, fun _ => partFault_takeoverMonitor,
    fun _ _ hon hl hp => partFault_recorded hon hl hp, fun _ _ => partFault_hingeRegister, fun _ _ => engineRestartDone_plain,
    fun _ _ => engineRestartDone_safety, fun _ => engineRestartDone_lead⟩

end Sys2Proof.Machine

namespace Sys2Proof.Machine

/-! ### Host commands that complete at once, and those that begin (R329, R335, R438) -/

/-- The block as the act of an admitted request finds it: the request accepted and journalled. -/
def Block.taken (b : Block) (src : Src) (op : Nat) : Block := journalStart src op (acceptRequest src op [] true b)

section
variable {src : Src} {op : Nat} {b : Block}

@[simp] theorem taken_sys (b : Block) (src : Src) (op : Nat) : (b.taken src op).sys = b.sys := by simp [Block.taken]
@[simp] theorem taken_sense (b : Block) (src : Src) (op : Nat) : (b.taken src op).sense = b.sense := by simp [Block.taken]
@[simp] theorem taken_cnv (b : Block) (src : Src) (op : Nat) : (b.taken src op).cnv = b.cnv := by simp [Block.taken]
@[simp] theorem taken_upd (b : Block) (src : Src) (op : Nat) : (b.taken src op).upd = b.upd := by simp [Block.taken]
@[simp] theorem taken_frontTile (b : Block) (src : Src) (op t : Nat) : (b.taken src op).frontTile t = b.frontTile t := by simp [Block.taken]
@[simp] theorem taken_tilesStatus (b : Block) (src : Src) (op : Nat) (ts : List Nat) : (b.taken src op).tilesStatus ts = b.tilesStatus ts := by simp [Block.taken]

theorem taken_settled : (b.taken src op).settled = b.settled :=
  settled_of_same (by simp [Block.taken]) (by simp) (by simp) (by simp [Block.taken]) (by simp [Block.taken]) (by simp [Block.taken])

/-- Acceptance and journal touch what the service of the requester may touch. -/
theorem touches_taken (b : Block) (src : Src) (op : Nat) : b.touches (b.taken src op) (servedBy src) := fun q hq hn => by
  cases src <;> cases q <;> simp_all [Block.same, Block.taken, noticed, served, servedBy]

theorem touches_complete_servedBy {l : List PartName} (hl : servedBy src ⊆ l) (o : Block) (st : Status) (d : List Byte) :
    o.touches (complete src st d b) l ↔ o.touches b l := by
  cases src with
  | session i seq => exact touches_complete_session (hl (by simp [servedBy, served])) (hl (by simp [servedBy, served])) ..
  | engine p k => exact touches_complete (hl (by simp [servedBy, served])) (hl (by simp [servedBy, served])) (hl (by simp [servedBy])) ..

@[simp] theorem touches_settingChanged {l : List PartName} (hl : .upd ∈ l) (o b : Block) : o.touches (settingChanged b) l ↔ o.touches b l := by
  simp [settingChanged, settingsDue, hl]

@[simp] theorem touches_noteLock (o b : Block) (l : List PartName) (k : Nat) (w : Window) : o.touches (noteLock k w b) l ↔ o.touches b l := by simp [noteLock]

theorem noticed_subset_servedBy (src : Src) : noticed ⊆ servedBy src := by cases src <;> simp [noticed, servedBy, served]

/-- The frame of a host command: what its own effect touches, and the service. -/
theorem changesOnly_of_touches_served {o : Block} {l : List PartName} (h : o.touches b (l ++ servedBy src)) : o.changesOnly b (l ++ servedBy src) := fun q hq =>
  h q hq fun hn => hq (List.mem_append_right _ (noticed_subset_servedBy src hn))

/-! #### The request that is held while its command runs -/

theorem entry_of_acceptRequest {i seq : Nat} {ps : List Byte} {st : Bool} (h : i < b.ix.sessions.length) :
    ∃ e, (acceptRequest (.session i seq) op ps st b).entry? i seq = some e ∧ e.running = true ∧ e.opcode = op := by
  refine ⟨{ seq := seq, opcode := op, params := ps, accepted := b.sys.now, mtu := (b.session i).mtu, running := true, started := st, status := 0, data := [] }, ?_, rfl, rfl⟩
  simp [acceptRequest, Block.entry?, Block.session, modAt, List.getD_eq_getElem?_getD, List.getElem?_eq_getElem h]

theorem passRing_running (p k : Nat) (b : Block) : ((passRing p k b).pe p).ring.running = (b.pe p).ring.running := by
  refine running_of_runs (runs_onPe _ _ (fun e => ?_) _) p
  dsimp only
  split <;> rfl

theorem ringCmd_of_acceptRequest {p k : Nat} {ps : List Byte} {st : Bool} (h : p < b.pol.engines.length) :
    ∃ c ∈ ((acceptRequest (.engine p k) op ps st b).pe p).ring.running, c.index = k ∧ c.opcode = op := by
  rw [acceptRequest, passRing_running, pe_onPe, if_pos h]
  exact ⟨_, List.mem_append_right _ (List.mem_singleton.mpr rfl), rfl, rfl⟩

theorem session_lt_of_isOpen {i : Nat} (h : (b.session i).isOpen = true) : i < b.ix.sessions.length :=
  lt_length_of_getD (d := Session.closed) fun hd => by rw [Block.session, hd] at h; cases h

theorem engine_lt_of_ringOn {p : Nat} (h : (b.pe p).ring.en = true) : p < b.pol.engines.length :=
  lt_length_of_getD (d := PolEngine.reset) fun hd => by rw [Block.pe, hd] at h; cases h

theorem awaits_of_same {a : Block} (hx : a.ix = b.ix) (hr : a.runs = b.runs) (h : b.awaits src op) : a.awaits src op := by
  cases src with
  | session i seq =>
    obtain ⟨e, he, hrest⟩ := h
    exact ⟨e, by simpa [Block.entry?, Block.session, hx] using he, hrest⟩
  | engine p k =>
    obtain ⟨c, hc, hrest⟩ := h
    exact ⟨c, by rwa [running_of_runs hr], hrest⟩

/-- An admitted request is held, and runs, once it is accepted. -/
theorem taken_awaits {owner : Bool} (ha : b.admits src op owner = true) : (b.taken src op).awaits src op := by
  refine awaits_of_same (journalStart_ix ..) (runs_of_engines (congrArg PolPart.engines (journalStart_pol ..))) ?_
  simp only [Block.admits, Bool.and_eq_true] at ha
  obtain ⟨⟨⟨⟨⟨⟨hopen, -⟩, -⟩, -⟩, -⟩, -⟩, -⟩ := ha
  cases src with
  | session i seq => exact entry_of_acceptRequest (session_lt_of_isOpen hopen)
  | engine p k =>
    simp only [Block.srcOpen, Bool.and_eq_true] at hopen
    exact ringCmd_of_acceptRequest (engine_lt_of_ringOn hopen.2)

end

/-! #### How the end of a host command is shown -/

section
variable {i : Instr} {s : State} {src : Src} {rule : Block → HostRule} {op : Nat} {owner : Bool} {l : List PartName} {st : Status} {data : List Byte} {ts : List Nat}
  {x : Block} {P : Block → Prop}

/-- An admitted request whose act ends in `y`, which is settled. -/
theorem ends_taken {y : Block} (hi : exec i s = effect (host src rule) s) (ha : s.block.admits src op owner = true) (ho : (rule s.block).opcode = op)
    (hw : (rule s.block).owner = owner) (hs : (rule s.block).stateOk = true) (hp : (rule s.block).param = none)
    (hact : (rule s.block).act (s.block.taken src op) = y) (hb : y.settled = true) (hP : P (irqWatch s.block y)) : Ends i s P := by
  subst hact
  exact ends_host hi ha ho hw hs hp hb hP

/-- What a host command's own effect touches, and before it the acceptance. -/
theorem touches_of_taken {y : Block} (ht : (s.block.taken src op).touches y l) : s.block.touches y (l ++ servedBy src) :=
  ((touches_taken s.block src op).mono (List.subset_append_right _ _)).trans (ht.mono (List.subset_append_left _ _))

theorem settled_of_taken {y : Block} (hset : s.block.settled = true) (ht : (s.block.taken src op).touches y l) (hm : y.sys.mstate = s.block.sys.mstate)
    (hl : .latch ∉ l ∧ .cnv ∉ l ∧ .pwr ∉ l ∧ .sec ∉ l) : y.settled = true :=
  (settled_of_touches ht (by rw [hm, taken_sys]) hl).trans (taken_settled.trans hset)

theorem need_eq_none {ok : Bool} : need ok = none ↔ ok = true := by simp [need]

/-- A host command that has the effect `x`, which leaves the interlock and the request, and then completes. -/
theorem serves_completing (hi : exec i s = effect (host src rule) s) (ho : (rule s.block).opcode = op) (hw : (rule s.block).owner = owner)
    (hs : (rule s.block).stateOk = true) (hp : (rule s.block).param = none)
    (hact : (rule s.block).act (s.block.taken src op) = (complete src st data x).touch ts) (ht : (s.block.taken src op).touches x l)
    (hm : x.sys.mstate = s.block.sys.mstate) (hP : ∀ b : Block, b.unserved = x.unserved → P b)
    (hl : (.latch ∉ l ∧ .cnv ∉ l ∧ .pwr ∉ l ∧ .sec ∉ l) ∧ .ix ∉ l := by decide) : Serves i s src op owner l st data P := fun hset ha => by
  obtain ⟨hl, hix⟩ := hl
  have hx : x.ix = (acceptRequest src op [] true s.block).ix := ht .ix hix (by decide)
  refine ends_taken hi ha ho hw hs hp hact ?_ ⟨hP _ ?_, answered_irqWatch (answered_touch (answered_complete ha rfl rfl hx)), changesOnly_of_touches_served ?_⟩
  · rw [touch_settled, complete_settled]
    exact settled_of_taken hset ht hm hl
  · rw [irqWatch_unserved, Block.touch_unserved, complete_unserved]
  · rw [touches_irqWatch, touches_touch, touches_complete_servedBy (List.subset_append_right _ _)]
    exact touches_of_taken ht

/-- A host command that changes a stored setting, by the effect `x`, and then completes. -/
theorem serves_setting (hi : exec i s = effect (host src rule) s) (ho : (rule s.block).opcode = op) (hw : (rule s.block).owner = owner)
    (hs : (rule s.block).stateOk = true) (hp : (rule s.block).param = none)
    (hact : (rule s.block).act (s.block.taken src op) = (complete src st data (settingChanged x)).touch ts) (ht : (s.block.taken src op).touches x l)
    (hP : ∀ b : Block, b.unserved = (settingChanged x).unserved → s.block.storesSettings b → P b)
    (hl : (.latch ∉ l ∧ .cnv ∉ l ∧ .pwr ∉ l ∧ .sec ∉ l) ∧ .ix ∉ l ∧ .sys ∉ l ∧ .upd ∉ l := by decide) : Serves i s src op owner (l ++ [.upd]) st data P := by
  obtain ⟨hlock, hix, hsys, hupd⟩ := hl
  have hxs : x.sys = s.block.sys := (ht .sys hsys (by decide)).trans (taken_sys ..)
  have hxu : x.upd = s.block.upd := (ht .upd hupd (by decide)).trans (taken_upd ..)
  refine serves_completing hi ho hw hs hp hact ?_ (by rw [settingChanged_sys, hxs]) (fun b hb => hP b hb ?_) (by simpa using ⟨hlock, hix⟩)
  · rw [touches_settingChanged (by simp)]
    exact ht.mono (by simp)
  · rw [Block.storesSettings, upd_of_unserved hb, settingChanged_upd, hxs, hxu]

/-- A host command that is accepted, has the effect `x`, and completes later. -/
theorem begins_of_taken (hi : exec i s = effect (host src rule) s) (ho : (rule s.block).opcode = op) (hw : (rule s.block).owner = owner)
    (hs : (rule s.block).stateOk = true) (hp : (rule s.block).param = none) (hact : (rule s.block).act (s.block.taken src op) = x)
    (ht : (s.block.taken src op).touches x l) (hm : x.sys.mstate = s.block.sys.mstate) (hP : ∀ b : Block, b.unserved = x.unserved → P b)
    (hl : (.latch ∉ l ∧ .cnv ∉ l ∧ .pwr ∉ l ∧ .sec ∉ l) ∧ .ix ∉ l ∧ .engines ∉ l := by decide) : Begins i s src op owner l P := fun hset ha => by
  obtain ⟨hlock, hix, heng⟩ := hl
  have hx : x.awaits src op := awaits_of_same (ht .ix hix (by decide)) (runs_of_engines (ht .engines heng (by decide))) (taken_awaits ha)
  refine ends_taken hi ha ho hw hs hp hact (settled_of_taken hset ht hm hlock)
    ⟨hP _ (irqWatch_unserved ..), awaits_of_same (irqWatch_ix ..) (irqWatch_runs ..) hx, changesOnly_of_touches_served ?_⟩
  rw [touches_irqWatch]
  exact touches_of_taken ht

end
end Sys2Proof.Machine

namespace Sys2Proof.Machine

/-! ### The sensing commands (R64, R74, R85, R86, R87) -/

section
variable {s : State} {src : Src}

theorem seg_of_sense {a b : Block} (h : a.sense = b.sense) (n : Nat) : a.seg n = b.seg n := by rw [Block.seg, Block.seg, h]
theorem cell_of_sense {a b : Block} (h : a.sense = b.sense) (c : Nat) : a.cell c = b.cell c := by rw [Block.cell, Block.cell, h]
theorem wire_of_sense {a b : Block} (h : a.sense = b.sense) (j : Nat) : a.wire j = b.wire j := by rw [Block.wire, Block.wire, h]

theorem sense_of_setting {a b : Block} (h : a.unserved = (settingChanged b).unserved) : a.sense = b.sense := (sense_of_unserved h).trans (settingChanged_sense b)

/-- A change of the segments that a mask names. -/
def Block.onSegs (mask : Nat) (f : SegSense → SegSense) (b : Block) : Block :=
  b.onSense fun x => { x with segs := x.segs.mapIdx fun n g => if mask.testBit n then f g else g }

/-- What the segments are in a block that has the sensing of such a change. -/
theorem seg_of_onSegs {mask n : Nat} {f : SegSense → SegSense} {a b : Block} (hs : a.sense.segs = (b.onSegs mask f).sense.segs) (h : n < b.sense.segs.length) :
    a.seg n = if mask.testBit n then f (b.seg n) else b.seg n := by
  rw [Block.seg, hs]
  exact getD_mapIdx h

@[simp] theorem touches_onSegs {l : List PartName} (hl : .sense ∈ l) (o b : Block) (mask : Nat) (f : SegSense → SegSense) :
    o.touches (b.onSegs mask f) l ↔ o.touches b l := touches_onSense hl ..

theorem senseSetRate_serves {code : Nat} (hm : s.block.sys.mstate ∈ [MState.park, .run, .fault, .safe]) (hc : code ≤ 3) :
    Serves (.senseSetRate src code) s src 0x0301 true [.sense, .upd] .ok (leBytes 4 (multipleFrom (rateTicks code) (s.block.sys.now + msT))) fun b =>
      b.sense = { s.block.sense with rateCfg := code, pendingRate := some { rate := code, start := multipleFrom (rateTicks code) (s.block.sys.now + msT) } }
      ∧ s.block.storesSettings b := by
  let x := scheduleRate code ((s.block.taken src 0x0301).onSense fun y => { y with rateCfg := code })
  refine serves_setting (l := [.sense]) (rule := ruleSenseSetRate src code) (x := x) (ts := [0x41]) rfl rfl rfl (by simpa [ruleSenseSetRate] using hm)
    (need_eq_none.mpr (by simpa using hc)) (by simp [ruleSenseSetRate, x]) (by simp [x]) fun b hb hset => ⟨?_, hset⟩
  rw [sense_of_setting hb]
  simp [x, scheduleRate]

theorem senseSetShutter_serves {mask mode : Nat} (hm : s.block.sys.mstate ≠ .boot) (hf : s.block.maskFitted mask = true) (hmode : mode ≤ 1) :
    Serves (.senseSetShutter src mask mode) s src 0x0303 true [.sense, .upd] .ok (leBytes 4 (multipleFrom (rateTicks s.block.sense.rate) (s.block.sys.now + 10000))) fun b =>
      (∀ n < s.block.sense.segs.length, b.seg n = (if mask.testBit n then { s.block.seg n with
        pendingMode := some (mode == 1, multipleFrom (rateTicks s.block.sense.rate) (s.block.sys.now + 10000)) } else s.block.seg n)) ∧ s.block.storesSettings b := by
  let x := (s.block.taken src 0x0303).onSegs mask fun g =>
    { g with pendingMode := some (decide (mode = 1), multipleFrom (rateTicks s.block.sense.rate) (s.block.sys.now + 10000)) }
  refine serves_setting (l := [.sense]) (rule := ruleSenseSetShutter src mask mode) (x := x) (ts := [0x41]) rfl rfl rfl (by simpa [ruleSenseSetShutter] using hm)
    (need_eq_none.mpr (by simp [hf, hmode])) (by simp [ruleSenseSetShutter, x, Block.onSegs]) (by simp [x]) fun b hb hset => ⟨fun n hn => ?_, hset⟩
  rw [seg_of_onSegs (congrArg SensePart.segs (sense_of_setting hb)) (by simpa using hn), seg_of_sense (taken_sense ..)]
  rfl

/-! #### SENSE_SET_WINDOW (R74, R76) -/

/-- A window as the command sets it: its mode and length, restarted at the next count. -/
def Block.windowSet (b : Block) (mode nReq : Nat) (w : Window) : Window :=
  ({ w with locked := mode == 1, nReq := nReq } : Window).restart (rateTicks b.sense.rate) b.carrierTicks (b.sys.now + 1)

/-- One window set, its running sums emptied (R76). -/
def SensePart.setWindow (set : Window → Window) (k : Nat) (y : SensePart) : SensePart :=
  if k = 0 then { mapChans Chan.clear0 y with win0 := set y.win0 } else { mapChans Chan.clear1 y with win1 := set y.win1 }

/-- The window set, and a lock that is lost noted. -/
def Block.setWindow (b : Block) (k mode nReq : Nat) : Block :=
  noteLock k (b.windowSet mode nReq (if k = 0 then b.sense.win0 else b.sense.win1)) (b.onSense (SensePart.setWindow (b.windowSet mode nReq) k))

/-- N, M and LOCK, as SENSE_SET_WINDOW answers them. -/
def windowReply (r : Nat × Nat × Bool) : List Byte := leBytes 2 r.1 ++ leBytes 4 r.2.1 ++ leBytes 1 (b2n r.2.2)

/-- The length that a window gets in the present state. -/
def Block.windowResult (b : Block) (mode nReq : Nat) : Nat × Nat × Bool := windowLength (mode == 1) nReq (rateTicks b.sense.rate) b.carrierTicks

theorem noteLock_sense (k : Nat) (w : Window) (b : Block) : (noteLock k w b).sense = b.sense := by
  unfold noteLock
  split
  · exact note_sense ..
  · rfl

theorem windowSet_taken (b : Block) (src : Src) (op mode nReq : Nat) : (b.taken src op).windowSet mode nReq = b.windowSet mode nReq := by
  funext w
  simp [Block.windowSet, Block.carrierTicks]

theorem windowResult_taken (b : Block) (src : Src) (op mode nReq : Nat) : (b.taken src op).windowResult mode nReq = b.windowResult mode nReq := by
  simp [Block.windowResult, Block.carrierTicks]

theorem setWindow_sense (b : Block) (k mode nReq : Nat) : (b.setWindow k mode nReq).sense = b.sense.setWindow (b.windowSet mode nReq) k := noteLock_sense ..

theorem ruleSenseSetWindow_act {k : Nat} (hk : k ≤ 1) (mode nReq : Nat) (b0 b : Block) : (ruleSenseSetWindow src k mode nReq b0).act b =
    (complete src .ok (windowReply (b.windowResult mode nReq)) (settingChanged (b.setWindow k mode nReq))).touch [0x40, 0x41] := by
  obtain rfl | rfl : k = 0 ∨ k = 1 := by omega
  · rfl
  · rfl

/-- The command on either window, and what follows from the window it sets. -/
theorem senseSetWindow_serves {k mode nReq : Nat} {P : Block → Prop} (hk : k ≤ 1) (hmode : mode ≤ 1) (h1 : 1 ≤ nReq) (h2 : nReq ≤ 4096)
    (hP : ∀ b : Block, b.sense = s.block.sense.setWindow (s.block.windowSet mode nReq) k → s.block.storesSettings b → P b) :
    Serves (.senseSetWindow src k mode nReq) s src 0x0302 true [.sense, .upd] .ok (windowReply (s.block.windowResult mode nReq)) P := by
  refine serves_setting (l := [.sense]) (rule := ruleSenseSetWindow src k mode nReq) (x := (s.block.taken src 0x0302).setWindow k mode nReq)
    rfl rfl rfl rfl (need_eq_none.mpr (by simp [hk, hmode, h1, h2])) (by rw [ruleSenseSetWindow_act hk, windowResult_taken]) (by simp [Block.setWindow])
    fun b hb hset => hP b ?_ hset
  rw [sense_of_setting hb, setWindow_sense, windowSet_taken, taken_sense]

theorem senseSetWindow_serves_win0 {mode nReq : Nat} (hmode : mode ≤ 1) (h1 : 1 ≤ nReq) (h2 : nReq ≤ 4096) :
    Serves (.senseSetWindow src 0 mode nReq) s src 0x0302 true [.sense, .upd] .ok (windowReply (s.block.windowResult mode nReq)) fun b =>
      b.sense.win0.nReq = nReq ∧ b.sense.win0.locked = (mode == 1) ∧ b.sense.win0.pos = 0 ∧ b.sense.win0.startAt = s.block.sys.now + 1
      ∧ b.sense.win0.n = (s.block.windowResult mode nReq).1 ∧ b.sense.win1 = s.block.sense.win1 ∧ b.sense.cur.a0 = { sum := 0, n := 0 }
      ∧ b.sense.cur.a1 = s.block.sense.cur.a1 ∧ s.block.storesSettings b :=
  senseSetWindow_serves (by decide) hmode h1 h2 fun b hb hset => by
    rw [hb]
    exact ⟨rfl, rfl, rfl, rfl, rfl, rfl, rfl, rfl, hset⟩

theorem senseSetWindow_serves_win1 {mode nReq : Nat} (hmode : mode ≤ 1) (h1 : 1 ≤ nReq) (h2 : nReq ≤ 4096) :
    Serves (.senseSetWindow src 1 mode nReq) s src 0x0302 true [.sense, .upd] .ok (windowReply (s.block.windowResult mode nReq)) fun b =>
      b.sense.win1.nReq = nReq ∧ b.sense.win1.locked = (mode == 1) ∧ b.sense.win1.pos = 0 ∧ b.sense.win0 = s.block.sense.win0
      ∧ b.sense.cur.a1 = { sum := 0, n := 0 } ∧ b.sense.cur.a0 = s.block.sense.cur.a0 ∧ s.block.storesSettings b :=
  senseSetWindow_serves (by decide) hmode h1 h2 fun b hb hset => by
    rw [hb]
    exact ⟨rfl, rfl, rfl, rfl, rfl, rfl, hset⟩

/-! #### SENSE_REF_CHECK and SENSE_RELEARN (R70, R85) -/

theorem ruleSenseRefCheck_param {mask : Nat} (hf : s.block.maskFitted mask = true) (hb : s.block.refBusyMask.land mask = 0) :
    (ruleSenseRefCheck src mask s.block).param = none := by
  simp only [ruleSenseRefCheck, need_eq_none.mpr hf, andThen, hb, ne_eq, not_true_eq_false, if_false]

theorem senseRefCheck_begins {mask : Nat} (hf : s.block.maskFitted mask = true) (hb : s.block.refBusyMask.land mask = 0) (h0 : mask ≠ 0) :
    Begins (.senseRefCheck src mask) s src 0x0304 true [.sense] fun b =>
      b.sense.refJob = some { src := src, named := mask, done := 0, passed := 0, dis := 0, failed := false }
      ∧ ∀ n < s.block.sense.segs.length, b.seg n = (if mask.testBit n then { s.block.seg n with refBusy := true } else s.block.seg n) := by
  let y := (s.block.taken src 0x0304).onSegs mask fun g => { g with refBusy := true }
  let x := y.onSense fun z => { z with refJob := some { src := src, named := mask, done := 0, passed := 0, dis := 0, failed := false } }
  refine begins_of_taken (rule := ruleSenseRefCheck src mask) (x := x) rfl rfl rfl rfl (ruleSenseRefCheck_param hf hb) (if_neg h0) (by simp [x, y])
    (by simp [x, y, Block.onSegs]) fun b hb => ⟨?_, fun n hn => ?_⟩
  · rw [sense_of_unserved hb]
    rfl
  · have hx : b.sense.segs = y.sense.segs := by rw [sense_of_unserved hb]; rfl
    rw [seg_of_onSegs hx (by simpa using hn), seg_of_sense (taken_sense ..)]

theorem senseRefCheck_serves_none : Serves (.senseRefCheck src 0) s src 0x0304 true [] .ok (leBytes 2 0 ++ leBytes 2 0) fun _ => True :=
  serves_completing (rule := ruleSenseRefCheck src 0) (x := s.block.taken src 0x0304) (ts := []) rfl rfl rfl rfl
    (ruleSenseRefCheck_param (by simp [Block.maskFitted]) (Nat.and_zero _)) rfl (by simp) (by simp) fun _ _ => trivial

/-- The command names the wire: it stands in a named segment or ends one (R85). -/
def relearns (mask j : Nat) : Bool := mask.testBit (j / 32) || (decide (j % 32 = 0 ∧ 0 < j) && mask.testBit (j / 32 - 1))

theorem senseRelearn_serves {mask : Nat} (hf : s.block.maskFitted mask = true) : Serves (.senseRelearn src mask) s src 0x0305 true [.sense] .ok [] fun b =>
    ∀ j < s.block.sense.wires.length, b.wire j = (if mask.testBit (j / 32) ∨ (j % 32 = 0 ∧ 0 < j ∧ mask.testBit (j / 32 - 1) = true)
      then { s.block.wire j with learned := false, overLim := false } else s.block.wire j) := by
  let x := (s.block.taken src 0x0305).onSense fun y =>
    { y with wires := y.wires.mapIdx fun j w => if relearns mask j then { w with learned := false, overLim := false } else w }
  refine serves_completing (rule := ruleSenseRelearn src mask) (x := x) (ts := senseTiles) rfl rfl rfl rfl (need_eq_none.mpr hf) rfl (by simp [x]) (by simp [x])
    fun b hb j hj => ?_
  have hw : x.wire j = if relearns mask j then { s.block.wire j with learned := false, overLim := false } else s.block.wire j := by
    rw [← wire_of_sense (taken_sense s.block src 0x0305) j]
    exact getD_mapIdx (by simpa using hj)
  rw [wire_of_sense (sense_of_unserved hb), hw]
  simp [relearns, and_assoc]

/-! #### The thermistor map and curves, the shunt, the configuration (R66, R67, R87) -/

theorem senseSetThMap_serves {cell therm : Nat} (hc : cell < s.block.nCell) (ht : therm < s.block.nTherm) (hl : cell < s.block.sense.cells.length) :
    Serves (.senseSetThMap src cell therm) s src 0x0306 true [.sense, .upd] .ok [] fun b =>
      b.cell cell = { s.block.cell cell with thIdx := therm } ∧ (∀ c < 512, c ≠ cell → b.cell c = s.block.cell c) ∧ s.block.storesSettings b := by
  refine serves_setting (l := [.sense]) (rule := ruleSenseSetThMap src cell therm) (x := onCell cell (fun y => { y with thIdx := therm }) (s.block.taken src 0x0306))
    rfl rfl rfl rfl (need_eq_none.mpr (by simp [hc, ht])) rfl (by simp [onCell]) fun b hb hset => ⟨?_, fun c _ hne => ?_, hset⟩
  · rw [cell_of_sense (sense_of_setting hb), ← cell_of_sense (taken_sense s.block src 0x0306)]
    exact getD_modAt_self (by simpa using hl)
  · rw [cell_of_sense (sense_of_setting hb), ← cell_of_sense (taken_sense s.block src 0x0306)]
    exact getD_modAt_ne hne

theorem senseSetThCurve_serves {mask curve : Nat} (hf : s.block.maskFitted mask = true) (hc : curve ≤ 1) :
    Serves (.senseSetThCurve src mask curve) s src 0x0307 true [.sense, .upd] .ok [] fun b =>
      (∀ n < s.block.sense.segs.length, b.seg n = (if mask.testBit n then { s.block.seg n with curve := curve } else s.block.seg n)) ∧ s.block.storesSettings b := by
  refine serves_setting (l := [.sense]) (rule := ruleSenseSetThCurve src mask curve) (x := (s.block.taken src 0x0307).onSegs mask fun g => { g with curve := curve })
    rfl rfl rfl rfl (need_eq_none.mpr (by simp [hf, hc])) rfl (by simp) fun b hb hset => ⟨fun n hn => ?_, hset⟩
  rw [seg_of_onSegs (congrArg SensePart.segs (sense_of_setting hb)) (by simpa using hn), seg_of_sense (taken_sense ..)]

theorem senseSetShunt_serves {rsh : Nat} (hm : s.block.sys.mstate ≠ .run) (h1 : 45000 ≤ rsh) (h2 : rsh ≤ 55000) :
    Serves (.senseSetShunt src rsh) s src 0x0308 true [.sense, .upd] .ok [] fun b => b.sense = { s.block.sense with rsh := rsh } ∧ s.block.storesSettings b := by
  refine serves_setting (l := [.sense]) (rule := ruleSenseSetShunt src rsh) (x := (s.block.taken src 0x0308).onSense fun y => { y with rsh := rsh })
    rfl rfl rfl (by simpa [ruleSenseSetShunt] using hm) (need_eq_none.mpr (by simp [h1, h2])) rfl (by simp) fun b hb hset => ⟨?_, hset⟩
  rw [sense_of_setting hb]
  simp

/-- A command that answers the first words of a tile, and does nothing else. -/
theorem serves_tile {i : Instr} {rule : Block → HostRule} {op t n : Nat} {owner : Bool} (hi : exec i s = effect (host src rule) s) (ho : (rule s.block).opcode = op)
    (hw : (rule s.block).owner = owner) (hs : (rule s.block).stateOk = true) (hp : (rule s.block).param = none) (hact : (rule s.block).act = replyTile src t n) :
    Serves i s src op owner [] (s.block.tilesStatus [t]) (wordsBytes ((s.block.frontTile t).take n)) fun _ => True :=
  serves_completing (x := s.block.taken src op) (ts := []) hi ho hw hs hp (by rw [hact, replyTile, taken_tilesStatus, taken_frontTile]; rfl) (by simp) (by simp)
    fun _ _ => trivial

theorem senseGetConfig_serves : Serves (.senseGetConfig src) s src 0x0309 false [] (s.block.tilesStatus [0x41]) (wordsBytes ((s.block.frontTile 0x41).take 8))
    fun _ => True := serves_tile (rule := ruleSenseGetConfig src) rfl rfl rfl rfl rfl rfl

end

/-- Settles O11: each command's clause by its own lemma above. -/
theorem sensingCommandsSetWhatTheyName : Obligations.SensingCommandsSetWhatTheyName := by
  unfold Obligations.SensingCommandsSetWhatTheyName
  exact ⟨fun _ _ _ => senseSetRate_serves, fun _ _ _ _ => senseSetWindow_serves_win0, fun _ _ _ _ => senseSetWindow_serves_win1, fun _ _ _ _ => senseSetShutter_serves,
    fun _ _ _ => senseRefCheck_begins, fun _ _ => senseRefCheck_serves_none, fun _ _ _ => senseRelearn_serves, fun _ _ _ _ => senseSetThMap_serves,
    fun _ _ _ _ => senseSetThCurve_serves, fun _ _ _ => senseSetShunt_serves, fun _ _ => senseGetConfig_serves⟩

end Sys2Proof.Machine

namespace Sys2Proof.Machine

/-! ### One segment, wire or cell of the sensing changed -/

section
variable {l : List PartName} {b : Block}

@[simp] theorem touches_onSeg (hl : .sense ∈ l) (o b : Block) (n : Nat) (f : SegSense → SegSense) : o.touches (onSeg n f b) l ↔ o.touches b l := touches_onSense hl ..
@[simp] theorem touches_onWire (hl : .sense ∈ l) (o b : Block) (j : Nat) (f : Wire → Wire) : o.touches (onWire j f b) l ↔ o.touches b l := touches_onSense hl ..
@[simp] theorem touches_onCell (hl : .sense ∈ l) (o b : Block) (c : Nat) (f : CellSense → CellSense) : o.touches (onCell c f b) l ↔ o.touches b l := touches_onSense hl ..
@[simp] theorem touches_onCellFlt (hl : .flt ∈ l) (o b : Block) (c : Nat) (f : CellFlt → CellFlt) : o.touches (onCellFlt c f b) l ↔ o.touches b l := touches_onFlt hl ..

theorem seg_onSeg_self {n : Nat} {f : SegSense → SegSense} (h : n < b.sense.segs.length) : (onSeg n f b).seg n = f (b.seg n) := getD_modAt_self h
theorem seg_onSeg_ne {n m : Nat} {f : SegSense → SegSense} (h : m ≠ n) : (onSeg n f b).seg m = b.seg m := getD_modAt_ne h
theorem wire_onWire_self {j : Nat} {f : Wire → Wire} (h : j < b.sense.wires.length) : (onWire j f b).wire j = f (b.wire j) := getD_modAt_self h
theorem wire_onWire_ne {i j : Nat} {f : Wire → Wire} (h : i ≠ j) : (onWire j f b).wire i = b.wire i := getD_modAt_ne h

theorem irqWatch_seg (a b : Block) (n : Nat) : (irqWatch a b).seg n = b.seg n := seg_of_sense (irqWatch_sense ..) n
theorem irqWatch_wire (a b : Block) (j : Nat) : (irqWatch a b).wire j = b.wire j := wire_of_sense (irqWatch_sense ..) j

/-- What a change of one element keeps of every element, the list keeps at each place. -/
theorem getD_modAt_keeps {α β : Type} (g : α → β) {l : List α} {n k : Nat} {f : α → α} {d : α} (h : ∀ x, g (f x) = g x) : g ((modAt l n f).getD k d) = g (l.getD k d) := by
  by_cases hk : k = n
  · subst hk
    by_cases hl : k < l.length
    · rw [getD_modAt_self hl, h]
    · rw [List.getD_eq_default _ _ (by simpa [modAt] using hl), List.getD_eq_default _ _ (by simpa using hl)]
  · rw [getD_modAt_ne hk]

theorem getD_map_keeps {α β : Type} (g : α → β) {l : List α} {k : Nat} {f : α → α} {d : α} (h : ∀ x, g (f x) = g x) : g ((l.map f).getD k d) = g (l.getD k d) := by
  by_cases hl : k < l.length
  · rw [getD_map_lt (d := d) hl, h]
  · rw [List.getD_eq_default _ _ (by simpa using hl), List.getD_eq_default _ _ (by simpa using hl)]

/-- A segment in which a slot runs stands in the list. -/
theorem seg_lt_of_owt {n : Nat} {o : OwtSlot} (h : (b.seg n).owt = some o) : n < b.sense.segs.length :=
  lt_length_of_getD (d := SegSense.reset) fun hd => by rw [Block.seg, hd] at h; cases h

end
end Sys2Proof.Machine

namespace Sys2Proof.Machine

/-! ### Comparators whose outputs assert and pass their deglitch (R95, R96, R103) -/

section
variable {s : State} {c : Fin 512} {ov pair : Bool}

/-- An output that asserts and is not blanked: it stands among the segment's crossings, and nothing else of the sensing changes. -/
theorem comparatorCrossing_asserts (he : doComparatorCrossing c ov pair s.block = crossNow c ov pair s.block) (hl : segOf c < s.block.sense.segs.length)
    (hn : ((s.block.seg (segOf c)).crossing.any fun x => x.1 == compId c pair && x.2.1 == ov) = false) : Happens (.comparatorCrossing c ov pair) s [.sense] fun b =>
      b.seg (segOf c) = { s.block.seg (segOf c) with crossing := (s.block.seg (segOf c)).crossing ++ [(compId c pair, ov, s.block.sys.now)] }
      ∧ (∀ m : Fin 16, m.val ≠ segOf c → b.seg m = s.block.seg m) ∧ b.sense.cells = s.block.sense.cells := by
  refine happens_plain (f := doComparatorCrossing c ov pair) rfl (by simp [he, crossNow]) (by rw [he, crossNow_mstate]) ⟨?_, fun m hm => ?_, ?_⟩
  · rw [irqWatch_seg, he, crossNow, seg_onSeg_self hl, if_neg (by simp [hn])]
  · rw [irqWatch_seg, he, crossNow, seg_onSeg_ne hm]
  · rw [irqWatch_sense, he]
    rfl

theorem comparatorCrossing_cell (hc : c.val < s.block.nCell) (hp : (s.block.cell c).pair = false) (hs : s.block.slotOver false c = none)
    (hl : segOf c < s.block.sense.segs.length) (hn : ((s.block.seg (segOf c)).crossing.any fun x => x.1 == compId c false && x.2.1 == ov) = false) :
    Happens (.comparatorCrossing c ov false) s [.sense] fun b =>
      b.seg (segOf c) = { s.block.seg (segOf c) with crossing := (s.block.seg (segOf c)).crossing ++ [(compId c false, ov, s.block.sys.now)] }
      ∧ (∀ m : Fin 16, m.val ≠ segOf c → b.seg m = s.block.seg m) ∧ b.sense.cells = s.block.sense.cells :=
  comparatorCrossing_asserts (by simp [doComparatorCrossing, Nat.not_le.mpr hc, hp, hs]) hl hn

theorem comparatorCrossing_pair (hc : c.val < s.block.nCell) (hp : s.block.pairEngaged c = true) (hl : segOf c < s.block.sense.segs.length)
    (hn : ((s.block.seg (segOf c)).crossing.any fun x => x.1 == compId c true && x.2.1 == ov) = false) : Happens (.comparatorCrossing c ov true) s [.sense] fun b =>
      b.seg (segOf c) = { s.block.seg (segOf c) with crossing := (s.block.seg (segOf c)).crossing ++ [(compId c true, ov, s.block.sys.now)] } :=
  (comparatorCrossing_asserts (by simp [doComparatorCrossing, Nat.not_le.mpr hc, hp]) hl hn).mono fun _ h => h.1

/-- An output of a blanked comparator is held in the slot (R103). -/
theorem comparatorCrossing_held {n : Nat} {slot : OwtSlot} (hc : c.val < s.block.nCell) (hp : (s.block.cell c).pair = false) (hs : s.block.slotOver false c = some n)
    (ho : (s.block.seg n).owt = some slot) (hn : slot.held.contains (c.val, ov) = false) : Happens (.comparatorCrossing c ov false) s [.sense] fun b =>
      (b.seg n).owt = some { slot with held := slot.held ++ [(c.val, ov)] } ∧ (b.seg n).crossing = (s.block.seg n).crossing := by
  have he : doComparatorCrossing c ov false s.block = holdIn n c ov s.block := by simp [doComparatorCrossing, Nat.not_le.mpr hc, hp, hs]
  have hseg : (irqWatch s.block (doComparatorCrossing c ov false s.block)).seg n = _ :=
    (irqWatch_seg ..).trans ((congrArg (Block.seg · n) he).trans (seg_onSeg_self (seg_lt_of_owt ho)))
  refine happens_plain (f := doComparatorCrossing c ov false) rfl (by simp [he, holdIn]) (by rw [he, holdIn_mstate]) ⟨?_, by rw [hseg]⟩
  rw [hseg]
  simp only [ho, Option.map_some, hn, Bool.false_eq_true, if_false]

@[simp] theorem touches_passTrip {l : List PartName} (hs : .sense ∈ l) (hr : .ring ∈ l) (o b : Block) (n id : Nat) (ov : Bool) :
    o.touches (passTrip n id ov b) l ↔ o.touches b l := by simp [passTrip, hs, hr]

/-- What an output that is passed on leaves of its segment: it is tripped, and its mask latched (R95, R96). -/
def SegSense.trip (id : Nat) (ov : Bool) (g : SegSense) : SegSense := { g with
  tripped := if g.tripped.any fun x => x.1 == id && x.2.1 == ov then g.tripped else g.tripped ++ [(id, ov, false)]
  ovLat := if ov then g.ovLat.lor (compMask id) else g.ovLat
  uvLat := if ov then g.uvLat else g.uvLat.lor (compMask id) }

theorem passTrip_sense (n id : Nat) (ov : Bool) (b : Block) : (passTrip n id ov b).sense = (onSeg n (SegSense.trip id ov) b).sense := by
  rw [passTrip, Block.touch_sense, Block.onRing_sense]
  rfl

theorem passTrip_ring (n id : Nat) (ov : Bool) (b : Block) : (passTrip n id ov b).ring = { b.ring with trips := insertIdx n b.ring.trips } := by
  rw [passTrip, Block.touch_ring]
  rfl

theorem passTrip_sys (n id : Nat) (ov : Bool) (b : Block) : (passTrip n id ov b).sys = b.sys := by
  rw [passTrip, Block.touch_sys]
  rfl

theorem seg_passTrip_self {b : Block} {n : Nat} (id : Nat) (ov : Bool) (h : n < b.sense.segs.length) : (passTrip n id ov b).seg n = (b.seg n).trip id ov := by
  rw [seg_of_sense (passTrip_sense ..), seg_onSeg_self h]

theorem seg_passTrip_ne {b : Block} {n m : Nat} (id : Nat) (ov : Bool) (h : m ≠ n) : (passTrip n id ov b).seg m = b.seg m := by
  rw [seg_of_sense (passTrip_sense ..), seg_onSeg_ne h]

theorem trip_tripped (id : Nat) (ov : Bool) (g : SegSense) : ((g.trip id ov).tripped.any fun y => y.1 == id && y.2.1 == ov) = true := by
  unfold SegSense.trip
  dsimp only
  split
  · assumption
  · simp

theorem comparatorDeglitched_passes {x : Nat × Bool × Nat} (hx : ((s.block.seg (segOf c)).crossing.find? fun y => y.1 == compId c false && y.2.1 == ov) = some x)
    (hs : s.block.slotOver true c = none) : Happens (.comparatorDeglitched c ov false) s [.sys, .sense, .ring] fun b =>
      b.sys.now = max s.block.sys.now (x.2.2 + usT) ∧ ((b.seg (segOf c)).tripped.any fun y => y.1 == compId c false && y.2.1 == ov) = true
      ∧ b.ring.trips = insertIdx (segOf c) s.block.ring.trips ∧ b.ring.rungs = s.block.ring.rungs
      ∧ (b.seg (segOf c)).ovLat = (if ov then (s.block.seg (segOf c)).ovLat.lor (compMask (compId c false)) else (s.block.seg (segOf c)).ovLat)
      ∧ (b.seg (segOf c)).uvLat = (if ov then (s.block.seg (segOf c)).uvLat else (s.block.seg (segOf c)).uvLat.lor (compMask (compId c false)))
      ∧ ∀ m : Fin 16, m.val ≠ segOf c → b.seg m = s.block.seg m := by
  have hl : segOf c < s.block.sense.segs.length := lt_length_of_getD (d := SegSense.reset) fun hd => by rw [Block.seg, hd] at hx; cases hx
  let b1 := s.block.at (x.2.2 + usT)
  have he : doComparatorDeglitched c ov false s.block = passTrip (segOf c) (compId c false) ov b1 := by simp [doComparatorDeglitched, hx, hs, b1]
  have hring : (irqWatch s.block (doComparatorDeglitched c ov false s.block)).ring = { s.block.ring with trips := insertIdx (segOf c) s.block.ring.trips } := by
    rw [irqWatch_ring, he, passTrip_ring]
    rfl
  have hself : (irqWatch s.block (doComparatorDeglitched c ov false s.block)).seg (segOf c) = (s.block.seg (segOf c)).trip (compId c false) ov := by
    rw [irqWatch_seg, he, seg_passTrip_self (b := b1) _ _ hl]
    rfl
  refine happens_plain (f := doComparatorDeglitched c ov false) rfl (by simp [he, b1]) (by rw [he, passTrip_sys]; rfl)
    ⟨by rw [irqWatch_sys, he, passTrip_sys]; rfl, ?_, by rw [hring], by rw [hring], by rw [hself]; rfl, by rw [hself]; rfl, fun m hm => ?_⟩
  · rw [hself]
    exact trip_tripped ..
  · rw [irqWatch_seg, he, seg_passTrip_ne _ _ hm]
    rfl

end
end Sys2Proof.Machine

namespace Sys2Proof.Machine

/-! ### A comparator that is released (R39, R94, R96) -/

/-- No comparator of any segment is tripped. -/
def Block.noTrips (b : Block) : Bool := (List.range 16).all fun m => (b.seg m).tripped == []

/-- The trips of segment `n` stop on the rungs and upstream, and with the last of them the trip without a name (R39, R41). -/
def Block.untripped (b : Block) (n : Nat) : Block :=
  (b.onRing fun r => { r with trips := r.trips.filter (· != n) }).onLeash fun y => { y with tripsUp := y.tripsUp.filter fun t => t != n && !(b.noTrips && t == 0x10) }

theorem dropTrips_eq {b : Block} {n : Nat} (h : (b.seg n).tripped = []) :
    dropTrips n b = if b.noTrips then clearCause 3 0x10 (clearCause 3 n (b.untripped n)) else clearCause 3 n (b.untripped n) := by
  rw [dropTrips, if_neg (by simp [h])]
  rfl

theorem dropTrips_of_tripped {b : Block} {n : Nat} (h : (b.seg n).tripped ≠ []) : dropTrips n b = b := if_pos (by simpa using h)

/-- What `dropTrips` keeps that both its steps keep. -/
theorem dropTrips_keeps {α : Type} (g : Block → α) (hu : ∀ b n, g (b.untripped n) = g b) (hc : ∀ b ix, g (clearCause 3 ix b) = g b) (n : Nat) (b : Block) :
    g (dropTrips n b) = g b := by
  by_cases h : (b.seg n).tripped = []
  · rw [dropTrips_eq h]
    split
    · rw [hc, hc, hu]
    · rw [hc, hu]
  · rw [dropTrips_of_tripped h]

@[simp] theorem dropTrips_sense (n : Nat) (b : Block) : (dropTrips n b).sense = b.sense := dropTrips_keeps Block.sense (fun _ _ => rfl) (by simp) n b

@[simp] theorem touches_dropTrips {l : List PartName} (hr : .ring ∈ l) (hh : .leash ∈ l) (ht : .latch ∈ l) (o b : Block) (n : Nat) :
    o.touches (dropTrips n b) l ↔ o.touches b l := by
  refine iff_of_eq (dropTrips_keeps (fun b => o.touches b l) (fun b n => ?_) (fun b ix => ?_) n b)
  · simp [Block.untripped, hr, hh]
  · simp [ht]

theorem dropTrips_settled (n : Nat) {b : Block} (h : b.settled = true) : (dropTrips n b).settled = true := by
  by_cases he : (b.seg n).tripped = []
  · have hu : (b.untripped n).settled = true := (settled_of_touches (l := [.ring, .leash]) (by simp [Block.untripped]) rfl (by decide)).trans h
    rw [dropTrips_eq he]
    split
    · exact clearCause_settled _ _ (clearCause_settled _ _ hu)
    · exact clearCause_settled _ _ hu
  · rwa [dropTrips_of_tripped he]

theorem dropTrips_ring {b : Block} {n : Nat} (h : (b.seg n).tripped = []) : n ∉ (dropTrips n b).ring.trips := by
  have hr : (dropTrips n b).ring = (b.untripped n).ring := by rw [dropTrips_eq h, apply_ite Block.ring, clearCause_ring, clearCause_ring, ite_self]
  rw [hr]
  simp [Block.untripped]

theorem dropTrips_tripsUp {b : Block} {n : Nat} (h : (b.seg n).tripped = []) : n ∉ (dropTrips n b).leash.tripsUp := by
  have hh : (dropTrips n b).leash = (b.untripped n).leash := by rw [dropTrips_eq h, apply_ite Block.leash, clearCause_leash, clearCause_leash, ite_self]
  rw [hh]
  simp [Block.untripped]

theorem dropTrips_causes {b : Block} {n : Nat} (h : (b.seg n).tripped = []) : (3, n) ∉ (dropTrips n b).latch.causes := by
  have hg := clearCause_gone 3 n (b.untripped n)
  rw [dropTrips_eq h]
  split
  · rw [clearCause_causes 3 0x10]
    exact fun hm => hg (List.mem_of_mem_filter hm)
  · exact hg

/-- What a comparator's release leaves of a segment. -/
def SegSense.release (id : Nat) (ov : Bool) (g : SegSense) : SegSense := { g with
  crossing := g.crossing.filter fun x => !(x.1 == id && x.2.1 == ov)
  tripped := g.tripped.filter fun x => !(x.1 == id && x.2.1 == ov) }

/-- The output of a comparator of a cell is no longer held in any slot. -/
def Block.unheld (b : Block) (c : Nat) (ov : Bool) : Block :=
  b.onSense fun s => { s with segs := s.segs.map fun g => { g with owt := g.owt.map fun o => { o with held := o.held.filter fun h => h != (c, ov) } } }

/-- The outputs of a segment's comparators, before and after deglitching, and their latched masks. -/
def SegSense.outputs (g : SegSense) : List (Nat × Bool × Nat) × List (Nat × Bool × Bool) × Nat × Nat := (g.crossing, g.tripped, g.ovLat, g.uvLat)

theorem unheld_outputs (b : Block) (c : Nat) (ov : Bool) (m : Nat) : ((b.unheld c ov).seg m).outputs = (b.seg m).outputs :=
  getD_map_keeps SegSense.outputs fun _ => rfl

/-- The block of which COMPARATOR_RELEASE then drops the trips. -/
def Block.released (b : Block) (c : Nat) (ov pair : Bool) : Block :=
  if pair then onSeg (segOf c) (SegSense.release (compId c pair) ov) b else (onSeg (segOf c) (SegSense.release (compId c pair) ov) b).unheld c ov

theorem doComparatorRelease_eq (c : Nat) (ov pair : Bool) (b : Block) : doComparatorRelease c ov pair b = dropTrips (segOf c) (b.released c ov pair) := rfl

theorem touches_released {l : List PartName} (hl : .sense ∈ l) (o b : Block) (c : Nat) (ov pair : Bool) : o.touches (b.released c ov pair) l ↔ o.touches b l := by
  simp [Block.released, Block.unheld, hl]

theorem released_outputs (b : Block) (c : Nat) (ov pair : Bool) (m : Nat) :
    ((b.released c ov pair).seg m).outputs = ((onSeg (segOf c) (SegSense.release (compId c pair) ov) b).seg m).outputs := by
  unfold Block.released
  split
  · rfl
  · exact unheld_outputs ..

theorem released_outputs_self (b : Block) (c : Nat) (ov pair : Bool) :
    ((b.released c ov pair).seg (segOf c)).outputs = ((b.seg (segOf c)).release (compId c pair) ov).outputs := by
  rw [released_outputs]
  by_cases hl : segOf c < b.sense.segs.length
  · rw [seg_onSeg_self hl]
  · have h (a : Block) (ha : ¬segOf c < a.sense.segs.length) : a.seg (segOf c) = SegSense.reset := List.getD_eq_default _ _ (Nat.le_of_not_lt ha)
    rw [h b hl, h _ (by simpa [onSeg, modAt] using hl)]
    rfl

theorem comparatorRelease_happens {s : State} {c : Fin 512} {ov pair : Bool} (hx : ∀ x ∈ (s.block.seg (segOf c)).tripped, x.1 = compId c pair ∧ x.2.1 = ov) :
    Happens (.comparatorRelease c ov pair) s [.sense, .ring, .leash, .latch] fun b =>
      (b.seg (segOf c)).tripped = [] ∧ (∀ x ∈ (b.seg (segOf c)).crossing, ¬(x.1 = compId c pair ∧ x.2.1 = ov)) ∧ segOf c ∉ b.ring.trips ∧ segOf c ∉ b.leash.tripsUp
      ∧ (3, segOf c) ∉ b.latch.causes ∧ (b.seg (segOf c)).ovLat = (s.block.seg (segOf c)).ovLat ∧ (b.seg (segOf c)).uvLat = (s.block.seg (segOf c)).uvLat
      ∧ ∀ m : Fin 16, m.val ≠ segOf c → (b.seg m).tripped = (s.block.seg m).tripped := by
  let x := s.block.released c ov pair
  have htx : s.block.touches x [.sense] := (touches_released (by decide) ..).mpr (touches_refl _ _)
  have hout : (x.seg (segOf c)).outputs = ((s.block.seg (segOf c)).release (compId c pair) ov).outputs := released_outputs_self ..
  simp only [SegSense.outputs, SegSense.release, Prod.mk.injEq] at hout
  obtain ⟨hcross, htrip, hov, huv⟩ := hout
  have htrip : (x.seg (segOf c)).tripped = [] := htrip.trans (List.filter_eq_nil_iff.mpr fun y hy => by simp [hx y hy])
  have hseg (m : Nat) : (irqWatch s.block (doComparatorRelease c ov pair s.block)).seg m = x.seg m := by
    rw [irqWatch_seg, doComparatorRelease_eq]
    exact seg_of_sense (dropTrips_sense ..) m
  refine happens_touching (f := doComparatorRelease c ov pair) rfl ?_ (fun h => ?_) ⟨?_, fun y hy => ?_, ?_, ?_, ?_, ?_, ?_, fun m hm => ?_⟩
  · rw [doComparatorRelease_eq, touches_dropTrips (by decide) (by decide) (by decide)]
    exact htx.mono (by decide)
  · rw [doComparatorRelease_eq]
    exact dropTrips_settled _ ((settled_of_touches htx (congrArg SysPart.mstate (htx .sys (by decide) (by decide))) (by decide)).trans h)
  · rw [hseg, htrip]
  · rw [hseg, hcross] at hy
    simpa [or_iff_not_imp_left] using (List.mem_filter.mp hy).2
  · rw [irqWatch_ring, doComparatorRelease_eq]
    exact dropTrips_ring htrip
  · rw [irqWatch_leash, doComparatorRelease_eq]
    exact dropTrips_tripsUp htrip
  · rw [irqWatch_latch, doComparatorRelease_eq]
    exact dropTrips_causes htrip
  · rw [hseg, hov]
  · rw [hseg, huv]
  · have hm' := congrArg (fun y => y.2.1) (released_outputs s.block c ov pair m)
    rw [hseg, ← seg_onSeg_ne (b := s.block) (f := SegSense.release (compId c pair) ov) hm]
    exact hm'

end Sys2Proof.Machine

namespace Sys2Proof.Machine

/-! ### SPS, and the bark line (R100, R283, R319) -/

/-- What SPS has done before the sequence ends and the converter goes dark: SO4 off, the cause, the trip, and the module in SAFE; the bark line is left. -/
structure Block.actsSps (o b : Block) (cause ix : Nat) : Prop where
  out : b.outOff 3
  cause : (cause, ix) ∈ b.latch.causes
  trip : b.leash.tripDown = true
  bark : b.bark = o.bark
  hold : b.pwr.hold = o.pwr.hold
  safe : o.hinge = false → b.sys.mstate = .safe

theorem Block.actsSps.keep {o a b : Block} {cause ix : Nat} (h : o.actsSps a cause ix) (k : a.keepsFn b) : o.actsSps b cause ix :=
  ⟨k.outs 3 h.out, k.causes ▸ h.cause, k.leash ▸ h.trip, k.bark.trans h.bark, k.hold.trans h.hold, fun hh => k.safe (h.safe hh)⟩

theorem spoilReset_bark (cause : Nat) (b : Block) : (spoilReset cause b).bark = b.bark :=
  (touches_spoilReset (l := .latch :: controlled) (by simp) (by simp) b b cause).mpr (touches_refl _ _) .bark (by decide) (by decide)

theorem execFn_sps_acts {b : Block} {cause ix : Nat} (hm : (cause, ix) ∈ b.latch.causes) : b.actsSps (execFn false cause ix .acted b) cause ix := by
  unfold execFn
  extract_lets b' t b1 b2 b3 b4 b5 e b6
  have h5 : b5.outOff 3 := (outOff_of_latch (a := b5) (b := b2) rfl).mpr (onOut_off_outOff b1 3)
  have hcauses : b5.latch.causes = b.latch.causes := spoilReset_causes cause b
  have hhold : b5.pwr.hold = b.pwr.hold := spoilReset_hold cause b
  have h6 : b.actsSps b6 cause ix := by
    refine ⟨(outOff_of_latch ((enterState_latch ..).trans (note_latch ..))).mpr h5, ?_, ?_, ?_, ?_, fun hh => enterState_mstate ?_⟩
    · rwa [enterState_latch, note_latch, hcauses]
    · rw [enterState_leash, note_leash]
      rfl
    · rw [enterState_bark, note_bark]
      exact spoilReset_bark cause b
    · rw [enterState_hold, note_pwr, hhold]
    · rwa [Block.hinge, note_pwr, hhold]
  exact h6.keep (((abortSeq_keepsFn false b6).trans (cnvMuzzle_keepsFn _)).trans (touch_keepsFn ..))

theorem demandSPS_of_armed {b : Block} (cause ix : Nat) (ha : b.latch.state = .armed) : demandSPS cause ix b = execFn false cause ix .acted (addCause cause ix b) := by
  rw [demandSPS, demand, ha]

/-- SPS from ARMED. -/
theorem demandSPS_acts {b : Block} (cause ix : Nat) (ha : b.latch.state = .armed) : b.actsSps (demandSPS cause ix b) cause ix := by
  rw [demandSPS_of_armed cause ix ha]
  obtain ⟨hout, hcause, htrip, hbark, hhold, hsafe⟩ := execFn_sps_acts (addCause_mem cause ix b)
  exact ⟨hout, hcause, htrip, hbark, hhold, hsafe⟩

theorem demandSPS_hasActed {b : Block} (cause ix : Nat) (ha : b.latch.state = .armed) : b.hasActed (demandSPS cause ix b) false cause ix := by
  have h := demandSPS_acts cause ix ha
  have he := demandSPS_of_armed cause ix ha
  refine ⟨?_, ?_, h.cause, ?_, ?_, h.trip, by simp, fun n _ hn => ?_, ?_, h.safe⟩
  · rw [he, execFn_state]
  · rw [he, execFn_muzzle]
  · rw [he, execFn_acts]
    rfl
  · rw [he, execFn_fn]
    simp [addCause]
  · obtain rfl : n = 3 := by simpa using hn
    exact h.out
  · rw [he]
    exact execFn_dark ..

theorem demandSPS_settled {b : Block} (cause ix : Nat) (ha : b.latch.state = .armed) (h : b.settled = true) : (demandSPS cause ix b).settled = true := by
  obtain ⟨-, hd, ho⟩ := settled_iff.mp h
  refine settled_of_hasActed (demandSPS_hasActed cause ix ha) (demandSPS_acts cause ix ha).hold (by rwa [demandSPS_sec]) ?_
  rwa [demandSPS_sec, demandSPS_of_armed cause ix ha, execFn_saOk]

section
variable {s : State} {earlier : Bool}

/-- The bark line as an external assertion leaves it (R100). -/
def Block.barked (b : Block) : Block :=
  (b.onBark fun k => { k with line := false, lowAt := some b.sys.now, falls := satAdd 65535 k.falls 1, extLat := true }).touch [8]

theorem doExternalBark_still {b : Block} (hd : b.bark.drive = false) (hr : b.latch.resetting = none) (hs : b.latch.state = .test ∨ b.latch.state = .lockout) :
    doExternalBark earlier b = b.barked := by
  have hn : b.latch.state ≠ .selftest := fun h => by simp [h] at hs
  rw [doExternalBark, if_neg (by simp [hd, hr]), if_neg hn]
  exact if_pos hs

theorem doExternalBark_demands {b : Block} (hd : b.bark.drive = false) (hr : b.latch.resetting = none) (hs : b.latch.state = .armed) :
    doExternalBark earlier b = demandSPS 4 0 (note .barkExt noArg [] (noteWake 3 b.barked)) := by
  rw [doExternalBark, if_neg (by simp [hd, hr]), if_neg (by simp [hs])]
  exact if_neg (by simp [hs])

@[simp] theorem touches_noteWake (o b : Block) (l : List PartName) (cond : Nat) : o.touches (noteWake cond b) l ↔ o.touches b l := by simp [noteWake]

theorem externalBark_acts (hd : s.block.bark.drive = false) (hr : s.block.latch.resetting = none) (ha : s.block.latch.state = .armed) :
    Happens (.externalBark earlier) s actedOn fun b =>
      b.bark.line = false ∧ b.bark.lowAt = some s.block.sys.now ∧ b.bark.falls = satAdd 65535 s.block.bark.falls 1 ∧ b.bark.extLat = true ∧ b.bark.drive = false
      ∧ s.block.hasActed b false 4 0 := by
  let x := note .barkExt noArg [] (noteWake 3 s.block.barked)
  have he : doExternalBark earlier s.block = demandSPS 4 0 x := doExternalBark_demands hd hr ha
  have hx : s.block.touches x [.bark] := by simp [x, Block.barked]
  have hlatch : x.latch = s.block.latch := hx .latch (by decide) (by decide)
  have hpwr : x.pwr = s.block.pwr := hx .pwr (by decide) (by decide)
  have hsys : x.sys = s.block.sys := hx .sys (by decide) (by decide)
  have hbark : x.bark = s.block.barked.bark := (note_bark ..).trans ((touches_noteWake _ _ [] 3).mpr (touches_refl _ _) .bark (by decide) (by decide))
  have hax : x.latch.state = .armed := by rw [hlatch, ha]
  have hk : (irqWatch s.block (doExternalBark earlier s.block)).bark = s.block.barked.bark := by rw [irqWatch_bark, he, (demandSPS_acts 4 0 hax).bark, hbark]
  refine happens_touching (f := doExternalBark earlier) rfl ?_ (fun h => ?_) ⟨by rw [hk]; rfl, by rw [hk]; rfl, by rw [hk]; rfl, by rw [hk]; rfl, by rw [hk]; exact hd, ?_⟩
  · rw [he, demandSPS, touches_demand (by decide)]
    exact hx.mono (by decide)
  · rw [he]
    exact demandSPS_settled 4 0 hax ((settled_of_touches hx (by rw [hsys]) (by decide)).trans h)
  · rw [he]
    exact ((demandSPS_hasActed 4 0 hax).of_before (by rw [hlatch]) (by rw [hlatch]) (by rw [hpwr])).watched _

theorem externalBark_still (hd : s.block.bark.drive = false) (hr : s.block.latch.resetting = none) (hs : s.block.latch.state = .test ∨ s.block.latch.state = .lockout) :
    Happens (.externalBark earlier) s [.bark] fun b =>
      b.bark = { s.block.bark with line := false, lowAt := some s.block.sys.now, falls := satAdd 65535 s.block.bark.falls 1, extLat := true } := by
  have he := doExternalBark_still (earlier := earlier) hd hr hs
  exact happens_plain (f := doExternalBark earlier) rfl (by simp [he, Block.barked]) (by simp [he, Block.barked]) (by rw [irqWatch_bark, he]; rfl)

/-- While this module drives the line an assertion that did not begin before cannot be told (R100). -/
theorem externalBark_own (hd : s.block.bark.drive = true) : Happens (.externalBark false) s [] fun _ => True :=
  happens_nothing (f := doExternalBark false) rfl (by simp [doExternalBark, hd])

end

/-- Settles O12: each command's clause by its own lemma above. -/
theorem comparatorsTripAndTheBarkLineActs : Obligations.ComparatorsTripAndTheBarkLineActs := by
  unfold Obligations.ComparatorsTripAndTheBarkLineActs
  exact ⟨fun _ _ _ => comparatorCrossing_cell, fun _ _ _ _ _ => comparatorCrossing_held, fun _ _ _ => comparatorCrossing_pair, fun _ _ _ _ => comparatorDeglitched_passes,
    fun _ _ _ _ => comparatorRelease_happens, fun _ _ => externalBark_acts, fun _ _ => externalBark_still, fun _ => externalBark_own⟩

end Sys2Proof.Machine

namespace Sys2Proof.Machine

/-! ### The integrity commands (R108, R111, R115) -/

section
variable {s : State} {src : Src}

/-- A frame that is sent and a setting that is stored do not meet. -/
theorem sendDown_settingChanged (kind : DownKind) (carries : Option Src) (b : Block) : sendDown kind carries (settingChanged b) = settingChanged (sendDown kind carries b) := by
  have ha : (settingChanged b).anyLane = b.anyLane := rfl
  unfold sendDown
  rw [ha]
  cases b.anyLane <;> rfl

@[simp] theorem taken_leash (b : Block) (src : Src) (op : Nat) : (b.taken src op).leash = b.leash := by simp [Block.taken]
@[simp] theorem taken_bark (b : Block) (src : Src) (op : Nat) : (b.taken src op).bark = b.bark := by simp [Block.taken]

theorem integSetLeashMode_serves {mode ms : Nat} (hm : mode ≤ 1) (h1 : 100 ≤ ms) (h2 : ms ≤ 60000) (h3 : ms % 100 = 0) :
    Serves (.integSetLeashMode src mode ms) s src 0x0310 true [.leash, .upd] .ok [] fun b =>
      b.leash.lossMode = mode ∧ b.leash.broddaMs = ms ∧ b.leash.waiting = (if s.block.anyLane then s.block.leash.waiting
        ++ [{ tag := s.block.leash.nextTag, kind := .leashMode mode ms, sent := 1, carries := none }] else s.block.leash.waiting)
      ∧ b.leash.lanes = s.block.leash.lanes ∧ s.block.storesSettings b := by
  let y := (s.block.taken src 0x0310).onLeash fun l => { l with lossMode := mode, broddaMs := ms }
  let x := sendDown (.leashMode mode ms) none y
  have hy : y.leash = { s.block.leash with lossMode := mode, broddaMs := ms } := by simp [y]
  have hany : y.anyLane = s.block.anyLane := anyLane_of_lanes (by rw [hy])
  refine serves_setting (l := [.leash]) (rule := ruleIntegSetLeashMode src mode ms) (x := x) (ts := []) rfl rfl rfl rfl (need_eq_none.mpr (by simp [hm, h1, h2, h3]))
    (congrArg (complete src .ok []) (sendDown_settingChanged ..)) (by simp [x, y]) fun b hb hset => ?_
  have hleash : b.leash = x.leash := (leash_of_unserved hb).trans (settingChanged_leash x)
  by_cases ha : s.block.anyLane = true
  · rw [hleash, sendDown_leash _ _ (hany.trans ha), hy, if_pos ha]
    exact ⟨rfl, rfl, rfl, rfl, hset⟩
  · have hx : x = y := by simp [x, sendDown, hany, ha]
    rw [hleash, hx, hy, if_neg ha]
    exact ⟨rfl, rfl, rfl, rfl, hset⟩

theorem integTestWire_begins {wire : Nat} (hm : s.block.sys.mstate ≠ .boot) (hw : wire ≤ s.block.nCell) : Begins (.integTestWire src wire) s src 0x0311 true [.sense] fun b =>
    b.sense = { s.block.sense with testWire := some (src, wire) } := by
  refine begins_of_taken (rule := ruleIntegTestWire src wire) (x := (s.block.taken src 0x0311).onSense fun y => { y with testWire := some (src, wire) })
    rfl rfl rfl (by simpa [ruleIntegTestWire] using hm) (need_eq_none.mpr (by simpa using hw)) rfl (by simp) (by simp) fun b hb => ?_
  rw [sense_of_unserved hb]
  simp

/-- The slot of the segment that tests the wire, if one runs, as the act of an admitted request finds it. -/
theorem taken_testSlot (b : Block) (src : Src) (op wire : Nat) : ((b.taken src op).seg ((b.taken src op).testSeg wire)).owt = (b.seg (b.testSeg wire)).owt := by
  have ht : (b.taken src op).testSeg wire = b.testSeg wire := by simp [Block.testSeg, Block.nCell, Block.nSeg]
  rw [ht, seg_of_sense (taken_sense ..)]

/-- The command begins with so many tests to go (R108). -/
theorem integClearOpen_begins {wire left : Nat} (hw : wire ≤ s.block.nCell) (ho : (s.block.wire wire).opened = true)
    (hact : (ruleIntegClearOpen src wire s.block).act (s.block.taken src 0x0312) = (s.block.taken src 0x0312).onSense fun y => { y with clearOpen := some (src, wire, left, true) }) :
    Begins (.integClearOpen src wire) s src 0x0312 true [.sense] fun b => b.sense = { s.block.sense with clearOpen := some (src, wire, left, true) } := by
  refine begins_of_taken (rule := ruleIntegClearOpen src wire) rfl rfl rfl rfl (need_eq_none.mpr (by simp [hw, ho])) hact (by simp) (by simp) fun b hb => ?_
  rw [sense_of_unserved hb]
  simp

theorem integClearOpen_begins_idle {wire : Nat} (hw : wire ≤ s.block.nCell) (ho : (s.block.wire wire).opened = true) (hn : (s.block.seg (s.block.testSeg wire)).owt = none) :
    Begins (.integClearOpen src wire) s src 0x0312 true [.sense] fun b => b.sense = { s.block.sense with clearOpen := some (src, wire, 3, true) } :=
  integClearOpen_begins hw ho (by simp [ruleIntegClearOpen, taken_testSlot, hn])

/-- The test that runs already is not counted, so there are four. -/
theorem integClearOpen_begins_busy {wire : Nat} {o : OwtSlot} (hw : wire ≤ s.block.nCell) (ho : (s.block.wire wire).opened = true)
    (hs : (s.block.seg (s.block.testSeg wire)).owt = some o) (hj : o.wire = wire) :
    Begins (.integClearOpen src wire) s src 0x0312 true [.sense] fun b => b.sense = { s.block.sense with clearOpen := some (src, wire, 4, true) } :=
  integClearOpen_begins hw ho (by simp [ruleIntegClearOpen, taken_testSlot, hs, hj])

theorem integSetBarkPullup_serves {on : Nat} (ho : on ≤ 1) : Serves (.integSetBarkPullup src on) s src 0x0313 true [.bark, .upd] .ok [] fun b =>
    b.bark = { s.block.bark with pullUp := on == 1 } ∧ s.block.storesSettings b := by
  refine serves_setting (l := [.bark]) (rule := ruleIntegSetBarkPullup src on) (x := (s.block.taken src 0x0313).onBark fun k => { k with pullUp := on == 1 }) (ts := [8])
    rfl rfl rfl rfl (need_eq_none.mpr (by simpa using ho)) rfl (by simp) fun b hb hset => ⟨?_, hset⟩
  rw [(bark_of_unserved hb).trans (settingChanged_bark _)]
  simp

end

/-- Settles O14: each command's clause by its own lemma above. -/
theorem integrityCommandsSetOrBeginWhatTheyName : Obligations.IntegrityCommandsSetOrBeginWhatTheyName := by
  unfold Obligations.IntegrityCommandsSetOrBeginWhatTheyName
  exact ⟨fun _ _ _ _ => integSetLeashMode_serves, fun _ _ _ => integTestWire_begins, fun _ _ _ => integClearOpen_begins_idle, fun _ _ _ _ => integClearOpen_begins_busy,
    fun _ _ _ => integSetBarkPullup_serves⟩

end Sys2Proof.Machine

namespace Sys2Proof.Machine

/-! ### The slots of the open-wire test (R102, R103) -/

section
variable {s : State} {n : Fin 16} {o : OwtSlot}

theorem owtCycleStart_sent {t : Nat} (ht : s.block.sense.owtNext = some t) : Happens .owtCycleStart s [.sys, .sense] fun b =>
    b.sense.owtCycle = some (multipleFrom (rateTicks s.block.sense.rate) (max t s.block.sys.now)) ∧ b.sense.owtNext = none
    ∧ b.sys.now = max s.block.sys.now (multipleFrom (rateTicks s.block.sense.rate) (max t s.block.sys.now)) ∧ b.sense.segs = s.block.sense.segs :=
  happens_plain (f := doOwtCycleStart) rfl (by simp [doOwtCycleStart]) (by simp [doOwtCycleStart]) (by simp [doOwtCycleStart, ht])

theorem owtCycleStart_own (hn : s.block.sense.owtNext = none) : Happens .owtCycleStart s [.sys, .sense] fun b =>
    b.sense.owtCycle = some (multipleFrom (rateTicks s.block.sense.rate) (s.block.nextMultiple (100 * msT))) ∧ b.sense.segs = s.block.sense.segs :=
  happens_plain (f := doOwtCycleStart) rfl (by simp [doOwtCycleStart]) (by simp [doOwtCycleStart]) (by simp [doOwtCycleStart, hn])

/-- The block at the moment of a slot's begin: 14 µs before the test aperture, but for slow tests and without a cycle (R102, R103). -/
def Block.atSlot (b : Block) (j : Nat) : Block :=
  match b.sense.owtCycle with
  | some t => if b.slowTest then b else b.at (t + 2 * b.testPlace j * rateTicks b.sense.rate - 1400)
  | none => b

@[simp] theorem atSlot_sense (b : Block) (j : Nat) : (b.atSlot j).sense = b.sense := by
  unfold Block.atSlot
  (repeat' split) <;> rfl

@[simp] theorem atSlot_mstate (b : Block) (j : Nat) : (b.atSlot j).sys.mstate = b.sys.mstate := by
  unfold Block.atSlot
  (repeat' split) <;> rfl

@[simp] theorem touches_atSlot {l : List PartName} (hl : .sys ∈ l) (o b : Block) (j : Nat) : o.touches (b.atSlot j) l ↔ o.touches b l := by
  unfold Block.atSlot
  split
  · split
    · rfl
    · exact touches_at hl ..
  · rfl

theorem atSlot_now {b : Block} {j t : Nat} (ht : t ∈ b.sense.owtCycle) (hs : b.slowTest = false) :
    (b.atSlot j).sys.now = max b.sys.now (t + 2 * b.testPlace j * rateTicks b.sense.rate - 1400) := by
  have ht : b.sense.owtCycle = some t := ht
  rw [Block.atSlot, ht]
  simp [hs]

theorem owtSlotBegin_happens {j : Nat} (hn : n.val < s.block.nSeg) (hj : j ≤ s.block.nCell) (ht : s.block.testSeg j = n.val) (ho : (s.block.seg n).owt = none)
    (hl : n.val < s.block.sense.segs.length) : Happens (.owtSlotBegin n j) s [.sys, .sense] fun b =>
      b.seg n = { s.block.seg n with slotOpen := true, owt := some { wire := j, phase := 1, blanked := !pairless j, held := [], result := none } }
      ∧ (∀ t ∈ s.block.sense.owtCycle, s.block.slowTest = false → b.sys.now = max s.block.sys.now (t + 2 * s.block.testPlace j * rateTicks s.block.sense.rate - 1400))
      ∧ ∀ m : Fin 16, m ≠ n → b.seg m = s.block.seg m := by
  have he : doOwtSlotBegin n j s.block =
      onSeg n (fun g => { g with slotOpen := true, owt := some { wire := j, phase := 1, blanked := !pairless j, held := [], result := none } }) (s.block.atSlot j) := by
    rw [doOwtSlotBegin, if_neg (by simp [hn, hj, ht, ho])]
    rfl
  refine happens_plain (f := doOwtSlotBegin n j) rfl (by simp [he]) (by simp [he]) ⟨?_, fun t ht hs => ?_, fun m hm => ?_⟩
  · rw [irqWatch_seg, he, seg_onSeg_self (by simpa using hl), seg_of_sense (atSlot_sense ..)]
  · rw [irqWatch_sys, he]
    exact atSlot_now ht hs
  · rw [irqWatch_seg, he, seg_onSeg_ne (Fin.val_ne_of_ne hm), seg_of_sense (atSlot_sense ..)]

/-- A slot that moves on after its time. -/
theorem owtPhase_eq {b : Block} {k next : Nat} {f : SegSense → SegSense} {ticks : Nat} (ho : (b.seg k).owt = some o) :
    owtPhase k o.phase next f ticks b = onSeg k (fun g => f { g with owt := some { o with phase := next } }) (b.at (b.sys.now + ticks)) := by
  simp [owtPhase, ho]

theorem owtPhase_happens {i : Instr} {g : Block → Block} {next ticks : Nat} {f : SegSense → SegSense} (hi : exec i s = effect g s) (ho : (s.block.seg n).owt = some o)
    (hg : g s.block = owtPhase n o.phase next f ticks s.block) : Happens i s [.sys, .sense] fun b =>
      b.sys.now = s.block.sys.now + ticks ∧ b.seg n = f { s.block.seg n with owt := some { o with phase := next } } := by
  have he := hg.trans (owtPhase_eq ho)
  refine happens_plain hi (by simp [he]) (by simp [he]) ⟨?_, ?_⟩
  · rw [irqWatch_sys, he]
    exact max_eq_right (Nat.le_add_right ..)
  · exact (irqWatch_seg ..).trans ((congrArg (Block.seg · n) he).trans (seg_onSeg_self (seg_lt_of_owt ho)))

theorem owtTestCurrentOn_happens (ho : (s.block.seg n).owt = some o) (hp : o.phase = 1) : Happens (.owtTestCurrentOn n) s [.sys, .sense] fun b =>
    b.sys.now = s.block.sys.now + 200 ∧ b.seg n = { s.block.seg n with owt := some { o with phase := 2 } } :=
  owtPhase_happens (g := doOwtTestCurrentOn n) (f := id) rfl ho (by rw [hp]; rfl)

theorem owtTestCurrentOff_happens (ho : (s.block.seg n).owt = some o) (hp : o.phase = 2) : Happens (.owtTestCurrentOff n) s [.sys, .sense] fun b =>
    b.sys.now = s.block.sys.now + 1300 ∧ b.seg n = { s.block.seg n with owt := some { o with phase := 3 }, slotOpen := false } :=
  owtPhase_happens (g := doOwtTestCurrentOff n) (f := fun g => { g with slotOpen := false }) rfl ho (by rw [hp]; rfl)

theorem owtRestoreOn_happens (ho : (s.block.seg n).owt = some o) (hp : o.phase = 4) (hr : o.result = some 2) : Happens (.owtRestoreOn n) s [.sys, .sense] fun b =>
    b.sys.now = s.block.sys.now + 100 ∧ b.seg n = { s.block.seg n with owt := some { o with phase := 5 } } :=
  owtPhase_happens (g := doOwtRestoreOn n) (f := id) rfl ho (by simp [doOwtRestoreOn, ho, hr, hp])

theorem owtRestoreOff_happens (ho : (s.block.seg n).owt = some o) (hp : o.phase = 5) : Happens (.owtRestoreOff n) s [.sys, .sense] fun b =>
    b.sys.now = s.block.sys.now + 1500 ∧ b.seg n = { s.block.seg n with owt := some { o with phase := 6 } } :=
  owtPhase_happens (g := doOwtRestoreOff n) (f := id) rfl ho (by rw [hp]; rfl)

/-- A blank that ends without an output held back: the slot is over, and with the last wire's the segment's cycle (R102, R103). -/
theorem owtBlankEnd_happens (ho : (s.block.seg n).owt = some o) (hp : o.phase = 6 ∨ (o.phase = 4 ∧ o.result ≠ some 2)) (hh : o.held = []) :
    Happens (.owtBlankEnd n) s [.sys, .sense] fun b =>
      b.sys.now = s.block.sys.now + 100 ∧ b.seg n = { s.block.seg n with owt := none, owtCycles := (s.block.seg n).owtCycles
        + (if o.wire = 32 * n.val + (if n.val + 1 = s.block.nSeg then 32 else 31) then 1 else 0) } := by
  have he : doOwtBlankEnd n s.block = (onSeg n (fun g => { g with
      owt := none
      owtCycles := if (o.wire == 32 * n.val + (if n.val + 1 = s.block.nSeg then 32 else 31)) = true then g.owtCycles + 1 else g.owtCycles })
      (s.block.at (s.block.sys.now + 100))).touch integTiles := by
    have hc : ¬(!(o.phase == 6 || (o.phase == 4 && o.result != some 2))) = true := by simpa [or_iff_not_imp_left] using hp
    simp only [doOwtBlankEnd, ho, if_neg hc, hh, List.foldl_nil]
  refine happens_plain (f := doOwtBlankEnd n) rfl (by simp [he]) (by simp [he]) ⟨?_, ?_⟩
  · rw [irqWatch_sys, he]
    exact max_eq_right (Nat.le_add_right ..)
  · rw [irqWatch_seg, he, seg_of_sense (Block.touch_sense ..), seg_onSeg_self (b := s.block.at _) (seg_lt_of_owt ho), seg_of_sense (Block.at_sense ..)]
    by_cases hw : o.wire = 32 * n.val + (if n.val + 1 = s.block.nSeg then 32 else 31)
    · simp [hw]
    · simp [hw]

end
end Sys2Proof.Machine

namespace Sys2Proof.Machine

/-! ### A change of module state leaves the sensing but for the schedule of its rate (R171, R173) -/

/-- The sensing but for a change of rate that waits. -/
def SensePart.unscheduled (x : SensePart) : SensePart := { x with pendingRate := none }

theorem hibernateExit_unscheduled (b : Block) : (hibernateExit b).sense.unscheduled = b.sense.unscheduled := by
  unfold hibernateExit
  refine (foldl_keeps (fun b : Block => b.sense.unscheduled) _ (fun b p => ?_) _ _).trans rfl
  split <;> rfl

theorem onEntry_unscheduled (m : MState) (b : Block) : (onEntry_ m b).sense.unscheduled = b.sense.unscheduled := by
  cases m <;> simp [onEntry_, scheduleRate, SensePart.unscheduled]

theorem leaveRun_sense (m : MState) (b : Block) : (leaveRun m b).sense = b.sense := by
  unfold leaveRun
  dsimp only
  split
  · split <;> simp
  · simp

theorem enterState_unscheduled (m : MState) (cause : Nat) (b : Block) : (enterState m cause b).sense.unscheduled = b.sense.unscheduled := by
  simp [enterState, changeState, changeNow, deferState, apply_ite Block.sense, apply_ite SensePart.unscheduled, hibernateExit_unscheduled, onEntry_unscheduled, leaveRun_sense]

theorem raise_unscheduled (e : Event) (a : Nat) (d : List Nat) (b : Block) : (raise e a d b).sense.unscheduled = b.sense.unscheduled := by
  simp [raise, apply_ite Block.sense, apply_ite SensePart.unscheduled, enterState_unscheduled]

section
variable {a b : Block}

theorem wires_of_unscheduled (h : a.sense.unscheduled = b.sense.unscheduled) : a.sense.wires = b.sense.wires := by have k := congrArg SensePart.wires h; exact k
theorem cells_of_unscheduled (h : a.sense.unscheduled = b.sense.unscheduled) : a.sense.cells = b.sense.cells := by have k := congrArg SensePart.cells h; exact k
theorem testWire_of_unscheduled (h : a.sense.unscheduled = b.sense.unscheduled) : a.sense.testWire = b.sense.testWire := by
  have k := congrArg SensePart.testWire h; exact k
theorem clearOpen_of_unscheduled (h : a.sense.unscheduled = b.sense.unscheduled) : a.sense.clearOpen = b.sense.clearOpen := by
  have k := congrArg SensePart.clearOpen h; exact k

end
end Sys2Proof.Machine

namespace Sys2Proof.Machine

/-! ### The test of a wire judged (R103 to R105) -/

/-- The block when a slot's result is there, 3 µs after the test current is off (R103). -/
def Block.classified (b : Block) (n : Nat) (o : OwtSlot) (res : Nat) : Block :=
  onSeg n (fun g => { g with owt := some { o with phase := 4, result := some res } }) (b.at (b.sys.now + 300))

theorem doOwtClassify_eq {b : Block} {n : Nat} {o : OwtSlot} (rd : OwtReading) (ho : (b.seg n).owt = some o) (hp : o.phase = 3) : doOwtClassify n rd b =
    answerClear o.wire (b.classify o.wire rd).1 (answerTest o.wire (b.classify o.wire rd).1 (b.classify o.wire rd).2 rd
      (judge o.wire (b.classify o.wire rd).1 (b.classify o.wire rd).2 rd (b.classified n o (b.classify o.wire rd).1))) := by
  simp [doOwtClassify, ho, hp, Block.classified]

theorem answerTest_none {b : Block} (h : b.sense.testWire = none) (j res : Nat) (dT : Int) (rd : OwtReading) : answerTest j res dT rd b = b := by
  rw [answerTest, h]

theorem answerClear_none {b : Block} (h : b.sense.clearOpen = none) (j res : Nat) : answerClear j res b = b := by
  rw [answerClear, h]

/-- The block once the sums of conditions 2 and 3 are counted; a bottom wire and a test without a pair channel have none (R105, R565). -/
def Block.summed (b : Block) (j : Nat) (rd : OwtReading) : Block := if pairless j || rd.pair.isNone then b else countSums (b.testSeg j) (b.sumsHold rd) b

@[simp] theorem touches_summed {l : List PartName} (hl : .sense ∈ l) (o b : Block) (j : Nat) (rd : OwtReading) : o.touches (b.summed j rd) l ↔ o.touches b l := by
  simp [Block.summed, countSums, hl]

/-- The count stands in one segment; nothing else of the sensing changes. -/
theorem summed_sense (b : Block) (j : Nat) (rd : OwtReading) :
    ∃ n k, (b.summed j rd).sense = b.sense ∨ (b.summed j rd).sense = { b.sense with segs := modAt b.sense.segs n fun g => { g with sumFails := k } } := by
  unfold Block.summed
  split
  · exact ⟨0, 0, .inl rfl⟩
  · refine ⟨b.testSeg j, if b.sumsHold rd = true then 0 else (b.seg (b.testSeg j)).sumFails + 1, .inr ?_⟩
    simp [countSums, apply_ite Block.sense, onSeg]

/-- What of the sensing does not read the failed sums is as it was. -/
theorem summed_keeps {α : Type} (g : SensePart → α) (h : ∀ x n k, g { x with segs := modAt x.segs n fun y => { y with sumFails := k } } = g x) (b : Block) (j : Nat)
    (rd : OwtReading) : g (b.summed j rd).sense = g b.sense := by
  obtain ⟨n, k, hs | hs⟩ := summed_sense b j rd
  · rw [hs]
  · rw [hs, h]

theorem summed_wires (b : Block) (j : Nat) (rd : OwtReading) : (b.summed j rd).sense.wires = b.sense.wires := summed_keeps SensePart.wires (fun _ _ _ => rfl) b j rd
theorem summed_cells (b : Block) (j : Nat) (rd : OwtReading) : (b.summed j rd).sense.cells = b.sense.cells := summed_keeps SensePart.cells (fun _ _ _ => rfl) b j rd
theorem summed_testWire (b : Block) (j : Nat) (rd : OwtReading) : (b.summed j rd).sense.testWire = b.sense.testWire :=
  summed_keeps SensePart.testWire (fun _ _ _ => rfl) b j rd
theorem summed_clearOpen (b : Block) (j : Nat) (rd : OwtReading) : (b.summed j rd).sense.clearOpen = b.sense.clearOpen :=
  summed_keeps SensePart.clearOpen (fun _ _ _ => rfl) b j rd

theorem summed_owt (b : Block) (j m : Nat) (rd : OwtReading) : ((b.summed j rd).seg m).owt = (b.seg m).owt :=
  summed_keeps (fun x => (x.segs.getD m SegSense.reset).owt) (fun _ _ _ => getD_modAt_keeps SegSense.owt fun _ => rfl) b j rd

theorem summed_pairs (b : Block) (j m : Nat) (rd : OwtReading) : ((b.summed j rd).seg m).pairs = (b.seg m).pairs :=
  summed_keeps (fun x => (x.segs.getD m SegSense.reset).pairs) (fun _ _ _ => getD_modAt_keeps SegSense.pairs fun _ => rfl) b j rd

/-- The block that is judged: the slot's result is there, and the sums are counted. -/
def Block.tested (b : Block) (n : Nat) (o : OwtSlot) (rd : OwtReading) : Block := (b.classified n o (b.classify o.wire rd).1).summed o.wire rd

section
variable {b : Block} {n : Nat} {o : OwtSlot} {rd : OwtReading}

@[simp] theorem touches_tested {l : List PartName} (hy : .sys ∈ l) (hl : .sense ∈ l) (a : Block) : a.touches (b.tested n o rd) l ↔ a.touches b l := by
  simp [Block.tested, Block.classified, hy, hl]

theorem tested_sys : (b.tested n o rd).sys = { b.sys with now := b.sys.now + 300 } := by
  have h : (b.tested n o rd).sys = (b.at (b.sys.now + 300)).sys :=
    (touches_summed (l := [.sense]) (by decide) _ _ _ _).mpr (touches_onSeg (by decide) _ _ _ _ |>.mpr (touches_refl _ _)) .sys (by decide) (by decide)
  rw [h, Block.at_sys, max_eq_right (Nat.le_add_right ..)]

theorem tested_mstate : (b.tested n o rd).sys.mstate = b.sys.mstate := by rw [tested_sys]

theorem tested_wire (j : Nat) : (b.tested n o rd).wire j = b.wire j := congrArg (fun w => List.getD w j Wire.reset) (summed_wires _ _ _)
theorem tested_wires : (b.tested n o rd).sense.wires = b.sense.wires := summed_wires ..
theorem tested_cells : (b.tested n o rd).sense.cells = b.sense.cells := summed_cells ..
theorem tested_testWire : (b.tested n o rd).sense.testWire = b.sense.testWire := summed_testWire ..
theorem tested_clearOpen : (b.tested n o rd).sense.clearOpen = b.sense.clearOpen := summed_clearOpen ..

theorem tested_owt (ho : (b.seg n).owt = some o) : ((b.tested n o rd).seg n).owt = some { o with phase := 4, result := some (b.classify o.wire rd).1 } := by
  rw [Block.tested, summed_owt, Block.classified, seg_onSeg_self (b := b.at _) (seg_lt_of_owt ho)]

theorem tested_pairs (m : Nat) : ((b.tested n o rd).seg m).pairs = (b.seg m).pairs :=
  (summed_pairs ..).trans (getD_modAt_keeps SegSense.pairs fun _ => rfl)

end
end Sys2Proof.Machine

namespace Sys2Proof.Machine

/-! ### Tests that leave the converter: intact, resistive, and the first open pattern (R104, R105) -/

section
variable {s : State} {n : Fin 16} {o : OwtSlot} {rd : OwtReading}

/-- A test that marks its wire and asks for nothing else. -/
theorem owtClassify_marks {f : Wire → Wire} {y : Block} (ho : (s.block.seg n).owt = some o) (hp : o.phase = 3)
    (hj : judge o.wire (s.block.classify o.wire rd).1 (s.block.classify o.wire rd).2 rd (s.block.classified n o (s.block.classify o.wire rd).1) = y)
    (hy : (onWire o.wire f (s.block.tested n o rd)).touches y []) (ht : s.block.sense.testWire = none) (hc : s.block.sense.clearOpen = none)
    (hl : o.wire < s.block.sense.wires.length) : Happens (.owtClassify n rd) s [.sys, .sense] fun b =>
      b.sys.now = s.block.sys.now + 300 ∧ (b.seg n).owt = some { o with phase := 4, result := some (s.block.classify o.wire rd).1 }
      ∧ b.wire o.wire = f (s.block.wire o.wire) ∧ ∀ j < 513, j ≠ o.wire → b.wire j = s.block.wire j := by
  have hsys : y.sys = { s.block.sys with now := s.block.sys.now + 300 } := (hy .sys (by decide) (by decide)).trans tested_sys
  have hsense : y.sense = (onWire o.wire f (s.block.tested n o rd)).sense := hy .sense (by decide) (by decide)
  have hty : y.sense.testWire = none := by rw [hsense]; exact tested_testWire.trans ht
  have hcy : y.sense.clearOpen = none := by rw [hsense]; exact tested_clearOpen.trans hc
  have he : doOwtClassify n rd s.block = y := by rw [doOwtClassify_eq rd ho hp, hj, answerTest_none hty, answerClear_none hcy]
  have htouch : s.block.touches y [.sys, .sense] := Block.touches.trans (by simp) (hy.mono (List.nil_subset _))
  refine happens_plain (f := doOwtClassify n rd) rfl (by rwa [he]) (by rw [he, hsys]) ⟨?_, ?_, ?_, fun j _ hne => ?_⟩
  · rw [irqWatch_sys, he, hsys]
  · rw [irqWatch_seg, he, seg_of_sense hsense]
    exact tested_owt ho
  · rw [irqWatch_wire, he, wire_of_sense hsense, wire_onWire_self (by rwa [tested_wires]), tested_wire]
  · rw [irqWatch_wire, he, wire_of_sense hsense, wire_onWire_ne hne, tested_wire]

/-- The block in which a wire has been found intact (R104). -/
def Block.foundIntact (b : Block) (n : Nat) (o : OwtSlot) (rd : OwtReading) : Block :=
  (onWire o.wire (fun w => { w with patterns := 0, susp := w.opened }) (b.tested n o rd)).touch (wireTiles o.wire)

theorem judge_intact {b : Block} {n : Nat} (hr : (b.classify o.wire rd).1 = 0) :
    judge o.wire (b.classify o.wire rd).1 (b.classify o.wire rd).2 rd (b.classified n o (b.classify o.wire rd).1) = b.foundIntact n o rd := by
  rw [Block.foundIntact, Block.tested, hr]
  rfl

theorem owtClassify_intact (ho : (s.block.seg n).owt = some o) (hp : o.phase = 3) (hr : (s.block.classify o.wire rd).1 = 0) (ht : s.block.sense.testWire = none)
    (hc : s.block.sense.clearOpen = none) (hl : o.wire < s.block.sense.wires.length) : Happens (.owtClassify n rd) s [.sys, .sense] fun b =>
      b.sys.now = s.block.sys.now + 300 ∧ (b.seg n).owt = some { o with phase := 4, result := some 0 }
      ∧ b.wire o.wire = { s.block.wire o.wire with patterns := 0, susp := (s.block.wire o.wire).opened } ∧ ∀ j < 513, j ≠ o.wire → b.wire j = s.block.wire j := by
  have h := owtClassify_marks (rd := rd) (f := fun w => { w with patterns := 0, susp := w.opened }) ho hp (judge_intact hr) (by simp [Block.foundIntact]) ht hc hl
  rwa [hr] at h

theorem owtClassify_resistive (ho : (s.block.seg n).owt = some o) (hp : o.phase = 3) (hr : (s.block.classify o.wire rd).1 = 1) (ht : s.block.sense.testWire = none)
    (hc : s.block.sense.clearOpen = none) (hl : o.wire < s.block.sense.wires.length) : Happens (.owtClassify n rd) s [.sys, .sense] fun b =>
      (b.seg n).owt = some { o with phase := 4, result := some 1 } ∧ b.wire o.wire = { s.block.wire o.wire with patterns := 0, susp := true } := by
  let x := onWire o.wire (fun w => { w with patterns := 0, susp := true }) (s.block.tested n o rd)
  have h := owtClassify_marks (rd := rd) (f := fun w => { w with patterns := 0, susp := true })
    (y := (if (s.block.wire o.wire).susp then x else note .wireResistive o.wire [(|(s.block.classify o.wire rd).2| * 10000).toNat] x).touch (wireTiles o.wire))
    ho hp ?_ (by simp [x]) ht hc hl
  · rw [hr] at h
    exact h.mono fun b hb => ⟨hb.2.1, hb.2.2.1⟩
  · simp only [x, Block.tested, hr]
    rfl

/-- An open pattern that the conditions of R105 confirm counts towards the report of its wire. -/
theorem judge_pattern {b : Block} {j : Nat} (dT : Int) (h0 : j ≠ 0) (hN : j ≠ b.nCell) (hl : pairless j = false) (hpair : b.pairHolds j rd = true)
    (hsum : b.sumsHold rd = true) : judge j 2 dT rd b = countPattern j rd.pair (b.summed j rd) := by
  have he : (j == 0 || j == b.nCell) = false := by simp [h0, hN]
  simp [judge, Block.summed, he, hl, hpair, hsum]

/-- A pair channel that disagrees with its two cells is an anomaly, whatever else the test found (R105). -/
theorem judge_anomaly {b : Block} {j res : Nat} (dT : Int) (hr : 2 ≤ res) (h0 : j ≠ 0) (hN : j ≠ b.nCell) (hl : pairless j = false) (hpair : b.pairHolds j rd = false) :
    judge j res dT rd b = raise .cellPairAnomaly j [] (notJudged j (b.summed j rd)) := by
  have he : (j == 0 || j == b.nCell) = false := by simp [h0, hN]
  match res, hr with
  | 2, _ => simp [judge, Block.summed, he, hl, hpair]
  | _ + 3, _ => simp [judge, Block.summed, he, hl, hpair]

theorem judge_tested_pattern {b : Block} {n : Nat} (hr : (b.classify o.wire rd).1 = 2) (h0 : o.wire ≠ 0) (hN : o.wire ≠ b.nCell) (hl : pairless o.wire = false)
    (hpair : b.pairHolds o.wire rd = true) (hsum : b.sumsHold rd = true) :
    judge o.wire (b.classify o.wire rd).1 (b.classify o.wire rd).2 rd (b.classified n o (b.classify o.wire rd).1) = countPattern o.wire rd.pair (b.tested n o rd) := by
  rw [Block.tested, hr]
  exact judge_pattern _ h0 hN hl hpair hsum

theorem countPattern_first {b : Block} {j : Nat} (v : Option Int) (hk : (b.wire j).patterns = 0) (ho : (b.wire j).opened = false) :
    countPattern j v b = (note .senseSuspect j [] (onWire j (fun w => { w with patterns := 1, susp := true }) b)).touch (wireTiles j) := by
  simp [countPattern, hk, ho]

theorem countPattern_second {b : Block} {j : Nat} (v : Option Int) (hk : (b.wire j).patterns = 1) (ho : (b.wire j).opened = false) :
    countPattern j v b = reportOpen j v (onWire j (fun w => { w with patterns := 2, susp := true }) b) := by
  simp [countPattern, hk, ho]

theorem owtClassify_suspect (ho : (s.block.seg n).owt = some o) (hp : o.phase = 3) (hr : (s.block.classify o.wire rd).1 = 2) (ht : s.block.sense.testWire = none)
    (hc : s.block.sense.clearOpen = none) (hl : o.wire < s.block.sense.wires.length) (h0 : o.wire ≠ 0) (hN : o.wire ≠ s.block.nCell) (hpl : pairless o.wire = false)
    (hpair : s.block.pairHolds o.wire rd = true) (hsum : s.block.sumsHold rd = true) (hk : (s.block.wire o.wire).patterns = 0)
    (hop : (s.block.wire o.wire).opened = false) : Happens (.owtClassify n rd) s [.sys, .sense] fun b =>
      (b.seg n).owt = some { o with phase := 4, result := some 2 } ∧ b.wire o.wire = { s.block.wire o.wire with patterns := 1, susp := true } := by
  have h := owtClassify_marks (rd := rd) (f := fun w => { w with patterns := 1, susp := true }) ho hp
    ((judge_tested_pattern hr h0 hN hpl hpair hsum).trans (countPattern_first _ (by rwa [tested_wire]) (by rwa [tested_wire]))) (by simp) ht hc hl
  rw [hr] at h
  exact h.mono fun b hb => ⟨hb.2.1, hb.2.2.1⟩

end
end Sys2Proof.Machine

namespace Sys2Proof.Machine

/-! ### Pair mode, and the report of an open wire (R105, R106) -/

section
variable {l : List PartName} {j : Nat} {v : Option Int} {b : Block}

@[simp] theorem touches_pairMode (hs : .sense ∈ l) (hr : .ring ∈ l) (hh : .leash ∈ l) (ht : .latch ∈ l) (hf : .flt ∈ l) (o b : Block) :
    o.touches (pairMode j v b) l ↔ o.touches b l := by
  unfold pairMode
  dsimp only
  split
  · rfl
  · simp [hs, hr, hh, ht, hf]

theorem pairMode_settled (h : b.settled = true) : (pairMode j v b).settled = true := by
  unfold pairMode
  dsimp only
  split
  · exact h
  · exact dropTrips_settled _ ((settled_of_touches (l := [.sense, .flt]) (by simp) rfl (by decide)).trans h)

/-- Pair mode changes cells and segments of the sensing. -/
theorem pairMode_sense (j : Nat) (v : Option Int) (b : Block) : ∃ cs gs, (pairMode j v b).sense = { b.sense with cells := cs, segs := gs } := by
  unfold pairMode
  dsimp only
  split
  · exact ⟨_, _, rfl⟩
  · rw [dropTrips_sense]
    exact ⟨_, _, rfl⟩

/-- A cell whose reading is half the pair channel (R106). -/
def CellSense.paired (x : CellSense) : CellSense := { x with pair := true, degr := true }

theorem pairMode_cells (hl : pairless j = false) (hn : (b.seg (segOf j)).pairs.length < 2) (h1 : (b.cell j).pair = false) (h2 : (b.cell (j - 1)).pair = false) :
    (pairMode j v b).sense.cells = modAt (modAt b.sense.cells (j - 1) CellSense.paired) j CellSense.paired := by
  rw [pairMode, if_neg (by simp [hl, h1, h2, hn])]
  dsimp only
  rw [dropTrips_sense]
  rfl

/-- Both cells of the wire are in pair mode. -/
theorem pairMode_pairs (hl : pairless j = false) (hn : (b.seg (segOf j)).pairs.length < 2) (h1 : (b.cell j).pair = false) (h2 : (b.cell (j - 1)).pair = false) (h0 : j ≠ 0)
    (hc : j < b.sense.cells.length) : ((pairMode j v b).cell j).pair = true ∧ ((pairMode j v b).cell (j - 1)).pair = true := by
  rw [Block.cell, Block.cell, pairMode_cells hl hn h1 h2]
  constructor
  · rw [getD_modAt_self (by simpa [modAt] using hc)]
    rfl
  · rw [getD_modAt_ne (by omega), getD_modAt_self (by omega)]
    rfl

/-- A wire that is reported open, in pair mode, before the reports that stop the converter (R105, R106). -/
def Block.paired (b : Block) (j : Nat) (v : Option Int) : Block := note .senseOpen j [] (pairMode j v (onWire j (fun w => { w with opened := true, susp := true }) b))

/-- The report of an interior wire that ends no segment stops the converter by SENSE_OPEN_MULTI at most (R105, R107). -/
theorem reportOpen_cases (v : Option Int) (h0 : j ≠ 0) (hN : j ≠ b.nCell) (hl : pairless j = false) :
    reportOpen j v b = (b.paired j v).touch (wireTiles j) ∨ reportOpen j v b = (raise .senseOpenMulti j [] (b.paired j v)).touch (wireTiles j) := by
  unfold reportOpen
  extract_lets n others beside isEnd b1 b2 b3 b4
  have h3 : b3 = b.paired j v := if_neg (by simp [isEnd, h0, hN])
  rw [hl, if_neg (by decide)]
  simp only [b4, h3]
  split
  · exact .inr rfl
  · exact .inl rfl

/-- A property that the tiles and SENSE_OPEN_MULTI keep holds of the reported block if it holds of the one in pair mode. -/
theorem reportOpen_induct {P : Block → Prop} (v : Option Int) (h0 : j ≠ 0) (hN : j ≠ b.nCell) (hl : pairless j = false)
    (ht : ∀ c : Block, P c → P (c.touch (wireTiles j))) (hr : ∀ c, P c → P (raise .senseOpenMulti j [] c)) (h : P (b.paired j v)) : P (reportOpen j v b) := by
  obtain he | he := reportOpen_cases v h0 hN hl
  · rw [he]
    exact ht _ h
  · rw [he]
    exact ht _ (hr _ h)

theorem reportOpen_settled (v : Option Int) (h0 : j ≠ 0) (hN : j ≠ b.nCell) (hl : pairless j = false) (h : b.settled = true) : (reportOpen j v b).settled = true := by
  refine reportOpen_induct (P := fun c => c.settled = true) v h0 hN hl (fun c hc => by rwa [touch_settled]) (fun c hc => raise_settled _ _ _ hc) ?_
  rw [Block.paired, note_settled]
  exact pairMode_settled ((settled_of_touches (l := [.sense]) (by simp) rfl (by decide)).trans h)

theorem reportOpen_touches {o : Block} (v : Option Int) (h0 : j ≠ 0) (hN : j ≠ b.nCell) (hl : pairless j = false) (h : o.touches b ([.ring] ++ actedOn)) :
    o.touches (reportOpen j v b) ([.ring] ++ actedOn) := by
  refine reportOpen_induct (P := fun c => o.touches c ([.ring] ++ actedOn)) v h0 hN hl (fun c hc => by rwa [touches_touch]) (fun c hc => by rwa [touches_raise (by decide)]) ?_
  rw [Block.paired, touches_note, touches_pairMode (by decide) (by decide) (by decide) (by decide) (by decide), touches_onWire (by decide)]
  exact h

theorem reportOpen_unscheduled (v : Option Int) (h0 : j ≠ 0) (hN : j ≠ b.nCell) (hl : pairless j = false) :
    (reportOpen j v b).sense.unscheduled = (pairMode j v (onWire j (fun w => { w with opened := true, susp := true }) b)).sense.unscheduled := by
  refine reportOpen_induct (P := fun c => c.sense.unscheduled = _) v h0 hN hl (fun c hc => by rwa [Block.touch_sense]) (fun c hc => by rwa [raise_unscheduled]) ?_
  rw [Block.paired, note_sense]

end
end Sys2Proof.Machine

namespace Sys2Proof.Machine

/-! ### Tests that report an open wire or an anomaly (R105, R106) -/

section
variable {s : State} {n : Fin 16} {o : OwtSlot} {rd : OwtReading}

/-- The second open pattern in consecutive cycles confirms the wire open, and its two cells go to pair mode where the segment has room (R105, R106). -/
theorem owtClassify_open (ho : (s.block.seg n).owt = some o) (hp : o.phase = 3) (hr : (s.block.classify o.wire rd).1 = 2) (ht : s.block.sense.testWire = none)
    (hc : s.block.sense.clearOpen = none) (hl : o.wire < s.block.sense.wires.length) (h0 : o.wire ≠ 0) (hN : o.wire ≠ s.block.nCell) (hpl : pairless o.wire = false)
    (hpair : s.block.pairHolds o.wire rd = true) (hsum : s.block.sumsHold rd = true) (hk : (s.block.wire o.wire).patterns = 1)
    (hop : (s.block.wire o.wire).opened = false) : Happens (.owtClassify n rd) s ([.ring] ++ actedOn) fun b =>
      (b.wire o.wire).opened = true ∧ (b.wire o.wire).susp = true
      ∧ ((s.block.seg (segOf o.wire)).pairs.length < 2 → (s.block.cell o.wire).pair = false → (s.block.cell (o.wire - 1)).pair = false → o.wire < s.block.sense.cells.length →
          segOf o.wire < s.block.sense.segs.length → (b.cell o.wire).pair = true ∧ (b.cell (o.wire - 1)).pair = true) := by
  let x := onWire o.wire (fun w => { w with patterns := 2, susp := true }) (s.block.tested n o rd)
  let z := onWire o.wire (fun w => { w with opened := true, susp := true }) x
  let y := reportOpen o.wire rd.pair x
  have hx : s.block.touches x [.sys, .sense] := by simp [x]
  have hnx : o.wire ≠ x.nCell := by
    rw [Block.nCell, nSeg_of_variant (a := x) (b := s.block) (by rw [show x.sys = _ from tested_sys])]
    exact hN
  have hj : judge o.wire (s.block.classify o.wire rd).1 (s.block.classify o.wire rd).2 rd (s.block.classified n o (s.block.classify o.wire rd).1) = y :=
    (judge_tested_pattern hr h0 hN hpl hpair hsum).trans (countPattern_second _ (by rwa [tested_wire]) (by rwa [tested_wire]))
  have hu : y.sense.unscheduled = (pairMode o.wire rd.pair z).sense.unscheduled := reportOpen_unscheduled _ h0 hnx hpl
  obtain ⟨cs, gs, hz⟩ := pairMode_sense o.wire rd.pair z
  have hty : y.sense.testWire = none := by
    rw [testWire_of_unscheduled hu, hz]
    exact tested_testWire.trans ht
  have hcy : y.sense.clearOpen = none := by
    rw [clearOpen_of_unscheduled hu, hz]
    exact tested_clearOpen.trans hc
  have he : doOwtClassify n rd s.block = y := by rw [doOwtClassify_eq rd ho hp, hj, answerTest_none hty, answerClear_none hcy]
  have hwire : (irqWatch s.block (doOwtClassify n rd s.block)).wire o.wire = { x.wire o.wire with opened := true, susp := true } := by
    have hw : y.sense.wires = z.sense.wires := by rw [wires_of_unscheduled hu, hz]
    have hlx : o.wire < x.sense.wires.length := by simpa [x, onWire, modAt, tested_wires] using hl
    rw [irqWatch_wire, he, Block.wire, hw]
    exact wire_onWire_self hlx
  have hset : x.settled = s.block.settled := settled_of_touches hx (by rw [show x.sys = _ from tested_sys]) (by decide)
  refine happens_touching (f := doOwtClassify n rd) rfl ?_ (fun h => ?_) ⟨by rw [hwire], by rw [hwire], fun hroom hc1 hc2 hlen _ => ?_⟩
  · rw [he]
    exact reportOpen_touches _ h0 hnx hpl (hx.mono (by decide))
  · rw [he]
    exact reportOpen_settled _ h0 hnx hpl (hset.trans h)
  · have hcells : z.sense.cells = s.block.sense.cells := tested_cells
    have hcell (c : Nat) : z.cell c = s.block.cell c := by rw [Block.cell, Block.cell, hcells]
    have hb (c : Nat) : (irqWatch s.block (doOwtClassify n rd s.block)).cell c = (pairMode o.wire rd.pair z).cell c := by
      rw [Block.cell, Block.cell, irqWatch_sense, he, cells_of_unscheduled hu]
    have hroom' : (z.seg (segOf o.wire)).pairs.length < 2 := by rwa [show (z.seg (segOf o.wire)).pairs = _ from tested_pairs _]
    rw [hb, hb]
    exact pairMode_pairs hpl hroom' (by rwa [hcell]) (by rwa [hcell]) h0 (by rwa [hcells])

/-- A pair channel that disagrees with its cells takes the module to FAULT and leaves the wire's report (R105). -/
theorem owtClassify_anomaly (ho : (s.block.seg n).owt = some o) (hp : o.phase = 3) (hr : 2 ≤ (s.block.classify o.wire rd).1) (ht : s.block.sense.testWire = none)
    (hc : s.block.sense.clearOpen = none) (h0 : o.wire ≠ 0) (hN : o.wire ≠ s.block.nCell) (hpl : pairless o.wire = false) (hpair : s.block.pairHolds o.wire rd = false) :
    Happens (.owtClassify n rd) s controlled fun b => s.block.raised b .cellPairAnomaly o.wire ∧ (b.wire o.wire).opened = (s.block.wire o.wire).opened := by
  let x := notJudged o.wire (s.block.tested n o rd)
  have hx : s.block.touches x [.sys, .sense] := by simp [x, notJudged]
  have hsys : x.sys = { s.block.sys with now := s.block.sys.now + 300 } := tested_sys
  have hpwr : x.pwr = s.block.pwr := hx .pwr (by decide) (by decide)
  have hu := raise_unscheduled .cellPairAnomaly o.wire [] x
  have hty : (raise .cellPairAnomaly o.wire [] x).sense.testWire = none := (testWire_of_unscheduled hu).trans (tested_testWire.trans ht)
  have hcy : (raise .cellPairAnomaly o.wire [] x).sense.clearOpen = none := (clearOpen_of_unscheduled hu).trans (tested_clearOpen.trans hc)
  have he : doOwtClassify n rd s.block = raise .cellPairAnomaly o.wire [] x := by
    have hj := judge_anomaly (b := s.block.classified n o (s.block.classify o.wire rd).1) (s.block.classify o.wire rd).2 hr h0 hN hpl hpair
    rw [doOwtClassify_eq rd ho hp, hj]
    exact (congrArg (answerClear _ _) (answerTest_none hty ..)).trans (answerClear_none hcy ..)
  refine happens_touching (f := doOwtClassify n rd) rfl ?_ (fun h => ?_) ⟨?_, ?_⟩
  · rw [he, touches_raise (by decide)]
    exact hx.mono (by decide)
  · rw [he]
    exact raise_settled _ _ _ ((settled_of_touches hx (by rw [hsys]) (by decide)).trans h)
  · have h := raise_raised .cellPairAnomaly o.wire [] (o := s.block) (b := x) rfl (by rw [Block.hinge, Block.hinge, hpwr]) (by rw [hsys])
    simpa only [Block.raised, irqWatch_sys, he] using h
  · rw [irqWatch_wire, he, Block.wire, wires_of_unscheduled hu]
    exact (getD_modAt_keeps (f := fun w : Wire => { w with patterns := 0 }) Wire.opened fun _ => rfl).trans (congrArg Wire.opened (tested_wire (b := s.block) o.wire))

end
end Sys2Proof.Machine

namespace Sys2Proof.Machine

/-! ### Tests that a host command waits for (R108, R115) -/

section
variable {b : Block} {j : Nat}

theorem answerTest_asked {src : Src} (h : b.sense.testWire = some (src, j)) (res : Nat) (dT : Int) (rd : OwtReading) : answerTest j res dT rd b =
    complete src .ok (leBytes 1 res ++ leBytes 4 (s32Word (some dT)).toNat ++ leBytes 4 (s32Word (if pairless j then none else rd.pair)).toNat)
      (b.onSense fun y => { y with testWire := none }) := by
  simp [answerTest, h]

/-- The last of the tests, all of them intact, clears the report. -/
theorem answerClear_last {src : Src} (h : b.sense.clearOpen = some (src, j, 1, true)) :
    answerClear j 0 b = complete src .ok [] (clearReport j (b.onSense fun y => { y with clearOpen := none })) := by
  simp [answerClear, h]

/-- A wire whose report has ended. -/
def Wire.cleared (w : Wire) : Wire := { w with opened := false, susp := false, patterns := 0 }

theorem clearReport_sense (j : Nat) (b : Block) : ∃ cs gs, (clearReport j b).sense = { b.sense with cells := cs, segs := gs, wires := modAt b.sense.wires j Wire.cleared } := by
  unfold clearReport
  dsimp only
  rw [Block.touch_sense, note_sense, dropTrips_sense]
  split
  · exact ⟨_, _, rfl⟩
  · exact ⟨_, _, rfl⟩

@[simp] theorem touches_clearReport {l : List PartName} (hs : .sense ∈ l) (hr : .ring ∈ l) (hh : .leash ∈ l) (ht : .latch ∈ l) (o b : Block) (j : Nat) :
    o.touches (clearReport j b) l ↔ o.touches b l := by
  simp [clearReport, hs, hr, hh, ht]

theorem clearReport_settled (j : Nat) (h : b.settled = true) : (clearReport j b).settled = true := by
  unfold clearReport
  extract_lets had b1 set b2
  rw [touch_settled, note_settled]
  refine dropTrips_settled _ ((settled_of_touches (l := [.sense]) ?_ ?_ (by decide)).trans h)
  · simp [b2, b1]
  · simp [b2, b1, apply_ite Block.sys, apply_ite SysPart.mstate]

/-- A request whose entry the cache still holds is answered. -/
theorem answered_complete_held {o : Block} {i q : Nat} {st : Status} {d : List Byte} (hx : b.ix = o.ix) (hq : (o.entry? i q).isSome = true) :
    (complete (.session i q) st d b).answered (.session i q) st d := by
  refine complete_answered fun i' q' hs => ?_
  obtain ⟨rfl, rfl⟩ : i = i' ∧ q = q' := by simpa using hs
  obtain ⟨e, he⟩ := Option.isSome_iff_exists.mp hq
  exact ⟨e, by rwa [Block.entry?, Block.session, hx]⟩

end

section
variable {s : State} {n : Fin 16} {o : OwtSlot} {rd : OwtReading} {i q : Nat}

theorem touches_foundIntact : s.block.touches (s.block.foundIntact n o rd) [.sys, .sense] := by simp [Block.foundIntact]
theorem foundIntact_testWire : (s.block.foundIntact n o rd).sense.testWire = s.block.sense.testWire := tested_testWire
theorem foundIntact_clearOpen : (s.block.foundIntact n o rd).sense.clearOpen = s.block.sense.clearOpen := tested_clearOpen

theorem owtClassify_answers (ho : (s.block.seg n).owt = some o) (hp : o.phase = 3) (hr : (s.block.classify o.wire rd).1 = 0)
    (ht : s.block.sense.testWire = some (.session i q, o.wire)) (hc : s.block.sense.clearOpen = none) (hq : (s.block.entry? i q).isSome = true) :
    Happens (.owtClassify n rd) s [.sys, .sense, .ix, .pwr] fun b =>
      b.sense.testWire = none ∧ b.answered (.session i q) .ok
        (leBytes 1 0 ++ leBytes 4 (s32Word (some (s.block.classify o.wire rd).2)).toNat ++ leBytes 4 (s32Word (if pairless o.wire then none else rd.pair)).toNat) := by
  let x := (s.block.foundIntact n o rd).onSense fun y => { y with testWire := none }
  let data := leBytes 1 0 ++ leBytes 4 (s32Word (some (s.block.classify o.wire rd).2)).toNat ++ leBytes 4 (s32Word (if pairless o.wire then none else rd.pair)).toNat
  have hx : s.block.touches x [.sys, .sense] := (touches_onSense (by decide) ..).mpr touches_foundIntact
  have he : doOwtClassify n rd s.block = complete (.session i q) .ok data x := by
    rw [doOwtClassify_eq rd ho hp, judge_intact hr, answerTest_asked (foundIntact_testWire.trans ht), hr]
    exact answerClear_none (by rw [complete_sense]; exact foundIntact_clearOpen.trans hc) ..
  have hm : x.sys.mstate = s.block.sys.mstate := tested_mstate (b := s.block) (n := n) (o := o) (rd := rd)
  refine happens_touching (f := doOwtClassify n rd) rfl ?_ (fun h => ?_) ⟨?_, ?_⟩
  · rw [he, touches_complete_session (by decide) (by decide)]
    exact hx.mono (by decide)
  · rw [he, complete_settled]
    exact (settled_of_touches hx hm (by decide)).trans h
  · rw [irqWatch_sense, he, complete_sense]
    rfl
  · rw [he]
    exact answered_irqWatch (answered_complete_held (hx .ix (by decide) (by decide)) hq)

theorem owtClassify_clears (ho : (s.block.seg n).owt = some o) (hp : o.phase = 3) (hr : (s.block.classify o.wire rd).1 = 0) (ht : s.block.sense.testWire = none)
    (hc : s.block.sense.clearOpen = some (.session i q, o.wire, 1, true)) (hq : (s.block.entry? i q).isSome = true) (hl : o.wire < s.block.sense.wires.length) :
    Happens (.owtClassify n rd) s ([.ring] ++ actedOn) fun b =>
      b.sense.clearOpen = none ∧ (b.wire o.wire).opened = false ∧ (b.wire o.wire).susp = false ∧ b.answered (.session i q) .ok [] := by
  let x := (s.block.foundIntact n o rd).onSense fun y => { y with clearOpen := none }
  let y := clearReport o.wire x
  have hx : s.block.touches x [.sys, .sense] := (touches_onSense (by decide) ..).mpr touches_foundIntact
  have hy : s.block.touches y ([.sys, .sense, .ring, .leash, .latch]) :=
    (touches_clearReport (by decide) (by decide) (by decide) (by decide) ..).mpr (hx.mono (by decide))
  have he : doOwtClassify n rd s.block = complete (.session i q) .ok [] y := by
    rw [doOwtClassify_eq rd ho hp, judge_intact hr, answerTest_none (foundIntact_testWire.trans ht), hr]
    exact answerClear_last (foundIntact_clearOpen.trans hc)
  have hm : x.sys.mstate = s.block.sys.mstate := tested_mstate (b := s.block) (n := n) (o := o) (rd := rd)
  obtain ⟨cs, gs, hs⟩ := clearReport_sense o.wire x
  have hsense : (irqWatch s.block (doOwtClassify n rd s.block)).sense = { x.sense with cells := cs, segs := gs, wires := modAt x.sense.wires o.wire Wire.cleared } := by
    rw [irqWatch_sense, he, complete_sense, hs]
  have hwire : (irqWatch s.block (doOwtClassify n rd s.block)).wire o.wire = (x.wire o.wire).cleared := by
    rw [Block.wire, hsense]
    refine getD_modAt_self ?_
    simpa [x, Block.foundIntact, onWire, modAt, tested_wires] using hl
  refine happens_touching (f := doOwtClassify n rd) rfl ?_ (fun h => ?_) ⟨by rw [hsense]; rfl, by rw [hwire]; rfl, by rw [hwire]; rfl, ?_⟩
  · rw [he, touches_complete_session (by decide) (by decide)]
    exact hy.mono (by decide)
  · rw [he, complete_settled]
    exact clearReport_settled _ ((settled_of_touches hx hm (by decide)).trans h)
  · rw [he]
    exact answered_irqWatch (answered_complete_held (hy .ix (by decide) (by decide)) hq)

end

/-- Settles O13: each command's clause by its own lemma above. -/
theorem openWireTestJudgesEachWire : Obligations.OpenWireTestJudgesEachWire := by
  unfold Obligations.OpenWireTestJudgesEachWire
  exact ⟨fun _ _ => owtCycleStart_sent, fun _ => owtCycleStart_own, fun _ _ _ => owtSlotBegin_happens, fun _ _ _ => owtTestCurrentOn_happens,
    fun _ _ _ => owtTestCurrentOff_happens, fun _ _ _ _ => owtClassify_intact, fun _ _ _ _ => owtClassify_resistive, fun _ _ _ _ => owtClassify_suspect,
    fun _ _ _ _ => owtClassify_open, fun _ _ _ _ => owtClassify_anomaly, fun _ _ _ _ _ _ => owtClassify_answers, fun _ _ _ _ _ _ => owtClassify_clears,
    fun _ _ _ => owtRestoreOn_happens, fun _ _ _ => owtRestoreOff_happens, fun _ _ _ => owtBlankEnd_happens⟩

end Sys2Proof.Machine

namespace Sys2Proof.Machine

/-! ### Balancing: one cell's or one segment's elements changed, and the counters brought up to date -/

section
variable {l : List PartName} {b : Block}

@[simp] theorem touches_onSegBal (hl : .bal ∈ l) (o b : Block) (n : Nat) (f : SegBal → SegBal) : o.touches (onSegBal n f b) l ↔ o.touches b l := touches_onBal hl ..
@[simp] theorem touches_onCellBal (hl : .bal ∈ l) (o b : Block) (c : Nat) (f : CellBal → CellBal) : o.touches (onCellBal c f b) l ↔ o.touches b l := touches_onBal hl ..
@[simp] theorem touches_accrue (hl : .bal ∈ l) (o b : Block) : o.touches (accrue b) l ↔ o.touches b l := touches_onBal hl ..

theorem segBal_onSegBal_self {n : Nat} {f : SegBal → SegBal} (h : n < b.bal.segs.length) : (onSegBal n f b).segBal n = f (b.segBal n) := getD_modAt_self h
theorem segBal_onSegBal_ne {n m : Nat} {f : SegBal → SegBal} (h : m ≠ n) : (onSegBal n f b).segBal m = b.segBal m := getD_modAt_ne h
theorem cellBal_onCellBal_self {c : Nat} {f : CellBal → CellBal} (h : c < b.bal.cells.length) : (onCellBal c f b).cellBal c = f (b.cellBal c) := getD_modAt_self h
theorem cellBal_onCellBal_ne {c k : Nat} {f : CellBal → CellBal} (h : k ≠ c) : (onCellBal c f b).cellBal k = b.cellBal k := getD_modAt_ne h

/-- What a change by place keeps of every element, the list keeps at each place. -/
theorem getD_mapIdx_keeps {α β : Type} (g : α → β) {l : List α} {k : Nat} {f : Nat → α → α} {d : α} (h : ∀ i x, g (f i x) = g x) :
    g ((l.mapIdx f).getD k d) = g (l.getD k d) := by
  by_cases hl : k < l.length
  · rw [getD_mapIdx (d := d) hl, h]
  · rw [List.getD_eq_default _ _ (by simpa using hl), List.getD_eq_default _ _ (by simpa using hl)]

/-- What a change by place gives every element, and the default has, each place of the changed list has. -/
theorem getD_mapIdx_prop {α : Type} {P : α → Prop} {l : List α} {k : Nat} {f : Nat → α → α} {d : α} (hd : P d) (hf : ∀ x, P (f k x)) : P ((l.mapIdx f).getD k d) := by
  by_cases hl : k < l.length
  · rw [getD_mapIdx (d := d) hl]
    exact hf _
  · rwa [List.getD_eq_default _ _ (by simpa using hl)]

/-! #### The counters (R143) -/

@[simp] theorem accrue_shuttles (b : Block) (n : Nat) : ((accrue b).segBal n).shuttles = (b.segBal n).shuttles := getD_mapIdx_keeps SegBal.shuttles fun _ _ => rfl
@[simp] theorem accrue_bridgeFault (b : Block) (n : Nat) : ((accrue b).segBal n).bridgeFault = (b.segBal n).bridgeFault :=
  getD_mapIdx_keeps SegBal.bridgeFault fun _ _ => rfl
@[simp] theorem accrue_segs_length (b : Block) : (accrue b).bal.segs.length = b.bal.segs.length := by simp [accrue]

/-- The one manual target in force, with its charge counted. -/
theorem accrue_manuals_singleton {m : Manual} (h : b.bal.manuals = [m]) : ∃ q, (accrue b).bal.manuals = [{ m with charge := q }] := by
  simp [accrue, h]

/-! #### The end of one manual target (R138) -/

/-- The segment's only manual target, a shuttle's, ends: its shuttle opens. -/
theorem endManual_bal_shuttle {n : Nat} {m : Manual} (h : b.bal.manuals = [m]) (hn : m.seg = n) (hb : m.target.bleed = false) :
    (endManual n b).bal = { b.bal with manuals := [], segs := modAt b.bal.segs n fun g => { g with shuttles := modAt g.shuttles m.target.shuttle Shuttle.open_ } } := by
  simp [endManual, h, hn, hb, onSegBal]

/-- The segment's only manual target, a bleed switch's, ends: the switch opens. -/
theorem endManual_bal_bleed {n : Nat} {m : Manual} (h : b.bal.manuals = [m]) (hn : m.seg = n) (hb : m.target.bleed = true) :
    (endManual n b).bal = { b.bal with manuals := [], cells := modAt b.bal.cells m.target.cell fun x => { x with bleed := false } } := by
  simp [endManual, h, hn, hb, onCellBal]

/-! #### What balancing reads (R128) -/

/-- Whether a cell is eligible reads the sensing, the ring, the filters and the policy. -/
theorem exclusion_of_same {a : Block} (hy : a.sys.variant = b.sys.variant) (hs : a.sense = b.sense) (hr : a.ring = b.ring) (hf : a.flt = b.flt) (hp : a.bal.policy = b.bal.policy) (c : Nat) :
    a.exclusion c = b.exclusion c := by
  have hn : a.nCell = b.nCell := by rw [Block.nCell, Block.nCell, nSeg_of_variant hy]
  have ht : a.cellTemp c = b.cellTemp c := by rw [Block.cellTemp, Block.cellTemp, Block.therm, Block.therm, cell_of_sense hs, hs]
  have hv : a.cellFlt c = b.cellFlt c := by rw [Block.cellFlt, Block.cellFlt, hf]
  unfold Block.exclusion
  dsimp only
  rw [hn, seg_of_sense hs, hr, hv, wire_of_sense hs, wire_of_sense hs, cell_of_sense hs, ht, hp]

/-! #### What balancing reads of a block in which a request has been accepted -/

@[simp] theorem taken_bal (b : Block) (src : Src) (op : Nat) : (b.taken src op).bal = b.bal := by simp [Block.taken]

@[simp] theorem taken_segBal (b : Block) (src : Src) (op n : Nat) : (b.taken src op).segBal n = b.segBal n := segBal_of_bal (taken_bal ..) n
@[simp] theorem taken_cellBal (b : Block) (src : Src) (op c : Nat) : (b.taken src op).cellBal c = b.cellBal c := cellBal_of_bal (taken_bal ..) c
@[simp] theorem taken_manualShuttle (b : Block) (src : Src) (op n : Nat) : (b.taken src op).manualShuttle n = b.manualShuttle n := by simp [Block.manualShuttle]
@[simp] theorem taken_noDraw (b : Block) (src : Src) (op c : Nat) : (b.taken src op).noDraw c = b.noDraw c := by cases src <;> rfl
@[simp] theorem taken_noFeedV (b : Block) (src : Src) (op c : Nat) : (b.taken src op).noFeedV c = b.noFeedV c := by cases src <;> rfl
@[simp] theorem taken_noFeedT (b : Block) (src : Src) (op c : Nat) : (b.taken src op).noFeedT c = b.noFeedT c := by cases src <;> rfl
@[simp] theorem taken_shuttleVolts (b : Block) (src : Src) (op c : Nat) : (b.taken src op).shuttleVolts c = b.shuttleVolts c := by cases src <;> rfl
@[simp] theorem taken_compensatedCell (b : Block) (src : Src) (op c : Nat) : (b.taken src op).compensatedCell c = b.compensatedCell c := by cases src <;> rfl

theorem bal_of_setting {a b : Block} (h : a.unserved = (settingChanged b).unserved) : a.bal = b.bal := (bal_of_unserved h).trans (settingChanged_bal b)

end
end Sys2Proof.Machine

namespace Sys2Proof.Machine

/-! ### The balancing commands: EN and the policy (R126, R127, R137) -/

section
variable {s : State} {src : Src}

theorem balEnable_serves : Serves (.balEnable src 1) s src 0x0401 true [.bal, .upd] .ok [] fun b => b.bal = { s.block.bal with en := true } ∧ s.block.storesSettings b := by
  let y := s.block.taken src 0x0401
  let x := (if y.bal.en = true then y else note .balEnabled noArg [] y).onBal fun z => { z with en := true }
  refine serves_setting (l := [.bal]) (rule := ruleBalEnable src 1) (x := x) (ts := [0x42]) rfl rfl rfl rfl rfl rfl (by simp [x, y]) fun b hb hset => ⟨?_, hset⟩
  rw [bal_of_setting hb]
  simp [x, y, apply_ite Block.bal]

theorem balEnable_begins (he : s.block.bal.en = true) : Begins (.balEnable src 0) s src 0x0401 true [.bal, .upd] fun b =>
    b.bal = { s.block.bal with disabling := some src, sent := some ([], (List.range 15).map fun n => (n, 0)) } ∧ b.bal.en = true ∧ s.block.storesSettings b := by
  let x := settingChanged ((s.block.taken src 0x0401).onBal fun z => { z with disabling := some src, sent := some ([], (List.range 15).map fun n => (n, 0)) })
  have hact : (ruleBalEnable src 0 s.block).act (s.block.taken src 0x0401) = x := by simp [ruleBalEnable, he, x]
  refine begins_of_taken (rule := ruleBalEnable src 0) rfl rfl rfl rfl rfl hact (by simp [x]) (by simp [x]) fun b hb => ?_
  have hbal : b.bal = { s.block.bal with disabling := some src, sent := some ([], (List.range 15).map fun n => (n, 0)) } := by
    rw [bal_of_setting hb]
    simp
  refine ⟨hbal, by rw [hbal]; exact he, ?_⟩
  rw [Block.storesSettings, upd_of_unserved hb]
  simp [x]

theorem balEnable_serves_off (he : s.block.bal.en = false) : Serves (.balEnable src 0) s src 0x0401 true [] .ok [] fun _ => True :=
  serves_completing (rule := ruleBalEnable src 0) (x := s.block.taken src 0x0401) (ts := []) rfl rfl rfl rfl rfl (by simp [ruleBalEnable, he]; rfl) (by simp) (by simp)
    fun _ _ => trivial

/-- A command that changes the policy alone. -/
theorem serves_policy {i : Instr} {rule : Block → HostRule} {op : Nat} {f : BalPolicy → BalPolicy} (hi : exec i s = effect (host src rule) s)
    (ho : (rule s.block).opcode = op) (hw : (rule s.block).owner = true) (hs : (rule s.block).stateOk = true) (hp : (rule s.block).param = none)
    (hact : ∀ b, (rule s.block).act b = (complete src .ok [] (settingChanged (b.onBal fun y => { y with policy := f y.policy }))).touch [0x42]) :
    Serves i s src op true [.bal, .upd] .ok [] fun b => b.bal = { s.block.bal with policy := f s.block.bal.policy } ∧ s.block.storesSettings b := by
  refine serves_setting (l := [.bal]) hi ho hw hs hp (hact _) (by simp) fun b hb hset => ⟨?_, hset⟩
  rw [bal_of_setting hb]
  simp

theorem balSetGoal_serves {goal mode : Nat} (hg : goal ≤ 2) (hm : mode ≤ 2) : Serves (.balSetGoal src goal mode) s src 0x0402 true [.bal, .upd] .ok [] fun b =>
    b.bal = { s.block.bal with policy := { s.block.bal.policy with goal := goal, mode := mode } } ∧ s.block.storesSettings b :=
  serves_policy (rule := ruleBalSetGoal src goal mode) (f := fun p => { p with goal := goal, mode := mode }) rfl rfl rfl rfl (need_eq_none.mpr (by simp [hg, hm])) fun _ => rfl

theorem balSetThresh_serves {start stop brStart brStop : Nat} (h1 : 10 ≤ start) (h2 : start ≤ 1000000) (h3 : stop < start) (h4 : 100 ≤ brStart) (h5 : brStart ≤ 10000000)
    (h6 : brStop < brStart) : Serves (.balSetThresh src start stop brStart brStop) s src 0x0403 true [.bal, .upd] .ok [] fun b =>
      b.bal = { s.block.bal with policy := { s.block.bal.policy with start := start, stop := stop, brStart := brStart, brStop := brStop } } ∧ s.block.storesSettings b :=
  serves_policy (rule := ruleBalSetThresh src start stop brStart brStop) (f := fun p => { p with start := start, stop := stop, brStart := brStart, brStop := brStop })
    rfl rfl rfl rfl (need_eq_none.mpr (decide_eq_true ⟨h1, h2, h3, h4, h5, h6⟩)) fun _ => rfl

theorem balSetLimits_serves {iSet iBr vMargin : Nat} {tFeedMin tMax : Int} {maxBleed pwrMax : Nat} (h1 : 100 ≤ iSet) (h2 : iSet ≤ 2000) (h3 : iSet % 50 = 0) (h4 : 100 ≤ iBr)
    (h5 : iBr ≤ 2000) (h6 : iBr % 50 = 0) (h7 : 20000 ≤ vMargin) (h8 : vMargin ≤ 500000) (h9 : vMargin % 1000 = 0) (h10 : -2000 ≤ tFeedMin) (h11 : tFeedMin ≤ 2500)
    (h12 : 3000 ≤ tMax) (h13 : tMax ≤ 7000) (h14 : maxBleed ≤ 32) (h15 : 5 ≤ pwrMax) (h16 : pwrMax ≤ 150) :
    Serves (.balSetLimits src iSet iBr vMargin tFeedMin tMax maxBleed pwrMax) s src 0x0404 true [.bal, .upd] .ok [] fun b =>
      b.bal = { s.block.bal with policy := { s.block.bal.policy with iSet := iSet, iBr := iBr, vMargin := vMargin, tFeedMin := tFeedMin, tMax := tMax, maxBleed := maxBleed,
                                                                     pwrMax := pwrMax } } ∧ s.block.storesSettings b :=
  serves_policy (rule := ruleBalSetLimits src iSet iBr vMargin tFeedMin tMax maxBleed pwrMax)
    (f := fun p => { p with iSet := iSet, iBr := iBr, vMargin := vMargin, tFeedMin := tFeedMin, tMax := tMax, maxBleed := maxBleed, pwrMax := pwrMax })
    rfl rfl rfl rfl (need_eq_none.mpr (decide_eq_true ⟨h1, h2, h3, h4, h5, h6, h7, h8, h9, h10, h11, h12, h13, h14, h15, h16⟩)) fun _ => rfl

/-! ### Manual targets, cleared faults and the configuration (R135, R138, R140) -/

/-- The manual targets with one more, which ends after its time (R138). -/
def Block.addManual (b : Block) (t : Target) (time : Nat) : Block :=
  b.onBal fun y => { y with manuals := y.manuals ++ [{ seg := segOf t.cell, target := t, endAt := b.sys.now + time * secT, charge := 0 }] }

@[simp] theorem touches_addManual {l : List PartName} (hl : .bal ∈ l) (o b : Block) (t : Target) (time : Nat) : o.touches (b.addManual t time) l ↔ o.touches b l :=
  touches_onBal hl ..
@[simp] theorem addManual_sys (b : Block) (t : Target) (time : Nat) : (b.addManual t time).sys = b.sys := rfl

theorem ne_zero_of_range {cur : Int} (h : 100 ≤ |cur|) : cur ≠ 0 := by
  rintro rfl
  simp at h

theorem andThen_eq_none {a b : Option Status} : andThen a b = none ↔ a = none ∧ b = none := by cases a <;> simp [andThen]

/-- What BAL_MANUAL checks of a target that starts. -/
theorem ruleBalManual_param {cell element : Nat} {cur : Int} {time : Nat} (hc : cell < s.block.nCell) (he : element ≤ 1) (h1 : 100 ≤ |cur|) (h2 : |cur| ≤ 2000)
    (h3 : cur % 50 = 0) (hpos : element = 0 ∨ 0 ≤ cur) (ht1 : 1 ≤ time) (ht2 : time ≤ 3600) (hx : s.block.exclusion cell = 0)
    (hm : (s.block.bal.manuals.find? fun m => m.seg == segOf cell) = none) (hi : element = 0 → s.block.manualShuttle (segOf cell) ≠ none) :
    (ruleBalManual src cell element cur time s.block).param = none := by
  have hbusy : ¬(element = 0 ∧ s.block.manualShuttle (segOf cell) = none) := fun h => hi h.1 h.2
  simp only [ruleBalManual, andThen_eq_none, need_eq_none, ne_zero_of_range h1, hm]
  simp [hc, he, h1, h2, hpos, ht1, ht2, hx, hbusy, Int.dvd_of_emod_eq_zero h3, need, andThen]

theorem balManual_serves_shuttle {cell : Nat} {cur : Int} {time i : Nat} (hpark : s.block.sys.mstate = .park) (hc : cell < s.block.nCell) (h1 : 100 ≤ |cur|)
    (h2 : |cur| ≤ 2000) (h3 : cur % 50 = 0) (ht1 : 1 ≤ time) (ht2 : time ≤ 3600) (hx : s.block.exclusion cell = 0)
    (hm : (s.block.bal.manuals.find? fun m => m.seg == segOf cell) = none) (hi : s.block.manualShuttle (segOf cell) = some i)
    (ho : (s.block.segBal (segOf cell)).overTemp = false) (hv : s.block.shuttleVolts cell = true)
    (hl : (if 0 < cur then s.block.noDraw cell else s.block.noFeedV cell || s.block.noFeedT cell) = false) (hn : segOf cell < s.block.bal.segs.length) :
    Serves (.balManual src cell 0 cur time) s src 0x0405 true [.bal] .ok (leBytes 1 i) fun b =>
      b.bal.manuals = s.block.bal.manuals ++ [{ seg := segOf cell, target := { cell := cell, bleed := false, shuttle := i, cur := cur, manual := true },
                                                endAt := s.block.sys.now + time * secT, charge := 0 }]
      ∧ (b.segBal (segOf cell)).shuttles = modAt (s.block.segBal (segOf cell)).shuttles i fun _ => { state := .manual, cell := cell, cur := cur, runsThrough := s.block.compensatedCell cell } := by
  let y := (s.block.taken src 0x0405).addManual { cell := cell, bleed := false, shuttle := i, cur := cur, manual := true } time
  let x := onSegBal (segOf cell) (fun g => { g with shuttles := modAt g.shuttles i fun _ =>
    { state := .manual, cell := cell, cur := cur, runsThrough := s.block.compensatedCell cell } }) y
  have hact : (ruleBalManual src cell 0 cur time s.block).act (s.block.taken src 0x0405) =
      (complete src .ok (leBytes 1 i) x).touch [0x42, 0x80 + 8 * segOf cell + 6, 0x100 + cell] := by
    by_cases hpos : 0 < cur
    · rw [if_pos hpos] at hl
      simp [ruleBalManual, ne_zero_of_range h1, hpos, hi, hl, ho, hv, x, y, Block.addManual]
    · rw [if_neg hpos, Bool.or_eq_false_iff] at hl
      simp [ruleBalManual, ne_zero_of_range h1, hpos, hi, hl, ho, hv, x, y, Block.addManual]
  refine serves_completing (rule := ruleBalManual src cell 0 cur time) rfl rfl rfl (decide_eq_true hpark)
    (ruleBalManual_param hc (by decide) h1 h2 h3 (.inl rfl) ht1 ht2 hx hm fun _ => by simp [hi]) hact (by simp [x, y]) (by simp [x, y]) fun b hb => ⟨?_, ?_⟩
  · rw [bal_of_unserved hb]
    simp [x, y, onSegBal, Block.addManual]
  · rw [segBal_of_bal (bal_of_unserved hb), segBal_onSegBal_self (by simpa [y, Block.addManual] using hn), ← taken_segBal s.block src 0x0405]
    rfl

theorem balManual_serves_bleed {cell : Nat} {cur : Int} {time : Nat} (hpark : s.block.sys.mstate = .park) (hc : cell < s.block.nCell) (h1 : 100 ≤ cur)
    (h2 : cur ≤ 2000) (h3 : cur % 50 = 0) (ht1 : 1 ≤ time) (ht2 : time ≤ 3600) (hx : s.block.exclusion cell = 0)
    (hm : (s.block.bal.manuals.find? fun m => m.seg == segOf cell) = none) (ho : (s.block.segBal (segOf cell)).overTemp = false)
    (hd : s.block.noDraw cell = false) (hl : cell < s.block.bal.cells.length) :
    Serves (.balManual src cell 1 cur time) s src 0x0405 true [.bal] .ok (leBytes 1 ((s.block.manualShuttle (segOf cell)).getD 0)) fun b =>
      b.cellBal cell = { s.block.cellBal cell with bleed := true } ∧ b.bal.segs = s.block.bal.segs ∧ b.bal.manuals.length = s.block.bal.manuals.length + 1 := by
  have habs : |cur| = cur := abs_of_nonneg (by omega)
  let i := (s.block.manualShuttle (segOf cell)).getD 0
  let y := (s.block.taken src 0x0405).addManual { cell := cell, bleed := true, shuttle := i, cur := cur, manual := true } time
  let x := onCellBal cell (fun z => { z with bleed := true }) y
  have hact : (ruleBalManual src cell 1 cur time s.block).act (s.block.taken src 0x0405) =
      (complete src .ok (leBytes 1 i) x).touch [0x42, 0x80 + 8 * segOf cell + 6, 0x100 + cell] := by
    simp [ruleBalManual, show cur ≠ 0 by omega, hd, ho, x, y, i, Block.addManual]
  refine serves_completing (rule := ruleBalManual src cell 1 cur time) rfl rfl rfl (decide_eq_true hpark)
    (ruleBalManual_param hc (by decide) (by rwa [habs]) (by rwa [habs]) h3 (.inr (by omega)) ht1 ht2 hx hm (by simp)) hact (by simp [x, y]) (by simp [x, y])
    fun b hb => ⟨?_, ?_, ?_⟩
  · rw [cellBal_of_bal (bal_of_unserved hb), cellBal_onCellBal_self (by simpa [y, Block.addManual] using hl), ← taken_cellBal s.block src 0x0405]
    rfl
  · rw [bal_of_unserved hb]
    simp [x, y, onCellBal, Block.addManual]
  · rw [bal_of_unserved hb]
    simp [x, y, onCellBal, Block.addManual]

/-- A BAL_MANUAL of current 0 on the cell of the one manual target, a bleed switch's, ends it (R138). -/
theorem balManual_serves_end {cell time : Nat} {m : Manual} (hpark : s.block.sys.mstate = .park) (hc : cell < s.block.nCell) (ht1 : 1 ≤ time) (ht2 : time ≤ 3600)
    (hm : s.block.bal.manuals = [m]) (hs : m.seg = segOf cell) (hcell : m.target.cell = cell) (hb : m.target.bleed = true) (hl : cell < s.block.bal.cells.length) :
    Serves (.balManual src cell 0 0 time) s src 0x0405 true [.bal] .ok (leBytes 1 m.target.shuttle) fun b =>
      b.bal.manuals = [] ∧ b.cellBal cell = { s.block.cellBal cell with bleed := false } := by
  let y := s.block.taken src 0x0405
  let x := endManual (segOf cell) (accrue y)
  obtain ⟨q, hq⟩ := accrue_manuals_singleton (b := y) (by simpa [y] using hm)
  have hx : x.bal = _ := endManual_bal_bleed hq hs hb
  have hact : (ruleBalManual src cell 0 0 time s.block).act y = (complete src .ok (leBytes 1 m.target.shuttle) x).touch [] := by
    simp [ruleBalManual, hm, hs, hcell]
    rfl
  refine serves_completing (rule := ruleBalManual src cell 0 0 time) rfl rfl rfl (decide_eq_true hpark) (by simp [ruleBalManual, need, andThen, hc, ht1, ht2]) hact
    (by simp [x, y]) (by simp [x, y]) fun b hb => ⟨?_, ?_⟩
  · rw [bal_of_unserved hb, hx]
  · rw [Block.cellBal, bal_of_unserved hb, hx]
    dsimp only
    rw [hcell, getD_modAt_self (by simpa [y] using hl)]
    simp [y, Block.cellBal]

/-- A segment whose elements are back in service (R135). -/
def SegBal.serviced (g : SegBal) : SegBal := { g with bridgeFault := false, shuttles := g.shuttles.map fun h => if h.state = .outOfService then Shuttle.reset else h }

/-- The elements that a mask names back in service, and the command that returned them (R135, R140). -/
def BalPart.serviced (job : Src × Nat × Nat) (mask : Nat) (y : BalPart) : BalPart := { y with
  clearing := some job
  cells := y.cells.mapIdx fun c x => if mask.testBit (segOf c) then { x with stuck := false, drain := 0 } else x
  segs := y.segs.mapIdx fun n g => if mask.testBit n then g.serviced else g }

theorem serviced_inService (g : SegBal) : ∀ h ∈ g.serviced.shuttles, h.state ≠ .outOfService := by
  intro h hh
  obtain ⟨k, -, rfl⟩ := List.mem_map.mp hh
  split
  · decide
  · assumption

theorem balClearFault_begins {mask : Nat} (hf : s.block.maskFitted mask = true) : Begins (.balClearFault src mask) s src 0x0406 true [.bal] fun b =>
    b.bal.clearing = some (src, mask, s.block.sys.now) ∧ ∀ n < 16, mask.testBit n = true →
      (b.segBal n).bridgeFault = false ∧ (∀ h ∈ (b.segBal n).shuttles, h.state ≠ .outOfService) ∧ ∀ i < 32, (b.cellBal (32 * n + i)).stuck = false := by
  let y := s.block.taken src 0x0406
  let x := (y.onBal (BalPart.serviced (src, mask, y.sys.now) mask)).touch balTiles
  refine begins_of_taken (rule := ruleBalClearFault src mask) (x := x) rfl rfl rfl rfl (need_eq_none.mpr hf) rfl (by simp [x, y]) (by simp [x, y]) fun b hb => ?_
  have hbal : b.bal = s.block.bal.serviced (src, mask, s.block.sys.now) mask := by
    rw [bal_of_unserved hb]
    simp [x, y]
  refine ⟨by rw [hbal]; rfl, fun n _ hn => ⟨?_, ?_, fun i hi => ?_⟩⟩
  · rw [Block.segBal, hbal]
    exact getD_mapIdx_prop (P := fun g : SegBal => g.bridgeFault = false) rfl fun g => by rw [if_pos hn]; rfl
  · rw [Block.segBal, hbal]
    exact getD_mapIdx_prop (P := fun g : SegBal => ∀ h ∈ g.shuttles, h.state ≠ .outOfService) (by decide) fun g => by rw [if_pos hn]; exact serviced_inService g
  · have hm : mask.testBit (segOf (32 * n + i)) = true := by
      rwa [segOf, show (32 * n + i) / 32 = n by omega]
    rw [Block.cellBal, hbal]
    exact getD_mapIdx_prop (P := fun x : CellBal => x.stuck = false) rfl fun x => by rw [if_pos hm]

theorem balGetConfig_serves : Serves (.balGetConfig src) s src 0x0407 false [] (s.block.tilesStatus [0x42]) (wordsBytes ((s.block.frontTile 0x42).take 9)) fun _ => True :=
  serves_tile (rule := ruleBalGetConfig src) rfl rfl rfl rfl rfl rfl

end

/-- Settles O16: each command's clause by its own lemma above. -/
theorem balancingCommandsSetWhatTheyName : Obligations.BalancingCommandsSetWhatTheyName := by
  unfold Obligations.BalancingCommandsSetWhatTheyName
  exact ⟨fun _ _ => balEnable_serves, fun _ _ => balEnable_begins, fun _ _ => balEnable_serves_off, fun _ _ _ _ => balSetGoal_serves, fun _ _ _ _ _ _ => balSetThresh_serves,
    fun _ _ _ _ _ _ _ _ _ => balSetLimits_serves, fun _ _ _ _ _ _ => balManual_serves_shuttle, fun _ _ _ _ _ => balManual_serves_bleed,
    fun _ _ _ _ _ => balManual_serves_end, fun _ _ _ => balClearFault_begins, fun _ _ => balGetConfig_serves⟩

end Sys2Proof.Machine

namespace Sys2Proof.Machine

/-! ### Targets that reach the segments (R133, R139) -/

section
variable {s : State} {t : List Target × List (Nat × Int)}

theorem targetsFrame_stages (ht : s.block.bal.sent = some t) (ha : s.block.bal.stagedActive = false) : Happens .targetsFrame s [.bal] fun b =>
    b.bal = { s.block.bal with sent := none, staged := t.1, stagedBridges := t.2, stagedActive := true, staggerNext := 0 } := by
  have he : doTargetsFrame s.block = stageTargets t (s.block.onBal fun y => { y with sent := none }) := by simp [doTargetsFrame, ht, ha]
  exact happens_plain (f := doTargetsFrame) rfl (by simp [he, stageTargets]) (by simp [he, stageTargets]) (by simp [he, stageTargets])

theorem targetsFrame_queues (ht : s.block.bal.sent = some t) (ha : s.block.bal.stagedActive = true) : Happens .targetsFrame s [.bal] fun b =>
    b.bal = { s.block.bal with sent := none, queued := some t } := by
  have he : doTargetsFrame s.block = (s.block.onBal fun y => { y with sent := none }).onBal fun y => { y with queued := some t } := by simp [doTargetsFrame, ht, ha]
  exact happens_plain (f := doTargetsFrame) rfl (by simp [he]) (by simp [he]) (by simp [he])

end

/-! ### The die temperature (R134) -/

section
variable {s : State} {b : Block} {n : Nat} {t : Int}

/-- The factor of a die temperature, fraction of 65,536. -/
def dieFactor (t : Int) : Nat := if t < 8500 then 65535 else if 10500 ≤ t then 0 else ((10500 - t) * 65536 / 2000).toNat

/-- The segment's elements are stopped for over-temperature: from 105 °C, and until the die is below 95 °C. -/
def SegBal.stopped (g : SegBal) (t : Int) : Bool := decide (10500 ≤ t) || (g.overTemp && decide (9500 ≤ t))

/-- The segment with its die temperature, its flags and its factor, before its elements follow. -/
def Block.dieAt (b : Block) (n : Nat) (t : Int) : Block :=
  onSeg n (fun x => { x with dieT := some t, twarn := decide (9500 ≤ t) || ((b.seg n).twarn && decide (9000 ≤ t)) })
    (onSegBal n (fun x => { x with kt := min (dieFactor t) 65535, overTemp := (b.segBal n).stopped t, derating := decide (8500 ≤ t) }) b)

/-- A current under the factor, on its step of 50 mA; below 100 mA none. -/
def derateCur (t i : Int) : Int :=
  let m := |i| * dieFactor t / 65536 / 50 * 50
  if m < 100 then 0 else if 0 ≤ i then m else -m

/-- Shuttles and bridge of a segment under the factor. -/
def SegBal.derated (pol : BalPolicy) (t : Int) (x : SegBal) : SegBal := { x with
  shuttles := x.shuttles.map fun h => if h.cur = 0 then h else (
    let i := if dieFactor t < 65535 then min |h.cur| |derateCur t pol.iSet| else |h.cur|
    if i < 100 then h.open_ else { h with cur := if 0 ≤ h.cur then i else -i })
  bridge := if x.bridge = 0 then 0 else (let i := min |x.bridge| |derateCur t pol.iBr|; if i < 100 then 0 else if 0 ≤ x.bridge then i else -i) }

/-- The elements follow the die: all open in a stop, under the factor from 85 °C, else as they were. -/
def Block.dieFollowed (b : Block) (n : Nat) (t : Int) : Block :=
  if (b.segBal n).stopped t = true then openElements (fun k => k == n) (endManual n (b.dieAt n t))
  else if decide (8500 ≤ t) = true then onSegBal n (SegBal.derated b.bal.policy t) (b.dieAt n t)
  else b.dieAt n t

/-- Above 100 °C no bleed switch of the segment is on. -/
def bleedLimit (n : Nat) (t : Int) (b : Block) : Block :=
  if decide (10000 < t) = true then b.onBal fun y => { y with cells := y.cells.mapIdx fun c x => if segOf c = n then { x with bleed := false } else x } else b

/-- DIE_TEMPERATURE_CHANGE by its steps. -/
theorem doDieTemperatureChange_eq (n : Nat) (t : Int) (b : Block) :
    doDieTemperatureChange n t b =
      (let b3 := bleedLimit n t (b.dieFollowed n t)
       let b4 := if (decide (8500 ≤ t) && !(b.segBal n).derating) = true then note .balDerate n [] b3 else b3
       if ((b.segBal n).stopped t && !(b.segBal n).overTemp) = true then note .balOvertemp n [] b4 else b4).touch [0x42, 0x80 + 8 * n, 0x80 + 8 * n + 6] := rfl

theorem doDieTemperatureChange_bal (n : Nat) (t : Int) (b : Block) : (doDieTemperatureChange n t b).bal = (bleedLimit n t (b.dieFollowed n t)).bal := by
  simp only [doDieTemperatureChange_eq, Block.touch_bal, apply_ite Block.bal, note_bal, ite_self]

theorem doDieTemperatureChange_sense (n : Nat) (t : Int) (b : Block) : (doDieTemperatureChange n t b).sense = (b.dieAt n t).sense := by
  simp [doDieTemperatureChange_eq, bleedLimit, Block.dieFollowed, apply_ite Block.sense]

theorem touches_doDieTemperatureChange (n : Nat) (t : Int) (b : Block) : b.touches (doDieTemperatureChange n t b) [.sense, .bal] := by
  simp [doDieTemperatureChange_eq, bleedLimit, Block.dieFollowed, Block.dieAt]

theorem seg_dieAt (h : n < b.sense.segs.length) : (b.dieAt n t).seg n =
    { b.seg n with dieT := some t, twarn := decide (9500 ≤ t) || ((b.seg n).twarn && decide (9000 ≤ t)) } := seg_onSeg_self (b := onSegBal n _ b) h

theorem segBal_dieAt (h : n < b.bal.segs.length) : (b.dieAt n t).segBal n =
    { b.segBal n with kt := min (dieFactor t) 65535, overTemp := (b.segBal n).stopped t, derating := decide (8500 ≤ t) } := segBal_onSegBal_self (b := b) h

theorem seg_dieAt_ne {m : Nat} (h : m ≠ n) : (b.dieAt n t).seg m = b.seg m := seg_onSeg_ne (b := onSegBal n _ b) h
theorem segBal_dieAt_ne {m : Nat} (h : m ≠ n) : (b.dieAt n t).segBal m = b.segBal m := segBal_onSegBal_ne (b := b) h
theorem dieAt_segs_length : (b.dieAt n t).bal.segs.length = b.bal.segs.length := List.length_modify ..

/-- An event of a die temperature, by what it leaves of the elements and the segments. -/
theorem dieTemperatureChange_happens {n : Fin 16} {P : Block → Prop}
    (hP : ∀ b : Block, b.bal = (bleedLimit n t (s.block.dieFollowed n t)).bal → (∀ m, b.seg m = (s.block.dieAt n t).seg m) → P b) :
    Happens (.dieTemperatureChange n t) s [.sense, .bal] P :=
  happens_plain (f := doDieTemperatureChange n t) rfl (touches_doDieTemperatureChange n t s.block) (doDieTemperatureChange_mstate ..)
    (hP _ (by rw [irqWatch_bal, doDieTemperatureChange_bal]) fun m => by rw [irqWatch_seg, seg_of_sense (doDieTemperatureChange_sense ..)])

theorem dieTemperatureChange_cool {n : Fin 16} (ht : t < 8500) (ho : (s.block.segBal n).overTemp = false) (hb : n.val < s.block.bal.segs.length)
    (hs : n.val < s.block.sense.segs.length) : Happens (.dieTemperatureChange n t) s [.sense, .bal] fun b =>
      b.segBal n = { s.block.segBal n with kt := 65535, derating := false } ∧ b.seg n = { s.block.seg n with dieT := some t, twarn := false } ∧ b.bal.cells = s.block.bal.cells
      ∧ ∀ m : Fin 16, m ≠ n → b.segBal m = s.block.segBal m ∧ b.seg m = s.block.seg m := by
  have h95 : ¬9500 ≤ t := by omega
  have h90 : ¬9000 ≤ t := by omega
  have h85 : ¬8500 ≤ t := by omega
  have hstop : (s.block.segBal n).stopped t = false := by simp [SegBal.stopped, ho, show ¬10500 ≤ t by omega]
  have hbal : (bleedLimit n t (s.block.dieFollowed n t)).bal = (s.block.dieAt n t).bal := by simp [bleedLimit, Block.dieFollowed, hstop, h85, show ¬10000 < t by omega]
  refine dieTemperatureChange_happens fun b hb' hseg => ⟨?_, ?_, ?_, fun m hm => ⟨?_, ?_⟩⟩
  · rw [segBal_of_bal (hb'.trans hbal), segBal_dieAt hb, hstop]
    simp [dieFactor, ht, h85, ho]
  · rw [hseg, seg_dieAt hs]
    simp [h95, h90]
  · rw [hb', hbal]
    rfl
  · rw [segBal_of_bal (hb'.trans hbal), segBal_dieAt_ne (Fin.val_ne_of_ne hm)]
  · rw [hseg, seg_dieAt_ne (Fin.val_ne_of_ne hm)]

theorem dieTemperatureChange_derates {n : Fin 16} (h1 : 8500 ≤ t) (h2 : t < 10500) (ho : (s.block.segBal n).overTemp = false) (hb : n.val < s.block.bal.segs.length)
    (hs : n.val < s.block.sense.segs.length) : Happens (.dieTemperatureChange n t) s [.sense, .bal] fun b =>
      (b.segBal n).kt = min 65535 ((10500 - t) * 65536 / 2000).toNat ∧ (b.segBal n).derating = true ∧ (b.segBal n).overTemp = false
      ∧ b.seg n = { s.block.seg n with dieT := some t, twarn := decide (9500 ≤ t) || ((s.block.seg n).twarn && decide (9000 ≤ t)) }
      ∧ (∀ c < 512, segOf c = n → 10000 < t → (b.cellBal c).bleed = false) ∧ (t ≤ 10000 → b.bal.cells = s.block.bal.cells)
      ∧ ∀ m : Fin 16, m ≠ n → b.segBal m = s.block.segBal m ∧ b.seg m = s.block.seg m := by
  let x := onSegBal n (SegBal.derated s.block.bal.policy t) (s.block.dieAt n t)
  have hstop : (s.block.segBal n).stopped t = false := by simp [SegBal.stopped, ho, show ¬10500 ≤ t by omega]
  have hx : s.block.dieFollowed n t = x := by simp [Block.dieFollowed, hstop, h1, x]
  have hsegs : (bleedLimit n t x).bal.segs = x.bal.segs := by
    unfold bleedLimit
    split <;> rfl
  have hself : x.segBal n = ((s.block.dieAt n t).segBal n).derated s.block.bal.policy t := segBal_onSegBal_self (by rwa [dieAt_segs_length])
  refine dieTemperatureChange_happens fun b hb' hseg => ?_
  rw [hx] at hb'
  have hsb (m : Nat) : b.segBal m = x.segBal m := by rw [Block.segBal, Block.segBal, hb', hsegs]
  rw [hsb, hself, segBal_dieAt hb, hseg, seg_dieAt hs]
  refine ⟨?_, decide_eq_true h1, hstop, rfl, fun c _ hc hhot => ?_, fun hcool => ?_, fun m hm => ⟨?_, ?_⟩⟩
  · simp [SegBal.derated, dieFactor, show ¬t < 8500 by omega, show ¬10500 ≤ t by omega, min_comm]
  · rw [Block.cellBal, hb', bleedLimit, if_pos (decide_eq_true hhot)]
    exact getD_mapIdx_prop (P := fun y : CellBal => y.bleed = false) rfl fun y => by rw [if_pos hc]
  · rw [hb', bleedLimit, if_neg (by simpa using hcool)]
    rfl
  · rw [hsb]
    exact (segBal_onSegBal_ne (Fin.val_ne_of_ne hm)).trans (segBal_dieAt_ne (Fin.val_ne_of_ne hm))
  · rw [hseg, seg_dieAt_ne (Fin.val_ne_of_ne hm)]

/-- What an over-temperature stop leaves of a segment's temperature figures. -/
theorem openElements_temperature (p : Nat → Bool) (b : Block) (n : Nat) :
    (((openElements p b).segBal n).kt, ((openElements p b).segBal n).overTemp) = ((b.segBal n).kt, (b.segBal n).overTemp) :=
  getD_mapIdx_keeps (fun g : SegBal => (g.kt, g.overTemp)) fun i x => by
    dsimp only
    split <;> split <;> rfl

theorem endManual_temperature (k n : Nat) (b : Block) :
    (((endManual k b).segBal n).kt, ((endManual k b).segBal n).overTemp) = ((b.segBal n).kt, (b.segBal n).overTemp) := by
  unfold endManual
  split
  · rfl
  · dsimp only
    rw [segBal_of_bal (Block.touch_bal ..), segBal_of_bal (note_bal ..)]
    split
    · rfl
    · exact getD_modAt_keeps (fun g : SegBal => (g.kt, g.overTemp)) fun _ => rfl

theorem openElements_bridge {p : Nat → Bool} {n : Nat} (b : Block) (h : p n = true) : ((openElements p b).segBal n).bridge = 0 :=
  getD_mapIdx_prop (P := fun g : SegBal => g.bridge = 0) rfl fun x => by simp [h]

theorem dieTemperatureChange_stops {n : Fin 16} (ht : 10500 ≤ t) (hb : n.val < s.block.bal.segs.length) (hs : n.val < s.block.sense.segs.length) :
    Happens (.dieTemperatureChange n t) s [.sense, .bal] fun b =>
      (b.segBal n).kt = 0 ∧ (b.segBal n).overTemp = true ∧ (b.segBal n).bridge = 0 ∧ (∀ h ∈ (b.segBal n).shuttles, h.cur = 0) ∧ (∀ c < 512, segOf c = n → (b.cellBal c).bleed = false)
      ∧ (∀ m ∈ b.bal.manuals, m.seg ≠ n.val) ∧ (b.seg n).twarn = true ∧ (b.seg n).dieT = some t := by
  let x := openElements (fun k => k == n.val) (endManual n (s.block.dieAt n t))
  have hstop : (s.block.segBal n).stopped t = true := by simp [SegBal.stopped, ht]
  have hx : s.block.dieFollowed n t = x := if_pos hstop
  refine dieTemperatureChange_happens fun b hb' hseg => ?_
  rw [hx, bleedLimit, if_pos (decide_eq_true (by omega))] at hb'
  have hsb : b.segBal n = x.segBal n := by rw [Block.segBal, hb']; rfl
  have htemp : ((b.segBal n).kt, (b.segBal n).overTemp) = (0, true) := by
    rw [hsb, openElements_temperature, endManual_temperature, segBal_dieAt hb, hstop]
    simp [dieFactor, show ¬t < 8500 by omega, ht]
  obtain ⟨hkt, hot⟩ := Prod.mk.inj htemp
  refine ⟨hkt, hot, ?_, ?_, fun c _ hc => ?_, fun m hm => ?_, ?_, ?_⟩
  · rw [hsb]
    exact openElements_bridge _ (beq_self_eq_true _)
  · rw [hsb]
    exact openElements_cur _ (beq_self_eq_true _)
  · rw [Block.cellBal, hb']
    exact getD_mapIdx_prop (P := fun y : CellBal => y.bleed = false) rfl fun y => by rw [if_pos hc]
  · have hm : m ∈ (endManual n (s.block.dieAt n t)).bal.manuals := by rw [hb'] at hm; exact hm
    rw [endManual_manuals] at hm
    simpa using (List.mem_filter.mp hm).2
  · rw [hseg, seg_dieAt hs]
    simp [show 9500 ≤ t by omega]
  · rw [hseg, seg_dieAt hs]

end
end Sys2Proof.Machine

namespace Sys2Proof.Machine

/-! ### Faults of the elements (R135, R139, R140) -/

section
variable {s : State} {b : Block}

theorem failClearing_idle {n : Nat} (h : b.bal.clearing = none) : failClearing n b = b := by rw [failClearing, h]

/-- A check of a segment that BAL_CLEAR_FAULT names fails within its second. -/
theorem failClearing_due {n m t : Nat} {src : Src} (h : b.bal.clearing = some (src, m, t)) (hm : m.testBit n = true) (ht : b.sys.now ≤ t + secT) :
    failClearing n b = complete src .fault (leBytes 2 0) (b.onBal fun y => { y with clearing := none }) := by
  simp [failClearing, h, hm, ht]

/-- A shuttle out of service. -/
def Shuttle.failed : Shuttle := { state := .outOfService, cell := 0, cur := 0, runsThrough := false }

/-- A learning step of a shuttle is abandoned (R85, R139). -/
def abandonLearning (h : Shuttle) (b : Block) : Block :=
  if h.state = .learning then onCell h.cell (fun x => { x with stepUntil := 0, learnp := false }) b else b

theorem doShuttleFault_eq {n i : Nat} (hc : b.bal.clearing = none) (hm : ∀ m ∈ b.bal.manuals, m.seg ≠ n) : doShuttleFault n i b =
    (note .shuttleFault n [i] (abandonLearning ((b.segBal n).shuttles.getD i Shuttle.reset)
      (onSegBal n (fun g => { g with shuttles := modAt g.shuttles i fun _ => Shuttle.failed }) b))).touch [0x80 + 8 * n + 6] := by
  have hnone : ¬(b.bal.manuals.any fun m => m.seg == n && !m.target.bleed && m.target.shuttle == i) = true := by
    simpa using fun m hx hs => absurd hs (hm m hx)
  unfold doShuttleFault
  dsimp only
  rw [if_neg hnone, failClearing_idle]
  · rfl
  · rw [note_bal]
    split <;> exact hc

theorem abandonLearning_bal (h : Shuttle) (b : Block) : (abandonLearning h b).bal = b.bal := by
  unfold abandonLearning
  split <;> rfl

theorem abandonLearning_learnp {h : Shuttle} (hl : h.state = .learning) : ((abandonLearning h b).cell h.cell).learnp = false := by
  rw [abandonLearning, if_pos hl]
  by_cases hc : h.cell < b.sense.cells.length
  · rw [Block.cell, onCell, Block.onSense_sense, getD_modAt_self hc]
  · rw [Block.cell, List.getD_eq_default _ _ (by simpa [onCell, modAt] using hc)]
    rfl

theorem shuttleFault_happens {n : Fin 16} {i : Fin 4} (hc : s.block.bal.clearing = none) (hm : ∀ m ∈ s.block.bal.manuals, m.seg ≠ n.val) (hn : n.val < s.block.bal.segs.length) :
    Happens (.shuttleFault n i) s [.sense, .bal] fun b =>
      (b.segBal n).shuttles = (s.block.segBal n).shuttles.set i { state := .outOfService, cell := 0, cur := 0, runsThrough := false }
      ∧ (∀ h ∈ (s.block.segBal n).shuttles[i.val]?, h.state = .learning → (b.cell h.cell).learnp = false)
      ∧ ∀ m : Fin 16, m ≠ n → b.segBal m = s.block.segBal m := by
  let y := onSegBal n (fun g => { g with shuttles := modAt g.shuttles i fun _ => Shuttle.failed }) s.block
  let x := abandonLearning ((s.block.segBal n).shuttles.getD i Shuttle.reset) y
  have he : doShuttleFault n i s.block = (note .shuttleFault n [i.val] x).touch [0x80 + 8 * n.val + 6] := doShuttleFault_eq hc hm
  have hbal : (irqWatch s.block (doShuttleFault n i s.block)).bal = y.bal := by rw [irqWatch_bal, he, Block.touch_bal, note_bal, abandonLearning_bal]
  have hsense : (irqWatch s.block (doShuttleFault n i s.block)).sense = x.sense := by rw [irqWatch_sense, he, Block.touch_sense, note_sense]
  refine happens_plain (f := doShuttleFault n i) rfl (by simp [he, x, y, abandonLearning]) (by simp) ⟨?_, fun h hh hl => ?_, fun m hm' => ?_⟩
  · rw [segBal_of_bal hbal, segBal_onSegBal_self hn, List.set_eq_modify]
    rfl
  · have hget : (s.block.segBal n).shuttles.getD i Shuttle.reset = h := by
      rw [List.getD_eq_getElem?_getD, Option.mem_def.mp hh]
      rfl
    rw [cell_of_sense hsense]
    simp only [x, hget]
    exact abandonLearning_learnp hl
  · rw [segBal_of_bal hbal, segBal_onSegBal_ne (Fin.val_ne_of_ne hm')]

theorem bridgeFault_happens {n : Fin 15} (hc : s.block.bal.clearing = none) (hn : n.val < s.block.bal.segs.length) : Happens (.bridgeFault n) s [.bal] fun b =>
    b.segBal n = { s.block.segBal n with bridge := 0, bridgeOn := false, bridgeFault := true } ∧ b.bal.cells = s.block.bal.cells
      ∧ ∀ m : Fin 16, m.val ≠ n.val → b.segBal m = s.block.segBal m := by
  let x := onSegBal n (fun g => { g with bridge := 0, bridgeOn := false, bridgeFault := true }) s.block
  have he : doBridgeFault n s.block = (note .bridgeFault n [] x).touch [0x80 + 8 * n.val + 6] := by
    rw [doBridgeFault, failClearing_idle (by rw [note_bal]; exact hc)]
  have hbal : (irqWatch s.block (doBridgeFault n s.block)).bal = x.bal := by rw [irqWatch_bal, he, Block.touch_bal, note_bal]
  refine happens_plain (f := doBridgeFault n) rfl (by simp [he, x]) (by simp) ⟨?_, ?_, fun m hm => ?_⟩
  · rw [segBal_of_bal hbal, segBal_onSegBal_self hn]
  · rw [hbal]
    rfl
  · rw [segBal_of_bal hbal, segBal_onSegBal_ne hm]

theorem bleedStuck_happens {c : Fin 512} {d : Int} (hc : s.block.bal.clearing = none) (hl : c.val < s.block.bal.cells.length) : Happens (.bleedStuck c d) s [.bal] fun b =>
    b.cellBal c = { s.block.cellBal c with stuck := true, drain := d } ∧ b.bal.segs = s.block.bal.segs ∧ b.exclusion c = s.block.exclusion c
      ∧ ∀ k : Fin 512, k ≠ c → b.cellBal k = s.block.cellBal k := by
  let x := onCellBal c (fun y => { y with stuck := true, drain := d }) s.block
  have he : doBleedStuck c d s.block = (note .bleedStuck c [] x).touch [0x80 + 8 * segOf c + 6, 0x100 + c.val] := by
    rw [doBleedStuck, failClearing_idle (by rw [note_bal]; exact hc)]
  have hbal : (irqWatch s.block (doBleedStuck c d s.block)).bal = x.bal := by rw [irqWatch_bal, he, Block.touch_bal, note_bal]
  refine happens_plain (f := doBleedStuck c d) rfl (by simp [he, x]) (by simp) ⟨?_, ?_, ?_, fun k hk => ?_⟩
  · rw [cellBal_of_bal hbal, cellBal_onCellBal_self hl]
  · rw [hbal]
    rfl
  · exact exclusion_of_same (by simp [he, x]) (by simp [he, x]) (by simp [he, x]) (by simp [he, x]) (by rw [hbal]; rfl) c
  · rw [cellBal_of_bal hbal, cellBal_onCellBal_ne (Fin.val_ne_of_ne hk)]

theorem bridgeFault_fails_clearing {n : Fin 15} {i q m t : Nat} (hc : s.block.bal.clearing = some (.session i q, m, t)) (hm : m.testBit n = true)
    (ht : s.block.sys.now ≤ t + secT) (hq : (s.block.entry? i q).isSome = true) : Happens (.bridgeFault n) s [.bal, .ix, .pwr] fun b =>
      b.bal.clearing = none ∧ b.answered (.session i q) .fault (leBytes 2 0) := by
  let x := (note .bridgeFault n [] (onSegBal n (fun g => { g with bridge := 0, bridgeOn := false, bridgeFault := true }) s.block)).onBal fun y => { y with clearing := none }
  have hx : s.block.touches x [.bal] := by simp [x]
  have he : doBridgeFault n s.block = (complete (.session i q) .fault (leBytes 2 0) x).touch [0x80 + 8 * n.val + 6] := by
    rw [doBridgeFault, failClearing_due (by rw [note_bal]; exact hc) hm (by rw [note_sys]; exact ht)]
  refine happens_touching (f := doBridgeFault n) rfl ?_ (fun h => ?_) ⟨?_, ?_⟩
  · rw [he, touches_touch, touches_complete_session (by decide) (by decide)]
    exact hx.mono (by decide)
  · rw [he, touch_settled, complete_settled]
    exact (settled_of_touches hx (by simp [x]) (by decide)).trans h
  · rw [irqWatch_bal, he, Block.touch_bal, complete_bal]
    rfl
  · rw [he]
    exact answered_irqWatch (answered_touch (answered_complete_held (hx .ix (by decide) (by decide)) hq))

/-! ### The end of a manual target and of the placement (R137, R138) -/

theorem balManualExpiry_happens {n : Fin 16} {m : Manual} (hm : s.block.bal.manuals = [m]) (hs : m.seg = n.val) (hb : m.target.bleed = false) (hn : n.val < s.block.bal.segs.length) :
    Happens (.balManualExpiry n) s [.sys, .bal] fun b =>
      b.sys.now = max s.block.sys.now m.endAt ∧ b.bal.manuals = [] ∧ b.bal.cells = s.block.bal.cells
      ∧ (b.segBal n).shuttles = modAt (s.block.segBal n).shuttles m.target.shuttle Shuttle.open_ := by
  let y := accrue (s.block.at m.endAt)
  have he : doBalManualExpiry n s.block = endManual n y := by simp [doBalManualExpiry, hm, hs, y]
  obtain ⟨q, hq⟩ := accrue_manuals_singleton (b := s.block.at m.endAt) hm
  have hbal : (irqWatch s.block (doBalManualExpiry n s.block)).bal = _ := (irqWatch_bal ..).trans ((congrArg Block.bal he).trans (endManual_bal_shuttle hq hs hb))
  refine happens_plain (f := doBalManualExpiry n) rfl (by simp [he, y]) (by simp [he, y]) ⟨?_, by rw [hbal], by rw [hbal]; rfl, ?_⟩
  · rw [irqWatch_sys, he, endManual_sys]
    rfl
  · rw [Block.segBal, hbal]
    dsimp only
    rw [getD_modAt_self (by rwa [accrue_segs_length])]
    exact congrArg (modAt · m.target.shuttle Shuttle.open_) (accrue_shuttles ..)

theorem open_not_placed (h : Shuttle) : ¬(h.open_.state = .running ∨ h.open_.state = .learning) := by
  unfold Shuttle.open_
  split
  · simp [*]
  · decide

theorem openPlacement_cell (hm : b.bal.manuals = []) (c : Nat) :
    ((openPlacement b).cellBal c).bleed = false ∧ ((openPlacement b).cellBal c).donor = false ∧ ((openPlacement b).cellBal c).receiver = false :=
  getD_mapIdx_prop (P := fun x : CellBal => x.bleed = false ∧ x.donor = false ∧ x.receiver = false) ⟨rfl, rfl, rfl⟩ fun x => by simp [hm]

theorem openPlacement_seg (b : Block) (n : Nat) :
    ((openPlacement b).segBal n).bridge = 0 ∧ ∀ h ∈ ((openPlacement b).segBal n).shuttles, h.state = .running ∨ h.state = .learning → False := by
  by_cases hn : n < b.bal.segs.length
  · have e : (openPlacement b).segBal n = _ := getD_map_lt (d := SegBal.reset) hn
    rw [e]
    refine ⟨rfl, fun h hh => ?_⟩
    obtain ⟨k, -, rfl⟩ := List.mem_map.mp hh
    split
    · simp [*]
    · exact open_not_placed k
  · have e : (openPlacement b).segBal n = SegBal.reset := List.getD_eq_default _ _ (by simpa [openPlacement] using hn)
    rw [e]
    exact ⟨rfl, by decide⟩

@[simp] theorem touches_openPlacement {l : List PartName} (hl : .bal ∈ l) (o b : Block) : o.touches (openPlacement b) l ↔ o.touches b l := touches_onBal hl ..

theorem balDisableDone_happens {i q : Nat} (hd : s.block.bal.disabling = some (.session i q)) (hq : (s.block.entry? i q).isSome = true) (hm : s.block.bal.manuals = []) :
    Happens .balDisableDone s [.bal, .ix, .pwr] fun b =>
      b.bal.en = false ∧ b.bal.disabling = none ∧ (∀ c < 512, (b.cellBal c).bleed = false ∧ (b.cellBal c).donor = false ∧ (b.cellBal c).receiver = false)
      ∧ (∀ n < 16, (b.segBal n).bridge = 0 ∧ ∀ h ∈ (b.segBal n).shuttles, h.state = .running ∨ h.state = .learning → False) ∧ b.answered (.session i q) .ok [] := by
  let y := (openPlacement s.block).onBal fun z => { z with en := false, disabling := none }
  let x := note .balDisabled noArg [] y
  have hx : s.block.touches x [.bal] := by simp [x, y]
  have he : doBalDisableDone s.block = (complete (.session i q) .ok [] x).touch balTiles := by simp [doBalDisableDone, hd, x, y]
  have hbal : (irqWatch s.block (doBalDisableDone s.block)).bal = y.bal := by rw [irqWatch_bal, he, Block.touch_bal, complete_bal, note_bal]
  refine happens_touching (f := doBalDisableDone) rfl ?_ (fun h => ?_) ⟨by rw [hbal]; rfl, by rw [hbal]; rfl, fun c _ => ?_, fun n _ => ?_, ?_⟩
  · rw [he, touches_touch, touches_complete_session (by decide) (by decide)]
    exact hx.mono (by decide)
  · rw [he, touch_settled, complete_settled]
    exact (settled_of_touches hx (by simp [x, y]) (by decide)).trans h
  · rw [cellBal_of_bal hbal]
    exact openPlacement_cell hm c
  · rw [segBal_of_bal hbal]
    exact openPlacement_seg s.block n
  · rw [he]
    exact answered_irqWatch (answered_touch (answered_complete_held (hx .ix (by decide) (by decide)) hq))

end
end Sys2Proof.Machine

namespace Sys2Proof.Machine

/-! ### The surpluses: one for each eligible cell (R128, R129) -/

section
variable {b : Block} {y : Surplus}

theorem surpluses_cells (b : Block) : b.surpluses.1.map (·.cell) = (List.range b.nCell).filter fun c => b.exclusion c == 0 := by
  simp [Block.surpluses, Function.comp_def]

theorem surplus_eligible (h : y ∈ b.surpluses.1) : b.exclusion y.cell = 0 := by
  have hm : y.cell ∈ b.surpluses.1.map (·.cell) := List.mem_map_of_mem h
  rw [surpluses_cells, List.mem_filter] at hm
  simpa using hm.2

theorem surplus_fitted (h : y ∈ b.surpluses.1) : y.cell < 512 := by
  have hm : y.cell ∈ b.surpluses.1.map (·.cell) := List.mem_map_of_mem h
  rw [surpluses_cells, List.mem_filter, List.mem_range, Block.nCell, Block.nSeg] at hm
  split at hm <;> omega

/-- Where no two elements agree in a key, an element is found by its key. -/
theorem find?_eq_some_of_nodup {α β : Type} [BEq β] [LawfulBEq β] {g : α → β} {l : List α} {x : α} (hd : (l.map g).Nodup) (h : x ∈ l) : (l.find? fun z => g z == g x) = some x := by
  induction l with
  | nil => cases h
  | cons z l ih =>
    obtain ⟨hz, hd⟩ := List.nodup_cons.mp hd
    rcases List.mem_cons.mp h with rfl | h
    · simp
    · have hne : (g z == g x) = false := beq_false_of_ne fun he => hz (he ▸ List.mem_map_of_mem h)
      rw [List.find?_cons, hne]
      exact ih hd h

theorem find?_surplus (h : y ∈ b.surpluses.1) : (b.surpluses.1.find? fun z => z.cell == y.cell) = some y :=
  find?_eq_some_of_nodup (g := Surplus.cell) (by rw [surpluses_cells]; exact List.nodup_range.filter _) h

theorem find?_surplus_none {c : Nat} (h : b.exclusion c ≠ 0) : (b.surpluses.1.find? fun z => z.cell == c) = none :=
  List.find?_eq_none.mpr fun z hz hc => h (by rw [← beq_iff_eq.mp hc]; exact surplus_eligible hz)

end

/-! ### What the limits let an element do (R130) -/

/-- A cell may get a shuttle that draws, or one that feeds. -/
def Block.allowsShuttle (b : Block) (p : Nat × Bool) : Prop :=
  b.exclusion p.1 = 0 ∧ (p.2 = true → b.noDraw p.1 = false) ∧ (p.2 = false → b.noFeedV p.1 = false ∧ b.noFeedT p.1 = false)

/-- A target names an eligible cell and keeps the limits of R130. -/
def Block.permits (b : Block) (t : Target) : Prop :=
  b.exclusion t.cell = 0 ∧ (t.bleed = true ∨ 0 < t.cur → b.noDraw t.cell = false)
  ∧ (t.bleed = false ∧ t.cur < 0 → b.noFeedV t.cell = false ∧ b.noFeedT t.cell = false)

section
variable {b : Block}

theorem Block.allowsShuttle.permits {p : Nat × Bool} {cur : Int} (h : b.allowsShuttle p) (hc : 0 < cur) (i : Nat) :
    b.permits { cell := p.1, bleed := false, shuttle := i, cur := if p.2 then cur else -cur, manual := false } := by
  obtain ⟨he, hd, hf⟩ := h
  cases hp : p.2
  · exact ⟨he, fun hx => by simp at hx; omega, fun _ => hf hp⟩
  · exact ⟨he, fun _ => hd hp, fun hx => by simp at hx; omega⟩

/-- A current that keeps its direction, or vanishes, keeps the limits. -/
theorem Block.permits.scaled {t : Target} {i : Int} (h : b.permits t) (hpos : 0 < i → 0 < t.cur) (hneg : i < 0 → t.cur < 0) : b.permits { t with cur := i } := by
  obtain ⟨he, hd, hf⟩ := h
  exact ⟨he, fun hx => hd (hx.imp_right hpos), fun hx => hf ⟨hx.1, hneg hx.2⟩⟩

theorem giveShuttles_permits {cur : Int} (hc : 0 < cur) {ps : List (Nat × Bool)} (hp : ∀ p ∈ ps, b.allowsShuttle p) (hs : List Nat) : ∀ t ∈ giveShuttles cur ps hs, b.permits t := by
  induction ps generalizing hs with
  | nil => simp [giveShuttles]
  | cons p ps ih =>
    cases hs with
    | nil => simp [giveShuttles]
    | cons i is =>
      rw [giveShuttles, List.forall_mem_cons]
      exact ⟨(hp p List.mem_cons_self).permits hc i, ih (fun q hq => hp q (List.mem_cons_of_mem _ hq)) is⟩

theorem mem_insertByDev {x z : Surplus} {l : List Surplus} (h : z ∈ insertByDev x l) : z = x ∨ z ∈ l := by
  induction l with
  | nil => simpa [insertByDev] using h
  | cons w l ih =>
    rw [insertByDev] at h
    split at h
    · exact List.mem_cons.mp h
    · rcases List.mem_cons.mp h with rfl | h
      · exact .inr List.mem_cons_self
      · exact (ih h).imp_right (List.mem_cons_of_mem _)

theorem mem_of_mem_sortByDev {z : Surplus} {l : List Surplus} (h : z ∈ sortByDev l) : z ∈ l := by
  have key : ∀ acc : List Surplus, z ∈ l.foldl (fun a x => insertByDev x a) acc → z ∈ acc ∨ z ∈ l := by
    clear h
    induction l with
    | nil => exact fun acc h => .inl h
    | cons x l ih =>
      intro acc h
      rcases ih _ h with h | h
      · rcases mem_insertByDev h with rfl | h
        · exact .inr List.mem_cons_self
        · exact .inl h
      · exact .inr (List.mem_cons_of_mem _ h)
  simpa using key [] h

theorem dropBleeds_subset (limit : Int) (k : Nat) (l : List Cand) : dropBleeds limit k l ⊆ l := by
  induction k generalizing l with
  | zero => exact fun _ h => h
  | succ k ih =>
    rw [dropBleeds]
    split
    · exact fun _ h => h
    · split
      · exact fun _ h => h
      · exact fun x h => List.mem_of_mem_erase (ih _ h)

/-- The targets of one segment keep the limits. -/
theorem segTargets_permits {n : Nat} {l : List Surplus} (hl : ∀ y ∈ l, b.exclusion y.cell = 0) : ∀ x ∈ b.segTargets n l, b.permits x.target := by
  unfold Block.segTargets
  extract_lets pol g mine man manCell inSvc cur want keep rest free useSh sh bleedOk noShuttle donors bl dOf
  have hmine : ∀ y ∈ sortByDev mine, b.exclusion y.cell = 0 := fun y hy => hl y (List.mem_filter.mp (mem_of_mem_sortByDev hy)).1
  have hwant : ∀ p ∈ want, b.allowsShuttle p := by
    intro p hp
    obtain ⟨y, hy, hp⟩ := List.mem_filterMap.mp hp
    have he := hmine y hy
    extract_lets r at hp
    split at hp
    · cases hp
    · split at hp
      · next h =>
        cases hp
        simp only [Bool.and_eq_true, Bool.not_eq_true'] at h
        exact ⟨he, fun _ => h.2, fun h => by cases h⟩
      · split at hp
        · next h =>
          cases hp
          simp only [Bool.and_eq_true, Bool.not_eq_true'] at h
          exact ⟨he, fun hf => absurd hf (by simp), fun _ => ⟨h.1.2, h.2⟩⟩
        · cases hp
  have hsh : ∀ t ∈ sh, b.permits t := by
    intro t ht
    simp only [sh] at ht
    split at ht
    · next hu =>
      have hcur : 0 < cur := by
        simp only [useSh, Bool.and_eq_true, decide_eq_true_eq] at hu
        omega
      rcases List.mem_append.mp ht with ht | ht
      · obtain ⟨p, hp, ht⟩ := List.mem_filterMap.mp ht
        split at ht
        · split at ht
          · cases ht
            exact (hwant p hp).permits hcur _
          · cases ht
        · cases ht
      · exact giveShuttles_permits hcur (fun p hp => hwant p (List.mem_filter.mp hp).1) _ t ht
    · cases ht
  have hbl : ∀ t ∈ bl, b.permits t := by
    intro t ht
    simp only [bl] at ht
    split at ht
    · obtain ⟨y, hy, rfl⟩ := List.mem_map.mp ht
      obtain ⟨hy, hd⟩ := List.mem_filter.mp (List.mem_of_mem_take hy)
      simp only [Bool.and_eq_true, Bool.not_eq_true'] at hd
      exact ⟨hmine y hy, fun _ => hd.1.1.2, fun h => by cases h.1⟩
    · cases ht
  intro x hx
  rcases List.mem_append.mp hx with hx | hx
  · obtain ⟨t, ht, rfl⟩ := List.mem_map.mp hx
    exact hsh t ht
  · obtain ⟨t, ht, rfl⟩ := List.mem_map.mp hx
    exact hbl t ht

theorem scaleCur_pos {num den i : Int} (h : 0 < scaleCur num den i) : 0 < i := by
  unfold scaleCur at h
  extract_lets m at h
  split at h
  · omega
  · next hm =>
    split at h
    · rcases (show 0 ≤ i by assumption).lt_or_eq with hi | rfl
      · exact hi
      · exact absurd (show m < 100 by simp [m]) hm
    · omega

theorem scaleCur_neg {num den i : Int} (h : scaleCur num den i < 0) : i < 0 := by
  unfold scaleCur at h
  extract_lets m at h
  split at h
  · omega
  · split at h
    · omega
    · omega

/-! ### One decision (R132) -/

/-- A cell as a decision leaves it. -/
def Block.judged (b : Block) (c : Nat) (x : CellBal) : CellBal :=
  match b.surpluses.1.find? fun y => y.cell == c with
  | some y =>
    let r := newRoles b.bal.policy y.d x
    { x with exclReason := b.exclusion c, dev := some (y.d / fxOne), donor := r.1, receiver := r.2
             limV := (r.1 && b.noDraw c) || (r.2 && b.noFeedV c), limT := r.2 && b.noFeedT c }
  | none => { x with exclReason := b.exclusion c, dev := none, donor := false, receiver := false, limV := false, limT := false }

theorem judged_eligible {y : Surplus} (h : y ∈ b.surpluses.1) (x : CellBal) : (b.judged y.cell x).dev = some (y.d / fxOne)
    ∧ ((b.judged y.cell x).donor, (b.judged y.cell x).receiver) = newRoles b.bal.policy y.d x := by
  rw [Block.judged, find?_surplus h]
  exact ⟨rfl, rfl⟩

theorem judged_excluded {c : Nat} (h : b.exclusion c ≠ 0) (x : CellBal) : (b.judged c x).dev = none ∧ (b.judged c x).donor = false ∧ (b.judged c x).receiver = false := by
  rw [Block.judged, find?_surplus_none h]
  exact ⟨rfl, rfl, rfl⟩

theorem judged_exclReason (b : Block) (c : Nat) (x : CellBal) : (b.judged c x).exclReason = b.exclusion c := by
  unfold Block.judged
  split <;> rfl

theorem decide_cells (b : Block) : (decide_ b).bal.cells = b.bal.cells.mapIdx b.judged := by
  unfold decide_
  simp only [Block.touch_bal, apply_ite Block.bal, note_bal, Block.onPwr_bal, ite_self]
  rfl

theorem decide_decisions (b : Block) : (decide_ b).bal.decisions = (b.bal.decisions + 1) % 4294967296 := by
  unfold decide_
  simp only [Block.touch_bal, apply_ite Block.bal, note_bal, Block.onPwr_bal, ite_self]
  rfl

/-- The candidates of all segments, before the dissipation rule. -/
def Block.cands (b : Block) : List Cand := (List.range b.nSeg).flatMap fun n => b.segTargets n b.surpluses.1

theorem cands_permit {x : Cand} (h : x ∈ b.cands) : b.permits x.target := by
  obtain ⟨n, -, hx⟩ := List.mem_flatMap.mp h
  exact segTargets_permits (fun _ => surplus_eligible) x hx

/-- What is sent are candidates, the shuttles at currents that keep their direction. -/
theorem decide_sent (b : Block) : ∃ (sh bl : List Cand) (sc : Int → Int) (br : List (Nat × Int)),
    (decide_ b).bal.sent = some ((sh.map fun x => { x.target with cur := sc x.target.cur }).filter (fun t => t.cur != 0) ++ bl.map (·.target), br)
    ∧ sh ⊆ b.cands ∧ bl ⊆ b.cands ∧ ∀ i, (0 < sc i → 0 < i) ∧ (sc i < 0 → i < 0) := by
  unfold decide_
  extract_lets pol limit total
  split
  next l socT hs =>
  extract_lets cands brs bleeds sh brTotal exceeds bleeds1 num den sc tg br k est b1 b2 b3
  have hc : b.cands = cands := by rw [Block.cands, hs]
  rw [hc]
  refine ⟨sh, bleeds1, sc, br, ?_, fun x hx => ?_, fun x hx => ?_, fun i => ?_⟩
  · simp only [b3, b2, Block.touch_bal, apply_ite Block.bal, note_bal, Block.onPwr_bal, ite_self]
    rfl
  · exact (List.mem_filter.mp (List.mem_of_mem_take hx)).1
  · have hx : x ∈ bleeds := by
      simp only [bleeds1] at hx
      split at hx
      · exact dropBleeds_subset _ _ _ hx
      · exact hx
    exact (List.mem_filter.mp hx).1
  · simp only [sc]
    split
    · exact ⟨scaleCur_pos, scaleCur_neg⟩
    · exact ⟨id, id⟩

/-- Every target sent keeps the limits. -/
theorem decide_permits (b : Block) : ∃ t ∈ (decide_ b).bal.sent, ∀ x ∈ t.1, b.permits x := by
  obtain ⟨sh, bl, sc, br, he, hsh, hbl, hsc⟩ := decide_sent b
  refine ⟨_, he, fun x hx => ?_⟩
  rcases List.mem_append.mp hx with hx | hx
  · obtain ⟨y, hy, rfl⟩ := List.mem_map.mp (List.mem_filter.mp hx).1
    exact (cands_permit (hsh hy)).scaled (hsc _).1 (hsc _).2
  · obtain ⟨y, hy, rfl⟩ := List.mem_map.mp hx
    exact cands_permit (hbl hy)

end
end Sys2Proof.Machine

namespace Sys2Proof.Machine

/-! ### PLACEMENT_DECISION (R133, R136, R139, R140) -/

section
variable {s : State} {b : Block}

/-- The block at the start of a decision: its moment has come and the counters are up to date (R133, R143). -/
def Block.decisionStart (b : Block) : Block := accrue (b.at (b.nextMultiple 10000000))

/-- The condition of a decision (R136). -/
def Block.places (b : Block) : Bool := b.bal.en && b.bal.disabling.isNone && (decide (b.sys.mstate = .park) || decide (b.sys.mstate = .run)) && !b.hinge

theorem decisionStart_now (b : Block) : b.decisionStart.sys.now = b.nextMultiple 10000000 := by
  have hlt : b.sys.now ≤ b.nextMultiple 10000000 := by unfold Block.nextMultiple; omega
  exact max_eq_right hlt

theorem touches_decisionStart (b : Block) : b.touches b.decisionStart [.sys, .bal] := by simp [Block.decisionStart]

theorem decisionStart_places (b : Block) : b.decisionStart.places = b.places := rfl

theorem doPlacementDecision_eq (b : Block) : doPlacementDecision b =
    if (balClearDue b.decisionStart).places = true then decide_ (balClearDue b.decisionStart) else balClearDue b.decisionStart := by
  unfold doPlacementDecision Block.places Block.decisionStart
  simp

theorem balClearDue_idle (h : b.bal.clearing = none) : balClearDue b = b := by rw [balClearDue, h]

theorem places_eq_true : b.places = true ↔ b.bal.en = true ∧ b.bal.disabling = none ∧ (b.sys.mstate = .park ∨ b.sys.mstate = .run) ∧ b.hinge = false := by
  simp [Block.places, and_assoc]

theorem touches_decide {l : List PartName} (hl : .bal ∈ l) (hs : b.pwr.sdsCap = b.sdsOn) (o : Block) : o.touches (decide_ b) l ↔ o.touches b l := by
  simp [decide_, hl, hs]

theorem decide_sys (b : Block) : (decide_ b).sys = b.sys := by simp [decide_, apply_ite Block.sys]

theorem placementDecision_decides (hc : s.block.bal.clearing = none) (he : s.block.bal.en = true) (hd : s.block.bal.disabling = none)
    (hm : s.block.sys.mstate = .park ∨ s.block.sys.mstate = .run) (hh : s.block.hinge = false) (hl : s.block.bal.cells.length = 512) (hs : s.block.pwr.sdsCap = s.block.sdsOn) :
    Happens .placementDecision s [.sys, .bal] fun b =>
      b.sys.now = s.block.nextMultiple 10000000 ∧ b.bal.decisions = (s.block.bal.decisions + 1) % 4294967296
      ∧ (∀ c < 512, (b.cellBal c).exclReason = s.block.exclusion c ∧ (s.block.exclusion c ≠ 0 → (b.cellBal c).dev = none ∧ (b.cellBal c).donor = false ∧ (b.cellBal c).receiver = false))
      ∧ (∀ y ∈ s.block.surpluses.1, (b.cellBal y.cell).dev = some (y.d / fxOne)
          ∧ ((b.cellBal y.cell).donor, (b.cellBal y.cell).receiver) = newRoles s.block.bal.policy y.d (s.block.cellBal y.cell))
      ∧ ∃ t ∈ b.bal.sent, ∀ x ∈ t.1, s.block.exclusion x.cell = 0 ∧ (x.bleed = true ∨ 0 < x.cur → s.block.noDraw x.cell = false)
          ∧ (x.bleed = false ∧ x.cur < 0 → s.block.noFeedV x.cell = false ∧ s.block.noFeedT x.cell = false) := by
  let x := s.block.decisionStart
  have hf : doPlacementDecision s.block = decide_ x := by
    rw [doPlacementDecision_eq, balClearDue_idle (b := s.block.decisionStart) hc, decisionStart_places, if_pos (places_eq_true.mpr ⟨he, hd, hm, hh⟩)]
  have hbal : (irqWatch s.block (doPlacementDecision s.block)).bal = (decide_ x).bal := by rw [irqWatch_bal, hf]
  have hcell (c : Nat) (hc : c < 512) : (irqWatch s.block (doPlacementDecision s.block)).cellBal c = x.judged c (s.block.cellBal c) := by
    rw [Block.cellBal, hbal, decide_cells]
    exact getD_mapIdx (l := s.block.bal.cells) (by omega)
  refine happens_plain (f := doPlacementDecision) rfl ?_ ?_ ⟨?_, ?_, fun c hc => ?_, fun y hy => ?_, ?_⟩
  · rw [hf]
    exact (touches_decide (b := x) (by decide) hs _).mpr (touches_decisionStart _)
  · rw [hf, decide_sys]
    rfl
  · rw [irqWatch_sys, hf, decide_sys]
    exact decisionStart_now _
  · rw [hbal, decide_decisions]
    rfl
  · rw [hcell c hc]
    exact ⟨judged_exclReason x c _, fun h => judged_excluded (b := x) h _⟩
  · rw [hcell _ (surplus_fitted hy)]
    exact judged_eligible (b := x) hy _
  · rw [hbal]
    exact decide_permits x

theorem placementDecision_rests (hc : s.block.bal.clearing = none)
    (hn : s.block.bal.en = false ∨ (s.block.sys.mstate ≠ .park ∧ s.block.sys.mstate ≠ .run) ∨ s.block.hinge = true) : Happens .placementDecision s [.sys, .bal] fun b =>
      b.sys.now = s.block.nextMultiple 10000000 ∧ b.bal.decisions = s.block.bal.decisions ∧ b.bal.sent = s.block.bal.sent ∧ b.bal.cells = s.block.bal.cells := by
  have hp : ¬s.block.places = true := by
    rw [places_eq_true]
    rintro ⟨he, -, hm, hh⟩
    rcases hn with hn | ⟨h1, h2⟩ | hn
    · simp [he] at hn
    · exact hm.elim h1 h2
    · simp [hh] at hn
  have hf : doPlacementDecision s.block = s.block.decisionStart := by
    rw [doPlacementDecision_eq, balClearDue_idle (b := s.block.decisionStart) hc, decisionStart_places, if_neg hp]
  refine happens_plain (f := doPlacementDecision) rfl (hf ▸ touches_decisionStart _) (by rw [hf]; rfl) ?_
  rw [irqWatch_sys, irqWatch_bal, hf]
  exact ⟨decisionStart_now _, rfl, rfl, rfl⟩

/-- All elements of a segment are in service (R140). -/
def Block.segServes (b : Block) (n : Nat) : Bool :=
  ((b.segBal n).shuttles.all fun h => h.state != .outOfService) && !(b.segBal n).bridgeFault && !((List.range 32).any fun i => (b.cellBal (32 * n + i)).stuck)

/-- The second of BAL_CLEAR_FAULT has passed. -/
theorem balClearDue_done {src : Src} {m t : Nat} (h : b.bal.clearing = some (src, m, t)) (ht : t + secT ≤ b.sys.now) : balClearDue b =
    complete src .ok (leBytes 2 (maskOf ((List.range b.nSeg).map b.segServes))) (b.onBal fun y => { y with clearing := none }) := by
  rw [balClearDue, h]
  exact if_pos ht

theorem maskOf_replicate_true (n : Nat) : maskOf (List.replicate n true) = 2 ^ n - 1 := by
  induction n with
  | zero => rfl
  | succ n ih =>
    rw [List.replicate_succ, maskOf, ih, pow_succ, b2n, if_pos rfl]
    have := Nat.one_le_two_pow (n := n)
    omega

theorem nSeg_le (b : Block) : b.nSeg ≤ 16 := by
  unfold Block.nSeg
  split <;> decide

theorem segServes_mask (h : ∀ n < 16, b.segServes n = true) : maskOf ((List.range b.nSeg).map b.segServes) = 2 ^ b.nSeg - 1 := by
  rw [← maskOf_replicate_true]
  congr 1
  refine List.eq_replicate_iff.mpr ⟨by simp, fun x hx => ?_⟩
  obtain ⟨n, hn, rfl⟩ := List.mem_map.mp hx
  exact h n ((List.mem_range.mp hn).trans_le (nSeg_le b))

theorem placementDecision_clears {i q m t : Nat} (hc : s.block.bal.clearing = some (.session i q, m, t)) (hq : (s.block.entry? i q).isSome = true)
    (ht : t + secT ≤ s.block.nextMultiple 10000000) (he : s.block.bal.en = false)
    (hseg : ∀ n < 16, ((s.block.segBal n).shuttles.any fun h => h.state == .outOfService) = false ∧ (s.block.segBal n).bridgeFault = false)
    (hcell : ∀ c < 512, (s.block.cellBal c).stuck = false) : Happens .placementDecision s [.sys, .bal, .ix, .pwr] fun b =>
      b.bal.clearing = none ∧ b.answered (.session i q) .ok (leBytes 2 (2 ^ s.block.nSeg - 1)) := by
  let x := s.block.decisionStart.onBal fun y => { y with clearing := none }
  have hx : s.block.touches x [.sys, .bal] := (touches_onBal (by decide) ..).mpr (touches_decisionStart _)
  have hserves : ∀ n < 16, s.block.decisionStart.segServes n = true := fun n hn => by
    obtain ⟨hsh, hbr⟩ := hseg n hn
    have hall : ((s.block.segBal n).shuttles.all fun h => h.state != .outOfService) = true := by simpa using hsh
    have hstuck : ((List.range 32).any fun i => (s.block.cellBal (32 * n + i)).stuck) = false := by
      simpa using fun i hi => hcell (32 * n + i) (by omega)
    have hsh' : (s.block.decisionStart.segBal n).shuttles = (s.block.segBal n).shuttles := accrue_shuttles ..
    have hbr' : (s.block.decisionStart.segBal n).bridgeFault = (s.block.segBal n).bridgeFault := accrue_bridgeFault ..
    rw [Block.segServes, hsh', hbr', hall, hbr]
    exact congrArg (!·) hstuck
  have hdue : balClearDue s.block.decisionStart = complete (.session i q) .ok (leBytes 2 (2 ^ s.block.nSeg - 1)) x := by
    rw [balClearDue_done (b := s.block.decisionStart) hc (by rwa [decisionStart_now]), segServes_mask hserves]
    rfl
  have hf : doPlacementDecision s.block = complete (.session i q) .ok (leBytes 2 (2 ^ s.block.nSeg - 1)) x := by
    have hp : ¬(balClearDue s.block.decisionStart).places = true := by
      rw [places_eq_true, hdue, complete_bal]
      exact fun h => absurd h.1 (by rw [show x.bal.en = false from he]; decide)
    rw [doPlacementDecision_eq, if_neg hp, hdue]
  refine happens_touching (f := doPlacementDecision) rfl ?_ (fun h => ?_) ⟨?_, ?_⟩
  · rw [hf, touches_complete_session (by decide) (by decide)]
    exact hx.mono (by decide)
  · rw [hf, complete_settled]
    exact (settled_of_touches hx rfl (by decide)).trans h
  · rw [irqWatch_bal, hf, complete_bal]
    rfl
  · rw [hf]
    exact answered_irqWatch (answered_complete_held (hx .ix (by decide) (by decide)) hq)

end

/-- Settles O15: each command's clause by its own lemma above. -/
theorem balancingDecidesDeratesAndFails : Obligations.BalancingDecidesDeratesAndFails := by
  unfold Obligations.BalancingDecidesDeratesAndFails
  exact ⟨fun _ _ => targetsFrame_stages, fun _ _ => targetsFrame_queues, fun _ => placementDecision_decides, fun _ => placementDecision_rests,
    fun _ _ _ _ _ => placementDecision_clears, fun _ _ _ => dieTemperatureChange_cool, fun _ _ _ => dieTemperatureChange_derates, fun _ _ _ => dieTemperatureChange_stops,
    fun _ _ _ hc hm hn _ => shuttleFault_happens hc hm hn, fun _ _ => bridgeFault_happens, fun _ _ _ => bleedStuck_happens, fun _ _ _ _ _ _ => bridgeFault_fails_clearing,
    fun _ _ _ => balManualExpiry_happens, fun _ _ _ => balDisableDone_happens⟩

end Sys2Proof.Machine

namespace Sys2Proof.Machine
open Slice0

/-! ### A wake current under a Hinge hold (R170, R455, R461) -/

section
variable {i : Instr} {s : State} {b : Block}

/-- A command has one end. -/
theorem Ends.both {P Q : Block → Prop} (hp : Ends i s P) (hq : Ends i s Q) : ∃ b, P b ∧ Q b := by
  obtain ⟨t, ht, -, htp⟩ := hp
  obtain ⟨u, hu, -, huq⟩ := hq
  cases ht.symm.trans hu
  exact ⟨t.block, htp, huq⟩

/-- In a hold a change of state that an event asks for waits. -/
theorem enterState_of_hinge {m : MState} {cause : Nat} (h : b.hinge = true) : enterState m cause b = deferState m cause [] b := if_pos h

@[simp] theorem noteWake_hinge (cond : Nat) (b : Block) : (noteWake cond b).hinge = b.hinge := by
  unfold noteWake
  split
  · simp [Block.hinge]
  · rfl

/-- A wake current that comes in a hold leaves the module in HIBERNATE; the change to PARK waits for the hold's end. -/
theorem wakeCurrent_held (hm : s.block.sys.mstate = .hibernate) (hh : s.block.hinge = true) :
    Happens .wakeCurrent s controlled fun b => b.sys.mstate = .hibernate := by
  have hf : doWakeCurrent s.block = deferState .park Event.fltWake.code [] (noteWake 0 s.block) := by
    rw [doWakeCurrent, if_pos hm, enterState_of_hinge (by rwa [noteWake_hinge])]
  refine happens_touching (f := doWakeCurrent) rfl (by simp [hf]) (fun h => ?_) ?_
  · have hw : (noteWake 0 s.block).settled = true := by rwa [settled_of_touches (o := s.block) (l := []) (by simp) (by simp) (by decide)]
    rw [hf]
    exact (settled_of_same rfl rfl rfl rfl rfl rfl).trans hw
  · rw [irqWatch_sys, hf, deferState_sys, noteWake_mstate, hm]

end

/-- A module in HIBERNATE under a Hinge hold. -/
def hibernatingInHold : State := up (fun b => b.onPwr fun p => { p with hold := some 123400000 }) hib

/-- Refutes O18: in a Hinge hold a wake current does not end HIBERNATE; the change of state waits for the end of the hold (R455, R461). -/
theorem not_learnedValuesAreSaved : ¬ Obligations.LearnedValuesAreSaved := by
  rintro ⟨-, -, -, -, -, -, -, hwake, -⟩
  have hset : hibernatingInHold.block.settled = true := by decide +kernel
  obtain ⟨b, ⟨⟨hpark, -⟩, -⟩, hhib, -⟩ := (hwake hibernatingInHold rfl hset).both (wakeCurrent_held rfl rfl hset)
  rw [hpark] at hhib
  cases hhib

end Sys2Proof.Machine

namespace Sys2Proof.Machine

/-! ### The filters: one cell's changed, and what the other operations leave of them -/

section
variable {a b : Block}

theorem cellFlt_of_flt (h : a.flt = b.flt) (c : Nat) : a.cellFlt c = b.cellFlt c := by rw [Block.cellFlt, Block.cellFlt, h]

theorem irqWatch_cellFlt (a b : Block) (c : Nat) : (irqWatch a b).cellFlt c = b.cellFlt c := cellFlt_of_flt (irqWatch_flt ..) c

theorem cellFlt_onCellFlt_self {k : Nat} {f : CellFlt → CellFlt} (h : k < b.flt.cells.length) : (onCellFlt k f b).cellFlt k = f (b.cellFlt k) := getD_modAt_self h
theorem cellFlt_onCellFlt_ne {k j : Nat} {f : CellFlt → CellFlt} (h : j ≠ k) : (onCellFlt k f b).cellFlt j = b.cellFlt j := getD_modAt_ne h

@[simp] theorem onCellFlt_sys (k : Nat) (f : CellFlt → CellFlt) (b : Block) : (onCellFlt k f b).sys = b.sys := rfl
@[simp] theorem onCellFlt_cells_length (k : Nat) (f : CellFlt → CellFlt) (b : Block) : (onCellFlt k f b).flt.cells.length = b.flt.cells.length := List.length_modify ..

/-- The next multiple lies ahead. -/
theorem now_le_nextMultiple {p : Nat} (hp : 0 < p) (b : Block) : b.sys.now ≤ b.nextMultiple p := by
  have h := Nat.div_add_mod b.sys.now p
  have hlt := Nat.mod_lt b.sys.now hp
  rw [Block.nextMultiple, Nat.add_mul, Nat.mul_comm]
  omega

end

/-! #### The string figures, the conditions of a save and the events of a step (R168, R173, R179) -/

/-- What a step writes and neither the string figures nor a save changes. -/
def FltPart.ofStep (f : FltPart) : List CellFlt × List (Option Slot) × FltConfig × Nat × Nat := (f.cells, f.slots, f.config, f.steps, f.lastStep)

@[simp] theorem startSave_ofStep (cause : Nat) (b : Block) : (startSave cause b).flt.ofStep = b.flt.ofStep := by
  unfold startSave
  split <;> rfl

@[simp] theorem stringFigures_ofStep (t : Fx) (b : Block) : (stringFigures t b).flt.ofStep = b.flt.ofStep := by
  unfold stringFigures
  dsimp only
  split <;> rfl

/-- The conditions of the string are tracked in the filters' part, and a save of cause 3 may start (R173). -/
theorem trackString_cases (b : Block) : ∃ f : FltPart, f.ofStep = b.flt.ofStep ∧
    (trackString b = (b.onFlt fun _ => f) ∨ trackString b = startSave 3 (b.onFlt fun _ => f)) := by
  unfold trackString
  extract_lets cm i now charging low rest b1
  refine ⟨b1.flt, rfl, ?_⟩
  split
  · split
    · exact .inr rfl
    · exact .inl rfl
  · exact .inl rfl

@[simp] theorem trackString_ofStep (b : Block) : (trackString b).flt.ofStep = b.flt.ofStep := by
  obtain ⟨f, hf, h | h⟩ := trackString_cases b
  · rw [h]
    exact hf
  · rw [h, startSave_ofStep]
    exact hf

@[simp] theorem noteStep_flt (old : List CellFlt) (b : Block) (c : Nat) : (noteStep old b c).flt = b.flt := by simp [noteStep, apply_ite Block.flt]
@[simp] theorem noteStep_sys (old : List CellFlt) (b : Block) (c : Nat) : (noteStep old b c).sys = b.sys := by simp [noteStep, apply_ite Block.sys]
@[simp] theorem stringFigures_sys (t : Fx) (b : Block) : (stringFigures t b).sys = b.sys := by simp [stringFigures, apply_ite Block.sys]
@[simp] theorem trackString_sys (b : Block) : (trackString b).sys = b.sys := by
  obtain ⟨f, -, h | h⟩ := trackString_cases b <;> simp [h]

section
variable {l : List PartName}

@[simp] theorem touches_noteStep (o b : Block) (old : List CellFlt) (c : Nat) : o.touches (noteStep old b c) l ↔ o.touches b l := by simp [noteStep]
@[simp] theorem touches_stringFigures (hl : .flt ∈ l) (o b : Block) (t : Fx) : o.touches (stringFigures t b) l ↔ o.touches b l := by simp [stringFigures, hl]
@[simp] theorem touches_trackString (hl : .flt ∈ l) (o b : Block) : o.touches (trackString b) l ↔ o.touches b l := by
  obtain ⟨f, -, h | h⟩ := trackString_cases b <;> simp [h, hl]

end
end Sys2Proof.Machine

namespace Sys2Proof.Machine

/-! ### One filter's step (R146, R153 to R162) -/

section
variable {b : Block} {k : Nat} {c : CellFlt}

theorem clampI_mem {lo hi v : Int} (h : lo ≤ hi) : lo ≤ clampI lo hi v ∧ clampI lo hi v ≤ hi := ⟨le_max_left .., max_le h (min_le_left ..)⟩

/-- No current is known for the block if and only if no snapshot was counted (R153). -/
theorem stepCurrent_eq_none : b.stepCurrent k = none ↔ (b.cellFlt k).nI = 0 := by simp [Block.stepCurrent]

/-- A filter without a table, or not initialised, does not step. -/
theorem stepFilter_unready (h : b.slotOf k = none ∨ c.initialised = false) : stepFilter b k c = { c.emptied with valid := false } := by
  unfold stepFilter
  cases hs : b.slotOf k with
  | none => rfl
  | some x => simp [h.resolve_left (by simp [hs])]

/-- Without a current the step is skipped. -/
theorem stepFilter_skips (hs : b.slotOf k ≠ none) (hi : c.initialised = true) (hn : b.stepCurrent k = none) :
    stepFilter b k c = { c with skipped := true, missed := c.missed + 1, predRun := c.predRun + 1 } := by
  obtain ⟨x, hx⟩ := Option.ne_none_iff_exists'.mp hs
  simp [stepFilter, hx, hi, hn]

/-- What a step leaves of a filter `c`, as `n`: its bounds, when it may be valid, and its counts (R146, R155 to R161). -/
structure CellFlt.SteppedTo (b : Block) (c n : CellFlt) : Prop where
  h_mem : -fxOne ≤ n.h ∧ n.h ≤ fxOne
  z_mem : -(fxOne / 20) ≤ n.z ∧ n.z ≤ fxOne + fxOne / 20
  r_mem : 0 ≤ n.r ∧ n.r ≤ fxOne
  sure_of_valid : n.valid = true → n.sigma ≤ b.sigmaValid ∧ b.sys.now < n.tempAt + 60 * secT
  pred_eq : n.pred = decide (c.nV = 0)
  emptied : n.nV = 0 ∧ n.nI = 0 ∧ n.missed = 0
  predRun_eq : c.nV = 0 → n.predRun = c.predRun + 1
  innovRun_eq : n.innov = true → n.innovRun = c.innovRun + 1

theorem vMean_isNone (c : CellFlt) : c.vMean.isNone = decide (c.nV = 0) := by
  unfold CellFlt.vMean
  split
  · next h => simp [h]
  · next h => simp [h]

theorem stepFilter_steps (hs : b.slotOf k ≠ none) (hi : c.initialised = true) (hn : b.stepCurrent k ≠ none) : c.SteppedTo b (stepFilter b k c) := by
  obtain ⟨x, hx⟩ := Option.ne_none_iff_exists'.mp hs
  obtain ⟨i, hcur⟩ := Option.ne_none_iff_exists'.mp hn
  have hone : (0 : Int) ≤ fxOne := by decide
  unfold stepFilter
  simp only [hx, hi, hcur, Bool.not_true, Bool.false_eq_true, if_false]
  exact {
    h_mem := clampI_mem (by decide)
    z_mem := clampI_mem (by decide)
    r_mem := clampI_mem hone
    sure_of_valid := fun hv => by
      simp only [CellFlt.emptied, trackRest, Bool.and_eq_true, decide_eq_true_eq] at hv
      exact hv.1
    pred_eq := vMean_isNone c
    emptied := ⟨rfl, rfl, rfl⟩
    predRun_eq := fun h => if_pos ((vMean_isNone c).trans (decide_eq_true h))
    innovRun_eq := fun h => if_pos h }

end
end Sys2Proof.Machine

namespace Sys2Proof.Machine

/-! ### FILTER_STEP (R152, R156, R159) -/

section
variable {s : State} {b : Block} {c : Nat}

/-- Every filter whose turn it is has stepped, at the step's moment; the turn of the others is missed (R152, R158). -/
def Block.filtersStepped (b : Block) : Block :=
  (b.at (b.nextMultiple 1000000)).onFlt fun f => { f with
    cells := f.cells.mapIdx fun c x => if b.nCell ≤ c then x else if b.stepsNow c then stepFilter (b.at (b.nextMultiple 1000000)) c x else { x with missed := x.missed + 1 }
    frozen := false
    wakePending := false
    turn := (f.turn + 1) % 6
    steps := f.steps + 1
    lastStep := b.nextMultiple 1000000 % 4294967296 }

/-- A filter step that follows no wake: the filters, then the events, the string figures and the conditions of a save. -/
theorem doFilterStep_eq (hm : b.sys.mstate ∈ [MState.park, .run, .fault, .safe]) (hw : b.flt.wakePending = false) (hs : b.seqsOk ≠ 0) :
    doFilterStep b = (trackString (stringFigures (fxQ 1 100) ((List.range b.nCell).foldl (noteStep b.flt.cells) b.filtersStepped))).touch fltTiles := by
  have hn : ¬(b.sys.mstate = .boot ∨ b.sys.mstate = .off ∨ b.sys.mstate = .hibernate) := by
    rintro (h | h | h) <;> simp [h] at hm
  simp only [not_or] at hn
  simp [doFilterStep, hw, hs, hn]
  rfl

theorem doFilterStep_idle (h : b.sys.mstate ∈ [MState.off, .boot, .hibernate] ∨ b.seqsOk = 0) : doFilterStep b = b := by
  refine if_pos ?_
  rcases h with h | h
  · simp only [List.mem_cons, List.not_mem_nil, or_false] at h
    rcases h with h | h | h
    · exact .inr (.inl h)
    · exact .inl h
    · exact .inr (.inr (.inl h))
  · exact .inr (.inr (.inr (.inr h)))

theorem filterStep_idle (h : s.block.sys.mstate ∈ [MState.off, .boot, .hibernate] ∨ s.block.seqsOk = 0) : Happens .filterStep s [] fun _ => True :=
  happens_nothing (f := doFilterStep) rfl (doFilterStep_idle h)

theorem cellFlt_filtersStepped (hc : c < b.nCell) (hl : c < b.flt.cells.length) : b.filtersStepped.cellFlt c =
    if b.stepsNow c = true then stepFilter (b.at (b.nextMultiple 1000000)) c (b.cellFlt c) else { b.cellFlt c with missed := (b.cellFlt c).missed + 1 } :=
  (getD_mapIdx hl).trans (if_neg (Nat.not_le.mpr hc))

theorem filtersStepped_now (b : Block) : b.filtersStepped.sys.now = b.nextMultiple 1000000 := max_eq_right (now_le_nextMultiple (by decide) b)

/-- A filter step that follows no wake, by what it leaves of the time base and of the filters. -/
theorem filterStep_happens {P : Block → Prop} (hm : s.block.sys.mstate ∈ [MState.park, .run, .fault, .safe]) (hw : s.block.flt.wakePending = false) (hs : s.block.seqsOk ≠ 0)
    (hP : ∀ b : Block, b.sys.now = s.block.nextMultiple 1000000 → b.flt.ofStep = s.block.filtersStepped.flt.ofStep → P b) : Happens .filterStep s [.sys, .flt] P := by
  let y := (List.range s.block.nCell).foldl (noteStep s.block.flt.cells) s.block.filtersStepped
  have hf : doFilterStep s.block = (trackString (stringFigures (fxQ 1 100) y)).touch fltTiles := doFilterStep_eq hm hw hs
  have hflt : y.flt = s.block.filtersStepped.flt := foldl_keeps Block.flt _ (fun _ _ => noteStep_flt ..) _ _
  have hsys : y.sys = s.block.filtersStepped.sys := foldl_keeps Block.sys _ (fun _ _ => noteStep_sys ..) _ _
  refine happens_plain (f := doFilterStep) rfl ?_ (doFilterStep_mstate _) (hP _ ?_ ?_)
  · rw [hf, touches_touch, touches_trackString (by decide), touches_stringFigures (by decide)]
    exact (touches_foldl (fun o b c => touches_noteStep o b _ c) _ _ _).mpr (by simp [Block.filtersStepped])
  · rw [irqWatch_sys, hf, Block.touch_sys, trackString_sys, stringFigures_sys, hsys, filtersStepped_now]
  · rw [irqWatch_flt, hf, Block.touch_flt, trackString_ofStep, stringFigures_ofStep, hflt]

theorem filterStep_steps (hm : s.block.sys.mstate ∈ [MState.park, .run, .fault, .safe]) (hw : s.block.flt.wakePending = false) (hs : s.block.seqsOk ≠ 0) :
    Happens .filterStep s [.sys, .flt] fun b =>
      b.sys.now = s.block.nextMultiple 1000000 ∧ b.flt.steps = s.block.flt.steps + 1 ∧ b.flt.lastStep = s.block.nextMultiple 1000000 % 4294967296 ∧ b.flt.slots = s.block.flt.slots
      ∧ b.flt.config = s.block.flt.config
      ∧ (∀ c < s.block.nCell, c < s.block.flt.cells.length → s.block.stepsNow c = false → b.cellFlt c = { s.block.cellFlt c with missed := (s.block.cellFlt c).missed + 1 })
      ∧ (∀ c < s.block.nCell, c < s.block.flt.cells.length → s.block.stepsNow c = true → s.block.slotOf c = none ∨ (s.block.cellFlt c).initialised = false →
          (b.cellFlt c).valid = false ∧ (b.cellFlt c).z = (s.block.cellFlt c).z ∧ (b.cellFlt c).nV = 0)
      ∧ (∀ c < s.block.nCell, c < s.block.flt.cells.length → s.block.stepsNow c = true → s.block.slotOf c ≠ none → (s.block.cellFlt c).initialised = true → (s.block.cellFlt c).nI = 0 →
          b.cellFlt c = { s.block.cellFlt c with skipped := true, missed := (s.block.cellFlt c).missed + 1, predRun := (s.block.cellFlt c).predRun + 1 })
      ∧ ∀ c < s.block.nCell, c < s.block.flt.cells.length → s.block.stepsNow c = true → s.block.slotOf c ≠ none → (s.block.cellFlt c).initialised = true → (s.block.cellFlt c).nI ≠ 0 →
          -fxOne ≤ (b.cellFlt c).h ∧ (b.cellFlt c).h ≤ fxOne ∧ -(fxOne / 20) ≤ (b.cellFlt c).z ∧ (b.cellFlt c).z ≤ fxOne + fxOne / 20 ∧ 0 ≤ (b.cellFlt c).r ∧ (b.cellFlt c).r ≤ fxOne
          ∧ ((b.cellFlt c).valid = true → (b.cellFlt c).sigma ≤ s.block.sigmaValid ∧ b.sys.now < (b.cellFlt c).tempAt + 60 * secT)
          ∧ (b.cellFlt c).pred = decide ((s.block.cellFlt c).nV = 0) ∧ (b.cellFlt c).nV = 0 ∧ (b.cellFlt c).nI = 0 ∧ (b.cellFlt c).missed = 0
          ∧ ((s.block.cellFlt c).nV = 0 → (b.cellFlt c).predRun = (s.block.cellFlt c).predRun + 1) ∧ ((b.cellFlt c).innov = true → (b.cellFlt c).innovRun = (s.block.cellFlt c).innovRun + 1) := by
  let x := s.block.at (s.block.nextMultiple 1000000)
  have hx : x.sys.now = s.block.nextMultiple 1000000 := filtersStepped_now s.block
  refine filterStep_happens hm hw hs fun b hnow hstep => ?_
  simp only [FltPart.ofStep, Prod.mk.injEq] at hstep
  obtain ⟨hcells, hslots, hconfig, hsteps, hlast⟩ := hstep
  have hcell (c : Nat) (hc : c < s.block.nCell) (hl : c < s.block.flt.cells.length) :
      b.cellFlt c = if s.block.stepsNow c = true then stepFilter x c (s.block.cellFlt c) else { s.block.cellFlt c with missed := (s.block.cellFlt c).missed + 1 } := by
    rw [Block.cellFlt, hcells]
    exact cellFlt_filtersStepped hc hl
  refine ⟨hnow, hsteps, hlast, hslots, hconfig, fun c hc hl ht => ?_, fun c hc hl ht hu => ?_, fun c hc hl ht hs hi hn => ?_, fun c hc hl ht hs hi hn => ?_⟩
  · rw [hcell c hc hl, if_neg (by simp [ht])]
  · rw [hcell c hc hl, if_pos ht, stepFilter_unready (b := x) hu]
    exact ⟨rfl, rfl, rfl⟩
  · rw [hcell c hc hl, if_pos ht, stepFilter_skips (b := x) hs hi (stepCurrent_eq_none.mpr hn)]
  · obtain ⟨⟨hh1, hh2⟩, ⟨hz1, hz2⟩, ⟨hr1, hr2⟩, hsure, hpred, ⟨hnV, hnI, hmissed⟩, hrun, hinnov⟩ :=
      stepFilter_steps (b := x) (k := c) hs hi fun h => hn (stepCurrent_eq_none.mp h)
    rw [hcell c hc hl, if_pos ht, hnow]
    rw [hx] at hsure
    exact ⟨hh1, hh2, hz1, hz2, hr1, hr2, hsure, hpred, hnV, hnI, hmissed, hrun, hinnov⟩

end
end Sys2Proof.Machine

namespace Sys2Proof.Machine

/-! ### Capacity reference points (R165, R166) -/

section
variable {b : Block} {k : Nat} {z : Fx} {anchored : Bool}

/-- What a capacity reference point leaves of a filter. -/
def CellFlt.estimate (c : CellFlt) : Fx × List (List Fx) × Fx × Bool := (c.z, c.p, c.r, c.restSeen)

/-- A reference point changes one filter, and of it no estimate; an event may be noted before. -/
theorem refPoint_cases (k : Nat) (z : Fx) (anchored : Bool) (b : Block) : ∃ g : CellFlt → CellFlt, (∀ c, (g c).estimate = c.estimate) ∧
    ∃ x, (x = b ∨ ∃ e d, x = note e k d b) ∧ refPoint k z anchored b = onCellFlt k g x := by
  unfold refPoint
  extract_lets c pt put gain
  split
  · exact ⟨fun x => { x with lastRef := some pt, skipped := false }, fun _ => rfl, b, .inl rfl, rfl⟩
  · extract_lets dq dz cm fail new b1
    split
    · exact ⟨fun x => { x with lastRef := some pt, skipped := false }, fun _ => rfl, _, .inr ⟨_, _, rfl⟩, rfl⟩
    · exact ⟨fun x => { x with cap := new, capNew := false, relearn := if anchored then true else false, lastRef := some pt, skipped := false }, fun _ => rfl,
        b1, .inr ⟨_, _, rfl⟩, rfl⟩

/-- Of the filters a reference point changes the one. -/
theorem refPoint_flt (k : Nat) (z : Fx) (anchored : Bool) (b : Block) : ∃ g : CellFlt → CellFlt, (∀ c, (g c).estimate = c.estimate) ∧
    (refPoint k z anchored b).flt = (onCellFlt k g b).flt := by
  obtain ⟨g, hg, x, rfl | ⟨e, d, rfl⟩, h⟩ := refPoint_cases k z anchored b
  · exact ⟨g, hg, congrArg Block.flt h⟩
  · exact ⟨g, hg, by simp [h, onCellFlt]⟩

theorem refPoint_estimate (k : Nat) (z : Fx) (anchored : Bool) (b : Block) (j : Nat) : ((refPoint k z anchored b).cellFlt j).estimate = (b.cellFlt j).estimate := by
  obtain ⟨g, hg, hf⟩ := refPoint_flt k z anchored b
  rw [cellFlt_of_flt hf]
  exact getD_modAt_keeps CellFlt.estimate hg

theorem refPoint_ne {j : Nat} (h : j ≠ k) : (refPoint k z anchored b).cellFlt j = b.cellFlt j := by
  obtain ⟨g, -, hf⟩ := refPoint_flt k z anchored b
  rw [cellFlt_of_flt hf, cellFlt_onCellFlt_ne h]

@[simp] theorem refPoint_cells_length (k : Nat) (z : Fx) (anchored : Bool) (b : Block) : (refPoint k z anchored b).flt.cells.length = b.flt.cells.length := by
  obtain ⟨g, -, hf⟩ := refPoint_flt k z anchored b
  rw [hf, onCellFlt_cells_length]

@[simp] theorem refPoint_sys (k : Nat) (z : Fx) (anchored : Bool) (b : Block) : (refPoint k z anchored b).sys = b.sys := by
  obtain ⟨g, -, x, rfl | ⟨e, d, rfl⟩, h⟩ := refPoint_cases k z anchored b <;> simp [h]

@[simp] theorem touches_refPoint {l : List PartName} (hl : .flt ∈ l) (o b : Block) (k : Nat) (z : Fx) (anchored : Bool) :
    o.touches (refPoint k z anchored b) l ↔ o.touches b l := by
  obtain ⟨g, -, x, rfl | ⟨e, d, rfl⟩, h⟩ := refPoint_cases k z anchored b <;> simp [h, hl]

/-- The first reference point is recorded. -/
theorem refPoint_first (h : (b.cellFlt k).lastRef = none) : refPoint k z anchored b =
    onCellFlt k (fun c => { c with lastRef := some { q := (b.cellFlt k).q, z := z, time := b.optime }, skipped := false }) b := by
  rw [refPoint, h]
  rfl

/-- The gain of a capacity update, doubled while the capacity is learned anew (R166). -/
def Block.capGain (b : Block) (c : CellFlt) : Fx := fxQ (min 100 (if c.relearn then 2 * b.flt.config.capGain else b.flt.config.capGain)) 100

/-- A reference point that passes every check moves the capacity (R165, R166). -/
theorem refPoint_updates {p : RefPoint} {dq dz : Fx} (hk : k < b.flt.cells.length) (hp : (b.cellFlt k).lastRef = some p) (hdq : dq = fxQ ((b.cellFlt k).q - p.q) 3600000)
    (hdz : dz = z - p.z) (h1 : fxQ b.flt.config.capDzMin 10000 ≤ |dz|) (h2 : b.optime ≤ p.time + 604800000) (h3 : (dq < 0) = (dz < 0)) (h4 : dq ≠ 0)
    (h5 : fxI (8 * ((b.cellFlt k).cap : Int)) ≤ fxDiv dq dz * 10) (h6 : fxDiv dq dz * 10 ≤ fxI (12 * ((b.cellFlt k).cap : Int))) (h7 : (b.cellFlt k).skipped = false) :
    (refPoint k z anchored b).cellFlt k = { b.cellFlt k with
      cap := capStep (b.cellFlt k).cap (b.capGain (b.cellFlt k)) (fxDiv dq dz), capNew := false, relearn := anchored
      lastRef := some { q := (b.cellFlt k).q, z := z, time := b.optime }, skipped := false } := by
  subst hdq hdz
  have hpass : ¬(((fxQ ((b.cellFlt k).q - p.q) 3600000 < 0) ≠ (z - p.z < 0)) ∨ fxQ ((b.cellFlt k).q - p.q) 3600000 = 0) := by
    rintro (h | h)
    · exact h h3
    · exact h4 h
  have hcap : ¬(fxDiv (fxQ ((b.cellFlt k).q - p.q) 3600000) (z - p.z) * 10 < fxI (8 * ((b.cellFlt k).cap : Int))
      ∨ fxI (12 * ((b.cellFlt k).cap : Int)) < fxDiv (fxQ ((b.cellFlt k).q - p.q) 3600000) (z - p.z) * 10) := not_or.mpr ⟨not_lt.mpr h5, not_lt.mpr h6⟩
  rw [refPoint, hp]
  dsimp only
  rw [if_neg (not_lt.mpr h1), if_neg (Nat.not_lt.mpr h2), if_neg hpass, if_neg hcap, h7]
  simp only [Bool.false_eq_true, if_false, ne_eq, not_true_eq_false]
  refine (cellFlt_onCellFlt_self (by simpa using hk)).trans ?_
  rw [cellFlt_of_flt (note_flt ..)]
  cases anchored <;> rfl

end
end Sys2Proof.Machine

namespace Sys2Proof.Machine

/-! ### The operating time at BOOT, which neither the recorder nor the interrupt sources change (R525) -/

theorem putFast_opBoot (r : FastRec) (g : LogPart) : (putFast r g).opBoot = g.opBoot := by
  unfold putFast
  dsimp only
  split
  · rfl
  · split <;> rfl

theorem putKeep_opBoot (r : KeepRec) (g : LogPart) : (putKeep r g).opBoot = g.opBoot := by
  unfold putKeep
  dsimp only
  split
  · rfl
  · split <;> rfl

@[simp] theorem putRecord_opBoot (sev : Severity) (keep saf : Bool) (code src a : Nat) (d : List Nat) (b : Block) :
    (putRecord sev keep saf code src a d b).log.opBoot = b.log.opBoot := by
  unfold putRecord
  dsimp only
  rw [Block.onLog_log]
  split
  · rw [putKeep_opBoot, putFast_opBoot]
    rfl
  · rw [putFast_opBoot]
    rfl

@[simp] theorem note_opBoot (e : Event) (a : Nat) (d : List Nat) (b : Block) : (note e a d b).log.opBoot = b.log.opBoot := by
  unfold note recordEvent
  split
  · simp
  · split
    · simp
    · dsimp only
      split <;> simp
  · simp

@[simp] theorem redirectOne_opBoot (n : Nat) (b : Block) : (redirectOne n b).log.opBoot = b.log.opBoot := by simp [redirectOne, apply_ite Block.log, apply_ite LogPart.opBoot]

theorem raiseIrq_opBoot (n : Nat) (b : Block) : (raiseIrq n b).log.opBoot = b.log.opBoot := by rw [raiseIrq, redirectOne_opBoot, Block.onPol_log]

@[simp] theorem irqWatch_opBoot (o b : Block) : (irqWatch o b).log.opBoot = b.log.opBoot := by
  have hraise : ((irqEdges o b).foldl (fun b n => raiseIrq n b) b).log.opBoot = b.log.opBoot :=
    foldl_keeps (fun b : Block => b.log.opBoot) _ (fun _ _ => raiseIrq_opBoot ..) _ _
  have hall (b : Block) : (redirectAll b).log.opBoot = b.log.opBoot := foldl_keeps (fun b : Block => b.log.opBoot) _ (fun _ _ => redirectOne_opBoot ..) _ _
  unfold irqWatch
  dsimp only
  split
  · exact hraise
  · exact (hall _).trans hraise

@[simp] theorem refPoint_opBoot (k : Nat) (z : Fx) (anchored : Bool) (b : Block) : (refPoint k z anchored b).log.opBoot = b.log.opBoot := by
  obtain ⟨g, -, x, rfl | ⟨e, d, rfl⟩, h⟩ := refPoint_cases k z anchored b <;> simp [h, onCellFlt]

/-! ### FULL_CHARGE_EVENT (R165, R166) -/

section
variable {s : State} {b : Block} {t : Nat} {x : Slot}

/-- The block as the reference point of a full charge finds it: its moment has come, the charge is marked as seen. -/
def Block.fullCharged (b : Block) (k t : Nat) : Block := onCellFlt k (fun c => { c with fullSeen := true }) (b.at (t + 60 * secT))

theorem cellFlt_fullCharged {k : Nat} (h : k < b.flt.cells.length) : (b.fullCharged k t).cellFlt k = { b.cellFlt k with fullSeen := true } :=
  cellFlt_onCellFlt_self (b := b.at (t + 60 * secT)) h

theorem cellFlt_fullCharged_ne {k j : Nat} (h : j ≠ k) : (b.fullCharged k t).cellFlt j = b.cellFlt j := cellFlt_onCellFlt_ne (b := b.at (t + 60 * secT)) h

theorem fullCharged_now {k : Nat} (h : b.sys.now ≤ t + 60 * secT) : (b.fullCharged k t).sys.now = t + 60 * secT := max_eq_right h

theorem doFullChargeEvent_eq {k : Nat} (ht : (b.cellFlt k).fullAt = some t) (hx : b.slotOf k = some x) (hf : (b.cellFlt k).fullSeen = false)
    (hd : (b.cell k).degr = false) (hi : (b.cellFlt k).initialised = true) :
    doFullChargeEvent k b = (refPoint k (frac16 x.zFull) false (b.fullCharged k t)).touch [0x43, 0x100 + k] := by
  simp only [doFullChargeEvent, ht, hx, hf, hd, hi]
  rfl

/-- A full charge, by the reference point that it makes. -/
theorem fullChargeEvent_happens {k : Fin 512} {P : Block → Prop} (ht : (s.block.cellFlt k).fullAt = some t) (hx : s.block.slotOf k = some x)
    (hf : (s.block.cellFlt k).fullSeen = false) (hd : (s.block.cell k).degr = false) (hi : (s.block.cellFlt k).initialised = true)
    (hP : ∀ b : Block, b.sys = (s.block.fullCharged k t).sys → b.optime = (s.block.fullCharged k t).optime →
      b.flt = (refPoint k (frac16 x.zFull) false (s.block.fullCharged k t)).flt → P b) : Happens (.fullChargeEvent k) s [.sys, .flt] P := by
  have he := doFullChargeEvent_eq ht hx hf hd hi
  have hsys : (irqWatch s.block (doFullChargeEvent k s.block)).sys = (s.block.fullCharged k t).sys := by rw [irqWatch_sys, he, Block.touch_sys, refPoint_sys]
  refine happens_plain (f := doFullChargeEvent k) rfl (by simp [he, Block.fullCharged]) (by simp [he, Block.fullCharged, Block.at]) (hP _ hsys ?_ ?_)
  · rw [Block.optime, hsys, irqWatch_opBoot, he, Block.touch_log, refPoint_opBoot]
    rfl
  · rw [irqWatch_flt, he, Block.touch_flt]

theorem fullChargeEvent_first {k : Fin 512} (ht : (s.block.cellFlt k).fullAt = some t) (hx : s.block.slotOf k = some x) (hf : (s.block.cellFlt k).fullSeen = false)
    (hd : (s.block.cell k).degr = false) (hi : (s.block.cellFlt k).initialised = true) (hr : (s.block.cellFlt k).lastRef = none) (hk : k.val < s.block.flt.cells.length)
    (hn : s.block.sys.now ≤ t + 60 * secT) : Happens (.fullChargeEvent k) s [.sys, .flt] fun b =>
      b.sys.now = t + 60 * secT ∧ b.cellFlt k = { s.block.cellFlt k with fullSeen := true, skipped := false, lastRef := some { q := (s.block.cellFlt k).q, z := frac16 x.zFull, time := b.optime } }
      ∧ ∀ j : Fin 512, j ≠ k → b.cellFlt j = s.block.cellFlt j := by
  have hc := cellFlt_fullCharged (t := t) hk
  refine fullChargeEvent_happens ht hx hf hd hi fun b hsys hop hflt => ⟨by rw [hsys, fullCharged_now hn], ?_, fun j hj => ?_⟩
  · rw [cellFlt_of_flt hflt, refPoint_first (by rw [hc]; exact hr), cellFlt_onCellFlt_self (by simpa [Block.fullCharged] using hk), hop, hc]
  · rw [cellFlt_of_flt hflt, refPoint_ne (Fin.val_ne_of_ne hj), cellFlt_fullCharged_ne (Fin.val_ne_of_ne hj)]

theorem fullChargeEvent_updates {k : Fin 512} {p : RefPoint} {dq dz : Fx} (ht : (s.block.cellFlt k).fullAt = some t) (hx : s.block.slotOf k = some x)
    (hf : (s.block.cellFlt k).fullSeen = false) (hd : (s.block.cell k).degr = false) (hi : (s.block.cellFlt k).initialised = true)
    (hr : (s.block.cellFlt k).lastRef = some p) (hk : k.val < s.block.flt.cells.length) (hn : s.block.sys.now ≤ t + 60 * secT)
    (hdq : dq = fxQ ((s.block.cellFlt k).q - p.q) 3600000) (hdz : dz = frac16 x.zFull - p.z) (h1 : fxQ s.block.flt.config.capDzMin 10000 ≤ |dz|)
    (h2 : s.block.log.opBoot + (t + 60 * secT) / msT ≤ p.time + 604800000) (h3 : (dq < 0) = (dz < 0)) (h4 : dq ≠ 0)
    (h5 : fxI (8 * ((s.block.cellFlt k).cap : Int)) ≤ fxDiv dq dz * 10) (h6 : fxDiv dq dz * 10 ≤ fxI (12 * ((s.block.cellFlt k).cap : Int)))
    (h7 : (s.block.cellFlt k).skipped = false) : Happens (.fullChargeEvent k) s [.sys, .flt] fun b =>
      (b.cellFlt k).cap = capStep (s.block.cellFlt k).cap
        (fxQ (min 100 (if (s.block.cellFlt k).relearn then 2 * s.block.flt.config.capGain else s.block.flt.config.capGain)) 100) (fxDiv dq dz)
      ∧ (b.cellFlt k).capNew = false ∧ (b.cellFlt k).relearn = false ∧ (b.cellFlt k).fullSeen = true := by
  let y := s.block.fullCharged k t
  have hc : y.cellFlt k = { s.block.cellFlt k with fullSeen := true } := cellFlt_fullCharged hk
  have hop : y.optime ≤ p.time + 604800000 := by rwa [Block.optime, fullCharged_now hn]
  refine fullChargeEvent_happens ht hx hf hd hi fun b _ _ hflt => ?_
  rw [cellFlt_of_flt hflt, refPoint_updates (b := y) (by simpa [y, Block.fullCharged] using hk) (by rw [hc]; exact hr) (by rw [hc]; exact hdq) hdz h1 hop h3 h4 (by rw [hc]; exact h5)
    (by rw [hc]; exact h6) (by rw [hc]; exact h7), hc]
  exact ⟨rfl, rfl, rfl, rfl⟩

end
end Sys2Proof.Machine

namespace Sys2Proof.Machine

/-! ### REST_OBSERVATION (R163, R164, R174) -/

section
variable {s : State} {b : Block} {k : Nat} {x : Slot} {v zv : Fx}

/-- The temperature that a rest observation of a cell uses. -/
def Block.restTemp (b : Block) (k : Nat) : Int := (b.cellFlt k).temp.getD Config.firstTemperature

/-- The z at which the model's rest voltage is the one observed. -/
def Block.restZ (b : Block) (k : Nat) (x : Slot) (v : Fx) : Fx :=
  x.ocvInv (v - fxMul (x.mAt (b.cellFlt k).z (b.restTemp k)) (b.cellFlt k).h - (b.cellFlt k).vA - (b.cellFlt k).vB
    - fxMul (b.cellFlt k).rs ((b.stepCurrent k).getD 0)) (b.restTemp k)

/-- Voltage, temperature and cell serve an observation (R163, R174). -/
def Block.restSound (b : Block) (k : Nat) (x : Slot) (v : Fx) : Bool :=
  decide (x.ocvAt (frac16 x.zEmpty) (b.restTemp k) + fxQ 20 1000 < v) && ((b.cellFlt k).temp.isSome && !(b.cellFlt k).tSub) && (!(b.cell k).degr && !(b.cellFlt k).tClamp)

/-- The observation is an anchor: it is sound and lies far enough from z (R164). -/
def Block.anchors (b : Block) (k : Nat) (x : Slot) (v : Fx) : Bool :=
  b.restSound k x v && decide (fxQ b.flt.config.anchDz 10000 ≤ |b.restZ k x v - (b.cellFlt k).z|)

theorem anchors_iff : b.anchors k x v = true ↔ (b.cellFlt k).temp.isSome = true ∧ (b.cellFlt k).tSub = false ∧ (b.cellFlt k).tClamp = false ∧ (b.cell k).degr = false
    ∧ x.ocvAt (frac16 x.zEmpty) (b.restTemp k) + fxQ 20 1000 < v ∧ fxQ b.flt.config.anchDz 10000 ≤ |b.restZ k x v - (b.cellFlt k).z| := by
  simp only [Block.anchors, Block.restSound, Bool.and_eq_true, decide_eq_true_eq, Bool.not_eq_true']
  tauto

/-- The observation is marked, and its capacity reference point taken where the table is steep enough (R163 to R165). -/
def Block.restReferred (b : Block) (k : Nat) (x : Slot) (v : Fx) : Block :=
  let b1 := onCellFlt k (fun y => { y with restSeen := true }) b
  let b2 := if b.anchors k x v then onCellFlt k (fun y => { y with relearn := true }) b1 else b1
  if b.restSound k x v && decide (fxQ 1 10 ≤ slopeOf (fun z => x.ocvAt z (b.restTemp k)) (b.restZ k x v)) then refPoint k (b.restZ k x v) (b.anchors k x v) b2 else b2

/-- An anchored filter: z is the one observed, its variance that of 1 %, its covariances with the others 0 (R164). -/
def CellFlt.anchored (z : Fx) (c : CellFlt) : CellFlt := { c with
  z := z, relearn := true, p := mat fun a b => if a = 0 ∧ b = 0 then fxQ 1 10000 else if a = 0 ∨ b = 0 then 0 else ent c.p a b }

theorem ent_mat_zero (f : Nat → Nat → Fx) : ent (mat f) 0 0 = f 0 0 := rfl

theorem anchored_variance (z : Fx) (c : CellFlt) : ent (c.anchored z).p 0 0 = fxQ 1 10000 := by
  rw [CellFlt.anchored, ent_mat_zero, if_pos ⟨rfl, rfl⟩]

theorem restObserve_eq (hx : b.slotOf k = some x) : ∃ d, restObserve k v b =
    (if (!b.anchors k x v) = true then b.restReferred k x v
      else note .fltAnchor k d (onCellFlt k (CellFlt.anchored (b.restZ k x v)) (b.restReferred k x v))).touch [0x43, 0x100 + k] := by
  rw [restObserve, hx]
  exact ⟨_, rfl⟩

/-- A property that a marked filter keeps when it is learned anew and when its reference point is taken. -/
theorem restReferred_keeps {α : Type} {P : Block → α} (h1 : ∀ f c, (∀ y, (f y).estimate = y.estimate) → P (onCellFlt k f c) = P c)
    (h2 : ∀ z a c, P (refPoint k z a c) = P c) : P (b.restReferred k x v) = P (onCellFlt k (fun y => { y with restSeen := true }) b) := by
  unfold Block.restReferred
  extract_lets b1 b2
  have hb : P b2 = P b1 := by
    unfold b2
    split
    · exact h1 _ _ fun _ => rfl
    · rfl
  split
  · rw [h2, hb]
  · exact hb

theorem restReferred_ne {j : Nat} (h : j ≠ k) : (b.restReferred k x v).cellFlt j = b.cellFlt j :=
  (restReferred_keeps (P := fun c => c.cellFlt j) (fun _ _ _ => cellFlt_onCellFlt_ne h) fun _ _ _ => refPoint_ne h).trans (cellFlt_onCellFlt_ne h)

theorem restReferred_estimate (h : k < b.flt.cells.length) :
    ((b.restReferred k x v).cellFlt k).estimate = ((b.cellFlt k).z, (b.cellFlt k).p, (b.cellFlt k).r, true) :=
  (restReferred_keeps (P := fun c => (c.cellFlt k).estimate) (fun _ _ hf => getD_modAt_keeps CellFlt.estimate hf) fun z a c => refPoint_estimate k z a c k).trans
    (congrArg CellFlt.estimate (cellFlt_onCellFlt_self h))

theorem restReferred_cells_length : (b.restReferred k x v).flt.cells.length = b.flt.cells.length :=
  (restReferred_keeps (P := fun c => c.flt.cells.length) (fun _ _ _ => onCellFlt_cells_length ..) fun _ _ _ => refPoint_cells_length ..).trans (onCellFlt_cells_length ..)

@[simp] theorem restReferred_sys (b : Block) (k : Nat) (x : Slot) (v : Fx) : (b.restReferred k x v).sys = b.sys :=
  restReferred_keeps (P := Block.sys) (fun _ _ _ => rfl) fun _ _ _ => refPoint_sys ..

@[simp] theorem touches_restReferred {l : List PartName} (hl : .flt ∈ l) (o b : Block) (k : Nat) (x : Slot) (v : Fx) :
    o.touches (b.restReferred k x v) l ↔ o.touches b l :=
  iff_of_eq ((restReferred_keeps (P := fun c => o.touches c l) (fun _ _ _ => propext (touches_onCellFlt hl ..)) fun _ _ _ => propext (touches_refPoint hl ..)).trans
    (propext (touches_onCellFlt hl ..)))

/-- Of the filters an observation leaves those of the reference point, the cell's anchored if the observation is an anchor. -/
theorem restObserve_cellFlt (hx : b.slotOf k = some x) (j : Nat) : (restObserve k v b).cellFlt j =
    if b.anchors k x v = true then (onCellFlt k (CellFlt.anchored (b.restZ k x v)) (b.restReferred k x v)).cellFlt j else (b.restReferred k x v).cellFlt j := by
  obtain ⟨d, he⟩ := restObserve_eq (v := v) hx
  rw [he, cellFlt_of_flt (Block.touch_flt ..)]
  cases b.anchors k x v
  · simp
  · simp [cellFlt_of_flt (note_flt ..)]

theorem restObserve_ne {j : Nat} (hx : b.slotOf k = some x) (h : j ≠ k) : (restObserve k v b).cellFlt j = b.cellFlt j := by
  rw [restObserve_cellFlt hx, cellFlt_onCellFlt_ne h, ite_self, restReferred_ne h]

/-- An anchor sets z and its variance; any other observation leaves z and the covariance. -/
theorem restObserve_self (hx : b.slotOf k = some x) (hk : k < b.flt.cells.length) : ((restObserve k v b).cellFlt k).restSeen = true
    ∧ if b.anchors k x v = true then ((restObserve k v b).cellFlt k).z = b.restZ k x v ∧ ((restObserve k v b).cellFlt k).relearn = true
        ∧ ent ((restObserve k v b).cellFlt k).p 0 0 = fxQ 1 10000 ∧ ((restObserve k v b).cellFlt k).r = (b.cellFlt k).r
      else ((restObserve k v b).cellFlt k).z = (b.cellFlt k).z ∧ ((restObserve k v b).cellFlt k).p = (b.cellFlt k).p := by
  have hest := restReferred_estimate (x := x) (v := v) hk
  simp only [CellFlt.estimate, Prod.mk.injEq] at hest
  obtain ⟨hz, hp, hr, hseen⟩ := hest
  rw [restObserve_cellFlt hx]
  by_cases ha : b.anchors k x v = true
  · rw [if_pos ha, if_pos ha, cellFlt_onCellFlt_self (by rwa [restReferred_cells_length])]
    exact ⟨hseen, rfl, rfl, anchored_variance .., hr⟩
  · rw [if_neg ha, if_neg ha]
    exact ⟨hseen, hz, hp⟩

@[simp] theorem restObserve_sys (k : Nat) (v : Fx) (b : Block) : (restObserve k v b).sys = b.sys := by
  cases hx : b.slotOf k with
  | none => rw [restObserve, hx]
  | some x =>
    obtain ⟨d, he⟩ := restObserve_eq (v := v) hx
    simp [he, apply_ite Block.sys]

@[simp] theorem touches_restObserve {l : List PartName} (hl : .flt ∈ l) (o b : Block) (k : Nat) (v : Fx) : o.touches (restObserve k v b) l ↔ o.touches b l := by
  cases hx : b.slotOf k with
  | none => rw [restObserve, hx]
  | some x =>
    obtain ⟨d, he⟩ := restObserve_eq (v := v) hx
    simp [he, hl]

/-- With three or four sequencers an observation takes the mean of 100 voltages (R163). -/
theorem doRestObservation_eq {t : Nat} (ht : (b.cellFlt k).restAt = some t) (hseen : (b.cellFlt k).restSeen = false) (hi : (b.cellFlt k).initialised = true)
    (hn : k < b.nCell) (hv : (b.cellFlt k).restV ≠ []) (hs : 3 ≤ b.seqsOk) : doRestObservation k b =
      restObserve k ((((b.cellFlt k).restV.take 100).foldl (· + ·) 0) / (((b.cellFlt k).restV.take 100).length : Int)) (b.at (t + 30 * secT)) := by
  obtain ⟨n, hq⟩ := Nat.exists_eq_add_of_le' hs
  simp only [doRestObservation, ht, hseen, hi, hq]
  rw [if_neg (by simp [hn, hv])]

theorem restObservation_observes {k : Fin 512} {t : Nat} (ht : (s.block.cellFlt k).restAt = some t) (hseen : (s.block.cellFlt k).restSeen = false)
    (hi : (s.block.cellFlt k).initialised = true) (hn : k.val < s.block.nCell) (hk : k.val < s.block.flt.cells.length) (hne : (s.block.cellFlt k).restV ≠ [])
    (hs : 3 ≤ s.block.seqsOk) (hx : s.block.slotOf k = some x)
    (hv : v = (((s.block.cellFlt k).restV.take 100).foldl (· + ·) 0) / (((s.block.cellFlt k).restV.take 100).length : Int))
    (hzv : zv = x.ocvInv (v - fxMul (x.mAt (s.block.cellFlt k).z ((s.block.cellFlt k).temp.getD Config.firstTemperature)) (s.block.cellFlt k).h - (s.block.cellFlt k).vA - (s.block.cellFlt k).vB
      - fxMul (s.block.cellFlt k).rs ((s.block.stepCurrent k).getD 0)) ((s.block.cellFlt k).temp.getD Config.firstTemperature)) :
    Happens (.restObservation k) s [.sys, .flt] fun b =>
      b.sys.now = max s.block.sys.now (t + 30 * secT) ∧ (b.cellFlt k).restSeen = true ∧ (∀ j : Fin 512, j ≠ k → b.cellFlt j = s.block.cellFlt j)
      ∧ (if (s.block.cellFlt k).temp.isSome = true ∧ (s.block.cellFlt k).tSub = false ∧ (s.block.cellFlt k).tClamp = false ∧ (s.block.cell k).degr = false
            ∧ x.ocvAt (frac16 x.zEmpty) ((s.block.cellFlt k).temp.getD Config.firstTemperature) + fxQ 20 1000 < v ∧ fxQ s.block.flt.config.anchDz 10000 ≤ |zv - (s.block.cellFlt k).z|
          then (b.cellFlt k).z = zv ∧ (b.cellFlt k).relearn = true ∧ ent (b.cellFlt k).p 0 0 = fxQ 1 10000 ∧ (b.cellFlt k).r = (s.block.cellFlt k).r
          else (b.cellFlt k).z = (s.block.cellFlt k).z ∧ (b.cellFlt k).p = (s.block.cellFlt k).p) := by
  let y := s.block.at (t + 30 * secT)
  have hf : doRestObservation k s.block = restObserve k v y := by rw [doRestObservation_eq ht hseen hi hn hne hs, ← hv]
  have hflt : (irqWatch s.block (doRestObservation k s.block)).flt = (restObserve k v y).flt := by rw [irqWatch_flt, hf]
  have hz : y.restZ k x v = zv := hzv.symm
  obtain ⟨hsee, hself⟩ := restObserve_self (b := y) (k := k) (v := v) hx hk
  simp only [anchors_iff, hz] at hself
  refine happens_plain (f := doRestObservation k) rfl (by simp [hf, y]) (by simp [hf, y, Block.at]) ⟨?_, ?_, fun j hj => ?_, ?_⟩
  · rw [irqWatch_sys, hf, restObserve_sys]
    rfl
  · rwa [cellFlt_of_flt hflt]
  · rw [cellFlt_of_flt hflt, restObserve_ne (b := y) hx (Fin.val_ne_of_ne hj)]
    rfl
  · rw [cellFlt_of_flt hflt]
    exact hself

end

/-! ### FILTER_VALID_LOST, FLT_INNOV, TEMP_SOURCE_TIMEOUT (R154, R156, R159, R179) -/

section
variable {s : State} {b : Block}

theorem clearValid_flt (k : Nat) (f : CellFlt → CellFlt) (b : Block) : (clearValid k f b).flt = (onCellFlt k (fun c => { (f c) with valid := false }) b).flt := by
  simp [clearValid, apply_ite Block.flt]

@[simp] theorem clearValid_sys (k : Nat) (f : CellFlt → CellFlt) (b : Block) : (clearValid k f b).sys = b.sys := by simp [clearValid, apply_ite Block.sys]

@[simp] theorem touches_clearValid {l : List PartName} (hl : .flt ∈ l) (o b : Block) (k : Nat) (f : CellFlt → CellFlt) : o.touches (clearValid k f b) l ↔ o.touches b l := by
  simp [clearValid, hl]

theorem filterValidLost_clears {k : Fin 512} (hr : 100 ≤ (s.block.cellFlt k).predRun) (hk : k.val < s.block.flt.cells.length) :
    Happens (.filterValidLost k) s [.flt] fun b =>
      b.cellFlt k = { s.block.cellFlt k with valid := false, cleared156 := true } ∧ ∀ j : Fin 512, j ≠ k → b.cellFlt j = s.block.cellFlt j := by
  have hf : doFilterValidLost k s.block = clearValid k (fun c => { c with cleared156 := true }) s.block := if_neg (Nat.not_lt.mpr hr)
  have hflt : (irqWatch s.block (doFilterValidLost k s.block)).flt = _ := (irqWatch_flt ..).trans ((congrArg Block.flt hf).trans (clearValid_flt ..))
  refine happens_plain (f := doFilterValidLost k) rfl (by simp [hf]) (by simp) ⟨?_, fun j hj => ?_⟩
  · rw [cellFlt_of_flt hflt, cellFlt_onCellFlt_self hk]
  · rw [cellFlt_of_flt hflt, cellFlt_onCellFlt_ne (Fin.val_ne_of_ne hj)]

theorem filterValidLost_idle {k : Fin 512} (hr : (s.block.cellFlt k).predRun < 100) : Happens (.filterValidLost k) s [] fun _ => True :=
  happens_nothing (f := doFilterValidLost k) rfl (if_pos hr)

theorem fltInnov_restarts {k : Fin 512} (hr : 100 ≤ (s.block.cellFlt k).innovRun) (hk : k.val < s.block.flt.cells.length) :
    Happens (.fltInnov k) s [.flt] fun b => b.cellFlt k = { s.block.cellFlt k with innovRun := 0 } := by
  have hf : doFltInnov k s.block = note .fltInnov k [] (onCellFlt k (fun c => { c with innovRun := 0 }) s.block) := if_neg (Nat.not_lt.mpr hr)
  refine happens_plain (f := doFltInnov k) rfl (by simp [hf]) (by simp) ?_
  rw [irqWatch_cellFlt, hf, cellFlt_of_flt (note_flt ..), cellFlt_onCellFlt_self hk]

theorem tempSourceTimeout_clears {k : Fin 512} (ht : s.block.tempInput k = none) (hi : (s.block.cellFlt k).initialised = true) (hk : k.val < s.block.flt.cells.length) :
    Happens (.tempSourceTimeout k) s [.sys, .flt] fun b =>
      b.sys.now = max s.block.sys.now ((s.block.cellFlt k).tempAt + 60 * secT) ∧ b.cellFlt k = { s.block.cellFlt k with valid := false }
      ∧ ∀ j : Fin 512, j ≠ k → b.cellFlt j = s.block.cellFlt j := by
  let y := s.block.at ((s.block.cellFlt k).tempAt + 60 * secT)
  have hf : doTempSourceTimeout k s.block = clearValid k id y := if_neg (by simp [ht, hi])
  have hflt : (irqWatch s.block (doTempSourceTimeout k s.block)).flt = _ := (irqWatch_flt ..).trans ((congrArg Block.flt hf).trans (clearValid_flt ..))
  refine happens_plain (f := doTempSourceTimeout k) rfl (by simp [hf, y]) (by simp [hf, y, Block.at]) ⟨?_, ?_, fun j hj => ?_⟩
  · rw [irqWatch_sys, hf, clearValid_sys]
    rfl
  · rw [cellFlt_of_flt hflt, cellFlt_onCellFlt_self (b := y) hk]
    rfl
  · rw [cellFlt_of_flt hflt, cellFlt_onCellFlt_ne (Fin.val_ne_of_ne hj)]
    rfl

end

/-- Settles O17: each command's clause by its own lemma above. -/
theorem filtersStepObserveAndLoseValidity : Obligations.FiltersStepObserveAndLoseValidity := by
  unfold Obligations.FiltersStepObserveAndLoseValidity
  exact ⟨fun _ => filterStep_steps, fun _ => filterStep_idle, fun _ _ _ _ _ _ => restObservation_observes, fun _ _ _ _ => fullChargeEvent_first,
    fun _ _ _ _ _ _ _ => fullChargeEvent_updates, fun _ _ => filterValidLost_clears, fun _ _ => filterValidLost_idle, fun _ _ => fltInnov_restarts,
    fun _ _ => tempSourceTimeout_clears⟩

end Sys2Proof.Machine

namespace Sys2Proof.Machine

/-! ### The filter commands: the configuration, and the staging of a slot (R148, R149, R175) -/

section
variable {s : State} {src : Src}

@[simp] theorem taken_flt (b : Block) (src : Src) (op : Nat) : (b.taken src op).flt = b.flt := by simp [Block.taken]
@[simp] theorem taken_cellFlt (b : Block) (src : Src) (op c : Nat) : (b.taken src op).cellFlt c = b.cellFlt c := cellFlt_of_flt (taken_flt ..) c

theorem flt_of_setting {a b : Block} (h : a.unserved = (settingChanged b).unserved) : a.flt = b.flt := (flt_of_unserved h).trans (settingChanged_flt b)

theorem fltSetConfig_serves {rateRpt anchDz capDzMin capGain sigmaValid tSrc : Nat} (h1 : 5 ≤ rateRpt) (h2 : rateRpt ≤ 500) (h3 : 50 ≤ anchDz) (h4 : anchDz ≤ 2000)
    (h5 : 1000 ≤ capDzMin) (h6 : capDzMin ≤ 9000) (h7 : 1 ≤ capGain) (h8 : capGain ≤ 100) (h9 : 100 ≤ sigmaValid) (h10 : sigmaValid ≤ 2000) (h11 : tSrc ≤ 1) :
    Serves (.fltSetConfig src rateRpt anchDz capDzMin capGain sigmaValid tSrc) s src 0x0501 true [.flt, .upd] .ok [] fun b =>
      b.flt = { s.block.flt with config := { rateRpt := rateRpt, anchDz := anchDz, capDzMin := capDzMin, capGain := capGain, sigmaValid := sigmaValid, tSrc := tSrc } }
      ∧ s.block.storesSettings b := by
  let x := (s.block.taken src 0x0501).onFlt fun f => { f with
    config := { rateRpt := rateRpt, anchDz := anchDz, capDzMin := capDzMin, capGain := capGain, sigmaValid := sigmaValid, tSrc := tSrc } }
  refine serves_setting (l := [.flt]) (rule := ruleFltSetConfig src rateRpt anchDz capDzMin capGain sigmaValid tSrc) (x := x) rfl rfl rfl rfl
    (need_eq_none.mpr (decide_eq_true ⟨h1, h2, h3, h4, h5, h6, h7, h8, h9, h10, h11⟩)) rfl (by simp [x]) fun b hb hset => ⟨?_, hset⟩
  rw [flt_of_setting hb]
  simp [x]

/-- Bytes staged between those before them and those behind. -/
theorem stageBytes_eq {old : List (Option Byte)} {offset : Nat} {bytes : List Byte} (h : offset + bytes.length ≤ old.length) :
    stageBytes old offset bytes = old.take offset ++ bytes.map some ++ old.drop (offset + bytes.length) := by
  refine List.ext_getElem ?_ fun i h1 h2 => ?_
  · simp [stageBytes]
    omega
  · simp only [stageBytes, List.getElem_mapIdx, List.append_assoc, List.getElem_append, List.getElem_take, List.getElem_drop, List.getElem_map, List.length_take,
      List.length_map, min_eq_left (show offset ≤ old.length by omega)]
    by_cases hi : i < offset
    · rw [if_neg (by omega), dif_pos hi]
    · by_cases hj : i < offset + bytes.length
      · rw [if_pos (by omega), dif_neg hi, dif_pos (by omega), List.getD_eq_getElem]
      · rw [if_neg (by omega), dif_neg hi, dif_neg (by omega)]
        congr 1
        omega

/-- A further write to the slot that is being staged replaces the bytes at its offset. -/
theorem fltSlotWrite_serves {slot offset : Nat} {bytes : List Byte} {old : List (Option Byte)} (hs : slot ≤ 3) (h1 : 1 ≤ bytes.length) (h2 : bytes.length ≤ 1024)
    (ho : offset + bytes.length ≤ slotLen) (hst : s.block.flt.staging = some (slot, old)) (hl : old.length = slotLen) :
    Serves (.fltSlotWrite src slot offset bytes) s src 0x0502 true [.flt] .ok [] fun b =>
      b.flt = { s.block.flt with staging := some (slot, old.take offset ++ bytes.map some ++ old.drop (offset + bytes.length)) } := by
  let x := (s.block.taken src 0x0502).onFlt fun f => { f with staging := some (slot, stageBytes old offset bytes) }
  refine serves_completing (rule := ruleFltSlotWrite src slot offset bytes) (x := x) (ts := []) rfl rfl rfl rfl ?_ ?_ (by simp [x]) (by simp [x]) fun b hb => ?_
  · exact need_eq_none.mpr (by simp [hs, h1, h2, ho, hst])
  · simp [ruleFltSlotWrite, hst, x]
    rfl
  · rw [flt_of_unserved hb, ← stageBytes_eq (by omega)]
    simp [x]

/-- A write at offset 0 to another slot than the staged one begins a new staging, with no other byte written. -/
theorem fltSlotWrite_begins_staging {slot : Nat} {bytes : List Byte} (hs : slot ≤ 3) (h1 : 1 ≤ bytes.length) (h2 : bytes.length ≤ 1024)
    (hst : ∀ x ∈ s.block.flt.staging, x.1 ≠ slot) : Serves (.fltSlotWrite src slot 0 bytes) s src 0x0502 true [.flt] .ok [] fun b =>
      b.flt = { s.block.flt with staging := some (slot, bytes.map some ++ List.replicate (slotLen - bytes.length) none) } := by
  have ho : bytes.length ≤ slotLen := h2.trans (by decide)
  let x := (s.block.taken src 0x0502).onFlt fun f => { f with staging := some (slot, stageBytes (List.replicate slotLen none) 0 bytes) }
  refine serves_completing (rule := ruleFltSlotWrite src slot 0 bytes) (x := x) (ts := []) rfl rfl rfl rfl ?_ ?_ (by simp [x]) (by simp [x]) fun b hb => ?_
  · exact need_eq_none.mpr (by simp [hs, h1, h2, ho])
  · cases h : s.block.flt.staging with
    | none => simp [ruleFltSlotWrite, h, x]; rfl
    | some y => simp [ruleFltSlotWrite, h, hst y h, x]; rfl
  · rw [flt_of_unserved hb]
    simp [x, stageBytes_eq (old := List.replicate slotLen none) (offset := 0) (bytes := bytes) (by simpa using ho)]

/-! ### A slot committed and read (R149, R150, R175) -/

theorem ruleFltSlotCommit_stateOk {slot : Nat} (h : s.block.sys.mstate ≠ .run ∨ s.block.slotUsed slot = false) : (ruleFltSlotCommit src slot s.block).stateOk = true := by
  rcases h with h | h <;> simp [ruleFltSlotCommit, h]

theorem fltSlotCommit_serves {slot : Nat} {bytes : List (Option Byte)} (hs : slot ≤ 3) (hu : s.block.sys.mstate ≠ .run ∨ s.block.slotUsed slot = false)
    (hst : s.block.flt.staging = some (slot, bytes)) (hc : slotCheck bytes = 0) :
    Serves (.fltSlotCommit src slot) s src 0x0503 true [.flt, .upd] .ok (leBytes 1 0 ++ leBytes 4 (parseSlot (bytes.map fun y => y.getD 0)).crc) fun b =>
      b.flt = { s.block.flt with staging := none, slots := modAt s.block.flt.slots slot fun _ => some (parseSlot (bytes.map fun y => y.getD 0)) } ∧ s.block.storesSettings b := by
  let p := parseSlot (bytes.map fun y => y.getD 0)
  let x := note .fltSlotCommit noArg [slot, p.crc]
    (settingChanged ((s.block.taken src 0x0503).onFlt fun f => { f with slots := modAt f.slots slot fun _ => some p, staging := none }))
  refine serves_completing (rule := ruleFltSlotCommit src slot) (x := x) (ts := [0x44]) rfl rfl rfl (ruleFltSlotCommit_stateOk hu) (need_eq_none.mpr (decide_eq_true hs)) ?_
    (by simp [x]) (by simp [x]) fun b hb => ⟨?_, ?_⟩
  · simp [ruleFltSlotCommit, hst, hc, x, p]
  · rw [flt_of_unserved hb]
    simp [x, p]
  · rw [Block.storesSettings, upd_of_unserved hb]
    simp [x]

theorem fltSlotCommit_refuses {slot : Nat} {bytes : List (Option Byte)} (hs : slot ≤ 3) (hu : s.block.sys.mstate ≠ .run ∨ s.block.slotUsed slot = false)
    (hst : s.block.flt.staging = some (slot, bytes)) (hc : slotCheck bytes ≠ 0) :
    Serves (.fltSlotCommit src slot) s src 0x0503 true [] .badParam (leBytes 1 (slotCheck bytes) ++ leBytes 4 0) fun _ => True :=
  serves_completing (rule := ruleFltSlotCommit src slot) (x := s.block.taken src 0x0503) (ts := []) rfl rfl rfl (ruleFltSlotCommit_stateOk hu)
    (need_eq_none.mpr (decide_eq_true hs)) (by simp [ruleFltSlotCommit, hst, hc]; rfl) (by simp) (by simp) fun _ _ => trivial

theorem fltSlotRead_serves {slot offset length : Nat} {x : Slot} (hs : slot ≤ 3) (h1 : 1 ≤ length) (h2 : length ≤ 1024) (ho : offset + length ≤ slotLen)
    (hx : s.block.flt.slots.getD slot none = some x) :
    Serves (.fltSlotRead src slot offset length) s src 0x0504 false [] .ok ((x.bytes.drop offset).take length) fun _ => True := by
  refine serves_completing (rule := ruleFltSlotRead src slot offset length) (x := s.block.taken src 0x0504) (ts := []) rfl rfl rfl rfl
    (need_eq_none.mpr ?_) ?_ (by simp) (by simp) fun _ _ => trivial
  · rw [hx]
    simp [hs, h1, h2, ho]
  · simp only [ruleFltSlotRead, taken_flt, hx]
    rfl

end
end Sys2Proof.Machine

namespace Sys2Proof.Machine

/-! ### Cells set and reset, a slot assigned, a save asked for (R149, R151, R172, R173, R175) -/

section
variable {b : Block} {k : Nat} {x : Slot}

/-- A filter as a reset leaves it: the slot's own values, no polarisation, the wide covariance; the reported SOC goes on (R175). -/
structure CellFlt.RenewedTo (x : Slot) (c n : CellFlt) : Prop where
  cap_eq : n.cap = x.capNom
  rs_eq : n.rs = fxQ x.rs0 1000000
  rest_eq : n.h = 0 ∧ n.vA = 0 ∧ n.vB = 0
  capNew_eq : n.capNew = true
  variance_eq : ent n.p 0 0 = fxQ 100 10000
  r_eq : n.r = c.r

/-- A reset changes one filter, which it renews. -/
theorem resetCell_cases (hx : b.slotOf k = some x) : ∃ g : CellFlt → CellFlt, (∀ c : CellFlt, c.RenewedTo x (g c)) ∧ resetCell k b = (onCellFlt k g b).touch [0x43, 0x100 + k] := by
  have hp : ent (initP 10) 0 0 = fxQ 100 10000 := by
    rw [initP, ent_mat_zero, if_pos ⟨rfl, rfl⟩]
    rfl
  rw [resetCell, hx]
  refine ⟨_, ?_, rfl⟩
  exact fun c => ⟨rfl, rfl, ⟨rfl, rfl, rfl⟩, rfl, hp, rfl⟩

theorem resetCell_ne {j : Nat} (h : j ≠ k) : (resetCell k b).cellFlt j = b.cellFlt j := by
  cases hx : b.slotOf k with
  | none => rw [resetCell, hx]
  | some x =>
    obtain ⟨g, -, he⟩ := resetCell_cases hx
    rw [he, cellFlt_of_flt (Block.touch_flt ..), cellFlt_onCellFlt_ne h]

theorem resetCell_renews (hx : b.slotOf k = some x) (hk : k < b.flt.cells.length) : (b.cellFlt k).RenewedTo x ((resetCell k b).cellFlt k) := by
  obtain ⟨g, hg, he⟩ := resetCell_cases hx
  rw [he, cellFlt_of_flt (Block.touch_flt ..), cellFlt_onCellFlt_self hk]
  exact hg _

/-- What a reset leaves of the filters' part besides the filters. -/
def FltPart.store (f : FltPart) : List (Option Slot) × List Nat × Nat := (f.slots, f.slotMap, f.cells.length)

theorem resetCell_store (k : Nat) (b : Block) : (resetCell k b).flt.store = b.flt.store := by
  cases hx : b.slotOf k with
  | none => rw [resetCell, hx]
  | some x =>
    obtain ⟨g, -, he⟩ := resetCell_cases hx
    rw [he, Block.touch_flt, FltPart.store, onCellFlt_cells_length]
    rfl

theorem slotOf_of_store {a : Block} (h : a.flt.store = b.flt.store) (c : Nat) : a.slotOf c = b.slotOf c := by
  simp only [FltPart.store, Prod.mk.injEq] at h
  obtain ⟨hslots, hmap, -⟩ := h
  rw [Block.slotOf, Block.slotOf, hslots, hmap]

theorem resetCell_r (k : Nat) (b : Block) (j : Nat) : ((resetCell k b).cellFlt j).r = (b.cellFlt j).r := by
  cases hx : b.slotOf k with
  | none => rw [resetCell, hx]
  | some x =>
    obtain ⟨g, hg, he⟩ := resetCell_cases hx
    rw [he, cellFlt_of_flt (Block.touch_flt ..)]
    exact getD_modAt_keeps CellFlt.r fun c => (hg c).r_eq

@[simp] theorem touches_resetCell {l : List PartName} (hl : .flt ∈ l) (o b : Block) (k : Nat) : o.touches (resetCell k b) l ↔ o.touches b l := by
  cases hx : b.slotOf k with
  | none => rw [resetCell, hx]
  | some x =>
    obtain ⟨g, -, he⟩ := resetCell_cases hx
    simp [he, hl]

/-- Cells that are not reset keep their filters. -/
theorem foldl_resetCell_not_mem (l : List Nat) (b : Block) {c : Nat} (h : c ∉ l) : (l.foldl (fun b k => resetCell k b) b).cellFlt c = b.cellFlt c := by
  induction l generalizing b with
  | nil => rfl
  | cons k l ih =>
    obtain ⟨hck, hcl⟩ := List.ne_and_not_mem_of_not_mem_cons h
    rw [List.foldl_cons, ih _ hcl, resetCell_ne hck]

/-- Cells that are reset are renewed, however often. -/
theorem foldl_resetCell_mem (l : List Nat) (b : Block) {c : Nat} (h : c ∈ l) (hx : b.slotOf c = some x) (hc : c < b.flt.cells.length) :
    (b.cellFlt c).RenewedTo x ((l.foldl (fun b k => resetCell k b) b).cellFlt c) := by
  induction l generalizing b with
  | nil => cases h
  | cons k l ih =>
    rw [List.foldl_cons]
    by_cases hl : c ∈ l
    · have hlen : (resetCell k b).flt.cells.length = b.flt.cells.length := congrArg (fun p => p.2.2) (resetCell_store k b)
      have hrest := ih (resetCell k b) hl (by rw [slotOf_of_store (resetCell_store ..), hx]) (by rwa [hlen])
      exact { hrest with r_eq := hrest.r_eq.trans (resetCell_r ..) }
    · obtain rfl : c = k := (List.mem_cons.mp h).resolve_right hl
      rw [foldl_resetCell_not_mem _ _ hl]
      exact resetCell_renews hx hc

theorem foldl_resetCell_store (l : List Nat) (b : Block) : (l.foldl (fun b k => resetCell k b) b).flt.store = b.flt.store :=
  foldl_keeps (fun b : Block => b.flt.store) _ (fun b k => resetCell_store k b) _ _

end

section
variable {s : State} {src : Src}

theorem fltSetCap_serves {cell cap : Nat} (hc : cell < s.block.nCell) (h1 : 1000 ≤ cap) (h2 : cap ≤ 2000000) (hl : cell < s.block.flt.cells.length) :
    Serves (.fltSetCap src cell cap) s src 0x0506 true [.flt] .ok [] fun b =>
      b.cellFlt cell = { s.block.cellFlt cell with cap := cap, relearn := true, capNew := false } ∧ ∀ j : Fin 512, j.val ≠ cell → b.cellFlt j = s.block.cellFlt j := by
  let x := onCellFlt cell (fun c => { c with cap := cap, relearn := true, capNew := false }) (s.block.taken src 0x0506)
  refine serves_completing (rule := ruleFltSetCap src cell cap) (x := x) (ts := [0x43, 0x100 + cell]) rfl rfl rfl rfl (need_eq_none.mpr (decide_eq_true ⟨hc, h1, h2⟩)) rfl
    (by simp [x]) (by simp [x]) fun b hb => ⟨?_, fun j hj => ?_⟩
  · rw [cellFlt_of_flt (flt_of_unserved hb), cellFlt_onCellFlt_self (by simpa using hl), taken_cellFlt]
  · rw [cellFlt_of_flt (flt_of_unserved hb), cellFlt_onCellFlt_ne hj, taken_cellFlt]

theorem fltResetCell_serves {cell : Nat} {x : Slot} (hm : s.block.sys.mstate = .park) (hc : cell < s.block.nCell) (hx : s.block.slotOf cell = some x)
    (hl : cell < s.block.flt.cells.length) : Serves (.fltResetCell src cell) s src 0x0507 true [.flt] .ok [] fun b =>
      (b.cellFlt cell).cap = x.capNom ∧ (b.cellFlt cell).rs = fxQ x.rs0 1000000 ∧ (b.cellFlt cell).h = 0 ∧ (b.cellFlt cell).vA = 0 ∧ (b.cellFlt cell).vB = 0
      ∧ (b.cellFlt cell).capNew = true ∧ ent (b.cellFlt cell).p 0 0 = fxQ 100 10000 ∧ (b.cellFlt cell).r = (s.block.cellFlt cell).r
      ∧ ∀ j : Fin 512, j.val ≠ cell → b.cellFlt j = s.block.cellFlt j := by
  let y := s.block.taken src 0x0507
  refine serves_completing (rule := ruleFltResetCell src cell) (x := resetCell cell y) (ts := []) rfl rfl rfl (decide_eq_true hm) (need_eq_none.mpr (decide_eq_true hc)) rfl
    (by simp [y]) (by simp [y]) fun b hb => ?_
  have hflt := flt_of_unserved hb
  have hnew := resetCell_renews (b := y) (k := cell) (x := x) (by rw [slotOf_of_store (congrArg FltPart.store (taken_flt ..)), hx]) (by simpa [y] using hl)
  rw [← cellFlt_of_flt hflt, taken_cellFlt] at hnew
  obtain ⟨hcap, hrs, ⟨hh, hvA, hvB⟩, hcapNew, hp, hr⟩ := hnew
  refine ⟨hcap, hrs, hh, hvA, hvB, hcapNew, hp, hr, fun j hj => ?_⟩
  rw [cellFlt_of_flt hflt, resetCell_ne hj, taken_cellFlt]

/-- The slot of the segments that a mask names is another one (R151). -/
def Block.slotAssigned (b : Block) (mask slot : Nat) : Block := b.onFlt fun f => { f with slotMap := f.slotMap.mapIdx fun n x => if mask.testBit n then slot else x }

/-- The cells of the segments that a mask names. -/
def Block.cellsOf (b : Block) (mask : Nat) : List Nat := (List.range b.nCell).filter fun c => mask.testBit (segOf c)

theorem slotMap_slotAssigned {b : Block} {mask slot n : Nat} (h : n < b.flt.slotMap.length) :
    (b.slotAssigned mask slot).flt.slotMap.getD n 0 = if mask.testBit n then slot else b.flt.slotMap.getD n 0 := getD_mapIdx h

theorem fltSetSlot_serves {mask slot : Nat} {x : Slot} (hm : s.block.sys.mstate = .park) (hf : s.block.maskFitted mask = true) (hs : slot ≤ 3)
    (hx : s.block.flt.slots.getD slot none = some x) (hcells : s.block.flt.cells.length = 512) (hmap : s.block.flt.slotMap.length = 16) :
    Serves (.fltSetSlot src mask slot) s src 0x0505 true [.flt, .upd] .ok [] fun b =>
      (∀ n < 16, b.flt.slotMap.getD n 0 = if mask.testBit n then slot else s.block.flt.slotMap.getD n 0) ∧ s.block.storesSettings b
      ∧ ∀ c < 512, (mask.testBit (segOf c) = false → b.cellFlt c = s.block.cellFlt c)
          ∧ (c < s.block.nCell → mask.testBit (segOf c) = true → (b.cellFlt c).cap = x.capNom ∧ (b.cellFlt c).h = 0 ∧ (b.cellFlt c).vA = 0 ∧ (b.cellFlt c).vB = 0
              ∧ (b.cellFlt c).rs = fxQ x.rs0 1000000 ∧ (b.cellFlt c).capNew = true ∧ (b.cellFlt c).r = (s.block.cellFlt c).r) := by
  let y := (s.block.taken src 0x0505).slotAssigned mask slot
  let z := (s.block.cellsOf mask).foldl (fun b c => resetCell c b) y
  have hy (n : Nat) (hn : n < 16) : y.flt.slotMap.getD n 0 = if mask.testBit n then slot else s.block.flt.slotMap.getD n 0 := by
    rw [← taken_flt s.block src 0x0505]
    exact slotMap_slotAssigned (by rw [taken_flt]; omega)
  have hslots : y.flt.slots = s.block.flt.slots := by simp [y, Block.slotAssigned]
  have hlen : y.flt.cells.length = 512 := by simp [y, Block.slotAssigned, hcells]
  have hcell (c : Nat) : y.cellFlt c = s.block.cellFlt c := taken_cellFlt s.block src 0x0505 c
  refine serves_setting (l := [.flt]) (rule := ruleFltSetSlot src mask slot) (x := z) (ts := fltTiles) rfl rfl rfl (decide_eq_true hm)
    (need_eq_none.mpr (by rw [hf, hx]; simp [hs])) ?_ ?_ fun b hb hset => ⟨fun n hn => ?_, hset, fun c hc => ⟨fun hb0 => ?_, fun hn hb1 => ?_⟩⟩
  · simp only [ruleFltSetSlot, z, y, Block.cellsOf, Block.nCell, Block.nSeg, taken_sys]
    rfl
  · exact (touches_foldl (fun o b c => touches_resetCell (by decide) o b c) _ _ _).mpr (by simp [y, Block.slotAssigned])
  · rw [flt_of_setting hb, ← hy n hn, show z.flt.slotMap = y.flt.slotMap from congrArg (fun p => p.2.1) (foldl_resetCell_store ..)]
  · rw [cellFlt_of_flt (flt_of_setting hb), ← hcell]
    exact foldl_resetCell_not_mem _ _ (by simp [Block.cellsOf, hb0])
  · have hseg : segOf c < 16 := by unfold segOf; omega
    have hslot : y.slotOf c = some x := by rw [Block.slotOf, hslots, hy _ hseg, if_pos hb1, hx]
    obtain ⟨hcap, hrs, ⟨hh, hvA, hvB⟩, hcapNew, -, hr⟩ := foldl_resetCell_mem (s.block.cellsOf mask) y (by simp [Block.cellsOf, hn, hb1]) hslot (by omega)
    rw [cellFlt_of_flt (flt_of_setting hb)]
    exact ⟨hcap, hh, hvA, hvB, hrs, hcapNew, hr.trans (congrArg CellFlt.r (hcell c))⟩

/-- With no save in progress one starts, to the copy not in force (R173, R534). -/
theorem startSave_starts {b : Block} (cause : Nat) (h : b.flt.saving = none) : ∃ v ∈ (startSave cause b).flt.saving, v.cause = cause ∧ v.toB = b.flt.aInForce := by
  rw [startSave, h]
  exact ⟨_, rfl, rfl, rfl⟩

theorem startSave_saveSrcs (cause : Nat) (b : Block) : (startSave cause b).flt.saveSrcs = b.flt.saveSrcs := by
  unfold startSave
  split <;> rfl

theorem fltSaveNow_begins (hm : s.block.sys.mstate ≠ .boot) (hs : s.block.flt.saving = none) : Begins (.fltSaveNow src) s src 0x0508 true [.flt] fun b =>
    (∃ v ∈ b.flt.saving, v.cause = 7 ∧ v.toB = s.block.flt.aInForce) ∧ b.flt.saveSrcs = s.block.flt.saveSrcs ++ [(src, false)] := by
  let y := (s.block.taken src 0x0508).onFlt fun f => { f with saveSrcs := f.saveSrcs ++ [(src, false)] }
  have hflt : y.flt = { s.block.flt with saveSrcs := s.block.flt.saveSrcs ++ [(src, false)] } := by simp [y]
  refine begins_of_taken (rule := ruleFltSaveNow src) (x := startSave 7 y) rfl rfl rfl (decide_eq_true hm) rfl (by simp [ruleFltSaveNow, hs, y]) (by simp [y]) (by simp [y])
    fun b hb => ?_
  rw [flt_of_unserved hb, startSave_saveSrcs, hflt]
  obtain ⟨v, hv, hcause, hto⟩ := startSave_starts (b := y) 7 (by rw [hflt]; exact hs)
  exact ⟨⟨v, hv, hcause, by rw [hto, hflt]; rfl⟩, rfl⟩

theorem fltGetConfig_serves : Serves (.fltGetConfig src) s src 0x0509 false [] (s.block.tilesStatus [0x44]) (wordsBytes ((s.block.frontTile 0x44).take 12)) fun _ => True :=
  serves_tile (rule := ruleFltGetConfig src) rfl rfl rfl rfl rfl rfl

end

/-- Settles O19: each command's clause by its own lemma above. -/
theorem filterCommandsSetWhatTheyName : Obligations.FilterCommandsSetWhatTheyName := by
  unfold Obligations.FilterCommandsSetWhatTheyName
  exact ⟨fun _ _ _ _ _ _ _ _ => fltSetConfig_serves, fun _ _ _ _ => fltSlotWrite_begins_staging, fun _ _ _ _ _ _ => fltSlotWrite_serves,
    fun _ _ _ _ => fltSlotCommit_serves, fun _ _ _ _ => fltSlotCommit_refuses, fun _ _ _ _ _ _ => fltSlotRead_serves, fun _ _ _ _ _ => fltSetSlot_serves,
    fun _ _ _ _ => fltSetCap_serves, fun _ _ _ _ => fltResetCell_serves, fun _ _ => fltSaveNow_begins, fun _ _ => fltGetConfig_serves⟩

end Sys2Proof.Machine

namespace Sys2Proof.Machine

/-! ### The impedance commands (R184, R190, R191, R193, R197, R202) -/

section
variable {a b : Block}

theorem impCell_of_imp (h : a.imp = b.imp) (c : Nat) : a.impCell c = b.impCell c := by rw [Block.impCell, Block.impCell, h]
theorem imp_of_setting (h : a.unserved = (settingChanged b).unserved) : a.imp = b.imp := (imp_of_unserved h).trans (settingChanged_imp b)

@[simp] theorem taken_imp (b : Block) (src : Src) (op : Nat) : (b.taken src op).imp = b.imp := by simp [Block.taken]
@[simp] theorem taken_impCell (b : Block) (src : Src) (op c : Nat) : (b.taken src op).impCell c = b.impCell c := impCell_of_imp (taken_imp ..) c
@[simp] theorem taken_nCell (b : Block) (src : Src) (op : Nat) : (b.taken src op).nCell = b.nCell := by
  rw [Block.nCell, Block.nCell, nSeg_of_variant (congrArg SysPart.variant (taken_sys ..))]
@[simp] theorem taken_optime (b : Block) (src : Src) (op : Nat) : (b.taken src op).optime = b.optime := by simp [Block.taken, Block.optime]

/-! #### Jobs queued, and those that wait aborted (R190, R191) -/

@[simp] theorem queueJob_imp (b : Block) : (queueJob b).imp = { b.imp with
    waiting := b.imp.waiting ++ [b.imp.nextJob], nextJob := b.imp.nextJob + 1, dueAt := if b.imp.queue = 0 then b.sys.now else b.imp.dueAt } := rfl
@[simp] theorem queueJob_sys (b : Block) : (queueJob b).sys = b.sys := rfl
@[simp] theorem touches_queueJob {l : List PartName} (hl : .imp ∈ l) (o b : Block) : o.touches (queueJob b) l ↔ o.touches b l := by simp [queueJob, hl]

/-- The impedance part but for the jobs that wait and the record of the latest job. -/
def ImpPart.unqueued (i : ImpPart) : ImpPart := { i with waiting := [], lastJob := 0, lastStat := 0, lastDone := 0 }

theorem abortWaiting_unqueued (b : Block) : (abortWaiting b).imp.unqueued = b.imp.unqueued :=
  foldl_keeps (fun b : Block => b.imp.unqueued) _ (fun b j => by rw [note_imp]; rfl) _ _

@[simp] theorem abortWaiting_sys (b : Block) : (abortWaiting b).sys = b.sys := foldl_keeps Block.sys _ (fun b j => by rw [note_sys]; rfl) _ _

theorem abortWaiting_of_nil (h : b.imp.waiting = []) : abortWaiting b = b := by rw [abortWaiting, h]; rfl

/-- One job of the queue is aborted after another, until none waits. -/
theorem abortWaiting_waiting (b : Block) : (abortWaiting b).imp.waiting = [] := by
  unfold abortWaiting
  generalize hw : b.imp.waiting = l
  induction l generalizing b with
  | nil => exact hw
  | cons j l ih =>
    rw [List.foldl_cons]
    exact ih _ (by simp [hw])

@[simp] theorem touches_abortWaiting {l : List PartName} (hl : .imp ∈ l) (o b : Block) : o.touches (abortWaiting b) l ↔ o.touches b l :=
  touches_foldl (fun o b j => by simp [hl]) _ o b

/-- The state that the end of IMP_ENABLE 0 leaves (R191). -/
def Block.impDisabled (b : Block) : Block := (abortWaiting b).onImp fun i => { i with state := .disabled, disabling := none, x := 0 }

@[simp] theorem impDisabled_sys (b : Block) : b.impDisabled.sys = b.sys := by simp [Block.impDisabled]
@[simp] theorem touches_impDisabled {l : List PartName} (hl : .imp ∈ l) (o b : Block) : o.touches b.impDisabled l ↔ o.touches b l := by simp [Block.impDisabled, hl]

/-- What disabling leaves of the part: no job waits, the excitation is off, and all else but the record of the latest job is as it was. -/
theorem impDisabled_imp (b : Block) : b.impDisabled.imp.unqueued = { b.imp.unqueued with state := .disabled, disabling := none, x := 0 } ∧ b.impDisabled.imp.waiting = [] :=
  ⟨congrArg (fun i : ImpPart => { i with state := .disabled, disabling := none, x := 0 }) (abortWaiting_unqueued b), abortWaiting_waiting b⟩

/-- With no job running the command completes at once. -/
theorem finishDisable_idle {src : Src} (hj : b.imp.job = none) (hd : b.imp.disabling = some src) :
    finishDisable b = (complete src .ok [] b.impDisabled).touch impTiles := by
  rw [finishDisable, hj, hd]
  rfl

/-- Requests that rise strictly pass the check of IMP_SET_FREQS. -/
theorem risingNat_of_pairwise : ∀ {l : List Nat}, l.Pairwise (· < ·) → risingNat l = true
  | [], _ => rfl
  | [_], _ => rfl
  | a :: b :: l, h => by
    obtain ⟨hab, hl⟩ := List.pairwise_cons.mp h
    simp [risingNat, hab b (by simp), risingNat_of_pairwise hl]

end

section
variable {s : State} {src : Src}

theorem Serves.mono {i : Instr} {op : Nat} {owner : Bool} {l : List PartName} {st : Status} {data : List Byte} {P Q : Block → Prop}
    (h : Serves i s src op owner l st data P) (hPQ : ∀ b, P b → Q b) : Serves i s src op owner l st data Q := fun hset ha => by
  obtain ⟨t, ht, hm, hP, hrest⟩ := h hset ha
  exact ⟨t, ht, hm, hPQ _ hP, hrest⟩

/-- A command that stores a change `f` of the impedance part, and nothing else. -/
theorem serves_impSetting {i : Instr} {rule : Block → HostRule} {op : Nat} {data : List Byte} {ts : List Nat} (f : ImpPart → ImpPart)
    (hi : exec i s = effect (host src rule) s) (ho : (rule s.block).opcode = op) (hw : (rule s.block).owner = true) (hs : (rule s.block).stateOk = true)
    (hp : (rule s.block).param = none)
    (hact : (rule s.block).act (s.block.taken src op) = (complete src .ok data (settingChanged ((s.block.taken src op).onImp f))).touch ts) :
    Serves i s src op true [.imp, .upd] .ok data fun b => b.imp = f s.block.imp ∧ s.block.storesSettings b := by
  refine serves_setting (l := [.imp]) hi ho hw hs hp hact (by simp) fun b hb hset => ⟨?_, hset⟩
  rw [imp_of_setting hb]
  simp

theorem impSetFreqs_serves {reqs : List Nat} (hl : reqs.length = 8) (hr : ∀ f ∈ reqs, 100 ≤ f ∧ f ≤ 10000000) (hp : reqs.Pairwise (· < ·))
    (hn : (reqs.map freqCode).Nodup) :
    Serves (.impSetFreqs src reqs) s src 0x0601 true [.imp, .upd] .ok (reqs.flatMap fun f => leBytes 4 (freqCode f)) fun b =>
      b.imp = { s.block.imp with set := { s.block.imp.set with reqs := reqs } } ∧ s.block.storesSettings b :=
  serves_impSetting (rule := ruleImpSetFreqs src reqs) (fun i => { i with set := { i.set with reqs := reqs } }) rfl rfl rfl rfl
    (need_eq_none.mpr (by simpa [hl, hn, risingNat_of_pairwise hp] using hr)) rfl

theorem impSetExcitation_serves {amp nPer nSet : Nat} (h1 : 2000 ≤ amp) (h2 : amp ≤ 20000) (h3 : amp % 100 = 0) (h4 : 1 ≤ nPer) (h5 : nPer ≤ 64)
    (h6 : 1 ≤ nSet) (h7 : nSet ≤ 4) : Serves (.impSetExcitation src amp nPer nSet) s src 0x0602 true [.imp, .upd] .ok [] fun b =>
      b.imp = { s.block.imp with set := { s.block.imp.set with amp := amp, nPer := nPer, nSet := nSet } } ∧ s.block.storesSettings b :=
  serves_impSetting (rule := ruleImpSetExcitation src amp nPer nSet) (fun i => { i with set := { i.set with amp := amp, nPer := nPer, nSet := nSet } })
    rfl rfl rfl rfl (need_eq_none.mpr (decide_eq_true ⟨h1, h2, h3, h4, h5, h6, h7⟩)) rfl

theorem impStart_serves (hok : s.block.impOk = true) (hb : s.block.imp.set.bands s.block.sense.rate ≠ []) (hq : s.block.imp.queue < 4) :
    Serves (.impStart src) s src 0x0603 true [.imp] .ok (leBytes 4 s.block.imp.nextJob) fun b =>
      b.imp.waiting = s.block.imp.waiting ++ [s.block.imp.nextJob] ∧ b.imp.nextJob = s.block.imp.nextJob + 1 ∧ b.imp.job = s.block.imp.job ∧ b.imp.cells = s.block.imp.cells := by
  let x := queueJob (s.block.taken src 0x0603)
  refine serves_completing (rule := ruleImpStart src) (x := x) (ts := []) rfl rfl rfl (by simp [ruleImpStart, hok, hb]) (if_neg (Nat.not_le.mpr hq)) ?_ (by simp [x]) (by simp [x])
    fun b hb => ?_
  · simp only [ruleImpStart, taken_imp]
    rfl
  · rw [imp_of_unserved hb]
    simp [x]

theorem impEnable_serves : Serves (.impEnable src 1) s src 0x0604 true [.imp, .upd] .ok [] fun b =>
    b.imp = { s.block.imp with en := true, state := if s.block.imp.state = .disabled then .idle else s.block.imp.state } ∧ s.block.storesSettings b :=
  serves_impSetting (rule := ruleImpEnable src 1) (fun i => { i with en := true, state := if i.state = .disabled then .idle else i.state }) rfl rfl rfl rfl rfl rfl

/-- The part as IMP_ENABLE 0 leaves it before the running job stops (R191). -/
def ImpPart.stopping (src : Src) (i : ImpPart) : ImpPart := { i with en := false, disabling := some src, state := .stopping }

theorem impEnable_begins {j : Nat} (hj : s.block.imp.job = some j) : Begins (.impEnable src 0) s src 0x0604 true [.imp, .upd] fun b =>
    b.imp = { s.block.imp with en := false, disabling := some src, state := .stopping } ∧ s.block.storesSettings b := by
  let x := (settingChanged ((s.block.taken src 0x0604).onImp (ImpPart.stopping src))).touch [0x45]
  have hact : (ruleImpEnable src 0 s.block).act (s.block.taken src 0x0604) = x :=
    if_pos (by simp [hj])
  refine begins_of_taken (rule := ruleImpEnable src 0) rfl rfl rfl rfl rfl hact (by simp [x]) (by simp [x]) fun b hb => ⟨?_, ?_⟩
  · rw [imp_of_unserved hb]
    simp [x, ImpPart.stopping]
  · rw [Block.storesSettings, upd_of_unserved hb]
    simp [x]

theorem impEnable_serves_idle (hj : s.block.imp.job = none) : Serves (.impEnable src 0) s src 0x0604 true [.imp, .upd] .ok [] fun b =>
    b.imp.en = false ∧ b.imp.state = .disabled ∧ b.imp.waiting = [] ∧ b.imp.disabling = none ∧ b.imp.cells = s.block.imp.cells := by
  let y := settingChanged ((s.block.taken src 0x0604).onImp (ImpPart.stopping src))
  have hyi : y.imp = s.block.imp.stopping src := by simp [y]
  have hyj : y.imp.job = none := by rw [hyi]; exact hj
  have hact : (ruleImpEnable src 0 s.block).act (s.block.taken src 0x0604) = (complete src .ok [] y.impDisabled).touch impTiles := by
    rw [← finishDisable_idle hyj (by rw [hyi]; rfl)]
    exact if_neg (by simp [hj])
  refine serves_completing (rule := ruleImpEnable src 0) rfl rfl rfl rfl rfl hact (by simp [y]) (by simp [y]) fun b hb => ?_
  obtain ⟨hrest, hwait⟩ := impDisabled_imp y
  rw [imp_of_unserved hb]
  rw [hyi] at hrest
  exact ⟨congrArg ImpPart.en hrest, congrArg ImpPart.state hrest, hwait, congrArg ImpPart.disabling hrest, (congrArg ImpPart.cells hrest :)⟩

/-- The next periodic job after a change of INTERVAL (R190; log entry 25). -/
def ImpPart.scheduled (now interval : Nat) (i : ImpPart) : ImpPart :=
  { i with interval := interval, nextDue := if interval = 0 then none else some (max now (i.lastStart.getD now + interval * secT)) }

theorem impSetSchedule_stores {interval : Nat} (h : interval = 0 ∨ (600 ≤ interval ∧ interval ≤ 604800)) :
    Serves (.impSetSchedule src interval) s src 0x0605 true [.imp, .upd] .ok [] fun b =>
      b.imp = s.block.imp.scheduled s.block.sys.now interval ∧ s.block.storesSettings b := by
  refine serves_impSetting (rule := ruleImpSetSchedule src interval) (ts := [0x45, 0x46]) (ImpPart.scheduled s.block.sys.now interval) rfl rfl rfl rfl (need_eq_none.mpr (decide_eq_true h)) ?_
  rw [← taken_sys s.block src 0x0605]
  rfl

theorem impSetSchedule_serves {interval : Nat} (h1 : 600 ≤ interval) (h2 : interval ≤ 604800) :
    Serves (.impSetSchedule src interval) s src 0x0605 true [.imp, .upd] .ok [] fun b =>
      b.imp.interval = interval ∧ (∀ t ∈ s.block.imp.lastStart, b.imp.nextDue = some (max s.block.sys.now (t + interval * secT))) ∧ b.imp.waiting = s.block.imp.waiting
        ∧ s.block.storesSettings b :=
  (impSetSchedule_stores (.inr ⟨h1, h2⟩)).mono fun b ⟨hb, hset⟩ => by
    rw [hb]
    refine ⟨rfl, fun t ht => ?_, rfl, hset⟩
    rw [ImpPart.scheduled, if_neg (by omega), Option.mem_def.mp ht]
    rfl

theorem impSetSchedule_serves_none : Serves (.impSetSchedule src 0) s src 0x0605 true [.imp, .upd] .ok [] fun b =>
    b.imp = { s.block.imp with interval := 0, nextDue := none } ∧ s.block.storesSettings b := impSetSchedule_stores (.inl rfl)

theorem impZtWrite_serves {slot : Nat} {rec : List Byte} (hs : slot ≤ 3) (hl : rec.length = 144) (hc : ztCheck rec = 0) :
    Serves (.impZtWrite src slot rec) s src 0x0606 true [.imp, .upd] .ok (leBytes 1 0) fun b =>
      b.imp = { s.block.imp with zts := modAt s.block.imp.zts slot fun _ => some (parseZt rec) } ∧ s.block.storesSettings b :=
  serves_impSetting (rule := ruleImpZtWrite src slot rec) (fun i => { i with zts := modAt i.zts slot fun _ => some (parseZt rec) }) rfl rfl rfl rfl
    (need_eq_none.mpr (decide_eq_true ⟨hs, hl⟩)) (if_neg (not_not.mpr hc))

theorem impZtWrite_refuses {slot : Nat} {rec : List Byte} (hs : slot ≤ 3) (hl : rec.length = 144) (hc : ztCheck rec ≠ 0) :
    Serves (.impZtWrite src slot rec) s src 0x0606 true [] .badParam (leBytes 1 (ztCheck rec)) fun _ => True :=
  serves_completing (rule := ruleImpZtWrite src slot rec) (x := s.block.taken src 0x0606) (ts := []) rfl rfl rfl rfl (need_eq_none.mpr (decide_eq_true ⟨hs, hl⟩))
    (if_pos hc) (by simp) (by simp) fun _ _ => trivial

/-- The cells whose baseline a mask captures: those of its segments that the latest OK job updated in full (R197). -/
def Block.baseCells (b : Block) (mask : Nat) : List Nat := (List.range b.nCell).filter fun c => mask.testBit (segOf c) && decide ((b.impCell c).okZ ≠ [])

/-- A cell with its baseline captured from the latest OK job (R197). -/
def ImpCell.captured (t : Nat) (m : ImpCell) : ImpCell :=
  { m with base := m.okZ.map fun z => (entryUnits z).getD (0, 0), baseV := true, tBase := m.okT.getD Config.firstTemperature, bTime := t }

theorem mem_baseCells {b : Block} {mask c : Nat} : c ∈ b.baseCells mask ↔ c < b.nCell ∧ mask.testBit (segOf c) = true ∧ (b.impCell c).okZ ≠ [] := by
  simp [Block.baseCells]

theorem captureBase_impCell {b : Block} {mask c : Nat} (hc : c < b.imp.cells.length) :
    (captureBase mask b).1.impCell c = if c ∈ b.baseCells mask then (b.impCell c).captured (b.optime % 4294967296) else b.impCell c := getD_mapIdx hc

theorem impSetBaseline_serves {mask : Nat} (hok : s.block.okRecent = true) (hm : s.block.maskFitted mask = true) (hl : s.block.imp.cells.length = 512) :
    Serves (.impSetBaseline src mask) s src 0x0607 true [.imp] .ok
      (leBytes 2 ((List.range s.block.nCell).filter fun c => mask.testBit (segOf c) && decide ((s.block.impCell c).okZ ≠ [])).length) fun b =>
      ∀ c < 512, b.impCell c = if c < s.block.nCell ∧ mask.testBit (segOf c) = true ∧ (s.block.impCell c).okZ ≠ [] then
          { s.block.impCell c with base := (s.block.impCell c).okZ.map fun z => (entryUnits z).getD (0, 0), baseV := true, tBase := (s.block.impCell c).okT.getD Config.firstTemperature,
                                   bTime := s.block.optime % 4294967296 }
        else s.block.impCell c := by
  let y := s.block.taken src 0x0607
  have hcells : y.baseCells mask = s.block.baseCells mask := by simp [Block.baseCells, y]
  refine serves_completing (rule := ruleImpSetBaseline src mask) (x := (captureBase mask y).1) (ts := 0x46 :: impTiles) rfl rfl rfl hok (need_eq_none.mpr hm) ?_
    (by simp [captureBase, y]) (by simp [captureBase, y]) fun b hb c hc => ?_
  · change _ = (complete src .ok (leBytes 2 (s.block.baseCells mask).length) _).touch _
    rw [← hcells]
    rfl
  · rw [impCell_of_imp (imp_of_unserved hb), captureBase_impCell (by simpa [y, hl] using hc), hcells, taken_impCell, taken_optime]
    exact if_congr mem_baseCells rfl rfl

theorem impSetHealth_serves {hslot growWarn outWarn : Nat} (h1 : hslot ≤ 7) (h2 : 16385 ≤ growWarn) (h3 : growWarn ≤ 65535) (h4 : 100 ≤ outWarn) (h5 : outWarn ≤ 10000) :
    Serves (.impSetHealth src hslot growWarn outWarn) s src 0x0608 true [.imp, .upd] .ok [] fun b =>
      b.imp = { s.block.imp with hslot := hslot, growWarn := growWarn, outWarn := outWarn } ∧ s.block.storesSettings b :=
  serves_impSetting (rule := ruleImpSetHealth src hslot growWarn outWarn) (fun i => { i with hslot := hslot, growWarn := growWarn, outWarn := outWarn })
    rfl rfl rfl rfl (need_eq_none.mpr (decide_eq_true ⟨h1, h2, h3, h4, h5⟩)) rfl

theorem impGetBaseline_serves {cell : Nat} (hc : cell < s.block.nCell) (hb : (s.block.impCell cell).baseV = true) :
    Serves (.impGetBaseline src cell) s src 0x0609 false [] .ok (wordsBytes ((List.range 8).map fun k => entryWord (some ((s.block.impCell cell).base.getD k (0, 0))))
      ++ leBytes 2 (s16Of (s.block.impCell cell).tBase) ++ leBytes 4 (s.block.impCell cell).bTime) fun _ => True := by
  refine serves_completing (rule := ruleImpGetBaseline src cell) (x := s.block.taken src 0x0609) (ts := []) rfl rfl rfl rfl (need_eq_none.mpr (decide_eq_true hc)) ?_
    (by simp) (by simp) fun _ _ => trivial
  simp only [ruleImpGetBaseline, taken_impCell, hb, if_true]
  rfl

theorem impGetConfig_serves : Serves (.impGetConfig src) s src 0x060A false [] (s.block.tilesStatus [0x46]) (wordsBytes ((s.block.frontTile 0x46).take 14)) fun _ => True :=
  serves_tile (rule := ruleImpGetConfig src) rfl rfl rfl rfl rfl rfl

end

/-- Settles O22: each command's clause by its own lemma above. -/
theorem impedanceCommandsSetWhatTheyName : Obligations.ImpedanceCommandsSetWhatTheyName := by
  unfold Obligations.ImpedanceCommandsSetWhatTheyName
  exact ⟨fun _ _ _ => impSetFreqs_serves, fun _ _ _ _ _ => impSetExcitation_serves, fun _ _ => impStart_serves, fun _ _ => impEnable_serves,
    fun _ _ _ => impEnable_begins, fun _ _ => impEnable_serves_idle, fun _ _ _ => impSetSchedule_serves, fun _ _ => impSetSchedule_serves_none,
    fun _ _ _ _ => impZtWrite_serves, fun _ _ _ _ => impZtWrite_refuses, fun _ _ _ => impSetBaseline_serves, fun _ _ _ _ _ => impSetHealth_serves,
    fun _ _ _ => impGetBaseline_serves, fun _ _ => impGetConfig_serves⟩

end Sys2Proof.Machine

namespace Sys2Proof.Machine

/-! ### What the operations of a job change (R180 to R182, R185, R189) -/

section
variable {b : Block}

theorem rateTicks_pos (code : Nat) : 0 < rateTicks code := by
  match code with
  | 0 | 1 | 2 | 3 | 4 => decide
  | n + 5 => exact Nat.zero_lt_succ _

theorem le_multipleFrom {p t : Nat} (h : 0 < p) : t ≤ multipleFrom p t := by
  have := Nat.lt_div_mul_add (a := t + p - 1) h
  unfold multipleFrom
  omega

theorem limitRef_of_same {a : Block} (hc : a.cnv = b.cnv) (hs : a.sys = b.sys) (hl : a.latch = b.latch) : a.limitRef = b.limitRef := by
  have hj : a.joinFraction = b.joinFraction := by
    funext k
    rw [Block.joinFraction, Block.joinFraction, Block.phase, Block.phase, hc, hs]
  have he : a.ilimEff = b.ilimEff := by rw [Block.ilimEff, Block.ilimEff, Block.nEff, Block.nEff, Block.iFloor, Block.iFloor, Block.floor, Block.floor, hj, hc, hl]
  funext i
  rw [Block.limitRef, Block.limitRef, he]

/-! #### The end of a job (R183, R205) -/

theorem endJob_imp {j : Nat} {st : Status} (h : b.imp.job = some j) :
    (endJob st b).imp.job = none ∧ (endJob st b).imp.lastJob = j ∧ (endJob st b).imp.lastStat = st.code ∧ (endJob st b).imp.x = 0
      ∧ (endJob st b).imp.state = (if b.imp.en then .idle else b.imp.state) ∧ (endJob st b).imp.waiting = b.imp.waiting ∧ (endJob st b).imp.cells = b.imp.cells
      ∧ (st = .ok → (endJob st b).imp.lastOk = j ∧ (endJob st b).imp.lastOkAt = some b.sys.now) := by
  rw [endJob, h]
  dsimp only
  rw [Block.touch_imp, note_imp]
  exact ⟨rfl, rfl, rfl, rfl, rfl, rfl, rfl, fun hst => ⟨if_pos hst, if_pos hst⟩⟩

/-! #### The start of a band (R181, R185) -/

/-- Where a band stands: its p, the bands after it, its periods, the register, the excitation, the starts of period and chip, STATE. -/
def ImpPart.run (i : ImpPart) : Nat × List Nat × Nat × Nat × Int × Nat × Nat × ImpState := (i.band, i.bands, i.nPeriod, i.lfsr, i.x, i.perAt, i.chipAt, i.state)

/-- What a job has from its start, with its results and the jobs that wait. -/
def ImpPart.jobOf (i : ImpPart) : Option Nat × List Nat × Bool × ImpSet × List (Option ZtRec) × Nat × Nat × List ImpCell × Option Nat × Option BandDone :=
  (i.job, i.waiting, i.begun, i.jobSet, i.jobZts, i.skipped, i.done, i.cells, i.lastStart, i.bandDone)

theorem beginBand_run {t p : Nat} {ps : List Nat} (h : b.imp.bands = p :: ps) : (beginBand t b).imp.run = (p, ps, 0, 0xFFF, 0, t, t, .settling) := by
  rw [beginBand, h]
  rfl

theorem beginBand_jobOf (t : Nat) (b : Block) : (beginBand t b).imp.jobOf = b.imp.jobOf := by
  unfold beginBand
  split <;> rfl

@[simp] theorem beginBand_sys (t : Nat) (b : Block) : (beginBand t b).sys = b.sys := by
  unfold beginBand
  split <;> rfl

@[simp] theorem touches_beginBand {l : List PartName} (hl : .imp ∈ l) (o b : Block) (t : Nat) : o.touches (beginBand t b) l ↔ o.touches b l := by
  unfold beginBand
  split
  · rfl
  · exact touches_onImp hl ..

/-! #### Chips and the reference's limits (R180, R182, R187) -/

theorem markClip_imp (b : Block) : (markClip b).imp = if b.imp.job.isNone ∨ b.imp.x = 0 then b.imp else { b.imp with clip := true, badPeriod := true } := by
  unfold markClip
  split
  · rfl
  · dsimp only
    split <;> simp

@[simp] theorem markClip_sys (b : Block) : (markClip b).sys = b.sys := by simp [markClip, apply_ite Block.sys]
@[simp] theorem touches_markClip {l : List PartName} (hl : .imp ∈ l) (o b : Block) : o.touches (markClip b) l ↔ o.touches b l := by simp [markClip, hl]

/-- The part at a chip boundary, but for CLIP and the validity of the period: the bit shifted out gives the sign of x, the feedback enters (R180, R182). -/
def ImpPart.chipped (ticks : Nat) (i : ImpPart) : ImpPart := { i with
  lfsr := (i.lfsr * 2 + (i.lfsr / 2048 + i.lfsr / 32 + i.lfsr / 8 + i.lfsr) % 2) % 4096
  x := if i.lfsr / 2048 % 2 = 1 then (i.jobSet.amp : Int) else -(i.jobSet.amp : Int)
  chip := (i.chip + 1) % 4095
  chipAt := i.chipAt + ticks }

/-- A chip boundary: without a hold, an excitation that the limits clip sets CLIP and discards the period; under a hold the period is discarded (R182, R187, R201). -/
theorem chipStep_imp (b : Block) : ∃ clip bad, (chipStep b).imp = { b.imp.chipped b.chipTicks with clip := clip, badPeriod := bad }
    ∧ (b.hinge = true → bad = true)
    ∧ (b.hinge = false → (b.limitRef (b.cnv.iRef + (b.imp.chipped b.chipTicks).x)).2 = true → (b.imp.chipped b.chipTicks).x ≠ 0 → b.imp.job.isSome = true → clip = true ∧ bad = true) := by
  let b1 := b.onImp fun i => { i.chipped b.chipTicks with badPeriod := i.badPeriod || b.hinge }
  have hstep : (chipStep b).imp = (if ((b1.limitRef (b1.cnv.iRef + b1.imp.x)).2 && !b.hinge) = true then markClip b1 else b1).imp := rfl
  by_cases hlim : ((b1.limitRef (b1.cnv.iRef + b1.imp.x)).2 && !b.hinge) = true ∧ ¬(b1.imp.job.isNone = true ∨ b1.imp.x = 0)
  · rw [if_pos hlim.1, markClip_imp, if_neg hlim.2] at hstep
    exact ⟨true, true, hstep, fun _ => rfl, fun _ _ _ _ => ⟨rfl, rfl⟩⟩
  · refine ⟨b.imp.clip, b.imp.badPeriod || b.hinge, ?_, fun h => by simp [h], fun hh hl hx hj => absurd ⟨?_, ?_⟩ hlim⟩
    · rw [hstep]
      split
      · next hc => rw [markClip_imp, if_pos (not_not.mp fun hn => hlim ⟨hc, hn⟩)]; rfl
      · rfl
    · rw [hh, limitRef_of_same (a := b1) (b := b) rfl rfl rfl, Bool.and_eq_true]
      exact ⟨hl, rfl⟩
    · rintro (hn | h0)
      · exact absurd hj (by rw [show b.imp.job = none from Option.isNone_iff_eq_none.mp hn]; simp)
      · exact hx h0

@[simp] theorem chipStep_sys (b : Block) : (chipStep b).sys = b.sys := by simp [chipStep, apply_ite Block.sys]
@[simp] theorem touches_chipStep {l : List PartName} (hl : .imp ∈ l) (o b : Block) : o.touches (chipStep b) l ↔ o.touches b l := by simp [chipStep, hl]
@[simp] theorem chipStep_cnv (b : Block) : (chipStep b).cnv = b.cnv :=
  ((touches_chipStep (l := [.imp]) (by simp) b b).mpr (by simp)) .cnv (by decide) (by decide)
@[simp] theorem chipStep_latch (b : Block) : (chipStep b).latch = b.latch :=
  ((touches_chipStep (l := [.imp]) (by simp) b b).mpr (by simp)) .latch (by decide) (by decide)

end
end Sys2Proof.Machine

namespace Sys2Proof.Machine

/-! ### IMP_JOB_BEGIN and EXCITATION_CHIP (R180 to R183, R185, R190, R191; log entries 22 and 23) -/

section
variable {s : State} {b : Block} {j p : Nat} {rest ps : List Nat}

/-- When the first waiting job begins: the first aperture at least 100 µs after it is due, and not before the present (R183). -/
def Block.jobStart (b : Block) : Nat := max (multipleFrom (rateTicks b.sense.rate) (b.imp.dueAt + 100 * usT)) (multipleFrom (rateTicks b.sense.rate) b.sys.now)

theorem le_jobStart (b : Block) : b.imp.dueAt + 100 * usT ≤ b.jobStart ∧ b.sys.now ≤ b.jobStart :=
  ⟨(le_multipleFrom (rateTicks_pos _)).trans (le_max_left ..), (le_multipleFrom (rateTicks_pos _)).trans (le_max_right ..)⟩

/-- The job takes its settings, then its first band begins with its first chip. -/
theorem doImpJobBegin_eq (hj : b.imp.job = none) (hw : b.imp.waiting = j :: rest) (hok : b.impOk = true) (hb : b.imp.set.bands b.sense.rate = p :: ps) :
    ∃ n : ImpPart, doImpJobBegin b = (chipStep (beginBand b.jobStart (note .impJobStart noArg [j] ((b.at b.jobStart).onImp fun _ => n)))).touch impTiles
      ∧ n.bands = p :: ps ∧ n.jobOf = (some j, rest, true, b.imp.set, b.imp.zts, b.imp.set.skipMask b.sense.rate, 0, b.imp.cells, some b.jobStart, b.imp.bandDone) := by
  rw [doImpJobBegin, hj, hw]
  dsimp only
  rw [if_neg (by simp [hok]), if_neg (by simp [hb])]
  exact ⟨_, rfl, hb, rfl⟩

theorem impJobBegin_begins (hj : s.block.imp.job = none) (hw : s.block.imp.waiting = j :: rest) (hok : s.block.impOk = true)
    (hb : s.block.imp.set.bands s.block.sense.rate = p :: ps) : Happens .impJobBegin s [.sys, .imp] fun b =>
      b.imp.job = some j ∧ b.imp.waiting = rest ∧ b.imp.begun = true ∧ b.imp.jobSet = s.block.imp.set ∧ b.imp.jobZts = s.block.imp.zts ∧ b.imp.band = p ∧ b.imp.bands = ps
      ∧ b.imp.skipped = s.block.imp.set.skipMask s.block.sense.rate ∧ b.imp.state = .settling ∧ b.imp.nPeriod = 0 ∧ b.imp.done = 0 ∧ b.imp.lfsr = 0xFFE
      ∧ b.imp.x = (s.block.imp.set.amp : Int) ∧ b.imp.cells = s.block.imp.cells ∧ b.imp.lastStart = some b.sys.now ∧ s.block.sys.now ≤ b.sys.now ∧ s.block.imp.dueAt + 100 * usT ≤ b.sys.now
      ∧ b.imp.perAt = b.sys.now ∧ b.imp.chipAt = b.sys.now + 2 ^ p * 2500 := by
  obtain ⟨n, he, hbands, hn⟩ := doImpJobBegin_eq hj hw hok hb
  let y := note .impJobStart noArg [j] ((s.block.at s.block.jobStart).onImp fun _ => n)
  let z := beginBand s.block.jobStart y
  have hy : y.imp = n := by simp [y]
  have hrun : z.imp.run = _ := beginBand_run (by rw [hy]; exact hbands)
  have hjob : z.imp.jobOf = _ := (beginBand_jobOf ..).trans (by rw [hy, hn])
  simp only [ImpPart.run, Prod.mk.injEq] at hrun
  simp only [ImpPart.jobOf, Prod.mk.injEq] at hjob
  obtain ⟨hband, hps, hper, hlfsr, -, hperAt, hchipAt, hstate⟩ := hrun
  obtain ⟨hjob, hwait, hbegun, hset, hzts, hskip, hdone, hcells, hstart, -⟩ := hjob
  obtain ⟨hdue, hlate⟩ := le_jobStart s.block
  obtain ⟨clip, bad, hchip, -, -⟩ := chipStep_imp z
  have hnow : (irqWatch s.block (doImpJobBegin s.block)).sys.now = s.block.jobStart := by
    rw [irqWatch_sys, he]
    simpa [Block.at] using hlate
  have himp : (irqWatch s.block (doImpJobBegin s.block)).imp = { z.imp.chipped z.chipTicks with clip := clip, badPeriod := bad } := by
    rw [irqWatch_imp, he, Block.touch_imp, ← hchip]
  have hticks : z.chipTicks = 2 ^ p * 2500 := by rw [Block.chipTicks, hband]
  refine happens_plain (f := doImpJobBegin) rfl (by simp [he]) (by simp) ?_
  rw [himp, hnow]
  refine ⟨hjob, hwait, hbegun, hset, hzts, hband, hps, hskip, hstate, hper, hdone, ?_, ?_, hcells, hstart, hlate, hdue, hperAt, ?_⟩
  · simp [ImpPart.chipped, hlfsr]
  · simp [ImpPart.chipped, hlfsr, hset]
  · simp [ImpPart.chipped, hchipAt, hticks]

theorem impJobBegin_waits (hok : s.block.impOk = false) : Happens .impJobBegin s [] fun _ => True := by
  refine happens_nothing (f := doImpJobBegin) rfl ?_
  unfold doImpJobBegin
  split
  · exact if_pos hok
  · rfl

theorem excitationChip_steps (hon : s.block.bandOn = true) (hd : s.block.imp.disabling = none) : Happens .excitationChip s [.sys, .imp] fun b =>
    b.sys.now = max s.block.sys.now s.block.imp.chipAt ∧ b.imp.chipAt = s.block.imp.chipAt + 2 ^ s.block.imp.band * 2500
    ∧ b.imp.x = (if s.block.imp.lfsr / 2048 % 2 = 1 then (s.block.imp.jobSet.amp : Int) else -(s.block.imp.jobSet.amp : Int))
    ∧ b.imp.lfsr = (s.block.imp.lfsr * 2 + (s.block.imp.lfsr / 2048 + s.block.imp.lfsr / 32 + s.block.imp.lfsr / 8 + s.block.imp.lfsr) % 2) % 4096
    ∧ (s.block.hinge = true → b.imp.badPeriod = true)
    ∧ (s.block.hinge = false → (b.limitRef (b.cnv.iRef + b.imp.x)).2 = true → b.imp.x ≠ 0 → b.imp.clip = true ∧ b.imp.badPeriod = true) := by
  let y := s.block.at s.block.imp.chipAt
  have he : doExcitationChip s.block = chipStep y := by simp [doExcitationChip, hon, hd, y]
  have hjob : s.block.imp.job.isSome = true := by
    simp only [Block.bandOn, Bool.and_eq_true] at hon
    exact hon.1
  obtain ⟨clip, bad, hchip, hhold, hclip⟩ := chipStep_imp y
  have hlim : (irqWatch s.block (doExcitationChip s.block)).limitRef = y.limitRef := limitRef_of_same (by simp [he]) (by simp [he]) (by simp [he])
  refine happens_plain (f := doExcitationChip) rfl (by simp [he, y]) (by simp [he, y, Block.at]) ?_
  rw [irqWatch_imp, irqWatch_cnv, irqWatch_sys, hlim, he, hchip, chipStep_cnv, chipStep_sys]
  exact ⟨rfl, rfl, rfl, rfl, hhold, fun hh hl hx => hclip hh hl hx hjob⟩

theorem excitationChip_stops {d : Src} (hon : s.block.bandOn = true) (hd : s.block.imp.disabling = some d) :
    Happens .excitationChip s [.sys, .imp] fun b => b.imp = { s.block.imp with x := 0 } := by
  have he : doExcitationChip s.block = ((s.block.at s.block.imp.chipAt).onImp fun i => { i with x := 0 }).touch [0x45] := by simp [doExcitationChip, hon, hd]
  exact happens_plain (f := doExcitationChip) rfl (by simp [he]) (by simp [he, Block.at]) (by simp [he])

end
end Sys2Proof.Machine

namespace Sys2Proof.Machine

/-! ### IMPEDANCE_PERIOD_END and IMPEDANCE_BAND_END (R186 to R189, R199) -/

section
variable {s : State} {b : Block}

theorem snd_of_mem_zip_mapIdx {α β : Type} {l : List α} {f : Nat → α → β} {x : α × β} (h : x ∈ List.zip l (l.mapIdx f)) : ∃ k, x.2 = f k x.1 := by
  obtain ⟨n, hn, rfl⟩ := List.mem_iff_getElem.mp h
  exact ⟨n, by simp⟩

theorem snd_of_mem_zip_map {α β : Type} {l : List α} {f : α → β} {x : α × β} (h : x ∈ List.zip l (l.map f)) : x.2 = f x.1 := by
  obtain ⟨n, hn, rfl⟩ := List.mem_iff_getElem.mp h
  simp

/-- The period that ends is one of those that count: none of settling, and no converter-level reason against it (R186, R187). -/
def Block.periodUsed (b : Block) : Bool := decide (b.imp.jobSet.nSet ≤ b.imp.nPeriod) && b.periodValid

/-- The part `n` after the end of a period of `i`, of which `used` says whether it counts (R186, R187). -/
structure ImpPart.PeriodEnded (used : Bool) (endAt : Nat) (i n : ImpPart) : Prop where
  perAt_eq : n.perAt = endAt
  nPeriod_eq : n.nPeriod = i.nPeriod + 1
  nValid_eq : n.nValid = i.nValid + b2n used
  state_eq : n.state = if i.nPeriod + 1 < i.jobSet.nSet then .settling else .measuring
  sumI_eq : used = false → n.sumI = i.sumI
  acc_eq : ∃ f : ImpAcc → ImpAcc, n.acc = i.acc.map f ∧ ∀ a, used = false ∨ a.bad = true → (f a).sumV = a.sumV ∧ (f a).valid = a.valid
  cells_eq : n.cells = i.cells

theorem doImpedancePeriodEnd_eq (hon : b.bandOn = true) (hst : b.imp.state ≠ .stopping) :
    ∃ n : ImpPart, doImpedancePeriodEnd b = ((b.at (b.imp.perAt + 4095 * b.chipTicks)).onImp fun _ => n).touch [0x45]
      ∧ b.imp.PeriodEnded b.periodUsed (b.imp.perAt + 4095 * b.chipTicks) n := by
  have hused : (!decide (b.imp.nPeriod < b.imp.jobSet.nSet) && b.periodValid) = b.periodUsed := by
    rw [Block.periodUsed, ← decide_not]
    simp only [Nat.not_lt]
  rw [doImpedancePeriodEnd, if_neg (by simp [hon, hst])]
  dsimp only
  rw [hused]
  refine ⟨_, rfl, rfl, rfl, rfl, rfl, fun hu => if_neg (by simp [hu]), ⟨_, rfl, fun a ha => ?_⟩, rfl⟩
  have hno : ¬(b.periodUsed && !a.bad) = true := by
    rcases ha with h | h <;> simp [h]
  exact ⟨if_neg hno, if_neg hno⟩

theorem impedancePeriodEnd_ends (hon : s.block.bandOn = true) (hst : s.block.imp.state ≠ .stopping) : Happens .impedancePeriodEnd s [.sys, .imp] fun b =>
    b.sys.now = max s.block.sys.now (s.block.imp.perAt + 4095 * s.block.chipTicks) ∧ b.imp.perAt = s.block.imp.perAt + 4095 * s.block.chipTicks ∧ b.imp.nPeriod = s.block.imp.nPeriod + 1
    ∧ b.imp.nValid = s.block.imp.nValid + (if s.block.imp.jobSet.nSet ≤ s.block.imp.nPeriod ∧ s.block.periodValid = true then 1 else 0)
    ∧ b.imp.state = (if s.block.imp.nPeriod + 1 < s.block.imp.jobSet.nSet then .settling else .measuring)
    ∧ (s.block.imp.nPeriod < s.block.imp.jobSet.nSet ∨ s.block.periodValid = false → b.imp.sumI = s.block.imp.sumI ∧ ∀ x ∈ List.zip s.block.imp.acc b.imp.acc, x.2.sumV = x.1.sumV ∧ x.2.valid = x.1.valid)
    ∧ (∀ x ∈ List.zip s.block.imp.acc b.imp.acc, x.1.bad = true → x.2.sumV = x.1.sumV ∧ x.2.valid = x.1.valid) ∧ b.imp.cells = s.block.imp.cells := by
  obtain ⟨n, he, hper, hnp, hval, hstate, hsum, ⟨f, hacc, hf⟩, hcells⟩ := doImpedancePeriodEnd_eq hon hst
  have himp : (irqWatch s.block (doImpedancePeriodEnd s.block)).imp = n := by simp [he]
  refine happens_plain (f := doImpedancePeriodEnd) rfl (by simp [he]) (by simp [he, Block.at]) ?_
  rw [himp, hacc]
  refine ⟨by simp [he, Block.at], hper, hnp, ?_, hstate, fun hno => ?_, fun x hx hbad => ?_, hcells⟩
  · rw [hval, Block.periodUsed, b2n]
    simp
  · have hu : s.block.periodUsed = false := by
      rcases hno with h | h
      · simp [Block.periodUsed, h]
      · simp [Block.periodUsed, h]
    exact ⟨hsum hu, fun x hx => by rw [snd_of_mem_zip_map hx]; exact hf _ (.inl hu)⟩
  · rw [snd_of_mem_zip_map hx]
    exact hf _ (.inr hbad)

/-- A band that has ended: its sums wait to be written, the excitation is off (R189). -/
def Block.bandClosed (b : Block) : Block := b.onImp fun i => { i with bandDone := some b.bandResult, x := 0, nPeriod := 0, nValid := 0, nLow := 0, nHigh := 0 }

@[simp] theorem bandClosed_sys (b : Block) : b.bandClosed.sys = b.sys := rfl
@[simp] theorem touches_bandClosed {l : List PartName} (hl : .imp ∈ l) (o b : Block) : o.touches b.bandClosed l ↔ o.touches b l := touches_onImp hl ..

theorem doImpedanceBandEnd_eq (hon : b.bandOn = true) (hst : b.imp.state ≠ .stopping) (hc : b.bandComplete = true) (hd : b.imp.bandDone = none) :
    doImpedanceBandEnd b = (if b.imp.bands = [] then b.bandClosed.onImp fun i => { i with lfsr := 0 }
      else beginBand (multipleFrom (rateTicks b.sense.rate) (b.imp.perAt + 100 * usT)) b.bandClosed).touch [0x45] := by
  have hw : doIdentHandover (doBandResultsWritten b) = b := by
    rw [show doBandResultsWritten b = b by rw [doBandResultsWritten, hd], doIdentHandover, hd]
  rw [doImpedanceBandEnd, if_neg (by simp [hon, hst, hc])]
  dsimp only
  rw [hw]
  rfl

theorem impedanceBandEnd_last (hon : s.block.bandOn = true) (hst : s.block.imp.state ≠ .stopping) (hc : s.block.bandComplete = true) (hd : s.block.imp.bandDone = none)
    (hb : s.block.imp.bands = []) : Happens .impedanceBandEnd s [.imp] fun b =>
      b.imp.bandDone = some s.block.bandResult ∧ s.block.bandResult.last = true ∧ b.imp.x = 0 ∧ b.imp.lfsr = 0 ∧ b.imp.job = s.block.imp.job ∧ b.imp.cells = s.block.imp.cells := by
  have he := (doImpedanceBandEnd_eq hon hst hc hd).trans (congrArg (Block.touch [0x45]) (if_pos hb))
  refine happens_plain (f := doImpedanceBandEnd) rfl (by simp [he]) (by simp [he]) ?_
  rw [irqWatch_imp, he, Block.touch_imp]
  exact ⟨rfl, decide_eq_true hb, rfl, rfl, rfl, rfl⟩

theorem impedanceBandEnd_next {p : Nat} {ps : List Nat} (hon : s.block.bandOn = true) (hst : s.block.imp.state ≠ .stopping) (hc : s.block.bandComplete = true)
    (hd : s.block.imp.bandDone = none) (hb : s.block.imp.bands = p :: ps) : Happens .impedanceBandEnd s [.imp] fun b =>
      b.imp.bandDone = some s.block.bandResult ∧ s.block.bandResult.last = false ∧ b.imp.x = 0 ∧ b.imp.lfsr = 0xFFF ∧ b.imp.band = p ∧ b.imp.bands = ps ∧ b.imp.nPeriod = 0
      ∧ b.imp.perAt = multipleFrom (rateTicks s.block.sense.rate) (s.block.imp.perAt + 100 * usT) ∧ b.imp.chipAt = b.imp.perAt := by
  have hne : ¬s.block.imp.bands = [] := by simp [hb]
  have he := (doImpedanceBandEnd_eq hon hst hc hd).trans (congrArg (Block.touch [0x45]) (if_neg hne))
  let z := beginBand (multipleFrom (rateTicks s.block.sense.rate) (s.block.imp.perAt + 100 * usT)) s.block.bandClosed
  have hrun : z.imp.run = _ := beginBand_run (b := s.block.bandClosed) hb
  have hjob : z.imp.jobOf = _ := beginBand_jobOf ..
  simp only [ImpPart.run, Prod.mk.injEq] at hrun
  simp only [ImpPart.jobOf, Prod.mk.injEq] at hjob
  obtain ⟨hband, hps, hper, hlfsr, hx, hperAt, hchipAt, -⟩ := hrun
  obtain ⟨-, -, -, -, -, -, -, -, -, hdone⟩ := hjob
  refine happens_plain (f := doImpedanceBandEnd) rfl (by simp [he]) (by simp [he]) ?_
  rw [irqWatch_imp, he, Block.touch_imp]
  exact ⟨hdone, decide_eq_false hne, hx, hlfsr, hband, hps, hper, hperAt, hchipAt.trans hperAt.symm⟩

theorem impedanceBandEnd_waits (hc : s.block.bandComplete = false) : Happens .impedanceBandEnd s [] fun _ => True :=
  happens_nothing (f := doImpedanceBandEnd) rfl (if_pos (.inr (.inl hc)))

end
end Sys2Proof.Machine

namespace Sys2Proof.Machine

/-! ### IDENT_HANDOVER (R189, R199, R223) -/

section
variable {s : State} {b : Block} {r : BandDone}

@[simp] theorem handPoints_sys (r : BandDone) (b : Block) : (handPoints r b).sys = b.sys := rfl
@[simp] theorem handPoints_imp (r : BandDone) (b : Block) : (handPoints r b).imp = b.imp := rfl
@[simp] theorem touches_handPoints {l : List PartName} (hl : .cnv ∈ l) (o b : Block) (r : BandDone) : o.touches (handPoints r b) l ↔ o.touches b l := touches_onCnv hl ..

theorem handPoints_settled (r : BandDone) (b : Block) : (handPoints r b).settled = b.settled := settled_of_keys rfl rfl rfl rfl rfl rfl rfl rfl

/-- A slot of the band, of 20 Hz or more, gets its tracking ratio. -/
theorem handPoints_track_slot {k : Nat} (hlen : b.cnv.trackJob = r.job → b.cnv.track.length = 8) (hk : k < 8) (hs : k ∈ b.imp.jobSet.slotsOf r.p)
    (hi : identSlot (b.imp.jobSet.reqs.getD k 0) = true) : ∃ v ∈ (handPoints r b).cnv.track[k]?, v.isSome = true := by
  have hl : k < (if b.cnv.trackJob = r.job then b.cnv.track else List.replicate 8 none).length := by
    split
    · next h => rwa [hlen h]
    · simpa using hk
  refine ⟨_, List.getElem?_mapIdx.trans (by rw [List.getElem?_eq_getElem hl]; rfl), ?_⟩
  dsimp only
  rw [if_pos hs, if_pos hi]
  rfl

/-- Other slots keep what the same job has handed over. -/
theorem handPoints_track_other {k : Nat} (hs : k ∉ b.imp.jobSet.slotsOf r.p) (hj : b.cnv.trackJob = r.job) : (handPoints r b).cnv.track[k]? = b.cnv.track[k]? := by
  simp [handPoints, List.getElem?_mapIdx, hs, hj]

theorem handPoints_phases (r : BandDone) (b : Block) : ∀ x ∈ List.zip b.cnv.phases (handPoints r b).cnv.phases,
    if x.1.st = .unconfigured then x.2 = x.1 else x.2.identJob = r.job ∧ x.2.identV = r.link ∧ x.2.st = x.1.st ∧ x.2.comp = x.1.comp := fun x hx => by
  obtain ⟨k, hk⟩ := snd_of_mem_zip_mapIdx hx
  rw [hk]
  split
  · rfl
  · exact ⟨rfl, rfl, rfl, rfl⟩

theorem identHandover_ends (hd : s.block.imp.bandDone = some r) (hw : r.written = true) (hh : r.handOver = false) (hr : r.retune = false) :
    Happens .identHandover s [.sys, .imp] fun b => b.imp = { s.block.imp with bandDone := none } ∧ b.sys.now = max s.block.sys.now (r.endAt + 6 * msT) := by
  have he : doIdentHandover s.block = (s.block.at (r.endAt + 6 * msT)).onImp fun i => { i with bandDone := none } := by simp [doIdentHandover, hd, hw, hh, hr]
  exact happens_plain (f := doIdentHandover) rfl (by simp [he]) (by simp [he, Block.at]) (by simp [he, Block.at])

theorem identHandover_hands (hd : s.block.imp.bandDone = some r) (hw : r.written = true) (hh : r.handOver = true) (hr : r.retune = false)
    (hlen : s.block.cnv.trackJob = r.job → s.block.cnv.track.length = 8) : Happens .identHandover s [.sys, .imp, .cnv] fun b =>
      b.imp = { s.block.imp with bandDone := none } ∧ b.cnv.trackJob = r.job ∧ b.cnv.st = s.block.cnv.st
      ∧ (∀ k ∈ List.range 8, (k ∈ s.block.imp.jobSet.slotsOf r.p ∧ identSlot (s.block.imp.jobSet.reqs.getD k 0) = true → ∃ v ∈ b.cnv.track[k]?, v.isSome = true)
          ∧ (k ∉ s.block.imp.jobSet.slotsOf r.p → s.block.cnv.trackJob = r.job → b.cnv.track[k]? = s.block.cnv.track[k]?))
      ∧ ∀ x ∈ List.zip s.block.cnv.phases b.cnv.phases, if x.1.st = .unconfigured then x.2 = x.1 else x.2.identJob = r.job ∧ x.2.identV = r.link ∧ x.2.st = x.1.st ∧ x.2.comp = x.1.comp := by
  let y := (s.block.at (r.endAt + 6 * msT)).onImp fun i => { i with bandDone := none }
  have he : doIdentHandover s.block = (handPoints r y).touch ([0x330] ++ (List.range 16).map (0x320 + ·)) := by simp [doIdentHandover, hd, hw, hh, hr, y]
  have hcnv : (irqWatch s.block (doIdentHandover s.block)).cnv = (handPoints r y).cnv := by rw [irqWatch_cnv, he, Block.touch_cnv]
  refine happens_touching (f := doIdentHandover) rfl (by simp [he, y]) (fun h => ?_) ?_
  · rw [he, touch_settled, handPoints_settled]
    exact (settled_of_touches (l := [.sys, .imp]) (by simp [y]) (by simp [y, Block.at]) (by decide)).trans h
  · rw [hcnv]
    exact ⟨by simp [he, y], rfl, rfl, fun k hk => ⟨fun ⟨hs, hi⟩ => handPoints_track_slot (b := y) hlen (List.mem_range.mp hk) hs hi,
      fun hs hj => handPoints_track_other (b := y) hs hj⟩, handPoints_phases r y⟩

end
end Sys2Proof.Machine

namespace Sys2Proof.Machine

/-! ### IMP_PERIODIC_DUE and IMP_DISABLE_DONE (R190, R191; log entry 25) -/

section
variable {s : State} {b : Block} {t j i q : Nat}

theorem impPeriodicDue_skips (hn : s.block.imp.nextDue = some t) (hno : 0 < s.block.imp.queue ∨ s.block.impOk = false) : Happens .impPeriodicDue s [.sys, .imp] fun b =>
    b.sys.now = max s.block.sys.now t ∧ b.imp = { s.block.imp with nextDue := some (t + s.block.imp.interval * secT) } := by
  let y := (s.block.at t).onImp fun i => { i with nextDue := some (t + i.interval * secT) }
  have he : doImpPeriodicDue s.block = note .impSkip noArg [] y := by
    rw [doImpPeriodicDue, hn]
    exact if_pos (or_assoc.mp (.inl hno))
  exact happens_plain (f := doImpPeriodicDue) rfl (by simp [he, y]) (by simp) (by simp [he, y, Block.at])

theorem impPeriodicDue_queues (hn : s.block.imp.nextDue = some t) (hq : s.block.imp.queue = 0) (hok : s.block.impOk = true)
    (hb : s.block.imp.set.bands s.block.sense.rate ≠ []) : Happens .impPeriodicDue s [.sys, .imp] fun b =>
      b.sys.now = max s.block.sys.now t ∧ b.imp.waiting = [s.block.imp.nextJob] ∧ b.imp.nextJob = s.block.imp.nextJob + 1
      ∧ b.imp.nextDue = some (t + s.block.imp.interval * secT) ∧ b.imp.dueAt = b.sys.now := by
  let y := (s.block.at t).onImp fun i => { i with nextDue := some (t + i.interval * secT) }
  have he : doImpPeriodicDue s.block = queueJob y := by
    rw [doImpPeriodicDue, hn]
    exact if_neg (by simp [hq, hok, hb])
  have hw : s.block.imp.waiting = [] := List.eq_nil_of_length_eq_zero (Nat.eq_zero_of_add_eq_zero_left hq)
  have hqy : y.imp.queue = 0 := hq
  refine happens_plain (f := doImpPeriodicDue) rfl (by simp [he, y]) (by simp) ?_
  rw [irqWatch_imp, irqWatch_sys, he, queueJob_imp, queueJob_sys]
  exact ⟨rfl, congrArg (· ++ [s.block.imp.nextJob]) hw, rfl, rfl, if_pos hqy⟩

/-- The end of R191, when nothing but the impedance part has changed before the command completes. -/
theorem impDisableDone_answers {x : Block} {P : ImpPart → Prop} (hd : s.block.imp.disabling = some (.session i q)) (hq : (s.block.entry? i q).isSome = true)
    (hx : s.block.touches x [.imp]) (he : finishDisable s.block = (complete (.session i q) .ok [] x).touch impTiles) (hP : P x.imp) :
    Happens .impDisableDone s [.imp, .ix, .pwr] fun b => P b.imp ∧ b.answered (.session i q) .ok [] := by
  have hf : doImpDisableDone s.block = (complete (.session i q) .ok [] x).touch impTiles := by
    rw [doImpDisableDone, if_pos (by simp [hd]), he]
  refine happens_touching (f := doImpDisableDone) rfl ?_ (fun h => ?_) ⟨?_, ?_⟩
  · rw [hf, touches_touch, touches_complete_session (by decide) (by decide)]
    exact hx.mono (by decide)
  · rw [hf, touch_settled, complete_settled]
    exact (settled_of_touches hx (congrArg SysPart.mstate (hx .sys (by decide) (by decide))) (by decide)).trans h
  · rw [irqWatch_imp, hf, Block.touch_imp, complete_imp]
    exact hP
  · rw [hf]
    exact answered_irqWatch (answered_touch (answered_complete_held (hx .ix (by decide) (by decide)) hq))

/-- A job without a band to be written, and in none of whose bands a period has ended, ends with ABORTED. -/
theorem finishDisable_running {src : Src} (hd : b.imp.disabling = some src) (hj : b.imp.job = some j) (hb : b.imp.bandDone = none) (hp : b.imp.nPeriod = 0) :
    finishDisable b = (complete src .ok [] (endJob .aborted b).impDisabled).touch impTiles := by
  have hw : doBandResultsWritten b = b := by rw [doBandResultsWritten, hb]
  simp only [finishDisable, hj, hw, hd, hp]
  rfl

theorem impDisableDone_aborts (hd : s.block.imp.disabling = some (.session i q)) (hj : s.block.imp.job = some j) (hb : s.block.imp.bandDone = none)
    (hp : s.block.imp.nPeriod = 0) (hw : s.block.imp.waiting = []) (hq : (s.block.entry? i q).isSome = true) : Happens .impDisableDone s [.imp, .ix, .pwr] fun b =>
      b.imp.job = none ∧ b.imp.lastJob = j ∧ b.imp.lastStat = Status.aborted.code ∧ b.imp.state = .disabled ∧ b.imp.x = 0 ∧ b.imp.disabling = none ∧ b.imp.cells = s.block.imp.cells
      ∧ b.answered (.session i q) .ok [] := by
  let y := endJob .aborted s.block
  obtain ⟨hjob, hlast, hstat, -, -, hwait, hcells, -⟩ := endJob_imp (st := .aborted) hj
  have hy : y.impDisabled.imp = { y.imp with state := .disabled, disabling := none, x := 0 } := by
    rw [Block.impDisabled, abortWaiting_of_nil (hwait.trans hw)]
    rfl
  refine (impDisableDone_answers (P := fun n => n.job = none ∧ n.lastJob = j ∧ n.lastStat = Status.aborted.code ∧ n.state = .disabled ∧ n.x = 0 ∧ n.disabling = none
    ∧ n.cells = s.block.imp.cells) hd hq (by simp) (finishDisable_running hd hj hb hp) ?_).mono fun b h => by simpa only [and_assoc] using h
  rw [hy]
  exact ⟨hjob, hlast, hstat, rfl, rfl, rfl, hcells⟩

theorem impDisableDone_clears (hd : s.block.imp.disabling = some (.session i q)) (hj : s.block.imp.job = none) (hq : (s.block.entry? i q).isSome = true) :
    Happens .impDisableDone s [.imp, .ix, .pwr] fun b => b.imp.waiting = [] ∧ b.imp.state = .disabled ∧ b.imp.x = 0 ∧ b.answered (.session i q) .ok [] := by
  obtain ⟨hrest, hwait⟩ := impDisabled_imp s.block
  exact (impDisableDone_answers (P := fun n => n.waiting = [] ∧ n.state = .disabled ∧ n.x = 0) hd hq (by simp) (finishDisable_idle hj hd)
    ⟨hwait, congrArg ImpPart.state hrest, congrArg ImpPart.x hrest⟩).mono fun b h => by simpa only [and_assoc] using h

end

/-- Settles O20: each command's clause by its own lemma above. -/
theorem impedanceJobsExciteAndMeasure : Obligations.ImpedanceJobsExciteAndMeasure := by
  unfold Obligations.ImpedanceJobsExciteAndMeasure
  exact ⟨fun _ _ _ _ _ => impJobBegin_begins, fun _ => impJobBegin_waits, fun _ => excitationChip_steps, fun _ _ => excitationChip_stops,
    fun _ => impedancePeriodEnd_ends, fun _ => impedanceBandEnd_last, fun _ _ _ => impedanceBandEnd_next, fun _ => impedanceBandEnd_waits,
    fun _ _ => identHandover_ends, fun _ _ => identHandover_hands, fun _ _ => impPeriodicDue_skips, fun _ _ => impPeriodicDue_queues,
    fun _ _ _ _ => impDisableDone_aborts, fun _ _ _ => impDisableDone_clears⟩

end Sys2Proof.Machine

namespace Sys2Proof.Machine

/-! ### The entries of the map that a band writes (R188, R192; log entry 6) -/

section
variable {slots : List Nat} {r : BandDone} {nPer c j k : Nat} {a : ImpAcc} {m : ImpCell}

/-- What every step keeps and one step of a fold establishes, which no other step breaks, holds at its end. -/
theorem foldl_establishes {α β : Type} {Inv P : β → Prop} {f : β → α → β} {x : α} {l : List α} (hx : x ∈ l) (hinv : ∀ b y, Inv b → Inv (f b y))
    (hset : ∀ b, Inv b → P (f b x)) (hkeep : ∀ b, ∀ y ∈ l, y ≠ x → P b → P (f b y)) {b : β} (hb : Inv b) : P (l.foldl f b) := by
  induction l generalizing b with
  | nil => cases hx
  | cons y l ih =>
    rw [List.foldl_cons]
    by_cases hl : x ∈ l
    · exact ih hl (fun b z hz => hkeep b z (List.mem_cons_of_mem _ hz)) (hinv _ _ hb)
    · obtain rfl : x = y := (List.mem_cons.mp hx).resolve_right hl
      exact List.foldlRecOn l f (hset b hb) fun b hP z hz => hkeep b z (List.mem_cons_of_mem _ hz) (ne_of_mem_of_not_mem hz hl) hP

/-- A bit that is set, taken away. -/
theorem testBit_sub_two_pow {x s : Nat} (h : x.testBit s = true) (k : Nat) : (x - 2 ^ s).testBit k = (x.testBit k && decide (k ≠ s)) := by
  have hl : x % 2 ^ s < 2 ^ s := Nat.mod_lt _ (Nat.two_pow_pos s)
  have hodd : x / 2 ^ s % 2 = 1 := by simpa [Nat.testBit_eq_decide_div_mod_eq] using h
  have hx : x = 2 ^ s * (2 * (x / 2 ^ s / 2) + 1) + x % 2 ^ s := by
    rw [show 2 * (x / 2 ^ s / 2) + 1 = x / 2 ^ s by omega, Nat.div_add_mod]
  have hy : x - 2 ^ s = 2 ^ s * (2 * (x / 2 ^ s / 2)) + x % 2 ^ s := by
    rw [Nat.mul_add] at hx
    omega
  generalize x / 2 ^ s / 2 = q at hx hy
  generalize x % 2 ^ s = y at *
  rw [hy, hx, Nat.testBit_two_pow_mul_add _ hl, Nat.testBit_two_pow_mul_add _ hl]
  rcases Nat.lt_trichotomy k s with hk | rfl | hk
  · simp [hk, hk.ne]
  · simp
  · obtain ⟨d, rfl⟩ : ∃ d, k = s + (d + 1) := ⟨k - s - 1, by omega⟩
    have hdiv : (2 * q + 1) / 2 = 2 * q / 2 := by omega
    simp [Nat.testBit_add_one, hdiv]

/-- The value, UPD and LOW of a slot (R192). -/
def ImpCell.entry (k : Nat) (m : ImpCell) : Option Cpx × Bool × Bool := (m.z.getD k none, m.upd.testBit k, m.low.testBit k)

/-- The cell with the entry of slot `s` written from `v` valid periods. -/
def ImpCell.withEntry (s job v nPer : Nat) (z : Cpx) (m : ImpCell) : ImpCell := { m with
  z := m.z.set s (some z)
  job := job
  upd := m.upd.lor (2 ^ s)
  low := if v < nPer then m.low.lor (2 ^ s) else m.low - (if m.low.testBit s then 2 ^ s else 0) }

theorem withEntry_low (s job v nPer : Nat) (z : Cpx) (m : ImpCell) (k : Nat) :
    (m.withEntry s job v nPer z).low.testBit k = if k = s then decide (v < nPer) else m.low.testBit k := by
  unfold ImpCell.withEntry
  dsimp only
  by_cases hv : v < nPer
  · rw [if_pos hv, Nat.lor_eq, Nat.testBit_or, Nat.testBit_two_pow]
    split <;> simp_all [eq_comm]
  · rw [if_neg hv]
    by_cases hs : m.low.testBit s = true
    · rw [if_pos hs, testBit_sub_two_pow hs]
      split <;> simp_all
    · rw [if_neg hs, Nat.sub_zero]
      split <;> simp_all

theorem withEntry_entry_self {s job v : Nat} {z : Cpx} (h : s < m.z.length) : (m.withEntry s job v nPer z).entry s = (some z, true, decide (v < nPer)) := by
  rw [ImpCell.entry, withEntry_low, if_pos rfl]
  simp [ImpCell.withEntry, h, List.getD_eq_getElem?_getD]

theorem withEntry_entry_ne {s job v : Nat} {z : Cpx} (h : k ≠ s) : (m.withEntry s job v nPer z).entry k = m.entry k := by
  rw [ImpCell.entry, withEntry_low, if_neg h]
  simp [ImpCell.withEntry, ImpCell.entry, h.symm, List.getD_eq_getElem?_getD]

/-- Z of the slot at place `j` of a band, in µΩ (R188). -/
def bandZ (a : ImpAcc) (j : Nat) : Cpx :=
  Cpx.ofFz ((zDiv (a.sumV.getD j Cpx.zero).fz (a.sumI.getD j Cpx.zero).fz).1 * 1000000 / 2048, (zDiv (a.sumV.getD j Cpx.zero).fz (a.sumI.getD j Cpx.zero).fz).2 * 1000000 / 2048)

/-- The slot at place `j` of a band is written when half of NPER periods or more were valid (R188). -/
def writeSlot (slots : List Nat) (r : BandDone) (nPer : Nat) (a : ImpAcc) (m : ImpCell) (j : Nat) : ImpCell :=
  if 2 * a.valid.getD j 0 < nPer ∨ a.valid.getD j 0 = 0 then m else m.withEntry (slots.getD j 0) r.job (a.valid.getD j 0) nPer (bandZ a j)

/-- The entries of a cell are written slot after slot; before that only UPD may change. -/
theorem writeEntries_eq (slots : List Nat) (r : BandDone) (nPer c : Nat) (m : ImpCell) : ∃ m0 : ImpCell, m0.z = m.z
    ∧ writeEntries slots r nPer c m = (List.range slots.length).foldl (writeSlot slots r nPer (r.cells.getD c (ImpAcc.empty slots.length))) m0 := by
  refine ⟨_, ?_, rfl⟩
  split
  · split <;> rfl
  · rfl

theorem writeSlot_z_length : (writeSlot slots r nPer a m j).z.length = m.z.length := by
  unfold writeSlot
  split
  · rfl
  · exact List.length_set

theorem writeSlot_entry_ne (h : k ≠ slots.getD j 0) : (writeSlot slots r nPer a m j).entry k = m.entry k := by
  unfold writeSlot
  split
  · rfl
  · exact withEntry_entry_ne h

theorem writeSlot_job (h : m.job = r.job) : (writeSlot slots r nPer a m j).job = r.job := by
  unfold writeSlot
  split
  · exact h
  · rfl

theorem getD_ne_of_nodup (hn : slots.Nodup) (hj : j < slots.length) (hk : k < slots.length) (h : k ≠ j) : slots.getD j 0 ≠ slots.getD k 0 := fun he => by
  rw [List.getD_eq_getElem _ _ hj, List.getD_eq_getElem _ _ hk, hn.getElem_inj_iff] at he
  exact h he.symm

theorem writeEntries_z_other (h : k ∉ slots) : (writeEntries slots r nPer c m).z.getD k none = m.z.getD k none := by
  obtain ⟨m0, h0, he⟩ := writeEntries_eq slots r nPer c m
  rw [he, ← h0]
  refine List.foldlRecOn (motive := fun x : ImpCell => x.z.getD k none = m0.z.getD k none) _ _ rfl fun x hx j hj => ?_
  have hk : k ≠ slots.getD j 0 := fun hk => h (hk ▸ mem_of_getD (List.mem_range.mp hj))
  exact (congrArg Prod.fst (writeSlot_entry_ne hk)).trans hx

theorem writeEntries_z_few (hn : slots.Nodup) (hj : j < slots.length) (hv : 2 * (r.cells.getD c (ImpAcc.empty slots.length)).valid.getD j 0 < nPer) :
    (writeEntries slots r nPer c m).z.getD (slots.getD j 0) none = m.z.getD (slots.getD j 0) none := by
  obtain ⟨m0, h0, he⟩ := writeEntries_eq slots r nPer c m
  rw [he, ← h0]
  refine List.foldlRecOn (motive := fun x : ImpCell => x.z.getD (slots.getD j 0) none = m0.z.getD (slots.getD j 0) none) _ _ rfl fun x hx k hk => ?_
  by_cases hjk : k = j
  · rw [hjk, writeSlot, if_pos (.inl hv)]
    exact hx
  · exact (congrArg Prod.fst (writeSlot_entry_ne (getD_ne_of_nodup hn hj (List.mem_range.mp hk) hjk))).trans hx

/-- With half of NPER periods or more valid the entry is written; LOW tells that there were fewer than NPER. -/
theorem writeEntries_written (hn : slots.Nodup) (hj : j < slots.length) (hs : slots.getD j 0 < m.z.length) (ha : r.cells.getD c (ImpAcc.empty slots.length) = a)
    (hv : nPer ≤ 2 * a.valid.getD j 0) (hpos : 0 < a.valid.getD j 0) : (writeEntries slots r nPer c m).job = r.job
      ∧ (writeEntries slots r nPer c m).entry (slots.getD j 0) = (some (bandZ a j), true, decide (a.valid.getD j 0 < nPer)) := by
  obtain ⟨m0, h0, he⟩ := writeEntries_eq slots r nPer c m
  rw [he, ha]
  refine foldl_establishes (Inv := fun x : ImpCell => x.z.length = m.z.length)
    (P := fun x : ImpCell => x.job = r.job ∧ x.entry (slots.getD j 0) = (some (bandZ a j), true, decide (a.valid.getD j 0 < nPer)))
    (List.mem_range.mpr hj) (fun x k hx => writeSlot_z_length.trans hx) (fun x hx => ?_) (fun x k hk hjk hx => ?_) (congrArg List.length h0)
  · rw [writeSlot, if_neg (by omega)]
    exact ⟨rfl, withEntry_entry_self (hx ▸ hs)⟩
  · exact ⟨writeSlot_job hx.1, (writeSlot_entry_ne (getD_ne_of_nodup hn hj (List.mem_range.mp hk) hjk)).trans hx.2⟩

end
end Sys2Proof.Machine

namespace Sys2Proof.Machine

/-! ### BAND_RESULTS_WRITTEN (R188, R189, R192; log entries 6 and 24) -/

section
variable {s : State} {b : Block} {r : BandDone} {c j k : Nat} {m : ImpCell}

/-- What the map holds of a cell. -/
def ImpCell.mapped (m : ImpCell) : List (Option Cpx) × Nat × Nat × Nat := (m.z, m.job, m.upd, m.low)

theorem mapped_ite {p : Prop} [Decidable p] {x y : ImpCell × Bool} (hx : x.1.mapped = m.mapped) (hy : y.1.mapped = m.mapped) :
    (if p then x else y).1.mapped = m.mapped := by
  split
  · exact hx
  · exact hy

theorem mapped_inj {n : ImpCell} : m.mapped = n.mapped ↔ m.z = n.z ∧ m.job = n.job ∧ m.upd = n.upd ∧ m.low = n.low := by simp [ImpCell.mapped]

/-- Temperatures leave the map. -/
theorem fitTemp_mapped (b : Block) (slots : List Nat) (r : BandDone) (c : Nat) (m : ImpCell) : (fitTemp b slots r c m).1.mapped = m.mapped := by
  unfold fitTemp
  split
  · rfl
  · split
    · rfl
    · split
      · rfl
      · dsimp only
        split
        · exact mapped_ite rfl rfl
        · rfl

/-- The impedance part but for what a band's results change: the cells, the line amplitudes, DONE. -/
def ImpPart.unwritten (i : ImpPart) : ImpPart := { i with cells := [], iLine := [], done := 0 }

theorem healthEvents_unwritten (c : Nat) (b : Block) : (healthEvents c b).imp.unwritten = b.imp.unwritten := by
  unfold healthEvents
  extract_lets m i o g1 o1 b1 b2
  have h1 : b1.imp = b.imp := by simp [b1, apply_ite Block.imp]
  have h2 : b2.imp = b1.imp := by simp [b2, apply_ite Block.imp]
  rw [← h1, ← h2]
  rfl

@[simp] theorem healthEvents_sys (c : Nat) (b : Block) : (healthEvents c b).sys = b.sys := by simp [healthEvents, apply_ite Block.sys]
@[simp] theorem touches_healthEvents {l : List PartName} (hl : .imp ∈ l) (o b : Block) (c : Nat) : o.touches (healthEvents c b) l ↔ o.touches b l := by
  simp [healthEvents, hl]

/-- What every part of the work on a band keeps, the whole keeps. -/
theorem writeBand_keeps {α : Type} {P : Block → α} (himp : ∀ (b : Block) cells lines done, P (b.onImp fun i => { i with cells := cells, iLine := lines, done := done }) = P b)
    (hnote : ∀ e a d b, P (note e a d b) = P b) (hhealth : ∀ c b, P (healthEvents c b) = P b) (htouch : ∀ (b : Block) ts, P (b.touch ts) = P b) (r : BandDone) (b : Block) :
    P (writeBand r b) = P b := by
  unfold writeBand
  extract_lets x slots h b1 done fits learned b2 b3 meds b5 b4
  have h1 : P b1 = P b := himp b _ _ b.imp.done
  have h2 : P b2 = P b1 := himp b1 _ b1.imp.iLine _
  have h3 : P b3 = P b2 := by
    unfold b3
    split
    · exact hnote ..
    · rfl
  have h4 : P b4 = P b3 := by
    unfold b4
    split
    · exact (foldl_keeps P _ (fun b c => hhealth c b) _ _).trans (himp b3 _ b3.imp.iLine b3.imp.done)
    · rfl
  rw [htouch, h4, h3, h2, h1]

theorem writeBand_unwritten (r : BandDone) (b : Block) : (writeBand r b).imp.unwritten = b.imp.unwritten :=
  writeBand_keeps (P := fun b => b.imp.unwritten) (fun _ _ _ _ => rfl) (fun _ _ _ _ => by rw [note_imp]) healthEvents_unwritten (fun _ _ => rfl) r b

@[simp] theorem writeBand_sys (r : BandDone) (b : Block) : (writeBand r b).sys = b.sys :=
  writeBand_keeps (P := Block.sys) (fun _ _ _ _ => rfl) (fun _ _ _ _ => note_sys ..) healthEvents_sys (fun _ _ => rfl) r b

@[simp] theorem touches_writeBand {l : List PartName} (hl : .imp ∈ l) (o : Block) (r : BandDone) (b : Block) : o.touches (writeBand r b) l ↔ o.touches b l :=
  iff_of_eq (writeBand_keeps (P := fun b => o.touches b l) (fun b _ _ _ => propext (touches_onImp hl o b _)) (fun _ _ _ _ => propext (touches_note ..))
    (fun _ _ => propext (touches_healthEvents hl ..)) (fun _ _ => propext (touches_touch ..)) r b)

/-- When the band does not hold HSLOT, each fitted cell's map gets the band's entries, and nothing else of the map changes. -/
theorem writeBand_mapped (h : b.imp.hslot ∉ b.imp.jobSet.slotsOf r.p) (hc : c < b.imp.cells.length) : ((writeBand r b).impCell c).mapped =
    if c < b.nCell then (writeEntries (b.imp.jobSet.slotsOf r.p) r b.imp.jobSet.nPer c (b.impCell c)).mapped else (b.impCell c).mapped := by
  unfold writeBand
  extract_lets x slots hs b1 done fits learned b2 b3 meds b5 b4
  have h4 : b4 = b3 := if_neg (by simpa [hs, slots, x] using h)
  have h3 : b3.imp = b2.imp := by simp [b3, apply_ite Block.imp]
  have h1 : b1.impCell c = if c < b.nCell then writeEntries slots r x.nPer c (b.impCell c) else b.impCell c := getD_mapIdx hc
  have h2 : b2.impCell c = (fits.getD c (b1.impCell c, false)).1 := getD_mapIdx (by simpa [b1] using hc)
  rw [impCell_of_imp (Block.touch_imp ..), h4, impCell_of_imp h3, h2]
  by_cases hn : c < b.nCell
  · rw [if_pos hn, show fits.getD c (b1.impCell c, false) = fitTemp b1 slots r c (b1.impCell c) by simp [fits, List.getD_eq_getElem?_getD, hn], fitTemp_mapped, h1, if_pos hn]
  · rw [if_neg hn, show fits.getD c (b1.impCell c, false) = (b1.impCell c, false) by simp [fits, List.getD_eq_getElem?_getD, hn], h1, if_neg hn]

/-- The block after a band's results are written, but for the end of the job (R189). -/
def Block.bandEntered (r : BandDone) (b : Block) : Block :=
  (writeBand r (b.at (r.endAt + 5 * msT))).onImp fun i => { i with bandDone := some { r with written := true, cells := [] } }

theorem bandEntered_sys (r : BandDone) (b : Block) : (b.bandEntered r).sys = { b.sys with now := max b.sys.now (r.endAt + 5 * msT) } := by
  rw [Block.bandEntered, Block.onImp_sys, writeBand_sys]
  rfl

theorem touches_bandEntered (r : BandDone) (b : Block) : b.touches (b.bandEntered r) [.sys, .imp] := by
  rw [Block.bandEntered, touches_onImp (by decide), touches_writeBand (by decide), touches_at (by decide)]
  exact touches_refl b _

theorem at_impCell (t : Nat) (b : Block) (c : Nat) : (b.at t).impCell c = b.impCell c := rfl
theorem at_nCell (t : Nat) (b : Block) : (b.at t).nCell = b.nCell := rfl
theorem impCell_onImp_bandDone (b : Block) (d : Option BandDone) (c : Nat) : (b.onImp fun i => { i with bandDone := d }).impCell c = b.impCell c := rfl

theorem bandEntered_impCell (r : BandDone) (b : Block) (c : Nat) : (b.bandEntered r).impCell c = (writeBand r (b.at (r.endAt + 5 * msT))).impCell c :=
  impCell_onImp_bandDone ..

/-- What else of the impedance part is read after a change of the map stands as before. -/
theorem keeps_of_unwritten {i n : ImpPart} (h : n.unwritten = i.unwritten) : n.job = i.job ∧ n.state = i.state ∧ n.en = i.en :=
  ⟨(congrArg ImpPart.job h :), (congrArg ImpPart.state h :), (congrArg ImpPart.en h :)⟩

theorem onImp_bandDone_keeps {i : ImpPart} {y : Block} {d : Option BandDone} (h : y.imp.unwritten = i.unwritten) : (y.onImp fun n => { n with bandDone := d }).imp.bandDone = d
    ∧ (y.onImp fun n => { n with bandDone := d }).imp.job = i.job ∧ (y.onImp fun n => { n with bandDone := d }).imp.state = i.state
    ∧ (y.onImp fun n => { n with bandDone := d }).imp.en = i.en := by
  obtain ⟨hjob, hstate, hen⟩ := keeps_of_unwritten h
  exact ⟨rfl, hjob, hstate, hen⟩

theorem bandEntered_imp (r : BandDone) (b : Block) : (b.bandEntered r).imp.bandDone = some { r with written := true, cells := [] }
    ∧ (b.bandEntered r).imp.job = b.imp.job ∧ (b.bandEntered r).imp.state = b.imp.state ∧ (b.bandEntered r).imp.en = b.imp.en := by
  have h := writeBand_unwritten r (b.at (r.endAt + 5 * msT))
  rw [Block.at_imp] at h
  rw [Block.bandEntered]
  exact onImp_bandDone_keeps h

theorem doBandResultsWritten_eq (hd : b.imp.bandDone = some r) (hw : r.written = false) (hj : b.imp.job = some r.job) : doBandResultsWritten b =
    if r.last = true then (endJob .ok (keepOk r.job (b.bandEntered r))).onImp fun i => { i with bandDone := some { r with written := true, cells := [] } } else b.bandEntered r := by
  rw [doBandResultsWritten, hd]
  exact if_neg (by simp [hw, hj])

theorem slotsOf_nodup (x : ImpSet) (p : Nat) : (x.slotsOf p).Nodup := List.nodup_range.filter _
theorem lt_of_mem_slotsOf {x : ImpSet} {p k : Nat} (h : k ∈ x.slotsOf p) : k < 8 := List.mem_range.mp (List.mem_filter.mp h).1

theorem nCell_le (b : Block) : b.nCell ≤ 512 := by
  unfold Block.nCell Block.nSeg
  split <;> decide

theorem bandResultsWritten_enters (hd : s.block.imp.bandDone = some r) (hw : r.written = false) (hj : s.block.imp.job = some r.job) (hl : r.last = false)
    (hcells : s.block.imp.cells.length = 512) (hz : ∀ m ∈ s.block.imp.cells, m.z.length = 8) (hh : s.block.imp.hslot ∉ s.block.imp.jobSet.slotsOf r.p) :
    Happens .bandResultsWritten s [.sys, .imp] fun b =>
      b.sys.now = max s.block.sys.now (r.endAt + 5 * msT) ∧ b.imp.bandDone = some { r with written := true, cells := [] } ∧ b.imp.job = s.block.imp.job ∧ b.imp.state = s.block.imp.state
      ∧ (∀ c < 512, ∀ k < 8, k ∉ s.block.imp.jobSet.slotsOf r.p ∨ s.block.nCell ≤ c → (b.impCell c).z.getD k none = (s.block.impCell c).z.getD k none)
      ∧ (∀ c < s.block.nCell, ∀ j < (s.block.imp.jobSet.slotsOf r.p).length, 2 * ((r.cells.getD c (ImpAcc.empty (s.block.imp.jobSet.slotsOf r.p).length)).valid.getD j 0) < s.block.imp.jobSet.nPer →
          (b.impCell c).z.getD ((s.block.imp.jobSet.slotsOf r.p).getD j 0) none = (s.block.impCell c).z.getD ((s.block.imp.jobSet.slotsOf r.p).getD j 0) none)
      ∧ ∀ c < s.block.nCell, ∀ a ∈ r.cells[c]?, ∀ j < (s.block.imp.jobSet.slotsOf r.p).length, s.block.imp.jobSet.nPer ≤ 2 * a.valid.getD j 0 → 0 < a.valid.getD j 0 →
          (b.impCell c).job = r.job ∧ (b.impCell c).upd.testBit ((s.block.imp.jobSet.slotsOf r.p).getD j 0) = true
          ∧ (b.impCell c).low.testBit ((s.block.imp.jobSet.slotsOf r.p).getD j 0) = decide (a.valid.getD j 0 < s.block.imp.jobSet.nPer)
          ∧ (b.impCell c).z.getD ((s.block.imp.jobSet.slotsOf r.p).getD j 0) none
            = some (Cpx.ofFz ((zDiv (a.sumV.getD j Cpx.zero).fz (a.sumI.getD j Cpx.zero).fz).1 * 1000000 / 2048, (zDiv (a.sumV.getD j Cpx.zero).fz (a.sumI.getD j Cpx.zero).fz).2 * 1000000 / 2048)) := by
  have he : doBandResultsWritten s.block = s.block.bandEntered r := (doBandResultsWritten_eq hd hw hj).trans (if_neg (by simp [hl]))
  obtain ⟨hdone, hjob, hstate, -⟩ := bandEntered_imp r s.block
  have hn := slotsOf_nodup s.block.imp.jobSet r.p
  have hfit (c : Nat) (hc : c < s.block.nCell) : c < s.block.imp.cells.length := by
    have := nCell_le s.block
    omega
  have hmap (c : Nat) (hc : c < s.block.imp.cells.length) : ((s.block.bandEntered r).impCell c).mapped =
      if c < s.block.nCell then (writeEntries (s.block.imp.jobSet.slotsOf r.p) r s.block.imp.jobSet.nPer c (s.block.impCell c)).mapped else (s.block.impCell c).mapped := by
    have hw := writeBand_mapped (b := s.block.at (r.endAt + 5 * msT)) (r := r) (c := c)
    rw [Block.at_imp, at_nCell, at_impCell] at hw
    rw [bandEntered_impCell]
    exact hw hh hc
  refine happens_plain (f := doBandResultsWritten) rfl (he ▸ touches_bandEntered r s.block) (by rw [he, bandEntered_sys]) ?_
  have hcell (c : Nat) : (irqWatch s.block (doBandResultsWritten s.block)).impCell c = (s.block.bandEntered r).impCell c :=
    impCell_of_imp ((irqWatch_imp ..).trans (congrArg Block.imp he)) c
  simp only [hcell]
  rw [irqWatch_sys, irqWatch_imp, he, bandEntered_sys]
  refine ⟨rfl, hdone, hjob, hstate, fun c hc k _ hk => ?_, fun c hc j hj hv => ?_,
    fun c hc a ha j hj hv hpos => ?_⟩
  · have hm := hmap c (hcells ▸ hc)
    by_cases hcn : c < s.block.nCell
    · rw [if_pos hcn, mapped_inj] at hm
      obtain ⟨hmz, -⟩ := hm
      rw [hmz]
      exact writeEntries_z_other (hk.resolve_right (Nat.not_le.mpr hcn))
    · rw [if_neg hcn, mapped_inj] at hm
      obtain ⟨hmz, -⟩ := hm
      rw [hmz]
  · have hm := hmap c (hfit c hc)
    rw [if_pos hc, mapped_inj] at hm
    obtain ⟨hmz, -⟩ := hm
    rw [hmz]
    exact writeEntries_z_few hn hj hv
  · have hm := hmap c (hfit c hc)
    rw [if_pos hc, mapped_inj] at hm
    obtain ⟨hmz, hmjob, hmupd, hmlow⟩ := hm
    have hslot : (s.block.imp.jobSet.slotsOf r.p).getD j 0 < (s.block.impCell c).z.length := by
      rw [Block.impCell, hz _ (mem_of_getD (hfit c hc))]
      exact lt_of_mem_slotsOf (mem_of_getD hj)
    obtain ⟨hjob, hent⟩ := writeEntries_written hn hj hslot (by rw [List.getD_eq_getElem?_getD, Option.mem_def.mp ha]; rfl) hv hpos
    simp only [ImpCell.entry, Prod.mk.injEq] at hent
    obtain ⟨hentz, hentu, hentl⟩ := hent
    rw [hmz, hmjob, hmupd, hmlow]
    exact ⟨hjob, hentu, hentl, hentz⟩

@[simp] theorem touches_keepOk {l : List PartName} (hl : .imp ∈ l) (o b : Block) (j : Nat) : o.touches (keepOk j b) l ↔ o.touches b l := touches_onImp hl ..
@[simp] theorem keepOk_sys (j : Nat) (b : Block) : (keepOk j b).sys = b.sys := rfl
theorem keepOk_imp (j : Nat) (b : Block) : (keepOk j b).imp.job = b.imp.job ∧ (keepOk j b).imp.state = b.imp.state ∧ (keepOk j b).imp.en = b.imp.en := ⟨rfl, rfl, rfl⟩

/-- The record of the latest job, with the excitation and STATE (R190, R197, R203). -/
def ImpPart.outcome (i : ImpPart) : Option Nat × Nat × Nat × Nat × Option Nat × Int × ImpState := (i.job, i.lastJob, i.lastStat, i.lastOk, i.lastOkAt, i.x, i.state)

theorem onImp_bandDone_outcome (b : Block) (d : Option BandDone) : (b.onImp fun i => { i with bandDone := d }).imp.outcome = b.imp.outcome := rfl

theorem endJob_outcome (h : b.imp.job = some j) :
    (endJob .ok b).imp.outcome = (none, j, 0, j, some b.sys.now, 0, if b.imp.en then .idle else b.imp.state) := by
  obtain ⟨hjob, hlast, hstat, hx, hstate, -, -, hok⟩ := endJob_imp (st := .ok) h
  obtain ⟨hlastOk, hlastOkAt⟩ := hok rfl
  rw [ImpPart.outcome, hjob, hlast, hstat, hlastOk, hlastOkAt, hx, hstate]
  rfl

theorem bandResultsWritten_completes (hd : s.block.imp.bandDone = some r) (hw : r.written = false) (hj : s.block.imp.job = some r.job) (hl : r.last = true) :
    Happens .bandResultsWritten s [.sys, .imp] fun b =>
      b.imp.job = none ∧ b.imp.lastJob = r.job ∧ b.imp.lastStat = 0 ∧ b.imp.lastOk = r.job ∧ b.imp.lastOkAt = some b.sys.now ∧ b.imp.x = 0
      ∧ b.imp.state = (if s.block.imp.en then .idle else s.block.imp.state) := by
  have he := (doBandResultsWritten_eq hd hw hj).trans (if_pos hl)
  obtain ⟨-, hjob, hstate, hen⟩ := bandEntered_imp r s.block
  obtain ⟨hyjob, hystate, hyen⟩ := keepOk_imp r.job (s.block.bandEntered r)
  have hsys : (doBandResultsWritten s.block).sys = { s.block.sys with now := max s.block.sys.now (r.endAt + 5 * msT) } := by
    rw [he, Block.onImp_sys, endJob_sys, keepOk_sys, bandEntered_sys]
  have hout : (doBandResultsWritten s.block).imp.outcome =
      (none, r.job, 0, r.job, some (doBandResultsWritten s.block).sys.now, 0, if s.block.imp.en then .idle else s.block.imp.state) := by
    rw [hsys, he, onImp_bandDone_outcome, endJob_outcome (hyjob.trans (hjob.trans hj)), keepOk_sys, bandEntered_sys, hyen, hystate, hen, hstate]
  simp only [ImpPart.outcome, Prod.mk.injEq] at hout
  refine happens_plain (f := doBandResultsWritten) rfl ?_ (by rw [hsys]) ?_
  · rw [he, touches_onImp (by decide), touches_endJob (by decide), touches_keepOk (by decide)]
    exact touches_bandEntered r s.block
  · rw [irqWatch_sys, irqWatch_imp]
    exact hout

end

/-- Settles O21: a band before the job's last enters the map, the last one ends the job. -/
theorem bandResultsEnterTheMap : Obligations.BandResultsEnterTheMap := by
  unfold Obligations.BandResultsEnterTheMap
  exact ⟨fun _ _ => bandResultsWritten_enters, fun _ _ => bandResultsWritten_completes⟩

end Sys2Proof.Machine

namespace Sys2Proof.Machine

/-! ### Phases of the converter: one changed, the others kept (R213 to R215, R239) -/

/-- The converter with one phase changed. -/
def CnvPart.onPhase (k : Nat) (f : Phase → Phase) (c : CnvPart) : CnvPart := { c with phases := modAt c.phases k f }

/-- The converter but for its phases. -/
def CnvPart.unphased (c : CnvPart) : CnvPart := { c with phases := [] }

/-- What a phase becomes that moves to a state at a count (R214, R215). -/
def Phase.entered (st : PhState) (now : Nat) (p : Phase) : Phase :=
  { p with st := st, activeAll := p.activeAll && decide (st = .active), joinAt := if st = .joining then some now else none }

section
variable {a b o : Block} {c : CnvPart} {k j : Nat} {f g : Phase → Phase} {l : List PartName}

@[simp] theorem onPhase_cnv (k : Nat) (f : Phase → Phase) (b : Block) : (onPhase k f b).cnv = b.cnv.onPhase k f := rfl
@[simp] theorem CnvPart.onPhase_st (k : Nat) (f : Phase → Phase) (c : CnvPart) : (c.onPhase k f).st = c.st := rfl
@[simp] theorem CnvPart.onPhase_set (k : Nat) (f : Phase → Phase) (c : CnvPart) : (c.onPhase k f).set = c.set := rfl
@[simp] theorem CnvPart.onPhase_unphased (k : Nat) (f : Phase → Phase) (c : CnvPart) : (c.onPhase k f).unphased = c.unphased := rfl
@[simp] theorem CnvPart.onPhase_length (k : Nat) (f : Phase → Phase) (c : CnvPart) : (c.onPhase k f).phases.length = c.phases.length := List.length_modify ..

@[simp] theorem CnvPart.onPhase_onPhase (k : Nat) (f g : Phase → Phase) (c : CnvPart) : (c.onPhase k g).onPhase k f = c.onPhase k fun p => f (g p) := by
  simp only [CnvPart.onPhase, modAt, List.modify_modify_eq]
  rfl

@[simp] theorem setPhase_cnv (k : Nat) (st : PhState) (b : Block) : (setPhase k st b).cnv = b.cnv.onPhase k (Phase.entered st b.sys.now) := by
  unfold setPhase
  split
  · next h => rw [CnvPart.onPhase, modAt, List.modify_eq_self (List.getElem?_eq_none_iff.mp h)]
  · dsimp only
    rw [Block.touch_cnv, apply_ite Block.cnv, note_cnv, ite_self]
    rfl

@[simp] theorem touches_onPhase (hl : .cnv ∈ l) (o b : Block) (k : Nat) (f : Phase → Phase) : o.touches (onPhase k f b) l ↔ o.touches b l := touches_onCnv hl ..

/-! #### What a phase is read as -/

theorem phase_of_phases (h : a.cnv.phases = b.cnv.phases) (j : Nat) : a.phase j = b.phase j := by rw [Block.phase, Block.phase, h]

theorem phase_of_cnv (h : a.cnv = b.cnv) (j : Nat) : a.phase j = b.phase j := by rw [Block.phase, Block.phase, h]

theorem phase_onPhase_self (h : a.cnv = b.cnv.onPhase k f) (hk : k < b.cnv.phases.length) : a.phase k = f (b.phase k) := by
  rw [Block.phase, h]
  exact getD_modAt_self hk

theorem phase_onPhase_ne (h : a.cnv = b.cnv.onPhase k f) (hj : j ≠ k) : a.phase j = b.phase j := by
  rw [Block.phase, h]
  exact getD_modAt_ne hj

theorem onlyPhase_of_onPhase (h : a.cnv = b.cnv.onPhase k f) : b.onlyPhase a k :=
  ⟨by rw [h]; rfl, fun _ _ hj => phase_onPhase_ne h hj⟩

/-- A phase that is not UNCONFIGURED stands in the list. -/
theorem phase_lt_length (h : (b.phase k).st ≠ .unconfigured) : k < b.cnv.phases.length :=
  lt_length_of_getD (d := Phase.reset) fun hd => h (by rw [Block.phase, hd]; rfl)

theorem phase_lt_of_modulating (h : (b.phase k).st.modulating = true) : k < b.cnv.phases.length :=
  phase_lt_length fun hu => by rw [hu] at h; cases h

/-- What the change of one phase keeps of every phase. -/
theorem read_of_onPhase {α : Type} (F : Phase → α) (h : a.cnv = b.cnv.onPhase k f) (hf : ∀ p, F (f p) = F p) (j : Nat) : F (a.phase j) = F (b.phase j) := by
  by_cases hj : j = k
  · subst hj
    by_cases hk : j < b.cnv.phases.length
    · rw [phase_onPhase_self h hk, hf]
    · rw [Block.phase, h, Block.phase, List.getD_eq_default _ _ (by simpa using hk), List.getD_eq_default _ _ (by simpa using hk)]
  · rw [phase_onPhase_ne h hj]

/-! #### The modulating and the READY phases (R214, R215) -/

theorem mem_modPhases : j ∈ b.modPhases ↔ j < 8 ∧ (b.phase j).st.modulating = true := by simp [Block.modPhases]

theorem modPhases_of_st (h : ∀ j < 8, (a.phase j).st.modulating = (b.phase j).st.modulating) : a.modPhases = b.modPhases :=
  List.filter_congr fun j hj => h j (List.mem_range.mp hj)

theorem modPhases_eq_nil (h : ∀ j < 8, (b.phase j).st.modulating = false) : b.modPhases = [] :=
  List.filter_eq_nil_iff.mpr fun j hj => by simp [h j (List.mem_range.mp hj)]

theorem modPhases_nodup (b : Block) : b.modPhases.Nodup := List.nodup_range.filter _

theorem mem_readyPhases : j ∈ b.readyPhases ↔ j < 8 ∧ (b.phase j).st = .ready := by simp [Block.readyPhases]

theorem readyPhases_nodup (b : Block) : b.readyPhases.Nodup := List.nodup_range.filter _

/-- One phase changed takes one modulating phase away at most. -/
theorem length_modPhases_le (h : a.cnv = b.cnv.onPhase k f) : b.modPhases.length ≤ a.modPhases.length + 1 := by
  have hsub : b.modPhases.erase k ⊆ a.modPhases := fun j hj => by
    obtain ⟨hjk, hj⟩ := (modPhases_nodup b).mem_erase_iff.mp hj
    rw [mem_modPhases] at hj ⊢
    rwa [phase_onPhase_ne h hjk]
  have hlen := (((modPhases_nodup b).erase k).subperm hsub).length_le
  have := List.le_length_erase (l := b.modPhases) (a := k)
  omega

/-! #### A phase that may leave without CNV_PHASES_LOW (R214, R239) -/

theorem checkLow_spared (hs : o.phaseToSpare = true) (h : b.cnv = o.cnv.onPhase k f) (hm : b.sys.mstate = o.sys.mstate) : checkLow b = b := by
  refine if_neg fun ⟨hrun, hmod, _, hlow⟩ => ?_
  have hlen := length_modPhases_le h
  simp only [Block.phaseToSpare, Bool.or_eq_true, decide_eq_true_eq, Bool.not_eq_true'] at hs
  rw [h, CnvPart.onPhase_set] at hlow
  rw [h, CnvPart.onPhase_st] at hmod
  rcases hs with (hs | hs) | hs
  · exact hs (hm ▸ hrun)
  · exact absurd (hs.symm.trans hmod) (by decide)
  · omega

theorem dropPhase_spared {st : PhState} (hs : o.phaseToSpare = true) (h : b.cnv = o.cnv.onPhase k g) (hm : b.sys.mstate = o.sys.mstate) :
    dropPhase k st b = setPhase k st b :=
  checkLow_spared hs (by rw [setPhase_cnv, h, CnvPart.onPhase_onPhase]) (by rw [setPhase_sys, hm])

theorem phaseOut_spared {reason : Nat} (hs : o.phaseToSpare = true) (h : b.cnv = o.cnv.onPhase k g) (hm : b.sys.mstate = o.sys.mstate) :
    phaseOut k reason b = note .cnvPhaseOut k [reason] (setPhase k .out (onPhase k (fun p => { p with outr := reason }) b)) :=
  checkLow_spared hs (by rw [note_cnv, setPhase_cnv, onPhase_cnv, h, CnvPart.onPhase_onPhase, CnvPart.onPhase_onPhase]) (by rw [note_sys, setPhase_sys, onPhase_sys, hm])

/-! #### One phase after another -/

section
variable {h : Block → Nat → Block} (hg : ∀ b k, ∃ f : Phase → Phase, (h b k).cnv = b.cnv.onPhase k f)
include hg

/-- An operation on one phase at a time, done for each of a list, leaves the converter but for its phases. -/
theorem foldl_unphased (l : List Nat) (b : Block) : (l.foldl h b).cnv.unphased = b.cnv.unphased :=
  foldl_keeps (fun b : Block => b.cnv.unphased) h (fun b k => by
    obtain ⟨f, hf⟩ := hg b k
    rw [hf, CnvPart.onPhase_unphased]) l b

/-- The listed phases are changed as the operation changes them, the others are kept. -/
theorem foldl_onPhase {I : Block → Prop} {R : Nat → Phase → Phase → Prop} (hI : ∀ b k, I b → I (h b k))
    (hself : ∀ b, I b → ∀ k < b.cnv.phases.length, R k (b.phase k) ((h b k).phase k)) {l : List Nat} (hnd : l.Nodup) {b : Block}
    (hl : ∀ k ∈ l, k < b.cnv.phases.length) (hb : I b) (k : Nat) : if k ∈ l then R k (b.phase k) ((l.foldl h b).phase k) else (l.foldl h b).phase k = b.phase k := by
  induction l generalizing b with
  | nil => exact rfl
  | cons i l ih =>
    obtain ⟨hi, hnd⟩ := List.nodup_cons.mp hnd
    obtain ⟨f, hf⟩ := hg b i
    have h := ih hnd (fun k hk => by rw [hf, CnvPart.onPhase_length]; exact hl k (List.mem_cons_of_mem _ hk)) (hI b i hb)
    rw [List.foldl_cons]
    by_cases hki : k = i
    · subst hki
      rw [if_neg hi] at h
      rw [if_pos List.mem_cons_self, h]
      exact hself b hb k (hl k List.mem_cons_self)
    · rw [phase_onPhase_ne hf hki] at h
      simpa only [List.mem_cons, hki, false_or] using h

end

end
end Sys2Proof.Machine

namespace Sys2Proof.Machine

/-! ### The converter stands still: dark, the reference at 0, no phase modulating (R231, R236) -/

section
variable {a b o : Block} {c : CnvPart} {k j : Nat} {l : List PartName}

/-- What drives the gates: the converter's state, its reference, SSLATCH, the states of the phases. -/
def CnvPart.drive (c : CnvPart) : CState × Int × Bool × List PhState := (c.st, c.iRef, c.sslatch, c.phases.map Phase.st)

/-- The converter is MUZZLED or LATCHED, its reference at 0, and no phase modulates. -/
structure Block.still (b : Block) : Prop where
  dark : b.dark
  ref : b.cnv.iRef = 0
  phases : ∀ j < 8, (b.phase j).st.modulating = false

theorem st_of_drive (h : a.cnv.drive = b.cnv.drive) : a.cnv.st = b.cnv.st := congrArg (fun x => x.1) h
theorem iRef_of_drive (h : a.cnv.drive = b.cnv.drive) : a.cnv.iRef = b.cnv.iRef := congrArg (fun x => x.2.1) h
theorem sslatch_of_drive (h : a.cnv.drive = b.cnv.drive) : a.cnv.sslatch = b.cnv.sslatch := congrArg (fun x => x.2.2.1) h

theorem phase_st_of_drive (h : a.cnv.drive = b.cnv.drive) (j : Nat) : (a.phase j).st = (b.phase j).st := by
  have hp : a.cnv.phases.map Phase.st = b.cnv.phases.map Phase.st := congrArg (fun x => x.2.2.2) h
  have hst (x : Block) : (x.phase j).st = (x.cnv.phases.map Phase.st).getD j Phase.reset.st := by rw [Block.phase, List.getD_map]
  rw [hst, hst, hp]

theorem Block.still.of_drive (h : b.still) (he : a.cnv.drive = b.cnv.drive) : a.still := by
  obtain ⟨hdark, href, hphases⟩ := h
  refine ⟨?_, (iRef_of_drive he).trans href, fun j hj => by rw [phase_st_of_drive he, hphases j hj]⟩
  rwa [Block.dark, st_of_drive he]

theorem Block.still.modPhases (h : b.still) : b.modPhases = [] := modPhases_eq_nil h.phases

theorem Block.still.not_modulates (h : b.still) : b.cnv.st.modulates = false := by
  rcases h.dark with h | h <;> rw [h] <;> rfl

/-! #### The gates go dark -/

@[simp] theorem phasesOff_unphased (b : Block) : (phasesOff b).cnv.unphased = b.cnv.unphased := foldl_unphased (fun b k => ⟨_, setPhase_cnv k .ready b⟩) ..

theorem setPhase_phase_self {st : PhState} (h : k < b.cnv.phases.length) : (setPhase k st b).phase k = (b.phase k).entered st b.sys.now :=
  phase_onPhase_self (setPhase_cnv ..) h

/-- The phases that modulate go to READY. -/
theorem phasesOff_eq (b : Block) : phasesOff b = b.modPhases.foldl (fun b k => setPhase k .ready b) b := by
  unfold phasesOff Block.modPhases
  congr 1
  refine List.filter_congr fun k _ => ?_
  rw [Block.phase, List.getD_eq_getElem?_getD]
  cases b.cnv.phases[k]? <;> rfl

theorem phasesOff_modulating (b : Block) (hj : j < 8) : ((phasesOff b).phase j).st.modulating = false := by
  have h := foldl_onPhase (h := fun b k => setPhase k .ready b) (I := fun _ => True) (R := fun _ _ q => q.st = .ready) (fun b k => ⟨_, setPhase_cnv ..⟩) (fun _ _ _ => trivial)
    (fun b _ k hk => by rw [setPhase_phase_self hk]; rfl) (modPhases_nodup b) (fun k hk => phase_lt_of_modulating (mem_modPhases.mp hk).2) trivial j
  rw [phasesOff_eq]
  split at h
  · rw [h]
    rfl
  · next hn => simpa [h, mem_modPhases, hj] using hn

theorem phasesOff_of_unmodulated (h : ∀ j < 8, (b.phase j).st.modulating = false) : phasesOff b = b := by
  rw [phasesOff_eq, modPhases_eq_nil h]
  rfl

@[simp] theorem cnvDark_unphased (st : CState) (b : Block) : (cnvDark st b).cnv.unphased =
    { b.cnv.unphased with st := st, iRef := 0, clamped := false, settleAt := none, stopZeroAt := none, handOver := none, vCmdDue := false } := by
  rw [cnvDark, Block.touch_cnv, phasesOff_unphased]
  rfl

theorem cnvDark_iRef (st : CState) (b : Block) : (cnvDark st b).cnv.iRef = 0 := congrArg CnvPart.iRef (cnvDark_unphased st b)

theorem cnvDark_modulating (st : CState) (b : Block) (hj : j < 8) : ((cnvDark st b).phase j).st.modulating = false := by
  rw [cnvDark, phase_of_cnv (Block.touch_cnv ..)]
  exact phasesOff_modulating _ hj

theorem cnvDark_still {st : CState} (h : st = .muzzled ∨ st = .latched) (b : Block) : (cnvDark st b).still :=
  ⟨by rwa [Block.dark, cnvDark_st], cnvDark_iRef st b, fun _ hj => cnvDark_modulating st b hj⟩

/-! #### What stands still stays so through an event that stops the converter (R21, R231) -/

theorem cnvMuzzle_drive (h : b.still) : (cnvMuzzle b).cnv.drive = b.cnv.drive := by
  unfold cnvMuzzle
  split
  · rfl
  · next hl =>
    have hst : b.cnv.st = .muzzled := h.dark.resolve_right hl
    rw [cnvDark, Block.touch_cnv, phasesOff_of_unmodulated (by exact h.phases)]
    simp only [CnvPart.drive, Block.onCnv_cnv, hst, h.ref]

@[simp] theorem hibernateExit_drive (b : Block) : (hibernateExit b).cnv.drive = b.cnv.drive := by
  unfold hibernateExit
  refine (foldl_keeps (fun b : Block => b.cnv.drive) _ (fun b p => ?_) _ _).trans ?_
  · split <;> rfl
  · simp [CnvPart.drive]

@[simp] theorem leaveRun_drive (m : MState) (b : Block) : (leaveRun m b).cnv.drive = b.cnv.drive := by
  unfold leaveRun
  dsimp only
  split
  · split <;> simp [CnvPart.drive]
  · simp

theorem changeNow_fault_drive (cause : Nat) (op : List Nat) (h : b.still) : (changeNow .fault cause op b).cnv.drive = b.cnv.drive := by
  unfold changeNow
  split
  · rfl
  · extract_lets old t b1 sev b2 b2' b3 b4
    have h4 : b4.cnv.drive = b.cnv.drive := by simp [b4, b3, b2', b2, b1, apply_ite Block.cnv, apply_ite CnvPart.drive]
    rw [Block.touch_cnv, onEntry_, startSave_cnv, cnvMuzzle_drive (h.of_drive (by rw [balStop_cnv, h4])), balStop_cnv, h4]

theorem raise_drive (e : Event) (n : Nat) (d : List Nat) (h : b.still) : (raise e n d b).cnv.drive = b.cnv.drive := by
  unfold raise
  extract_lets b1 b2
  have h1 : b1.cnv.drive = b.cnv.drive := congrArg CnvPart.drive (note_cnv ..)
  split
  · exact h1
  · split
    · rw [enterState, changeState]
      split
      · exact h1
      · exact (changeNow_fault_drive _ _ (h.of_drive (a := b2) h1)).trans h1
    · exact h1

/-! #### How the end of a converter's event is shown -/

/-- A command that leaves the converter in its state, and what else the interlock reads. -/
theorem settled_of_st (h : o.touches b l) (hm : b.sys.mstate = o.sys.mstate) (hst : b.cnv.st = o.cnv.st) (hl : .latch ∉ l ∧ .pwr ∉ l ∧ .sec ∉ l) :
    b.settled = o.settled := by
  obtain ⟨hlatch, hpwr, hsec⟩ := hl
  have es : b.sec = o.sec := h .sec hsec (by decide)
  exact settled_of_same (h .latch hlatch (by decide)) hst hm (congrArg PwrPart.hold (h .pwr hpwr (by decide))) (by rw [es]) (by rw [es])

variable {i : Instr} {s : State} {f : Block → Block} {P : Block → Prop}

/-- An event that leaves the converter in its state. -/
theorem happens_same_st (hi : exec i s = effect f s) (ht : s.block.touches (f s.block) l) (hm : (f s.block).sys.mstate = s.block.sys.mstate)
    (hst : (f s.block).cnv.st = s.block.cnv.st) (hP : P (irqWatch s.block (f s.block))) (hl : .latch ∉ l ∧ .pwr ∉ l ∧ .sec ∉ l := by decide) : Happens i s l P :=
  happens_touching hi ht (fun h => (settled_of_st ht hm hst hl).trans h) hP

/-- An event of a converter that is not dark: no muzzle stands, whatever state the converter goes to. -/
theorem happens_lit (hd : ¬s.block.dark) (hi : exec i s = effect f s) (ht : s.block.touches (f s.block) l) (hm : (f s.block).sys.mstate = s.block.sys.mstate)
    (hP : P (irqWatch s.block (f s.block))) (hl : .latch ∉ l ∧ .pwr ∉ l ∧ .sec ∉ l := by decide) : Happens i s l P :=
  happens_touching hi ht (fun h => settled_of_lit h hd ht hm hl) hP

/-- An event of a converter that is not dark, after whose effect `x` another stops the converter. -/
theorem happens_raise {x : Block} {e : Event} {d : List Nat} {ts : List Nat} (hd : ¬s.block.dark) (hi : exec i s = effect f s)
    (hf : f s.block = (raise e noArg d x).touch ts) (he : e.stopsConverter = true)
    (hx : s.block.touches x [.sys, .cnv]) (hm : x.sys.mstate = s.block.sys.mstate) (hstill : x.still)
    (hP : ∀ b : Block, b.cnv.drive = x.cnv.drive → s.block.raised b e noArg → P b) : Happens i s controlled P := by
  have hh : x.hinge = s.block.hinge := by rw [Block.hinge, Block.hinge, show x.pwr = s.block.pwr from hx .pwr (by decide) (by decide)]
  refine happens_touching hi ?_ (fun h => ?_) (hP _ ?_ ?_)
  · rw [hf, touches_touch, touches_raise (List.Subset.refl _)]
    exact hx.mono (by simp [controlled])
  · rw [hf, touch_settled]
    exact raise_settled _ _ _ (settled_of_lit h hd hx hm (by decide))
  · rw [irqWatch_cnv, hf, Block.touch_cnv, raise_drive _ _ _ hstill]
  · obtain ⟨hcause, hfault⟩ := raise_raised e noArg d he hh hm
    rw [Block.raised, irqWatch_sys, hf, Block.touch_sys]
    exact ⟨hcause, hfault⟩

end
end Sys2Proof.Machine

namespace Sys2Proof.Machine

/-! ### The carrier (R217, R218, R220, R227, R229) -/

section
variable {a b : Block} {k : Nat} {s : State} {f : Phase → Phase}

/-- Every phase changed by one rule. -/
theorem phase_map (h : a.cnv.phases = b.cnv.phases.map f) (hk : k < b.cnv.phases.length) : a.phase k = f (b.phase k) := by
  rw [Block.phase, Block.phase, h, List.getD_eq_getElem _ _ (by simpa using hk), List.getD_eq_getElem _ _ hk, List.getElem_map]

/-- The count of the next reference period start. -/
def Block.refStart (b : Block) : Nat := max b.sys.now (if b.cnv.nextRef = 0 then b.nextMultiple b.cnv.set.tc else b.cnv.nextRef)

/-- The correction of one reference period: the error, within 1/256 of the period (R217). -/
def carrierStep (tc : Nat) : Option Int → Int
  | some e => clampI (-(tc / 256 : Nat)) (tc / 256 : Nat) (-e)
  | none => 0

theorem carrierStep_bounds (tc : Nat) (err : Option Int) : -((tc / 256 : Nat) : Int) ≤ carrierStep tc err ∧ carrierStep tc err ≤ (tc / 256 : Nat) := by
  cases err with
  | none => simp only [carrierStep]; omega
  | some e => simp only [carrierStep, clampI]; omega

/-- What a reference period start makes of a phase: the mean trim taken away while it modulates, else its I²t decayed (R220, R227). -/
def Block.refPhase (b : Block) (p : Phase) : Phase :=
  if p.st.modulating then
    { p with trim := p.trim - if b.modPhases = [] then 0 else (b.modPhases.map fun k => (b.phase k).trim).foldl (· + ·) 0 / (b.modPhases.length : Int) }
  else
    { p with q := max 0 (p.q - fxMul (fxMul (fxQ b.cnv.set.iPhCont 1000) (fxQ b.cnv.set.iPhCont 1000)) (fxQ b.cnv.set.tc secT)) }

theorem doReferencePeriodStart_phases (b : Block) : (doReferencePeriodStart b).cnv.phases = b.cnv.phases.map b.refPhase := rfl

theorem doReferencePeriodStart_nextRef (b : Block) : (doReferencePeriodStart b).cnv.nextRef =
    if ((b.at b.refStart).carrierError b.refStart).isNone && !b.cnv.refSeen then multipleFrom b.cnv.set.tc (b.refStart + 1)
    else ((b.refStart : Int) + b.cnv.set.tc + carrierStep b.cnv.set.tc ((b.at b.refStart).carrierError b.refStart)).toNat := rfl

/-- Without a lock source the carrier runs on the multiples of its period (R217). -/
theorem nextRef_free (htc : 0 < b.cnv.set.tc) (h0 : b.cnv.set.lockSrc = 0) (hr : b.cnv.refSeen = false) :
    (doReferencePeriodStart b).cnv.nextRef % b.cnv.set.tc = 0 ∧ b.refStart < (doReferencePeriodStart b).cnv.nextRef := by
  have he : (b.at b.refStart).carrierError b.refStart = none := by simp [Block.carrierError, h0]
  rw [doReferencePeriodStart_nextRef, he, hr]
  exact ⟨Nat.mul_mod_left .., le_multipleFrom htc⟩

/-- With a reference seen the period is at most 1/256 longer or shorter (R217). -/
theorem nextRef_locked (hr : b.cnv.refSeen = true) : (doReferencePeriodStart b).cnv.nextRef ≤ b.refStart + b.cnv.set.tc + b.cnv.set.tc / 256
    ∧ b.refStart + b.cnv.set.tc ≤ (doReferencePeriodStart b).cnv.nextRef + b.cnv.set.tc / 256 := by
  have hstep := carrierStep_bounds b.cnv.set.tc ((b.at b.refStart).carrierError b.refStart)
  rw [doReferencePeriodStart_nextRef, if_neg (by simp [hr])]
  omega

theorem referencePeriodStart_happens (htc : 0 < s.block.cnv.set.tc) (hlen : s.block.cnv.phases.length = 8) : Happens .referencePeriodStart s [.sys, .cnv] fun b =>
    b.sys.now = max s.block.sys.now (if s.block.cnv.nextRef = 0 then s.block.nextMultiple s.block.cnv.set.tc else s.block.cnv.nextRef) ∧ b.cnv.lastRef = b.sys.now
    ∧ b.cnv.periods = s.block.cnv.periods + 1 ∧ (s.block.cnv.set.lockSrc = 0 → s.block.cnv.refSeen = false → b.cnv.nextRef % s.block.cnv.set.tc = 0 ∧ b.sys.now < b.cnv.nextRef)
    ∧ (s.block.cnv.refSeen = true → b.cnv.nextRef ≤ b.sys.now + s.block.cnv.set.tc + s.block.cnv.set.tc / 256 ∧ b.sys.now + s.block.cnv.set.tc ≤ b.cnv.nextRef + s.block.cnv.set.tc / 256)
    ∧ (∀ k < 8, (s.block.phase k).st.modulating = true → (b.phase k).trim = (s.block.phase k).trim
        - ((s.block.modPhases.map fun j => (s.block.phase j).trim).foldl (· + ·) 0) / (s.block.modPhases.length : Int) ∧ (b.phase k).q = (s.block.phase k).q)
    ∧ ∀ k < 8, (s.block.phase k).st.modulating = false → (b.phase k).trim = (s.block.phase k).trim ∧ (b.phase k).q = max 0 ((s.block.phase k).q
        - fxMul (fxMul (fxQ s.block.cnv.set.iPhCont 1000) (fxQ s.block.cnv.set.iPhCont 1000)) (fxQ s.block.cnv.set.tc secT)) := by
  have hnow : (doReferencePeriodStart s.block).sys.now = s.block.refStart := max_eq_right (le_max_left ..)
  have hphase (k : Nat) (hk : k < 8) : (irqWatch s.block (doReferencePeriodStart s.block)).phase k = s.block.refPhase (s.block.phase k) := by
    rw [phase_of_cnv (irqWatch_cnv ..)]
    exact phase_map (doReferencePeriodStart_phases _) (by omega)
  refine happens_same_st (f := doReferencePeriodStart) rfl (by simp [doReferencePeriodStart]) rfl rfl ?_
  rw [irqWatch_sys, irqWatch_cnv, hnow]
  refine ⟨rfl, rfl, rfl, nextRef_free htc, nextRef_locked, fun k hk hmod => ?_, fun k hk hmod => ?_⟩
  · have hne : s.block.modPhases ≠ [] := List.ne_nil_of_mem (mem_modPhases.mpr ⟨hk, hmod⟩)
    rw [hphase k hk, Block.refPhase, if_pos hmod, if_neg hne]
    exact ⟨rfl, rfl⟩
  · rw [hphase k hk, Block.refPhase, if_neg (by simp [hmod])]
    exact ⟨rfl, rfl⟩

theorem syncInEdge_taken {n : Nat} (h : s.block.cnv.set.lockSrc = 2) : Happens (.syncInEdge n) s [.sys, .cnv] fun b =>
    b.sys.now = max s.block.sys.now n ∧ b.cnv = { s.block.cnv with syncRef := some (n - s.block.cnv.set.syncDly / 10), refSeen := true, syncMiss := 0 } := by
  have he : doSyncInEdge n s.block = (s.block.at n).onCnv fun c => { c with syncRef := some (n - c.set.syncDly / 10), refSeen := true, syncMiss := 0 } :=
    if_neg (not_not.mpr h)
  exact happens_same_st (f := doSyncInEdge n) rfl (by simp [he]) (by simp [he]) (by simp [he]) (by simp [he])

theorem syncInEdge_ignored {n : Nat} (h : s.block.cnv.set.lockSrc ≠ 2) : Happens (.syncInEdge n) s [] fun _ => True :=
  happens_nothing (f := doSyncInEdge n) rfl (if_pos h)

theorem carrierLocked_happens (hl : s.block.cnv.locked = false) (ha : 16 ≤ s.block.cnv.alignRun) (h0 : s.block.cnv.set.lockSrc ≠ 0) :
    Happens .carrierLocked s [.cnv] fun b => b.cnv = { s.block.cnv with locked := true } := by
  have he : doCarrierLocked s.block = (note .cnvLock noArg [] (s.block.onCnv fun c => { c with locked := true })).touch cnvTiles :=
    if_neg (by simp [hl, ha, h0])
  exact happens_same_st (f := doCarrierLocked) rfl (by simp [he]) (by simp [he]) (by simp [he]) (by simp [he])

/-- The lock is lost by 4 edges missing, or by PTP lost. -/
theorem carrierLockLost_happens (hlost : (s.block.cnv.set.lockSrc = 2 ∧ 4 ≤ s.block.cnv.syncMiss) ∨ (s.block.cnv.set.lockSrc = 1 ∧ s.block.ptpTicks = none))
    (hr : s.block.cnv.refSeen = true) : Happens .carrierLockLost s [.cnv] fun b =>
      b.cnv = { s.block.cnv with locked := false, refSeen := false, alignRun := 0, syncMiss := 0 } := by
  have he : doCarrierLockLost s.block =
      (note .cnvLockLost noArg [] (s.block.onCnv fun c => { c with locked := false, refSeen := false, alignRun := 0, syncMiss := 0 })).touch cnvTiles := by
    refine if_neg ?_
    rcases hlost with ⟨h, h'⟩ | ⟨h, h'⟩ <;> simp [hr, h, h']
  exact happens_same_st (f := doCarrierLockLost) rfl (by simp [he]) (by simp [he]) (by simp [he]) (by simp [he])

theorem cnvIsumXchk_happens {t : Nat} (ht : s.block.cnv.xchkAt = some t) (hn : s.block.cnv.xchkNoted = false) : Happens .cnvIsumXchk s [.sys, .cnv] fun b =>
    b.sys.now = max s.block.sys.now (t + 10 * msT) ∧ b.cnv = { s.block.cnv with xchkNoted := true } := by
  have he : doCnvIsumXchk s.block = note .cnvIsumXchk noArg [] ((s.block.at (t + 10 * msT)).onCnv fun c => { c with xchkNoted := true }) := by
    rw [doCnvIsumXchk, ht]
    exact if_neg (by simp [hn])
  exact happens_same_st (f := doCnvIsumXchk) rfl (by simp [he]) (by simp [he]) (by simp [he]) (by simp [he])

end
end Sys2Proof.Machine

namespace Sys2Proof.Machine

/-! ### Soft start (R225, R231 to R233, R237) -/

section
variable {b : Block} {k : Nat} {s : State} {l : List PartName}

/-- A soft start, and what precedes and interrupts it, is not dark. -/
theorem not_dark_of_starting (h : b.cnv.st = .precheck ∨ b.cnv.st.softStart = true ∨ b.cnv.st = .hiccup) : ¬b.dark := fun hd => by
  rcases hd with hd | hd <;> rw [hd] at h <;> simp [CState.softStart] at h

/-! #### Entry to PREBIAS -/

/-- A READY phase made ACTIVE, with its record. -/
def activate (b : Block) (k : Nat) : Block := note .cnvPhaseJoin k [] (setPhase k .active b)

theorem activate_cnv (b : Block) (k : Nat) : (activate b k).cnv = b.cnv.onPhase k (Phase.entered .active b.sys.now) := (note_cnv ..).trans (setPhase_cnv ..)

/-- The READY phases made ACTIVE. -/
def Block.activated (b : Block) : Block := b.readyPhases.foldl activate b

theorem activated_st (hlen : b.cnv.phases.length = 8) (hk : k < 8) :
    (b.activated.phase k).st = if (b.phase k).st = .ready then .active else (b.phase k).st := by
  have h := foldl_onPhase (h := activate) (I := fun _ => True) (R := fun _ _ q => q.st = .active) (fun b k => ⟨_, activate_cnv b k⟩) (fun _ _ _ => trivial)
    (fun b _ k hk => by rw [phase_onPhase_self (activate_cnv b k) hk]; rfl) (readyPhases_nodup b) (fun k hk => hlen ▸ (mem_readyPhases.mp hk).1) trivial k
  simp only [mem_readyPhases, hk, true_and] at h
  split at h
  · next hr => rw [if_pos hr]; exact h
  · next hr => rw [if_neg hr]; exact congrArg Phase.st h

theorem activated_length (b : Block) : b.activated.cnv.phases.length = b.cnv.phases.length :=
  foldl_keeps (fun b : Block => b.cnv.phases.length) _ (fun b k => by rw [activate_cnv, CnvPart.onPhase_length]) _ _

/-- A phase at the entry to PREBIAS: trim and histories 0. -/
def Phase.biased (p : Phase) : Phase := { p with trim := 0, periodAt := none, comp := { p.comp with e := [0, 0, 0], u := [0, 0, 0] } }

theorem enterPrebias_phases (b : Block) : (enterPrebias b).cnv.phases = b.activated.cnv.phases.map Phase.biased := rfl

theorem enterPrebias_phase (hlen : b.cnv.phases.length = 8) (hk : k < 8) :
    ((enterPrebias b).phase k).st = (if (b.phase k).st = .ready then .active else (b.phase k).st) ∧ ((enterPrebias b).phase k).trim = 0 := by
  have h : (enterPrebias b).phase k = (b.activated.phase k).biased := phase_map (enterPrebias_phases b) (by rw [activated_length]; omega)
  rw [h]
  exact ⟨activated_st hlen hk, rfl⟩

theorem enterPrebias_target (hv : b.cnv.vCmd = none) :
    (enterPrebias b).cnv.vTgt = some (fxI (if b.cnv.set.vTarget = 0 then b.vLinkMv.getD 0 else b.cnv.set.vTarget)) ∧ (enterPrebias b).cnv.slew = b.cnv.set.slewV := by
  unfold enterPrebias
  simp [hv]

theorem enterPrebias_sys (b : Block) : (enterPrebias b).sys = b.sys :=
  (touches_enterPrebias (l := [.cnv]) (by decide) b b).mpr (touches_refl _ _) .sys (by decide) (by decide)

/-! #### PRECHECK -/

theorem precheckTimeout_fails (hst : s.block.cnv.st = .precheck) (hp : s.block.precheck ≠ 0) : Happens .precheckTimeout s controlled fun b =>
    s.block.raised b .cnvPrecheckFail noArg ∧ b.cnv.st.modulates = false ∧ b.cnv.iRef = 0 ∧ b.modPhases = [] := by
  let x := cnvDark .muzzled (s.block.at (s.block.cnv.preAt + 10 * msT))
  have hstill : x.still := cnvDark_still (.inl rfl) _
  refine happens_raise (e := .cnvPrecheckFail) (d := [s.block.precheck]) (x := x) (ts := []) (f := doPrecheckTimeout)
    (not_dark_of_starting (.inl hst)) rfl ?_ rfl (by simp [x]) (by simp [x]) hstill fun b hb hr => ?_
  · rw [doPrecheckTimeout, if_neg (not_not.mpr hst)]
    exact if_neg hp
  · have hb := hstill.of_drive hb
    exact ⟨hr, hb.not_modulates, hb.ref, hb.modPhases⟩

theorem precheckTimeout_passes (hst : s.block.cnv.st = .precheck) (hp : s.block.precheck = 0) (hpark : s.block.cnv.parkSrc = none) (hv : s.block.cnv.vCmd = none)
    (hlen : s.block.cnv.phases.length = 8) : Happens .precheckTimeout s [.sys, .cnv] fun b =>
      b.sys.now = max s.block.sys.now (s.block.cnv.preAt + 10 * msT) ∧ b.cnv.st = .prebias ∧ b.cnv.vRef = some (fxI (s.block.vLinkMv.getD 0)) ∧ b.cnv.vInt = 0
      ∧ b.cnv.vTgt = some (fxI (if s.block.cnv.set.vTarget = 0 then s.block.vLinkMv.getD 0 else s.block.cnv.set.vTarget)) ∧ b.cnv.slew = s.block.cnv.set.slewV
      ∧ ∀ k < 8, (b.phase k).st = (if (s.block.phase k).st = .ready then .active else (s.block.phase k).st) ∧ (b.phase k).trim = 0 := fun hset => by
  let x := s.block.at (s.block.cnv.preAt + 10 * msT)
  have he : doPrecheckTimeout s.block = enterPrebias x := by
    have hf : s.block.sec.fullDue = none := (settled_iff.mp hset).2.1
    rw [doPrecheckTimeout, if_neg (not_not.mpr hst)]
    refine (if_pos hp).trans (if_neg ?_)
    simp [hpark, hf]
  refine happens_lit (f := doPrecheckTimeout) (not_dark_of_starting (.inl hst)) rfl (by simp [he, x]) (by simp [he, x]) ?_ (by decide) hset
  rw [irqWatch_sys, irqWatch_cnv, he, enterPrebias_sys]
  obtain ⟨htgt, hslew⟩ := enterPrebias_target (b := x) hv
  refine ⟨rfl, rfl, rfl, rfl, htgt, hslew, fun k hk => ?_⟩
  rw [phase_of_cnv (irqWatch_cnv ..)]
  exact enterPrebias_phase (b := x) hlen hk

/-! #### Hiccups and the end of a soft start without success -/

theorem ssHiccupEnd_happens (hst : s.block.cnv.st = .hiccup) (hlen : s.block.cnv.phases.length = 8) : Happens .ssHiccupEnd s [.sys, .cnv] fun b =>
    b.sys.now = max s.block.sys.now (s.block.cnv.hicAt + 20 * msT) ∧ b.cnv.st = .prebias ∧ b.cnv.vRef = some (fxI (s.block.vLinkMv.getD 0)) ∧ b.readyPhases = [] := by
  let x := s.block.at (s.block.cnv.hicAt + 20 * msT)
  have he : doSsHiccupEnd s.block = enterPrebias x := if_pos hst
  refine happens_lit (f := doSsHiccupEnd) (not_dark_of_starting (.inr (.inr hst))) rfl (by simp [he, x]) (by simp [he, x]) ?_
  rw [irqWatch_sys, irqWatch_cnv, he, enterPrebias_sys]
  refine ⟨rfl, rfl, rfl, List.eq_nil_iff_forall_not_mem.mpr fun k hk => ?_⟩
  obtain ⟨hk, hready⟩ := mem_readyPhases.mp hk
  rw [phase_of_cnv (irqWatch_cnv ..), (enterPrebias_phase (b := x) hlen hk).1] at hready
  split at hready
  · cases hready
  · contradiction

theorem softstartTimeout_happens (hst : s.block.cnv.st = .precheck ∨ s.block.cnv.st.softStart = true ∨ s.block.cnv.st = .hiccup) :
    Happens .softstartTimeout s controlled fun b => s.block.raised b .softstartTimeout noArg ∧ b.cnv.st.modulates = false ∧ b.modPhases = [] := by
  let x := cnvDark .muzzled (s.block.at (s.block.cnv.preAt + s.block.cnv.set.ssTimeout * msT))
  have hstill : x.still := cnvDark_still (.inl rfl) _
  refine happens_raise (e := .softstartTimeout) (d := []) (x := x) (ts := []) (f := doSoftstartTimeout)
    (not_dark_of_starting hst) rfl (if_pos hst) rfl (by simp [x]) (by simp [x]) hstill fun b hb hr => ?_
  have hb := hstill.of_drive hb
  exact ⟨hr, hb.not_modulates, hb.modPhases⟩

/-- The hiccups of a soft start within the last 2 s (R233). -/
def Block.recentHiccups (b : Block) : List Nat := b.cnv.ssHics.filter fun h => decide (b.sys.now < h + 2 * secT)

/-- OC lights: the phase takes it, and a soft start hiccups (R225, R233). -/
theorem doOcInput_lit (k : Nat) (b : Block) : ∃ y f, doOcInput k true b = (if b.cnv.st.softStart then softStartOc y else y).touch cnvTiles ∧ y.cnv = b.cnv.onPhase k f
    ∧ b.touches y [.cnv] := by
  unfold doOcInput
  extract_lets p t fresh b1 b2
  have hcnv : b2.cnv = b1.cnv := by simp only [b2, apply_ite Block.cnv, note_cnv, ite_self]
  have ht : b.touches b2 [.cnv] := by simp [b2, b1]
  exact ⟨b2, _, if_neg (by decide), hcnv, ht⟩

theorem recentHiccups_of_unphased {a : Block} (h : a.cnv.unphased = b.cnv.unphased) (hs : a.sys = b.sys) : a.recentHiccups = b.recentHiccups := by
  have hh := congrArg CnvPart.ssHics h
  rw [Block.recentHiccups, Block.recentHiccups, hs, show a.cnv.ssHics = b.cnv.ssHics from hh]

theorem ocInput_hiccups {k : Fin 8} (hst : s.block.cnv.st.softStart = true) (hh : s.block.recentHiccups.length < 2) : Happens (.ocInput k true) s [.cnv] fun b =>
    b.cnv.st = .hiccup ∧ b.cnv.hicAt = s.block.sys.now ∧ b.cnv.iRef = 0 ∧ b.cnv.ssCount = satAdd 255 s.block.cnv.ssCount 1 := by
  obtain ⟨y, f, he, hcnv, hy⟩ := doOcInput_lit k s.block
  have hsys : y.sys = s.block.sys := hy .sys (by decide) (by decide)
  have hrec : y.recentHiccups = s.block.recentHiccups := recentHiccups_of_unphased (by rw [hcnv]; rfl) hsys
  let x := y.onCnv fun c => { c with
    st := .hiccup, hicAt := y.sys.now, ssHics := y.sys.now :: y.recentHiccups, ssCount := satAdd 255 c.ssCount 1, iRef := 0, settleAt := none }
  have hx : softStartOc y = (note .cnvSsHiccup noArg [x.cnv.ssCount] x).touch cnvTiles := if_neg (by rw [← hrec] at hh; exact Nat.not_le.mpr hh)
  rw [if_pos hst, hx] at he
  refine happens_lit (f := doOcInput k true) (not_dark_of_starting (.inr (.inl hst))) rfl ?_ (by simp [he, x, hsys]) ?_
  · simpa [he, x] using hy
  · rw [irqWatch_cnv, he, Block.touch_cnv, Block.touch_cnv, note_cnv]
    simp [x, hcnv, hsys, CnvPart.onPhase]

theorem ocInput_latches {k : Fin 8} (hst : s.block.cnv.st.softStart = true) (hh : 2 ≤ s.block.recentHiccups.length) : Happens (.ocInput k true) s controlled fun b =>
    b.cnv.st = .latched ∧ b.cnv.sslatch = true ∧ b.modPhases = [] ∧ s.block.raised b .softstartShort noArg := by
  obtain ⟨y, f, he, hcnv, hy⟩ := doOcInput_lit k s.block
  have hsys : y.sys = s.block.sys := hy .sys (by decide) (by decide)
  have hrec : y.recentHiccups = s.block.recentHiccups := recentHiccups_of_unphased (by rw [hcnv]; rfl) hsys
  let x := (cnvDark .latched y).onCnv fun c => { c with sslatch := true }
  have hx : softStartOc y = raise .softstartShort noArg [] x := if_pos (by rw [← hrec] at hh; exact hh)
  have hst' : x.cnv.st = .latched := cnvDark_st .latched y
  have hlatch : x.cnv.sslatch = true := by simp only [x, Block.onCnv_cnv]
  have hphase (j : Nat) : x.phase j = (cnvDark .latched y).phase j := phase_of_phases (by simp only [x, Block.onCnv_cnv]) j
  have hstill : x.still := ⟨.inr hst', cnvDark_iRef .latched y, fun j hj => by rw [hphase j, cnvDark_modulating .latched y hj]⟩
  have htouch : s.block.touches x [.sys, .cnv] := by simpa [x] using hy.mono (by decide)
  have hm : x.sys.mstate = s.block.sys.mstate := by simp [x, hsys]
  rw [if_pos hst, hx] at he
  clear_value x
  exact happens_raise (f := doOcInput k true) (not_dark_of_starting (.inr (.inl hst))) rfl he rfl htouch hm hstill fun b hb hr =>
    ⟨(st_of_drive hb).trans hst', (sslatch_of_drive hb).trans hlatch, (hstill.of_drive hb).modPhases, hr⟩

/-! #### The end of SETTLE (R231, R232, R237) -/

/-- A phase that joins: its state, and what it takes of the ACTIVE phase with the lowest number (R215). -/
theorem joinPhase_cnv (k : Nat) (b : Block) : ∃ f : Phase → Phase, (∀ p, (f p).st = .joining) ∧ (joinPhase k b).cnv = b.cnv.onPhase k f := by
  unfold joinPhase
  split
  · exact ⟨_, fun p => rfl, by rw [setPhase_cnv, onPhase_cnv, CnvPart.onPhase_onPhase]⟩
  · exact ⟨_, fun p => rfl, by rw [setPhase_cnv, onPhase_cnv, CnvPart.onPhase_onPhase]⟩

@[simp] theorem touches_joinPhase (hl : .cnv ∈ l) (o b : Block) (k : Nat) : o.touches (joinPhase k b) l ↔ o.touches b l := by
  unfold joinPhase
  split <;> simp [hl]

@[simp] theorem touches_admitPhases (hl : .cnv ∈ l) (o b : Block) : o.touches (admitPhases b) l ↔ o.touches b l := by
  unfold admitPhases
  split
  · exact touches_foldl (fun o b k => touches_joinPhase hl o b k) _ o b
  · rfl

theorem admitPhases_unphased (b : Block) : (admitPhases b).cnv.unphased = b.cnv.unphased := by
  unfold admitPhases
  split
  · exact foldl_unphased (fun b k => (joinPhase_cnv k b).imp fun _ h => h.2) ..
  · rfl

/-- READY phases join while the converter regulates outside a hold; the others stay (R214, R237). -/
theorem admitPhases_st (hr : b.cnv.st = .regulate) (hh : b.hinge = false) (hlen : b.cnv.phases.length = 8) (hk : k < 8) :
    ((admitPhases b).phase k).st = if (b.phase k).st = .ready then .joining else (b.phase k).st := by
  have h := foldl_onPhase (h := fun b k => joinPhase k b) (I := fun _ => True) (R := fun _ _ q => q.st = .joining) (fun b k => (joinPhase_cnv k b).imp fun _ h => h.2)
    (fun _ _ _ => trivial)
    (fun b _ k hk => by
      obtain ⟨f, hf, h⟩ := joinPhase_cnv k b
      rw [phase_onPhase_self h hk, hf]) (readyPhases_nodup b) (fun k hk => hlen ▸ (mem_readyPhases.mp hk).1) trivial k
  rw [admitPhases, if_pos ⟨hr, hh⟩]
  simp only [mem_readyPhases, hk, true_and] at h
  split at h
  · next hready => rw [if_pos hready]; exact h
  · next hready => rw [if_neg hready]; exact congrArg Phase.st h

theorem lossAction_of_held (h : b.srcLost b.loop.src = false) : lossAction b = b := if_pos (.inr (.inr (.inr (.inr h))))

theorem settleComplete_happens {t : Nat} (hst : s.block.cnv.st = .settle) (ht : s.block.cnv.settleAt = some t) (hh : s.block.hinge = false)
    (hsrc : s.block.srcLost s.block.loop.src = false) (hlen : s.block.cnv.phases.length = 8) : Happens .settleComplete s [.sys, .cnv] fun b =>
      b.sys.now = max s.block.sys.now (t + 20 * msT) ∧ b.cnv.st = .regulate ∧ b.cnv.handOver = some s.block.cnv.iRef ∧ b.cnv.settleAt = none ∧ b.cnv.iRef = s.block.cnv.iRef
      ∧ ∀ k < 8, (b.phase k).st = (if (s.block.phase k).st = .ready then .joining else (s.block.phase k).st) := by
  let b1 := s.block.at (t + 20 * msT)
  let ms := (b1.sys.now - b1.cnv.preAt) / msT
  let x := note .cnvSsDone noArg [ms] (b1.onCnv fun c => { c with st := .regulate, settleAt := none, handOver := some c.iRef, ssElapsed := ms })
  have hx : s.block.touches (admitPhases x) [.sys, .cnv] := by simp [x, b1]
  have hxc : x.cnv = { s.block.cnv with st := .regulate, settleAt := none, handOver := some s.block.cnv.iRef, ssElapsed := ms } := note_cnv ..
  have hloop : (admitPhases x).loop = s.block.loop := hx .loop (by decide) (by decide)
  have he : doSettleComplete s.block = (admitPhases x).touch cnvTiles := by
    have hheld : lossAction (admitPhases x) = admitPhases x := lossAction_of_held (by rw [Block.srcLost, hloop]; exact hsrc)
    rw [← hheld, doSettleComplete, hst, ht]
    exact if_neg (by simp [hh])
  have hcnv : (irqWatch s.block (doSettleComplete s.block)).cnv = (admitPhases x).cnv := by rw [irqWatch_cnv, he, Block.touch_cnv]
  have hun : (admitPhases x).cnv.unphased = x.cnv.unphased := admitPhases_unphased x
  rw [hxc] at hun
  have hxh : x.hinge = false := by rw [← hh, Block.hinge, Block.hinge, show x.pwr = s.block.pwr from note_pwr ..]
  have hsys : (admitPhases x).sys = b1.sys := ((touches_admitPhases (l := [.cnv]) (by decide) x x).mpr (touches_refl _ _) .sys (by decide) (by decide)).trans (note_sys ..)
  refine happens_lit (f := doSettleComplete) (not_dark_of_st hst (by decide) (by decide)) rfl (by simpa [he] using hx) (by rw [he, Block.touch_sys, hsys]; rfl) ?_
  have hst' := congrArg CnvPart.st hun
  have hhand := congrArg CnvPart.handOver hun
  have hat := congrArg CnvPart.settleAt hun
  have href := congrArg CnvPart.iRef hun
  rw [irqWatch_sys, hcnv]
  refine ⟨by rw [he, Block.touch_sys, hsys]; rfl, hst', hhand, hat, href, fun k hk => ?_⟩
  have hphase : x.phase k = s.block.phase k := by rw [Block.phase, hxc]; rfl
  rw [phase_of_cnv hcnv, admitPhases_st (by rw [hxc]) hxh (by rw [hxc]; exact hlen) hk, hphase]

theorem settleComplete_held {t : Nat} (hst : s.block.cnv.st = .settle) (ht : s.block.cnv.settleAt = some t) (hh : s.block.hinge = true) :
    Happens .settleComplete s [] fun _ => True := by
  refine happens_nothing (f := doSettleComplete) rfl ?_
  rw [doSettleComplete, hst, ht]
  exact if_pos hh

end

/-! #### The end of a soft stop (R235) -/

section
variable {b : Block} {s : State} {i q : Nat}

/-- RUN left for PARK outside a hold, no park waiting: the converter keeps its state unless it is dark (R19, R231). -/
theorem changeNow_park_of_run {cause : Nat} {op : List Nat} (hm : b.sys.mstate = .run) (hpark : b.cnv.parkSrc = none) (hd : ¬b.dark) :
    (changeNow .park cause op b).cnv = b.cnv ∧ (changeNow .park cause op b).ix = b.ix ∧ (changeNow .park cause op b).sys.prev = .run := by
  unfold changeNow
  rw [if_neg (by rw [hm]; decide)]
  extract_lets old t b1 sev b2 b2' b3 b4
  have hold : old = .run := hm
  have h2 : b2' = b2 := if_neg (by rw [hold]; decide)
  have h3 : b3 = impStop b2 := by
    have hp : (impStop b2).cnv.parkSrc = none := by rw [impStop_cnv]; exact (congrArg CnvPart.parkSrc (recordEvent_cnv ..)).trans hpark
    simp only [b3, if_pos hold, h2, leaveRun, hp]
  have h4 : b4 = b3 := if_neg (by rw [hold]; decide)
  have hc : b4.cnv = b.cnv := by rw [h4, h3, impStop_cnv]; exact recordEvent_cnv ..
  have hp : onEntry_ .park b4 = b4 := if_neg fun h => hd (by rw [Block.dark, ← hc]; exact h.1)
  rw [Block.touch_cnv, Block.touch_ix, Block.touch_sys, hp]
  refine ⟨hc, ?_, ?_⟩
  · rw [h4, h3, impStop_ix]
    exact recordEvent_ix ..
  · rw [h4, h3, impStop_sys]
    exact (congrArg SysPart.prev (recordEvent_sys ..)).trans hm

/-- RUN left for PARK keeps the interlock: in RUN outside a hold no function acts. -/
theorem changeNow_park_settled {cause : Nat} {op : List Nat} (h : b.settled = true) (hm : b.sys.mstate = .run) (hh : b.hinge = false)
    (hc : (changeNow .park cause op b).cnv = b.cnv) : (changeNow .park cause op b).settled = true := by
  obtain ⟨hp, hf, hd⟩ := settled_iff.mp h
  obtain ⟨hz, hg, ha⟩ := safePath_iff.mp hp
  have hacts : ¬b.latch.state.acting = true := fun hacts => by rcases ha hacts hh with h | h <;> rw [hm] at h <;> cases h
  refine settled_iff.mpr ⟨safePath_iff.mpr ?_, ?_, ?_⟩
  · rw [changeNow_latch, hc]
    exact ⟨hz, hg, fun hacts' => absurd hacts' hacts⟩
  · rwa [changeNow_sec]
  · rwa [changeNow_sec, changeNow_latch]

/-- The soft stop ends at a count of its own: at once, or 20 ms after the reference reached 0. -/
theorem doSoftstopEnd_eq {t : Nat} (hst : b.cnv.st = .softstop) (ht : b.cnv.stopZeroAt = some t) : ∃ n, doSoftstopEnd b = endSoftstop (b.at n) := by
  have h0 : b.at 0 = b := by simp [Block.at, Block.onSys]
  rw [doSoftstopEnd, hst, ht]
  dsimp only
  split
  · exact ⟨0, by rw [h0]⟩
  · exact ⟨_, rfl⟩

theorem softstopEnd_happens {t : Nat} (hst : s.block.cnv.st = .softstop) (ht : s.block.cnv.stopZeroAt = some t) (hsrc : s.block.cnv.parkSrc = some (.session i q))
    (hm : s.block.sys.mstate = .run) (hh : s.block.hinge = false) (hq : (s.block.entry? i q).isSome = true) : Happens .softstopEnd s controlled fun b =>
      b.cnv.st = .idle ∧ b.cnv.parkSrc = none ∧ b.cnv.iRef = 0 ∧ b.modPhases = [] ∧ b.sys.mstate = .park ∧ b.sys.prev = .run ∧ b.answered (.session i q) .ok [] := by
  obtain ⟨n, he⟩ := doSoftstopEnd_eq hst ht
  let x := (cnvDark .idle (s.block.at n)).onCnv fun c => { c with parkSrc := none }
  have hxst : x.cnv.st = .idle := cnvDark_st .idle (s.block.at n)
  have hxpark : x.cnv.parkSrc = none := by simp only [x, Block.onCnv_cnv]
  have hxref : x.cnv.iRef = 0 := cnvDark_iRef .idle (s.block.at n)
  have hxphase (j : Nat) : x.phase j = (cnvDark .idle (s.block.at n)).phase j := phase_of_phases (by simp only [x, Block.onCnv_cnv]) j
  have hxmod (j : Nat) (hj : j < 8) : (x.phase j).st.modulating = false := by rw [hxphase j, cnvDark_modulating .idle _ hj]
  have hx : s.block.touches x [.sys, .cnv] := by simp [x]
  have hxm : x.sys.mstate = s.block.sys.mstate := by simp [x]
  have hxh : x.hinge = false := by rw [← hh, Block.hinge, Block.hinge, show x.pwr = s.block.pwr from hx .pwr (by decide) (by decide)]
  have hf : endSoftstop (s.block.at n) = complete (.session i q) .ok [] (changeState .park s.block.cnv.parkCause.1 s.block.cnv.parkCause.2 x) := by
    rw [endSoftstop, Block.at_cnv, hsrc]
  clear_value x
  have hnow : changeState .park s.block.cnv.parkCause.1 s.block.cnv.parkCause.2 x = changeNow .park s.block.cnv.parkCause.1 s.block.cnv.parkCause.2 x :=
    if_neg (by rw [hxh]; decide)
  have hd : ¬s.block.dark := not_dark_of_st hst (by decide) (by decide)
  obtain ⟨hzc, hzx, hzp⟩ := changeNow_park_of_run (cause := s.block.cnv.parkCause.1) (op := s.block.cnv.parkCause.2) (hxm.trans hm) hxpark (not_dark_of_st hxst (by decide) (by decide))
  rw [hf, hnow] at he
  refine happens_touching (f := doSoftstopEnd) rfl ?_ (fun hset => ?_) ?_
  · rw [he, touches_complete (by decide) (by decide) (by decide), touches_changeNow (List.Subset.refl _)]
    exact hx.mono (by simp [controlled])
  · rw [he, complete_settled]
    exact changeNow_park_settled (settled_of_lit hset hd hx hxm (by decide)) (hxm.trans hm) hxh hzc
  · have hcnv : (irqWatch s.block (doSoftstopEnd s.block)).cnv = x.cnv := by rw [irqWatch_cnv, he, complete_cnv, hzc]
    have hmods : (irqWatch s.block (doSoftstopEnd s.block)).modPhases = [] := modPhases_eq_nil fun j hj => by rw [phase_of_cnv hcnv, hxmod j hj]
    rw [hmods, hcnv, irqWatch_sys, he, complete_sys]
    exact ⟨hxst, hxpark, hxref, rfl, changeNow_mstate .., hzp, answered_irqWatch (answered_complete_held (hzx.trans (hx .ix (by decide) (by decide))) hq)⟩

end
end Sys2Proof.Machine

namespace Sys2Proof.Machine

/-- Settles O24: each command's clause by its own lemma above. -/
theorem carrierLocksAndSoftStartRuns : Obligations.CarrierLocksAndSoftStartRuns := by
  unfold Obligations.CarrierLocksAndSoftStartRuns
  exact ⟨fun _ => referencePeriodStart_happens, fun _ _ => syncInEdge_taken, fun _ _ => syncInEdge_ignored, fun _ => carrierLocked_happens,
    fun _ hsrc hmiss => carrierLockLost_happens (.inl ⟨hsrc, hmiss⟩),
    fun _ hsrc hptp hseen => Happens.mono (carrierLockLost_happens (.inr ⟨hsrc, hptp⟩) hseen) fun _ h => by rw [h]; exact ⟨rfl, rfl⟩,
    fun _ _ => cnvIsumXchk_happens, fun _ => precheckTimeout_fails, fun _ => precheckTimeout_passes, fun _ => ssHiccupEnd_happens, fun _ _ => ocInput_hiccups,
    fun _ _ => ocInput_latches, fun _ => softstartTimeout_happens, fun _ _ => settleComplete_happens, fun _ _ => settleComplete_held, fun _ _ _ _ => softstopEnd_happens⟩

end Sys2Proof.Machine

namespace Sys2Proof.Machine

/-! ### Readings that a phase's period keeps (R215, R219, R228) -/

section
variable {a b o : Block} {k j : Nat} {f g : Phase → Phase} {s : State} {l : List PartName} {t : Nat}

theorem modPhases_of_onPhase (h : a.cnv = b.cnv.onPhase k f) (hf : ∀ p, (f p).st = p.st) : a.modPhases = b.modPhases :=
  modPhases_of_st fun j _ => read_of_onPhase (fun p => p.st.modulating) h (fun p => by rw [hf]) j

/-- The median link voltage rests on the states of the phases and their samples alone (R219). -/
theorem vLinkMv_of_samples (h : ∀ j, (a.phase j).st = (b.phase j).st ∧ (a.phase j).vLink = (b.phase j).vLink) : a.vLinkMv = b.vLinkMv := by
  simp only [Block.vLinkMv, fun j => (h j).1, fun j => (h j).2]

/-- The limits rest on the time, the Floor, the settings, the foldback, the soft start and on how far each phase has joined (R228). -/
theorem limitRef_of_joined (hs : a.sys.now = b.sys.now) (hl : a.latch = b.latch) (hset : a.cnv.set = b.cnv.set) (hfold : a.cnv.foldback = b.cnv.foldback)
    (hss : a.cnv.st.softStart = b.cnv.st.softStart) (hp : ∀ j, (a.phase j).st = (b.phase j).st ∧ (a.phase j).joinAt = (b.phase j).joinAt) : a.limitRef = b.limitRef := by
  have hj : a.joinFraction = b.joinFraction := by
    funext j
    rw [Block.joinFraction, Block.joinFraction, (hp j).1, (hp j).2, hs]
  have he : a.ilimEff = b.ilimEff := by rw [Block.ilimEff, Block.ilimEff, Block.nEff, Block.nEff, Block.iFloor, Block.iFloor, Block.floor, Block.floor, hj, hl, hset, hfold, hss]
  funext i
  rw [Block.limitRef, Block.limitRef, he]

/-! ### Period starts (R217, R219, R225, R230 to R235) -/

/-- What a period start counts of a phase's fast limit, short of the eighth period in a row (R225). -/
def Phase.counted (p : Phase) : Phase := { p with ocRun := if p.ocThis then p.ocRun + 1 else 0, ocThis := p.oc, ocDark := p.oc }

/-- The duty of a phase after its first period (R219). -/
def Block.dutyOf (b : Block) (k : Nat) (v l : Int) : Fx :=
  clampI (fxQ b.cnv.set.dMin 4294967296) (fxQ b.cnv.set.dMax 4294967296) (fxDiv (fxI v + (b.phase k).comp.u.getD 0 0 + (b.phase k).trim) (fxI l))

/-- A phase that takes a duty, and the output it stands for as the newest of its history (R219). -/
def Phase.driven (d : Fx) (v l : Int) (p : Phase) : Phase := { p with duty := d, comp := { p.comp with u := (fxMul d (fxI l) - fxI v - p.trim) :: p.comp.u.drop 1 } }

/-- A phase whose period starts. -/
def Phase.started (now : Nat) (w : Fx) (off : Nat) (p : Phase) : Phase := { p with periodAt := some now, weight := w, offset := off, iSum := { sum := 0, n := 0 } }

/-- The block at the phase's next period start, the fast limit counted. -/
def Block.periodBegun (b : Block) (k : Nat) : Block := onPhase k Phase.counted (b.at (b.nextPeriod k))

theorem cnv_onPhase_congr (h : f (b.phase k) = g (b.phase k)) : b.cnv.onPhase k f = b.cnv.onPhase k g := by
  have hm : modAt b.cnv.phases k f = modAt b.cnv.phases k g := by
    refine List.ext_getElem? fun j => ?_
    rw [modAt, modAt, List.getElem?_modify, List.getElem?_modify]
    by_cases hj : k = j
    · subst hj
      rcases hk : b.cnv.phases[k]? with _ | p
      · rfl
      · rw [Block.phase, List.getD_eq_getElem?_getD, hk] at h
        simpa using h
    · simp [hj]
  rw [CnvPart.onPhase, hm]
  rfl

theorem onPhase_congr (h : f (b.phase k) = g (b.phase k)) : onPhase k f b = onPhase k g b :=
  congrArg (fun c => b.onCnv fun _ => c) (cnv_onPhase_congr h)

theorem periodBegun_cnv (b : Block) (k : Nat) : (b.periodBegun k).cnv = b.cnv.onPhase k Phase.counted := rfl

theorem countOc_few (h : (b.phase k).ocRun < 7 ∨ b.cnv.st ≠ .regulate) : countOc k b = onPhase k Phase.counted b := by
  refine (if_pos ?_).trans (onPhase_congr rfl)
  rcases h with h | h
  · refine .inl ?_
    split <;> omega
  · exact .inr h

/-- A period start short of the eighth OC in a row: the sequencer if the phase is the lowest-numbered, the duty, and the phase started. -/
theorem periodStart_eq (hmod : (b.phase k).st.modulating = true) (hst : b.cnv.st.modulates = true) (hfew : (b.phase k).ocRun < 7 ∨ b.cnv.st ≠ .regulate) :
    ∃ w off, doPhasePeriodStart k b = (onPhase k (Phase.started (max b.sys.now (b.nextPeriod k)) w off)
      (setDuty k (if b.modPhases.head? = some k then sequencer (b.periodBegun k) else b.periodBegun k))).touch cnvTiles := by
  have hcount : countOc k (b.at (b.nextPeriod k)) = b.periodBegun k := countOc_few hfew
  have hmods : (b.periodBegun k).modPhases = b.modPhases := modPhases_of_onPhase (periodBegun_cnv b k) fun p => rfl
  have hphase : ((b.periodBegun k).phase k).st.modulating = true :=
    (read_of_onPhase (fun p => p.st.modulating) (periodBegun_cnv b k) (fun p => rfl) k).trans hmod
  rw [doPhasePeriodStart, if_neg (by simp [hmod, hst])]
  dsimp only
  rw [hcount, if_neg (by rw [hphase, periodBegun_cnv, CnvPart.onPhase_st, hst]; decide), hmods]
  exact ⟨_, _, rfl⟩

/-! #### The duty and the sequencer -/

theorem setDuty_cnv (k : Nat) (b : Block) : ∃ f : Phase → Phase, (∀ p, (f p).st = p.st ∧ (f p).joinAt = p.joinAt) ∧ (setDuty k b).cnv = b.cnv.onPhase k f := by
  unfold setDuty
  split
  · refine ⟨_, ?_, rfl⟩
    exact fun p => ⟨rfl, rfl⟩
  · exact ⟨id, fun p => ⟨rfl, rfl⟩, by rw [CnvPart.onPhase, modAt, List.modify_id]⟩

@[simp] theorem touches_setDuty (hl : .cnv ∈ l) (o b : Block) (k : Nat) : o.touches (setDuty k b) l ↔ o.touches b l := by
  unfold setDuty
  split <;> simp [hl]

theorem setDuty_later {v w : Int} (hst : b.cnv.st ≠ .prebias) (hv : b.vStrMv = some v) (hw : b.vLinkMv = some w) :
    setDuty k b = onPhase k (Phase.driven (b.dutyOf k v w) v w) b := by
  rw [setDuty, hv, hw]
  refine onPhase_congr ?_
  simp [hst, Phase.driven, Block.dutyOf]

@[simp] theorem touches_voltageLoop (hl : .cnv ∈ l) (o b : Block) : o.touches (voltageLoop b) l ↔ o.touches b l := by
  unfold voltageLoop
  split <;> simp [hl]

@[simp] theorem touches_sequencer (hl : .cnv ∈ l) (o b : Block) : o.touches (sequencer b) l ↔ o.touches b l := by
  unfold sequencer
  dsimp only
  repeat' split
  all_goals simp [hl]

/-- The voltage loop moves the reference and its integral; V_REF and the state stand. -/
theorem voltageLoop_keeps (b : Block) : (voltageLoop b).cnv.st = b.cnv.st ∧ (voltageLoop b).cnv.vRef = b.cnv.vRef := by
  unfold voltageLoop
  split <;> exact ⟨rfl, rfl⟩

theorem sequencer_held (hst : b.cnv.st = .regulate) (hv : b.cnv.vCmdDue = false) (hh : b.hinge = true ∨ b.cnv.handOver ≠ none) : sequencer b = b := by
  unfold sequencer
  rw [hv]
  dsimp only
  rw [hst]
  exact if_pos (hh.imp id Option.isSome_iff_ne_none.mpr)

/-- The reference after a period of a soft stop (R235). -/
def CnvPart.stopped (c : CnvPart) : Int :=
  if 0 < c.iRef then max 0 (c.iRef - fxRound (fxMul (fxI (c.set.slewStop * 1000)) (fxQ c.set.tc secT)))
  else min 0 (c.iRef + fxRound (fxMul (fxI (c.set.slewStop * 1000)) (fxQ c.set.tc secT)))

theorem sequencer_softstop (hst : b.cnv.st = .softstop) (hv : b.cnv.vCmdDue = false) :
    (sequencer b).cnv.iRef = b.cnv.stopped ∧ ((sequencer b).cnv.stopZeroAt = none ↔ (sequencer b).cnv.iRef ≠ 0) := by
  have he : sequencer b = b.onCnv fun e => { e with
      iRef := b.cnv.stopped, stopZeroAt := if b.cnv.stopped = 0 then some (e.stopZeroAt.getD b.sys.now) else none } := by
    unfold sequencer
    rw [hv]
    dsimp only
    rw [hst]
    rcases h : b.cnv.stopZeroAt <;> simp only [Block.onCnv, h] <;> rfl
  rw [he]
  refine ⟨rfl, ?_⟩
  by_cases h0 : b.cnv.stopped = 0 <;> simp [h0]

/-- V_REF after a period of RAMP (R232). -/
def CnvPart.ramped (c : CnvPart) : Fx := slewRef (c.vRef.getD 0) (c.vTgt.getD 0) (fxMul (fxI c.slew) (fxQ c.set.tc secT))

theorem sequencer_ramp (hst : b.cnv.st = .ramp) (hv : b.cnv.vCmdDue = false) :
    (sequencer b).cnv.vRef = some b.cnv.ramped ∧ (sequencer b).cnv.st = if some b.cnv.ramped = b.cnv.vTgt then .settle else .ramp := by
  have he : sequencer b = voltageLoop (b.onCnv fun d => { d with vRef := some b.cnv.ramped, st := if some b.cnv.ramped = d.vTgt then .settle else .ramp }) := by
    unfold sequencer
    rw [hv]
    dsimp only
    rw [hst]
    rfl
  obtain ⟨hs, hr⟩ := voltageLoop_keeps (b.onCnv fun d => { d with vRef := some b.cnv.ramped, st := if some b.cnv.ramped = d.vTgt then .settle else .ramp })
  rw [he, hr, hs]
  exact ⟨rfl, rfl⟩

/-- A block that limits references as another does, and whose loop engine, phases and converter's state are the other's. -/
structure Block.regulatesAs (a b : Block) : Prop where
  st : a.cnv.st = .regulate
  phases : a.cnv.phases = b.cnv.phases
  set : a.cnv.set = b.cnv.set
  foldback : a.cnv.foldback = b.cnv.foldback

/-- Free to regulate, the sequencer takes the loop engine's output within the limits; what these rest on stands. -/
theorem sequencer_regulate (hst : b.cnv.st = .regulate) (hh : b.hinge = false) (ho : b.cnv.handOver = none) :
    (sequencer b).regulatesAs b ∧ (sequencer b).cnv.iRef = (b.limitRef b.loopOut).1 ∧ (sequencer b).cnv.clamped = (b.limitRef b.loopOut).2 := by
  have hlim (y : Block) (hy : y.regulatesAs b) (hs : y.sys = b.sys) (hl : y.latch = b.latch) (hloop : y.loop = b.loop) : y.limitRef y.loopOut = b.limitRef b.loopOut := by
    rw [limitRef_of_joined (b := b) (by rw [hs]) hl hy.set hy.foldback (by rw [hy.st, hst]) fun j => by rw [phase_of_phases hy.phases]; exact ⟨rfl, rfl⟩, Block.loopOut, hloop]
    rfl
  unfold sequencer
  extract_lets c ts b0
  have h0 : b0.regulatesAs b ∧ b0.sys = b.sys ∧ b0.latch = b.latch ∧ b0.loop = b.loop ∧ b0.pwr = b.pwr ∧ b0.cnv.handOver = none := by
    dsimp only [b0]
    split
    · exact ⟨⟨by simp [hst], rfl, rfl, rfl⟩, rfl, rfl, rfl, rfl, ho⟩
    · exact ⟨⟨hst, rfl, rfl, rfl⟩, rfl, rfl, rfl, rfl, ho⟩
  obtain ⟨hy, hs, hl, hloop, hp, ho⟩ := h0
  clear_value b0
  have hfree : ¬(b0.hinge = true ∨ b0.cnv.handOver.isSome = true) := by
    rw [ho, show b0.hinge = false by rw [Block.hinge, hp]; exact hh]
    decide
  rw [hy.st]
  dsimp only
  rw [if_neg hfree]
  exact ⟨⟨hy.st, hy.phases, hy.set, hy.foldback⟩, congrArg Prod.fst (hlim b0 hy hs hl hloop), congrArg Prod.snd (hlim b0 hy hs hl hloop)⟩

/-! #### The clauses of a period start -/

/-- After the fast limit the period start moves the converter alone. -/
theorem periodStart_touches (hmod : (b.phase k).st.modulating = true) (hst : b.cnv.st.modulates = true) (hfew : (b.phase k).ocRun < 7 ∨ b.cnv.st ≠ .regulate)
    (h : o.touches (b.periodBegun k) l) (hl : .cnv ∈ l) : o.touches (doPhasePeriodStart k b) l := by
  obtain ⟨w, off, he⟩ := periodStart_eq hmod hst hfew
  rw [he, touches_touch, touches_onPhase hl, touches_setDuty hl]
  split
  · rwa [touches_sequencer hl]
  · exact h

theorem periodStart_sys (hmod : (b.phase k).st.modulating = true) (hst : b.cnv.st.modulates = true) (hfew : (b.phase k).ocRun < 7 ∨ b.cnv.st ≠ .regulate) :
    (doPhasePeriodStart k b).sys = { b.sys with now := max b.sys.now (b.nextPeriod k) } :=
  periodStart_touches (l := [.cnv]) hmod hst hfew (touches_refl (b.periodBegun k) [.cnv]) (by decide) .sys (by decide) (by decide)

/-- The period start of the lowest-numbered modulating phase runs the sequencer; of the phases it changes this one. -/
theorem periodStart_leads (hmod : (b.phase k).st.modulating = true) (hst : b.cnv.st.modulates = true) (hfew : (b.phase k).ocRun < 7 ∨ b.cnv.st ≠ .regulate)
    (hhead : b.modPhases.head? = some k) :
    ∃ f : Phase → Phase, (∀ p, (f p).st = p.st ∧ (f p).joinAt = p.joinAt) ∧ (doPhasePeriodStart k b).cnv = (sequencer (b.periodBegun k)).cnv.onPhase k f := by
  obtain ⟨w, off, he⟩ := periodStart_eq hmod hst hfew
  obtain ⟨f, hf, hcnv⟩ := setDuty_cnv k (sequencer (b.periodBegun k))
  rw [he, if_pos hhead, Block.touch_cnv, onPhase_cnv, hcnv, CnvPart.onPhase_onPhase]
  exact ⟨fun p => Phase.started _ w off (f p), hf, rfl⟩

/-- A period start of a converter that modulates ends without an event that stops it. -/
theorem periodStart_happens {k : Fin 8} {P : Block → Prop} (hmod : (s.block.phase k).st.modulating = true) (hst : s.block.cnv.st.modulates = true)
    (hfew : (s.block.phase k).ocRun < 7 ∨ s.block.cnv.st ≠ .regulate) (hP : P (irqWatch s.block (doPhasePeriodStart k s.block))) :
    Happens (.phasePeriodStart k) s [.sys, .cnv] P := by
  refine happens_lit (f := doPhasePeriodStart k) (fun hd => ?_) rfl (periodStart_touches hmod hst hfew (by simp [Block.periodBegun]) (by decide))
    (by rw [periodStart_sys hmod hst hfew]) hP
  rcases hd with hd | hd <;> rw [hd] at hst <;> cases hst

theorem phasePeriodStart_held {k : Fin 8} {v w : Int} (hmod : (s.block.phase k).st.modulating = true) (hst : s.block.cnv.st = .regulate)
    (hh : s.block.hinge = true ∨ s.block.cnv.handOver ≠ none) (hv : s.block.vStrMv = some v) (hw : s.block.vLinkMv = some w) (hcmd : s.block.cnv.vCmdDue = false)
    (hrun : (s.block.phase k).ocRun < 7) (hk : k.val < s.block.cnv.phases.length) : Happens (.phasePeriodStart k) s [.sys, .cnv] fun b =>
      b.sys.now = max s.block.sys.now (s.block.nextPeriod k) ∧ (b.phase k).periodAt = some b.sys.now ∧ (b.phase k).iSum = { sum := 0, n := 0 } ∧ s.block.onlyPhase b k
      ∧ (b.phase k).duty = s.block.dutyOf k v w
      ∧ (b.phase k).comp.u = (fxMul (b.phase k).duty (fxI w) - fxI v - (s.block.phase k).trim) :: (s.block.phase k).comp.u.drop 1
      ∧ (b.phase k).ocRun = (if (s.block.phase k).ocThis then (s.block.phase k).ocRun + 1 else 0) ∧ (b.phase k).ocDark = (s.block.phase k).oc := by
  have hmods : s.block.cnv.st.modulates = true := by rw [hst]; rfl
  obtain ⟨wt, off, he⟩ := periodStart_eq hmod hmods (.inl hrun)
  have hy : (s.block.periodBegun k).cnv = s.block.cnv.onPhase k Phase.counted := periodBegun_cnv ..
  have hlink : (s.block.periodBegun k).vLinkMv = some w :=
    (vLinkMv_of_samples fun j => ⟨read_of_onPhase Phase.st hy (fun p => rfl) j, read_of_onPhase Phase.vLink hy (fun p => rfl) j⟩).trans hw
  have hduty : (s.block.periodBegun k).dutyOf k v w = s.block.dutyOf k v w := by
    rw [Block.dutyOf, phase_onPhase_self hy hk]
    rfl
  rw [sequencer_held (b := s.block.periodBegun k) (by rw [hy, CnvPart.onPhase_st, hst]) (by rw [hy]; exact hcmd) hh, ite_self,
    setDuty_later (b := s.block.periodBegun k) (by rw [hy, CnvPart.onPhase_st, hst]; decide) hv hlink, hduty] at he
  have hcnv : (irqWatch s.block (doPhasePeriodStart k s.block)).cnv = s.block.cnv.onPhase k fun p =>
      Phase.started (max s.block.sys.now (s.block.nextPeriod k)) wt off (Phase.driven (s.block.dutyOf k v w) v w p.counted) := by
    rw [irqWatch_cnv, he, Block.touch_cnv, onPhase_cnv, onPhase_cnv, hy, CnvPart.onPhase_onPhase, CnvPart.onPhase_onPhase]
  refine periodStart_happens hmod hmods (.inl hrun) ?_
  rw [irqWatch_sys, periodStart_sys hmod hmods (.inl hrun), phase_onPhase_self hcnv hk]
  exact ⟨rfl, rfl, rfl, onlyPhase_of_onPhase hcnv, rfl, rfl, rfl, rfl⟩

theorem phasePeriodStart_regulates {k : Fin 8} (hmod : (s.block.phase k).st.modulating = true) (hst : s.block.cnv.st = .regulate) (hh : s.block.hinge = false)
    (ho : s.block.cnv.handOver = none) (hhead : s.block.modPhases.head? = some k.val) (hrun : (s.block.phase k).ocRun < 7) :
    Happens (.phasePeriodStart k) s [.sys, .cnv] fun b =>
      b.cnv.iRef = (b.limitRef s.block.loopOut).1 ∧ b.cnv.clamped = (b.limitRef s.block.loopOut).2 ∧ ∀ j < 8, j ≠ k.val → b.phase j = s.block.phase j := by
  have hmods : s.block.cnv.st.modulates = true := by rw [hst]; rfl
  have hy : (s.block.periodBegun k).cnv = s.block.cnv.onPhase k Phase.counted := periodBegun_cnv ..
  obtain ⟨f, hf, hcnv⟩ := periodStart_leads hmod hmods (.inl hrun) hhead
  obtain ⟨hz, href, hclamp⟩ := sequencer_regulate (b := s.block.periodBegun k) hst hh ho
  have htouch := periodStart_touches (l := [.cnv]) hmod hmods (.inl hrun) (touches_refl (s.block.periodBegun k) _) (by decide)
  have hz' (j : Nat) : (sequencer (s.block.periodBegun k)).phase j = (s.block.periodBegun k).phase j := phase_of_phases hz.phases j
  have hlim : (irqWatch s.block (doPhasePeriodStart k s.block)).limitRef = (s.block.periodBegun k).limitRef := by
    rw [limitRef_of_same (irqWatch_cnv ..) (irqWatch_sys ..) (irqWatch_latch ..)]
    refine limitRef_of_joined (congrArg SysPart.now (htouch .sys (by decide) (by decide))) (htouch .latch (by decide) (by decide)) (by rw [hcnv, CnvPart.onPhase_set, hz.set])
      (by rw [hcnv]; exact hz.foldback) (by rw [hcnv, CnvPart.onPhase_st, hz.st, hy, CnvPart.onPhase_st, hst]) fun j => ?_
    rw [← hz' j]
    exact ⟨read_of_onPhase Phase.st hcnv (fun p => (hf p).1) j, read_of_onPhase Phase.joinAt hcnv (fun p => (hf p).2) j⟩
  refine periodStart_happens hmod hmods (.inl hrun) ?_
  rw [hlim, irqWatch_cnv, hcnv]
  refine ⟨href, hclamp, fun j _ hj => ?_⟩
  rw [phase_of_cnv (irqWatch_cnv ..), phase_onPhase_ne hcnv hj, hz', phase_onPhase_ne hy hj]

theorem phasePeriodStart_softstop {k : Fin 8} (hmod : (s.block.phase k).st.modulating = true) (hst : s.block.cnv.st = .softstop)
    (hhead : s.block.modPhases.head? = some k.val) (hcmd : s.block.cnv.vCmdDue = false) : Happens (.phasePeriodStart k) s [.sys, .cnv] fun b =>
      b.cnv.iRef = s.block.cnv.stopped ∧ (b.cnv.stopZeroAt = none ↔ b.cnv.iRef ≠ 0) := by
  have hmods : s.block.cnv.st.modulates = true := by rw [hst]; rfl
  have hne : s.block.cnv.st ≠ .regulate := by rw [hst]; decide
  obtain ⟨f, -, hcnv⟩ := periodStart_leads hmod hmods (.inr hne) hhead
  refine periodStart_happens hmod hmods (.inr hne) ?_
  rw [irqWatch_cnv, hcnv]
  exact sequencer_softstop (b := s.block.periodBegun k) hst hcmd

theorem phasePeriodStart_ramp {k : Fin 8} (hmod : (s.block.phase k).st.modulating = true) (hst : s.block.cnv.st = .ramp)
    (hhead : s.block.modPhases.head? = some k.val) (hcmd : s.block.cnv.vCmdDue = false) : Happens (.phasePeriodStart k) s [.sys, .cnv] fun b =>
      b.cnv.vRef = some s.block.cnv.ramped ∧ b.cnv.st = if b.cnv.vRef = s.block.cnv.vTgt then .settle else .ramp := by
  have hmods : s.block.cnv.st.modulates = true := by rw [hst]; rfl
  have hne : s.block.cnv.st ≠ .regulate := by rw [hst]; decide
  obtain ⟨f, -, hcnv⟩ := periodStart_leads hmod hmods (.inr hne) hhead
  obtain ⟨href, hst'⟩ := sequencer_ramp (b := s.block.periodBegun k) hst hcmd
  refine periodStart_happens hmod hmods (.inr hne) ?_
  rw [irqWatch_cnv, hcnv]
  exact ⟨href, hst'.trans (by rw [show (CnvPart.onPhase _ _ _).vRef = _ from href]; rfl)⟩

/-! #### The eighth fast limit in a row (R214, R225) -/

/-- A phase at its eighth fast limit in a row. -/
def Phase.tripped (now : Nat) (p : Phase) : Phase :=
  { p.counted with ocRun := 0, hiccups := satAdd 65535 p.hiccups 1, hiccupAt := now :: p.hiccupAt.filter fun x => decide (now < x + 2 * secT) }

/-- What becomes of it: OUT at the third time within 2 s, else HICCUP. -/
def Phase.fallen (now : Nat) (p : Phase) : Phase :=
  if 2 ≤ (p.hiccupAt.filter fun x => decide (now < x + 2 * secT)).length then { p.tripped now with outr := 3 }.entered .out now else (p.tripped now).entered .hiccup now

theorem countOc_trips (hst : b.cnv.st = .regulate) (hoc : (b.phase k).ocThis = true) (hrun : 7 ≤ (b.phase k).ocRun) (hspare : b.phaseToSpare = true) :
    (countOc k b).cnv = b.cnv.onPhase k (Phase.fallen b.sys.now) ∧ b.touches (countOc k b) [.cnv] := by
  unfold countOc
  extract_lets p t run b1 recent b2
  have hrun8 : run = p.ocRun + 1 := if_pos hoc
  have hb2 : b2.cnv = b.cnv.onPhase k (Phase.tripped t) := by
    refine (CnvPart.onPhase_onPhase ..).trans (cnv_onPhase_congr ?_)
    simp only [Phase.tripped, Phase.counted, recent, p]
  have ht2 : b.touches b2 [.cnv] := by simp [b2, b1]
  have hs2 : b2.sys = b.sys := rfl
  have hlen : recent.length = (p.hiccupAt.filter fun x => decide (t < x + 2 * secT)).length + 1 := rfl
  clear_value b2
  rw [if_neg (by rw [hst]; have : 7 ≤ p.ocRun := hrun; simp; omega)]
  have hif : 3 ≤ recent.length ↔ 2 ≤ ((b.phase k).hiccupAt.filter fun x => decide (b.sys.now < x + 2 * secT)).length := by rw [hlen]; exact Nat.succ_le_succ_iff
  by_cases h3 : 3 ≤ recent.length
  · rw [if_pos h3, phaseOut_spared hspare hb2 (by rw [hs2])]
    refine ⟨?_, by simp [ht2]⟩
    rw [note_cnv, setPhase_cnv, onPhase_cnv, hb2, CnvPart.onPhase_onPhase, CnvPart.onPhase_onPhase, onPhase_sys, hs2]
    exact cnv_onPhase_congr (if_pos (hif.mp h3)).symm
  · rw [if_neg h3, dropPhase_spared hspare ((note_cnv ..).trans hb2) (by rw [note_sys, hs2])]
    refine ⟨?_, by simp [ht2]⟩
    rw [setPhase_cnv, note_cnv, hb2, CnvPart.onPhase_onPhase, note_sys, hs2]
    exact cnv_onPhase_congr (if_neg (mt hif.mpr h3)).symm

theorem Phase.fallen_st (now : Nat) (p : Phase) : (p.fallen now).st.modulating = false := by
  unfold Phase.fallen
  split <;> rfl

theorem phasePeriodStart_trips {k : Fin 8} (hmod : (s.block.phase k).st.modulating = true) (hst : s.block.cnv.st = .regulate) (hspare : s.block.phaseToSpare = true)
    (hoc : (s.block.phase k).ocThis = true) (hrun : 7 ≤ (s.block.phase k).ocRun) (hk : k.val < s.block.cnv.phases.length) :
    Happens (.phasePeriodStart k) s [.sys, .cnv] fun b =>
      s.block.onlyPhase b k ∧ (b.phase k).hiccups = satAdd 65535 (s.block.phase k).hiccups 1 ∧ (b.phase k).ocRun = 0
      ∧ (if 2 ≤ ((s.block.phase k).hiccupAt.filter fun x => decide (b.sys.now < x + 2 * secT)).length then (b.phase k).st = .out ∧ (b.phase k).outr = 3 else (b.phase k).st = .hiccup) := by
  let y := s.block.at (s.block.nextPeriod k)
  obtain ⟨hcnv, ht⟩ := countOc_trips (b := y) hst hoc hrun hspare
  have hphase : (countOc k y).phase k = (s.block.phase k).fallen y.sys.now := phase_onPhase_self hcnv hk
  have he : doPhasePeriodStart k s.block = countOc k y := by
    rw [doPhasePeriodStart, if_neg (by simp [hmod, hst, CState.modulates])]
    exact if_pos (.inl (by rw [hphase, Phase.fallen_st]))
  have hsys : (countOc k y).sys = y.sys := ht .sys (by decide) (by decide)
  refine happens_lit (f := doPhasePeriodStart k) (not_dark_of_st hst (by decide) (by decide)) rfl ?_ (by rw [he, hsys]; simp [y]) ?_
  · rw [he]
    exact Block.touches.trans (by simp [y]) (ht.mono (by decide))
  · rw [he, phase_of_cnv (irqWatch_cnv ..), irqWatch_sys, hphase, hsys]
    refine ⟨onlyPhase_of_onPhase ((irqWatch_cnv ..).trans hcnv), ?_, ?_, ?_⟩
    all_goals unfold Phase.fallen; split
    · rfl
    · rfl
    · rfl
    · rfl
    · exact ⟨rfl, rfl⟩
    · rfl

end
end Sys2Proof.Machine

namespace Sys2Proof.Machine

/-! ### Compensators (R220, R221, R227, R229) -/

section
variable {a b : Block} {k j : Nat} {f : Phase → Phase} {s : State} {l : List PartName}

/-- Of the converter the foldback's check moves the foldback alone (R227). -/
theorem foldCheck_cnv (b : Block) : (foldCheck b).cnv = { b.cnv with foldback := (foldCheck b).cnv.foldback } := by
  unfold foldCheck
  extract_lets m any low
  split
  · exact note_cnv ..
  · split <;> rfl

@[simp] theorem touches_foldCheck (hl : .cnv ∈ l) (o b : Block) : o.touches (foldCheck b) l ↔ o.touches b l := by
  unfold foldCheck
  extract_lets m any low
  split
  · simp [hl]
  · split <;> simp [hl]

/-- A phase at the limit of its I²t brings the foldback (R227). -/
theorem foldCheck_folds (hk : k < b.cnv.phases.length) (hq : fxI b.cnv.set.i2tMax ≤ (b.phase k).q) : (foldCheck b).cnv.foldback = true := by
  have hmem : b.phase k ∈ b.cnv.phases := by
    rw [Block.phase, List.getD_eq_getElem _ _ hk]
    exact List.getElem_mem hk
  have hm : 0 ≤ fxI b.cnv.set.i2tMax := Int.mul_nonneg (Int.natCast_nonneg _) (by decide)
  have hany : (b.cnv.phases.any fun p => decide (fxI b.cnv.set.i2tMax ≤ p.q)) = true := List.any_eq_true.mpr ⟨_, hmem, by simpa using hq⟩
  have hlow : (b.cnv.phases.all fun p => decide (2 * p.q < fxI b.cnv.set.i2tMax)) = false := by
    refine List.all_eq_false.mpr ⟨_, hmem, ?_⟩
    have hdouble (m q : Int) (h0 : 0 ≤ m) (h : m ≤ q) : ¬2 * q < m := by omega
    simpa using hdouble _ _ hm hq
  unfold foldCheck
  dsimp only
  rw [hany, hlow]
  rcases hf : b.cnv.foldback <;> simp [hf, note_cnv]

/-- The cross-check moves its own marks alone (R229). -/
theorem xchkTrack_cnv (b : Block) : (xchkTrack b).cnv = { b.cnv with xchkAt := (xchkTrack b).cnv.xchkAt, xchkNoted := (xchkTrack b).cnv.xchkNoted } := rfl

@[simp] theorem touches_xchkTrack (hl : .cnv ∈ l) (o b : Block) : o.touches (xchkTrack b) l ↔ o.touches b l := touches_onCnv hl ..

/-- A phase after its compensator's step: the mean current taken, trim and I²t moved, the new output and error first in the histories. -/
def Phase.stepped (mean : Int) (tau q u e : Fx) (p : Phase) : Phase :=
  { p with iMean := mean, iSum := { sum := 0, n := 0 }, trim := tau, q := q, comp := { p.comp with u := (u :: p.comp.u).take 3, e := (e :: p.comp.e).take 3 } }

/-- The mean current of the period that ends. -/
def Phase.mean (p : Phase) : Int := if p.iSum.n = 0 then p.i else divNear p.iSum.sum p.iSum.n

/-- The sum of the currents with that of phase `k` renewed. -/
def Block.sumWith (b : Block) (k : Nat) (mean : Int) : Int := (b.modPhases.map fun j => if j = k then mean else (b.phase j).iMean).foldl (· + ·) 0

/-- I²t after a period of that mean current (R227). -/
def Block.heated (b : Block) (q : Fx) (mean : Int) : Fx :=
  max 0 (q + fxMul (fxMul (fxQ mean 1000) (fxQ mean 1000) - fxMul (fxQ b.cnv.set.iPhCont 1000) (fxQ b.cnv.set.iPhCont 1000)) (fxQ b.cnv.set.tc secT))

/-- The compensator's step without excitation: the phase stepped, the sum taken, then the checks of foldback and of the sum. -/
theorem doCompensatorStep_eq {t : Nat} (hmod : (b.phase k).st.modulating = true) (hst : b.cnv.st.modulates = true) (ht : (b.phase k).periodAt = some t)
    (hk : k < b.cnv.phases.length) (hx : b.hinge = true ∨ b.imp.x = 0) : ∃ tau e clamped, doCompensatorStep k b =
      (xchkTrack (foldCheck ((onPhase k (Phase.stepped (b.phase k).mean tau (b.heated (b.phase k).q (b.phase k).mean) (compOut (b.phase k).comp e) e)
        (b.at (t + b.cnv.set.tc))).onCnv fun d => { d with iSum := b.sumWith k (b.phase k).mean, clamped := clamped }))).touch cnvTiles := by
  unfold doCompensatorStep
  extract_lets p c b0 mean b1 sum w x r e u tcms tmax err tau ip ik q b2 b3
  rw [if_neg (by simp [p, hmod, hst, ht])]
  have hb1 : b1.cnv = b.cnv.onPhase k fun p => { p with iMean := mean, iSum := { sum := 0, n := 0 } } := rfl
  have hx0 : x = 0 := by
    rcases hx with hx | hx
    · exact if_pos hx
    · exact (ite_congr rfl (fun _ => rfl) fun _ => hx).trans (ite_self 0)
  have hsum : sum = b.sumWith k mean := by
    refine congrArg (fun l : List Int => l.foldl (· + ·) 0) ?_
    rw [modPhases_of_onPhase hb1 fun p => rfl]
    refine List.map_congr_left fun j _ => ?_
    by_cases hj : j = k
    · subst hj
      rw [phase_onPhase_self hb1 hk, if_pos rfl]
    · rw [phase_onPhase_ne hb1 hj, if_neg hj]
  have hb2 : b2 = onPhase k (Phase.stepped mean tau q u e) b0 := congrArg (fun c => b0.onCnv fun _ => c) (CnvPart.onPhase_onPhase ..)
  have hclip : (if r.2 = true ∧ x ≠ 0 then markClip b3 else b3) = b3 := if_neg fun h => h.2 hx0
  have ht' : p.periodAt.getD 0 = t := by rw [show p.periodAt = some t from ht]; rfl
  refine ⟨tau, e, b2.cnv.clamped || r.2, ?_⟩
  rw [hclip, show b3 = b2.onCnv fun d => { d with iSum := sum, clamped := d.clamped || r.2 } from rfl, hsum, hb2, show b0 = b.at (t + b.cnv.set.tc) by rw [← ht']]
  rfl

theorem compensatorStep_happens {k : Fin 8} {t : Nat} {mean sum : Int} (hmod : (s.block.phase k).st.modulating = true) (hst : s.block.cnv.st.modulates = true)
    (ht : (s.block.phase k).periodAt = some t) (hk : k.val < s.block.cnv.phases.length) (hmean : mean = (s.block.phase k).mean) (hsum : sum = s.block.sumWith k mean)
    (hx : s.block.hinge = true ∨ s.block.imp.x = 0) : Happens (.compensatorStep k) s [.sys, .cnv] fun b =>
      b.sys.now = max s.block.sys.now (t + s.block.cnv.set.tc) ∧ (b.phase k).iMean = mean ∧ (b.phase k).iSum = { sum := 0, n := 0 } ∧ b.cnv.iSum = sum ∧ b.cnv.iRef = s.block.cnv.iRef
      ∧ (b.phase k).comp.u.head? = some (compOut (s.block.phase k).comp ((b.phase k).comp.e.headD 0)) ∧ (b.phase k).comp.coef = (s.block.phase k).comp.coef
      ∧ (b.phase k).q = s.block.heated (s.block.phase k).q mean ∧ (fxI s.block.cnv.set.i2tMax ≤ (b.phase k).q → b.cnv.foldback = true)
      ∧ ∀ j < 8, j ≠ k.val → b.phase j = s.block.phase j := by
  subst hsum hmean
  obtain ⟨tau, e, clamped, he⟩ := doCompensatorStep_eq hmod hst ht hk hx
  let y := (onPhase k (Phase.stepped (s.block.phase k).mean tau (s.block.heated (s.block.phase k).q (s.block.phase k).mean) (compOut (s.block.phase k).comp e) e)
    (s.block.at (t + s.block.cnv.set.tc))).onCnv fun d => { d with iSum := s.block.sumWith k (s.block.phase k).mean, clamped := clamped }
  have hyself : y.phase k = (s.block.phase k).stepped (s.block.phase k).mean tau (s.block.heated (s.block.phase k).q (s.block.phase k).mean) (compOut (s.block.phase k).comp e) e :=
    getD_modAt_self hk
  have hyne (j : Nat) (hj : j ≠ k.val) : y.phase j = s.block.phase j := getD_modAt_ne hj
  have hylen : k.val < y.cnv.phases.length := (CnvPart.onPhase_length ..).symm ▸ hk
  have hcnv : (irqWatch s.block (doCompensatorStep k s.block)).cnv = (xchkTrack (foldCheck y)).cnv := by rw [irqWatch_cnv, he, Block.touch_cnv]
  have hphases : (xchkTrack (foldCheck y)).cnv.phases = y.cnv.phases := by rw [xchkTrack_cnv, foldCheck_cnv]
  have hphase (j : Nat) : (irqWatch s.block (doCompensatorStep k s.block)).phase j = y.phase j := phase_of_phases (by rw [hcnv, hphases]) j
  have hfold : (xchkTrack (foldCheck y)).cnv.foldback = (foldCheck y).cnv.foldback := by rw [xchkTrack_cnv]
  have hsys : (doCompensatorStep k s.block).sys = { s.block.sys with now := max s.block.sys.now (t + s.block.cnv.set.tc) } := by
    rw [he, Block.touch_sys]
    exact ((touches_xchkTrack (l := [.cnv]) (by decide) ..).mpr ((touches_foldCheck (by decide) ..).mpr (touches_refl y _))) .sys (by decide) (by decide)
  refine happens_same_st (f := doCompensatorStep k) rfl (by simp [he]) (by rw [hsys]) (by rw [he, Block.touch_cnv, xchkTrack_cnv, foldCheck_cnv]; rfl) ?_
  rw [irqWatch_sys, hsys, hphase, hyself, hcnv, hfold]
  refine ⟨rfl, rfl, rfl, by rw [xchkTrack_cnv, foldCheck_cnv]; rfl, by rw [xchkTrack_cnv, foldCheck_cnv]; rfl, rfl, rfl, rfl, fun hq => ?_, fun j _ hj => ?_⟩
  · exact foldCheck_folds hylen (by rw [hyself]; exact hq)
  · rw [hphase, hyne j hj]

/-! ### Retuning (R222, R223) -/

theorem retuneLatch_happens {k : Fin 8} {x : Staged} (hx : (s.block.phase k).comp.staged = some x) (hh : s.block.hinge = false) (hk : k.val < s.block.cnv.phases.length) :
    Happens (.retuneLatch k) s [.sys, .cnv] fun b => b.sys.now = max s.block.sys.now x.due ∧ s.block.onlyPhase b k
      ∧ (b.phase k).comp = { (s.block.phase k).comp with coef := x.coef, fc := x.fc, src := 1, staged := none, retunes := satAdd 65535 (s.block.phase k).comp.retunes 1 } := by
  let f (p : Phase) : Phase := { p with comp := { p.comp with coef := x.coef, fc := x.fc, src := 1, staged := none, retunes := satAdd 65535 p.comp.retunes 1 } }
  have he : ∃ d, doRetuneLatch k s.block = (note .cnvRetune k d (onPhase k f (s.block.at x.due))).touch cnvTiles := by
    rw [doRetuneLatch, hx]
    exact ⟨_, if_neg (by rw [hh]; decide)⟩
  obtain ⟨d, he⟩ := he
  have hcnv : (irqWatch s.block (doRetuneLatch k s.block)).cnv = s.block.cnv.onPhase k f := by rw [irqWatch_cnv, he, Block.touch_cnv, note_cnv, onPhase_cnv, Block.at_cnv]
  refine happens_same_st (f := doRetuneLatch k) rfl (by simp [he]) (by simp [he]) (by simp [he]) ?_
  rw [phase_onPhase_self hcnv hk]
  exact ⟨by simp [he], onlyPhase_of_onPhase hcnv, rfl⟩

theorem retuneLatch_held {k : Fin 8} (hh : s.block.hinge = true) : Happens (.retuneLatch k) s [] fun _ => True := by
  refine happens_nothing (f := doRetuneLatch k) rfl ?_
  rw [doRetuneLatch]
  split
  · rfl
  · exact if_pos hh

/-- What an accepted retune stages: within the Floor's bounds, due 1 ms on (R223). -/
def Block.stages (b : Block) (x : Staged) : Prop :=
  x.due = b.sys.now + msT ∧ b.lMin ≤ x.l ∧ x.l ≤ b.lMax ∧ ∀ i < 7, floorCoefLo b.floor i ≤ x.coef.getD i 0 ∧ x.coef.getD i 0 ≤ floorCoefHi b.floor i

/-- A retune of one phase: judged, and staged when it is accepted (R223). -/
theorem retunePhase_judges (job : Nat) (freqs : List Fx) (k : Nat) (b : Block) (hen : b.cnv.set.tuneEn = true) : ∃ (f : Phase → Phase) (rej : Nat) (x : Staged),
    (retunePhase job freqs k b).cnv = b.cnv.onPhase k f ∧ b.touches (retunePhase job freqs k b) [.cnv] ∧ (rej = 0 → b.stages x)
    ∧ (f (b.phase k)).comp.coef = (b.phase k).comp.coef ∧ (f (b.phase k)).comp.jobId = job ∧ (f (b.phase k)).comp.rej = rej
    ∧ (f (b.phase k)).comp.staged = if rej = 0 then some x else (b.phase k).comp.staged := by
  unfold retunePhase
  extract_lets p c pts fc floor
  split
  next r l res hfit =>
  extract_lets lN rU coef inFloor
  split
  next pm gm hmargins =>
  extract_lets rej x b1
  have hrej (h : rej = 0) : b.stages x := by
    dsimp only [rej] at h
    split_ifs at h with hfew hres hl hmargin hfloor hactive
    obtain ⟨hlo, hhi⟩ := not_or.mp hl
    have hcoef : inFloor = true := by simpa using hfloor
    simp only [inFloor, List.all_eq_true, List.mem_range, Bool.and_eq_true, decide_eq_true_eq] at hcoef
    exact ⟨rfl, not_lt.mp hlo, not_lt.mp hhi, hcoef⟩
  refine ⟨fun p => { p with comp := { p.comp with
    lEst := lN, rEst := rU, pm := pm, gm := gm, rej := rej, jobId := job, resid := enc16 res, staged := if rej = 0 ∧ c.tuneEn = true then some x else p.comp.staged } },
    rej, x, ?_, ?_, hrej, rfl, rfl, rfl, ?_⟩
  · rw [Block.touch_cnv, apply_ite Block.cnv, note_cnv, ite_self]
    rfl
  · rw [touches_touch]
    split <;> simp [b1]
  · simp only [show c.tuneEn = true from hen, and_true]

/-- The phases of a retune are those that modulate, when no other was ACTIVE throughout (R223). -/
theorem retune_one {job : Nat} {freqs : List Fx} (hmods : b.modPhases = [k]) (hrest : ∀ j < 8, j ≠ k → (b.phase j).activeAll = false) :
    retune job freqs b = retunePhase job freqs k b := by
  have hk : (b.phase k).st.modulating = true := (mem_modPhases.mp (hmods ▸ List.mem_singleton_self k)).2
  have hfilter : ((List.range 8).filter fun j => (b.phase j).st.modulating || (b.phase j).activeAll) = [k] := by
    rw [← hmods, Block.modPhases]
    refine List.filter_congr fun j hj => ?_
    by_cases hjk : j = k
    · rw [hjk, hk, Bool.true_or]
    · rw [hrest j (List.mem_range.mp hj) hjk, Bool.or_false]
  rw [retune, hfilter]
  rfl

theorem identHandover_retunes {r : BandDone} {k : Fin 8} (hr : s.block.imp.bandDone = some r) (hw : r.written = true) (ho : r.handOver = false) (ht : r.retune = true)
    (hmods : s.block.modPhases = [k.val]) (hrest : ∀ j < 8, j ≠ k.val → (s.block.phase j).activeAll = false) (hen : s.block.cnv.set.tuneEn = true)
    (hk : k.val < s.block.cnv.phases.length) : Happens .identHandover s [.sys, .imp, .cnv] fun b =>
      s.block.onlyPhase b k ∧ (b.phase k).comp.coef = (s.block.phase k).comp.coef ∧ (b.phase k).comp.jobId = r.job
      ∧ if (b.phase k).comp.rej = 0 then (∃ x ∈ (b.phase k).comp.staged, x.due = b.sys.now + msT ∧ s.block.lMin ≤ x.l ∧ x.l ≤ s.block.lMax
            ∧ ∀ i < 7, floorCoefLo s.block.floor i ≤ x.coef.getD i 0 ∧ x.coef.getD i 0 ≤ floorCoefHi s.block.floor i)
          else (b.phase k).comp.staged = (s.block.phase k).comp.staged := by
  let y := (s.block.at (r.endAt + 6 * msT)).onImp fun i => { i with bandDone := none }
  let freqs := s.block.imp.jobSet.reqs.map measuredHz
  have he : doIdentHandover s.block = retunePhase r.job freqs k y := by
    rw [doIdentHandover, hr, ← retune_one (b := y) hmods hrest]
    simp only [hw, ho, ht]
    rfl
  obtain ⟨f, rej, x, hcnv, htouch, hstage, hcoef, hjob, hrej, hstaged⟩ := retunePhase_judges r.job freqs k y hen
  have hcnv' : (irqWatch s.block (doIdentHandover s.block)).cnv = s.block.cnv.onPhase k f := by rw [irqWatch_cnv, he, hcnv]; rfl
  have hsys : (doIdentHandover s.block).sys = y.sys := by rw [he]; exact htouch .sys (by decide) (by decide)
  have hphase : y.phase k = s.block.phase k := rfl
  rw [hphase] at hcoef hjob hrej hstaged
  refine happens_same_st (f := doIdentHandover) rfl ?_ (by rw [hsys]; simp [y]) (by rw [he, hcnv]; rfl) ?_
  · rw [he]
    exact Block.touches.trans (by simp [y]) (htouch.mono (by decide))
  · rw [phase_onPhase_self hcnv' hk, irqWatch_sys, hsys, hcoef, hjob, hrej, hstaged]
    refine ⟨onlyPhase_of_onPhase hcnv', rfl, rfl, ?_⟩
    by_cases h0 : rej = 0
    · rw [if_pos h0, if_pos h0]
      exact ⟨x, rfl, hstage h0⟩
    · rw [if_neg h0, if_neg h0]

end

/-- Settles O25: each command's clause by its own lemma above. -/
theorem phasePeriodsStepTheCompensators : Obligations.PhasePeriodsStepTheCompensators := by
  unfold Obligations.PhasePeriodsStepTheCompensators
  exact ⟨fun _ _ _ _ => phasePeriodStart_held, fun _ _ hmod hst hh ho hhead hrun _ => phasePeriodStart_regulates hmod hst hh ho hhead hrun,
    fun _ _ hmod hst hhead hcmd _ => phasePeriodStart_softstop hmod hst hhead hcmd, fun _ _ hmod hst hhead hcmd _ => phasePeriodStart_ramp hmod hst hhead hcmd,
    fun _ _ => phasePeriodStart_trips, fun _ _ _ _ _ => compensatorStep_happens, fun _ _ _ => retuneLatch_happens, fun _ _ => retuneLatch_held,
    fun _ _ _ => identHandover_retunes⟩

end Sys2Proof.Machine

namespace Sys2Proof.Machine

/-! ### The converter commands (R214, R216, R224, R234, R240) -/

section
variable {i : Instr} {s : State} {src : Src} {rule : Block → HostRule} {op : Nat} {l : List PartName} {data : List Byte} {ts : List Nat}
  {x : Block} {P : Block → Prop}

/-- A host command that has the effect `x`, which leaves the converter in its state and the request, and then completes. -/
theorem serves_same_st (hi : exec i s = effect (host src rule) s) (ho : (rule s.block).opcode = op) (hw : (rule s.block).owner = true)
    (hs : (rule s.block).stateOk = true) (hp : (rule s.block).param = none)
    (hact : (rule s.block).act (s.block.taken src op) = (complete src .ok data x).touch ts) (ht : (s.block.taken src op).touches x l)
    (hm : x.sys.mstate = s.block.sys.mstate) (hst : x.cnv.st = s.block.cnv.st) (hP : ∀ b : Block, b.unserved = x.unserved → P b)
    (hl : (.latch ∉ l ∧ .pwr ∉ l ∧ .sec ∉ l) ∧ .ix ∉ l := by decide) : Serves i s src op true l .ok data P := fun hset ha => by
  obtain ⟨hl, hix⟩ := hl
  have hx : x.ix = (acceptRequest src op [] true s.block).ix := ht .ix hix (by decide)
  refine ends_taken hi ha ho hw hs hp hact ?_ ⟨hP _ ?_, answered_irqWatch (answered_touch (answered_complete ha rfl rfl hx)), changesOnly_of_touches_served ?_⟩
  · rw [touch_settled, complete_settled, settled_of_st ht (by rw [hm, taken_sys]) (by rw [hst, taken_cnv]) hl, taken_settled, hset]
  · rw [irqWatch_unserved, Block.touch_unserved, complete_unserved]
  · rw [touches_irqWatch, touches_touch, touches_complete_servedBy (List.subset_append_right _ _)]
    exact touches_of_taken ht

/-- A host command that changes stored settings of the converter, by the effect `x`, and then completes. -/
theorem serves_cnvSetting (hi : exec i s = effect (host src rule) s) (ho : (rule s.block).opcode = op) (hw : (rule s.block).owner = true)
    (hs : (rule s.block).stateOk = true) (hp : (rule s.block).param = none)
    (hact : (rule s.block).act (s.block.taken src op) = (complete src .ok data (settingChanged x)).touch ts) (ht : (s.block.taken src op).touches x l)
    (hst : x.cnv.st = s.block.cnv.st) (hP : ∀ b : Block, b.unserved = (settingChanged x).unserved → b.cnv = x.cnv → s.block.storesSettings b → P b)
    (hl : (.latch ∉ l ∧ .pwr ∉ l ∧ .sec ∉ l) ∧ .ix ∉ l ∧ .sys ∉ l ∧ .upd ∉ l := by decide) : Serves i s src op true (l ++ [.upd]) .ok data P := by
  obtain ⟨hlock, hix, hsys, hupd⟩ := hl
  have hxs : x.sys = s.block.sys := (ht .sys hsys (by decide)).trans (taken_sys ..)
  have hxu : x.upd = s.block.upd := (ht .upd hupd (by decide)).trans (taken_upd ..)
  refine serves_same_st hi ho hw hs hp hact ?_ (by rw [settingChanged_sys, hxs]) hst (fun b hb => hP b hb ((cnv_of_unserved hb).trans (settingChanged_cnv x)) ?_) (by simpa using ⟨hlock, hix⟩)
  · rw [touches_settingChanged (by simp)]
    exact ht.mono (by simp)
  · rw [Block.storesSettings, upd_of_unserved hb, settingChanged_upd, hxs, hxu]

/-- A command that sets the converter's settings, and nothing else of it. -/
theorem serves_cnvSet (f : CnvSet → CnvSet) (hi : exec i s = effect (host src rule) s) (ho : (rule s.block).opcode = op) (hw : (rule s.block).owner = true)
    (hs : (rule s.block).stateOk = true) (hp : (rule s.block).param = none)
    (hact : (rule s.block).act (s.block.taken src op) = (complete src .ok [] (settingChanged ((s.block.taken src op).onCnv fun c => { c with set := f c.set }))).touch cnvTiles) :
    Serves i s src op true [.cnv, .upd] .ok [] fun b => s.block.storesSettings b ∧ b.cnv = { s.block.cnv with set := f s.block.cnv.set } :=
  serves_cnvSetting (l := [.cnv]) hi ho hw hs hp hact (by simp) (by simp) fun b _ hcnv hset => ⟨hset, by rw [hcnv, Block.onCnv_cnv, taken_cnv]⟩

end

section
variable {s : State} {src : Src} {b : Block} {k : Nat}

/-- A value within its range and within the Floor is accepted. -/
theorem within_eq_none {ok bad : Bool} (hok : ok = true) (hbad : bad = false) : andThen (need ok) (deny bad) = none := by
  rw [need_eq_none.mpr hok, deny, hbad]
  rfl

theorem targetCheck_eq_none {v : Int} (hv : v = 0 ∨ (500000 ≤ v ∧ v ≤ 3000000)) (hmax : v ≤ b.vlinkMax) : targetCheck b v = none :=
  within_eq_none (decide_eq_true hv) (decide_eq_false (not_lt.mpr hmax))

/-! #### Settings alone -/

theorem cnvSetCarrier_serves {tc lockSrc packIdx packSize syncDly : Nat} (hm : s.block.sys.mstate = .park) (h1 : 2500 ≤ tc) (h2 : tc ≤ 12500) (h3 : lockSrc ≤ 2) (h4 : packIdx ≤ 31)
    (h5 : packIdx < packSize) (h6 : packSize ≤ 32) (h7 : syncDly ≤ 1000) (h8 : packSize = 1 ∨ lockSrc ≠ 0) :
    Serves (.cnvSetCarrier src tc lockSrc packIdx packSize syncDly) s src 0x0701 true [.sense, .cnv, .upd] .ok [] fun b =>
      b.cnv.set = { s.block.cnv.set with tc := tc, lockSrc := lockSrc, packIdx := packIdx, packSize := packSize, syncDly := syncDly } ∧ b.cnv.locked = false ∧ b.cnv.refSeen = false
      ∧ b.sense.rate = s.block.sense.rate ∧ s.block.storesSettings b := by
  let y := s.block.taken src 0x0701
  let y1 := y.onCnv fun c => { c with
    set := { c.set with tc := tc, lockSrc := lockSrc, packIdx := packIdx, packSize := packSize, syncDly := syncDly }
    locked := false, refSeen := false, syncRef := none, alignRun := 0, syncMiss := 0, nextRef := 0 }
  let y2 := restartWindows y.sys.now tc y1
  let x := noteLock 1 y2.sense.win1 (noteLock 0 y2.sense.win0 y2)
  have hcnv : x.cnv = y1.cnv := by simp only [x, noteLock, apply_ite Block.cnv, note_cnv, ite_self]; rfl
  have hrate : x.sense.rate = s.block.sense.rate := by
    rw [noteLock_sense, noteLock_sense, ← taken_sense s.block src 0x0701]
    rfl
  refine serves_cnvSetting (l := [.sense, .cnv]) (x := x) (rule := ruleCnvSetCarrier src tc lockSrc packIdx packSize syncDly) rfl rfl rfl (decide_eq_true hm)
    (need_eq_none.mpr (decide_eq_true ⟨h1, h2, h3, h4, by omega, h6, h7, h5, by omega⟩)) rfl (by simp [x, y2, y1, y, restartWindows]) (by rw [hcnv]; simp [y1, y])
    fun b hb hcnv' hset => ?_
  rw [hcnv', hcnv, sense_of_unserved hb, settingChanged_sense, hrate]
  exact ⟨by simp [y1, y], rfl, rfl, rfl, hset⟩

theorem cnvSetModulation_serves {deadTime dMin dMax trimMax shareGain : Nat} (hm : s.block.sys.mstate ≠ .run) (h1 : 100 ≤ deadTime) (h2 : deadTime ≤ 5000) (h3 : dMin ≤ 0x80000000)
    (h4 : 0x80000000 ≤ dMax) (h5 : dMax ≤ 0xFFFFFFFF) (h6 : dMin < dMax) (h7 : trimMax ≤ 0x0CCCCCCD) (h8 : 1 ≤ shareGain) (h9 : shareGain ≤ 1000) (hf : s.block.dtMin ≤ deadTime) :
    Serves (.cnvSetModulation src deadTime dMin dMax trimMax shareGain) s src 0x0703 true [.cnv, .upd] .ok [] fun b => s.block.storesSettings b
      ∧ b.cnv = { s.block.cnv with set := { s.block.cnv.set with deadTime := deadTime, dMin := dMin, dMax := dMax, trimMax := trimMax, shareGain := shareGain } } :=
  serves_cnvSet (rule := ruleCnvSetModulation src deadTime dMin dMax trimMax shareGain)
    (fun c => { c with deadTime := deadTime, dMin := dMin, dMax := dMax, trimMax := trimMax, shareGain := shareGain }) rfl rfl rfl (decide_eq_true hm)
    (within_eq_none (decide_eq_true ⟨h1, h2, h3, h4, h5, h6, h7, h8, h9⟩) (decide_eq_false (not_lt.mpr hf))) rfl

theorem cnvSetSoftstart_serves {vTarget : Int} {slewV ilimSs ssTimeout kpv kiv slewStop : Nat} (h1 : 1000 ≤ slewV) (h2 : slewV ≤ 10000000) (h3 : 5000 ≤ ilimSs) (h4 : ilimSs ≤ 200000)
    (h5 : 1000 ≤ ssTimeout) (h6 : ssTimeout ≤ 600000) (h7 : 10 ≤ kpv) (h8 : kpv ≤ 100000) (h9 : kiv ≤ 1000000) (h10 : 1000 ≤ slewStop) (h11 : slewStop ≤ 1000000)
    (hv : vTarget = 0 ∨ (500000 ≤ vTarget ∧ vTarget ≤ 3000000)) (hmax : vTarget ≤ s.block.vlinkMax) :
    Serves (.cnvSetSoftstart src vTarget slewV ilimSs ssTimeout kpv kiv slewStop) s src 0x0705 true [.cnv, .upd] .ok [] fun b => s.block.storesSettings b ∧ b.cnv = { s.block.cnv with
      set := { s.block.cnv.set with vTarget := vTarget, slewV := slewV, ilimSs := ilimSs, ssTimeout := ssTimeout, kpv := kpv, kiv := kiv, slewStop := slewStop } } :=
  serves_cnvSet (rule := ruleCnvSetSoftstart src vTarget slewV ilimSs ssTimeout kpv kiv slewStop)
    (fun c => { c with vTarget := vTarget, slewV := slewV, ilimSs := ilimSs, ssTimeout := ssTimeout, kpv := kpv, kiv := kiv, slewStop := slewStop }) rfl rfl rfl rfl
    (by rw [ruleCnvSetSoftstart, need_eq_none.mpr (decide_eq_true ⟨h1, h2, h3, h4, h5, h6, h7, h8, h9, h10, h11⟩)]; exact targetCheck_eq_none hv hmax) rfl

theorem cnvSetVtarget_serves {target : Int} {slew : Nat} (hst : s.block.cnv.st.softStart = true ∨ s.block.cnv.st = .hiccup) (h1 : 1000 ≤ slew) (h2 : slew ≤ 10000000)
    (hv : target = 0 ∨ (500000 ≤ target ∧ target ≤ 3000000)) (hmax : target ≤ s.block.vlinkMax) :
    Serves (.cnvSetVtarget src target slew) s src 0x0706 true [.cnv] .ok (leBytes 4 (s32Word (s.block.cnv.vRef.map fxRound)).toNat) fun b =>
      b.cnv = { s.block.cnv with vCmd := some (target, slew), vCmdDue := decide (s.block.cnv.st ≠ .hiccup) } := by
  let x := (s.block.taken src 0x0706).onCnv fun c => { c with vCmd := some (target, slew), vCmdDue := decide (c.st ≠ .hiccup) }
  refine serves_same_st (x := x) (ts := cnvTiles) (rule := ruleCnvSetVtarget src target slew) rfl rfl rfl ?_ ?_ ?_ (by simp [x]) (by simp [x]) (by simp [x]) fun b hb => ?_
  · rcases hst with h | h <;> simp [ruleCnvSetVtarget, h]
  · rw [ruleCnvSetVtarget, need_eq_none.mpr (decide_eq_true ⟨h1, h2⟩)]
    exact targetCheck_eq_none hv hmax
  · simp only [ruleCnvSetVtarget, taken_cnv]
    rfl
  · rw [cnv_of_unserved hb]
    simp [x]

theorem cnvSetTuning_serves {en fc : Nat} (h1 : en ≤ 1) (h2 : 50000 ≤ fc) (h3 : fc ≤ 5000000) : Serves (.cnvSetTuning src en fc) s src 0x0707 true [.cnv, .upd] .ok [] fun b =>
    s.block.storesSettings b ∧ b.cnv = { s.block.cnv with set := { s.block.cnv.set with tuneEn := en == 1, fcSet := fc } } :=
  serves_cnvSet (rule := ruleCnvSetTuning src en fc) (fun c => { c with tuneEn := en == 1, fcSet := fc }) rfl rfl rfl rfl (need_eq_none.mpr (decide_eq_true ⟨h1, h2, h3⟩)) rfl

/-! #### CNV_SET_PHASES (R214) -/

/-- A phase follows its bit of PHMASK. -/
def maskPhase (mask : Nat) (b : Block) (k : Nat) : Block :=
  if mask.testBit k then (if (b.phase k).st = .unconfigured then setPhase k .search (onPhase k (fun p => { p with unexp := false }) b) else b)
  else if (b.phase k).st = .unconfigured then b else setPhase k .unconfigured b

theorem applyMask_eq (mask : Nat) (b : Block) : applyMask mask b = (List.range 8).foldl (maskPhase mask) b := rfl

/-- One phase is changed at most, and by its bit: configured it leaves UNCONFIGURED for SEARCH, else it goes there. -/
theorem maskPhase_cnv (mask : Nat) (b : Block) (k : Nat) : ∃ f : Phase → Phase, (maskPhase mask b k).cnv = b.cnv.onPhase k f
    ∧ (f (b.phase k)).st = if mask.testBit k then (if (b.phase k).st = .unconfigured then .search else (b.phase k).st) else .unconfigured := by
  have hid : b.cnv = b.cnv.onPhase k id := by rw [CnvPart.onPhase, modAt, List.modify_id]
  unfold maskPhase
  split
  · split
    · exact ⟨_, by rw [setPhase_cnv, onPhase_cnv, CnvPart.onPhase_onPhase], rfl⟩
    · exact ⟨id, hid, rfl⟩
  · split
    · next hu => exact ⟨id, hid, hu⟩
    · exact ⟨_, setPhase_cnv .., rfl⟩

theorem touches_maskPhase {l : List PartName} (hl : .cnv ∈ l) (o b : Block) (mask k : Nat) : o.touches (maskPhase mask b k) l ↔ o.touches b l := by
  unfold maskPhase
  repeat' split
  all_goals simp [hl]

theorem applyMask_unphased (mask : Nat) (b : Block) : (applyMask mask b).cnv.unphased = b.cnv.unphased :=
  foldl_unphased (h := maskPhase mask) (fun b k => (maskPhase_cnv mask b k).imp fun _ h => h.1) ..

theorem applyMask_st (mask : Nat) (hlen : b.cnv.phases.length = 8) (hk : k < 8) : ((applyMask mask b).phase k).st =
    if mask.testBit k then (if (b.phase k).st = .unconfigured then .search else (b.phase k).st) else .unconfigured := by
  have h := foldl_onPhase (h := maskPhase mask) (R := fun k p q => q.st = if mask.testBit k then (if p.st = .unconfigured then .search else p.st) else .unconfigured)
    (fun b k => (maskPhase_cnv mask b k).imp fun _ h => h.1) (I := fun _ => True) (fun _ _ _ => trivial)
    (fun b _ k hk => by
      obtain ⟨f, hf, hst⟩ := maskPhase_cnv mask b k
      rw [phase_onPhase_self hf hk, hst]) List.nodup_range (fun k hk => by rw [hlen]; exact List.mem_range.mp hk) (b := b) trivial k
  rwa [if_pos (List.mem_range.mpr hk)] at h

theorem cnvSetPhases_serves {mask nMin : Nat} (hm : s.block.sys.mstate ≠ .run) (h1 : mask ≤ 255) (h2 : 1 ≤ nMin) (h3 : nMin ≤ 8) (h4 : nMin ≤ bits8 mask)
    (hlen : s.block.cnv.phases.length = 8) : Serves (.cnvSetPhases src mask nMin) s src 0x0702 true [.cnv, .upd] .ok [] fun b =>
      b.cnv.set = { s.block.cnv.set with phMask := mask, nMin := nMin } ∧ s.block.storesSettings b ∧ ∀ k < 8, (b.phase k).st =
        if mask.testBit k then (if (s.block.phase k).st = .unconfigured then .search else (s.block.phase k).st) else .unconfigured := by
  let y := (s.block.taken src 0x0702).onCnv fun c => { c with set := { c.set with phMask := mask, nMin := nMin } }
  have hy : y.cnv = { s.block.cnv with set := { s.block.cnv.set with phMask := mask, nMin := nMin } } := by simp [y]
  have hphase (k : Nat) : y.phase k = s.block.phase k := phase_of_phases (by rw [hy]) k
  have hst := congrArg CnvPart.st (applyMask_unphased mask y)
  have hset := congrArg CnvPart.set (applyMask_unphased mask y)
  refine serves_cnvSetting (l := [.cnv]) (x := applyMask mask y) (rule := ruleCnvSetPhases src mask nMin) rfl rfl rfl (decide_eq_true hm)
    (need_eq_none.mpr (decide_eq_true ⟨h1, h2, h3, h4⟩)) rfl ?_ (Eq.trans hst (by rw [hy]; rfl)) fun b _ hcnv hstore => ⟨?_, hstore, fun k hk => ?_⟩
  · rw [applyMask_eq]
    exact (touches_foldl (fun o b k => touches_maskPhase (by decide) o b mask k) _ _ _).mpr (by simp [y])
  · rw [hcnv]
    exact Eq.trans hset (by rw [hy]; rfl)
  · rw [phase_of_cnv hcnv, applyMask_st mask (by rw [hy]; exact hlen) hk, hphase]

/-! #### CNV_SET_LIMITS (R224, R239) -/

/-- CONFIG sent to one phase with the present I_FAST. -/
def configPhase (b : Block) (k : Nat) : Block :=
  let b1 := sendConfig k b
  if b.sys.mstate = .run ∧ (b.phase k).st ≠ .ident then onPhase k (fun p => { p with cfgAt := some b.sys.now }) b1 else b1

/-- The phases that have answered and may be sent CONFIG. -/
def Block.configured (b : Block) : List Nat := (List.range 8).filter fun k => (b.phase k).gdu.isSome && (b.phase k).st.searching

theorem resendConfig_eq (b : Block) : resendConfig b = b.configured.foldl configPhase b := rfl

/-- The phase has the threshold sent and its acknowledgement open, which in RUN is due from now on. -/
theorem configPhase_cnv (b : Block) (k : Nat) : ∃ f : Phase → Phase, (configPhase b k).cnv = b.cnv.onPhase k f ∧ (f (b.phase k)).thrSent = b.cnv.set.iFast / 100 % 65536
    ∧ (f (b.phase k)).ack = none ∧ (b.sys.mstate = .run → (b.phase k).st ≠ .ident → (f (b.phase k)).cfgAt = some b.sys.now) := by
  unfold configPhase
  dsimp only
  split
  · exact ⟨_, by rw [onPhase_cnv, sendConfig, onPhase_cnv, CnvPart.onPhase_onPhase], rfl, rfl, fun _ _ => rfl⟩
  · next h => exact ⟨_, rfl, rfl, rfl, fun hm hi => absurd ⟨hm, hi⟩ h⟩

theorem touches_configPhase {l : List PartName} (hl : .cnv ∈ l) (o b : Block) (k : Nat) : o.touches (configPhase b k) l ↔ o.touches b l := by
  unfold configPhase sendConfig
  dsimp only
  split <;> simp [hl]

theorem resendConfig_unphased (b : Block) : (resendConfig b).cnv.unphased = b.cnv.unphased :=
  foldl_unphased (h := configPhase) (fun b k => (configPhase_cnv b k).imp fun _ h => h.1) ..

theorem resendConfig_phase (hlen : b.cnv.phases.length = 8) : if k ∈ b.configured then
    ((resendConfig b).phase k).thrSent = b.cnv.set.iFast / 100 % 65536 ∧ ((resendConfig b).phase k).ack = none
      ∧ (b.sys.mstate = .run → (b.phase k).st ≠ .ident → ((resendConfig b).phase k).cfgAt = some b.sys.now)
    else (resendConfig b).phase k = b.phase k :=
  foldl_onPhase (h := configPhase) (I := fun x => x.cnv.set = b.cnv.set ∧ x.sys = b.sys)
    (R := fun _ p q => q.thrSent = b.cnv.set.iFast / 100 % 65536 ∧ q.ack = none ∧ (b.sys.mstate = .run → p.st ≠ .ident → q.cfgAt = some b.sys.now))
    (fun b k => (configPhase_cnv b k).imp fun _ h => h.1)
    (fun x k hx => by
      obtain ⟨f, hf, -⟩ := configPhase_cnv x k
      have hs : (configPhase x k).sys = x.sys := (touches_configPhase (l := [.cnv]) (by decide) x x k).mpr (touches_refl _ _) .sys (by decide) (by decide)
      exact ⟨by rw [hf, CnvPart.onPhase_set, hx.1], hs.trans hx.2⟩)
    (fun x hx k hk => by
      obtain ⟨f, hf, hthr, hack, hcfg⟩ := configPhase_cnv x k
      rw [phase_onPhase_self hf hk, ← hx.1, ← hx.2]
      exact ⟨hthr, hack, hcfg⟩)
    (List.nodup_range.filter _) (fun k hk => hlen ▸ List.mem_range.mp (List.mem_of_mem_filter hk)) ⟨rfl, rfl⟩ k

section
variable {chg dis cont fast i2t : Nat} (h1 : chg ≤ 1250000) (h2 : dis ≤ 1250000) (h3 : 10000 ≤ cont) (h4 : cont ≤ 1250000) (h5 : 20000 ≤ fast) (h6 : fast ≤ 1000000)
  (h7 : 10000 ≤ i2t) (h8 : i2t ≤ 100000000)
include h1 h2 h3 h4 h5 h6 h7 h8

theorem limits_accepted (hc : chg ≤ s.block.iFloor) (hd : dis ≤ s.block.iFloor) (hf : fast ≤ s.block.iFastMax) : (ruleCnvSetLimits src chg dis cont fast i2t s.block).param = none :=
  within_eq_none (decide_eq_true ⟨h1, h2, h3, h4, h5, h6, h7, h8⟩) (decide_eq_false (by omega))

theorem cnvSetLimits_serves_changed (hc : chg ≤ s.block.iFloor) (hd : dis ≤ s.block.iFloor) (hf : fast ≤ s.block.iFastMax) (hne : fast ≠ s.block.cnv.set.iFast)
    (hlen : s.block.cnv.phases.length = 8) : Serves (.cnvSetLimits src chg dis cont fast i2t) s src 0x0704 true [.cnv, .upd] .ok [] fun b =>
      b.cnv.set = { s.block.cnv.set with ilimChg := chg, ilimDis := dis, iPhCont := cont, iFast := fast, i2tMax := i2t } ∧ ∀ k < 8,
        if (s.block.phase k).gdu.isSome = true ∧ (s.block.phase k).st.searching = true then (b.phase k).thrSent = fast / 100 % 65536 ∧ (b.phase k).ack = none
          ∧ (s.block.sys.mstate = .run → (s.block.phase k).st ≠ .ident → (b.phase k).cfgAt = some s.block.sys.now) else b.phase k = s.block.phase k := by
  let y := (s.block.taken src 0x0704).onCnv fun c => { c with set := { c.set with ilimChg := chg, ilimDis := dis, iPhCont := cont, iFast := fast, i2tMax := i2t } }
  have hy : y.cnv = { s.block.cnv with set := { s.block.cnv.set with ilimChg := chg, ilimDis := dis, iPhCont := cont, iFast := fast, i2tMax := i2t } } := by simp [y]
  have hys : y.sys = s.block.sys := by simp [y]
  have hphase (k : Nat) : y.phase k = s.block.phase k := phase_of_phases (by rw [hy]) k
  have hst := congrArg CnvPart.st (resendConfig_unphased y)
  have hset := congrArg CnvPart.set (resendConfig_unphased y)
  refine serves_cnvSetting (l := [.cnv]) (x := resendConfig y) (ts := cnvTiles) (rule := ruleCnvSetLimits src chg dis cont fast i2t) rfl rfl rfl rfl
    (limits_accepted h1 h2 h3 h4 h5 h6 h7 h8 hc hd hf) ?_ ?_ (Eq.trans hst (by rw [hy]; rfl)) fun b _ hcnv _ => ⟨?_, fun k hk => ?_⟩
  · have hchanged : ((s.block.taken src 0x0704).cnv.set.iFast != fast) = true := by rw [taken_cnv]; simpa using hne.symm
    simp only [ruleCnvSetLimits, hchanged, if_true]
    rfl
  · rw [resendConfig_eq]
    exact (touches_foldl (fun o b k => touches_configPhase (by decide) o b k) _ _ _).mpr (by simp [y])
  · rw [hcnv]
    exact Eq.trans hset (by rw [hy]; rfl)
  · have h := resendConfig_phase (b := y) (k := k) (by rw [hy]; exact hlen)
    simp only [Block.configured, List.mem_filter, List.mem_range, hk, true_and, Bool.and_eq_true, hphase, hys, hy] at h
    rw [phase_of_cnv hcnv]
    exact h

end

theorem cnvSetLimits_serves_same {chg dis cont i2t : Nat} (h1 : chg ≤ 1250000) (h2 : dis ≤ 1250000) (h3 : 10000 ≤ cont) (h4 : cont ≤ 1250000)
    (h5 : 20000 ≤ s.block.cnv.set.iFast) (h6 : s.block.cnv.set.iFast ≤ 1000000) (h7 : 10000 ≤ i2t) (h8 : i2t ≤ 100000000) (hc : chg ≤ s.block.iFloor) (hd : dis ≤ s.block.iFloor)
    (hf : s.block.cnv.set.iFast ≤ s.block.iFastMax) :
    Serves (.cnvSetLimits src chg dis cont s.block.cnv.set.iFast i2t) s src 0x0704 true [.cnv, .upd] .ok [] fun b => s.block.storesSettings b
      ∧ b.cnv = { s.block.cnv with set := { s.block.cnv.set with ilimChg := chg, ilimDis := dis, iPhCont := cont, i2tMax := i2t } } := by
  refine serves_cnvSet (rule := ruleCnvSetLimits src chg dis cont s.block.cnv.set.iFast i2t)
    (fun c => { c with ilimChg := chg, ilimDis := dis, iPhCont := cont, iFast := s.block.cnv.set.iFast, i2tMax := i2t }) rfl rfl rfl rfl (limits_accepted h1 h2 h3 h4 h5 h6 h7 h8 hc hd hf) ?_
  have hchanged : ((s.block.taken src 0x0704).cnv.set.iFast != s.block.cnv.set.iFast) = false := by rw [taken_cnv]; exact bne_self_eq_false _
  simp only [ruleCnvSetLimits, hchanged]
  rfl

/-- An admitted request with a value beyond a Floor limit is refused with DENIED (R224, R240). -/
theorem host_denied {rule : Block → HostRule} {op : Nat} {owner : Bool} (ha : b.admits src op owner = true) (ho : (rule b).opcode = op)
    (hw : (rule b).owner = owner) (hs : (rule b).stateOk = true) (hp : (rule b).param = some .denied) : host src rule b = refuse src op .denied b := by
  simp only [Block.admits, Bool.and_eq_true, Bool.or_eq_true, Bool.not_eq_true'] at ha
  obtain ⟨⟨⟨⟨⟨⟨hopen, -⟩, hearly⟩, hnew⟩, hroom⟩, hgrant⟩, hown⟩ := ha
  have hc : checkRule src (rule b) b = some .denied := by
    rcases hown with hown | ⟨hown, hfree⟩
    · simp [checkRule, ho, hw, hs, hp, hgrant, hown]
    · have hfree : op ∉ b.runningOpcodes := by simpa using hfree
      simp [checkRule, ho, hs, hp, hgrant, hown, hfree]
  have hj : judgeRequest src (rule b) [] b = refuse src op .denied b := by simp [judgeRequest, hroom, hc, ho]
  unfold host runHost
  simp only [hopen, ho, hearly]
  cases src with
  | session i seq =>
    have hnew : b.entry? i seq = none := by simpa [Block.unseen] using hnew
    simp [hnew, hj]
  | engine p k => simp [hj]

theorem cnvSetLimits_denied {chg dis cont fast i2t : Nat} (h1 : chg ≤ 1250000) (h2 : dis ≤ 1250000) (h3 : 10000 ≤ cont) (h4 : cont ≤ 1250000) (h5 : 20000 ≤ fast)
    (h6 : fast ≤ 1000000) (h7 : 10000 ≤ i2t) (h8 : i2t ≤ 100000000) (hbad : s.block.iFloor < chg ∨ s.block.iFloor < dis ∨ s.block.iFastMax < fast)
    (hs : s.block.settled = true) (ha : s.block.admits src 0x0704 true = true) :
    Ends (.cnvSetLimits src chg dis cont fast i2t) s fun b => s.block.refused b src .denied ∧ b.cnv = s.block.cnv := by
  have hparam : (ruleCnvSetLimits src chg dis cont fast i2t s.block).param = some .denied := by
    rw [ruleCnvSetLimits, need_eq_none.mpr (decide_eq_true ⟨h1, h2, h3, h4, h5, h6, h7, h8⟩)]
    exact if_pos (decide_eq_true hbad)
  have hact : host src (ruleCnvSetLimits src chg dis cont fast i2t) s.block = refuse src 0x0704 .denied s.block := host_denied ha rfl rfl rfl hparam
  refine ends_event (f := host src (ruleCnvSetLimits src chg dis cont fast i2t)) rfl (by rw [hact, refuse_settled, hs]) ?_
  rw [hact, irqWatch_cnv, refuse_cnv]
  exact ⟨refuse_refused .., rfl⟩

/-! #### CNV_SET_COEFFS (R222, R224) -/

/-- A phase that takes the host's coefficients. -/
def Phase.coeffed (coef : List Int) (p : Phase) : Phase := { p with comp := { p.comp with coef := coef, src := 2, staged := none } }

/-- The phases of a mask take the coefficients. -/
def Block.coeffed (mask : Nat) (coef : List Int) (b : Block) : Block := (membersOf 8 mask).foldl (fun b k => onPhase k (Phase.coeffed coef) b) b

theorem coeffed_phase {mask : Nat} (coef : List Int) (hlen : b.cnv.phases.length = 8) (hk : k < 8) :
    (b.coeffed mask coef).phase k = if mask.testBit k then (b.phase k).coeffed coef else b.phase k := by
  have h := foldl_onPhase (h := fun b k => onPhase k (Phase.coeffed coef) b) (R := fun _ p q => q = p.coeffed coef) (fun b k => ⟨_, onPhase_cnv ..⟩) (I := fun _ => True)
    (fun _ _ _ => trivial) (fun b _ k hk => phase_onPhase_self (onPhase_cnv ..) hk) (List.nodup_range.filter fun k => mask.testBit k)
    (fun k hk => hlen ▸ List.mem_range.mp (List.mem_of_mem_filter hk)) trivial (b := b) k
  simp only [List.mem_filter, List.mem_range, hk, true_and] at h
  split
  · next hbit => rwa [if_pos hbit] at h
  · next hbit => rwa [if_neg hbit] at h

theorem cnvSetCoeffs_serves {mask : Nat} {coef : List Int} (hm : s.block.sys.mstate ≠ .run) (h1 : mask ≤ 255) (h2 : coef.length = 7)
    (h3 : ∀ i < 7, -2147483648 ≤ coef.getD i 0 ∧ coef.getD i 0 ≤ 2147483647 ∧ floorCoefLo s.block.floor i ≤ coef.getD i 0 ∧ coef.getD i 0 ≤ floorCoefHi s.block.floor i)
    (hlen : s.block.cnv.phases.length = 8) : Serves (.cnvSetCoeffs src mask coef) s src 0x0708 true [.cnv, .upd] .ok (leBytes 1 mask) fun b =>
      s.block.storesSettings b ∧ ∀ k < 8, b.phase k =
        if mask.testBit k then { s.block.phase k with comp := { (s.block.phase k).comp with coef := coef, src := 2, staged := none } } else s.block.phase k := by
  let y := s.block.taken src 0x0708
  have hrange : (coef.all fun v => decide (-2147483648 ≤ v ∧ v ≤ 2147483647)) = true := by
    refine List.all_eq_true.mpr fun v hv => decide_eq_true ?_
    obtain ⟨i, hi, rfl⟩ := List.getElem_of_mem hv
    obtain ⟨hlo, hhi, -⟩ := h3 i (h2 ▸ hi)
    rw [List.getD_eq_getElem _ _ hi] at hlo hhi
    exact ⟨hlo, hhi⟩
  have hfloor : ((List.range 7).all fun i => decide (floorCoefLo s.block.floor i ≤ coef.getD i 0) && decide (coef.getD i 0 ≤ floorCoefHi s.block.floor i)) = true := by
    simp only [List.all_eq_true, List.mem_range, Bool.and_eq_true, decide_eq_true_eq]
    exact fun i hi => (h3 i hi).2.2
  have hun : (y.coeffed mask coef).cnv.unphased = y.cnv.unphased := foldl_unphased (fun b k => ⟨_, onPhase_cnv ..⟩) ..
  have hst := congrArg CnvPart.st hun
  have hphase (k : Nat) : y.phase k = s.block.phase k := phase_of_cnv (taken_cnv ..) k
  refine serves_cnvSetting (l := [.cnv]) (x := y.coeffed mask coef) (rule := ruleCnvSetCoeffs src mask coef) rfl rfl rfl (decide_eq_true hm)
    (within_eq_none ?_ ?_) rfl ((touches_foldl (fun o b k => touches_onPhase (by decide) o b k _) _ _ _).mpr (touches_refl _ _)) (Eq.trans hst (by simp [y, CnvPart.unphased]))
    fun b _ hcnv hset => ⟨hset, fun k hk => ?_⟩
  · rw [hrange, decide_eq_true ⟨h1, h2⟩]
    rfl
  · rw [hfloor]
    rfl
  · rw [phase_of_cnv hcnv, coeffed_phase coef (by rw [taken_cnv]; exact hlen) hk, hphase]
    rfl

/-! #### CNV_PHASE_CTRL (R214) and CNV_GET_CONFIG -/

/-- A phase that the host moves to a state. -/
theorem cnvPhaseCtrl_serves {phase action : Nat} {st : PhState} {r : Nat} {x : Block} {f : Phase → Phase} (hp : phase ≤ 7) (ha : action ≤ 1)
    (hs : (ruleCnvPhaseCtrl src phase action s.block).stateOk = true) (hk : phase < s.block.cnv.phases.length) (hcnv : x.cnv = s.block.cnv.onPhase phase f)
    (ht : (s.block.taken src 0x0709).touches x [.cnv])
    (hact : (if action = 0 then phaseOut phase 5 (s.block.taken src 0x0709) else setPhase phase .search (onPhase phase (fun p => { p with outr := 0 }) (s.block.taken src 0x0709))) = x)
    (hf : ∀ p, (f p).st = st ∧ (f p).outr = r) : Serves (.cnvPhaseCtrl src phase action) s src 0x0709 true [.cnv] .ok (leBytes 1 st.code) fun b =>
      (b.phase phase).st = st ∧ (b.phase phase).outr = r ∧ s.block.onlyPhase b phase := by
  have hx : x.phase phase = f (s.block.phase phase) := phase_onPhase_self hcnv hk
  refine serves_same_st (x := x) (ts := cnvTiles) (rule := ruleCnvPhaseCtrl src phase action) rfl rfl rfl hs (need_eq_none.mpr (decide_eq_true ⟨hp, ha⟩)) ?_ ht
    (congrArg SysPart.mstate ((ht .sys (by decide) (by decide)).trans (taken_sys ..))) (by rw [hcnv, CnvPart.onPhase_st]) fun b hb => ?_
  · simp only [ruleCnvPhaseCtrl]
    rw [hact, hx, (hf _).1]
  · have hb : b.cnv = s.block.cnv.onPhase phase f := (cnv_of_unserved hb).trans hcnv
    rw [phase_onPhase_self hb hk]
    exact ⟨(hf _).1, (hf _).2, onlyPhase_of_onPhase hb⟩

theorem cnvPhaseCtrl_takes_out {phase : Nat} (hp : phase ≤ 7) (hst : (s.block.phase phase).st ≠ .unconfigured) (hspare : s.block.phaseToSpare = true)
    (hk : phase < s.block.cnv.phases.length) : Serves (.cnvPhaseCtrl src phase 0) s src 0x0709 true [.cnv] .ok (leBytes 1 PhState.out.code) fun b =>
      (b.phase phase).st = .out ∧ (b.phase phase).outr = 5 ∧ s.block.onlyPhase b phase := by
  let y := s.block.taken src 0x0709
  have hid : y.cnv = s.block.cnv.onPhase phase id := by rw [taken_cnv, CnvPart.onPhase, modAt, List.modify_id]
  have hout := phaseOut_spared (reason := 5) hspare hid (by rw [taken_sys])
  exact cnvPhaseCtrl_serves (x := phaseOut phase 5 y) (f := fun p => Phase.entered .out y.sys.now { p with outr := 5 }) hp (by decide) (by simp [ruleCnvPhaseCtrl, hst]) hk
    (by rw [hout, note_cnv, setPhase_cnv, onPhase_cnv, hid, CnvPart.onPhase_onPhase, CnvPart.onPhase_onPhase]; rfl) (by rw [hout]; simp [y]) rfl fun p => ⟨rfl, rfl⟩

theorem cnvPhaseCtrl_takes_in {phase : Nat} (hp : phase ≤ 7) (hst : (s.block.phase phase).st = .out) (hk : phase < s.block.cnv.phases.length) :
    Serves (.cnvPhaseCtrl src phase 1) s src 0x0709 true [.cnv] .ok (leBytes 1 PhState.search.code) fun b =>
      (b.phase phase).st = .search ∧ (b.phase phase).outr = 0 ∧ s.block.onlyPhase b phase := by
  let y := s.block.taken src 0x0709
  exact cnvPhaseCtrl_serves (x := setPhase phase .search (onPhase phase (fun p => { p with outr := 0 }) y)) (f := fun p => Phase.entered .search y.sys.now { p with outr := 0 })
    hp (by decide) (by simp [ruleCnvPhaseCtrl, hst]) hk (by rw [setPhase_cnv, onPhase_cnv, taken_cnv, CnvPart.onPhase_onPhase]; rfl) (by simp [y]) rfl fun p => ⟨rfl, rfl⟩

theorem cnvGetConfig_serves : Serves (.cnvGetConfig src) s src 0x070A false [] (s.block.tilesStatus [0x301, 0x302])
    (wordsBytes ((s.block.frontTile 0x301).take 10 ++ (s.block.frontTile 0x302).take 12)) fun _ => True :=
  serves_completing (rule := ruleCnvGetConfig src) (x := s.block.taken src 0x070A) (ts := []) rfl rfl rfl rfl rfl
    (by simp only [ruleCnvGetConfig, taken_tilesStatus, taken_frontTile]; rfl) (by simp) (by simp) fun _ _ => trivial

end

/-- Settles O26: each command's clause by its own lemma above. -/
theorem converterCommandsSetWhatTheyName : Obligations.ConverterCommandsSetWhatTheyName := by
  unfold Obligations.ConverterCommandsSetWhatTheyName
  exact ⟨fun _ _ _ _ _ _ _ => cnvSetCarrier_serves, fun _ _ _ _ => cnvSetPhases_serves, fun _ _ _ _ _ _ _ => cnvSetModulation_serves,
    fun _ _ _ _ _ _ => cnvSetLimits_serves_same, fun _ _ _ _ _ _ _ => cnvSetLimits_serves_changed, fun _ _ _ _ _ _ _ => cnvSetLimits_denied,
    fun _ _ _ _ _ _ _ _ _ => cnvSetSoftstart_serves, fun _ _ _ _ => cnvSetVtarget_serves, fun _ _ _ _ => cnvSetTuning_serves, fun _ _ _ _ => cnvSetCoeffs_serves,
    fun _ _ _ => cnvPhaseCtrl_takes_out, fun _ _ _ => cnvPhaseCtrl_takes_in, fun _ _ => cnvGetConfig_serves⟩

end Sys2Proof.Machine
